-- ==== Sys2Proof/Word.lean ====
section
/-!
DEFINITION. The word and byte types of the HX-128: registers, Tide words and memory words are 32 bits (05 R128, 06 R159),
memory is addressed in bytes (23 Table 23.1).
-/

namespace Sys2Proof

/-- A 32-bit word. -/
abbrev Word := BitVec 32

/-- A byte of memory. -/
abbrev Byte := BitVec 8

/-- A 64-bit value of a register pair or a Tide accumulator. -/
abbrev DWord := BitVec 64

end Sys2Proof
end

