-- ==== Sys2Proof/Machine/Bits.lean ====
section
/-!
DEFINITION. Bit fields of words, two's-complement readings, rounding and saturation, byte order: the arithmetic every
other file shares.
-/

namespace Sys2Proof.Machine

open Sys2Proof

/-- The bit range [hi:lo] of a word. -/
structure Bits where
  hi : Nat
  lo : Nat
  deriving DecidableEq, Repr

/-- Number of bits in a range. -/
def bitsLen (b : Bits) : Nat := b.hi + 1 - b.lo

/-- Value of a bit range of a word. -/
def getF (b : Bits) (w : Word) : Nat := w.toNat / 2 ^ b.lo % 2 ^ bitsLen b

/-- The word with a bit range replaced by `v` (taken modulo the range's size). -/
def setF (b : Bits) (v : Nat) (w : Word) : Word :=
  BitVec.ofNat 32 (w.toNat - getF b w * 2 ^ b.lo + v % 2 ^ bitsLen b * 2 ^ b.lo)

/-- Whether bit `n` of a word is 1. -/
def bitOf (w : Word) (n : Nat) : Bool := w.toNat.testBit n

/-- A word from a natural number, modulo 2^32. -/
def wd (n : Nat) : Word := BitVec.ofNat 32 n

/-- A word from an integer, modulo 2^32 (two's complement). -/
def wdi (n : Int) : Word := BitVec.ofInt 32 n

/-- Two's-complement reading of the low `n` bits of `v`. -/
def sgn (n : Nat) (v : Nat) : Int :=
  let u := v % 2 ^ n
  if u < 2 ^ (n - 1) then (u : Int) else (u : Int) - (2 : Int) ^ n

/-- The low `n` bits of an integer, as an unsigned number. -/
def uns (n : Nat) (v : Int) : Nat := (v % (2 : Int) ^ n).toNat

/-- An integer clamped to `[lo, hi]`. -/
def clampI (lo hi v : Int) : Int := max lo (min hi v)

/-- A natural number that stops at `top` (a saturating counter). -/
def satN (top v : Nat) : Nat := min top v

/-- `n / d` rounded to the nearest integer, halves away from zero (`d > 0`). -/
def rdivAway (n d : Int) : Int :=
  if 0 ≤ n then (2 * n + d) / (2 * d) else -((2 * (-n) + d) / (2 * d))

/-- `n / d` rounded to the nearest integer, halves upward (`d > 0`). -/
def rdivUp (n d : Int) : Int := (2 * n + d) / (2 * d)

/-- `n / d` rounded toward minus infinity (`d > 0`). -/
def floorDiv (n d : Int) : Int := n / d

/-- `n / d` truncated toward zero (`d > 0`). -/
def truncDiv (n d : Int) : Int := Int.tdiv n d

/-- A truth value as a bit. -/
def b2n (b : Bool) : Nat := if b then 1 else 0

/-- Number of set bits among the low `n` bits. -/
def popcount (n v : Nat) : Nat := ((List.range n).filter fun i => v.testBit i).length

/-- `v` with bit `i` set to `b`. -/
def setBitN (v i : Nat) (b : Bool) : Nat :=
  if v.testBit i == b then v else if b then v + 2 ^ i else v - 2 ^ i

/-- Bitmap whose bit `i` (i < n) is `f i`. -/
def mapBits (n : Nat) (f : Nat → Bool) : Nat :=
  (List.range n).foldl (fun acc i => if f i then acc + 2 ^ i else acc) 0

/-- The low or high 32 bits of a 64-bit number. -/
def lo32 (v : Nat) : Word := wd v
/-- Bits [63:32] of a 64-bit number. -/
def hi32 (v : Nat) : Word := wd (v / 2 ^ 32)

/-- The number whose 64 bits are `hi:lo`. -/
def join64 (lo hi : Word) : Nat := hi.toNat * 2 ^ 32 + lo.toNat

/-- A value lies in a range. -/
def inR (lo hi v : Nat) : Bool := decide (lo ≤ v) && decide (v ≤ hi)

/-- Little-endian value of a list of bytes. -/
def leVal : List Byte → Nat
  | [] => 0
  | b :: bs => b.toNat + 256 * leVal bs

/-- `n` little-endian bytes of a number. -/
def leBytes : Nat → Nat → List Byte
  | 0, _ => []
  | n + 1, v => BitVec.ofNat 8 v :: leBytes n (v / 256)

end Sys2Proof.Machine
end

