-- ==== Sys2Proof/Payload.lean ====
section
/-!
DEFINITION. The operand types of the commands: what the outside supplies with an event (a frame's contents, measured
values, times), the names the spec gives to modes, roles and codes, and the contents of a parameter set, an image and a
record. `Syntax.lean` holds the commands themselves.
-/

namespace Sys2Proof

/-! ### Names -/

/-- The eight operating modes (03 Table 3.1, R58). -/
inductive Mode where
  | dormant | watch | standby | service | inspection | rescue | commissioning | lockout
  deriving DecidableEq, Repr

/-- The mode's code (03 Table 3.1). -/
def Mode.code : Mode → Nat
  | .dormant => 0
  | .watch => 1
  | .standby => 2
  | .service => 3
  | .inspection => 4
  | .rescue => 5
  | .commissioning => 6
  | .lockout => 7

/-- The role an application image selects (00 R4): section device or car device. -/
inductive Role where
  | sect | car
  deriving DecidableEq, Repr

/-- Life-cycle states (04, CFG_STAT.LC). -/
inductive LifeCycle where
  | blank | provisioned | commissioned | retired
  deriving DecidableEq, Repr

/-- Code of a life-cycle state (04, CFG_STAT.LC). -/
def LifeCycle.code : LifeCycle → Nat
  | .blank => 0
  | .provisioned => 1
  | .commissioned => 2
  | .retired => 3

/-- Branch conditions of B (06 Table 6.8, R189). -/
inductive Cond where
  | al | eq | ne | lt | ge | gt | le | mi | pl | vs | vc | cs | cc | hi | ls
  deriving DecidableEq, Repr

/-- A sender of commands: application core 0 to 3, or Benrex Studio as 4 (05 R135, R140). -/
abbrev Sender := Fin 5

/-! ### Times -/

/-- A PTP time: seconds and nanoseconds (19 R576). -/
structure PtpTime where
  sec : Nat
  ns : Nat
  deriving DecidableEq, Repr

/-! ### Fabric frames (18 Tables 18.1 to 18.3) -/

/-- What the header of a received fabric frame carries, the spine port it arrived on, and its source MAC address (18 Table 18.1,
R549). -/
structure Hdr where
  port : Fin 4
  src : Nat
  dst : Nat
  epoch : Nat
  hops : Nat
  bcast : Bool
  seq : Nat
  mac : Nat
  deriving DecidableEq, Repr

/-- One share entry of SHARE and CLAIM (18 Table 18.3). -/
structure ShareEntry where
  seg : Nat
  share : Int
  deriving DecidableEq, Repr

/-- SHARE (18 Table 18.3): shares stamped with a boundary number. -/
structure SharePl where
  car : Nat
  stamp : Nat
  entries : List ShareEntry
  deriving DecidableEq, Repr

/-- The 72-byte move record (08 Table 8.5, R264). -/
structure MoveRec where
  start : Int
  first : Nat
  count : Nat
  id : Nat
  dir : Bool
  kind : Nat
  state : Nat
  tau : Nat
  ov : Nat
  ovTgt : Nat
  ovPrev : Nat
  vPeak : Nat
  check : Word
  aCap : Nat
  jCap : Nat
  rampP : Int
  rampV : Int
  rampA : Int
  deriving DecidableEq, Repr

/-- OFFER (18 Table 18.3, 07 R227): car data, context words 0 to 63 and the move record; a car with no move offers none. -/
structure OfferPl where
  car : Nat
  mass : Nat
  arrOfs : Int
  arrLen : Nat
  ctx : List Word
  move : MoveRec
  deriving DecidableEq, Repr

/-- HO_OUT (18 Table 18.3, 07 R228): the sender's car output of a period. -/
structure HoOutPl where
  car : Nat
  period : Nat
  u : Int
  deriving DecidableEq, Repr

/-- CLAIM (18 Table 18.3, 07 R229). -/
structure ClaimPl where
  car : Nat
  period : Nat
  entries : List ShareEntry
  deriving DecidableEq, Repr

/-- HO_FAIL (18 Table 18.3, 07 R232). -/
structure HoFailPl where
  car : Nat
  period : Nat
  deriving DecidableEq, Repr

/-- SEGSTAT (18 Table 18.3, 02 R647): excluded segments of the sender with their reasons. -/
structure SegstatPl where
  car : Nat
  period : Nat
  segs : List (Nat × Nat)
  deriving DecidableEq, Repr

/-- WAKE (18 Table 18.3, 03 R84). -/
structure WakePl where
  car : Nat
  arrS : Nat
  arrNs : Nat
  deriving DecidableEq, Repr

/-- ANNOUNCE (18 Table 18.3). -/
structure AnnouncePl where
  serial : Nat
  role : Nat
  mode : Nat
  flags : Nat
  tsNs : Nat
  extLo : Int
  extHi : Int
  deriving DecidableEq, Repr

/-- HEARTBEAT (18 Table 18.3). -/
structure HeartbeatPl where
  mode : Nat
  flags : Nat
  deriving DecidableEq, Repr

/-- TAKEOVER (18 Table 18.3). -/
structure TakeoverPl where
  id : Nat
  epoch : Nat
  own : Nat
  serial : Nat
  deriving DecidableEq, Repr

/-- FENCED (18 Table 18.3). -/
structure FencedPl where
  serial : Nat
  newer : Nat
  deriving DecidableEq, Repr

/-- STALE (18 Table 18.3). -/
structure StalePl where
  id : Nat
  epoch : Nat
  deriving DecidableEq, Repr

/-- RESCUE (18 Table 18.3): 1 = rescue input, 2 = firmware request. -/
structure RescuePl where
  reason : Nat
  deriving DecidableEq, Repr

/-- One TST row (08 Table 8.1, R241): DT, POS, VEL and FLAGS. -/
structure TstRow where
  dt : Nat
  pos : Int
  vel : Int
  flags : Nat
  deriving DecidableEq, Repr

/-! ### Stop scheduling (12 Table 12.4) -/

/-- A stop-queue entry (12 R375): the landing by member and index, its TARGET, sides (bit 0 FRONT, 1 REAR) and flags (bit 0 DN,
1 UP, 2 CAR). -/
structure StopEntry where
  member : Nat
  landing : Nat
  target : Int
  sides : Nat
  flags : Nat
  deriving DecidableEq, Repr

/-- RES_REQ (12 Table 12.4). -/
structure ResReqPl where
  id : Nat
  car : Nat
  lo : Int
  hi : Int
  start : Int
  target : Int
  dir : Bool
  mass : Nat
  arrOfs : Int
  arrLen : Nat
  member : Nat
  landing : Nat
  sides : Nat
  t0 : Nat
  rows : List TstRow
  deriving DecidableEq, Repr

/-- RES_ANS: outcome 1 = GRANT, 2 = DEFER, 3 = REFUSE. -/
structure ResAnsPl where
  id : Nat
  outcome : Nat
  reason : Nat
  deriving DecidableEq, Repr

/-- RES_REL. -/
structure ResRelPl where
  id : Nat
  deriving DecidableEq, Repr

/-- RES_TRIM; `t`: evaluation time in ns. -/
structure ResTrimPl where
  car : Nat
  lo : Int
  hi : Int
  t : Nat
  deriving DecidableEq, Repr

/-- STOPQ; `d`: 0 = NONE, 1 = UP, 2 = DN. -/
structure StopqPl where
  car : Nat
  d : Nat
  queue : List StopEntry
  deriving DecidableEq, Repr

/-! ### The Segment Link (13 Tables 13.1 and 13.3) -/

/-- A returned frame as a port receives it: whether its SOF and EOF arrived, header bytes 1 to 9, and its 32-byte return
slots in order. -/
structure RetFrame where
  sof : Bool
  hdr : List Byte
  slots : List (List Byte)
  eof : Bool
  deriving DecidableEq, Repr

/-! ### Field replies (14 R438) -/

/-- A field reply as it comes in: the counts that reach the FIO logic, the safety core's tap and the Eclipse logic's tap (none:
missing, or its CRC-8 fails there), and the readbacks the die sampled: 8 outputs, or the 16 lines of FG4 (bit 2p: STOpA,
bit 2p + 1: STOpB). -/
structure ReplyIn where
  fio : Option Nat
  core : Option Nat
  ecl : Option Nat
  rb : Nat
  deriving DecidableEq, Repr

/-! ### Serial sensors (10 Tables 10.3 to 10.5) -/

/-- What a KSP sensor answers to a transaction: whether its start bit came in time and the round-trip delay its arrival
measures in ns, the status bits, the 40 data bits and the CRC-16, and the sample time in ns since the epoch. -/
structure KspResp where
  start : Bool
  delay : Nat
  err : Bool
  warn : Bool
  data : Nat
  crc : Nat
  t : Nat
  deriving DecidableEq, Repr

/-- What an SSI transfer brings: the bits sampled on its rising clock edges, in their order. -/
structure SsiResp where
  bits : List Bool
  deriving DecidableEq, Repr

/-! ### The landing bus (17 R539; 18 R551) -/

/-- A frame received on a landing bus: the ID of the transmit opportunity it used, its source MAC address, and VER, TYPE and
payload. -/
structure LbFrame where
  id : Nat
  mac : Nat
  ver : Nat
  type : Nat
  payload : List Byte
  deriving DecidableEq, Repr

/-! ### Parameter sets (04 R111 to R116; 01 R14 to R16, R646; 16 Table 16.6) -/

/-- A neighbour section as the section parameters give it (01 R646): fabric ID, segment count and the lengths of its
segments nearest the common boundary, counted away from the boundary. -/
structure Neighbour where
  id : Nat
  nSeg : Nat
  lens : List Nat
  deriving DecidableEq, Repr

/-- One segment of a section (01 R14): length in um and drive channel. -/
structure SegRec where
  len : Nat
  chan : Nat
  deriving DecidableEq, Repr

/-- The section parameters (01 R14 to R16, R646). -/
structure SectionGeom where
  lower : Int
  pitch : Nat
  segs : List SegRec
  below : Option Neighbour
  above : Option Neighbour
  deriving DecidableEq, Repr

/-- A car record loaded from the operational set (04 R116 names car records among its content). -/
structure OpsCar where
  idx : Nat
  id : Nat
  mass : Nat
  arrOfs : Int
  arrLen : Nat
  pos : Int
  owner : Bool
  deriving DecidableEq, Repr

/-- The content of an operational parameter set (04, Parameter sets and banks): T_s, section parameters, car records,
the values of the registers it loads, the Tide and TST images, and the car parameters (01: tape offset and LSB). `regs` holds only registers that differ from reset;
Tide words are keyed `engine * 16384 + word`, TST words `row * 4 + word`. -/
structure OpsContent where
  tsNs : Nat
  geom : SectionGeom
  cars : List OpsCar
  regs : List (Nat × Word)
  code : List (Nat × Word)
  data : List (Nat × Word)
  tst : List (Nat × Word)
  tapeOfs : Int
  tapeLsb : Nat
  deriving DecidableEq, Repr

/-- A safety input pair (16 R488): channels A and B, filter F, T_d in ms, function (Table 16.1) and scope (the section,
or a car door by number, as the function needs). -/
structure SafetyPair where
  a : Nat
  b : Nat
  filt : Nat
  td : Nat
  func : Nat
  scope : Nat
  deriving DecidableEq, Repr

/-- A landing as the safety set copies it (11 Table 11.6 without FLOOR and LEV_TOL). -/
structure SafeLanding where
  en : Bool
  target : Int
  dzDn : Nat
  dzUp : Nat
  front : Bool
  rear : Bool
  ilkF : Word
  ilkR : Word
  deriving DecidableEq, Repr

/-- The content of the safety parameter set (16 Table 16.6, R519). -/
structure SpsContent where
  shaftId : Word
  role : Role
  tsNs : Nat
  neighbours : List Nat
  sections : List Nat
  cars : List Nat
  pairs : List SafetyPair
  key : Nat
  keyCf : Nat
  rstA : Option Nat
  rstB : Option Nat
  insp : Option Nat
  runUp : Option Nat
  runDn : Option Nat
  rescueIn : Option Nat
  safeOuts : List (Nat × Nat)
  tPulse : Nat
  grpTo : List Nat
  linkATo : Nat
  linkBTo : Nat
  landings : List SafeLanding
  vDz : Nat
  tdLb : Nat
  zones : List (Int × Int)
  vUp : List Nat
  vDn : List Nat
  eclUp : List Nat
  eclDn : List Nat
  eclDz : Nat
  eclInsp : Nat
  vCarUp : Nat
  vCarDn : Nat
  tzLen : Nat
  tzStop : Nat
  aTz : Nat
  shaftLo : Int
  shaftHi : Int
  dMin : Nat
  aSafe : Nat
  gMin : Nat
  runMax : Nat
  envDn : Int
  envUp : Int
  segEnds : List Int
  sigPer : Nat
  sens : List Int
  mark : Int
  arrOfs : Int
  arrLen : Nat
  tapeOfs : Int
  tapeLsb : Nat
  brkA : Option Nat
  brkB : Option Nat
  brkFbA : Option Nat
  brkFbB : Option Nat
  tBrk : Nat
  ucmDist : Nat
  deriving DecidableEq, Repr

/-- A bank image read (04 R112): header fields, check word, and the content its payload stands for. -/
structure SpsBank where
  kind : Nat
  len : Nat
  gen : Nat
  format : Nat
  check : Word
  content : SpsContent
  deriving DecidableEq, Repr

/-- A bank of the operational parameter set (04 R112). -/
structure OpsBank where
  kind : Nat
  len : Nat
  gen : Nat
  format : Nat
  check : Word
  content : OpsContent
  deriving DecidableEq, Repr

/-! ### PTP messages (19 R580: IEEE 802.1AS, two-step, peer delay) -/

/-- A PTP event message received on a spine port. A one-step Sync carries its origin time and correction (ns). -/
inductive PtpEvent where
  | sync (seq : Nat) (oneStep : Option (PtpTime × Int))
  | pdelayReq (seq : Nat)
  | pdelayResp (seq : Nat) (reqRx : PtpTime)
  deriving DecidableEq, Repr

/-- The priority vector of an Announce (802.1AS BMCA): priority1, clock quality, priority2, grandmaster identity and steps
removed. -/
structure PtpVector where
  prio1 : Nat
  quality : Nat
  prio2 : Nat
  gmId : Nat
  steps : Nat
  deriving DecidableEq, Repr

/-- A PTP general message received on a spine port. -/
inductive PtpGeneral where
  | followUp (seq : Nat) (origin : PtpTime) (corr : Int)
  | pdelayFollowUp (seq : Nat) (respTx : PtpTime)
  | announce (v : PtpVector)
  deriving DecidableEq, Repr

/-- What a fabric frame carries (18 Table 18.3). `raw`: a frame the device forwards or firmware sends, by TYPE and payload.
`wakePulse` is no fabric frame: a wake pulse on a spine port (17 R532). -/
inductive FrameBody where
  | announce (p : AnnouncePl)
  | heartbeat (p : HeartbeatPl)
  | share (p : SharePl)
  | offer (p : OfferPl)
  | hoOut (p : HoOutPl)
  | claim (p : ClaimPl)
  | hoFail (p : HoFailPl)
  | segstat (p : SegstatPl)
  | wake (p : WakePl)
  | rescue (p : RescuePl)
  | takeover (p : TakeoverPl)
  | fenced (p : FencedPl)
  | stale (p : StalePl)
  | resReq (p : ResReqPl)
  | resAns (p : ResAnsPl)
  | resRel (p : ResRelPl)
  | resTrim (p : ResTrimPl)
  | stopq (p : StopqPl)
  | safety (telegram : List Byte)
  | raw (type : Nat) (payload : List Byte)
  | wakePulse
  deriving DecidableEq, Repr

/-- A fabric frame on its way out of a spine port, with the header fields of 18 Table 18.1; as it leaves, also its destination and
source MAC address, its EtherType, and the bytes that follow them (18 R549). -/
structure TxFrame where
  port : Nat
  src : Nat
  dst : Nat
  epoch : Nat
  hops : Nat
  bcast : Bool
  seq : Nat
  body : FrameBody
  mac : Nat := 0
  smac : Nat := 0
  etype : Nat := 0
  wire : List Byte := []
  deriving DecidableEq, Repr

end Sys2Proof
end

