-- ==== Sys2Proof/Syntax.lean ====
section
/-!
DEFINITION. The commands: one constructor per row of the table of operations and events, with the operands the outside
supplies (who writes, the word written, the contents of a frame, a measured value). `core` is the sender of a bus access;
`e` an Omgil instruction's engine; `cpl` the word written to a guarded register's CPL address, which completes the guarded
write armed before it (05 R153).
-/

namespace Sys2Proof

/-- A command of the HX-128 (the rows of opcode_table.json, in its order, those without operands last). -/
inductive Instr where
  /-- RETURN_FRAME_RECEIVED (R422). -/
  | returnFrameReceived (port : Fin 8) (f : RetFrame)
  /-- RETURN_DEADLINE (R420). -/
  | returnDeadline (port : Fin 8)
  /-- RETRY_ANALYSIS_DONE (R52). -/
  | retryAnalysisDone (ch : Fin 128)
  /-- SPEED_T_ZERO_EXPIRY (R319). -/
  | speedTZeroExpiry (ch : Nat)
  /-- SHARE_MISSED (R49). -/
  | shareMissed (seg : Nat)
  /-- SLOT_RUN_START (R166). -/
  | slotRunStart (e : Fin 8) (k : Fin 24)
  /-- BUDGET_EXHAUSTED (R173). -/
  | budgetExhausted (e : Fin 8)
  /-- ILLEGAL_WORD (R186). -/
  | illegalWord (e : Fin 8)
  /-- ADD (R188). -/
  | opAdd (e : Fin 8) (rd ra rb : Fin 32)
  /-- SUB (R188). -/
  | opSub (e : Fin 8) (rd ra rb : Fin 32)
  /-- AND (R187). -/
  | opAnd (e : Fin 8) (rd ra rb : Fin 32)
  /-- OR (R187). -/
  | opOr (e : Fin 8) (rd ra rb : Fin 32)
  /-- XOR (R187). -/
  | opXor (e : Fin 8) (rd ra rb : Fin 32)
  /-- SLL (R187). -/
  | opSll (e : Fin 8) (rd ra rb : Fin 32)
  /-- SRL (R187). -/
  | opSrl (e : Fin 8) (rd ra rb : Fin 32)
  /-- SRA (R187). -/
  | opSra (e : Fin 8) (rd ra rb : Fin 32)
  /-- MIN (R187). -/
  | opMin (e : Fin 8) (rd ra rb : Fin 32)
  /-- MAX (R187). -/
  | opMax (e : Fin 8) (rd ra rb : Fin 32)
  /-- MINU (R187). -/
  | opMinu (e : Fin 8) (rd ra rb : Fin 32)
  /-- MAXU (R187). -/
  | opMaxu (e : Fin 8) (rd ra rb : Fin 32)
  /-- MUL (R188). -/
  | opMul (e : Fin 8) (rd ra rb : Fin 32)
  /-- MULH (R188). -/
  | opMulh (e : Fin 8) (rd ra rb : Fin 32)
  /-- MULQ31 (R188). -/
  | opMulq31 (e : Fin 8) (rd ra rb : Fin 32)
  /-- MULQ15 (R188). -/
  | opMulq15 (e : Fin 8) (rd ra rb : Fin 32)
  /-- ADDI (R188). -/
  | opAddi (e : Fin 8) (rd ra : Fin 32) (imm : BitVec 16)
  /-- ANDI (R187). -/
  | opAndi (e : Fin 8) (rd ra : Fin 32) (imm : BitVec 16)
  /-- ORI (R187). -/
  | opOri (e : Fin 8) (rd ra : Fin 32) (imm : BitVec 16)
  /-- XORI (R187). -/
  | opXori (e : Fin 8) (rd ra : Fin 32) (imm : BitVec 16)
  /-- LUI (R187). -/
  | opLui (e : Fin 8) (rd : Fin 32) (imm : BitVec 16)
  /-- SLLI (R187). -/
  | opSlli (e : Fin 8) (rd ra : Fin 32) (amount : Fin 32)
  /-- SRLI (R187). -/
  | opSrli (e : Fin 8) (rd ra : Fin 32) (amount : Fin 32)
  /-- SRAI (R187). -/
  | opSrai (e : Fin 8) (rd ra : Fin 32) (amount : Fin 32)
  /-- MAC (R188). -/
  | opMac (e : Fin 8) (acc : Fin 4) (ra rb : Fin 32)
  /-- MSU (R188). -/
  | opMsu (e : Fin 8) (acc : Fin 4) (ra rb : Fin 32)
  /-- MULA (R187). -/
  | opMula (e : Fin 8) (acc : Fin 4) (ra rb : Fin 32)
  /-- ACCSET (R187). -/
  | opAccset (e : Fin 8) (acc : Fin 4) (ra rb : Fin 32)
  /-- ACCADD (R188). -/
  | opAccadd (e : Fin 8) (acc : Fin 4) (ra : Fin 32)
  /-- ACCCLR (R187). -/
  | opAccclr (e : Fin 8) (acc : Fin 4)
  /-- ACCLO (R187). -/
  | opAcclo (e : Fin 8) (rd : Fin 32) (acc : Fin 4)
  /-- ACCHI (R187). -/
  | opAcchi (e : Fin 8) (rd : Fin 32) (acc : Fin 4)
  /-- ACCRD (R188). -/
  | opAccrd (e : Fin 8) (rd : Fin 32) (acc : Fin 4) (sh : Fin 64)
  /-- LD (R181). -/
  | opLd (e : Fin 8) (rd ra : Fin 32) (imm : BitVec 16)
  /-- ST (R169). -/
  | opSt (e : Fin 8) (rs ra : Fin 32) (imm : BitVec 16)
  /-- LDS (R182). -/
  | opLds (e : Fin 8) (rd ra : Fin 32) (imm : BitVec 16)
  /-- STS (R182). -/
  | opSts (e : Fin 8) (rs ra : Fin 32) (imm : BitVec 16)
  /-- IN (R177). -/
  | opIn (e : Fin 8) (rd ra : Fin 32) (port : BitVec 12)
  /-- OUT (R178). -/
  | opOut (e : Fin 8) (rs ra : Fin 32) (port : BitVec 12)
  /-- B (R189). -/
  | opB (e : Fin 8) (cond : Cond) (target : BitVec 14)
  /-- BL (R164). -/
  | opBl (e : Fin 8) (target : BitVec 14)
  /-- BR (R187). -/
  | opBr (e : Fin 8) (ra : Fin 32)
  /-- LOOP (R190). -/
  | opLoop (e : Fin 8) (ra : Fin 32) (last : BitVec 14)
  /-- LOOPI (R190). -/
  | opLoopi (e : Fin 8) (count : BitVec 12) (last : BitVec 14)
  /-- END (R167). -/
  | opEnd (e : Fin 8)
  /-- TIDE_MEMORY_WRITE (R160). -/
  | tideMemoryWrite (core : Sender) (addr : Nat) (val : Word)
  /-- ENGINE_HALT (R196). -/
  | engineHalt (core : Sender) (cpl : Word)
  /-- ENGINE_RELEASE (R196). -/
  | engineRelease (core : Sender) (cpl : Word)
  /-- TAC_FAULT_CLR (R212). -/
  | tacFaultClr (core : Sender) (cpl : Word)
  /-- CONTROL_MODE_HANDOVER (R224). -/
  | controlModeHandover (core : Sender) (cpl : Word)
  /-- PERMIT_OWNER_HANDOVER (R233). -/
  | permitOwnerHandover (core : Sender) (cpl : Word)
  /-- SHARE (R33). -/
  | share (h : Hdr) (p : SharePl)
  /-- OFFER (R227). -/
  | offer (h : Hdr) (p : OfferPl)
  /-- HO_OUT (R228). -/
  | hoOut (h : Hdr) (p : HoOutPl)
  /-- CLAIM (R231). -/
  | claim (h : Hdr) (p : ClaimPl)
  /-- HO_FAIL (R232). -/
  | hoFail (h : Hdr) (p : HoFailPl)
  /-- CLAIM_TIMEOUT (R232). -/
  | claimTimeout (car : Fin 8)
  /-- SEGSTAT (R647). -/
  | segstat (h : Hdr) (p : SegstatPl)
  /-- UPDATE_REQUEST (R149). -/
  | updateRequest (core : Sender) (val : Word)
  /-- REGISTER_WRITE (R148). -/
  | registerWrite (core : Sender) (addr : Nat) (val : Word)
  /-- RC_READ (R132). -/
  | rcRead (core : Sender) (addr : Nat)
  /-- PAIR_LO_READ (R139). -/
  | pairLoRead (core : Sender) (addr : Nat)
  /-- PAIR_LO_WRITE (R141). -/
  | pairLoWrite (core : Sender) (addr : Nat) (val : Word)
  /-- PAIR_HI_WRITE (R141). -/
  | pairHiWrite (core : Sender) (addr : Nat) (val : Word)
  /-- NARROW_ACCESS (R129). -/
  | narrowAccess (core : Sender) (wr : Bool) (addr width : Nat)
  /-- UNMAPPED_ACCESS (R130). -/
  | unmappedAccess (core : Sender) (wr : Bool) (addr : Nat)
  /-- GUARDED_VAL_WRITE (R153). -/
  | guardedValWrite (core : Sender) (addr : Nat) (val : Word)
  /-- MRAM_WINDOW_WRITE (R642). -/
  | mramWindowWrite (core : Sender) (addr width : Nat) (val : DWord)
  /-- SYSTEM_SNAPSHOT (R146). -/
  | systemSnapshot (core : Sender) (val : Word)
  /-- TRJ_SNAP (R146). -/
  | trjSnap (core : Sender) (val : Word)
  /-- CMM_SNAP (R146). -/
  | cmmSnap (core : Sender) (val : Word)
  /-- FBK_SNAP (R146). -/
  | fbkSnap (core : Sender) (val : Word)
  /-- FIO_SNAP (R449). -/
  | fioSnap (core : Sender) (val : Word)
  /-- MODE_REQ_DORMANT (R63). -/
  | modeReqDormant (core : Sender) (cpl : Word)
  /-- MODE_REQ_WATCH (R63). -/
  | modeReqWatch (core : Sender) (cpl : Word)
  /-- MODE_REQ_STANDBY (R63). -/
  | modeReqStandby (core : Sender) (cpl : Word)
  /-- MODE_REQ_SERVICE (R63). -/
  | modeReqService (core : Sender) (cpl : Word)
  /-- MODE_REQ_INSPECTION (R70). -/
  | modeReqInspection (core : Sender) (cpl : Word)
  /-- MODE_REQ_RESCUE (R63). -/
  | modeReqRescue (core : Sender) (cpl : Word)
  /-- MODE_REQ_COMMISSIONING (R63). -/
  | modeReqCommissioning (core : Sender) (cpl : Word)
  /-- MODE_REQ_LOCKOUT (R63). -/
  | modeReqLockout (core : Sender) (cpl : Word)
  /-- SPINE_WAKE_DETECT (R533). -/
  | spineWakeDetect (port : Fin 4)
  /-- LB_ENERGY_DETECT (R533). -/
  | lbEnergyDetect (port : Fin 2)
  /-- FIELD_WAKE_EDGE (R79). -/
  | fieldWakeEdge (group : Fin 4)
  /-- CLOCK_CROSS_MONITOR_FAULT (R91). -/
  | clockCrossMonitorFault (clock : Fin 4)
  /-- WAKE_NOTICE (R84). -/
  | wakeNotice (h : Hdr) (p : WakePl)
  /-- RESCUE (R63). -/
  | rescue (h : Hdr) (reason : Nat)
  /-- SUPPLY_THRESHOLD_CROSS (R88). -/
  | supplyThresholdCross (rail : Fin 10) (low beyond : Bool)
  /-- SUPPLY_MONITOR_RESET (R88). -/
  | supplyMonitorReset (rail : Fin 10)
  /-- NRST_RESET (R95). -/
  | nrstReset (lowNs : Nat)
  /-- SOFTWARE_RESET (R99). -/
  | softwareReset (core : Sender) (cpl : Word)
  /-- RESET_RELEASE (R101). -/
  | resetRelease (boot : Fin 4) (coreFail eclFail : Option (Fin 256)) (xtalOk : Bool)
  /-- LOADER_IMAGE_RECEIVE (R110). -/
  | loaderImageReceive (usb : Bool) (img : List Byte)
  /-- SPS_IMAGE_TRANSFER (R520). -/
  | spsImageTransfer (shadow : Option (Fin 3)) (len gen : Nat) (payload : List Byte)
  /-- SPS_CONFIRM (R521). -/
  | spsConfirm (core : Sender) (cpl : Word)
  /-- SPS_COMMIT (R119). -/
  | spsCommit (agree : Bool)
  /-- CFG_OPS_COMMIT (R122). -/
  | cfgOpsCommit (core : Sender) (cpl : Word)
  /-- OPS_COMMIT_DONE (R122). -/
  | opsCommitDone (agree : Bool)
  /-- CFG_LC_CMD (R124). -/
  | cfgLcCmd (core : Sender) (cpl : Word)
  /-- TRJ_QUEUE (R252). -/
  | trjQueue (core : Sender) (val : Word)
  /-- TRJ_STOP (R258). -/
  | trjStop (core : Sender) (val : Word)
  /-- TRJ_RESUME (R261). -/
  | trjResume (core : Sender) (val : Word)
  /-- TRJ_ABORT (R262). -/
  | trjAbort (core : Sender) (val : Word)
  /-- TRJ_HOME (R271). -/
  | trjHome (core : Sender) (val : Word)
  /-- TRJ_FLUSH (R262). -/
  | trjFlush (core : Sender) (val : Word)
  /-- TST_WRITE (R242). -/
  | tstWrite (core : Sender) (addr : Nat) (val : Word)
  /-- LATCH_ARM (R270). -/
  | latchArm (core : Sender) (val : Word)
  /-- LATCH_DISARM (R270). -/
  | latchDisarm (core : Sender) (val : Word)
  /-- LATCH_HOLDOFF_EXPIRY (R270). -/
  | latchHoldoffExpiry (unit : Fin 16)
  /-- HOME_DECISION (R271). -/
  | homeDecision (axis : Fin 8)
  /-- COMPARE_ARM (R273). -/
  | compareArm (core : Sender) (unit : Fin 32) (val : Word)
  /-- COMPARE_DISARM (R273). -/
  | compareDisarm (core : Sender) (val : Word)
  /-- FBK_ARM_ONCE_INDEX (R301). -/
  | fbkArmOnceIndex (core : Sender) (val : Word)
  /-- FBK_CLEAR_SIGNAL_FAULT (R310). -/
  | fbkClearSignalFault (core : Sender) (val : Word)
  /-- FBK_RENEGOTIATE_PORT (R337). -/
  | fbkRenegotiatePort (core : Sender) (val : Word)
  /-- ANALOG_SAMPLE (R313). -/
  | analogSample (ch : Fin 8) (sn cs : Int) (ref : Bool)
  /-- KSP_CLOCK_HOLD_EXPIRY (R332). -/
  | kspClockHoldExpiry (port : Fin 8)
  /-- KSP_TRANSACTION_DONE (R336). -/
  | kspTransactionDone (port : Fin 8) (r : KspResp)
  /-- KSP_FAULT_PAUSE_EXPIRY (R337). -/
  | kspFaultPauseExpiry (port : Fin 8)
  /-- SSI_TRANSFER_DONE (R339). -/
  | ssiTransferDone (port : Fin 8) (r : SsiResp)
  /-- DOOR_OPEN (R346). -/
  | doorOpen (core : Sender) (val : Word)
  /-- DOOR_CLOSE (R346). -/
  | doorClose (core : Sender) (val : Word)
  /-- DOOR_NUDGE (R346). -/
  | doorNudge (core : Sender) (val : Word)
  /-- DOOR_STOP (R346). -/
  | doorStop (core : Sender) (val : Word)
  /-- OBSTRUCTION (R358). -/
  | obstruction (door : Fin 2)
  /-- STALL (R357). -/
  | stall (door : Fin 2)
  /-- KE_EXC (R361). -/
  | keExc (door : Fin 2)
  /-- DWELL_EXPIRY (R362). -/
  | dwellExpiry (door : Fin 2)
  /-- NUDGE_TIMER_EXPIRY (R363). -/
  | nudgeTimerExpiry (door : Fin 2)
  /-- LOCK_FAIL (R365). -/
  | lockFail (door : Fin 2)
  /-- BSS_ADD (R376). -/
  | bssAdd (core : Sender) (val : Word)
  /-- BSS_REMOVE (R377). -/
  | bssRemove (core : Sender) (val : Word)
  /-- BSS_CLEAR (R377). -/
  | bssClear (core : Sender) (val : Word)
  /-- DEPART (R379). -/
  | depart (core : Sender) (val : Word)
  /-- RES_REQ (R396). -/
  | resReq (h : Hdr) (p : ResReqPl)
  /-- RES_ANS (R398). -/
  | resAns (h : Hdr) (p : ResAnsPl)
  /-- RES_REL (R395). -/
  | resRel (h : Hdr) (p : ResRelPl)
  /-- RES_TRIM (R394). -/
  | resTrim (h : Hdr) (p : ResTrimPl)
  /-- STOPQ (R399). -/
  | stopq (h : Hdr) (p : StopqPl)
  /-- HELD_RESERVATION_RELEASE (R571). -/
  | heldReservationRelease (id : Nat)
  /-- SLK_NODE_CLR (R426). -/
  | slkNodeClr (core : Sender) (cpl : Word)
  /-- CAPTURE_RECEIVE_BUFFER (R54). -/
  | captureReceiveBuffer (core : Sender) (val : Word)
  /-- CAPTURE_TRANSMIT_BUFFER (R54). -/
  | captureTransmitBuffer (core : Sender) (val : Word)
  /-- CAPTURE_RELEASE (R52). -/
  | captureRelease (core : Sender) (val : Word)
  /-- PORT_IDLE_END (R431). -/
  | portIdleEnd (port : Fin 8)
  /-- DIE_FRAME_RECEIVED (R437). -/
  | dieFrameReceived (link : Fin 6) (ok : Bool)
  /-- FIELD_REPLY (R438). -/
  | fieldReply (g : Fin 5) (r : ReplyIn)
  /-- FIELD_REPLY_MISSING (R439). -/
  | fieldReplyMissing (g : Fin 5) (core ecl : Option Nat)
  /-- DIE_SILENCE_TIMEOUT (R440). -/
  | dieSilenceTimeout (g : Fin 4)
  /-- INPUT_FILTER_ACCEPT (R443). -/
  | inputFilterAccept (input : Fin 96) (level : Bool) (t : Nat)
  /-- FAST_INPUT_EDGE (R447). -/
  | fastInputEdge (f : Fin 16) (rising : Bool) (t : Nat)
  /-- FREQUENCY_GATE (R448). -/
  | frequencyGate (f : Fin 16)
  /-- FREQUENCY_ZERO_TIMEOUT (R448). -/
  | frequencyZeroTimeout (f : Fin 16)
  /-- COMPARE_PULSE_END (R451). -/
  | comparePulseEnd (out : Fin 32)
  /-- OUTPUT_THERMAL_SHUTDOWN (R452). -/
  | outputThermalShutdown (out : Fin 32)
  /-- OUTPUT_COOLED (R453). -/
  | outputCooled (out : Fin 32)
  /-- FIO_OUT_CLR (R454). -/
  | fioOutClr (core : Sender) (cpl : Word)
  /-- OFF_PULSE_START (R455). -/
  | offPulseStart (out : Fin 32)
  /-- OFF_PULSE_END (R456). -/
  | offPulseEnd (out : Fin 32) (rb : Nat)
  /-- LPLUS_MEASURE (R459). -/
  | lplusMeasure (g : Fin 5) (v : Nat)
  /-- UV (R459). -/
  | uv (g : Fin 5)
  /-- UV_CLEAR (R460). -/
  | uvClear (g : Fin 5)
  /-- STO_LINK_TIMEOUT (R463). -/
  | stoLinkTimeout (link : Fin 2)
  /-- STOB_ENERGISE (R465). -/
  | stobEnergise (port : Fin 8)
  /-- ECLIPSE_SELFTEST (R469). -/
  | eclipseSelftest (pass : Bool)
  /-- SAF_RESET_CMD (R478). -/
  | safResetCmd (core : Sender) (cpl : Word)
  /-- DIAG_SUSPEND (R482). -/
  | diagSuspend (core : Sender) (cpl : Word)
  /-- DIAG_RESUME (R482). -/
  | diagResume (core : Sender) (cpl : Word)
  /-- PROOF_TEST_CONFIRM (R483). -/
  | proofTestConfirm (core : Sender) (cpl : Word)
  /-- SRAM_SCRUB (R484). -/
  | sramScrub (bad : Bool)
  /-- MRAM_SCRUB (R484). -/
  | mramScrub (bad : Option (Fin 0x2000000))
  /-- CAR_STATE (R513). -/
  | carState (h : Hdr) (b : List Byte)
  /-- SEC_STATE (R513). -/
  | secState (h : Hdr) (b : List Byte)
  /-- PERMIT (R369). -/
  | permit (h : Hdr) (b : List Byte)
  /-- TELEGRAM_WATCHDOG_EXPIRY (R514). -/
  | telegramWatchdogExpiry (kind : Fin 4) (src : Nat)
  /-- INTERLOCK_TELEGRAM (R517). -/
  | interlockTelegram (port : Fin 2) (b : List Byte)
  /-- BRAKE_FEEDBACK_TIMEOUT (R510). -/
  | brakeFeedbackTimeout (brake : Fin 2)
  /-- SPINE_LINK_UP (R525). -/
  | spineLinkUp (port : Fin 4) (mode : Fin 3) (sqi : Fin 8)
  /-- SPINE_LINK_DOWN (R528). -/
  | spineLinkDown (port : Fin 4)
  /-- WAKE_PULSE (R532). -/
  | wakePulse (core : Sender) (port : Fin 4) (val : Word)
  /-- CABLE_TEST (R531). -/
  | cableTest (core : Sender) (port : Fin 4) (val : Word)
  /-- CABLE_TEST_DONE (R531). -/
  | cableTestDone (port : Fin 4) (result : Fin 4) (dist : Nat)
  /-- RESTORE_DOWNSHIFTED_MODES (R527). -/
  | restoreDownshiftedModes (core : Sender) (port : Fin 4) (val : Word)
  /-- FAB_KEY_LOAD (R535). -/
  | fabKeyLoad (core : Sender) (cpl : Word)
  /-- LB_FRAME_RECEIVED (R539). -/
  | lbFrameReceived (port : Fin 2) (f : LbFrame)
  /-- LB_COLLISION (R542). -/
  | lbCollision (port : Fin 2) (cycle : Nat)
  /-- FOREIGN_BEACON (R542). -/
  | foreignBeacon (port : Fin 2)
  /-- PLCA_RESUME (R543). -/
  | plcaResume (port : Fin 2)
  /-- ANNOUNCE (R557). -/
  | announce (h : Hdr) (p : AnnouncePl)
  /-- HEARTBEAT (R559). -/
  | heartbeat (h : Hdr) (p : HeartbeatPl)
  /-- PEER_DEAD (R559). -/
  | peerDead (peer : Fin 32)
  /-- FRAME_FORWARD (R552). -/
  | frameForward (h : Hdr) (type : Nat) (p : List Byte)
  /-- TAKEOVER (R567). -/
  | takeover (h : Hdr) (p : TakeoverPl)
  /-- FENCED (R563). -/
  | fenced (h : Hdr) (p : FencedPl)
  /-- STALE (R562). -/
  | stale (h : Hdr) (p : StalePl)
  /-- APP (R550). -/
  | app (h : Hdr) (p : List Byte)
  /-- TAKEOVER_START (R566). -/
  | takeoverStart (cover : Fin 3)
  /-- TAKE_MAX_EXPIRY (R572). -/
  | takeMaxExpiry (peer : Fin 32)
  /-- SECTION_CLOSE (R573). -/
  | sectionClose (core : Sender) (cpl : Word)
  /-- SECTION_REOPEN (R575). -/
  | sectionReopen (core : Sender) (cpl : Word)
  /-- STANDBY_GIVE_UP_ID (R570). -/
  | standbyGiveUpId (core : Sender) (cpl : Word)
  /-- FENCE_RELEASE (R564). -/
  | fenceRelease (core : Sender) (cpl : Word)
  /-- ADDEND_WRITE (R577). -/
  | addendWrite (core : Sender) (val : Word)
  /-- CLOCK_STEP (R578). -/
  | clockStep (core : Sender) (val : Word)
  /-- SET_SYNC (R581). -/
  | setSync (core : Sender) (val : Word)
  /-- CLEAR_SYNC (R651). -/
  | clearSync (core : Sender) (val : Word)
  /-- PTP_EVENT_MESSAGE (R584). -/
  | ptpEventMessage (port : Fin 4) (stamp : PtpTime) (m : PtpEvent)
  /-- TX_TIMESTAMP_ENQUEUE (R585). -/
  | txTimestampEnqueue (port : Fin 4) (msgType seqId : Nat) (stamp : PtpTime)
  /-- TXQ_POP (R586). -/
  | txqPop (core : Sender) (port : Fin 4) (val : Word)
  /-- TXQ_NS_READ (R586). -/
  | txqNsRead (core : Sender) (port : Fin 4)
  /-- NOW_NS_READ (R586). -/
  | nowNsRead (core : Sender)
  /-- SNAP_ARM (R588). -/
  | snapArm (core : Sender) (val : Word)
  /-- SNAP_DISARM (R588). -/
  | snapDisarm (core : Sender) (val : Word)
  /-- REC_CLEAR (R601). -/
  | recClear (core : Sender) (cpl : Word)
  /-- REC_APP_CMD (R603). -/
  | recAppCmd (core : Sender) (val : Word)
  /-- EXTEST (R623). -/
  | extest (lands pattern : BitVec 91)
  /-- SAMPLE_PRELOAD (R623). -/
  | samplePreload (lands pattern : BitVec 91)
  /-- BYPASS (R621). -/
  | bypass (code : Fin 16)
  /-- PTP_GENERAL_MESSAGE (R580). -/
  | ptpGeneralMessage (port : Fin 4) (m : PtpGeneral)
  /-- FRAME_DISCARDED (R550). -/
  | frameDiscarded (port : Fin 4) (macsec : Bool)
  /-- ECC_DOUBLE_ON_ACCESS (R481). -/
  | eccDoubleOnAccess (core : Sender) (addr : Nat)
  /-- LOADER_LIFE_CYCLE_CHANGE (R124). -/
  | loaderLifeCycleChange (retire : Bool) (fabricId : Fin 16384) (pubKey : List Byte)
  /-- SERVO_PERIOD_BOUNDARY (R43). -/
  | servoPeriodBoundary
  /-- COMPUTE_WINDOW_OPEN (R47). -/
  | computeWindowOpen
  /-- FORCE_SPLIT (R213). -/
  | forceSplit
  /-- UPDATE_CUTOFF (R151). -/
  | updateCutoff
  /-- MILLISECOND_INSTANT (R67). -/
  | millisecondInstant
  /-- MODE_TRANSITION_DONE (R82). -/
  | modeTransitionDone
  /-- STANDBY_IDLE_EXPIRY (R80). -/
  | standbyIdleExpiry
  /-- SERVICE_IDLE_EXPIRY (R80). -/
  | serviceIdleExpiry
  /-- TIME_ALARM (R79). -/
  | timeAlarm
  /-- CLOCK_STOP_DETECT (R93). -/
  | clockStopDetect
  /-- POWER_ON_RESET (R94). -/
  | powerOnReset
  /-- KEY_CF_RELEASE (R522). -/
  | keyCfRelease
  /-- SPS_CONFIRM_TIMEOUT (R522). -/
  | spsConfirmTimeout
  /-- LIFE_CYCLE_WIPE_DONE (R125). -/
  | lifeCycleWipeDone
  /-- SPAN_CHECK_DONE (R256). -/
  | spanCheckDone
  /-- BSS_EVALUATION (R386). -/
  | bssEvaluation
  /-- RES_ANSWER_TIMEOUT (R398). -/
  | resAnswerTimeout
  /-- THERMAL_UPDATE (R400). -/
  | thermalUpdate
  /-- FIELD_REFRESH (R435). -/
  | fieldRefresh
  /-- SAFETY_CORE_LOCKSTEP_ERROR (R469). -/
  | safetyCoreLockstepError
  /-- RESET_PAIR (R476). -/
  | resetPair
  /-- PROOF_DUE (R483). -/
  | proofDue
  /-- DISCREPANCY_TICK (R489). -/
  | discrepancyTick
  /-- PTP_SECOND (R556). -/
  | ptpSecond
  /-- HEARTBEAT_SEND (R558). -/
  | heartbeatSend
  /-- SETTLING_END (R548). -/
  | settlingEnd
  /-- TAKEOVER_COPY_DONE (R567). -/
  | takeoverCopyDone
  /-- SYNC_RECEIPT_TIMEOUT (R581). -/
  | syncReceiptTimeout
  /-- TIMED_SNAPSHOT_FIRE (R588). -/
  | timedSnapshotFire
  /-- RECORD_WRITE (R591). -/
  | recordWrite
  /-- CLEARED (R602). -/
  | cleared
  /-- IDCODE (R622). -/
  | idcode
  deriving DecidableEq, Repr

end Sys2Proof
end

