-- ==== Sys2Proof/Decode.lean ====
section
/-!
DEFINITION. Words to commands. The table of operations and events gives no row any bits, so `decodeTableWord` reads none
(01 to 23 describe commands, not encodings). The Omgil instructions have words of their own in code memory (06 R185 to
R189, Tables 6.7, 6.7a and 6.8): `omgilDecode` reads one for an engine, `omgilEncode` writes it.
-/

namespace Sys2Proof

open Sys2Proof.Machine

/-- The command a table word spells: no row of the table has fields, so none. -/
def decodeTableWord (_nbits _w : Nat) : Option Instr := none

/-! ### Fields (Table 6.7a) -/

/-- Bits [hi:lo] of a code word. -/
def fld (w : Word) (hi lo : Nat) : Nat := w.toNat / 2 ^ lo % 2 ^ (hi + 1 - lo)

/-- A register number. -/
def regF (n : Nat) : Fin 32 := Fin.ofNat 32 n

/-- An accumulator number. -/
def accF (n : Nat) : Fin 4 := Fin.ofNat 4 n

/-- Branch condition of a cond field (Table 6.8); 15 is illegal. -/
def condOf : Nat → Option Cond
  | 0 => some .al
  | 1 => some .eq
  | 2 => some .ne
  | 3 => some .lt
  | 4 => some .ge
  | 5 => some .gt
  | 6 => some .le
  | 7 => some .mi
  | 8 => some .pl
  | 9 => some .vs
  | 10 => some .vc
  | 11 => some .cs
  | 12 => some .cc
  | 13 => some .hi
  | 14 => some .ls
  | _ => none

/-- Cond field of a branch condition. -/
def condCode : Cond → Nat
  | .al => 0
  | .eq => 1
  | .ne => 2
  | .lt => 3
  | .ge => 4
  | .gt => 5
  | .le => 6
  | .mi => 7
  | .pl => 8
  | .vs => 9
  | .vc => 10
  | .cs => 11
  | .cc => 12
  | .hi => 13
  | .ls => 14

/-- R format, opcode 0x01: the instruction of a func value. -/
def decodeR (e : Fin 8) (rd ra rb : Fin 32) : Nat → Option Instr
  | 0x00 => some (.opAdd e rd ra rb)
  | 0x01 => some (.opSub e rd ra rb)
  | 0x02 => some (.opAnd e rd ra rb)
  | 0x03 => some (.opOr e rd ra rb)
  | 0x04 => some (.opXor e rd ra rb)
  | 0x05 => some (.opSll e rd ra rb)
  | 0x06 => some (.opSrl e rd ra rb)
  | 0x07 => some (.opSra e rd ra rb)
  | 0x08 => some (.opMin e rd ra rb)
  | 0x09 => some (.opMax e rd ra rb)
  | 0x0A => some (.opMinu e rd ra rb)
  | 0x0B => some (.opMaxu e rd ra rb)
  | 0x0C => some (.opMul e rd ra rb)
  | 0x0D => some (.opMulh e rd ra rb)
  | 0x0E => some (.opMulq31 e rd ra rb)
  | 0x0F => some (.opMulq15 e rd ra rb)
  | _ => none

/-- S format, opcode 0x07: the shift of a kind value. -/
def decodeS (e : Fin 8) (rd ra amount : Fin 32) : Nat → Option Instr
  | 0 => some (.opSlli e rd ra amount)
  | 1 => some (.opSrli e rd ra amount)
  | 2 => some (.opSrai e rd ra amount)
  | _ => none

/-- A format, opcode 0x08: fields an instruction does not use must be 0 (after R187). -/
def decodeA (e : Fin 8) (rd ra rb : Fin 32) (acc : Fin 4) (func : Nat) : Option Instr :=
  match func with
  | 0x0 => if rd = 0 then some (.opMac e acc ra rb) else none
  | 0x1 => if rd = 0 then some (.opMsu e acc ra rb) else none
  | 0x2 => if rd = 0 then some (.opMula e acc ra rb) else none
  | 0x3 => if rd = 0 then some (.opAccset e acc ra rb) else none
  | 0x4 => if rd = 0 ∧ rb = 0 then some (.opAccadd e acc ra) else none
  | 0x5 => if rd = 0 ∧ ra = 0 ∧ rb = 0 then some (.opAccclr e acc) else none
  | 0x6 => if ra = 0 ∧ rb = 0 then some (.opAcclo e rd acc) else none
  | 0x7 => if ra = 0 ∧ rb = 0 then some (.opAcchi e rd acc) else none
  | _ => none

/-- The Omgil instruction a code word stands for on engine `e`; none for an illegal word (R186). -/
def omgilDecode (e : Fin 8) (w : Word) : Option Instr :=
  let rd := regF (fld w 25 21)
  let ra := regF (fld w 20 16)
  let rb := regF (fld w 15 11)
  let imm := BitVec.ofNat 16 (fld w 15 0)
  let low14 := BitVec.ofNat 14 (fld w 13 0)
  match fld w 31 26 with
  | 0x01 => if fld w 10 6 = 0 then decodeR e rd ra rb (fld w 5 0) else none
  | 0x02 => some (.opAddi e rd ra imm)
  | 0x03 => some (.opAndi e rd ra imm)
  | 0x04 => some (.opOri e rd ra imm)
  | 0x05 => some (.opXori e rd ra imm)
  | 0x06 => if ra = 0 then some (.opLui e rd imm) else none
  | 0x07 => if fld w 15 7 = 0 then decodeS e rd ra (regF (fld w 4 0)) (fld w 6 5) else none
  | 0x08 => if fld w 8 4 = 0 then decodeA e rd ra rb (accF (fld w 10 9)) (fld w 3 0) else none
  | 0x09 => if fld w 18 6 = 0 then some (.opAccrd e rd (accF (fld w 20 19)) (Fin.ofNat 64 (fld w 5 0))) else none
  | 0x10 => some (.opLd e rd ra imm)
  | 0x11 => some (.opSt e rd ra imm)
  | 0x12 => some (.opLds e rd ra imm)
  | 0x13 => some (.opSts e rd ra imm)
  | 0x18 => if fld w 15 12 = 0 then some (.opIn e rd ra (BitVec.ofNat 12 (fld w 11 0))) else none
  | 0x19 => if fld w 15 12 = 0 then some (.opOut e rd ra (BitVec.ofNat 12 (fld w 11 0))) else none
  | 0x20 =>
    if fld w 21 14 = 0 then
      match condOf (fld w 25 22) with
      | some c => some (.opB e c low14)
      | none => none
    else none
  | 0x21 => if fld w 25 14 = 0 then some (.opBl e low14) else none
  | 0x22 => if fld w 25 21 = 0 ∧ fld w 15 0 = 0 then some (.opBr e ra) else none
  | 0x24 => if fld w 25 21 = 0 ∧ fld w 15 14 = 0 then some (.opLoop e ra low14) else none
  | 0x25 => some (.opLoopi e (BitVec.ofNat 12 (fld w 25 14)) low14)
  | 0x3F => if fld w 25 0 = 0 then some (.opEnd e) else none
  | _ => none

/-! ### Encoding -/

/-- R format word. -/
def encR (func : Nat) (rd ra rb : Fin 32) : Word :=
  BitVec.ofNat 32 (0x01 * 2 ^ 26 + rd.val * 2 ^ 21 + ra.val * 2 ^ 16 + rb.val * 2 ^ 11 + func)

/-- I format word. -/
def encI (op : Nat) (rd ra : Fin 32) (imm : BitVec 16) : Word :=
  BitVec.ofNat 32 (op * 2 ^ 26 + rd.val * 2 ^ 21 + ra.val * 2 ^ 16 + imm.toNat)

/-- S format word. -/
def encS (kind : Nat) (rd ra amount : Fin 32) : Word :=
  BitVec.ofNat 32 (0x07 * 2 ^ 26 + rd.val * 2 ^ 21 + ra.val * 2 ^ 16 + kind * 2 ^ 5 + amount.val)

/-- A format word. -/
def encA (func : Nat) (rd ra rb : Fin 32) (acc : Fin 4) : Word :=
  BitVec.ofNat 32 (0x08 * 2 ^ 26 + rd.val * 2 ^ 21 + ra.val * 2 ^ 16 + rb.val * 2 ^ 11 + acc.val * 2 ^ 9 + func)

/-- P format word. -/
def encP (op : Nat) (rd ra : Fin 32) (port : BitVec 12) : Word :=
  BitVec.ofNat 32 (op * 2 ^ 26 + rd.val * 2 ^ 21 + ra.val * 2 ^ 16 + port.toNat)

/-- The code word of an Omgil instruction; none for a command that is no Omgil instruction. -/
def omgilEncode : Instr → Option Word
  | .opAdd _ rd ra rb => some (encR 0x00 rd ra rb)
  | .opSub _ rd ra rb => some (encR 0x01 rd ra rb)
  | .opAnd _ rd ra rb => some (encR 0x02 rd ra rb)
  | .opOr _ rd ra rb => some (encR 0x03 rd ra rb)
  | .opXor _ rd ra rb => some (encR 0x04 rd ra rb)
  | .opSll _ rd ra rb => some (encR 0x05 rd ra rb)
  | .opSrl _ rd ra rb => some (encR 0x06 rd ra rb)
  | .opSra _ rd ra rb => some (encR 0x07 rd ra rb)
  | .opMin _ rd ra rb => some (encR 0x08 rd ra rb)
  | .opMax _ rd ra rb => some (encR 0x09 rd ra rb)
  | .opMinu _ rd ra rb => some (encR 0x0A rd ra rb)
  | .opMaxu _ rd ra rb => some (encR 0x0B rd ra rb)
  | .opMul _ rd ra rb => some (encR 0x0C rd ra rb)
  | .opMulh _ rd ra rb => some (encR 0x0D rd ra rb)
  | .opMulq31 _ rd ra rb => some (encR 0x0E rd ra rb)
  | .opMulq15 _ rd ra rb => some (encR 0x0F rd ra rb)
  | .opAddi _ rd ra imm => some (encI 0x02 rd ra imm)
  | .opAndi _ rd ra imm => some (encI 0x03 rd ra imm)
  | .opOri _ rd ra imm => some (encI 0x04 rd ra imm)
  | .opXori _ rd ra imm => some (encI 0x05 rd ra imm)
  | .opLui _ rd imm => some (encI 0x06 rd 0 imm)
  | .opSlli _ rd ra n => some (encS 0 rd ra n)
  | .opSrli _ rd ra n => some (encS 1 rd ra n)
  | .opSrai _ rd ra n => some (encS 2 rd ra n)
  | .opMac _ acc ra rb => some (encA 0x0 0 ra rb acc)
  | .opMsu _ acc ra rb => some (encA 0x1 0 ra rb acc)
  | .opMula _ acc ra rb => some (encA 0x2 0 ra rb acc)
  | .opAccset _ acc ra rb => some (encA 0x3 0 ra rb acc)
  | .opAccadd _ acc ra => some (encA 0x4 0 ra 0 acc)
  | .opAccclr _ acc => some (encA 0x5 0 0 0 acc)
  | .opAcclo _ rd acc => some (encA 0x6 rd 0 0 acc)
  | .opAcchi _ rd acc => some (encA 0x7 rd 0 0 acc)
  | .opAccrd _ rd acc sh =>
    some (BitVec.ofNat 32 (0x09 * 2 ^ 26 + rd.val * 2 ^ 21 + acc.val * 2 ^ 19 + sh.val))
  | .opLd _ rd ra imm => some (encI 0x10 rd ra imm)
  | .opSt _ rs ra imm => some (encI 0x11 rs ra imm)
  | .opLds _ rd ra imm => some (encI 0x12 rd ra imm)
  | .opSts _ rs ra imm => some (encI 0x13 rs ra imm)
  | .opIn _ rd ra port => some (encP 0x18 rd ra port)
  | .opOut _ rs ra port => some (encP 0x19 rs ra port)
  | .opB _ c target => some (BitVec.ofNat 32 (0x20 * 2 ^ 26 + condCode c * 2 ^ 22 + target.toNat))
  | .opBl _ target => some (BitVec.ofNat 32 (0x21 * 2 ^ 26 + target.toNat))
  | .opBr _ ra => some (BitVec.ofNat 32 (0x22 * 2 ^ 26 + ra.val * 2 ^ 16))
  | .opLoop _ ra last => some (BitVec.ofNat 32 (0x24 * 2 ^ 26 + ra.val * 2 ^ 16 + last.toNat))
  | .opLoopi _ count last => some (BitVec.ofNat 32 (0x25 * 2 ^ 26 + count.toNat * 2 ^ 14 + last.toNat))
  | .opEnd _ => some (BitVec.ofNat 32 (0x3F * 2 ^ 26))
  | _ => none

/-- The engine an Omgil instruction runs on. -/
def omgilEngine : Instr → Option (Fin 8)
  | .opAdd e _ _ _ | .opSub e _ _ _ | .opAnd e _ _ _ | .opOr e _ _ _ | .opXor e _ _ _ | .opSll e _ _ _
  | .opSrl e _ _ _ | .opSra e _ _ _ | .opMin e _ _ _ | .opMax e _ _ _ | .opMinu e _ _ _ | .opMaxu e _ _ _
  | .opMul e _ _ _ | .opMulh e _ _ _ | .opMulq31 e _ _ _ | .opMulq15 e _ _ _ => some e
  | .opAddi e _ _ _ | .opAndi e _ _ _ | .opOri e _ _ _ | .opXori e _ _ _ | .opLui e _ _ => some e
  | .opSlli e _ _ _ | .opSrli e _ _ _ | .opSrai e _ _ _ => some e
  | .opMac e _ _ _ | .opMsu e _ _ _ | .opMula e _ _ _ | .opAccset e _ _ _ | .opAccadd e _ _ | .opAccclr e _ => some e
  | .opAcclo e _ _ | .opAcchi e _ _ | .opAccrd e _ _ _ => some e
  | .opLd e _ _ _ | .opSt e _ _ _ | .opLds e _ _ _ | .opSts e _ _ _ | .opIn e _ _ _ | .opOut e _ _ _ => some e
  | .opB e _ _ | .opBl e _ | .opBr e _ | .opLoop e _ _ | .opLoopi e _ _ | .opEnd e => some e
  | _ => none

end Sys2Proof
end

