-- ==== Sys2Proof/Config.lean ====
section
/-!
DEFINITION. What the spec leaves open, as constants without a body: nothing can be proved about their values, so every
claim holds whatever they are.
-/

namespace Sys2Proof

/-- The `n`-th free value the machine draws (`State.free` counts the draws). -/
opaque Config.freeNat : Nat → Nat

/-- The content that the payload bytes of an operational-set bank stand for, if they are well formed: the payload's format
is not given (04 R112). -/
opaque Config.opsContentOf : List Byte → Option OpsContent

/-- The content that the payload bytes of a safety-set bank stand for, if they are well formed: likewise (04 R112; 16 R519). -/
opaque Config.spsContentOf : List Byte → Option SpsContent

/-- The clock quality and identity this device announces to the BMCA of 802.1AS (19 Table 19.1 names only priority1 and
priority2). -/
opaque Config.ptpQuality : Nat
/-- This device's clock identity. -/
opaque Config.ptpClockId : Nat → Nat

end Sys2Proof
end

