-- ==== Sys2Proof/Machine/Crc.lean ====
section
/-!
DEFINITION. The two CRCs of the spec: CRC-32C (13 R414) and the selector's CRC-8 (04 R113).
-/

namespace Sys2Proof.Machine

open Sys2Proof

/-- One bit of the reflected CRC-32C shift register (R414). -/
def crc32cBit (c : Word) : Word :=
  if c.getLsbD 0 then (c >>> 1) ^^^ 0x82F63B78 else c >>> 1

/-- One byte into the CRC-32C shift register, least significant bit first. -/
def crc32cByte (c : Word) (b : Byte) : Word :=
  crc32cBit (crc32cBit (crc32cBit (crc32cBit (crc32cBit (crc32cBit (crc32cBit (crc32cBit (c ^^^ b.setWidth 32))))))))

/-- CRC-32C of a byte string (R414): initial value and final XOR 0xFFFF_FFFF. -/
def crc32c (bs : List Byte) : Word :=
  (bs.foldl crc32cByte 0xFFFFFFFF) ^^^ 0xFFFFFFFF

/-- One bit of the CRC-8 register, most significant bit first, polynomial 0x07. -/
def crc8Bit (c : Byte) : Byte :=
  if c.getLsbD 7 then (c <<< 1) ^^^ 0x07 else c <<< 1

/-- CRC-8 of a byte string (04 R113): initial value 0, no reflection, no final XOR. -/
def crc8 (bs : List Byte) : Byte :=
  bs.foldl (fun c b =>
    crc8Bit (crc8Bit (crc8Bit (crc8Bit (crc8Bit (crc8Bit (crc8Bit (crc8Bit (c ^^^ b))))))))) 0

/-- One bit into the CRC-16 register, most significant bit first, polynomial 0x1021 (10 R329). -/
def crc16Bit (c : BitVec 16) (b : Bool) : BitVec 16 :=
  if c.getLsbD 15 != b then (c <<< 1) ^^^ 0x1021 else c <<< 1

/-- CRC-16 of the low `n` bits of a number, most significant first: initial value 0xFFFF, no final XOR (10 R329). -/
def crc16 (n v : Nat) : BitVec 16 :=
  (List.range n).foldl (fun c i => crc16Bit c (v.testBit (n - 1 - i))) 0xFFFF

/-- The four little-endian bytes of a word. -/
def wordBytes (w : Word) : List Byte := leBytes 4 w.toNat

end Sys2Proof.Machine
end

