-- ==== Sys2Proof/Machine/SMap.lean ====
section
/-!
DEFINITION. Sparse maps as plain data: a list of (key, value) pairs in one canonical form, keys strictly rising and no
entry equal to what an unlisted key reads as. Memories (Host.Cell is the byte case), register files and tables of
records are all held this way.
-/

namespace Sys2Proof.Machine

/-- The entry listed for a key, if any. -/
def smFind {α : Type} : List (Nat × α) → Nat → Option α
  | [], _ => none
  | e :: t, k => if e.1 = k then some e.2 else smFind t k

/-- Value at a key: the listed entry, else the default `d`. -/
def smGet {α : Type} (d : α) (m : List (Nat × α)) (k : Nat) : α :=
  match smFind m k with
  | some v => v
  | none => d

/-- Insert or replace an entry, keeping the keys rising. -/
def smPut {α : Type} : List (Nat × α) → Nat → α → List (Nat × α)
  | [], k, v => [(k, v)]
  | e :: t, k, v =>
    if e.1 = k then (k, v) :: t
    else if k < e.1 then (k, v) :: e :: t
    else e :: smPut t k v

/-- Remove a key. -/
def smErase {α : Type} : List (Nat × α) → Nat → List (Nat × α)
  | [], _ => []
  | e :: t, k => if e.1 = k then smErase t k else e :: smErase t k

/-- Write a value: writing the default removes the entry, so that equal maps are equal lists. -/
def smSet {α : Type} [DecidableEq α] (d : α) (m : List (Nat × α)) (k : Nat) (v : α) : List (Nat × α) :=
  if v = d then smErase m k else smPut m k v

/-- Change the value at a key. -/
def smMod {α : Type} [DecidableEq α] (d : α) (m : List (Nat × α)) (k : Nat) (f : α → α) : List (Nat × α) :=
  smSet d m k (f (smGet d m k))

/-- The canonical form: keys strictly rising above `lo`, no entry equal to its default. -/
def smWfFrom {α : Type} [DecidableEq α] (d : Nat → α) : Nat → List (Nat × α) → Bool
  | _, [] => true
  | lo, e :: t => decide (lo ≤ e.1) && decide (e.2 ≠ d e.1) && smWfFrom d (e.1 + 1) t

/-- The canonical form of a whole map. -/
def smWf {α : Type} [DecidableEq α] (d : Nat → α) (m : List (Nat × α)) : Bool := smWfFrom d 0 m

/-- A list of entries as a map in canonical form; of two entries for a key the later stands. -/
def smBuild {α : Type} [DecidableEq α] (d : α) (l : List (Nat × α)) : List (Nat × α) :=
  l.foldl (fun m e => smSet d m e.1 e.2) []

/-- The keys listed in a map. -/
def smKeys {α : Type} (m : List (Nat × α)) : List Nat := m.map (fun e => e.1)

/-- A map with every key outside `p` removed. -/
def smFilter {α : Type} (p : Nat → Bool) (m : List (Nat × α)) : List (Nat × α) := m.filter (fun e => p e.1)

/-- `n` bytes from address `a` of a byte map whose unlisted bytes are 0. -/
def bytesAt (m : List (Nat × Byte)) (a : Nat) : Nat → List Byte
  | 0 => []
  | n + 1 => smGet 0 m a :: bytesAt m (a + 1) n

/-- Write a list of bytes from address `a`. -/
def putBytes (m : List (Nat × Byte)) (a : Nat) : List Byte → List (Nat × Byte)
  | [] => m
  | b :: bs => putBytes (smSet 0 m a b) (a + 1) bs

/-- Little-endian value of `n` bytes at `a`. -/
def leAt (m : List (Nat × Byte)) (a n : Nat) : Nat := leVal (bytesAt m a n)

end Sys2Proof.Machine
end

