-- ==== Sys2Proof/Machine/Types.lean ====
section
/-!
DEFINITION. The parts of the machine's state, one structure per block of the spec. Registers live in `Bus`; every other
piece of state the chapters name stands in the structure of its block. Each structure has its value right after reset
beside it.
-/

namespace Sys2Proof.Machine

open Sys2Proof

/-! ### 05: register access -/

/-- An armed guarded write of a block (05 R153): its VAL address, the value and the tick it was written at. -/
structure Guard where
  addr : Nat
  val : Word
  tick : Nat
  deriving DecidableEq, Repr

/-- The registers and what their access rules keep (05 R138 to R154). Unlisted registers hold their reset value.
`regs`: values in force; `pend`: pending copies (R148); `shadow`: HI shadows keyed `LO address * 8 + reader` (R140);
`hold`: LO write holding registers keyed `LO address * 8 + writer` (R141); `rdata`: what each sender's last read
returned; `guards`: the armed guarded write per block; `dirty`, `armed`, `frozen`: update groups written, requested, and
checked at the cutoff (R149 to R151); `late`: writes held back between cutoff and boundary (R152); `snapAt`: the tick of each block's
last snapshot (R147). -/
structure Bus where
  regs : List (Nat × Word)
  pend : List (Nat × Word)
  shadow : List (Nat × Word)
  hold : List (Nat × Word)
  rdata : List (Nat × Word)
  guards : List (Nat × Guard)
  dirty : Nat
  armed : Nat
  frozen : Nat
  late : List (Nat × Word)
  snapAt : List (Nat × Nat)
  deriving DecidableEq, Repr

/-- Every register at its reset value, nothing written, requested or armed. -/
def Bus.init : Bus where
  regs := []
  pend := []
  shadow := []
  hold := []
  rdata := []
  guards := []
  dirty := 0
  armed := 0
  frozen := 0
  late := []
  snapAt := []

/-- Memories of the cores that stand at no address and in no command: the L1 caches by core, the L2, the safety core's private SRAM (03
R75; 04 R97). Their layout is not given: bytes by place. -/
structure Caches where
  l1 : List (Nat × Nat × Byte)
  l2 : List (Nat × Byte)
  core : List (Nat × Byte)
  deriving DecidableEq, Repr

/-- Cleared (04 R97). -/
def Caches.init : Caches := ⟨[], [], []⟩

/-! ### 19: time base -/

/-- An entry of a transmit time-stamp queue (19 R585). -/
structure TxStamp where
  msgType : Nat
  seqId : Nat
  sec : Nat
  ns : Nat
  deriving DecidableEq, Repr

/-- What the protocol keeps per spine port (19 R580): the two-step Sync waiting for its Follow_Up, the times of the running
peer-delay exchange (request sent, request received, response received), the link delay, and the last Announce. -/
structure PtpPort where
  syncSeq : Nat
  syncRx : Option Nat
  t1 : Option Nat
  t2 : Option Nat
  t4 : Option Nat
  delay : Nat
  ann : Option PtpVector
  deriving DecidableEq, Repr

/-- Nothing heard. -/
def PtpPort.init : PtpPort := ⟨0, none, none, none, none, 0, none⟩

/-- The time base (19 R576 to R589): PTP clock, ticks since reset, number of the last boundary fired, transmit
time-stamp queues, holdover counter (PD0), the run of offsets within LIMIT, and the state of the protocol per port. `frac` is in
2^-28 ns; `next`: number of the boundary that fires next (R579). -/
structure TimeBase where
  sec : Nat
  ns : Nat
  frac : Nat
  tick : Nat
  k : Nat
  next : Nat
  txq : List (Nat × List TxStamp)
  holdSec : Nat
  holdCyc : Nat
  goodOffs : Nat
  ports : List (Nat × PtpPort)
  deriving DecidableEq, Repr

/-- Clock at 0 (R587 after a power-on reset). -/
def TimeBase.init : TimeBase where
  sec := 0
  ns := 0
  frac := 0
  tick := 0
  k := 0
  next := 0
  txq := []
  holdSec := 0
  holdCyc := 0
  goodOffs := 0
  ports := []

/-! ### 03: modes, domains, wake -/

/-- Whether reset is in force or the device runs (04 R96, R101). -/
inductive Phase where
  | inReset | running
  deriving DecidableEq, Repr

/-- Mode control (03). `trans`: target of the transition in progress, `trigger` what started it; `fwReq`: firmware request
waiting for the next evaluation (R68); `wakePend`: wake notice pending (R84); `resPend`: a reservation request came in Watch
(Table 3.2); `rescuePend`: rescue notice pending, with its REASON; `delReset`: an accepted deliberate reset brings Watch;
`stbyExp`, `svcExp`: idle timers expired (R80); `bar`: Dormant barred (R92); `rescuePorts`: SLK ports powered in Rescue (R76);
`railsOut`: rails beyond a threshold with the tick they crossed it; `idleFrom`: the tick the idle timers run from, restarted on
every mode entry; `ready`: the transition in progress is ready, and its mode is in force from the next boundary (R82); `entryFrom`: the
tick the mode was entered at, `instants`: millisecond instants since (R67); `alarm`: the tick of the time alarm, set on entering
Dormant (R79, R87). -/
structure Power where
  phase : Phase
  mode : Mode
  prev : Mode
  trans : Option Mode
  trigger : Nat
  refuse : Nat
  wakeCause : Nat
  fwReq : Option Mode
  wakePend : Bool
  resPend : Bool
  rescuePend : Option Nat
  delReset : Bool
  stbyExp : Bool
  svcExp : Bool
  bar : Bool
  rescuePorts : Nat
  railsOut : List (Nat × Nat)
  idleFrom : Nat
  ready : Bool
  entryFrom : Nat
  instants : Nat
  alarm : Option Nat
  deriving DecidableEq, Repr

/-- Reset in force; the mode code reads Watch (PCM_MODE_STAT's reset value). -/
def Power.init : Power where
  phase := .inReset
  mode := .watch
  prev := .dormant
  trans := none
  trigger := 0
  refuse := 0
  wakeCause := 0
  fwReq := none
  wakePend := false
  resPend := false
  rescuePend := none
  delReset := false
  stbyExp := false
  svcExp := false
  bar := false
  rescuePorts := 0
  railsOut := []
  idleFrom := 0
  ready := false
  entryFrom := 0
  instants := 0
  alarm := none

/-! ### 06, 07: Tide engines and scheduling -/

/-- The hardware loop (06 R190): first body word, last body word, iterations left. -/
structure HwLoop where
  first : Nat
  last : Nat
  left : Nat
  deriving DecidableEq, Repr

/-- A run in progress on a Tide engine (06 R161 to R167): slot, w registers, accumulators, flags, pc, loop, budget left
and staged outputs. -/
structure Run where
  slot : Fin 24
  w : List (Nat × Word)
  acc : List (Nat × DWord)
  z : Bool
  n : Bool
  c : Bool
  v : Bool
  pc : Nat
  loop : Option HwLoop
  left : Nat
  staged : List (Nat × Word)
  deriving DecidableEq, Repr

/-- How far a slot's run of the present period has come. -/
inductive RunState where
  | waiting | running | done | overran
  deriving DecidableEq, Repr

/-- A scheduling-table entry's state beside its registers (07): disabled by a start-up check (R204), BUDGET and PRIV as
last checked (R172), whether it is the law in control of its binding (R203), its run of this period, and BUDGET and PRIV as the
check of a cutoff has read them for the application at its boundary (R172). -/
structure SlotSt where
  bad : Bool
  budget : Nat
  priv : Nat
  inControl : Bool
  run : RunState
  nextBudget : Nat
  nextPriv : Nat
  deriving DecidableEq, Repr

/-- An unbound slot. -/
def SlotSt.init : SlotSt where
  bad := false
  budget := 0
  priv := 0
  inControl := false
  run := .waiting
  nextBudget := 0
  nextPriv := 0

/-- Stage of the servo period (02 Table 2.3): before the compute window, after stage 4, after the split. -/
inductive Stage where
  | link | phaseA | phaseB
  deriving DecidableEq, Repr

/-- The Tide array (06, 07): code and data words keyed `engine * 16384 + word`, runs per engine, slots by g, halts
requested (those in force read in TAC_ENG_HALT), committed outputs keyed `g * 8 + (port - 0x40)`, the
demands of the channels at the last latching keyed `channel * 2 + port - 0x40` (R43), and the stage of the period. -/
structure Tide where
  code : List (Nat × Word)
  data : List (Nat × Word)
  runs : List (Nat × Run)
  slots : List (Nat × SlotSt)
  haltWant : Nat
  outs : List (Nat × Word)
  latched : List (Nat × Word)
  stage : Stage
  deriving DecidableEq, Repr

/-- Memories cleared, no slot enabled. -/
def Tide.init : Tide := ⟨[], [], [], [], 0, [], [], .link⟩

/-- A hand-over preload (07 R220): the slot and the one period it is read in. -/
structure Preload where
  slot : Nat
  period : Nat
  value : Int
  deriving DecidableEq, Repr

/-- Kind of a hand-over (TAC_HO_LAST.KIND). -/
inductive HoKind where
  | carMode | chanMode | ownerOut | ownerIn
  deriving DecidableEq, Repr

/-- Progress of a hand-over (TAC_HO_CARc.STATE). -/
inductive HoStage where
  | offered | comparing | blending
  deriving DecidableEq, Repr

/-- A running hand-over of a binding (07 R219 to R235). `nb`: the other device of an owner hand-over; `k0`: the period it
started in; `outSlot`, `inSlot`: the two laws of a control-mode hand-over, for an owner hand-over both the local car slot;
`fails`: failed comparisons in a row; `h`: the hand-over instant; `blend`: L; `recv`: outputs received, by period;
`claimed`: the claim has reached the outgoing owner; `back`: a HO_FAIL notice has reached the incoming owner. -/
structure HandOver where
  kind : HoKind
  stage : HoStage
  nb : Nat
  k0 : Nat
  outSlot : Nat
  inSlot : Nat
  fails : Nat
  h : Nat
  blend : Nat
  recv : List (Nat × Int)
  claimed : Bool
  back : Bool
  deriving DecidableEq, Repr

/-! ### 01, 07, 12: car records -/

/-- A car record CR0 to CR7 (01 R24): identity, mass and array, ownership, the sensor position and speed of the last
stage 3, the force of the last split and what the split and hand-over keep per car. `excl`: neighbour segments named by
SEGSTAT as excluded, as (neighbour, segment); `formed`: a sensor position
has been formed for the record; `hoFailed`: HO_FAIL outstanding (R233); `preload`: HO_PRELOAD of this
period; `activeN`, `ovSum`: the active set of the last split; `relK`: on a free record, the period it was released in (R25);
`cameFrom`: the device this one took the car over from, and `retTo` that device once its HO_FAIL notice has reached this one after
the hand-over's end (07 R232). -/
structure CarRec where
  held : Bool
  id : Nat
  mass : Nat
  arrOfs : Int
  arrLen : Nat
  owner : Bool
  ownerId : Nat
  posValid : Bool
  formed : Bool
  pos : Int
  vel : Int
  acc : Int
  force : Int
  excl : List (Nat × Nat)
  hoFailed : Bool
  ho : Option HandOver
  preload : Option Preload
  activeN : Nat
  ovSum : Nat
  relK : Option Nat
  cameFrom : Option Nat
  retTo : Option Nat
  deriving DecidableEq, Repr

/-- No car. -/
def CarRec.init : CarRec where
  held := false
  id := 0
  mass := 0
  arrOfs := 0
  arrLen := 0
  owner := false
  ownerId := 0
  posValid := false
  formed := false
  pos := 0
  vel := 0
  acc := 0
  force := 0
  excl := []
  hoFailed := false
  ho := none
  preload := none
  activeN := 0
  ovSum := 0
  relK := none
  cameFrom := none
  retTo := none

/-- Shares received from a neighbour for one segment of this section (02 R49): the share of each stamped boundary, the
last one, consecutive misses, and the car and owner they come from. `missAt`: the period whose split found no share; `cntAt`:
the period whose miss has been counted. -/
structure ShareIn where
  owner : Nat
  car : Nat
  recv : List (Nat × Int)
  last : Int
  misses : Nat
  missAt : Option Nat
  cntAt : Option Nat
  deriving DecidableEq, Repr

/-- Nothing received from an owner for a car. -/
def ShareIn.none (owner car : Nat) : ShareIn := ⟨owner, car, [], 0, 0, Option.none, Option.none⟩

/-- The sin/cos samples and index bits of an accepted return slot (13 Table 13.3). -/
structure Sample where
  sin0 : Int
  cos0 : Int
  sin1 : Int
  cos1 : Int
  idx0 : Bool
  idx1 : Bool
  deriving DecidableEq, Repr

/-- Nothing sampled. -/
def Sample.init : Sample := ⟨0, 0, 0, 0, false, false⟩

/-- Phase currents in mA and node temperature, as the stop scheduler's thread takes them (02 R50). -/
structure Heat where
  iA : Int
  iB : Int
  iC : Int
  temp : Int
  deriving DecidableEq, Repr

/-- Nothing measured. -/
def Heat.init : Heat := ⟨0, 0, 0, 0⟩

/-- What a drive channel's Tide view holds (06 Table 6.4): the return data of the last accepted slot, the share, and
the channel's place in an active set. `smp`: the samples of that slot; `got`: a slot of the present period was accepted;
`heat`: the receive buffer's phase currents and temperature at the most recent completed stage 3 (02 R50). -/
structure ChanView where
  heat : Heat
  smp : Sample
  got : Bool
  share : Int
  iA : Int
  iB : Int
  iC : Int
  vbus : Nat
  temp : Int
  active : Bool
  overlap : Nat
  car : Option Nat
  preload : Option Preload
  ho : Option HandOver
  shareIn : Option ShareIn
  deriving DecidableEq, Repr

/-- All zero. -/
def ChanView.init : ChanView where
  heat := Heat.init
  smp := Sample.init
  got := false
  share := 0
  iA := 0
  iB := 0
  iC := 0
  vbus := 0
  temp := 0
  active := false
  overlap := 0
  car := none
  preload := none
  ho := none
  shareIn := none

/-! ### 08: trajectories -/

/-- State of an axis (TRJ_AXISn_STAT.STATE). -/
inductive AxisSt where
  | idle | running | stopping | stopped | aborting
  deriving DecidableEq, Repr

/-- Code of an axis state. -/
def AxisSt.code : AxisSt → Nat
  | .idle => 0
  | .running => 1
  | .stopping => 2
  | .stopped => 3
  | .aborting => 4

/-- A move (08 R252, R264): a span, a direction, a kind (0 NORMAL, 1 HOMING, 2 HOLD_TO_RUN), an identifier, and whether
the stop scheduler ordered it. -/
structure MoveArg where
  first : Nat
  count : Nat
  dir : Bool
  kind : Nat
  id : Nat
  bss : Bool
  vPeak : Nat
  check : Word
  deriving DecidableEq, Repr

/-- The present move of an axis (08 Table 8.5): its arguments, START and TARGET, span time, overrides, and the cap ramp
in 2^-10 units with the caps it runs under. `fresh`: the period it starts or resumes in. -/
structure Move where
  arg : MoveArg
  start : Int
  target : Int
  tau : Nat
  ov : Nat
  ovTgt : Nat
  ovPrev : Nat
  aCap : Nat
  jCap : Nat
  rampP : Int
  rampV : Int
  rampA : Int
  sg : Int
  fresh : Bool
  deriving DecidableEq, Repr

/-- What acts on an axis in its next stage 4 (08 R256, R258): a stop cause of Table 8.4, or a FLUSH. -/
inductive AxisEv where
  | stop (cause : Nat)
  | flush
  deriving DecidableEq, Repr

/-- An axis (08 R236 to R271): state, last stop cause, homing state, present move, queue, set-point, row of the interval
evaluated, what acts in the next stage 4 in order of arrival, whether the held position is to be set
from the next stage 3 (R239), while homing the time of its HOME, of a limit edge and of the span's end (ns since the epoch), what the
last stage 4 brought: the move it completed, and whether a cap ramp reached rest; and the set-point the last stage 4 produced, as
the ports read it (06 R179). -/
structure Axis where
  st : AxisSt
  cause : Nat
  homing : Nat
  mv : Option Move
  queue : List MoveArg
  spPos : Int
  spVel : Int
  spAcc : Int
  row : Nat
  evs : List AxisEv
  seed : Bool
  homeAt : Nat
  homeLimit : Option Nat
  homeEnd : Option Nat
  doneNow : Option MoveArg
  restNow : Bool
  ptPos : Int
  ptVel : Int
  ptAcc : Int
  deriving DecidableEq, Repr

/-- An idle axis at 0. -/
def Axis.init : Axis where
  st := .idle
  cause := 0
  homing := 0
  mv := none
  queue := []
  spPos := 0
  spVel := 0
  spAcc := 0
  row := 0
  evs := []
  seed := false
  homeAt := 0
  homeLimit := none
  homeEnd := none
  doneNow := none
  restNow := false
  ptPos := 0
  ptVel := 0
  ptAcc := 0

/-- A QUEUE (1), RESUME (3) or HOME (5) whose span is being checked (08 R256). -/
structure SpanCheck where
  axis : Nat
  op : Nat
  arg : MoveArg
  deriving DecidableEq, Repr

/-- A latch unit (08 R268 to R270): the moment it became armed, the moment a homing span's end disarmed it (an edge stamped before
that may still be reported), the end of a hold-off it waits for, its last capture time and the captures whose positions are still
to be interpolated; all in ns. `hist`: recent samples (time, position) of its source, newest first. -/
structure LatchU where
  armedAt : Option Nat
  upTo : Option Nat
  waitUntil : Option Nat
  lastCap : Option Nat
  pendCaps : List Nat
  hist : List (Nat × Int)
  deriving DecidableEq, Repr

/-- A disarmed unit. -/
def LatchU.init : LatchU := ⟨none, none, none, none, [], []⟩

/-- The trajectory sequencer (08): axes, TST words keyed `row * 4 + word`, the command being checked, latch units and the
previous value of each compare unit's source. -/
structure Trj where
  axes : List (Nat × Axis)
  tst : List (Nat × Word)
  chk : Option SpanCheck
  lat : List (Nat × LatchU)
  cmpPrev : List (Nat × Int)
  deriving DecidableEq, Repr

/-- Idle axes, TST cleared. -/
def Trj.init : Trj := ⟨[], [], none, [], []⟩

/-! ### 11: door units -/

/-- State of a door unit (11 Table 11.1). -/
inductive DoorSt where
  | unref | closed | opening | opened | closing | nudging | reopening | stopped
  deriving DecidableEq, Repr

/-- Code of a door state (11 Table 11.1). -/
def DoorSt.code : DoorSt → Nat
  | .unref => 0
  | .closed => 1
  | .opening => 2
  | .opened => 3
  | .closing => 4
  | .nudging => 5
  | .reopening => 6
  | .stopped => 7

/-- What a stage 4 has found for a door unit, for the event that carries it out (11 R345: at most one). -/
inductive DoorDue where
  | none | obstruction (sources : Nat) | stall | keExc
  deriving DecidableEq, Repr

/-- A door unit (11 R341 to R365). `cmd`: the command waiting for the next stage 4; `nForce`, `nSpeed`, `nKe`, `nStall`:
consecutive periods of R356, R357 and R361; `due`: the event of the present stage 4; `toOpen`: an opening move is to be
queued when the axis reaches rest; `dwellFrom`, `nudgeFrom`, `lockFrom`: the ticks at which the dwell, the nudge timer and
the lock confirmation started; `lockTried`: the one opening after LOCK_FAIL has been made; `modeStop`: a mode change of R353 acts
in the next stage 4; `force`: F_CLOSE of the last stage 4; `noDwell`: a CLOSE came during REOPENING, so no dwell follows; `nudgeDue`:
the nudge timer has run out, which acts in the next stage 4 at its rank. -/
structure Door where
  st : DoorSt
  pending : Bool
  nudge : Bool
  fault : Bool
  rej : Nat
  lastObs : Nat
  obsCnt : Nat
  cmd : Option Nat
  nForce : Nat
  nSpeed : Nat
  nKe : Nat
  nStall : Nat
  due : DoorDue
  toOpen : Bool
  dwellFrom : Option Nat
  nudgeFrom : Option Nat
  lockFrom : Option Nat
  lockTried : Bool
  modeStop : Bool
  force : Int
  noDwell : Bool
  nudgeDue : Bool
  deriving DecidableEq, Repr

/-- UNREF, nothing pending. -/
def Door.init : Door where
  st := .unref
  pending := false
  nudge := false
  fault := false
  rej := 0
  lastObs := 0
  obsCnt := 0
  cmd := none
  nForce := 0
  nSpeed := 0
  nKe := 0
  nStall := 0
  due := .none
  toOpen := false
  dwellFrom := none
  nudgeFrom := none
  lockFrom := none
  lockTried := false
  modeStop := false
  force := 0
  noDwell := false
  nudgeDue := false

/-! ### 09: commutation -/

/-- What a channel's conversions keep (09): i_q, i_d and phi of the previous conversion (none: the next is a fresh start,
R276), the phase commands of the last one and its full scale in uV, and its drive mode (Table 9.4). -/
structure CmmCh where
  prev : Option (Int × Int × Nat)
  a : Int
  b : Int
  c : Int
  fs : Nat
  mode : Nat
  deriving DecidableEq, Repr

/-- Nothing converted. -/
def CmmCh.init : CmmCh := ⟨none, 0, 0, 0, 0, 0⟩

/-! ### 13: segment link -/

/-- A Segment Link port (13): the tick its idle at start began, whether the idle has ended, whether it sent a frame at the
last boundary, and whether that frame's return has been dealt with. -/
structure SlkPort where
  idleFrom : Option Nat
  ready : Bool
  sent : Bool
  done : Bool
  deriving DecidableEq, Repr

/-- Off. -/
def SlkPort.init : SlkPort := ⟨none, false, false, false⟩

/-- A drive channel's receive and transmit buffers, and the SEQ of the last command slot sent. -/
structure SlkCh where
  rx : List Byte
  tx : List Byte
  seq : Nat
  deriving DecidableEq, Repr

/-- Empty buffers. -/
def SlkCh.init : SlkCh := ⟨[], [], 0⟩

/-- The Segment Link (13): ports, channels, the channels whose failed slot of this period waits for a reserve buffer (02 R54), those
with one under retry analysis, the frozen buffer (channel, transmit, bytes), the fewest reserve buffers free since reset, and the
frame each port sent at the last boundary. -/
structure Slk where
  ports : List (Nat × SlkPort)
  chans : List (Nat × SlkCh)
  failed : List Nat
  retry : List Nat
  cap : Option (Nat × Bool × List Byte)
  poolMin : Option Nat
  wire : List (Nat × List Byte)
  deriving DecidableEq, Repr

/-- Off. -/
def Slk.init : Slk where
  ports := []
  chans := []
  failed := []
  retry := []
  cap := none
  poolMin := none
  wire := []

/-! ### 10: feedback -/

/-- A sin/cos pair (10 R295 to R309): count (its phase is the count modulo 16,384), whether a door pair has had its first
sample (R307), reference, signal fault, consecutive violations and consecutive samples without PRESENT, PRESENT and the
covering car of the last sample, and whether OP 1 armed its index. -/
structure FbPair where
  cnt : Int
  started : Bool
  ref : Bool
  sigf : Bool
  viol : Nat
  absent : Nat
  present : Bool
  cover : Option Nat
  once : Bool
  deriving DecidableEq, Repr

/-- A fresh pair. -/
def FbPair.init : FbPair := ⟨0, false, false, false, 0, 0, false, none, false⟩

/-- An analog channel at a boundary (10 R313): count, differences added up, time of the last edge and the last complete value. -/
structure Stand where
  cnt : Int
  moved : Int
  eT : Nat
  pv : Option Int
  deriving DecidableEq, Repr

/-- A feedback channel (10). `stVel`: the speed of the last stage 3, as CMM takes it (09 Table 9.1); `live`: the channel has run since it was enabled; `x v a`: the observer in 2^-40 counts
(R316); `edge`, `eC`, `eT`, `pv`: the period method's last edge in the present direction with its time (or the event T_ZERO
counts from, R319) and the last complete value; `pok`, `sok`: period method valid in the last sample, SPD_VALID of R321;
`useObs`, `blend`, `bto`: method in use, sample of a change, and its target; `lost`: the last serial transaction was lost;
`sampleT`: time of the last serial sample in ns; `moved`: the differences of R295 added up, `movedAt`: their sum at the last stage 3; `stand`: what
stands for the boundary on an analog channel. -/
structure FbCh where
  p0 : FbPair
  p1 : FbPair
  sel : Nat
  live : Bool
  x : Int
  v : Int
  a : Int
  edge : Bool
  eC : Int
  eT : Nat
  pv : Option Int
  pok : Bool
  sok : Bool
  dirDn : Bool
  useObs : Bool
  blend : Nat
  bto : Bool
  lost : Bool
  sampleT : Nat
  moved : Int
  movedAt : Int
  stVel : Int
  stand : Option Stand
  deriving DecidableEq, Repr

/-- A channel just enabled. -/
def FbCh.init : FbCh where
  p0 := FbPair.init
  p1 := FbPair.init
  sel := 0
  live := false
  x := 0
  v := 0
  a := 0
  edge := false
  eC := 0
  eT := 0
  pv := none
  pok := false
  sok := false
  dirDn := false
  useObs := false
  blend := 0
  bto := false
  lost := false
  sampleT := 0
  moved := 0
  movedAt := 0
  stVel := 0
  stand := none

/-- What a serial port's negotiation is at (10 R332): the clock held high since a tick, three IDENTs at 1 MHz (tries made),
the RATE command, three IDENTs at the new rate (valid ones), or stopped since a tick after a signal fault (R337). -/
inductive Nego where
  | hold (since : Nat)
  | ident (tries : Nat)
  | rate
  | verify (good : Nat)
  | pause (since : Nat)
  deriving DecidableEq, Repr

/-- A serial port (10 R327 to R339): negotiation step, the rate code it tries (a cap before RATE is sent), the LSB in nm of
its IDENT, whether a transaction started at a boundary runs, the tick before which no other may start, the 24 command bits it drives
in a KSP transaction (R328), and the time in ns at which the transfer that runs began (R339). -/
structure SerPort where
  nego : Option Nego
  code : Nat
  lsb : Nat
  busy : Bool
  idle : Nat
  cmd : Nat
  began : Nat
  deriving DecidableEq, Repr

/-- Off. -/
def SerPort.init : SerPort where
  nego := none
  code := 0
  lsb := 0
  busy := false
  idle := 0
  cmd := 0
  began := 0

/-- An emulation output (10 R323 to R326): P since the enable or the base, in 1 / 16,384,000 um, edges emitted since the enable, edges
emitted at the base, and whether the backlog was dropped in the last period. -/
structure Emu where
  on : Bool
  p : Int
  edges : Int
  base : Int
  drop : Bool
  deriving DecidableEq, Repr

/-- Disabled. -/
def Emu.init : Emu where
  on := false
  p := 0
  edges := 0
  base := 0
  drop := false

/-- The feedback interface (10). -/
structure Fbk where
  chans : List (Nat × FbCh)
  ports : List (Nat × SerPort)
  emus : List (Nat × Emu)
  deriving DecidableEq, Repr

/-- Nothing running. -/
def Fbk.init : Fbk := ⟨[], [], []⟩

/-! ### 14: field inputs and outputs -/

/-- A frame to a group or FG4 link (14 R436, R462): sequence count, output requests, the permission word and whether its check
is right, compare pulses (output, width in ticks), latches to clear, configuration (TIMEOUT, silent action, RESTART, EDGE of the
fast inputs in two bits each, the filter time of each input in ms), the PTP time in ns, and the lines of an FG4 link. -/
structure FieldFrame where
  seq : Nat
  req : Nat
  perm : Nat
  permOk : Bool
  pulses : List (Nat × Nat)
  clr : Nat
  tmo : Nat
  pat : Option Nat
  restart : Nat
  lines : Nat
  edge : Nat
  filt : List Nat
  now : Nat
  deriving DecidableEq, Repr

/-- What forces an output off at its die (14 Table 14.3): a thermal shutdown still hot, causes 1 and 2, the declared fault (4,
5 or 6; 0 none) with its partner, and the thermal shutdowns counted. -/
structure OutSt where
  hot : Bool
  c1 : Bool
  c2 : Bool
  stuck : Nat
  partner : Nat
  therm : Nat
  deriving DecidableEq, Repr

/-- Nothing forced. -/
def OutSt.init : OutSt := ⟨false, false, false, 0, 0, 0⟩

/-- The die of FG0 to FG3, and the supply side of FG4's (14 R433): count of the last valid frame, count and tick of the last
accepted one, silent action and its report, applied configuration, requests, permissions, running compare pulses with their
end ticks, the off-pulse, outputs, inputs (24 bits), edges since the last grid instant, counters; `lat`, `latEdges`,
`latCnt`: what the last grid instant latched; `newTherm`: thermal shutdowns not yet reported; `rb`, `low`: last sampled
readback, and outputs that read low though on at the last grid instant; supply state with the ticks L+ went below 16.0 V
or above 18.0 V; `uvSafe`: a safety output was on when UV set; `edge`, `filt`: the applied EDGE and filter times; `accs`: the
time (ns) at which each filtered input last took a new level. -/
structure Die where
  ref : Option Nat
  vseq : Option Nat
  heard : Nat
  silent : Bool
  silAct : Bool
  tmo : Nat
  pat : Option Nat
  restart : Nat
  req : Nat
  perm : Nat
  pulses : List (Nat × Nat)
  off : Option Nat
  outs : List (Nat × OutSt)
  inputs : Nat
  edges : List (Nat × Bool × Nat)
  cnt : List (Nat × Nat)
  lat : Nat
  latEdges : List (Nat × Bool × Nat)
  latCnt : List (Nat × Nat)
  newTherm : Nat
  rb : Nat
  low : Nat
  uv : Bool
  warn : Bool
  lplus : Nat
  lowFrom : Option Nat
  okFrom : Option Nat
  uvSafe : Bool
  edge : Nat
  filt : List Nat
  accs : List (Nat × Nat)
  deriving DecidableEq, Repr

/-- A die that has received no frame. -/
def Die.init : Die where
  ref := none
  vseq := none
  heard := 0
  silent := false
  silAct := false
  tmo := 10
  pat := none
  restart := 0
  req := 0
  perm := 0
  pulses := []
  off := none
  outs := []
  inputs := 0
  edges := []
  cnt := []
  lat := 0
  latEdges := []
  latCnt := []
  newTherm := 0
  rb := 0
  low := 0
  uv := false
  warn := false
  lplus := 0
  lowFrom := none
  okFrom := none
  uvSafe := false
  edge := 0
  filt := []
  accs := []

/-- One link of the FG4 die (14 R462): count of the last valid frame, tick of the last accepted one, lines energised. -/
structure StoLink where
  ref : Option Nat
  heard : Nat
  lines : Nat
  deriving DecidableEq, Repr

/-- No frame received. -/
def StoLink.init : StoLink := ⟨none, 0, 0⟩

/-- A fast input's frequency measurement (14 R448): reference edge and last edge in ns, rising edges after the reference,
ticks of the last result and of the last reply with a rising edge, and whether the zero result completed. -/
structure FreqIn where
  ref : Option Nat
  n : Nat
  last : Nat
  done : Option Nat
  seen : Nat
  zeroed : Bool
  deriving DecidableEq, Repr

/-- No edge seen. -/
def FreqIn.init : FreqIn := ⟨none, 0, 0, none, 0, false⟩

/-- Field interface (14). `dies`, `links`: what stays powered from L+ through every reset (R433); the rest is the logic side:
the last frame sent per group (0 to 3) and FG4 link (4, 5), its count, consecutive bad replies per group, compare pulses
and latch clears waiting for the next frame, frequency measurements, and the line commands of the frame before. -/
structure Fio where
  dies : List (Nat × Die)
  links : List (Nat × StoLink)
  sent : List (Nat × FieldFrame)
  seq : List (Nat × Nat)
  bad : List (Nat × Nat)
  pulses : List (Nat × Nat)
  clr : Nat
  freq : List (Nat × FreqIn)
  cmdPrev : List (Nat × Nat)
  deriving DecidableEq, Repr

/-- Nothing sent. -/
def Fio.init : Fio := ⟨[], [], [], [], [], [], 0, [], []⟩

/-! ### 15, 16: safety -/

/-- A path's tap of one field group (15 Table 15.1, 16 R492): count of its last fresh reply, grid instants since, consecutive
stale, absent and fresh replies, lost and silent-action states, whether the group's safety outputs wait for four fresh
replies (R511), inputs and readback of the latest reply, and UV as it reports it. -/
structure Tap where
  last : Option Nat
  since : Nat
  stale : Nat
  absent : Nat
  fresh : Nat
  lost : Bool
  sil : Bool
  hold : Bool
  inputs : Nat
  rb : Nat
  uv : Bool
  deriving DecidableEq, Repr

/-- A tap that has had no reply. -/
def Tap.init : Tap := ⟨none, 0, 0, 0, 0, false, false, true, 0, 0, false⟩

/-- A safety input pair on one path (16 R489, R491): disagreement count, and after a discrepancy fault what it still needs: 3 the
deliberate reset, 2 both channels at 0, 1 both at 1. -/
structure PairSt where
  cnt : Nat
  need : Nat
  deriving DecidableEq, Repr

/-- No disagreement. -/
def PairSt.init : PairSt := ⟨0, 0⟩

/-- A landing-bus interlock node on one path (16 R516, R517): last SEQ, contact bits, the tick of the last accepted telegram,
whether its watchdog has not expired, and its pair. -/
structure IlkNode where
  seq : Option Nat
  state : Nat
  tick : Nat
  alive : Bool
  pair : PairSt
  deriving DecidableEq, Repr

/-- Nothing heard. -/
def IlkNode.init : IlkNode := ⟨none, 0, 0, false, PairSt.init⟩

/-- A car device's latest CAR_STATE (16 Table 16.4). -/
structure CarTel where
  seq : Option Nat
  tick : Nat
  alive : Bool
  flags : Nat
  pos : Int
  vel : Int
  ack : Nat
  deriving DecidableEq, Repr

/-- Nothing accepted. -/
def CarTel.init : CarTel := ⟨none, 0, false, 0, 0, 0, 0⟩

/-- A car entry of SEC_STATE (16 Table 16.5). -/
structure SecEntry where
  car : Nat
  cf : Nat
  pos : Int
  vel : Int
  deriving DecidableEq, Repr

/-- A section device's latest SEC_STATE (16 Table 16.5). -/
structure SecTel where
  seq : Option Nat
  tick : Nat
  alive : Bool
  flags : Nat
  cars : List SecEntry
  deriving DecidableEq, Repr

/-- Nothing accepted. -/
def SecTel.init : SecTel := ⟨none, 0, false, 0, []⟩

/-- A section device's latest PERMIT (16 Table 16.5), and the position of the car when it was granted. -/
structure PermitTel where
  seq : Option Nat
  tick : Nat
  alive : Bool
  car : Nat
  landing : Nat
  flags : Nat
  target : Int
  dzDn : Nat
  dzUp : Nat
  posAt : Int
  deriving DecidableEq, Repr

/-- Nothing accepted. -/
def PermitTel.init : PermitTel := ⟨none, 0, false, 0, 0, 0, 0, 0, 0, 0⟩

/-- A door-zone permission this section device grants (11 R368): the landing, the car's position when it was granted, and
whether it holds (a withdrawn one is sent once more, 16 R515). -/
structure Grant where
  landing : Nat
  posAt : Int
  on : Bool
  deriving DecidableEq, Repr

/-- What the Eclipse logic keeps per channel (16 R499, R506): whether its last slot was accepted, PRESENT and 10-bit phase of
each pair in it, and the last step of each pair where two consecutive slots were accepted. -/
structure EclCh where
  ok : Bool
  pres0 : Bool
  pres1 : Bool
  ph0 : Nat
  ph1 : Nat
  step0 : Int
  step1 : Int
  deriving DecidableEq, Repr

/-- Nothing accepted. -/
def EclCh.init : EclCh := ⟨false, false, false, 0, 0, 0, 0⟩

/-- The safety core's own position and speed of a car (16 R498): `ok` while its pairs give one, else the last, or that its record was
taken with. -/
structure CorePos where
  ok : Bool
  pos : Int
  vel : Int
  deriving DecidableEq, Repr

/-- None. -/
def CorePos.init : CorePos := ⟨false, 0, 0⟩

/-- The tape as the paths read it (16 R501): the core's position, speed and sample time in ns, whether the last transfer
was good, the Eclipse logic's bits [39:10] with their times, newest first, and the position at which each door was last
seen closed and locked, or a permission came into force (R503). -/
structure TapeSt where
  ok : Bool
  pos : Int
  vel : Int
  t : Nat
  ecl : List (Nat × Nat)
  ref : Option Int
  deriving DecidableEq, Repr

/-- Nothing read. -/
def TapeSt.init : TapeSt := ⟨false, 0, 0, 0, [], none⟩

/-- An SPS image presented or being confirmed (16 R520 to R523): the bytes of its bank image and where they go (a bank, or a shadow, 18
R565), the tick of the accepted confirmation, and the tick KEY_CF closed. -/
structure SpsXfer where
  img : List Byte
  toB : Bool
  shadow : Option Nat
  confirmAt : Option Nat
  cfFrom : Option Nat
  deriving DecidableEq, Repr

/-- The two safety paths (15, 16). Maps keyed per path use path * 64 + number, path 0 the safety core, 1 the Eclipse logic:
`taps` (group), `pairs` (safety input pair), `nodes` (port * 32 + node; key path * 64). `carTels`, `secTels`, `permits`
are keyed by sender; `seqs` by KIND; `grants`, `core` by car record; `ecl` by channel; `corePr`: the core's own sensor pairs, keyed
channel * 2 + pair (15 R466); `aOn`: ports whose A line is commanded,
with the tick since when; `bOn`: ports whose B line is commanded; `lineBad`, `nodeBad`: consecutive grid instants of
disagreement per path and line, and per path and port; `brkBad`: tick since when a brake's feedback does not follow, keyed path * 2 + brake;
`trip`: functions that raised a fault since the last deliberate reset; `stops`: the cars that those faults stop (16 R487); `latched`: SAF_FAULT holds the first fault since then;
`coreDown`, `eclFail`, `clkBad`: faults whose cause persists; `rstLow`,
`rstArmed`, `rstRise`, `rstHold`: the reset pair (15 R476, R477), ticks and a completed hold in ns; `xfer`: an SPS
image under confirmation. -/
structure Saf where
  taps : List (Nat × Tap)
  pairs : List (Nat × PairSt)
  nodes : List (Nat × IlkNode)
  carTels : List (Nat × CarTel)
  secTels : List (Nat × SecTel)
  permits : List (Nat × PermitTel)
  seqs : List (Nat × Nat)
  grants : List (Nat × Grant)
  core : List (Nat × CorePos)
  corePr : List (Nat × FbPair)
  ecl : List (Nat × EclCh)
  tape : TapeSt
  aOn : List (Nat × Nat)
  bOn : Nat
  lineBad : List (Nat × Nat)
  nodeBad : List (Nat × Nat)
  brkBad : List (Nat × Nat)
  trip : Nat
  stops : List Nat
  latched : Bool
  coreDown : Bool
  eclFail : Bool
  clkBad : Bool
  rstLow : Option Nat
  rstArmed : Bool
  rstRise : Option Nat
  rstHold : Option Nat
  xfer : Option SpsXfer
  deriving DecidableEq, Repr

/-- Both paths just started. -/
def Saf.init : Saf :=
  { taps := [], pairs := [], nodes := [], carTels := [], secTels := [], permits := [], seqs := [], grants := [], core := [],
    corePr := [], ecl := [], tape := TapeSt.init, aOn := [], bOn := 0, lineBad := [], nodeBad := [], brkBad := [], trip := 0,
    stops := [], latched := false, coreDown := false, eclFail := false, clkBad := false, rstLow := none, rstArmed := false,
    rstRise := none, rstHold := none, xfer := none }

/-! ### 12: stop scheduling and budget -/

/-- A car's stop scheduling (12 R375 to R388). `dir`: 0 NONE, 1 UP, 2 DN; `queue`: ascending TARGET; `level`: a move to a
stop has completed and no DEPART was given since; `eval`: EVAL; `goal`: target of the admitted or running move; `start`: an
admitted move waiting for its T0 (ns), and whether it is a RESUME; `refused`: landings refused in this rescue (R407);
`woke`: wake notices sent, by device and landing (R395); `redo`: the stop of a move the scheduler has aborted for a new one (R385);
`relev`: the admitted move re-levels (R382). -/
structure BssCar where
  dir : Nat
  queue : List StopEntry
  depart : Bool
  level : Bool
  eval : Nat
  reason : Nat
  deferCnt : Nat
  goal : Option StopEntry
  start : Option (Nat × MoveArg × Bool)
  refused : List (Nat × Nat)
  woke : List (Nat × Nat × Nat)
  redo : Option StopEntry
  relev : Bool
  deriving DecidableEq, Repr

/-- No stops. -/
def BssCar.init : BssCar where
  dir := 0
  queue := []
  depart := false
  level := false
  eval := 0
  reason := 0
  deferCnt := 0
  goal := none
  start := none
  refused := []
  woke := []
  redo := none
  relev := false

/-- A reserved move as its request gives it: START, direction and span (12 Table 12.4), and the bank its rows stand in (R383). -/
structure MovePlan where
  start : Int
  down : Bool
  rows : List TstRow
  bank1 : Bool
  deriving DecidableEq, Repr

/-- A reservation entry (12 R389 to R397). `st`: 1 pending, 2 in force; `loc`: the car is owned here; `mv`: a move interval;
`owner`: the device that holds it; `t0`, `draw`: start (ns) and 10 ms steps of the move's projected draw in W; `trims`: those
to come, by evaluation time, each with MOVE as it leaves it; `orphan`: its owner was declared dead (18 R571); `plan`: a granted
entry's move; `firm`: its owner has trimmed it since the grant; `told`: devices that hold an entry for an owned car. -/
structure ResEntry where
  car : Nat
  st : Nat
  loc : Bool
  mv : Bool
  lo : Int
  hi : Int
  id : Nat
  owner : Nat
  t0 : Nat
  draw : List Rat
  trims : List (Nat × Int × Int × Bool)
  orphan : Bool
  plan : Option MovePlan
  firm : Bool
  told : List Nat
  deriving DecidableEq, Repr

/-- An entry as it is made: no trims to come, no orphan. -/
def ResEntry.plain (car st : Nat) (loc mv : Bool) (lo hi : Int) (id owner t0 : Nat) (draw : List Rat) : ResEntry where
  car := car
  st := st
  loc := loc
  mv := mv
  lo := lo
  hi := hi
  id := id
  owner := owner
  t0 := t0
  draw := draw
  trims := []
  orphan := false
  plan := none
  firm := false
  told := []

/-- A candidate that waits for answers (12 R395 to R398): its car record and stop, move, interval, request identifier, devices
asked and those that granted, reasons found, the tick the request went out, the landings still to try in a rescue, and whether it re-levels. -/
structure Cand where
  car : Nat
  stop : StopEntry
  arg : MoveArg
  resume : Bool
  lo : Int
  hi : Int
  id : Nat
  asked : List Nat
  granted : List Nat
  reasons : List Nat
  sent : Nat
  draw : List Rat
  others : List StopEntry
  relev : Bool
  deriving DecidableEq, Repr

/-- The stop scheduler (12): cars by record, reservation entries by slot, segment temperatures in degrees C by segment, bucket
level in J, measured energy (W summed over periods, and their number) since the last evaluation, the last request
identifier, and an evaluation in progress: its time in ns, the records still to evaluate, and the candidate that waits. -/
structure Bss where
  cars : List (Nat × BssCar)
  res : List (Nat × ResEntry)
  theta : List (Nat × Rat)
  level : Rat
  pmSum : Rat
  pmN : Nat
  reqId : Nat
  todo : Option (Nat × List Nat)
  cand : Option Cand
  deriving DecidableEq, Repr

/-- Empty. -/
def Bss.init : Bss := ⟨[], [], [], 0, 0, 0, 0, none, none⟩

/-! ### 17, 18: the fabric -/

/-- The epoch in force for a source (18 R548) and the tick since when one is held. -/
structure EpochIn where
  epoch : Nat
  since : Nat
  deriving DecidableEq, Repr

/-- What a source last announced (18 R555, R556): its announcement, the ports it arrived on with their ticks, the tick since when
it announces MODE = Service. -/
structure Learned where
  ann : AnnouncePl
  ports : List (Nat × Nat)
  service : Option Nat
  deriving DecidableEq, Repr

/-- A watched peer (18 R559): 0 UNKNOWN, 1 ALIVE, 2 DEAD; ticks of its last heartbeat and of its death; the epoch in force then,
and whether a frame of its ID or a TAKEOVER for it has been accepted since. -/
structure PeerSt where
  st : Nat
  last : Nat
  dead : Nat
  epochAt : Nat
  seen : Bool
  deriving DecidableEq, Repr

/-- Not heard. -/
def PeerSt.init : PeerSt := ⟨0, 0, 0, 0, false⟩

/-- A spine port (17 R527, R531, R532): ticks and modes of the recent drops, a cable test running, the wake pulses waiting. -/
structure SpinePort where
  drops : List (Nat × Nat)
  test : Bool
  pulses : Nat
  deriving DecidableEq, Repr

/-- Idle. -/
def SpinePort.init : SpinePort := ⟨[], false, 0⟩

/-- A landing-bus port (17 R539 to R543): consecutive cycles with a collision and the number of the last one, the tick of the
CSMA/CD wait, its length in s, the tick PLCA was resumed at, and the tick of the last stranger record. -/
structure LbPort where
  colls : Nat
  cycle : Nat
  csma : Option Nat
  wait : Nat
  back : Option Nat
  strange : Option Nat
  deriving DecidableEq, Repr

/-- In PLCA. -/
def LbPort.init : LbPort := ⟨0, 0, none, 1, none, none⟩

/-- The fabric (17, 18): the tick settling began (none: it has ended), epochs, announcements, peers, last BCAST SEQ
forwarded per source, ticks of the last STALE per `source * 4 + port`, own frame SEQ, the tick the acting ID was last heard and
the newest epoch heard for it, closure by FAB_SEC_CMD or by used-up spares, sections held closed here for a dead device, a
take-over's cover slot, ports, data delivered to firmware (source or port, payload; the model's own), and `macs`: the MAC address at the
other end of each spine port. -/
structure Fab where
  settle : Option Nat
  epochs : List (Nat × EpochIn)
  learned : List (Nat × Learned)
  peers : List (Nat × PeerSt)
  bcast : List (Nat × Nat)
  stale : List (Nat × Nat)
  seq : Nat
  ownHeard : Option Nat
  ownNewest : Option Nat
  closeCmd : Bool
  spares : Bool
  closedFor : List Nat
  newer : Nat
  taking : Option Nat
  spine : List (Nat × SpinePort)
  lbs : List (Nat × LbPort)
  app : List (Nat × List Byte)
  macs : List (Nat × Nat)
  deriving DecidableEq, Repr

/-- Nothing heard. -/
def Fab.init : Fab :=
  { settle := none, epochs := [], learned := [], peers := [], bcast := [], stale := [], seq := 0, ownHeard := none,
    ownNewest := none, closeCmd := false, spares := false, closedFor := [], newer := 0, taking := none, spine := [],
    lbs := [], app := [], macs := [] }

/-! ### 20: recorder -/

/-- An event waiting for the recorder (20 R593): source block, unit, code, time and data bytes. -/
structure RecEv where
  src : Nat
  unit : Nat
  code : Nat
  sec : Nat
  ns : Nat
  data : List Byte
  deriving DecidableEq, Repr

/-- The event recorder (20): the safety queue (16), the general queue (32), the START record of this start-up still to be
written (R598), whether recording has begun, and the sender of a running clear with the events lost while it runs. The
next slot, FULL, HOLE and CLEARING stand in REC_STAT; the records themselves in the MRAM. `clearTo`: bytes of the record area
that a running clear, which comes down from the top, has not reached (R602); `clearAt`: the tick of its last progress. -/
structure Rec where
  safety : List RecEv
  general : List RecEv
  start : Option RecEv
  recording : Bool
  clear : Option (Nat × Nat)
  clearTo : Nat
  clearAt : Nat
  deriving DecidableEq, Repr

/-- Empty queues. -/
def Rec.init : Rec := ⟨[], [], none, false, none, 0, 0⟩

/-! ### 04: non-volatile memory, parameter sets, life-cycle -/

/-- The wipe-pending marker (04 R125): target state, image choice and the MRAM offset up to which the wipe has come. -/
structure WipeMarker where
  target : LifeCycle
  img : Bool
  progress : Nat
  deriving DecidableEq, Repr

/-- The take-over marker (18 R567): the adopted ID, its new epoch, the cover slot, and the standby's own epoch, which an
abandoned take-over restores. -/
structure TakeMarker where
  id : Nat
  epoch : Nat
  slot : Nat
  own : Nat
  deriving DecidableEq, Repr

/-- The life-cycle record (04 Table 4.4; 18 after R546; 15 R475): its layout is not given, so it is held as fields. `chgOut`: the
changeover output that a standby holds on (18 R569, R570; log entry 50). -/
structure LcRecord where
  state : LifeCycle
  fabricId : Nat
  actId : Nat
  epoch : Nat
  fenced : Bool
  pubKey : List Byte
  lockout : Bool
  proof : Nat
  wipe : Option WipeMarker
  take : Option TakeMarker
  chgOut : Option Nat
  deriving DecidableEq, Repr

/-- As shipped (04, Life-cycle). -/
def LcRecord.init : LcRecord := ⟨.blank, 0, 0, 0, false, [], false, 0, none, none, none⟩

/-- The MRAM (04 Table 4.4): the bytes of every area from the selectors on, with the four parameter banks and the shadows of 18 R565;
and as fields the two areas whose layout the spec does not give, the life-cycle record and the Keaveard identity (serial and ordering
code, and the MAC addresses of the spine ports, 18 R549). -/
structure NonVol where
  mram : List (Nat × Byte)
  lc : LcRecord
  serial : Nat
  codeE : Bool
  macs : List Nat
  deriving DecidableEq, Repr

/-- Erased. -/
def NonVol.init : NonVol := ⟨[], LcRecord.init, 0, false, [0, 0, 0, 0]⟩

/-- A section without segments. -/
def SectionGeom.none : SectionGeom := ⟨0, 0, [], Option.none, Option.none⟩

/-- A commit in progress, with the bytes of the bank image being written (04 R117 to R122; 18 R565: an SPS image into a shadow). -/
inductive Commit where
  | sps (img : List Byte) (toB : Bool)
  | shadow (slot : Nat) (img : List Byte)
  | ops (img : List Byte) (toB : Bool)
  deriving DecidableEq, Repr

/-- What the start-up sequence put in force (04 R101 to R116) and what CFG is doing: role, loader, section parameters,
the operational content in force for T_s, the safety set in force, commit or wipe in progress, reset causes collected
since the last release, the supply rail that caused a reset, whether the start-up before resumed a wipe; `wipeFrom`: the tick the
wipe's present 64 KiB began at. -/
structure Conf where
  role : Option Role
  loader : Bool
  geom : SectionGeom
  sps : SpsContent
  commit : Option Commit
  spsNext : Option SpsContent
  wiping : Bool
  causes : Nat
  rail : Nat
  resumed : Bool
  imgVersion : Nat
  tsNs : Nat
  ops : OpsContent
  wipeFrom : Nat
  deriving DecidableEq, Repr

/-- Pins and test access (21): BOOT straps as latched, nRST level, USB pull-up, the TAP's instruction, what its selected data register
captured (both in PD0), and the update stage of the boundary chain. -/
structure Pins where
  boot : Nat
  nrst : Bool
  usb : Bool
  tapIr : Nat
  tapDr : Nat
  chain : Nat
  deriving DecidableEq, Repr

/-- Instruction code of IDCODE (21 Table 21.7). -/
def tapIdcode : Nat := 1
/-- The IDCODE register (21 R622). -/
def idcodeWord : Nat := 0x30128A4D

/-- nRST high, Test-Logic-Reset with IDCODE selected. -/
def Pins.init : Pins := ⟨0, true, false, tapIdcode, idcodeWord, 0⟩

end Sys2Proof.Machine
end

