-- ==== Sys2Proof/Machine/Frames.lean ====
section
/-!
DEFINITION. The bytes of what the device sends on a spine port: the move record (08 Table 8.5), the payloads (18 Table 18.3) and the
fabric frame around them (18 Table 18.1).
-/

namespace Sys2Proof.Machine

open Sys2Proof

/-- A signed number in n little-endian bytes. -/
def leSigned (n : Nat) (v : Int) : List Byte := leBytes n (uns (8 * n) v)

/-- The bytes of a move record (08 Table 8.5, R264): 72, little-endian. -/
def moveBytes (m : MoveRec) : List Byte :=
  leSigned 8 m.start ++ leBytes 2 m.first ++ leBytes 2 m.count ++ leBytes 2 m.id ++
    leBytes 1 (b2n m.dir * 128 + m.kind % 4) ++ leBytes 1 m.state ++ leBytes 8 m.tau ++ leBytes 4 m.ov ++ leBytes 4 m.ovTgt ++
    leBytes 4 m.ovPrev ++ leBytes 4 m.vPeak ++ wordBytes m.check ++ leBytes 4 m.aCap ++ leBytes 4 m.jCap ++
    leSigned 8 m.rampP ++ leSigned 8 m.rampV ++ leSigned 4 m.rampA

/-- The bytes of a TST row (08 Table 8.1). -/
def rowBytes (r : TstRow) : List Byte := leBytes 4 r.dt ++ leSigned 4 r.pos ++ leSigned 4 r.vel ++ leBytes 4 r.flags

/-- One share entry of SHARE and CLAIM. -/
def shareBytes (e : ShareEntry) : List Byte := leBytes 1 e.seg ++ [0, 0, 0] ++ leSigned 4 e.share

/-- One stop-queue entry of STOPQ. -/
def stopBytes (e : StopEntry) : List Byte :=
  leBytes 1 e.member ++ leBytes 1 e.landing ++ leBytes 1 e.sides ++ leBytes 1 e.flags ++ leSigned 8 e.target

/-- A BSS payload: SUB, three bytes of 0, then the fields of 12 Table 12.4 in order. -/
def bssBytes (sub : Nat) (b : List Byte) : List Byte := leBytes 4 sub ++ b

/-- The payload of a frame (18 Table 18.3); 12 Table 12.4 gives no width for DIR, a landing, a queue entry or D, nor for the masses and
lengths (DESIGN CHOICE, log entry 103). -/
def payloadBytes (b : FrameBody) : List Byte :=
  match b with
  | .announce p =>
    leBytes 8 p.serial ++ leBytes 1 p.role ++ leBytes 1 p.mode ++ leBytes 2 p.flags ++ leBytes 4 p.tsNs ++ leSigned 8 p.extLo ++
      leSigned 8 p.extHi
  | .heartbeat p => leBytes 1 p.mode ++ leBytes 1 p.flags ++ [0, 0]
  | .share p => leBytes 2 p.car ++ leBytes 2 p.entries.length ++ leBytes 8 p.stamp ++ p.entries.flatMap shareBytes
  | .offer p =>
    leBytes 4 p.car ++ leBytes 4 p.mass ++ leSigned 4 p.arrOfs ++ leBytes 4 p.arrLen ++ p.ctx.flatMap wordBytes ++ moveBytes p.move
  | .hoOut p => leBytes 4 p.car ++ leBytes 8 p.period ++ leSigned 4 p.u
  | .claim p => leBytes 2 p.car ++ leBytes 2 p.entries.length ++ leBytes 8 p.period ++ p.entries.flatMap shareBytes
  | .hoFail p => leBytes 4 p.car ++ leBytes 8 p.period
  | .segstat p =>
    leBytes 2 p.car ++ leBytes 2 p.segs.length ++ leBytes 8 p.period ++ p.segs.flatMap (fun e => leBytes 1 e.1 ++ leBytes 1 e.2 ++ [0, 0])
  | .wake p => leBytes 4 p.car ++ leBytes 8 p.arrS ++ leBytes 4 p.arrNs
  | .rescue p => leBytes 4 p.reason
  | .takeover p => leBytes 2 p.id ++ leBytes 2 p.epoch ++ leBytes 4 p.own ++ leBytes 8 p.serial
  | .fenced p => leBytes 8 p.serial ++ leBytes 4 p.newer
  | .stale p => leBytes 2 p.id ++ leBytes 2 p.epoch
  | .resReq p =>
    bssBytes 1 (leBytes 4 p.id ++ leBytes 2 p.car ++ leSigned 8 p.lo ++ leSigned 8 p.hi ++ leSigned 8 p.start ++ leSigned 8 p.target ++
      leBytes 1 (b2n p.dir) ++ leBytes 4 p.mass ++ leSigned 4 p.arrOfs ++ leBytes 4 p.arrLen ++ leBytes 1 p.member ++
      leBytes 1 p.landing ++ leBytes 1 p.sides ++ leBytes 8 p.t0 ++ p.rows.flatMap rowBytes)
  | .resAns p => bssBytes 2 (leBytes 4 p.id ++ leBytes 1 p.outcome ++ leBytes 1 p.reason)
  | .resRel p => bssBytes 3 (leBytes 4 p.id)
  | .resTrim p => bssBytes 4 (leBytes 2 p.car ++ leSigned 8 p.lo ++ leSigned 8 p.hi ++ leBytes 8 p.t)
  | .stopq p => bssBytes 5 (leBytes 2 p.car ++ leBytes 1 p.d ++ p.queue.flatMap stopBytes)
  | .safety t => t
  | .raw _ p => p
  | .wakePulse => []

/-- TYPE of a frame (18 Table 18.2). -/
def frameType (b : FrameBody) : Nat :=
  match b with
  | .announce _ => 1
  | .heartbeat _ => 2
  | .share _ => 3
  | .offer _ => 4
  | .hoOut _ => 5
  | .claim _ => 6
  | .hoFail _ => 7
  | .resReq _ | .resAns _ | .resRel _ | .resTrim _ | .stopq _ => 8
  | .wake _ => 9
  | .safety _ => 10
  | .takeover _ => 11
  | .fenced _ => 12
  | .stale _ => 13
  | .rescue _ => 14
  | .segstat _ => 15
  | .raw t _ => t
  | .wakePulse => 0

/-- A payload filled up with zeros to a multiple of 4 bytes, as LEN has it (18 Table 18.1). -/
def padded (b : List Byte) : List Byte := b ++ List.replicate ((4 - b.length % 4) % 4) 0

/-- The bytes of a fabric frame after its EtherType (18 Table 18.1, R549). -/
def frameBytes (f : TxFrame) : List Byte :=
  let p := padded (payloadBytes f.body)
  let b := [1] ++ leBytes 1 (frameType f.body) ++ leBytes 2 (f.src % 2 ^ 14) ++ leBytes 2 (f.dst % 2 ^ 14) ++ leBytes 2 f.epoch ++
    leBytes 1 f.hops ++ leBytes 1 (b2n f.bcast) ++ leBytes 2 p.length ++ leBytes 4 f.seq ++ p
  b ++ wordBytes (crc32c b)

end Sys2Proof.Machine
end

