-- ==== Sys2Proof/Machine/RegMap.lean ====
section
/-!
DEFINITION. The register map of the HX-128 (23 Table 23.2, R643, and every register heading of the block chapters):
`Reg.X` is the address of register X (indexed registers take their index), `F.X.FIELD` is a field of it (the bits
column of its table), and `regRows` is the map itself: base, strides and counts, access type (05 Table 5.1), reset
value, writable bits, RC bits, update group (05 Table 5.2) and place in a 64-bit pair (R138).
-/

namespace Sys2Proof.Machine

/-- A field of a register: its address and its bit range (05 R132). -/
structure FRef where
  addr : Nat
  bits : Bits
  deriving DecidableEq, Repr

/-- How a register word is accessed (05 Table 5.1). A GW register has a VAL word and a CPL word (R153). -/
inductive Acc where
  | rw | ro | rc | wo | gwVal | gwCpl
  deriving DecidableEq, Repr

/-- Place of a register in a 64-bit pair (05 R138). -/
inductive PairRole where
  | single | lo | hi
  deriving DecidableEq, Repr

/-- One row of the register map: registers `base + i * s1 + j * s2` for `i < n1`, `j < n2`. -/
structure RegRow where
  base : Nat
  n1 : Nat
  s1 : Nat
  n2 : Nat
  s2 : Nat
  acc : Acc
  reset : Nat
  wmask : Nat
  rcmask : Nat
  group : Option Nat
  pair : PairRole
  deriving DecidableEq, Repr

/-- A single register. -/
def RegRow.one (base : Nat) (acc : Acc) (reset wmask rcmask : Nat) (group : Option Nat) (pair : PairRole) : RegRow :=
  ⟨base, 1, 4, 1, 4, acc, reset, wmask, rcmask, group, pair⟩

/-- A register array with one index. -/
def RegRow.arr (base n s : Nat) (acc : Acc) (reset wmask rcmask : Nat) (group : Option Nat) (pair : PairRole) : RegRow :=
  ⟨base, n, s, 1, 4, acc, reset, wmask, rcmask, group, pair⟩

/-- Whether the row holds address `a`. -/
def RegRow.holds (r : RegRow) (a : Nat) : Bool :=
  r.base ≤ a &&
    (let d := a - r.base
     let i := d / r.s1
     let e := if i < r.n1 then d % r.s1 else d - (r.n1 - 1) * r.s1
     decide (i < r.n1) && e % r.s2 == 0 && decide (e / r.s2 < r.n2))

namespace Reg

/-- PCM_MODE_REQ (03). -/
abbrev PCM_MODE_REQ : Nat := 0x40010000
/-- PCM_MODE_STAT (03). -/
abbrev PCM_MODE_STAT : Nat := 0x40010008
/-- PCM_EVENT (03). -/
abbrev PCM_EVENT : Nat := 0x4001000c
/-- PCM_WAKE_CFG (03). -/
abbrev PCM_WAKE_CFG : Nat := 0x40010010
/-- PCM_ALARM (03). -/
abbrev PCM_ALARM : Nat := 0x40010014
/-- PCM_IDLE (03). -/
abbrev PCM_IDLE : Nat := 0x40010018
/-- SYS_ID (04). -/
abbrev SYS_ID : Nat := 0x40000000
/-- SYS_RESET_CAUSE (04). -/
abbrev SYS_RESET_CAUSE : Nat := 0x40000004
/-- SYS_RESET_REQ (04). -/
abbrev SYS_RESET_REQ : Nat := 0x40000010
/-- CFG_STAT (04). -/
abbrev CFG_STAT : Nat := 0x400e0000
/-- CFG_DEFAULT (04). -/
abbrev CFG_DEFAULT : Nat := 0x400e0004
/-- CFG_EVENT (04). -/
abbrev CFG_EVENT : Nat := 0x400e0008
/-- CFG_LC_CMD (04). -/
abbrev CFG_LC_CMD : Nat := 0x400e0010
/-- CFG_OPS_COMMIT (04). -/
abbrev CFG_OPS_COMMIT : Nat := 0x400e0018
/-- SYS_UPDATE (05). -/
abbrev SYS_UPDATE : Nat := 0x40000020
/-- SYS_UPD_STAT (05). -/
abbrev SYS_UPD_STAT : Nat := 0x40000024
/-- SYS_SNAP (05). -/
abbrev SYS_SNAP : Nat := 0x40000028
/-- SYS_EVENT (05). -/
abbrev SYS_EVENT : Nat := 0x40000030
/-- SYS_ERR_ADDR (05). -/
abbrev SYS_ERR_ADDR : Nat := 0x40000034
/-- TAC_DIAGg_i, 192 by 4 (06). -/
abbrev TAC_DIAG (i j : Nat) : Nat := 0x40023000 + 0x10 * i + 4 * j
/-- TAC_ENG_HALT (06). -/
abbrev TAC_ENG_HALT : Nat := 0x40023c00
/-- TAC_EVENT (06). -/
abbrev TAC_EVENT : Nat := 0x40023c08
/-- TAC_TRAP_INFOn, 8 registers (06). -/
abbrev TAC_TRAP_INFO (i : Nat) : Nat := 0x40023c20 + 0x4 * i
/-- TAC_PARAMg_i, 192 by 64 (06). -/
abbrev TAC_PARAM (i j : Nat) : Nat := 0x40024000 + 0x100 * i + 4 * j
/-- TAC_SLOTg_BIND, 192 registers (07). -/
abbrev TAC_SLOT_BIND (i : Nat) : Nat := 0x40020000 + 0x10 * i
/-- TAC_SLOTg_CODE, 192 registers (07). -/
abbrev TAC_SLOT_CODE (i : Nat) : Nat := 0x40020004 + 0x10 * i
/-- TAC_SLOTg_PRIV, 192 registers (07). -/
abbrev TAC_SLOT_PRIV (i : Nat) : Nat := 0x40020008 + 0x10 * i
/-- TAC_SLOTg_LIMIT, 192 registers (07). -/
abbrev TAC_SLOT_LIMIT (i : Nat) : Nat := 0x4002000c + 0x10 * i
/-- TAC_ENGn_SHARED, 8 registers (07). -/
abbrev TAC_ENG_SHARED (i : Nat) : Nat := 0x40020c00 + 0x4 * i
/-- TAC_PERIOD (07). -/
abbrev TAC_PERIOD : Nat := 0x40020c20
/-- TAC_SPLIT (07). -/
abbrev TAC_SPLIT : Nat := 0x40020c24
/-- TAC_HO_CFG_CAR (07). -/
abbrev TAC_HO_CFG_CAR : Nat := 0x40020c30
/-- TAC_HO_CFG_CH (07). -/
abbrev TAC_HO_CFG_CH : Nat := 0x40020c34
/-- TAC_CAR_FB (07). -/
abbrev TAC_CAR_FB : Nat := 0x40020c38
/-- TAC_STRADDLE_V (07). -/
abbrev TAC_STRADDLE_V : Nat := 0x40020c3c
/-- TAC_SEG_FMAX (07). -/
abbrev TAC_SEG_FMAX : Nat := 0x40020c40
/-- TAC_OVRg, 192 registers (07). -/
abbrev TAC_OVR (i : Nat) : Nat := 0x40021000 + 0x4 * i
/-- TAC_OVR_EVENTi, 6 registers (07). -/
abbrev TAC_OVR_EVENT (i : Nat) : Nat := 0x40021300 + 0x4 * i
/-- TAC_FAULT_EVENTi, 6 registers (07). -/
abbrev TAC_FAULT_EVENT (i : Nat) : Nat := 0x40021320 + 0x4 * i
/-- TAC_FAULT_CLR (07). -/
abbrev TAC_FAULT_CLR : Nat := 0x40021340
/-- TAC_HO_CMD (07). -/
abbrev TAC_HO_CMD : Nat := 0x40021400
/-- TAC_HO_CARc, 8 registers (07). -/
abbrev TAC_HO_CAR (i : Nat) : Nat := 0x40021410 + 0x4 * i
/-- TAC_HO_LAST (07). -/
abbrev TAC_HO_LAST : Nat := 0x40021430
/-- TAC_SCHED_EVENT (07). -/
abbrev TAC_SCHED_EVENT : Nat := 0x40021434
/-- TRJ_AXISn_CFG, 8 registers (08). -/
abbrev TRJ_AXIS_CFG (i : Nat) : Nat := 0x40030000 + 0x40 * i
/-- TRJ_AXISn_VRATED, 8 registers (08). -/
abbrev TRJ_AXIS_VRATED (i : Nat) : Nat := 0x40030004 + 0x40 * i
/-- TRJ_AXISn_ACAP, 8 registers (08). -/
abbrev TRJ_AXIS_ACAP (i : Nat) : Nat := 0x40030008 + 0x40 * i
/-- TRJ_AXISn_JCAP, 8 registers (08). -/
abbrev TRJ_AXIS_JCAP (i : Nat) : Nat := 0x4003000c + 0x40 * i
/-- TRJ_AXISn_HOME, 8 registers (08). -/
abbrev TRJ_AXIS_HOME (i : Nat) : Nat := 0x40030010 + 0x40 * i
/-- TRJ_AXISn_REF_LO, 8 registers (08). -/
abbrev TRJ_AXIS_REF_LO (i : Nat) : Nat := 0x40030014 + 0x40 * i
/-- TRJ_AXISn_REF_HI, 8 registers (08). -/
abbrev TRJ_AXIS_REF_HI (i : Nat) : Nat := 0x40030018 + 0x40 * i
/-- TRJ_AXISn_OVR, 8 registers (08). -/
abbrev TRJ_AXIS_OVR (i : Nat) : Nat := 0x4003001c + 0x40 * i
/-- TRJ_AXISn_STAT, 8 registers (08). -/
abbrev TRJ_AXIS_STAT (i : Nat) : Nat := 0x40030020 + 0x40 * i
/-- TRJ_AXISn_MOVE, 8 registers (08). -/
abbrev TRJ_AXIS_MOVE (i : Nat) : Nat := 0x40030024 + 0x40 * i
/-- TRJ_AXISn_REM, 8 registers (08). -/
abbrev TRJ_AXIS_REM (i : Nat) : Nat := 0x40030028 + 0x40 * i
/-- TRJ_AXISn_SNP_LO, 8 registers (08). -/
abbrev TRJ_AXIS_SNP_LO (i : Nat) : Nat := 0x4003002c + 0x40 * i
/-- TRJ_AXISn_SNP_HI, 8 registers (08). -/
abbrev TRJ_AXIS_SNP_HI (i : Nat) : Nat := 0x40030030 + 0x40 * i
/-- TRJ_AXISn_SNV, 8 registers (08). -/
abbrev TRJ_AXIS_SNV (i : Nat) : Nat := 0x40030034 + 0x40 * i
/-- TRJ_AXISn_HRES_LO, 8 registers (08). -/
abbrev TRJ_AXIS_HRES_LO (i : Nat) : Nat := 0x40030038 + 0x40 * i
/-- TRJ_AXISn_HRES_HI, 8 registers (08). -/
abbrev TRJ_AXIS_HRES_HI (i : Nat) : Nat := 0x4003003c + 0x40 * i
/-- TRJ_SPAN (08). -/
abbrev TRJ_SPAN : Nat := 0x40030200
/-- TRJ_MOVE_ARG (08). -/
abbrev TRJ_MOVE_ARG : Nat := 0x40030204
/-- TRJ_CMD (08). -/
abbrev TRJ_CMD : Nat := 0x40030208
/-- TRJ_CMD_STAT (08). -/
abbrev TRJ_CMD_STAT : Nat := 0x4003020c
/-- TRJ_EVENT (08). -/
abbrev TRJ_EVENT : Nat := 0x40030210
/-- TRJ_AXIS_EVENT (08). -/
abbrev TRJ_AXIS_EVENT : Nat := 0x40030214
/-- TRJ_SNAP (08). -/
abbrev TRJ_SNAP : Nat := 0x40030218
/-- TRJ_LATm_CFG, 16 registers (08). -/
abbrev TRJ_LAT_CFG (i : Nat) : Nat := 0x40030400 + 0x20 * i
/-- TRJ_LATm_POS_LO, 16 registers (08). -/
abbrev TRJ_LAT_POS_LO (i : Nat) : Nat := 0x40030404 + 0x20 * i
/-- TRJ_LATm_POS_HI, 16 registers (08). -/
abbrev TRJ_LAT_POS_HI (i : Nat) : Nat := 0x40030408 + 0x20 * i
/-- TRJ_LATm_TS_LO, 16 registers (08). -/
abbrev TRJ_LAT_TS_LO (i : Nat) : Nat := 0x4003040c + 0x20 * i
/-- TRJ_LATm_TS_HI, 16 registers (08). -/
abbrev TRJ_LAT_TS_HI (i : Nat) : Nat := 0x40030410 + 0x20 * i
/-- TRJ_LAT_CMD (08). -/
abbrev TRJ_LAT_CMD : Nat := 0x40030600
/-- TRJ_LAT_STAT (08). -/
abbrev TRJ_LAT_STAT : Nat := 0x40030604
/-- TRJ_LAT_WAIT (08). -/
abbrev TRJ_LAT_WAIT : Nat := 0x40030608
/-- TRJ_CMPu_CFG, 32 registers (08). -/
abbrev TRJ_CMP_CFG (i : Nat) : Nat := 0x40030800 + 0x10 * i
/-- TRJ_CMPu_POS_LO, 32 registers (08). -/
abbrev TRJ_CMP_POS_LO (i : Nat) : Nat := 0x40030804 + 0x10 * i
/-- TRJ_CMPu_POS_HI, 32 registers (08). -/
abbrev TRJ_CMP_POS_HI (i : Nat) : Nat := 0x40030808 + 0x10 * i
/-- TRJ_CMPu_RES, 32 registers (08). -/
abbrev TRJ_CMP_RES (i : Nat) : Nat := 0x4003080c + 0x10 * i
/-- TRJ_CMP_FIRED (08). -/
abbrev TRJ_CMP_FIRED : Nat := 0x40030a00
/-- TRJ_CMP_ARMED (08). -/
abbrev TRJ_CMP_ARMED : Nat := 0x40030a04
/-- TRJ_CMP_BEHIND (08). -/
abbrev TRJ_CMP_BEHIND : Nat := 0x40030a08
/-- TRJ_CMP_DISARM (08). -/
abbrev TRJ_CMP_DISARM : Nat := 0x40030a0c
/-- CMM_CHn_CFG, 128 registers (09). -/
abbrev CMM_CH_CFG (i : Nat) : Nat := 0x40040000 + 0x20 * i
/-- CMM_CHn_RES, 128 registers (09). -/
abbrev CMM_CH_RES (i : Nat) : Nat := 0x40040004 + 0x20 * i
/-- CMM_CHn_IND, 128 registers (09). -/
abbrev CMM_CH_IND (i : Nat) : Nat := 0x40040008 + 0x20 * i
/-- CMM_CHn_KE, 128 registers (09). -/
abbrev CMM_CH_KE (i : Nat) : Nat := 0x4004000c + 0x20 * i
/-- CMM_CHn_LAMBDA, 128 registers (09). -/
abbrev CMM_CH_LAMBDA (i : Nat) : Nat := 0x40040010 + 0x20 * i
/-- CMM_CHn_ZERO, 128 registers (09). -/
abbrev CMM_CH_ZERO (i : Nat) : Nat := 0x40040014 + 0x20 * i
/-- CMM_CHn_STAT, 128 registers (09). -/
abbrev CMM_CH_STAT (i : Nat) : Nat := 0x40040018 + 0x20 * i
/-- CMM_CHn_VEC, 128 registers (09). -/
abbrev CMM_CH_VEC (i : Nat) : Nat := 0x4004001c + 0x20 * i
/-- CMM_BSETj_UP1, 4 registers (09). -/
abbrev CMM_BSET_UP1 (i : Nat) : Nat := 0x40041000 + 0x10 * i
/-- CMM_BSETj_UP2, 4 registers (09). -/
abbrev CMM_BSET_UP2 (i : Nat) : Nat := 0x40041004 + 0x10 * i
/-- CMM_BSETj_UP3, 4 registers (09). -/
abbrev CMM_BSET_UP3 (i : Nat) : Nat := 0x40041008 + 0x10 * i
/-- CMM_BSETj_HYST, 4 registers (09). -/
abbrev CMM_BSET_HYST (i : Nat) : Nat := 0x4004100c + 0x10 * i
/-- CMM_CFG (09). -/
abbrev CMM_CFG : Nat := 0x40041040
/-- CMM_EVENT (09). -/
abbrev CMM_EVENT : Nat := 0x40041044
/-- CMM_SNAP (09). -/
abbrev CMM_SNAP : Nat := 0x40041048
/-- CMM_VSAT_MAPi, 4 registers (09). -/
abbrev CMM_VSAT_MAP (i : Nat) : Nat := 0x40041050 + 0x4 * i
/-- CMM_VLOW_MAPi, 4 registers (09). -/
abbrev CMM_VLOW_MAP (i : Nat) : Nat := 0x40041060 + 0x4 * i
/-- CMM_CHn_SNPV, 128 registers (09). -/
abbrev CMM_CH_SNPV (i : Nat) : Nat := 0x40041100 + 0x8 * i
/-- CMM_CHn_SNPC, 128 registers (09). -/
abbrev CMM_CH_SNPC (i : Nat) : Nat := 0x40041104 + 0x8 * i
/-- FBK_CHn_CFG, 144 registers (10). -/
abbrev FBK_CH_CFG (i : Nat) : Nat := 0x40060000 + 0x40 * i
/-- FBK_CHn_SCALE, 144 registers (10). -/
abbrev FBK_CH_SCALE (i : Nat) : Nat := 0x40060004 + 0x40 * i
/-- FBK_CHn_SENS0, 144 registers (10). -/
abbrev FBK_CH_SENS0 (i : Nat) : Nat := 0x40060008 + 0x40 * i
/-- FBK_CHn_SENS1, 144 registers (10). -/
abbrev FBK_CH_SENS1 (i : Nat) : Nat := 0x4006000c + 0x40 * i
/-- FBK_CHn_OFS0, 144 registers (10). -/
abbrev FBK_CH_OFS0 (i : Nat) : Nat := 0x40060010 + 0x40 * i
/-- FBK_CHn_OFS1, 144 registers (10). -/
abbrev FBK_CH_OFS1 (i : Nat) : Nat := 0x40060014 + 0x40 * i
/-- FBK_CHn_STAT, 144 registers (10). -/
abbrev FBK_CH_STAT (i : Nat) : Nat := 0x40060018 + 0x40 * i
/-- FBK_CHn_POS_LO, 144 registers (10). -/
abbrev FBK_CH_POS_LO (i : Nat) : Nat := 0x4006001c + 0x40 * i
/-- FBK_CHn_POS_HI, 144 registers (10). -/
abbrev FBK_CH_POS_HI (i : Nat) : Nat := 0x40060020 + 0x40 * i
/-- FBK_CHn_VEL, 144 registers (10). -/
abbrev FBK_CH_VEL (i : Nat) : Nat := 0x40060024 + 0x40 * i
/-- FBK_CHn_ACC, 144 registers (10). -/
abbrev FBK_CH_ACC (i : Nat) : Nat := 0x40060028 + 0x40 * i
/-- FBK_CHn_IDX_LO, 144 registers (10). -/
abbrev FBK_CH_IDX_LO (i : Nat) : Nat := 0x4006002c + 0x40 * i
/-- FBK_CHn_IDX_HI, 144 registers (10). -/
abbrev FBK_CH_IDX_HI (i : Nat) : Nat := 0x40060030 + 0x40 * i
/-- FBK_CHn_SNP_LO, 144 registers (10). -/
abbrev FBK_CH_SNP_LO (i : Nat) : Nat := 0x40060034 + 0x40 * i
/-- FBK_CHn_SNP_HI, 144 registers (10). -/
abbrev FBK_CH_SNP_HI (i : Nat) : Nat := 0x40060038 + 0x40 * i
/-- FBK_CHn_SNV, 144 registers (10). -/
abbrev FBK_CH_SNV (i : Nat) : Nat := 0x4006003c + 0x40 * i
/-- FBK_MARK (10). -/
abbrev FBK_MARK : Nat := 0x40062400
/-- FBK_LINK (10). -/
abbrev FBK_LINK : Nat := 0x40062404
/-- FBK_ROPED (10). -/
abbrev FBK_ROPED : Nat := 0x40062408
/-- FBK_ROPED_OFS (10). -/
abbrev FBK_ROPED_OFS : Nat := 0x4006240c
/-- FBK_SPDj_LO, 4 registers (10). -/
abbrev FBK_SPD_LO (i : Nat) : Nat := 0x40062410 + 0x10 * i
/-- FBK_SPDj_HI, 4 registers (10). -/
abbrev FBK_SPD_HI (i : Nat) : Nat := 0x40062414 + 0x10 * i
/-- FBK_SPDj_OBS, 4 registers (10). -/
abbrev FBK_SPD_OBS (i : Nat) : Nat := 0x40062418 + 0x10 * i
/-- FBK_EVENT (10). -/
abbrev FBK_EVENT : Nat := 0x40062450
/-- FBK_DIR_MAPi, 5 registers (10). -/
abbrev FBK_DIR_MAP (i : Nat) : Nat := 0x40062460 + 0x4 * i
/-- FBK_SIGF_MAPi, 5 registers (10). -/
abbrev FBK_SIGF_MAP (i : Nat) : Nat := 0x40062480 + 0x4 * i
/-- FBK_IDX_MAPi, 5 registers (10). -/
abbrev FBK_IDX_MAP (i : Nat) : Nat := 0x400624a0 + 0x4 * i
/-- FBK_CMD (10). -/
abbrev FBK_CMD : Nat := 0x400624c0
/-- FBK_SNAP (10). -/
abbrev FBK_SNAP : Nat := 0x400624c4
/-- FBK_PORTp_CFG, 8 registers (10). -/
abbrev FBK_PORT_CFG (i : Nat) : Nat := 0x40062600 + 0x20 * i
/-- FBK_PORTp_SSI, 8 registers (10). -/
abbrev FBK_PORT_SSI (i : Nat) : Nat := 0x40062604 + 0x20 * i
/-- FBK_PORTp_STAT, 8 registers (10). -/
abbrev FBK_PORT_STAT (i : Nat) : Nat := 0x40062608 + 0x20 * i
/-- FBK_PORTp_ID_LO, 8 registers (10). -/
abbrev FBK_PORT_ID_LO (i : Nat) : Nat := 0x4006260c + 0x20 * i
/-- FBK_PORTp_ID_HI, 8 registers (10). -/
abbrev FBK_PORT_ID_HI (i : Nat) : Nat := 0x40062610 + 0x20 * i
/-- FBK_EMUe_CFG, 4 registers (10). -/
abbrev FBK_EMU_CFG (i : Nat) : Nat := 0x40062800 + 0x10 * i
/-- FBK_EMUe_Z, 4 registers (10). -/
abbrev FBK_EMU_Z (i : Nat) : Nat := 0x40062804 + 0x10 * i
/-- FBK_EMUe_STAT, 4 registers (10). -/
abbrev FBK_EMU_STAT (i : Nat) : Nat := 0x40062808 + 0x10 * i
/-- TRJ_DOORd_CFG, 2 registers (11). -/
abbrev TRJ_DOOR_CFG (i : Nat) : Nat := 0x40030c00 + 0x40 * i
/-- TRJ_DOORd_GEOM, 2 registers (11). -/
abbrev TRJ_DOOR_GEOM (i : Nat) : Nat := 0x40030c04 + 0x40 * i
/-- TRJ_DOORd_OPEN, 2 registers (11). -/
abbrev TRJ_DOOR_OPEN (i : Nat) : Nat := 0x40030c08 + 0x40 * i
/-- TRJ_DOORd_CLOSE, 2 registers (11). -/
abbrev TRJ_DOOR_CLOSE (i : Nat) : Nat := 0x40030c0c + 0x40 * i
/-- TRJ_DOORd_NUDGE, 2 registers (11). -/
abbrev TRJ_DOOR_NUDGE (i : Nat) : Nat := 0x40030c10 + 0x40 * i
/-- TRJ_DOORd_SCR, 2 registers (11). -/
abbrev TRJ_DOOR_SCR (i : Nat) : Nat := 0x40030c14 + 0x40 * i
/-- TRJ_DOORd_MASS, 2 registers (11). -/
abbrev TRJ_DOOR_MASS (i : Nat) : Nat := 0x40030c18 + 0x40 * i
/-- TRJ_DOORd_KF, 2 registers (11). -/
abbrev TRJ_DOOR_KF (i : Nat) : Nat := 0x40030c1c + 0x40 * i
/-- TRJ_DOORd_FCAP, 2 registers (11). -/
abbrev TRJ_DOOR_FCAP (i : Nat) : Nat := 0x40030c20 + 0x40 * i
/-- TRJ_DOORd_ECAP, 2 registers (11). -/
abbrev TRJ_DOOR_ECAP (i : Nat) : Nat := 0x40030c24 + 0x40 * i
/-- TRJ_DOORd_DEF, 2 registers (11). -/
abbrev TRJ_DOOR_DEF (i : Nat) : Nat := 0x40030c28 + 0x40 * i
/-- TRJ_DOORd_GENV, 2 registers (11). -/
abbrev TRJ_DOOR_GENV (i : Nat) : Nat := 0x40030c2c + 0x40 * i
/-- TRJ_DOORd_GENA, 2 registers (11). -/
abbrev TRJ_DOOR_GENA (i : Nat) : Nat := 0x40030c30 + 0x40 * i
/-- TRJ_DOORd_TIME, 2 registers (11). -/
abbrev TRJ_DOOR_TIME (i : Nat) : Nat := 0x40030c34 + 0x40 * i
/-- TRJ_DOORd_STAT, 2 registers (11). -/
abbrev TRJ_DOOR_STAT (i : Nat) : Nat := 0x40030c38 + 0x40 * i
/-- TRJ_DOORd_FORCE, 2 registers (11). -/
abbrev TRJ_DOOR_FORCE (i : Nat) : Nat := 0x40030c3c + 0x40 * i
/-- TRJ_DOOR_CMD (11). -/
abbrev TRJ_DOOR_CMD : Nat := 0x40030c80
/-- TRJ_DOOR_EVENT (11). -/
abbrev TRJ_DOOR_EVENT : Nat := 0x40030c84
/-- BSS_CFG (12). -/
abbrev BSS_CFG : Nat := 0x400c0000
/-- BSS_ENV_DN (12). -/
abbrev BSS_ENV_DN : Nat := 0x400c0004
/-- BSS_ENV_UP (12). -/
abbrev BSS_ENV_UP : Nat := 0x400c0008
/-- BSS_SEP (12). -/
abbrev BSS_SEP : Nat := 0x400c000c
/-- BSS_VMOVE (12). -/
abbrev BSS_VMOVE : Nat := 0x400c0010
/-- BSS_VRELEV (12). -/
abbrev BSS_VRELEV : Nat := 0x400c0014
/-- BSS_AMOVE (12). -/
abbrev BSS_AMOVE : Nat := 0x400c0018
/-- BSS_JMOVE (12). -/
abbrev BSS_JMOVE : Nat := 0x400c001c
/-- BSS_KF (12). -/
abbrev BSS_KF : Nat := 0x400c0020
/-- BSS_THERM (12). -/
abbrev BSS_THERM : Nat := 0x400c0024
/-- BSS_TEMP (12). -/
abbrev BSS_TEMP : Nat := 0x400c0028
/-- BSS_CORR (12). -/
abbrev BSS_CORR : Nat := 0x400c002c
/-- BSS_PCONT (12). -/
abbrev BSS_PCONT : Nat := 0x400c0030
/-- BSS_CAP (12). -/
abbrev BSS_CAP : Nat := 0x400c0034
/-- BSS_RESCUE (12). -/
abbrev BSS_RESCUE : Nat := 0x400c0038
/-- BSS_SHAFT_LO_LO (12). -/
abbrev BSS_SHAFT_LO_LO : Nat := 0x400c0040
/-- BSS_SHAFT_LO_HI (12). -/
abbrev BSS_SHAFT_LO_HI : Nat := 0x400c0044
/-- BSS_SHAFT_HI_LO (12). -/
abbrev BSS_SHAFT_HI_LO : Nat := 0x400c0048
/-- BSS_SHAFT_HI_HI (12). -/
abbrev BSS_SHAFT_HI_HI : Nat := 0x400c004c
/-- BSS_STOP_TGT_LO (12). -/
abbrev BSS_STOP_TGT_LO : Nat := 0x400c0080
/-- BSS_STOP_TGT_HI (12). -/
abbrev BSS_STOP_TGT_HI : Nat := 0x400c0084
/-- BSS_STOP_CMD (12). -/
abbrev BSS_STOP_CMD : Nat := 0x400c0088
/-- BSS_CMD_STAT (12). -/
abbrev BSS_CMD_STAT : Nat := 0x400c008c
/-- BSS_EVENT (12). -/
abbrev BSS_EVENT : Nat := 0x400c0090
/-- BSS_CARc_STAT, 8 registers (12). -/
abbrev BSS_CAR_STAT (i : Nat) : Nat := 0x400c0100 + 0x10 * i
/-- BSS_CARc_LAST, 8 registers (12). -/
abbrev BSS_CAR_LAST (i : Nat) : Nat := 0x400c0104 + 0x10 * i
/-- BSS_CARc_ARRIVE, 8 registers (12). -/
abbrev BSS_CAR_ARRIVE (i : Nat) : Nat := 0x400c0108 + 0x10 * i
/-- BSS_Qc_i, 8 by 64 (12). -/
abbrev BSS_Q (i j : Nat) : Nat := 0x400c1000 + 0x100 * i + 4 * j
/-- BSS_RESr_LO_LO, 32 registers (12). -/
abbrev BSS_RES_LO_LO (i : Nat) : Nat := 0x400c2000 + 0x20 * i
/-- BSS_RESr_LO_HI, 32 registers (12). -/
abbrev BSS_RES_LO_HI (i : Nat) : Nat := 0x400c2004 + 0x20 * i
/-- BSS_RESr_HI_LO, 32 registers (12). -/
abbrev BSS_RES_HI_LO (i : Nat) : Nat := 0x400c2008 + 0x20 * i
/-- BSS_RESr_HI_HI, 32 registers (12). -/
abbrev BSS_RES_HI_HI (i : Nat) : Nat := 0x400c200c + 0x20 * i
/-- BSS_RESr_INFO, 32 registers (12). -/
abbrev BSS_RES_INFO (i : Nat) : Nat := 0x400c2010 + 0x20 * i
/-- BSS_THETAk, 128 registers (12). -/
abbrev BSS_THETA (i : Nat) : Nat := 0x400c3000 + 0x4 * i
/-- BSS_BUCKET (12). -/
abbrev BSS_BUCKET : Nat := 0x400c3200
/-- SLK_PORTp_CFG, 8 registers (13). -/
abbrev SLK_PORT_CFG (i : Nat) : Nat := 0x40050000 + 0x20 * i
/-- SLK_PORTp_STAT, 8 registers (13). -/
abbrev SLK_PORT_STAT (i : Nat) : Nat := 0x40050004 + 0x20 * i
/-- SLK_PORTp_DRET, 8 registers (13). -/
abbrev SLK_PORT_DRET (i : Nat) : Nat := 0x40050008 + 0x20 * i
/-- SLK_CHn_CFG, 128 registers (13). -/
abbrev SLK_CH_CFG (i : Nat) : Nat := 0x40050400 + 0x10 * i
/-- SLK_CHn_NODEID, 128 registers (13). -/
abbrev SLK_CH_NODEID (i : Nat) : Nat := 0x40050404 + 0x10 * i
/-- SLK_CHn_STAT, 128 registers (13). -/
abbrev SLK_CH_STAT (i : Nat) : Nat := 0x40050408 + 0x10 * i
/-- SLK_CHn_CNT, 128 registers (13). -/
abbrev SLK_CH_CNT (i : Nat) : Nat := 0x4005040c + 0x10 * i
/-- SLK_NODE_CLR (13). -/
abbrev SLK_NODE_CLR : Nat := 0x40050c00
/-- SLK_CAP (13). -/
abbrev SLK_CAP : Nat := 0x40050c08
/-- SLK_CAP_STAT (13). -/
abbrev SLK_CAP_STAT : Nat := 0x40050c0c
/-- SLK_POOL (13). -/
abbrev SLK_POOL : Nat := 0x40050c10
/-- SLK_EVENT (13). -/
abbrev SLK_EVENT : Nat := 0x40050c14
/-- SLK_FAULT_MAPi, 4 registers (13). -/
abbrev SLK_FAULT_MAP (i : Nat) : Nat := 0x40050c20 + 0x4 * i
/-- SLK_CAP_DATAw, 16 registers (13). -/
abbrev SLK_CAP_DATA (i : Nat) : Nat := 0x40050d00 + 0x4 * i
/-- FIO_GRPg_CFG, 4 registers (14). -/
abbrev FIO_GRP_CFG (i : Nat) : Nat := 0x40070000 + 0x10 * i
/-- FIO_GRPg_STAT, 5 registers (14). -/
abbrev FIO_GRP_STAT (i : Nat) : Nat := 0x40070004 + 0x10 * i
/-- FIO_INi, 3 registers (14). -/
abbrev FIO_IN (i : Nat) : Nat := 0x40070080 + 0x4 * i
/-- FIO_FILTj, 12 registers (14). -/
abbrev FIO_FILT (i : Nat) : Nat := 0x400700a0 + 0x4 * i
/-- FIO_FINf_CFG, 16 registers (14). -/
abbrev FIO_FIN_CFG (i : Nat) : Nat := 0x40070100 + 0x20 * i
/-- FIO_FINf_CNT_LO, 16 registers (14). -/
abbrev FIO_FIN_CNT_LO (i : Nat) : Nat := 0x40070104 + 0x20 * i
/-- FIO_FINf_CNT_HI, 16 registers (14). -/
abbrev FIO_FIN_CNT_HI (i : Nat) : Nat := 0x40070108 + 0x20 * i
/-- FIO_FINf_FREQ, 16 registers (14). -/
abbrev FIO_FIN_FREQ (i : Nat) : Nat := 0x4007010c + 0x20 * i
/-- FIO_FINf_SNC_LO, 16 registers (14). -/
abbrev FIO_FIN_SNC_LO (i : Nat) : Nat := 0x40070110 + 0x20 * i
/-- FIO_FINf_SNC_HI, 16 registers (14). -/
abbrev FIO_FIN_SNC_HI (i : Nat) : Nat := 0x40070114 + 0x20 * i
/-- FIO_OUT_REQ (14). -/
abbrev FIO_OUT_REQ : Nat := 0x40070300
/-- FIO_OUT_RESTART (14). -/
abbrev FIO_OUT_RESTART : Nat := 0x40070304
/-- FIO_OUT_STATE (14). -/
abbrev FIO_OUT_STATE : Nat := 0x40070308
/-- FIO_OUT_RB (14). -/
abbrev FIO_OUT_RB : Nat := 0x4007030c
/-- FIO_SAFE_MAP (14). -/
abbrev FIO_SAFE_MAP : Nat := 0x40070310
/-- FIO_OUTn_STAT, 32 registers (14). -/
abbrev FIO_OUT_STAT (i : Nat) : Nat := 0x40070380 + 0x4 * i
/-- FIO_OUT_CLR (14). -/
abbrev FIO_OUT_CLR : Nat := 0x40070400
/-- FIO_STO_STAT (14). -/
abbrev FIO_STO_STAT : Nat := 0x40070410
/-- FIO_EVENT (14). -/
abbrev FIO_EVENT : Nat := 0x40070420
/-- FIO_SNAP (14). -/
abbrev FIO_SNAP : Nat := 0x40070424
/-- SAF_STAT (15). -/
abbrev SAF_STAT : Nat := 0x40080000
/-- SAF_EVENT (15). -/
abbrev SAF_EVENT : Nat := 0x40080004
/-- SAF_FAULT (15). -/
abbrev SAF_FAULT : Nat := 0x40080008
/-- SAF_STO_MAPi, 4 registers (15). -/
abbrev SAF_STO_MAP (i : Nat) : Nat := 0x40080010 + 0x4 * i
/-- SAF_RESET_CMD (15). -/
abbrev SAF_RESET_CMD : Nat := 0x40080040
/-- SAF_DIAG_CMD (15). -/
abbrev SAF_DIAG_CMD : Nat := 0x40080048
/-- SAF_RESET_STAT (15). -/
abbrev SAF_RESET_STAT : Nat := 0x40080050
/-- SAF_PROOF_LO (15). -/
abbrev SAF_PROOF_LO : Nat := 0x40080058
/-- SAF_PROOF_HI (15). -/
abbrev SAF_PROOF_HI : Nat := 0x4008005c
/-- SAF_FUNC_STAT (16). -/
abbrev SAF_FUNC_STAT : Nat := 0x40080060
/-- SAF_TG_STAT (16). -/
abbrev SAF_TG_STAT : Nat := 0x40080064
/-- SAF_SPS_STAT (16). -/
abbrev SAF_SPS_STAT : Nat := 0x40080080
/-- SAF_SPS_CHECK (16). -/
abbrev SAF_SPS_CHECK : Nat := 0x40080084
/-- SAF_SPS_CONFIRM (16). -/
abbrev SAF_SPS_CONFIRM : Nat := 0x40080088
/-- SAF_SPS_GEN (16). -/
abbrev SAF_SPS_GEN : Nat := 0x40080090
/-- SAF_SPS_WORD (16). -/
abbrev SAF_SPS_WORD : Nat := 0x40080094
/-- FAB_SPp_CFG, 4 registers (17). -/
abbrev FAB_SP_CFG (i : Nat) : Nat := 0x40090000 + 0x20 * i
/-- FAB_SPp_STAT, 4 registers (17). -/
abbrev FAB_SP_STAT (i : Nat) : Nat := 0x40090004 + 0x20 * i
/-- FAB_SPp_CMD, 4 registers (17). -/
abbrev FAB_SP_CMD (i : Nat) : Nat := 0x40090008 + 0x20 * i
/-- FAB_SPp_TEST, 4 registers (17). -/
abbrev FAB_SP_TEST (i : Nat) : Nat := 0x4009000c + 0x20 * i
/-- FAB_SPp_MSEC, 4 registers (17). -/
abbrev FAB_SP_MSEC (i : Nat) : Nat := 0x40090010 + 0x20 * i
/-- FAB_SPp_TXSA, 4 registers (17). -/
abbrev FAB_SP_TXSA (i : Nat) : Nat := 0x40090014 + 0x20 * i
/-- FAB_SPp_RXSA0, 4 registers (17). -/
abbrev FAB_SP_RXSA0 (i : Nat) : Nat := 0x40090018 + 0x20 * i
/-- FAB_SPp_RXSA1, 4 registers (17). -/
abbrev FAB_SP_RXSA1 (i : Nat) : Nat := 0x4009001c + 0x20 * i
/-- FAB_SPp_TXPN, 4 registers (17). -/
abbrev FAB_SP_TXPN (i : Nat) : Nat := 0x40090080 + 0x4 * i
/-- FAB_SPp_MSDROP, 4 registers (17). -/
abbrev FAB_SP_MSDROP (i : Nat) : Nat := 0x40090090 + 0x4 * i
/-- FAB_KEY_LOAD (17). -/
abbrev FAB_KEY_LOAD : Nat := 0x400900a0
/-- FAB_LINK_EVENT (17). -/
abbrev FAB_LINK_EVENT : Nat := 0x400900c0
/-- FAB_LBq_CFG, 2 registers (17). -/
abbrev FAB_LB_CFG (i : Nat) : Nat := 0x40090400 + 0x100 * i
/-- FAB_LBq_STAT, 2 registers (17). -/
abbrev FAB_LB_STAT (i : Nat) : Nat := 0x40090404 + 0x100 * i
/-- FAB_LBq_CNT, 2 registers (17). -/
abbrev FAB_LB_CNT (i : Nat) : Nat := 0x40090408 + 0x100 * i
/-- FAB_LBq_STR_LO, 2 registers (17). -/
abbrev FAB_LB_STR_LO (i : Nat) : Nat := 0x4009040c + 0x100 * i
/-- FAB_LBq_STR_HI, 2 registers (17). -/
abbrev FAB_LB_STR_HI (i : Nat) : Nat := 0x40090410 + 0x100 * i
/-- FAB_LBq_ADMn_LO of port q, node n = 1 to 31 (17). -/
abbrev FAB_LB_ADM_LO (q n : Nat) : Nat := 0x40090480 + 0x100 * q + 8 * n
/-- FAB_LBq_ADMn_HI of port q, node n = 1 to 31 (17). -/
abbrev FAB_LB_ADM_HI (q n : Nat) : Nat := 0x40090484 + 0x100 * q + 8 * n
/-- FAB_ID (18). -/
abbrev FAB_ID : Nat := 0x40090800
/-- FAB_EPOCH (18). -/
abbrev FAB_EPOCH : Nat := 0x40090804
/-- FAB_NET_CFG (18). -/
abbrev FAB_NET_CFG : Nat := 0x40090808
/-- FAB_NET_STAT (18). -/
abbrev FAB_NET_STAT : Nat := 0x4009080c
/-- FAB_NET_EVENT (18). -/
abbrev FAB_NET_EVENT : Nat := 0x40090810
/-- FAB_NET_CNT (18). -/
abbrev FAB_NET_CNT : Nat := 0x40090814
/-- FAB_NET_CMD_STAT (18). -/
abbrev FAB_NET_CMD_STAT : Nat := 0x40090818
/-- FAB_PEERi_CFG, 32 registers (18). -/
abbrev FAB_PEER_CFG (i : Nat) : Nat := 0x40090900 + 0x8 * i
/-- FAB_PEERi_STAT, 32 registers (18). -/
abbrev FAB_PEER_STAT (i : Nat) : Nat := 0x40090904 + 0x8 * i
/-- FAB_GRTg, 64 registers (18). -/
abbrev FAB_GRT (i : Nat) : Nat := 0x40090a00 + 0x4 * i
/-- FAB_MRTm, 256 registers (18). -/
abbrev FAB_MRT (i : Nat) : Nat := 0x40090b00 + 0x4 * i
/-- FAB_COVERj, 3 registers (18). -/
abbrev FAB_COVER (i : Nat) : Nat := 0x40090f00 + 0x4 * i
/-- FAB_SEC_CMD (18). -/
abbrev FAB_SEC_CMD : Nat := 0x40090f10
/-- FAB_STBY_CMD (18). -/
abbrev FAB_STBY_CMD : Nat := 0x40090f18
/-- FAB_FENCE_CMD (18). -/
abbrev FAB_FENCE_CMD : Nat := 0x40090f20
/-- FAB_DUP_LO (18). -/
abbrev FAB_DUP_LO : Nat := 0x40090f28
/-- FAB_DUP_HI (18). -/
abbrev FAB_DUP_HI : Nat := 0x40090f2c
/-- TIM_CFG (19). -/
abbrev TIM_CFG : Nat := 0x400a0000
/-- TIM_ADDEND (19). -/
abbrev TIM_ADDEND : Nat := 0x400a0004
/-- TIM_STEP_LO (19). -/
abbrev TIM_STEP_LO : Nat := 0x400a0008
/-- TIM_STEP_HI (19). -/
abbrev TIM_STEP_HI : Nat := 0x400a000c
/-- TIM_NOW_NS (19). -/
abbrev TIM_NOW_NS : Nat := 0x400a0010
/-- TIM_NOW_S_LO (19). -/
abbrev TIM_NOW_S_LO : Nat := 0x400a0014
/-- TIM_NOW_S_HI (19). -/
abbrev TIM_NOW_S_HI : Nat := 0x400a0018
/-- TIM_PERIOD_LO (19). -/
abbrev TIM_PERIOD_LO : Nat := 0x400a001c
/-- TIM_PERIOD_HI (19). -/
abbrev TIM_PERIOD_HI : Nat := 0x400a0020
/-- TIM_STAT (19). -/
abbrev TIM_STAT : Nat := 0x400a0024
/-- TIM_OFFSET (19). -/
abbrev TIM_OFFSET : Nat := 0x400a0028
/-- TIM_CMD (19). -/
abbrev TIM_CMD : Nat := 0x400a002c
/-- TIM_SNAP_AT_NS (19). -/
abbrev TIM_SNAP_AT_NS : Nat := 0x400a0030
/-- TIM_SNAP_AT_S_LO (19). -/
abbrev TIM_SNAP_AT_S_LO : Nat := 0x400a0034
/-- TIM_SNAP_AT_S_HI (19). -/
abbrev TIM_SNAP_AT_S_HI : Nat := 0x400a0038
/-- TIM_SNAPT_LO (19). -/
abbrev TIM_SNAPT_LO : Nat := 0x400a003c
/-- TIM_SNAPT_HI (19). -/
abbrev TIM_SNAPT_HI : Nat := 0x400a0040
/-- TIM_TXQp_ID, 4 registers (19). -/
abbrev TIM_TXQ_ID (i : Nat) : Nat := 0x400a0100 + 0x20 * i
/-- TIM_TXQp_NS, 4 registers (19). -/
abbrev TIM_TXQ_NS (i : Nat) : Nat := 0x400a0104 + 0x20 * i
/-- TIM_TXQp_S_LO, 4 registers (19). -/
abbrev TIM_TXQ_S_LO (i : Nat) : Nat := 0x400a0108 + 0x20 * i
/-- TIM_TXQp_S_HI, 4 registers (19). -/
abbrev TIM_TXQ_S_HI (i : Nat) : Nat := 0x400a010c + 0x20 * i
/-- TIM_TXQp_POP, 4 registers (19). -/
abbrev TIM_TXQ_POP (i : Nat) : Nat := 0x400a0110 + 0x20 * i
/-- TIM_TXQp_LOSS, 4 registers (19). -/
abbrev TIM_TXQ_LOSS (i : Nat) : Nat := 0x400a0114 + 0x20 * i
/-- TIM_EVENT (19). -/
abbrev TIM_EVENT : Nat := 0x400a00c0
/-- REC_STAT (20). -/
abbrev REC_STAT : Nat := 0x400b0000
/-- REC_LOST (20). -/
abbrev REC_LOST : Nat := 0x400b0004
/-- REC_EVENT (20). -/
abbrev REC_EVENT : Nat := 0x400b0008
/-- REC_CLEAR (20). -/
abbrev REC_CLEAR : Nat := 0x400b0010
/-- REC_APP_DATAw, 11 registers (20). -/
abbrev REC_APP_DATA (i : Nat) : Nat := 0x400b0040 + 0x4 * i
/-- REC_APP_CMD (20). -/
abbrev REC_APP_CMD : Nat := 0x400b0070
/-- SYS_STRAP (21). -/
abbrev SYS_STRAP : Nat := 0x40000040
/-- INT_ROUTE, 1920 registers (23). -/
abbrev INT_ROUTE (i : Nat) : Nat := 0x400d0000 + 0x4 * i
/-- INT_CLAIMc, 4 registers (23). -/
abbrev INT_CLAIM (i : Nat) : Nat := 0x400d2000 + 0x4 * i
/-- landing record word 0, 64 registers (11). -/
abbrev BSS_LAND_W0 (i : Nat) : Nat := 0x400cc000 + 0x20 * i
/-- landing record word 1, 64 registers (11). -/
abbrev BSS_LAND_W1 (i : Nat) : Nat := 0x400cc004 + 0x20 * i
/-- landing record word 2, 64 registers (11). -/
abbrev BSS_LAND_W2 (i : Nat) : Nat := 0x400cc008 + 0x20 * i
/-- landing record word 3, 64 registers (11). -/
abbrev BSS_LAND_W3 (i : Nat) : Nat := 0x400cc00c + 0x20 * i
/-- landing record word 4, 64 registers (11). -/
abbrev BSS_LAND_W4 (i : Nat) : Nat := 0x400cc010 + 0x20 * i
/-- landing record word 5, 64 registers (11). -/
abbrev BSS_LAND_W5 (i : Nat) : Nat := 0x400cc014 + 0x20 * i
/-- landing record word 6, 64 registers (11). -/
abbrev BSS_LAND_W6 (i : Nat) : Nat := 0x400cc018 + 0x20 * i
/-- landing record word 7, 64 registers (11). -/
abbrev BSS_LAND_W7 (i : Nat) : Nat := 0x400cc01c + 0x20 * i

end Reg

namespace F

abbrev PCM_MODE_REQ.TARGET : FRef := ⟨Reg.PCM_MODE_REQ, ⟨2, 0⟩⟩
abbrev PCM_MODE_STAT.PD_ON : FRef := ⟨Reg.PCM_MODE_STAT, ⟨25, 16⟩⟩
abbrev PCM_MODE_STAT.WAKE_CAUSE : FRef := ⟨Reg.PCM_MODE_STAT, ⟨15, 12⟩⟩
abbrev PCM_MODE_STAT.REFUSE : FRef := ⟨Reg.PCM_MODE_STAT, ⟨11, 8⟩⟩
abbrev PCM_MODE_STAT.TRANS : FRef := ⟨Reg.PCM_MODE_STAT, ⟨6, 6⟩⟩
abbrev PCM_MODE_STAT.PREV : FRef := ⟨Reg.PCM_MODE_STAT, ⟨5, 3⟩⟩
abbrev PCM_MODE_STAT.MODE : FRef := ⟨Reg.PCM_MODE_STAT, ⟨2, 0⟩⟩
abbrev PCM_EVENT.CLK_FAULT : FRef := ⟨Reg.PCM_EVENT, ⟨4, 4⟩⟩
abbrev PCM_EVENT.VS5_WARN : FRef := ⟨Reg.PCM_EVENT, ⟨3, 3⟩⟩
abbrev PCM_EVENT.WAKE : FRef := ⟨Reg.PCM_EVENT, ⟨2, 2⟩⟩
abbrev PCM_EVENT.REQ_REFUSED : FRef := ⟨Reg.PCM_EVENT, ⟨1, 1⟩⟩
abbrev PCM_EVENT.MODE_CHG : FRef := ⟨Reg.PCM_EVENT, ⟨0, 0⟩⟩
abbrev PCM_WAKE_CFG.IN_EN : FRef := ⟨Reg.PCM_WAKE_CFG, ⟨9, 6⟩⟩
abbrev PCM_WAKE_CFG.LB_EN : FRef := ⟨Reg.PCM_WAKE_CFG, ⟨5, 4⟩⟩
abbrev PCM_WAKE_CFG.SP_EN : FRef := ⟨Reg.PCM_WAKE_CFG, ⟨3, 0⟩⟩
abbrev PCM_ALARM.DELAY : FRef := ⟨Reg.PCM_ALARM, ⟨31, 0⟩⟩
abbrev PCM_IDLE.STBY_IDLE : FRef := ⟨Reg.PCM_IDLE, ⟨31, 16⟩⟩
abbrev PCM_IDLE.SVC_IDLE : FRef := ⟨Reg.PCM_IDLE, ⟨15, 0⟩⟩
abbrev SYS_ID.PART : FRef := ⟨Reg.SYS_ID, ⟨31, 16⟩⟩
abbrev SYS_ID.CODE : FRef := ⟨Reg.SYS_ID, ⟨7, 4⟩⟩
abbrev SYS_ID.REV : FRef := ⟨Reg.SYS_ID, ⟨3, 0⟩⟩
abbrev SYS_RESET_CAUSE.RAIL : FRef := ⟨Reg.SYS_RESET_CAUSE, ⟨11, 8⟩⟩
abbrev SYS_RESET_CAUSE.HOLD_LOST : FRef := ⟨Reg.SYS_RESET_CAUSE, ⟨7, 7⟩⟩
abbrev SYS_RESET_CAUSE.XTAL_FAIL : FRef := ⟨Reg.SYS_RESET_CAUSE, ⟨6, 6⟩⟩
abbrev SYS_RESET_CAUSE.LOCKOUT_KEPT : FRef := ⟨Reg.SYS_RESET_CAUSE, ⟨5, 5⟩⟩
abbrev SYS_RESET_CAUSE.LC : FRef := ⟨Reg.SYS_RESET_CAUSE, ⟨4, 4⟩⟩
abbrev SYS_RESET_CAUSE.SW : FRef := ⟨Reg.SYS_RESET_CAUSE, ⟨3, 3⟩⟩
abbrev SYS_RESET_CAUSE.PIN : FRef := ⟨Reg.SYS_RESET_CAUSE, ⟨2, 2⟩⟩
abbrev SYS_RESET_CAUSE.SUPPLY : FRef := ⟨Reg.SYS_RESET_CAUSE, ⟨1, 1⟩⟩
abbrev SYS_RESET_CAUSE.POR : FRef := ⟨Reg.SYS_RESET_CAUSE, ⟨0, 0⟩⟩
abbrev SYS_RESET_REQ.RESET : FRef := ⟨Reg.SYS_RESET_REQ, ⟨0, 0⟩⟩
abbrev CFG_STAT.WIPE_RESUMED : FRef := ⟨Reg.CFG_STAT, ⟨15, 15⟩⟩
abbrev CFG_STAT.COMMIT_BUSY : FRef := ⟨Reg.CFG_STAT, ⟨14, 14⟩⟩
abbrev CFG_STAT.SPS_FALLBACK : FRef := ⟨Reg.CFG_STAT, ⟨13, 13⟩⟩
abbrev CFG_STAT.SPS_BANK : FRef := ⟨Reg.CFG_STAT, ⟨12, 12⟩⟩
abbrev CFG_STAT.OPS_FALLBACK : FRef := ⟨Reg.CFG_STAT, ⟨11, 11⟩⟩
abbrev CFG_STAT.OPS_BANK : FRef := ⟨Reg.CFG_STAT, ⟨10, 10⟩⟩
abbrev CFG_STAT.IMG : FRef := ⟨Reg.CFG_STAT, ⟨6, 4⟩⟩
abbrev CFG_STAT.LC : FRef := ⟨Reg.CFG_STAT, ⟨1, 0⟩⟩
abbrev CFG_DEFAULT.SPS : FRef := ⟨Reg.CFG_DEFAULT, ⟨1, 1⟩⟩
abbrev CFG_DEFAULT.OPS : FRef := ⟨Reg.CFG_DEFAULT, ⟨0, 0⟩⟩
abbrev CFG_EVENT.REFUSED : FRef := ⟨Reg.CFG_EVENT, ⟨3, 3⟩⟩
abbrev CFG_EVENT.COMMIT_DONE : FRef := ⟨Reg.CFG_EVENT, ⟨2, 2⟩⟩
abbrev CFG_EVENT.FALLBACK : FRef := ⟨Reg.CFG_EVENT, ⟨1, 1⟩⟩
abbrev CFG_EVENT.DEFAULT : FRef := ⟨Reg.CFG_EVENT, ⟨0, 0⟩⟩
abbrev CFG_LC_CMD.WIPE_IMG : FRef := ⟨Reg.CFG_LC_CMD, ⟨2, 2⟩⟩
abbrev CFG_LC_CMD.TARGET : FRef := ⟨Reg.CFG_LC_CMD, ⟨1, 0⟩⟩
abbrev CFG_OPS_COMMIT.SRC : FRef := ⟨Reg.CFG_OPS_COMMIT, ⟨31, 0⟩⟩
abbrev SYS_UPDATE.MASK : FRef := ⟨Reg.SYS_UPDATE, ⟨7, 0⟩⟩
abbrev SYS_UPD_STAT.DIRTY : FRef := ⟨Reg.SYS_UPD_STAT, ⟨23, 16⟩⟩
abbrev SYS_UPD_STAT.ARMED : FRef := ⟨Reg.SYS_UPD_STAT, ⟨15, 8⟩⟩
abbrev SYS_UPD_STAT.REJ_CODE : FRef := ⟨Reg.SYS_UPD_STAT, ⟨7, 4⟩⟩
abbrev SYS_UPD_STAT.REJ_GROUP : FRef := ⟨Reg.SYS_UPD_STAT, ⟨2, 0⟩⟩
abbrev SYS_SNAP.SNAP : FRef := ⟨Reg.SYS_SNAP, ⟨0, 0⟩⟩
abbrev SYS_EVENT.UPD_REJECT : FRef := ⟨Reg.SYS_EVENT, ⟨5, 5⟩⟩
abbrev SYS_EVENT.UPD_DONE : FRef := ⟨Reg.SYS_EVENT, ⟨4, 4⟩⟩
abbrev SYS_EVENT.SNAP_DONE : FRef := ⟨Reg.SYS_EVENT, ⟨3, 3⟩⟩
abbrev SYS_EVENT.UNMAPPED : FRef := ⟨Reg.SYS_EVENT, ⟨2, 2⟩⟩
abbrev SYS_EVENT.NARROW : FRef := ⟨Reg.SYS_EVENT, ⟨1, 1⟩⟩
abbrev SYS_EVENT.GUARD_ERR : FRef := ⟨Reg.SYS_EVENT, ⟨0, 0⟩⟩
abbrev SYS_ERR_ADDR.ADDR : FRef := ⟨Reg.SYS_ERR_ADDR, ⟨31, 0⟩⟩
abbrev TAC_DIAG.VALUE (i j : Nat) : FRef := ⟨Reg.TAC_DIAG i j, ⟨31, 0⟩⟩
abbrev TAC_ENG_HALT.HALT : FRef := ⟨Reg.TAC_ENG_HALT, ⟨7, 0⟩⟩
abbrev TAC_EVENT.HALT_REJ : FRef := ⟨Reg.TAC_EVENT, ⟨9, 9⟩⟩
abbrev TAC_EVENT.MEM_WR_REJ : FRef := ⟨Reg.TAC_EVENT, ⟨8, 8⟩⟩
abbrev TAC_EVENT.TRAP : FRef := ⟨Reg.TAC_EVENT, ⟨7, 0⟩⟩
abbrev TAC_TRAP_INFO.TAG (i : Nat) : FRef := ⟨Reg.TAC_TRAP_INFO i, ⟨31, 30⟩⟩
abbrev TAC_TRAP_INFO.SLOT (i : Nat) : FRef := ⟨Reg.TAC_TRAP_INFO i, ⟨29, 25⟩⟩
abbrev TAC_TRAP_INFO.CAUSE (i : Nat) : FRef := ⟨Reg.TAC_TRAP_INFO i, ⟨24, 21⟩⟩
abbrev TAC_TRAP_INFO.PC (i : Nat) : FRef := ⟨Reg.TAC_TRAP_INFO i, ⟨13, 0⟩⟩
abbrev TAC_PARAM.VALUE (i j : Nat) : FRef := ⟨Reg.TAC_PARAM i j, ⟨31, 0⟩⟩
abbrev TAC_SLOT_BIND.EN (i : Nat) : FRef := ⟨Reg.TAC_SLOT_BIND i, ⟨31, 31⟩⟩
abbrev TAC_SLOT_BIND.KIND (i : Nat) : FRef := ⟨Reg.TAC_SLOT_BIND i, ⟨30, 29⟩⟩
abbrev TAC_SLOT_BIND.PHASE (i : Nat) : FRef := ⟨Reg.TAC_SLOT_BIND i, ⟨28, 27⟩⟩
abbrev TAC_SLOT_BIND.BIND (i : Nat) : FRef := ⟨Reg.TAC_SLOT_BIND i, ⟨6, 0⟩⟩
abbrev TAC_SLOT_CODE.HDR (i : Nat) : FRef := ⟨Reg.TAC_SLOT_CODE i, ⟨13, 0⟩⟩
abbrev TAC_SLOT_PRIV.BASE (i : Nat) : FRef := ⟨Reg.TAC_SLOT_PRIV i, ⟨29, 16⟩⟩
abbrev TAC_SLOT_PRIV.LEN (i : Nat) : FRef := ⟨Reg.TAC_SLOT_PRIV i, ⟨13, 0⟩⟩
abbrev TAC_SLOT_LIMIT.N_OVR (i : Nat) : FRef := ⟨Reg.TAC_SLOT_LIMIT i, ⟨3, 0⟩⟩
abbrev TAC_ENG_SHARED.BASE (i : Nat) : FRef := ⟨Reg.TAC_ENG_SHARED i, ⟨29, 16⟩⟩
abbrev TAC_ENG_SHARED.LEN (i : Nat) : FRef := ⟨Reg.TAC_ENG_SHARED i, ⟨13, 0⟩⟩
abbrev TAC_PERIOD.TS_NS : FRef := ⟨Reg.TAC_PERIOD, ⟨18, 0⟩⟩
abbrev TAC_SPLIT.SPLIT : FRef := ⟨Reg.TAC_SPLIT, ⟨18, 0⟩⟩
abbrev TAC_HO_CFG_CAR.BLEND : FRef := ⟨Reg.TAC_HO_CFG_CAR, ⟨31, 24⟩⟩
abbrev TAC_HO_CFG_CAR.N_HO : FRef := ⟨Reg.TAC_HO_CFG_CAR, ⟨22, 16⟩⟩
abbrev TAC_HO_CFG_CAR.DU_MAX : FRef := ⟨Reg.TAC_HO_CFG_CAR, ⟨15, 0⟩⟩
abbrev TAC_HO_CFG_CH.BLEND : FRef := ⟨Reg.TAC_HO_CFG_CH, ⟨31, 24⟩⟩
abbrev TAC_HO_CFG_CH.N_HO : FRef := ⟨Reg.TAC_HO_CFG_CH, ⟨22, 16⟩⟩
abbrev TAC_HO_CFG_CH.DU_MAX : FRef := ⟨Reg.TAC_HO_CFG_CH, ⟨15, 0⟩⟩
abbrev TAC_CAR_FB.KV_FB : FRef := ⟨Reg.TAC_CAR_FB, ⟨31, 20⟩⟩
abbrev TAC_CAR_FB.F_MAX_FB : FRef := ⟨Reg.TAC_CAR_FB, ⟨19, 0⟩⟩
abbrev TAC_STRADDLE_V.VMAX : FRef := ⟨Reg.TAC_STRADDLE_V, ⟨24, 0⟩⟩
abbrev TAC_SEG_FMAX.FMAX : FRef := ⟨Reg.TAC_SEG_FMAX, ⟨19, 0⟩⟩
abbrev TAC_OVR.TOTAL (i : Nat) : FRef := ⟨Reg.TAC_OVR i, ⟨31, 16⟩⟩
abbrev TAC_OVR.CONSEC (i : Nat) : FRef := ⟨Reg.TAC_OVR i, ⟨11, 8⟩⟩
abbrev TAC_OVR.FAULT (i : Nat) : FRef := ⟨Reg.TAC_OVR i, ⟨1, 1⟩⟩
abbrev TAC_OVR.LAST (i : Nat) : FRef := ⟨Reg.TAC_OVR i, ⟨0, 0⟩⟩
abbrev TAC_OVR_EVENT.OVR (i : Nat) : FRef := ⟨Reg.TAC_OVR_EVENT i, ⟨31, 0⟩⟩
abbrev TAC_FAULT_EVENT.FAULT (i : Nat) : FRef := ⟨Reg.TAC_FAULT_EVENT i, ⟨31, 0⟩⟩
abbrev TAC_FAULT_CLR.SLOT : FRef := ⟨Reg.TAC_FAULT_CLR, ⟨7, 0⟩⟩
abbrev TAC_HO_CMD.OP : FRef := ⟨Reg.TAC_HO_CMD, ⟨9, 8⟩⟩
abbrev TAC_HO_CMD.SLOT : FRef := ⟨Reg.TAC_HO_CMD, ⟨7, 0⟩⟩
abbrev TAC_HO_CAR.STATE (i : Nat) : FRef := ⟨Reg.TAC_HO_CAR i, ⟨26, 24⟩⟩
abbrev TAC_HO_CAR.ACTIVE (i : Nat) : FRef := ⟨Reg.TAC_HO_CAR i, ⟨23, 16⟩⟩
abbrev TAC_HO_CAR.OWNER (i : Nat) : FRef := ⟨Reg.TAC_HO_CAR i, ⟨15, 15⟩⟩
abbrev TAC_HO_CAR.FAILS (i : Nat) : FRef := ⟨Reg.TAC_HO_CAR i, ⟨14, 8⟩⟩
abbrev TAC_HO_CAR.LEFT (i : Nat) : FRef := ⟨Reg.TAC_HO_CAR i, ⟨7, 0⟩⟩
abbrev TAC_HO_LAST.TAG : FRef := ⟨Reg.TAC_HO_LAST, ⟨31, 30⟩⟩
abbrev TAC_HO_LAST.KIND : FRef := ⟨Reg.TAC_HO_LAST, ⟨29, 28⟩⟩
abbrev TAC_HO_LAST.FAIL : FRef := ⟨Reg.TAC_HO_LAST, ⟨27, 27⟩⟩
abbrev TAC_HO_LAST.FAILS : FRef := ⟨Reg.TAC_HO_LAST, ⟨26, 20⟩⟩
abbrev TAC_HO_LAST.BIND : FRef := ⟨Reg.TAC_HO_LAST, ⟨6, 0⟩⟩
abbrev TAC_SCHED_EVENT.SHARE_CAP : FRef := ⟨Reg.TAC_SCHED_EVENT, ⟨4, 4⟩⟩
abbrev TAC_SCHED_EVENT.REFUSED : FRef := ⟨Reg.TAC_SCHED_EVENT, ⟨3, 3⟩⟩
abbrev TAC_SCHED_EVENT.NEW : FRef := ⟨Reg.TAC_SCHED_EVENT, ⟨2, 2⟩⟩
abbrev TAC_SCHED_EVENT.HO_FAIL : FRef := ⟨Reg.TAC_SCHED_EVENT, ⟨1, 1⟩⟩
abbrev TAC_SCHED_EVENT.HO_DONE : FRef := ⟨Reg.TAC_SCHED_EVENT, ⟨0, 0⟩⟩
abbrev TRJ_AXIS_CFG.EN (i : Nat) : FRef := ⟨Reg.TRJ_AXIS_CFG i, ⟨31, 31⟩⟩
abbrev TRJ_AXIS_CFG.LIM_HI (i : Nat) : FRef := ⟨Reg.TRJ_AXIS_CFG i, ⟨30, 24⟩⟩
abbrev TRJ_AXIS_CFG.LIM_LO (i : Nat) : FRef := ⟨Reg.TRJ_AXIS_CFG i, ⟨23, 17⟩⟩
abbrev TRJ_AXIS_CFG.SETP_EN (i : Nat) : FRef := ⟨Reg.TRJ_AXIS_CFG i, ⟨15, 15⟩⟩
abbrev TRJ_AXIS_CFG.SETP_CH (i : Nat) : FRef := ⟨Reg.TRJ_AXIS_CFG i, ⟨14, 8⟩⟩
abbrev TRJ_AXIS_CFG.BIND (i : Nat) : FRef := ⟨Reg.TRJ_AXIS_CFG i, ⟨6, 0⟩⟩
abbrev TRJ_AXIS_VRATED.V_RATED (i : Nat) : FRef := ⟨Reg.TRJ_AXIS_VRATED i, ⟨24, 0⟩⟩
abbrev TRJ_AXIS_ACAP.A_CAP (i : Nat) : FRef := ⟨Reg.TRJ_AXIS_ACAP i, ⟨25, 0⟩⟩
abbrev TRJ_AXIS_JCAP.J_CAP (i : Nat) : FRef := ⟨Reg.TRJ_AXIS_JCAP i, ⟨27, 0⟩⟩
abbrev TRJ_AXIS_HOME.LATCH (i : Nat) : FRef := ⟨Reg.TRJ_AXIS_HOME i, ⟨3, 0⟩⟩
abbrev TRJ_AXIS_OVR.OVR_TGT (i : Nat) : FRef := ⟨Reg.TRJ_AXIS_OVR i, ⟨16, 0⟩⟩
abbrev TRJ_AXIS_STAT.STATE (i : Nat) : FRef := ⟨Reg.TRJ_AXIS_STAT i, ⟨31, 29⟩⟩
abbrev TRJ_AXIS_STAT.CAUSE (i : Nat) : FRef := ⟨Reg.TRJ_AXIS_STAT i, ⟨28, 25⟩⟩
abbrev TRJ_AXIS_STAT.HOMING (i : Nat) : FRef := ⟨Reg.TRJ_AXIS_STAT i, ⟨24, 22⟩⟩
abbrev TRJ_AXIS_STAT.QDEPTH (i : Nat) : FRef := ⟨Reg.TRJ_AXIS_STAT i, ⟨21, 18⟩⟩
abbrev TRJ_AXIS_STAT.OV (i : Nat) : FRef := ⟨Reg.TRJ_AXIS_STAT i, ⟨16, 0⟩⟩
abbrev TRJ_AXIS_MOVE.ID (i : Nat) : FRef := ⟨Reg.TRJ_AXIS_MOVE i, ⟨31, 16⟩⟩
abbrev TRJ_AXIS_MOVE.KIND (i : Nat) : FRef := ⟨Reg.TRJ_AXIS_MOVE i, ⟨15, 14⟩⟩
abbrev TRJ_AXIS_MOVE.DIR (i : Nat) : FRef := ⟨Reg.TRJ_AXIS_MOVE i, ⟨13, 13⟩⟩
abbrev TRJ_AXIS_MOVE.ROW (i : Nat) : FRef := ⟨Reg.TRJ_AXIS_MOVE i, ⟨12, 0⟩⟩
abbrev TRJ_AXIS_REM.REM (i : Nat) : FRef := ⟨Reg.TRJ_AXIS_REM i, ⟨31, 0⟩⟩
abbrev TRJ_AXIS_SNP_HI.TAG (i : Nat) : FRef := ⟨Reg.TRJ_AXIS_SNP_HI i, ⟨31, 30⟩⟩
abbrev TRJ_AXIS_SNV.TAG (i : Nat) : FRef := ⟨Reg.TRJ_AXIS_SNV i, ⟨31, 30⟩⟩
abbrev TRJ_AXIS_HRES_HI.TAG (i : Nat) : FRef := ⟨Reg.TRJ_AXIS_HRES_HI i, ⟨31, 30⟩⟩
abbrev TRJ_SPAN.COUNT : FRef := ⟨Reg.TRJ_SPAN, ⟨29, 16⟩⟩
abbrev TRJ_SPAN.FIRST : FRef := ⟨Reg.TRJ_SPAN, ⟨12, 0⟩⟩
abbrev TRJ_MOVE_ARG.DIR : FRef := ⟨Reg.TRJ_MOVE_ARG, ⟨18, 18⟩⟩
abbrev TRJ_MOVE_ARG.KIND : FRef := ⟨Reg.TRJ_MOVE_ARG, ⟨17, 16⟩⟩
abbrev TRJ_MOVE_ARG.ID : FRef := ⟨Reg.TRJ_MOVE_ARG, ⟨15, 0⟩⟩
abbrev TRJ_CMD.OP : FRef := ⟨Reg.TRJ_CMD, ⟨7, 4⟩⟩
abbrev TRJ_CMD.AXIS : FRef := ⟨Reg.TRJ_CMD, ⟨2, 0⟩⟩
abbrev TRJ_CMD_STAT.BUSY : FRef := ⟨Reg.TRJ_CMD_STAT, ⟨31, 31⟩⟩
abbrev TRJ_CMD_STAT.CODE : FRef := ⟨Reg.TRJ_CMD_STAT, ⟨7, 4⟩⟩
abbrev TRJ_CMD_STAT.AXIS : FRef := ⟨Reg.TRJ_CMD_STAT, ⟨2, 0⟩⟩
abbrev TRJ_EVENT.LIMIT : FRef := ⟨Reg.TRJ_EVENT, ⟨3, 3⟩⟩
abbrev TRJ_EVENT.CMD_DONE : FRef := ⟨Reg.TRJ_EVENT, ⟨2, 2⟩⟩
abbrev TRJ_EVENT.CMD_REJ : FRef := ⟨Reg.TRJ_EVENT, ⟨1, 1⟩⟩
abbrev TRJ_EVENT.TST_WR_REJ : FRef := ⟨Reg.TRJ_EVENT, ⟨0, 0⟩⟩
abbrev TRJ_AXIS_EVENT.HOME : FRef := ⟨Reg.TRJ_AXIS_EVENT, ⟨31, 24⟩⟩
abbrev TRJ_AXIS_EVENT.ROW : FRef := ⟨Reg.TRJ_AXIS_EVENT, ⟨23, 16⟩⟩
abbrev TRJ_AXIS_EVENT.STOP : FRef := ⟨Reg.TRJ_AXIS_EVENT, ⟨15, 8⟩⟩
abbrev TRJ_AXIS_EVENT.DONE : FRef := ⟨Reg.TRJ_AXIS_EVENT, ⟨7, 0⟩⟩
abbrev TRJ_SNAP.SNAP : FRef := ⟨Reg.TRJ_SNAP, ⟨0, 0⟩⟩
abbrev TRJ_LAT_CFG.INPUT (i : Nat) : FRef := ⟨Reg.TRJ_LAT_CFG i, ⟨30, 24⟩⟩
abbrev TRJ_LAT_CFG.EDGE (i : Nat) : FRef := ⟨Reg.TRJ_LAT_CFG i, ⟨23, 22⟩⟩
abbrev TRJ_LAT_CFG.HOLDOFF (i : Nat) : FRef := ⟨Reg.TRJ_LAT_CFG i, ⟨21, 15⟩⟩
abbrev TRJ_LAT_CFG.SOURCE (i : Nat) : FRef := ⟨Reg.TRJ_LAT_CFG i, ⟨7, 0⟩⟩
abbrev TRJ_LAT_POS_HI.TAG (i : Nat) : FRef := ⟨Reg.TRJ_LAT_POS_HI i, ⟨31, 30⟩⟩
abbrev TRJ_LAT_TS_HI.TAG (i : Nat) : FRef := ⟨Reg.TRJ_LAT_TS_HI i, ⟨31, 30⟩⟩
abbrev TRJ_LAT_CMD.DISARM : FRef := ⟨Reg.TRJ_LAT_CMD, ⟨31, 16⟩⟩
abbrev TRJ_LAT_CMD.ARM : FRef := ⟨Reg.TRJ_LAT_CMD, ⟨15, 0⟩⟩
abbrev TRJ_LAT_STAT.NEW : FRef := ⟨Reg.TRJ_LAT_STAT, ⟨31, 16⟩⟩
abbrev TRJ_LAT_STAT.ARMED : FRef := ⟨Reg.TRJ_LAT_STAT, ⟨15, 0⟩⟩
abbrev TRJ_LAT_WAIT.WAIT : FRef := ⟨Reg.TRJ_LAT_WAIT, ⟨15, 0⟩⟩
abbrev TRJ_CMP_CFG.MODE (i : Nat) : FRef := ⟨Reg.TRJ_CMP_CFG i, ⟨31, 30⟩⟩
abbrev TRJ_CMP_CFG.SRC_AXIS (i : Nat) : FRef := ⟨Reg.TRJ_CMP_CFG i, ⟨29, 29⟩⟩
abbrev TRJ_CMP_CFG.OUT_EN (i : Nat) : FRef := ⟨Reg.TRJ_CMP_CFG i, ⟨28, 28⟩⟩
abbrev TRJ_CMP_CFG.SNAP (i : Nat) : FRef := ⟨Reg.TRJ_CMP_CFG i, ⟨27, 27⟩⟩
abbrev TRJ_CMP_CFG.OUT_N (i : Nat) : FRef := ⟨Reg.TRJ_CMP_CFG i, ⟨26, 22⟩⟩
abbrev TRJ_CMP_CFG.PULSE (i : Nat) : FRef := ⟨Reg.TRJ_CMP_CFG i, ⟨21, 14⟩⟩
abbrev TRJ_CMP_CFG.SOURCE (i : Nat) : FRef := ⟨Reg.TRJ_CMP_CFG i, ⟨7, 0⟩⟩
abbrev TRJ_CMP_RES.TAG (i : Nat) : FRef := ⟨Reg.TRJ_CMP_RES i, ⟨31, 30⟩⟩
abbrev TRJ_CMP_RES.DIR (i : Nat) : FRef := ⟨Reg.TRJ_CMP_RES i, ⟨29, 28⟩⟩
abbrev TRJ_CMP_RES.PERIOD (i : Nat) : FRef := ⟨Reg.TRJ_CMP_RES i, ⟨27, 0⟩⟩
abbrev TRJ_CMP_FIRED.FIRED : FRef := ⟨Reg.TRJ_CMP_FIRED, ⟨31, 0⟩⟩
abbrev TRJ_CMP_ARMED.ARMED : FRef := ⟨Reg.TRJ_CMP_ARMED, ⟨31, 0⟩⟩
abbrev TRJ_CMP_BEHIND.BEHIND : FRef := ⟨Reg.TRJ_CMP_BEHIND, ⟨31, 0⟩⟩
abbrev TRJ_CMP_DISARM.DISARM : FRef := ⟨Reg.TRJ_CMP_DISARM, ⟨31, 0⟩⟩
abbrev CMM_CH_CFG.EN_R (i : Nat) : FRef := ⟨Reg.CMM_CH_CFG i, ⟨31, 31⟩⟩
abbrev CMM_CH_CFG.EN_L (i : Nat) : FRef := ⟨Reg.CMM_CH_CFG i, ⟨30, 30⟩⟩
abbrev CMM_CH_CFG.EN_X (i : Nat) : FRef := ⟨Reg.CMM_CH_CFG i, ⟨29, 29⟩⟩
abbrev CMM_CH_CFG.EN_E (i : Nat) : FRef := ⟨Reg.CMM_CH_CFG i, ⟨28, 28⟩⟩
abbrev CMM_CH_CFG.EN_T (i : Nat) : FRef := ⟨Reg.CMM_CH_CFG i, ⟨27, 27⟩⟩
abbrev CMM_CH_CFG.BSET (i : Nat) : FRef := ⟨Reg.CMM_CH_CFG i, ⟨26, 25⟩⟩
abbrev CMM_CH_CFG.ZSI (i : Nat) : FRef := ⟨Reg.CMM_CH_CFG i, ⟨24, 24⟩⟩
abbrev CMM_CH_CFG.FORCE_BAND (i : Nat) : FRef := ⟨Reg.CMM_CH_CFG i, ⟨23, 21⟩⟩
abbrev CMM_CH_CFG.LEAD (i : Nat) : FRef := ⟨Reg.CMM_CH_CFG i, ⟨15, 0⟩⟩
abbrev CMM_CH_RES.RPH (i : Nat) : FRef := ⟨Reg.CMM_CH_RES i, ⟨31, 16⟩⟩
abbrev CMM_CH_RES.ALPHA (i : Nat) : FRef := ⟨Reg.CMM_CH_RES i, ⟨15, 0⟩⟩
abbrev CMM_CH_IND.L_D (i : Nat) : FRef := ⟨Reg.CMM_CH_IND i, ⟨31, 16⟩⟩
abbrev CMM_CH_IND.L_Q (i : Nat) : FRef := ⟨Reg.CMM_CH_IND i, ⟨15, 0⟩⟩
abbrev CMM_CH_KE.KE (i : Nat) : FRef := ⟨Reg.CMM_CH_KE i, ⟨19, 0⟩⟩
abbrev CMM_CH_LAMBDA.LAMBDA (i : Nat) : FRef := ⟨Reg.CMM_CH_LAMBDA i, ⟨17, 0⟩⟩
abbrev CMM_CH_ZERO.ZERO (i : Nat) : FRef := ⟨Reg.CMM_CH_ZERO i, ⟨31, 16⟩⟩
abbrev CMM_CH_STAT.BAND (i : Nat) : FRef := ⟨Reg.CMM_CH_STAT i, ⟨31, 30⟩⟩
abbrev CMM_CH_STAT.TARGET (i : Nat) : FRef := ⟨Reg.CMM_CH_STAT i, ⟨29, 28⟩⟩
abbrev CMM_CH_STAT.VSAT (i : Nat) : FRef := ⟨Reg.CMM_CH_STAT i, ⟨27, 27⟩⟩
abbrev CMM_CH_STAT.VLOW (i : Nat) : FRef := ⟨Reg.CMM_CH_STAT i, ⟨26, 26⟩⟩
abbrev CMM_CH_STAT.MODE (i : Nat) : FRef := ⟨Reg.CMM_CH_STAT i, ⟨25, 24⟩⟩
abbrev CMM_CH_STAT.VSAT_CNT (i : Nat) : FRef := ⟨Reg.CMM_CH_STAT i, ⟨15, 0⟩⟩
abbrev CMM_CH_VEC.M (i : Nat) : FRef := ⟨Reg.CMM_CH_VEC i, ⟨31, 16⟩⟩
abbrev CMM_CH_VEC.PHI (i : Nat) : FRef := ⟨Reg.CMM_CH_VEC i, ⟨15, 0⟩⟩
abbrev CMM_BSET_UP1.UP1 (i : Nat) : FRef := ⟨Reg.CMM_BSET_UP1 i, ⟨24, 0⟩⟩
abbrev CMM_BSET_UP2.UP2 (i : Nat) : FRef := ⟨Reg.CMM_BSET_UP2 i, ⟨24, 0⟩⟩
abbrev CMM_BSET_UP3.UP3 (i : Nat) : FRef := ⟨Reg.CMM_BSET_UP3 i, ⟨24, 0⟩⟩
abbrev CMM_BSET_HYST.HYST (i : Nat) : FRef := ⟨Reg.CMM_BSET_HYST i, ⟨24, 0⟩⟩
abbrev CMM_CFG.VLIM : FRef := ⟨Reg.CMM_CFG, ⟨31, 16⟩⟩
abbrev CMM_CFG.VBUS_MIN : FRef := ⟨Reg.CMM_CFG, ⟨15, 0⟩⟩
abbrev CMM_EVENT.NEW : FRef := ⟨Reg.CMM_EVENT, ⟨3, 3⟩⟩
abbrev CMM_EVENT.BAND : FRef := ⟨Reg.CMM_EVENT, ⟨2, 2⟩⟩
abbrev CMM_EVENT.VLOW : FRef := ⟨Reg.CMM_EVENT, ⟨1, 1⟩⟩
abbrev CMM_EVENT.VSAT : FRef := ⟨Reg.CMM_EVENT, ⟨0, 0⟩⟩
abbrev CMM_SNAP.SNAP : FRef := ⟨Reg.CMM_SNAP, ⟨0, 0⟩⟩
abbrev CMM_VSAT_MAP.VSAT (i : Nat) : FRef := ⟨Reg.CMM_VSAT_MAP i, ⟨31, 0⟩⟩
abbrev CMM_VLOW_MAP.VLOW (i : Nat) : FRef := ⟨Reg.CMM_VLOW_MAP i, ⟨31, 0⟩⟩
abbrev CMM_CH_SNPV.TAG (i : Nat) : FRef := ⟨Reg.CMM_CH_SNPV i, ⟨31, 30⟩⟩
abbrev CMM_CH_SNPV.M (i : Nat) : FRef := ⟨Reg.CMM_CH_SNPV i, ⟨29, 14⟩⟩
abbrev CMM_CH_SNPV.PHI (i : Nat) : FRef := ⟨Reg.CMM_CH_SNPV i, ⟨13, 0⟩⟩
abbrev CMM_CH_SNPC.TAG (i : Nat) : FRef := ⟨Reg.CMM_CH_SNPC i, ⟨31, 30⟩⟩
abbrev CMM_CH_SNPC.BAND (i : Nat) : FRef := ⟨Reg.CMM_CH_SNPC i, ⟨29, 28⟩⟩
abbrev CMM_CH_SNPC.VSAT_CNT (i : Nat) : FRef := ⟨Reg.CMM_CH_SNPC i, ⟨15, 0⟩⟩
abbrev FBK_CH_CFG.EN (i : Nat) : FRef := ⟨Reg.FBK_CH_CFG i, ⟨31, 31⟩⟩
abbrev FBK_CH_CFG.METHOD (i : Nat) : FRef := ⟨Reg.FBK_CH_CFG i, ⟨30, 30⟩⟩
abbrev FBK_CH_CFG.SPD (i : Nat) : FRef := ⟨Reg.FBK_CH_CFG i, ⟨29, 28⟩⟩
abbrev FBK_CH_CFG.IDX_MODE (i : Nat) : FRef := ⟨Reg.FBK_CH_CFG i, ⟨27, 27⟩⟩
abbrev FBK_CH_CFG.PAIRS (i : Nat) : FRef := ⟨Reg.FBK_CH_CFG i, ⟨26, 25⟩⟩
abbrev FBK_CH_CFG.NOM (i : Nat) : FRef := ⟨Reg.FBK_CH_CFG i, ⟨15, 0⟩⟩
abbrev FBK_CH_SCALE.SCALE (i : Nat) : FRef := ⟨Reg.FBK_CH_SCALE i, ⟨31, 0⟩⟩
abbrev FBK_CH_SENS0.SENS (i : Nat) : FRef := ⟨Reg.FBK_CH_SENS0 i, ⟨31, 0⟩⟩
abbrev FBK_CH_SENS1.SENS (i : Nat) : FRef := ⟨Reg.FBK_CH_SENS1 i, ⟨31, 0⟩⟩
abbrev FBK_CH_OFS0.OFS (i : Nat) : FRef := ⟨Reg.FBK_CH_OFS0 i, ⟨31, 0⟩⟩
abbrev FBK_CH_OFS1.OFS (i : Nat) : FRef := ⟨Reg.FBK_CH_OFS1 i, ⟨31, 0⟩⟩
abbrev FBK_CH_STAT.KIND (i : Nat) : FRef := ⟨Reg.FBK_CH_STAT i, ⟨15, 14⟩⟩
abbrev FBK_CH_STAT.WARN (i : Nat) : FRef := ⟨Reg.FBK_CH_STAT i, ⟨13, 13⟩⟩
abbrev FBK_CH_STAT.FREE (i : Nat) : FRef := ⟨Reg.FBK_CH_STAT i, ⟨12, 12⟩⟩
abbrev FBK_CH_STAT.ALIAS (i : Nat) : FRef := ⟨Reg.FBK_CH_STAT i, ⟨11, 11⟩⟩
abbrev FBK_CH_STAT.COVERED (i : Nat) : FRef := ⟨Reg.FBK_CH_STAT i, ⟨10, 10⟩⟩
abbrev FBK_CH_STAT.DISAGREE (i : Nat) : FRef := ⟨Reg.FBK_CH_STAT i, ⟨9, 9⟩⟩
abbrev FBK_CH_STAT.PAIR (i : Nat) : FRef := ⟨Reg.FBK_CH_STAT i, ⟨8, 8⟩⟩
abbrev FBK_CH_STAT.PAIRF (i : Nat) : FRef := ⟨Reg.FBK_CH_STAT i, ⟨7, 7⟩⟩
abbrev FBK_CH_STAT.BLEND (i : Nat) : FRef := ⟨Reg.FBK_CH_STAT i, ⟨6, 6⟩⟩
abbrev FBK_CH_STAT.METHOD (i : Nat) : FRef := ⟨Reg.FBK_CH_STAT i, ⟨5, 5⟩⟩
abbrev FBK_CH_STAT.HELD (i : Nat) : FRef := ⟨Reg.FBK_CH_STAT i, ⟨4, 4⟩⟩
abbrev FBK_CH_STAT.SIGF (i : Nat) : FRef := ⟨Reg.FBK_CH_STAT i, ⟨3, 3⟩⟩
abbrev FBK_CH_STAT.DIR (i : Nat) : FRef := ⟨Reg.FBK_CH_STAT i, ⟨2, 2⟩⟩
abbrev FBK_CH_STAT.SPD_VALID (i : Nat) : FRef := ⟨Reg.FBK_CH_STAT i, ⟨1, 1⟩⟩
abbrev FBK_CH_STAT.REF (i : Nat) : FRef := ⟨Reg.FBK_CH_STAT i, ⟨0, 0⟩⟩
abbrev FBK_CH_VEL.VEL (i : Nat) : FRef := ⟨Reg.FBK_CH_VEL i, ⟨31, 0⟩⟩
abbrev FBK_CH_ACC.ACC (i : Nat) : FRef := ⟨Reg.FBK_CH_ACC i, ⟨31, 0⟩⟩
abbrev FBK_CH_IDX_HI.TAG (i : Nat) : FRef := ⟨Reg.FBK_CH_IDX_HI i, ⟨31, 30⟩⟩
abbrev FBK_CH_SNP_HI.TAG (i : Nat) : FRef := ⟨Reg.FBK_CH_SNP_HI i, ⟨31, 30⟩⟩
abbrev FBK_CH_SNV.TAG (i : Nat) : FRef := ⟨Reg.FBK_CH_SNV i, ⟨31, 30⟩⟩
abbrev FBK_MARK.MARK : FRef := ⟨Reg.FBK_MARK, ⟨31, 0⟩⟩
abbrev FBK_LINK.AGREE : FRef := ⟨Reg.FBK_LINK, ⟨31, 20⟩⟩
abbrev FBK_LINK.EDGE : FRef := ⟨Reg.FBK_LINK, ⟨19, 0⟩⟩
abbrev FBK_ROPED.EN : FRef := ⟨Reg.FBK_ROPED, ⟨31, 31⟩⟩
abbrev FBK_ROPED.CAR : FRef := ⟨Reg.FBK_ROPED, ⟨18, 16⟩⟩
abbrev FBK_ROPED.SRC : FRef := ⟨Reg.FBK_ROPED, ⟨7, 0⟩⟩
abbrev FBK_ROPED_OFS.ROPED_OFS : FRef := ⟨Reg.FBK_ROPED_OFS, ⟨31, 0⟩⟩
abbrev FBK_SPD_LO.V_LO (i : Nat) : FRef := ⟨Reg.FBK_SPD_LO i, ⟨24, 0⟩⟩
abbrev FBK_SPD_HI.V_HI (i : Nat) : FRef := ⟨Reg.FBK_SPD_HI i, ⟨24, 0⟩⟩
abbrev FBK_SPD_OBS.T_ZERO (i : Nat) : FRef := ⟨Reg.FBK_SPD_OBS i, ⟨31, 24⟩⟩
abbrev FBK_SPD_OBS.BW (i : Nat) : FRef := ⟨Reg.FBK_SPD_OBS i, ⟨10, 0⟩⟩
abbrev FBK_EVENT.EMU : FRef := ⟨Reg.FBK_EVENT, ⟨6, 6⟩⟩
abbrev FBK_EVENT.CMD_REJ : FRef := ⟨Reg.FBK_EVENT, ⟨5, 5⟩⟩
abbrev FBK_EVENT.NEW : FRef := ⟨Reg.FBK_EVENT, ⟨4, 4⟩⟩
abbrev FBK_EVENT.PORT : FRef := ⟨Reg.FBK_EVENT, ⟨3, 3⟩⟩
abbrev FBK_EVENT.SIGF : FRef := ⟨Reg.FBK_EVENT, ⟨2, 2⟩⟩
abbrev FBK_EVENT.IDX : FRef := ⟨Reg.FBK_EVENT, ⟨1, 1⟩⟩
abbrev FBK_EVENT.DIR : FRef := ⟨Reg.FBK_EVENT, ⟨0, 0⟩⟩
abbrev FBK_DIR_MAP.MAP (i : Nat) : FRef := ⟨Reg.FBK_DIR_MAP i, ⟨31, 0⟩⟩
abbrev FBK_SIGF_MAP.MAP (i : Nat) : FRef := ⟨Reg.FBK_SIGF_MAP i, ⟨31, 0⟩⟩
abbrev FBK_IDX_MAP.MAP (i : Nat) : FRef := ⟨Reg.FBK_IDX_MAP i, ⟨31, 0⟩⟩
abbrev FBK_CMD.OP : FRef := ⟨Reg.FBK_CMD, ⟨31, 28⟩⟩
abbrev FBK_CMD.PAIR : FRef := ⟨Reg.FBK_CMD, ⟨9, 8⟩⟩
abbrev FBK_CMD.CH : FRef := ⟨Reg.FBK_CMD, ⟨7, 0⟩⟩
abbrev FBK_SNAP.SNAP : FRef := ⟨Reg.FBK_SNAP, ⟨0, 0⟩⟩
abbrev FBK_PORT_CFG.EN (i : Nat) : FRef := ⟨Reg.FBK_PORT_CFG i, ⟨31, 31⟩⟩
abbrev FBK_PORT_CFG.MODE (i : Nat) : FRef := ⟨Reg.FBK_PORT_CFG i, ⟨30, 29⟩⟩
abbrev FBK_PORT_CFG.RATE_MAX (i : Nat) : FRef := ⟨Reg.FBK_PORT_CFG i, ⟨28, 26⟩⟩
abbrev FBK_PORT_SSI.CLK (i : Nat) : FRef := ⟨Reg.FBK_PORT_SSI i, ⟨31, 29⟩⟩
abbrev FBK_PORT_SSI.GRAY (i : Nat) : FRef := ⟨Reg.FBK_PORT_SSI i, ⟨28, 28⟩⟩
abbrev FBK_PORT_SSI.PAR (i : Nat) : FRef := ⟨Reg.FBK_PORT_SSI i, ⟨27, 26⟩⟩
abbrev FBK_PORT_SSI.ERRB (i : Nat) : FRef := ⟨Reg.FBK_PORT_SSI i, ⟨25, 24⟩⟩
abbrev FBK_PORT_SSI.ERR_POL (i : Nat) : FRef := ⟨Reg.FBK_PORT_SSI i, ⟨23, 23⟩⟩
abbrev FBK_PORT_SSI.LEAD (i : Nat) : FRef := ⟨Reg.FBK_PORT_SSI i, ⟨22, 20⟩⟩
abbrev FBK_PORT_SSI.NBITS (i : Nat) : FRef := ⟨Reg.FBK_PORT_SSI i, ⟨19, 14⟩⟩
abbrev FBK_PORT_SSI.TM (i : Nat) : FRef := ⟨Reg.FBK_PORT_SSI i, ⟨13, 7⟩⟩
abbrev FBK_PORT_STAT.STATE (i : Nat) : FRef := ⟨Reg.FBK_PORT_STAT i, ⟨31, 29⟩⟩
abbrev FBK_PORT_STAT.RATE (i : Nat) : FRef := ⟨Reg.FBK_PORT_STAT i, ⟨28, 26⟩⟩
abbrev FBK_PORT_STAT.DELAY (i : Nat) : FRef := ⟨Reg.FBK_PORT_STAT i, ⟨25, 16⟩⟩
abbrev FBK_PORT_STAT.LOSS (i : Nat) : FRef := ⟨Reg.FBK_PORT_STAT i, ⟨15, 0⟩⟩
abbrev FBK_EMU_CFG.EN (i : Nat) : FRef := ⟨Reg.FBK_EMU_CFG i, ⟨31, 31⟩⟩
abbrev FBK_EMU_CFG.ZEN (i : Nat) : FRef := ⟨Reg.FBK_EMU_CFG i, ⟨30, 30⟩⟩
abbrev FBK_EMU_CFG.INV (i : Nat) : FRef := ⟨Reg.FBK_EMU_CFG i, ⟨29, 29⟩⟩
abbrev FBK_EMU_CFG.SRC (i : Nat) : FRef := ⟨Reg.FBK_EMU_CFG i, ⟨23, 16⟩⟩
abbrev FBK_EMU_CFG.LPM (i : Nat) : FRef := ⟨Reg.FBK_EMU_CFG i, ⟨15, 0⟩⟩
abbrev FBK_EMU_Z.ZLINES (i : Nat) : FRef := ⟨Reg.FBK_EMU_Z i, ⟨15, 0⟩⟩
abbrev FBK_EMU_STAT.LAG (i : Nat) : FRef := ⟨Reg.FBK_EMU_STAT i, ⟨31, 31⟩⟩
abbrev FBK_EMU_STAT.LOST (i : Nat) : FRef := ⟨Reg.FBK_EMU_STAT i, ⟨30, 30⟩⟩
abbrev FBK_EMU_STAT.BACKLOG (i : Nat) : FRef := ⟨Reg.FBK_EMU_STAT i, ⟨12, 0⟩⟩
abbrev TRJ_DOOR_CFG.EN (i : Nat) : FRef := ⟨Reg.TRJ_DOOR_CFG i, ⟨31, 31⟩⟩
abbrev TRJ_DOOR_CFG.LC_IN (i : Nat) : FRef := ⟨Reg.TRJ_DOOR_CFG i, ⟨30, 24⟩⟩
abbrev TRJ_DOOR_CFG.BUZ_OUT (i : Nat) : FRef := ⟨Reg.TRJ_DOOR_CFG i, ⟨23, 17⟩⟩
abbrev TRJ_DOOR_CFG.REOPEN (i : Nat) : FRef := ⟨Reg.TRJ_DOOR_CFG i, ⟨16, 16⟩⟩
abbrev TRJ_DOOR_CFG.NUDGE_T (i : Nat) : FRef := ⟨Reg.TRJ_DOOR_CFG i, ⟨15, 8⟩⟩
abbrev TRJ_DOOR_CFG.AXIS (i : Nat) : FRef := ⟨Reg.TRJ_DOOR_CFG i, ⟨2, 0⟩⟩
abbrev TRJ_DOOR_GEOM.END_TOL (i : Nat) : FRef := ⟨Reg.TRJ_DOOR_GEOM i, ⟨31, 22⟩⟩
abbrev TRJ_DOOR_GEOM.WIDTH (i : Nat) : FRef := ⟨Reg.TRJ_DOOR_GEOM i, ⟨21, 0⟩⟩
abbrev TRJ_DOOR_OPEN.COUNT (i : Nat) : FRef := ⟨Reg.TRJ_DOOR_OPEN i, ⟨29, 16⟩⟩
abbrev TRJ_DOOR_OPEN.FIRST (i : Nat) : FRef := ⟨Reg.TRJ_DOOR_OPEN i, ⟨12, 0⟩⟩
abbrev TRJ_DOOR_CLOSE.COUNT (i : Nat) : FRef := ⟨Reg.TRJ_DOOR_CLOSE i, ⟨29, 16⟩⟩
abbrev TRJ_DOOR_CLOSE.FIRST (i : Nat) : FRef := ⟨Reg.TRJ_DOOR_CLOSE i, ⟨12, 0⟩⟩
abbrev TRJ_DOOR_NUDGE.COUNT (i : Nat) : FRef := ⟨Reg.TRJ_DOOR_NUDGE i, ⟨29, 16⟩⟩
abbrev TRJ_DOOR_NUDGE.FIRST (i : Nat) : FRef := ⟨Reg.TRJ_DOOR_NUDGE i, ⟨12, 0⟩⟩
abbrev TRJ_DOOR_SCR.S (i : Nat) : FRef := ⟨Reg.TRJ_DOOR_SCR i, ⟨12, 0⟩⟩
abbrev TRJ_DOOR_MASS.M (i : Nat) : FRef := ⟨Reg.TRJ_DOOR_MASS i, ⟨19, 0⟩⟩
abbrev TRJ_DOOR_KF.KF (i : Nat) : FRef := ⟨Reg.TRJ_DOOR_KF i, ⟨19, 0⟩⟩
abbrev TRJ_DOOR_FCAP.F_CAP (i : Nat) : FRef := ⟨Reg.TRJ_DOOR_FCAP i, ⟨31, 24⟩⟩
abbrev TRJ_DOOR_FCAP.F_OBS (i : Nat) : FRef := ⟨Reg.TRJ_DOOR_FCAP i, ⟨23, 16⟩⟩
abbrev TRJ_DOOR_FCAP.T_FOBS (i : Nat) : FRef := ⟨Reg.TRJ_DOOR_FCAP i, ⟨15, 8⟩⟩
abbrev TRJ_DOOR_ECAP.E_CLOSE (i : Nat) : FRef := ⟨Reg.TRJ_DOOR_ECAP i, ⟨29, 16⟩⟩
abbrev TRJ_DOOR_ECAP.E_NUDGE (i : Nat) : FRef := ⟨Reg.TRJ_DOOR_ECAP i, ⟨13, 0⟩⟩
abbrev TRJ_DOOR_DEF.DEF_PCT (i : Nat) : FRef := ⟨Reg.TRJ_DOOR_DEF i, ⟨31, 25⟩⟩
abbrev TRJ_DOOR_DEF.T_DEF (i : Nat) : FRef := ⟨Reg.TRJ_DOOR_DEF i, ⟨24, 17⟩⟩
abbrev TRJ_DOOR_DEF.V_CHK (i : Nat) : FRef := ⟨Reg.TRJ_DOOR_DEF i, ⟨16, 0⟩⟩
abbrev TRJ_DOOR_GENV.GEN_V (i : Nat) : FRef := ⟨Reg.TRJ_DOOR_GENV i, ⟨23, 0⟩⟩
abbrev TRJ_DOOR_GENA.GEN_A (i : Nat) : FRef := ⟨Reg.TRJ_DOOR_GENA i, ⟨23, 0⟩⟩
abbrev TRJ_DOOR_TIME.T_LOCK (i : Nat) : FRef := ⟨Reg.TRJ_DOOR_TIME i, ⟨31, 16⟩⟩
abbrev TRJ_DOOR_TIME.DWELL_RE (i : Nat) : FRef := ⟨Reg.TRJ_DOOR_TIME i, ⟨15, 0⟩⟩
abbrev TRJ_DOOR_STAT.STATE (i : Nat) : FRef := ⟨Reg.TRJ_DOOR_STAT i, ⟨31, 28⟩⟩
abbrev TRJ_DOOR_STAT.PENDING (i : Nat) : FRef := ⟨Reg.TRJ_DOOR_STAT i, ⟨27, 27⟩⟩
abbrev TRJ_DOOR_STAT.NUDGE_LATCH (i : Nat) : FRef := ⟨Reg.TRJ_DOOR_STAT i, ⟨26, 26⟩⟩
abbrev TRJ_DOOR_STAT.FAULT (i : Nat) : FRef := ⟨Reg.TRJ_DOOR_STAT i, ⟨25, 25⟩⟩
abbrev TRJ_DOOR_STAT.REJ (i : Nat) : FRef := ⟨Reg.TRJ_DOOR_STAT i, ⟨24, 21⟩⟩
abbrev TRJ_DOOR_STAT.LAST_OBS (i : Nat) : FRef := ⟨Reg.TRJ_DOOR_STAT i, ⟨19, 16⟩⟩
abbrev TRJ_DOOR_STAT.OBS_CNT (i : Nat) : FRef := ⟨Reg.TRJ_DOOR_STAT i, ⟨15, 0⟩⟩
abbrev TRJ_DOOR_FORCE.F_CLOSE (i : Nat) : FRef := ⟨Reg.TRJ_DOOR_FORCE i, ⟨31, 0⟩⟩
abbrev TRJ_DOOR_CMD.OP : FRef := ⟨Reg.TRJ_DOOR_CMD, ⟨7, 4⟩⟩
abbrev TRJ_DOOR_CMD.DOOR : FRef := ⟨Reg.TRJ_DOOR_CMD, ⟨0, 0⟩⟩
abbrev TRJ_DOOR_EVENT.CMD_OVR : FRef := ⟨Reg.TRJ_DOOR_EVENT, ⟨16, 16⟩⟩
abbrev TRJ_DOOR_EVENT.DOOR1 : FRef := ⟨Reg.TRJ_DOOR_EVENT, ⟨15, 8⟩⟩
abbrev TRJ_DOOR_EVENT.DOOR0 : FRef := ⟨Reg.TRJ_DOOR_EVENT, ⟨7, 0⟩⟩
abbrev BSS_CFG.EN : FRef := ⟨Reg.BSS_CFG, ⟨31, 31⟩⟩
abbrev BSS_CFG.TST_BASE : FRef := ⟨Reg.BSS_CFG, ⟨12, 0⟩⟩
abbrev BSS_ENV_DN.ENV_DN : FRef := ⟨Reg.BSS_ENV_DN, ⟨31, 0⟩⟩
abbrev BSS_ENV_UP.ENV_UP : FRef := ⟨Reg.BSS_ENV_UP, ⟨31, 0⟩⟩
abbrev BSS_SEP.SEP_MARGIN : FRef := ⟨Reg.BSS_SEP, ⟨31, 0⟩⟩
abbrev BSS_VMOVE.V_MOVE : FRef := ⟨Reg.BSS_VMOVE, ⟨24, 0⟩⟩
abbrev BSS_VRELEV.V_RELEV : FRef := ⟨Reg.BSS_VRELEV, ⟨24, 0⟩⟩
abbrev BSS_AMOVE.A_MOVE : FRef := ⟨Reg.BSS_AMOVE, ⟨27, 0⟩⟩
abbrev BSS_JMOVE.J_MOVE : FRef := ⟨Reg.BSS_JMOVE, ⟨27, 0⟩⟩
abbrev BSS_KF.KF : FRef := ⟨Reg.BSS_KF, ⟨19, 0⟩⟩
abbrev BSS_THERM.TAU : FRef := ⟨Reg.BSS_THERM, ⟨31, 16⟩⟩
abbrev BSS_THERM.R_TH : FRef := ⟨Reg.BSS_THERM, ⟨15, 0⟩⟩
abbrev BSS_TEMP.T_ADMIT : FRef := ⟨Reg.BSS_TEMP, ⟨31, 16⟩⟩
abbrev BSS_TEMP.T_AMB : FRef := ⟨Reg.BSS_TEMP, ⟨15, 0⟩⟩
abbrev BSS_CORR.CORR : FRef := ⟨Reg.BSS_CORR, ⟨15, 0⟩⟩
abbrev BSS_PCONT.P_CONT : FRef := ⟨Reg.BSS_PCONT, ⟨30, 0⟩⟩
abbrev BSS_CAP.CAP : FRef := ⟨Reg.BSS_CAP, ⟨30, 0⟩⟩
abbrev BSS_RESCUE.RESCUE_PCT : FRef := ⟨Reg.BSS_RESCUE, ⟨6, 0⟩⟩
abbrev BSS_STOP_CMD.OP : FRef := ⟨Reg.BSS_STOP_CMD, ⟨31, 28⟩⟩
abbrev BSS_STOP_CMD.FLAGS : FRef := ⟨Reg.BSS_STOP_CMD, ⟨27, 25⟩⟩
abbrev BSS_STOP_CMD.SIDES : FRef := ⟨Reg.BSS_STOP_CMD, ⟨24, 23⟩⟩
abbrev BSS_STOP_CMD.CAR : FRef := ⟨Reg.BSS_STOP_CMD, ⟨22, 20⟩⟩
abbrev BSS_STOP_CMD.LANDING : FRef := ⟨Reg.BSS_STOP_CMD, ⟨19, 14⟩⟩
abbrev BSS_STOP_CMD.SECTION : FRef := ⟨Reg.BSS_STOP_CMD, ⟨7, 0⟩⟩
abbrev BSS_CMD_STAT.CODE : FRef := ⟨Reg.BSS_CMD_STAT, ⟨7, 4⟩⟩
abbrev BSS_CMD_STAT.CAR : FRef := ⟨Reg.BSS_CMD_STAT, ⟨2, 0⟩⟩
abbrev BSS_EVENT.NEW : FRef := ⟨Reg.BSS_EVENT, ⟨6, 6⟩⟩
abbrev BSS_EVENT.GRANT_OUT : FRef := ⟨Reg.BSS_EVENT, ⟨5, 5⟩⟩
abbrev BSS_EVENT.ARRIVE : FRef := ⟨Reg.BSS_EVENT, ⟨4, 4⟩⟩
abbrev BSS_EVENT.REFUSE : FRef := ⟨Reg.BSS_EVENT, ⟨3, 3⟩⟩
abbrev BSS_EVENT.DEFER : FRef := ⟨Reg.BSS_EVENT, ⟨2, 2⟩⟩
abbrev BSS_EVENT.ADMIT : FRef := ⟨Reg.BSS_EVENT, ⟨1, 1⟩⟩
abbrev BSS_EVENT.CMD_REJ : FRef := ⟨Reg.BSS_EVENT, ⟨0, 0⟩⟩
abbrev BSS_CAR_STAT.D (i : Nat) : FRef := ⟨Reg.BSS_CAR_STAT i, ⟨31, 30⟩⟩
abbrev BSS_CAR_STAT.QLEN (i : Nat) : FRef := ⟨Reg.BSS_CAR_STAT i, ⟨29, 23⟩⟩
abbrev BSS_CAR_STAT.DEPART (i : Nat) : FRef := ⟨Reg.BSS_CAR_STAT i, ⟨22, 22⟩⟩
abbrev BSS_CAR_STAT.EVAL (i : Nat) : FRef := ⟨Reg.BSS_CAR_STAT i, ⟨21, 20⟩⟩
abbrev BSS_CAR_STAT.REASON (i : Nat) : FRef := ⟨Reg.BSS_CAR_STAT i, ⟨19, 16⟩⟩
abbrev BSS_CAR_STAT.DEFER_CNT (i : Nat) : FRef := ⟨Reg.BSS_CAR_STAT i, ⟨15, 0⟩⟩
abbrev BSS_CAR_LAST.TAG (i : Nat) : FRef := ⟨Reg.BSS_CAR_LAST i, ⟨31, 30⟩⟩
abbrev BSS_CAR_LAST.OUTCOME (i : Nat) : FRef := ⟨Reg.BSS_CAR_LAST i, ⟨29, 28⟩⟩
abbrev BSS_CAR_LAST.REASON (i : Nat) : FRef := ⟨Reg.BSS_CAR_LAST i, ⟨27, 24⟩⟩
abbrev BSS_CAR_LAST.LANDING (i : Nat) : FRef := ⟨Reg.BSS_CAR_LAST i, ⟨13, 8⟩⟩
abbrev BSS_CAR_LAST.SECTION (i : Nat) : FRef := ⟨Reg.BSS_CAR_LAST i, ⟨7, 0⟩⟩
abbrev BSS_CAR_ARRIVE.TAG (i : Nat) : FRef := ⟨Reg.BSS_CAR_ARRIVE i, ⟨31, 30⟩⟩
abbrev BSS_CAR_ARRIVE.DNEXT (i : Nat) : FRef := ⟨Reg.BSS_CAR_ARRIVE i, ⟨29, 28⟩⟩
abbrev BSS_CAR_ARRIVE.SIDES (i : Nat) : FRef := ⟨Reg.BSS_CAR_ARRIVE i, ⟨27, 26⟩⟩
abbrev BSS_CAR_ARRIVE.SERVED (i : Nat) : FRef := ⟨Reg.BSS_CAR_ARRIVE i, ⟨25, 23⟩⟩
abbrev BSS_CAR_ARRIVE.LANDING (i : Nat) : FRef := ⟨Reg.BSS_CAR_ARRIVE i, ⟨13, 8⟩⟩
abbrev BSS_CAR_ARRIVE.SECTION (i : Nat) : FRef := ⟨Reg.BSS_CAR_ARRIVE i, ⟨7, 0⟩⟩
abbrev BSS_Q.VALID (i j : Nat) : FRef := ⟨Reg.BSS_Q i j, ⟨31, 31⟩⟩
abbrev BSS_Q.FLAGS (i j : Nat) : FRef := ⟨Reg.BSS_Q i j, ⟨30, 28⟩⟩
abbrev BSS_Q.SIDES (i j : Nat) : FRef := ⟨Reg.BSS_Q i j, ⟨27, 26⟩⟩
abbrev BSS_Q.LANDING (i j : Nat) : FRef := ⟨Reg.BSS_Q i j, ⟨13, 8⟩⟩
abbrev BSS_Q.SECTION (i j : Nat) : FRef := ⟨Reg.BSS_Q i j, ⟨7, 0⟩⟩
abbrev BSS_RES_INFO.STATE (i : Nat) : FRef := ⟨Reg.BSS_RES_INFO i, ⟨31, 30⟩⟩
abbrev BSS_RES_INFO.LOCAL (i : Nat) : FRef := ⟨Reg.BSS_RES_INFO i, ⟨29, 29⟩⟩
abbrev BSS_RES_INFO.MOVE (i : Nat) : FRef := ⟨Reg.BSS_RES_INFO i, ⟨28, 28⟩⟩
abbrev BSS_RES_INFO.CAR (i : Nat) : FRef := ⟨Reg.BSS_RES_INFO i, ⟨27, 14⟩⟩
abbrev BSS_THETA.THETA (i : Nat) : FRef := ⟨Reg.BSS_THETA i, ⟨31, 0⟩⟩
abbrev BSS_BUCKET.LEVEL : FRef := ⟨Reg.BSS_BUCKET, ⟨31, 0⟩⟩
abbrev SLK_PORT_CFG.EN (i : Nat) : FRef := ⟨Reg.SLK_PORT_CFG i, ⟨31, 31⟩⟩
abbrev SLK_PORT_CFG.N_NODES (i : Nat) : FRef := ⟨Reg.SLK_PORT_CFG i, ⟨4, 0⟩⟩
abbrev SLK_PORT_STAT.STATE (i : Nat) : FRef := ⟨Reg.SLK_PORT_STAT i, ⟨31, 30⟩⟩
abbrev SLK_PORT_STAT.FRAME_LOSS (i : Nat) : FRef := ⟨Reg.SLK_PORT_STAT i, ⟨15, 0⟩⟩
abbrev SLK_PORT_DRET.D_RET (i : Nat) : FRef := ⟨Reg.SLK_PORT_DRET i, ⟨15, 0⟩⟩
abbrev SLK_CH_CFG.EN (i : Nat) : FRef := ⟨Reg.SLK_CH_CFG i, ⟨31, 31⟩⟩
abbrev SLK_CH_CFG.TYPE (i : Nat) : FRef := ⟨Reg.SLK_CH_CFG i, ⟨30, 29⟩⟩
abbrev SLK_CH_CFG.SAFE (i : Nat) : FRef := ⟨Reg.SLK_CH_CFG i, ⟨28, 28⟩⟩
abbrev SLK_CH_CFG.T_SIL (i : Nat) : FRef := ⟨Reg.SLK_CH_CFG i, ⟨27, 21⟩⟩
abbrev SLK_CH_CFG.SAFE_PAT (i : Nat) : FRef := ⟨Reg.SLK_CH_CFG i, ⟨7, 0⟩⟩
abbrev SLK_CH_NODEID.NODEID (i : Nat) : FRef := ⟨Reg.SLK_CH_NODEID i, ⟨31, 0⟩⟩
abbrev SLK_CH_STAT.FAULT (i : Nat) : FRef := ⟨Reg.SLK_CH_STAT i, ⟨31, 31⟩⟩
abbrev SLK_CH_STAT.HELD (i : Nat) : FRef := ⟨Reg.SLK_CH_STAT i, ⟨30, 30⟩⟩
abbrev SLK_CH_STAT.CONSEC (i : Nat) : FRef := ⟨Reg.SLK_CH_STAT i, ⟨29, 28⟩⟩
abbrev SLK_CH_STAT.NSTAT (i : Nat) : FRef := ⟨Reg.SLK_CH_STAT i, ⟨15, 0⟩⟩
abbrev SLK_CH_CNT.RX_LOST (i : Nat) : FRef := ⟨Reg.SLK_CH_CNT i, ⟨31, 16⟩⟩
abbrev SLK_CH_CNT.TX_LOST (i : Nat) : FRef := ⟨Reg.SLK_CH_CNT i, ⟨15, 8⟩⟩
abbrev SLK_CH_CNT.SHARE_MISS (i : Nat) : FRef := ⟨Reg.SLK_CH_CNT i, ⟨7, 0⟩⟩
abbrev SLK_NODE_CLR.CH : FRef := ⟨Reg.SLK_NODE_CLR, ⟨6, 0⟩⟩
abbrev SLK_CAP.OP : FRef := ⟨Reg.SLK_CAP, ⟨31, 30⟩⟩
abbrev SLK_CAP.CH : FRef := ⟨Reg.SLK_CAP, ⟨6, 0⟩⟩
abbrev SLK_CAP_STAT.VALID : FRef := ⟨Reg.SLK_CAP_STAT, ⟨31, 31⟩⟩
abbrev SLK_CAP_STAT.DIR : FRef := ⟨Reg.SLK_CAP_STAT, ⟨30, 30⟩⟩
abbrev SLK_CAP_STAT.CH : FRef := ⟨Reg.SLK_CAP_STAT, ⟨6, 0⟩⟩
abbrev SLK_POOL.FREE : FRef := ⟨Reg.SLK_POOL, ⟨25, 16⟩⟩
abbrev SLK_POOL.MIN : FRef := ⟨Reg.SLK_POOL, ⟨9, 0⟩⟩
abbrev SLK_EVENT.CAP_REJ : FRef := ⟨Reg.SLK_EVENT, ⟨5, 5⟩⟩
abbrev SLK_EVENT.PORT : FRef := ⟨Reg.SLK_EVENT, ⟨4, 4⟩⟩
abbrev SLK_EVENT.SHARE_MISS : FRef := ⟨Reg.SLK_EVENT, ⟨3, 3⟩⟩
abbrev SLK_EVENT.POOL_EXH : FRef := ⟨Reg.SLK_EVENT, ⟨2, 2⟩⟩
abbrev SLK_EVENT.NODE_FAULT : FRef := ⟨Reg.SLK_EVENT, ⟨1, 1⟩⟩
abbrev SLK_EVENT.SLOT_LOST : FRef := ⟨Reg.SLK_EVENT, ⟨0, 0⟩⟩
abbrev SLK_FAULT_MAP.FAULT (i : Nat) : FRef := ⟨Reg.SLK_FAULT_MAP i, ⟨31, 0⟩⟩
abbrev SLK_CAP_DATA.DATA (i : Nat) : FRef := ⟨Reg.SLK_CAP_DATA i, ⟨31, 0⟩⟩
abbrev FIO_GRP_CFG.TIMEOUT (i : Nat) : FRef := ⟨Reg.FIO_GRP_CFG i, ⟨31, 24⟩⟩
abbrev FIO_GRP_CFG.SILENT (i : Nat) : FRef := ⟨Reg.FIO_GRP_CFG i, ⟨23, 23⟩⟩
abbrev FIO_GRP_CFG.SAFE_PAT (i : Nat) : FRef := ⟨Reg.FIO_GRP_CFG i, ⟨7, 0⟩⟩
abbrev FIO_GRP_STAT.LINK (i : Nat) : FRef := ⟨Reg.FIO_GRP_STAT i, ⟨31, 30⟩⟩
abbrev FIO_GRP_STAT.UV (i : Nat) : FRef := ⟨Reg.FIO_GRP_STAT i, ⟨29, 29⟩⟩
abbrev FIO_GRP_STAT.WARN (i : Nat) : FRef := ⟨Reg.FIO_GRP_STAT i, ⟨28, 28⟩⟩
abbrev FIO_GRP_STAT.SILENT_ACT (i : Nat) : FRef := ⟨Reg.FIO_GRP_STAT i, ⟨27, 27⟩⟩
abbrev FIO_GRP_STAT.LOST (i : Nat) : FRef := ⟨Reg.FIO_GRP_STAT i, ⟨23, 16⟩⟩
abbrev FIO_GRP_STAT.LPLUS (i : Nat) : FRef := ⟨Reg.FIO_GRP_STAT i, ⟨11, 0⟩⟩
abbrev FIO_IN.IN (i : Nat) : FRef := ⟨Reg.FIO_IN i, ⟨31, 0⟩⟩
abbrev FIO_FIN_CFG.EDGE (i : Nat) : FRef := ⟨Reg.FIO_FIN_CFG i, ⟨31, 30⟩⟩
abbrev FIO_FIN_CFG.GATE (i : Nat) : FRef := ⟨Reg.FIO_FIN_CFG i, ⟨25, 16⟩⟩
abbrev FIO_FIN_CNT_HI.TAG (i : Nat) : FRef := ⟨Reg.FIO_FIN_CNT_HI i, ⟨31, 30⟩⟩
abbrev FIO_FIN_FREQ.TAG (i : Nat) : FRef := ⟨Reg.FIO_FIN_FREQ i, ⟨31, 30⟩⟩
abbrev FIO_FIN_FREQ.OVR (i : Nat) : FRef := ⟨Reg.FIO_FIN_FREQ i, ⟨29, 29⟩⟩
abbrev FIO_FIN_FREQ.FREQ (i : Nat) : FRef := ⟨Reg.FIO_FIN_FREQ i, ⟨27, 0⟩⟩
abbrev FIO_FIN_SNC_HI.TAG (i : Nat) : FRef := ⟨Reg.FIO_FIN_SNC_HI i, ⟨31, 30⟩⟩
abbrev FIO_OUT_REQ.REQ : FRef := ⟨Reg.FIO_OUT_REQ, ⟨31, 0⟩⟩
abbrev FIO_OUT_RESTART.RESTART : FRef := ⟨Reg.FIO_OUT_RESTART, ⟨31, 0⟩⟩
abbrev FIO_OUT_STATE.STATE : FRef := ⟨Reg.FIO_OUT_STATE, ⟨31, 0⟩⟩
abbrev FIO_OUT_RB.RB : FRef := ⟨Reg.FIO_OUT_RB, ⟨31, 0⟩⟩
abbrev FIO_SAFE_MAP.SAFE : FRef := ⟨Reg.FIO_SAFE_MAP, ⟨31, 0⟩⟩
abbrev FIO_OUT_STAT.CAUSE (i : Nat) : FRef := ⟨Reg.FIO_OUT_STAT i, ⟨31, 28⟩⟩
abbrev FIO_OUT_STAT.LATCHED (i : Nat) : FRef := ⟨Reg.FIO_OUT_STAT i, ⟨27, 27⟩⟩
abbrev FIO_OUT_STAT.PARTNER (i : Nat) : FRef := ⟨Reg.FIO_OUT_STAT i, ⟨20, 16⟩⟩
abbrev FIO_OUT_STAT.THERM_CNT (i : Nat) : FRef := ⟨Reg.FIO_OUT_STAT i, ⟨15, 0⟩⟩
abbrev FIO_OUT_CLR.CLR : FRef := ⟨Reg.FIO_OUT_CLR, ⟨31, 0⟩⟩
abbrev FIO_STO_STAT.RB : FRef := ⟨Reg.FIO_STO_STAT, ⟨31, 16⟩⟩
abbrev FIO_STO_STAT.CMD : FRef := ⟨Reg.FIO_STO_STAT, ⟨15, 0⟩⟩
abbrev FIO_EVENT.NEW : FRef := ⟨Reg.FIO_EVENT, ⟨7, 7⟩⟩
abbrev FIO_EVENT.GROUP : FRef := ⟨Reg.FIO_EVENT, ⟨6, 6⟩⟩
abbrev FIO_EVENT.CROSS : FRef := ⟨Reg.FIO_EVENT, ⟨5, 5⟩⟩
abbrev FIO_EVENT.STUCK : FRef := ⟨Reg.FIO_EVENT, ⟨4, 4⟩⟩
abbrev FIO_EVENT.THERM : FRef := ⟨Reg.FIO_EVENT, ⟨3, 3⟩⟩
abbrev FIO_EVENT.UV : FRef := ⟨Reg.FIO_EVENT, ⟨2, 2⟩⟩
abbrev FIO_EVENT.WARN : FRef := ⟨Reg.FIO_EVENT, ⟨1, 1⟩⟩
abbrev FIO_EVENT.CLR_REJ : FRef := ⟨Reg.FIO_EVENT, ⟨0, 0⟩⟩
abbrev FIO_SNAP.SNAP : FRef := ⟨Reg.FIO_SNAP, ⟨0, 0⟩⟩
abbrev SAF_STAT.LOCKOUT : FRef := ⟨Reg.SAF_STAT, ⟨13, 13⟩⟩
abbrev SAF_STAT.FENCED : FRef := ⟨Reg.SAF_STAT, ⟨12, 12⟩⟩
abbrev SAF_STAT.DIAG_SUSP : FRef := ⟨Reg.SAF_STAT, ⟨11, 11⟩⟩
abbrev SAF_STAT.PROOF_DUE : FRef := ⟨Reg.SAF_STAT, ⟨10, 10⟩⟩
abbrev SAF_STAT.CORE_OK : FRef := ⟨Reg.SAF_STAT, ⟨9, 9⟩⟩
abbrev SAF_STAT.ECL_OK : FRef := ⟨Reg.SAF_STAT, ⟨8, 8⟩⟩
abbrev SAF_STAT.DEMAND : FRef := ⟨Reg.SAF_STAT, ⟨7, 0⟩⟩
abbrev SAF_EVENT.RESET_REJ : FRef := ⟨Reg.SAF_EVENT, ⟨6, 6⟩⟩
abbrev SAF_EVENT.RESET_DONE : FRef := ⟨Reg.SAF_EVENT, ⟨5, 5⟩⟩
abbrev SAF_EVENT.NEW : FRef := ⟨Reg.SAF_EVENT, ⟨4, 4⟩⟩
abbrev SAF_EVENT.HO_FAIL : FRef := ⟨Reg.SAF_EVENT, ⟨3, 3⟩⟩
abbrev SAF_EVENT.DISC_FAULT : FRef := ⟨Reg.SAF_EVENT, ⟨2, 2⟩⟩
abbrev SAF_EVENT.LOCKOUT : FRef := ⟨Reg.SAF_EVENT, ⟨1, 1⟩⟩
abbrev SAF_EVENT.DEMAND : FRef := ⟨Reg.SAF_EVENT, ⟨0, 0⟩⟩
abbrev SAF_FAULT.TAG : FRef := ⟨Reg.SAF_FAULT, ⟨31, 30⟩⟩
abbrev SAF_FAULT.PATH : FRef := ⟨Reg.SAF_FAULT, ⟨29, 28⟩⟩
abbrev SAF_FAULT.CLASS : FRef := ⟨Reg.SAF_FAULT, ⟨23, 16⟩⟩
abbrev SAF_FAULT.DETAIL : FRef := ⟨Reg.SAF_FAULT, ⟨15, 0⟩⟩
abbrev SAF_STO_MAP.STO (i : Nat) : FRef := ⟨Reg.SAF_STO_MAP i, ⟨31, 0⟩⟩
abbrev SAF_RESET_CMD.CODE : FRef := ⟨Reg.SAF_RESET_CMD, ⟨15, 0⟩⟩
abbrev SAF_DIAG_CMD.OP : FRef := ⟨Reg.SAF_DIAG_CMD, ⟨1, 0⟩⟩
abbrev SAF_RESET_STAT.REJ : FRef := ⟨Reg.SAF_RESET_STAT, ⟨7, 4⟩⟩
abbrev SAF_RESET_STAT.SRC : FRef := ⟨Reg.SAF_RESET_STAT, ⟨3, 0⟩⟩
abbrev SAF_FUNC_STAT.DEMAND : FRef := ⟨Reg.SAF_FUNC_STAT, ⟨10, 1⟩⟩
abbrev SAF_TG_STAT.DISCARDED : FRef := ⟨Reg.SAF_TG_STAT, ⟨31, 16⟩⟩
abbrev SAF_TG_STAT.WD_EXP : FRef := ⟨Reg.SAF_TG_STAT, ⟨15, 0⟩⟩
abbrev SAF_SPS_STAT.STATE : FRef := ⟨Reg.SAF_SPS_STAT, ⟨31, 29⟩⟩
abbrev SAF_SPS_STAT.REJ : FRef := ⟨Reg.SAF_SPS_STAT, ⟨28, 25⟩⟩
abbrev SAF_SPS_STAT.TRIES : FRef := ⟨Reg.SAF_SPS_STAT, ⟨1, 0⟩⟩
abbrev SAF_SPS_CHECK.CHECK : FRef := ⟨Reg.SAF_SPS_CHECK, ⟨31, 0⟩⟩
abbrev SAF_SPS_CONFIRM.VALUE : FRef := ⟨Reg.SAF_SPS_CONFIRM, ⟨31, 0⟩⟩
abbrev SAF_SPS_GEN.GEN : FRef := ⟨Reg.SAF_SPS_GEN, ⟨31, 16⟩⟩
abbrev SAF_SPS_GEN.BANK : FRef := ⟨Reg.SAF_SPS_GEN, ⟨0, 0⟩⟩
abbrev SAF_SPS_WORD.CHECK : FRef := ⟨Reg.SAF_SPS_WORD, ⟨31, 0⟩⟩
abbrev FAB_SP_CFG.EN (i : Nat) : FRef := ⟨Reg.FAB_SP_CFG i, ⟨31, 31⟩⟩
abbrev FAB_SP_CFG.DS_EN (i : Nat) : FRef := ⟨Reg.FAB_SP_CFG i, ⟨10, 10⟩⟩
abbrev FAB_SP_CFG.AMP (i : Nat) : FRef := ⟨Reg.FAB_SP_CFG i, ⟨9, 9⟩⟩
abbrev FAB_SP_CFG.FORCE (i : Nat) : FRef := ⟨Reg.FAB_SP_CFG i, ⟨8, 8⟩⟩
abbrev FAB_SP_CFG.ALLOW (i : Nat) : FRef := ⟨Reg.FAB_SP_CFG i, ⟨2, 0⟩⟩
abbrev FAB_SP_STAT.STATE (i : Nat) : FRef := ⟨Reg.FAB_SP_STAT i, ⟨31, 30⟩⟩
abbrev FAB_SP_STAT.MODE (i : Nat) : FRef := ⟨Reg.FAB_SP_STAT i, ⟨29, 28⟩⟩
abbrev FAB_SP_STAT.DS_MASK (i : Nat) : FRef := ⟨Reg.FAB_SP_STAT i, ⟨27, 25⟩⟩
abbrev FAB_SP_STAT.SQI (i : Nat) : FRef := ⟨Reg.FAB_SP_STAT i, ⟨24, 22⟩⟩
abbrev FAB_SP_STAT.DROPS (i : Nat) : FRef := ⟨Reg.FAB_SP_STAT i, ⟨15, 0⟩⟩
abbrev FAB_SP_CMD.OP (i : Nat) : FRef := ⟨Reg.FAB_SP_CMD i, ⟨31, 28⟩⟩
abbrev FAB_SP_TEST.TAG (i : Nat) : FRef := ⟨Reg.FAB_SP_TEST i, ⟨31, 30⟩⟩
abbrev FAB_SP_TEST.RESULT (i : Nat) : FRef := ⟨Reg.FAB_SP_TEST i, ⟨29, 28⟩⟩
abbrev FAB_SP_TEST.DIST (i : Nat) : FRef := ⟨Reg.FAB_SP_TEST i, ⟨11, 0⟩⟩
abbrev FAB_SP_MSEC.EN (i : Nat) : FRef := ⟨Reg.FAB_SP_MSEC i, ⟨31, 31⟩⟩
abbrev FAB_SP_MSEC.CONF (i : Nat) : FRef := ⟨Reg.FAB_SP_MSEC i, ⟨30, 30⟩⟩
abbrev FAB_SP_MSEC.STRICT (i : Nat) : FRef := ⟨Reg.FAB_SP_MSEC i, ⟨29, 29⟩⟩
abbrev FAB_SP_MSEC.PTP_BYP (i : Nat) : FRef := ⟨Reg.FAB_SP_MSEC i, ⟨28, 28⟩⟩
abbrev FAB_SP_MSEC.RPW (i : Nat) : FRef := ⟨Reg.FAB_SP_MSEC i, ⟨7, 0⟩⟩
abbrev FAB_SP_TXSA.EN (i : Nat) : FRef := ⟨Reg.FAB_SP_TXSA i, ⟨31, 31⟩⟩
abbrev FAB_SP_TXSA.AN (i : Nat) : FRef := ⟨Reg.FAB_SP_TXSA i, ⟨13, 12⟩⟩
abbrev FAB_SP_TXSA.KEY (i : Nat) : FRef := ⟨Reg.FAB_SP_TXSA i, ⟨11, 0⟩⟩
abbrev FAB_SP_RXSA0.EN (i : Nat) : FRef := ⟨Reg.FAB_SP_RXSA0 i, ⟨31, 31⟩⟩
abbrev FAB_SP_RXSA0.AN (i : Nat) : FRef := ⟨Reg.FAB_SP_RXSA0 i, ⟨13, 12⟩⟩
abbrev FAB_SP_RXSA0.KEY (i : Nat) : FRef := ⟨Reg.FAB_SP_RXSA0 i, ⟨11, 0⟩⟩
abbrev FAB_SP_RXSA1.EN (i : Nat) : FRef := ⟨Reg.FAB_SP_RXSA1 i, ⟨31, 31⟩⟩
abbrev FAB_SP_RXSA1.AN (i : Nat) : FRef := ⟨Reg.FAB_SP_RXSA1 i, ⟨13, 12⟩⟩
abbrev FAB_SP_RXSA1.KEY (i : Nat) : FRef := ⟨Reg.FAB_SP_RXSA1 i, ⟨11, 0⟩⟩
abbrev FAB_SP_TXPN.PN (i : Nat) : FRef := ⟨Reg.FAB_SP_TXPN i, ⟨31, 0⟩⟩
abbrev FAB_SP_MSDROP.MSDROP (i : Nat) : FRef := ⟨Reg.FAB_SP_MSDROP i, ⟨31, 0⟩⟩
abbrev FAB_KEY_LOAD.SRC : FRef := ⟨Reg.FAB_KEY_LOAD, ⟨31, 16⟩⟩
abbrev FAB_KEY_LOAD.SLOT : FRef := ⟨Reg.FAB_KEY_LOAD, ⟨11, 0⟩⟩
abbrev FAB_LINK_EVENT.WAKE_RX : FRef := ⟨Reg.FAB_LINK_EVENT, ⟨20, 20⟩⟩
abbrev FAB_LINK_EVENT.PLCA_BACK : FRef := ⟨Reg.FAB_LINK_EVENT, ⟨19, 18⟩⟩
abbrev FAB_LINK_EVENT.PLCA_LOST : FRef := ⟨Reg.FAB_LINK_EVENT, ⟨17, 16⟩⟩
abbrev FAB_LINK_EVENT.STRANGER : FRef := ⟨Reg.FAB_LINK_EVENT, ⟨15, 14⟩⟩
abbrev FAB_LINK_EVENT.NEW : FRef := ⟨Reg.FAB_LINK_EVENT, ⟨13, 13⟩⟩
abbrev FAB_LINK_EVENT.CMD_REJ : FRef := ⟨Reg.FAB_LINK_EVENT, ⟨12, 12⟩⟩
abbrev FAB_LINK_EVENT.MSEC_DROP : FRef := ⟨Reg.FAB_LINK_EVENT, ⟨11, 11⟩⟩
abbrev FAB_LINK_EVENT.PN_EXH : FRef := ⟨Reg.FAB_LINK_EVENT, ⟨10, 10⟩⟩
abbrev FAB_LINK_EVENT.PN_WARN : FRef := ⟨Reg.FAB_LINK_EVENT, ⟨9, 9⟩⟩
abbrev FAB_LINK_EVENT.DOWNSHIFT : FRef := ⟨Reg.FAB_LINK_EVENT, ⟨8, 8⟩⟩
abbrev FAB_LINK_EVENT.DOWN : FRef := ⟨Reg.FAB_LINK_EVENT, ⟨7, 4⟩⟩
abbrev FAB_LINK_EVENT.UP : FRef := ⟨Reg.FAB_LINK_EVENT, ⟨3, 0⟩⟩
abbrev FAB_LB_CFG.EN (i : Nat) : FRef := ⟨Reg.FAB_LB_CFG i, ⟨31, 31⟩⟩
abbrev FAB_LB_CFG.TO_TIMER (i : Nat) : FRef := ⟨Reg.FAB_LB_CFG i, ⟨15, 8⟩⟩
abbrev FAB_LB_STAT.STATE (i : Nat) : FRef := ⟨Reg.FAB_LB_STAT i, ⟨31, 30⟩⟩
abbrev FAB_LB_STAT.NCOUNT (i : Nat) : FRef := ⟨Reg.FAB_LB_STAT i, ⟨21, 16⟩⟩
abbrev FAB_LB_STAT.CYCLE (i : Nat) : FRef := ⟨Reg.FAB_LB_STAT i, ⟨15, 0⟩⟩
abbrev FAB_LB_CNT.STRANGER (i : Nat) : FRef := ⟨Reg.FAB_LB_CNT i, ⟨31, 16⟩⟩
abbrev FAB_LB_CNT.COLL (i : Nat) : FRef := ⟨Reg.FAB_LB_CNT i, ⟨15, 0⟩⟩
abbrev FAB_LB_STR_HI.TAG (i : Nat) : FRef := ⟨Reg.FAB_LB_STR_HI i, ⟨31, 30⟩⟩
abbrev FAB_LB_STR_HI.ID (i : Nat) : FRef := ⟨Reg.FAB_LB_STR_HI i, ⟨20, 16⟩⟩
abbrev FAB_LB_ADM_HI.EN (i j : Nat) : FRef := ⟨Reg.FAB_LB_ADM_HI i j, ⟨31, 31⟩⟩
abbrev FAB_LB_ADM_HI.MACH (i j : Nat) : FRef := ⟨Reg.FAB_LB_ADM_HI i j, ⟨15, 0⟩⟩
abbrev FAB_ID.PROV : FRef := ⟨Reg.FAB_ID, ⟨29, 16⟩⟩
abbrev FAB_ID.ACT : FRef := ⟨Reg.FAB_ID, ⟨13, 0⟩⟩
abbrev FAB_EPOCH.EPOCH : FRef := ⟨Reg.FAB_EPOCH, ⟨15, 0⟩⟩
abbrev FAB_NET_CFG.TAKE_MAX : FRef := ⟨Reg.FAB_NET_CFG, ⟨31, 24⟩⟩
abbrev FAB_NET_CFG.ETYPE : FRef := ⟨Reg.FAB_NET_CFG, ⟨15, 0⟩⟩
abbrev FAB_NET_STAT.FENCED : FRef := ⟨Reg.FAB_NET_STAT, ⟨31, 31⟩⟩
abbrev FAB_NET_STAT.SETTLING : FRef := ⟨Reg.FAB_NET_STAT, ⟨30, 30⟩⟩
abbrev FAB_NET_STAT.CLOSED : FRef := ⟨Reg.FAB_NET_STAT, ⟨29, 29⟩⟩
abbrev FAB_NET_STAT.CAUSE : FRef := ⟨Reg.FAB_NET_STAT, ⟨28, 27⟩⟩
abbrev FAB_NET_STAT.TAKING : FRef := ⟨Reg.FAB_NET_STAT, ⟨26, 26⟩⟩
abbrev FAB_NET_EVENT.NEW : FRef := ⟨Reg.FAB_NET_EVENT, ⟨8, 8⟩⟩
abbrev FAB_NET_EVENT.CMD_REJ : FRef := ⟨Reg.FAB_NET_EVENT, ⟨7, 7⟩⟩
abbrev FAB_NET_EVENT.NO_ROUTE : FRef := ⟨Reg.FAB_NET_EVENT, ⟨6, 6⟩⟩
abbrev FAB_NET_EVENT.CLOSED : FRef := ⟨Reg.FAB_NET_EVENT, ⟨5, 5⟩⟩
abbrev FAB_NET_EVENT.TAKEOVER : FRef := ⟨Reg.FAB_NET_EVENT, ⟨4, 4⟩⟩
abbrev FAB_NET_EVENT.PEER_FENCED : FRef := ⟨Reg.FAB_NET_EVENT, ⟨3, 3⟩⟩
abbrev FAB_NET_EVENT.FENCED : FRef := ⟨Reg.FAB_NET_EVENT, ⟨2, 2⟩⟩
abbrev FAB_NET_EVENT.PEER_BACK : FRef := ⟨Reg.FAB_NET_EVENT, ⟨1, 1⟩⟩
abbrev FAB_NET_EVENT.PEER_DEAD : FRef := ⟨Reg.FAB_NET_EVENT, ⟨0, 0⟩⟩
abbrev FAB_NET_CNT.DISCARD : FRef := ⟨Reg.FAB_NET_CNT, ⟨31, 16⟩⟩
abbrev FAB_NET_CNT.NO_ROUTE : FRef := ⟨Reg.FAB_NET_CNT, ⟨15, 8⟩⟩
abbrev FAB_NET_CNT.HOP_EXP : FRef := ⟨Reg.FAB_NET_CNT, ⟨7, 0⟩⟩
abbrev FAB_NET_CMD_STAT.CODE : FRef := ⟨Reg.FAB_NET_CMD_STAT, ⟨7, 4⟩⟩
abbrev FAB_NET_CMD_STAT.CMD : FRef := ⟨Reg.FAB_NET_CMD_STAT, ⟨3, 0⟩⟩
abbrev FAB_PEER_CFG.EN (i : Nat) : FRef := ⟨Reg.FAB_PEER_CFG i, ⟨31, 31⟩⟩
abbrev FAB_PEER_CFG.ID (i : Nat) : FRef := ⟨Reg.FAB_PEER_CFG i, ⟨13, 0⟩⟩
abbrev FAB_PEER_STAT.STATE (i : Nat) : FRef := ⟨Reg.FAB_PEER_STAT i, ⟨31, 30⟩⟩
abbrev FAB_PEER_STAT.CLOSED (i : Nat) : FRef := ⟨Reg.FAB_PEER_STAT i, ⟨29, 29⟩⟩
abbrev FAB_PEER_STAT.EPOCH (i : Nat) : FRef := ⟨Reg.FAB_PEER_STAT i, ⟨15, 0⟩⟩
abbrev FAB_GRT.EN (i : Nat) : FRef := ⟨Reg.FAB_GRT i, ⟨31, 31⟩⟩
abbrev FAB_GRT.PORT (i : Nat) : FRef := ⟨Reg.FAB_GRT i, ⟨1, 0⟩⟩
abbrev FAB_MRT.EN (i : Nat) : FRef := ⟨Reg.FAB_MRT i, ⟨31, 31⟩⟩
abbrev FAB_MRT.AUTO (i : Nat) : FRef := ⟨Reg.FAB_MRT i, ⟨30, 30⟩⟩
abbrev FAB_MRT.PORT (i : Nat) : FRef := ⟨Reg.FAB_MRT i, ⟨1, 0⟩⟩
abbrev FAB_COVER.EN (i : Nat) : FRef := ⟨Reg.FAB_COVER i, ⟨31, 31⟩⟩
abbrev FAB_COVER.RANK (i : Nat) : FRef := ⟨Reg.FAB_COVER i, ⟨30, 29⟩⟩
abbrev FAB_COVER.CHG_OUT (i : Nat) : FRef := ⟨Reg.FAB_COVER i, ⟨28, 24⟩⟩
abbrev FAB_COVER.ID (i : Nat) : FRef := ⟨Reg.FAB_COVER i, ⟨13, 0⟩⟩
abbrev FAB_SEC_CMD.OP : FRef := ⟨Reg.FAB_SEC_CMD, ⟨1, 0⟩⟩
abbrev FAB_STBY_CMD.OP : FRef := ⟨Reg.FAB_STBY_CMD, ⟨1, 0⟩⟩
abbrev FAB_FENCE_CMD.OP : FRef := ⟨Reg.FAB_FENCE_CMD, ⟨1, 0⟩⟩
abbrev FAB_DUP_HI.TAG : FRef := ⟨Reg.FAB_DUP_HI, ⟨31, 30⟩⟩
abbrev TIM_CFG.FW : FRef := ⟨Reg.TIM_CFG, ⟨31, 31⟩⟩
abbrev TIM_CFG.GM_CAP : FRef := ⟨Reg.TIM_CFG, ⟨30, 30⟩⟩
abbrev TIM_CFG.PORT_EN : FRef := ⟨Reg.TIM_CFG, ⟨19, 16⟩⟩
abbrev TIM_CFG.PRIO1 : FRef := ⟨Reg.TIM_CFG, ⟨15, 8⟩⟩
abbrev TIM_CFG.PRIO2 : FRef := ⟨Reg.TIM_CFG, ⟨7, 0⟩⟩
abbrev TIM_ADDEND.ADDEND : FRef := ⟨Reg.TIM_ADDEND, ⟨31, 0⟩⟩
abbrev TIM_STAT.SYNC : FRef := ⟨Reg.TIM_STAT, ⟨31, 31⟩⟩
abbrev TIM_STAT.GM : FRef := ⟨Reg.TIM_STAT, ⟨30, 30⟩⟩
abbrev TIM_STAT.HOLD : FRef := ⟨Reg.TIM_STAT, ⟨29, 29⟩⟩
abbrev TIM_STAT.UPSTREAM : FRef := ⟨Reg.TIM_STAT, ⟨25, 24⟩⟩
abbrev TIM_OFFSET.OFFSET : FRef := ⟨Reg.TIM_OFFSET, ⟨31, 0⟩⟩
abbrev TIM_CMD.OP : FRef := ⟨Reg.TIM_CMD, ⟨1, 0⟩⟩
abbrev TIM_SNAP_AT_NS.ARM : FRef := ⟨Reg.TIM_SNAP_AT_NS, ⟨31, 31⟩⟩
abbrev TIM_SNAP_AT_NS.NS : FRef := ⟨Reg.TIM_SNAP_AT_NS, ⟨29, 0⟩⟩
abbrev TIM_SNAPT_HI.TAG : FRef := ⟨Reg.TIM_SNAPT_HI, ⟨31, 30⟩⟩
abbrev TIM_TXQ_ID.COUNT (i : Nat) : FRef := ⟨Reg.TIM_TXQ_ID i, ⟨31, 28⟩⟩
abbrev TIM_TXQ_ID.MSGTYPE (i : Nat) : FRef := ⟨Reg.TIM_TXQ_ID i, ⟨27, 24⟩⟩
abbrev TIM_TXQ_ID.SEQID (i : Nat) : FRef := ⟨Reg.TIM_TXQ_ID i, ⟨15, 0⟩⟩
abbrev TIM_TXQ_NS.NS (i : Nat) : FRef := ⟨Reg.TIM_TXQ_NS i, ⟨29, 0⟩⟩
abbrev TIM_TXQ_LOSS.LOSS (i : Nat) : FRef := ⟨Reg.TIM_TXQ_LOSS i, ⟨15, 0⟩⟩
abbrev TIM_EVENT.NEW : FRef := ⟨Reg.TIM_EVENT, ⟨7, 7⟩⟩
abbrev TIM_EVENT.ADDEND_REJ : FRef := ⟨Reg.TIM_EVENT, ⟨6, 6⟩⟩
abbrev TIM_EVENT.SNAP_LATE : FRef := ⟨Reg.TIM_EVENT, ⟨5, 5⟩⟩
abbrev TIM_EVENT.STEP_REJ : FRef := ⟨Reg.TIM_EVENT, ⟨4, 4⟩⟩
abbrev TIM_EVENT.TS_OVF : FRef := ⟨Reg.TIM_EVENT, ⟨3, 3⟩⟩
abbrev TIM_EVENT.SYNC_LOST : FRef := ⟨Reg.TIM_EVENT, ⟨2, 2⟩⟩
abbrev TIM_EVENT.SYNC_GAIN : FRef := ⟨Reg.TIM_EVENT, ⟨1, 1⟩⟩
abbrev TIM_EVENT.PERIOD : FRef := ⟨Reg.TIM_EVENT, ⟨0, 0⟩⟩
abbrev REC_STAT.FULL : FRef := ⟨Reg.REC_STAT, ⟨31, 31⟩⟩
abbrev REC_STAT.CLEARING : FRef := ⟨Reg.REC_STAT, ⟨30, 30⟩⟩
abbrev REC_STAT.HOLE : FRef := ⟨Reg.REC_STAT, ⟨29, 29⟩⟩
abbrev REC_STAT.NEXT : FRef := ⟨Reg.REC_STAT, ⟨16, 0⟩⟩
abbrev REC_LOST.LOST : FRef := ⟨Reg.REC_LOST, ⟨31, 0⟩⟩
abbrev REC_EVENT.CLR_REJ : FRef := ⟨Reg.REC_EVENT, ⟨4, 4⟩⟩
abbrev REC_EVENT.CLEARED : FRef := ⟨Reg.REC_EVENT, ⟨3, 3⟩⟩
abbrev REC_EVENT.DROP : FRef := ⟨Reg.REC_EVENT, ⟨2, 2⟩⟩
abbrev REC_EVENT.FULL : FRef := ⟨Reg.REC_EVENT, ⟨1, 1⟩⟩
abbrev REC_EVENT.APP_REJ : FRef := ⟨Reg.REC_EVENT, ⟨0, 0⟩⟩
abbrev REC_CLEAR.CODE : FRef := ⟨Reg.REC_CLEAR, ⟨15, 0⟩⟩
abbrev REC_APP_DATA.DATA (i : Nat) : FRef := ⟨Reg.REC_APP_DATA i, ⟨31, 0⟩⟩
abbrev REC_APP_CMD.CODE : FRef := ⟨Reg.REC_APP_CMD, ⟨31, 16⟩⟩
abbrev SYS_STRAP.BOOT : FRef := ⟨Reg.SYS_STRAP, ⟨1, 0⟩⟩
abbrev INT_CLAIM.VALID (i : Nat) : FRef := ⟨Reg.INT_CLAIM i, ⟨31, 31⟩⟩
abbrev INT_CLAIM.REG (i : Nat) : FRef := ⟨Reg.INT_CLAIM i, ⟨15, 8⟩⟩
abbrev INT_CLAIM.PRIO (i : Nat) : FRef := ⟨Reg.INT_CLAIM i, ⟨7, 5⟩⟩
abbrev INT_CLAIM.BIT (i : Nat) : FRef := ⟨Reg.INT_CLAIM i, ⟨4, 0⟩⟩

end F

/-- Registers of the SYS block. -/
def rowsSYS : List RegRow := [
  .one 0x40000000 .ro 0x1280003 0 0 none .single,  -- SYS_ID
  .one 0x40000004 .ro 0 0 0 none .single,  -- SYS_RESET_CAUSE
  .one 0x40000010 .gwVal 0 1 0 none .single,  -- SYS_RESET_REQ
  .one 0x40000014 .gwCpl 0 1 0 none .single,  -- SYS_RESET_REQ CPL
  .one 0x40000020 .wo 0 0xff 0 none .single,  -- SYS_UPDATE
  .one 0x40000024 .ro 0 0 0 none .single,  -- SYS_UPD_STAT
  .one 0x40000028 .wo 0 1 0 none .single,  -- SYS_SNAP
  .one 0x40000030 .rc 0 0 0x3f none .single,  -- SYS_EVENT
  .one 0x40000034 .ro 0 0 0 none .single,  -- SYS_ERR_ADDR
  .one 0x40000040 .ro 0 0 0 none .single]  -- SYS_STRAP

/-- Registers of the PCM block. -/
def rowsPCM : List RegRow := [
  .one 0x40010000 .gwVal 1 7 0 none .single,  -- PCM_MODE_REQ
  .one 0x40010004 .gwCpl 0 7 0 none .single,  -- PCM_MODE_REQ CPL
  .one 0x40010008 .ro 1 0 0 none .single,  -- PCM_MODE_STAT
  .one 0x4001000c .rc 0 0 0x1f none .single,  -- PCM_EVENT
  .one 0x40010010 .rw 0x3ff 0x3ff 0 none .single,  -- PCM_WAKE_CFG
  .one 0x40010014 .rw 0 0xffffffff 0 none .single,  -- PCM_ALARM
  .one 0x40010018 .rw 0x12c003c 0xffffffff 0 none .single]  -- PCM_IDLE

/-- Registers of the TAC block, part 1. -/
def rowsTAC0 : List RegRow := [
  ⟨0x40023000, 192, 0x10, 4, 4, .ro, 0, 0, 0, none, .single⟩,  -- TAC_DIAG
  .one 0x40023c00 .gwVal 0 0xff 0 none .single,  -- TAC_ENG_HALT
  .one 0x40023c04 .gwCpl 0 0xff 0 none .single,  -- TAC_ENG_HALT CPL
  .one 0x40023c08 .rc 0 0 0x3ff none .single,  -- TAC_EVENT
  .arr 0x40023c20 8 0x4 .ro 0 0 0 none .single,  -- TAC_TRAP_INFO
  ⟨0x40024000, 192, 0x100, 64, 4, .rw, 0, 0xffffffff, 0, some 0, .single⟩,  -- TAC_PARAM
  .arr 0x40020000 192 0x10 .rw 0 0xf800007f 0 (some 0) .single,  -- TAC_SLOT_BIND
  .arr 0x40020004 192 0x10 .rw 0 0x3fff 0 (some 0) .single,  -- TAC_SLOT_CODE
  .arr 0x40020008 192 0x10 .rw 0 0x3fff3fff 0 (some 0) .single,  -- TAC_SLOT_PRIV
  .arr 0x4002000c 192 0x10 .rw 2 0xf 0 (some 0) .single,  -- TAC_SLOT_LIMIT
  .arr 0x40020c00 8 0x4 .rw 0 0x3fff3fff 0 (some 0) .single,  -- TAC_ENG_SHARED
  .one 0x40020c20 .ro 0 0 0 none .single,  -- TAC_PERIOD
  .one 0x40020c24 .rw 0xfa00 0x7ffff 0 (some 0) .single,  -- TAC_SPLIT
  .one 0x40020c30 .rw 0x80407d0 0xff7fffff 0 (some 0) .single,  -- TAC_HO_CFG_CAR
  .one 0x40020c34 .rw 0x80407d0 0xff7fffff 0 (some 0) .single,  -- TAC_HO_CFG_CH
  .one 0x40020c38 .rw 0x140ea60 0xffffffff 0 (some 0) .single,  -- TAC_CAR_FB
  .one 0x40020c3c .rw 0x1e8480 0x1ffffff 0 (some 0) .single,  -- TAC_STRADDLE_V
  .one 0x40020c40 .rw 0x4e20 0xfffff 0 (some 0) .single,  -- TAC_SEG_FMAX
  .arr 0x40021000 192 0x4 .ro 0 0 0 none .single,  -- TAC_OVR
  .arr 0x40021300 6 0x4 .rc 0 0 0xffffffff none .single,  -- TAC_OVR_EVENT
  .arr 0x40021320 6 0x4 .rc 0 0 0xffffffff none .single,  -- TAC_FAULT_EVENT
  .one 0x40021340 .gwVal 0 0xff 0 none .single,  -- TAC_FAULT_CLR
  .one 0x40021344 .gwCpl 0 0xff 0 none .single,  -- TAC_FAULT_CLR CPL
  .one 0x40021400 .gwVal 0 0x3ff 0 none .single,  -- TAC_HO_CMD
  .one 0x40021404 .gwCpl 0 0x3ff 0 none .single]  -- TAC_HO_CMD CPL

/-- Registers of the TAC block, part 2. -/
def rowsTAC1 : List RegRow := [
  .arr 0x40021410 8 0x4 .ro 0 0 0 none .single,  -- TAC_HO_CAR
  .one 0x40021430 .ro 0 0 0 none .single,  -- TAC_HO_LAST
  .one 0x40021434 .rc 0 0 0x1f none .single]  -- TAC_SCHED_EVENT

/-- Registers of the TAC block. -/
def rowsTAC : List RegRow := rowsTAC0 ++ rowsTAC1

/-- Registers of the TRJ block, part 1. -/
def rowsTRJ0 : List RegRow := [
  .arr 0x40030000 8 0x40 .rw 0x7ffe0000 0xfffeff7f 0 (some 1) .single,  -- TRJ_AXIS_CFG
  .arr 0x40030004 8 0x40 .rw 0xf4240 0x1ffffff 0 (some 1) .single,  -- TRJ_AXIS_VRATED
  .arr 0x40030008 8 0x40 .rw 0xf4240 0x3ffffff 0 (some 1) .single,  -- TRJ_AXIS_ACAP
  .arr 0x4003000c 8 0x40 .rw 0x1e8480 0xfffffff 0 (some 1) .single,  -- TRJ_AXIS_JCAP
  .arr 0x40030010 8 0x40 .rw 0 0xf 0 (some 1) .single,  -- TRJ_AXIS_HOME
  .arr 0x40030014 8 0x40 .rw 0 0xffffffff 0 (some 1) .lo,  -- TRJ_AXIS_REF_LO
  .arr 0x40030018 8 0x40 .rw 0 0xffffffff 0 (some 1) .hi,  -- TRJ_AXIS_REF_HI
  .arr 0x4003001c 8 0x40 .rw 0x10000 0x1ffff 0 none .single,  -- TRJ_AXIS_OVR
  .arr 0x40030020 8 0x40 .ro 0 0 0 none .single,  -- TRJ_AXIS_STAT
  .arr 0x40030024 8 0x40 .ro 0 0 0 none .single,  -- TRJ_AXIS_MOVE
  .arr 0x40030028 8 0x40 .ro 0 0 0 none .single,  -- TRJ_AXIS_REM
  .arr 0x4003002c 8 0x40 .ro 0 0 0 none .lo,  -- TRJ_AXIS_SNP_LO
  .arr 0x40030030 8 0x40 .ro 0 0 0 none .hi,  -- TRJ_AXIS_SNP_HI
  .arr 0x40030034 8 0x40 .ro 0 0 0 none .single,  -- TRJ_AXIS_SNV
  .arr 0x40030038 8 0x40 .ro 0 0 0 none .lo,  -- TRJ_AXIS_HRES_LO
  .arr 0x4003003c 8 0x40 .ro 0 0 0 none .hi,  -- TRJ_AXIS_HRES_HI
  .one 0x40030200 .rw 0 0x3fff1fff 0 none .single,  -- TRJ_SPAN
  .one 0x40030204 .rw 0 0x7ffff 0 none .single,  -- TRJ_MOVE_ARG
  .one 0x40030208 .wo 0 0xf7 0 none .single,  -- TRJ_CMD
  .one 0x4003020c .ro 0 0 0 none .single,  -- TRJ_CMD_STAT
  .one 0x40030210 .rc 0 0 0xf none .single,  -- TRJ_EVENT
  .one 0x40030214 .rc 0 0 0xffffffff none .single,  -- TRJ_AXIS_EVENT
  .one 0x40030218 .wo 0 1 0 none .single,  -- TRJ_SNAP
  .arr 0x40030400 16 0x20 .rw 0 0x7fff80ff 0 (some 1) .single,  -- TRJ_LAT_CFG
  .arr 0x40030404 16 0x20 .ro 0 0 0 none .lo]  -- TRJ_LAT_POS_LO

/-- Registers of the TRJ block, part 2. -/
def rowsTRJ1 : List RegRow := [
  .arr 0x40030408 16 0x20 .ro 0 0 0 none .hi,  -- TRJ_LAT_POS_HI
  .arr 0x4003040c 16 0x20 .ro 0 0 0 none .lo,  -- TRJ_LAT_TS_LO
  .arr 0x40030410 16 0x20 .ro 0 0 0 none .hi,  -- TRJ_LAT_TS_HI
  .one 0x40030600 .wo 0 0xffffffff 0 none .single,  -- TRJ_LAT_CMD
  .one 0x40030604 .rc 0 0 0xffff0000 none .single,  -- TRJ_LAT_STAT
  .one 0x40030608 .ro 0 0 0 none .single,  -- TRJ_LAT_WAIT
  .arr 0x40030800 32 0x10 .rw 0 0xffffc0ff 0 (some 1) .single,  -- TRJ_CMP_CFG
  .arr 0x40030804 32 0x10 .rw 0 0xffffffff 0 none .lo,  -- TRJ_CMP_POS_LO
  .arr 0x40030808 32 0x10 .rw 0 0xffffffff 0 none .hi,  -- TRJ_CMP_POS_HI
  .arr 0x4003080c 32 0x10 .ro 0 0 0 none .single,  -- TRJ_CMP_RES
  .one 0x40030a00 .rc 0 0 0xffffffff none .single,  -- TRJ_CMP_FIRED
  .one 0x40030a04 .ro 0 0 0 none .single,  -- TRJ_CMP_ARMED
  .one 0x40030a08 .ro 0 0 0 none .single,  -- TRJ_CMP_BEHIND
  .one 0x40030a0c .wo 0 0xffffffff 0 none .single,  -- TRJ_CMP_DISARM
  .arr 0x40030c00 2 0x40 .rw 0x7fff1400 0xffffff07 0 (some 1) .single,  -- TRJ_DOOR_CFG
  .arr 0x40030c04 2 0x40 .rw 0x7d000000 0xffffffff 0 (some 1) .single,  -- TRJ_DOOR_GEOM
  .arr 0x40030c08 2 0x40 .rw 0 0x3fff1fff 0 (some 1) .single,  -- TRJ_DOOR_OPEN
  .arr 0x40030c0c 2 0x40 .rw 0 0x3fff1fff 0 (some 1) .single,  -- TRJ_DOOR_CLOSE
  .arr 0x40030c10 2 0x40 .rw 0 0x3fff1fff 0 (some 1) .single,  -- TRJ_DOOR_NUDGE
  .arr 0x40030c14 2 0x40 .rw 0 0x1fff 0 (some 1) .single,  -- TRJ_DOOR_SCR
  .arr 0x40030c18 2 0x40 .rw 0 0xfffff 0 (some 1) .single,  -- TRJ_DOOR_MASS
  .arr 0x40030c1c 2 0x40 .rw 0 0xfffff 0 (some 1) .single,  -- TRJ_DOOR_KF
  .arr 0x40030c20 2 0x40 .rw 0x96640a00 0xffffff00 0 (some 1) .single,  -- TRJ_DOOR_FCAP
  .arr 0x40030c24 2 0x40 .rw 0x27100fa0 0x3fff3fff 0 (some 1) .single,  -- TRJ_DOOR_ECAP
  .arr 0x40030c28 2 0x40 .rw 0x6464c350 0xffffffff 0 (some 1) .single]  -- TRJ_DOOR_DEF

/-- Registers of the TRJ block, part 3. -/
def rowsTRJ2 : List RegRow := [
  .arr 0x40030c2c 2 0x40 .rw 0x30d40 0xffffff 0 (some 1) .single,  -- TRJ_DOOR_GENV
  .arr 0x40030c30 2 0x40 .rw 0xf4240 0xffffff 0 (some 1) .single,  -- TRJ_DOOR_GENA
  .arr 0x40030c34 2 0x40 .rw 0x7d007d0 0xffffffff 0 (some 1) .single,  -- TRJ_DOOR_TIME
  .arr 0x40030c38 2 0x40 .ro 0 0 0 none .single,  -- TRJ_DOOR_STAT
  .arr 0x40030c3c 2 0x40 .ro 0 0 0 none .single,  -- TRJ_DOOR_FORCE
  .one 0x40030c80 .wo 0 0xf1 0 none .single,  -- TRJ_DOOR_CMD
  .one 0x40030c84 .rc 0 0 0x1ffff none .single]  -- TRJ_DOOR_EVENT

/-- Registers of the TRJ block. -/
def rowsTRJ : List RegRow := rowsTRJ0 ++ rowsTRJ1 ++ rowsTRJ2

/-- Registers of the CMM block. -/
def rowsCMM : List RegRow := [
  .arr 0x40040000 128 0x20 .rw 0xf9000000 0xffe0ffff 0 (some 2) .single,  -- CMM_CH_CFG
  .arr 0x40040004 128 0x20 .rw 0xf5a 0xffffffff 0 (some 2) .single,  -- CMM_CH_RES
  .arr 0x40040008 128 0x20 .rw 0 0xffffffff 0 (some 2) .single,  -- CMM_CH_IND
  .arr 0x4004000c 128 0x20 .rw 0 0xfffff 0 (some 2) .single,  -- CMM_CH_KE
  .arr 0x40040010 128 0x20 .rw 0x17700 0x3ffff 0 (some 2) .single,  -- CMM_CH_LAMBDA
  .arr 0x40040014 128 0x20 .rw 0 0xffff0000 0 (some 2) .single,  -- CMM_CH_ZERO
  .arr 0x40040018 128 0x20 .ro 0 0 0 none .single,  -- CMM_CH_STAT
  .arr 0x4004001c 128 0x20 .ro 0 0 0 none .single,  -- CMM_CH_VEC
  .arr 0x40041000 4 0x10 .rw 0xf4240 0x1ffffff 0 (some 2) .single,  -- CMM_BSET_UP1
  .arr 0x40041004 4 0x10 .rw 0x3d0900 0x1ffffff 0 (some 2) .single,  -- CMM_BSET_UP2
  .arr 0x40041008 4 0x10 .rw 0xb71b00 0x1ffffff 0 (some 2) .single,  -- CMM_BSET_UP3
  .arr 0x4004100c 4 0x10 .rw 0x30d40 0x1ffffff 0 (some 2) .single,  -- CMM_BSET_HYST
  .one 0x40041040 .rw 0x799a0014 0xffffffff 0 (some 2) .single,  -- CMM_CFG
  .one 0x40041044 .rc 0 0 0xf none .single,  -- CMM_EVENT
  .one 0x40041048 .wo 0 1 0 none .single,  -- CMM_SNAP
  .arr 0x40041050 4 0x4 .rc 0 0 0xffffffff none .single,  -- CMM_VSAT_MAP
  .arr 0x40041060 4 0x4 .rc 0 0 0xffffffff none .single,  -- CMM_VLOW_MAP
  .arr 0x40041100 128 0x8 .ro 0 0 0 none .single,  -- CMM_CH_SNPV
  .arr 0x40041104 128 0x8 .ro 0 0 0 none .single]  -- CMM_CH_SNPC

/-- Registers of the SLK block. -/
def rowsSLK : List RegRow := [
  .arr 0x40050000 8 0x20 .rw 0x10 0x8000001f 0 (some 3) .single,  -- SLK_PORT_CFG
  .arr 0x40050004 8 0x20 .ro 0 0 0 none .single,  -- SLK_PORT_STAT
  .arr 0x40050008 8 0x20 .ro 0 0 0 none .single,  -- SLK_PORT_DRET
  .arr 0x40050400 128 0x10 .rw 0x800000 0xffe000ff 0 (some 3) .single,  -- SLK_CH_CFG
  .arr 0x40050404 128 0x10 .rw 0 0xffffffff 0 (some 3) .single,  -- SLK_CH_NODEID
  .arr 0x40050408 128 0x10 .ro 0 0 0 none .single,  -- SLK_CH_STAT
  .arr 0x4005040c 128 0x10 .ro 0 0 0 none .single,  -- SLK_CH_CNT
  .one 0x40050c00 .gwVal 0 0x7f 0 none .single,  -- SLK_NODE_CLR
  .one 0x40050c04 .gwCpl 0 0x7f 0 none .single,  -- SLK_NODE_CLR CPL
  .one 0x40050c08 .wo 0 0xc000007f 0 none .single,  -- SLK_CAP
  .one 0x40050c0c .ro 0 0 0 none .single,  -- SLK_CAP_STAT
  .one 0x40050c10 .ro 0 0 0 none .single,  -- SLK_POOL
  .one 0x40050c14 .rc 0 0 0x3f none .single,  -- SLK_EVENT
  .arr 0x40050c20 4 0x4 .rc 0 0 0xffffffff none .single,  -- SLK_FAULT_MAP
  .arr 0x40050d00 16 0x4 .ro 0 0 0 none .single]  -- SLK_CAP_DATA

/-- Registers of the FBK block, part 1. -/
def rowsFBK0 : List RegRow := [
  .arr 0x40060000 144 0x40 .rw 0x3e80 0xfe00ffff 0 (some 4) .single,  -- FBK_CH_CFG
  .arr 0x40060004 144 0x40 .rw 0x17700 0xffffffff 0 (some 4) .single,  -- FBK_CH_SCALE
  .arr 0x40060008 144 0x40 .rw 0 0xffffffff 0 (some 4) .single,  -- FBK_CH_SENS0
  .arr 0x4006000c 144 0x40 .rw 0 0xffffffff 0 (some 4) .single,  -- FBK_CH_SENS1
  .arr 0x40060010 144 0x40 .rw 0 0xffffffff 0 (some 4) .single,  -- FBK_CH_OFS0
  .arr 0x40060014 144 0x40 .rw 0 0xffffffff 0 (some 4) .single,  -- FBK_CH_OFS1
  .arr 0x40060018 144 0x40 .ro 0 0 0 none .single,  -- FBK_CH_STAT
  .arr 0x4006001c 144 0x40 .ro 0 0 0 none .lo,  -- FBK_CH_POS_LO
  .arr 0x40060020 144 0x40 .ro 0 0 0 none .hi,  -- FBK_CH_POS_HI
  .arr 0x40060024 144 0x40 .ro 0 0 0 none .single,  -- FBK_CH_VEL
  .arr 0x40060028 144 0x40 .ro 0 0 0 none .single,  -- FBK_CH_ACC
  .arr 0x4006002c 144 0x40 .ro 0 0 0 none .lo,  -- FBK_CH_IDX_LO
  .arr 0x40060030 144 0x40 .ro 0 0 0 none .hi,  -- FBK_CH_IDX_HI
  .arr 0x40060034 144 0x40 .ro 0 0 0 none .lo,  -- FBK_CH_SNP_LO
  .arr 0x40060038 144 0x40 .ro 0 0 0 none .hi,  -- FBK_CH_SNP_HI
  .arr 0x4006003c 144 0x40 .ro 0 0 0 none .single,  -- FBK_CH_SNV
  .one 0x40062400 .rw 0 0xffffffff 0 (some 4) .single,  -- FBK_MARK
  .one 0x40062404 .rw 0x7d017700 0xffffffff 0 (some 4) .single,  -- FBK_LINK
  .one 0x40062408 .rw 0 0x800700ff 0 (some 4) .single,  -- FBK_ROPED
  .one 0x4006240c .rw 0 0xffffffff 0 (some 4) .single,  -- FBK_ROPED_OFS
  .arr 0x40062410 4 0x10 .rw 0x7530 0x1ffffff 0 (some 4) .single,  -- FBK_SPD_LO
  .arr 0x40062414 4 0x10 .rw 0xc350 0x1ffffff 0 (some 4) .single,  -- FBK_SPD_HI
  .arr 0x40062418 4 0x10 .rw 0x140000c8 0xff0007ff 0 (some 4) .single,  -- FBK_SPD_OBS
  .one 0x40062450 .rc 0 0 0x7f none .single,  -- FBK_EVENT
  .arr 0x40062460 5 0x4 .rc 0 0 0xffffffff none .single]  -- FBK_DIR_MAP

/-- Registers of the FBK block, part 2. -/
def rowsFBK1 : List RegRow := [
  .arr 0x40062480 5 0x4 .rc 0 0 0xffffffff none .single,  -- FBK_SIGF_MAP
  .arr 0x400624a0 5 0x4 .rc 0 0 0xffffffff none .single,  -- FBK_IDX_MAP
  .one 0x400624c0 .wo 0 0xf00003ff 0 none .single,  -- FBK_CMD
  .one 0x400624c4 .wo 0 1 0 none .single,  -- FBK_SNAP
  .arr 0x40062600 8 0x20 .rw 0x10000000 0xfc000000 0 (some 4) .single,  -- FBK_PORT_CFG
  .arr 0x40062604 8 0x20 .rw 0x70064a00 0xffffff80 0 (some 4) .single,  -- FBK_PORT_SSI
  .arr 0x40062608 8 0x20 .ro 0 0 0 none .single,  -- FBK_PORT_STAT
  .arr 0x4006260c 8 0x20 .ro 0 0 0 none .lo,  -- FBK_PORT_ID_LO
  .arr 0x40062610 8 0x20 .ro 0 0 0 none .hi,  -- FBK_PORT_ID_HI
  .arr 0x40062800 4 0x10 .rw 1 0xe0ffffff 0 (some 4) .single,  -- FBK_EMU_CFG
  .arr 0x40062804 4 0x10 .rw 0x3e8 0xffff 0 (some 4) .single,  -- FBK_EMU_Z
  .arr 0x40062808 4 0x10 .ro 0 0 0 none .single]  -- FBK_EMU_STAT

/-- Registers of the FBK block. -/
def rowsFBK : List RegRow := rowsFBK0 ++ rowsFBK1

/-- Registers of the FIO block. -/
def rowsFIO : List RegRow := [
  .arr 0x40070000 4 0x10 .rw 0xa000000 0xff8000ff 0 (some 5) .single,  -- FIO_GRP_CFG
  .arr 0x40070004 5 0x10 .ro 0 0 0 none .single,  -- FIO_GRP_STAT
  .arr 0x40070080 3 0x4 .ro 0 0 0 none .single,  -- FIO_IN
  .arr 0x400700a0 12 0x4 .rw 0x33333333 0xffffffff 0 (some 5) .single,  -- FIO_FILT
  .arr 0x40070100 16 0x20 .rw 0x640000 0xc3ff0000 0 (some 5) .single,  -- FIO_FIN_CFG
  .arr 0x40070104 16 0x20 .ro 0 0 0 none .lo,  -- FIO_FIN_CNT_LO
  .arr 0x40070108 16 0x20 .ro 0 0 0 none .hi,  -- FIO_FIN_CNT_HI
  .arr 0x4007010c 16 0x20 .ro 0 0 0 none .single,  -- FIO_FIN_FREQ
  .arr 0x40070110 16 0x20 .ro 0 0 0 none .lo,  -- FIO_FIN_SNC_LO
  .arr 0x40070114 16 0x20 .ro 0 0 0 none .hi,  -- FIO_FIN_SNC_HI
  .one 0x40070300 .rw 0 0xffffffff 0 none .single,  -- FIO_OUT_REQ
  .one 0x40070304 .rw 0 0xffffffff 0 (some 5) .single,  -- FIO_OUT_RESTART
  .one 0x40070308 .ro 0 0 0 none .single,  -- FIO_OUT_STATE
  .one 0x4007030c .ro 0 0 0 none .single,  -- FIO_OUT_RB
  .one 0x40070310 .ro 0 0 0 none .single,  -- FIO_SAFE_MAP
  .arr 0x40070380 32 0x4 .ro 0 0 0 none .single,  -- FIO_OUT_STAT
  .one 0x40070400 .gwVal 0 0xffffffff 0 none .single,  -- FIO_OUT_CLR
  .one 0x40070404 .gwCpl 0 0xffffffff 0 none .single,  -- FIO_OUT_CLR CPL
  .one 0x40070410 .ro 0 0 0 none .single,  -- FIO_STO_STAT
  .one 0x40070420 .rc 0 0 0xff none .single,  -- FIO_EVENT
  .one 0x40070424 .wo 0 1 0 none .single]  -- FIO_SNAP

/-- Registers of the SAF block. -/
def rowsSAF : List RegRow := [
  .one 0x40080000 .ro 0 0 0 none .single,  -- SAF_STAT
  .one 0x40080004 .rc 0 0 0x7f none .single,  -- SAF_EVENT
  .one 0x40080008 .ro 0 0 0 none .single,  -- SAF_FAULT
  .arr 0x40080010 4 0x4 .ro 0xffffffff 0 0 none .single,  -- SAF_STO_MAP
  .one 0x40080040 .gwVal 0 0xffff 0 none .single,  -- SAF_RESET_CMD
  .one 0x40080044 .gwCpl 0 0xffff 0 none .single,  -- SAF_RESET_CMD CPL
  .one 0x40080048 .gwVal 0 3 0 none .single,  -- SAF_DIAG_CMD
  .one 0x4008004c .gwCpl 0 3 0 none .single,  -- SAF_DIAG_CMD CPL
  .one 0x40080050 .ro 0 0 0 none .single,  -- SAF_RESET_STAT
  .one 0x40080058 .ro 0 0 0 none .lo,  -- SAF_PROOF_LO
  .one 0x4008005c .ro 0 0 0 none .hi,  -- SAF_PROOF_HI
  .one 0x40080060 .ro 0 0 0 none .single,  -- SAF_FUNC_STAT
  .one 0x40080064 .ro 0 0 0 none .single,  -- SAF_TG_STAT
  .one 0x40080080 .ro 0 0 0 none .single,  -- SAF_SPS_STAT
  .one 0x40080084 .ro 0 0 0 none .single,  -- SAF_SPS_CHECK
  .one 0x40080088 .gwVal 0 0xffffffff 0 none .single,  -- SAF_SPS_CONFIRM
  .one 0x4008008c .gwCpl 0 0xffffffff 0 none .single,  -- SAF_SPS_CONFIRM CPL
  .one 0x40080090 .ro 0 0 0 none .single,  -- SAF_SPS_GEN
  .one 0x40080094 .ro 0 0 0 none .single]  -- SAF_SPS_WORD

/-- Registers of the FAB block, part 1. -/
def rowsFAB0 : List RegRow := [
  .arr 0x40090000 4 0x20 .rw 0x407 0x80000707 0 (some 6) .single,  -- FAB_SP_CFG
  .arr 0x40090004 4 0x20 .ro 0 0 0 none .single,  -- FAB_SP_STAT
  .arr 0x40090008 4 0x20 .wo 0 0xf0000000 0 none .single,  -- FAB_SP_CMD
  .arr 0x4009000c 4 0x20 .ro 0 0 0 none .single,  -- FAB_SP_TEST
  .arr 0x40090010 4 0x20 .rw 0x30000000 0xf00000ff 0 (some 6) .single,  -- FAB_SP_MSEC
  .arr 0x40090014 4 0x20 .rw 0 0x80003fff 0 (some 6) .single,  -- FAB_SP_TXSA
  .arr 0x40090018 4 0x20 .rw 0 0x80003fff 0 (some 6) .single,  -- FAB_SP_RXSA0
  .arr 0x4009001c 4 0x20 .rw 0 0x80003fff 0 (some 6) .single,  -- FAB_SP_RXSA1
  .arr 0x40090080 4 0x4 .ro 0 0 0 none .single,  -- FAB_SP_TXPN
  .arr 0x40090090 4 0x4 .ro 0 0 0 none .single,  -- FAB_SP_MSDROP
  .one 0x400900a0 .gwVal 0 0xffff0fff 0 none .single,  -- FAB_KEY_LOAD
  .one 0x400900a4 .gwCpl 0 0xffff0fff 0 none .single,  -- FAB_KEY_LOAD CPL
  .one 0x400900c0 .rc 0 0 0x1fffff none .single,  -- FAB_LINK_EVENT
  .arr 0x40090400 2 0x100 .rw 0x2000 0x8000ff00 0 (some 6) .single,  -- FAB_LB_CFG
  .arr 0x40090404 2 0x100 .ro 0 0 0 none .single,  -- FAB_LB_STAT
  .arr 0x40090408 2 0x100 .ro 0 0 0 none .single,  -- FAB_LB_CNT
  .arr 0x4009040c 2 0x100 .ro 0 0 0 none .lo,  -- FAB_LB_STR_LO
  .arr 0x40090410 2 0x100 .ro 0 0 0 none .hi,  -- FAB_LB_STR_HI
  ⟨0x40090488, 2, 0x100, 31, 8, .rw, 0, 0xffffffff, 0, some 6, .lo⟩,  -- FAB_LB_ADM_LO
  ⟨0x4009048c, 2, 0x100, 31, 8, .rw, 0, 0x8000ffff, 0, some 6, .hi⟩,  -- FAB_LB_ADM_HI
  .one 0x40090800 .ro 0 0 0 none .single,  -- FAB_ID
  .one 0x40090804 .ro 0 0 0 none .single,  -- FAB_EPOCH
  .one 0x40090808 .rw 0x140088b5 0xff00ffff 0 (some 6) .single,  -- FAB_NET_CFG
  .one 0x4009080c .ro 0 0 0 none .single,  -- FAB_NET_STAT
  .one 0x40090810 .rc 0 0 0x1ff none .single]  -- FAB_NET_EVENT

/-- Registers of the FAB block, part 2. -/
def rowsFAB1 : List RegRow := [
  .one 0x40090814 .ro 0 0 0 none .single,  -- FAB_NET_CNT
  .one 0x40090818 .ro 0 0 0 none .single,  -- FAB_NET_CMD_STAT
  .arr 0x40090900 32 0x8 .rw 0 0x80003fff 0 (some 6) .single,  -- FAB_PEER_CFG
  .arr 0x40090904 32 0x8 .ro 0 0 0 none .single,  -- FAB_PEER_STAT
  .arr 0x40090a00 64 0x4 .rw 0 0x80000003 0 (some 6) .single,  -- FAB_GRT
  .arr 0x40090b00 256 0x4 .rw 0x40000000 0xc0000003 0 (some 6) .single,  -- FAB_MRT
  .arr 0x40090f00 3 0x4 .rw 0 0xff003fff 0 (some 6) .single,  -- FAB_COVER
  .one 0x40090f10 .gwVal 0 3 0 none .single,  -- FAB_SEC_CMD
  .one 0x40090f14 .gwCpl 0 3 0 none .single,  -- FAB_SEC_CMD CPL
  .one 0x40090f18 .gwVal 0 3 0 none .single,  -- FAB_STBY_CMD
  .one 0x40090f1c .gwCpl 0 3 0 none .single,  -- FAB_STBY_CMD CPL
  .one 0x40090f20 .gwVal 0 3 0 none .single,  -- FAB_FENCE_CMD
  .one 0x40090f24 .gwCpl 0 3 0 none .single,  -- FAB_FENCE_CMD CPL
  .one 0x40090f28 .ro 0 0 0 none .lo,  -- FAB_DUP_LO
  .one 0x40090f2c .ro 0 0 0 none .hi]  -- FAB_DUP_HI

/-- Registers of the FAB block. -/
def rowsFAB : List RegRow := rowsFAB0 ++ rowsFAB1

/-- Registers of the TIM block. -/
def rowsTIM : List RegRow := [
  .one 0x400a0000 .rw 0x400ff8f8 0xc00fffff 0 (some 6) .single,  -- TIM_CFG
  .one 0x400a0004 .rw 0x80000000 0xffffffff 0 none .single,  -- TIM_ADDEND
  .one 0x400a0008 .wo 0 0xffffffff 0 none .lo,  -- TIM_STEP_LO
  .one 0x400a000c .wo 0 0xffffffff 0 none .hi,  -- TIM_STEP_HI
  .one 0x400a0010 .ro 0 0 0 none .single,  -- TIM_NOW_NS
  .one 0x400a0014 .ro 0 0 0 none .single,  -- TIM_NOW_S_LO
  .one 0x400a0018 .ro 0 0 0 none .single,  -- TIM_NOW_S_HI
  .one 0x400a001c .ro 0 0 0 none .lo,  -- TIM_PERIOD_LO
  .one 0x400a0020 .ro 0 0 0 none .hi,  -- TIM_PERIOD_HI
  .one 0x400a0024 .ro 0 0 0 none .single,  -- TIM_STAT
  .one 0x400a0028 .ro 0 0 0 none .single,  -- TIM_OFFSET
  .one 0x400a002c .wo 0 3 0 none .single,  -- TIM_CMD
  .one 0x400a0030 .rw 0 0xbfffffff 0 none .single,  -- TIM_SNAP_AT_NS
  .one 0x400a0034 .rw 0 0xffffffff 0 none .lo,  -- TIM_SNAP_AT_S_LO
  .one 0x400a0038 .rw 0 0xffff 0 none .hi,  -- TIM_SNAP_AT_S_HI
  .one 0x400a003c .ro 0 0 0 none .lo,  -- TIM_SNAPT_LO
  .one 0x400a0040 .ro 0 0 0 none .hi,  -- TIM_SNAPT_HI
  .arr 0x400a0100 4 0x20 .ro 0 0 0 none .single,  -- TIM_TXQ_ID
  .arr 0x400a0104 4 0x20 .ro 0 0 0 none .single,  -- TIM_TXQ_NS
  .arr 0x400a0108 4 0x20 .ro 0 0 0 none .single,  -- TIM_TXQ_S_LO
  .arr 0x400a010c 4 0x20 .ro 0 0 0 none .single,  -- TIM_TXQ_S_HI
  .arr 0x400a0110 4 0x20 .wo 0 1 0 none .single,  -- TIM_TXQ_POP
  .arr 0x400a0114 4 0x20 .ro 0 0 0 none .single,  -- TIM_TXQ_LOSS
  .one 0x400a00c0 .rc 0 0 0xff none .single]  -- TIM_EVENT

/-- Registers of the REC block. -/
def rowsREC : List RegRow := [
  .one 0x400b0000 .ro 0 0 0 none .single,  -- REC_STAT
  .one 0x400b0004 .ro 0 0 0 none .single,  -- REC_LOST
  .one 0x400b0008 .rc 0 0 0x1f none .single,  -- REC_EVENT
  .one 0x400b0010 .gwVal 0 0xffff 0 none .single,  -- REC_CLEAR
  .one 0x400b0014 .gwCpl 0 0xffff 0 none .single,  -- REC_CLEAR CPL
  .arr 0x400b0040 11 0x4 .rw 0 0xffffffff 0 none .single,  -- REC_APP_DATA
  .one 0x400b0070 .wo 0 0xffff0000 0 none .single]  -- REC_APP_CMD

/-- Registers of the BSS block, part 1. -/
def rowsBSS0 : List RegRow := [
  .one 0x400c0000 .rw 0 0x80001fff 0 (some 7) .single,  -- BSS_CFG
  .one 0x400c0004 .rw 0 0xffffffff 0 (some 7) .single,  -- BSS_ENV_DN
  .one 0x400c0008 .rw 0 0xffffffff 0 (some 7) .single,  -- BSS_ENV_UP
  .one 0x400c000c .rw 0x1e8480 0xffffffff 0 (some 7) .single,  -- BSS_SEP
  .one 0x400c0010 .rw 0x989680 0x1ffffff 0 (some 7) .single,  -- BSS_VMOVE
  .one 0x400c0014 .rw 0x186a0 0x1ffffff 0 (some 7) .single,  -- BSS_VRELEV
  .one 0x400c0018 .rw 0xf4240 0xfffffff 0 (some 7) .single,  -- BSS_AMOVE
  .one 0x400c001c .rw 0xf4240 0xfffffff 0 (some 7) .single,  -- BSS_JMOVE
  .one 0x400c0020 .rw 0 0xfffff 0 (some 7) .single,  -- BSS_KF
  .one 0x400c0024 .rw 0x258000c 0xffffffff 0 (some 7) .single,  -- BSS_THERM
  .one 0x400c0028 .rw 0x44c0190 0xffffffff 0 (some 7) .single,  -- BSS_TEMP
  .one 0x400c002c .rw 0x42 0xffff 0 (some 7) .single,  -- BSS_CORR
  .one 0x400c0030 .rw 0 0x7fffffff 0 (some 7) .single,  -- BSS_PCONT
  .one 0x400c0034 .rw 0 0x7fffffff 0 (some 7) .single,  -- BSS_CAP
  .one 0x400c0038 .rw 0x19 0x7f 0 (some 7) .single,  -- BSS_RESCUE
  .one 0x400c0040 .rw 0 0xffffffff 0 (some 7) .lo,  -- BSS_SHAFT_LO_LO
  .one 0x400c0044 .rw 0 0xffffffff 0 (some 7) .hi,  -- BSS_SHAFT_LO_HI
  .one 0x400c0048 .rw 0 0xffffffff 0 (some 7) .lo,  -- BSS_SHAFT_HI_LO
  .one 0x400c004c .rw 0 0xffffffff 0 (some 7) .hi,  -- BSS_SHAFT_HI_HI
  .one 0x400c0080 .rw 0 0xffffffff 0 none .lo,  -- BSS_STOP_TGT_LO
  .one 0x400c0084 .rw 0 0xffffffff 0 none .hi,  -- BSS_STOP_TGT_HI
  .one 0x400c0088 .wo 0 0xffffc0ff 0 none .single,  -- BSS_STOP_CMD
  .one 0x400c008c .ro 0 0 0 none .single,  -- BSS_CMD_STAT
  .one 0x400c0090 .rc 0 0 0x7f none .single,  -- BSS_EVENT
  .arr 0x400c0100 8 0x10 .ro 0 0 0 none .single]  -- BSS_CAR_STAT

/-- Registers of the BSS block, part 2. -/
def rowsBSS1 : List RegRow := [
  .arr 0x400c0104 8 0x10 .ro 0 0 0 none .single,  -- BSS_CAR_LAST
  .arr 0x400c0108 8 0x10 .ro 0 0 0 none .single,  -- BSS_CAR_ARRIVE
  ⟨0x400c1000, 8, 0x100, 64, 4, .ro, 0, 0, 0, none, .single⟩,  -- BSS_Q
  .arr 0x400c2000 32 0x20 .ro 0 0 0 none .lo,  -- BSS_RES_LO_LO
  .arr 0x400c2004 32 0x20 .ro 0 0 0 none .hi,  -- BSS_RES_LO_HI
  .arr 0x400c2008 32 0x20 .ro 0 0 0 none .lo,  -- BSS_RES_HI_LO
  .arr 0x400c200c 32 0x20 .ro 0 0 0 none .hi,  -- BSS_RES_HI_HI
  .arr 0x400c2010 32 0x20 .ro 0 0 0 none .single,  -- BSS_RES_INFO
  .arr 0x400c3000 128 0x4 .ro 0 0 0 none .single,  -- BSS_THETA
  .one 0x400c3200 .ro 0 0 0 none .single,  -- BSS_BUCKET
  .arr 0x400cc000 64 0x20 .rw 0 0xffffffff 0 (some 7) .lo,  -- BSS_LAND_W0
  .arr 0x400cc004 64 0x20 .rw 0 0xffffffff 0 (some 7) .hi,  -- BSS_LAND_W1
  .arr 0x400cc008 64 0x20 .rw 0 0xffffffff 0 (some 7) .single,  -- BSS_LAND_W2
  .arr 0x400cc00c 64 0x20 .rw 0 0xffffffff 0 (some 7) .single,  -- BSS_LAND_W3
  .arr 0x400cc010 64 0x20 .rw 0 0xffffffff 0 (some 7) .single,  -- BSS_LAND_W4
  .arr 0x400cc014 64 0x20 .rw 0 0xffffffff 0 (some 7) .single,  -- BSS_LAND_W5
  .arr 0x400cc018 64 0x20 .rw 0 0xffffffff 0 (some 7) .single,  -- BSS_LAND_W6
  .arr 0x400cc01c 64 0x20 .rw 0 0xffffffff 0 (some 7) .single]  -- BSS_LAND_W7

/-- Registers of the BSS block. -/
def rowsBSS : List RegRow := rowsBSS0 ++ rowsBSS1

/-- Registers of the INT block. -/
def rowsINT : List RegRow := [
  .arr 0x400d2000 4 0x4 .ro 0 0 0 none .single]  -- INT_CLAIM

/-- Registers of the CFG block. -/
def rowsCFG : List RegRow := [
  .one 0x400e0000 .ro 0 0 0 none .single,  -- CFG_STAT
  .one 0x400e0004 .ro 0 0 0 none .single,  -- CFG_DEFAULT
  .one 0x400e0008 .rc 0 0 0xf none .single,  -- CFG_EVENT
  .one 0x400e0010 .gwVal 0 7 0 none .single,  -- CFG_LC_CMD
  .one 0x400e0014 .gwCpl 0 7 0 none .single,  -- CFG_LC_CMD CPL
  .one 0x400e0018 .gwVal 0 0xffffffff 0 none .single,  -- CFG_OPS_COMMIT
  .one 0x400e001c .gwCpl 0 0xffffffff 0 none .single]  -- CFG_OPS_COMMIT CPL

/-- The rows of the block whose window is number `b` (23 Table 23.2; window 13 is INT, whose INT_ROUTE array stands in
`isRoute`). -/
def rowsOf (b : Nat) : List RegRow :=
  match b with
  | 0 => rowsSYS
  | 1 => rowsPCM
  | 2 => rowsTAC
  | 3 => rowsTRJ
  | 4 => rowsCMM
  | 5 => rowsSLK
  | 6 => rowsFBK
  | 7 => rowsFIO
  | 8 => rowsSAF
  | 9 => rowsFAB
  | 10 => rowsTIM
  | 11 => rowsREC
  | 12 => rowsBSS
  | 13 => rowsINT
  | 14 => rowsCFG
  | _ => []

/-- Whether `a` is a word of INT_ROUTE, offset 0x0000 to 0x1DFC of INT (23 R644). -/
def isRoute (a : Nat) : Bool := 0x400d0000 ≤ a && a < 0x400d1e00 && a % 4 == 0

/-- Register block base and number of windows (23 Table 23.2). -/
def regBase : Nat := 0x40000000

/-- The block number of an address in the register windows, if any (R643). -/
def blockOf (a : Nat) : Option Nat :=
  if regBase ≤ a ∧ a < regBase + 0xf0000 then some ((a - regBase) / 0x10000) else none

/-- The map's row for address `a`, INT_ROUTE apart. -/
def findRow (a : Nat) : Option RegRow :=
  match blockOf a with
  | none => none
  | some b => (rowsOf b).find? (fun r => r.holds a)

/-- The event registers of block `b` in ascending offset order, with their RC bits (23, before R644): register `r` of
the list is r = 0, 1, 2 .... -/
def eventRegs (b : Nat) : List (Nat × Nat) :=
  match b with
  | 0 => [(0x40000030, 0x3f)]
  | 1 => [(0x4001000c, 0x1f)]
  | 2 => [(0x40021300, 0xffffffff), (0x40021304, 0xffffffff), (0x40021308, 0xffffffff), (0x4002130c, 0xffffffff), (0x40021310, 0xffffffff), (0x40021314, 0xffffffff), (0x40021320, 0xffffffff), (0x40021324, 0xffffffff), (0x40021328, 0xffffffff), (0x4002132c, 0xffffffff), (0x40021330, 0xffffffff), (0x40021334, 0xffffffff), (0x40021434, 0x1f), (0x40023c08, 0x3ff)]
  | 3 => [(0x40030210, 0xf), (0x40030214, 0xffffffff), (0x40030604, 0xffff0000), (0x40030a00, 0xffffffff), (0x40030c84, 0x1ffff)]
  | 4 => [(0x40041044, 0xf), (0x40041050, 0xffffffff), (0x40041054, 0xffffffff), (0x40041058, 0xffffffff), (0x4004105c, 0xffffffff), (0x40041060, 0xffffffff), (0x40041064, 0xffffffff), (0x40041068, 0xffffffff), (0x4004106c, 0xffffffff)]
  | 5 => [(0x40050c14, 0x3f), (0x40050c20, 0xffffffff), (0x40050c24, 0xffffffff), (0x40050c28, 0xffffffff), (0x40050c2c, 0xffffffff)]
  | 6 => [(0x40062450, 0x7f), (0x40062460, 0xffffffff), (0x40062464, 0xffffffff), (0x40062468, 0xffffffff), (0x4006246c, 0xffffffff), (0x40062470, 0xffffffff), (0x40062480, 0xffffffff), (0x40062484, 0xffffffff), (0x40062488, 0xffffffff), (0x4006248c, 0xffffffff), (0x40062490, 0xffffffff), (0x400624a0, 0xffffffff), (0x400624a4, 0xffffffff), (0x400624a8, 0xffffffff), (0x400624ac, 0xffffffff), (0x400624b0, 0xffffffff)]
  | 7 => [(0x40070420, 0xff)]
  | 8 => [(0x40080004, 0x7f)]
  | 9 => [(0x400900c0, 0x1fffff), (0x40090810, 0x1ff)]
  | 10 => [(0x400a00c0, 0xff)]
  | 11 => [(0x400b0008, 0x1f)]
  | 12 => [(0x400c0090, 0x7f)]
  | 14 => [(0x400e0008, 0xf)]
  | _ => []

/-- Reset routing byte of an event bit (02 Table 2.5): EN, core and priority of the source's group. TIM's PERIOD bit
belongs to the Period group, its other bits to Fabric. -/
def routeByteReset (b bit : Nat) : Nat :=
  match b with
  | 2 => 0x86
  | 10 => if bit = 0 then 0x86 else 0xb5
  | 3 | 4 | 6 => 0x85
  | 12 => 0x94
  | 5 => 0x86
  | 7 => 0xa5
  | 8 => 0x87
  | 9 => 0xb5
  | _ => 0xb4

/-- Reset value of one byte of INT_ROUTE: 0 where no event bit stands behind it (R644). -/
def routeByteAt (b r bit : Nat) : Nat :=
  match (eventRegs b)[r]? with
  | some (_, m) => if m.testBit bit then routeByteReset b bit else 0
  | none => 0

/-- Reset value of the INT_ROUTE word at offset `off` (23 R644, Table 2.5). -/
def routeReset (off : Nat) : Nat :=
  let src := off / 0x20
  let b := src / 16
  let r := src % 16
  let q := off % 0x20
  routeByteAt b r q + 0x100 * routeByteAt b r (q + 1) + 0x10000 * routeByteAt b r (q + 2) +
    0x1000000 * routeByteAt b r (q + 3)

/-- Which bytes of an INT_ROUTE word have an event bit behind them, as a write mask (R644). -/
def routeMask (off : Nat) : Nat :=
  let src := off / 0x20
  let b := src / 16
  let r := src % 16
  let q := off % 0x20
  let one (k : Nat) : Nat :=
    match (eventRegs b)[r]? with
    | some (_, m) => if m.testBit (q + k) then 0xb7 else 0
    | none => 0
  one 0 + 0x100 * one 1 + 0x10000 * one 2 + 0x1000000 * one 3

/-- Reset value of a register (the reset column of its table). -/
def regReset (a : Nat) : Nat :=
  if isRoute a then routeReset (a - 0x400d0000)
  else match findRow a with
    | some r => r.reset
    | none => 0

/-- Writable bits of a register. -/
def regWmask (a : Nat) : Nat :=
  if isRoute a then routeMask (a - 0x400d0000)
  else match findRow a with
    | some r => r.wmask
    | none => 0

/-- Update group of a register, if it is a configuration register (05 Table 5.2). -/
def regGroup (a : Nat) : Option Nat :=
  match findRow a with
  | some r => r.group
  | none => none

/-- RC bits of a register. -/
def regRcmask (a : Nat) : Nat :=
  match findRow a with
  | some r => r.rcmask
  | none => 0

end Sys2Proof.Machine
end

