-- ==== Sys2Proof/Machine/State.lean ====
section
/-!
DEFINITION. The state of the HX-128, the reasons a step can stop, and the state right after reset.
-/

namespace Sys2Proof.Machine

open Sys2Proof

/-- Faults. Every command of the HX-128 ends in a next state (a spec's trap, refusal or error flag is an effect on the
state), so no command raises one: the type is empty, which is safe. -/
inductive Fault where
  deriving DecidableEq, Repr

/-- Refusals. -/
inductive Refusal where
  /-- Raised by the dispatcher for a command whose meaning is not written; safe. -/
  | notModelled (mnemonic : String)
  deriving DecidableEq, Repr

/-- The state of the block. `pending`: commands waiting, first in first out; `free`: the counter free values are drawn
with (the model's own); `tx`: frames handed to the fabric MAC and not yet taken by it (the model's own). The other fields
are the blocks' state (see `Types.lean`). -/
structure State where
  pending : List Instr
  free : Nat
  tx : List TxFrame
  bus : Bus
  tb : TimeBase
  pw : Power
  nv : NonVol
  conf : Conf
  pins : Pins
  sram : List (Nat × Byte)
  caches : Caches
  tide : Tide
  cars : List (Nat × CarRec)
  chans : List (Nat × ChanView)
  trj : Trj
  doors : List (Nat × Door)
  cmm : List (Nat × CmmCh)
  slk : Slk
  fbk : Fbk
  fio : Fio
  saf : Saf
  bss : Bss
  fab : Fab
  nbTs : List (Nat × Nat)
  rcd : Rec
  deriving DecidableEq, Repr

/-- The factory-default safety set's place before start-up loads a bank: nothing configured. -/
def SpsContent.blank : SpsContent where
  shaftId := 0
  role := .sect
  tsNs := 0
  neighbours := []
  sections := []
  cars := []
  pairs := []
  key := 0
  keyCf := 0
  rstA := none
  rstB := none
  insp := none
  runUp := none
  runDn := none
  rescueIn := none
  safeOuts := []
  tPulse := 0
  grpTo := []
  linkATo := 0
  linkBTo := 0
  landings := []
  vDz := 0
  tdLb := 0
  zones := []
  vUp := []
  vDn := []
  eclUp := []
  eclDn := []
  eclDz := 0
  eclInsp := 0
  vCarUp := 0
  vCarDn := 0
  tzLen := 0
  tzStop := 0
  aTz := 0
  shaftLo := 0
  shaftHi := 0
  dMin := 0
  aSafe := 0
  gMin := 0
  runMax := 0
  envDn := 0
  envUp := 0
  segEnds := []
  sigPer := 0
  sens := []
  mark := 0
  arrOfs := 0
  arrLen := 0
  tapeOfs := 0
  tapeLsb := 0
  brkA := none
  brkB := none
  brkFbA := none
  brkFbB := none
  tBrk := 0
  ucmDist := 0

/-- The factory-default operational set: nothing enabled, T_s of 125 us (04 R116). -/
def OpsContent.blank : OpsContent := ⟨125000, SectionGeom.none, [], [], [], [], [], 0, 0⟩

/-- Nothing loaded yet; no cause collected. -/
def Conf.init : Conf where
  role := none
  loader := false
  geom := SectionGeom.none
  sps := SpsContent.blank
  commit := none
  spsNext := none
  wiping := false
  causes := 0
  rail := 0
  resumed := false
  imgVersion := 0
  tsNs := 125000
  ops := OpsContent.blank
  wipeFrom := 0

/-- The machine right after a power-on reset (04 R94, R100: POR and HOLD_LOST): reset in force, every register at its reset value, memories at 0, the non-volatile
memory as shipped, nothing pending. -/
def State.reset : State where
  pending := []
  free := 0
  tx := []
  bus := Bus.init
  tb := TimeBase.init
  pw := Power.init
  nv := NonVol.init
  conf := { Conf.init with causes := 0x81 }
  pins := Pins.init
  sram := []
  caches := Caches.init
  tide := Tide.init
  cars := []
  chans := []
  trj := Trj.init
  doors := []
  cmm := []
  slk := Slk.init
  fbk := Fbk.init
  fio := Fio.init
  saf := Saf.init
  bss := Bss.init
  fab := Fab.init
  nbTs := []
  rcd := Rec.init

end Sys2Proof.Machine
end

