-- ==== Sys2Proof/Machine/Ops.lean ====
section
/-!
DEFINITION. The named operations over registers, events, results, memory, time and the transmit queue that every meaning
is written with.
-/

namespace Sys2Proof.Machine

open Sys2Proof

/-! ### Registers in force -/

/-- Value in force of the register at `a`; unlisted registers hold their reset value. -/
def State.reg (s : State) (a : Nat) : Word := smGet (wd (regReset a)) s.bus.regs a

/-- The register at `a` set to `w`. -/
def State.setReg (s : State) (a : Nat) (w : Word) : State :=
  { s with bus := { s.bus with regs := smSet (wd (regReset a)) s.bus.regs a w } }

/-- Value of a field. -/
def State.get (s : State) (f : FRef) : Nat := getF f.bits (s.reg f.addr)

/-- Field set to `v` (modulo its size). -/
def State.put (s : State) (f : FRef) (v : Nat) : State := s.setReg f.addr (setF f.bits v (s.reg f.addr))

/-- A one-bit field read as a truth value. -/
def State.flag (s : State) (f : FRef) : Bool := s.get f == 1

/-- A one-bit field set to 1: an event bit or a status flag. -/
def State.ev (s : State) (f : FRef) : State := s.put f 1

/-- A one-bit field set to a truth value. -/
def State.putB (s : State) (f : FRef) (b : Bool) : State := s.put f (b2n b)

/-- Bit `n` of a bitmap field set. -/
def State.evBit (s : State) (f : FRef) (n : Nat) : State := s.put f (setBitN (s.get f) n true)

/-- Bit `n` of a bitmap field cleared. -/
def State.clrBit (s : State) (f : FRef) (n : Nat) : State := s.put f (setBitN (s.get f) n false)

/-- Bit `n` of a bitmap field. -/
def State.bit (s : State) (f : FRef) (n : Nat) : Bool := (s.get f).testBit n

/-- Field read as two's complement. -/
def State.getS (s : State) (f : FRef) : Int := sgn (bitsLen f.bits) (s.get f)

/-- Register read as s32. -/
def State.regS (s : State) (a : Nat) : Int := sgn 32 (s.reg a).toNat

/-- A counter field raised by 1 that stops at its largest value. -/
def State.incSat (s : State) (f : FRef) : State :=
  s.put f (satN (2 ^ bitsLen f.bits - 1) (s.get f + 1))

/-- A counter field raised by 1 that wraps. -/
def State.incWrap (s : State) (f : FRef) : State := s.put f (s.get f + 1)

/-- The 64-bit value of the pair whose LO register is at `lo` (05 R138). -/
def State.pair (s : State) (lo : Nat) : Nat := join64 (s.reg lo) (s.reg (lo + 4))

/-- The pair read as s64. -/
def State.pairS (s : State) (lo : Nat) : Int := sgn 64 (s.pair lo)

/-- Both words of a pair set. -/
def State.setPair (s : State) (lo v : Nat) : State := (s.setReg lo (lo32 v)).setReg (lo + 4) (hi32 v)

/-- A signed value into a pair. -/
def State.setPairS (s : State) (lo : Nat) (v : Int) : State := s.setPair lo (uns 64 v)

/-! ### Pending copies (05 R148) -/

/-- Pending copy of a configuration register. -/
def State.pendReg (s : State) (a : Nat) : Word := smGet (wd (regReset a)) s.bus.pend a

/-- Pending copy set. -/
def State.setPend (s : State) (a : Nat) (w : Word) : State :=
  { s with bus := { s.bus with pend := smSet (wd (regReset a)) s.bus.pend a w } }

/-- Field of a pending copy. -/
def State.getP (s : State) (f : FRef) : Nat := getF f.bits (s.pendReg f.addr)

/-- Pair of pending copies. -/
def State.pairP (s : State) (lo : Nat) : Nat := join64 (s.pendReg lo) (s.pendReg (lo + 4))

/-- A register as it will stand once the groups of `mask` are applied (05 R151): the pending copy if its group is among
them, the value in force otherwise. -/
def State.regAt (s : State) (mask a : Nat) : Word :=
  match regGroup a with
  | some g => if mask.testBit g then s.pendReg a else s.reg a
  | none => s.reg a

/-- A field as it will stand. -/
def State.getAt (s : State) (mask : Nat) (f : FRef) : Nat := getF f.bits (s.regAt mask f.addr)

/-- A one-bit field as it will stand. -/
def State.flagAt (s : State) (mask : Nat) (f : FRef) : Bool := s.getAt mask f == 1

/-- A signed field as it will stand. -/
def State.getAtS (s : State) (mask : Nat) (f : FRef) : Int := sgn (bitsLen f.bits) (s.getAt mask f)

/-- A pair as it will stand, read as s64. -/
def State.pairAtS (s : State) (mask lo : Nat) : Int := sgn 64 (join64 (s.regAt mask lo) (s.regAt mask (lo + 4)))

/-! ### Results (05 R142, R143) -/

/-- A result of 30 bits completes: value and advanced tag in one word. -/
def State.result (s : State) (a v : Nat) : State :=
  s.setReg a (wd (v % 2 ^ 30 + ((s.reg a).toNat / 2 ^ 30 + 1) % 4 * 2 ^ 30))

/-- A 62-bit result completes in the pair at `lo`: the tag is in HI [31:30]. -/
def State.resultPair (s : State) (lo : Nat) (v : Int) : State :=
  let u := uns 62 v
  (s.setReg lo (lo32 u)).setReg (lo + 4) (wd (u / 2 ^ 32 + ((s.reg (lo + 4)).toNat / 2 ^ 30 + 1) % 4 * 2 ^ 30))

/-- The tag field `f` of a result advances modulo 4 (R143). -/
def State.bumpTag (s : State) (f : FRef) : State := s.put f ((s.get f + 1) % 4)

/-! ### Free values -/

/-- Draw a free value. -/
def State.draw (s : State) : Nat × State := (Config.freeNat s.free, { s with free := s.free + 1 })

/-! ### Time -/

/-- Present PTP time. -/
def State.now (s : State) : PtpTime := ⟨s.tb.sec, s.tb.ns⟩

/-- A PTP time in ns since the epoch. -/
def ptpNs (t : PtpTime) : Nat := t.sec * 1000000000 + t.ns

/-- Present time in ns since the epoch. -/
def State.nowNs (s : State) : Nat := ptpNs s.now

/-- The 62-bit form of a PTP time in a result pair (19 R589): (seconds mod 2^32) * 2^30 + nanoseconds. -/
def stamp62 (t : PtpTime) : Nat := t.sec % 2 ^ 32 * 2 ^ 30 + t.ns

/-- T_s in ns (01, section parameters): that of the operational set in force. -/
def State.tsNs (s : State) : Nat := s.conf.tsNs

/-! ### Modes -/

/-- Present mode. -/
def State.mode (s : State) : Mode := s.pw.mode

/-- Modes in which the servo clocks run (03 Table 3.4: PD4 and PD5 on). -/
def modeServo : Mode → Bool
  | .standby | .service | .inspection | .rescue | .commissioning => true
  | _ => false

/-- Whether the servo domains PD4 and PD5 are on: the device runs, in a mode of Table 3.4 that powers them. -/
def State.servoOn (s : State) : Bool := s.pw.phase == .running && modeServo s.mode

/-- Whether the device runs and PD7, PD8 and PD9 are on (every mode but Dormant). -/
def State.awake (s : State) : Bool := s.pw.phase == .running && s.mode != .dormant

/-- This device's acting fabric ID (18 R546). -/
def State.myId (s : State) : Nat := s.nv.lc.actId

/-! ### Frames sent (18 R549 to R554; 17 R536) -/

/-- The link of spine port p is up. -/
def spineUp (s : State) (p : Nat) : Bool := s.get (F.FAB_SP_STAT.STATE p) == 3

/-- What a source last announced. -/
def learnedOf (s : State) (id : Nat) : Option Learned := smFind s.fab.learned id

/-- Ticks of a number of seconds. -/
def ticksOf (sec : Nat) : Nat := sec * 125000000

/-- The learned port of member m: the lowest on which its ANNOUNCE arrived within the last 3 s (18 R555). -/
def learnedPort (s : State) (m : Nat) : Option Nat :=
  match learnedOf s (s.myId / 256 * 256 + m) with
  | none => none
  | some l => (List.range 4).find? (fun p => l.ports.any (fun e => e.1 == p && decide (s.tb.tick ≤ e.2 + ticksOf 3)))

/-- The spine port a unicast frame to `dst` leaves by: the member route in the own group, else the group route (18 R552). -/
def routeOf (s : State) (dst : Nat) : Option Nat :=
  if dst / 256 = s.myId / 256 then
    let m := dst % 256
    if s.flag (F.FAB_MRT.AUTO m) then learnedPort s m
    else if s.flag (F.FAB_MRT.EN m) then some (s.get (F.FAB_MRT.PORT m)) else none
  else
    let g := dst / 256 % 64
    if s.flag (F.FAB_GRT.EN g) then some (s.get (F.FAB_GRT.PORT g)) else none

/-- A frame without a route is dropped (18 R552). -/
def noRoute (s : State) : State := (s.incSat F.FAB_NET_CNT.NO_ROUTE).ev F.FAB_NET_EVENT.NO_ROUTE

/-- The packet number of a protected port moves on: PN_WARN at 0xF000_0000, PN_EXH at 0xFFFF_FFFF (17 R536). -/
def nextPn (p : Nat) (s : State) : State :=
  let n := (s.reg (Reg.FAB_SP_TXPN p)).toNat + 1
  let t := s.setReg (Reg.FAB_SP_TXPN p) (wd n)
  let u := if n = 0xF0000000 then t.ev F.FAB_LINK_EVENT.PN_WARN else t
  if n = 0xFFFFFFFF then u.ev F.FAB_LINK_EVENT.PN_EXH else u

/-- A frame as it leaves its port: to the MAC address heard there in an announcement, else to the broadcast address (18 R549). -/
def onWire (s : State) (f : TxFrame) : TxFrame :=
  let g := { f with mac := smGet 0xFFFFFFFFFFFF s.fab.macs f.port, smac := s.nv.macs.getD f.port 0, etype := s.get F.FAB_NET_CFG.ETYPE }
  { g with wire := frameBytes g }

/-- A frame goes out on its port, if the link is up and a protected port still has packet numbers. -/
def emit (f : TxFrame) (s : State) : State :=
  if spineUp s f.port then
    let t := { s with tx := s.tx ++ [onWire s f] }
    if s.flag (F.FAB_SP_MSEC.EN f.port) then
      if (s.reg (Reg.FAB_SP_TXPN f.port)).toNat = 0xFFFFFFFF then s else nextPn f.port t
    else t
  else s

/-- Whether the device sends a frame: awake, and a Fenced device sends FENCED alone (18 R563). -/
def maySend (s : State) (b : FrameBody) : Bool :=
  s.awake && (!s.nv.lc.fenced || (match b with
    | .fenced _ => true
    | _ => false))

/-- The next SEQ of a frame the device originates (18 Table 18.1). -/
def nextSeq (s : State) : State := { s with fab := { s.fab with seq := (s.fab.seq + 1) % 2 ^ 32 } }

/-- A frame of this device on port p, addressed as it leaves. -/
def ownFrame (s : State) (p dst hops : Nat) (bcast : Bool) (b : FrameBody) : TxFrame :=
  { port := p, src := s.myId, dst := dst, epoch := s.nv.lc.epoch, hops := hops, bcast := bcast, seq := s.fab.seq, body := b }

/-- Send a unicast frame. -/
def State.send (s : State) (dst : Nat) (b : FrameBody) : State :=
  if maySend s b then
    let t := nextSeq s
    match routeOf t dst with
    | none => noRoute t
    | some p => emit (ownFrame t p dst 8 false b) t
  else s

/-- Send a frame to the own group: BCAST on every up port. -/
def State.sendGroup (s : State) (hops : Nat) (b : FrameBody) : State :=
  if maySend s b then
    (List.range 4).foldl (fun t p => emit (ownFrame t p (s.myId / 256 * 256) hops true b) t) (nextSeq s)
  else s

/-- Send a one-hop frame on one port. -/
def State.sendPort (s : State) (p dst : Nat) (bcast : Bool) (b : FrameBody) : State :=
  if maySend s b then
    let t := nextSeq s
    emit (ownFrame t p dst 1 bcast b) t
  else s

/-! ### Records of the blocks -/

/-- Car record c. -/
def State.car (s : State) (c : Nat) : CarRec := smGet CarRec.init s.cars c
/-- Car record c changed. -/
def State.modCar (s : State) (c : Nat) (f : CarRec → CarRec) : State :=
  { s with cars := smMod CarRec.init s.cars c f }
/-- View of drive channel n. -/
def State.chan (s : State) (n : Nat) : ChanView := smGet ChanView.init s.chans n
/-- View of drive channel n changed. -/
def State.modChan (s : State) (n : Nat) (f : ChanView → ChanView) : State :=
  { s with chans := smMod ChanView.init s.chans n f }
/-- Axis n. -/
def State.axis (s : State) (n : Nat) : Axis := smGet Axis.init s.trj.axes n
/-- Axis n changed. -/
def State.modAxis (s : State) (n : Nat) (f : Axis → Axis) : State :=
  { s with trj := { s.trj with axes := smMod Axis.init s.trj.axes n f } }
/-- Conversions of channel n. -/
def State.cmmCh (s : State) (n : Nat) : CmmCh := smGet CmmCh.init s.cmm n
/-- Conversions of channel n changed. -/
def State.modCmm (s : State) (n : Nat) (f : CmmCh → CmmCh) : State := { s with cmm := smMod CmmCh.init s.cmm n f }
/-- Segment Link port p. -/
def State.slkPort (s : State) (p : Nat) : SlkPort := smGet SlkPort.init s.slk.ports p
/-- Segment Link port p changed. -/
def State.modPort (s : State) (p : Nat) (f : SlkPort → SlkPort) : State :=
  { s with slk := { s.slk with ports := smMod SlkPort.init s.slk.ports p f } }
/-- Buffers of channel n. -/
def State.slkCh (s : State) (n : Nat) : SlkCh := smGet SlkCh.init s.slk.chans n
/-- Buffers of channel n changed. -/
def State.modSlkCh (s : State) (n : Nat) (f : SlkCh → SlkCh) : State :=
  { s with slk := { s.slk with chans := smMod SlkCh.init s.slk.chans n f } }
/-- Feedback channel n. -/
def State.fb (s : State) (n : Nat) : FbCh := smGet FbCh.init s.fbk.chans n
/-- Feedback channel n changed. -/
def State.modFb (s : State) (n : Nat) (f : FbCh → FbCh) : State :=
  { s with fbk := { s.fbk with chans := smMod FbCh.init s.fbk.chans n f } }
/-- Serial port p. -/
def State.ser (s : State) (p : Nat) : SerPort := smGet SerPort.init s.fbk.ports p
/-- Serial port p changed. -/
def State.modSer (s : State) (p : Nat) (f : SerPort → SerPort) : State :=
  { s with fbk := { s.fbk with ports := smMod SerPort.init s.fbk.ports p f } }
/-- Emulation output e. -/
def State.emu (s : State) (e : Nat) : Emu := smGet Emu.init s.fbk.emus e
/-- Emulation output e changed. -/
def State.modEmu (s : State) (e : Nat) (f : Emu → Emu) : State :=
  { s with fbk := { s.fbk with emus := smMod Emu.init s.fbk.emus e f } }
/-- Door unit d. -/
def State.door (s : State) (d : Nat) : Door := smGet Door.init s.doors d
/-- Door unit d changed. -/
def State.modDoor (s : State) (d : Nat) (f : Door → Door) : State :=
  { s with doors := smMod Door.init s.doors d f }
/-- Die of field group g. -/
def State.die (s : State) (g : Nat) : Die := smGet Die.init s.fio.dies g
/-- Die of field group g changed. -/
def State.modDie (s : State) (g : Nat) (f : Die → Die) : State :=
  { s with fio := { s.fio with dies := smMod Die.init s.fio.dies g f } }
/-- FG4 link l. -/
def State.stoLink (s : State) (l : Nat) : StoLink := smGet StoLink.init s.fio.links l
/-- FG4 link l changed. -/
def State.modStoLink (s : State) (l : Nat) (f : StoLink → StoLink) : State :=
  { s with fio := { s.fio with links := smMod StoLink.init s.fio.links l f } }
/-- Frequency measurement f. -/
def State.freqIn (s : State) (f : Nat) : FreqIn := smGet FreqIn.init s.fio.freq f
/-- Frequency measurement f changed. -/
def State.modFreq (s : State) (f : Nat) (g : FreqIn → FreqIn) : State :=
  { s with fio := { s.fio with freq := smMod FreqIn.init s.fio.freq f g } }
/-- Slot g's state. -/
def State.slot (s : State) (g : Nat) : SlotSt := smGet SlotSt.init s.tide.slots g
/-- Slot g's state changed. -/
def State.modSlot (s : State) (g : Nat) (f : SlotSt → SlotSt) : State :=
  { s with tide := { s.tide with slots := smMod SlotSt.init s.tide.slots g f } }

/-- Fold a state change over the numbers below n. -/
def State.forN (s : State) (n : Nat) (f : Nat → State → State) : State := (List.range n).foldl (fun t i => f i t) s

/-- Fold a state change over a list. -/
def State.forL {α : Type} (s : State) (l : List α) (f : α → State → State) : State := l.foldl (fun t i => f i t) s

/-- `f` if `c` holds, else unchanged. -/
def State.when (s : State) (c : Bool) (f : State → State) : State := if c then f s else s

end Sys2Proof.Machine
end

