-- ==== Sys2Proof/Machine/Geom.lean ====
section
/-!
DEFINITION. The shaft model (01): segments, extents, overlaps, roles, faulted and excluded segments, and which slots,
axes and cars belong together.
-/

namespace Sys2Proof.Machine

open Sys2Proof

/-! ### Roles -/

/-- Section role in force (00 R4; no role while the boot ROM loader runs, 04 R110). -/
def isSection (s : State) : Bool := s.conf.role == some .sect
/-- Car role in force. -/
def isCar (s : State) : Bool := s.conf.role == some .car

/-! ### Segments (01 R13 to R17, R646) -/

/-- A segment with its extent [lo, hi): `nb` is none for the device's own segments, else the neighbour's fabric ID. -/
structure SegX where
  nb : Option Nat
  seg : Nat
  chan : Nat
  lo : Int
  hi : Int
  deriving DecidableEq, Repr

/-- Own segments from segment `k` with lower end `lo` upward. -/
def ownFrom : Nat → Int → List SegRec → List SegX
  | _, _, [] => []
  | k, lo, r :: t => ⟨none, k, r.chan, lo, lo + r.len⟩ :: ownFrom (k + 1) (lo + r.len) t

/-- The section's own segments, lowest first. -/
def ownSegs (g : SectionGeom) : List SegX := ownFrom 0 g.lower g.segs

/-- Lower end of the section's extent. -/
def extLo (g : SectionGeom) : Int := g.lower
/-- Upper end of the section's extent. -/
def extHi (g : SectionGeom) : Int := g.lower + (g.segs.map (fun r => (r.len : Int))).sum

/-- Segments of the neighbour above, upward from `lo`, numbered from `k`. -/
def aboveFrom (id : Nat) : Nat → Int → List Nat → List SegX
  | _, _, [] => []
  | k, lo, l :: t => ⟨some id, k, 0, lo, lo + l⟩ :: aboveFrom id (k + 1) (lo + l) t

/-- Segments of the neighbour below, downward from `hi`, numbered from `k` down. -/
def belowFrom (id : Nat) : Nat → Int → List Nat → List SegX
  | _, _, [] => []
  | k, hi, l :: t => ⟨some id, k, 0, hi - l, hi⟩ :: belowFrom id (k - 1) (hi - l) t

/-- Listed segments of the neighbours and the section's own, lowest in the shaft first (R646). -/
def allSegs (g : SectionGeom) : List SegX :=
  (match g.below with
   | none => []
   | some n => (belowFrom n.id (n.nSeg - 1) g.lower n.lens).reverse) ++
  ownSegs g ++
  (match g.above with
   | none => []
   | some n => aboveFrom n.id 0 (extHi g) n.lens)

/-- Length of the intersection of two intervals (R28). -/
def overlapLen (lo hi alo ahi : Int) : Nat := (min hi ahi - max lo alo).toNat

/-- Lower end of a car's magnet array (R23). -/
def arrLo (c : CarRec) : Int := c.pos + c.arrOfs

/-- Overlap of a segment with a car. -/
def segOverlap (x : SegX) (c : CarRec) : Nat := overlapLen x.lo x.hi (arrLo c) (arrLo c + c.arrLen)

/-- The neighbour whose extent holds position `p`, if the section has one there (R17). -/
def neighbourAt (g : SectionGeom) (p : Int) : Option Nat :=
  if p < extLo g then g.below.map (fun n => n.id)
  else if extHi g ≤ p then g.above.map (fun n => n.id)
  else none

/-! ### Slots (07 R202, R203) -/

/-- Number of scheduling-table entries. -/
def numSlots : Nat := 192

/-- Whether slot g is enabled in the table in force; an unlisted register is at reset, where EN is 0. -/
def slotEn (s : State) (g : Nat) : Bool :=
  match smFind s.bus.regs (Reg.TAC_SLOT_BIND g) with
  | some w => bitOf w 31
  | none => false

/-- KIND of slot g: 0 auxiliary, 1 car, 2 channel. -/
def slotKind (s : State) (g : Nat) : Nat := s.get (F.TAC_SLOT_BIND.KIND g)
/-- PHASE of slot g: 0 A, 1 B, 2 TAIL. -/
def slotPhase (s : State) (g : Nat) : Nat := s.get (F.TAC_SLOT_BIND.PHASE g)
/-- Bound car record or drive channel of slot g. -/
def slotBind (s : State) (g : Nat) : Nat := s.get (F.TAC_SLOT_BIND.BIND g)

/-- Enabled slots, ascending. -/
def enabledSlots (s : State) : List Nat := (List.range numSlots).filter (slotEn s)

/-- Enabled slots of a binding, ascending. -/
def slotsOf (s : State) (kind bind : Nat) : List Nat :=
  (enabledSlots s).filter (fun g => slotKind s g == kind && slotBind s g == bind)

/-- Enabled slots of a binding that no start-up check has disabled (R204). -/
def liveSlotsOf (s : State) (kind bind : Nat) : List Nat := (slotsOf s kind bind).filter (fun g => !(s.slot g).bad)

/-- The slot in control of a binding. -/
def ctrlSlot (s : State) (kind bind : Nat) : Option Nat :=
  (liveSlotsOf s kind bind).find? (fun g => (s.slot g).inControl)

/-- Whether slot g is declared faulted. -/
def slotFault (s : State) (g : Nat) : Bool := s.flag (F.TAC_OVR.FAULT g)

/-! ### Segment and channel health (01 R29, 07 R211, 02 R647) -/

/-- Whether a drive channel is enabled as a type (13: 0 SEG3, 1 DOOR2, 2 DOOR3, 3 SETP). -/
def chanEn (s : State) (n : Nat) : Bool :=
  match smFind s.bus.regs (Reg.SLK_CH_CFG n) with
  | some w => getF (F.SLK_CH_CFG.EN n).bits w == 1
  | none => false

/-- Type code of a drive channel. -/
def chanType (s : State) (n : Nat) : Nat := s.get (F.SLK_CH_CFG.TYPE n)

/-- A channel slot of channel n is faulted (07 R209). -/
def chanSlotFault (s : State) (n : Nat) : Bool := (slotsOf s 2 n).any (slotFault s)

/-- A node fault of channel n is latched (13 R425). -/
def nodeFault (s : State) (n : Nat) : Bool := s.flag (F.SLK_CH_STAT.FAULT n)

/-- Channel n is faulted (R209, R425). -/
def chanFault (s : State) (n : Nat) : Bool := chanSlotFault s n || nodeFault s n

/-- The STO bit was set in channel n's slot at the last boundary (15 SAF_STO_MAP). -/
def chanSto (s : State) (n : Nat) : Bool := (s.reg (Reg.SAF_STO_MAP (n / 32))).getLsbD (n % 32)

/-- Shares for channel n's segment are being missed (02 R49). -/
def missedShare (s : State) (n : Nat) : Bool :=
  match (s.chan n).shareIn with
  | some x => decide (0 < x.misses)
  | none => false

/-- A signal fault stands on FBn (10 R309). -/
def sigFault (s : State) (n : Nat) : Bool := s.flag (F.FBK_CH_STAT.SIGF n)

/-- REASON code SEGSTAT gives for an excluded own segment on channel n (18 Table 18.3), none if it is live: failed by a slot or
node fault (R211), under STO, signal fault, missed shares. Where several hold, the first of these is listed (DESIGN CHOICE, log
entry 89). -/
def exclReason (s : State) (n : Nat) : Option Nat :=
  if chanFault s n then some 2
  else if chanSto s n then some 1
  else if sigFault s n then some 3
  else if missedShare s n then some 4
  else none

/-- Whether a segment is outside every active set (R29, R647): an own segment by its channel, a neighbour's by the last
SEGSTAT for the car. -/
def segExcluded (s : State) (c : CarRec) (x : SegX) : Bool :=
  match x.nb with
  | none => (exclReason s x.chan).isSome
  | some id => c.excl.contains (id, x.seg)

/-- A failed segment of the section: its channel is faulted (R211), or its feedback channel has a signal fault (10 R309). -/
def segFailed (s : State) (x : SegX) : Bool := chanFault s x.chan || sigFault s x.chan

/-- The failed segments of the section, by number, ascending. -/
def failedSegs (s : State) : List Nat := ((ownSegs s.conf.geom).filter (segFailed s)).map (fun x => x.seg)

/-- Whether two of the listed segments are adjacent. -/
def adjacent : List Nat → Bool
  | a :: b :: t => b == a + 1 || adjacent (b :: t)
  | _ => false

/-- The section's spare capacity is used up (07 R218). -/
def spareGone (s : State) : Bool := decide (2 < (failedSegs s).length) || adjacent (failedSegs s)

/-- Straddle mode of a car (07 R216): its array overlaps a failed segment and the spare capacity is not used up. -/
def straddles (s : State) (c : CarRec) : Bool :=
  !spareGone s && (ownSegs s.conf.geom).any (fun x => segFailed s x && decide (0 < segOverlap x c))

/-! ### Field inputs by name -/

/-- Filtered state of input IN_i (14 FIO_INi); inputs above 95 do not exist. -/
def inState (s : State) (i : Nat) : Bool := decide (i < 96) && (s.reg (Reg.FIO_IN (i / 32))).getLsbD (i % 32)

/-- A named input of the safety parameter set is active: it is assigned and reads 1. -/
def namedIn (s : State) (i : Option Nat) : Bool :=
  match i with
  | some n => inState s n
  | none => false

/-! ### Cars and axes (08 R236) -/

/-- Car records CR0 to CR7 that are held. -/
def heldCars (s : State) : List Nat := (List.range 8).filter (fun c => (s.car c).held)

/-- The lowest free car record that was not released in this period (01 R25). -/
def freeCar (s : State) : Option Nat :=
  (List.range 8).find? (fun c => !(s.car c).held && (s.car c).relK != some s.tb.k)

/-- Record of a car by its fabric ID. -/
def carById (s : State) (id : Nat) : Option Nat := (heldCars s).find? (fun c => (s.car c).id == id)

/-- Two cars' arrays both overlap a segment, own or a neighbour's (01 R31): it belongs to neither active set. -/
def sharedSeg (s : State) (x : SegX) : Bool :=
  decide (1 < ((heldCars s).filter (fun c => decide (0 < segOverlap x (s.car c)))).length)

/-- Axis n has a move running, stopping or aborting (IN_MOVE of 06 Table 6.4). -/
def inMove (a : Axis) : Bool :=
  match a.st with
  | .running | .stopping | .aborting => true
  | _ => false

/-- A car or door is at rest: its axis runs no move. DEDUCED (log entry 13). -/
def axisAtRest (s : State) (n : Nat) : Bool := !inMove (s.axis n)

/-- A held record's car moves: its axis runs a move, or a car owned elsewhere has a sensor speed (log entry 13). -/
def recMoves (s : State) (c : Nat) : Bool :=
  inMove (s.axis c) || (s.servoOn && !(s.car c).owner && (s.car c).posValid && (s.car c).vel != 0)

/-- Whether axis n is enabled. -/
def axisEn (s : State) (n : Nat) : Bool :=
  match smFind s.bus.regs (Reg.TRJ_AXIS_CFG n) with
  | some w => bitOf w 31
  | none => false

/-- A car slot of record c is faulted, or none bound to it is enabled (07 R209, R213, Table 7.2). -/
def carFaulted (s : State) (c : Nat) : Bool := (liveSlotsOf s 1 c).isEmpty || (slotsOf s 1 c).any (slotFault s)

/-- A stop cause is put to an axis; it acts in the next stage 4 (08 R258). -/
def stopAxis (n cause : Nat) (s : State) : State :=
  s.modAxis n (fun a => { a with evs := a.evs ++ [.stop cause] })

/-- A HOMING move whose car starts an owner hand-over: the homing state becomes HOME_ABORTED, and the move goes on as kind NORMAL
(08 R267). -/
def homeHandedOver (n : Nat) (s : State) : State :=
  s.modAxis n (fun a =>
    if a.homing = 1 then
      { a with homing := 3, mv := a.mv.map (fun m => if m.arg.kind = 1 then { m with arg := { m.arg with kind := 0 } } else m) }
    else a)

/-- The axis of car c forgets its moves: the device no longer evaluates them, and it stands with speed and acceleration 0 (08
R239, R240). -/
def axisLost (c : Nat) (s : State) : State :=
  s.modAxis c (fun a =>
    { a with st := .idle, mv := none, queue := [], evs := [], spVel := 0, spAcc := 0,
             homing := if a.homing = 1 then 3 else a.homing })

/-! ### Active sets (01 R28 to R31) -/

/-- The segments of car c's active set with their overlaps, lowest in the shaft first. -/
def activeSet (s : State) (c : Nat) : List (SegX × Nat) :=
  let r := s.car c
  ((allSegs s.conf.geom).map (fun x => (x, segOverlap x r))).filter
    (fun p => decide (0 < p.2) && !segExcluded s r p.1 && !sharedSeg s p.1)

end Sys2Proof.Machine
end

