-- ==== Sys2Proof/Machine/Announce.lean ====
section
/-!
DEFINITION. Announcements of a device (18 R556, Table 18.3).
-/

namespace Sys2Proof.Machine

open Sys2Proof

/-- The own section is closed (R572). -/
def ownClosed (s : State) : Bool := s.fab.closeCmd || s.fab.spares

/-- Some cover slot is enabled: the device is a standby. -/
def isStandby (s : State) : Bool := isSection s && (List.range 3).any (fun j => s.flag (F.FAB_COVER.EN j))

/-- FLAGS of ANNOUNCE and HEARTBEAT. -/
def annFlags (s : State) : Nat := b2n (ownClosed s) + 2 * b2n (s.mode == .lockout) + 4 * b2n s.fab.settle.isSome

/-- This device's ANNOUNCE. -/
def announcement (s : State) : AnnouncePl :=
  ⟨s.nv.serial, if isStandby s then 2 else if isCar s then 1 else 0, s.mode.code, annFlags s, s.tsNs,
   if isSection s then extLo s.conf.geom else 0, if isSection s then extHi s.conf.geom else 0⟩

/-- ANNOUNCE on one port: one hop, to the own group. -/
def announceOn (p : Nat) (s : State) : State :=
  if spineUp s p then s.sendPort p (s.myId / 256 * 256) true (.announce (announcement s)) else s

/-- ANNOUNCE on every up port (R556). -/
def announceAll (s : State) : State := s.forN 4 announceOn

end Sys2Proof.Machine
end

