-- ==== Sys2Proof/Machine/Access.lean ====
section
/-!
DEFINITION. Bus accesses: who can make one, the guarded-write sequence, pending copies, 64-bit pairs, and the error
reports (05; 23 R640 to R642).
-/

namespace Sys2Proof.Machine

open Sys2Proof

/-- Modes in which cores 1 to 3 are powered (03 Table 3.4, R75). -/
def fullCluster : Mode → Bool
  | .standby | .service | .inspection | .commissioning => true
  | _ => false

/-- Whether a sender can access the bus: core 0 and Benrex Studio (4) while the device is awake, cores 1 to 3 while they
are powered. -/
def canAccess (s : State) (core : Sender) : Bool :=
  s.awake && (core.val == 0 || core.val == 4 || fullCluster s.mode)

/-- SYS_ERR_ADDR takes the address (05 R131). -/
def errAddr (a : Nat) (s : State) : State := s.setReg Reg.SYS_ERR_ADDR (wd a)

/-- A guarded write fails at an access to `a` (05 R154). -/
def guardErr (a : Nat) (s : State) : State := errAddr a (s.ev F.SYS_EVENT.GUARD_ERR)

/-- Discard the armed guarded write of block `b`. -/
def dropGuard (b : Nat) (s : State) : State :=
  { s with bus := { s.bus with guards := smErase s.bus.guards b } }

/-- A write access to `a`: an armed guarded write of its block is discarded (05 R153, Table 5.3 row 4). -/
def touch (a : Nat) (s : State) : State :=
  match blockOf a with
  | none => s
  | some b =>
    match smFind s.bus.guards b with
    | none => s
    | some _ => guardErr a (dropGuard b s)

/-- A write of a register with a row of its own: it happens if the sender can access the bus, and it counts as a write
access to the block. -/
def writeCmd (core : Sender) (a : Nat) (act : State → State) (s : State) : State :=
  if canAccess s core then act (touch a s) else s

/-- A VAL write arms a guarded write of its block (05 R153). -/
def armGuard (a : Nat) (v : Word) (s : State) : State :=
  match blockOf a with
  | none => s
  | some b => { s with bus := { s.bus with guards := smPut s.bus.guards b ⟨a, v, s.tb.tick⟩ } }

/-- The longest time from VAL to CPL, 16 us in 8 ns ticks (05 R153). -/
def guardTicks : Nat := 2000

/-- A CPL write at `va + 4`: it completes the guarded write armed at `va` if the words are complements and the time is
kept, and `act` then has the value; each case of Table 5.3 discards it (05 R153, R154). -/
def cplWrite (core : Sender) (va : Nat) (cpl : Word) (act : Word → State → State) (s : State) : State :=
  if canAccess s core then
    match blockOf va with
    | none => s
    | some b =>
      match smFind s.bus.guards b with
      | none => guardErr (va + 4) s
      | some g =>
        let t := dropGuard b s
        if g.addr = va ∧ cpl = ~~~ g.val ∧ s.tb.tick ≤ g.tick + guardTicks then act g.val t
        else guardErr (va + 4) t
  else s

/-- The value of a completed guarded write, as reads at the VAL address return it (05 Table 5.1). -/
def keepVal (va : Nat) (v : Word) (s : State) : State := s.setReg va (v &&& wd (regWmask va))

/-- Whether the armed guarded write of `va`'s block is the one whose completion `cpl` is, with `p` of its value: used by
rows that share one register. -/
def armedAs (va : Nat) (p : Word → Bool) (s : State) : Bool :=
  match blockOf va with
  | none => false
  | some b =>
    match smFind s.bus.guards b with
    | none => false
    | some g => p g.val

/-! ### Stores -/

/-- A write enters a pending copy, or is held back while its group is frozen (05 R148, R152). -/
def storePend (g a : Nat) (w : Word) (s : State) : State :=
  if s.bus.frozen.testBit g then { s with bus := { s.bus with late := s.bus.late ++ [(a, w)] } }
  else
    let t := s.setPend a w
    { t with bus := { t.bus with dirty := setBitN t.bus.dirty g true } }

/-- An RW register is written: reserved bits are ignored (05 R133), a configuration register's pending copy takes the
value, any other register takes it at once. -/
def storeReg (a : Nat) (w : Word) (s : State) : State :=
  let v := w &&& wd (regWmask a)
  match regGroup a with
  | some g => storePend g a v s
  | none => s.setReg a v

/-- What a sender's last read returned. -/
def setRdata (core : Sender) (w : Word) (s : State) : State :=
  { s with bus := { s.bus with rdata := smSet 0 s.bus.rdata core.val w } }

/-- Key of a reader's shadow or a writer's holding register. -/
def perSender (lo : Nat) (core : Sender) : Nat := lo * 8 + core.val

/-- A reader's HI shadow of the pair at `lo` (05 R140). -/
def shadowOf (s : State) (lo : Nat) (core : Sender) : Word := smGet 0 s.bus.shadow (perSender lo core)

/-- HI shadow set. -/
def setShadow (lo : Nat) (core : Sender) (w : Word) (s : State) : State :=
  { s with bus := { s.bus with shadow := smSet 0 s.bus.shadow (perSender lo core) w } }

/-- A writer's holding register of the pair at `lo`; 0 with no LO write since the last HI write (05 R141). -/
def holdOf (s : State) (lo : Nat) (core : Sender) : Word := smGet 0 s.bus.hold (perSender lo core)

/-- Holding register set. -/
def setHold (lo : Nat) (core : Sender) (w : Word) (s : State) : State :=
  { s with bus := { s.bus with hold := smSet 0 s.bus.hold (perSender lo core) w } }

/-- An access that sets NARROW. -/
def narrowErr (a : Nat) (s : State) : State := errAddr a (s.ev F.SYS_EVENT.NARROW)

/-- An access that sets UNMAPPED. -/
def unmappedErr (a : Nat) (s : State) : State := errAddr a (s.ev F.SYS_EVENT.UNMAPPED)

/-! ### Memory regions (23 Table 23.1) -/

/-- A memory region: base, size, access widths in bytes. -/
structure Region where
  base : Nat
  size : Nat
  widths : List Nat
  deriving DecidableEq, Repr

/-- Table 23.1 without the register windows. The Tide memories lie end to end from 0x3000_0000 to 0x300F_FFFF. -/
def regions : List Region :=
  [⟨0x00000000, 0x10000, [1, 2, 4, 8]⟩, ⟨0x08000000, 0x2000000, [1, 2, 4, 8]⟩, ⟨0x20000000, 0x400000, [1, 2, 4, 8]⟩,
   ⟨0x30000000, 0x100000, [4]⟩, ⟨0x31000000, 0x20000, [4]⟩]

/-- The region holding an address. -/
def regionOf (a : Nat) : Option Region := regions.find? (fun r => r.base ≤ a && a < r.base + r.size)

/-- Whether a register occupies offset `a` of its window. -/
def occupied (a : Nat) : Bool := isRoute a || (findRow a).isSome

/-- Base and size of the system SRAM. -/
def sramBase : Nat := 0x20000000
/-- Size of the system SRAM. -/
def sramSize : Nat := 0x400000
/-- Base of the MRAM window. -/
def mramBase : Nat := 0x08000000

/-- An event register is read by a core: its value is returned and every RC bit that read 1 clears; Benrex Studio's read
clears nothing (05 R132, R135, R137). -/
def rcReadOp (core : Sender) (a : Nat) (s : State) : State :=
  let w := s.reg a
  let t := setRdata core w s
  if core.val == 4 then t else t.setReg a (w &&& ~~~ wd (regRcmask a))

end Sys2Proof.Machine
end

