-- ==== Sys2Proof/Machine/Recorder.lean ====
section
/-!
DEFINITION. The event recorder (20): queues, the lost-event count, writing, the boot scan, clearing and firmware records.
-/

namespace Sys2Proof.Machine

open Sys2Proof

/-! ### MRAM -/

/-- `n` bytes of the MRAM at an offset. -/
def mramBytes (s : State) (off n : Nat) : List Byte := bytesAt s.nv.mram off n

/-- A little-endian 32-bit word of the MRAM. -/
def mramWord (s : State) (off : Nat) : Word := wd (leAt s.nv.mram off 4)

/-- Bytes written to the MRAM. -/
def mramPut (off : Nat) (bs : List Byte) (s : State) : State :=
  { s with nv := { s.nv with mram := putBytes s.nv.mram off bs } }

/-- Every byte of `[off, off + n)` written with zero. -/
def mramZero (off n : Nat) (s : State) : State :=
  { s with nv := { s.nv with mram := smFilter (fun a => a < off || off + n ≤ a) s.nv.mram } }

/-- Offset of the recorder header (Table 4.4, R596). -/
def recHeader : Nat := 0x3000
/-- Offset of the record area (R590). -/
def recBase : Nat := 0x430000
/-- Number of slots (R590). -/
def recSlots : Nat := 65536

/-! ### The lost-event count (R595, R596) -/

/-- LOST set: header word 0, then word 1, and REC_LOST. -/
def setLost (v : Nat) (s : State) : State :=
  (mramPut (recHeader + 4) (leBytes 4 v) (mramPut recHeader (leBytes 4 v) s)).setReg Reg.REC_LOST (wd v)

/-- An event is discarded (R595): LOST rises by 1, stopping at 0xFFFF_FFFF, and DROP sets. While a clear runs the event
counts into the new LOST (R602). -/
def dropEvent (s : State) : State :=
  let t := s.ev F.REC_EVENT.DROP
  match t.rcd.clear with
  | some (c, n) => { t with rcd := { t.rcd with clear := some (c, n + 1) } }
  | none => setLost (satN 0xFFFFFFFF ((t.reg Reg.REC_LOST).toNat + 1)) t

/-- SOURCE of an event (Table 20.1). -/
def RecEv.source (e : RecEv) : Nat := e.src * 256 + e.unit

/-- `x` entered in the clock of `e` and has the higher SOURCE (R593). -/
def behind (e x : RecEv) : Bool := x.sec == e.sec && x.ns == e.ns && decide (e.source < x.source)

/-- `e` enters a queue: at the end, but before the events of the same clock with a higher SOURCE (R593). -/
def enter (e : RecEv) (q : List RecEv) : List RecEv :=
  let l := (q.reverse.takeWhile (behind e)).length
  q.take (q.length - l) ++ e :: q.drop (q.length - l)

/-- An event enters its queue: 16 places in the safety queue, 32 in the general one; an event finding its queue or the
recorder full is discarded (R593, R595, R599). -/
def enqueue (safety : Bool) (e : RecEv) (s : State) : State :=
  if s.flag F.REC_STAT.FULL && s.rcd.clear.isNone then dropEvent s
  else if safety then
    if s.rcd.safety.length < 16 then { s with rcd := { s.rcd with safety := enter e s.rcd.safety } } else dropEvent s
  else
    if s.rcd.general.length < 32 then { s with rcd := { s.rcd with general := enter e s.rcd.general } } else dropEvent s

/-- An event raised now by a block. -/
def record (src unit code : Nat) (data : List Byte) (s : State) : State :=
  enqueue false ⟨src, unit, code, s.tb.sec, s.tb.ns, data⟩ s

/-- An event raised now by the safety core or the Eclipse logic. -/
def recordSafety (unit code : Nat) (data : List Byte) (s : State) : State :=
  enqueue true ⟨8, unit, code, s.tb.sec, s.tb.ns, data⟩ s

/-- Data items of a record, one little-endian word each in the order of Table 20.3. DESIGN CHOICE: the table does not lay
the items out (log entry 20). -/
def items (l : List Nat) : List Byte := (l.map (fun v => leBytes 4 v)).flatten

/-! ### Writing (R590 to R594) -/

/-- Bytes 0 to 59 of a record (Table 20.1). -/
def recordBody (e : RecEv) (slot : Nat) : List Byte :=
  leBytes 6 e.sec ++ leBytes 4 e.ns ++ leBytes 2 (e.src * 256 + e.unit) ++ leBytes 2 e.code ++ leBytes 2 slot ++
    (e.data ++ List.replicate 44 0).take 44

/-- Whether slot `n` holds a record (R592). -/
def sealed (s : State) (n : Nat) : Bool :=
  crc32c (mramBytes s (recBase + 64 * n) 60) == mramWord s (recBase + 64 * n + 60)

/-- A record is written and sealed in slot NEXT, which moves on; the last slot makes the recorder full (R599). -/
def writeRecord (e : RecEv) (s : State) : State :=
  let n := s.get F.REC_STAT.NEXT
  let body := recordBody e n
  let t := mramPut (recBase + 64 * n + 60) (wordBytes (crc32c body)) (mramPut (recBase + 64 * n) body s)
  let u := t.put F.REC_STAT.NEXT (n + 1)
  if n + 1 = recSlots then (u.ev F.REC_STAT.FULL).ev F.REC_EVENT.FULL else u

/-- The event written next: START first, then the safety queue, then the general one (R593, R598). -/
def nextEvent (s : State) : Option (RecEv × Rec) :=
  match s.rcd.start with
  | some e => some (e, { s.rcd with start := none })
  | none =>
    match s.rcd.safety with
    | e :: r => some (e, { s.rcd with safety := r })
    | [] =>
      match s.rcd.general with
      | e :: r => some (e, { s.rcd with general := r })
      | [] => none

/-- The recorder takes its next event, if it records, runs no clear and has one; a full recorder discards it (R599). -/
def recordStep (s : State) : State :=
  if s.awake && s.rcd.recording && s.rcd.clear.isNone then
    match nextEvent s with
    | none => s
    | some (e, r) =>
      let t := { s with rcd := r }
      if t.get F.REC_STAT.NEXT < recSlots then writeRecord e t else dropEvent t
  else s

/-- RECORD_WRITE (R591). -/
def execRecordWrite (s : State) : Host.Outcome State Fault Refusal := .next (recordStep s)

/-- START is queued with its data, and recording begins (R121, R598). -/
def queueStart (data : List Byte) (s : State) : State :=
  { s with rcd := { s.rcd with start := some ⟨0x0E, 0, 1, s.tb.sec, s.tb.ns, data⟩, recording := true } }

/-! ### Boot scan (R597) -/

/-- Slots of the record area with a non-zero byte, rising; no other slot can hold a record (R592). -/
def touchedSlots (s : State) : List Nat :=
  ((smKeys s.nv.mram).filter (fun a => recBase ≤ a && a < recBase + 64 * recSlots)).foldr
    (fun a acc =>
      let n := (a - recBase) / 64
      if acc.head? = some n then acc else n :: acc) []

/-- The scan: NEXT is one above the highest record, the slot there is written with zero, HOLE tells of a slot below
without a record, and LOST is the larger header word (R596, R597). -/
def bootScan (s : State) : State :=
  let full := (touchedSlots s).filter (sealed s)
  let next := full.foldl (fun m n => max m (n + 1)) 0
  let t := if next < recSlots then mramZero (recBase + 64 * next) 64 s else s
  let lost := max (mramWord t recHeader).toNat (mramWord t (recHeader + 4)).toNat
  let u := ((t.setReg Reg.REC_STAT (wd next)).putB F.REC_STAT.HOLE (full.length < next)).setReg Reg.REC_LOST (wd lost)
  if next = recSlots then (u.ev F.REC_STAT.FULL).ev F.REC_EVENT.FULL else u

/-! ### Clearing (R601, R602) -/

/-- REC_CLEAR: accepted with CODE 0xC1EA in Commissioning while no clear runs; any other write is ignored and sets CLR_REJ. -/
def recClearOp (core : Sender) (v : Word) (s : State) : State :=
  if getF F.REC_CLEAR.CODE.bits v = 0xC1EA ∧ s.mode = .commissioning ∧ s.rcd.clear.isNone then
    let t := keepVal Reg.REC_CLEAR v s
    { t with rcd := { t.rcd with clear := some (core.val, 0), clearTo := 64 * recSlots, clearAt := t.tb.tick } }.ev F.REC_STAT.CLEARING
  else s.ev F.REC_EVENT.CLR_REJ

/-- REC_CLEAR (R601). -/
def execRecClear (core : Sender) (cpl : Word) (s : State) : Host.Outcome State Fault Refusal :=
  .next (cplWrite core Reg.REC_CLEAR cpl (recClearOp core) s)

/-- The clear completes: every slot and the header are zero, slot 0 receives CLEARED, and events lost meanwhile are the
new LOST (R602). -/
def clearDone (s : State) : State :=
  match s.rcd.clear with
  | none => s
  | some (c, n) =>
    let old := (s.reg Reg.REC_LOST).toNat
    let t := mramZero recHeader 8 (mramZero recBase (64 * recSlots) s)
    let u := { t with rcd := { t.rcd with clear := none } }
    let v := ((u.put F.REC_STAT.CLEARING 0).put F.REC_STAT.FULL 0).put F.REC_STAT.NEXT 0
    let w := setLost (satN 0xFFFFFFFF n) v
    (writeRecord ⟨0x0B, 0, 2, s.tb.sec, s.tb.ns, items [old, c]⟩ w).ev F.REC_EVENT.CLEARED

/-- CLEARED (R602). -/
def execCleared (s : State) : Host.Outcome State Fault Refusal := .next (clearDone s)

/-! ### Firmware records (R603) -/

/-- The 44 bytes of REC_APP_DATA. -/
def appData (s : State) : List Byte := ((List.range 11).map (fun w => wordBytes (s.reg (Reg.REC_APP_DATA w)))).flatten

/-- REC_APP_CMD: a code from 0x8000 queues a record, a lower one sets APP_REJ. -/
def recAppOp (core : Sender) (v : Word) (s : State) : State :=
  let code := getF F.REC_APP_CMD.CODE.bits v
  if 0x8000 ≤ code then record 0x20 core.val code (appData s) s else s.ev F.REC_EVENT.APP_REJ

/-- REC_APP_CMD (R603). -/
def execRecAppCmd (core : Sender) (val : Word) (s : State) : Host.Outcome State Fault Refusal :=
  .next (writeCmd core Reg.REC_APP_CMD (recAppOp core val) s)

end Sys2Proof.Machine
end

