-- ==== Sys2Proof/Machine/Snap.lean ====
section
/-!
DEFINITION. Snapshots (05 R146, R147; 19 R588, R589): each block's counters, positions and speeds into its holding
registers.
-/

namespace Sys2Proof.Machine

open Sys2Proof

/-- A value captured from a domain that is on; a domain that is retained or off captures zero (05, after R146). -/
def capI (on : Bool) (v : Int) : Int := if on then v else 0
/-- The same for a bit field. -/
def capN (on : Bool) (v : Nat) : Nat := if on then v else 0

/-- Block `b` takes a snapshot: `f`, but once in a clock, the further ones of which are that one (R147). The clock is a tick of the
125 MHz time base, which R146 snapshots all blocks in. DEDUCED (log entry 10). -/
def snapOnce (b : Nat) (f : State → State) (s : State) : State :=
  if smFind s.bus.snapAt b = some s.tb.tick then s
  else f { s with bus := { s.bus with snapAt := smPut s.bus.snapAt b s.tb.tick } }

/-- Every axis set-point position and speed into the holding registers of TRJ. -/
def takeTrj (s : State) : State :=
  s.forN 8 (fun n t =>
    let a := s.axis n
    (t.resultPair (Reg.TRJ_AXIS_SNP_LO n) (capI s.servoOn a.spPos)).result (Reg.TRJ_AXIS_SNV n)
      (uns 30 (capI s.servoOn a.spVel)))

/-- TRJ. -/
def snapTrj (s : State) : State := snapOnce 3 takeTrj s

/-- Every channel's VEC, BAND and VSAT_CNT into the holding registers of CMM. -/
def takeCmm (s : State) : State :=
  (s.forN 128 (fun n t =>
    let vec := capN s.servoOn (s.get (F.CMM_CH_VEC.M n) * 2 ^ 14 + s.get (F.CMM_CH_VEC.PHI n) / 4)
    let cnt := capN s.servoOn (s.get (F.CMM_CH_STAT.BAND n) * 2 ^ 28 + s.get (F.CMM_CH_STAT.VSAT_CNT n))
    (t.result (Reg.CMM_CH_SNPV n) vec).result (Reg.CMM_CH_SNPC n) cnt)).ev F.CMM_EVENT.NEW

/-- CMM. -/
def snapCmm (s : State) : State := snapOnce 4 takeCmm s

/-- Every feedback channel's position and speed, of the last completed stage 3, into the holding registers of FBK. -/
def takeFbk (s : State) : State :=
  (s.forN 144 (fun n t =>
    (t.resultPair (Reg.FBK_CH_SNP_LO n) (capI s.servoOn (s.pairS (Reg.FBK_CH_POS_LO n)))).result (Reg.FBK_CH_SNV n)
      (uns 30 (capI s.servoOn (s.regS (Reg.FBK_CH_VEL n)))))).ev F.FBK_EVENT.NEW

/-- FBK. -/
def snapFbk (s : State) : State := snapOnce 6 takeFbk s

/-- Every fast counter of the latest grid instant whose reply has arrived (14 R449), into the holding registers of FIO. -/
def takeFio (s : State) : State :=
  (s.forN 16 (fun f t =>
    t.resultPair (Reg.FIO_FIN_SNC_LO f) (s.reg (Reg.FIO_FIN_CNT_LO f)).toNat)).ev F.FIO_EVENT.NEW

/-- FIO. -/
def snapFio (s : State) : State := snapOnce 7 takeFio s

/-- Every block's snapshot, with its PTP time as a TIM_SNAPT result (R146, R589). -/
def takeAll (s : State) : State :=
  let t := snapFio (snapFbk (snapCmm (snapTrj s)))
  ((t.resultPair Reg.TIM_SNAPT_LO (stamp62 s.now)).ev F.TIM_EVENT.NEW).ev F.SYS_EVENT.SNAP_DONE

/-- A system snapshot. -/
def snapAll (s : State) : State := snapOnce 10 takeAll s

/-- A SNAP command takes its snapshot if bit 0 is written 1. -/
def snapCmd (core : Sender) (a : Nat) (v : Word) (f : State → State) (s : State) : State :=
  writeCmd core a (fun t => if bitOf v 0 then f t else t) s

/-- SYS_SNAP (R146). -/
def execSystemSnapshot (core : Sender) (val : Word) (s : State) : Host.Outcome State Fault Refusal :=
  .next (snapCmd core Reg.SYS_SNAP val snapAll s)
/-- TRJ_SNAP (R146). -/
def execTrjSnap (core : Sender) (val : Word) (s : State) : Host.Outcome State Fault Refusal :=
  .next (snapCmd core Reg.TRJ_SNAP val snapTrj s)
/-- CMM_SNAP (R146). -/
def execCmmSnap (core : Sender) (val : Word) (s : State) : Host.Outcome State Fault Refusal :=
  .next (snapCmd core Reg.CMM_SNAP val snapCmm s)
/-- FBK_SNAP (R146). -/
def execFbkSnap (core : Sender) (val : Word) (s : State) : Host.Outcome State Fault Refusal :=
  .next (snapCmd core Reg.FBK_SNAP val snapFbk s)
/-- FIO_SNAP (R146, R449). -/
def execFioSnap (core : Sender) (val : Word) (s : State) : Host.Outcome State Fault Refusal :=
  .next (snapCmd core Reg.FIO_SNAP val snapFio s)

end Sys2Proof.Machine
end

