-- ==== Sys2Proof/Machine/Traj.lean ====
section
/-!
DEFINITION. The trajectory sequencer (08): the TST, span checks, commands, stage 4, latches, homing and compares.
-/

namespace Sys2Proof.Machine

open Sys2Proof

/-! ### The TST (R241 to R244) -/

/-- Word i of the TST. -/
def tstWord (s : State) (i : Nat) : Word := smGet 0 s.trj.tst i

/-- Word i of the TST set. -/
def setTst (i : Nat) (w : Word) (s : State) : State := { s with trj := { s.trj with tst := smSet 0 s.trj.tst i w } }

/-- Row r of the TST (Table 8.1). -/
def tstRow (s : State) (r : Nat) : TstRow :=
  ⟨(tstWord s (4 * r)).toNat, (tstWord s (4 * r + 1)).toInt, (tstWord s (4 * r + 2)).toInt, (tstWord s (4 * r + 3)).toNat⟩

/-- A row written. -/
def putRow (r : Nat) (x : TstRow) (s : State) : State :=
  setTst (4 * r + 3) (wd x.flags) (setTst (4 * r + 2) (wdi x.vel) (setTst (4 * r + 1) (wdi x.pos) (setTst (4 * r) (wd x.dt) s)))

/-- The rows of a span. -/
def spanRows (s : State) (first count : Nat) : List TstRow := (List.range count).map (fun i => tstRow s (first + i))

/-- LAST of a row. -/
def rowLast (r : TstRow) : Bool := r.flags.testBit 31
/-- EVT of a row. -/
def rowEvt (r : TstRow) : Bool := r.flags.testBit 30

/-- Units of 1/65,536 ns in a microsecond. -/
def tauPerUs : Nat := 65536000

/-- t_end of a span in 1/65,536 ns. -/
def tauEnd (rows : List TstRow) : Nat := (rows.tail.map (fun r => r.dt)).sum * tauPerUs

/-- Ceiling of a / b for b > 0. -/
def ceilDiv (a b : Nat) : Nat := (a + b - 1) / b

/-- Largest absolute velocity of the cubic between two rows, rounded up: its ends, and its extremum if one lies between
them. With D = DT the velocity is a s^2 + b s + v0 over D, for the integers a and b below. -/
def vPeakOf (r0 r1 : TstRow) : Nat :=
  let d : Int := r1.dt
  let a : Int := 3 * (r0.vel + r1.vel) * d - 6000000 * (r1.pos - r0.pos)
  let b : Int := 6000000 * (r1.pos - r0.pos) - (4 * r0.vel + 2 * r1.vel) * d
  let ends := max r0.vel.natAbs r1.vel.natAbs
  if (0 < a ∧ b < 0 ∧ -b < 2 * a) ∨ (a < 0 ∧ 0 < b ∧ b < -(2 * a)) then
    max ends (ceilDiv (4 * a * d * r0.vel - b * b).natAbs (4 * a * d).natAbs)
  else ends

/-- v_peak of a span (R243). -/
def vPeak : List TstRow → Nat
  | r0 :: r1 :: t => max (vPeakOf r0 r1) (vPeak (r1 :: t))
  | _ => 0

/-- The row conditions of R243: a first row of zeros, later rows with DT >= 1, LAST on the last row alone with VEL = 0,
reserved FLAGS bits 0, and the span's duration within 32 bits. -/
def rowsOk (rows : List TstRow) : Bool :=
  match rows with
  | [] => false
  | r0 :: t =>
    r0.dt == 0 && r0.pos == 0 && r0.vel == 0 && !rowLast r0 && t.all (fun r => decide (1 ≤ r.dt)) &&
    decide ((t.map (fun r => r.dt)).sum ≤ 4294967295) &&
    (match t.reverse with
     | [] => false
     | l :: m => rowLast l && l.vel == 0 && m.all (fun r => !rowLast r)) &&
    rows.all (fun r => r.flags % 2 ^ 30 == 0)

/-- Check of a span against R243: the code of Table 8.3 (0 if it passes) and v_peak. -/
def checkSpan (s : State) (vRated first count : Nat) : Nat × Nat :=
  if count < 2 ∨ 8192 < count ∨ 8192 < first + count then (2, 0)
  else
    let rows := spanRows s first count
    if rowsOk rows then
      let v := vPeak rows
      if v < 1 then (3, v) else if vRated < v then (8, v) else (0, v)
    else (3, 0)

/-- The check value of a span: CRC-32C of its rows' bytes (R244). -/
def spanCrc (s : State) (first count : Nat) : Word :=
  crc32c ((List.range (4 * count)).flatMap (fun i => wordBytes (tstWord s (4 * first + i))))

/-- POS of the last row of a span. -/
def lastPos (s : State) (first count : Nat) : Int := (tstRow s (first + count - 1)).pos

/-- D of a direction (R246). -/
def dirSign (d : Bool) : Int := if d then -1 else 1

/-! ### Evaluation (R245, R246) -/

/-- Where a span time lies: the upper row's index in the span, the time since the lower row, and the two rows. -/
structure Interval where
  i : Nat
  x : Nat
  r0 : TstRow
  r1 : TstRow
  deriving DecidableEq, Repr

/-- The interval of a span time, from row `i` at time `t`. -/
def locate : List TstRow → Nat → Nat → Nat → Option Interval
  | r0 :: r1 :: rest, i, t, tau =>
    let t1 := t + r1.dt * tauPerUs
    if tau < t1 then some ⟨i + 1, tau - t, r0, r1⟩ else locate (r1 :: rest) (i + 1) t1 tau
  | _, _, _, _ => none

/-- Numerators of p, dp/dtau and d2p/dtau2 of R245 as integers. With x the time into the interval and H its length, both in
1/65,536 ns, and DT in us, the denominators are 10^6 H^3, DT H^2 and DT^2 H. -/
structure HermVal where
  np : Int
  dp : Int
  nv : Int
  dv : Int
  na : Int
  da : Int
  deriving DecidableEq, Repr

/-- The exact value of the interpolant (R245). -/
def hermite (v : Interval) : HermVal :=
  let dt : Int := v.r1.dt
  let h : Int := dt * (tauPerUs : Int)
  let x : Int := v.x
  let p0 := v.r0.pos
  let p1 := v.r1.pos
  let v0 := v.r0.vel
  let v1 := v.r1.vel
  { np := 1000000 * ((2 * x ^ 3 - 3 * x ^ 2 * h + h ^ 3) * p0 + (3 * x ^ 2 * h - 2 * x ^ 3) * p1) +
      dt * ((x ^ 3 - 2 * x ^ 2 * h + x * h ^ 2) * v0 + (x ^ 3 - x ^ 2 * h) * v1)
    dp := 1000000 * h ^ 3
    nv := 1000000 * ((6 * x ^ 2 - 6 * x * h) * (p0 - p1)) +
      dt * ((3 * x ^ 2 - 4 * x * h + h ^ 2) * v0 + (3 * x ^ 2 - 2 * x * h) * v1)
    dv := dt * h ^ 2
    na := 1000000000000 * ((12 * x - 6 * h) * (p0 - p1)) + 1000000 * dt * ((6 * x - 4 * h) * v0 + (6 * x - 2 * h) * v1)
    da := dt ^ 2 * h }

/-- SP_POS, SP_VEL and SP_ACC of R246 at an interval's time under overrides `ov` and `ovPrev`. -/
def setPoint (start d : Int) (ov ovPrev ts : Nat) (v : Interval) : Int × Int × Int :=
  let e := hermite v
  let dt : Int := v.r1.dt
  let h : Int := dt * (tauPerUs : Int)
  let o : Int := ov
  let accN := o ^ 2 * e.na * h * (ts : Int) + e.nv * (o - (ovPrev : Int)) * 1000000000 * dt * 65536
  let accD := dt ^ 2 * h ^ 2 * 4294967296 * (ts : Int)
  (start + d * rdivAway e.np e.dp, d * rdivAway (o * e.nv) (65536 * e.dv), d * rdivAway accN accD)

/-! ### Who evaluates an axis (R240, R248, R266) -/

/-- A running hand-over between owners fixes the record's override target and caps from the period after it started (R266). -/
def moveFrozen (s : State) (n : Nat) : Bool :=
  isSection s &&
  (match (s.car n).ho with
   | some h => (h.kind == .ownerOut || h.kind == .ownerIn) && decide (h.k0 < s.tb.k)
   | none => false)

/-- An owner hand-over of car n is running (R257 code 5). -/
def ownerHo (s : State) (n : Nat) : Bool :=
  isSection s &&
  (match (s.car n).ho with
   | some h => h.kind == .ownerOut || h.kind == .ownerIn
   | none => false)

/-- The device evaluates moves on axis n: it does not for a car it holds without owning, outside an owner hand-over (R240). -/
def axisLive (s : State) (n : Nat) : Bool :=
  axisEn s n && (!isSection s || !(s.car n).held || (s.car n).owner || (s.car n).ho.isSome)

/-- The device raises row events for axis n (R248). -/
def rowOwner (s : State) (n : Nat) : Bool := !isSection s || !(s.car n).held || (s.car n).owner

/-- Measured position of axis n of the last stage 3 (R239); none for a car without a valid sensor position. -/
def measuredPos (s : State) (n : Nat) : Option Int :=
  if isCar s then some (s.pairS (Reg.FBK_CH_POS_LO (s.get (F.TRJ_AXIS_CFG.BIND n))))
  else if (s.car n).held && (s.car n).posValid then some (s.car n).pos
  else none

/-! ### Override (R249 to R251) -/

/-- V_LIM (R250). -/
def vLim (s : State) (n : Nat) : Nat :=
  let v := s.get (F.TRJ_AXIS_VRATED.V_RATED n)
  let a := if s.mode = .inspection then min v 630000 else v
  if isSection s && straddles s (s.car n) then min a (s.get F.TAC_STRADDLE_V.VMAX) else a

/-- The override target: the smaller of OVR_TGT and the speed ceiling (R249, R250). -/
def ovTarget (s : State) (n vpk : Nat) : Nat :=
  min (min 65536 (s.get (F.TRJ_AXIS_OVR.OVR_TGT n))) (min 65536 (65536 * vLim s n / vpk))

/-- One step of the effective override (R249). -/
def ovStep (aCap ts vpk ov tgt : Nat) : Nat :=
  let step := max 1 (aCap * ts * 65536 / (vpk * 1000000000))
  if ov < tgt then min (ov + step) tgt else max (ov - step) tgt

/-! ### The stop ramp (R258 to R260) -/

/-- One step of the ramp of R259 on (p, v, a) with sign `sg`; the flag says that it reached rest. -/
def rampStep (aCap jCap ts : Nat) (sg p v a : Int) : (Int × Int × Int) × Bool :=
  let j : Int := jCap
  let t : Int := ts
  let dA0 := truncDiv (j * t) 1000000000
  let dA := if dA0 < 1 then 1 else dA0
  let vv := v * sg
  let aa := a * sg
  let aaN := if aa < 0 ∧ vv * 2 * j ≤ aa * aa * 1024 then min (aa + dA) 0 else max (aa - dA) (-(aCap : Int))
  let vvN := vv + truncDiv (truncDiv ((aa + aaN) * t * 1024) 2) 1000000000
  let rest := decide (vvN ≤ 0)
  let vvE := if rest then 0 else vvN
  let aaE := if rest then 0 else aaN
  let pN := p + truncDiv (truncDiv (sg * (vv + vvE) * t) 2) 1000000000
  ((pN, sg * vvE, sg * aaE), rest)

/-- The move record is discarded at rest: a cause 2 or 9, or an ABORT during the ramp (Table 8.4, R262). -/
def discards (a : Axis) : Bool := a.st == .aborting || a.cause == 2 || a.cause == 9

/-- The axis comes to rest on its ramp (R260). -/
def rampRest (n : Nat) (s : State) : State :=
  (s.modAxis n (fun a =>
    if discards a then { a with st := .idle, mv := none, spVel := 0, spAcc := 0, restNow := true }
    else { a with st := .stopped, spVel := 0, spAcc := 0, restNow := true })).evBit F.TRJ_AXIS_EVENT.STOP n

/-- Caps a move runs under: those of its record during an owner hand-over, else the registers (R266). -/
def capsOf (s : State) (n : Nat) (m : Move) : Nat × Nat :=
  if moveFrozen s n then (m.aCap, m.jCap) else (s.get (F.TRJ_AXIS_ACAP.A_CAP n), s.get (F.TRJ_AXIS_JCAP.J_CAP n))

/-- One stage 4 on the ramp (R259). -/
def rampAxis (n : Nat) (s : State) : State :=
  let a := s.axis n
  match a.mv with
  | none => s
  | some m =>
    let c := capsOf s n m
    let r := rampStep c.1 c.2 s.tsNs m.sg m.rampP m.rampV m.rampA
    let p := r.1.1
    let v := r.1.2.1
    let acc := r.1.2.2
    let m' := { m with rampP := p, rampV := v, rampA := acc, aCap := c.1, jCap := c.2, ovPrev := m.ov }
    let t := s.modAxis n (fun x =>
      { x with mv := some m', spPos := m.start + (p + 512) / 1024, spVel := (v + 512) / 1024, spAcc := acc })
    if r.2 then rampRest n t else t

/-- A running move begins its ramp for a cause: the state takes the set-point of the previous period (R258, R259); with
speed 0 the axis is at rest at once. -/
def beginStop (n cause : Nat) (s : State) : State :=
  let a := s.axis n
  match a.mv with
  | none => s
  | some m =>
    let st : AxisSt := if cause = 2 then .aborting else .stopping
    let m' := { m with rampP := (a.spPos - m.start) * 1024, rampV := a.spVel * 1024, rampA := a.spAcc,
                       sg := if a.spVel < 0 then -1 else 1 }
    let t := s.modAxis n (fun x => { x with st := st, cause := cause, mv := some m' })
    if a.spVel = 0 then rampRest n t else t

/-- What acts on an axis in a stage 4 (R256, R258, R262): the flag says that a stopped record was discarded. -/
def axisEvent (n : Nat) (e : AxisEv) (p : State × Bool) : State × Bool :=
  let s := p.1
  let a := s.axis n
  match e with
  | .flush => (s.modAxis n (fun x => { x with queue := [] }), p.2)
  | .stop c =>
    match a.st with
    | .running => (beginStop n c s, p.2)
    | .stopping => (if c = 2 then s.modAxis n (fun x => { x with st := .aborting }) else s, p.2)
    | .stopped => if c = 2 then (s.modAxis n (fun x => { x with st := .idle, mv := none }), true) else p
    | _ => p

/-! ### Limit and run inputs (R255, R263) -/

/-- A limit input is active: assigned, and reading 0 (R263). -/
def limActive (s : State) (i : Nat) : Bool := decide (i < 96) && !inState s i

/-- The run inputs a move in direction `d` needs are active (R255). -/
def runInputs (s : State) (d : Int) : Bool :=
  (decide (d < 0) || namedIn s s.conf.sps.runUp) && (decide (0 < d) || namedIn s s.conf.sps.runDn)

/-- A move runs under the hold-to-run rule (R255). -/
def holdToRun (s : State) (m : Move) : Bool :=
  m.arg.kind == 2 || (m.arg.kind == 1 && isSection s && s.mode == .inspection)

/-- A car record the device owns is handled as one with a faulted slot (07 R213). -/
def slotStops (s : State) (n : Nat) : Bool := isSection s && (s.car n).held && (s.car n).owner && carFaulted s n

/-- Stops that stage 4 finds for itself: a faulted car slot, or none (07 R209, R213), a limit input in the direction of motion (R263),
except while homing (R271), and a released run input (R255). -/
def inputStops (n : Nat) (s : State) : State :=
  let a := s.axis n
  match a.st, a.mv with
  | .running, some m =>
    let lim := m.arg.kind != 1 &&
      ((decide (a.spVel < 0) && limActive s (s.get (F.TRJ_AXIS_CFG.LIM_LO n))) ||
       (decide (0 < a.spVel) && limActive s (s.get (F.TRJ_AXIS_CFG.LIM_HI n))))
    if slotStops s n then beginStop n 3 s
    else if lim then beginStop n 6 (s.ev F.TRJ_EVENT.LIMIT)
    else if holdToRun s m && !runInputs s (dirSign m.arg.dir * lastPos s m.arg.first m.arg.count) then beginStop n 7 s
    else s
  | _, _ => s

/-! ### Homing outcomes (R271) -/

/-- Latch unit m. -/
def latch (s : State) (m : Nat) : LatchU := smGet LatchU.init s.trj.lat m
/-- Latch unit m changed. -/
def modLatch (m : Nat) (f : LatchU → LatchU) (s : State) : State :=
  { s with trj := { s.trj with lat := smMod LatchU.init s.trj.lat m f } }

/-- The present move is one of kind HOMING. -/
def homingMove (a : Axis) : Bool :=
  match a.mv with
  | some m => m.arg.kind == 1
  | none => false

/-- A capture is the reference: HOMED, HOME_OFFSET written, the move stops with cause 9; a door unit leaves UNREF at its
first one (R271, 11 R343). -/
def homed (n : Nat) (pos : Int) (s : State) : State :=
  let ref := sgn 64 (s.pair (Reg.TRJ_AXIS_REF_LO n))
  let t := ((s.resultPair (Reg.TRJ_AXIS_HRES_LO n) (ref - pos)).evBit F.TRJ_AXIS_EVENT.HOME n).modAxis n
    (fun a =>
    { a with homing := 2, homeLimit := none, homeEnd := none, evs := if homingMove a then a.evs ++ [.stop 9] else a.evs })
  t.forN 2 (fun d u =>
    if isCar u && u.flag (F.TRJ_DOOR_CFG.EN d) && u.get (F.TRJ_DOOR_CFG.AXIS d) == n && (u.door d).st == .unref then
      u.modDoor d (fun x => { x with st := .stopped })
    else u)

/-- The limit wins: HOME_ABORTED, the move stops with cause 6 and goes on as kind NORMAL (R271). -/
def homeAborted (n : Nat) (s : State) : State :=
  ((s.evBit F.TRJ_AXIS_EVENT.HOME n).ev F.TRJ_EVENT.LIMIT).modAxis n (fun a =>
    { a with homing := 3, homeLimit := none, homeEnd := none, evs := if homingMove a then a.evs ++ [.stop 6] else a.evs,
             mv := a.mv.map (fun m => if m.arg.kind = 1 then { m with arg := { m.arg with kind := 0 } } else m) })

/-- The span of a homing move ends: the unit is disarmed. An edge stamped before may still be reported, so the outcome waits 300 us,
as after a limit edge (R271). -/
def homeSpanEnd (n : Nat) (s : State) : State :=
  if (s.axis n).homing = 1 then
    (modLatch (s.get (F.TRJ_AXIS_HOME.LATCH n)) (fun u => { u with upTo := some s.nowNs, waitUntil := none }) s).modAxis n
      (fun x => { x with homeEnd := some s.nowNs })
  else s

/-- Nothing came before the span's end: HOME_FAILED (R271). -/
def homeFailed (n : Nat) (s : State) : State :=
  ((modLatch (s.get (F.TRJ_AXIS_HOME.LATCH n)) (fun u => { u with armedAt := none, upTo := none, waitUntil := none }) s).evBit
    F.TRJ_AXIS_EVENT.HOME n).modAxis n (fun x => { x with homing := 4, homeLimit := none, homeEnd := none })

/-- Captures of axis n's latch unit since its HOME whose positions are still to come. -/
def homeCaps (s : State) (n : Nat) : List Nat :=
  (latch s (s.get (F.TRJ_AXIS_HOME.LATCH n))).pendCaps.filter (fun t => decide ((s.axis n).homeAt ≤ t))

/-- The limit edge comes before the span's end. -/
def limitFirst (a : Axis) (tl : Nat) : Bool := match a.homeEnd with
  | some te => decide (tl ≤ te)
  | none => true

/-- 300 us after a limit edge or the span's end, whichever is the earlier: it is the outcome unless the unit captured before it
(R271). -/
def homeDecide (n : Nat) (s : State) : State :=
  let a := s.axis n
  if a.homing = 1 then
    match a.homeLimit.filter (limitFirst a), a.homeEnd with
    | some tl, _ => if tl + 300000 ≤ s.nowNs ∧ (homeCaps s n).all (fun t => decide (tl ≤ t)) then homeAborted n s else s
    | none, some te => if te + 300000 ≤ s.nowNs ∧ homeCaps s n = [] then homeFailed n s else s
    | none, none => s
  else s

/-- HOME_DECISION (R271). -/
def execHomeDecision (axis : Fin 8) (s : State) : Host.Outcome State Fault Refusal := .next (homeDecide axis.val s)

/-! ### Stage 4 of one axis (R246 to R252) -/

/-- Row events of the rows whose time lies in (from, to], and of the first row where `first` (R248). -/
def rowEvent : List TstRow → Nat → Bool → Nat → Nat → Bool
  | [], _, _, _, _ => false
  | r :: rest, t, isFirst, lo, hi =>
    let t1 := if isFirst then 0 else t + r.dt * tauPerUs
    (rowEvt r && decide (t1 ≤ hi) && decide (lo ≤ t1)) || rowEvent rest t1 false lo hi

/-- A running move advances one period and forms its set-point, or completes (R246, R247, R249, R251). -/
def runAxis (n : Nat) (s : State) : State :=
  match (s.axis n).mv with
  | none => s
  | some m =>
    let rows := spanRows s m.arg.first m.arg.count
    let c := capsOf s n m
    let tgt := if moveFrozen s n then m.ovTgt else ovTarget s n m.arg.vPeak
    let ov := if m.fresh then tgt else ovStep c.1 s.tsNs m.arg.vPeak m.ov tgt
    let ovPrev := if m.fresh then tgt else m.ov
    let tEnd := tauEnd rows
    let tau := if m.fresh then m.tau else min tEnd (m.tau + s.tsNs * ov)
    let lo := if m.fresh then 0 else m.tau + 1
    let t := if rowOwner s n && rowEvent rows 0 true lo tau then s.evBit F.TRJ_AXIS_EVENT.ROW n else s
    let m' := { m with tau := tau, ov := ov, ovPrev := ovPrev, ovTgt := tgt, aCap := c.1, jCap := c.2, fresh := false }
    match locate rows 0 0 tau with
    | some v =>
      let p := setPoint m.start (dirSign m.arg.dir) ov ovPrev s.tsNs v
      t.modAxis n (fun x =>
        { x with mv := some m', spPos := p.1, spVel := p.2.1, spAcc := p.2.2, row := m.arg.first + v.i })
    | none =>
      homeSpanEnd n ((t.modAxis n (fun x =>
        { x with mv := none, st := .idle, spPos := m.target, spVel := 0, spAcc := 0, row := m.arg.first + m.arg.count - 1,
                 doneNow := some m.arg })).evBit F.TRJ_AXIS_EVENT.DONE n)

/-- A move from rest: START is the present set-point position (R252), TARGET follows (R247). -/
def newMove (s : State) (n : Nat) (arg : MoveArg) : Move :=
  let p := (s.axis n).spPos
  { arg := arg, start := p, target := p + dirSign arg.dir * lastPos s arg.first arg.count, tau := 0, ov := 0, ovTgt := 0,
    ovPrev := 0, aCap := s.get (F.TRJ_AXIS_ACAP.A_CAP n), jCap := s.get (F.TRJ_AXIS_JCAP.J_CAP n), rampP := 0, rampV := 0,
    rampA := 0, sg := 1, fresh := true }

/-- An idle axis takes its next queued move (R252). -/
def startQueued (n : Nat) (s : State) : State :=
  match (s.axis n).queue with
  | [] => s
  | q :: rest => s.modAxis n (fun a => { a with st := .running, mv := some (newMove s n q), queue := rest })

/-- A queued move may start in the present mode: none on a SETP axis in Standby (03 R60), and of a car in Inspection only one of
kind HOLD_TO_RUN, none of the stop scheduler (03 R61). -/
def queueMayStart (s : State) (n : Nat) (q : MoveArg) : Bool :=
  match s.mode with
  | .standby => !s.flag (F.TRJ_AXIS_CFG.SETP_EN n)
  | .inspection => isCar s || (q.kind == 2 && !q.bss)
  | _ => true

/-- The held position is set from the measured one where R239 says so, once there is a valid one; in Standby an axis that feeds a
SETP channel follows its car (03 R60). -/
def seedAxis (n : Nat) (s : State) : State :=
  let a := s.axis n
  if inMove a then s.modAxis n (fun x => { x with seed := false })
  else
    let follow := s.mode == .standby && s.flag (F.TRJ_AXIS_CFG.SETP_EN n)
    if a.seed || follow then
      match measuredPos s n with
      | some p => s.modAxis n (fun x => { x with seed := false, spPos := p, spVel := 0, spAcc := 0 })
      | none => s
    else s

/-- What acts on axis n before its set-point is formed: the events, the start of the next queued move, the inputs. -/
def axisActs (n : Nat) (s : State) : State :=
  let r := (s.axis n).evs.foldl (fun q e => axisEvent n e q) (s.modAxis n (fun a => { a with evs := [] }), false)
  let a := r.1.axis n
  let go := a.st == .idle && !a.restNow && !r.2 && a.queue.head?.any (queueMayStart s n)
  inputStops n (if go then startQueued n r.1 else r.1)

/-- The set-point of axis n's period: the ramp, the running move, or the held position. -/
def axisMoves (n : Nat) (s : State) : State :=
  match (s.axis n).st with
  | .stopping | .aborting => rampAxis n s
  | .running => runAxis n s
  | .idle | .stopped => s

/-- The ports take the set-point this stage 4 has produced (06 R179). -/
def pointTaken (n : Nat) (s : State) : State :=
  s.modAxis n (fun a => { a with ptPos := a.spPos, ptVel := a.spVel, ptAcc := a.spAcc })

/-- Stage 4 of axis n: what acts first, then the inputs, then the ramp, the running move, or the next queued move. An axis that
evaluates no move still takes its held position (R239, R240). -/
def axisStage4 (n : Nat) (s : State) : State :=
  let s0 := s.modAxis n (fun a => { a with doneNow := none, restNow := false })
  if axisLive s n then pointTaken n (axisMoves n (axisActs n (seedAxis n s0)))
  else
    let t := s0.modAxis n (fun a => { a with evs := [] })
    pointTaken n (if axisEn t n then seedAxis n t else t)

/-! ### Commands (R254 to R262) -/

/-- The outcome of a command (R257). -/
def cmdOutcome (n code : Nat) (s : State) : State :=
  let t := (s.put F.TRJ_CMD_STAT.CODE code).put F.TRJ_CMD_STAT.AXIS n
  if code = 0 then t.ev F.TRJ_EVENT.CMD_DONE else t.ev F.TRJ_EVENT.CMD_REJ

/-- Mode and source permit an operation (Table 8.2). `bss`: the stop scheduler orders it; `kind`: that of the move argument,
for RESUME that of the stopped move. -/
def cmdAllowed (s : State) (op kind : Nat) (bss : Bool) : Bool :=
  if op = 2 ∨ op = 4 ∨ op = 6 then true
  else if isCar s then
    match s.mode with
    | .service | .rescue | .inspection | .commissioning => true
    | _ => false
  else
    match s.mode with
    | .service | .rescue => bss && (op == 1 || op == 3)
    | .inspection => (op == 1 && kind == 2) || op == 5 || (op == 3 && kind == 2)
    | .commissioning => true
    | _ => false

/-- The door unit on axis n, if one is enabled there (11 R344). -/
def doorOn (s : State) (n : Nat) : Option Nat :=
  if isCar s then
    (List.range 2).find? (fun d => s.flag (F.TRJ_DOOR_CFG.EN d) && s.get (F.TRJ_DOOR_CFG.AXIS d) == n)
  else none

/-- The axis's state permits the command (code 5), `bss` one of the stop scheduler's, whose admitted moves go on through an owner
hand-over (12 R399): RESUME of a stopped move whose cause is not 5 (R261), HOME while idle with
an empty queue (R271), STOP and ABORT with a move present (R262); the device evaluates the axis (R240) and no owner
hand-over of its car runs (R266); a door unit's own rules (11 R344). -/
def cmdStateOk (s : State) (n op : Nat) (bss : Bool) : Bool :=
  let a := s.axis n
  (bss || !ownerHo s n) && axisLive s n &&
  (match op with
   | 2 => inMove a
   | 3 => a.st == .stopped && a.cause != 5
   | 4 => a.st != .idle
   | 5 => a.st == .idle && a.queue.isEmpty
   | _ => true) &&
  (match doorOn s n with
   | none => true
   | some d => op != 1 && op != 3 && (op != 5 || (s.door d).st == .unref || (s.door d).st == .stopped))

/-- The latch unit of a HOME has an input, an edge and an enabled source (code 9). -/
def homeLatchOk (s : State) (m : Nat) : Bool :=
  decide (s.get (F.TRJ_LAT_CFG.INPUT m) < 96) && s.get (F.TRJ_LAT_CFG.EDGE m) != 0 &&
  (let c := s.get (F.TRJ_LAT_CFG.SOURCE m)
   if c < 128 then chanEn s c && chanType s c != 3 else decide (c < 144) && s.flag (F.FBK_CH_CFG.EN c))

/-- The conditions a command fails, as codes of Table 8.3 in ascending order (R257). -/
def cmdCodes (s : State) (n op : Nat) (arg : MoveArg) : List Nat :=
  let a := s.axis n
  let spanOp := op == 1 || op == 3 || op == 5
  let chk := if spanOp then (checkSpan s (s.get (F.TRJ_AXIS_VRATED.V_RATED n)) arg.first arg.count).1 else 0
  let kind := match a.mv with
    | some m => if op = 3 then m.arg.kind else arg.kind
    | none => arg.kind
  let rem := match a.mv with
    | some m => m.target - a.spPos
    | none => 0
  (if axisEn s n then [] else [1]) ++
  (if chk = 2 then [2] else []) ++
  (if chk = 3 ∨ (op = 1 ∧ (arg.kind = 1 ∨ arg.kind = 3)) then [3] else []) ++
  (if op = 1 ∧ 8 ≤ a.queue.length then [4] else []) ++
  (if cmdStateOk s n op arg.bss then [] else [5]) ++
  (if op = 3 ∧ a.st = .stopped ∧ chk ≠ 2 ∧ dirSign arg.dir * lastPos s arg.first arg.count ≠ rem then [6] else []) ++
  (if cmdAllowed s op kind arg.bss then [] else [7]) ++
  (if chk = 8 then [8] else []) ++
  (if op = 5 ∧ homeLatchOk s (s.get (F.TRJ_AXIS_HOME.LATCH n)) = false then [9] else []) ++
  (if op = 5 ∧ (limActive s (s.get (F.TRJ_AXIS_CFG.LIM_LO n)) ∨ limActive s (s.get (F.TRJ_AXIS_CFG.LIM_HI n))) then [12]
   else [])

/-- The code a command reports: the lowest it fails, 0 if none. -/
def cmdCode (s : State) (n op : Nat) (arg : MoveArg) : Nat := ((cmdCodes s n op arg).head?).getD 0

/-- The arguments of a command as TRJ_SPAN and TRJ_MOVE_ARG stand at the write. -/
def argNow (s : State) : MoveArg :=
  { first := s.get F.TRJ_SPAN.FIRST, count := s.get F.TRJ_SPAN.COUNT, dir := s.flag F.TRJ_MOVE_ARG.DIR,
    kind := s.get F.TRJ_MOVE_ARG.KIND, id := s.get F.TRJ_MOVE_ARG.ID, bss := false, vPeak := 0, check := 0 }

/-- An argument with what the span check records (R243, R244). -/
def checkedArg (s : State) (n : Nat) (arg : MoveArg) : MoveArg :=
  { arg with vPeak := (checkSpan s (s.get (F.TRJ_AXIS_VRATED.V_RATED n)) arg.first arg.count).2,
             check := spanCrc s arg.first arg.count }

/-- An accepted QUEUE, RESUME or HOME (R252, R261, R271). -/
def acceptCmd (n op : Nat) (arg : MoveArg) (s : State) : State :=
  let g := checkedArg s n arg
  match op with
  | 1 => s.modAxis n (fun a => { a with queue := a.queue ++ [g] })
  | 3 =>
    match (s.axis n).mv with
    | none => s
    | some m =>
      let g' := { g with id := m.arg.id, kind := if m.arg.kind = 2 then 2 else 0 }
      s.modAxis n (fun a => { a with st := .running, mv := some { newMove s n g' with target := m.target } })
  | 5 =>
    let u := s.get (F.TRJ_AXIS_HOME.LATCH n)
    (modLatch u (fun x => { x with armedAt := some s.nowNs, upTo := none, waitUntil := none }) s).modAxis n (fun a =>
      { a with st := .running, homing := 1, homeAt := s.nowNs, homeLimit := none, homeEnd := none,
               mv := some (newMove s n { g with kind := 1 }) })
  | _ => s

/-- A TRJ_CMD write: an unknown OP is code 11, a command while BUSY code 10; STOP, ABORT and FLUSH have their outcome at
once and act in the next stage 4; QUEUE, RESUME and HOME start the span check (R256, R257). -/
def trjCmdOp (v : Word) (s : State) : State :=
  let op := getF F.TRJ_CMD.OP.bits v
  let n := getF F.TRJ_CMD.AXIS.bits v
  if op = 0 ∨ 6 < op then cmdOutcome n 11 s
  else if s.trj.chk.isSome then cmdOutcome n 10 s
  else if op = 1 ∨ op = 3 ∨ op = 5 then
    let arg := argNow s
    { s with trj := { s.trj with chk := some ⟨n, op, if op = 5 then { arg with kind := 1 } else arg⟩ } }.put
      F.TRJ_CMD_STAT.BUSY 1
  else
    let code := cmdCode s n op (argNow s)
    let t := if code = 0 then
        (match op with
         | 2 => stopAxis n 1 s
         | 4 => stopAxis n 2 s
         | _ => s.modAxis n (fun a => { a with evs := a.evs ++ [.flush] }))
      else s
    cmdOutcome n code t

/-- A TRJ_CMD row: the write whose OP is that row's. -/
def trjRow (core : Sender) (op : Nat) (v : Word) (s : State) : State :=
  writeCmd core Reg.TRJ_CMD (fun t => if getF F.TRJ_CMD.OP.bits v = op then trjCmdOp v t else t) s

/-- TRJ_QUEUE (R252, R256). -/
def execTrjQueue (core : Sender) (val : Word) (s : State) : Host.Outcome State Fault Refusal := .next (trjRow core 1 val s)
/-- TRJ_STOP (R258). -/
def execTrjStop (core : Sender) (val : Word) (s : State) : Host.Outcome State Fault Refusal := .next (trjRow core 2 val s)
/-- TRJ_RESUME (R261). -/
def execTrjResume (core : Sender) (val : Word) (s : State) : Host.Outcome State Fault Refusal := .next (trjRow core 3 val s)
/-- TRJ_ABORT (R262). -/
def execTrjAbort (core : Sender) (val : Word) (s : State) : Host.Outcome State Fault Refusal := .next (trjRow core 4 val s)
/-- TRJ_HOME (R271). -/
def execTrjHome (core : Sender) (val : Word) (s : State) : Host.Outcome State Fault Refusal := .next (trjRow core 5 val s)
/-- TRJ_FLUSH (R262). -/
def execTrjFlush (core : Sender) (val : Word) (s : State) : Host.Outcome State Fault Refusal := .next (trjRow core 6 val s)

/-- The span check completes: the command is accepted or refused (R256, R257). -/
def spanCheckDone (s : State) : State :=
  match s.trj.chk with
  | none => s
  | some c =>
    let t := { s with trj := { s.trj with chk := none } }.put F.TRJ_CMD_STAT.BUSY 0
    let code := cmdCode s c.axis c.op c.arg
    cmdOutcome c.axis code (if code = 0 then acceptCmd c.axis c.op c.arg t else t)

/-- SPAN_CHECK_DONE (R256). -/
def execSpanCheckDone (s : State) : Host.Outcome State Fault Refusal := .next (spanCheckDone s)

/-- On entering Watch, Lock-out or Dormant every axis discards its moves, and a command being checked is refused with
code 7 (R648). -/
def modeDiscard (s : State) : State :=
  let t := match s.trj.chk with
    | none => s
    | some c => cmdOutcome c.axis 7 ({ s with trj := { s.trj with chk := none } }.put F.TRJ_CMD_STAT.BUSY 0)
  t.forN 8 (fun n u => u.modAxis n (fun a =>
    { a with st := .idle, cause := if a.mv.isSome then 5 else a.cause, mv := none, queue := [], evs := [], homeLimit := none,
             homeEnd := none, homing := if a.homing = 1 then 3 else a.homing }))

/-! ### TST writes (R242; 11 R351; 12 R383) -/

/-- Row r lies in the span of a move. -/
def inSpan (r : Nat) (m : MoveArg) : Bool := decide (m.first ≤ r) && decide (r < m.first + m.count)

/-- Row r may not be written: it lies in the span of a queued, running, stopping or stopped move or of a command being
checked (R242), in a scratch row of an enabled door unit (11 R351) or in the BSS area (12 R383). -/
def rowLocked (s : State) (r : Nat) : Bool :=
  (List.range 8).any (fun n =>
    (match (s.axis n).mv with
     | some m => inSpan r m.arg
     | none => false) || (s.axis n).queue.any (inSpan r)) ||
  (match s.trj.chk with
   | some c => inSpan r c.arg
   | none => false) ||
  (isCar s && (List.range 2).any (fun d =>
    s.flag (F.TRJ_DOOR_CFG.EN d) &&
      (r == s.get (F.TRJ_DOOR_SCR.S d) || r == s.get (F.TRJ_DOOR_SCR.S d) + 1))) ||
  (isSection s && s.flag F.BSS_CFG.EN && decide (s.get F.BSS_CFG.TST_BASE ≤ r) &&
    decide (r < s.get F.BSS_CFG.TST_BASE + 512))

/-- Base of the TST (23 Table 23.1). -/
def tstBase : Nat := 0x31000000

/-- The TST word at a core's address. -/
def tstRead (s : State) (a : Nat) : Word := tstWord s ((a - tstBase) / 4)

/-- A core's write of a TST word: ignored with TST_WR_REJ in a locked row. -/
def tstWrite (a : Nat) (w : Word) (s : State) : State :=
  if tstBase ≤ a ∧ a < tstBase + 0x20000 ∧ a % 4 = 0 then
    let i := (a - tstBase) / 4
    if rowLocked s (i / 4) then s.ev F.TRJ_EVENT.TST_WR_REJ else setTst i w s
  else s

/-- TST_WRITE (R242). -/
def execTstWrite (core : Sender) (addr : Nat) (val : Word) (s : State) : Host.Outcome State Fault Refusal :=
  .next (if canAccess s core then tstWrite addr val s else s)

/-! ### Latches (R268 to R270) -/

/-- Whether a feedback channel is enabled (10 R294). -/
def fbEn (s : State) (c : Nat) : Bool :=
  if c < 128 then chanEn s c && chanType s c != 3 else decide (c < 144) && s.flag (F.FBK_CH_CFG.EN c)

/-- An ARM request for unit m (R270): ignored without an edge or an enabled source; a unit within its hold-off waits. -/
def armLatch (m : Nat) (s : State) : State :=
  if s.get (F.TRJ_LAT_CFG.EDGE m) = 0 ∨ fbEn s (s.get (F.TRJ_LAT_CFG.SOURCE m)) = false then s.ev F.TRJ_EVENT.CMD_REJ
  else
    let u := latch s m
    let free := match u.lastCap with
      | none => 0
      | some t => t + s.get (F.TRJ_LAT_CFG.HOLDOFF m) * 1000000
    if free ≤ s.nowNs then modLatch m (fun x => { x with armedAt := some s.nowNs, upTo := none, waitUntil := none }) s
    else modLatch m (fun x => { x with armedAt := none, upTo := none, waitUntil := some free }) s

/-- A DISARM request for unit m (R270). -/
def disarmLatch (m : Nat) (s : State) : State :=
  modLatch m (fun x => { x with armedAt := none, upTo := none, waitUntil := none }) s

/-- A TRJ_LAT_CMD write: DISARM wins where both bits are set. -/
def latCmdOp (v : Word) (s : State) : State :=
  s.forN 16 (fun m t =>
    if v.getLsbD (16 + m) then disarmLatch m t else if v.getLsbD m then armLatch m t else t)

/-- LATCH_ARM: a TRJ_LAT_CMD write with an ARM bit (R270). -/
def execLatchArm (core : Sender) (val : Word) (s : State) : Host.Outcome State Fault Refusal :=
  .next (writeCmd core Reg.TRJ_LAT_CMD (fun t => if getF F.TRJ_LAT_CMD.ARM.bits val = 0 then t else latCmdOp val t) s)

/-- LATCH_DISARM: a TRJ_LAT_CMD write with a DISARM bit (R270). -/
def execLatchDisarm (core : Sender) (val : Word) (s : State) : Host.Outcome State Fault Refusal :=
  .next (writeCmd core Reg.TRJ_LAT_CMD (fun t => if getF F.TRJ_LAT_CMD.DISARM.bits val = 0 then t else latCmdOp val t) s)

/-- A unit's hold-off ends: it becomes armed (R270). -/
def holdoffEnd (m : Nat) (s : State) : State :=
  match (latch s m).waitUntil with
  | none => s
  | some t =>
    if t ≤ s.nowNs then modLatch m (fun x => { x with armedAt := some t, upTo := none, waitUntil := none }) s else s

/-- LATCH_HOLDOFF_EXPIRY (R270). -/
def execLatchHoldoffExpiry (unit : Fin 16) (s : State) : Host.Outcome State Fault Refusal := .next (holdoffEnd unit.val s)

/-- An edge on input i at time t (ns): each unit armed by then whose kind of edge it is captures it and disarms (R268). -/
def latchEdge (i : Nat) (rising : Bool) (t : Nat) (s : State) : State :=
  s.forN 16 (fun m u =>
    let e := u.get (F.TRJ_LAT_CFG.EDGE m)
    let hit := (latch u m).armedAt.any (fun a => decide (a ≤ t)) && (latch u m).upTo.all (fun e => decide (t < e))
    if hit && u.get (F.TRJ_LAT_CFG.INPUT m) == i && (e == 3 || (e == 1 && rising) || (e == 2 && !rising)) then
      modLatch m (fun x => { x with armedAt := none, upTo := none, lastCap := some t, pendCaps := x.pendCaps ++ [t] }) u
    else u)

/-- A limit input of a homing axis becomes active at time t: the wait for the decision starts (R271). -/
def limitEdge (i t : Nat) (s : State) : State :=
  s.forN 8 (fun n u =>
    if (u.axis n).homing == 1 && (u.axis n).homeLimit.isNone &&
        (u.get (F.TRJ_AXIS_CFG.LIM_LO n) == i || u.get (F.TRJ_AXIS_CFG.LIM_HI n) == i) then
      u.modAxis n (fun a => { a with homeLimit := some t })
    else u)

/-- A sample of a source channel at time t joins the history of every unit that watches it. -/
def latchSample (c t : Nat) (pos : Int) (s : State) : State :=
  s.forN 16 (fun m u =>
    if u.get (F.TRJ_LAT_CFG.EDGE m) != 0 && u.get (F.TRJ_LAT_CFG.SOURCE m) == c then
      modLatch m (fun x => { x with hist := ((t, pos) :: x.hist).take 16 }) u
    else u)

/-- The interpolated position at time te from samples, newest first (R269); none without two samples around te. -/
def interpolate : List (Nat × Int) → Nat → Option Int
  | b :: a :: rest, te =>
    if a.1 ≤ te ∧ te < b.1 then
      some (a.2 + rdivAway ((b.2 - a.2) * ((te : Int) - (a.1 : Int))) ((b.1 : Int) - (a.1 : Int)))
    else interpolate (a :: rest) te
  | _, _ => none

/-- The time of an edge as a PTP time. -/
def ptpOf (ns : Nat) : PtpTime := ⟨ns / 1000000000, ns % 1000000000⟩

/-- A capture at t completes: position and time stamp with one tag, NEW, and the homing outcome of an axis that seeks with
this unit; without samples around the edge the position is a free value (R269, R271). -/
def captureDone (m t : Nat) (s : State) : State :=
  let r : Int × State := match interpolate (latch s m).hist t with
    | some p => (p, s)
    | none => (sgn 62 s.draw.1, s.draw.2)
  let u := ((r.2.resultPair (Reg.TRJ_LAT_POS_LO m) r.1).resultPair (Reg.TRJ_LAT_TS_LO m) (stamp62 (ptpOf t))).evBit
    F.TRJ_LAT_STAT.NEW m
  u.forN 8 (fun n w =>
    let a := w.axis n
    if a.homing == 1 && w.get (F.TRJ_AXIS_HOME.LATCH n) == m && decide (a.homeAt ≤ t) then
      match a.homeLimit with
      | some tl => if tl ≤ t then homeAborted n w else homed n r.1 w
      | none => homed n r.1 w
    else w)

/-- Stage 3 completes every capture at least 300 us before the boundary at time b (R269). -/
def latchStage3 (b : Nat) (s : State) : State :=
  s.forN 16 (fun m u =>
    let due := (latch u m).pendCaps.filter (fun t => decide (t + 300000 ≤ b))
    let v := if due.isEmpty then u else
      modLatch m (fun x => { x with pendCaps := x.pendCaps.filter (fun t => !decide (t + 300000 ≤ b)) }) u
    v.forL due (captureDone m))

/-! ### Compares (R272 to R274) -/

/-- The source value and speed of a compare unit. -/
def cmpSource (s : State) (u : Nat) : Int × Int :=
  let c := s.get (F.TRJ_CMP_CFG.SOURCE u)
  if s.flag (F.TRJ_CMP_CFG.SRC_AXIS u) then ((s.axis c).spPos, (s.axis c).spVel)
  else (s.pairS (Reg.FBK_CH_POS_LO c), s.regS (Reg.FBK_CH_VEL c))

/-- The POS_HI write of unit u: C is set, and the unit armed with its present source value, BEHIND judged by the source's
speed; a unit with MODE = 0 is not armed (R273). -/
def compareArm (core : Sender) (u : Nat) (v : Word) (s : State) : State :=
  let lo := Reg.TRJ_CMP_POS_LO u
  let t := setHold lo core 0 ((s.setReg lo (holdOf s lo core)).setReg (lo + 4) v)
  let src := cmpSource t u
  let c := t.pairS lo
  let behind := (decide (0 < src.2) && decide (c ≤ src.1)) || (decide (src.2 < 0) && decide (src.1 ≤ c))
  let w := if t.get (F.TRJ_CMP_CFG.MODE u) = 0 then t
    else { t with trj := { t.trj with cmpPrev := smSet 0 t.trj.cmpPrev u src.1 } }.evBit F.TRJ_CMP_ARMED.ARMED u
  if behind then w.evBit F.TRJ_CMP_BEHIND.BEHIND u else w.clrBit F.TRJ_CMP_BEHIND.BEHIND u

/-- COMPARE_ARM (R273). -/
def execCompareArm (core : Sender) (unit : Fin 32) (val : Word) (s : State) : Host.Outcome State Fault Refusal :=
  .next (writeCmd core (Reg.TRJ_CMP_POS_HI unit.val) (compareArm core unit.val val) s)

/-- TRJ_CMP_DISARM (08). -/
def cmpDisarmOp (v : Word) (s : State) : State :=
  (s.setReg Reg.TRJ_CMP_ARMED (s.reg Reg.TRJ_CMP_ARMED &&& ~~~ v)).setReg Reg.TRJ_CMP_BEHIND
    (s.reg Reg.TRJ_CMP_BEHIND &&& ~~~ v)

/-- COMPARE_DISARM (R273). -/
def execCompareDisarm (core : Sender) (val : Word) (s : State) : Host.Outcome State Fault Refusal :=
  .next (writeCmd core Reg.TRJ_CMP_DISARM (cmpDisarmOp val) s)

/-- A compare pulse on output o for `ns` nanoseconds goes into the next frame (R274, 14 R451). -/
def startPulse (o ns : Nat) (s : State) : State :=
  { s with fio := { s.fio with pulses := smPut s.fio.pulses o (ns / 8) } }

/-- Unit u fires in a direction (R274). -/
def compareFire (u dir : Nat) (s : State) : State :=
  let t := (((s.result (Reg.TRJ_CMP_RES u) (dir * 2 ^ 28 + s.tb.k % 2 ^ 28)).evBit F.TRJ_CMP_FIRED.FIRED u).clrBit
    F.TRJ_CMP_ARMED.ARMED u).clrBit F.TRJ_CMP_BEHIND.BEHIND u
  let v := if t.flag (F.TRJ_CMP_CFG.OUT_EN u) then
      startPulse (t.get (F.TRJ_CMP_CFG.OUT_N u)) (t.get (F.TRJ_CMP_CFG.PULSE u) * 100000) t
    else t
  if v.flag (F.TRJ_CMP_CFG.SNAP u) then snapAll v else v

/-- One evaluation of an armed unit (R272). -/
def compareEval (u : Nat) (s : State) : State :=
  if s.bit F.TRJ_CMP_ARMED.ARMED u then
    let cur := (cmpSource s u).1
    let prev := smGet 0 s.trj.cmpPrev u
    let c := s.pairS (Reg.TRJ_CMP_POS_LO u)
    let mode := s.get (F.TRJ_CMP_CFG.MODE u)
    let t := { s with trj := { s.trj with cmpPrev := smSet 0 s.trj.cmpPrev u cur } }
    if prev < c ∧ c ≤ cur ∧ mode % 2 = 1 then compareFire u 1 t
    else if c < prev ∧ cur ≤ c ∧ 2 ≤ mode then compareFire u 2 t
    else t
  else s

/-- The units with a feedback source (end of stage 3) or an axis source (end of stage 4) evaluate. -/
def compareStage (axisSrc : Bool) (s : State) : State :=
  s.forN 32 (fun u t => if t.flag (F.TRJ_CMP_CFG.SRC_AXIS u) == axisSrc then compareEval u t else t)

/-! ### Register views -/

/-- TRJ_AXISn_STAT. -/
def axisStatWord (s : State) (n : Nat) : Word :=
  let a := s.axis n
  let ov := match a.mv with
    | some m => m.ov
    | none => 0
  wd (a.st.code * 2 ^ 29 + a.cause % 16 * 2 ^ 25 + a.homing % 8 * 2 ^ 22 + a.queue.length % 16 * 2 ^ 18 + ov % 2 ^ 17)

/-- TRJ_AXISn_MOVE. -/
def axisMoveWord (s : State) (n : Nat) : Word :=
  let a := s.axis n
  match a.mv with
  | some m => wd (m.arg.id % 2 ^ 16 * 2 ^ 16 + m.arg.kind % 4 * 2 ^ 14 + b2n m.arg.dir * 2 ^ 13 + a.row % 2 ^ 13)
  | none => wd (a.row % 2 ^ 13)

/-- TRJ_AXISn_REM. -/
def axisRemWord (s : State) (n : Nat) : Word :=
  let a := s.axis n
  match a.mv with
  | some m => wdi (m.target - a.spPos)
  | none => 0

/-- ARMED of the latch units. -/
def latArmed (s : State) : Nat := mapBits 16 (fun m => (latch s m).armedAt.isSome && (latch s m).upTo.isNone)
/-- WAIT of the latch units. -/
def latWait (s : State) : Nat := mapBits 16 (fun m => (latch s m).waitUntil.isSome)

end Sys2Proof.Machine
end

