-- ==== Sys2Proof/Machine/Fio.lean ====
section
/-!
DEFINITION. Field inputs and outputs (14): the dies, the logic side of the refresh, inputs and counters, outputs and their
causes, and the field supply.
-/

namespace Sys2Proof.Machine

open Sys2Proof

/-! ### Points (R432, R434) -/

/-- Output n is a safety output. -/
def safeOut (s : State) (n : Nat) : Bool := s.conf.sps.safeOuts.any (fun e => e.1 == n)

/-- Bitmap of the safety outputs in force (FIO_SAFE_MAP). -/
def safeMapWord (s : State) : Word := wd (mapBits 32 (safeOut s))

/-- Input number of fast input f (R432). -/
def fastInput (f : Nat) : Nat := 24 * (f / 4) + f % 4

/-- Input i is a fast input. -/
def isFast (i : Nat) : Bool := decide (i % 24 < 4)

/-! ### Outputs at the die (R450, R453) -/

/-- State of output n at its die. -/
def outSt (s : State) (n : Nat) : OutSt := smGet OutSt.init (s.die (n / 8)).outs (n % 8)

/-- State of output n changed. -/
def modOut (n : Nat) (f : OutSt → OutSt) (s : State) : State :=
  s.modDie (n / 8) (fun d => { d with outs := smMod OutSt.init d.outs (n % 8) f })

/-- RESTART of output n in the configuration its die applies; it is ignored for safety outputs. -/
def restarts (s : State) (n : Nat) : Bool := (s.die (n / 8)).restart.testBit (n % 8) && !safeOut s n

/-- A compare pulse runs on output n. -/
def pulseRuns (s : State) (n : Nat) : Bool :=
  match smFind (s.die (n / 8)).pulses n with
  | some e => decide (s.tb.tick < e)
  | none => false

/-- Output n is commanded on by its die's last accepted frame. -/
def outCmd (s : State) (n : Nat) : Bool :=
  let d := s.die (n / 8)
  (d.req.testBit (n % 8) || pulseRuns s n) && (!safeOut s n || d.perm.testBit (n % 8))

/-- A cause of Table 14.3 other than silence and permission forces output n off: a thermal shutdown or UV that goes on, or that
the output still waits after, or a declared fault. -/
def outForced (s : State) (n : Nat) : Bool :=
  let o := outSt s n
  o.c1 || o.hot || o.c2 || (s.die (n / 8)).uv || o.stuck != 0

/-- Output n is driven on outside pulses (R440, R450). -/
def outDriven (s : State) (n : Nat) : Bool :=
  let d := s.die (n / 8)
  !outForced s n &&
    (if d.silent then
      !safeOut s n && (match d.pat with
        | some p => p.testBit (n % 8)
        | none => false)
    else outCmd s n)

/-- Output n is driven on at its land. -/
def outOn (s : State) (n : Nat) : Bool := outDriven s n && (s.die (n / 8)).off != some n

/-- CAUSE of output n: the lowest code of Table 14.3 that forces it off. -/
def outCause (s : State) (n : Nat) : Nat :=
  let o := outSt s n
  let d := s.die (n / 8)
  if o.c1 || o.hot then 1 else if o.c2 || d.uv then 2 else if d.silent && !outDriven s n then 3 else if o.stuck != 0 then o.stuck
  else if safeOut s n && d.req.testBit (n % 8) && !d.perm.testBit (n % 8) then 7 else 0

/-- LATCHED of output n: a safety output waits for a deliberate reset, a standard one whose cause has ended for FIO_OUT_CLR
(R453, R457). -/
def outLatched (s : State) (n : Nat) : Bool :=
  let o := outSt s n
  if safeOut s n then o.c1 || o.c2 || o.stuck != 0 else (o.c1 && !o.hot) || (o.c2 && !(s.die (n / 8)).uv)

/-- FIO_OUTn_STAT. -/
def outStatWord (s : State) (n : Nat) : Word :=
  let o := outSt s n
  wd (outCause s n * 2 ^ 28 + b2n (outLatched s n) * 2 ^ 27 + o.partner % 32 * 2 ^ 16 + o.therm % 2 ^ 16)

/-! ### FIO_OUT_CLR (R454) -/

/-- The cause of output n persists. -/
def causePersists (s : State) (n : Nat) : Bool :=
  let o := outSt s n
  o.hot || (o.c2 && (s.die (n / 8)).uv)

/-- FIO_OUT_CLR: refused if it names a safety output or one whose cause persists, else carried in the next frame. -/
def outClrOp (v : Word) (s : State) : State :=
  let t := keepVal Reg.FIO_OUT_CLR v s
  if (List.range 32).any (fun n => bitOf v n && (safeOut s n || causePersists s n)) then t.ev F.FIO_EVENT.CLR_REJ
  else { t with fio := { t.fio with clr := t.fio.clr ||| v.toNat } }

/-- FIO_OUT_CLR (R454). -/
def execFioOutClr (core : Sender) (cpl : Word) (s : State) : Host.Outcome State Fault Refusal :=
  .next (cplWrite core Reg.FIO_OUT_CLR cpl outClrOp s)

/-! ### The refresh (R435 to R437, R462) -/

/-- Nudging buzzers sounding: BUZ_OUT of an enabled door unit in NUDGING, for the whole of the move (11 R364). -/
def buzzers (s : State) : Nat :=
  if isCar s then
    (List.range 2).foldl (fun m d =>
      if s.flag (F.TRJ_DOOR_CFG.EN d) && (s.door d).st == .nudging && decide (s.get (F.TRJ_DOOR_CFG.BUZ_OUT d) < 32) then
        setBitN m (s.get (F.TRJ_DOOR_CFG.BUZ_OUT d)) true
      else m) 0
  else 0

/-- Requests: firmware's, and the buzzers. -/
def outRequests (s : State) : Nat := Nat.lor (s.get F.FIO_OUT_REQ.REQ) (buzzers s)

/-- Filter time of input i in ms: that of its pair in the safety set for a safety input, else its FILT (R443, R444). -/
def filtOf (s : State) (i : Nat) : Nat :=
  match s.conf.sps.pairs.find? (fun q => q.a == i || q.b == i) with
  | some q => q.filt
  | none => (s.reg (Reg.FIO_FILT (i / 8))).toNat / 16 ^ (i % 8) % 16

/-- Frame of group g: requests, permission word, pulses, clears, configuration and PTP time as they stand (R436). -/
def groupFrame (s : State) (g perm : Nat) (permOk : Bool) : FieldFrame :=
  { seq := (smGet 0 s.fio.seq g + 1) % 256
    req := outRequests s / 2 ^ (8 * g) % 256
    perm := perm
    permOk := permOk
    pulses := s.fio.pulses.filter (fun p => p.1 / 8 == g)
    clr := s.fio.clr / 2 ^ (8 * g) % 256
    tmo := s.get (F.FIO_GRP_CFG.TIMEOUT g)
    pat := if s.flag (F.FIO_GRP_CFG.SILENT g) then some (s.get (F.FIO_GRP_CFG.SAFE_PAT g)) else none
    restart := (s.reg Reg.FIO_OUT_RESTART).toNat / 2 ^ (8 * g) % 256
    lines := 0
    edge := (List.range 4).foldl (fun m f => m + s.get (F.FIO_FIN_CFG.EDGE (4 * g + f)) * 4 ^ f) 0
    filt := (List.range 24).map (fun b => filtOf s (24 * g + b))
    now := s.nowNs }

/-- Frame of FG4 link l (4: A, 5: B) with its path's line commands. -/
def lineFrame (s : State) (l lines : Nat) : FieldFrame :=
  ⟨(smGet 0 s.fio.seq l + 1) % 256, 0, 0, true, [], 0, 0, none, 0, lines, 0, [], s.nowNs⟩

/-- A frame is sent on a link. -/
def sendFrame (l : Nat) (f : FieldFrame) (s : State) : State :=
  { s with fio := { s.fio with
    sent := smPut s.fio.sent l f
    seq := smSet 0 s.fio.seq l f.seq } }

/-- Die g latches its inputs, counters and the edges since the last grid instant. -/
def dieLatch (g : Nat) (s : State) : State :=
  s.modDie g (fun d => { d with lat := d.inputs, latEdges := d.latEdges ++ d.edges, edges := [], latCnt := d.cnt })

/-- A sequence count follows a reference: none yet, or one more (R437). -/
def countFollows (ref : Option Nat) (c : Nat) : Bool :=
  match ref with
  | none => true
  | some r => c == (r + 1) % 256

/-- Bits `clr` of a die's outputs lose the causes that have ended. -/
def dieClear (g clr : Nat) (s : State) : State :=
  s.forN 8 (fun b t =>
    if clr.testBit b then
      modOut (8 * g + b) (fun o => { o with c1 := o.c1 && o.hot, c2 := o.c2 && (t.die g).uv }) t
    else t)

/-- Outputs of a group whose RESTART, in the configuration its die applies, returns them (R453). -/
def restartBits (g : Nat) (s : State) : Nat := mapBits 8 (fun b => restarts s (8 * g + b))

/-- Die g accepts a frame: configuration, requests, permissions, pulses and clears apply, a silent action ends, and an output that
RESTART now lets return does so (R441, R450, R451, R453). -/
def dieAccept (g : Nat) (f : FieldFrame) (s : State) : State :=
  let take := s.modDie g (fun d =>
    { d with
      ref := some f.seq
      vseq := some f.seq
      heard := s.tb.tick
      silAct := d.silent
      silent := false
      tmo := f.tmo
      pat := f.pat
      restart := f.restart
      edge := f.edge
      filt := f.filt
      req := f.req
      perm := f.perm
      pulses := f.pulses.foldl (fun l p => smPut l p.1 (s.tb.tick + p.2)) d.pulses })
  dieClear g (Nat.lor f.clr (restartBits g take)) take

/-- A frame that passes its checks comes to a die: it is accepted if its count follows that of the last valid frame, which it
then is in either case (R437; log entry 45). -/
def groupFrameIn (g : Nat) (ok : Bool) (s : State) : State :=
  match smFind s.fio.sent g with
  | none => s
  | some f =>
    if !ok || !f.permOk then s
    else if countFollows (s.die g).ref f.seq then dieAccept g f s
    else s.modDie g (fun d => { d with ref := some f.seq })

/-- The same for an FG4 link: its lines take the commands (R462); under-voltage keeps them off (R459). -/
def lineFrameIn (l : Nat) (ok : Bool) (s : State) : State :=
  match smFind s.fio.sent l with
  | none => s
  | some f =>
    if !ok then s
    else if countFollows (s.stoLink l).ref f.seq then
      s.modStoLink l (fun _ => ⟨some f.seq, s.tb.tick, if (s.die 4).uv then 0 else f.lines⟩)
    else s.modStoLink l (fun x => { x with ref := some f.seq })

/-- DIE_FRAME_RECEIVED on a group or FG4 link; `ok`: the frame's CRC-8 holds (R437). -/
def execDieFrameReceived (link : Fin 6) (ok : Bool) (s : State) : Host.Outcome State Fault Refusal :=
  .next (if link.val < 4 then groupFrameIn link.val ok s else lineFrameIn link.val ok s)

/-! ### Silence (R440, R463) -/

/-- Die g has had no valid frame for TIMEOUT. -/
def dieSilence (g : Nat) (s : State) : State :=
  if (s.die g).heard + (s.die g).tmo * 125000 ≤ s.tb.tick then s.modDie g (fun d => { d with silent := true }) else s

/-- DIE_SILENCE_TIMEOUT (R440). -/
def execDieSilenceTimeout (g : Fin 4) (s : State) : Host.Outcome State Fault Refusal := .next (dieSilence g.val s)

/-- An FG4 link (0: A, 1: B) has had no valid frame for its timeout: its lines are de-energised (R463). -/
def stoTimeout (l : Nat) (s : State) : State :=
  let ms := if l = 0 then s.conf.sps.linkATo else s.conf.sps.linkBTo
  if (s.stoLink (4 + l)).heard + ms * 125000 ≤ s.tb.tick then s.modStoLink (4 + l) (fun x => { x with lines := 0 }) else s

/-- STO_LINK_TIMEOUT (R463). -/
def execStoLinkTimeout (link : Fin 2) (s : State) : Host.Outcome State Fault Refusal := .next (stoTimeout link.val s)

/-! ### Inputs (R443 to R447) -/

/-- The die of an input takes a new level with an edge at time t (ns). -/
def inputEdge (i : Nat) (level : Bool) (t : Nat) (s : State) : State :=
  if (s.die (i / 24)).inputs.testBit (i % 24) == level then s
  else s.modDie (i / 24) (fun d =>
    { d with inputs := setBitN d.inputs (i % 24) level, edges := d.edges ++ [(i, level, t)] })

/-- Filter time of input i at its die, in ns: 3 ms, the reset value of FILT, before the die has had a frame. -/
def dieFilt (s : State) (i : Nat) : Nat := (s.die (i / 24)).filt.getD (i % 24) 3 * 1000000

/-- Input i has had its filter time since it last took a new level. -/
def filterRan (s : State) (i t : Nat) : Bool :=
  match smFind (s.die (i / 24)).accs i with
  | some u => decide (u + dieFilt s i ≤ t)
  | none => true

/-- A filtered input takes a new level at time t (ns), if every sample of its filter time can have read it. -/
def filterAccept (i : Nat) (level : Bool) (t : Nat) (s : State) : State :=
  if isFast i || !filterRan s i t || (s.die (i / 24)).inputs.testBit (i % 24) == level then s
  else (inputEdge i level t s).modDie (i / 24) (fun d => { d with accs := smPut d.accs i t })

/-- INPUT_FILTER_ACCEPT: a filtered input's new level is accepted, its edge stamped with that sample's time (R443, R444);
fast inputs have no filter. -/
def execInputFilterAccept (input : Fin 96) (level : Bool) (t : Nat) (s : State) : Host.Outcome State Fault Refusal :=
  .next (filterAccept input.val level t s)

/-- An edge of fast input f is counted if the EDGE its die applies selects it (R436, R447). -/
def fastCount (f : Nat) (rising : Bool) (s : State) : State :=
  let e := (s.die (f / 4)).edge / 4 ^ (f % 4) % 4
  if e = 2 ∨ (e = 0 ∧ rising) ∨ (e = 1 ∧ !rising) then
    s.modDie (f / 4) (fun d => { d with cnt := smSet 0 d.cnt f ((smGet 0 d.cnt f + 1) % 2 ^ 32) })
  else s

/-- FAST_INPUT_EDGE (R445, R447). -/
def fastEdge (f : Nat) (rising : Bool) (t : Nat) (s : State) : State :=
  if (s.die (f / 4)).inputs.testBit (f % 4) == rising then s else fastCount f rising (inputEdge (fastInput f) rising t s)

/-- FAST_INPUT_EDGE (R447). -/
def execFastInputEdge (f : Fin 16) (rising : Bool) (t : Nat) (s : State) : Host.Outcome State Fault Refusal :=
  .next (fastEdge f.val rising t s)

/-! ### A valid reply at the logic side (R438, R439, R446 to R448) -/

/-- FIO_IN takes 24 input states of group g. -/
def showInputs (g v : Nat) (s : State) : State :=
  s.forN 24 (fun b t =>
    let i := 24 * g + b
    let f := F.FIO_IN.IN (i / 32)
    if v.testBit b then t.evBit f (i % 32) else t.clrBit f (i % 32))

/-- The edges of a reply act on the latch units and on homing limits, and rising edges of fast inputs on their frequency
measurement (R446, R448). -/
def edgeOp (e : Nat × Bool × Nat) (s : State) : State :=
  let t := latchEdge e.1 e.2.1 e.2.2 s
  let u := if e.2.1 then t else limitEdge e.1 e.2.2 t
  if isFast e.1 && e.2.1 then
    u.modFreq (4 * (e.1 / 24) + e.1 % 24) (fun q =>
      match q.ref with
      | none => { q with ref := some e.2.2, n := 0, seen := s.tb.tick, zeroed := false }
      | some _ => { q with n := q.n + 1, last := e.2.2, seen := s.tb.tick, zeroed := false })
  else u

/-- A changed fast count completes a result (R447). -/
def countResult (f : Nat) (s : State) : State :=
  let c := smGet 0 (s.die (f / 4)).latCnt f
  if (s.reg (Reg.FIO_FIN_CNT_LO f)).toNat = c then s
  else (s.resultPair (Reg.FIO_FIN_CNT_LO f) c).ev F.FIO_EVENT.NEW

/-- Supply and silence of a reply: status fields, and events where one sets (R441, R459). -/
def supplyShown (g : Nat) (s : State) : State :=
  let d := s.die g
  let t := if d.uv && !s.flag (F.FIO_GRP_STAT.UV g) then s.ev F.FIO_EVENT.UV else s
  let u := if d.warn && !s.flag (F.FIO_GRP_STAT.WARN g) then t.ev F.FIO_EVENT.WARN else t
  (((u.putB (F.FIO_GRP_STAT.UV g) d.uv).putB (F.FIO_GRP_STAT.WARN g) d.warn).putB (F.FIO_GRP_STAT.SILENT_ACT g)
    (d.silent || d.silAct)).put (F.FIO_GRP_STAT.LPLUS g) d.lplus

/-- The die's status in a reply: FIO_OUT_STATE and FIO_OUTn_STAT of the group take it, and hold it until the next valid one (R438,
R439; log entry 26). -/
def outsShown (g : Nat) (s : State) : State :=
  s.forN 8 (fun b t =>
    let n := 8 * g + b
    let u := t.setReg (Reg.FIO_OUT_STAT n) (outStatWord s n)
    if outDriven s n then u.evBit F.FIO_OUT_STATE.STATE n else u.clrBit F.FIO_OUT_STATE.STATE n)

/-- A valid reply of group g reaches the FIO logic. -/
def groupReply (g rb : Nat) (s : State) : State :=
  let d := s.die g
  let s1 := { s with fio := { s.fio with bad := smSet 0 s.fio.bad g 0 } }.put (F.FIO_GRP_STAT.LINK g) 1
  let s2 := (showInputs g d.lat s1).forL d.latEdges edgeOp
  let s3 := s2.forN 4 (fun i t => countResult (4 * g + i) t)
  let s4 := if d.newTherm = 0 then s3 else s3.ev F.FIO_EVENT.THERM
  let s5 := s4.setReg Reg.FIO_OUT_RB
    (wd ((s4.reg Reg.FIO_OUT_RB).toNat - (s4.reg Reg.FIO_OUT_RB).toNat / 2 ^ (8 * g) % 256 * 2 ^ (8 * g) +
      rb % 256 * 2 ^ (8 * g)))
  (outsShown g (supplyShown g s5)).modDie g (fun x => { x with latEdges := [], newTherm := 0, silAct := false })

/-- Every input of a lost group reads 0 (R439): a limit input that read 1 becomes active now (08 R271). -/
def groupInputsOff (g : Nat) (s : State) : State :=
  showInputs g 0 (s.forN 24 (fun j t => if inState s (24 * g + j) then limitEdge (24 * g + j) s.nowNs t else t))

/-- A reply of group g (4: FG4) is missing or bad for the FIO logic (R439). -/
def replyLost (g : Nat) (s : State) : State :=
  let n := smGet 0 s.fio.bad g + 1
  let t := { s with fio := { s.fio with bad := smSet 0 s.fio.bad g n } }.incSat (F.FIO_GRP_STAT.LOST g)
  if 4 ≤ n ∧ s.get (F.FIO_GRP_STAT.LINK g) ≠ 2 then
    let u := (t.put (F.FIO_GRP_STAT.LINK g) 2).ev F.FIO_EVENT.GROUP
    if g < 4 then groupInputsOff g u else u
  else t

/-- What a reply of FG4 shows: RB and the supply status; CMD shows the line commands sent, none on link A from a halted core. -/
def fg4Shown (rb : Nat) (s : State) : State :=
  let a := if s.saf.coreDown then 0 else ((smFind s.fio.sent 4).map (fun f => f.lines)).getD 0
  let b := ((smFind s.fio.sent 5).map (fun f => f.lines)).getD 0
  let cmd := mapBits 16 (fun i => if i % 2 = 0 then a.testBit (i / 2) else b.testBit (i / 2))
  (supplyShown 4 s).setReg Reg.FIO_STO_STAT (wd (rb % 2 ^ 16 * 2 ^ 16 + cmd))

/-- A reply on link B; LINK shows the worse of the two links, and a halted core answers nothing on link A (15 R469). -/
def fg4Reply (rb : Nat) (s : State) : State :=
  fg4Shown rb (if s.saf.coreDown then replyLost 4 s
    else { s with fio := { s.fio with bad := smSet 0 s.fio.bad 4 0 } }.put (F.FIO_GRP_STAT.LINK 4) 1)

/-! ### Frequency results (R448) -/

/-- A frequency result in mHz: OVR tells of one above 250 kHz. -/
def freqResult (f mhz : Nat) (s : State) : State :=
  (s.result (Reg.FIO_FIN_FREQ f) (min mhz 250000000 + (if 250000000 < mhz then 2 ^ 29 else 0))).ev F.FIO_EVENT.NEW

/-- FREQUENCY_GATE on fast input f: GATE ms have passed since the last result, and a rising edge has come since the reference
edge. Before a first result, and after a zero result, none starts the gate. -/
def freqGate (f : Nat) (s : State) : State :=
  let q := s.freqIn f
  match q.ref with
  | none => s
  | some r =>
    let due : Bool := match q.done with
      | none => true
      | some d => decide (d + s.get (F.FIO_FIN_CFG.GATE f) * 125000 ≤ s.tb.tick)
    let dt := q.last - r
    if due ∧ 0 < q.n ∧ 0 < dt then
      freqResult f ((q.n * 1000000000000 + dt / 2) / dt)
        (s.modFreq f (fun x => { x with ref := some q.last, n := 0, done := some s.tb.tick }))
    else s

/-- FREQUENCY_ZERO_TIMEOUT on fast input f: no rising edge for 10.5 s completes a result of 0, once. -/
def freqZero (f : Nat) (s : State) : State :=
  let q := s.freqIn f
  if !q.zeroed ∧ q.seen + 1312500000 ≤ s.tb.tick then
    freqResult f 0 (s.modFreq f (fun x => { x with ref := none, n := 0, done := none, zeroed := true }))
  else s

/-- FREQUENCY_GATE (R448). -/
def execFrequencyGate (f : Fin 16) (s : State) : Host.Outcome State Fault Refusal :=
  .next (if s.awake then freqGate f.val s else s)
/-- FREQUENCY_ZERO_TIMEOUT (R448). -/
def execFrequencyZeroTimeout (f : Fin 16) (s : State) : Host.Outcome State Fault Refusal :=
  .next (if s.awake then freqZero f.val s else s)

/-! ### Pulses, thermal shutdown (R451 to R453, R455) -/

/-- COMPARE_PULSE_END: the pulse on an output has run its width (R451). -/
def pulseEnd (n : Nat) (s : State) : State :=
  match smFind (s.die (n / 8)).pulses n with
  | some e => if e ≤ s.tb.tick then s.modDie (n / 8) (fun d => { d with pulses := smErase d.pulses n }) else s
  | none => s

/-- COMPARE_PULSE_END (R451). -/
def execComparePulseEnd (out : Fin 32) (s : State) : Host.Outcome State Fault Refusal := .next (pulseEnd out.val s)

/-- OUTPUT_THERMAL_SHUTDOWN: cause 1 acts on output n; its count stops at 65,535 (R452). The next reply reports it. -/
def thermalOff (n : Nat) (s : State) : State :=
  (modOut n (fun o => { o with hot := true, c1 := true, therm := satN 65535 (o.therm + 1) }) s).modDie (n / 8)
    (fun d => { d with newTherm := setBitN d.newTherm (n % 8) true })

/-- OUTPUT_THERMAL_SHUTDOWN (R452). -/
def execOutputThermalShutdown (out : Fin 32) (s : State) : Host.Outcome State Fault Refusal := .next (thermalOff out.val s)

/-- OUTPUT_COOLED: the cause ends, and an output with RESTART = 1 returns (R453). -/
def cooled (n : Nat) (s : State) : State := modOut n (fun o => { o with hot := false, c1 := o.c1 && !restarts s n }) s

/-- OUTPUT_COOLED (R453). -/
def execOutputCooled (out : Fin 32) (s : State) : Host.Outcome State Fault Refusal := .next (cooled out.val s)

/-- OFF_PULSE_START: a safety output that is on is switched off for T_PULSE; none runs in UV or while diagnostics are
suspended (R455, R461, 15 R482). -/
def offPulse (n : Nat) (s : State) : State :=
  if safeOut s n && outDriven s n && !(s.die (n / 8)).uv && !s.flag F.SAF_STAT.DIAG_SUSP then
    s.modDie (n / 8) (fun d => { d with off := some n })
  else s

/-- OFF_PULSE_START (R455). -/
def execOffPulseStart (out : Fin 32) (s : State) : Host.Outcome State Fault Refusal :=
  .next (if s.awake then offPulse out.val s else s)

/-! ### Field supply (R459, R460) -/

/-- LPLUS_MEASURE: L+ of group g in 10 mV units. WARN sets below 19.2 V and clears above 19.5 V; the times below 16.0 V and
above 18.0 V run on. -/
def lplusMeasure (g v : Nat) (s : State) : State :=
  s.modDie g (fun d =>
    { d with
      lplus := satN 4095 v
      warn := if v < 1920 then true else if 1950 < v then false else d.warn
      lowFrom := if v < 1600 then some (d.lowFrom.getD s.tb.tick) else none
      okFrom := if 1800 < v then some (d.okFrom.getD s.tb.tick) else none })

/-- LPLUS_MEASURE (R459). -/
def execLplusMeasure (g : Fin 5) (v : Nat) (s : State) : Host.Outcome State Fault Refusal := .next (lplusMeasure g.val v s)

/-- UV: L+ has been below 16.0 V for 0.3 ms. Every output of the group, or every line of FG4, goes off. -/
def uvSet (g : Nat) (s : State) : State :=
  let d := s.die g
  match d.lowFrom with
  | none => s
  | some t0 =>
    if t0 + 37500 ≤ s.tb.tick ∧ !d.uv then
      if g < 4 then
        let was := (List.range 8).any (fun b => safeOut s (8 * g + b) && outDriven s (8 * g + b))
        (s.modDie g (fun x => { x with uv := true, off := none, uvSafe := was })).forN 8
          (fun b t => modOut (8 * g + b) (fun o => { o with c2 := true }) t)
      else
        ((s.modDie 4 (fun x => { x with uv := true })).modStoLink 4 (fun x => { x with lines := 0 })).modStoLink 5
          (fun x => { x with lines := 0 })
    else s

/-- UV (R459). -/
def execUv (g : Fin 5) (s : State) : Host.Outcome State Fault Refusal := .next (uvSet g.val s)

/-- UV_CLEAR: L+ has stayed above 18.0 V for 10 ms. Standard outputs with RESTART = 1 return; safety outputs stay latched
(R453, R460). -/
def uvClear (g : Nat) (s : State) : State :=
  let d := s.die g
  match d.okFrom with
  | none => s
  | some t0 =>
    if t0 + 1250000 ≤ s.tb.tick ∧ d.uv then
      let t := s.modDie g (fun x => { x with uv := false })
      if g < 4 then
        t.forN 8 (fun b u =>
          if restarts u (8 * g + b) then modOut (8 * g + b) (fun o => { o with c2 := false }) u else u)
      else t
    else s

/-- UV_CLEAR (R460). -/
def execUvClear (g : Fin 5) (s : State) : Host.Outcome State Fault Refusal := .next (uvClear g.val s)

end Sys2Proof.Machine
end

