-- ==== Sys2Proof/Machine/Angle.lean ====
section
/-!
DEFINITION. The real functions of the conversion and feedback datapaths (09 R277): cosines in fixed point with 192
fractional bits, and the angle of an integer vector, exactly.
-/

namespace Sys2Proof.Machine

/-! ### Cosine and sine

DEDUCED (log entry 40): every value the spec truncates or rounds is taken from a fixed-point value whose error is below
2^-150, snapped to 2^-40. For the angles and magnitudes of R283 no exact value lies that close to a rounding boundary
without lying on it. -/

/-- 1 in fixed point. -/
def fxOne : Int := 2 ^ 192

/-- 2 pi in fixed point. -/
def fxTwoPi : Int := 39440193395453077124792266728456537782926901730380179465120

/-- The square root of 3 in fixed point. -/
def fxSqrt3 : Int := 10872259129968501520476367092724846629630414063654596659096

/-- Taylor terms from order `k` on: term, sum, and x^2, all in fixed point. -/
def fxTaylor : Nat → Nat → Int → Int → Int → Int
  | 0, _, _, _, acc => acc
  | n + 1, k, x2, t, acc =>
    let t' := -(t * x2 / fxOne) / (((k + 1) * (k + 2) : Nat) : Int)
    fxTaylor n (k + 2) x2 t' (acc + t')

/-- Cosine and sine of an angle of `num / den` turns, in fixed point; exact at whole quarter turns. -/
def fxCosSin (num den : Nat) : Int × Int :=
  let q := 4 * num / den % 4
  let r := 4 * num % den
  let x := fxTwoPi * (r : Int) / (4 * (den : Int))
  let x2 := x * x / fxOne
  let c := if r = 0 then fxOne else fxTaylor 40 0 x2 fxOne fxOne
  let s := if r = 0 then 0 else fxTaylor 40 1 x2 x x
  match q with
  | 0 => (c, s)
  | 1 => (-s, c)
  | 2 => (-c, -s)
  | _ => (s, -c)

/-- Cosine. -/
def fxCos (num den : Nat) : Int := (fxCosSin num den).1
/-- Sine. -/
def fxSin (num den : Nat) : Int := (fxCosSin num den).2

/-- A fixed-point value snapped to a multiple of 2^-40, in units of 2^-40. -/
def fxSnap (v : Int) : Int := (v + 2 ^ 151) / 2 ^ 152

/-- A fixed-point value rounded to the nearest integer, ties away from zero. -/
def fxRound (v : Int) : Int := rdivAway (fxSnap v) (2 ^ 40)

/-- A fixed-point value truncated toward zero. -/
def fxTrunc (v : Int) : Int := truncDiv (fxSnap v) (2 ^ 40)

/-- Terms of exp(-y) from order `k` on, in fixed point. -/
def fxExpTerms : Nat → Nat → Int → Int → Int → Int
  | 0, _, _, _, acc => acc
  | n + 1, k, y, t, acc =>
    let t' := -(t * y / fxOne) / ((k + 1 : Nat) : Int)
    fxExpTerms n (k + 1) y t' (acc + t')

/-- exp(-y) for a fixed-point y of at most 8. -/
def fxExpNeg (y : Int) : Int := fxExpTerms 100 0 y fxOne fxOne

/-! ### The angle of a vector -/

/-- `n` further bits of the angle of a vector that lies in the first octant: squaring the vector doubles its angle, and a
result past the octant is turned back by it. -/
def octantBits : Nat → Int → Int → Nat → Nat
  | 0, _, _, acc => acc
  | n + 1, x, y, acc =>
    let x2 := x * x - y * y
    let y2 := 2 * x * y
    if x2 ≤ y2 then octantBits n (x2 + y2) (y2 - x2) (2 * acc + 1)
    else octantBits n x2 y2 (2 * acc)

/-- floor(2^(n+3) * angle / 2 pi) of the vector (x, y), its angle taken in [0, 2 pi); 0 for the zero vector. -/
def angleBits (n : Nat) (x y : Int) : Nat :=
  if x = 0 ∧ y = 0 then 0
  else
    let g : Int := (Int.gcd x y : Nat)
    let x := x / g
    let y := y / g
    let r : Nat × Int × Int :=
      if 0 < x ∧ 0 ≤ y then (0, x, y)
      else if x ≤ 0 ∧ 0 < y then (2, y, -x)
      else if x < 0 ∧ y ≤ 0 then (4, -x, -y)
      else (6, -y, x)
    let a := r.2.1
    let b := r.2.2
    if a ≤ b then octantBits n (a + b) (b - a) (r.1 + 1) else octantBits n a b r.1

/-- round(atan2(y, x) * 2^(n+2) / 2 pi) mod 2^(n+2). No integer vector lies on a tie. -/
def angleRound (n : Nat) (y x : Int) : Nat := (angleBits n x y + 1) / 2 % 2 ^ (n + 2)

end Sys2Proof.Machine
end

