-- ==== Sys2Proof/Machine/Tide.lean ====
section
/-!
DEFINITION. Tide engines: memories, slot contexts, the end of a run, overruns, slot faults, traps, and what ends a
hand-over (06 R156 to R173, R193 to R197; 07 R208, R209, R223, R234).
-/

namespace Sys2Proof.Machine

open Sys2Proof

/-! ### Memories (06 R156 to R160) -/

/-- Words per code or data memory. -/
def tideWords : Nat := 16384

/-- A code word of engine e. -/
def codeWord (s : State) (e i : Nat) : Word := smGet 0 s.tide.code (e * tideWords + i)
/-- A data word of engine e. -/
def dataWord (s : State) (e i : Nat) : Word := smGet 0 s.tide.data (e * tideWords + i)
/-- A code word written. -/
def setCode (e i : Nat) (w : Word) (s : State) : State :=
  { s with tide := { s.tide with code := smSet 0 s.tide.code (e * tideWords + i) w } }
/-- A data word written. -/
def setData (e i : Nat) (w : Word) (s : State) : State :=
  { s with tide := { s.tide with data := smSet 0 s.tide.data (e * tideWords + i) w } }

/-- Engine e is halted: the halt is in force (R196, R197). -/
def halted (s : State) (e : Nat) : Bool := s.bit F.TAC_ENG_HALT.HALT e

/-- Whether data word i of engine e lies in its shared area. -/
def inShared (s : State) (e i : Nat) : Bool :=
  let b := s.get (F.TAC_ENG_SHARED.BASE e)
  b ≤ i && i < b + s.get (F.TAC_ENG_SHARED.LEN e)

/-- The word of a Tide memory at a core's address (R157, R159). -/
def tideRead (s : State) (a : Nat) : Word :=
  let e := (a - 0x30000000) / 0x20000
  let o := (a - 0x30000000) % 0x20000
  if o < 0x10000 then codeWord s e (o / 4) else dataWord s e ((o - 0x10000) / 4)

/-- A core's write of a Tide word: code only while the engine is halted, data also in the shared area at any time;
otherwise ignored with MEM_WR_REJ (R158, R160). Context word 0 and words 41 to 47, which Table 6.1 shows as 0, are stored as any other
word: a value other than 0 that a core, the initial image or an OFFER puts there stays until a save writes the word. DESIGN CHOICE (log
entry 100). -/
def tideWrite (a : Nat) (w : Word) (s : State) : State :=
  if 0x30000000 ≤ a ∧ a < 0x30100000 ∧ a % 4 = 0 then
    let e := (a - 0x30000000) / 0x20000
    let o := (a - 0x30000000) % 0x20000
    if o < 0x10000 then
      if halted s e then setCode e (o / 4) w s else s.ev F.TAC_EVENT.MEM_WR_REJ
    else
      let i := (o - 0x10000) / 4
      if halted s e || inShared s e i then setData e i w s else s.ev F.TAC_EVENT.MEM_WR_REJ
  else s

/-- TIDE_MEMORY_WRITE (R158, R160). -/
def execTideMemoryWrite (core : Sender) (addr : Nat) (val : Word) (s : State) : Host.Outcome State Fault Refusal :=
  .next (if canAccess s core then tideWrite addr val s else s)

/-! ### Runs and contexts (06 R161 to R168, Table 6.1) -/

/-- The run in progress on engine e. -/
def runOf (s : State) (e : Nat) : Option Run := smFind s.tide.runs e

/-- The run on engine e set. -/
def setRun (e : Nat) (r : Run) (s : State) : State := { s with tide := { s.tide with runs := smPut s.tide.runs e r } }

/-- No run on engine e. -/
def dropRun (e : Nat) (s : State) : State := { s with tide := { s.tide with runs := smErase s.tide.runs e } }

/-- Global slot number of slot k of engine e. -/
def gSlot (e k : Nat) : Nat := 24 * e + k

/-- First data word of slot k's context. -/
def ctxBase (k : Nat) : Nat := 64 * k

/-- A working register: w0 reads 0 (R161). -/
def wreg (r : Run) (i : Fin 32) : Word := if i = 0 then 0 else smGet 0 r.w i.val

/-- A working register written: w0 discards it (R161). -/
def setW (i : Fin 32) (v : Word) (r : Run) : Run := if i = 0 then r else { r with w := smSet 0 r.w i.val v }

/-- An accumulator (R162). -/
def accOf (r : Run) (i : Fin 4) : DWord := smGet 0 r.acc i.val

/-- An accumulator written. -/
def setAcc (i : Fin 4) (v : DWord) (r : Run) : Run := { r with acc := smSet 0 r.acc i.val v }

/-- Flags word of a context (Table 6.1, word 40). -/
def flagsWord (r : Run) : Word := wd (b2n r.n * 8 + b2n r.z * 4 + b2n r.c * 2 + b2n r.v)

/-- The registers w1 to w31 that context words 1 to 31 hold. -/
def ctxRegs (s : State) (e k : Nat) : List (Nat × Word) :=
  (List.range 31).foldl (fun m i => smSet 0 m (i + 1) (dataWord s e (ctxBase k + i + 1))) []

/-- The accumulators that context words 32 to 39 hold. -/
def ctxAccs (s : State) (e k : Nat) : List (Nat × DWord) :=
  (List.range 4).foldl (fun m i => smSet 0 m i
    (BitVec.ofNat 64 (join64 (dataWord s e (ctxBase k + 32 + 2 * i)) (dataWord s e (ctxBase k + 33 + 2 * i))))) []

/-- A run as a slot starts it: context restored, pc at the entry word after the four-word header, loop inactive
(R166, R171). -/
def startRun (s : State) (e : Nat) (k : Fin 24) : Run :=
  let f := dataWord s e (ctxBase k.val + 40)
  let g := gSlot e k.val
  { slot := k, w := ctxRegs s e k.val, acc := ctxAccs s e k.val, z := bitOf f 2, n := bitOf f 3, c := bitOf f 1, v := bitOf f 0,
    pc := (s.get (F.TAC_SLOT_CODE.HDR g) + 4) % tideWords, loop := none, left := (s.slot g).budget, staged := [] }

/-- Words 1 to 40 of the context saved from a run that reached END (R167); word 0 is always 0 (Table 6.1). -/
def saveCtx (e : Nat) (r : Run) (s : State) : State :=
  let b := ctxBase r.slot.val
  let t := s.forN 31 (fun i t => setData e (b + i + 1) (smGet 0 r.w (i + 1)) t)
  let u := t.forN 4 (fun i t =>
    let a := (smGet 0 r.acc i).toNat
    setData e (b + 33 + 2 * i) (hi32 a) (setData e (b + 32 + 2 * i) (lo32 a) t))
  setData e (b + 40) (flagsWord r) (setData e b 0 u)

/-- Staged outputs committed: each written port takes its last value, and DIAG values read in TAC_DIAG (R178, Table 6.5). -/
def commitOuts (g : Nat) (staged : List (Nat × Word)) (s : State) : State :=
  s.forL staged (fun p t =>
    let u := { t with tide := { t.tide with outs := smSet 0 t.tide.outs (g * 8 + p.1) p.2 } }
    if 4 ≤ p.1 then u.setReg (Reg.TAC_DIAG g (p.1 - 4)) p.2 else u)

/-- Committed output q (port 0x40 + q) of slot g. -/
def outOf (s : State) (g q : Nat) : Word := smGet 0 s.tide.outs (g * 8 + q)

/-! ### The end of a hand-over (07 R222, R223, R233) -/

/-- Code of a hand-over kind (TAC_HO_LAST.KIND). -/
def hoKindCode : HoKind → Nat
  | .carMode => 0
  | .chanMode => 1
  | .ownerOut => 2
  | .ownerIn => 3

/-- TAC_HO_LAST takes the result of a hand-over of binding `b`. -/
def hoResult (kind : HoKind) (failed : Bool) (fails b : Nat) (s : State) : State :=
  (s.result Reg.TAC_HO_LAST
    (hoKindCode kind * 2 ^ 28 + b2n failed * 2 ^ 27 + fails % 128 * 2 ^ 20 + b % 128)).ev F.TAC_SCHED_EVENT.NEW

/-- HO_FAIL is set, and reported through the SAF view (R223). -/
def hoFailFlags (s : State) : State := (s.ev F.TAC_SCHED_EVENT.HO_FAIL).ev F.SAF_EVENT.HO_FAIL

/-- The hand-over of car c ends with HO_FAIL: the outgoing law keeps control, the car stops with cause 4, an outgoing
owner sends the notice and starts no new owner hand-over until OP = 2, an incoming one leaves the car to it (R223, R232, R233). -/
def hoFailCar (c : Nat) (s : State) : State :=
  match (s.car c).ho with
  | none => s
  | some h =>
    let t := hoResult h.kind true h.fails c (hoFailFlags s)
    let u := t.modCar c (fun r => { r with ho := none, hoFailed := r.hoFailed || h.kind == .ownerOut })
    match h.kind with
    | .ownerOut => (stopAxis c 4 u).send h.nb (.hoFail ⟨(s.car c).id, s.tb.k⟩)
    | .ownerIn => axisLost c (u.modCar c (fun r => { r with owner := false, ownerId := h.nb }))
    | _ => stopAxis c 4 u

/-- The hand-over of drive channel n ends with HO_FAIL; the car whose active set holds the channel stops (R223). -/
def hoFailChan (n : Nat) (s : State) : State :=
  match (s.chan n).ho with
  | none => s
  | some h =>
    let t := hoResult h.kind true h.fails n (hoFailFlags s)
    let u := t.modChan n (fun r => { r with ho := none })
    match (s.chan n).car with
    | some c => stopAxis c 4 u
    | none => u

/-- A car's hand-over is reported complete. -/
def hoAnnounce (h : HandOver) (c : Nat) (s : State) : State :=
  (hoResult h.kind false h.fails c s).ev F.TAC_SCHED_EVENT.HO_DONE

/-- The hand-over of car c completes: HO_DONE; in a control-mode hand-over the incoming slot is in control. An incoming owner
without a blend has reported it in its comparison, at the start of period h + 0 (R222). -/
def hoDoneCar (c : Nat) (s : State) : State :=
  match (s.car c).ho with
  | none => s
  | some h =>
    let t := if h.kind == .ownerIn && h.blend == 0 then s else hoAnnounce h c s
    let u := t.modCar c (fun r => { r with ho := none, cameFrom := if h.kind == .ownerIn then some h.nb else r.cameFrom })
    if h.kind == .carMode then
      (u.modSlot h.outSlot (fun x => { x with inControl := false })).modSlot h.inSlot
        (fun x => { x with inControl := true })
    else u

/-- The hand-over of channel n completes. -/
def hoDoneChan (n : Nat) (s : State) : State :=
  match (s.chan n).ho with
  | none => s
  | some h =>
    let t := (hoResult h.kind false h.fails n s).ev F.TAC_SCHED_EVENT.HO_DONE
    let u := t.modChan n (fun r => { r with ho := none })
    (u.modSlot h.outSlot (fun x => { x with inControl := false })).modSlot h.inSlot
      (fun x => { x with inControl := true })

/-! ### Overruns and faulted slots (07 R208, R209) -/

/-- N_OVR of slot g, taken as 1 where it is 0 (R204, R209). -/
def nOvr (s : State) (g : Nat) : Nat := max 1 (s.get (F.TAC_SLOT_LIMIT.N_OVR g))

/-- Whether an owner hand-over of car c that has no claim yet is running: the outgoing owner waits for the claim, the incoming one
has not sent it, which it does at its split of the hand-over instant (R229, R234). -/
def unclaimedOwnerHo (s : State) (c : Nat) : Bool :=
  match (s.car c).ho with
  | some h => (h.kind == .ownerOut || h.kind == .ownerIn) && !h.claimed
  | none => false

/-- Slot g is declared faulted: latched, with the event and the reaction of Table 7.2. A channel's STO bit and its place in
active sets follow from the latch. -/
def declareFault (g : Nat) (s : State) : State :=
  let t := (s.ev (F.TAC_OVR.FAULT g)).evBit (F.TAC_FAULT_EVENT.FAULT (g / 32)) (g % 32)
  if slotKind s g == 1 then
    let c := slotBind s g
    stopAxis c 3 (if unclaimedOwnerHo s c then hoFailCar c t else t)
  else t

/-- A run of slot g overran: both counts rise and stop at their largest values, and the slot faults when the consecutive
count reaches N_OVR (R208, R209). -/
def countOverrun (g : Nat) (s : State) : State :=
  let t := (((s.incSat (F.TAC_OVR.TOTAL g)).incSat (F.TAC_OVR.CONSEC g)).ev (F.TAC_OVR.LAST g)).evBit
    (F.TAC_OVR_EVENT.OVR (g / 32)) (g % 32)
  if nOvr t g ≤ t.get (F.TAC_OVR.CONSEC g) ∧ slotFault t g = false then declareFault g t else t

/-- A run of slot g reached END: the consecutive count is 0 (R208). -/
def reachedEnd (g : Nat) (s : State) : State := (s.put (F.TAC_OVR.CONSEC g) 0).put (F.TAC_OVR.LAST g) 0

/-- A slot's run of this period marked. -/
def markRun (g : Nat) (x : RunState) (s : State) : State := s.modSlot g (fun q => { q with run := x })

/-! ### Traps (06 R193 to R195) -/

/-- Causes of Table 6.9. -/
inductive TrapCause where
  | illegal | port | mem | ctx | loop | budget
  deriving DecidableEq, Repr

/-- Code of a trap cause (Table 6.9). -/
def trapCode : TrapCause → Nat
  | .illegal => 1
  | .port => 2
  | .mem => 3
  | .ctx => 4
  | .loop => 5
  | .budget => 6

/-- The run on engine e ends on a cause at its pc: nothing is committed or saved, TAC_TRAP_INFO takes cause, slot and pc
with its tag advanced, TRAP sets, and the run counts as an overrun (R194, R195). -/
def trapRun (e : Fin 8) (r : Run) (cause : TrapCause) (s : State) : State :=
  let g := gSlot e.val r.slot.val
  let t := (dropRun e.val s).result (Reg.TAC_TRAP_INFO e.val) (r.slot.val * 2 ^ 25 + trapCode cause * 2 ^ 21 + r.pc % tideWords)
  countOverrun g (markRun g .overran (t.evBit F.TAC_EVENT.TRAP e.val))

/-- The run on engine e is stopped short of END at a limit: it counts as an overrun; with its budget used up in the cycle of the
limit it ends with cause BUDGET (07 R207). -/
def stopRun (e : Nat) (r : Run) (s : State) : State :=
  let g := gSlot e r.slot.val
  if r.left = 0 then trapRun ⟨e % 8, Nat.mod_lt e (by decide)⟩ r .budget s
  else countOverrun g (markRun g .overran (dropRun e s))

/-! ### Halting (06 R196 to R198) -/

/-- A TAC_ENG_HALT value taken bit by bit: in Standby both kinds of request are accepted; elsewhere a release acts, a bit
that would halt an engine not halted is refused with HALT_REJ, and a bit matching the state in force changes nothing. -/
def engHaltOp (v : Word) (s : State) : State :=
  let want := getF F.TAC_ENG_HALT.HALT.bits v
  if s.mode = .standby then { s with tide := { s.tide with haltWant := want } }
  else
    let inForce := s.get F.TAC_ENG_HALT.HALT
    let t := { s with tide := { s.tide with haltWant := mapBits 8 (fun n => want.testBit n && s.tide.haltWant.testBit n) } }
    if (List.range 8).any (fun n => want.testBit n && !inForce.testBit n) then t.ev F.TAC_EVENT.HALT_REJ else t

/-- ENGINE_HALT: the TAC_ENG_HALT write that requests halts (R196). -/
def execEngineHalt (core : Sender) (cpl : Word) (s : State) : Host.Outcome State Fault Refusal :=
  .next (cplWrite core Reg.TAC_ENG_HALT cpl engHaltOp s)

/-- ENGINE_RELEASE: the TAC_ENG_HALT write that releases halts (R196). -/
def execEngineRelease (core : Sender) (cpl : Word) (s : State) : Host.Outcome State Fault Refusal :=
  .next (cplWrite core Reg.TAC_ENG_HALT cpl engHaltOp s)

/-- Halts requested take effect, and outside Standby every halt is released, at a period boundary (R197, R198). -/
def haltBoundary (s : State) : State :=
  let want := if s.mode = .standby then s.tide.haltWant else 0
  { s with tide := { s.tide with haltWant := want } }.put F.TAC_ENG_HALT.HALT want

/-! ### Slot start (06 R166, 07 R205) -/

/-- Whether slot g has no run still to come before another slot of its group may start. -/
def slotThrough (s : State) (g : Nat) : Bool :=
  match (s.slot g).run with
  | .done | .overran => true
  | _ => (s.slot g).bad

/-- Order of the three groups on one engine: phase A, then B, then TAIL, each in ascending slot number (R205). -/
def runsBefore (s : State) (g' g : Nat) : Bool :=
  let p := slotPhase s g
  let q := slotPhase s g'
  decide (q < p) || (q == p && decide (g' < g))

/-- Whether slot k of engine e may start now: servo clocks run, the engine is not halted and has no run, the slot is
enabled, sound and has not run in this period, the period is in the slot's phase, and every slot of its group before it
(for TAIL also those of phase B) has ended. -/
def mayStart (s : State) (e : Fin 8) (k : Fin 24) : Bool :=
  let g := gSlot e.val k.val
  let others := ((List.range 24).map (gSlot e.val)).filter (fun x => slotEn s x && slotPhase s x != 0)
  let groupA := ((List.range 24).map (gSlot e.val)).filter (fun x => slotEn s x && slotPhase s x == 0)
  let before := (if slotPhase s g == 0 then groupA else others).filter (fun x => runsBefore s x g)
  s.servoOn && !halted s e.val && (runOf s e.val).isNone && slotEn s g && !(s.slot g).bad &&
    decide ((s.slot g).run = .waiting) &&
    (if slotPhase s g == 0 then decide (s.tide.stage = .phaseA) else decide (s.tide.stage = .phaseB)) &&
    before.all (slotThrough s)

/-- A slot starts its run. -/
def slotStart (e : Fin 8) (k : Fin 24) (s : State) : State :=
  if mayStart s e k then
    setRun e.val (startRun s e.val k) (markRun (gSlot e.val k.val) .running s)
  else s

/-- SLOT_RUN_START (R166, R205). -/
def execSlotRunStart (e : Fin 8) (k : Fin 24) (s : State) : Host.Outcome State Fault Refusal := .next (slotStart e k s)

end Sys2Proof.Machine
end

