-- ==== Sys2Proof/Machine/Handover.lean ====
section
/-!
DEFINITION. Hand-over (07 R219 to R235): comparisons, blends, the two kinds and their commands.
-/

namespace Sys2Proof.Machine

open Sys2Proof

/-! ### Limits and arithmetic -/

/-- N_HO of a hand-over kind. -/
def hoN (s : State) (chan : Bool) : Nat := if chan then s.get F.TAC_HO_CFG_CH.N_HO else s.get F.TAC_HO_CFG_CAR.N_HO
/-- DU_MAX of a hand-over kind. -/
def hoMax (s : State) (chan : Bool) : Nat :=
  if chan then s.get F.TAC_HO_CFG_CH.DU_MAX else s.get F.TAC_HO_CFG_CAR.DU_MAX
/-- BLEND, L, of a hand-over kind. -/
def hoL (s : State) (chan : Bool) : Nat := if chan then s.get F.TAC_HO_CFG_CH.BLEND else s.get F.TAC_HO_CFG_CAR.BLEND

/-- The comparison passes (R219). -/
def hoPass (duMax : Nat) (uIn uOut : Int) : Bool := decide ((uIn - uOut).natAbs ≤ duMax)

/-- The preload: a plain wrapping subtraction (R220). -/
def preloadVal (uIn uOut : Int) : Int := sgn 32 (uns 32 (uOut - uIn))

/-- The applied output in period h + j of a blend of L periods, truncated toward zero (R222). -/
def blendOut (uIn uOut : Int) (j l : Nat) : Int := uOut + truncDiv ((uIn - uOut) * ((j : Int) + 1)) ((l : Int) + 1)

/-- Output q of slot g as s32. -/
def outS (s : State) (g q : Nat) : Int := (outOf s g q).toInt

/-- FORCE of the law in control of car c; 0 with no slot bound. -/
def carOut (s : State) (c : Nat) : Int :=
  match ctrlSlot s 1 c with
  | some g => outS s g 0
  | none => 0

/-- Set the hand-over of car c. -/
def setHoCar (c : Nat) (h : HandOver) (s : State) : State := s.modCar c (fun r => { r with ho := some h })
/-- Set the hand-over of channel n. -/
def setHoChan (n : Nat) (h : HandOver) (s : State) : State := s.modChan n (fun r => { r with ho := some h })

/-! ### Control-mode hand-over (R224, R225) -/

/-- TAC_HO_CMD with OP = 1: refused if slot g is not enabled, is in control, has no partner, or a hand-over of its binding
runs (R224, R235); else the hand-over starts. -/
def startModeHo (g : Nat) (s : State) : State :=
  let kind := slotKind s g
  let b := slotBind s g
  let running := if kind = 1 then (s.car b).ho.isSome else (s.chan b).ho.isSome
  match ctrlSlot s kind b with
  | none => s.ev F.TAC_SCHED_EVENT.REFUSED
  | some o =>
    if numSlots ≤ g ∨ slotEn s g = false ∨ (s.slot g).bad = true ∨ kind = 0 ∨ o = g ∨ running then s.ev F.TAC_SCHED_EVENT.REFUSED
    else
      let h : HandOver := ⟨if kind = 1 then .carMode else .chanMode, .comparing, 0, s.tb.k, o, g, 0, 0, hoL s (kind == 2),
        [], false, false⟩
      if kind = 1 then setHoCar b h s else setHoChan b h s

/-- TAC_HO_CMD with OP = 2: permits a new owner hand-over for slot g's car, once the car is at rest (R233). -/
def permitOwnerHo (g : Nat) (s : State) : State :=
  if g < numSlots ∧ slotEn s g ∧ slotKind s g = 1 ∧ recMoves s (slotBind s g) = false then
    s.modCar (slotBind s g) (fun r => { r with hoFailed := false })
  else s.ev F.TAC_SCHED_EVENT.REFUSED

/-- A completed TAC_HO_CMD: OP 0 and 3 are refused. -/
def hoCmdOp (v : Word) (s : State) : State :=
  let t := keepVal Reg.TAC_HO_CMD v s
  let g := getF F.TAC_HO_CMD.SLOT.bits v
  match getF F.TAC_HO_CMD.OP.bits v with
  | 1 => startModeHo g t
  | 2 => permitOwnerHo g t
  | _ => t.ev F.TAC_SCHED_EVENT.REFUSED

/-- Field `f` of the value a CPL word completes is `v`: which row of a shared guarded register a CPL write is. -/
def cplIs (f : FRef) (v : Nat) (cpl : Word) : Bool := getF f.bits (~~~ cpl) == v

/-- CONTROL_MODE_HANDOVER: the TAC_HO_CMD write with OP = 1 (R224). -/
def execControlModeHandover (core : Sender) (cpl : Word) (s : State) : Host.Outcome State Fault Refusal :=
  .next (if cplIs F.TAC_HO_CMD.OP 1 cpl then cplWrite core Reg.TAC_HO_CMD cpl hoCmdOp s else s)

/-- PERMIT_OWNER_HANDOVER: the TAC_HO_CMD write with OP = 2 (R233). -/
def execPermitOwnerHandover (core : Sender) (cpl : Word) (s : State) : Host.Outcome State Fault Refusal :=
  .next (if cplIs F.TAC_HO_CMD.OP 2 cpl then cplWrite core Reg.TAC_HO_CMD cpl hoCmdOp s else s)

/-- A car's control-mode hand-over at the split of period k: from the period after the command, outputs of the period are
compared; a pass makes k + 1 the hand-over instant (R219, R220, R223, R225). -/
def modeHoSplit (c : Nat) (s : State) : State :=
  match (s.car c).ho with
  | none => s
  | some h =>
    if h.kind == .carMode && h.stage == .comparing && decide (h.k0 < s.tb.k) then
      let uIn := outS s h.inSlot 0
      let uOut := outS s h.outSlot 0
      if hoPass (hoMax s false) uIn uOut then
        (setHoCar c { h with stage := .blending, h := s.tb.k + 1 } s).modCar c
          (fun r => { r with preload := some ⟨h.inSlot, s.tb.k + 1, preloadVal uIn uOut⟩ })
      else
        let t := setHoCar c { h with fails := h.fails + 1 } s
        if hoN s false ≤ h.fails + 1 then hoFailCar c t else t
    else s

/-- A channel's control-mode hand-over at the latching of boundary b, over the outputs of period b - 1 (R219, R225). -/
def modeHoLatch (n : Nat) (s : State) : State :=
  match (s.chan n).ho with
  | none => s
  | some h =>
    let b := s.tb.k
    let t :=
      if h.stage == .comparing && decide (h.k0 + 1 < b) then
        let uIn := outS s h.inSlot 0
        let uOut := outS s h.outSlot 0
        if hoPass (hoMax s true) uIn uOut then
          (setHoChan n { h with stage := .blending, h := b } s).modChan n
            (fun r => { r with preload := some ⟨h.inSlot, b, preloadVal uIn uOut⟩ })
        else
          let t := setHoChan n { h with fails := h.fails + 1 } s
          if hoN s true ≤ h.fails + 1 then hoFailChan n t else t
      else s
    match (t.chan n).ho with
    | some x => if x.stage == .blending && decide (x.h + x.blend ≤ b) then hoDoneChan n t else t
    | none => t

/-- Demand q of channel n for the outputs of period b - 1: the law in control's, or the blend's (R222; DEMAND_D is blended
too). -/
def chanDemand (s : State) (n q : Nat) : Word :=
  match ctrlSlot s 2 n with
  | none => 0
  | some g =>
    match (s.chan n).ho with
    | some h =>
      if h.stage == .blending && decide (h.h < s.tb.k) then
        wdi (blendOut (outS s h.inSlot q) (outS s h.outSlot q) (s.tb.k - 1 - h.h) h.blend)
      else outOf s g q
    | none => outOf s g q

/-! ### Owner hand-over (R226 to R235) -/

/-- The move record that 72 bytes stand for. -/
def moveOfBytes (l : List Byte) : MoveRec :=
  let at' (o n : Nat) : Nat := leVal ((l.drop o).take n)
  { start := sgn 64 (at' 0 8), first := at' 8 2, count := at' 10 2, id := at' 12 2, dir := decide (128 ≤ at' 14 1),
    kind := at' 14 1 % 4, state := at' 15 1, tau := at' 16 8, ov := at' 24 4, ovTgt := at' 28 4, ovPrev := at' 32 4,
    vPeak := at' 36 4, check := wd (at' 40 4), aCap := at' 44 4, jCap := at' 48 4, rampP := sgn 64 (at' 52 8),
    rampV := sgn 64 (at' 60 8), rampA := sgn 32 (at' 68 4) }

/-- The 72-byte record of an axis's present move (08 R264); all zero but the state with no move. -/
def moveRecord (s : State) (n : Nat) : MoveRec :=
  let a := s.axis n
  match a.mv with
  | none => ⟨0, 0, 0, 0, false, 0, a.st.code, 0, 0, 0, 0, 0, 0, 0, 0, 0, 0, 0⟩
  | some m =>
    let ramp := a.st == .stopping || a.st == .aborting
    ⟨m.start, m.arg.first, m.arg.count, m.arg.id, m.arg.dir, m.arg.kind, a.st.code, m.tau, m.ov, m.ovTgt, m.ovPrev,
      m.arg.vPeak, m.arg.check, m.aCap, m.jCap, if ramp then m.rampP else 0, if ramp then m.rampV else 0,
      if ramp then m.rampA else 0⟩

/-- Context words 0 to 63 of slot g. -/
def ctxWords (s : State) (g : Nat) : List Word :=
  (List.range 64).map (fun i => dataWord s (g / 24) (ctxBase (g % 24) + i))

/-- Context words written into slot g (R227). -/
def putCtx (g : Nat) (ws : List Word) (s : State) : State :=
  s.forN 64 (fun i t => setData (g / 24) (ctxBase (g % 24) + i) (ws.getD i 0) t)

/-- Announced T_s of a neighbour, if it has announced one. -/
def announcedTs (s : State) (id : Nat) : Option Nat := smFind s.nbTs id

/-- Stage 3 has placed an owned car in the neighbour's extent: an owner hand-over starts, unless one runs, a failure is
outstanding, or SYNC is 0 (R226, R235, 19 R583); toward a neighbour with another T_s it is reported as HO_FAIL (R201). A neighbour
that has announced no T_s is taken to have the same one (DESIGN CHOICE, log entry 90). -/
def ownerHoStart (c : Nat) (s : State) : State :=
  let r := s.car c
  if r.held && r.owner && r.posValid && r.ho.isNone && !r.hoFailed && s.flag F.TIM_STAT.SYNC then
    match neighbourAt s.conf.geom r.pos with
    | none => s
    | some nb =>
      if (announcedTs s nb).getD s.tsNs = s.tsNs then
        let g := (ctrlSlot s 1 c).getD 0
        homeHandedOver c (setHoCar c ⟨.ownerOut, .offered, nb, s.tb.k, g, g, 0, 0, hoL s false, [], false, false⟩ s)
      else hoFailFlags (s.modCar c (fun r => { r with hoFailed := true }))
  else s

/-- At its split of the period the hand-over starts in, the owner sends the offer (R227). -/
def offerSend (c : Nat) (s : State) : State :=
  let r := s.car c
  match r.ho with
  | some h =>
    if h.kind == .ownerOut && h.stage == .offered && decide (h.k0 = s.tb.k) then
      s.send h.nb (.offer ⟨r.id, r.mass, r.arrOfs, r.arrLen, ctxWords s h.outSlot, moveRecord s c⟩)
    else s
  | none => s

/-- Each device sends its car output of the period at its split, from k + 1; the outgoing one to h + L - 2 once claimed
(R228, R231). -/
def hoOutSend (c : Nat) (s : State) : State :=
  let r := s.car c
  match r.ho with
  | some h =>
    let owner := h.kind == .ownerOut || h.kind == .ownerIn
    let late := h.kind == .ownerOut && h.claimed && decide (h.h + h.blend < s.tb.k + 2)
    if owner && decide (h.k0 < s.tb.k) && !late then s.send h.nb (.hoOut ⟨r.id, s.tb.k, carOut s c⟩) else s
  | none => s

/-- The value received for period t. -/
def hoRecv (h : HandOver) (t : Nat) : Option Int := (h.recv.find? (fun p => p.1 == t)).map (fun p => p.2)

/-- The incoming device's comparison at the start of its phase A of period t >= k + 2, over the outputs of period t - 1; a
missing value is a failed comparison. A pass makes it the owner in period t (R219, R228, R229). -/
def ownerHoCompare (c : Nat) (s : State) : State :=
  match (s.car c).ho with
  | none => s
  | some h =>
    if h.kind == .ownerIn && h.stage == .comparing && decide (h.k0 + 2 ≤ s.tb.k) then
      let uIn := carOut s c
      let fail :=
        let t := setHoCar c { h with fails := h.fails + 1 } s
        if hoN s false ≤ h.fails + 1 then hoFailCar c t else t
      match hoRecv h (s.tb.k - 1) with
      | none => fail
      | some uOut =>
        if hoPass (hoMax s false) uIn uOut then
          let t := (setHoCar c { h with stage := .blending, h := s.tb.k } s).modCar c
            (fun r => { r with owner := true, ownerId := 0, preload := some ⟨h.inSlot, s.tb.k, preloadVal uIn uOut⟩ })
          if h.blend = 0 then hoAnnounce h c t else t
        else fail
    else s

/-- A blend of L periods that began at h ends at the start of period h + L; an outgoing owner's hand-over not before it has become a
neighbour (R222, R231). -/
def hoBoundary (c : Nat) (s : State) : State :=
  match (s.car c).ho with
  | none => s
  | some h =>
    if h.stage == .blending && decide (h.h + h.blend ≤ s.tb.k) && !(h.kind == .ownerOut && (s.car c).owner) then
      let t := hoDoneCar c s
      if h.kind == .ownerOut then axisLost c t else t
    else s

/-- Ownership goes back to device `nb`, which has declared HO_FAIL (R232). -/
def giveBack (c nb : Nat) (s : State) : State :=
  axisLost c (s.modCar c (fun r => { r with owner := false, ownerId := nb, retTo := none, cameFrom := none }))

/-- Before a split: an outgoing owner the claim has reached is a neighbour from now on, and an incoming one a HO_FAIL notice
has reached returns ownership (R231, R232). -/
def ownerHoTurn (c : Nat) (s : State) : State :=
  match (s.car c).ho with
  | none =>
    match (s.car c).retTo with
    | some nb => giveBack c nb s
    | none => s
  | some h =>
    if h.kind == .ownerOut && h.claimed then
      hoBoundary c (s.modCar c (fun r => { r with owner := false, ownerId := h.nb }))
    else if h.kind == .ownerIn && h.back then giveBack c h.nb (hoFailCar c s)
    else s

/-- The claim of car c has been sent (R229). -/
def claimSent (c : Nat) (s : State) : State :=
  s.modCar c (fun r => { r with ho := r.ho.map (fun h => { h with claimed := true }) })

/-- CLAIM_TIMEOUT: no claim by the split of period k + N_HO + 2 (R232). -/
def claimTimeoutOp (c : Nat) (s : State) : State :=
  match (s.car c).ho with
  | none => s
  | some h =>
    if h.kind == .ownerOut && !h.claimed && decide (h.k0 + hoN s false + 2 ≤ s.tb.k) then hoFailCar c s else s

/-- CLAIM_TIMEOUT (R232). -/
def execClaimTimeout (car : Fin 8) (s : State) : Host.Outcome State Fault Refusal := .next (claimTimeoutOp car.val s)

/-! ### Clearing a slot fault (R212) -/

/-- Whether any held car's array overlaps the segment driven by channel n. -/
def chanUnderCar (s : State) (n : Nat) : Bool :=
  (ownSegs s.conf.geom).any (fun x => x.chan == n && (heldCars s).any (fun c => decide (0 < segOverlap x (s.car c))))

/-- TAC_FAULT_CLR: accepted for a car slot whose car is at rest, a channel slot under no car, an auxiliary slot at any time (R212). -/
def faultClrOp (v : Word) (s : State) : State :=
  let t := keepVal Reg.TAC_FAULT_CLR v s
  let g := getF F.TAC_FAULT_CLR.SLOT.bits v
  let ok := decide (g < numSlots) &&
    (match slotKind s g with
     | 1 => !recMoves s (slotBind s g)
     | 2 => !chanUnderCar s (slotBind s g)
     | _ => true)
  if ok then (t.put (F.TAC_OVR.FAULT g) 0).put (F.TAC_OVR.CONSEC g) 0 else t.ev F.TAC_SCHED_EVENT.REFUSED

/-- TAC_FAULT_CLR (R212). -/
def execTacFaultClr (core : Sender) (cpl : Word) (s : State) : Host.Outcome State Fault Refusal :=
  .next (cplWrite core Reg.TAC_FAULT_CLR cpl faultClrOp s)

/-- TAC_HO_CARc (07). -/
def hoCarWord (s : State) (c : Nat) : Word :=
  let r := s.car c
  let act := (ctrlSlot s 1 c).getD 0
  let st := match r.ho with
    | none => if r.hoFailed then 4 else 0
    | some h => match h.stage with
      | .offered => 1
      | .comparing => 2
      | .blending => if h.kind == .ownerIn && h.blend == 0 then 0 else 3
  let fails := match r.ho with
    | none => 0
    | some h => h.fails
  let left := match r.ho with
    | none => 0
    | some h => if h.stage == .blending then min h.blend (h.h + h.blend - s.tb.k) else 0
  wd (st * 2 ^ 24 + act * 2 ^ 16 + b2n r.owner * 2 ^ 15 + fails % 128 * 2 ^ 8 + left % 256)

end Sys2Proof.Machine
end

