-- ==== Sys2Proof/Machine/Cmm.lean ====
section
/-!
DEFINITION. Commutation and modulation (09): the conversion of latched demands into phase commands, and phase bands.
-/

namespace Sys2Proof.Machine

open Sys2Proof

/-! ### Inputs (Table 9.1) -/

/-- The channel's magnitudes and parameters in one conversion. -/
structure ConvIn where
  typ : Nat
  iq : Int
  id : Int
  iqP : Int
  idP : Int
  pos : Int
  vel : Int
  vbus : Nat
  temp : Int
  ts : Nat
  deriving DecidableEq, Repr

/-- The inputs of channel n at this boundary: in Standby both demands are 0 (03 R60); in a fresh start the previous demands
equal the present ones (R276). -/
def convIn (s : State) (n : Nat) : ConvIn :=
  let stby := s.mode == .standby
  let iq := if stby then 0 else (smGet 0 s.tide.latched (n * 2)).toInt
  let id := if stby then 0 else (smGet 0 s.tide.latched (n * 2 + 1)).toInt
  let v := s.chan n
  let p := ((s.cmmCh n).prev).getD (iq, id, 0)
  { typ := chanType s n, iq := iq, id := id, iqP := p.1, idP := p.2.1, pos := s.pairS (Reg.FBK_CH_POS_LO n),
    vel := (s.fb n).stVel, vbus := v.vbus, temp := v.temp, ts := s.tsNs }

/-! ### The voltage law (R278) -/

/-- Enable bit of a term, 0 or 1. -/
def enBit (s : State) (f : FRef) : Int := (s.get f : Int)

/-- RT in micro-ohm. -/
def cmmRT (s : State) (n : Nat) (temp : Int) : Int :=
  let rph : Int := s.get (F.CMM_CH_RES.RPH n)
  let al : Int := s.get (F.CMM_CH_RES.ALPHA n)
  rph * 1000 + enBit s (F.CMM_CH_CFG.EN_T n) * truncDiv (rph * al * (temp - 200)) 10000

/-- vd and vq in uV. -/
def voltages (s : State) (n : Nat) (c : ConvIn) : Int × Int :=
  let rt := cmmRT s n c.temp
  let ld : Int := s.get (F.CMM_CH_IND.L_D n)
  let lq : Int := s.get (F.CMM_CH_IND.L_Q n)
  let ke : Int := s.get (F.CMM_CH_KE.KE n)
  let lam : Int := s.get (F.CMM_CH_LAMBDA.LAMBDA n)
  let w := truncDiv (c.vel * 411775) lam
  let r := enBit s (F.CMM_CH_CFG.EN_R n)
  let l := enBit s (F.CMM_CH_CFG.EN_L n)
  let x := enBit s (F.CMM_CH_CFG.EN_X n)
  let e := enBit s (F.CMM_CH_CFG.EN_E n)
  let ts : Int := c.ts
  let vd := r * truncDiv (rt * c.id) 1000 + l * truncDiv (ld * (c.id - c.idP) * 1000000) ts -
    x * truncDiv (w * lq * c.iq) 65536000
  let vq := r * truncDiv (rt * c.iq) 1000 + l * truncDiv (lq * (c.iq - c.iqP) * 1000000) ts +
    x * truncDiv (w * ld * c.id) 65536000 + e * truncDiv (ke * c.vel) 1000
  (vd, vq)

/-- The electrical angle of a position (R279, 11 R352): 65,536 units a period, with ZERO added. -/
def elecAngle (s : State) (n : Nat) (p : Int) : Nat :=
  let lam : Int := s.get (F.CMM_CH_LAMBDA.LAMBDA n)
  let r := p % lam
  ((truncDiv (r * 65536) lam).toNat + s.get (F.CMM_CH_ZERO.ZERO n)) % 65536

/-- V, the vector magnitude in uV, and phi, its angle (R279). -/
def vector (s : State) (n : Nat) (c : ConvIn) : Nat × Nat :=
  let v := voltages s n c
  let mag := Nat.sqrt (v.1 * v.1 + v.2 * v.2).toNat
  let lead := s.getS (F.CMM_CH_CFG.LEAD n)
  let pp := c.pos + truncDiv (c.vel * (((3 * c.ts / 2 : Nat) : Int) + 1000 * lead)) 1000000000
  (mag, (elecAngle s n pp + angleRound 14 v.2 v.1) % 65536)

/-! ### Bands (R286, R287) -/

/-- Threshold UP[i] of the channel's set, i from 1 to 3. -/
def bandUp (s : State) (n i : Nat) : Nat :=
  let j := s.get (F.CMM_CH_CFG.BSET n)
  match i with
  | 1 => s.get (F.CMM_BSET_UP1.UP1 j)
  | 2 => s.get (F.CMM_BSET_UP2.UP2 j)
  | _ => s.get (F.CMM_BSET_UP3.UP3 j)

/-- `while (t < 3 && s >= UP[t+1]) t++`. -/
def bandRise (up : Nat → Nat) (v : Nat) : Nat → Nat → Nat
  | 0, t => t
  | k + 1, t => if t < 3 ∧ up (t + 1) ≤ v then bandRise up v k (t + 1) else t

/-- `while (t > 0 && s < UP[t] - HYST) t--`. -/
def bandFall (up : Nat → Nat) (hyst v : Nat) : Nat → Nat → Nat
  | 0, t => t
  | k + 1, t => if 0 < t ∧ (v : Int) < (up t : Int) - hyst then bandFall up hyst v k (t - 1) else t

/-- The target band from an applied band (R286). -/
def targetBand (s : State) (n band : Nat) (vel : Int) : Nat :=
  let up := bandUp s n
  let v := vel.natAbs
  let t := bandFall up (s.get (F.CMM_BSET_HYST.HYST (s.get (F.CMM_CH_CFG.BSET n)))) v 3 (bandRise up v 3 band)
  let f := s.get (F.CMM_CH_CFG.FORCE_BAND n)
  if f = 0 then t else min 3 (f - 1)

/-- Spacing and offset of the switching points of a pair of bands (Table 9.3). -/
def switchPoints (typ a b : Nat) : Nat × Nat :=
  if a = 3 ∨ b = 3 then (if typ = 1 then (16384, 8192) else (32768, 0))
  else if a = 2 ∨ b = 2 then (1024, 0)
  else (256, 0)

/-- phi reaches or passes a switching point on the way from phi_prev (R287). -/
def passes (g o phi prev : Nat) : Bool :=
  let d := sgn 16 (uns 16 ((phi : Int) - prev))
  let lo : Int := if 0 < d then (prev : Int) + 1 else (prev : Int) + d
  let hi : Int := if 0 < d then (prev : Int) + d else (prev : Int) - 1
  (phi + 65536 - o) % g == 0 || (d != 0 && decide (-((o - lo) / (g : Int)) ≤ (hi - o) / (g : Int)))

/-! ### From vector to phase commands (R282 to R285) -/

/-- FS in uV: the whole bus for DOOR2, half of it otherwise. -/
def fullScale (typ vbus : Nat) : Nat := if typ = 1 then vbus * 1000 else vbus * 500

/-- mmax. -/
def mMax (s : State) (n typ band : Nat) : Nat :=
  let vl := s.get F.CMM_CFG.VLIM
  if band = 3 then vl * 41722 / 32768
  else if typ ≠ 1 ∧ s.flag (F.CMM_CH_CFG.ZSI n) then vl * 37837 / 32768
  else vl

/-- A phase value limited to an s16 command (R285). -/
def limCmd (v : Int) : Int := clampI (-32767) 32767 v

/-- Signs of the Full band by sector (Table 9.2). -/
def fullSigns (typ phi : Nat) : Int × Int × Int :=
  if typ = 1 then
    match phi / 16384 with
    | 0 => (1, 1, 0)
    | 1 => (-1, 1, 0)
    | 2 => (-1, -1, 0)
    | _ => (1, -1, 0)
  else
    match (phi * 6 + 32768) / 65536 % 6 with
    | 0 => (1, -1, -1)
    | 1 => (1, 1, -1)
    | 2 => (-1, 1, -1)
    | 3 => (-1, 1, 1)
    | 4 => (-1, -1, 1)
    | _ => (1, -1, 1)

/-- The phase commands of magnitude m at angle phi in a band. -/
def phaseCmds (typ band m phi : Nat) (zsi : Bool) : Int × Int × Int :=
  if band = 3 then
    let k : Int := ((m * 25736 / 32768 : Nat) : Int)
    let g := fullSigns typ phi
    (limCmd (g.1 * k), limCmd (g.2.1 * k), limCmd (g.2.2 * k))
  else
    let step := if band = 0 then 64 else if band = 1 then 256 else 1024
    let q := (phi + step / 2) / step * step % 65536
    let mi : Int := m
    if typ = 1 then
      let cs := fxCosSin q 65536
      (limCmd (fxRound (mi * cs.1)), limCmd (fxRound (mi * cs.2)), 0)
    else
      let a := mi * fxCos (3 * q) 196608
      let b := mi * fxCos (3 * q + 131072) 196608
      let c := mi * fxCos (3 * q + 65536) 196608
      let o := if zsi then (max a (max b c) + min a (min b c)) / 2 else 0
      (limCmd (fxRound (a - o)), limCmd (fxRound (b - o)), limCmd (fxRound (c - o)))

/-! ### One conversion (R275 to R291) -/

/-- The conversion of channel n at this boundary. With FS = 0 the spec states no m, which is then a free value. -/
def convert (n : Nat) (s : State) : State :=
  let c := convIn s n
  let vp := vector s n c
  let phi := vp.2
  let old := (s.cmmCh n).prev
  let fresh := old.isNone
  let applied := if fresh then 0 else s.get (F.CMM_CH_STAT.BAND n)
  let t := targetBand s n applied c.vel
  let sw := switchPoints c.typ applied t
  let go := t != applied && (fresh || passes sw.1 sw.2 phi ((old.getD (0, 0, 0)).2.2))
  let band := if go then t else applied
  let low := decide (c.vbus < s.get F.CMM_CFG.VBUS_MIN * 1000)
  let fs := fullScale c.typ c.vbus
  let dr := s.draw
  let s0 := if fs = 0 ∧ low = false then dr.2 else s
  let m0 := if fs = 0 then dr.1 else vp.1 * 32768 / fs
  let mm := mMax s n c.typ band
  let sat := !low && decide (mm < m0)
  let m := if low then 0 else min m0 mm
  let p := phaseCmds c.typ band m phi (s.flag (F.CMM_CH_CFG.ZSI n))
  let s1 := s0.modCmm n (fun x =>
    if low then { x with prev := some (c.iq, c.id, phi), a := 0, b := 0, c := 0, fs := fs, mode := 0 }
    else { x with prev := some (c.iq, c.id, phi), a := p.1, b := p.2.1, c := p.2.2, fs := fs, mode := 1 })
  let s2 := ((((s1.put (F.CMM_CH_STAT.BAND n) band).put (F.CMM_CH_STAT.TARGET n) t).putB (F.CMM_CH_STAT.VSAT n) sat).putB
    (F.CMM_CH_STAT.VLOW n) low).put (F.CMM_CH_STAT.MODE n) (if low then 0 else 1)
  let s3 := (s2.put (F.CMM_CH_VEC.M n) m).put (F.CMM_CH_VEC.PHI n) phi
  let s4 := if go && !fresh then s3.ev F.CMM_EVENT.BAND else s3
  let s5 := if sat then
      ((s4.incSat (F.CMM_CH_STAT.VSAT_CNT n)).evBit (F.CMM_VSAT_MAP.VSAT (n / 32)) (n % 32)).ev F.CMM_EVENT.VSAT
    else s4
  if low then (s5.evBit (F.CMM_VLOW_MAP.VLOW (n / 32)) (n % 32)).ev F.CMM_EVENT.VLOW else s5

/-- Every enabled SEG3, DOOR2 and DOOR3 channel is converted (R275). -/
def convertAll (s : State) : State :=
  s.forN 128 (fun n t => if chanEn t n && chanType t n != 3 then convert n t else t)

/-- A fresh start is due on channel n (R276). -/
def cmmFresh (n : Nat) (s : State) : State := s.modCmm n (fun x => { x with prev := none })

end Sys2Proof.Machine
end

