-- ==== Sys2Proof/Machine/Slk.lean ====
section
/-!
DEFINITION. The Segment Link (13; 02 R44 to R54): frames sent, returned slots, losses, node faults, the buffer pool and
captures.
-/

namespace Sys2Proof.Machine

open Sys2Proof

/-! ### Ports and channels -/

/-- Port of channel n (01 R19). -/
def portOf (n : Nat) : Nat := n / 16
/-- Ring position of channel n. -/
def ringPos (n : Nat) : Nat := n % 16

/-- Enabled channels of port p, in ascending ring position (R413). -/
def portChans (s : State) (p : Nat) : List Nat := ((List.range 16).map (fun i => 16 * p + i)).filter (chanEn s)

/-- Whether port p is enabled. -/
def portEn (s : State) (p : Nat) : Bool := s.flag (F.SLK_PORT_CFG.EN p)

/-- Whether port p is powered: in Rescue only the ports left powered (03 R76). -/
def portPowered (s : State) (p : Nat) : Bool := s.servoOn && (s.mode != .rescue || s.pw.rescuePorts.testBit p)

/-- Return deadline of port p in ns after the boundary (R420); 0 while the port is disabled. -/
def dRet (s : State) (p : Nat) : Nat :=
  if portEn s p then 2480 + 1920 * (portChans s p).length + 300 * s.get (F.SLK_PORT_CFG.N_NODES p) else 0

/-- Port p's STATE changes (R431). -/
def setPortState (p v : Nat) (s : State) : State :=
  if s.get (F.SLK_PORT_STAT.STATE p) = v then s else (s.put (F.SLK_PORT_STAT.STATE p) v).ev F.SLK_EVENT.PORT

/-- Port p starts: idle for 100 us (R431). -/
def portStart (p : Nat) (s : State) : State :=
  setPortState p 1 (s.modPort p (fun _ => ⟨some s.tb.tick, false, false, false⟩))

/-- Port p sends no frame: the return inputs of its channels hold their last values, with HELD set (02 R46). -/
def portHeld (p : Nat) (s : State) : State := s.forL (portChans s p) (fun n t => t.put (F.SLK_CH_STAT.HELD n) 1)

/-- Port p stops. -/
def portStop (p : Nat) (s : State) : State := portHeld p (setPortState p 0 (s.modPort p (fun _ => SlkPort.init)))

/-- The 100 us of idle end: the port sends from the next boundary on (R431, 02 R46). -/
def portIdleEnd (p : Nat) (s : State) : State :=
  match (s.slkPort p).idleFrom with
  | none => s
  | some t => if t + 12500 ≤ s.tb.tick then s.modPort p (fun x => { x with idleFrom := none, ready := true }) else s

/-- PORT_IDLE_END (R431). -/
def execPortIdleEnd (port : Fin 8) (s : State) : Host.Outcome State Fault Refusal := .next (portIdleEnd port.val s)

/-! ### The buffer pool (02 R52 to R54) -/

/-- Reserve buffers free now. -/
def reserveFree (s : State) : Nat :=
  512 - 2 * ((List.range 128).filter (chanEn s)).length - b2n s.slk.cap.isSome - s.slk.retry.length

/-- MIN follows the free reserve buffers. -/
def notePool (s : State) : State :=
  let f := reserveFree s
  { s with slk := { s.slk with poolMin := some (match s.slk.poolMin with
    | none => f
    | some m => min m f) } }

/-- A reserve buffer for a failed slot of channel n under analysis; with none free, POOL_EXH (R52, R53). -/
def retryHold (n : Nat) (s : State) : State :=
  if 0 < reserveFree s then notePool { s with slk := { s.slk with retry := s.slk.retry ++ [n] } }
  else s.ev F.SLK_EVENT.POOL_EXH

/-- A failed slot of channel n waits for the period's grants. -/
def retryWait (n : Nat) (s : State) : State := { s with slk := { s.slk with failed := s.slk.failed ++ [n] } }

/-- Once every port's return is dealt with, reserve buffers go to the failed slots of the period in ascending channel order (R54). -/
def retryGrants (s : State) : State :=
  let t := s.forL ((List.range 128).filter (fun n => s.slk.failed.contains n)) retryHold
  { t with slk := { t.slk with failed := [] } }

/-- The analysis of a failed slot of channel n completes (R52). -/
def retryDone (n : Nat) (s : State) : State := { s with slk := { s.slk with retry := s.slk.retry.erase n } }

/-- RETRY_ANALYSIS_DONE (R52). -/
def execRetryAnalysisDone (ch : Fin 128) (s : State) : Host.Outcome State Fault Refusal := .next (retryDone ch.val s)

/-- A capture of channel n's receive (false) or transmit (true) buffer: refused with the reserve empty (R54); also where a
buffer is frozen already or the channel is disabled (log entry 41). -/
def captureOp (n : Nat) (tx : Bool) (s : State) : State :=
  if 0 < reserveFree s ∧ s.slk.cap = none ∧ chanEn s n then
    let b := if tx then (s.slkCh n).tx else (s.slkCh n).rx
    notePool { s with slk := { s.slk with cap := some (n, tx, b) } }
  else s.ev F.SLK_EVENT.CAP_REJ

/-- The frozen buffer returns to the reserve. -/
def captureRelease (s : State) : State := { s with slk := { s.slk with cap := none } }

/-- A SLK_CAP write. -/
def slkCapOp (v : Word) (s : State) : State :=
  match getF F.SLK_CAP.OP.bits v with
  | 1 => captureOp (getF F.SLK_CAP.CH.bits v) false s
  | 2 => captureOp (getF F.SLK_CAP.CH.bits v) true s
  | 3 => captureRelease s
  | _ => s

/-- A SLK_CAP row: the write whose OP is that row's. -/
def slkCapRow (core : Sender) (op : Nat) (v : Word) (s : State) : State :=
  writeCmd core Reg.SLK_CAP (fun t => if getF F.SLK_CAP.OP.bits v = op then slkCapOp v t else t) s

/-- CAPTURE_RECEIVE_BUFFER (R54). -/
def execCaptureReceiveBuffer (core : Sender) (val : Word) (s : State) : Host.Outcome State Fault Refusal :=
  .next (slkCapRow core 1 val s)
/-- CAPTURE_TRANSMIT_BUFFER (R54). -/
def execCaptureTransmitBuffer (core : Sender) (val : Word) (s : State) : Host.Outcome State Fault Refusal :=
  .next (slkCapRow core 2 val s)
/-- CAPTURE_RELEASE (R52). -/
def execCaptureRelease (core : Sender) (val : Word) (s : State) : Host.Outcome State Fault Refusal :=
  .next (slkCapRow core 3 val s)

/-- SLK_CAP_STAT. -/
def capStatWord (s : State) : Word :=
  match s.slk.cap with
  | none => 0
  | some (n, tx, _) => wd (2 ^ 31 + b2n tx * 2 ^ 30 + n)

/-- SLK_CAP_DATAw: bytes beyond the slot read 0. -/
def capDataWord (s : State) (w : Nat) : Word :=
  match s.slk.cap with
  | none => 0
  | some (_, _, b) => wd (leVal ((List.range 4).map (fun i => b.getD (4 * w + i) 0)))

/-- SLK_POOL. -/
def poolWord (s : State) : Word :=
  match s.slk.poolMin with
  | none => 0
  | some m => wd (reserveFree s * 2 ^ 16 + m)

/-! ### Frames sent (R412 to R417) -/

/-- The axis that feeds SETP channel n (R292). -/
def feederOf (s : State) (n : Nat) : Option Nat :=
  (List.range 8).find? (fun a => axisEn s a && s.flag (F.TRJ_AXIS_CFG.SETP_EN a) && s.get (F.TRJ_AXIS_CFG.SETP_CH a) == n)

/-- Drive mode of channel n (09 Table 9.4). -/
def driveMode (s : State) (n : Nat) : Nat :=
  if chanType s n = 3 then (if (feederOf s n).isSome then 2 else 0) else (s.cmmCh n).mode

/-- Bytes 4 to 11 of a command slot. -/
def slotBody (s : State) (n : Nat) : List Byte :=
  match driveMode s n with
  | 1 =>
    let c := s.cmmCh n
    [BitVec.ofNat 8 (s.get (F.SLK_CH_CFG.SAFE_PAT n)), 0] ++ leBytes 2 (uns 16 c.a) ++ leBytes 2 (uns 16 c.b) ++
      leBytes 2 (uns 16 c.c)
  | 2 => leBytes 8 (uns 64 (s.axis ((feederOf s n).getD 0)).spPos)
  | _ => leBytes 8 0

/-- Command slot of channel n with its CRC (Table 13.2). -/
def cmdSlot (s : State) (stoA stoB : Bool) (n : Nat) : List Byte :=
  let b : List Byte :=
    [BitVec.ofNat 8 (ringPos n * 16 + chanType s n * 4),
     BitVec.ofNat 8 (b2n stoA * 128 + b2n stoB * 64 + driveMode s n * 16),
     BitVec.ofNat 8 s.tb.k,
     BitVec.ofNat 8 (s.get (F.SLK_CH_CFG.SAFE n) * 128 + s.get (F.SLK_CH_CFG.T_SIL n))] ++ slotBody s n
  b ++ wordBytes (crc32c b)

/-- A placeholder return slot (R417). -/
def placeholder (n : Nat) : List Byte :=
  let b : List Byte := BitVec.ofNat 8 (ringPos n * 16) :: leBytes 27 0
  b ++ wordBytes (~~~ crc32c b)

/-- Header bytes 1 to 9 of the frame of period k with e slots (Table 13.1). -/
def frameHdr (k e : Nat) : List Byte :=
  let b : List Byte := 1 :: leBytes 4 k ++ [BitVec.ofNat 8 e, 0, 0]
  b ++ [crc8 b]

/-- Whether port p sends a frame at this boundary (02 R46). -/
def portSends (s : State) (p : Nat) : Bool :=
  portEn s p && portPowered s p && (s.slkPort p).ready && !s.nv.lc.fenced

/-- Port p at a boundary: it sends its frame, every command slot sampling both STO requests, and HELD stands until the slot's return; a
port that sends none leaves its channels held (R412, R416, 02 R46). -/
def portBoundary (stoA stoB : Nat → Bool) (p : Nat) (s : State) : State :=
  let cs := portChans s p
  let held := s.forL cs (fun n t =>
    (if portSends s p then t else t.put (F.SLK_CH_STAT.HELD n) 1).modChan n (fun v => { v with got := false }))
  if portSends s p then
    let slots := cs.map (fun n => cmdSlot s (stoA n) (stoB n) n)
    let frame := frameHdr s.tb.k cs.length ++ slots.flatten ++ (cs.map placeholder).flatten
    let t := held.forL (cs.zip slots) (fun q u => u.modSlkCh q.1 (fun x => { x with tx := q.2, seq := s.tb.k % 256 }))
    { t with slk := { t.slk with wire := smPut t.slk.wire p frame } }.modPort p (fun x => { x with sent := true, done := false })
  else
    { held with slk := { held.slk with wire := smErase held.slk.wire p } }.modPort p
      (fun x => { x with sent := false, done := false })

/-- Every port at a boundary. -/
def slkBoundary (stoA stoB : Nat → Bool) (s : State) : State := s.forN 8 (portBoundary stoA stoB)

/-! ### Returned slots (R418 to R425) -/

/-- Field of `len` bytes at `o` of a slot. -/
def slotAt (b : List Byte) (o len : Nat) : Nat := leVal ((b.drop o).take len)
/-- The same read as two's complement. -/
def slotAtS (b : List Byte) (o len : Nat) : Int := sgn (8 * len) (slotAt b o len)

/-- A returned slot passes its checks: CRC, RH of the ring position (Table 13.3), and NODE_ID where one is expected (R422). -/
def slotOk (s : State) (n : Nat) (b : List Byte) : Bool :=
  b.length == 32 && (b.drop 28 == wordBytes (crc32c (b.take 28))) && slotAt b 0 1 == ringPos n * 16 &&
  (s.reg (Reg.SLK_CH_NODEID n) == 0 || s.reg (Reg.SLK_CH_NODEID n) == wd (slotAt b 24 4))

/-- A period is lost for channel n: the consecutive count rises, and a second one declares a node fault (R425). -/
def periodLost (n : Nat) (s : State) : State :=
  let c := min 2 (s.get (F.SLK_CH_STAT.CONSEC n) + 1)
  let t := s.put (F.SLK_CH_STAT.CONSEC n) c
  if c = 2 ∧ nodeFault t n = false then
    (((t.ev (F.SLK_CH_STAT.FAULT n)).evBit (F.SLK_FAULT_MAP.FAULT (n / 32)) (n % 32)).ev F.SLK_EVENT.NODE_FAULT)
  else t

/-- Channel n's return slot is lost (R423). -/
def slotLost (n : Nat) (s : State) : State :=
  periodLost n (((s.putB (F.SLK_CH_STAT.HELD n) true).incSat (F.SLK_CH_CNT.RX_LOST n)).ev F.SLK_EVENT.SLOT_LOST)

/-- Channel n's return slot is accepted: its data enter the Tide inputs and the samples (R419); another CSEQ than was sent
counts the period as lost (R424). -/
def slotAccept (n : Nat) (b : List Byte) (s : State) : State :=
  let st := slotAt b 2 2
  let smp : Sample := ⟨slotAtS b 10 2, slotAtS b 12 2, slotAtS b 14 2, slotAtS b 16 2, st.testBit 5, st.testBit 6⟩
  let t := (s.modChan n (fun v =>
      { v with
        smp := smp
        got := true
        iA := 5 * slotAtS b 4 2
        iB := 5 * slotAtS b 6 2
        iC := 5 * slotAtS b 8 2
        vbus := 20 * slotAt b 18 2
        temp := slotAtS b 20 2 })).modSlkCh n (fun x => { x with rx := b })
  let u := (t.putB (F.SLK_CH_STAT.HELD n) false).put (F.SLK_CH_STAT.NSTAT n) st
  if slotAt b 1 1 = (s.slkCh n).seq then u.put (F.SLK_CH_STAT.CONSEC n) 0
  else periodLost n (u.incSat (F.SLK_CH_CNT.TX_LOST n))

/-- One returned slot of channel n: a failing one waits to be held for analysis (R52). -/
def slotReturn (n : Nat) (b : List Byte) (s : State) : State :=
  if slotOk s n b then slotAccept n b s else slotLost n (retryWait n s)

/-- A frame's loss: every slot of the port is lost and FRAME_LOSS rises (R422); STATE follows the returned header, 2 where it is
valid and 3 where it is lost (R431). -/
def frameLost (header : Bool) (p : Nat) (s : State) : State :=
  setPortState p (if header then 2 else 3) ((s.forL (portChans s p) slotLost).incSat (F.SLK_PORT_STAT.FRAME_LOSS p))

/-- Port p awaits the return of the frame of this period. -/
def awaiting (s : State) (p : Nat) : Bool :=
  s.servoOn && decide (s.tide.stage = .link) && (s.slkPort p).sent && !(s.slkPort p).done

/-- The return of the frame of this period is dealt with. -/
def portDone (p : Nat) (s : State) : State := s.modPort p (fun x => { x with done := true })

/-- A returned header is right: TYPE, PERIOD, E and HCRC (R422). -/
def hdrOk (k e : Nat) (h : List Byte) : Bool :=
  h.length == 9 && h.take 6 == (frameHdr k e).take 6 && h.drop 8 == [crc8 (h.take 8)]

/-- A returned frame: a header fault or a missing EOF loses it, else each slot is checked (R422). -/
def frameReturn (p : Nat) (f : RetFrame) (s : State) : State :=
  if awaiting s p then
    let cs := portChans s p
    let header := f.sof && hdrOk s.tb.k cs.length f.hdr
    portDone p
      (if header && f.eof && f.slots.length == cs.length then
        setPortState p 2 (s.forL (cs.zip f.slots) (fun q t => slotReturn q.1 q.2 t))
      else frameLost header p s)
  else s

/-- The return deadline passes without the frame (R420, R422). -/
def frameDeadline (p : Nat) (s : State) : State := if awaiting s p then portDone p (frameLost false p s) else s

/-- Every port's return is dealt with: the compute window can open (02 R47). -/
def windowReady (s : State) : Bool :=
  s.servoOn && decide (s.tide.stage = .link) && (List.range 8).all (fun p => !(s.slkPort p).sent || (s.slkPort p).done)

/-! ### Clearing a node fault (R426) -/

/-- SLK_NODE_CLR: accepted while no car's array overlaps the channel's segment, else CAP_REJ. -/
def nodeClrOp (v : Word) (s : State) : State :=
  let t := keepVal Reg.SLK_NODE_CLR v s
  let n := getF F.SLK_NODE_CLR.CH.bits v
  if chanUnderCar s n then t.ev F.SLK_EVENT.CAP_REJ else t.put (F.SLK_CH_STAT.FAULT n) 0

/-- SLK_NODE_CLR (R426). -/
def execSlkNodeClr (core : Sender) (cpl : Word) (s : State) : Host.Outcome State Fault Refusal :=
  .next (cplWrite core Reg.SLK_NODE_CLR cpl nodeClrOp s)

end Sys2Proof.Machine
end

