-- ==== Sys2Proof/Machine/Fbk.lean ====
section
/-!
DEFINITION. Position and speed feedback (10): counts, pairs, the observer, the period method, car sensor positions, commands
and encoder emulation.
-/

namespace Sys2Proof.Machine

open Sys2Proof

/-! ### Counts and positions (R295 to R297) -/

/-- Counts per signal period. -/
def perPeriod : Int := 16384

/-- The difference d of R295 for a sample (s, c) after count `cnt`; a sample of zeros has no phase. -/
def phaseDelta (cnt sn cs : Int) : Int :=
  if sn = 0 ∧ cs = 0 then 0
  else (((angleRound 12 sn cs : Nat) : Int) - cnt % perPeriod + 8191) % perPeriod - 8191

/-- Count size of channel n in um as a fraction (Table 10.2); serial: the LSB in nm over 1,000. -/
def countSize (s : State) (n : Nat) : Int × Int :=
  if n < 136 then (((s.reg (Reg.FBK_CH_SCALE n)).toNat : Int), perPeriod)
  else if s.get (F.FBK_PORT_STAT.STATE (n - 136)) = 3 then (((s.reg (Reg.FBK_CH_SCALE n)).toNat : Int), 1000)
  else (((s.ser (n - 136)).lsb : Int), 1000)

/-- A count's position on pair k of link channel n (Table 10.2). -/
def pairPos (s : State) (n k : Nat) (c : Int) : Int :=
  c * ((s.reg (Reg.FBK_CH_SCALE n)).toNat : Int) / perPeriod +
    (if k = 0 then s.regS (Reg.FBK_CH_OFS0 n) else s.regS (Reg.FBK_CH_OFS1 n))

/-- The multiple of a period that brings `pos` nearest to `want`; a tie goes to the lower position (R300, R301). -/
def nearestPeriod (per pos want : Int) : Int := -((per - 2 * (want - pos)) / (2 * per))

/-! ### Coverage (R299) -/

/-- Shaft position of pair k's sensor of channel n, if the channel drives a segment. -/
def sensorPos (s : State) (n k : Nat) : Option Int :=
  ((ownSegs s.conf.geom).find? (fun x => x.chan == n)).map (fun x =>
    x.lo + ((if k = 0 then s.reg (Reg.FBK_CH_SENS0 n) else s.reg (Reg.FBK_CH_SENS1 n)).toNat : Int))

/-- The car record that covers a pair: its array, at the position of the period before, holds the sensor at least EDGE from
both ends; a record without a valid sensor position covers nothing. -/
def coverOf (s : State) (n k : Nat) : Option Nat :=
  if isSection s then
    match sensorPos s n k with
    | none => none
    | some x =>
      let e : Int := s.get F.FBK_LINK.EDGE
      (heldCars s).find? (fun c =>
        let r := s.car c
        r.posValid && decide (arrLo r + e ≤ x) && decide (x + e ≤ arrLo r + r.arrLen))
  else none

/-- P_pred of R300. -/
def predPos (s : State) (c : Nat) : Int :=
  (s.car c).pos + rdivAway ((s.car c).vel * (s.tsNs : Int)) 1000000000

/-! ### One pair's sample (R298 to R309) -/

/-- What a sample makes of a pair. -/
structure PairOut where
  p : FbPair
  d : Int
  seeded : Bool
  idx : Option Int
  newFault : Bool
  deriving DecidableEq, Repr

/-- NOM squared of a channel. -/
def nomSq (s : State) (n : Nat) : Int := (s.get (F.FBK_CH_CFG.NOM n) : Int) ^ 2

/-- PRESENT: s^2 + c^2 is at least 0.16 NOM^2 (R298). -/
def ampPresent (s : State) (n : Nat) (amp : Int) : Bool := decide (16 * nomSq s n ≤ 100 * amp)

/-- A violation by amplitude or alias (R308, R296). -/
def ampViolation (s : State) (n : Nat) (amp d : Int) : Bool :=
  decide (100 * amp < 49 * nomSq s n) || decide (169 * nomSq s n < 100 * amp) || decide (6144 ≤ d.natAbs)

/-- A pair's index registers: IDX_MODE ALWAYS, or ONCE after OP 1 (R301). -/
def idxTakes (s : State) (n : Nat) (p : FbPair) : Bool := !s.flag (F.FBK_CH_CFG.IDX_MODE n) || p.once

/-- What a pair's count and reference are formed with, for one of the two who form them, FBK and the safety core (15 R466): the
covering car and its predicted position, signal period, offset, the sensor's position with MARK taken off, whether an index
registers, and whether the signal is supervised. -/
structure PairEnv where
  cover : Option Nat
  pred : Int
  per : Int
  ofs : Int
  target : Option Int
  takes : Bool
  sup : Bool
  deriving DecidableEq, Repr

/-- Whole periods that bring a count nearest to a position. -/
def periodsTo (e : PairEnv) (c want : Int) : Int := perPeriod * nearestPeriod e.per (c * e.per / perPeriod + e.ofs) want

/-- A section's pair (R298 to R301, R308, R309). -/
def pairTake (s : State) (n : Nat) (e : PairEnv) (sn cs : Int) (ix : Bool) (p : FbPair) : PairOut :=
  let amp := sn * sn + cs * cs
  let present := ampPresent s n amp
  let d := if present && !p.sigf then phaseDelta p.cnt sn cs else 0
  let absent := if present then 0 else min 2 (p.absent + 1)
  let sup := e.sup && e.cover.isSome && !p.sigf
  let viol := if sup then (if ampViolation s n amp d then p.viol + 1 else 0) else p.viol
  let fault := sup && decide (3 ≤ viol)
  let sigf := p.sigf || fault
  let ref1 := p.ref && decide (absent < 2) && !sigf
  let c1 := p.cnt + d
  let seed := present && !sigf && e.cover.isSome && !ref1
  let c2 := if seed then c1 + periodsTo e c1 e.pred else c1
  let reg := present && !sigf && ix && e.takes && e.target.isSome
  let add := if reg then periodsTo e c2 (e.target.getD 0) else 0
  { p := { p with
           cnt := c2 + add
           ref := ref1 || seed || reg
           sigf := sigf
           viol := viol
           absent := absent
           present := present
           cover := e.cover
           once := p.once && !reg }
    d := d
    seeded := seed
    idx := if reg then some add else none
    newFault := fault }

/-- FBK's own view of pair k of channel n. -/
def fbkEnv (s : State) (n k : Nat) (p : FbPair) : PairEnv where
  cover := coverOf s n k
  pred := predPos s ((coverOf s n k).getD 0)
  per := (s.reg (Reg.FBK_CH_SCALE n)).toNat
  ofs := if k = 0 then s.regS (Reg.FBK_CH_OFS0 n) else s.regS (Reg.FBK_CH_OFS1 n)
  target := (sensorPos s n k).map (fun x => x - s.regS Reg.FBK_MARK)
  takes := idxTakes s n p
  sup := true

/-- A section device's pair k of channel n (R298 to R301, R308, R309). -/
def pairSection (s : State) (n k : Nat) (sn cs : Int) (ix : Bool) (p : FbPair) : PairOut := pairTake s n (fbkEnv s n k p) sn cs ix p

/-- A car device's pair of a door channel (R307). -/
def pairDoor (s : State) (n : Nat) (sn cs : Int) (ix : Bool) (p : FbPair) : PairOut :=
  let amp := sn * sn + cs * cs
  let present := ampPresent s n amp
  let first := !p.started && present && !p.sigf
  let d := if p.started && !p.sigf then phaseDelta p.cnt sn cs else 0
  let viol := if p.sigf then p.viol else if ampViolation s n amp d then p.viol + 1 else 0
  let fault := !p.sigf && decide (3 ≤ viol)
  let sigf := p.sigf || fault
  let c1 := if first then ((angleRound 12 sn cs : Nat) : Int) else p.cnt + d
  let reg := ix && idxTakes s n p
  { p := { p with
           cnt := c1
           started := p.started || first
           ref := (p.ref || first) && !sigf
           sigf := sigf
           viol := viol
           present := present
           once := p.once && !reg }
    d := d
    seeded := first
    idx := if reg then some c1 else none
    newFault := fault }

/-! ### Results and maps -/

/-- An IDX result of channel n (R301). -/
def idxResult (n : Nat) (v : Int) (s : State) : State :=
  ((s.resultPair (Reg.FBK_CH_IDX_LO n) v).evBit (F.FBK_IDX_MAP.MAP (n / 32)) (n % 32)).ev F.FBK_EVENT.IDX

/-- A direction change of channel n (R320). -/
def dirResult (n : Nat) (s : State) : State :=
  (s.evBit (F.FBK_DIR_MAP.MAP (n / 32)) (n % 32)).ev F.FBK_EVENT.DIR

/-! ### The observer (R316) -/

/-- One count in the observer's units. -/
def obsOne : Int := 2 ^ 40

/-- The observer's pole p = exp(-2 pi B T), in fixed point. -/
def obsPole (bw ts : Nat) : Int := fxExpNeg (fxTwoPi * (bw : Int) * (ts : Int) / 1000000000)

/-- The observer started at a count. -/
def obsStart (c : Int) (f : FbCh) : FbCh := { f with x := c * obsOne, v := 0, a := 0, live := true }

/-- One prediction, corrected by a measured count unless the sample is held (R311). -/
def obsStep (bw ts : Nat) (c : Option Int) (f : FbCh) : FbCh :=
  let t : Int := ts
  let xp := f.x + f.v * t / 1000000000 + f.a * t * t / 2000000000000000000
  let vp := f.v + f.a * t / 1000000000
  match c with
  | none => { f with x := xp, v := vp }
  | some c =>
    let p := obsPole bw ts
    let q := fxOne - p
    let p3 := p * p / fxOne * p / fxOne
    let q2 := q * q / fxOne
    let g1 := fxOne - p3
    let g2 := 3 * (q2 * (fxOne + p) / fxOne) / 2
    let g3 := q2 * q / fxOne
    let e := c * obsOne - xp
    { f with
      x := xp + g1 * e / fxOne
      v := vp + g2 * e * 1000000000 / (fxOne * t)
      a := f.a + g3 * e * 1000000000000000000 / (fxOne * t * t) }

/-- Observer speed in um/s, rounded. -/
def obsVel (s : State) (n : Nat) : Int :=
  let z := countSize s n
  rdivAway ((s.fb n).v * z.1) (obsOne * z.2)

/-- Observer acceleration in um/s^2, rounded (R315). -/
def obsAcc (s : State) (n : Nat) : Int :=
  let z := countSize s n
  rdivAway ((s.fb n).a * z.1) (obsOne * z.2)

/-! ### The period method (R317 to R320) -/

/-- An edge to count `c` at time `t`, downward or not: a first count in the other direction restarts the method. -/
def perEdge (n t : Nat) (c : Int) (down : Bool) (s : State) : State :=
  let f := s.fb n
  let z := countSize s n
  if down != f.dirDn then
    dirResult n (s.modFb n (fun x => { x with dirDn := down, edge := true, pv := none, eC := c, eT := t }))
  else if f.edge && decide (f.eT < t) then
    let v := rdivAway ((c - f.eC) * z.1 * 1000000000) (z.2 * ((t : Int) - f.eT))
    s.modFb n (fun x => { x with pv := some v, eC := c, eT := t })
  else s.modFb n (fun x => { x with edge := true, eC := c, eT := t })

/-- T_ZERO of channel n in ns. -/
def tZero (s : State) (n : Nat) : Nat := s.get (F.FBK_SPD_OBS.T_ZERO (s.get (F.FBK_CH_CFG.SPD n))) * 1000000

/-- The method restarts at time t: after enabling, seeding, clearing or a pair change (R319). -/
def perRestart (n t : Nat) (s : State) : State :=
  s.modFb n (fun x => { x with
    edge := false, pv := none, eT := t, stand := x.stand.map (fun y => { y with eT := t, pv := none }) })

/-- The channel as stage 3 sees its edges: an analog one as it stood at the boundary (R313). -/
def atBoundary (f : FbCh) : FbCh :=
  match f.stand with
  | some x => { f with p0 := { f.p0 with cnt := x.cnt }, eT := x.eT, pv := x.pv, moved := x.moved }
  | none => f

/-- What the period method reports at time t, and whether it is valid (R318, R319). -/
def perReport (s : State) (n t : Nat) : Int × Bool :=
  let f := atBoundary (s.fb n)
  if f.eT + tZero s n ≤ t then (0, true)
  else
    match f.pv with
    | none => (0, false)
    | some v =>
      if t ≤ f.eT then (v, true)
      else
        let z := countSize s n
        let lim := rdivAway (z.1 * 1000000000) (z.2 * ((t : Int) - f.eT))
        (if 0 ≤ v then min v lim else -(min (-v) lim), true)

/-- T_ZERO has passed with no edge: the next value needs two edges (R319). -/
def perZero (n t : Nat) (s : State) : State :=
  if (s.fb n).eT + tZero s n ≤ t then s.modFb n (fun x => { x with edge := false, pv := none }) else s

/-- SPEED_T_ZERO_EXPIRY on channel n: exactly 0 with SPD_VALID = 1 where the period method is the one reported (R319). -/
def speedZero (n : Nat) (s : State) : State :=
  let f := s.fb n
  if n < 144 ∧ s.servoOn ∧ fbEn s n ∧ f.live ∧ f.eT + tZero s n ≤ s.nowNs then
    let t := s.modFb n (fun x => { x with edge := false, pv := none, pok := true, sok := true })
    if s.flag (F.FBK_CH_CFG.METHOD n) = false ∧ f.useObs = false ∧ f.blend = 0 ∧ s.flag (F.FBK_CH_STAT.SIGF n) = false then
      (t.setReg (Reg.FBK_CH_VEL n) 0).put (F.FBK_CH_STAT.SPD_VALID n) 1
    else t
  else s

/-- SPEED_T_ZERO_EXPIRY (R319). -/
def execSpeedTZeroExpiry (ch : Nat) (s : State) : Host.Outcome State Fault Refusal := .next (speedZero ch s)

/-! ### The reported speed (R321, R322) -/

/-- The method in use and the change between methods for one sample: the channel's new state, the speed and SPD_VALID. -/
def methodStep (s : State) (n : Nat) (pv obs : Int) (pvalid : Bool) : FbCh × Int × Bool :=
  let f := s.fb n
  let sok0 := if pvalid || f.pok then pvalid else f.sok
  if s.flag (F.FBK_CH_CFG.METHOD n) then ({ f with useObs := true, blend := 0, pok := pvalid, sok := sok0 }, obs, true)
  else
    let j := s.get (F.FBK_CH_CFG.SPD n)
    let z := countSize s n
    let spd : Int := (f.v.natAbs : Int) * z.1
    let lo : Int := (s.get (F.FBK_SPD_LO.V_LO j) : Int) * obsOne * z.2
    let hi : Int := (s.get (F.FBK_SPD_HI.V_HI j) : Int) * obsOne * z.2
    let up := f.blend == 0 && !f.useObs && decide (hi ≤ spd)
    let dn := f.blend == 0 && f.useObs && decide (spd < lo) && pvalid
    let blend := if up || dn then 1 else f.blend
    let bto := if up then true else if dn then false else f.bto
    let sok := sok0 || up || dn
    if blend = 0 then
      if f.useObs then ({ f with pok := pvalid, sok := sok }, obs, sok) else ({ f with pok := pvalid, sok := sok }, pv, pvalid)
    else
      let old := if bto then pv else obs
      let new := if bto then obs else pv
      let rep := old + truncDiv ((new - old) * (blend : Int)) 8
      let g := if 8 ≤ blend then { f with useObs := bto, blend := 0, bto := bto, pok := pvalid, sok := sok }
        else { f with blend := blend + 1, bto := bto, pok := pvalid, sok := sok }
      (g, rep, sok)

/-- A channel reports position, speed and acceleration of this stage 3 (R315). -/
def report (n t : Nat) (pos : Int) (s : State) : State :=
  let pr := perReport s n t
  let s1 := perZero n t s
  let m := methodStep s1 n pr.1 (obsVel s1 n) pr.2
  let s2 := s1.modFb n (fun _ => { m.1 with stVel := sgn 32 (uns 32 m.2.1) })
  let s3 := ((s2.setPairS (Reg.FBK_CH_POS_LO n) pos).setReg (Reg.FBK_CH_VEL n) (wdi m.2.1)).setReg (Reg.FBK_CH_ACC n)
    (wdi (obsAcc s2 n))
  ((s3.putB (F.FBK_CH_STAT.SPD_VALID n) m.2.2).putB (F.FBK_CH_STAT.BLEND n) (m.1.blend != 0)).putB
    (F.FBK_CH_STAT.METHOD n) m.1.useObs

/-- Observer bandwidth of channel n. -/
def obsBw (s : State) (n : Nat) : Nat := s.get (F.FBK_SPD_OBS.BW (s.get (F.FBK_CH_CFG.SPD n)))

/-! ### Signal faults (R308, R309) -/

/-- A signal fault makes channel n's SIGF: its bit in the map and the event. -/
def sigfRaise (n : Nat) (s : State) : State :=
  ((s.put (F.FBK_CH_STAT.SIGF n) 1).evBit (F.FBK_SIGF_MAP.MAP (n / 32)) (n % 32)).ev F.FBK_EVENT.SIGF

/-- Configured pairs of a link channel (FBK_CHn_CFG.PAIRS). -/
def pairsOf (s : State) (n : Nat) : List Nat :=
  match s.get (F.FBK_CH_CFG.PAIRS n) with
  | 0 => [0]
  | 1 => [1]
  | _ => [0, 1]

/-- Pair k of a channel. -/
def pairOf (f : FbCh) (k : Nat) : FbPair := if k = 0 then f.p0 else f.p1

/-- Pair k set. -/
def setPairK (k : Nat) (p : FbPair) (f : FbCh) : FbCh := if k = 0 then { f with p0 := p } else { f with p1 := p }

/-! ### Stage 3 of a link channel (R295 to R311) -/

/-- The samples of pair k. -/
def pairSample (m : Sample) (k : Nat) : Int × Int × Bool :=
  if k = 0 then (m.sin0, m.cos0, m.idx0) else (m.sin1, m.cos1, m.idx1)

/-- One configured pair of a non-held sample: its new state is stored, its index result and fault reported; the list carries
each pair's difference and whether it was seeded. -/
def linkPair (n k : Nat) (q : State × List (Nat × Int × Bool)) : State × List (Nat × Int × Bool) :=
  let s := q.1
  let v := pairSample (s.chan n).smp k
  let p := pairOf (s.fb n) k
  let o := if isSection s then pairSection s n k v.1 v.2.1 v.2.2 p else pairDoor s n v.1 v.2.1 v.2.2 p
  let t := s.modFb n (setPairK k o.p)
  let u := match o.idx with
    | some x => idxResult n x t
    | none => t
  (if o.newFault then u.ev F.FBK_EVENT.SIGF else u, q.2 ++ [(k, o.d, o.seeded)])

/-- A pair qualifies for selection (R302). -/
def qualifies (p : FbPair) : Bool := p.present && p.ref && !p.sigf

/-- The selected pair (R302). -/
def selectPair (f : FbCh) (ps : List Nat) : Nat := (ps.find? (fun k => qualifies (pairOf f k))).getD (ps.headD 0)

/-- The selected pair's count moved to by the observer and period method in one sample: restart after an enable, a shift after a pair
change, which keeps v and a even where the new pair is seeded in this sample (R302), restart after a seeding, else the sample itself. -/
def linkTrack (n b sel : Nat) (held seeded : Bool) (old : Int) (s : State) : State :=
  let f := s.fb n
  let c := (pairOf f sel).cnt
  if !f.live then perRestart n b (s.modFb n (fun x => obsStart c { x with sel := sel }))
  else if held then s.modFb n (obsStep (obsBw s n) s.tsNs none)
  else if sel != f.sel then
    let shift := (c - (pairOf f f.sel).cnt) * obsOne
    perRestart n b (s.modFb n (fun x => obsStep (obsBw s n) s.tsNs (some c) { x with sel := sel, x := x.x + shift }))
  else if seeded then perRestart n b (s.modFb n (obsStart c))
  else
    let t := s.modFb n (obsStep (obsBw s n) s.tsNs (some c))
    if c = old then t else perEdge n b c (decide (c < old)) t

/-- Link channel n in stage 3 of the period whose boundary lies at `b` ns. -/
def linkStage (b n : Nat) (s : State) : State :=
  let held := !(s.chan n).got
  let ps := pairsOf s n
  let f0 := s.fb n
  let r : State × List (Nat × Int × Bool) :=
    if held then
      (s.forL ps (fun k t => t.modFb n (fun x => setPairK k { pairOf x k with cover := coverOf t n k } x)), [])
    else ps.foldl (fun q k => linkPair n k q) (s, [])
  let s1 := r.1
  let f := s1.fb n
  let sel := selectPair f ps
  let p := pairOf f sel
  let own := r.2.find? (fun e => e.1 == sel)
  let seeded := own.any (fun e => e.2.2)
  let d := (own.map (fun e => e.2.1)).getD 0
  let allF := ps.all (fun k => (pairOf f k).sigf)
  let someF := ps.any (fun k => (pairOf f k).sigf)
  let covered := p.cover.isSome || isCar s
  let both := ps.length == 2 && qualifies f.p0 && qualifies f.p1
  let apart := decide (s.get F.FBK_LINK.AGREE < (pairPos s n 0 f.p0.cnt - pairPos s n 1 f.p1.cnt).natAbs)
  let st := ((((((((s1.put (F.FBK_CH_STAT.KIND n) 0).putB (F.FBK_CH_STAT.FREE n) (isSection s && p.ref && p.cover.isNone)).putB
    (F.FBK_CH_STAT.ALIAS n) (r.2.any (fun e => decide (6144 ≤ e.2.1.natAbs)))).putB (F.FBK_CH_STAT.COVERED n) covered).putB
    (F.FBK_CH_STAT.DISAGREE n) (both && apart)).put (F.FBK_CH_STAT.PAIR n) sel).putB (F.FBK_CH_STAT.PAIRF n)
    (ps.length == 2 && someF && !allF)).putB (F.FBK_CH_STAT.HELD n) held).putB (F.FBK_CH_STAT.REF n) p.ref
  if allF then
    let t := if s.flag (F.FBK_CH_STAT.SIGF n) then st else sigfRaise n st
    latchSample n b (t.pairS (Reg.FBK_CH_POS_LO n)) t
  else
    let t1 := linkTrack n b sel held seeded ((pairOf f0 sel).cnt) (st.put (F.FBK_CH_STAT.SIGF n) 0)
    let t2 := t1.modFb n (fun x => { x with moved := x.moved + d })
    let t3 := report n b (pairPos t2 n sel ((pairOf (t2.fb n) sel).cnt)) t2
    let t4 := t3.putB (F.FBK_CH_STAT.DIR n) (t3.fb n).dirDn
    latchSample n b (t4.pairS (Reg.FBK_CH_POS_LO n)) t4

/-- A channel that is not enabled starts afresh when it is; a signal fault stays latched (R310). -/
def fbOff (n : Nat) (s : State) : State :=
  s.modFb n (fun f =>
    { FbCh.init with
      stVel := f.stVel, moved := (atBoundary f).moved, movedAt := f.movedAt, p0 := { FbPair.init with sigf := f.p0.sigf }, p1 := { FbPair.init with sigf := f.p1.sigf } })

/-! ### Stage 3 of a privileged channel (R312 to R319) -/

/-- CNT of a privileged channel in stage 3. -/
def cntOf (s : State) (n : Nat) : Word := wdi (atBoundary (s.fb n)).p0.cnt

/-- The count and the edges of the last 1 us sample before the boundary stand for it (R313). -/
def standAnalog (s : State) : State :=
  s.forN 8 (fun a t =>
    if fbEn t (128 + a) then t.modFb (128 + a) (fun f => { f with stand := some ⟨f.p0.cnt, f.moved, f.eT, f.pv⟩ }) else t)

/-- Privileged channel n in stage 3. -/
def privStage (b n : Nat) (s : State) : State :=
  let f := atBoundary (s.fb n)
  let serial := decide (136 ≤ n)
  let up := serial && (s.get (F.FBK_PORT_STAT.STATE (n - 136)) == 2 || s.get (F.FBK_PORT_STAT.STATE (n - 136)) == 3)
  let held := serial && (f.lost || !up)
  let kind := if serial then (if s.get (F.FBK_PORT_STAT.STATE (n - 136)) = 3 then 3 else 2) else 1
  let st := ((((s.put (F.FBK_CH_STAT.KIND n) kind).putB (F.FBK_CH_STAT.HELD n) held).putB (F.FBK_CH_STAT.SIGF n)
    f.p0.sigf).putB (F.FBK_CH_STAT.REF n) (!f.p0.sigf && (!serial || up))).put (F.FBK_CH_STAT.PAIR n) 0
  if f.p0.sigf then (if n < 136 then latchSample n b (st.pairS (Reg.FBK_CH_POS_LO n)) st else st)
  else
    let t1 :=
      if !f.live then perRestart n b (st.modFb n (obsStart f.p0.cnt))
      else st.modFb n (obsStep (obsBw st n) st.tsNs (if held then none else some f.p0.cnt))
    let t2 := report n b (sgn 32 (cntOf t1 n).toNat) t1
    let t3 := t2.putB (F.FBK_CH_STAT.DIR n) (t2.fb n).dirDn
    if n < 136 then latchSample n b (t3.pairS (Reg.FBK_CH_POS_LO n)) t3 else t3

/-- A 1 us sample of analog channel 128 + a (R295, R308, R313, R317): count, supervision, edge and REF crossing. -/
def analogSample (a : Nat) (sn cs : Int) (ref : Bool) (s : State) : State :=
  let n := 128 + a
  if s.servoOn && fbEn s n then
    let f := s.fb n
    let amp := sn * sn + cs * cs
    let d := if f.p0.sigf then 0 else phaseDelta f.p0.cnt sn cs
    let viol := if f.p0.sigf then f.p0.viol else if ampViolation s n amp d then f.p0.viol + 1 else 0
    let fault := !f.p0.sigf && decide (3 ≤ viol)
    let c := f.p0.cnt + d
    let t := (s.modFb n (fun x =>
      { x with moved := x.moved + d, p0 := { x.p0 with cnt := c, viol := viol, sigf := x.p0.sigf || fault } })).putB
        (F.FBK_CH_STAT.ALIAS n) (decide (6144 ≤ d.natAbs))
    let u := if fault then sigfRaise n t else t
    let w := if d = 0 then u else perEdge n s.nowNs c (decide (d < 0)) u
    if ref then idxResult n ((wdi c).toNat : Int) w else w
  else s

/-- ANALOG_SAMPLE (R313). -/
def execAnalogSample (ch : Fin 8) (sn cs : Int) (ref : Bool) (s : State) : Host.Outcome State Fault Refusal :=
  .next (analogSample ch.val sn cs ref s)

/-! ### Car sensor positions (R304 to R306) -/

/-- Rounded mean of a list (0 of none). -/
def meanOf (l : List Int) : Int := if l.isEmpty then 0 else rdivAway l.sum (l.length : Int)

/-- The link channels that measure car c in this stage 3. -/
def carChans (s : State) (c : Nat) : List Nat :=
  (List.range 128).filter (fun n =>
    fbEn s n && (pairOf (s.fb n) (s.fb n).sel).cover == some c && s.flag (F.FBK_CH_STAT.REF n) &&
      !s.flag (F.FBK_CH_STAT.SIGF n) && !s.flag (F.FBK_CH_STAT.HELD n))

/-- Position of the last stage 3 of channel n. -/
def fbPos (s : State) (n : Nat) : Int := s.pairS (Reg.FBK_CH_POS_LO n)

/-- Car c takes a sensor position, speed and acceleration. -/
def carTakes (c : Nat) (pos vel acc : Int) (s : State) : State :=
  s.modCar c (fun r => { r with pos := pos, vel := vel, acc := acc, posValid := true, formed := true })

/-- Car c keeps its last position; POS_VALID is 0 (R304). -/
def carHolds (c : Nat) (s : State) : State := s.modCar c (fun r => { r with posValid := false })

/-- The roped source is usable: its port is in SSI, or in KSP with an LSB of 1,000 nm, and its channel has no signal fault
(R306). -/
def ropedOk (s : State) (n : Nat) : Bool :=
  let p := n - 136
  decide (136 ≤ n) && !s.flag (F.FBK_CH_STAT.SIGF n) &&
    (s.get (F.FBK_PORT_STAT.STATE p) == 3 || (s.get (F.FBK_PORT_STAT.STATE p) == 2 && (s.ser p).lsb == 1000))

/-- The sensor position of car c in stage 3 (R304, R306). -/
def carSense (c : Nat) (s : State) : State :=
  if s.flag F.FBK_ROPED.EN && s.get F.FBK_ROPED.CAR == c then
    let n := s.get F.FBK_ROPED.SRC
    if ropedOk s n then
      carTakes c ((cntOf s n).toInt + s.regS Reg.FBK_ROPED_OFS) (s.regS (Reg.FBK_CH_VEL n)) (s.regS (Reg.FBK_CH_ACC n)) s
    else carHolds c s
  else
    let use := carChans s c
    let m0 := meanOf (use.map (fbPos s))
    let lim := s.get F.FBK_LINK.AGREE
    let keep := use.filter (fun n => decide ((fbPos s n - m0).natAbs ≤ lim))
    let t := s.forL (use.filter (fun n => !keep.contains n)) (fun n u => u.put (F.FBK_CH_STAT.DISAGREE n) 1)
    if keep.isEmpty then carHolds c t
    else
      let vs := (keep.filter (fun n => s.flag (F.FBK_CH_STAT.SPD_VALID n))).map (fun n => s.regS (Reg.FBK_CH_VEL n))
      carTakes c (meanOf (keep.map (fbPos s))) (meanOf vs) (meanOf (keep.map (fun n => s.regS (Reg.FBK_CH_ACC n)))) t

/-! ### Encoder emulation (R323 to R326) -/

/-- Units of P in a um: every count size of Table 10.2 is a whole number of them. -/
def emuUnit : Int := 16384 * 1000

/-- The position change of channel n since the stage 3 before, in units of P: the count differences of R295 times the count size. -/
def emuStep (s : State) (n : Nat) : Int :=
  let z := countSize s n
  ((atBoundary (s.fb n)).moved - (s.fb n).movedAt) * z.1 * (emuUnit / z.2)

/-- Edges that P calls for: floor(P x 4 x LPM / 1,000). -/
def emuTarget (s : State) (e : Nat) : Int :=
  (s.emu e).base + (s.emu e).p * 4 * (s.get (F.FBK_EMU_CFG.LPM e) : Int) / (emuUnit * 1000)

/-- Channel n's differences are taken up to this stage 3. -/
def movedTaken (n : Nat) (s : State) : State := s.modFb n (fun f => { f with movedAt := (atBoundary f).moved })

/-- Emulation output e at the end of stage 3: at most T_s / 100 ns edges a period; a backlog beyond 4,096 is dropped and the
output re-based at the next period (R324, R325). -/
def emuStage (e : Nat) (s : State) : State :=
  if s.flag (F.FBK_EMU_CFG.EN e) then
    let d := emuStep s (s.get (F.FBK_EMU_CFG.SRC e))
    let s1 :=
      if (s.emu e).on = false then (s.modEmu e (fun _ => { Emu.init with on := true })).put (F.FBK_EMU_STAT.LOST e) 0
      else if (s.emu e).drop then s.modEmu e (fun m => { m with p := 0, base := m.edges, drop := false })
      else s.modEmu e (fun m => { m with p := m.p + d })
    let due := emuTarget s1 e - (s1.emu e).edges
    let cap : Int := ((s.tsNs / 100 : Nat) : Int)
    let go := clampI (-cap) cap due
    let back := (due - go).natAbs
    let s2 := s1.modEmu e (fun m => { m with edges := m.edges + go, drop := decide (4096 < back) })
    if 4096 < back then
      (((s2.put (F.FBK_EMU_STAT.LAG e) 1).put (F.FBK_EMU_STAT.LOST e) 1).put (F.FBK_EMU_STAT.BACKLOG e) 0).ev F.FBK_EVENT.EMU
    else (s2.putB (F.FBK_EMU_STAT.LAG e) (back != 0)).put (F.FBK_EMU_STAT.BACKLOG e) back
  else (s.modEmu e (fun _ => Emu.init)).setReg (Reg.FBK_EMU_STAT e) 0

/-- Lines A, B and Z of output e (R323, R325, R326): A leads B for rising P, INV reverses, Z is high with A and B in every
ZLINES-th line; a disabled output drives all low. -/
def emuLines (s : State) (e : Nat) : Bool × Bool × Bool :=
  if s.flag (F.FBK_EMU_CFG.EN e) then
    let q := (s.emu e).edges % 4
    let lead := q == 1 || q == 2
    let lag := q == 2 || q == 3
    let inv := s.flag (F.FBK_EMU_CFG.INV e)
    let z := s.flag (F.FBK_EMU_CFG.ZEN e) && q == 2 && (s.emu e).edges / 4 % (max 1 (s.get (F.FBK_EMU_Z.ZLINES e)) : Int) == 0
    (if inv then lag else lead, if inv then lead else lag, z)
  else (false, false, false)

/-! ### Stage 3 as a whole -/

/-- Time of boundary k in ns since the epoch (02 R41). -/
def boundaryNs (s : State) : Nat := s.tb.k * s.tsNs

/-- The receive buffer's currents and temperature as of this stage 3, for the stop scheduler's thread (02 R50). -/
def heatTaken (n : Nat) (s : State) : State :=
  s.modChan n (fun v => { v with heat := ⟨v.iA, v.iB, v.iC, v.temp⟩ })

/-- Stage 3: every channel, then the car positions, the latches, the emulation outputs and the compares with a feedback
source. -/
def stage3 (s : State) : State :=
  let b := boundaryNs s
  let s0 := s.forN 128 heatTaken
  let s1 := s0.forN 128 (fun n t => if fbEn t n then linkStage b n t else fbOff n t)
  let s2 := s1.forN 16 (fun i t => if fbEn t (128 + i) then privStage b (128 + i) t else fbOff (128 + i) t)
  let s3 := if isSection s then s2.forL (heldCars s2) carSense else s2
  compareStage false (((latchStage3 b s3).forN 4 emuStage).forN 144 movedTaken)

/-! ### Commands (R301, R310) -/

/-- The pairs a command names on channel n, none where it is refused: the channel is disabled, or a link channel's PAIR names
no pair or one not configured (R310). -/
def cmdPairs (s : State) (n pair : Nat) : Option (List Nat) :=
  if 144 ≤ n ∨ fbEn s n = false then none
  else if 128 ≤ n then some [0]
  else
    let ks := [0, 1].filter (fun k => pair.testBit k)
    if ks.isEmpty || ks.any (fun k => !(pairsOf s n).contains k) then none else some ks

/-- A refused FBK_CMD. -/
def fbkReject (s : State) : State := s.ev F.FBK_EVENT.CMD_REJ

/-- OP 1: the next index of the named pairs registers (R301). -/
def armOnce (n pair : Nat) (s : State) : State :=
  match cmdPairs s n pair with
  | none => fbkReject s
  | some ks => s.forL ks (fun k t => t.modFb n (fun f => setPairK k { pairOf f k with once := true } f))

/-- A door unit whose feedback channel clears a signal fault is unreferenced (11 R343). -/
def doorUnref (n : Nat) (s : State) : State :=
  s.forN 2 (fun d t =>
    if isCar t && t.flag (F.TRJ_DOOR_CFG.EN d) && t.get (F.TRJ_AXIS_CFG.BIND (t.get (F.TRJ_DOOR_CFG.AXIS d))) == n then
      t.modDoor d (fun x => { x with st := .unref })
    else t)

/-- OP 2: the signal fault of the named pairs is cleared, on a section's link pair only while it is neither PRESENT nor
COVERED (R307, R310). -/
def clearSigf (n pair : Nat) (s : State) : State :=
  match cmdPairs s n pair with
  | none => fbkReject s
  | some ks =>
    let f := s.fb n
    if n < 128 && isSection s && ks.any (fun k => (pairOf f k).present || (pairOf f k).cover.isSome) then fbkReject s
    else
      let had := ks.any (fun k => (pairOf f k).sigf)
      let t := s.forL ks (fun k t => t.modFb n (fun f =>
        setPairK k { pairOf f k with sigf := false, viol := 0, started := (pairOf f k).started && !(pairOf f k).sigf } f))
      let u := perRestart n s.nowNs (t.put (F.FBK_CH_STAT.SIGF n) 0)
      if had && n < 128 then doorUnref n u else u

/-- FBK_CMD OP 1 and OP 2; the serial port's OP 3 stands with the ports. -/
def fbkCmdRow (core : Sender) (op : Nat) (v : Word) (act : Nat → Nat → State → State) (s : State) : State :=
  writeCmd core Reg.FBK_CMD (fun t =>
    if getF F.FBK_CMD.OP.bits v = op then act (getF F.FBK_CMD.CH.bits v) (getF F.FBK_CMD.PAIR.bits v) t else t) s

/-- FBK_ARM_ONCE_INDEX (R301). -/
def execFbkArmOnceIndex (core : Sender) (val : Word) (s : State) : Host.Outcome State Fault Refusal :=
  .next (fbkCmdRow core 1 val armOnce s)
/-- FBK_CLEAR_SIGNAL_FAULT (R310). -/
def execFbkClearSignalFault (core : Sender) (val : Word) (s : State) : Host.Outcome State Fault Refusal :=
  .next (fbkCmdRow core 2 val clearSigf s)

end Sys2Proof.Machine
end

