-- ==== Sys2Proof/Machine/Serial.lean ====
section
/-!
DEFINITION. The serial ports of the feedback interface (10): KSP negotiation and transactions, SSI transfers.
-/

namespace Sys2Proof.Machine

open Sys2Proof

/-! ### State of a port (R331, R332) -/

/-- Feedback channel of serial port p. -/
def serChan (p : Nat) : Nat := 136 + p

/-- Port p clocks: the servo domains are on, its EN is 1 and its channel is enabled. -/
def portClocks (s : State) (p : Nat) : Bool := s.servoOn && s.flag (F.FBK_PORT_CFG.EN p) && fbEn s (serChan p)

/-- STATE of port p. -/
def serState (s : State) (p : Nat) : Nat := s.get (F.FBK_PORT_STAT.STATE p)

/-- STATE set; FBK_EVENT.PORT tells of a change. -/
def setSerState (p v : Nat) (s : State) : State :=
  if serState s p = v then s else (s.put (F.FBK_PORT_STAT.STATE p) v).ev F.FBK_EVENT.PORT

/-- The tick from which the clock of port p may start again: the monoflop time after an SSI transfer (R339), 2 us after a KSP transaction
(R327). -/
def clockWait (s : State) (p : Nat) : Nat :=
  s.tb.tick + (if serState s p = 3 then 125 * s.get (F.FBK_PORT_SSI.TM p) else 250)

/-- The 24 command bits of a KSP transaction (Table 10.3): CMD, 0, ARG, and the CRC-8 over the other two bytes (R328, R329). -/
def kspCommand (cmd arg : Nat) : Nat :=
  cmd % 16 * 2 ^ 20 + arg % 2 ^ 8 * 2 ^ 8 + (crc8 [BitVec.ofNat 8 (cmd % 16 * 16), BitVec.ofNat 8 arg]).toNat

/-- CMD of POS (Table 10.4). -/
def kspPos : Nat := 1
/-- CMD of IDENT. -/
def kspIdent : Nat := 2
/-- CMD of RATE. -/
def kspRate : Nat := 3

/-- Port p sends a command. -/
def kspSend (p cmd arg : Nat) (s : State) : State := s.modSer p (fun x => { x with cmd := kspCommand cmd arg })

/-- Negotiation begins: MODE 2 enters SSI at once; else the clock is held high and the rate sought is RATE_MAX (R332). -/
def negotiate (p : Nat) (s : State) : State :=
  let t := s.put (F.FBK_PORT_STAT.RATE p) 0
  if s.get (F.FBK_PORT_CFG.MODE p) = 2 then
    setSerState p 3 (t.modSer p (fun x =>
      { x with nego := none, busy := false, idle := if x.busy then clockWait s p else x.idle }))
  else
    setSerState p 1 (t.modSer p (fun x =>
      { x with nego := some (.hold s.tb.tick), code := s.get (F.FBK_PORT_CFG.RATE_MAX p), busy := false }))

/-- A failed attempt at rate code `c`: the clock is held high again and the rate sought is one code lower; at code 0 it stays
0 (R332; log entry 43). -/
def negoRetry (p c : Nat) (s : State) : State :=
  (s.put (F.FBK_PORT_STAT.RATE p) 0).modSer p (fun x => { x with nego := some (.hold s.tb.tick), code := c - 1 })

/-- A port that is off; a transfer it drops still keeps the clock high for its time (R327, R339). -/
def serOff (p : Nat) (s : State) : State :=
  setSerState p 0 ((s.put (F.FBK_PORT_STAT.RATE p) 0).modSer p (fun x =>
    { SerPort.init with idle := if x.busy then clockWait s p else x.idle }))

/-- A signal fault of a serial channel: it stays latched, and the port stops clocking (R309, R337). -/
def serFault (p : Nat) (s : State) : State :=
  let n := serChan p
  let t := s.modSer p (fun x => { x with nego := some (.pause s.tb.tick), busy := false })
  let u := setSerState p 1 (t.put (F.FBK_PORT_STAT.RATE p) 0)
  if (s.fb n).p0.sigf then u
  else sigfRaise n (u.modFb n (fun f => { f with p0 := { f.p0 with sigf := true, viol := 0, started := false } }))

/-! ### Loss (R308, R336) -/

/-- A transaction or transfer is lost: LOSS counts it; in KSP or SSI it is a violation, and the third in a row a signal
fault. -/
def serLost (p : Nat) (s : State) : State :=
  let n := serChan p
  let t := s.incSat (F.FBK_PORT_STAT.LOSS p)
  if serState s p = 2 ∨ serState s p = 3 then
    let v := (s.fb n).p0.viol + 1
    let u := t.modFb n (fun f => { f with lost := true, p0 := { f.p0 with viol := v } })
    if 3 ≤ v ∧ !(s.fb n).p0.sigf then serFault p u else u
  else t

/-- A sample of a serial channel: CNT is bits [31:0] of the word; the first one after an enable or a signal fault is no
difference (R295, R312). A channel with a signal fault stops counting (R309). -/
def serSample (p : Nat) (word t : Nat) (s : State) : State :=
  let n := serChan p
  let f := s.fb n
  if f.p0.sigf then s
  else
    let c := f.p0.cnt
    let w := sgn 32 word
    let d := if f.p0.started then sgn 32 (uns 32 (w - c)) else w - c
    let s1 := s.modFb n (fun x =>
      { x with
        p0 := { x.p0 with cnt := c + d, viol := 0, started := true }
        lost := false
        sampleT := t
        moved := if f.p0.started then x.moved + d else x.moved })
    let s2 := if f.p0.started && d != 0 then perEdge n t (c + d) (decide (d < 0)) s1 else s1
    latchSample n t (sgn 32 (uns 32 (c + d))) s2

/-! ### KSP (R328 to R337) -/

/-- The 42 bits of status and data the CRC-16 covers (Table 10.3). -/
def kspBits (r : KspResp) : Nat := (b2n r.err * 2 + b2n r.warn) * 2 ^ 40 + r.data % 2 ^ 40

/-- A response came whole: its start bit in time, its CRC-16 right (R336). -/
def kspCame (r : KspResp) : Bool := r.start && crc16 42 (kspBits r) == BitVec.ofNat 16 r.crc

/-- A response counts: it came whole and ERR is 0 (R336). -/
def kspValid (r : KspResp) : Bool := kspCame r && !r.err

/-- The channel's WARN bit is that of the last response that came whole, whatever the command (R336; log entry 43). -/
def kspWarn (p : Nat) (r : KspResp) (s : State) : State :=
  if kspCame r then s.putB (F.FBK_CH_STAT.WARN (serChan p)) r.warn else s

/-- A valid IDENT (Table 10.4): the ID pair, the LSB, the line delay; on the roped source an LSB other than 1,000 nm raises a
signal fault (R306). -/
def identTaken (p : Nat) (r : KspResp) (s : State) : State :=
  let id := r.data % 2 ^ 40
  let t := (((s.setPair (Reg.FBK_PORT_ID_LO p) id).modSer p (fun x => { x with lsb := id % 2 ^ 16 })).put
    (F.FBK_PORT_STAT.DELAY p) (satN 1023 (r.delay / 4)))
  if s.flag F.FBK_ROPED.EN && s.get F.FBK_ROPED.SRC == serChan p && id % 2 ^ 16 != 1000 then serFault p t else t

/-- Highest rate code an IDENT states. -/
def identRate (r : KspResp) : Nat := r.data / 2 ^ 29 % 8

/-- No IDENT was valid at 1 MHz (R334). -/
def noSensor (p : Nat) (s : State) : State :=
  if s.get (F.FBK_PORT_CFG.MODE p) = 0 then setSerState p 3 (s.modSer p (fun x => { x with nego := none }))
  else
    let n := serChan p
    let t := setSerState p 4 (s.modSer p (fun x => { x with nego := some (.pause s.tb.tick) }))
    if (s.fb n).p0.sigf then t
    else sigfRaise n (t.modFb n (fun f => { f with p0 := { f.p0 with sigf := true, viol := 0, started := false } }))

/-- The negotiation waits for the pause of R337. -/
def pausing (s : State) (p : Nat) : Bool :=
  match (s.ser p).nego with
  | some (.pause _) => true
  | _ => false

/-- A transaction of port p runs: a step of the negotiation, or a POS transaction in KSP. -/
def kspRuns (s : State) (p : Nat) : Bool :=
  match (s.ser p).nego with
  | some (.ident _) | some .rate | some (.verify _) => true
  | none => serState s p == 2 && (s.ser p).busy
  | _ => false

/-- A measured delay fails the negotiation at a rate code (R333). -/
def delayBad (c : Nat) (r : KspResp) : Bool := decide (500 < r.delay) && decide (0 < c)

/-- IDENT at 1 MHz is answered, or not for the third time (R332, R333, R334). -/
def identDone (p tries : Nat) (r : KspResp) (s : State) : State :=
  if kspValid r then
    let t := identTaken p r s
    let c := min (s.ser p).code (identRate r)
    if pausing t p then t
    else if delayBad c r then negoRetry p c t
    else kspSend p kspRate c (t.modSer p (fun x => { x with nego := some .rate, code := c }))
  else
    let lost := s.incSat (F.FBK_PORT_STAT.LOSS p)
    if tries + 1 < 3 then lost.modSer p (fun x => { x with nego := some (.ident (tries + 1)) }) else noSensor p lost

/-- RATE is answered: both ends change rate, and IDENT follows. A RATE that fails is taken as a failed attempt (log entry 43). -/
def rateDone (p : Nat) (r : KspResp) (s : State) : State :=
  if kspValid r then
    kspSend p kspIdent 0 ((s.modSer p (fun x => { x with nego := some (.verify 0) })).put (F.FBK_PORT_STAT.RATE p) (r.data % 8))
  else negoRetry p (s.ser p).code (s.incSat (F.FBK_PORT_STAT.LOSS p))

/-- IDENT at the new rate is answered: the third valid one enters KSP, any failure repeats one code lower (R332, R333). -/
def verifyDone (p good : Nat) (r : KspResp) (s : State) : State :=
  if kspValid r then
    let t := identTaken p r s
    if pausing t p then t
    else if delayBad (s.ser p).code r then negoRetry p (s.ser p).code t
    else if good + 1 < 3 then t.modSer p (fun x => { x with nego := some (.verify (good + 1)) })
    else setSerState p 2 (t.modSer p (fun x => { x with nego := none, busy := false }))
  else negoRetry p (s.ser p).code (s.incSat (F.FBK_PORT_STAT.LOSS p))

/-- POS is answered (R330, R336). -/
def posDone (p : Nat) (r : KspResp) (s : State) : State :=
  let t := s.modSer p (fun x => { x with busy := false })
  if kspValid r then serSample p r.data r.t t else serLost p t

/-- A transaction of port p ends (R327, R332, R336): the clock stays high for 2 us. -/
def kspDone (p : Nat) (r : KspResp) (s : State) : State :=
  if kspRuns s p then
    let t := kspWarn p r (s.modSer p (fun x => { x with idle := s.tb.tick + 250 }))
    match (s.ser p).nego with
    | some (.ident tries) => identDone p tries r t
    | some .rate => rateDone p r t
    | some (.verify good) => verifyDone p good r t
    | _ => posDone p r t
  else s

/-- KSP_CLOCK_HOLD_EXPIRY: the clock has been high for 1 ms, and IDENT is sent (R332). -/
def kspHoldExpiry (p : Nat) (s : State) : State :=
  match (s.ser p).nego with
  | some (.hold t0) =>
    if portClocks s p ∧ t0 + 125000 ≤ s.tb.tick then kspSend p kspIdent 0 (s.modSer p (fun x => { x with nego := some (.ident 0) }))
    else s
  | _ => s

/-- KSP_FAULT_PAUSE_EXPIRY: 2 ms after a signal fault the port negotiates again (R337). -/
def kspPauseExpiry (p : Nat) (s : State) : State :=
  match (s.ser p).nego with
  | some (.pause t0) => if portClocks s p ∧ t0 + 250000 ≤ s.tb.tick then negotiate p s else s
  | _ => s

/-- KSP_CLOCK_HOLD_EXPIRY (R332). -/
def execKspClockHoldExpiry (port : Fin 8) (s : State) : Host.Outcome State Fault Refusal := .next (kspHoldExpiry port.val s)
/-- KSP_FAULT_PAUSE_EXPIRY (R337). -/
def execKspFaultPauseExpiry (port : Fin 8) (s : State) : Host.Outcome State Fault Refusal :=
  .next (kspPauseExpiry port.val s)

/-- OP 3: negotiation starts again at any time; it needs a serial channel (R337). A port that is off has none to restart and
stays off. -/
def renegotiate (n _pair : Nat) (s : State) : State :=
  if 136 ≤ n ∧ n < 144 then (if portClocks s (n - 136) then negotiate (n - 136) s else s) else fbkReject s

/-- FBK_CMD: OP 1, 2 and 3 (10). -/
def fbkCmdOp (v : Word) (s : State) : State :=
  let ch := getF F.FBK_CMD.CH.bits v
  let pair := getF F.FBK_CMD.PAIR.bits v
  match getF F.FBK_CMD.OP.bits v with
  | 1 => armOnce ch pair s
  | 2 => clearSigf ch pair s
  | 3 => renegotiate ch pair s
  | _ => fbkReject s

/-- FBK_RENEGOTIATE_PORT (R337). -/
def execFbkRenegotiatePort (core : Sender) (val : Word) (s : State) : Host.Outcome State Fault Refusal :=
  .next (fbkCmdRow core 3 val renegotiate s)

/-! ### SSI (R338, R339) -/

/-- Binary value of an `n`-bit Gray code. -/
def grayToBin (n v : Nat) : Nat :=
  ((List.range n).foldl (fun q i =>
    let b := q.1 != v.testBit (n - 1 - i)
    (b, 2 * q.2 + b2n b)) (false, 0)).2

/-- Value of bits, the first the highest. -/
def msbVal (l : List Bool) : Nat := l.foldl (fun v b => 2 * v + b2n b) 0

/-- The data bits of a transfer: NBITS of them after the LEAD bits that are skipped (Table 10.5). -/
def ssiData (s : State) (p : Nat) (r : SsiResp) : List Bool :=
  (r.bits.drop (s.get (F.FBK_PORT_SSI.LEAD p))).take (s.get (F.FBK_PORT_SSI.NBITS p))

/-- The bits after the data: the parity bit if one is checked, then the error bits. -/
def ssiTail (s : State) (p : Nat) (r : SsiResp) : List Bool :=
  r.bits.drop (s.get (F.FBK_PORT_SSI.LEAD p) + s.get (F.FBK_PORT_SSI.NBITS p))

/-- A transfer counts: parity even if checked, no error bit at its active level (R339). -/
def ssiValid (s : State) (p : Nat) (r : SsiResp) : Bool :=
  let k := s.get (F.FBK_PORT_SSI.PAR p)
  let act := s.flag (F.FBK_PORT_SSI.ERR_POL p)
  ((ssiData s p r ++ (ssiTail s p r).take k).filter (fun b => b)).length % 2 * k == 0 &&
    !(((ssiTail s p r).drop k).take (s.get (F.FBK_PORT_SSI.ERRB p))).any (fun b => b == act)

/-- The position word of a transfer. -/
def ssiWord (s : State) (p : Nat) (r : SsiResp) : Nat :=
  let v := msbVal (ssiData s p r)
  if s.flag (F.FBK_PORT_SSI.GRAY p) then grayToBin (s.get (F.FBK_PORT_SSI.NBITS p)) v else v

/-- A transfer of port p ends: the next one waits for the monoflop time; its sample time is that of its first falling clock edge, at
which it began (R339). -/
def ssiDone (p : Nat) (r : SsiResp) (s : State) : State :=
  if serState s p = 3 ∧ (s.ser p).busy then
    let t := s.modSer p (fun x => { x with busy := false, idle := clockWait s p })
    if ssiValid s p r then serSample p (ssiWord s p r) (s.ser p).began t else serLost p t
  else s

/-! ### Boundary (R331) -/

/-- Port p at a boundary: it starts or stops with its enables, and starts a POS transaction or an SSI transfer if the previous
one has ended. -/
def serBoundary (p : Nat) (s : State) : State :=
  if portClocks s p then
    let t := if serState s p = 0 then negotiate p s else s
    if (serState t p = 2 ∨ serState t p = 3) ∧ !(t.ser p).busy ∧ (t.ser p).idle ≤ t.tb.tick ∧ !(pausing t p) then
      let u := t.modSer p (fun x => { x with busy := true, began := t.nowNs })
      if serState t p = 2 then kspSend p kspPos 0 u else u
    else t
  else if serState s p = 0 then s else serOff p s

end Sys2Proof.Machine
end

