-- ==== Sys2Proof/Machine/Split.lean ====
section
/-!
DEFINITION. Sharing the car force (07 R210, R213 to R216; 02 R48, R49, R647; 01 R31, R33): the split, shares from and to
neighbours, SEGSTAT.
-/

namespace Sys2Proof.Machine

open Sys2Proof

/-! ### The car's force -/

/-- The fallback force (R210). -/
def fallback (s : State) (c : Nat) : Int :=
  let r := s.car c
  let a := s.axis c
  let acc : Int := a.spAcc + 9806650 + (s.get F.TAC_CAR_FB.KV_FB : Int) * (a.spVel - r.vel)
  let f := truncDiv ((r.mass : Int) * acc) 1000000
  let m : Int := s.get F.TAC_CAR_FB.F_MAX_FB
  clampI (-m) m f

/-- The force applied in a period, and whether a blend lost its outgoing value and ends (R213, R222, R229). -/
def appliedForce (s : State) (c : Nat) : Int × Bool :=
  if carFaulted s c then (fallback s c, false)
  else
    match (s.car c).ho with
    | some h =>
      if h.stage == .blending && decide (h.h ≤ s.tb.k) then
        let j := s.tb.k - h.h
        match h.kind with
        | .carMode => (blendOut (outS s h.inSlot 0) (outS s h.outSlot 0) j h.blend, false)
        | .ownerIn =>
          match hoRecv h (s.tb.k - 1) with
          | some u => (if h.blend = 0 then carOut s c else blendOut (carOut s c) u j h.blend, false)
          | none => (carOut s c, true)
        | _ => (carOut s c, false)
      else (carOut s c, false)
    | none => (carOut s c, false)

/-! ### Shares (R213) -/

/-- Index of the first largest element. -/
def argMax : List Nat → Nat
  | [] => 0
  | l => l.findIdx (fun x => x == l.foldl max 0)

/-- Shares of force F over overlaps in ascending shaft order, before the limit: truncated quotients, the remainder to the
largest overlap, lowest in the shaft on a tie. -/
def rawShares (f : Int) (ov : List Nat) : List Int :=
  let sum : Int := (ov.map (fun (x : Nat) => (x : Int))).sum
  let q := ov.map (fun (x : Nat) => if sum = 0 then 0 else truncDiv (f * x) sum)
  let given := q.sum
  let i := argMax ov
  q.zipIdx.map (fun p => if p.2 = i then p.1 + (f - given) else p.1)

/-- Shares limited to SEG_FMAX. -/
def limitShares (m : Int) (l : List Int) : List Int := l.map (clampI (-m) m)

/-- A channel takes its place in car c's active set with a share. -/
def giveShare (n c ov : Nat) (sh : Int) (s : State) : State :=
  s.modChan n (fun v => { v with share := sh, active := true, overlap := ov, car := some c })

/-- A channel in no active set: SHARE 0 (R215). -/
def noShare (n : Nat) (s : State) : State :=
  s.modChan n (fun v => { v with share := 0, active := false, overlap := 0, car := none })

/-- Neighbour segments the car's array overlaps, with the share of each: 0 outside the active set (02 R49). -/
def nbEntries (s : State) (c id : Nat) (shares : List (SegX × Int)) : List ShareEntry :=
  (((allSegs s.conf.geom).filter (fun x => x.nb == some id && decide (0 < segOverlap x (s.car c)))).map
    (fun x => ⟨x.seg, match shares.find? (fun p => p.1 == x) with
      | some p => p.2
      | none => 0⟩)).take 16

/-- Neighbours of the section. -/
def neighbours (g : SectionGeom) : List Nat :=
  (match g.below with
   | some n => [n.id]
   | none => []) ++
  (match g.above with
   | some n => [n.id]
   | none => [])

/-- The shares of this period to neighbour `id` go in the claim: it is the outgoing owner of a hand-over whose instant this
period is (07 R229). -/
def claimDue (s : State) (c id : Nat) : Bool :=
  match (s.car c).ho with
  | some h => h.kind == .ownerIn && h.stage == .blending && decide (h.h = s.tb.k) && h.nb == id
  | none => false

/-- A SHARE frame per neighbour whose segments the array overlaps, stamped k + 2; toward the outgoing owner of a hand-over
whose instant this period is, the shares go in the claim (02 R48, R49; 07 R229). -/
def sendShares (c : Nat) (shares : List (SegX × Int)) (s : State) : State :=
  s.forL (neighbours s.conf.geom) (fun id t =>
    let es := nbEntries s c id shares
    if claimDue s c id then claimSent c (t.send id (.claim ⟨(s.car c).id, s.tb.k, es⟩))
    else if es.isEmpty then t
    else t.send id (.share ⟨(s.car c).id, s.tb.k + 2, es⟩))

/-- The owner's split for car c: force, active set, shares to own segments, shares to neighbours (R213, R214). -/
def splitOwned (c : Nat) (s : State) : State :=
  let (f, lost) := appliedForce s c
  let act := activeSet s c
  let ovs := act.map (fun p => p.2)
  let raw := rawShares f ovs
  let m : Int := s.get F.TAC_SEG_FMAX.FMAX
  let lim := limitShares m raw
  let shares := (act.map (fun p => p.1)).zip lim
  let t := s.modCar c (fun r => { r with force := f, activeN := act.length, ovSum := ovs.sum })
  let u := if raw == lim then t else t.ev F.TAC_SCHED_EVENT.SHARE_CAP
  let v := u.forL ((act.zip lim).filter (fun p => p.1.1.nb.isNone)) (fun p w => giveShare p.1.1.chan c p.1.2 p.2 w)
  let w := offerSend c (sendShares c shares v)
  let x := hoOutSend c w
  if lost then hoDoneCar c x else modeHoSplit c x

/-! ### Shares from a neighbour (02 R49) -/

/-- The own segment a held car of another owner overlaps, if any: its share is due from that owner. -/
def dueCar (s : State) (x : SegX) : Option Nat :=
  (heldCars s).find? (fun c => !(s.car c).owner && decide (0 < segOverlap x (s.car c)))

/-- The share received for the next boundary on channel n. -/
def shareFor (s : State) (n : Nat) : Option Int :=
  match (s.chan n).shareIn with
  | some y => (y.recv.find? (fun p => p.1 == s.tb.k + 1)).map (fun p => p.2)
  | none => none

/-- A share taken from those received: it ends a run of misses. -/
def takeShare (k : Nat) (sh : Int) (y : ShareIn) : ShareIn :=
  { y with last := sh, misses := 0, missAt := none, recv := y.recv.filter (fun p => decide (k + 1 < p.1)) }

/-- No share is in at the split of period k: one more miss. -/
def missShare (k : Nat) (y : ShareIn) : ShareIn :=
  { y with misses := y.misses + 1, missAt := some k, recv := y.recv.filter (fun p => decide (k + 1 < p.1)) }

/-- A run of misses has no meaning once no share is due any more. -/
def missesEnd (y : ShareIn) : ShareIn := { y with misses := 0, missAt := none }

/-- What is known of the shares for channel n, due for car c. -/
def shareInOf (s : State) (n c : Nat) : ShareIn :=
  ((s.chan n).shareIn).getD (ShareIn.none (s.car c).ownerId (s.car c).id)

/-- A segment that would receive both a share for an own car and one from a neighbour for another car, or that two arrays overlap
(01 R31). -/
def doubleShare (s : State) (x : SegX) : Bool :=
  sharedSeg s x ||
    (match dueCar s x with
     | some c => (s.chan x.chan).active && (s.chan x.chan).car != some c
     | none => false)

/-- Channel n's place in the active set of car c, whose shares come from a neighbour: none where the segment is excluded (R29,
R647) or under two arrays (R31). -/
def placeDue (x : SegX) (c : Nat) (sh : Int) (s : State) : State :=
  if (exclReason s x.chan).isSome || doubleShare s x then noShare x.chan s
  else giveShare x.chan c (segOverlap x (s.car c)) sh s

/-- Channel n is outside every active set for a cause other than missed shares. -/
def outOfUse (s : State) (n : Nat) : Bool := chanFault s n || chanSto s n || sigFault s n

/-- The share of a miss: the previous one on the first, then 0 (R49); 0 where the segment is out of use or under two arrays. -/
def missedVal (s : State) (x : SegX) (y : ShareIn) : Int :=
  if y.misses = 1 && !outOfUse s x.chan && !doubleShare s x then y.last else 0

/-- A neighbour's split for one own segment: the share stamped with the next boundary is taken and ends a run of misses; without
one the previous share is used once, then 0 (R33, R49). -/
def splitDue (x : SegX) (s : State) : State :=
  match dueCar s x with
  | none => s.modChan x.chan (fun v => { v with shareIn := v.shareIn.map missesEnd })
  | some c =>
    match shareFor s x.chan with
    | some sh => placeDue x c sh (s.modChan x.chan (fun v => { v with shareIn := some (takeShare s.tb.k sh (shareInOf s x.chan c)) }))
    | none =>
      let y := missShare s.tb.k (shareInOf s x.chan c)
      (placeDue x c 0 (s.modChan x.chan (fun v => { v with shareIn := some y }))).modChan x.chan
        (fun v => { v with share := missedVal s x y })

/-- SHARE_MISSED for an own segment whose split of this period found no share due to it: the miss is counted, once (R49). -/
def shareMissedOp (seg : Nat) (s : State) : State :=
  match (ownSegs s.conf.geom).find? (fun x => x.seg == seg) with
  | none => s
  | some x =>
    match (s.chan x.chan).shareIn with
    | none => s
    | some y =>
      if s.servoOn ∧ y.missAt = some s.tb.k ∧ y.cntAt ≠ some s.tb.k then
        let t := s.modChan x.chan (fun v => { v with shareIn := some { y with cntAt := some s.tb.k } })
        (t.incSat (F.SLK_CH_CNT.SHARE_MISS x.chan)).ev F.SLK_EVENT.SHARE_MISS
      else s

/-- SHARE_MISSED (02 R49). -/
def execShareMissed (seg : Nat) (s : State) : Host.Outcome State Fault Refusal := .next (shareMissedOp seg s)

/-- SEGSTAT for car c to its owner: the overlapped own segments outside the active set, with their reasons (R647). -/
def segstatSend (c : Nat) (s : State) : State :=
  let r := s.car c
  let ovl := (ownSegs s.conf.geom).filter (fun x => decide (0 < segOverlap x r))
  if r.owner || ovl.isEmpty || r.ownerId == 0 then s
  else
    let segs := ovl.filterMap (fun x => (exclReason s x.chan).map (fun why => (x.seg, why)))
    s.send r.ownerId (.segstat ⟨r.id, s.tb.k, segs.take 16⟩)

/-- A SEGSTAT from a neighbour: the listed segments are excluded for the car, its others live (R647). -/
def segstatOp (src : Nat) (p : SegstatPl) (s : State) : State :=
  match carById s p.car with
  | none => s
  | some c =>
    s.modCar c (fun r =>
      { r with excl := r.excl.filter (fun e => e.1 != src) ++ p.segs.map (fun e => (src, e.1)) })

/-- A share entered among those received. -/
def addShare (src car stamp : Nat) (e : ShareEntry) (y : ShareIn) : ShareIn :=
  { y with
    owner := src
    car := car
    recv := y.recv.filter (fun p => p.1 != stamp) ++ [(stamp, sgn 32 (uns 32 e.share))] }

/-- A share entry from a neighbour is kept for its boundary; one naming no segment of the section is discarded (R646). -/
def keepShare (src car stamp : Nat) (e : ShareEntry) (s : State) : State :=
  match (ownSegs s.conf.geom).find? (fun x => x.seg == e.seg) with
  | none => s
  | some x =>
    s.modChan x.chan (fun v =>
      { v with shareIn := some (addShare src car stamp e (v.shareIn.getD (ShareIn.none src car))) })

/-- Whether a SHARE for car c is discarded: the device owns the car outside an owner hand-over, or as incoming owner the
stamp is h + 1 or later (R230). -/
def shareDiscarded (s : State) (c stamp : Nat) : Bool :=
  let r := s.car c
  match r.ho with
  | some h =>
    if h.kind == .ownerIn then r.owner && decide (h.h + 1 ≤ stamp)
    else if h.kind == .ownerOut then false
    else r.owner
  | none => r.owner

/-- SHARE from the owner: its shares are kept for the stamped boundary (R33, R49, R230). -/
def shareOp (src : Nat) (p : SharePl) (s : State) : State :=
  match carById s p.car with
  | some c =>
    if shareDiscarded s c p.stamp then s
    else (s.forL p.entries (keepShare src p.car p.stamp)).modCar c
      (fun r => { r with ownerId := if r.owner then r.ownerId else src })
  | none => s.forL p.entries (keepShare src p.car p.stamp)

end Sys2Proof.Machine
end

