-- ==== Sys2Proof/Machine/Tim.lean ====
section
/-!
DEFINITION. The time base (19): the tick, steps, synchronisation, time-stamp queues, timed snapshots and the protocol's
offsets.
-/

namespace Sys2Proof.Machine

open Sys2Proof

/-! ### The clock (R576, R578) -/

/-- Nanoseconds in a second. -/
def nsPerSec : Nat := 1000000000

/-- One 125 MHz tick: ADDEND is added to ns and fraction, carrying into the seconds (R576). -/
def clockTick (s : State) : State :=
  let t := s.tb.ns * 2 ^ 28 + s.tb.frac + (s.reg Reg.TIM_ADDEND).toNat
  let ns := t / 2 ^ 28
  let tb := { s.tb with frac := t % 2 ^ 28, tick := s.tb.tick + 1 }
  if nsPerSec ≤ ns then
    { s with tb := { tb with ns := ns - nsPerSec, sec := (s.tb.sec + 1) % 2 ^ 48 } }
  else { s with tb := { tb with ns := ns } }

/-- Cycles of the 32.768 kHz clock in a number of 125 MHz ticks. -/
def slowCycles (ticks : Nat) : Nat := ticks * 32768 / 125000000

/-- The holdover counter counts the cycles of the 32.768 kHz clock, which PD0 always has (03 Table 3.4; R587). -/
def slowTick (s : State) : State :=
  { s with tb := { s.tb with holdCyc := s.tb.holdCyc + (slowCycles (s.tb.tick + 1) - slowCycles s.tb.tick) } }

/-- The user areas lie one after another in the MRAM from here (04 Table 4.4). -/
def wipeStart : Nat := 0x2000
/-- End of a wipe: of the application data, or of the image region. -/
def wipeEnd (img : Bool) : Nat := if img then 0x2000000 else 0x1000000

/-- Ticks a wipe takes for 64 KiB: 13.1 ms per MiB (04 R125). -/
def wipeTicks : Nat := 102344

/-- The wipe writes zero up to the next multiple of 64 KiB and updates the progress offset (04 R125). -/
def wipeChunk (w : WipeMarker) (s : State) : State :=
  let e := min (wipeEnd w.img) ((w.progress / 0x10000 + 1) * 0x10000)
  let t := mramZero w.progress (e - w.progress) s
  { t with
    nv := { t.nv with lc := { t.nv.lc with wipe := some { w with progress := e } } }
    conf := { t.conf with wipeFrom := t.tb.tick } }

/-- A wipe goes on with the clock, up to the end of its areas; LIFE_CYCLE_WIPE_DONE then does the rest of 04 R125. -/
def wipeTick (s : State) : State :=
  match s.nv.lc.wipe with
  | some w =>
    if s.conf.wiping && decide (s.conf.wipeFrom + wipeTicks ≤ s.tb.tick) && decide (w.progress < wipeEnd w.img) then wipeChunk w s else s
  | none => s

/-- A clear of the recorder writes zero to the next 64 KiB downwards (20 R602). -/
def clearChunk (s : State) : State :=
  let lo := s.rcd.clearTo - 0x10000
  let t := mramZero (recBase + lo) (s.rcd.clearTo - lo) s
  { t with rcd := { t.rcd with clearTo := lo, clearAt := t.tb.tick } }

/-- A clear goes on with the clock at the rate of a wipe, which ends it within its 55 ms (20 R602); CLEARED then does the rest. DEDUCED
(log entry 105). -/
def clearTick (s : State) : State :=
  if s.awake && s.rcd.clear.isSome && decide (s.rcd.clearAt + wipeTicks ≤ s.tb.tick) && decide (0 < s.rcd.clearTo) then clearChunk s else s

/-- A tick with nothing commanded (log entry 1): the slow clock goes on, a wipe or a clear too, and while the device is awake the PTP
clock (R576). -/
def idleTick (s : State) : State :=
  let t := slowTick (clearTick (wipeTick s))
  if t.awake then clockTick t else { t with tb := { t.tb with tick := t.tb.tick + 1 } }

/-- The next boundary is the first at or after the present time, whatever its number: after a step outside the running modes, and when
the clock or T_s is set at a start (R579). -/
def armNext (s : State) : State := { s with tb := { s.tb with next := (s.nowNs + (s.tsNs - 1)) / s.tsNs } }

/-- The clock has reached the next boundary (R579). -/
def boundaryDue (s : State) : Bool := decide (s.tb.next * s.tsNs ≤ s.nowNs)

/-- The clock moved by a signed offset in ns, carrying or borrowing between the fields (R578). -/
def clockMove (off : Int) (s : State) : State :=
  let t : Int := (s.nowNs : Int) + off
  let m := (t % ((2 ^ 48 * nsPerSec : Nat) : Int)).toNat
  { s with tb := { s.tb with sec := m / nsPerSec, ns := m % nsPerSec } }

/-- A step: in a running mode no period number is skipped or repeated, in Watch and Lock-out the next boundary is the first at or
after the new time (R579). -/
def clockAdd (off : Int) (s : State) : State :=
  let t := clockMove off s
  if modeServo s.mode then t else armNext t

/-- Firmware runs PTP: TIM_CFG.FW. -/
def fwPtp (s : State) : Bool := s.flag F.TIM_CFG.FW

/-- Largest distance of ADDEND from its nominal value, 500 ppm (R577). -/
def addendSpan : Nat := 1073741

/-- ADDEND lies within 500 ppm of nominal (R577). -/
def addendOk (v : Word) : Bool := 0x80000000 - addendSpan ≤ v.toNat && v.toNat ≤ 0x80000000 + addendSpan

/-- A TIM_ADDEND write: stored with FW = 1 and in range, else ADDEND_REJ (R577, R580). -/
def addendOp (v : Word) (s : State) : State :=
  if fwPtp s && addendOk v then s.setReg Reg.TIM_ADDEND v else s.ev F.TIM_EVENT.ADDEND_REJ

/-- ADDEND_WRITE (R577). -/
def execAddendWrite (core : Sender) (val : Word) (s : State) : Host.Outcome State Fault Refusal :=
  .next (writeCmd core Reg.TIM_ADDEND (addendOp val) s)

/-- Whether a step of this size is permitted in the present mode (R578). -/
def stepAllowed (s : State) (off : Int) : Bool := !modeServo s.mode || decide (off.natAbs ≤ 1000)

/-- A step by firmware: refused with FW = 0 or beyond 1,000 ns in a running mode (R578, R580). -/
def stepOp (off : Int) (s : State) : State :=
  if fwPtp s && stepAllowed s off then clockAdd off s else s.ev F.TIM_EVENT.STEP_REJ

/-- The TIM_STEP_HI write steps the clock by the pair's s64 offset (R141, R578). -/
def clockStepOp (core : Sender) (v : Word) (s : State) : State :=
  let off := sgn 64 (join64 (holdOf s Reg.TIM_STEP_LO core) v)
  stepOp off (setHold Reg.TIM_STEP_LO core 0 s)

/-- CLOCK_STEP (R578). -/
def execClockStep (core : Sender) (val : Word) (s : State) : Host.Outcome State Fault Refusal :=
  .next (writeCmd core Reg.TIM_STEP_HI (clockStepOp core val) s)

/-! ### SYNC (R581, R651) -/

/-- SYNC set; HOLD clears. -/
def setSyncOp (s : State) : State :=
  if s.flag F.TIM_STAT.SYNC then s.put F.TIM_STAT.HOLD 0
  else ((s.put F.TIM_STAT.SYNC 1).put F.TIM_STAT.HOLD 0).ev F.TIM_EVENT.SYNC_GAIN

/-- SYNC cleared; HOLD and SYNC_LOST set (R651). -/
def clearSyncOp (s : State) : State :=
  if s.flag F.TIM_STAT.SYNC then ((s.put F.TIM_STAT.SYNC 0).put F.TIM_STAT.HOLD 1).ev F.TIM_EVENT.SYNC_LOST else s

/-- TIM_CMD: OP 1 sets SYNC, OP 2 clears it; accepted only with FW = 1. -/
def timCmdOp (v : Word) (s : State) : State :=
  if fwPtp s then
    match getF F.TIM_CMD.OP.bits v with
    | 1 => setSyncOp s
    | 2 => clearSyncOp s
    | _ => s
  else s

/-- SET_SYNC: TIM_CMD with OP 1 (R581); another OP is not this command. -/
def execSetSync (core : Sender) (val : Word) (s : State) : Host.Outcome State Fault Refusal :=
  .next (writeCmd core Reg.TIM_CMD (fun t => if getF F.TIM_CMD.OP.bits val = 1 then timCmdOp val t else t) s)

/-- CLEAR_SYNC: TIM_CMD with OP 2 (R651). -/
def execClearSync (core : Sender) (val : Word) (s : State) : Host.Outcome State Fault Refusal :=
  .next (writeCmd core Reg.TIM_CMD (fun t => if getF F.TIM_CMD.OP.bits val = 2 then timCmdOp val t else t) s)


/-! ### The protocol (R580, R581) -/

/-- Protocol state of a spine port. -/
def ptpPort (s : State) (p : Nat) : PtpPort := smGet PtpPort.init s.tb.ports p
/-- Protocol state of a spine port changed. -/
def modPort (p : Nat) (f : PtpPort → PtpPort) (s : State) : State :=
  { s with tb := { s.tb with ports := smMod PtpPort.init s.tb.ports p f } }

/-- What port p heard announced no longer holds: its Sync messages ended or its link went down. -/
def forgetAnn (p : Nat) (s : State) : State := modPort p (fun q => { q with ann := none }) s

/-- SYNC_RECEIPT_TIMEOUT: no Sync in time and no new grandmaster, so SYNC clears; what the upstream port announced has aged (R581). -/
def syncTimeout (s : State) : State :=
  if s.awake && !fwPtp s && !s.flag F.TIM_STAT.GM then
    clearSyncOp (forgetAnn (s.get F.TIM_STAT.UPSTREAM) { s with tb := { s.tb with goodOffs := 0 } })
  else s

/-- SYNC_RECEIPT_TIMEOUT (R581). -/
def execSyncReceiptTimeout (s : State) : Host.Outcome State Fault Refusal := .next (syncTimeout s)

/-- The engine runs the protocol on port p: FW = 0 and the port is a PTP port (R580). -/
def ptpOn (s : State) (p : Nat) : Bool := s.awake && !fwPtp s && s.bit F.TIM_CFG.PORT_EN p

/-- LIMIT of the upstream port in ns: 500 over 10BASE-T1L (MODE 1), else 50 (R581). -/
def syncLimit (s : State) : Nat :=
  if s.get (F.FAB_SP_STAT.MODE (s.get F.TIM_STAT.UPSTREAM)) = 1 then 500 else 50

/-- An offset measured against the upstream neighbour: TIM_OFFSET takes it; 8 in a row within LIMIT set SYNC, one beyond
2 * LIMIT clears it (R581). -/
def offsetSeen (off : Int) (s : State) : State :=
  let t := s.setReg Reg.TIM_OFFSET (wdi off)
  let m := off.natAbs
  let lim := syncLimit s
  if 2 * lim < m then clearSyncOp { t with tb := { t.tb with goodOffs := 0 } }
  else if m ≤ lim then
    let n := min 8 (s.tb.goodOffs + 1)
    let u := { t with tb := { t.tb with goodOffs := n } }
    if n = 8 then setSyncOp u else u
  else { t with tb := { t.tb with goodOffs := 0 } }

/-- The engine follows an offset by a step or through ADDEND, within R577 and R578. Which, and by how much ADDEND changes,
is the protocol's own servo, which the spec does not give: both are free values (log entry 31). -/
def follow (off : Int) (s : State) : State :=
  let (v, t) := s.draw
  if v % 2 = 1 ∧ stepAllowed s off then clockAdd (-off) t
  else t.setReg Reg.TIM_ADDEND (wd (0x80000000 - addendSpan + v / 2 % (2 * addendSpan + 1)))

/-- A Sync with known origin time completes an offset on port p, if p is the port toward the grandmaster. -/
def syncOffset (p : Nat) (rx : Nat) (origin : PtpTime) (corr : Int) (s : State) : State :=
  if s.get F.TIM_STAT.UPSTREAM = p ∧ s.flag F.TIM_STAT.GM = false then
    let off : Int := (rx : Int) - ((ptpNs origin : Int) + corr + ((ptpPort s p).delay : Int))
    follow off (offsetSeen off s)
  else s

/-- A PTP event message with its receive stamp reaches the protocol (R584). -/
def ptpEventOp (p : Nat) (stamp : PtpTime) (m : PtpEvent) (s : State) : State :=
  if ptpOn s p then
    match m with
    | .sync seq one =>
      match one with
      | some (origin, corr) => syncOffset p (ptpNs stamp) origin corr s
      | none => modPort p (fun q => { q with syncSeq := seq, syncRx := some (ptpNs stamp) }) s
    | .pdelayReq _ => s
    | .pdelayResp _ reqRx => modPort p (fun q => { q with t2 := some (ptpNs reqRx), t4 := some (ptpNs stamp) }) s
  else s

/-- PTP_EVENT_MESSAGE (R580, R584). -/
def execPtpEventMessage (port : Fin 4) (stamp : PtpTime) (m : PtpEvent) (s : State) :
    Host.Outcome State Fault Refusal := .next (ptpEventOp port.val stamp m s)

/-- This device's own priority vector; GM_CAP = 0 makes it never grandmaster-capable (Table 19.1). -/
def ownVector (s : State) : Option PtpVector :=
  if s.flag F.TIM_CFG.GM_CAP then
    some ⟨s.get F.TIM_CFG.PRIO1, Config.ptpQuality, s.get F.TIM_CFG.PRIO2, Config.ptpClockId s.nv.serial, 0⟩
  else none

/-- Order of priority vectors: priority1, quality, priority2, identity, steps removed; the lower is better (BMCA). -/
def vecBetter (a b : PtpVector) : Bool :=
  decide (a.prio1 < b.prio1) || (a.prio1 == b.prio1 &&
    (decide (a.quality < b.quality) || (a.quality == b.quality &&
      (decide (a.prio2 < b.prio2) || (a.prio2 == b.prio2 &&
        (decide (a.gmId < b.gmId) || (a.gmId == b.gmId && decide (a.steps < b.steps))))))))

/-- The best port heard: the lowest-numbered of those with the best vector. -/
def bestPort (s : State) : Option (Nat × PtpVector) :=
  (List.range 4).foldl (fun best p =>
    match (ptpPort s p).ann with
    | none => best
    | some v =>
      match best with
      | none => some (p, v)
      | some (q, w) => if vecBetter v w then some (p, v) else some (q, w)) none

/-- Grandmaster selection: this device is grandmaster, and SYNC is set, if no port hears a better one (R581). -/
def bmca (s : State) : State :=
  match bestPort s, ownVector s with
  | none, none => s.put F.TIM_STAT.GM 0
  | none, some _ => setSyncOp (s.put F.TIM_STAT.GM 1)
  | some (p, _), none => (s.put F.TIM_STAT.GM 0).put F.TIM_STAT.UPSTREAM p
  | some (p, v), some o =>
    if vecBetter v o then (s.put F.TIM_STAT.GM 0).put F.TIM_STAT.UPSTREAM p
    else setSyncOp (s.put F.TIM_STAT.GM 1)

/-- A device that hears no announcement selects itself, each second, the Announce interval (R581, Table 19.1; log entry 104). -/
def selectAlone (s : State) : State :=
  if s.awake && !fwPtp s && (bestPort s).isNone then bmca s else s

/-- A PTP general message completes an offset or a link delay, or takes part in the BMCA (R580). -/
def ptpGeneralOp (p : Nat) (m : PtpGeneral) (s : State) : State :=
  if ptpOn s p then
    match m with
    | .followUp seq origin corr =>
      let q := ptpPort s p
      match q.syncRx with
      | some rx =>
        if q.syncSeq = seq then
          syncOffset p rx origin corr (modPort p (fun x => { x with syncRx := none }) s)
        else s
      | none => s
    | .pdelayFollowUp _ respTx =>
      let q := ptpPort s p
      match q.t1, q.t2, q.t4 with
      | some t1, some t2, some t4 =>
        let d : Int := (((t4 : Int) - t1) - ((ptpNs respTx : Int) - t2)) / 2
        modPort p (fun x => { x with delay := d.toNat, t1 := none, t2 := none, t4 := none }) s
      | _, _, _ => s
    | .announce v => bmca (modPort p (fun x => { x with ann := some v }) s)
  else s

/-- PTP_GENERAL_MESSAGE (R580, R581). -/
def execPtpGeneralMessage (port : Fin 4) (m : PtpGeneral) (s : State) : Host.Outcome State Fault Refusal :=
  .next (ptpGeneralOp port.val m s)

/-! ### Transmit time stamps (R585, R586) -/

/-- The transmit time-stamp queue of port p. -/
def txqOf (s : State) (p : Nat) : List TxStamp := smGet [] s.tb.txq p
/-- The queue set. -/
def setTxq (p : Nat) (q : List TxStamp) (s : State) : State :=
  { s with tb := { s.tb with txq := smSet [] s.tb.txq p q } }

/-- The stamp of a sent PTP event message: with FW = 0 the engine takes it at once (a Pdelay_Req's is t1), with FW = 1 it
enters the queue of 8, or is discarded with LOSS and TS_OVF (R585). -/
def txStampOp (p msgType seqId : Nat) (stamp : PtpTime) (s : State) : State :=
  if s.awake then
    if fwPtp s then
      let q := txqOf s p
      if q.length < 8 then setTxq p (q ++ [⟨msgType % 16, seqId % 65536, stamp.sec, stamp.ns⟩]) s
      else (s.incSat (F.TIM_TXQ_LOSS.LOSS p)).ev F.TIM_EVENT.TS_OVF
    else if msgType = 2 then modPort p (fun x => { x with t1 := some (ptpNs stamp) }) s
    else s
  else s

/-- TX_TIMESTAMP_ENQUEUE (R585). -/
def execTxTimestampEnqueue (port : Fin 4) (msgType seqId : Nat) (stamp : PtpTime) (s : State) :
    Host.Outcome State Fault Refusal := .next (txStampOp port.val msgType seqId stamp s)

/-- TIM_TXQp_POP written 1 removes the head (R586). -/
def txqPopOp (p : Nat) (v : Word) (s : State) : State := if bitOf v 0 then setTxq p (txqOf s p).tail s else s

/-- TXQ_POP (R586). -/
def execTxqPop (core : Sender) (port : Fin 4) (val : Word) (s : State) : Host.Outcome State Fault Refusal :=
  .next (writeCmd core (Reg.TIM_TXQ_POP port.val) (txqPopOp port.val val) s)

/-- TIM_TXQp_ID: count, and type and sequence ID of the head. -/
def txqIdWord (s : State) (p : Nat) : Word :=
  let q := txqOf s p
  match q with
  | [] => 0
  | h :: _ => wd (q.length % 16 * 2 ^ 28 + h.msgType % 16 * 2 ^ 24 + h.seqId % 65536)

/-- A seconds pair is latched into a reader's shadows, for both words (R586). -/
def latchSec (lo : Nat) (core : Sender) (sec : Nat) (s : State) : State :=
  setShadow (lo + 4) core (wd (sec / 2 ^ 32 % 2 ^ 16)) (setShadow lo core (lo32 sec) s)

/-- A read of TIM_TXQp_NS returns the head's nanoseconds and latches its seconds for the reader (R586). -/
def txqNsOp (core : Sender) (p : Nat) (s : State) : State :=
  match txqOf s p with
  | [] => setRdata core 0 (latchSec (Reg.TIM_TXQ_S_LO p) core 0 s)
  | h :: _ => setRdata core (wd h.ns) (latchSec (Reg.TIM_TXQ_S_LO p) core h.sec s)

/-- TXQ_NS_READ (R586). -/
def execTxqNsRead (core : Sender) (port : Fin 4) (s : State) : Host.Outcome State Fault Refusal :=
  .next (if canAccess s core then txqNsOp core port.val s else s)

/-- A read of TIM_NOW_NS returns the nanoseconds and latches the seconds for the reader (R586). -/
def nowNsOp (core : Sender) (s : State) : State :=
  setRdata core (wd s.tb.ns) (latchSec Reg.TIM_NOW_S_LO core s.tb.sec s)

/-- NOW_NS_READ (R586). -/
def execNowNsRead (core : Sender) (s : State) : Host.Outcome State Fault Refusal :=
  .next (if canAccess s core then nowNsOp core s else s)

/-! ### Timed snapshots (R588) -/

/-- The armed time in ns: TIM_SNAP_AT_S and NS. -/
def snapAt (s : State) : Nat :=
  s.pair Reg.TIM_SNAP_AT_S_LO * nsPerSec + s.get F.TIM_SNAP_AT_NS.NS

/-- A TIM_SNAP_AT_NS write: ARM = 1 arms, or sets SNAP_LATE if the time has passed; ARM = 0 disarms (R588). -/
def snapArmOp (v : Word) (s : State) : State :=
  let t := storeReg Reg.TIM_SNAP_AT_NS v s
  if t.flag F.TIM_SNAP_AT_NS.ARM && decide (snapAt t < t.nowNs) then
    (t.put F.TIM_SNAP_AT_NS.ARM 0).ev F.TIM_EVENT.SNAP_LATE
  else t

/-- SNAP_ARM: the write with ARM = 1 (R588). -/
def execSnapArm (core : Sender) (val : Word) (s : State) : Host.Outcome State Fault Refusal :=
  .next (writeCmd core Reg.TIM_SNAP_AT_NS (fun t => if bitOf val 31 then snapArmOp val t else t) s)

/-- SNAP_DISARM: the write with ARM = 0 (R588). -/
def execSnapDisarm (core : Sender) (val : Word) (s : State) : Host.Outcome State Fault Refusal :=
  .next (writeCmd core Reg.TIM_SNAP_AT_NS (fun t => if bitOf val 31 then t else snapArmOp val t) s)

/-- The armed time is reached: a system snapshot is taken and ARM clears (R588). -/
def snapFire (s : State) : State :=
  if s.awake && s.flag F.TIM_SNAP_AT_NS.ARM && decide (snapAt s ≤ s.nowNs) then snapAll (s.put F.TIM_SNAP_AT_NS.ARM 0) else s

/-- TIMED_SNAPSHOT_FIRE (R588). -/
def execTimedSnapshotFire (s : State) : Host.Outcome State Fault Refusal := .next (snapFire s)

/-! ### Holdover (R587) -/

/-- The holdover counter takes the PTP seconds and its cycle count clears. -/
def holdoverWrite (s : State) : State := { s with tb := { s.tb with holdSec := s.tb.sec, holdCyc := 0 } }

/-- The clock starts from the holdover value: seconds + cycles x 30,517.578125 ns, rounded; SYNC is 0. -/
def clockFromHoldover (s : State) : State :=
  let ns := (s.tb.holdCyc * 30517578125 + 500000) / 1000000
  { s with tb := { s.tb with sec := (s.tb.holdSec + ns / nsPerSec) % 2 ^ 48, ns := ns % nsPerSec, frac := 0 } }

/-- The clock starts from 0. -/
def clockFromZero (s : State) : State := { s with tb := { s.tb with sec := 0, ns := 0, frac := 0 } }

end Sys2Proof.Machine
end

