-- ==== Sys2Proof/Machine/ModeCore.lean ====
section
/-!
DEFINITION. Entering a mode (03): what a completed transition does to the domains and to the motion blocks, and the report
in PCM_MODE_STAT.
-/

namespace Sys2Proof.Machine

open Sys2Proof

/-! ### PCM_MODE_STAT -/

/-- Domains on or retained in a mode (03 Table 3.4); PD6 in Rescue while an SLK port is powered (R76). -/
def pdOn (m : Mode) (rescuePorts : Nat) : Nat :=
  match m with
  | .dormant => 1
  | .watch | .lockout => 0x3FF - 0x40
  | .rescue => if rescuePorts = 0 then 0x3FF - 0x40 else 0x3FF
  | _ => 0x3FF

/-- PCM_MODE_STAT. -/
def modeStatWord (s : State) : Word :=
  let p := s.pw
  wd (pdOn p.mode p.rescuePorts * 2 ^ 16 + p.wakeCause % 16 * 2 ^ 12 + p.refuse % 16 * 2 ^ 8 + b2n p.trans.isSome * 2 ^ 6 +
    p.prev.code * 2 ^ 3 + p.mode.code)

/-! ### Doors (11 R353) -/

/-- Enabled door units; none in section role (11 R341). -/
def doorUnits (s : State) : List Nat :=
  if isCar s then (List.range 2).filter (fun d => s.flag (F.TRJ_DOOR_CFG.EN d)) else []

/-- A door unit at rest takes STOPPED, one in UNREF stays there; PENDING and NUDGE_LATCH are cleared (R353). -/
def doorHalt (x : Door) : Door :=
  { x with st := if x.st == .unref then .unref else .stopped, pending := false, nudge := false, cmd := none, due := .none, toOpen := false,
           dwellFrom := none, nudgeFrom := none, nudgeDue := false, lockFrom := none, modeStop := false, noDwell := false }

/-- The door units on entering Watch or Lock-out, whose axes have just come to rest (R353, R648). -/
def doorsHalt (s : State) : State := s.forL (doorUnits s) (fun d t => t.modDoor d doorHalt)

/-- The door units on entering Standby: the move, a homing one too, is aborted in the next stage 4 (R353). -/
def doorsModeStop (s : State) : State :=
  s.forL (doorUnits s) (fun d t => t.modDoor d (fun x => { x with pending := false, nudge := false, modeStop := true }))

/-! ### Domains (R74 to R78) -/

/-- Neither path has a position of the cars while no slot comes: counts start afresh, and permissions lapse (11 R368, 16 R514). -/
def pathsBlind (s : State) : State :=
  { s with saf := { s.saf with
    corePr := []
    ecl := []
    core := s.saf.core.map (fun e => (e.1, { e.2 with ok := false }))
    grants := s.saf.grants.map (fun e => (e.1, { e.2 with on := false })) } }

/-- PD4, PD5 and PD6 lose their clocks: runs end, channels start afresh, ports stop. The cars' last positions are held. -/
def servoStop (s : State) : State :=
  let t := (s.forN 8 portStop).forN 8 serOff
  let u := pathsBlind ((t.forN 144 fbOff).forN 128 (fun n v => v.modChan n (fun x => { x with got := false })))
  { u with
    cmm := []
    tide := { u.tide with runs := [], stage := .link }
    slk := { u.slk with wire := [] }
    fbk := { u.fbk with emus := [] } }

/-- PD4, PD5 and PD6 are on for a transition that is ready: the ports send idle (R82, R431). -/
def portsOn (s : State) : State := s.forN 8 (fun p t => if portEn t p then portStart p t else t)

/-- The servo periods start at the boundary of the entry: no slot has a run behind it, and the positions of R239 are to be set. -/
def servoStart (s : State) : State :=
  let t := { s with tide := { s.tide with stage := .link } }.forL (enabledSlots s) (markRun · .done)
  t.forN 8 (fun n u => u.modAxis n (fun a => { a with seed := true }))

/-- Where cores 1 to 3 are unpowered, so are their L1 caches (R75). -/
def cachesFollow (m : Mode) (s : State) : State :=
  if fullCluster m then s else { s with caches := { s.caches with l1 := s.caches.l1.filter (fun e => e.1 == 0) } }

/-- Load the Tide memories and the TST from the configuration store (R77). -/
def loadTide (s : State) : State :=
  { s with
    tide := { s.tide with code := smBuild 0 s.conf.ops.code, data := smBuild 0 s.conf.ops.data }
    trj := { s.trj with tst := smBuild 0 s.conf.ops.tst } }

/-- A register that stands through Dormant: those of PCM, which PD0 keeps, and what start-up has set or found in the MRAM (SYS, CFG,
REC, the identity of the safety set). DESIGN CHOICE (log entry 69). -/
def staysOff (a : Nat) : Bool :=
  blockOf a == some 0 || blockOf a == some 1 || blockOf a == some 11 || blockOf a == some 14 || a == Reg.SAF_SPS_GEN || a == Reg.SAF_SPS_WORD

/-- Dormant: PD1 to PD9 are off, and what they hold is lost (Table 3.4; what a memory or register reads after it is log entry 69's).
The holdover counter keeps the time (19 R587), and the field dies keep their state (R78). -/
def powerDown (s : State) : State :=
  let z := State.reset
  { z with
    pending := s.pending
    free := s.free
    bus := { z.bus with regs := smFilter staysOff s.bus.regs, pend := smFilter staysOff s.bus.pend }
    tb := { s.tb with txq := [], goodOffs := 0, ports := [] }
    pw := { s.pw with
      alarm := if s.get F.PCM_ALARM.DELAY = 0 then none else some (s.tb.tick + ticksOf (s.get F.PCM_ALARM.DELAY)) }
    nv := s.nv
    conf := s.conf
    pins := s.pins
    fio := { z.fio with
      dies := s.fio.dies
      links := s.fio.links.map (fun (e : Nat × StoLink) => (e.1, { e.2 with lines := 0 })) }
    fab := { z.fab with seq := s.fab.seq, closeCmd := s.fab.closeCmd, spares := s.fab.spares, newer := s.fab.newer }
    rcd := s.rcd }

/-- Waking: the clock starts from the holdover value, or from 0 after the stop detector (R93; 19 R587). Epochs are learned again, as
after a start-up (log entry 47). -/
def powerUp (s : State) : State :=
  let u := if s.pw.wakeCause = 12 then clockFromZero s else clockFromHoldover s
  armNext { u with
    pw := { u.pw with alarm := none }
    fab := { u.fab with settle := some u.tb.tick } }

/-! ### A refused request (R70) -/

/-- A request is refused (R70). -/
def refuseNote (code : Nat) (s : State) : State := { s with pw := { s.pw with refuse := code } }.ev F.PCM_EVENT.REQ_REFUSED

/-- The request that waits is refused. -/
def refuseReq (code : Nat) (s : State) : State := refuseNote code { s with pw := { s.pw with fwReq := none } }

/-! ### A completed transition -/

/-- Doors and axes on entering mode m (R65; 08 R648; 11 R353). -/
def motionEnter (m : Mode) (s : State) : State :=
  match m with
  | .watch | .lockout | .dormant => doorsHalt (modeDiscard s)
  | .standby => doorsModeStop s
  | .inspection | .rescue => s.forN 8 (fun n t => if inMove (t.axis n) then stopAxis n 5 t else t)
  | _ => s

/-- Leaving Commissioning: diagnostics resume, and an SPS image that has not reached its commit is discarded (15 R482, 16
R523). -/
def leaveCommissioning (s : State) : State :=
  let t := s.put F.SAF_STAT.DIAG_SUSP 0
  if t.get F.SAF_SPS_STAT.STATE = 4 then t
  else { t with saf := { t.saf with xfer := none } }.put F.SAF_SPS_STAT.STATE 0 |>.setReg Reg.SAF_SPS_CHECK 0

/-- The servo domains follow the mode. `on`: they were on before it. -/
def domainEnter (on : Bool) (prev m : Mode) (s : State) : State :=
  if modeServo m then (if modeServo prev then s else servoStart s) else if on then servoStop s else s

/-- The device is in mode m: report, events and record (R58, R63; 20 Table 20.3); a wake notice is pending only in Watch and
Standby (R84); the idle timers restart. -/
def modeReport (prev m : Mode) (trig : Nat) (s : State) : State :=
  let t := { s with pw := { s.pw with
    mode := m, prev := prev, trans := none, ready := false, trigger := trig
    fwReq := none
    wakePend := s.pw.wakePend && decide (m = Mode.watch ∨ m = Mode.standby)
    rescuePend := if m = Mode.standby ∨ m = Mode.service then s.pw.rescuePend else none
    resPend := false
    stbyExp := false, svcExp := false
    delReset := false
    rescuePorts := 0
    idleFrom := s.tb.tick, entryFrom := s.tb.tick, instants := 0 } }
  let u := t.ev F.PCM_EVENT.MODE_CHG
  let v := if prev = .dormant then u.ev F.PCM_EVENT.WAKE else u
  record 1 0 3 (items [prev.code, m.code, trig]) v

/-- Enter mode m (R58, R63, R74), and announce it (18 R556). `trig`: what triggered it, for the record (log entry 46). -/
def enterMode (m : Mode) (trig : Nat) (s : State) : State :=
  let prev := s.mode
  let a := if prev = .dormant then powerUp s else s
  let b := if prev = .commissioning then leaveCommissioning a else a
  let c := cachesFollow m (modeReport prev m trig (motionEnter m b))
  let d := domainEnter (modeServo prev || s.pw.ready) prev m c
  if m = .dormant then powerDown d else announceAll d

end Sys2Proof.Machine
end

