-- ==== Sys2Proof/Machine/SafCore.lean ====
section
/-!
DEFINITION. The two safety paths (15, 16): faults and Lock-out, what each path reads of its taps, the demands of the ten
functions, and the STO requests. Path 0 is the safety core, path 1 the Eclipse logic.
-/

namespace Sys2Proof.Machine

open Sys2Proof

/-! ### What a path reads of a field input (R466, R488, R511) -/

/-- The safety set in force. -/
def sps (s : State) : SpsContent := s.conf.sps

/-- The factory-default safety set is in force (04 R116). -/
def spsDefault (s : State) : Bool := s.flag F.CFG_DEFAULT.SPS

/-- Key of a per-path map. -/
def pk (path n : Nat) : Nat := path * 64 + n

/-- Tap of group g on a path. -/
def tapOf (s : State) (path g : Nat) : Tap := smGet Tap.init s.saf.taps (pk path g)

/-- A path treats group g as lost or silent: its safety inputs are in demand (R511). -/
def tapOut (t : Tap) : Bool := t.lost || t.sil || t.last.isNone

/-- Input i as a path reads it: 0 while its group is lost or silent for the path. -/
def pathIn (s : State) (path i : Nat) : Bool :=
  let t := tapOf s path (i / 24)
  decide (i < 96) && !tapOut t && t.inputs.testBit (i % 24)

/-- A named input as a path reads it. -/
def pathNamed (s : State) (path : Nat) (i : Option Nat) : Bool :=
  match i with
  | some n => pathIn s path n
  | none => false

/-- The inspection switch as a path reads it: active at 0 (log entry 54). -/
def inspOn (s : State) (path : Nat) : Bool :=
  match (sps s).insp with
  | some i => !pathIn s path i
  | none => false

/-! ### Lock-out (R474, R475) -/

/-- The inspection switch reads the inspection state. -/
def inspActive (s : State) : Bool := inspOn s 0

/-- The waiting request loses to another transition: code 9 (03 R68), or 11 for Service and Rescue while the switch reads the inspection
state (03 R69). -/
def reqDrop (s : State) : State :=
  match s.pw.fwReq with
  | some r => refuseReq (if (r = .service ∨ r = .rescue) ∧ inspActive s = true then 11 else 9) s
  | none => s

/-- Every line command falls. -/
def linesOff (s : State) : State := { s with saf := { s.saf with aOn := [], bOn := 0 } }

/-- Lock-out is entered: the flag enters the life-cycle record, a record names SAF_FAULT (R475). A request that waits for an evaluation
is not taken (03 R68). -/
def lockoutEnter (trig : Nat) (s0 : State) : State :=
  let s := reqDrop s0
  let t := { s with nv := { s.nv with lc := { s.nv.lc with lockout := true } } }
  let u := recordSafety 0 0x10 (items [(t.reg Reg.SAF_FAULT).toNat]) (t.ev F.SAF_EVENT.LOCKOUT)
  linesOff (enterMode .lockout trig u)

/-- A refused deliberate reset (Table 15.3): code, event and record. -/
def resetRefused (code : Nat) (s : State) : State :=
  let t := (s.put F.SAF_RESET_STAT.REJ code).ev F.SAF_EVENT.RESET_REJ
  recordSafety 0 0x12 (items [(t.reg Reg.SAF_RESET_STAT).toNat]) t

/-- A function's trip is kept until the deliberate reset. -/
def noteTrip (cls : Nat) (s : State) : State :=
  if 32 < cls then { s with saf := { s.saf with trip := setBitN s.saf.trip (cls - 32) true } } else s

/-- SAF_FAULT takes the first fault since the last deliberate reset (R475). -/
def firstFault (path cls det : Nat) (s : State) : State :=
  let t := s.result Reg.SAF_FAULT (path * 2 ^ 28 + cls * 2 ^ 16 + det % 2 ^ 16)
  { t.ev F.SAF_EVENT.NEW with saf := { t.saf with latched := true } }

/-- A fault detected by a path (1 core, 2 Eclipse, 3 both): the device enters Lock-out; in Lock-out a later fault adds a record,
and one before an accepted reset has brought Watch undoes that reset (R474, R475, R480). -/
def safFault (path cls det : Nat) (s : State) : State :=
  if s.awake then
    let a := noteTrip cls s
    let t := if s.saf.latched then a else firstFault path cls det a
    if s.mode = .lockout then
      let u := recordSafety 0 0x11 (items [path * 2 ^ 28 + cls * 2 ^ 16 + det % 2 ^ 16]) t
      if u.pw.delReset then
        resetRefused 1 { u with
          pw := { u.pw with delReset := false, trans := none }
          nv := { u.nv with lc := { u.nv.lc with lockout := true } } }
      else u
    else lockoutEnter 9 t
  else s

/-- A fault of a function whose reaction is a car stop: the cars stay stopped until the deliberate reset (16 R487). -/
def carFault (path cls det : Nat) (ids : List Nat) (s : State) : State :=
  let t := safFault path cls det s
  { t with saf := { t.saf with stops := (ids ++ t.saf.stops).eraseDups } }

/-- A fault found by the paths of a list: one fault by one, or by both. -/
def pathFault (core ecl : Bool) (cls det : Nat) (s : State) : State :=
  if core && ecl then safFault 3 cls det s
  else if core then safFault 1 cls det s
  else if ecl then safFault 2 cls det s
  else s

/-! ### Taps and pairs (R466, R488, R491) -/

/-- Tap changed. -/
def modTap (path g : Nat) (f : Tap → Tap) (s : State) : State :=
  { s with saf := { s.saf with taps := smMod Tap.init s.saf.taps (pk path g) f } }

/-- A path's state of safety input pair j. -/
def pairSt (s : State) (path j : Nat) : PairSt := smGet PairSt.init s.saf.pairs (pk path j)

/-- Pair state changed. -/
def modPairSt (path j : Nat) (f : PairSt → PairSt) (s : State) : State :=
  { s with saf := { s.saf with pairs := smMod PairSt.init s.saf.pairs (pk path j) f } }

/-- A pair is in demand on a path: a channel reads 0, or a discrepancy fault is not worked off (R488, R491). -/
def pairDemand (s : State) (path j : Nat) (p : SafetyPair) : Bool :=
  !pathIn s path p.a || !pathIn s path p.b || (pairSt s path j).need != 0

/-- Pairs of the safety set with their numbers. -/
def pairsIx (s : State) : List (SafetyPair × Nat) := (sps s).pairs.zipIdx

/-- Some pair of function n (and scope, where given) is in demand on a path. -/
def funcPair (s : State) (path n : Nat) (scope : Option Nat) : Bool :=
  (pairsIx s).any (fun q =>
    q.1.func == n && (scope.isNone || scope == some q.1.scope) && pairDemand s path q.2 q.1)

/-- A car door's pair reads closed and locked on a path: every pair of function 2 for that door (R493). -/
def doorLocked (s : State) (path : Nat) : Bool := !funcPair s path 2 none

/-! ### Landing-door interlocks (11 Table 11.7; R372, R496, R517) -/

/-- A path's state of landing-bus node (port, node). -/
def nodeOf (s : State) (path port node : Nat) : IlkNode :=
  smGet IlkNode.init s.saf.nodes (pk path (port * 32 + node))

/-- Node state changed. -/
def modNode (path port node : Nat) (f : IlkNode → IlkNode) (s : State) : State :=
  { s with saf := { s.saf with nodes := smMod IlkNode.init s.saf.nodes (pk path (port * 32 + node)) f } }

/-- KIND of an interlock source word. -/
def ilkKind (w : Word) : Nat := getF ⟨31, 30⟩ w
/-- Landing-bus port and node of a source word of KIND 2. -/
def ilkNode (w : Word) : Nat × Nat := (getF ⟨8, 8⟩ w, getF ⟨4, 0⟩ w)

/-- Contacts A and B of an interlock source as a path reads them; an expired node reads 0 in both (R517). -/
def ilkContacts (s : State) (path : Nat) (w : Word) : Bool × Bool :=
  match ilkKind w with
  | 1 => (pathIn s path (getF ⟨13, 7⟩ w), pathIn s path (getF ⟨6, 0⟩ w))
  | 2 =>
    let x := nodeOf s path (ilkNode w).1 (ilkNode w).2
    (x.alive && x.state.testBit 0, x.alive && x.state.testBit 1)
  | _ => (true, true)

/-- An interlock source reads closed on a path. -/
def ilkClosed (s : State) (path : Nat) (w : Word) : Bool :=
  let c := ilkContacts s path w
  c.1 && c.2 && (ilkKind w != 2 || (nodeOf s path (ilkNode w).1 (ilkNode w).2).pair.need == 0)

/-- Enabled landings of the safety set with their indices. -/
def safeLandings (s : State) : List (SafeLanding × Nat) := (sps s).landings.zipIdx.filter (fun q => q.1.en)

/-- A landing has an open door on a path: an interlock that its record names, whether or not the side is flagged. -/
def landingOpen (s : State) (path : Nat) (l : SafeLanding) : Bool := !ilkClosed s path l.ilkF || !ilkClosed s path l.ilkR

/-- Every landing-door interlock input is closed on both paths (Table 3.2). -/
def interlocksClosed (s : State) : Bool :=
  (safeLandings s).all (fun q => !landingOpen s 0 q.1 && !landingOpen s 1 q.1)

/-! ### Cars as the safety core knows them -/

/-- The core's position of car record c. -/
def corePos (s : State) (c : Nat) : CorePos := smGet CorePos.init s.saf.core c

/-- The core starts from a position given with a record or in a safety telegram, until its pairs form one (log entry 56). -/
def coreSeed (c : Nat) (pos vel : Int) (s : State) : State :=
  { s with saf := { s.saf with core := smSet CorePos.init s.saf.core c ⟨false, pos, vel⟩ } }

/-- Lower end of car c's magnet array where the core has it. -/
def coreArr (s : State) (c : Nat) : Int := (corePos s c).pos + (sps s).arrOfs

/-- Segment x, by the ends in the safety set, lies under car c's array by the core's position (16 R498). -/
def coreUnder (s : State) (x : SegX) (c : Nat) : Bool :=
  decide (0 < overlapLen ((sps s).segEnds.getD x.seg 0) ((sps s).segEnds.getD (x.seg + 1) 0) (coreArr s c) (coreArr s c + (sps s).arrLen))

/-- The permission this device grants car record c, if any (11 R368). -/
def grantOf (s : State) (c : Nat) : Option Grant := smFind s.saf.grants c

/-- Own permission in force for car record c. -/
def granted (s : State) (c : Nat) : Bool :=
  match grantOf s c with
  | some g => g.on
  | none => false

/-- The latest CAR_STATE of a car. -/
def carTel (s : State) (id : Nat) : CarTel := smGet CarTel.init s.saf.carTels id

/-- The latest SEC_STATE of a section device. -/
def secTel (s : State) (id : Nat) : SecTel := smGet SecTel.init s.saf.secTels id

/-- The latest PERMIT of a section device. -/
def permitTel (s : State) (id : Nat) : PermitTel := smGet PermitTel.init s.saf.permits id

/-- A received PERMIT is in force: within its watchdog and granted. -/
def permitLive (p : PermitTel) : Bool := p.alive && p.flags.testBit 0

/-- Car doors closed and locked as reported within the watchdog by both paths of the car device (R494). -/
def carDoorsOk (s : State) (id : Nat) : Bool :=
  let t := carTel s id
  t.alive && t.flags.testBit 0 && t.flags.testBit 1

/-- A permission in force for car record c: the own one, or a neighbour's received one (R371). -/
def permitFor (s : State) (c : Nat) : Bool :=
  granted s c || s.saf.permits.any (fun e => permitLive e.2 && e.2.car == (s.car c).id)

/-- The core's speed of car record c is at most V_DZ. -/
def slowCar (s : State) (c : Nat) : Bool :=
  (corePos s c).ok && decide ((corePos s c).vel.natAbs ≤ (sps s).vDz)

/-- R371 allows torque to car record c: doors reported closed and locked, or a permission in force at low speed. -/
def doorTorque (s : State) (c : Nat) : Bool := carDoorsOk s (s.car c).id || (permitFor s c && slowCar s c)

/-- The reservation entry of a car overlaps an interval (R497). -/
def resOverlaps (s : State) (id : Nat) (lo hi : Int) : Bool :=
  s.bss.res.any (fun e => e.2.car == id && decide (e.2.lo ≤ hi) && decide (lo ≤ e.2.hi))

/-- Extent of a section device as it announced it; a neighbour that has not announced begins or ends at the own boundary. -/
def extentOf (s : State) (id : Nat) : Int × Int :=
  match learnedOf s id with
  | some l => (l.ann.extLo, l.ann.extHi)
  | none =>
    let g := s.conf.geom
    match g.below with
    | some n => if n.id = id then (g.lower - (n.lens.map (fun (x : Nat) => (x : Int))).sum, g.lower)
      else (extHi g, extHi g)
    | none => (extHi g, extHi g)

/-- A neighbour's SEC_DEMAND stops car record c (R497). -/
def neighbourStop (s : State) (c : Nat) : Bool :=
  s.saf.secTels.any (fun e =>
    e.2.alive && e.2.flags.testBit 0 &&
      (let x := extentOf s e.1
       resOverlaps s (s.car c).id x.1 x.2))

/-- CAR_DEMAND of the car device (R508). -/
def carDemand (s : State) (c : Nat) : Bool :=
  let t := carTel s (s.car c).id
  t.alive && t.flags.testBit 4

/-- The safety core stops car record c: a demand for it, or a fault that stops it (16 R487). -/
def carStop (s : State) (c : Nat) : Bool :=
  !doorTorque s c || carDemand s c || neighbourStop s c || s.saf.stops.contains (s.car c).id

/-! ### Occupancy as the Eclipse logic sees it (R496, R499, R506) -/

/-- Class of a segment. -/
inductive SegClass where
  | occupied | unknown | empty
  deriving DecidableEq, Repr

/-- What the Eclipse logic keeps of channel n. -/
def eclCh (s : State) (n : Nat) : EclCh := smGet EclCh.init s.saf.ecl n

/-- Class of an own segment; failed in the sense of 07 R211, since no value of FBK's serves a path (15 R466). -/
def eclClass (s : State) (x : SegX) : SegClass :=
  let e := eclCh s x.chan
  if e.ok && !chanFault s x.chan then (if e.pres0 || e.pres1 then .occupied else .empty) else .unknown

/-- An occupied run: its first and last segment, its occupied segments, and the empty ones since the run before. -/
structure OccRun where
  first : Nat
  last : Nat
  count : Nat
  gap : Option Nat
  deriving DecidableEq, Repr

/-- Runs of a list of classes, newest first; `empties`: empty segments since the last occupied one. -/
def occRuns : List (SegClass × Nat) → Nat → List OccRun → List OccRun
  | [], _, acc => acc
  | (.occupied, k) :: t, empties, r :: acc =>
    if empties = 0 then occRuns t 0 ({ r with last := k, count := r.count + 1 } :: acc)
    else occRuns t 0 (⟨k, k, 1, some empties⟩ :: r :: acc)
  | (.occupied, k) :: t, _, [] => occRuns t 0 [⟨k, k, 1, none⟩]
  | (.unknown, _) :: t, empties, acc => occRuns t empties acc
  | (.empty, _) :: t, empties, acc => occRuns t (empties + 1) acc

/-- The occupied runs of the section. -/
def runs (s : State) : List OccRun :=
  occRuns ((ownSegs s.conf.geom).map (fun x => (eclClass s x, x.seg))) 0 []

/-- A run breaks R506. -/
def runBad (s : State) (r : OccRun) : Bool :=
  decide ((sps s).runMax < r.count) || (match r.gap with
    | some g => decide (g < (sps s).gMin)
    | none => false)

/-- Largest step of the PRESENT pairs of a channel. -/
def eclStep (e : EclCh) : Nat :=
  max (if e.pres0 then e.step0.natAbs else 0) (if e.pres1 then e.step1.natAbs else 0)

/-- The Eclipse logic tolerates the opening of a landing: the segment with its TARGET is occupied, and that run moves by at most
ECL_DZ steps per period (R496). -/
def eclTolerates (s : State) (l : SafeLanding) : Bool :=
  match (ownSegs s.conf.geom).find? (fun x => decide (x.lo ≤ l.target) && decide (l.target < x.hi)) with
  | none => false
  | some x =>
    eclClass s x == .occupied &&
    (match (runs s).find? (fun r => decide (r.first ≤ x.seg) && decide (x.seg ≤ r.last)) with
     | none => false
     | some r =>
       (ownSegs s.conf.geom).all (fun y =>
         decide (y.seg < r.first) || decide (r.last < y.seg) || decide (eclStep (eclCh s y.chan) ≤ (sps s).eclDz)))

/-! ### Demands (R487, R488, R496, R508) -/

/-- The safety core tolerates the open doors of landing l: a permission in force names it (R372). -/
def coreTolerates (s : State) (l : Nat) : Bool :=
  s.saf.grants.any (fun e => e.2.on && e.2.landing == l)

/-- A landing has an open door on a path that is not tolerated: `tol` covers the sides the record flags, which a permission names
(R372). -/
def landingBad (s : State) (path : Nat) (l : SafeLanding) (tol : Bool) : Bool :=
  (!ilkClosed s path l.ilkF && !(l.front && tol)) || (!ilkClosed s path l.ilkR && !(l.rear && tol))

/-- A landing door is open that a path does not tolerate (function 1). -/
def landingDemand (s : State) (path : Nat) : Bool :=
  (safeLandings s).any (fun q => landingBad s path q.1 (if path = 0 then coreTolerates s q.2 else eclTolerates s q.1))

/-- FG4 under-voltage is a demand (14 R465). -/
def stoSupplyDemand (s : State) : Bool := (tapOf s 0 4).uv || (tapOf s 1 4).uv

/-- A path stops the section: an open landing door, or a pair of any function but 2 in demand (R487, R508). -/
def sectionStop (s : State) (path : Nat) : Bool :=
  isSection s &&
    (landingDemand s path ||
      (pairsIx s).any (fun q => q.1.func != 2 && pairDemand s path q.2 q.1))

/-- In car role, a pair other than a door's is in demand (R508). -/
def carPairDemand (s : State) (path : Nat) : Bool :=
  isCar s && (pairsIx s).any (fun q => q.1.func != 2 && pairDemand s path q.2 q.1)

/-- The safety inputs of the set: the channels of its pairs, the contacts of its interlocks on inputs, its named inputs and brake
feedbacks (14 R434). -/
def safeInputs (s : State) : List Nat :=
  let p := sps s
  p.pairs.flatMap (fun q => [q.a, q.b]) ++
    p.landings.flatMap (fun l =>
      [l.ilkF, l.ilkR].flatMap (fun w => if ilkKind w = 1 then [getF ⟨13, 7⟩ w, getF ⟨6, 0⟩ w] else [])) ++
    [p.key, p.keyCf] ++
    [p.rstA, p.rstB, p.insp, p.runUp, p.runDn, p.rescueIn, p.brkFbA, p.brkFbB].filterMap (fun x => x)

/-- A group with a safety input is out for a path (function 10). -/
def silentDemand (s : State) (path : Nat) : Bool := (safeInputs s).any (fun i => tapOut (tapOf s path (i / 24)))

/-- Whether the car device's PERMIT window holds the tape: a permission in force (11 R369). -/
def permitInForce (s : State) (p : PermitTel) : Bool :=
  permitLive p && p.car == s.myId && s.saf.tape.ok &&
    decide (p.target - p.dzDn ≤ s.saf.tape.pos) && decide (s.saf.tape.pos ≤ p.target + p.dzUp)

/-- The permission in force at a car device, if any. -/
def carPermit (s : State) : Option PermitTel := (s.saf.permits.map (fun e => e.2)).find? (permitInForce s)

/-- A car door is not closed and locked and no permission is in force. -/
def doorDemand (s : State) : Bool := isCar s && !(doorLocked s 0 && doorLocked s 1) && (carPermit s).isNone

/-- Function n of Table 16.1 is in demand on either path: a pair of it, its own condition (log entry 48), or a fault of it since
the last deliberate reset. -/
def funcDemand (s : State) (n : Nat) : Bool :=
  s.saf.trip.testBit n ||
  (match n with
   | 1 => (isSection s && (landingDemand s 0 || landingDemand s 1)) || funcPair s 0 1 none || funcPair s 1 1 none
   | 2 => (isSection s && (heldCars s).any (fun c => !doorTorque s c)) || doorDemand s
   | 3 => (isSection s && (heldCars s).any (fun c => !carDoorsOk s (s.car c).id && !permitFor s c)) || doorDemand s
   | 10 => silentDemand s 0 || silentDemand s 1
   | _ => funcPair s 0 n none || funcPair s 1 n none)

/-- Bits [10:1] of SAF_FUNC_STAT. -/
def funcBits (s : State) : Nat := mapBits 10 (fun i => funcDemand s (i + 1))

/-- A safety demand is active (guards of Table 3.2). -/
def demandActive (s : State) : Bool := funcBits s != 0 || stoSupplyDemand s

/-- A path has heard of every group since it started: a reply, or four instants without one. A halted core hears nothing. -/
def pathSettled (s : State) (path : Nat) : Bool :=
  (path == 0 && s.saf.coreDown) || (List.range 4).all (fun g => (tapOf s path g).last.isSome || (tapOf s path g).lost)

/-- Once both paths have heard of every group (log entry 48), SAF_FUNC_STAT follows the demands, and SAF_EVENT.DEMAND tells of a new
one. -/
def safRefresh (s : State) : State :=
  if pathSettled s 0 && pathSettled s 1 then
    let old := s.get F.SAF_FUNC_STAT.DEMAND
    let new := funcBits s
    let t := s.put F.SAF_FUNC_STAT.DEMAND new
    if (List.range 10).any (fun i => new.testBit i && !old.testBit i) then t.ev F.SAF_EVENT.DEMAND else t
  else s

/-! ### STO (R59, R465, R474, R487; 13 R416, R425) -/

/-- A path withholds torque from the whole device: no torque mode, the default set, the path or its partner failed, a section
stop, or FG4 under-voltage. -/
def pathHold (s : State) (path : Nat) : Bool :=
  !s.servoOn || spsDefault s || s.saf.coreDown || s.saf.eclFail || sectionStop s path || stoSupplyDemand s

/-- Channel n drives a segment of car record c's array in this section, by the core's position (15 R466). -/
def chanOfCar (s : State) (n c : Nat) : Bool := (ownSegs s.conf.geom).any (fun x => x.chan == n && coreUnder s x c)

/-- STO_A of channel n: the core's requests (R371, R425, R487), a faulted channel slot's among them (07 R209, R212). -/
def stoA (s : State) (n : Nat) : Bool :=
  pathHold s 0 || chanFault s n || (isSection s && (heldCars s).any (fun c => carStop s c && chanOfCar s n c))

/-- STO_B of channel n: the Eclipse logic's requests. -/
def stoB (s : State) (_n : Nat) : Bool := pathHold s 1

/-- SAF_STO_MAP takes the bits of a boundary; a channel with no slot shows 1, as after reset (log entry 82). -/
def noteSto (s : State) : State :=
  s.forN 4 (fun i t => t.setReg (Reg.SAF_STO_MAP i) (wd (mapBits 32 (fun b =>
    let n := 32 * i + b
    !(chanEn s n && portSends s (portOf n)) || stoA s n || stoB s n))))

/-! ### Register views -/

/-- SAF_STAT. -/
def safStatWord (s : State) : Word :=
  let run := s.awake
  let dem := mapBits 8 (fun p => portEn s p && (sectionStop s 0 || sectionStop s 1 || stoSupplyDemand s))
  wd (b2n (s.mode == .lockout) * 2 ^ 13 + b2n s.nv.lc.fenced * 2 ^ 12 + s.get F.SAF_STAT.DIAG_SUSP * 2 ^ 11 +
    s.get F.SAF_STAT.PROOF_DUE * 2 ^ 10 + b2n (run && !s.saf.coreDown) * 2 ^ 9 + b2n (run && !s.saf.eclFail) * 2 ^ 8 + dem)

end Sys2Proof.Machine
end

