-- ==== Sys2Proof/Machine/SafField.lean ====
section
/-!
DEFINITION. The safety paths at the field dies (14 R435 to R465; 16 R488 to R492, R509 to R511): the refresh, replies on the
three taps, output and line checks, the energising order, discrepancy ticks, brake feedback, and the reset pair's holds.
-/

namespace Sys2Proof.Machine

open Sys2Proof

/-! ### Permissions (R436, R509, R511) -/

/-- Modes that permit torque (03 Table 3.1). -/
def modeTorque : Mode → Bool
  | .service | .inspection | .rescue | .commissioning => true
  | _ => false

/-- Entry of this car in a section device's SEC_STATE. -/
def secEntryFor (t : SecTel) (id : Nat) : Option SecEntry := t.cars.find? (fun e => e.car == id)

/-- The owner's SEC_STATE holds the car without BRAKE_DEMAND (R509). -/
def ownerHolds (s : State) : Bool :=
  s.saf.secTels.any (fun e =>
    e.2.alive && (match secEntryFor e.2 s.myId with
      | some x => x.cf.testBit 1 && x.cf.testBit 3 && !x.cf.testBit 2
      | none => false))

/-- A section device within its watchdog has sent BRAKE_DEMAND for the car. -/
def brakeAsked (s : State) : Bool :=
  s.saf.secTels.any (fun e =>
    e.2.alive && (match secEntryFor e.2 s.myId with
      | some x => x.cf.testBit 2
      | none => false))

/-- The brake permission (R509). -/
def brakePermit (s : State) : Bool :=
  modeTorque s.mode && !demandActive s && s.mode != .lockout && ownerHolds s && !brakeAsked s

/-- Output n is a brake. -/
def isBrake (s : State) (n : Nat) : Bool := (sps s).brkA == some n || (sps s).brkB == some n

/-- The core's permission for safety output n: none in Lock-out, in the Fenced state, from a failed path, or before four fresh
replies after a silence (R474, R511); a brake's own rule; any other safety output is permitted (log entry 48). -/
def permits (s : State) (n : Nat) : Bool :=
  safeOut s n && s.mode != .lockout && !s.nv.lc.fenced && !s.saf.coreDown && !s.saf.eclFail &&
    !(tapOf s 0 (n / 8)).hold && !(tapOf s 1 (n / 8)).hold && (!isBrake s n || brakePermit s)

/-- Permission word of group g. -/
def permWord (s : State) (g : Nat) : Nat := mapBits 8 (fun b => permits s (8 * g + b))

/-! ### The refresh (R435, R462, R465, R472) -/

/-- A path wants port p's line energised: the port is enabled and nothing holds it (R59, R472). -/
def wantLine (s : State) (path p : Nat) : Bool := portEn s p && !pathHold s path

/-- The line commands at a grid instant: A lines follow at once, B lines that may not stay on fall (R465). -/
def lineCommands (s : State) : State :=
  let t := s.forN 8 (fun p u =>
    if wantLine u 0 p then
      if (smFind u.saf.aOn p).isSome then u else { u with saf := { u.saf with aOn := smPut u.saf.aOn p u.tb.tick } }
    else { u with saf := { u.saf with aOn := smErase u.saf.aOn p } })
  { t with saf := { t.saf with bOn := mapBits 8 (fun p => t.saf.bOn.testBit p && wantLine t 1 p) } }

/-- A lines commanded on. -/
def linesA (s : State) : Nat := mapBits 8 (fun p => (smFind s.saf.aOn p).isSome)

/-- The frame of group g with the core's permissions; a changeover output held on is requested (18 R569). A Fenced device commands what the silent action would (18 R563). -/
def refreshFrame (s : State) (g : Nat) : FieldFrame :=
  let f0 := groupFrame s g (permWord s g) (!s.saf.coreDown)
  let f := match s.nv.lc.chgOut with
    | some n => if n / 8 = g then { f0 with req := setBitN f0.req (n % 8) true } else f0
    | none => f0
  if s.nv.lc.fenced then { f with req := f.pat.getD 0, pulses := [] } else f

/-- The output whose off-pulse runs in group g, plus 1. -/
def pulseNow (s : State) (g : Nat) : Nat :=
  match (s.die g).off with
  | some n => n + 1
  | none => 0

/-- What the dies' outputs and the lines are commanded to as the readbacks are latched, and the off-pulse that runs (keys 8 to 11:
one more than the output's number, 0 for none). -/
def noteCommands (s : State) : State :=
  { s with fio := { s.fio with
    cmdPrev := [(0, mapBits 8 (outDriven s)), (1, mapBits 8 (fun b => outDriven s (8 + b))),
                (2, mapBits 8 (fun b => outDriven s (16 + b))), (3, mapBits 8 (fun b => outDriven s (24 + b))),
                (4, ((smFind s.fio.sent 4).map (fun f => f.lines)).getD 0),
                (5, ((smFind s.fio.sent 5).map (fun f => f.lines)).getD 0),
                (8, pulseNow s 0), (9, pulseNow s 1), (10, pulseNow s 2), (11, pulseNow s 3)] } }

/-- Every tap counts a grid instant. -/
def tapsTick (s : State) : State :=
  s.forN 2 (fun path t => t.forN 5 (fun g u => modTap path g (fun x => { x with since := x.since + 1 }) u))

/-- A grid instant: the dies latch, the logic side samples and sends a frame on each link; a halted core sends none on link A
(R435, R462, 15 R469). -/
def fieldRefresh (s : State) : State :=
  if s.awake then
    let t := tapsTick (noteCommands (s.forN 4 dieLatch))
    let u := lineCommands t
    let v := u.forN 4 (fun g w => sendFrame g (refreshFrame w g) w)
    let w := if v.saf.coreDown then v else sendFrame 4 (lineFrame v 4 (linesA v)) v
    let x := sendFrame 5 (lineFrame w 5 w.saf.bOn) w
    { x with fio := { x.fio with pulses := [], clr := 0 } }
  else s

/-- FIELD_REFRESH (R435). -/
def execFieldRefresh (s : State) : Host.Outcome State Fault Refusal := .next (fieldRefresh s)

/-! ### Replies on the safety taps (R492, R511) -/

/-- A fresh reply: its content, and permission again after four of them. -/
def tapFresh (path g c rb : Nat) (s : State) : State :=
  let d := s.die g
  modTap path g (fun x =>
    let sil := d.silent || d.silAct
    let n := if sil then 0 else min 4 (x.fresh + 1)
    { x with
      last := some c, since := 0, stale := 0, absent := 0, fresh := n, lost := false, sil := sil
      hold := if sil then true else x.hold && decide (n < 4)
      inputs := d.lat, rb := rb, uv := d.uv }) s

/-- A reply with count c is fresh: the first one, or as many counts on as grid instants have passed (log entry 49). -/
def tapIsFresh (x : Tap) (c : Nat) : Bool :=
  match x.last with
  | none => true
  | some l => c == (l + x.since) % 256

/-- A path's tap at a grid instant: a fresh, a stale or no reply; the flag says that a fourth stale one came. -/
def tapReply (path g : Nat) (r : Option Nat) (rb : Nat) (s : State) : State × Bool :=
  let x := tapOf s path g
  match r with
  | some c =>
    if tapIsFresh x c then (tapFresh path g c rb s, false)
    else (modTap path g (fun y => { y with stale := min 4 (y.stale + 1), absent := 0, fresh := 0 }) s, x.stale == 3)
  | none =>
    (modTap path g (fun y =>
      { y with absent := min 4 (y.absent + 1), fresh := 0,
               lost := y.lost || decide (3 ≤ y.absent), hold := y.hold || decide (3 ≤ y.absent) }) s, false)

/-- Both safety taps of group g: a stale tap is a fault of class 17 (R492). -/
def safTaps (g : Nat) (core ecl : Option Nat) (rb : Nat) (s : State) : State :=
  let a := if s.saf.coreDown then (s, false) else tapReply 0 g core rb s
  let b := tapReply 1 g ecl rb a.1
  pathFault a.2 b.2 17 g b.1

/-! ### Safety outputs (R456, R457, R460) -/

/-- A fault of a safety output: the cause latches at the die, the device enters Lock-out (R457). -/
def outFault (n code partner : Nat) (s : State) : State :=
  let t := modOut n (fun o => { o with stuck := code, partner := partner }) s
  safFault 1 9 n (t.ev (if code = 5 then F.FIO_EVENT.CROSS else F.FIO_EVENT.STUCK))

/-- Output n is commanded on and outside its pulse at the last grid instant, and reads low. -/
def readsLow (s : State) (n rb : Nat) : Bool :=
  (smGet 0 s.fio.cmdPrev (n / 8)).testBit (n % 8) && !rb.testBit (n % 8) && smGet 0 s.fio.cmdPrev (8 + n / 8) != n + 1

/-- The readback of safety output n at a grid instant: STUCK_ON while off, STUCK_OFF after two low readings while on outside its
pulse; a thermal shutdown of it is a fault as well. -/
def outCheck (n rb : Nat) (s : State) : State :=
  let g := n / 8
  let b := n % 8
  let o := outSt s n
  if safeOut s n && o.stuck == 0 then
    let on := (smGet 0 s.fio.cmdPrev g).testBit b
    if !on && rb.testBit b then outFault n 4 0 s
    else if readsLow s n rb && (s.die g).low.testBit b then outFault n 6 0 s
    else if (s.die g).newTherm.testBit b then safFault 1 9 n s
    else s
  else s

/-- What the die keeps of a sampled readback: the outputs that read low though on. -/
def outSampled (g rb : Nat) (s : State) : State :=
  s.modDie g (fun d => { d with rb := rb, low := mapBits 8 (fun b => readsLow s (8 * g + b) rb) })

/-- The core's tap begins to show UV of a group that had a safety output on: Lock-out (R460). -/
def uvLock (g : Nat) (was : Bool) (s : State) : State :=
  if !was && (tapOf s 0 g).uv && (s.die g).uvSafe then safFault 1 12 g s else s

/-- The end of output n's off-pulse with the group's readbacks: STUCK_ON if it reads high; CROSS with an output commanded off whose
readback fell during the pulse (R456). -/
def offPulseEnd (n rb : Nat) (s : State) : State :=
  let g := n / 8
  if (s.die g).off = some n then
    let was := (s.die g).rb
    let s0 := s.modDie g (fun d => { d with off := none, rb := rb })
    if s.awake then
      let s1 := s0.forN 8 (fun b t =>
        let m := 8 * g + b
        if m != n && safeOut t m && (outSt t m).stuck == 0 && !outCmd s m && was.testBit b && !rb.testBit b then outFault n 5 m (outFault m 5 n t) else t)
      if rb.testBit (n % 8) && (outSt s1 n).stuck == 0 then outFault n 4 0 s1 else s1
    else s0
  else s

/-- OFF_PULSE_END (R456, R457). -/
def execOffPulseEnd (out : Fin 32) (rb : Nat) (s : State) : Host.Outcome State Fault Refusal :=
  .next (safRefresh (offPulseEnd out.val rb s))

/-! ### STO lines (R464, R465) -/

/-- Disagreement of line i (bit 2p: A, 2p + 1: B) on its own path's view. -/
def lineWrong (s : State) (path rb p : Nat) : Bool :=
  rb.testBit (2 * p + path) != (smGet 0 s.fio.cmdPrev (4 + path)).testBit p

/-- One path's comparison of its lines at a reply: a disagreement at two grid instants running is a fault (class 10). -/
def lineCheck (path rb p : Nat) (s : State) : State :=
  let key := path * 8 + p
  if lineWrong s path rb p && !(tapOf s path 4).uv then
    let n := smGet 0 s.saf.lineBad key + 1
    let t := { s with saf := { s.saf with lineBad := smSet 0 s.saf.lineBad key (min 3 n) } }
    if n = 2 then safFault (path + 1) 10 (2 * p + path) t else t
  else { s with saf := { s.saf with lineBad := smErase s.saf.lineBad key } }

/-- The nodes' LINE bits have disagreed with a path's command of port p for two grid instants. -/
def nodeLineCheck (path p : Nat) (s : State) : State :=
  match smFind s.saf.nodeBad (path * 8 + p) with
  | some t0 =>
    if t0 + 62500 ≤ s.tb.tick then
      safFault (path + 1) 10 (2 * p + path) { s with saf := { s.saf with nodeBad := smErase s.saf.nodeBad (path * 8 + p) } }
    else s
  | none => s

/-- Each path compares every line (R464). -/
def lineChecks (rb : Nat) (s : State) : State :=
  s.forN 8 (fun p t =>
    let a := if t.saf.coreDown then t else nodeLineCheck 0 p (lineCheck 0 rb p t)
    nodeLineCheck 1 p (lineCheck 1 rb p a))

/-- LINE_B of a node of port p reads energised in its last slot. -/
def lineBSeen (s : State) (p : Nat) : Bool :=
  (portChans s p).any (fun n => (s.chan n).got && (s.get (F.SLK_CH_STAT.NSTAT n)).testBit 13)

/-- 1 ms after STOpA: STOpB is energised if it reads de-energised and no node reports LINE_B; otherwise the two lines are wired
together, a fault (R465). -/
def stobEnergise (p : Nat) (s : State) : State :=
  match smFind s.saf.aOn p with
  | none => s
  | some t0 =>
    if s.servoOn && t0 + 125000 ≤ s.tb.tick && !s.saf.bOn.testBit p && wantLine s 1 p then
      if (tapOf s 0 4).rb.testBit (2 * p + 1) || (tapOf s 1 4).rb.testBit (2 * p + 1) || lineBSeen s p then safFault 3 10 (2 * p + 1) s
      else { s with saf := { s.saf with bOn := setBitN s.saf.bOn p true } }
    else s

/-- STOB_ENERGISE (R465). -/
def execStobEnergise (port : Fin 8) (s : State) : Host.Outcome State Fault Refusal := .next (stobEnergise port.val s)

/-! ### Pairs after a discrepancy fault (R491) -/

/-- What a pair still needs, by the contacts now read. -/
def pairNeed (a b : Bool) (x : PairSt) : PairSt :=
  if x.need = 2 ∧ !a ∧ !b then { x with need := 1 }
  else if x.need = 1 ∧ a ∧ b then { x with need := 0 }
  else x

/-- Every pair of the set follows the inputs. -/
def pairsFollow (s : State) : State :=
  s.forL (pairsIx s) (fun q t => t.forN 2 (fun path u =>
    modPairSt path q.2 (pairNeed (pathIn u path q.1.a) (pathIn u path q.1.b)) u))

/-! ### Discrepancy (R489, R517) -/

/-- One quarter tick of a pair with time td: the new count, and whether the fault is raised. -/
def pairTick (a b : Bool) (td : Nat) (x : PairSt) : PairSt × Bool :=
  let n := if a != b then min 4000 (x.cnt + 1) else 0
  let hit := a != b && n != x.cnt && n == 4 * td - 1
  ({ cnt := n, need := if hit then 3 else x.need }, hit)

/-- A quarter tick of pair j. -/
def discrepancyPair (q : SafetyPair × Nat) (s : State) : State :=
  let r (path : Nat) := pairTick (pathIn s path q.1.a) (pathIn s path q.1.b) q.1.td (pairSt s path q.2)
  let c := !s.saf.coreDown
  let t := modPairSt 1 q.2 (fun _ => (r 1).1) (if c then modPairSt 0 q.2 (fun _ => (r 0).1) s else s)
  let hit := (c && (r 0).2) || (r 1).2
  pathFault (c && (r 0).2) (r 1).2 (32 + q.1.func) q.1.a (if hit then t.ev F.SAF_EVENT.DISC_FAULT else t)

/-- Landing-bus nodes named in the landing table, as (port, node). -/
def safeNodes (s : State) : List (Nat × Nat) :=
  ((safeLandings s).flatMap (fun q =>
    (if ilkKind q.1.ilkF == 2 then [ilkNode q.1.ilkF] else []) ++ (if ilkKind q.1.ilkR == 2 then [ilkNode q.1.ilkR] else []))).eraseDups

/-- Contacts of a node on a path; both read 0 once its watchdog has expired. -/
def nodeContacts (s : State) (path : Nat) (q : Nat × Nat) : Bool × Bool :=
  let x := nodeOf s path q.1 q.2
  (x.alive && x.state.testBit 0, x.alive && x.state.testBit 1)

/-- A quarter tick of a landing-bus node, with T_D_LB. -/
def discrepancyNode (q : Nat × Nat) (s : State) : State :=
  let r (path : Nat) :=
    pairTick (nodeContacts s path q).1 (nodeContacts s path q).2 (sps s).tdLb (nodeOf s path q.1 q.2).pair
  let c := !s.saf.coreDown
  let t := modNode 1 q.1 q.2 (fun x => { x with pair := (r 1).1 })
    (if c then modNode 0 q.1 q.2 (fun x => { x with pair := (r 0).1 }) s else s)
  let hit := (c && (r 0).2) || (r 1).2
  pathFault (c && (r 0).2) (r 1).2 33 (q.1 * 32 + q.2) (if hit then t.ev F.SAF_EVENT.DISC_FAULT else t)

/-- A quarter tick of the always-on clock. -/
def discrepancyTick (s : State) : State :=
  if s.awake then safRefresh ((s.forL (pairsIx s) discrepancyPair).forL (safeNodes s) discrepancyNode) else s

/-- DISCREPANCY_TICK (R489). -/
def execDiscrepancyTick (s : State) : Host.Outcome State Fault Refusal := .next (discrepancyTick s)

/-! ### Brakes (R510) -/

/-- Brake b's output and feedback input. -/
def brakeOf (s : State) (b : Nat) : Option (Nat × Nat) :=
  match (if b = 0 then (sps s).brkA else (sps s).brkB), (if b = 0 then (sps s).brkFbA else (sps s).brkFbB) with
  | some o, some i => some (o, i)
  | _, _ => none

/-- Brake b's feedback against its readback, as a path's taps show them. -/
def brakeTrack (path b : Nat) (s : State) : State :=
  match brakeOf s b with
  | none => s
  | some (o, i) =>
    let key := path * 2 + b
    if (tapOf s path (o / 8)).rb.testBit (o % 8) == pathIn s path i then
      { s with saf := { s.saf with brkBad := smErase s.saf.brkBad key } }
    else if (smFind s.saf.brkBad key).isSome then s
    else { s with saf := { s.saf with brkBad := smPut s.saf.brkBad key s.tb.tick } }

/-- Both brakes on both paths. -/
def brakesTrack (s : State) : State := s.forN 2 (fun path t => t.forN 2 (fun b u => brakeTrack path b u))

/-- On a path, brake b's feedback has not followed for T_BRK. -/
def brakeLate (s : State) (path b : Nat) : Bool :=
  match smFind s.saf.brkBad (path * 2 + b) with
  | some t0 => decide (t0 + (sps s).tBrk * 125000 ≤ s.tb.tick)
  | none => false

/-- A brake feedback has not followed for T_BRK: a fault of function 9 on the paths that see it (R510). -/
def brakeTimeout (b : Nat) (s : State) : State :=
  match brakeOf s b with
  | some (o, _) =>
    let core := brakeLate s 0 b && !s.saf.coreDown
    let ecl := brakeLate s 1 b
    if s.awake && (core || ecl) then
      safRefresh (pathFault core ecl 41 o
        { s with saf := { s.saf with brkBad := smErase (smErase s.saf.brkBad b) (2 + b) } })
    else s
  | none => s

/-- BRAKE_FEEDBACK_TIMEOUT (R510). -/
def execBrakeFeedbackTimeout (brake : Fin 2) (s : State) : Host.Outcome State Fault Refusal :=
  .next (brakeTimeout brake.val s)

/-! ### The reset pair's holds (15 R476, R477) and KEY_CF (R522) -/

/-- Both inputs of the reset pair read 1 from time t (ns) on. -/
def rstRose (t : Nat) (s : State) : State := { s with saf := { s.saf with rstRise := some t } }

/-- The first of them falls at time t: a hold of an armed pair ends. -/
def rstFell (t : Nat) (s : State) : State :=
  match s.saf.rstRise with
  | some t0 =>
    { s with saf := { s.saf with
      rstRise := none
      rstHold := if s.saf.rstArmed then some (t - t0) else s.saf.rstHold } }
  | none => s

/-- The edges of a reply in order, with the levels of RST_A and RST_B (inputs a and b) before them: a hold runs from the later
rising edge to the earlier falling one. -/
def rstEdges (a b : Nat) : List (Nat × Bool × Nat) → Bool → Bool → State → State
  | [], _, _, s => s
  | e :: l, va, vb, s =>
    let wa := if e.1 == a then e.2.1 else va
    let wb := if e.1 == b then e.2.1 else vb
    let t := if wa && wb && !(va && vb) then rstRose e.2.2 s else if va && vb && !(wa && wb) then rstFell e.2.2 s else s
    rstEdges a b l wa wb t

/-- The reset pair's edges in a reply that is fresh for the core. -/
def rstReply (edges : List (Nat × Bool × Nat)) (s : State) : State :=
  match (sps s).rstA, (sps s).rstB with
  | some a, some b => rstEdges a b edges (pathIn s 0 a) (pathIn s 0 b) s
  | _, _ => s

/-- Both inputs of the reset pair at 0 together for 0.5 s arm it (R477). -/
def rstLevel (s : State) : State :=
  match (sps s).rstA, (sps s).rstB with
  | some a, some b =>
    if !pathIn s 0 a && !pathIn s 0 b then
      let t0 := s.saf.rstLow.getD s.tb.tick
      { s with saf := { s.saf with rstLow := some t0, rstArmed := s.saf.rstArmed || decide (t0 + 62500000 ≤ s.tb.tick) } }
    else { s with saf := { s.saf with rstLow := none } }
  | _, _ => s

/-- KEY_CF closing while a confirmation waits starts a hold (R522). -/
def keyCfLevel (s : State) : State :=
  match s.saf.xfer with
  | some x =>
    if x.confirmAt.isSome && pathIn s 0 (sps s).keyCf && x.cfFrom.isNone then
      { s with saf := { s.saf with xfer := some { x with cfFrom := some s.tb.tick } } }
    else s
  | none => s

/-! ### FIELD_REPLY (R438) -/

/-- The FIO logic's reply: right if it answers the frame sent, else counted as lost (R439). -/
def fioReply (g : Nat) (c : Option Nat) (rb : Nat) (s : State) : State :=
  match c, smFind s.fio.sent g with
  | some n, some f => if n = f.seq then groupReply g rb s else replyLost g s
  | _, _ => replyLost g s

/-- The FIO logic's reply of FG4, answering either link's frame. -/
def fioReply4 (c : Option Nat) (rb : Nat) (s : State) : State :=
  match c, smFind s.fio.sent 5 with
  | some n, some f => if n = f.seq then fg4Reply rb s else replyLost 4 s
  | _, _ => replyLost 4 s

/-- A reply of group g is fresh for the safety core. -/
def coreHears (s : State) (g : Nat) (c : Option Nat) : Bool :=
  !s.saf.coreDown && (match c with
    | some n => tapIsFresh (tapOf s 0 g) n
    | none => false)

/-- What the paths make of a reply of FG0 to FG3. -/
def safGroup (g : Nat) (r : ReplyIn) (edges : List (Nat × Bool × Nat)) (s : State) : State :=
  let s1 := if coreHears s g r.core then rstReply edges s else s
  let s2 := safTaps g r.core r.ecl r.rb s1
  let s3 := uvLock g (tapOf s 0 g).uv (s2.forN 8 (fun b t => outCheck (8 * g + b) r.rb t))
  keyCfLevel (rstLevel (brakesTrack (pairsFollow (outSampled g r.rb s3))))

/-- A field reply: the FIO logic and both paths take it, each on its own tap. -/
def fieldReply (g : Nat) (r : ReplyIn) (s : State) : State :=
  if s.awake then
    if g < 4 then safRefresh (fioReply g r.fio r.rb (safGroup g r (s.die g).latEdges s))
    else safRefresh (fioReply4 r.fio r.rb (lineChecks r.rb (safTaps 4 r.core r.ecl r.rb s)))
  else s

/-- FIELD_REPLY (R438). -/
def execFieldReply (g : Fin 5) (r : ReplyIn) (s : State) : Host.Outcome State Fault Refusal := .next (fieldReply g.val r s)

/-- No reply of group g reached the FIO logic; the safety taps may still have had one (R439, R492). -/
def replyMissing (g : Nat) (core ecl : Option Nat) (s : State) : State :=
  if s.awake then safRefresh (replyLost g (safTaps g core ecl ((tapOf s 0 g).rb) s)) else s

/-- FIELD_REPLY_MISSING (R439). -/
def execFieldReplyMissing (g : Fin 5) (core ecl : Option Nat) (s : State) : Host.Outcome State Fault Refusal :=
  .next (replyMissing g.val core ecl s)

end Sys2Proof.Machine
end

