-- ==== Sys2Proof/Machine/FabCore.lean ====
section
/-!
DEFINITION. The fabric engine (18 R545 to R563): which received frames are accepted, epochs, the Fenced state, forwarding,
announcements and heartbeats sent.
-/

namespace Sys2Proof.Machine

open Sys2Proof

/-! ### Epochs (R547, R548) -/

/-- Epoch a is newer than epoch b (R547). -/
def newerEpoch (a b : Nat) : Bool := decide (0 < sgn 16 (uns 16 ((a : Int) - (b : Int))))

/-- The epoch in force for a source; for the device's own ID its own epoch counts as seen (log entry 51). -/
def epochFor (s : State) (id : Nat) : Option Nat :=
  let held := (smFind s.fab.epochs id).map (fun e => e.epoch)
  if id = s.myId then
    match held with
    | some e => some (if newerEpoch e s.nv.lc.epoch then e else s.nv.lc.epoch)
    | none => some s.nv.lc.epoch
  else held

/-- The epoch in force never moves back; `since` stays the tick one was first held at. A newer one leaves no port learned at the one
before (R555). -/
def noteEpoch (id e : Nat) (s : State) : State :=
  match smFind s.fab.epochs id with
  | some x =>
    if newerEpoch e x.epoch then
      { s with fab := { s.fab with
        epochs := smPut s.fab.epochs id { x with epoch := e }
        learned := match smFind s.fab.learned id with
          | some l => smPut s.fab.learned id { l with ports := [] }
          | none => s.fab.learned } }
    else s
  | none => { s with fab := { s.fab with epochs := smPut s.fab.epochs id ⟨e, s.tb.tick⟩ } }

/-- 1.1 s in ticks (R548). -/
def settleTicks : Nat := 137500000

/-- Types that R548 never excludes: ANNOUNCE, STALE and FENCED. They travel one hop. -/
def oneHop (type : Nat) : Bool := type == 1 || type == 12 || type == 13

/-- R548 excludes a frame of this type from this source. -/
def excluded (s : State) (type src : Nat) : Bool :=
  !oneHop type &&
  (s.fab.settle.isSome ||
    (match smFind s.fab.epochs src with
     | some e => decide (s.tb.tick < e.since + settleTicks)
     | none => true))

/-! ### The Fenced state (R557, R562, R563) -/

/-- An accepted deliberate reset whose Watch has not come is of no effect: Lock-out stays in force (03 R73). -/
def resetUndone (s : State) : State :=
  if s.pw.delReset then
    { s with
      pw := { s.pw with delReset := false, trans := none }
      nv := { s.nv with lc := { s.nv.lc with lockout := true } } }
  else s

/-- The Fenced state is entered: flag, event and record, and Lock-out (R563, 03 R73). -/
def fence (newer src : Nat) (s : State) : State :=
  if s.nv.lc.fenced then s
  else
    let t := { s with
      nv := { s.nv with lc := { s.nv.lc with fenced := true } }
      fab := { s.fab with newer := newer }
      slk := { s.slk with wire := [] } }
    let u := record 9 0 0x24 (items [newer, src]) (t.ev F.FAB_NET_EVENT.FENCED)
    if u.mode = .lockout then resetUndone u else lockoutEnter 13 u

/-! ### Receiving (R550, R561) -/

/-- A discarded frame is counted (R550). -/
def discardFrame (s : State) : State := s.incSat F.FAB_NET_CNT.DISCARD

/-- The answer to a frame of an older epoch: STALE on its port, at most one per source, port and second (R561). -/
def sendStale (h : Hdr) (force : Nat) (s : State) : State :=
  let key := h.src * 4 + h.port.val
  let due := match smFind s.fab.stale key with
    | some t => decide (t + ticksOf 1 ≤ s.tb.tick)
    | none => true
  if due then
    ({ s with fab := { s.fab with stale := smPut s.fab.stale key s.tb.tick } }).sendPort h.port.val h.src false
      (.stale ⟨h.src, force⟩)
  else s

/-- The acting ID was heard at an epoch, in whatever frame (R564). -/
def noteOwn (id epoch : Nat) (s : State) : State :=
  if id = s.myId then
    let n := match s.fab.ownNewest with
      | some e => if newerEpoch epoch e then epoch else e
      | none => epoch
    { s with fab := { s.fab with ownHeard := some s.tb.tick, ownNewest := some n } }
  else s

/-- Peers watched by their cover or heartbeat: DEAD ones of this ID have been heard again (R566). -/
def noteSeen (id : Nat) (s : State) : State :=
  s.forN 32 (fun i t =>
    if t.flag (F.FAB_PEER_CFG.EN i) && t.get (F.FAB_PEER_CFG.ID i) == id then
      { t with fab := { t.fab with peers := smMod PeerSt.init t.fab.peers i (fun x => { x with seen := x.st == 2 || x.seen }) } }
    else t)

/-- An accepted frame: its epoch is noted, and one that carries the own ID at a newer epoch fences the device (R562). -/
def frameAccepted (h : Hdr) (s : State) : State :=
  let own := h.src = s.myId ∧ newerEpoch h.epoch s.nv.lc.epoch
  let t := noteSeen h.src (noteEpoch h.src h.epoch s)
  if own then fence h.epoch h.src t else t

/-- Reception of a well-formed frame of a type: the state after, and whether it is accepted (R548, R550, R561). -/
def accept (type : Nat) (h : Hdr) (s : State) : State × Bool :=
  if s.awake && spineUp s h.port.val then
    let t := noteOwn h.src h.epoch s
    let old := match epochFor t h.src with
      | some e => newerEpoch e h.epoch
      | none => false
    if old then (sendStale h ((epochFor t h.src).getD 0) (discardFrame t), false)
    else if excluded t type h.src || type == 0 || decide (16 < type) then (discardFrame t, false)
    else (frameAccepted h t, true)
  else (s, false)

/-! ### Forwarding (R552 to R554) -/

/-- A frame on its way on: HOPS one lower, everything else as it came. -/
def onward (h : Hdr) (p : Nat) (b : FrameBody) : TxFrame :=
  { port := p, src := h.src, dst := h.dst, epoch := h.epoch, hops := h.hops - 1, bcast := h.bcast, seq := h.seq, body := b }

/-- A BCAST frame is newer than the last one of its source that went on (R554). -/
def freshSeq (s : State) (h : Hdr) : Bool :=
  match smFind s.fab.bcast h.src with
  | some q => decide (0 < sgn 32 (uns 32 ((h.seq : Int) - (q : Int))))
  | none => true

/-- A frame that may go no further (R553). -/
def hopExpired (s : State) : State := s.incSat F.FAB_NET_CNT.HOP_EXP

/-- Forwarding of an accepted frame: unicast by its route, never back; BCAST of the own group on every other up port, once per
SEQ. The one-hop types stay (R552 to R554). -/
def forward (type : Nat) (h : Hdr) (b : FrameBody) (s : State) : State :=
  if oneHop type || s.nv.lc.fenced then s
  else if h.bcast then
    if h.dst / 256 = s.myId / 256 ∧ freshSeq s h then
      if h.hops ≤ 1 then hopExpired s
      else
        let t := { s with fab := { s.fab with bcast := smPut s.fab.bcast h.src h.seq } }
        t.forN 4 (fun p u => if p = h.port.val then u else emit (onward h p b) u)
    else s
  else if h.dst = s.myId then s
  else
    match routeOf s h.dst with
    | none => noRoute s
    | some p =>
      if p = h.port.val then noRoute s
      else if h.hops ≤ 1 then hopExpired s
      else emit (onward h p b) s

/-- A frame is for this device: its ID, or BCAST to its group (R552, R554). -/
def delivered (s : State) (h : Hdr) : Bool := if h.bcast then h.dst / 256 == s.myId / 256 else h.dst == s.myId

/-- A received frame of a type: accepted or discarded, forwarded, and acted on if it is for this device. -/
def receive (type : Nat) (h : Hdr) (b : FrameBody) (act : State → State) (s : State) : State :=
  let a := accept type h s
  if a.2 then
    let t := forward type h b a.1
    if delivered t h then act t else t
  else a.1

/-! ### Announcements and heartbeats sent (R556, R558) -/

/-- FENCED on every up port (R563). -/
def fencedAll (s : State) : State :=
  s.forN 4 (fun p t =>
    if spineUp t p then t.sendPort p (t.myId / 256 * 256) true (.fenced ⟨t.nv.serial, t.fab.newer⟩) else t)

/-- HEARTBEAT to the group (R558). -/
def heartbeatSend (s : State) : State := s.sendGroup 8 (.heartbeat ⟨s.mode.code, annFlags s⟩)

/-- HEARTBEAT_SEND (R558). -/
def execHeartbeatSend (s : State) : Host.Outcome State Fault Refusal := .next (heartbeatSend s)

/-- A PTP second: ANNOUNCE on every up port, or FENCED; the holdover counter takes the seconds, and a device that hears no
announcement of a grandmaster may be it (R556, R563; 19 R581, R587). -/
def ptpSecond (s : State) : State :=
  if s.awake then selectAlone (holdoverWrite (if s.nv.lc.fenced then fencedAll s else announceAll s)) else s

/-- PTP_SECOND (R556). -/
def execPtpSecond (s : State) : Host.Outcome State Fault Refusal := .next (ptpSecond s)

/-- The 1.1 s after start-up have passed (R548). -/
def settlingEnd (s : State) : State :=
  match s.fab.settle with
  | some t => if t + settleTicks ≤ s.tb.tick then { s with fab := { s.fab with settle := none } } else s
  | none => s

/-- SETTLING_END (R548). -/
def execSettlingEnd (s : State) : Host.Outcome State Fault Refusal := .next (settlingEnd s)

/-! ### Frames dropped at the port (R550; 17 R536) -/

/-- FRAME_DISCARDED: a malformed frame is counted in DISCARD, one that fails MACsec in MSDROP. -/
def execFrameDiscarded (port : Fin 4) (macsec : Bool) (s : State) : Host.Outcome State Fault Refusal :=
  .next (if s.awake then
    if macsec then (s.incSat (F.FAB_SP_MSDROP.MSDROP port.val)).ev F.FAB_LINK_EVENT.MSEC_DROP else discardFrame s
  else s)

/-- Data for firmware (R541, R550). -/
def toApp (src : Nat) (payload : List Byte) (s : State) : State :=
  { s with fab := { s.fab with app := s.fab.app ++ [(src, payload)] } }

/-- APP: firmware data (Table 18.3). -/
def execApp (h : Hdr) (p : List Byte) (s : State) : Host.Outcome State Fault Refusal :=
  .next (receive 16 h (.raw 16 p) (toApp h.src p) s)

/-- FRAME_FORWARD: a frame of any type for other devices (R552 to R554). -/
def execFrameForward (h : Hdr) (type : Nat) (p : List Byte) (s : State) : Host.Outcome State Fault Refusal :=
  .next (receive type h (.raw type p) id s)

/-- FENCED: a fenced device tells of itself (R563). -/
def execFenced (h : Hdr) (p : FencedPl) (s : State) : Host.Outcome State Fault Refusal :=
  .next (receive 12 h (.fenced p) (fun t => t.ev F.FAB_NET_EVENT.PEER_FENCED) s)

/-- STALE naming the own ID at a newer epoch fences the device (R562). -/
def staleOp (h : Hdr) (p : StalePl) (s : State) : State :=
  let t := noteOwn p.id p.epoch s
  if p.id = t.myId ∧ newerEpoch p.epoch t.nv.lc.epoch then fence p.epoch h.src t else t

/-- STALE (R562). -/
def execStale (h : Hdr) (p : StalePl) (s : State) : Host.Outcome State Fault Refusal :=
  .next (receive 13 h (.stale p) (staleOp h p) s)

end Sys2Proof.Machine
end

