-- ==== Sys2Proof/Machine/Span.lean ====
section
/-!
DEFINITION. Forming a move (12 R382 to R391): the span, its rows, the stopping allowance and the projections, in exact rational
arithmetic.
-/

namespace Sys2Proof.Machine

open Sys2Proof

/-- Rounded to the nearest integer, a half upward. -/
def ratRound (x : Rat) : Int := (x + 1 / 2).floor

/-- The square root of a non-negative rational, rounded to the nearest integer. -/
def rootRound (y : Rat) : Int := (((Nat.sqrt (4 * y).floor.toNat + 1) / 2 : Nat) : Int)

/-- `a` less the square root of `b`, rounded to the nearest integer. -/
def lessRoot (a b : Rat) : Int :=
  let c := a + 1 / 2
  let k := (c - (Nat.sqrt b.floor.toNat : Rat)).floor
  if 0 ≤ c - (k : Rat) ∧ b ≤ (c - (k : Rat)) * (c - (k : Rat)) then k else k - 1

/-- Limits of a formed span (R382). -/
structure SpanLim where
  v : Nat
  a : Nat
  j : Nat
  deriving DecidableEq, Repr

/-- Speed `v` reaches the acceleration limit: V J is at least A squared. -/
def fullAcc (l : SpanLim) (v : Nat) : Bool := decide (l.a * l.a ≤ v * l.j)

/-- 2 acc_dist(V) + V x 0.010 is at most d (R382). -/
def speedFits (l : SpanLim) (d v : Nat) : Bool :=
  let vr : Rat := v
  if fullAcc l v then decide (vr * ((l.a : Rat) / l.j + vr / l.a) + vr / 100 ≤ d)
  else
    let rest : Rat := d - vr / 100
    decide (0 ≤ rest) && decide (4 * vr * vr * vr / l.j ≤ rest * rest)

/-- The largest integer V up to the limit that fits, 0 if none (R382): bit by bit, since the condition is monotone. -/
def spanSpeed (l : SpanLim) (d : Nat) : Nat :=
  (List.range 25).foldl (fun v i =>
    let w := v + 2 ^ (24 - i)
    if w ≤ l.v ∧ speedFits l d w then w else v) 0

/-- A time of `x` seconds in us. -/
def usOf (x : Rat) : Nat := (ratRound (x * 1000000)).toNat

/-- Rows of a span of distance d at speed V (Table 12.2); a constant-acceleration part under 10 ms is left out. -/
def spanForm (l : SpanLim) (d v : Nat) : List TstRow :=
  let vr : Rat := v
  let dr : Rat := d
  if fullAcc l v then
    let a : Rat := l.a
    let tj := a / l.j
    let ta := vr / a - tj
    let v1 := a * tj / 2
    let p1 := a * tj * tj / 6
    let v2 := vr - v1
    let p2 := p1 + v1 * ta + a * ta * ta / 2
    let p3 := vr * (2 * tj + ta) / 2
    let tc := (dr - 2 * p3) / vr
    let cut := decide (ta < 1 / 100)
    let t3 := if cut then usOf (tj + ta) else usOf tj
    [⟨0, 0, 0, 0⟩, ⟨usOf tj, ratRound p1, ratRound v1, 0⟩] ++
    (if cut then [] else [⟨usOf ta, ratRound p2, ratRound v2, 0⟩]) ++
    [⟨t3, ratRound p3, v, 0⟩, ⟨usOf tc, ratRound (dr - p3), v, 0⟩] ++
    (if cut then [] else [⟨usOf tj, ratRound (dr - p2), ratRound v2, 0⟩]) ++
    [⟨if cut then t3 else usOf ta, ratRound (dr - p1), ratRound v1, 0⟩, ⟨usOf tj, d, 0, 2 ^ 31⟩]
  else
    let tj := (rootRound (1000000000000 * vr / l.j)).toNat
    let v1 := ratRound (vr / 2)
    let p1 := rootRound (vr * vr * vr / (36 * l.j))
    let p3 := rootRound (vr * vr * vr / l.j)
    let tc := lessRoot (1000000 * dr / vr) (4000000000000 * vr / l.j)
    [⟨0, 0, 0, 0⟩, ⟨tj, p1, v1, 0⟩, ⟨tj, p3, v, 0⟩, ⟨tc.toNat, d - p3, v, 0⟩, ⟨tj, d - p1, v1, 0⟩, ⟨tj, d, 0, 2 ^ 31⟩]

/-- Duration of a span in us. -/
def spanUs (rows : List TstRow) : Nat := (rows.map (fun r => r.dt)).sum

/-- Value of the span at a time in us: position, speed and acceleration along the motion (R245, R246 at 100 %). -/
def spanAt (rows : List TstRow) (us : Nat) : Rat × Rat × Rat :=
  match locate rows 0 0 (us * tauPerUs) with
  | some v =>
    let h := hermite v
    ((h.np : Rat) / h.dp, (h.nv : Rat) / h.dv, (h.na : Rat) / h.da)
  | none => (((rows.getLast?).map (fun r => r.pos)).getD 0, 0, 0)

/-- Number of 10 ms steps of a projection over a span. -/
def spanSteps (rows : List TstRow) : Nat := (spanUs rows + 9999) / 10000

/-- The steps of a projection, at 0, 10, 20 ms and so on (R401). -/
def spanPoints (rows : List TstRow) : List (Rat × Rat × Rat) :=
  (List.range (spanSteps rows)).map (fun n => spanAt rows (10000 * n))

/-- dstop (R391). -/
def dStop (aCap jCap : Nat) (ts v a : Rat) : Rat :=
  let ap := max a 0
  let j : Rat := jCap
  let c : Rat := aCap
  let ve := v + ap * ap / (2 * j)
  v * ap / j + ve * ve / (2 * c) + ve * c / (2 * j) + ve * 2 * ts

/-- M_STOP in um (R391). -/
def mStop (aCap jCap tsNs : Nat) (d : Nat) (pts : List (Rat × Rat × Rat)) : Int :=
  (pts.foldl (fun (m : Rat) p => max m (p.1 + dStop aCap jCap ((tsNs : Rat) / 1000000000) p.2.1 p.2.2 - d)) 0).ceil

/-! ### The thermal and energy projections (R400 to R404) -/

/-- RT of channel n in ohm at a temperature in degrees C (R400). -/
def rtOf (s : State) (n : Nat) (th : Rat) : Rat :=
  (s.get (F.CMM_CH_RES.RPH n) : Rat) * (1 + (s.get (F.CMM_CH_RES.ALPHA n) : Rat) * (th - 20) / 1000000) / 1000

/-- T_AMB in degrees C. -/
def tAmb (s : State) : Rat := (s.getS F.BSS_TEMP.T_AMB : Rat) / 10
/-- T_ADMIT in degrees C. -/
def tAdmit (s : State) : Rat := (s.get F.BSS_TEMP.T_ADMIT : Rat) / 10

/-- One relaxation of a segment over dt seconds with copper loss p (R400, R401). -/
def heat (s : State) (dt p th : Rat) : Rat :=
  th + (tAmb s + (s.get F.BSS_THERM.R_TH : Rat) / 1000 * p - th) * dt / (s.get F.BSS_THERM.TAU : Rat)

/-- What a projection needs of the car: mass, array and direction. -/
structure ProjCar where
  mass : Nat
  arrOfs : Int
  arrLen : Nat
  start : Int
  down : Bool
  deriving DecidableEq, Repr

/-- D of a direction. -/
def projDir (c : ProjCar) : Rat := if c.down then -1 else 1

/-- Overlap of own segment x with the array at position P (R28), P real. -/
def ovAt (x : SegX) (c : ProjCar) (p : Rat) : Rat :=
  max 0 (min (x.hi : Rat) (p + c.arrOfs + c.arrLen) - max (x.lo : Rat) (p + c.arrOfs))

/-- A segment under projection: its temperature, and whether the array has overlapped it. -/
structure ProjSeg where
  x : SegX
  th : Rat
  hit : Bool
  deriving DecidableEq, Repr

/-- One 10 ms step: the segments after it, and the section's draw in W (R401). -/
def projStep (s : State) (c : ProjCar) (pt : Rat × Rat × Rat) (segs : List ProjSeg) : List ProjSeg × Rat :=
  let d := projDir c
  let p : Rat := c.start + d * pt.1
  let f : Rat := c.mass * (d * pt.2.2 + 9806650) / 1000000
  let ovs : Rat := c.arrLen - ((segs.filter (fun q => segFailed s q.x)).map (fun q => ovAt q.x c p)).sum
  let one (q : ProjSeg) : ProjSeg × Rat :=
    let ov := ovAt q.x c p
    let fk : Rat := if segFailed s q.x || decide (ovs ≤ 0) then 0 else f * ov / ovs
    let i := fk * 1000 / (s.get F.BSS_KF.KF : Rat)
    let pcu := 3 / 2 * rtOf s q.x.chan q.th * (i * i)
    ({ q with th := heat s (1 / 100) pcu q.th, hit := q.hit || decide (0 < ov) }, fk * d * pt.2.1 / 1000000 + pcu)
  let l := segs.map one
  (l.map (fun r => r.1), (l.map (fun r => r.2)).sum)

/-- The whole projection: segments at its end and the draw of each step. -/
def project (s : State) (c : ProjCar) : List (Rat × Rat × Rat) → List ProjSeg → List Rat → List ProjSeg × List Rat
  | [], segs, acc => (segs, acc.reverse)
  | pt :: rest, segs, acc =>
    let r := projStep s c pt segs
    project s c rest r.1 (r.2 :: acc)

/-- Temperature of segment k (R400). -/
def thetaOf (s : State) (k : Nat) : Rat := smGet 0 s.bss.theta k

/-- The section's SEG3 segments at given temperatures. -/
def projSegs (s : State) (th : Nat → Rat) : List ProjSeg :=
  (ownSegs s.conf.geom).map (fun x => ⟨x, th x.seg, false⟩)

/-- A projection exceeds T_ADMIT on a segment the array overlaps (R401). -/
def tooHot (s : State) (segs : List ProjSeg) : Bool := segs.any (fun q => q.hit && decide (tAdmit s ≤ q.th))

/-- P_CONT, or its rescue share (R403), in W. -/
def pCont (s : State) : Rat :=
  let p : Rat := s.get F.BSS_PCONT.P_CONT
  if s.mode = .rescue then p * (s.get F.BSS_RESCUE.RESCUE_PCT : Rat) / 100 else p

/-- One 10 ms step of the bucket under a net power (R402, R404). -/
def bucketStep (s : State) (l net : Rat) : Rat :=
  min (s.get F.BSS_CAP.CAP : Rat) (l + pCont s / 100 - max net 0 / 100)

/-- Draw of an entry's move at time t in ns. -/
def drawAt (t : Nat) (e : ResEntry) : Rat := if t < e.t0 then 0 else e.draw.getD ((t - e.t0) / 10000000) 0

/-- Time a move's draw ends. -/
def drawEnd (e : ResEntry) : Nat := e.t0 + 10000000 * e.draw.length

/-- The bucket projection from level `l` at T0 with the candidate's draw and the admitted moves stays at or above 0 (R404). -/
def energyOk (s : State) (t0 : Nat) (draw : List Rat) (others : List ResEntry) (l : Rat) : Bool :=
  let last := others.foldl (fun m e => max m (drawEnd e)) (t0 + 10000000 * draw.length)
  let r := (List.range ((last - t0) / 10000000)).foldl (fun (q : Rat × Bool) n =>
    let t := t0 + 10000000 * n
    let net := draw.getD n 0 + (others.map (drawAt t)).sum
    let l' := bucketStep s q.1 net
    (l', q.2 && decide (0 ≤ l'))) (l, true)
  r.2

end Sys2Proof.Machine
end

