-- ==== Sys2Proof/Machine/Bss.lean ====
section
/-!
DEFINITION. The stop scheduler and budget unit (12): stop queues, candidates and their outcomes, reservations, the grant exchange,
the thermal model and the energy bucket.
-/

namespace Sys2Proof.Machine

open Sys2Proof

/-! ### Records -/

/-- The BSS acts (R374). -/
def bssOn (s : State) : Bool := s.awake && isSection s && s.flag F.BSS_CFG.EN

/-- A message of Table 12.4 acts while the BSS does (R374). -/
def whenBss (f : State → State) (s : State) : State := if bssOn s then f s else s

/-- Modes in which moves are formed (R374). -/
def bssForms (s : State) : Bool := decide (s.mode = Mode.service ∨ s.mode = Mode.rescue)

/-- Stop scheduling of car record c. -/
def bssCar (s : State) (c : Nat) : BssCar := smGet BssCar.init s.bss.cars c

/-- Stop scheduling changed. -/
def modBss (c : Nat) (f : BssCar → BssCar) (s : State) : State :=
  { s with bss := { s.bss with cars := smMod BssCar.init s.bss.cars c f } }

/-- A landing of the landing table (11 Table 11.6). -/
structure Landing where
  en : Bool
  target : Int
  dzDn : Nat
  dzUp : Nat
  sides : Nat
  lev : Nat
  deriving DecidableEq, Repr

/-- Landing l of the table in force (11 R366). -/
def landing (s : State) (l : Nat) : Landing :=
  let f := (s.reg (Reg.BSS_LAND_W4 l)).toNat
  ⟨f.testBit 31, s.pairS (Reg.BSS_LAND_W0 l), (s.reg (Reg.BSS_LAND_W2 l)).toNat, (s.reg (Reg.BSS_LAND_W3 l)).toNat,
   b2n (f.testBit 30) + 2 * b2n (f.testBit 29), (s.reg (Reg.BSS_LAND_W7 l)).toNat % 2 ^ 20⟩

/-- Enabled landings by index, in ascending TARGET order. -/
def landings (s : State) : List Nat := (List.range 64).filter (fun l => (landing s l).en)

/-- The fabric member of this device. -/
def myMember (s : State) : Nat := s.myId % 256

/-- The landing at which car c stands level. -/
def levelAt (s : State) (c : Nat) : Option Nat :=
  (landings s).find? (fun l => decide (((s.car c).pos - (landing s l).target).natAbs ≤ (landing s l).lev))

/-- The landing in whose door zone car c stands. -/
def zoneAt (s : State) (c : Nat) : Option Nat :=
  (landings s).find? (fun l =>
    decide ((landing s l).target - (landing s l).dzDn ≤ (s.car c).pos) &&
      decide ((s.car c).pos ≤ (landing s l).target + (landing s l).dzUp))

/-- A move of car c is admitted or running. -/
def bssBusy (s : State) (c : Nat) : Bool :=
  (bssCar s c).start.isSome || inMove (s.axis c) || !(s.axis c).queue.isEmpty

/-- Owned cars by record. -/
def ownedCars (s : State) : List Nat := (heldCars s).filter (fun c => (s.car c).owner)

/-- The idle timers restart (03 R80). -/
def idleRestart (s : State) : State := { s with pw := { s.pw with idleFrom := s.tb.tick, stbyExp := false, svcExp := false } }

/-! ### Reservation entries (R389 to R394) -/

/-- Entries of the table. -/
def resList (s : State) : List ResEntry := s.bss.res.map (fun e => e.2)

/-- Lowest free slot of the 32. -/
def freeSlot (s : State) : Nat := ((List.range 32).find? (fun r => (smFind s.bss.res r).isNone)).getD 31

/-- The table changed entry by entry. -/
def mapRes (f : ResEntry → ResEntry) (s : State) : State :=
  { s with bss := { s.bss with res := s.bss.res.map (fun e => (e.1, f e.2)) } }

/-- Entries kept where `p` holds. -/
def keepRes (p : ResEntry → Bool) (s : State) : State :=
  { s with bss := { s.bss with res := s.bss.res.filter (fun e => p e.2) } }

/-- A new entry in the lowest free slot. -/
def addRes (e : ResEntry) (s : State) : State := { s with bss := { s.bss with res := smPut s.bss.res (freeSlot s) e } }

/-- The entry in force of a car. -/
def resOf (s : State) (id : Nat) : Option ResEntry := (resList s).find? (fun e => e.car == id && e.st == 2)

/-- An interval overlaps an entry (R392: both are closed). -/
def overlaps (lo hi : Int) (e : ResEntry) : Bool := decide (e.lo ≤ hi) && decide (lo ≤ e.hi)

/-- Ends of the shaft (R390). -/
def shaftLo (s : State) : Int := s.pairS Reg.BSS_SHAFT_LO_LO
/-- Upper end of the shaft. -/
def shaftHi (s : State) : Int := s.pairS Reg.BSS_SHAFT_HI_LO

/-- Lower end of the car body relative to its position. -/
def envDn (s : State) : Int := s.regS Reg.BSS_ENV_DN
/-- Upper end of the car body. -/
def envUp (s : State) : Int := s.regS Reg.BSS_ENV_UP
/-- SEP_MARGIN. -/
def sepM (s : State) : Int := (s.reg Reg.BSS_SEP).toNat

/-- Rest interval at a position (R393). -/
def restInterval (s : State) (p : Int) : Int × Int := (p + envDn s - sepM s, p + envUp s + sepM s)

/-- Interval of a candidate, clipped to the shaft (R389). -/
def moveInterval (s : State) (start target mstop : Int) : Int × Int :=
  let r := if start ≤ target then (start + envDn s - sepM s, target + envUp s + mstop + sepM s)
    else (target + envDn s - mstop - sepM s, start + envUp s + sepM s)
  (max (shaftLo s) r.1, min (shaftHi s) r.2)

/-- Section devices this device knows, other than itself: its neighbours, and those of the group that announced the section
role. -/
def sectionDevs (s : State) : List Nat :=
  (neighbours s.conf.geom ++
    ((s.fab.learned.filter (fun e => e.2.ann.role == 0 && e.1 / 256 == s.myId / 256)).map (fun e => e.1))).eraseDups.filter
      (fun id => id != s.myId)

/-- Devices of the sections whose extent an interval overlaps. -/
def devsOver (s : State) (lo hi : Int) : List Nat :=
  (sectionDevs s).filter (fun id => decide (lo < (extentOf s id).2) && decide ((extentOf s id).1 ≤ hi))

/-- A device's section is closed to traffic, by its announcement or held so here (18 R572). -/
def closedDev (s : State) (id : Nat) : Bool :=
  s.fab.closedFor.contains id ||
    (match learnedOf s id with
     | some l => l.ann.flags.testBit 0
     | none => false)

/-- Every device that holds a part of an owned car's entry: those that have granted or been told of it, and those it reaches (R394). -/
def holders (s : State) (e : ResEntry) : List Nat := (e.told ++ devsOver s e.lo e.hi).eraseDups

/-- RES_TRIM to every grantor of an entry alike (R394). -/
def sendTrim (e : ResEntry) (lo hi : Int) (t : Nat) (s : State) : State :=
  s.forL (holders s e) (fun d u => u.send d (.resTrim ⟨e.car, lo, hi, t⟩))

/-- An owned car without an entry takes its rest interval, and tells the sections it reaches (R393, 18 R571). -/
def ensureEntry (t c : Nat) (s : State) : State :=
  let r := s.car c
  match resOf s r.id with
  | some _ => s
  | none =>
    let iv := restInterval s r.pos
    let e := { ResEntry.plain r.id 2 true false iv.1 iv.2 0 s.myId 0 [] with told := devsOver s iv.1 iv.2 }
    sendTrim e iv.1 iv.2 t (addRes e s)

/-- Trims whose time has come are applied (R386, R394). -/
def applyTrims (t : Nat) (s : State) : State :=
  mapRes (fun e =>
    let due := e.trims.filter (fun x => decide (x.1 ≤ t))
    let e' := due.foldl (fun (y : ResEntry) x => { y with lo := x.2.1, hi := x.2.2.1, mv := x.2.2.2 }) e
    { e' with trims := e.trims.filter (fun x => decide (t < x.1)) }) s

/-- The axis's move goes downward. -/
def movesDown (a : Axis) : Bool :=
  match a.mv with
  | some m => decide (m.target < m.start)
  | none => false

/-- The trim of an owned car that moves, or the shrink of one whose move has ended, computed at t for t + 10 ms (R393, R394). -/
def trimCar (t c : Nat) (s : State) : State :=
  let r := s.car c
  match resOf s r.id with
  | none => s
  | some e =>
    let rest := restInterval s r.pos
    let next : Option (Int × Int × Bool) :=
      if inMove (s.axis c) then
        if movesDown (s.axis c) then some (e.lo, min e.hi rest.2, true) else some (max e.lo rest.1, e.hi, true)
      else if e.mv && !bssBusy s c && (s.axis c).mv.isNone then some (rest.1, rest.2, false)
      else none
    match next with
    | none => s
    | some x =>
      let told := if x.2.2 then holders s e else devsOver s x.1 x.2.1
      sendTrim e x.1 x.2.1 t (mapRes (fun y =>
        if y.car == r.id && y.st == 2 then { y with trims := y.trims ++ [(t + 10000000, x)], told := told } else y) s)

/-! ### Stop queues (R375 to R380) -/

/-- Two entries name one landing. -/
def sameStop (a b : StopEntry) : Bool := a.member == b.member && a.landing == b.landing

/-- An entry enters a queue in ascending TARGET. -/
def insertStop (e : StopEntry) : List StopEntry → List StopEntry
  | [] => [e]
  | x :: t => if e.target < x.target then e :: x :: t else x :: insertStop e t

/-- Flags beyond a level: CAR 4, UP 2, DN 1. -/
def hasFlag (m : Nat) (e : StopEntry) : Bool := decide (0 < Nat.land e.flags m)

/-- The first or the last of a list of entries in ascending TARGET. -/
def lowest (l : List StopEntry) : Option StopEntry := l.head?
/-- The highest entry. -/
def highest (l : List StopEntry) : Option StopEntry := l.getLast?

/-- The entry nearest p, the lower one on a tie. -/
def nearestStop (p : Int) (l : List StopEntry) : Option StopEntry :=
  l.foldl (fun o e =>
    match o with
    | none => some e
    | some b => if (e.target - p).natAbs < (b.target - p).natAbs then some e else some b) none

/-- The next stop and the direction with it (R378); directions 0 NONE, 1 UP, 2 DN. -/
def nextStop (p tol : Int) (d : Nat) (q : List StopEntry) : Option StopEntry × Nat :=
  let above (m : Nat) := q.filter (fun e => decide (p + tol < e.target) && hasFlag m e)
  let below (m : Nat) := q.filter (fun e => decide (e.target < p - tol) && hasFlag m e)
  let r : Option StopEntry × Nat :=
    if d = 0 then
      match nearestStop p q with
      | none => (none, 0)
      | some e => (some e, if p ≤ e.target then 1 else 2)
    else if d = 1 then
      match (lowest (above 6)).or (highest (above 1)) with
      | some e => (some e, 1)
      | none => ((highest (below 5)).or (lowest (below 2)), 2)
    else
      match (highest (below 5)).or (lowest (below 2)) with
      | some e => (some e, 2)
      | none => ((lowest (above 6)).or (highest (above 1)), 1)
  if r.1.isNone then (none, 0) else r

/-- D' on arriving at an entry (R379). -/
def nextDir (d : Nat) (e : StopEntry) (q : List StopEntry) : Nat :=
  let up := q.any (fun x => decide (e.target < x.target))
  let dn := q.any (fun x => decide (x.target < e.target))
  if d = 1 then (if up then 1 else if e.flags.testBit 0 || dn then 2 else 0)
  else if d = 2 then (if dn then 2 else if e.flags.testBit 1 || up then 1 else 0)
  else 0

/-- Flags served with D': CAR and the hall flag of D', or all (R379). -/
def servedFlags (d flags : Nat) : Nat :=
  if d = 0 then flags else Nat.land flags (4 + (if d = 1 then 2 else 1))

/-- The car arrives at a stop: direction, flags, result and event (R379). A stop without an entry has no flag to serve; the stop of a
move that stands STOPPED stays (R385). -/
def arrive (c : Nat) (e0 : StopEntry) (s : State) : State :=
  let x := bssCar s c
  let e := (x.queue.find? (sameStop e0)).getD { e0 with flags := 0 }
  let d := nextDir x.dir e x.queue
  let served := servedFlags d e.flags
  let left := e.flags - served
  let rest := x.queue.filter (fun y => !sameStop e y)
  let q := if left = 0 then rest else insertStop { e with flags := left } rest
  let t := modBss c (fun y =>
    { y with dir := d, queue := q, depart := false, level := true, eval := 0, deferCnt := 0, start := none,
             goal := if (s.axis c).mv.isSome then y.goal else none, woke := [], redo := none }) s
  ((t.result (Reg.BSS_CAR_ARRIVE c)
      (d * 2 ^ 28 + e.sides % 4 * 2 ^ 26 + served % 8 * 2 ^ 23 + e.landing % 64 * 2 ^ 8 + e.member % 256)).ev
    F.BSS_EVENT.ARRIVE).ev F.BSS_EVENT.NEW

/-- An own landing as a stop. -/
def landingStop (s : State) (l : Nat) : StopEntry := ⟨myMember s, l, (landing s l).target, 0, 0⟩

/-- The stop a move to `target` goes to: the one it was admitted for, else the own landing there. -/
def goalOf (s : State) (c : Nat) (target : Int) : Option StopEntry :=
  (bssCar s c).goal.or (((landings s).find? (fun l => (landing s l).target == target)).map (landingStop s))

/-- Stage 4 has completed a move of the scheduler: its car arrives at its stop. Where neither STOPQ nor the landing table names one, the
car is level with no result to write. DEDUCED (log entry 84). -/
def bssArrivals (s : State) : State :=
  s.forL (ownedCars s) (fun c t =>
    match (t.axis c).doneNow with
    | some a =>
      if a.bss then
        match goalOf t c (t.axis c).spPos with
        | some g => arrive c g t
        | none => modBss c (fun y => { y with depart := false, level := true, eval := 0, deferCnt := 0 }) t
      else t
    | none => t)

/-- Outcome of a stop command (Table 12.1). -/
def stopOutcome (c code : Nat) (s : State) : State :=
  let t := (s.put F.BSS_CMD_STAT.CODE code).put F.BSS_CMD_STAT.CAR c
  if code = 0 then t else t.ev F.BSS_EVENT.CMD_REJ

/-- The entry is the target of an admitted or running move (R377). -/
def isTarget (s : State) (c : Nat) (e : StopEntry) : Bool :=
  bssBusy s c && (match (bssCar s c).goal with
    | some g => sameStop g e
    | none => false)

/-- The entry a BSS_STOP_CMD word names (R376): TARGET from the landing table, or from BSS_STOP_TGT. -/
def cmdStop (v : Word) (s : State) : StopEntry :=
  let m := getF F.BSS_STOP_CMD.SECTION.bits v
  let l := getF F.BSS_STOP_CMD.LANDING.bits v
  ⟨m, l, if m = myMember s then (landing s l).target else s.pairS Reg.BSS_STOP_TGT_LO, getF F.BSS_STOP_CMD.SIDES.bits v,
   getF F.BSS_STOP_CMD.FLAGS.bits v⟩

/-- An own-section landing is disabled or lacks a named side (code 6). -/
def stopUnfit (s : State) (e : StopEntry) : Bool :=
  e.member == myMember s &&
    (!(landing s e.landing).en || Nat.land e.sides (landing s e.landing).sides != e.sides)

/-- Codes of Table 12.1 a stop command fails, lowest first; during an owner hand-over both devices refuse with 5 (R399). -/
def stopCodes (s : State) (op c : Nat) (e : StopEntry) : List Nat :=
  let q := (bssCar s c).queue
  (if bssOn s then [] else [1]) ++
  (if (s.car c).held && ((s.car c).owner || ownerHo s c) then [] else [2]) ++
  (if op = 1 ∧ 64 ≤ q.length ∧ (q.find? (sameStop e)).isNone then [3] else []) ++
  (if op == 2 && isTarget s c e && q.any (sameStop e) then [4] else []) ++
  (if ownerHo s c then [5] else []) ++
  (if op = 1 ∧ stopUnfit s e then [6] else []) ++
  (if bssForms s then [] else [7]) ++
  (if op = 0 ∨ 4 < op then [8] else [])

/-- An accepted ADD (R376, R380). -/
def stopAdd (c : Nat) (e : StopEntry) (s : State) : State :=
  let x := bssCar s c
  let e' := match x.queue.find? (sameStop e) with
    | some y => { y with flags := Nat.lor y.flags e.flags, sides := Nat.lor y.sides e.sides }
    | none => e
  let t := modBss c (fun y => { y with queue := insertStop e' (y.queue.filter (fun z => !sameStop e z)) }) s
  if e.member = myMember s ∧ levelAt s c = some e.landing ∧ bssBusy s c = false then arrive c e' t else t

/-- An accepted REMOVE (R376). -/
def stopRemove (c : Nat) (e : StopEntry) (s : State) : State :=
  modBss c (fun x => { x with queue := (x.queue.map (fun y =>
    if sameStop e y then { y with flags := y.flags - Nat.land y.flags e.flags } else y)).filter (fun y =>
      !(sameStop e y) || y.flags != 0) }) s

/-- CLEAR keeps the target of an admitted or running move, and then reports code 4 (R377). -/
def stopClear (c : Nat) (s : State) : State :=
  let keep := (bssCar s c).queue.filter (isTarget s c)
  stopOutcome c (if keep.isEmpty then 0 else 4) (modBss c (fun x => { x with queue := keep }) s)

/-- A BSS_STOP_CMD write (R376; Table 12.1). -/
def stopCmdOp (v : Word) (s : State) : State :=
  let op := getF F.BSS_STOP_CMD.OP.bits v
  let c := getF F.BSS_STOP_CMD.CAR.bits v
  let e := cmdStop v s
  match stopCodes s op c e with
  | code :: _ => stopOutcome c code s
  | [] =>
    match op with
    | 1 => stopOutcome c 0 (stopAdd c e s)
    | 2 => stopOutcome c 0 (stopRemove c e s)
    | 3 => stopClear c s
    | _ => stopOutcome c 0 (modBss c (fun x => { x with depart := true, level := false }) s)

/-- A stop-command row: the write whose OP is that row's. -/
def stopRow (core : Sender) (op : Nat) (v : Word) (s : State) : State :=
  writeCmd core Reg.BSS_STOP_CMD (fun t => if getF F.BSS_STOP_CMD.OP.bits v = op then stopCmdOp v t else t) s

/-- BSS_ADD (R376). -/
def execBssAdd (core : Sender) (val : Word) (s : State) : Host.Outcome State Fault Refusal := .next (stopRow core 1 val s)
/-- BSS_REMOVE (R376). -/
def execBssRemove (core : Sender) (val : Word) (s : State) : Host.Outcome State Fault Refusal := .next (stopRow core 2 val s)
/-- BSS_CLEAR (R376, R377). -/
def execBssClear (core : Sender) (val : Word) (s : State) : Host.Outcome State Fault Refusal := .next (stopRow core 3 val s)
/-- DEPART (R376). -/
def execDepart (core : Sender) (val : Word) (s : State) : Host.Outcome State Fault Refusal := .next (stopRow core 4 val s)

/-! ### The thermal model and the bucket (R400, R402) -/

/-- One millisecond of segment x (R400). -/
def thermalSeg (x : SegX) (s : State) : State :=
  let v := (s.chan x.chan).heat
  let th := thetaOf s x.seg
  let sq : Rat := ((v.iA * v.iA + v.iB * v.iB + v.iC * v.iC : Int) : Rat)
  let pcu := rtOf s x.chan th * sq / 1000000
  let a := heat s (1 / 1000) pcu th
  let b := a + ((v.temp : Rat) / 10 - a) * (s.get F.BSS_CORR.CORR : Rat) / 65536
  { s with bss := { s.bss with theta := smSet 0 s.bss.theta x.seg b } }

/-- Segments on enabled SEG3 channels. -/
def hotSegs (s : State) : List SegX := (ownSegs s.conf.geom).filter (fun x => chanEn s x.chan && chanType s x.chan == 0)

/-- THERMAL_UPDATE (R400). -/
def execThermalUpdate (s : State) : Host.Outcome State Fault Refusal :=
  .next (if bssOn s then s.forL (hotSegs s) thermalSeg else s)

/-- The BSS is enabled: every segment starts at its node's temperature (R400). -/
def thermalStart (s : State) : State :=
  s.forL (hotSegs s) (fun x t =>
    { t with bss := { t.bss with theta := smSet 0 t.bss.theta x.seg ((s.chan x.chan).heat.temp / 10 : Rat) } })

/-- Measured electrical power of channel n in W: commanded phase voltage times measured current (R402, 09 R285). -/
def chanPower (s : State) (n : Nat) : Rat :=
  let c := s.cmmCh n
  let v := (s.chan n).heat
  ((c.a * v.iA + c.b * v.iB + c.c * v.iC : Int) : Rat) * c.fs / 32768 / 1000000000

/-- A period's power joins the mean while the BSS is enabled (R402). -/
def powerSample (s : State) : State :=
  if bssOn s then
    { s with bss := { s.bss with
      pmSum := s.bss.pmSum + ((hotSegs s).map (fun x => chanPower s x.chan)).sum
      pmN := s.bss.pmN + 1 } }
  else { s with bss := { s.bss with pmSum := 0, pmN := 0 } }

/-- The bucket at an evaluation (R402). -/
def bucketUpdate (s : State) : State :=
  let pm : Rat := if s.bss.pmN = 0 then 0 else s.bss.pmSum / s.bss.pmN
  { s with bss := { s.bss with level := bucketStep s s.bss.level pm, pmSum := 0, pmN := 0 } }

/-! ### Candidates (R381 to R391) -/

/-- What car c needs next: a stop with its limit on speed and whether it is a re-levelling. -/
structure Want where
  stop : StopEntry
  relev : Bool
  resume : Bool
  deriving DecidableEq, Repr

/-- Enabled own landings by distance from p, nearest first and the lower on a tie. -/
def nearLandings (s : State) (p : Int) : List Nat :=
  (landings s).mergeSort (fun a b =>
    decide (((landing s a).target - p).natAbs ≤ ((landing s b).target - p).natAbs))

/-- The stop a car needs next, with the direction: that of a move aborted for a new one while its entry stands (R385), else the pick of
R378 from the present queue. -/
def nextGoal (s : State) (c : Nat) : Option StopEntry × Nat :=
  let x := bssCar s c
  match x.redo.bind (fun g => x.queue.find? (sameStop g)) with
  | some g => (some g, x.dir)
  | none => nextStop (s.car c).pos (((levelAt s c).map (fun l => ((landing s l).lev : Int))).getD 0) x.dir x.queue

/-- The candidates of car c (R381, R385, R406, R408), in the order they are evaluated. -/
def wants (s : State) (c : Nat) : List Want × Nat :=
  let x := bssCar s c
  let a := s.axis c
  let p := (s.car c).pos
  let lev := levelAt s c
  if a.st == .stopped then
    match a.mv.bind (fun m => goalOf s c m.target) with
    | some g => if x.depart && a.cause != 5 then ([⟨g, x.relev, true⟩], x.dir) else ([], x.dir)
    | none => ([], x.dir)
  else if s.mode = .rescue ∨ ownClosed s then
    if (zoneAt s c).isSome then ([], x.dir)
    else
      (((nearLandings s p).filter (fun l => !x.refused.contains (myMember s, l))).map (fun l => ⟨landingStop s l, false, false⟩),
       x.dir)
  else
    let go := x.depart || (!x.level && lev.isNone)
    let n := nextGoal s c
    let d := if go then n.2 else x.dir
    if go && n.1.isSome then ((n.1.map (fun e => (⟨e, false, false⟩ : Want))).toList, d)
    else
      match zoneAt s c with
      | some l => if lev.isNone then ([⟨landingStop s l, true, false⟩], d) else ([], d)
      | none =>
        if x.queue.isEmpty then (((nearLandings s p).take 1).map (fun l => ⟨landingStop s l, false, false⟩), d) else ([], d)

/-- First row of bank 0 of a car (R383). -/
def bankBase (s : State) (id : Nat) : Nat := s.get F.BSS_CFG.TST_BASE + 16 * (id % 256 % 32)

/-- First row of the bank a candidate's span goes in (R383): bank 0, or the one the present or stopped move is not in. -/
def bankRow (s : State) (id c : Nat) : Nat :=
  let b := bankBase s id
  match (s.axis c).mv with
  | some m => if m.arg.first = b then b + 8 else b
  | none => b

/-- Rows written to the BSS area. -/
def putRows (r : Nat) : List TstRow → State → State
  | [], s => s
  | x :: t, s => putRows (r + 1) t (putRow r x s)

/-- Limits of a candidate's span (R382). -/
def spanLim (s : State) (relev : Bool) : SpanLim :=
  ⟨if relev then s.get F.BSS_VRELEV.V_RELEV else s.get F.BSS_VMOVE.V_MOVE, s.get F.BSS_AMOVE.A_MOVE, s.get F.BSS_JMOVE.J_MOVE⟩

/-- What a device's own checks of a projected move give: the reasons of R401 and R404, and the draw. -/
def projReasons (s : State) (c : ProjCar) (id t0 : Nat) (rows : List TstRow) : List Nat × List Rat :=
  let pts := spanPoints rows
  let now := project s c pts (projSegs s (thetaOf s)) []
  let cold := project s c pts (projSegs s (fun _ => tAmb s)) []
  let others := (resList s).filter (fun e => e.mv && e.st == 2 && e.car != id)
  let th := if tooHot s now.1 then (if tooHot s cold.1 then [9] else [5]) else []
  let en :=
    if energyOk s t0 now.2 others s.bss.level then []
    else if energyOk s t0 now.2 [] (s.get F.BSS_CAP.CAP) then [6] else [10]
  (th ++ en, now.2)

/-- Outcome by reasons: 0 none, 2 DEFER, 3 REFUSE with the reason reported (R387). -/
def outcomeOf (reasons : List Nat) : Nat × Nat :=
  let ref := reasons.filter (fun r => 9 ≤ r)
  let dfr := reasons.filter (fun r => r < 9)
  match ref with
  | r :: t => (3, t.foldl min r)
  | [] =>
    match dfr with
    | r :: t => (2, t.foldl min r)
    | [] => (0, 0)

/-- This device's own reasons against a candidate, without the projections (Table 12.3). -/
def ownReasons (s : State) (c : Nat) (w : Want) (lo hi : Int) (rows : List TstRow) : List Nat :=
  let r := s.car c
  let doors := carDoorsOk s r.id || (w.relev && permitFor s c)
  (if (resList s).any (fun e => e.car != r.id && overlaps lo hi e) then [1] else []) ++
  (if doors then [] else [7]) ++
  (if carFaulted s c || ownerHo s c || r.hoFailed then [8] else []) ++
  (if 128000000 < spanUs rows then [11] else []) ++
  (if (devsOver s lo hi).any (closedDev s) then [12] else []) ++
  (if w.stop.member == myMember s && (stopUnfit s w.stop || (landing s w.stop.landing).target != w.stop.target) then [13]
   else []) ++
  (if w.stop.target + envDn s < shaftLo s ∨ shaftHi s < w.stop.target + envUp s then [14] else [])

/-- BSS_CARc_LAST takes an outcome (R388). -/
def lastResult (c out reason : Nat) (e : StopEntry) (s : State) : State :=
  (s.result (Reg.BSS_CAR_LAST c)
    (out * 2 ^ 28 + reason % 16 * 2 ^ 24 + e.landing % 64 * 2 ^ 8 + e.member % 256)).ev F.BSS_EVENT.NEW

/-- DEFER (R387). -/
def deferCar (c reason : Nat) (s : State) : State :=
  (modBss c (fun x => { x with eval := 1, reason := reason, deferCnt := satN 65535 (x.deferCnt + 1) }) s).ev F.BSS_EVENT.DEFER

/-- REFUSE: the stop entry goes, or the landing for this rescue (R388, R407). -/
def refuseCar (c reason : Nat) (e : StopEntry) (s : State) : State :=
  let rescue := decide (s.mode = Mode.rescue) || ownClosed s
  (lastResult c 2 reason e (modBss c (fun x =>
    { x with
      eval := 0, reason := reason, deferCnt := 0, goal := none, woke := [], redo := none
      queue := x.queue.filter (fun y => !sameStop e y)
      refused := if rescue then x.refused ++ [(e.member, e.landing)] else x.refused }) s)).ev F.BSS_EVENT.REFUSE

/-- ADMIT at evaluation time t: the move starts at T0 = t + 10 ms, and its interval replaces the car's entry (R388, R393). -/
def admitCar (t : Nat) (x : Cand) (s : State) : State :=
  let id := (s.car x.car).id
  let told := (resOf s id).elim [] (holders s)
  let a := keepRes (fun e => !(e.car == id && e.loc)) s
  let b := addRes { ResEntry.plain id 2 true true x.lo x.hi x.id s.myId (t + 10000000) x.draw with
    told := (told ++ x.granted).eraseDups } a
  (lastResult x.car 1 0 x.stop (modBss x.car (fun y =>
    { y with eval := 2, reason := 0, deferCnt := 0, goal := some x.stop, start := some (t + 10000000, x.arg, x.resume),
             woke := [], redo := none, relev := x.relev }) b)).ev F.BSS_EVENT.ADMIT

/-- Time at which a span from `start` first has the car position in an extent: the first 10 ms step there, else its end. -/
def arrivalNs (t0 : Nat) (start : Int) (down : Bool) (rows : List TstRow) (ext : Int × Int) : Nat :=
  let d : Rat := if down then -1 else 1
  let n := (List.range (spanSteps rows)).find? (fun n =>
    let p : Rat := start + d * (spanAt rows (10000 * n)).1
    decide ((ext.1 : Rat) ≤ p) && decide (p < (ext.2 : Rat)))
  t0 + (match n with
    | some k => 10000000 * k
    | none => 1000 * spanUs rows)

/-- The wake notice, before the first request of a move to this stop, and RES_REQ to device `id` (R395; 03 R83). -/
def askDev (t : Nat) (x : Cand) (start : Int) (rows : List TstRow) (s : State) (id : Nat) : State :=
  let r := s.car x.car
  let at_ := ptpOf (arrivalNs (t + 10000000) start x.arg.dir rows (extentOf s id))
  let key := (id, x.stop.member, x.stop.landing)
  let u := if (bssCar s x.car).woke.contains key then s
    else modBss x.car (fun y => { y with woke := y.woke.filter (fun k => k.2 == key.2) ++ [key] })
      (s.send id (.wake ⟨r.id, at_.sec, at_.ns⟩))
  u.send id (.resReq ⟨x.id, r.id, x.lo, x.hi, start, x.stop.target, x.arg.dir, r.mass, r.arrOfs, r.arrLen, x.stop.member,
    x.stop.landing, x.stop.sides, t + 10000000, rows⟩)

/-- A span's distance: from the set-point to the TARGET, or what remains of a stopped move (R382). -/
def candTarget (s : State) (c : Nat) (w : Want) : Int :=
  if w.resume then
    match (s.axis c).mv with
    | some m => m.target
    | none => w.stop.target
  else w.stop.target

/-- One candidate at evaluation time t: it is formed and checked; with every own check passed it is admitted, or its request
goes out and it waits as PENDING (R387, R395). -/
def tryCand (t c : Nat) (w : Want) (others : List StopEntry) (s : State) : State :=
  let r := s.car c
  let start := (s.axis c).spPos
  let target := candTarget s c w
  let d := (target - start).natAbs
  let lim := spanLim s w.relev
  let v := spanSpeed lim d
  if v = 0 then arrive c w.stop s
  else
    let rows := spanForm lim d v
    let first := bankRow s r.id c
    let down := decide (target < start)
    let ms := mStop (s.get (F.TRJ_AXIS_ACAP.A_CAP c)) (s.get (F.TRJ_AXIS_JCAP.J_CAP c)) s.tsNs d (spanPoints rows)
    let iv := moveInterval s start target ms
    let pr := projReasons s ⟨r.mass, r.arrOfs, r.arrLen, start, down⟩ r.id (t + 10000000) rows
    let reasons := ownReasons s c w iv.1 iv.2 rows ++ pr.1
    let s1 := putRows first rows s
    let id := (s.bss.reqId + 1) % 2 ^ 32
    let asked := devsOver s iv.1 iv.2
    let cand : Cand := ⟨c, w.stop, ⟨first, rows.length, down, 0, id % 65536, true, 0, 0⟩, w.resume, iv.1, iv.2, id, asked, [], [],
      s.tb.tick, pr.2, others, w.relev⟩
    match outcomeOf reasons with
    | (3, n) => refuseCar c n w.stop s1
    | (2, n) => deferCar c n s1
    | _ =>
      let s2 := { s1 with bss := { s1.bss with reqId := id } }
      if asked.isEmpty then admitCar t cand s2
      else
        let s3 := addRes (ResEntry.plain r.id 1 true true iv.1 iv.2 id s.myId (t + 10000000) pr.2)
          { s2 with bss := { s2.bss with cand := some cand } }
        idleRestart (asked.foldl (askDev t cand start rows) s3)

/-- The candidates of a list one after another, until one is admitted, deferred or waits (R406). -/
def tryWants (t c : Nat) : List Want → State → State
  | [], s => s
  | w :: rest, s =>
    let u := tryCand t c w (rest.map (fun x => x.stop)) s
    if u.bss.cand.isNone && (bssCar u c).refused.length != (bssCar s c).refused.length then tryWants t c rest u else u

/-- Evaluation of car c: a stopped move is aborted after a stop with cause 5, whose successor goes to the same stop (R385), and in
a rescue (log entry 53). A stop is the goal of an admitted, running or stopped move only. -/
def evalCar (t c : Nat) (s : State) : State :=
  if bssBusy s c || ownerHo s c then s
  else if (s.axis c).st == .stopped &&
      (((s.axis c).cause == 5 && (bssCar s c).depart) || decide (s.mode = Mode.rescue) || ownClosed s) then
    let again := !(decide (s.mode = Mode.rescue) || ownClosed s)
    stopAxis c 2 (modBss c (fun x => { x with goal := none, redo := if again then x.goal else none }) s)
  else
    let w := wants s c
    let stands := (s.axis c).st == .stopped
    tryWants t c w.1 (modBss c (fun x => { x with dir := w.2, goal := if stands then x.goal else none }) s)

/-- The records of an evaluation from a list on, until a candidate waits for answers (R386). -/
def evalCars (t : Nat) : List Nat → State → State
  | [], s => { s with bss := { s.bss with todo := none } }
  | c :: rest, s =>
    let u := evalCar t c s
    if u.bss.cand.isSome then { u with bss := { u.bss with todo := some (t, rest) } } else evalCars t rest u

/-- The candidate that waits ends: the pending entry goes, grants are released unless it is admitted, and the evaluation goes on
(R387, R397, R398). -/
def concludeCand (s : State) : State :=
  match s.bss.cand, s.bss.todo with
  | some x, some (t, rest) =>
    let a := keepRes (fun e => !(e.st == 1 && e.id == x.id && e.loc)) { s with bss := { s.bss with cand := none } }
    let out := outcomeOf x.reasons
    let b := if out.1 = 0 then admitCar t x a
      else
        let r := a.forL x.granted (fun d u => u.send d (.resRel ⟨x.id⟩))
        if out.1 = 3 then refuseCar x.car out.2 x.stop r else deferCar x.car out.2 r
    if out.1 = 3 then
      let u := tryWants t x.car (x.others.map (fun e => (⟨e, false, false⟩ : Want))) b
      if u.bss.cand.isSome then { u with bss := { u.bss with todo := some (t, rest) } } else evalCars t rest u
    else evalCars t rest b
  | _, _ => s

/-- The candidate that waits ends with a reason of its own. -/
def endCand (reason : Nat) (s : State) : State :=
  match s.bss.cand with
  | none => s
  | some x => concludeCand { s with bss := { s.bss with cand := some { x with reasons := x.reasons ++ [reason] } } }

/-- The candidate that waits is dropped with what is left of its evaluation: no move is formed (R374, R406, R408). Its pending entry
goes, and grants are released (R398). -/
def candDrop (s : State) : State :=
  match s.bss.cand with
  | none => s
  | some x =>
    let a := keepRes (fun e => !(e.st == 1 && e.id == x.id && e.loc)) { s with bss := { s.bss with cand := none, todo := none } }
    modBss x.car (fun y => { y with eval := 0 }) (a.forL x.granted (fun d u => u.send d (.resRel ⟨x.id⟩)))

/-- Moves are formed and answers taken: the BSS is on, in a mode that forms moves (R374). -/
def bssActs (s : State) : Bool := bssOn s && bssForms s

/-- Admitted moves that have not started are dropped: the mode entered, or the closure, starts none of them (03 R60, R61, R65; R406,
R408). DEDUCED (log entry 94). -/
def schedDrop (s : State) : State :=
  s.forN 8 (fun c t =>
    if (bssCar t c).start.isSome || (t.axis c).queue.any (fun q => q.bss) then
      modBss c (fun x => { x with start := none, eval := 0, goal := none })
        (t.modAxis c (fun a => { a with queue := a.queue.filter (fun q => !q.bss) }))
    else t)

/-- An evaluation that has not finished by the next ends: its waiting candidate counts as unanswered and the cars after it wait for
that next one. DESIGN CHOICE (log entry 67). -/
def dropEval (s : State) : State :=
  match s.bss.cand, s.bss.todo with
  | some x, some (t, _) =>
    endCand 2 { s with bss := { s.bss with cand := some { x with others := [] }, todo := some (t, []) } }
  | _, _ => { s with bss := { s.bss with cand := none, todo := none } }

/-- An evaluation at time t: bucket, trims, then the cars in ascending record number (R386). -/
def evaluate (t : Nat) (s : State) : State :=
  let a := applyTrims t (bucketUpdate (dropEval s))
  let b := a.forL (ownedCars a) (ensureEntry t)
  let c := b.forL (ownedCars b) (trimCar t)
  if bssForms c then evalCars t (ownedCars c) c else c

/-- BSS_EVALUATION at a PTP time that is a whole multiple of 10 ms (R386). -/
def execBssEvaluation (s : State) : Host.Outcome State Fault Refusal :=
  .next (if bssOn s then evaluate (s.nowNs / 10000000 * 10000000) s else s)

/-- No answer within 5 ms (R398). -/
def answerTimeout (s : State) : State :=
  match s.bss.cand with
  | some x => if x.sent + 625000 ≤ s.tb.tick then (if bssActs s then endCand 2 s else candDrop s) else s
  | none => s

/-- RES_ANSWER_TIMEOUT (R398). -/
def execResAnswerTimeout (s : State) : Host.Outcome State Fault Refusal := .next (answerTimeout s)

/-- An admitted move starts at the first boundary at or after T0: QUEUE or RESUME as the stop scheduler (R385, R388). -/
def bssStart (s : State) : State :=
  s.forL (ownedCars s) (fun c t =>
    match (bssCar t c).start with
    | none => t
    | some (t0, arg, resume) =>
      if bssOn t = true ∧ t0 ≤ t.tb.k * t.tsNs then
        let op := if resume then 3 else 1
        let code := cmdCode t c op arg
        let u := modBss c (fun x =>
          { x with start := none, eval := if code = 0 then 3 else 0, goal := if code = 0 then x.goal else none }) t
        cmdOutcome c code (if code = 0 then acceptCmd c op arg u else u)
      else t)

/-! ### Messages (R395 to R399) -/

/-- Conflict of a request with the table: none, only own pending candidates, or another entry (R396, R397). -/
def resConflict (s : State) (p : ResReqPl) : Bool × Bool :=
  let hits := (resList s).filter (fun e => e.car != p.car && overlaps p.lo p.hi e)
  (!hits.isEmpty, hits.all (fun e => e.loc && e.st == 1 && decide (p.car < e.car)))

/-- The first failing check of a request, as (outcome, reason); GRANT is (1, 0). -/
def resVerdict (s : State) (p : ResReqPl) : (Nat × Nat) × List Rat :=
  let l := landing s p.landing
  let here := p.member == myMember s
  let inside := decide (extLo s.conf.geom ≤ p.target) && decide (p.target < extHi s.conf.geom)
  let fits := here && l.en && Nat.land p.sides l.sides == p.sides && l.target == p.target
  let bad := (here || inside) && !fits
  let pr := projReasons s ⟨p.mass, p.arrOfs, p.arrLen, p.start, p.dir⟩ p.car p.t0 p.rows
  let grants := decide (s.mode = Mode.service ∨ s.mode = Mode.inspection ∨ s.mode = Mode.rescue)
  let v :=
    if ownClosed s then (3, 12)
    else if !grants then (2, 3)
    else if bad then (3, 13)
    else if (resConflict s p).1 then (2, 1)
    else if (carById s p.car).isNone && (freeCar s).isNone then (2, 4)
    else
      match pr.1 with
      | r :: _ => (if 9 ≤ r then 3 else 2, r)
      | [] => (1, 0)
  (v, pr.2)

/-- A car record taken: its axis takes a new held position, its stop scheduling starts afresh (03 R80; 08 R239). -/
def newCar (c : Nat) (r : CarRec) (s : State) : State :=
  coreSeed c r.pos r.vel
    (idleRestart (modBss c (fun _ => BssCar.init) ((s.modAxis c (fun a => { a with seed := true })).modCar c (fun _ => r))))

/-- A car record for a granted car: the one held for it takes the request's mass and array, else the lowest free one is taken, and its
axis takes a new held position (01 R24; 03 R80; 08 R239). -/
def takeCar (p : ResReqPl) (owner : Nat) (s : State) : State :=
  match carById s p.car with
  | some c =>
    if (s.car c).owner then s
    else s.modCar c (fun r => { r with mass := p.mass, arrOfs := p.arrOfs, arrLen := p.arrLen })
  | none =>
    match freeCar s with
    | none => s
    | some c => newCar c { CarRec.init with
        held := true, id := p.car, mass := p.mass, arrOfs := p.arrOfs, arrLen := p.arrLen, ownerId := owner, posValid := true,
        pos := p.start } s

/-- The bank a grantor writes a request's rows in: by its own axis where that runs the car's move, else the one that does not hold the
move of the car's entry in force (R383). -/
def grantBank (s : State) (id c : Nat) : Bool :=
  if (s.axis c).mv.isSome then bankRow s id c != bankBase s id
  else
    match (resList s).find? (fun e => e.car == id && !e.loc && e.mv && e.plan.isSome) with
    | some e => !(e.plan.any (fun g => g.bank1))
    | none => false

/-- A GRANT: the entry, the rows, the record (R396). The car's entry in force stays until its owner trims the new one, since RES_REL may
still take that away (R393); an earlier grant no trim has followed goes. -/
def grantRes (src : Nat) (p : ResReqPl) (draw : List Rat) (s : State) : State :=
  let a := keepRes (fun e => e.car != p.car || e.loc || !e.mv || e.firm) s
  let b := takeCar p src a
  let bank := grantBank b p.car ((carById b p.car).getD 0)
  let e := { ResEntry.plain p.car 2 false true p.lo p.hi p.id src p.t0 draw with plan := some ⟨p.start, p.dir, p.rows, bank⟩ }
  (putRows (bankBase b p.car + (if bank then 8 else 0)) (p.rows.take 8) (addRes e b)).ev F.BSS_EVENT.GRANT_OUT

/-- The records an evaluation that waits still has to evaluate, set. -/
def withRest (l : List Nat) (s : State) : State :=
  { s with bss := { s.bss with todo := s.bss.todo.map (fun q => (q.1, l)) } }

/-- RES_REQ: a mass outside 01 Table 1.1 makes it no request (log entry 92). The answer, after an own candidate with the higher car ID has given way; the cars after that one are evaluated once
the request is handled (R396, R397). -/
def resReqOp (src : Nat) (p : ResReqPl) (s : State) : State :=
  if bssOn s && inR 1 65535 p.mass then
    let s0 := idleRestart { s with pw := { s.pw with resPend := s.pw.resPend || s.mode == .watch } }
    let k := resConflict s0 p
    let early := ownClosed s0 || !(decide (s0.mode = Mode.service ∨ s0.mode = Mode.inspection ∨ s0.mode = Mode.rescue))
    let yields := k.1 && k.2 && !early
    let s1 := if yields then endCand 1 (withRest [] s0) else s0
    let v := resVerdict s1 p
    let s2 := if v.1.1 = 1 then grantRes src p v.2 s1 else s1
    let s3 := s2.send src (.resAns ⟨p.id, v.1.1, v.1.2⟩)
    match s0.bss.todo with
    | some (t, rest) => if yields then evalCars t rest s3 else s3
    | none => s3
  else s

/-- RES_REQ (R396). -/
def execResReq (h : Hdr) (p : ResReqPl) (s : State) : Host.Outcome State Fault Refusal :=
  .next (receive 8 h (.resReq p) (resReqOp h.src p) s)

/-- RES_ANS: a GRANT that no candidate waits for is released at once (R398). -/
def resAnsOp (src : Nat) (p : ResAnsPl) (s : State) : State :=
  match s.bss.cand with
  | some x =>
    if x.id = p.id ∧ x.asked.contains src then
      let y := { x with
        asked := x.asked.erase src
        granted := if p.outcome = 1 then x.granted ++ [src] else x.granted
        reasons := if p.outcome = 1 then x.reasons else x.reasons ++ [p.reason] }
      let t := { s with bss := { s.bss with cand := some y } }
      if bssActs s = false then (if p.outcome = 1 then s.send src (.resRel ⟨p.id⟩) else s)
      else if y.asked.isEmpty then concludeCand t else t
    else if p.outcome = 1 then s.send src (.resRel ⟨p.id⟩) else s
  | none => if p.outcome = 1 then s.send src (.resRel ⟨p.id⟩) else s

/-- RES_ANS (R398). -/
def execResAns (h : Hdr) (p : ResAnsPl) (s : State) : Host.Outcome State Fault Refusal :=
  .next (receive 8 h (.resAns p) (resAnsOp h.src p) s)

/-- RES_REL deletes the granted entry of a request (Table 12.4). -/
def resRelOp (src : Nat) (p : ResRelPl) (s : State) : State :=
  keepRes (fun e => !(e.id == p.id && e.owner == src && !e.loc)) s

/-- RES_REL (R398). -/
def execResRel (h : Hdr) (p : ResRelPl) (s : State) : Host.Outcome State Fault Refusal :=
  .next (receive 8 h (.resRel p) (whenBss (resRelOp h.src p)) s)

/-- A trim's ends are those of a car at rest (R393). DEDUCED (log entry 95). -/
def restTrim (s : State) (p : ResTrimPl) : Bool := decide (p.hi - p.lo ≤ envUp s - envDn s + 2 * sepM s)

/-- The granted entry of a car that a trim is for, by its slot: the newest grant, else the one in force. -/
def trimSlot (s : State) (id : Nat) : Option Nat :=
  let l := s.bss.res.filter (fun e => e.2.car == id && !e.2.loc)
  ((l.find? (fun e => e.2.mv && !e.2.firm)).or l.head?).map (fun e => e.1)

/-- RES_TRIM: the granted entry takes the new ends from the next evaluation, and MOVE ends with the shrink to rest; the holder has taken
it (R394, 18 R571). It tells that its move was admitted, so an older entry of the car goes; a held car without an entry takes one
(R393). -/
def resTrimOp (src : Nat) (p : ResTrimPl) (s : State) : State :=
  match trimSlot s p.car with
  | some r =>
    let res := s.bss.res.filter (fun e => e.2.car != p.car || e.2.loc || e.1 == r)
    { s with bss := { s.bss with res := res.map (fun e =>
      if e.1 = r then
        (r, { e.2 with trims := e.2.trims ++ [(p.t + 10000000, p.lo, p.hi, e.2.mv && !restTrim s p)], owner := src, orphan := false,
                       firm := true })
      else e) } }
  | none => if (carById s p.car).isSome then addRes (ResEntry.plain p.car 2 false false p.lo p.hi 0 src 0 []) s else s

/-- RES_TRIM (R394). -/
def execResTrim (h : Hdr) (p : ResTrimPl) (s : State) : Host.Outcome State Fault Refusal :=
  .next (receive 8 h (.resTrim p) (whenBss (resTrimOp h.src p)) s)

/-- STOPQ: the incoming owner installs direction and queue; the move that goes on is one to the entry with its TARGET (R399; log
entry 84). -/
def stopqOp (p : StopqPl) (s : State) : State :=
  match carById s p.car with
  | some c =>
    let q := p.queue.take 64
    let g := (s.axis c).mv.bind (fun m => q.find? (fun e => e.target == m.target))
    modBss c (fun x => { x with dir := p.d % 3, queue := q, goal := g, redo := none }) s
  | none => s

/-- STOPQ (R399). -/
def execStopq (h : Hdr) (p : StopqPl) (s : State) : Host.Outcome State Fault Refusal :=
  .next (receive 8 h (.stopq p) (whenBss (stopqOp p)) s)

/-- At the claim the entry of car c changes sides (R399); a new owner has its predecessor as a grantor. -/
def claimEntry (c : Nat) (mine : Bool) (other : Nat) (s : State) : State :=
  mapRes (fun e =>
    if e.car == (s.car c).id && e.st == 2 then
      { e with loc := mine, owner := if mine then s.myId else other, told := if mine then (other :: e.told).eraseDups else [] }
    else e) s

/-- The queue goes to the incoming owner (R399). -/
def sendStopq (c dst : Nat) (s : State) : State :=
  modBss c (fun _ => BssCar.init) (s.send dst (.stopq ⟨(s.car c).id, (bssCar s c).dir, (bssCar s c).queue⟩))

/-- HELD_RESERVATION_RELEASE: a holder that has announced Service for 10 s without trimming loses the entries kept for its dead
predecessor (18 R571). -/
def heldRelease (id : Nat) (s : State) : State :=
  match learnedOf s id with
  | some l =>
    match l.service with
    | some t => if t + ticksOf 10 ≤ s.tb.tick then keepRes (fun e => !(e.owner == id && e.orphan)) s else s
    | none => s
  | none => s

/-- HELD_RESERVATION_RELEASE (18 R571). -/
def execHeldReservationRelease (id : Nat) (s : State) : Host.Outcome State Fault Refusal := .next (heldRelease id s)

/-! ### Closures and rescue (R406, R408; 18 R573, R574) -/

/-- Entering Rescue, or closing the own section, clears every stop queue (R406, R408). -/
def clearQueues (s : State) : State := s.forL (ownedCars s) (fun c t => modBss c (fun x => { x with queue := [], refused := [] }) t)

/-- Leaving Rescue forgets the landings refused in it (R407). -/
def rescueLeft (s : State) : State := s.forN 8 (fun c t => modBss c (fun x => { x with refused := [] }) t)

/-- A section is learned to be closed: owned cars whose admitted interval reaches it stop with cause 8, and a candidate that does
is refused with reason 12 (18 R574). -/
def sectionClosed (id : Nat) (s : State) : State :=
  let x := extentOf s id
  let reach (lo hi : Int) := decide (lo < x.2) && decide (x.1 ≤ hi)
  let t := s.forL (ownedCars s) (fun c u =>
    if (resList u).any (fun e => e.car == (u.car c).id && e.loc && e.mv && e.st == 2 && reach e.lo e.hi) then stopAxis c 8 u
    else u)
  match t.bss.cand with
  | some y => if reach y.lo y.hi then endCand 12 t else t
  | none => t

/-- The own section closes: it is announced at once, every running move of an own car stops with cause 8, and R408 applies
(18 R573). -/
def closeOwn (s : State) : State :=
  let t := (announceAll s).ev F.FAB_NET_EVENT.CLOSED
  schedDrop (clearQueues (candDrop (t.forL (ownedCars t) (fun c u => if inMove (u.axis c) then stopAxis c 8 u else u))))

/-- The spare capacity is found used up (07 R218, 18 R572). -/
def sparesCheck (s : State) : State :=
  if isSection s && spareGone s && !s.fab.spares then
    let t := { s with fab := { s.fab with spares := true } }
    if s.fab.closeCmd then t else closeOwn t
  else s

/-! ### Car records (01 R24, R25) -/

/-- A car of this place and array brings a record with it: its array overlaps the section, or its position lies in it (R24). -/
def inSection (s : State) (r : CarRec) : Bool :=
  let g := s.conf.geom
  decide (0 < overlapLen (extLo g) (extHi g) (arrLo r) (arrLo r + r.arrLen)) || (decide (extLo g ≤ r.pos) && decide (r.pos < extHi g))

/-- An entry granted to a car reaches into the section (R24). -/
def entryInside (s : State) (id : Nat) : Bool :=
  (resList s).any (fun e => e.car == id && decide (extLo s.conf.geom ≤ e.hi) && decide (e.lo ≤ extHi s.conf.geom))

/-- A record is still due by the three conditions of R24; an owned car, or one in a hand-over, keeps its record (R34). -/
def recordDue (s : State) (c : Nat) : Bool :=
  let r := s.car c
  r.owner || r.ho.isSome || inSection s r || entryInside s r.id

/-- Records whose conditions have all become false are released, and free from the next period on (R25). -/
def releaseRecords (s : State) : State :=
  if isSection s then
    s.forL (heldCars s) (fun c t =>
      if recordDue t c then t
      else (keepRes (fun e => e.car != (t.car c).id) t).modCar c (fun _ => { CarRec.init with relK := some t.tb.k }))
  else s

/-- A sensor position another section device reports for a car: it stands for the record's own while that has none, and a car it
places in this section takes a record (R24; DEDUCED, log entries 42 and 91). Its mass is not known before a reservation or an
offer brings it: a free value of the range of Table 1.1. -/
def seenCar (id : Nat) (pos vel : Int) (owner : Nat) (s : State) : State :=
  match carById s id with
  | some c =>
    let r := s.car c
    if r.owner || (r.formed && r.posValid) then s
    else s.modCar c (fun r => { r with pos := pos, vel := vel, posValid := true })
  | none =>
    let (m, t) := s.draw
    let r : CarRec := { CarRec.init with
      held := true, id := id, mass := 1 + m % 65535, arrOfs := s.conf.sps.arrOfs, arrLen := s.conf.sps.arrLen, ownerId := owner,
      posValid := true, pos := pos, vel := vel }
    match freeCar s with
    | some c => if inSection s r then newCar c r t else s
    | none => s

/-! ### Register views -/

/-- BSS_CARc_STAT. -/
def bssStatWord (s : State) (c : Nat) : Word :=
  let x := bssCar s c
  wd (x.dir % 4 * 2 ^ 30 + x.queue.length % 128 * 2 ^ 23 + b2n x.depart * 2 ^ 22 + x.eval % 4 * 2 ^ 20 + x.reason % 16 * 2 ^ 16 +
    x.deferCnt % 65536)

/-- BSS_Qc_i. -/
def bssQWord (s : State) (c i : Nat) : Word :=
  match (bssCar s c).queue[i]? with
  | none => 0
  | some e => wd (2 ^ 31 + e.flags % 8 * 2 ^ 28 + e.sides % 4 * 2 ^ 26 + e.landing % 64 * 2 ^ 8 + e.member % 256)

/-- BSS_RESr_LO and HI as (LO, HI), and INFO. -/
def bssResWords (s : State) (r : Nat) : Int × Int × Word :=
  match smFind s.bss.res r with
  | none => (0, 0, 0)
  | some e => (e.lo, e.hi, wd (e.st % 4 * 2 ^ 30 + b2n e.loc * 2 ^ 29 + b2n e.mv * 2 ^ 28 + e.car % 2 ^ 14 * 2 ^ 14))

/-- BSS_THETAk in 0.01 degrees C. -/
def thetaWord (s : State) (k : Nat) : Word := wdi (ratRound (thetaOf s k * 100))

/-- BSS_BUCKET in J. -/
def bucketWord (s : State) : Word := wdi (ratRound s.bss.level)

end Sys2Proof.Machine
end

