-- ==== Sys2Proof/Machine/Jtag.lean ====
section
/-!
DEFINITION. The test access port and the boundary chain (21 R621 to R625). A command is an instruction reaching Update-IR, and for
those that use the chain the scan of its 91 cells that follows.
-/

namespace Sys2Proof.Machine

open Sys2Proof

/-- Instruction codes (Table 21.7). -/
def tapExtest : Nat := 0
/-- SAMPLE/PRELOAD. -/
def tapSample : Nat := 2
/-- BYPASS. -/
def tapBypass : Nat := 15

/-- An instruction and what its data register captured. -/
def tapSet (ir dr : Nat) (s : State) : State := { s with pins := { s.pins with tapIr := ir, tapDr := dr } }

/-- The bypass register captures 0. -/
def tapToBypass (s : State) : State := tapSet tapBypass 0 s

/-- An instruction that uses the chain: with nRST low the cells capture their lands and the update stage takes the pattern shifted in;
with nRST high BYPASS is loaded in its place (R623). -/
def tapChain (ir : Nat) (lands pattern : BitVec 91) (s : State) : State :=
  if s.pins.nrst then tapToBypass s
  else
    let t := tapSet ir lands.toNat s
    { t with pins := { t.pins with chain := pattern.toNat } }

/-- EXTEST (R623): the update stage drives the lands. -/
def execExtest (lands pattern : BitVec 91) (s : State) : Host.Outcome State Fault Refusal :=
  .next (tapChain tapExtest lands pattern s)

/-- IDCODE (R622). -/
def execIdcode (s : State) : Host.Outcome State Fault Refusal := .next (tapSet tapIdcode idcodeWord s)

/-- SAMPLE/PRELOAD (R623): the update stage is loaded, the lands stay with the device. -/
def execSamplePreload (lands pattern : BitVec 91) (s : State) : Host.Outcome State Fault Refusal :=
  .next (tapChain tapSample lands pattern s)

/-- A code of Table 21.7 other than BYPASS. -/
def tapKnown (code : Nat) : Bool := code == tapExtest || code == tapIdcode || code == tapSample

/-- BYPASS (R621): the instruction itself, and every code that Table 21.7 does not name. -/
def execBypass (code : Fin 16) (s : State) : Host.Outcome State Fault Refusal :=
  .next (if tapKnown code.val then s else tapToBypass s)

end Sys2Proof.Machine
end

