-- ==== Sys2Proof/Machine/SafTel.lean ====
section
/-!
DEFINITION. Safety telegrams (16 R512 to R517): their layout, acceptance, watchdogs and sending; the landing-bus interlock telegrams;
the Roche envelope of the safety core (R504, R505); and the tape of a car device (R369, R501, R503).
-/

namespace Sys2Proof.Machine

open Sys2Proof

/-! ### Layout (Table 16.2) -/

/-- KINDs. -/
def kindCar : Nat := 1
/-- SEC_STATE. -/
def kindSec : Nat := 2
/-- PERMIT. -/
def kindPermit : Nat := 3

/-- CRC-32C over SHAFT_ID and bytes. -/
def shaftCrc (s : State) (b : List Byte) : Word := crc32c (wordBytes (sps s).shaftId ++ b)

/-- Telegram time in ns, its seconds modulo 2^32. -/
def telNs (b : List Byte) : Nat := slotAt b 12 4 * 1000000000 + slotAt b 16 4

/-- Receive time on the same scale. -/
def rxNs (s : State) : Nat := s.tb.sec % 2 ^ 32 * 1000000000 + s.tb.ns

/-- Payload of a telegram. -/
def telBody (b : List Byte) : List Byte := (b.drop 24).take (slotAt b 20 2)

/-- The telegram is well formed and of this KIND (R512, R513). -/
def telForm (s : State) (kind : Nat) (b : List Byte) : Bool :=
  let len := slotAt b 20 2
  decide (4 ≤ len) && decide (len ≤ 136) && len % 4 == 0 && b.length == 28 + len && slotAt b 0 1 == 1 &&
    slotAt b 1 1 == kind && b.drop (24 + len) == wordBytes (shaftCrc s (b.take (24 + len)))

/-- SRC is a partner named in the safety set and entitled to the KIND (R513, R515): cars send CAR_STATE to sections; neighbours, or
for a car device the sections of its shaft, send SEC_STATE and PERMIT. -/
def telPartner (s : State) (kind src : Nat) : Bool :=
  if isCar s then kind != 1 && (sps s).sections.contains src
  else if kind = 1 then (sps s).cars.contains src
  else (sps s).neighbours.contains src

/-- The last accepted SEQ of a sender and KIND. -/
def telSeq (s : State) (kind src : Nat) : Option Nat :=
  match kind with
  | 1 => (carTel s src).seq
  | 2 => (secTel s src).seq
  | _ => (permitTel s src).seq

/-- SEQ is newer than the last accepted one. -/
def seqNewer (bits : Nat) (last : Option Nat) (q : Nat) : Bool :=
  match last with
  | none => true
  | some l => decide (0 < sgn bits (uns bits ((q : Int) - (l : Int))))

/-- A telegram is accepted (R513). -/
def telOk (s : State) (kind : Nat) (b : List Byte) : Bool :=
  let src := slotAt b 2 2
  let dst := slotAt b 4 2
  telForm s kind b && decide (src < 2 ^ 14) && telPartner s kind src &&
    (dst == s.myId || dst.testBit 15) && epochFor s src == some (slotAt b 6 2) &&
    seqNewer 32 (telSeq s kind src) (slotAt b 8 4) &&
    decide (telNs b ≤ rxNs s + 100000) && decide (rxNs s ≤ telNs b + 2000000)

/-- A telegram discarded (R513). -/
def telDiscard (s : State) : State := s.incSat F.SAF_TG_STAT.DISCARDED

/-! ### The Roche envelope of the safety core (R504, R505) -/

/-- A car's body as the core checks it: its fabric ID, whether a record here, position and speed. -/
structure Body where
  id : Nat
  own : Bool
  pos : Int
  vel : Int
  deriving DecidableEq, Repr

/-- Records of this device with a position of the core's own. -/
def ownBodies (s : State) : List Body :=
  ((heldCars s).filter (fun c => (corePos s c).ok)).map (fun c => ⟨(s.car c).id, true, (corePos s c).pos, (corePos s c).vel⟩)

/-- Cars the neighbours hold, by their SEC_STATEs within the watchdog. -/
def farBodies (s : State) : List Body :=
  (s.saf.secTels.filter (fun e => e.2.alive)).flatMap (fun e =>
    (e.2.cars.filter (fun x => x.cf.testBit 0 && !(ownBodies s).any (fun b => b.id == x.car))).map
      (fun x => ⟨x.car, false, x.pos, x.vel⟩))

/-- All of them by rising position. -/
def bodies (s : State) : List Body := (ownBodies s ++ farBodies s).mergeSort (fun a b => decide (a.pos ≤ b.pos))

/-- `gap` is less than D_MIN plus the braking distance of a closing speed. -/
def tooClose (s : State) (gap closing : Int) : Bool :=
  let x := gap - ((sps s).dMin : Int)
  if 0 < closing then decide (x * (2 * ((sps s).aSafe : Int)) < closing * closing) else decide (x < 0)

/-- Two cars adjacent in the shaft violate R504. -/
def pairClose (s : State) (i j : Body) : Bool :=
  (i.own || j.own) && tooClose s ((j.pos + (sps s).envDn) - (i.pos + (sps s).envUp)) (i.vel - j.vel)

/-- The first violation among cars in order: the two cars, an own one first. -/
def rocheHit (s : State) : List Body → Option (Nat × Nat)
  | i :: j :: t => if pairClose s i j then some (if i.own then (i.id, j.id) else (j.id, i.id)) else rocheHit s (j :: t)
  | _ => none

/-- The core's check of R504: both cars stop. -/
def rocheCheck (s : State) : State :=
  match rocheHit s (bodies s) with
  | some q => carFault 1 38 q.1 [q.1, q.2] s
  | none => s

/-- An own car whose body end lies within `need` of the boundary with a silent neighbour (R505). -/
def boundaryHit (s : State) (nb : Nat) : Option Nat :=
  let g := s.conf.geom
  ((ownBodies s).find? (fun b =>
    (match g.below with
     | some n => n.id == nb && tooClose s (b.pos + (sps s).envDn - extLo g) (-b.vel)
     | none => false) ||
    (match g.above with
     | some n => n.id == nb && tooClose s (extHi g - (b.pos + (sps s).envUp)) b.vel
     | none => false))).map (fun b => b.id)

/-- The check of R505 for every neighbour whose watchdog has expired. -/
def silentCheck (s : State) : State :=
  s.forL ((sps s).neighbours.filter (fun nb => !(secTel s nb).alive && (secTel s nb).seq.isSome)) (fun nb t =>
    match boundaryHit t nb with
    | some id => carFault 1 38 id [id] t
    | none => t)

/-! ### Accepted content -/

/-- CAR_STATE (Table 16.4). -/
def takeCarState (b : List Byte) (s : State) : State :=
  let p := telBody b
  let x : CarTel := ⟨some (slotAt b 8 4), s.tb.tick, true, slotAt p 0 4, slotAtS p 4 8, slotAtS p 12 4, slotAt p 16 4⟩
  { s with saf := { s.saf with carTels := smPut s.saf.carTels (slotAt b 2 2) x } }

/-- Car entry i of SEC_STATE (Table 16.5). -/
def secEntryAt (p : List Byte) (i : Nat) : SecEntry :=
  ⟨slotAt p (8 + 16 * i) 2, slotAt p (10 + 16 * i) 2, slotAtS p (12 + 16 * i) 8, slotAtS p (20 + 16 * i) 4⟩

/-- SEC_STATE (Table 16.5). -/
def takeSecState (b : List Byte) (s : State) : State :=
  let p := telBody b
  let n := min 8 (slotAt p 0 4 / 256 % 16)
  let x : SecTel := ⟨some (slotAt b 8 4), s.tb.tick, true, slotAt p 0 4, (List.range n).map (secEntryAt p)⟩
  { s with saf := { s.saf with secTels := smPut s.saf.secTels (slotAt b 2 2) x } }

/-- The core has no position of its own of a car: it starts from the one a section device reports (log entry 56). -/
def coreHeard (e : SecEntry) (s : State) : State :=
  match carById s e.car with
  | some c => if (corePos s c).ok then s else coreSeed c e.pos e.vel s
  | none => s

/-- The cars a section device's SEC_STATE gives a sensor position for (01 R24). -/
def takeSeen (b : List Byte) (s : State) : State :=
  if isSection s then
    let src := slotAt b 2 2
    s.forL (((secTel s src).cars).filter (fun e => e.cf.testBit 0)) (fun e t =>
      coreHeard e (seenCar e.car e.pos e.vel (if e.cf.testBit 1 then src else 0) t))
  else s

/-- PERMIT (Table 16.5); the position of a permission's start is the tape's here (R503). -/
def takePermit (b : List Byte) (s : State) : State :=
  let p := telBody b
  let src := slotAt b 2 2
  let old := permitTel s src
  let fl := slotAt p 4 4
  let new := fl.testBit 0 && !permitLive old
  let x : PermitTel := ⟨some (slotAt b 8 4), s.tb.tick, true, slotAt p 0 2, slotAt p 2 2, fl, slotAtS p 8 8, slotAt p 16 4,
    slotAt p 20 4, if new then s.saf.tape.pos else old.posAt⟩
  let t := { s with saf := { s.saf with permits := smPut s.saf.permits src x } }
  if new && isCar s then { t with saf := { t.saf with tape := { t.saf.tape with ref := some t.saf.tape.pos } } } else t

/-- A telegram of a KIND as the safety core takes it. -/
def telOp (kind : Nat) (b : List Byte) (s : State) : State :=
  if s.saf.coreDown then s
  else if telOk s kind b then
    safRefresh (match kind with
      | 1 => takeCarState b s
      | 2 => rocheCheck (takeSeen b (takeSecState b s))
      | _ => takePermit b s)
  else telDiscard s

/-- CAR_STATE (R512, R513). -/
def execCarState (h : Hdr) (b : List Byte) (s : State) : Host.Outcome State Fault Refusal :=
  .next (receive 10 h (.safety b) (telOp kindCar b) s)
/-- SEC_STATE (R512, R513). -/
def execSecState (h : Hdr) (b : List Byte) (s : State) : Host.Outcome State Fault Refusal :=
  .next (receive 10 h (.safety b) (telOp kindSec b) s)
/-- PERMIT (R512, R513). -/
def execPermit (h : Hdr) (b : List Byte) (s : State) : Host.Outcome State Fault Refusal :=
  .next (receive 10 h (.safety b) (telOp kindPermit b) s)

/-! ### Landing-bus interlock telegrams (R516, R517) -/

/-- A node's telegram is right, on a path. -/
def ilkOk (s : State) (path port : Nat) (b : List Byte) : Bool :=
  let node := slotAt b 2 1
  b.length == 16 && slotAt b 0 1 == 1 && slotAt b 1 1 == 6 && slotAt b 3 1 == port &&
    b.drop 12 == wordBytes (shaftCrc s (b.take 12)) && (safeNodes s).contains (port, node) &&
    seqNewer 16 (nodeOf s path port node).seq (slotAt b 4 2)

/-- A path takes a node's contacts; a pair with a discrepancy fault follows them (R491). -/
def ilkTake (path port : Nat) (b : List Byte) (s : State) : State :=
  if ilkOk s path port b then
    let st := slotAt b 6 1
    modNode path port (slotAt b 2 1) (fun x =>
      { x with seq := some (slotAt b 4 2), state := st, tick := s.tb.tick, alive := true,
               pair := pairNeed (st.testBit 0) (st.testBit 1) x.pair }) s
  else if path = 0 then telDiscard s else s

/-- An interlock telegram on a landing-bus port reaches both paths. -/
def ilkOp (port : Nat) (b : List Byte) (s : State) : State :=
  if s.awake then safRefresh (ilkTake 1 port b (if s.saf.coreDown then s else ilkTake 0 port b s)) else s

/-- INTERLOCK_TELEGRAM (R516, R517). -/
def execInterlockTelegram (port : Fin 2) (b : List Byte) (s : State) : Host.Outcome State Fault Refusal :=
  .next (ilkOp port.val b s)

/-! ### Watchdogs (R514, R517) -/

/-- 4 ms in ticks. -/
def wdTicks : Nat := 500000

/-- An expiry is counted. -/
def wdCount (s : State) : State := s.incSat F.SAF_TG_STAT.WD_EXP

/-- The watchdog of a KIND (0 CAR_STATE, 1 SEC_STATE, 2 PERMIT) and partner, or of a landing-bus node (3; `src`: port * 32 + node),
expires: its content is withdrawn. -/
def wdExpire (kind src : Nat) (s : State) : State :=
  let late (t : Nat) (alive : Bool) := s.awake && alive && decide (t + wdTicks ≤ s.tb.tick)
  match kind with
  | 0 =>
    if late (carTel s src).tick (carTel s src).alive then
      safRefresh (wdCount { s with saf := { s.saf with
        carTels := smMod CarTel.init s.saf.carTels src (fun x => { x with alive := false }) } })
    else s
  | 1 =>
    if late (secTel s src).tick (secTel s src).alive then
      safRefresh (silentCheck (wdCount { s with saf := { s.saf with
        secTels := smMod SecTel.init s.saf.secTels src (fun x => { x with alive := false }) } }))
    else s
  | 2 =>
    if late (permitTel s src).tick (permitTel s src).alive then
      safRefresh (wdCount { s with saf := { s.saf with
        permits := smMod PermitTel.init s.saf.permits src (fun x => { x with alive := false }) } })
    else s
  | _ =>
    let gone (path : Nat) : Bool :=
      late (nodeOf s path (src / 32) (src % 32)).tick (nodeOf s path (src / 32) (src % 32)).alive
    if gone 0 || gone 1 then
      safRefresh (wdCount (s.forN 2 (fun path t =>
        if gone path then
          modNode path (src / 32) (src % 32) (fun q =>
            { q with alive := false, pair := pairNeed false false q.pair }) t
        else t)))
    else s

/-- TELEGRAM_WATCHDOG_EXPIRY (R514). -/
def execTelegramWatchdogExpiry (kind : Fin 4) (src : Nat) (s : State) : Host.Outcome State Fault Refusal :=
  .next (wdExpire kind.val src s)

/-! ### Sending (R515) -/

/-- TG in periods. -/
def tgPeriods (s : State) : Nat := (250000 + s.tsNs - 1) / s.tsNs

/-- SEQ of the next telegram of a KIND. -/
def bumpSeq (kind : Nat) (s : State) : State :=
  { s with saf := { s.saf with seqs := smSet 0 s.saf.seqs kind ((smGet 0 s.saf.seqs kind + 1) % 2 ^ 32) } }

/-- A telegram to one device. -/
def sendTel (kind dst : Nat) (body : List Byte) (s : State) : State :=
  let t := bumpSeq kind s
  let b : List Byte := [1, BitVec.ofNat 8 kind] ++ leBytes 2 t.myId ++ leBytes 2 dst ++ leBytes 2 t.nv.lc.epoch ++
    leBytes 4 (smGet 0 t.saf.seqs kind) ++ leBytes 4 t.tb.sec ++ leBytes 4 t.tb.ns ++ leBytes 2 body.length ++ [0, 0] ++ body
  t.send dst (.safety (b ++ wordBytes (shaftCrc t b)))

/-- Both brake feedbacks read released. -/
def brakesReleased (s : State) : Bool := pathNamed s 0 (sps s).brkFbA && pathNamed s 0 (sps s).brkFbB

/-- Payload of CAR_STATE (Table 16.4). -/
def carStateBody (s : State) : List Byte :=
  let fl := b2n (doorLocked s 0) + 2 * b2n (doorLocked s 1 && !s.saf.eclFail) + 4 * b2n (brakesReleased s) + 8 * b2n s.saf.tape.ok +
    16 * b2n (carPairDemand s 0 || carPairDemand s 1) + 32 * b2n (s.mode == .lockout) + 64 * b2n (inspOn s 0)
  let ack := match carPermit s with
    | some p => p.landing
    | none => 0xFFFFFFFF
  leBytes 4 fl ++ leBytes 8 (uns 64 s.saf.tape.pos) ++ leBytes 4 (uns 32 s.saf.tape.vel) ++ leBytes 4 ack ++ leBytes 4 0

/-- Car c's active set in this section is energised: its channels' lines are commanded and no STO bit is set. -/
def holdsCar (s : State) (c : Nat) : Bool :=
  let ns := ((ownSegs s.conf.geom).filter (fun x => coreUnder s x c)).map (fun x => x.chan)
  !ns.isEmpty && modeTorque s.mode &&
    ns.all (fun n => !stoA s n && !stoB s n && (smFind s.saf.aOn (portOf n)).isSome && s.saf.bOn.testBit (portOf n))

/-- A section stop is in force on either path (R487). -/
def secDemand (s : State) : Bool := sectionStop s 0 || sectionStop s 1

/-- Car entry of SEC_STATE (Table 16.5). -/
def secCarBody (s : State) (c : Nat) : List Byte :=
  let p := corePos s c
  let cf := b2n p.ok + 2 * b2n (s.car c).owner + 4 * b2n (secDemand s || carStop s c) + 8 * b2n (holdsCar s c)
  leBytes 2 (s.car c).id ++ leBytes 2 cf ++ leBytes 8 (uns 64 p.pos) ++ leBytes 4 (uns 32 p.vel)

/-- Payload of SEC_STATE (Table 16.5). -/
def secStateBody (s : State) : List Byte :=
  let cs := heldCars s
  leBytes 4 (b2n (secDemand s) + 2 * b2n (ownClosed s) + 4 * b2n (inspOn s 0) + 256 * cs.length) ++ leBytes 4 0 ++
    (cs.map (secCarBody s)).flatten

/-- Landing l of the safety set. -/
def safeLandingAt (s : State) (l : Nat) : Option SafeLanding := (sps s).landings[l]?

/-- Payload of PERMIT for car record c (Table 16.5). -/
def permitBody (s : State) (c : Nat) (g : Grant) : List Byte :=
  match safeLandingAt s g.landing with
  | none => leBytes 24 0
  | some l =>
    leBytes 2 (s.car c).id ++ leBytes 2 (g.landing % 64 * 256 + myMember s) ++
      leBytes 4 (b2n g.on + 2 * b2n l.front + 4 * b2n l.rear) ++ leBytes 8 (uns 64 l.target) ++ leBytes 4 l.dzDn ++
      leBytes 4 l.dzUp

/-- The section devices known to hold a record of a car (R368; 01 R24): the neighbours whose SEC_STATE lists it, its owner, and
for an owned car those that hold a part of its reservation. -/
def recordHolders (s : State) (id : Nat) : List Nat :=
  ((sps s).neighbours.filter (fun nb => (secEntryFor (secTel s nb) id).isSome) ++
    (match resOf s id with
     | some e => if e.loc then holders s e else [e.owner]
     | none => [])).eraseDups

/-- A permission goes to the car and to every holder of its record; a withdrawn one goes once more (R515). -/
def sendPermit (e : Nat × Grant) (s : State) : State :=
  let dsts := (s.car e.1).id :: (recordHolders s (s.car e.1).id).filter (fun d => d != s.myId)
  let t := s.forL dsts (fun d u => sendTel kindPermit d (permitBody s e.1 e.2) u)
  if e.2.on then t else { t with saf := { t.saf with grants := smErase t.saf.grants e.1 } }

/-- The cyclic telegrams, in every period whose boundary is a multiple of TG. -/
def sendTelegrams (s : State) : State :=
  if s.awake && !s.saf.coreDown && s.tb.k % tgPeriods s == 0 then
    if isCar s then s.forL (sps s).sections (fun d t => sendTel kindCar d (carStateBody s) t)
    else if isSection s then
      let t := s.forL ((sps s).neighbours ++ (heldCars s).map (fun c => (s.car c).id))
        (fun d u => sendTel kindSec d (secStateBody s) u)
      t.forL t.saf.grants sendPermit
    else s
  else s

/-! ### The tape (R369, R501, R503) -/

/-- Change of tape bits [39:10] that the Eclipse logic allows in 4 ms for a speed limit. -/
def tapeStep (s : State) (v : Nat) : Nat :=
  if (sps s).tapeLsb = 0 then 0 else ceilDiv (v * 4) ((sps s).tapeLsb * 1024)

/-- The Eclipse logic finds overspeed: its bits now against those 4 ms ago. -/
def tapeFast (s : State) (now : Nat × Nat) : Bool :=
  match s.saf.tape.ecl.find? (fun e => decide (e.1 + 4000000 ≤ now.1)) with
  | none => false
  | some e =>
    let d : Int := (now.2 : Int) - (e.2 : Int)
    decide (0 < d ∧ tapeStep s (sps s).vCarUp < d.natAbs) || decide (d < 0 ∧ tapeStep s (sps s).vCarDn < d.natAbs)

/-- The tape position left the window of every live PERMIT for this car, or moved more than UCM_DIST, with a door not closed and
locked (R503, safety core). -/
def tapeUcm (s : State) (pos : Int) : Bool :=
  let ps := (s.saf.permits.map (fun e => e.2)).filter (fun p => permitLive p && p.car == s.myId)
  (!ps.isEmpty && ps.all (fun p => decide (pos < p.target - p.dzDn) || decide (p.target + p.dzUp < pos))) ||
    (match s.saf.tape.ref with
     | some r => decide ((sps s).ucmDist < (pos - r).natAbs)
     | none => false)

/-- A good transfer of the tape at time t (ns). -/
def tapeTake (word t : Nat) (s : State) : State :=
  let x := s.saf.tape
  let w : Nat := word % 2 ^ 40
  let pos := ((w : Nat) : Int) * ((sps s).tapeLsb : Int) / 1000 + (sps s).tapeOfs
  let dt : Int := (t : Int) - (x.t : Int)
  let vel := if x.ok && decide (0 < dt) then truncDiv ((pos - x.pos) * 1000000000) dt else 0
  let now := (t, w / 1024)
  let fastC := (decide (0 < vel) && decide (((sps s).vCarUp : Int) < vel)) || (decide (vel < 0) && decide (((sps s).vCarDn : Int) < -vel))
  let fastE := tapeFast s now
  let locked := doorLocked s 0
  let ucmC := !locked && tapeUcm s pos
  let ucmE := !doorLocked s 1 && !(sps s).zones.any (fun z => decide (z.1 ≤ pos) && decide (pos ≤ z.2))
  let a := { s with saf := { s.saf with tape :=
    { ok := true, pos := pos, vel := vel, t := t, ecl := (now :: x.ecl).take 128, ref := if locked then some pos else x.ref } } }
  let b := pathFault (fastC && !s.saf.coreDown) fastE 36 0 a
  safRefresh (pathFault (ucmC && !s.saf.coreDown) ucmE 37 0 b)

/-- A transfer of serial port 0, which carries the tape of a car device (log entry 55). -/
def tapeSeen (p : Nat) (good : Bool) (word t : Nat) (s : State) : State :=
  if isCar s && p == 0 && s.servoOn then
    if good then tapeTake word t s
    else safRefresh { s with saf := { s.saf with tape := { s.saf.tape with ok := false } } }
  else s

/-- The transaction that ends is a POS transaction. -/
def posBusy (s : State) (p : Nat) : Bool := (s.ser p).nego.isNone && (s.ser p).busy

/-- KSP_TRANSACTION_DONE (10 R331, R335, R336; R501). -/
def execKspTransactionDone (port : Fin 8) (r : KspResp) (s : State) : Host.Outcome State Fault Refusal :=
  .next (let t := kspDone port.val r s
    if posBusy s port.val && serState s port.val == 2 then tapeSeen port.val (kspValid r) r.data r.t t else t)

/-- SSI_TRANSFER_DONE (10 R339; R501). -/
def execSsiTransferDone (port : Fin 8) (r : SsiResp) (s : State) : Host.Outcome State Fault Refusal :=
  .next (let t := ssiDone port.val r s
    if posBusy s port.val && serState s port.val == 3 then
      tapeSeen port.val (ssiValid s port.val r) (ssiWord s port.val r) (s.ser port.val).began t
    else t)

end Sys2Proof.Machine
end

