-- ==== Sys2Proof/Machine/SafLink.lean ====
section
/-!
DEFINITION. The returns of the Segment Link, with what the two safety paths find in them on their own taps (02 R51; 15 R466; 16 R498 to
R506; 11 R368): pair phases and occupancy, line bits, the core's positions, overspeed, terminal zones, unintended movement, the Roche
envelope, and door-zone permissions.
-/

namespace Sys2Proof.Machine

open Sys2Proof

/-! ### The Eclipse logic per channel (R499, R506) -/

/-- 10-bit phase of a sample. -/
def phase10 (sn cs : Int) : Nat := angleBits 7 cs sn

/-- The step between two phases, as (s10)(a - b). -/
def phaseStep (a b : Nat) : Int := sgn 10 (uns 10 ((a : Int) - (b : Int)))

/-- Configured pair k of channel n is PRESENT in the accepted slot. -/
def pairPresent (s : State) (n k : Nat) : Bool :=
  let m := pairSample (s.chan n).smp k
  (pairsOf s n).contains k && ampPresent s n (m.1 * m.1 + m.2.1 * m.2.1)

/-- What the Eclipse logic keeps of channel n after the period's return. -/
def eclNext (s : State) (n : Nat) : EclCh :=
  let old := eclCh s n
  if (s.chan n).got then
    let m0 := pairSample (s.chan n).smp 0
    let m1 := pairSample (s.chan n).smp 1
    let a := phase10 m0.1 m0.2.1
    let b := phase10 m1.1 m1.2.1
    ⟨true, pairPresent s n 0, pairPresent s n 1, a, b,
     if old.ok && old.pres0 then phaseStep a old.ph0 else 0, if old.ok && old.pres1 then phaseStep b old.ph1 else 0⟩
  else { old with ok := false, step0 := 0, step1 := 0 }

/-- Channel n after the period's return. -/
def eclTake (n : Nat) (s : State) : State := { s with saf := { s.saf with ecl := smSet EclCh.init s.saf.ecl n (eclNext s n) } }

/-- Step limits of segment k, upward and downward. -/
def eclLimits (s : State) (k : Nat) : Nat × Nat :=
  if inspOn s 1 then ((sps s).eclInsp, (sps s).eclInsp) else ((sps s).eclUp.getD k 0, (sps s).eclDn.getD k 0)

/-- A step breaks a segment's limits. -/
def stepFast (lim : Nat × Nat) (d : Int) : Bool :=
  decide (0 < d ∧ lim.1 < d.natAbs) || decide (d < 0 ∧ lim.2 < d.natAbs)

/-- The Eclipse logic finds overspeed on segment x. -/
def eclFast (s : State) (x : SegX) : Bool :=
  let e := eclCh s x.chan
  e.ok && ((e.pres0 && stepFast (eclLimits s x.seg) e.step0) || (e.pres1 && stepFast (eclLimits s x.seg) e.step1))

/-- The cars over the segments first to last: those of the run that the Eclipse logic attributes to an event (R487). -/
def carsOver (s : State) (first last : Nat) : List Nat :=
  ((heldCars s).filter (fun c => (ownSegs s.conf.geom).any (fun x =>
    decide (first ≤ x.seg) && decide (x.seg ≤ last) && coreUnder s x c))).map (fun c => (s.car c).id)

/-- First and last segment of the occupied run that holds segment k. -/
def runEnds (s : State) (k : Nat) : Nat × Nat :=
  match (runs s).find? (fun r => decide (r.first ≤ k) && decide (k ≤ r.last)) with
  | some r => (r.first, r.last)
  | none => (k, k)

/-- A run that breaks R506: its first segment, and the first and last segment of the stop: from the run below where the gap is too
small. -/
def occFault (s : State) : List OccRun → Option (Nat × Nat × Nat)
  | [] => none
  | r :: t =>
    if runBad s r then
      some (r.first, (match r.gap, t with
        | some g, b :: _ => if g < (sps s).gMin then b.first else r.first
        | _, _ => r.first), r.last)
    else occFault s t

/-- The Eclipse logic's checks of the section: overspeed, then occupancy (R499, R506). -/
def eclChecks (s : State) : State :=
  if isSection s then
    let t := match (ownSegs s.conf.geom).find? (eclFast s) with
      | some x => carFault 2 36 x.chan (carsOver s (runEnds s x.seg).1 (runEnds s x.seg).2) s
      | none => s
    match occFault t (runs t) with
    | some q => carFault 2 38 q.1 (carsOver t q.2.1 q.2.2) t
    | none => t
  else s

/-! ### Line bits of the nodes (R464) -/

/-- A node of port p reports a line otherwise than its path commands it. -/
def nodesDisagree (s : State) (path p : Nat) : Bool :=
  let cmd := if path = 0 then (smFind s.saf.aOn p).isSome else s.saf.bOn.testBit p
  (portChans s p).any (fun n => (s.chan n).got && (s.get (F.SLK_CH_STAT.NSTAT n)).testBit (14 - path) != cmd)

/-- The tick a disagreement began is kept until it ends. -/
def nodeLines (p : Nat) (s : State) : State :=
  s.forN 2 (fun path t =>
    let key := path * 8 + p
    if nodesDisagree t path p && t.servoOn then
      if (smFind t.saf.nodeBad key).isSome then t
      else { t with saf := { t.saf with nodeBad := smPut t.saf.nodeBad key t.tb.tick } }
    else { t with saf := { t.saf with nodeBad := smErase t.saf.nodeBad key } })

/-! ### The core's own pairs and positions (15 R466; R498; log entry 56) -/

/-- Pair k of channel n as the core counts it (15 R466). -/
def corePair (s : State) (n k : Nat) : FbPair := smGet FbPair.init s.saf.corePr (2 * n + k)

/-- Shaft position of pair k's sensor on segment x, by the safety set. -/
def coreSens (s : State) (x : SegX) (k : Nat) : Int := (sps s).segEnds.getD x.seg 0 + (sps s).sens.getD (2 * x.seg + k) 0

/-- The car that covers pair k of segment x by the core's positions (10 R299). -/
def coreCover (s : State) (x : SegX) (k : Nat) : Option Nat :=
  let p := coreSens s x k
  let e : Int := s.get F.FBK_LINK.EDGE
  (heldCars s).find? (fun c => decide (coreArr s c + e ≤ p) && decide (p + e ≤ coreArr s c + (sps s).arrLen))

/-- The core's view of pair k of segment x: its own positions, and the safety set's geometry (16 Table 16.6). -/
def coreEnv (s : State) (x : SegX) (k : Nat) : PairEnv where
  cover := coreCover s x k
  pred :=
    let p := corePos s ((coreCover s x k).getD 0)
    p.pos + rdivAway (p.vel * (s.tsNs : Int)) 1000000000
  per := (sps s).sigPer
  ofs := if k = 0 then s.regS (Reg.FBK_CH_OFS0 x.chan) else s.regS (Reg.FBK_CH_OFS1 x.chan)
  target := some (coreSens s x k - (sps s).mark)
  takes := true
  sup := false

/-- The core counts an accepted slot's sample of pair k of segment x. -/
def corePairTake (x : SegX) (k : Nat) (s : State) : State :=
  let m := pairSample (s.chan x.chan).smp k
  let o := pairTake s x.chan (coreEnv s x k) m.1 m.2.1 m.2.2 (corePair s x.chan k)
  { s with saf := { s.saf with corePr := smSet FbPair.init s.saf.corePr (2 * x.chan + k) o.p } }

/-- The core counts the period's accepted slots. -/
def corePairsTake (s : State) : State :=
  s.forL ((ownSegs s.conf.geom).filter (fun x => (s.chan x.chan).got)) (fun x t => t.forL (pairsOf s x.chan) (fun k u => corePairTake x k u))

/-- Positions that the pairs of segment x give for car c in this period. -/
def corePairs (s : State) (c : Nat) (x : SegX) : List Int :=
  if (s.chan x.chan).got then
    (pairsOf s x.chan).filterMap (fun k =>
      let p := corePair s x.chan k
      let e := coreEnv s x k
      if p.ref && p.present && p.cover == some c then some (p.cnt * e.per / perPeriod + e.ofs) else none)
  else []

/-- The core's position and speed of car c. -/
def coreTake (c : Nat) (s : State) : State :=
  let l := (ownSegs s.conf.geom).flatMap (corePairs s c)
  let old := corePos s c
  let p := meanOf l
  let v : CorePos :=
    if l.isEmpty then { old with ok := false }
    else ⟨true, p, if old.ok then truncDiv ((p - old.pos) * 1000000000) s.tsNs else 0⟩
  { s with saf := { s.saf with core := smSet CorePos.init s.saf.core c v } }

/-- The smallest envelope limit in the direction of motion among the segments car c overlaps; 630,000 µm/s in Inspection (R498). -/
def speedLimit (s : State) (c : Nat) (up : Bool) : Option Nat :=
  let ls := ((ownSegs s.conf.geom).filter (fun x => coreUnder s x c)).map (fun x =>
    if s.mode == .inspection then 630000 else (if up then (sps s).vUp else (sps s).vDn).getD x.seg 0)
  match ls with
  | [] => none
  | x :: t => some (t.foldl min x)

/-- Car c is in overspeed. -/
def coreFast (s : State) (c : Nat) : Bool :=
  let p := corePos s c
  p.ok && p.vel != 0 && (match speedLimit s c (decide (0 < p.vel)) with
    | some l => decide (l < p.vel.natAbs)
    | none => false)

/-- The terminal curve is broken toward one end: distance e, speed v toward it (R502). -/
def curveBroken (s : State) (e v : Int) : Bool :=
  decide (e ≤ (sps s).tzLen) && decide (0 < v) &&
    decide (2 * ((sps s).aTz : Int) * max 0 (e - ((sps s).tzStop : Int)) < v * v)

/-- Car c breaks the terminal curve. -/
def coreTerminal (s : State) (c : Nat) : Bool :=
  let p := corePos s c
  p.ok && (curveBroken s (p.pos + (sps s).envDn - (sps s).shaftLo) (-p.vel) ||
    curveBroken s ((sps s).shaftHi - (p.pos + (sps s).envUp)) p.vel)

/-- Unintended movement of car c under the own permission (R503). -/
def coreUcm (s : State) (c : Nat) : Bool :=
  match grantOf s c with
  | none => false
  | some g =>
    match safeLandingAt s g.landing with
    | none => false
    | some l =>
      let p := corePos s c
      g.on && p.ok && (!carDoorsOk s (s.car c).id || landingOpen s 0 l) &&
        (decide (p.pos < l.target - l.dzDn) || decide (l.target + l.dzUp < p.pos) ||
          decide ((sps s).ucmDist < (p.pos - g.posAt).natAbs))

/-- The core's checks of a held car: unintended movement, overspeed, terminal curve. -/
def coreCar (c : Nat) (s : State) : State :=
  let id := (s.car c).id
  let a := if coreUcm s c then carFault 1 37 id [id] s else s
  let b := if coreFast a c then carFault 1 36 id [id] a else a
  if coreTerminal b c then carFault 1 39 id [id] b else b

/-! ### Permissions granted (11 R368) -/

/-- The landing whose permission car c has: position in its door zone, speed at most V_DZ. -/
def grantLanding (s : State) (c : Nat) : Option Nat :=
  let p := corePos s c
  if slowCar s c then
    ((safeLandings s).find? (fun q =>
      decide (q.1.target - q.1.dzDn ≤ p.pos) && decide (p.pos ≤ q.1.target + q.1.dzUp))).map (fun q => q.2)
  else none

/-- The permission of car c follows its position. -/
def grantCar (c : Nat) (s : State) : State :=
  let set (g : Grant) := { s with saf := { s.saf with grants := smPut s.saf.grants c g } }
  match grantLanding s c, grantOf s c with
  | some l, some g => if g.on && g.landing == l then s else set ⟨l, (corePos s c).pos, true⟩
  | some l, none => set ⟨l, (corePos s c).pos, true⟩
  | none, some g => if g.on then set { g with on := false } else s
  | none, none => s

/-- The core's evaluation of a period once every return is in. -/
def coreChecks (s : State) : State :=
  if isSection s && !s.saf.coreDown then
    let t := corePairsTake s
    let a := t.forL (heldCars t) coreTake
    let b := a.forL (heldCars a) coreCar
    (silentCheck (rocheCheck b)).forL (heldCars b) grantCar
  else s

/-! ### The returns (02 R47, R51; 13 R420 to R422) -/

/-- Both paths take what a port's return brought; the last port's return of the period completes their checks. -/
def linkTaps (p : Nat) (s : State) : State :=
  let a := nodeLines p (s.forL (portChans s p) eclTake)
  let b := sparesCheck a
  if windowReady b then safRefresh (coreChecks (eclChecks b)) else b

/-- RETURN_FRAME_RECEIVED (13 R422). -/
def execReturnFrameReceived (port : Fin 8) (f : RetFrame) (s : State) : Host.Outcome State Fault Refusal :=
  .next (if awaiting s port.val then linkTaps port.val (frameReturn port.val f s) else s)

/-- RETURN_DEADLINE (13 R420). -/
def execReturnDeadline (port : Fin 8) (s : State) : Host.Outcome State Fault Refusal :=
  .next (if awaiting s port.val then linkTaps port.val (frameDeadline port.val s) else s)

end Sys2Proof.Machine
end

