-- ==== Sys2Proof/Machine/FabLinks.lean ====
section
/-!
DEFINITION. Spine ports and the landing bus (17): link changes, cable tests, wake pulses, the key store, admitted nodes and
strangers, and the loss of PLCA.
-/

namespace Sys2Proof.Machine

open Sys2Proof

/-! ### Spine ports (R524 to R533) -/

/-- What the model keeps of spine port p. -/
def spinePort (s : State) (p : Nat) : SpinePort := smGet SpinePort.init s.fab.spine p

/-- Spine port changed. -/
def modSpine (p : Nat) (f : SpinePort → SpinePort) (s : State) : State :=
  { s with fab := { s.fab with spine := smMod SpinePort.init s.fab.spine p f } }

/-- Modes a port advertises, or the one it is forced to: ALLOW less those removed by downshift (R525 to R527). -/
def advertised (s : State) (p : Nat) : Nat :=
  if s.flag (F.FAB_SP_CFG.FORCE p) then s.get (F.FAB_SP_CFG.ALLOW p)
  else s.get (F.FAB_SP_CFG.ALLOW p) - Nat.land (s.get (F.FAB_SP_CFG.ALLOW p)) (s.get (F.FAB_SP_STAT.DS_MASK p))

/-- STATE of a port that seeks its link: training when forced, else negotiating. -/
def seekState (s : State) (p : Nat) : Nat := if s.flag (F.FAB_SP_CFG.FORCE p) then 2 else 1

/-- An enabled port starts to seek its link; a disabled one is off. -/
def spineEnable (p : Nat) (s : State) : State :=
  if s.flag (F.FAB_SP_CFG.EN p) && s.awake then
    if s.get (F.FAB_SP_STAT.STATE p) = 0 then s.put (F.FAB_SP_STAT.STATE p) (seekState s p) else s
  else (s.put (F.FAB_SP_STAT.STATE p) 0).put (F.FAB_SP_STAT.MODE p) 0

/-- The link of port p comes up at mode m (0 10BASE-T1L, 1 100BASE-T1, 2 1000BASE-T1), one it advertises; the device announces
itself there (R525, R526; 18 R556). -/
def linkUp (p m sqi : Nat) (s : State) : State :=
  if s.awake && s.flag (F.FAB_SP_CFG.EN p) && !spineUp s p && !(spinePort s p).test && (advertised s p).testBit m then
    let t := ((s.put (F.FAB_SP_STAT.STATE p) 3).put (F.FAB_SP_STAT.MODE p) (m + 1)).put (F.FAB_SP_STAT.SQI p) sqi
    announceOn p (t.evBit F.FAB_LINK_EVENT.UP p)
  else s

/-- SPINE_LINK_UP (R525). -/
def execSpineLinkUp (port : Fin 4) (mode : Fin 3) (sqi : Fin 8) (s : State) : Host.Outcome State Fault Refusal :=
  .next (linkUp port.val mode.val sqi.val s)

/-- A third drop of one mode within 10 s removes it, unless it is the last (R527). -/
def downshift (p m : Nat) (s : State) : State :=
  let drops := (s.tb.tick, m) :: (spinePort s p).drops.filter (fun d => decide (s.tb.tick ≤ d.1 + ticksOf 10))
  let others := drops.filter (fun d => d.2 != m)
  let t := modSpine p (fun x => { x with drops := drops }) s
  if others.length + 3 ≤ drops.length ∧ s.flag (F.FAB_SP_CFG.DS_EN p) ∧ advertised s p ≠ 2 ^ m then
    record 9 p 0x20 (items [p, m])
      (((modSpine p (fun x => { x with drops := others }) t).put (F.FAB_SP_STAT.DS_MASK p)
        (setBitN (t.get (F.FAB_SP_STAT.DS_MASK p)) m true)).ev F.FAB_LINK_EVENT.DOWNSHIFT)
  else t

/-- The link of port p goes down: queued frames go, the drop counts, the port seeks its link again (R528). -/
def linkDown (p : Nat) (s : State) : State :=
  if spineUp s p then
    let m := s.get (F.FAB_SP_STAT.MODE p) - 1
    let t := forgetAnn p { s with tx := s.tx.filter (fun f => f.port != p) }
    let u := ((t.put (F.FAB_SP_STAT.MODE p) 0).put (F.FAB_SP_STAT.SQI p) 0).incSat (F.FAB_SP_STAT.DROPS p)
    let v := downshift p m (u.evBit F.FAB_LINK_EVENT.DOWN p)
    v.put (F.FAB_SP_STAT.STATE p) (seekState v p)
  else s

/-- SPINE_LINK_DOWN (R528). -/
def execSpineLinkDown (port : Fin 4) (s : State) : Host.Outcome State Fault Refusal := .next (linkDown port.val s)

/-- A wake pulse leaves the port. -/
def pulseOut (p : Nat) (s : State) : State := 
  { s with tx := s.tx ++ [{ port := p, src := 0, dst := 0, epoch := 0, hops := 0, bcast := false, seq := 0, body := .wakePulse }] }

/-- A FAB_SPp_CMD write: 1 a wake pulse and 2 a cable test, both ignored with CMD_REJ on a link that is up; 3 restores the modes
that downshift removed (R527, R531, R532). -/
def spCmdOp (p : Nat) (v : Word) (s : State) : State :=
  match getF (F.FAB_SP_CMD.OP p).bits v with
  | 1 =>
    if spineUp s p then s.ev F.FAB_LINK_EVENT.CMD_REJ
    else if (spinePort s p).test then modSpine p (fun x => { x with pulses := x.pulses + 1 }) s
    else pulseOut p s
  | 2 => if spineUp s p then s.ev F.FAB_LINK_EVENT.CMD_REJ else modSpine p (fun x => { x with test := true }) s
  | 3 => modSpine p (fun x => { x with drops := [] }) (s.put (F.FAB_SP_STAT.DS_MASK p) 0)
  | _ => s

/-- A FAB_SPp_CMD row: the write whose OP is that row's. -/
def spRow (core : Sender) (p op : Nat) (v : Word) (s : State) : State :=
  writeCmd core (Reg.FAB_SP_CMD p) (fun t => if getF (F.FAB_SP_CMD.OP p).bits v = op then spCmdOp p v t else t) s

/-- WAKE_PULSE (R532). -/
def execWakePulse (core : Sender) (port : Fin 4) (val : Word) (s : State) : Host.Outcome State Fault Refusal :=
  .next (spRow core port.val 1 val s)
/-- CABLE_TEST (R531). -/
def execCableTest (core : Sender) (port : Fin 4) (val : Word) (s : State) : Host.Outcome State Fault Refusal :=
  .next (spRow core port.val 2 val s)
/-- RESTORE_DOWNSHIFTED_MODES (R527). -/
def execRestoreDownshiftedModes (core : Sender) (port : Fin 4) (val : Word) (s : State) : Host.Outcome State Fault Refusal :=
  .next (spRow core port.val 3 val s)

/-- A cable test ends with its result; each wake pulse requested meanwhile is sent (R531). -/
def testDone (p result dist : Nat) (s : State) : State :=
  let x := spinePort s p
  if x.test && s.awake then
    let t := (s.result (Reg.FAB_SP_TEST p) (result % 4 * 2 ^ 28 + (if result % 4 = 0 then 0 else dist % 2 ^ 12))).ev
      F.FAB_LINK_EVENT.NEW
    (modSpine p (fun y => { y with test := false, pulses := 0 }) t).forN x.pulses (fun _ u => pulseOut p u)
  else s

/-- CABLE_TEST_DONE (R531). -/
def execCableTestDone (port : Fin 4) (result : Fin 4) (dist : Nat) (s : State) : Host.Outcome State Fault Refusal :=
  .next (testDone port.val result.val dist s)

/-! ### The key store (R535) -/

/-- Offset of the key store in the MRAM (04 Table 4.4). -/
def keyStore : Nat := 0x4000
/-- Number of key slots. -/
def keySlots : Nat := 3072

/-- FAB_KEY_LOAD in Watch, Standby and Commissioning: 16 bytes from the SRAM enter a slot. -/
def keyLoadOp (v : Word) (s : State) : State :=
  let t := keepVal Reg.FAB_KEY_LOAD v s
  let slot := getF F.FAB_KEY_LOAD.SLOT.bits v
  let src := getF F.FAB_KEY_LOAD.SRC.bits v * 16
  if slot < keySlots ∧ (s.mode = .watch ∨ s.mode = .standby ∨ s.mode = .commissioning) then
    mramPut (keyStore + 16 * slot) (bytesAt s.sram src 16) t
  else t

/-- FAB_KEY_LOAD (R535). -/
def execFabKeyLoad (core : Sender) (cpl : Word) (s : State) : Host.Outcome State Fault Refusal :=
  .next (cplWrite core Reg.FAB_KEY_LOAD cpl keyLoadOp s)

/-! ### The landing bus (R537 to R544) -/

/-- What the model keeps of landing-bus port q. -/
def lbPort (s : State) (q : Nat) : LbPort := smGet LbPort.init s.fab.lbs q

/-- Landing-bus port changed. -/
def modLb (q : Nat) (f : LbPort → LbPort) (s : State) : State :=
  { s with fab := { s.fab with lbs := smMod LbPort.init s.fab.lbs q f } }

/-- STATE of port q: 0 off, 1 PLCA coordinator, 2 CSMA/CD. -/
def lbState (s : State) (q : Nat) : Nat := s.get (F.FAB_LB_STAT.STATE q)

/-- MAC address of node n's entry. -/
def admMac (s : State) (q n : Nat) : Nat := (s.reg (Reg.FAB_LB_ADM_LO q n)).toNat + s.get (F.FAB_LB_ADM_HI.MACH q n) * 2 ^ 32

/-- Node n of port q is admitted (R539). -/
def admitted (s : State) (q n : Nat) : Bool := decide (1 ≤ n) && decide (n ≤ 31) && s.flag (F.FAB_LB_ADM_HI.EN q n)

/-- The node count: the highest admitted ID + 1 (Table 17.3). -/
def nodeCount (s : State) (q : Nat) : Nat := ((List.range 32).filter (admitted s q)).foldl (fun m n => max m (n + 1)) 1

/-- An enabled port is the PLCA coordinator with its node count; a disabled one is off. A UG6 application allows a new first
stranger record (R539). -/
def lbEnable (q : Nat) (s : State) : State :=
  if s.flag (F.FAB_LB_CFG.EN q) && s.awake then
    let t := if lbState s q = 0 then modLb q (fun _ => LbPort.init) (s.put (F.FAB_LB_STAT.STATE q) 1) else s
    modLb q (fun x => { x with strange := none }) (t.put (F.FAB_LB_STAT.NCOUNT q) (nodeCount t q))
  else modLb q (fun _ => LbPort.init) ((s.put (F.FAB_LB_STAT.STATE q) 0).put (F.FAB_LB_STAT.NCOUNT q) 0)

/-- A stranger frame: dropped, counted, shown, and recorded once a minute at most (R539). -/
def strangerSeen (q id mac : Nat) (s : State) : State :=
  let t := (s.incSat (F.FAB_LB_CNT.STRANGER q)).evBit F.FAB_LINK_EVENT.STRANGER q
  let u := t.resultPair (Reg.FAB_LB_STR_LO q) (mac % 2 ^ 48 + id % 32 * 2 ^ 48)
  let due := match (lbPort s q).strange with
    | some t0 => decide (t0 + ticksOf 60 ≤ s.tb.tick)
    | none => true
  if due then record 9 q 0x21 (items [q, id, mac % 2 ^ 32, mac / 2 ^ 32 % 2 ^ 16]) (modLb q (fun x => { x with strange := some s.tb.tick }) u)
  else u

/-- The node whose opportunity a frame used: that of its sender's entry in CSMA/CD (R542). -/
def lbOwner (s : State) (q : Nat) (f : LbFrame) : Option Nat :=
  if lbState s q = 2 then (List.range 32).find? (fun n => admitted s q n && admMac s q n == f.mac)
  else if admitted s q f.id && admMac s q f.id == f.mac then some f.id else none

/-- A frame on port q: a stranger's is dropped; an admitted node's goes to firmware, an interlock telegram to both paths too
(R539, R541; 18 R551). -/
def lbFrame (q : Nat) (f : LbFrame) (s : State) : State :=
  if s.awake && lbState s q != 0 then
    match lbOwner s q f with
    | none => strangerSeen q (if lbState s q = 2 then 0 else f.id) f.mac s
    | some _ =>
      let t := toApp q f.payload s
      if f.ver == 1 && f.type == 0x20 then ilkOp q f.payload t else t
  else s

/-- LB_FRAME_RECEIVED (R539, R541). -/
def execLbFrameReceived (port : Fin 2) (f : LbFrame) (s : State) : Host.Outcome State Fault Refusal :=
  .next (lbFrame port.val f s)

/-- Port q loses PLCA (cause 1 a foreign beacon, 2 collisions) and waits in CSMA/CD; 10 s if it resumed within the last 10 s
(R542, R543). -/
def plcaLost (q cause : Nat) (s : State) : State :=
  let again := match (lbPort s q).back with
    | some t => decide (s.tb.tick ≤ t + ticksOf 10)
    | none => false
  let t := (s.put (F.FAB_LB_STAT.STATE q) 2).evBit F.FAB_LINK_EVENT.PLCA_LOST q
  record 9 q 0x22 (items [q, cause])
    (modLb q (fun x => { x with colls := 0, csma := some s.tb.tick, wait := if again then 10 else 1 }) t)

/-- A physical collision in PLCA cycle `cycle` of port q; 16 consecutive cycles with one lose PLCA (R542, R544). -/
def collision (q cycle : Nat) (s : State) : State :=
  if s.awake && lbState s q != 0 then
    let t := s.incSat (F.FAB_LB_CNT.COLL q)
    if lbState s q = 1 then
      let x := lbPort s q
      let n := if x.colls = 0 then 1 else if cycle = x.cycle then x.colls else if cycle = x.cycle + 1 then x.colls + 1 else 1
      let u := modLb q (fun y => { y with colls := n, cycle := cycle }) t
      if 16 ≤ n then plcaLost q 2 u else u
    else t
  else s

/-- LB_COLLISION (R542, R544). -/
def execLbCollision (port : Fin 2) (cycle : Nat) (s : State) : Host.Outcome State Fault Refusal :=
  .next (collision port.val cycle s)

/-- A beacon the port did not send: PLCA is lost, or the wait in CSMA/CD starts again (R542, R543). -/
def foreignBeacon (q : Nat) (s : State) : State :=
  if s.awake && lbState s q == 1 then plcaLost q 1 s
  else if s.awake && lbState s q == 2 then modLb q (fun x => { x with csma := some s.tb.tick }) s
  else s

/-- FOREIGN_BEACON (R542). -/
def execForeignBeacon (port : Fin 2) (s : State) : Host.Outcome State Fault Refusal := .next (foreignBeacon port.val s)

/-- The wait has passed without a foreign beacon: PLCA again (R543). -/
def plcaResume (q : Nat) (s : State) : State :=
  match (lbPort s q).csma with
  | some t =>
    if s.awake ∧ lbState s q = 2 ∧ t + ticksOf (lbPort s q).wait ≤ s.tb.tick then
      modLb q (fun x => { x with colls := 0, csma := none, back := some s.tb.tick })
        ((s.put (F.FAB_LB_STAT.STATE q) 1).evBit F.FAB_LINK_EVENT.PLCA_BACK q)
    else s
  | none => s

/-- PLCA_RESUME (R543). -/
def execPlcaResume (port : Fin 2) (s : State) : Host.Outcome State Fault Refusal := .next (plcaResume port.val s)

end Sys2Proof.Machine
end

