-- ==== Sys2Proof/Machine/FabNet.lean ====
section
/-!
DEFINITION. The network of the fabric (18 R555 to R575): announcements and heartbeats received, peers, closures, and the release of a
Fenced device.
-/

namespace Sys2Proof.Machine

open Sys2Proof

/-! ### Announcements received (R555 to R557) -/

/-- What a source has announced by a frame: its ports at the epoch in force, and since when in Service. `moved`: the epoch in force
has just moved on. -/
def learnOne (s : State) (h : Hdr) (p : AnnouncePl) (moved : Bool) : Learned :=
  let old := learnedOf s h.src
  let ports := if moved then [] else (old.map (fun l => l.ports)).getD []
  { ann := p
    ports := smPut ports h.port.val s.tb.tick
    service := if p.mode = 3 then (old.bind (fun l => l.service)).or (some s.tb.tick) else none }

/-- A section this device held closed for a source opens at its announcement (R572, R575). -/
def reopenFor (id : Nat) (s : State) : State :=
  if s.fab.closedFor.contains id then
    { s with fab := { s.fab with closedFor := s.fab.closedFor.erase id } }.ev F.FAB_NET_EVENT.CLOSED
  else s

/-- The CLOSED flag of a source changes: the event, and R574 where it closes. -/
def closedChange (id : Nat) (was now : Bool) (s : State) : State :=
  if was == now then s
  else
    let t := s.ev F.FAB_NET_EVENT.CLOSED
    if now then sectionClosed id t else t

/-- A duplicate of the own identity: another SERIAL at the own ID and epoch (R557); a standby with its marker set is in the race of
R567. -/
def isDuplicate (s : State) (h : Hdr) (p : AnnouncePl) : Bool :=
  h.src == s.myId && h.epoch == s.nv.lc.epoch && p.serial != s.nv.serial && s.nv.lc.take.isNone

/-- The duplicate's SERIAL is shown and the device is fenced (R557). -/
def duplicate (h : Hdr) (p : AnnouncePl) (s : State) : State :=
  fence h.epoch h.src ((s.resultPair Reg.FAB_DUP_LO (p.serial % 2 ^ 48)).ev F.FAB_NET_EVENT.NEW)

/-- An accepted ANNOUNCE. `moved`: its epoch was newer than the one in force before. -/
def announceOp (moved : Bool) (h : Hdr) (p : AnnouncePl) (s : State) : State :=
  if isDuplicate s h p then duplicate h p s
  else
    let was := (learnedOf s h.src).any (fun l => l.ann.flags.testBit 0)
    let t := { s with
      fab := { s.fab with
        learned := smPut s.fab.learned h.src (learnOne s h p moved)
        macs := smPut s.fab.macs h.port.val h.mac }
      nbTs := smPut s.nbTs h.src p.tsNs }
    closedChange h.src was (p.flags.testBit 0) (reopenFor h.src t)

/-- The frame's epoch is newer than the one in force for its source. -/
def epochMoves (s : State) (h : Hdr) : Bool :=
  match epochFor s h.src with
  | some e => newerEpoch h.epoch e
  | none => false

/-- ANNOUNCE (R555 to R557): it acts where it is accepted, on whatever group's spine. -/
def execAnnounce (h : Hdr) (p : AnnouncePl) (s : State) : Host.Outcome State Fault Refusal :=
  .next (
    let m := epochMoves s h
    receive 1 h (.announce p) (announceOp m h p) s)

/-! ### Heartbeats and peers (R558 to R560) -/

/-- State of watched peer i. -/
def peerOf (s : State) (i : Nat) : PeerSt := smGet PeerSt.init s.fab.peers i

/-- Peer changed. -/
def modPeer (i : Nat) (f : PeerSt → PeerSt) (s : State) : State :=
  { s with fab := { s.fab with peers := smMod PeerSt.init s.fab.peers i f } }

/-- Peer entry i watches this ID. -/
def watches (s : State) (i id : Nat) : Bool := s.flag (F.FAB_PEER_CFG.EN i) && s.get (F.FAB_PEER_CFG.ID i) == id

/-- A heartbeat of watched peer i: it is ALIVE, PEER_BACK tells of a DEAD one (R559, R560). -/
def peerBeat (i id : Nat) (s : State) : State :=
  if watches s i id then
    let dead := (peerOf s i).st == 2
    let t := modPeer i (fun x => { x with st := 1, last := s.tb.tick }) s
    if dead then reopenFor id (t.ev F.FAB_NET_EVENT.PEER_BACK) else t
  else s

/-- An accepted HEARTBEAT; its CLOSED flag takes effect like an announced one. -/
def heartbeatOp (h : Hdr) (p : HeartbeatPl) (s : State) : State :=
  let t := s.forN 32 (fun i u => peerBeat i h.src u)
  match learnedOf t h.src with
  | none => t
  | some l =>
    let fl := l.ann.flags - b2n (l.ann.flags.testBit 0) + b2n (p.flags.testBit 0)
    closedChange h.src (l.ann.flags.testBit 0) (p.flags.testBit 0)
      { t with fab := { t.fab with learned := smPut t.fab.learned h.src { l with ann := { l.ann with flags := fl } } } }

/-- HEARTBEAT (R559, R560). -/
def execHeartbeat (h : Hdr) (p : HeartbeatPl) (s : State) : Host.Outcome State Fault Refusal :=
  .next (receive 2 h (.heartbeat p) (heartbeatOp h p) s)

/-- 30 ms without a heartbeat: an ALIVE peer is DEAD (R559); entries held for its cars stay (R571). -/
def peerDead (i : Nat) (s : State) : State :=
  let x := peerOf s i
  if s.awake ∧ s.flag (F.FAB_PEER_CFG.EN i) ∧ x.st = 1 ∧ x.last + 3750000 ≤ s.tb.tick then
    let id := s.get (F.FAB_PEER_CFG.ID i)
    let e := (epochFor s id).getD 0
    let t := modPeer i (fun y => { y with st := 2, dead := s.tb.tick, epochAt := e, seen := false }) s
    record 9 i 0x23 (items [id, e])
      ((mapRes (fun r => if r.owner == id && !r.loc then { r with orphan := true } else r) t).ev F.FAB_NET_EVENT.PEER_DEAD)
  else s

/-- PEER_DEAD (R559). -/
def execPeerDead (peer : Fin 32) (s : State) : Host.Outcome State Fault Refusal := .next (peerDead peer.val s)

/-- A peer has been DEAD for TAKE_MAX without an announcement of its ID at a newer epoch: its section is held closed (R572, R574). -/
def takeMax (i : Nat) (s : State) : State :=
  let x := peerOf s i
  let id := s.get (F.FAB_PEER_CFG.ID i)
  let newer := match learnedOf s id, epochFor s id with
    | some _, some e => newerEpoch e x.epochAt
    | _, _ => false
  if s.awake ∧ x.st = 2 ∧ x.dead + s.get F.FAB_NET_CFG.TAKE_MAX * 12500000 ≤ s.tb.tick ∧ newer = false ∧
      s.fab.closedFor.contains id = false then
    sectionClosed id
      ({ s with fab := { s.fab with closedFor := s.fab.closedFor ++ [id] } }.ev F.FAB_NET_EVENT.CLOSED)
  else s

/-- TAKE_MAX_EXPIRY (R572). -/
def execTakeMaxExpiry (peer : Fin 32) (s : State) : Host.Outcome State Fault Refusal := .next (takeMax peer.val s)

/-! ### Network commands (R564, R570, R575; Table 18.5) -/

/-- The outcome of a network command: 1 FAB_SEC_CMD, 2 FAB_STBY_CMD, 3 FAB_FENCE_CMD. -/
def netOutcome (cmd code : Nat) (s : State) : State :=
  let t := (s.put F.FAB_NET_CMD_STAT.CMD cmd).put F.FAB_NET_CMD_STAT.CODE code
  if code = 0 then t else t.ev F.FAB_NET_EVENT.CMD_REJ

/-- FAB_SEC_CMD: 1 closes the own section, 2 reopens it (R572, R575). -/
def secCmdOp (v : Word) (s : State) : State :=
  let t := keepVal Reg.FAB_SEC_CMD v s
  match getF F.FAB_SEC_CMD.OP.bits v with
  | 1 =>
    if isSection s then
      let was := ownClosed t
      let u := { t with fab := { t.fab with closeCmd := true } }
      netOutcome 1 0 (if was then u else closeOwn u)
    else netOutcome 1 3 t
  | 2 =>
    if !isSection s || spareGone s then netOutcome 1 3 t
    else if s.mode = .watch ∨ s.mode = .standby ∨ s.mode = .commissioning then
      let u := { t with fab := { t.fab with closeCmd := false, spares := false } }
      netOutcome 1 0 (if ownClosed s then announceAll (u.ev F.FAB_NET_EVENT.CLOSED) else u)
    else netOutcome 1 4 t
  | _ => netOutcome 1 6 t

/-- SECTION_CLOSE: the FAB_SEC_CMD write with OP = 1 (R572). -/
def execSectionClose (core : Sender) (cpl : Word) (s : State) : Host.Outcome State Fault Refusal :=
  .next (if cplIs F.FAB_SEC_CMD.OP 1 cpl then cplWrite core Reg.FAB_SEC_CMD cpl secCmdOp s else s)

/-- SECTION_REOPEN: the FAB_SEC_CMD write with OP = 2 (R575). -/
def execSectionReopen (core : Sender) (cpl : Word) (s : State) : Host.Outcome State Fault Refusal :=
  .next (if cplIs F.FAB_SEC_CMD.OP 2 cpl then cplWrite core Reg.FAB_SEC_CMD cpl secCmdOp s else s)

/-- The commissioning key input is active. -/
def keyOn (s : State) : Bool := pathIn s 0 (sps s).key

/-- The acting ID has been heard within the last 60 s (R564). -/
def ownHeardLately (s : State) : Bool :=
  match s.fab.ownHeard with
  | some t => decide (s.tb.tick < t + ticksOf 60)
  | none => false

/-- The newest epoch heard for the acting ID, the one that fenced the device among them (R564). -/
def newestOwn (s : State) : Nat :=
  let a := if newerEpoch s.fab.newer s.nv.lc.epoch then s.fab.newer else s.nv.lc.epoch
  match s.fab.ownNewest with
  | some e => if newerEpoch e a then e else a
  | none => a

/-- FAB_FENCE_CMD: OP 1 releases the Fenced device (R564). -/
def fenceCmdOp (core : Sender) (v : Word) (s : State) : State :=
  let t := keepVal Reg.FAB_FENCE_CMD v s
  if core.val ≠ 4 then netOutcome 3 1 t
  else if keyOn s = false then netOutcome 3 2 t
  else if s.nv.lc.fenced = false then netOutcome 3 3 t
  else if ownHeardLately s then netOutcome 3 5 t
  else if getF F.FAB_FENCE_CMD.OP.bits v ≠ 1 then netOutcome 3 6 t
  else
    netOutcome 3 0 (announceAll { t with nv := { t.nv with lc := { t.nv.lc with
      epoch := (newestOwn t + 1) % 2 ^ 16, actId := t.nv.lc.fabricId, fenced := false } } })

/-- FENCE_RELEASE (R564). -/
def execFenceRelease (core : Sender) (cpl : Word) (s : State) : Host.Outcome State Fault Refusal :=
  .next (cplWrite core Reg.FAB_FENCE_CMD cpl (fenceCmdOp core) s)

/-! ### TAKEOVER received (R566, R567) -/

/-- The take-over is abandoned: marker, changeover output and acting ID as they were (R567). -/
def abandonTake (s : State) : State :=
  match s.nv.lc.take with
  | none => s
  | some m =>
    announceAll { s with
      nv := { s.nv with lc := { s.nv.lc with take := none, chgOut := none, actId := s.nv.lc.fabricId, epoch := m.own } }
      fab := { s.fab with taking := none } }

/-- An accepted TAKEOVER: watched peers of that ID have been taken; a standby in the same race gives way to the lower provisioned
ID (R566, R567). -/
def takeoverOp (p : TakeoverPl) (s : State) : State :=
  let t := noteSeen p.id (s.ev F.FAB_NET_EVENT.TAKEOVER)
  match t.nv.lc.take with
  | some m => if m.id = p.id ∧ m.epoch = p.epoch ∧ p.own < t.nv.lc.fabricId then abandonTake t else t
  | none => t

/-- TAKEOVER (R567). -/
def execTakeover (h : Hdr) (p : TakeoverPl) (s : State) : Host.Outcome State Fault Refusal :=
  .next (receive 11 h (.takeover p) (takeoverOp p) s)

/-! ### Register views -/

/-- FAB_ID. -/
def fabIdWord (s : State) : Word := wd (s.nv.lc.fabricId % 2 ^ 14 * 2 ^ 16 + s.nv.lc.actId % 2 ^ 14)
/-- FAB_EPOCH. -/
def fabEpochWord (s : State) : Word := wd (s.nv.lc.epoch % 2 ^ 16)

/-- FAB_NET_STAT. -/
def netStatWord (s : State) : Word :=
  wd (b2n s.nv.lc.fenced * 2 ^ 31 + b2n s.fab.settle.isSome * 2 ^ 30 + b2n (ownClosed s) * 2 ^ 29 +
    (if s.fab.spares then 1 else if s.fab.closeCmd then 2 else 0) * 2 ^ 27 + b2n s.fab.taking.isSome * 2 ^ 26)

/-- FAB_PEERi_STAT. -/
def peerStatWord (s : State) (i : Nat) : Word :=
  let id := s.get (F.FAB_PEER_CFG.ID i)
  if s.flag (F.FAB_PEER_CFG.EN i) then
    wd ((peerOf s i).st % 4 * 2 ^ 30 + b2n (closedDev s id) * 2 ^ 29 + (epochFor s id).getD 0 % 2 ^ 16)
  else 0

/-- FAB_MRTm: a learned route shows its port. -/
def mrtWord (s : State) (m : Nat) (w : Word) : Word :=
  if getF (F.FAB_MRT.AUTO m).bits w = 1 then
    match learnedPort s m with
    | some p => wd (2 ^ 31 + 2 ^ 30 + p)
    | none => wd (2 ^ 30)
  else w

end Sys2Proof.Machine
end

