-- ==== Sys2Proof/Machine/Messages.lean ====
section
/-!
DEFINITION. The frames of shares and owner hand-overs (02 R33, R49, R647; 07 R226 to R232): what a device does with each.
-/

namespace Sys2Proof.Machine

open Sys2Proof

/-- SHARE (02 R33, R49). -/
def execShare (h : Hdr) (p : SharePl) (s : State) : Host.Outcome State Fault Refusal :=
  .next (receive 3 h (.share p) (shareOp h.src p) s)

/-- SEGSTAT (02 R647). -/
def execSegstat (h : Hdr) (p : SegstatPl) (s : State) : Host.Outcome State Fault Refusal :=
  .next (receive 15 h (.segstat p) (segstatOp h.src p) s)

/-- An output of period t has missed its deadline: phase A of period t + 1 has begun (07 R228). -/
def hoOutLate (s : State) (t : Nat) : Bool := s.tide.stage != .link && decide (t < s.tb.k)

/-- HO_OUT: the other device's output of a period, kept while its hand-over runs if it comes in time (07 R228). -/
def hoOutOp (src : Nat) (p : HoOutPl) (s : State) : State :=
  if hoOutLate s p.period then s
  else match carById s p.car with
  | none => s
  | some c =>
    s.modCar c (fun r => { r with ho := r.ho.map (fun x =>
      if x.nb = src then
        { x with recv := (x.recv.filter (fun e => decide (p.period < e.1 + 4) && e.1 != p.period)) ++
          [(p.period, sgn 32 (uns 32 p.u))] }
      else x) })

/-- HO_OUT (07 R228). -/
def execHoOut (h : Hdr) (p : HoOutPl) (s : State) : Host.Outcome State Fault Refusal :=
  .next (receive 5 h (.hoOut p) (hoOutOp h.src p) s)

/-- Whether an offered move can be taken: its span is in this device's TST with the same check value (07 R227). -/
def offerSpanOk (s : State) (p : OfferPl) : Bool :=
  p.move.count == 0 || spanCrc s p.move.first p.move.count == p.move.check

/-- The axis state of a code. -/
def axisOfCode : Nat → AxisSt
  | 1 => .running
  | 2 => .stopping
  | 3 => .stopped
  | 4 => .aborting
  | _ => .idle

/-- The move of an offered record (08 Table 8.5); a car with no move offers none, and a HOMING move goes on as kind NORMAL
(08 R267). -/
def moveOf (s : State) (m : MoveRec) : Option Move :=
  if m.count = 0 then none
  else
    let arg : MoveArg := ⟨m.first, m.count, m.dir, if m.kind = 1 then 0 else m.kind, m.id, true, m.vPeak, m.check⟩
    some ⟨arg, m.start, m.start + dirSign m.dir * lastPos s m.first m.count, m.tau, m.ov, m.ovTgt, m.ovPrev, m.aCap, m.jCap,
      m.rampP, m.rampV, m.rampA, if m.rampV < 0 then -1 else 1, false⟩

/-- The set-point of the period an offered record comes from, as the record gives it (08 R246, R259, R265): position, speed and
acceleration. -/
def recordPoint (s : State) (m : Move) (st : AxisSt) : Int × Int × Int :=
  match st with
  | .stopping | .aborting => (m.start + (m.rampP + 512) / 1024, (m.rampV + 512) / 1024, m.rampA)
  | _ =>
    match locate (spanRows s m.arg.first m.arg.count) 0 0 m.tau with
    | some v => setPoint m.start (dirSign m.arg.dir) m.ov m.ovPrev s.tsNs v
    | none => (m.target, 0, 0)

/-- An axis takes an offered record: the set-points of a move in motion follow from the record; else the held position is set
from the measured one (07 R227; 08 R239). -/
def takeMove (s : State) (m : MoveRec) (a : Axis) : Axis :=
  match moveOf s m with
  | none => { a with st := .idle, mv := none, evs := [], seed := true }
  | some v =>
    let p := recordPoint s v (axisOfCode m.state)
    { a with st := axisOfCode m.state, mv := some v, evs := [], seed := true, spPos := p.1, spVel := p.2.1, spAcc := p.2.2 }

/-- The record an offer enters: the one held for the car, or a free one. -/
def offerRecord (s : State) (car : Nat) : Option Nat :=
  (carById s car).or ((List.range 8).find? (fun c =>
    !(s.car c).held && (s.car c).relK != some s.tb.k && (ctrlSlot s 1 c).isSome))

/-- The period an offer starts its hand-over in: the present one once its split is due, else the last (07 R226; log entry 57). -/
def offerPeriod (s : State) : Nat := if s.tide.stage = .link then s.tb.k - 1 else s.tb.k

/-- An accepted OFFER (07 R227): car data, context and move enter, and the incoming law runs from the next period. -/
def offerTake (src c g : Nat) (p : OfferPl) (s : State) : State :=
  let ho : HandOver := ⟨.ownerIn, .comparing, src, offerPeriod s, g, g, 0, 0, hoL s false, [], false, false⟩
  let t := s.modCar c (fun r =>
    { r with held := true, id := p.car, mass := p.mass, arrOfs := p.arrOfs, arrLen := p.arrLen, ownerId := src, ho := some ho,
             hoFailed := false, relK := none, cameFrom := none, retTo := none })
  let u := (putCtx g p.ctx t).modAxis c (takeMove s p.move)
  if (s.car c).held then u else coreSeed c (u.axis c).spPos 0 u

/-- OFFER: accepted with SYNC, before the compute window's stage 4 or after the split, for a car with an enabled car slot and an
equal span and a mass of 01 Table 1.1; the device does not own the car (07 R226, R227, R235; log entry 92). -/
def offerOp (src : Nat) (p : OfferPl) (s : State) : State :=
  if isSection s && s.servoOn && s.flag F.TIM_STAT.SYNC && s.tide.stage != .phaseA && offerSpanOk s p && inR 1 65535 p.mass then
    match offerRecord s p.car with
    | none => s
    | some c =>
      match ctrlSlot s 1 c with
      | none => s
      | some g => if (s.car c).owner || (s.car c).ho.isSome then s else idleRestart (offerTake src c g p s)
  else s

/-- OFFER (07 R227). -/
def execOffer (h : Hdr) (p : OfferPl) (s : State) : Host.Outcome State Fault Refusal :=
  .next (receive 4 h (.offer p) (offerOp h.src p) s)

/-- A claim still counts: it comes before the split of period k + N_HO + 2 (07 R232). -/
def claimInTime (s : State) (x : HandOver) : Bool :=
  let last := x.k0 + hoN s false + 2
  decide (s.tb.k < last) || (decide (s.tb.k = last) && s.tide.stage != .phaseB)

/-- CLAIM: the outgoing owner learns the hand-over instant; the shares that come with it are stamped two periods on; entry and
queue change sides (07 R229 to R231; 12 R399). -/
def claimOp (src : Nat) (p : ClaimPl) (s : State) : State :=
  match carById s p.car with
  | none => s
  | some c =>
    match (s.car c).ho with
    | none => s
    | some x =>
      if x.kind == .ownerOut && x.nb == src && !x.claimed && claimInTime s x then
        let t := s.modCar c (fun r => { r with ho := some { x with claimed := true, h := p.period, stage := .blending } })
        let u := t.forL p.entries (keepShare src p.car (p.period + 2))
        sendStopq c src (claimEntry c false src u)
      else s

/-- CLAIM (07 R229). -/
def execClaim (h : Hdr) (p : ClaimPl) (s : State) : Host.Outcome State Fault Refusal :=
  .next (receive 6 h (.claim p) (claimOp h.src p) s)

/-- HO_FAIL: the incoming owner's hand-over ends: at once while it compares, else ownership goes back before its next split, also
where its blend has ended (07 R232). -/
def hoFailOp (src : Nat) (s : State) (p : HoFailPl) : State :=
  match carById s p.car with
  | none => s
  | some c =>
    match (s.car c).ho with
    | none =>
      if (s.car c).owner && (s.car c).cameFrom == some src then s.modCar c (fun r => { r with retTo := some src }) else s
    | some x =>
      if x.kind == .ownerIn && x.nb == src then
        if x.stage == .blending then s.modCar c (fun r => { r with ho := some { x with back := true } })
        else hoFailCar c s
      else s

/-- HO_FAIL (07 R232). -/
def execHoFail (h : Hdr) (p : HoFailPl) (s : State) : Host.Outcome State Fault Refusal :=
  .next (receive 7 h (.hoFail p) (fun t => hoFailOp h.src t p) s)

end Sys2Proof.Machine
end

