-- ==== Sys2Proof/Machine/SafCmd.lean ====
section
/-!
DEFINITION. Failures of the safety pair, the deliberate reset, diagnostics, proof tests, clocks, and ECC errors (03 R91, R92; 15 R469,
R476 to R484, Table 15.4).
-/

namespace Sys2Proof.Machine

open Sys2Proof

/-! ### Failures of a path and of a clock (R91, R92, R469) -/

/-- The lockstep comparator's error line: the core is halted, the Eclipse logic forces Lock-out. -/
def lockstepError (s : State) : State :=
  if s.awake then safRefresh (safFault 2 3 0 { s with saf := { s.saf with coreDown := true } }) else s

/-- SAFETY_CORE_LOCKSTEP_ERROR (R469). -/
def execSafetyCoreLockstepError (s : State) : Host.Outcome State Fault Refusal := .next (lockstepError s)

/-- An Eclipse self-test has completed: ECL_OK tells the last result; a failure makes the core force Lock-out. -/
def eclipseTest (pass : Bool) (s : State) : State :=
  if s.awake then
    let t := { s with saf := { s.saf with eclFail := !pass } }
    if pass || t.saf.coreDown then t else safRefresh (safFault 1 4 0 t)
  else s

/-- ECLIPSE_SELFTEST (R469). -/
def execEclipseSelftest (pass : Bool) (s : State) : Host.Outcome State Fault Refusal := .next (eclipseTest pass s)

/-- A clock is more than 5 % off: 0 the safety-core clock, 1 the 25 MHz reference (both seen by the Eclipse logic), 2 the Eclipse
clock, 3 the 32.768 kHz clock (both seen by the core); the last bars Dormant (R91, R92). -/
def clockFault (clock : Nat) (s : State) : State :=
  if s.awake then
    let t := { s.ev F.PCM_EVENT.CLK_FAULT with
      saf := { s.saf with clkBad := true }
      pw := { s.pw with bar := s.pw.bar || clock == 3 } }
    safFault (if clock < 2 then 2 else 1) 5 0 t
  else s

/-- CLOCK_CROSS_MONITOR_FAULT (R91). -/
def execClockCrossMonitorFault (clock : Fin 4) (s : State) : Host.Outcome State Fault Refusal := .next (clockFault clock.val s)

/-! ### The deliberate reset (R476 to R480) -/

/-- The channels of a pair or node that raised a discrepancy fault still disagree. -/
def stillApart (c : Bool × Bool) (x : PairSt) : Bool := x.need == 3 && c.1 != c.2

/-- The cause of a fault of safety output n can still be seen on a path: off, it reads high after STUCK_ON or CROSS, or its switch is
still hot. -/
def outPersists (s : State) (path n : Nat) : Bool :=
  let o := outSt s n
  safeOut s n && (((o.stuck == 4 || o.stuck == 5) && (tapOf s path (n / 8)).rb.testBit (n % 8)) || (o.c1 && o.hot))

/-- A fault whose cause persists, as a path knows it: the other path or a clock is down, the tap of a group is still stale (class 17),
the contacts of a discrepancy fault still disagree, a safety output's fault can still be seen, or a group whose UV led to Lock-out is
still in UV (log entry 58). -/
def faultPersists (s : State) (path : Nat) : Bool :=
  s.saf.coreDown || s.saf.eclFail || s.saf.clkBad ||
    (List.range 5).any (fun g => decide (4 ≤ (tapOf s path g).stale)) ||
    (pairsIx s).any (fun q => stillApart (pathIn s path q.1.a, pathIn s path q.1.b) (pairSt s path q.2)) ||
    (safeNodes s).any (fun q => stillApart (nodeContacts s path q) (nodeOf s path q.1 q.2).pair) ||
    (List.range 32).any (outPersists s path) ||
    (List.range 4).any (fun g => (tapOf s path g).uv && (s.die g).uvSafe)

/-- The readback of every STO line, as a path sees it, matches its de-energised command. -/
def linesQuiet (s : State) (path : Nat) : Bool := (tapOf s path 4).rb == 0

/-- Every field group is in LINK state 1. -/
def groupsUp (s : State) : Bool := (List.range 5).all (fun g => s.get (F.FIO_GRP_STAT.LINK g) == 1)

/-- The code a path refuses a reset request with, 0 if it accepts; `key`: the guarded command, which needs the key input on the
path's own tap (R478). -/
def pathCode (s : State) (path : Nat) (key : Bool) : Nat :=
  if faultPersists s path || !linesQuiet s path || !groupsUp s then 1
  else if key && !pathNamed s path (some (sps s).key) then 4
  else 0

/-- The code of a refusal, none where both paths accept (Table 15.3; log entry 58). -/
def resetCode (s : State) (key : Bool) : Option Nat :=
  if s.mode ≠ .lockout then some 7
  else if s.nv.lc.fenced then some 2
  else
    match pathCode s 0 key, pathCode s 1 key with
    | 0, 0 => none
    | 0, _ | _, 0 => some 6
    | c, _ => some c

/-- The latch of a safety output is cleared (R457, R460, R479). -/
def clearSafeOut (n : Nat) (s : State) : State :=
  if safeOut s n then modOut n (fun o => { o with c1 := false, c2 := false, stuck := 0, partner := 0 }) s else s

/-- A discrepancy fault has had its deliberate reset (R491). -/
def pairReset (x : PairSt) : PairSt := if x.need = 3 then { x with need := 2 } else x

/-- An accepted deliberate reset (R479): flag, SAF_FAULT and latches cleared, discrepancy faults have had their reset (R491); Watch
follows, and a request that waits for an evaluation is not taken (03 R68). -/
def resetAccepted (s0 : State) : State :=
  let s := reqDrop s0
  let a := { s with nv := { s.nv with lc := { s.nv.lc with lockout := false } } }
  let b := a.setReg Reg.SAF_FAULT (a.reg Reg.SAF_FAULT &&& wd (3 * 2 ^ 30))
  let c := { b with
    saf := { b.saf with
      trip := 0
      stops := []
      latched := false
      pairs := b.saf.pairs.map (fun (e : Nat × PairSt) => (e.1, pairReset e.2))
      nodes := b.saf.nodes.map (fun (e : Nat × IlkNode) => (e.1, { e.2 with pair := pairReset e.2.pair })) }
    pw := { b.pw with delReset := true, trans := some .watch, trigger := 10 } }
  let d := (c.forN 32 clearSafeOut).ev F.SAF_EVENT.RESET_DONE
  pairsFollow (recordSafety 0 0x12 (items [(d.reg Reg.SAF_RESET_STAT).toNat]) d)

/-- A reset request of a source: accepted or refused. -/
def resetRequest (src : Nat) (key : Bool) (early : Option Nat) (s : State) : State :=
  let t := s.put F.SAF_RESET_STAT.SRC src
  match early with
  | some c => resetRefused c t
  | none =>
    match resetCode t key with
    | some c => resetRefused c t
    | none => safRefresh (resetAccepted t)

/-- A completed hold of the reset pair (R476): 0.5 s to 5.0 s, else code 3. -/
def resetPair (s : State) : State :=
  match s.saf.rstHold with
  | none => s
  | some ns =>
    let t := { s with saf := { s.saf with rstHold := none } }
    if s.awake then resetRequest 1 false (if 500000000 ≤ ns ∧ ns ≤ 5000000000 then none else some 3) t else t

/-- RESET_PAIR (R476). -/
def execResetPair (s : State) : Host.Outcome State Fault Refusal := .next (resetPair s)

/-- SAF_RESET_CMD: from Benrex Studio with CODE 0x5E7A, else code 5 (R476). -/
def resetCmdOp (core : Sender) (v : Word) (s : State) : State :=
  let t := keepVal Reg.SAF_RESET_CMD v s
  resetRequest 2 true (if core.val = 4 ∧ getF F.SAF_RESET_CMD.CODE.bits v = 0x5E7A then none else some 5) t

/-- SAF_RESET_CMD (R478). -/
def execSafResetCmd (core : Sender) (cpl : Word) (s : State) : Host.Outcome State Fault Refusal :=
  .next (cplWrite core Reg.SAF_RESET_CMD cpl (resetCmdOp core) s)

/-! ### Diagnostics and the proof test (R482, R483) -/

/-- SAF_PROOF_LO and _HI. -/
def proofSet (sec : Nat) (s : State) : State :=
  (s.setReg Reg.SAF_PROOF_LO (lo32 sec)).setReg Reg.SAF_PROOF_HI (wd (sec / 2 ^ 32 % 2 ^ 16))

/-- SAF_DIAG_CMD: 1 suspends, 2 resumes, 3 confirms the proof test; 0 is ignored. -/
def diagOp (core : Sender) (v : Word) (s : State) : State :=
  let t := keepVal Reg.SAF_DIAG_CMD v s
  match getF F.SAF_DIAG_CMD.OP.bits v with
  | 1 => if core.val = 4 ∧ s.mode = .commissioning ∧ keyOn s = true then t.ev F.SAF_STAT.DIAG_SUSP else t
  | 2 => t.put F.SAF_STAT.DIAG_SUSP 0
  | 3 =>
    (proofSet s.tb.sec { t with nv := { t.nv with lc := { t.nv.lc with proof := s.tb.sec } } }).put F.SAF_STAT.PROOF_DUE 0
  | _ => s

/-- A SAF_DIAG_CMD row: the completing write of its OP. -/
def diagRow (core : Sender) (op : Nat) (cpl : Word) (s : State) : State :=
  if cplIs F.SAF_DIAG_CMD.OP op cpl then cplWrite core Reg.SAF_DIAG_CMD cpl (diagOp core) s else s

/-- DIAG_SUSPEND (R482). -/
def execDiagSuspend (core : Sender) (cpl : Word) (s : State) : Host.Outcome State Fault Refusal := .next (diagRow core 1 cpl s)

/-- DIAG_RESUME (R482). -/
def execDiagResume (core : Sender) (cpl : Word) (s : State) : Host.Outcome State Fault Refusal := .next (diagRow core 2 cpl s)

/-- PROOF_TEST_CONFIRM (R483). -/
def execProofTestConfirm (core : Sender) (cpl : Word) (s : State) : Host.Outcome State Fault Refusal :=
  .next (diagRow core 3 cpl s)

/-- The proof test is overdue: more than 631,152,000 s since the last confirmation, if there was one. -/
def proofOverdue (s : State) : Bool := s.nv.lc.proof != 0 && decide (s.nv.lc.proof + 631152000 < s.tb.sec)

/-- PROOF_DUE (R483). -/
def execProofDue (s : State) : Host.Outcome State Fault Refusal :=
  .next (if s.awake && proofOverdue s then s.ev F.SAF_STAT.PROOF_DUE else s)

/-! ### ECC errors and scrubs (R484, Table 15.4 class 2) -/

/-- An offset lies in an area of the MRAM. -/
def inArea (off base size : Nat) : Bool := decide (base ≤ off) && decide (off < base + size)

/-- A double-bit error at this MRAM offset is a fault: the life-cycle record, a parameter bank in force, or the image region. -/
def mramVital (s : State) (off : Nat) : Bool :=
  inArea off 0x1000 0x1000 || inArea off 0x1000000 0x1000000 ||
    (!s.flag F.CFG_DEFAULT.SPS && inArea off (if s.flag F.CFG_STAT.SPS_BANK then 0x20000 else 0x10000) 0x10000) ||
    (!s.flag F.CFG_DEFAULT.OPS && inArea off (if s.flag F.CFG_STAT.OPS_BANK then 0x230000 else 0x30000) 0x200000)

/-- A double-bit error in an SRAM word. -/
def sramDouble (s : State) : State := safRefresh (safFault 1 2 0 s)

/-- A double-bit error at an MRAM offset: Lock-out, or an ECC_DOUBLE record with the address. -/
def mramDouble (off : Nat) (s : State) : State :=
  if mramVital s off then safRefresh (safFault 1 2 0 s) else record 0 0 0x13 (items [mramBase + off]) s

/-- Scrubbing runs: the device is awake and diagnostics are not suspended (R482). -/
def scrubOn (s : State) : Bool := s.awake && !s.flag F.SAF_STAT.DIAG_SUSP

/-- SRAM_SCRUB (R484): single-bit errors are corrected without an effect; `bad`: a double-bit error was found. -/
def execSramScrub (bad : Bool) (s : State) : Host.Outcome State Fault Refusal :=
  .next (if scrubOn s && bad then sramDouble s else s)

/-- MRAM_SCRUB (R484); `bad`: the offset of a double-bit error that was found. -/
def execMramScrub (bad : Option (Fin 0x2000000)) (s : State) : Host.Outcome State Fault Refusal :=
  .next (match bad with
    | some off => if scrubOn s then mramDouble off.val s else s
    | none => s)

/-- A sender's access to an address meets a double-bit error: SRAM gives Lock-out; in the MRAM outside the vital areas the access
ends in an error, so that what the sender's read returns is a free value. -/
def eccAccess (core : Sender) (addr : Nat) (s : State) : State :=
  if canAccess s core then
    if inArea addr mramBase 0x2000000 then
      let d := s.draw
      mramDouble (addr - mramBase) (setRdata core (wd d.1) d.2)
    else if inArea addr sramBase sramSize || inArea addr 0x30000000 0x100000 || inArea addr 0x31000000 0x20000 then
      let d := s.draw
      sramDouble (setRdata core (wd d.1) d.2)
    else s
  else s

/-- ECC_DOUBLE_ON_ACCESS (Table 15.4, class 2). -/
def execEccDoubleOnAccess (core : Sender) (addr : Nat) (s : State) : Host.Outcome State Fault Refusal :=
  .next (eccAccess core addr s)

end Sys2Proof.Machine
end

