-- ==== Sys2Proof/Machine/Update.lean ====
section
/-!
DEFINITION. Update groups (05 R148 to R152): the checks of UG0 to UG7 that the block chapters state, on the registers as they will stand
together, and what an application changes beside the registers.
-/

namespace Sys2Proof.Machine

open Sys2Proof

/-! ### The registers as they will stand (R151) -/

/-- A register belongs to a group of the mask. -/
def inMask (mask a : Nat) : Bool :=
  match regGroup a with
  | some g => mask.testBit g
  | none => false

/-- The values in force once the groups of the mask are applied. -/
def regsAfter (mask : Nat) (s : State) : List (Nat × Word) :=
  (smFilter (inMask mask) s.bus.pend).foldr (fun e m => smSet (wd (regReset e.1)) m e.1 e.2)
    (smFilter (fun a => !inMask mask a) s.bus.regs)

/-- The state with the masked groups' registers applied. -/
def withGroups (mask : Nat) (s : State) : State := { s with bus := { s.bus with regs := regsAfter mask s } }

/-- Every number below n passes. -/
def allN (n : Nat) (p : Nat → Bool) : Bool := (List.range n).all p

/-- No value occurs twice. -/
def distinct (l : List Nat) : Bool := decide l.Nodup

/-! ### UG0 (06 R172; 07 R202 to R206) -/

/-- Engine of slot g. -/
def engOf (g : Nat) : Nat := g / 24

/-- Word i of the header of the program bound to slot g. -/
def hdrWord (t : State) (g i : Nat) : Nat := (codeWord t (engOf g) (t.get (F.TAC_SLOT_CODE.HDR g) + i)).toNat

/-- BUDGET of slot g's header. -/
def hdrBudget (t : State) (g : Nat) : Nat := hdrWord t g 1 % 2 ^ 20
/-- PRIV of slot g's header. -/
def hdrPriv (t : State) (g : Nat) : Nat := hdrWord t g 2 % 2 ^ 16
/-- LEN of slot g's header. -/
def hdrLen (t : State) (g : Nat) : Nat := hdrWord t g 3 % 2 ^ 16

/-- The fields of Table 6.2 hold. -/
def hdrFields (t : State) (g : Nat) : Bool :=
  let h0 := hdrWord t g 0
  h0 / 2 ^ 16 == 0x1D7 && h0 % 2 ^ 8 == 1 && decide (h0 / 2 ^ 8 % 2 ^ 8 < 3) &&
    decide (hdrWord t g 1 < 2 ^ 20) && inR 1 1048575 (hdrBudget t g) &&
    decide (hdrWord t g 2 < 2 ^ 16) && inR 0 14848 (hdrPriv t g) &&
    decide (hdrWord t g 3 < 2 ^ 16) && inR 5 16384 (hdrLen t g)

/-- The header check of R172 for slot g. -/
def slotHeaderOk (t : State) (g : Nat) : Bool :=
  hdrFields t g && decide (t.get (F.TAC_SLOT_CODE.HDR g) + hdrLen t g ≤ tideWords) &&
    hdrWord t g 0 / 2 ^ 8 % 2 ^ 8 == slotKind t g && decide (hdrPriv t g ≤ t.get (F.TAC_SLOT_PRIV.LEN g)) &&
    (slotKind t g != 2 || (chanEn t (slotBind t g) && chanType t (slotBind t g) != 3)) &&
    (slotKind t g != 1 || isSection t)

/-- Kind, phase and binding of slot g are one of the combinations of R202. -/
def slotKindOk (t : State) (g : Nat) : Bool :=
  match slotKind t g with
  | 0 => decide (slotPhase t g < 3) && slotBind t g == 0
  | 1 => slotPhase t g == 0 && decide (slotBind t g < 8)
  | 2 => slotPhase t g == 1
  | _ => false

/-- At most two enabled slots carry slot g's binding (R203). -/
def slotShareOk (t : State) (g : Nat) : Bool :=
  slotKind t g == 0 || decide ((slotsOf t (slotKind t g) (slotBind t g)).length ≤ 2)

/-- First word and length of slot g's private area. -/
def privArea (t : State) (g : Nat) : Nat × Nat := (t.get (F.TAC_SLOT_PRIV.BASE g), t.get (F.TAC_SLOT_PRIV.LEN g))

/-- Two areas of data words overlap. -/
def areasMeet (a b : Nat × Nat) : Bool := decide (a.1 < b.1 + b.2) && decide (b.1 < a.1 + a.2) && a.2 != 0 && b.2 != 0

/-- Slot g's private area keeps the area rules of R204; an empty area has no word. -/
def slotAreaOk (t : State) (g : Nat) : Bool :=
  let a := privArea t g
  (a.2 == 0 || (decide (0x600 ≤ a.1) && decide (a.1 + a.2 ≤ 0x4000))) &&
    !areasMeet a (t.get (F.TAC_ENG_SHARED.BASE (engOf g)), t.get (F.TAC_ENG_SHARED.LEN (engOf g))) &&
    (enabledSlots t).all (fun x => x == g || engOf x != engOf g || !areasMeet a (privArea t x))

/-- The checks of R204 that concern slot g alone or with another slot. -/
def slotRulesOk (t : State) (g : Nat) : Bool :=
  slotKindOk t g && slotShareOk t g && slotAreaOk t g && t.get (F.TAC_SLOT_LIMIT.N_OVR g) != 0

/-- A_start in ns (R206, 13 R421). -/
def aStart (t : State) : Nat := ((List.range 8).map (dRet t)).foldl max 0 + 6000

/-- Declared time of engine e's slots of a phase, in ns. -/
def declared (t : State) (e phase : Nat) : Nat :=
  (((enabledSlots t).filter (fun g => engOf g == e && slotPhase t g == phase)).map (fun g => (hdrBudget t g + 12) * 2)).sum

/-- SPLIT lies in its range. -/
def splitOk (t : State) : Bool := inR (aStart t) (t.tsNs - 2000) (t.get F.TAC_SPLIT.SPLIT)

/-- The window check of engine e (R206). -/
def windowOk (t : State) (e : Nat) : Bool :=
  let sp := t.get F.TAC_SPLIT.SPLIT
  splitOk t && decide (aStart t + declared t e 0 ≤ sp) && decide (sp + 2000 + declared t e 1 ≤ t.tsNs)

/-- Slot g keeps its enable, kind, binding and program. -/
def slotSame (s t : State) (g : Nat) : Bool :=
  slotEn s g == slotEn t g && slotKind s g == slotKind t g && slotBind s g == slotBind t g &&
    s.get (F.TAC_SLOT_CODE.HDR g) == t.get (F.TAC_SLOT_CODE.HDR g)

/-- The slots of every running control-mode hand-over. -/
def hoSlots (s : State) : List Nat :=
  let f (h : Option HandOver) : List Nat := match h with
    | some x => if x.kind = .carMode ∨ x.kind = .chanMode then [x.outSlot, x.inSlot] else []
    | none => []
  ((List.range 8).flatMap (fun c => f (s.car c).ho)) ++ (List.range 128).flatMap (fun n => f (s.chan n).ho)

/-- The UG0 check. -/
def ug0Ok (s t : State) : Bool :=
  (enabledSlots t).all (fun g => slotHeaderOk t g && slotRulesOk t g) && allN 8 (windowOk t) && (hoSlots s).all (slotSame s t)

/-! ### UG1 (08; 09 R292; 11 R351) -/

/-- Input number 0 to 95, or 127 for none. -/
def inputOr (v : Nat) : Bool := decide (v < 96) || v == 127

/-- Axis n. -/
def axisCfgOk (s t : State) (n : Nat) : Bool :=
  inputOr (t.get (F.TRJ_AXIS_CFG.LIM_HI n)) && inputOr (t.get (F.TRJ_AXIS_CFG.LIM_LO n)) &&
    inR 1 20000000 (t.get (F.TRJ_AXIS_VRATED.V_RATED n)) && inR 1000 50000000 (t.get (F.TRJ_AXIS_ACAP.A_CAP n)) &&
    inR 10000 200000000 (t.get (F.TRJ_AXIS_JCAP.J_CAP n)) &&
    (!t.flag (F.TRJ_AXIS_CFG.SETP_EN n) || isSection t) &&
    (!axisEn t n || (if isSection t then t.get (F.TRJ_AXIS_CFG.BIND n) == 0
      else chanEn t (t.get (F.TRJ_AXIS_CFG.BIND n)) && inR 1 2 (chanType t (t.get (F.TRJ_AXIS_CFG.BIND n))))) &&
    (!(axisEn t n && t.flag (F.TRJ_AXIS_CFG.SETP_EN n)) ||
      chanType t (t.get (F.TRJ_AXIS_CFG.SETP_CH n)) == 3) &&
    !(axisEn s n && !axisEn t n && (inMove (s.axis n) || (match s.trj.chk with
      | some c => c.axis == n
      | none => false)))

/-- Enabled axes that feed a SETP channel name different ones (09 R292). -/
def setpDistinct (t : State) : Bool :=
  distinct (((List.range 8).filter (fun n => axisEn t n && t.flag (F.TRJ_AXIS_CFG.SETP_EN n))).map
    (fun n => t.get (F.TRJ_AXIS_CFG.SETP_CH n)))

/-- Latch unit m. -/
def latCfgOk (t : State) (m : Nat) : Bool :=
  decide (t.get (F.TRJ_LAT_CFG.INPUT m) < 96) && decide (t.get (F.TRJ_LAT_CFG.HOLDOFF m) ≤ 65) &&
    decide (t.get (F.TRJ_LAT_CFG.SOURCE m) < 144)

/-- Compare unit u (08, compares). -/
def cmpCfgOk (t : State) (u : Nat) : Bool :=
  decide (t.get (F.TRJ_CMP_CFG.SOURCE u) < if t.flag (F.TRJ_CMP_CFG.SRC_AXIS u) then 8 else 144) &&
    (!t.flag (F.TRJ_CMP_CFG.OUT_EN u) ||
      (t.get (F.TRJ_CMP_CFG.PULSE u) != 0 && !safeOut t (t.get (F.TRJ_CMP_CFG.OUT_N u))))

/-- A profile span's rows meet the scratch rows at r. -/
def spanMeets (r first count : Nat) : Bool := areasMeet (r, 2) (first, count)

/-- The scratch rows at r meet a profile span of either door (R351). -/
def scratchMeets (t : State) (r : Nat) : Bool :=
  (List.range 2).any (fun d =>
    spanMeets r (t.get (F.TRJ_DOOR_OPEN.FIRST d)) (t.get (F.TRJ_DOOR_OPEN.COUNT d)) ||
    spanMeets r (t.get (F.TRJ_DOOR_CLOSE.FIRST d)) (t.get (F.TRJ_DOOR_CLOSE.COUNT d)) ||
    spanMeets r (t.get (F.TRJ_DOOR_NUDGE.FIRST d)) (t.get (F.TRJ_DOOR_NUDGE.COUNT d)))

/-- In range, or still 0 on a disabled door: the reset value of these fields lies outside their range (log entry 59). -/
def doorR (en : Bool) (lo hi v : Nat) : Bool := inR lo hi v || (!en && v == 0)

/-- Door unit d. -/
def doorCfgOk (t : State) (d : Nat) : Bool :=
  let en := t.flag (F.TRJ_DOOR_CFG.EN d)
  let buz := t.get (F.TRJ_DOOR_CFG.BUZ_OUT d)
  (!en || isCar t) && inputOr (t.get (F.TRJ_DOOR_CFG.LC_IN d)) && (decide (buz < 32) || buz == 127) &&
    doorR en 10000 2000000 (t.get (F.TRJ_DOOR_GEOM.WIDTH d)) && decide (t.get (F.TRJ_DOOR_SCR.S d) ≤ 8190) &&
    doorR en 1000 1000000 (t.get (F.TRJ_DOOR_MASS.M d)) && doorR en 1 1000000 (t.get (F.TRJ_DOOR_KF.KF d)) &&
    inR 1 150 (t.get (F.TRJ_DOOR_FCAP.F_CAP d)) && inR 1 150 (t.get (F.TRJ_DOOR_FCAP.F_OBS d)) &&
    decide (t.get (F.TRJ_DOOR_FCAP.F_OBS d) ≤ t.get (F.TRJ_DOOR_FCAP.F_CAP d)) &&
    inR 1 255 (t.get (F.TRJ_DOOR_FCAP.T_FOBS d)) && inR 100 10000 (t.get (F.TRJ_DOOR_ECAP.E_CLOSE d)) &&
    inR 100 4000 (t.get (F.TRJ_DOOR_ECAP.E_NUDGE d)) && inR 1 100 (t.get (F.TRJ_DOOR_DEF.DEF_PCT d)) &&
    inR 1 255 (t.get (F.TRJ_DOOR_DEF.T_DEF d)) && inR 1000 1000000 (t.get (F.TRJ_DOOR_GENV.GEN_V d)) &&
    inR 10000 10000000 (t.get (F.TRJ_DOOR_GENA.GEN_A d)) && !(en && scratchMeets t (t.get (F.TRJ_DOOR_SCR.S d)))

/-- The UG1 check. -/
def ug1Ok (s t : State) : Bool :=
  allN 8 (axisCfgOk s t) && setpDistinct t && allN 16 (latCfgOk t) && allN 32 (cmpCfgOk t) && allN 2 (doorCfgOk t)

/-! ### UG2 (09) -/

/-- Channel n. -/
def cmmCfgOk (t : State) (n : Nat) : Bool :=
  let lam := t.get (F.CMM_CH_LAMBDA.LAMBDA n)
  decide ((t.getS (F.CMM_CH_CFG.LEAD n)).natAbs * 1000 ≤ t.tsNs) && decide (t.get (F.CMM_CH_CFG.FORCE_BAND n) ≤ 4) &&
    (!chanEn t n || (match chanType t n with
      | 0 => lam == t.conf.geom.pitch
      | 1 | 2 => inR 500 200000 lam
      | _ => true))

/-- Threshold set j. -/
def bsetOk (t : State) (j : Nat) : Bool :=
  let a := t.get (F.CMM_BSET_UP1.UP1 j)
  let b := t.get (F.CMM_BSET_UP2.UP2 j)
  let c := t.get (F.CMM_BSET_UP3.UP3 j)
  let h := t.get (F.CMM_BSET_HYST.HYST j)
  decide (a < b) && decide (b < c) && decide (h < a) && decide (h < b - a) && decide (h < c - b)

/-- The UG2 check. -/
def ug2Ok (t : State) : Bool :=
  allN 128 (cmmCfgOk t) && allN 128 (fun n => !chanEn t n || bsetOk t (t.get (F.CMM_CH_CFG.BSET n))) &&
    inR 16384 32767 (t.get F.CMM_CFG.VLIM)

/-! ### UG3 (13; 01 R20) -/

/-- A drive-channel type is valid in the device's role (01 Table 1.3, R20). -/
def typeInRole (t : State) (ty : Nat) : Bool := if isSection t then ty == 0 || ty == 3 else ty == 1 || ty == 2

/-- SAFE_PAT and SAFE of channel n keep R429. -/
def safePatOk (t : State) (n : Nat) : Bool :=
  let p := t.get (F.SLK_CH_CFG.SAFE_PAT n)
  Nat.land p 0xAA == 0 &&
    (match chanType t n with
     | 1 => true
     | 3 => !t.flag (F.SLK_CH_CFG.SAFE n) && p == 0
     | _ => decide (p < 64))

/-- Channel n. -/
def slkCfgOk (t : State) (n : Nat) : Bool :=
  inR 2 64 (t.get (F.SLK_CH_CFG.T_SIL n)) && safePatOk t n &&
    (!chanEn t n || (typeInRole t (chanType t n) && portEn t (portOf n) &&
      decide (ringPos n < t.get (F.SLK_PORT_CFG.N_NODES (portOf n)))))

/-- No enabled port has more than 12 nodes at T_s = 50 us (07 R199). -/
def nodesOk (t : State) : Bool :=
  t.tsNs != 50000 || allN 8 (fun p => !portEn t p || decide (t.get (F.SLK_PORT_CFG.N_NODES p) ≤ 12))

/-- The UG3 check. -/
def ug3Ok (t : State) : Bool := allN 128 (slkCfgOk t) && nodesOk t

/-! ### UG4 (10 R340) -/

/-- Length of the segment that channel n drives. -/
def segLenOf (t : State) (n : Nat) : Option Nat := (t.conf.geom.segs.find? (fun r => r.chan == n)).map (fun r => r.len)

/-- A configured pair's sensor lies on its segment. -/
def sensOk (t : State) (n k : Nat) : Bool :=
  match segLenOf t n with
  | some len => decide ((t.reg (if k = 0 then Reg.FBK_CH_SENS0 n else Reg.FBK_CH_SENS1 n)).toNat < len)
  | none => true

/-- SCALE of channel n: a link or analog channel's lies in its range, an enabled link channel's is LAMBDA; an enabled serial channel has
an LSB unless its port is KSP only. -/
def scaleOk (t : State) (n : Nat) : Bool :=
  let v := (t.reg (Reg.FBK_CH_SCALE n)).toNat
  if n < 136 then inR 1 1000000 v && (decide (128 ≤ n) || !fbEn t n || v == t.get (F.CMM_CH_LAMBDA.LAMBDA n))
  else !fbEn t n || t.get (F.FBK_PORT_CFG.MODE (n - 136)) == 1 || inR 1 65535 v

/-- Speed set j. -/
def spdOk (t : State) (j : Nat) : Bool := inR 1 255 (t.get (F.FBK_SPD_OBS.T_ZERO j)) && inR 10 2000 (t.get (F.FBK_SPD_OBS.BW j))

/-- Feedback channel n. -/
def fbkCfgOk (t : State) (n : Nat) : Bool :=
  decide (t.get (F.FBK_CH_CFG.PAIRS n) < 3) && scaleOk t n && (decide (128 ≤ n) || (pairsOf t n).all (sensOk t n)) &&
    (!fbEn t n ||
      decide (t.get (F.FBK_SPD_LO.V_LO (t.get (F.FBK_CH_CFG.SPD n))) < t.get (F.FBK_SPD_HI.V_HI (t.get (F.FBK_CH_CFG.SPD n)))))

/-- Serial port p. -/
def portCfgOk (t : State) (p : Nat) : Bool :=
  decide (t.get (F.FBK_PORT_CFG.MODE p) < 3) && decide (t.get (F.FBK_PORT_CFG.RATE_MAX p) ≤ 4) &&
    decide (t.get (F.FBK_PORT_SSI.CLK p) ≤ 4) && decide (t.get (F.FBK_PORT_SSI.PAR p) < 2) &&
    decide (t.get (F.FBK_PORT_SSI.ERRB p) ≤ 2) && inR 8 40 (t.get (F.FBK_PORT_SSI.NBITS p)) &&
    inR 10 100 (t.get (F.FBK_PORT_SSI.TM p))

/-- Emulation output e. -/
def emuCfgOk (t : State) (e : Nat) : Bool :=
  decide (t.get (F.FBK_EMU_CFG.SRC e) < 144) && t.get (F.FBK_EMU_CFG.LPM e) != 0 && t.get (F.FBK_EMU_Z.ZLINES e) != 0

/-- The roped source (R306). -/
def ropedCfgOk (t : State) : Bool :=
  let n := t.get F.FBK_ROPED.SRC
  !t.flag F.FBK_ROPED.EN ||
    (inR 136 143 n && (t.get (F.FBK_PORT_CFG.MODE (n - 136)) == 1 || (t.reg (Reg.FBK_CH_SCALE n)).toNat == 1000))

/-- The UG4 check. -/
def ug4Ok (t : State) : Bool :=
  allN 144 (fbkCfgOk t) && allN 4 (spdOk t) && allN 8 (portCfgOk t) && allN 4 (emuCfgOk t) && ropedCfgOk t

/-! ### UG5 (14) -/

/-- The UG5 check. -/
def ug5Ok (t : State) : Bool :=
  allN 4 (fun g => inR 1 100 (t.get (F.FIO_GRP_CFG.TIMEOUT g)) &&
    allN 8 (fun b => !((t.get (F.FIO_GRP_CFG.SAFE_PAT g)).testBit b && safeOut t (8 * g + b)))) &&
  allN 16 (fun f => decide (t.get (F.FIO_FIN_CFG.EDGE f) < 3) && inR 1 1000 (t.get (F.FIO_FIN_CFG.GATE f)))

/-! ### UG6 (17, 18) -/

/-- Spine port p. -/
def spineCfgOk (t : State) (p : Nat) : Bool :=
  let allow := t.get (F.FAB_SP_CFG.ALLOW p)
  (!t.flag (F.FAB_SP_CFG.EN p) || allow != 0) && (!t.flag (F.FAB_SP_CFG.FORCE p) || popcount 3 allow == 1) &&
    (!t.flag (F.FAB_SP_MSEC.EN p) || t.flag (F.FAB_SP_TXSA.EN p)) &&
    !(t.flag (F.FAB_SP_RXSA0.EN p) && t.flag (F.FAB_SP_RXSA1.EN p) && t.get (F.FAB_SP_RXSA0.AN p) == t.get (F.FAB_SP_RXSA1.AN p))

/-- Admitted nodes of landing-bus port q. -/
def admittedNodes (t : State) (q : Nat) : List Nat := (List.range 32).filter (admitted t q)

/-- Landing-bus port q (R539, R540). -/
def lbCfgOk (t : State) (q : Nat) : Bool :=
  inR 20 255 (t.get (F.FAB_LB_CFG.TO_TIMER q)) && distinct ((admittedNodes t q).map (admMac t q)) &&
    decide (((List.range (nodeCount t q)).filter (fun n => n != 0 && !admitted t q n)).length ≤ 1)

/-- The interlock sources the enabled landings name, by side. -/
def ilkSources (t : State) : List Word :=
  (landings t).flatMap (fun l => [t.reg (Reg.BSS_LAND_W5 l), t.reg (Reg.BSS_LAND_W6 l)].filter (fun w => ilkKind w != 0))

/-- Watched peers, covers and their changeover outputs (18). -/
def netCfgOk (t : State) : Bool :=
  allN 32 (fun i => !t.flag (F.FAB_PEER_CFG.EN i) || t.get (F.FAB_PEER_CFG.ID i) / 256 == t.myId / 256) &&
    allN 3 (fun j => !t.flag (F.FAB_COVER.EN j) || (isSection t && !safeOut t (t.get (F.FAB_COVER.CHG_OUT j)))) &&
    distinct (((List.range 3).filter (fun j => t.flag (F.FAB_COVER.EN j))).map (fun j => t.get (F.FAB_COVER.ID j)))

/-- The UG6 check. -/
def ug6Ok (t : State) : Bool :=
  allN 4 (spineCfgOk t) && allN 2 (lbCfgOk t) && netCfgOk t &&
    (ilkSources t).all (fun w => ilkKind w != 2 || admitted t (ilkNode w).1 (ilkNode w).2)

/-! ### UG7 (12; 11 R367) -/

/-- An interlock source word keeps Table 11.7. -/
def ilkWordOk (w : Word) : Bool :=
  let v := w.toNat
  match v / 2 ^ 30 with
  | 0 => v % 2 ^ 30 == 0
  | 1 => v / 2 ^ 14 % 2 ^ 16 == 0 && decide (v / 2 ^ 7 % 2 ^ 7 < 96) && decide (v % 2 ^ 7 < 96)
  | 2 => v / 2 ^ 9 % 2 ^ 21 == 0 && v / 2 ^ 5 % 2 ^ 3 == 0 && v % 2 ^ 5 != 0
  | _ => false

/-- The record of landing l keeps its formats and sides (Table 11.6, R367). -/
def landingOk (t : State) (l : Nat) : Bool :=
  let x := landing t l
  let f := t.reg (Reg.BSS_LAND_W5 l)
  let r := t.reg (Reg.BSS_LAND_W6 l)
  (t.reg (Reg.BSS_LAND_W4 l)).toNat / 2 ^ 16 % 2 ^ 13 == 0 && (t.reg (Reg.BSS_LAND_W7 l)).toNat / 2 ^ 20 == 0 &&
    ilkWordOk f && ilkWordOk r && x.sides != 0 && (!x.sides.testBit 0 || ilkKind f != 0) &&
    (!x.sides.testBit 1 || ilkKind r != 0) && decide (extLo t.conf.geom ≤ x.target) && decide (x.target < extHi t.conf.geom)

/-- Two enabled landings, the lower index first: ascending, with door zones apart. -/
def landingsApart (t : State) : List Nat → Bool
  | a :: b :: r =>
    decide ((landing t a).target < (landing t b).target) &&
      decide ((landing t a).target + (landing t a).dzUp < (landing t b).target - (landing t b).dzDn) && landingsApart t (b :: r)
  | _ => true

/-- The record of landing l as the safety set copies it. -/
def landingCopy (t : State) (l : Nat) : SafeLanding :=
  let x := landing t l
  ⟨x.en, x.target, x.dzDn, x.dzUp, x.sides.testBit 0, x.sides.testBit 1, t.reg (Reg.BSS_LAND_W5 l), t.reg (Reg.BSS_LAND_W6 l)⟩

/-- The record agrees with a safety set's copy; records with EN = 0 are ignored (R366). -/
def landingSame (t : State) (c : SpsContent) (l : Nat) : Bool :=
  match c.landings[l]? with
  | some y => if y.en || (landing t l).en then landingCopy t l == y else true
  | none => !(landing t l).en

/-- The landing table keeps R367 but for the comparison with the safety set. -/
def landingTableOk (t : State) : Bool :=
  (landings t).all (landingOk t) && landingsApart t (landings t) && distinct ((ilkSources t).map (fun w => w.toNat))

/-- The landing table agrees with the safety set. -/
def landingTableSame (t : State) (c : SpsContent) : Bool := allN 64 (landingSame t c)

/-- R390 but for the comparison with the safety set. -/
def shaftOk (t : State) : Bool :=
  !t.flag F.BSS_CFG.EN || (decide (shaftLo t ≤ extLo t.conf.geom) && decide (extHi t.conf.geom ≤ shaftHi t))

/-- The shaft ends agree with the safety set. -/
def shaftSame (t : State) (c : SpsContent) : Bool := !t.flag F.BSS_CFG.EN || (shaftLo t == c.shaftLo && shaftHi t == c.shaftHi)

/-- The limits of formed moves against an enabled axis. -/
def moveLimitsOk (t : State) (n : Nat) : Bool :=
  let v := t.get (F.TRJ_AXIS_VRATED.V_RATED n)
  !axisEn t n ||
    (decide (t.get F.BSS_VMOVE.V_MOVE + 1000 ≤ v) && decide (t.get F.BSS_VRELEV.V_RELEV + 1000 ≤ v) &&
      decide (t.get F.BSS_AMOVE.A_MOVE ≤ t.get (F.TRJ_AXIS_ACAP.A_CAP n)) &&
      decide (t.get F.BSS_JMOVE.J_MOVE ≤ t.get (F.TRJ_AXIS_JCAP.J_CAP n)))

/-- The UG7 check but for the comparisons with the safety set. -/
def ug7Own (t : State) : Bool :=
  (!t.flag F.BSS_CFG.EN || (t.get F.BSS_KF.KF != 0 && t.get F.BSS_PCONT.P_CONT != 0 && t.get F.BSS_CAP.CAP != 0)) &&
    t.get F.BSS_CFG.TST_BASE % 512 == 0 && allN 8 (moveLimitsOk t) && decide (envDn t ≤ 0) && decide (0 ≤ envUp t) &&
    shaftOk t && landingTableOk t

/-- The comparisons of UG7 with a safety set. -/
def ug7Sps (t : State) (c : SpsContent) : Bool :=
  decide (c.dMin ≤ (t.reg Reg.BSS_SEP).toNat) && shaftSame t c && landingTableSame t c

/-- The UG7 check. -/
def ug7Ok (t : State) : Bool := ug7Own t && ug7Sps t (sps t)

/-! ### The request and the cutoff (R149 to R151) -/

/-- The check of group g: `s` as it stands, `t` with the masked groups applied. -/
def groupOk (s t : State) (g : Nat) : Bool :=
  match g with
  | 0 => ug0Ok s t
  | 1 => ug1Ok s t
  | 2 => ug2Ok t
  | 3 => ug3Ok t
  | 4 => ug4Ok t
  | 5 => ug5Ok t
  | 6 => ug6Ok t
  | 7 => ug7Ok t
  | _ => true

/-- Group g may be applied in the present mode (Table 5.2). -/
def groupAllowed (s : State) (g : Nat) : Bool := if g = 5 ∨ g = 6 then s.awake else s.servoOn

/-- Groups of a mask, ascending. -/
def groupsOf (mask : Nat) : List Nat := (List.range 8).filter (fun g => mask.testBit g)

/-- The first failing group of a mask with its code (SYS_UPD_STAT.REJ_CODE). -/
def firstFail (s : State) (mask : Nat) : Option (Nat × Nat) :=
  let t := withGroups mask s
  (groupsOf mask).findSome? (fun g =>
    if !groupAllowed s g then some (g, 2) else if !groupOk s t g then some (g, 1) else none)

/-- SYS_UPDATE: the masked groups are requested; those of one boundary combine (R149, R150). -/
def updateOp (v : Word) (s : State) : State :=
  { s with bus := { s.bus with armed := Nat.lor s.bus.armed (v.toNat % 256) } }

/-- UPDATE_REQUEST (R149). -/
def execUpdateRequest (core : Sender) (val : Word) (s : State) : Host.Outcome State Fault Refusal :=
  .next (writeCmd core Reg.SYS_UPDATE (updateOp val) s)

/-- BUDGET and PRIV of the headers that a check of the enabled slots of `t` reads (06 R172). -/
def headersRead (t : State) (s : State) : State :=
  s.forL (enabledSlots t) (fun g u => u.modSlot g (fun x => { x with nextBudget := hdrBudget t g, nextPriv := hdrPriv t g }))

/-- The cutoff: the combined mask is checked; a failure rejects it, else its groups freeze until the boundary (R151). -/
def updateCutoff (s : State) : State :=
  if s.awake && s.bus.armed != 0 then
    match firstFail s s.bus.armed with
    | some (g, c) =>
      let t := { s with bus := { s.bus with armed := 0 } }
      ((t.put F.SYS_UPD_STAT.REJ_CODE c).put F.SYS_UPD_STAT.REJ_GROUP g).ev F.SYS_EVENT.UPD_REJECT
    | none =>
      let t := { s with bus := { s.bus with frozen := s.bus.armed, armed := 0 } }
      if s.bus.armed.testBit 0 then headersRead (withGroups s.bus.armed s) t else t
  else s

/-- UPDATE_CUTOFF (R151). -/
def execUpdateCutoff (s : State) : Host.Outcome State Fault Refusal := .next (updateCutoff s)

/-! ### What an application changes beside the registers -/

/-- A slot after an application: BUDGET and PRIV as its header check read them (R172). -/
def slotChecked (x : SlotSt) : SlotSt := { x with bad := false, budget := x.nextBudget, priv := x.nextPriv }

/-- Slot g is enabled anew: it was not enabled, or was bound elsewhere. -/
def slotNew (s t : State) (g : Nat) : Bool := !(slotEn s g && slotKind s g == slotKind t g && slotBind s g == slotBind t g)

/-- The law in control of each binding: where a slot is enabled anew, the lower-numbered one; a slot left alone has control
(R203). -/
def controlSlots (s t : State) (u : State) : State :=
  u.forL (enabledSlots t) (fun g v =>
    let mates := slotsOf t (slotKind t g) (slotBind t g)
    let moved := mates.any (slotNew s t)
    let lone := !mates.any (fun x => (s.slot x).inControl)
    v.modSlot g (fun x => { x with
      inControl := if slotKind t g = 0 then false
        else if moved || lone then mates.head? == some g else x.inControl }))

/-- UG0 applied: disabled slots forget their state, enabled ones are checked. -/
def applyUg0 (s t : State) : State :=
  let a := t.forN numSlots (fun g u => if slotEn t g then u.modSlot g slotChecked else u.modSlot g (fun _ => SlotSt.init))
  controlSlots s t a

/-- Axis n comes on or goes off (08 R239, R649). -/
def applyAxis (s t : State) (n : Nat) (u : State) : State :=
  if !axisEn s n && axisEn t n then u.modAxis n (fun a => { a with seed := true })
  else if axisEn s n && !axisEn t n then
    u.modAxis n (fun a => { a with st := .idle, mv := none, queue := [], evs := [] })
  else u

/-- Door unit d comes on in UNREF, or goes off (11 R343). -/
def applyDoor (s t : State) (d : Nat) (u : State) : State :=
  if s.flag (F.TRJ_DOOR_CFG.EN d) == t.flag (F.TRJ_DOOR_CFG.EN d) then u else u.modDoor d (fun _ => Door.init)

/-- UG1 applied. -/
def applyUg1 (s t : State) : State := (t.forN 8 (applyAxis s t)).forN 2 (applyDoor s t)

/-- Channel n comes on afresh, or goes off (09 R276). -/
def applyChan (s t : State) (n : Nat) (u : State) : State :=
  if chanEn s n == chanEn t n then u
  else if chanEn t n then cmmFresh n u
  else
    { (u.modChan n (fun _ => ChanView.init)).modCmm n (fun _ => CmmCh.init) with
      slk := { u.slk with chans := smErase u.slk.chans n, retry := u.slk.retry.erase n } }

/-- Port p comes on with its idle, or goes off (R431). -/
def applyPort (s t : State) (p : Nat) (u : State) : State :=
  if portEn s p == portEn t p then u
  else if portEn t p then (if portPowered u p then portStart p u else u) else portStop p u

/-- UG3 applied. -/
def applyUg3 (s t : State) : State := (t.forN 128 (applyChan s t)).forN 8 (applyPort s t)

/-- Emulation output e comes on at P = 0 (10, FBK_EMUe_CFG.EN). -/
def applyEmu (s t : State) (e : Nat) (u : State) : State :=
  if s.flag (F.FBK_EMU_CFG.EN e) == t.flag (F.FBK_EMU_CFG.EN e) then u else u.modEmu e (fun _ => Emu.init)

/-- UG4 applied. -/
def applyUg4 (s t : State) : State := t.forN 4 (applyEmu s t)

/-- A peer entry that names another peer starts unheard. -/
def applyPeer (s t : State) (i : Nat) (u : State) : State :=
  if s.reg (Reg.FAB_PEER_CFG i) = t.reg (Reg.FAB_PEER_CFG i) then u else modPeer i (fun _ => PeerSt.init) u

/-- A new transmit SA starts its packet numbers at 0 (17 R536; log entry 60). -/
def applySa (s t : State) (p : Nat) (u : State) : State :=
  if s.reg (Reg.FAB_SP_TXSA p) = t.reg (Reg.FAB_SP_TXSA p) then u else u.setReg (Reg.FAB_SP_TXPN p) 0

/-- UG6 applied. -/
def applyUg6 (s t : State) : State :=
  (((t.forN 32 (applyPeer s t)).forN 4 (applySa s t)).forN 4 spineEnable).forN 2 lbEnable

/-- UG7 applied: segment temperatures start when the BSS is enabled (12 R400); disabled, it has no candidate and starts no move (12
R374). -/
def applyUg7 (s t : State) : State :=
  if t.flag F.BSS_CFG.EN then (if s.flag F.BSS_CFG.EN then t else thermalStart t)
  else if s.flag F.BSS_CFG.EN then schedDrop (candDrop t)
  else t

/-- What group g's application changes: `s` as it stood, `t` as it now stands. -/
def applyGroup (s : State) (g : Nat) (t : State) : State :=
  match g with
  | 0 => applyUg0 s t
  | 1 => applyUg1 s t
  | 3 => applyUg3 s t
  | 4 => applyUg4 s t
  | 6 => applyUg6 s t
  | 7 => applyUg7 s t
  | _ => t

/-- Writes held back since the cutoff enter their pending copies (R152). -/
def releaseLate (s : State) : State :=
  let l := s.bus.late
  { s with bus := { s.bus with frozen := 0, late := [] } }.forL l (fun e t =>
    match regGroup e.1 with
    | some g => storePend g e.1 e.2 t
    | none => t)

/-- The frozen groups are applied together at the boundary, and UPD_DONE sets (R151). A mode change since the cutoff that no longer
permits a group rejects the update. -/
def updateApply (s : State) : State :=
  let mask := s.bus.frozen
  if mask = 0 then s
  else
    match (groupsOf mask).find? (fun g => !groupAllowed s g) with
    | some g =>
      releaseLate (((s.put F.SYS_UPD_STAT.REJ_CODE 2).put F.SYS_UPD_STAT.REJ_GROUP g).ev F.SYS_EVENT.UPD_REJECT)
    | none =>
      let t := withGroups mask s
      let u := (groupsOf mask).foldl (fun v g => applyGroup s g v) t
      releaseLate ({ u with bus := { u.bus with dirty := u.bus.dirty - Nat.land u.bus.dirty mask } }.ev F.SYS_EVENT.UPD_DONE)

/-- SYS_UPD_STAT. -/
def updStatWord (s : State) : Word :=
  wd (s.bus.dirty % 256 * 2 ^ 16 + Nat.lor s.bus.armed s.bus.frozen % 256 * 2 ^ 8 + s.get F.SYS_UPD_STAT.REJ_CODE * 2 ^ 4 +
    s.get F.SYS_UPD_STAT.REJ_GROUP)

end Sys2Proof.Machine
end

