-- ==== Sys2Proof/Machine/SetCheck.lean ====
section
/-!
DEFINITION. The checks of a parameter set (04 R112 to R116, R199, R200; 16 R519, R500, R502, R507): a safety set alone, an operational
set alone, and the two against each other.
-/

namespace Sys2Proof.Machine

open Sys2Proof

/-! ### The safety set alone (Table 16.6) -/

/-- Named inputs of a safety set. -/
def namedInputs (c : SpsContent) : List Nat :=
  [c.key, c.keyCf] ++ [c.rstA, c.rstB, c.insp, c.runUp, c.runDn, c.rescueIn].filterMap id

/-- The ranges of an input pair (R488). -/
def spsPairOk (p : SafetyPair) : Bool :=
  decide (p.a < 96) && decide (p.b < 96) && decide (p.filt ≤ 15) && inR 1 1000 p.td && inR 1 10 p.func

/-- An optional input number. -/
def inputOpt (o : Option Nat) : Bool := match o with
  | some n => decide (n < 96)
  | none => true

/-- An optional output number. -/
def outputOpt (o : Option Nat) : Bool := match o with
  | some n => decide (n < 32)
  | none => true

/-- The copy of a landing keeps the ranges of Table 11.6. -/
def safeLandingR (l : SafeLanding) : Bool := !l.en || (inR 1 350000 l.dzDn && inR 1 350000 l.dzUp)

/-- Every field of a safety set lies in its range (code 2). -/
def spsRanges (c : SpsContent) : Bool :=
  decide ((c.neighbours ++ c.sections ++ c.cars).eraseDups.length ≤ 16) && decide (c.pairs.length ≤ 32) && c.pairs.all spsPairOk &&
    (namedInputs c).all (fun n => decide (n < 96)) && c.safeOuts.all (fun e => decide (e.1 < 32)) && inR 100 300 c.tPulse &&
    c.grpTo.length == 4 && c.grpTo.all (inR 1 100) && inR 1 100 c.linkATo && inR 1 100 c.linkBTo &&
    decide (c.landings.length ≤ 64) && c.landings.all safeLandingR && inR 1 800000 c.vDz && inR 1 1000 c.tdLb &&
    decide (c.zones.length ≤ 192) && c.vUp.all (inR 1 20000000) && c.vDn.all (inR 1 20000000) && inR 1 20000000 c.vCarUp &&
    inR 1 20000000 c.vCarDn && inR 1 1000000 c.sigPer && inR 1 65535 c.tapeLsb && outputOpt c.brkA && outputOpt c.brkB &&
    inputOpt c.brkFbA && inputOpt c.brkFbB && inR 50 1000 c.tBrk && inR 1 200000 c.ucmDist

/-- `ceil(V * T_s * 1024 / lambda)` with T_s in seconds (R500). -/
def eclLimit (c : SpsContent) (v : Nat) : Nat := (v * c.tsNs * 1024 + (c.sigPer * 1000000000 - 1)) / (c.sigPer * 1000000000)

/-- The stored step limits follow R500. -/
def eclOk (c : SpsContent) : Bool :=
  c.eclUp == c.vUp.map (eclLimit c) && c.eclDn == c.vDn.map (eclLimit c) && c.eclDz == eclLimit c c.vDz &&
    c.eclInsp == eclLimit c 630000

/-- Number of segments of the set's own geometry. -/
def spsSegs (c : SpsContent) : Nat := c.segEnds.length - 1

/-- Lower end of segment k; its upper end is that of k + 1. -/
def segEnd (c : SpsContent) (k : Nat) : Int := c.segEnds.getD k 0

/-- A speed is no higher than the terminal curve at distance e (R502). -/
def underCurve (c : SpsContent) (e : Int) (v : Nat) : Bool :=
  decide ((v : Int) * v ≤ 2 * (c.aTz : Int) * max 0 (e - c.tzStop))

/-- Segment k keeps the terminal curve at its end nearer the shaft end (R502). -/
def terminalSeg (c : SpsContent) (k : Nat) : Bool :=
  let up := c.shaftHi - segEnd c (k + 1)
  let dn := segEnd c k - c.shaftLo
  (decide ((c.tzLen : Int) < up) || underCurve c up (c.vUp.getD k 0)) &&
    (decide ((c.tzLen : Int) < dn) || underCurve c dn (c.vDn.getD k 0))

/-- Segments from i upward that an array can overlap together with i. -/
def overlapFrom (c : SpsContent) (i : Nat) : Nat :=
  ((List.range (spsSegs c)).filter (fun j => j == i || (decide (i < j) && decide (segEnd c j - segEnd c (i + 1) < c.arrLen)))).length

/-- Number of segments a magnet array can overlap. -/
def overlapMax (c : SpsContent) : Nat := ((List.range (spsSegs c)).map (overlapFrom c)).foldl max 0

/-- RUN_MAX and G_MIN keep R507. -/
def rocheOk (c : SpsContent) : Bool :=
  spsSegs c == 0 ||
    (decide (overlapMax c + 1 ≤ c.runMax) &&
      allN (spsSegs c) (fun k => decide ((c.dMin : Int) ≤ (c.gMin : Int) * (segEnd c (k + 1) - segEnd c k))))

/-- Enabled landings of a set, in order. -/
def enabledLandings (c : SpsContent) : List SafeLanding := c.landings.filter (fun l => l.en)

/-- Ascending, with door zones apart. -/
def safeApart : List SafeLanding → Bool
  | a :: b :: r => decide (a.target < b.target) && decide (a.target + a.dzUp < b.target - b.dzDn) && safeApart (b :: r)
  | _ => true

/-- One enabled landing keeps R367. -/
def safeLandingOk (c : SpsContent) (l : SafeLanding) : Bool :=
  (l.front || l.rear) && ilkWordOk l.ilkF && ilkWordOk l.ilkR && (!l.front || ilkKind l.ilkF != 0) && (!l.rear || ilkKind l.ilkR != 0) &&
    decide (segEnd c 0 ≤ l.target) && decide (l.target < segEnd c (spsSegs c))

/-- The landings of a safety set keep R367 among themselves. -/
def safeLandingsOk (c : SpsContent) : Bool :=
  (enabledLandings c).all (safeLandingOk c) && safeApart (enabledLandings c) &&
    distinct ((enabledLandings c).flatMap (fun l =>
      [l.ilkF, l.ilkR].filterMap (fun w => if ilkKind w != 0 then some w.toNat else none)))

/-- Windows ascend and are disjoint. -/
def zonesOk : List (Int × Int) → Bool
  | a :: b :: r => decide (a.1 ≤ a.2) && decide (a.2 < b.1) && zonesOk (b :: r)
  | [a] => decide (a.1 ≤ a.2)
  | [] => true

/-- The cross-checks of a safety set among its own fields (code 3). -/
def spsOwnOk (c : SpsContent) : Bool :=
  distinct (namedInputs c) && zonesOk c.zones && c.vUp.length == spsSegs c && c.vDn.length == spsSegs c && eclOk c &&
    allN (spsSegs c) (terminalSeg c) && rocheOk c && safeLandingsOk c

/-! ### The operational set alone (R114) -/

/-- The registers a set loads: those of an update group (R77). -/
def loadRegs (o : OpsContent) : List (Nat × Word) :=
  (smFilter (fun a => (regGroup a).isSome) o.regs).foldl
    (fun m e => smSet (wd (regReset e.1)) m e.1 (e.2 &&& wd (regWmask e.1))) []

/-- The machine as a set would leave it, for a role and a safety set. -/
def scratch (s : State) (o : OpsContent) (r : Role) (c : SpsContent) : State :=
  let z := State.reset
  { z with
    bus := { z.bus with regs := loadRegs o }
    nv := s.nv
    conf := { z.conf with role := some r, geom := o.geom, sps := c, tsNs := o.tsNs, ops := o }
    tide := { z.tide with code := o.code, data := o.data } }

/-- T_s is one of Table 7.1. -/
def tsOk (ns : Nat) : Bool := [50000, 62500, 100000, 125000, 250000, 500000].contains ns

/-- A segment length keeps R16. -/
def segLenOk (g : SectionGeom) (r : SegRec) : Bool := r.len % g.pitch == 0 && inR 1 64 (r.len / g.pitch)

/-- R16, R21: lengths, and one SEG3 channel per segment. A set without segments passes, though R13 gives a section 1 to 128: a roped or
standby section device has none, and the spec does not say which sets may hold none. DESIGN CHOICE (log entry 106). -/
def geomOk (t : State) : Bool :=
  let g := t.conf.geom
  g.segs.isEmpty ||
    (inR 10000 200000 g.pitch && decide (g.segs.length ≤ 128) && g.segs.all (segLenOk g) && distinct (g.segs.map (fun r => r.chan)) &&
      g.segs.all (fun r => decide (r.chan < 128) && chanEn t r.chan && chanType t r.chan == 0))

/-- Ranges of loaded fields that no update group's check names. -/
def opsRanges (t : State) : Bool :=
  allN 8 (fun p => inR 1 16 (t.get (F.SLK_PORT_CFG.N_NODES p))) && inR 1 64 (t.get F.TAC_HO_CFG_CAR.N_HO) &&
    inR 1 64 (t.get F.TAC_HO_CFG_CH.N_HO) && inR 1000 20000000 (t.get F.BSS_VMOVE.V_MOVE) &&
    inR 1000 20000000 (t.get F.BSS_VRELEV.V_RELEV) && inR 10000 50000000 (t.get F.BSS_AMOVE.A_MOVE) &&
    inR 10000 200000000 (t.get F.BSS_JMOVE.J_MOVE) && inR 1 65535 (t.get F.BSS_THERM.TAU) && inR 1 65535 (t.get F.BSS_THERM.R_TH) &&
    inR 1 100 (t.get F.BSS_RESCUE.RESCUE_PCT) && inR 1 255 (t.get F.FAB_NET_CFG.TAKE_MAX) &&
    t.get F.FAB_NET_CFG.ETYPE != 0x88F7 &&
    allN 4 (fun p => decide (t.get (F.FAB_SP_TXSA.KEY p) ≤ 3071) && decide (t.get (F.FAB_SP_RXSA0.KEY p) ≤ 3071) &&
      decide (t.get (F.FAB_SP_RXSA1.KEY p) ≤ 3071)) &&
    (landings t).all (fun l => inR 1 350000 (landing t l).dzDn && inR 1 350000 (landing t l).dzUp && inR 1 30000 (landing t l).lev)

/-- Car records name distinct records, with a mass of Table 1.1 (01 R12). -/
def opsCarsOk (o : OpsContent) : Bool :=
  o.cars.all (fun k => decide (k.idx < 8) && inR 1 65535 k.mass) && distinct (o.cars.map (fun k => k.idx))

/-- Every check of R114 of the operational set as the scratch machine t shows it, but for the comparisons with a safety set. -/
def opsAlone (t : State) : Bool :=
  tsOk t.tsNs && geomOk t && opsCarsOk t.conf.ops && opsRanges t && ug1Ok t t && ug2Ok t && ug3Ok t && ug4Ok t && ug5Ok t && ug6Ok t && ug7Own t

/-- The operational set passes the checks for a role; the role-dependent ones among them decide whether an image of that role
fits it (R109). `c`: the safety set, if the comparisons with one are made. -/
def opsForRole (s : State) (o : OpsContent) (r : Role) (c : Option SpsContent) : Bool :=
  let t := scratch s o r (c.getD SpsContent.blank)
  opsAlone t && (match c with
    | some x => ug7Sps t x
    | none => true)

/-! ### The two sets against each other (Table 16.6) -/

/-- Segment ends of a section, the lower end first; none without segments. -/
def geomEnds (g : SectionGeom) : List Int :=
  if g.segs.isEmpty then [] else g.lower :: (ownSegs g).map (fun x => x.hi)

/-- Sensor places of the own segments, two each. -/
def geomSens (t : State) : List Int :=
  t.conf.geom.segs.flatMap (fun r => [t.regS (Reg.FBK_CH_SENS0 r.chan), t.regS (Reg.FBK_CH_SENS1 r.chan)])

/-- What Table 16.6 wants equal in both sets. -/
def setsAgree (s : State) (o : OpsContent) (c : SpsContent) : Bool :=
  let t := scratch s o .sect c
  c.tsNs == o.tsNs && c.envDn == envDn t && c.envUp == envUp t && landingTableSame t c && shaftSame t c &&
    c.segEnds == geomEnds o.geom && (o.geom.segs.isEmpty || c.sigPer == o.geom.pitch) && c.sens == geomSens t &&
    c.mark == t.regS Reg.FBK_MARK && o.cars.all (fun k => k.arrOfs == c.arrOfs && k.arrLen == c.arrLen) &&
    (c.role == .sect || (c.tapeOfs == o.tapeOfs && c.tapeLsb == o.tapeLsb))

/-- An operational set verifies by content: for the role in force, or for some role while the device has none, it passes every check
(R114; 01 R20); with a safety set, the comparisons too. -/
def opsContentOk (s : State) (o : OpsContent) (c : Option SpsContent) : Bool :=
  (match s.conf.role with
   | some r => opsForRole s o r c
   | none => opsForRole s o .sect c || opsForRole s o .car c) && (match c with
    | some x => setsAgree s o x
    | none => true)

/-! ### Banks (R112, R114) -/

/-- Largest SPS bank, in bytes. -/
def spsBankSize : Nat := 0x10000
/-- Largest OPS bank, in bytes. -/
def opsBankSize : Nat := 0x200000

/-- Set kind of a bank image (R112). -/
def bankKind (bs : List Byte) : Nat := leVal (bs.take 4)
/-- Total length in a header. -/
def bankLen (bs : List Byte) : Nat := leVal ((bs.drop 4).take 4)
/-- Generation in a header. -/
def bankGen (bs : List Byte) : Nat := leVal ((bs.drop 8).take 2)
/-- Format in a header. -/
def bankFormat (bs : List Byte) : Nat := leVal ((bs.drop 10).take 2)
/-- Check word in a header. -/
def bankCheck (bs : List Byte) : Word := wd (leVal ((bs.drop 12).take 4))

/-- The check word of a bank is the CRC-32C of the rest of it (R112). -/
def checkOk (bs : List Byte) : Bool := bankCheck bs == crc32c (bs.take 12 ++ bs.drop 16)

/-- A header and payload with the check word between them. -/
def sealBank (hdr pay : List Byte) : List Byte := hdr ++ wordBytes (crc32c (hdr ++ pay)) ++ pay

/-- The image of a bank of this kind with a payload (R112). -/
def bankImage (kind gen : Nat) (pay : List Byte) : List Byte :=
  sealBank (leBytes 4 kind ++ leBytes 4 (16 + pay.length) ++ leBytes 2 gen ++ leBytes 2 3) pay

/-- A bank image with another generation. -/
def withGen (gen : Nat) (bs : List Byte) : List Byte := sealBank (bs.take 8 ++ leBytes 2 gen ++ (bs.drop 10).take 2) (bs.drop 16)

/-- The bytes of the bank image at an address, as many as its header says. -/
def bankAt (m : List (Nat × Byte)) (a room : Nat) : Option (List Byte) :=
  let len := leAt m (a + 4) 4
  if inR 16 room len then some (bytesAt m a len) else none

/-- What a safety-set bank image holds. -/
def readSps (bs : List Byte) : Option SpsBank :=
  (Config.spsContentOf (bs.drop 16)).map (fun c => ⟨bankKind bs, bankLen bs, bankGen bs, bankFormat bs, bankCheck bs, c⟩)

/-- What an operational-set bank image holds. -/
def readOps (bs : List Byte) : Option OpsBank :=
  (Config.opsContentOf (bs.drop 16)).map (fun c => ⟨bankKind bs, bankLen bs, bankGen bs, bankFormat bs, bankCheck bs, c⟩)

/-- A safety-set bank verifies by itself, its check word apart (R114). -/
def spsBankOk (b : SpsBank) : Bool :=
  b.kind == 0x53 && b.format == 3 && inR 16 spsBankSize b.len && spsRanges b.content && spsOwnOk b.content

/-- An operational-set bank verifies, its check word apart; `c`: the safety set chosen. -/
def opsBankOk (s : State) (b : OpsBank) (c : Option SpsContent) : Bool :=
  b.kind == 0x4F && b.format == 3 && inR 16 opsBankSize b.len && opsContentOk s b.content c

/-! ### Selectors (R113) -/

/-- CRC-8 over bytes [31:24], [23:16], [15:8] of a selector. -/
def selectorCrc (gen code : Nat) : Nat :=
  (crc8 [BitVec.ofNat 8 (gen / 256), BitVec.ofNat 8 gen, BitVec.ofNat 8 code]).toNat

/-- A selector word: generation, bank code, CRC-8. -/
def selectorWord (gen : Nat) (toB : Bool) : Nat :=
  let code := if toB then 0xA5 else 0x5A
  gen % 2 ^ 16 * 2 ^ 16 + code * 2 ^ 8 + selectorCrc gen code

/-- The bank and generation a valid selector names. -/
def selectorNames (w : Word) : Option (Bool × Nat) :=
  let gen := w.toNat / 2 ^ 16
  let code := w.toNat / 2 ^ 8 % 2 ^ 8
  if w.toNat % 2 ^ 8 = selectorCrc gen code then
    if code = 0x5A then some (false, gen) else if code = 0xA5 then some (true, gen) else none
  else none

/-- Offset of the SPS selector. -/
def spsSelector : Nat := 0x2000
/-- Offset of the OPS selector. -/
def opsSelector : Nat := 0x2004

/-- MRAM offset of an SPS bank, A or B (Table 4.4). -/
def spsBase (b : Bool) : Nat := if b then 0x20000 else 0x10000
/-- MRAM offset of an OPS bank. -/
def opsBase (b : Bool) : Nat := if b then 0x230000 else 0x30000

/-- Bank A or B of the safety set, with its check word right. -/
def spsBankOf (s : State) (b : Bool) : Option SpsBank := ((bankAt s.nv.mram (spsBase b) spsBankSize).filter checkOk).bind readSps
/-- Bank A or B of the operational set, with its check word right. -/
def opsBankOf (s : State) (b : Bool) : Option OpsBank := ((bankAt s.nv.mram (opsBase b) opsBankSize).filter checkOk).bind readOps

/-- Generation in the header of the bank image at an MRAM offset. -/
def imageGen (s : State) (off : Nat) : Nat := leAt s.nv.mram (off + 8) 2

/-- No image at an MRAM offset verifies: its header reads zero. So stands a bank that is being written (DESIGN CHOICE, log entry 96). -/
def breakSeal (off : Nat) (s : State) : State := mramPut off (List.replicate 16 0) s

/-- The bank and generation a commit writes (R117): that not in force, with the next generation; bank A with 1 while the defaults are
in force. -/
def commitTarget (dflt inB : Bool) (gen : Nat) : Bool × Nat := if dflt then (false, 1) else (!inB, (gen + 1) % 2 ^ 16)

/-- Where an OPS commit goes. -/
def opsTarget (s : State) : Bool × Nat :=
  let b := s.flag F.CFG_STAT.OPS_BANK
  commitTarget (s.flag F.CFG_DEFAULT.OPS) b (imageGen s (opsBase b))

/-- Where an SPS commit goes. -/
def spsTarget (s : State) : Bool × Nat :=
  commitTarget (s.flag F.CFG_DEFAULT.SPS) (s.flag F.CFG_STAT.SPS_BANK) (s.get F.SAF_SPS_GEN.GEN)

/-- The operational set a new safety set is compared with: the one its selector names, committed and waiting for the next start-up or in
force, else the defaults. DEDUCED (log entry 61): R122 leaves a commit uncompared until the start-up that follows it. -/
def opsNamed (s : State) : OpsContent :=
  match selectorNames (mramWord s opsSelector) with
  | some (b, g) =>
    match opsBankOf s b with
    | some x => if x.gen = g ∧ opsBankOk s x none = true then x.content else OpsContent.blank
    | none => OpsContent.blank
  | none => OpsContent.blank

end Sys2Proof.Machine
end

