-- ==== Sys2Proof/Machine/SafSps.lean ====
section
/-!
DEFINITION. Committing the parameter sets: the SPS presented, typed back, confirmed and written (16 R520 to R523; 04 R117 to R121; 18
R565), and the OPS commit (04 R122, R123).
-/

namespace Sys2Proof.Machine

open Sys2Proof

/-! ### SAF_SPS_STAT -/

/-- The image at hand is discarded; `rej`: why (Table 16.7). -/
def spsDiscard (rej : Nat) (s : State) : State :=
  let t := (((s.put F.SAF_SPS_STAT.STATE 0).put F.SAF_SPS_STAT.REJ rej).put F.SAF_SPS_STAT.TRIES 0).setReg Reg.SAF_SPS_CHECK 0
  { t with saf := { t.saf with xfer := none } }

/-- A commit starts. -/
def commitStart (c : Commit) (s : State) : State := { s with conf := { s.conf with commit := some c } }.ev F.CFG_STAT.COMMIT_BUSY

/-- The commit in progress ends. -/
def commitEnd (s : State) : State := { s with conf := { s.conf with commit := none } }.put F.CFG_STAT.COMMIT_BUSY 0

/-- A commit or a wipe is running (R118). -/
def cfgBusy (s : State) : Bool := s.conf.commit.isSome || s.conf.wiping

/-! ### The image (R520) -/

/-- Offset of the shadow of cover slot j in the MRAM: an OPS bank image, then an SPS bank image (18 R565). -/
def shadowBase (j : Nat) : Nat := 0x830000 + j * 0x210000
/-- Room of a shadow. -/
def shadowSize : Nat := 0x210000
/-- Offset of the SPS part of shadow j: where its OPS image ends. -/
def shadowSps (s : State) (j : Nat) : Nat := shadowBase j + leAt s.nv.mram (shadowBase j + 4) 4

/-- The check of a presented set (R519): the code of a failure. A shadow's set serves another device and is checked alone. -/
def spsFault (s : State) (shadow : Bool) (c : SpsContent) : Option Nat :=
  if !spsRanges c then some 2
  else if !spsOwnOk c then some 3
  else if !shadow && !setsAgree s (opsNamed s) c then some 3
  else none

/-- A checked image is presented (R520): its bank image is formed, with the generation the target gives, and its check word shown. -/
def spsPresent (shadow : Option Nat) (gen : Nat) (pay : List Byte) (s : State) : State :=
  let dst := spsTarget s
  let img := bankImage 0x53 (if shadow.isSome then gen else dst.2) pay
  let x : SpsXfer := ⟨img, dst.1, shadow, none, none⟩
  let t := ((s.put F.SAF_SPS_STAT.STATE 2).put F.SAF_SPS_STAT.REJ 0).setReg Reg.SAF_SPS_CHECK (bankCheck img)
  { t with saf := { t.saf with xfer := some x } }

/-- The code a transferred image is refused with: 2 too where the length its header states is not its own (R112), where it is too long for
a bank or where it stands for no set. -/
def spsPayFault (s : State) (shadow : Bool) (len : Nat) (pay : List Byte) : Option Nat :=
  if len ≠ 16 + pay.length ∨ spsBankSize < len then some 2
  else
    match Config.spsContentOf pay with
    | some c => spsFault s shadow c
    | none => some 2

/-- An image from Benrex Studio: `shadow` names a cover slot's shadow as the target (18 R565), `len` and `gen` are the length and the
generation its header states (R112). A running commit is not disturbed. -/
def spsTransfer (shadow : Option Nat) (len gen : Nat) (pay : List Byte) (s : State) : State :=
  if !s.awake || s.get F.SAF_SPS_STAT.STATE == 4 then s
  else
    let t := spsDiscard 0 s
    if s.mode ≠ .commissioning ∨ keyOn s = false then spsDiscard 1 t
    else
      match spsPayFault s shadow.isSome len pay with
      | some r => spsDiscard r t
      | none => spsPresent shadow gen pay t

/-- SPS_IMAGE_TRANSFER (R520). -/
def execSpsImageTransfer (shadow : Option (Fin 3)) (len gen : Nat) (payload : List Byte) (s : State) :
    Host.Outcome State Fault Refusal :=
  .next (spsTransfer (shadow.map (fun j => j.val)) len gen payload s)

/-! ### The confirmation (R521, R522) -/

/-- A confirmation that differs: the third discards the image. -/
def spsDiffers (s : State) : State :=
  let n := s.get F.SAF_SPS_STAT.TRIES
  if n = 2 then spsDiscard 5 s else (s.put F.SAF_SPS_STAT.TRIES (n + 1)).put F.SAF_SPS_STAT.REJ 4

/-- The value typed back. -/
def spsConfirmOp (core : Sender) (v : Word) (s : State) : State :=
  let t := keepVal Reg.SAF_SPS_CONFIRM v s
  if core.val ≠ 4 then t.put F.SAF_SPS_STAT.REJ 7
  else if s.mode ≠ .commissioning ∨ keyOn s = false then t.put F.SAF_SPS_STAT.REJ 1
  else
    match t.saf.xfer with
    | none => t
    | some x =>
      if t.get F.SAF_SPS_STAT.STATE ≠ 2 then t
      else if v = bankCheck x.img then
        let y : SpsXfer := { x with confirmAt := some t.tb.tick, cfFrom := none }
        ({ t with saf := { t.saf with xfer := some y } }.put F.SAF_SPS_STAT.STATE 3).put F.SAF_SPS_STAT.REJ 0
      else spsDiffers t

/-- SPS_CONFIRM (R521). -/
def execSpsConfirm (core : Sender) (cpl : Word) (s : State) : Host.Outcome State Fault Refusal :=
  .next (cplWrite core Reg.SAF_SPS_CONFIRM cpl (spsConfirmOp core) s)

/-- A hold from tick `f` to now is valid: 0.5 to 5 s, begun within 60 s of the confirmation. -/
def holdValid (f c now : Nat) : Bool :=
  decide (f + 62500000 ≤ now) && decide (now ≤ f + ticksOf 5) && decide (f ≤ c + ticksOf 60)

/-- Time 0 of Table 4.5: the inactive bank, or the shadow, is being written. A commit or wipe that already runs refuses it (R118). -/
def spsAccept (x : SpsXfer) (s : State) : State :=
  if cfgBusy s then (spsDiscard 0 s).ev F.CFG_EVENT.REFUSED
  else
    let t := { s with saf := { s.saf with xfer := none } }.put F.SAF_SPS_STAT.STATE 4
    match x.shadow with
    | some j => commitStart (.shadow j x.img) (breakSeal (shadowSps t j) t)
    | none => commitStart (.sps x.img x.toB) (breakSeal (spsBase x.toB) t)

/-- KEY_CF opens: the end of a valid hold accepts the confirmation; another hold may follow one that is not (R522). -/
def keyCfRelease (s : State) : State :=
  if s.awake && s.mode == .commissioning then
    match s.saf.xfer with
    | none => s
    | some x =>
      match x.confirmAt, x.cfFrom with
      | some c, some f =>
        if holdValid f c s.tb.tick then spsAccept x s
        else
          let y : SpsXfer := { x with cfFrom := none }
          { s with saf := { s.saf with xfer := some y } }
      | _, _ => s
  else s

/-- KEY_CF_RELEASE (R522). -/
def execKeyCfRelease (s : State) : Host.Outcome State Fault Refusal := .next (keyCfRelease s)

/-- The 60 s of R522 have passed without a valid hold: none runs that began in time. -/
def spsTimeout (s : State) : State :=
  match s.saf.xfer with
  | none => s
  | some x =>
    match x.confirmAt with
    | none => s
    | some c =>
      let running := match x.cfFrom with
        | some f => decide (f ≤ c + ticksOf 60) && decide (s.tb.tick ≤ f + ticksOf 5)
        | none => false
      if s.awake && decide (c + ticksOf 60 ≤ s.tb.tick) && !running then spsDiscard 6 s else s

/-- SPS_CONFIRM_TIMEOUT (R522). -/
def execSpsConfirmTimeout (s : State) : Host.Outcome State Fault Refusal := .next (spsTimeout s)

/-! ### The commit (R119, Table 4.5) -/

/-- The comparison failed: code 8, Lock-out (R523). -/
def spsAbandon (s : State) : State := lockoutEnter 9 ((commitEnd s).put F.SAF_SPS_STAT.STATE 0 |>.put F.SAF_SPS_STAT.REJ 8)

/-- Both paths load the bank just made effective: it governs from the next boundary. -/
def spsLoad (img : List Byte) (toB : Bool) (s : State) : State :=
  let t := ((s.put F.SAF_SPS_GEN.GEN (bankGen img)).putB F.SAF_SPS_GEN.BANK toB).setReg Reg.SAF_SPS_WORD (bankCheck img)
  let u := (t.putB F.CFG_STAT.SPS_BANK toB).put F.CFG_STAT.SPS_FALLBACK 0
  { u with conf := { u.conf with spsNext := Config.spsContentOf (img.drop 16) } }

/-- STATE and CHECK at the end of a commit. -/
def spsIdle (s : State) : State := ((s.put F.SAF_SPS_STAT.STATE 0).put F.SAF_SPS_STAT.TRIES 0).setReg Reg.SAF_SPS_CHECK 0

/-- The SPS commit ends; `agree`: both paths found the confirmed check word. -/
def spsCommitDone (agree : Bool) (s : State) : State :=
  match s.conf.commit with
  | some (.sps img toB) =>
    if s.awake then
      if agree then
        let t := mramPut spsSelector (leBytes 4 (selectorWord (bankGen img) toB)) (mramPut (spsBase toB) img s)
        let u := spsIdle (spsLoad img toB (commitEnd t))
        record 0x0E 0 6 (items [b2n toB, bankGen img, (bankCheck img).toNat]) (u.ev F.CFG_EVENT.COMMIT_DONE)
      else spsAbandon s
    else s
  | some (.shadow j img) =>
    if s.awake then
      if agree then (spsIdle (commitEnd (mramPut (shadowSps s j) img s))).ev F.CFG_EVENT.COMMIT_DONE
      else spsAbandon s
    else s
  | _ => s

/-- SPS_COMMIT (R119). -/
def execSpsCommit (agree : Bool) (s : State) : Host.Outcome State Fault Refusal := .next (spsCommitDone agree s)

/-- At the next boundary the new set governs. -/
def spsGovern (s : State) : State :=
  match s.conf.spsNext with
  | some c => { s with conf := { s.conf with sps := c, spsNext := none } }.put F.CFG_DEFAULT.SPS 0
  | none => s

/-! ### The operational set (R122, Table 4.7) -/

/-- A commit or life-cycle request is refused. -/
def cfgRefuse (s : State) : State := s.ev F.CFG_EVENT.REFUSED

/-- The image at an SRAM offset with its check word right, as the commit would write it. -/
def opsImage (s : State) (src gen : Nat) : Option (List Byte) :=
  if src % 4096 = 0 ∧ src < sramSize then
    ((bankAt s.sram src (min opsBankSize (sramSize - src))).filter checkOk).map (withGen gen)
  else none

/-- An image passes the checks of the operational set alone (R122). -/
def opsImageOk (s : State) (img : List Byte) : Bool := (readOps img).any (fun b => opsBankOk s b none)

/-- CFG_OPS_COMMIT: accepted in Watch, Standby and Commissioning, with an image that passes its checks. -/
def opsCommitOp (v : Word) (s : State) : State :=
  let t := keepVal Reg.CFG_OPS_COMMIT v s
  if ¬(s.mode = .watch ∨ s.mode = .standby ∨ s.mode = .commissioning) ∨ cfgBusy s = true then cfgRefuse t
  else
    let dst := opsTarget s
    match opsImage s v.toNat dst.2 with
    | some img => if opsImageOk s img then commitStart (.ops img dst.1) (breakSeal (opsBase dst.1) t) else cfgRefuse t
    | none => cfgRefuse t

/-- CFG_OPS_COMMIT (R122). -/
def execCfgOpsCommit (core : Sender) (cpl : Word) (s : State) : Host.Outcome State Fault Refusal :=
  .next (cplWrite core Reg.CFG_OPS_COMMIT cpl opsCommitOp s)

/-- The OPS commit ends; `agree`: the bank read back has the image's check word. It takes effect at the next start-up (R123). -/
def opsCommitDone (agree : Bool) (s : State) : State :=
  match s.conf.commit with
  | some (.ops img toB) =>
    if s.awake then
      if agree then
        (commitEnd (mramPut opsSelector (leBytes 4 (selectorWord (bankGen img) toB)) (mramPut (opsBase toB) img s))).ev
          F.CFG_EVENT.COMMIT_DONE
      else cfgRefuse (commitEnd s)
    else s
  | _ => s

/-- OPS_COMMIT_DONE (R122). -/
def execOpsCommitDone (agree : Bool) (s : State) : Host.Outcome State Fault Refusal := .next (opsCommitDone agree s)

end Sys2Proof.Machine
end

