-- ==== Sys2Proof/Machine/Doors.lean ====
section
/-!
DEFINITION. The door units (11 R341 to R365): commands, moves, closing force, supervision, dwell, nudging and lock confirmation.
-/

namespace Sys2Proof.Machine

open Sys2Proof

/-! ### A door unit's configuration -/

/-- Door unit d is enabled (R341). -/
def doorEn (s : State) (d : Nat) : Bool := isCar s && s.flag (F.TRJ_DOOR_CFG.EN d)
/-- Its axis. -/
def doorAxis (s : State) (d : Nat) : Nat := s.get (F.TRJ_DOOR_CFG.AXIS d)
/-- Its drive channel. -/
def doorChan (s : State) (d : Nat) : Nat := s.get (F.TRJ_AXIS_CFG.BIND (doorAxis s d))
/-- WIDTH. -/
def doorWidth (s : State) (d : Nat) : Int := s.get (F.TRJ_DOOR_GEOM.WIDTH d)

/-- Event bit i of door d. -/
def doorEv (d i : Nat) (s : State) : State := s.evBit (if d = 0 then F.TRJ_DOOR_EVENT.DOOR0 else F.TRJ_DOOR_EVENT.DOOR1) i

/-- The light curtain is interrupted: its input, active low, reads 0; no input is never interrupted (R356). -/
def curtainCut (s : State) (d : Nat) : Bool := limActive s (s.get (F.TRJ_DOOR_CFG.LC_IN d))

/-- The door channel is faulted or under STO (R354). -/
def doorFault (s : State) (d : Nat) : Bool := chanFault s (doorChan s d) || chanSto s (doorChan s d)

/-- Times in ms as a number of periods (R356). -/
def periodsOf (s : State) (ms : Nat) : Nat := ceilDiv (ms * 1000000) s.tsNs

/-- v_E of an energy in mJ (R350). -/
def energySpeed (s : State) (d e : Nat) : Nat := Nat.sqrt (2 * e * 1000000000000 / s.get (F.TRJ_DOOR_MASS.M d))

/-- v_E of a close or a nudge close. -/
def vE (s : State) (d : Nat) (nudge : Bool) : Nat :=
  energySpeed s d (if nudge then s.get (F.TRJ_DOOR_ECAP.E_NUDGE d) else s.get (F.TRJ_DOOR_ECAP.E_CLOSE d))

/-- A permission in force names the door's side (R369). -/
def doorPermit (s : State) (d : Nat) : Bool :=
  match carPermit s with
  | some p => p.flags.testBit (1 + d)
  | none => false

/-- Both paths read door d closed and locked. -/
def doorShut (s : State) (d : Nat) : Bool := !funcPair s 0 2 (some d) && !funcPair s 1 2 (some d)

/-! ### Moves (R348 to R350) -/

/-- Ceiling of a square root. -/
def sqrtCeil (n : Nat) : Nat := if Nat.sqrt n * Nat.sqrt n = n then Nat.sqrt n else Nat.sqrt n + 1

/-- Duration of a generated span of distance `dist` at speed limit v (R349), in us. -/
def genTime (s : State) (d dist v : Nat) : Nat :=
  max (ceilDiv (3 * dist * 1000000) (2 * v)) (sqrtCeil (ceilDiv (6 * dist * 1000000000000) (s.get (F.TRJ_DOOR_GENA.GEN_A d))))

/-- The two scratch rows of a generated span written (R349). -/
def genRows (d dist v : Nat) (s : State) : State :=
  let r := s.get (F.TRJ_DOOR_SCR.S d)
  putRow (r + 1) ⟨genTime s d dist v, dist, 0, 2 ^ 31⟩ (putRow r ⟨0, 0, 0, 0⟩ s)

/-- The profile span of a move: first row and count (Table 11.4). -/
def profileSpan (s : State) (d : Nat) (opening nudge : Bool) : Nat × Nat :=
  if opening then (s.get (F.TRJ_DOOR_OPEN.FIRST d), s.get (F.TRJ_DOOR_OPEN.COUNT d))
  else if nudge then (s.get (F.TRJ_DOOR_NUDGE.FIRST d), s.get (F.TRJ_DOOR_NUDGE.COUNT d))
  else (s.get (F.TRJ_DOOR_CLOSE.FIRST d), s.get (F.TRJ_DOOR_CLOSE.COUNT d))

/-- The argument of a door move, with its rows written where they are generated. -/
def doorMove (d : Nat) (opening nudge : Bool) (s : State) : MoveArg × State :=
  let p := (s.axis (doorAxis s d)).spPos
  let target := if opening then doorWidth s d else 0
  let from' := if opening then 0 else doorWidth s d
  let prof := profileSpan s d opening nudge
  if (p - from').natAbs ≤ s.get (F.TRJ_DOOR_GEOM.END_TOL d) ∧ prof.2 ≠ 0 then (⟨prof.1, prof.2, !opening, 0, 0, false, 0, 0⟩, s)
  else
    let g := s.get (F.TRJ_DOOR_GENV.GEN_V d)
    let v := if opening then g else min g (vE s d nudge)
    (⟨s.get (F.TRJ_DOOR_SCR.S d), 2, decide (target < p), 0, 0, false, 0, 0⟩, genRows d (target - p).natAbs v s)

/-- A door span passes R243, and a closing one its energy check (R350). -/
def doorSpanOk (s : State) (d : Nat) (opening nudge : Bool) (g : MoveArg) : Bool :=
  let c := checkSpan s (s.get (F.TRJ_AXIS_VRATED.V_RATED (doorAxis s d))) g.first g.count
  c.1 == 0 && (opening || decide (c.2 ≤ vE s d nudge))

/-- A refused command (Table 11.3). -/
def doorReject (d code : Nat) (s : State) : State := doorEv d 4 (s.modDoor d (fun x => { x with rej := code }))

/-- OPEN reached: PENDING decides what follows; after a reopening the dwell starts, unless a CLOSE came meanwhile (R346, R362). -/
def doorReached (d : Nat) (re : Bool) (s : State) : State :=
  let t := s.modDoor d (fun x =>
    { x with st := .opened, toOpen := false, noDwell := false, dwellFrom := if re && x.pending && !x.noDwell then some s.tb.tick else none })
  let u := doorEv d 3 t
  if re then doorEv d 1 u else u

/-- CLOSED reached: the lock confirmation starts; a nudge close clears NUDGE_LATCH and PENDING (R364, R365). -/
def doorShutReached (d : Nat) (s : State) : State :=
  doorEv d 2 (s.modDoor d (fun x =>
    { x with st := .closed, nudge := x.nudge && x.st != .nudging, pending := x.pending && x.st != .nudging,
             nudgeFrom := none, lockFrom := some s.tb.tick }))

/-- A move is queued on the door axis; a distance of 0 makes none (R349). `re`: it follows an obstruction; `back`: what the unit is left
as where the span is refused (code 5). -/
def doorQueue (d : Nat) (opening nudge re : Bool) (back : State → State) (s : State) : State :=
  let st : DoorSt := if opening then (if re then .reopening else .opening) else (if nudge then .nudging else .closing)
  let t := s.modDoor d (fun x =>
    { x with toOpen := false, dwellFrom := none, nudgeFrom := none, lockFrom := none, pending := x.pending && opening })
  if (t.axis (doorAxis t d)).spPos = (if opening then doorWidth t d else 0) then
    let u := t.modDoor d (fun x => { x with st := st })
    if opening then doorReached d re u else doorShutReached d u
  else
    let m := doorMove d opening nudge t
    let n := doorAxis t d
    if doorSpanOk m.2 d opening nudge m.1 then
      let g := checkedArg m.2 n m.1
      (m.2.modAxis n (fun a => { a with queue := a.queue ++ [g] })).modDoor d (fun x => { x with st := st })
    else doorReject d 5 (back s)

/-- An automatic move whose span is refused is not tried again: PENDING is cleared. DESIGN CHOICE (log entry 44). -/
def doorGivesUp (d : Nat) (s : State) : State :=
  s.modDoor d (fun x => { x with st := if x.st == .reopening then .stopped else x.st, pending := false, toOpen := false })

/-- A close would begin: the curtain holds it back unless NUDGE_LATCH is set (R347, R363). -/
def beginClose (d : Nat) (back : State → State) (s : State) : State :=
  if curtainCut s d && !(s.door d).nudge then
    s.modDoor d (fun x => { x with pending := true, dwellFrom := none, nudgeFrom := some (x.nudgeFrom.getD s.tb.tick) })
  else doorQueue d false (s.door d).nudge false back s

/-! ### Actions -/

/-- The door moves: its axis is in a move or has one queued. -/
def doorMoving (s : State) (d : Nat) : Bool :=
  let a := s.axis (doorAxis s d)
  inMove a || !a.queue.isEmpty

/-- The move is aborted in this stage 4, as if ABORT had been written (cause 2; R346, R354, R358). -/
def doorAbort (d : Nat) (s : State) : State :=
  let n := doorAxis s d
  if doorMoving s d then (axisEvent n (.stop 2) (axisEvent n .flush (s, false))).1 else s

/-- At rest after an aborted move: the opening that follows an obstruction is queued, else the door takes STOPPED (R354, R357, R358). -/
def doorSettle (d : Nat) (s : State) : State :=
  let x := s.door d
  if x.st == .opening || x.st == .closing || x.st == .nudging || x.st == .reopening then
    if doorMoving s d && !(s.axis (doorAxis s d)).restNow then s
    else if x.toOpen then doorQueue d true false true (doorGivesUp d) (s.modDoor d (fun y => { y with pending := true }))
    else s.modDoor d (fun y => { y with st := .stopped })
  else s

/-- A STOP or a mode change: the move is aborted, PENDING and NUDGE_LATCH are cleared, STOPPED follows at rest (R346, R353). -/
def doorStopped (d : Nat) (s : State) : State :=
  let t := doorAbort d s
  let moving := doorMoving t d
  t.modDoor d (fun x =>
    { x with pending := false, nudge := false, toOpen := false, dwellFrom := none, nudgeFrom := none, lockFrom := none, modeStop := false,
             noDwell := false, st := if x.st == .unref || moving then x.st else .stopped })

/-- A channel fault: the move is aborted, FAULT sets, STOPPED follows at rest (R354). -/
def doorFaulted (d : Nat) (s : State) : State :=
  let t := doorAbort d s
  let moving := doorMoving t d
  t.modDoor d (fun x =>
    { x with fault := true, toOpen := false, dwellFrom := none, st := if x.st == .unref || moving then x.st else .stopped })

/-- An obstruction: ABORT, OBST, LAST_OBS, OBS_CNT, REOPENING, and an opening at rest where REOPEN is 1 (R358); an OPEN in a
closing is one without a source, not counted (R346). -/
def doorObstruct (d sources : Nat) (counted : Bool) (s : State) : State :=
  let t := doorEv d 0 (doorAbort d s)
  doorSettle d <| t.modDoor d (fun x =>
    { x with st := .reopening, lastObs := sources, obsCnt := if counted then satN 65535 (x.obsCnt + 1) else x.obsCnt,
             toOpen := s.flag (F.TRJ_DOOR_CFG.REOPEN d) })

/-- Modes in which a door command is taken (code 2). -/
def doorMode (m : Mode) : Bool :=
  match m with
  | .service | .inspection | .rescue | .commissioning => true
  | _ => false

/-- The code an OPEN, CLOSE or NUDGE is refused with before its span is formed: the lowest that applies. -/
def doorCode (s : State) (d op : Nat) : Nat :=
  let x := s.door d
  if !doorEn s d then 1
  else if !doorMode s.mode then 2
  else if x.st == .unref then 3
  else if op == 1 && !doorPermit s d then 4
  else if doorFault s d then 6
  else 0

/-- An accepted OPEN (Table 11.2); where its span is refused, nothing but REJ changes. -/
def openOp (d : Nat) (s : State) : State :=
  let t := s.modDoor d (fun x => { x with lockTried := false })
  match (t.door d).st with
  | .closed | .stopped => doorQueue d true false false (fun _ => s) t
  | .closing | .nudging => doorObstruct d 0 false t
  | .opening | .opened | .reopening =>
    t.modDoor d (fun x => { x with pending := false, dwellFrom := none, nudgeFrom := none, noDwell := false })
  | .unref => t

/-- An accepted CLOSE or NUDGE (Table 11.2); likewise. -/
def closeOp (d : Nat) (nudge : Bool) (s : State) : State :=
  let t := s.modDoor d (fun x => { x with lockTried := false })
  let u := t.modDoor d (fun x => { x with nudge := x.nudge || nudge })
  match (t.door d).st with
  | .opened | .stopped => beginClose d (fun _ => s) u
  | .opening => u.modDoor d (fun x => { x with pending := true })
  | .reopening => u.modDoor d (fun x => { x with pending := true, noDwell := true })
  | _ => t

/-- OPEN (1), CLOSE (2) or NUDGE (3) acts. -/
def doorCommand (d op : Nat) (s : State) : State :=
  match doorCode s d op with
  | 0 => if op = 1 then openOp d s else closeOp d (op == 3) s
  | c => doorReject d c s

/-! ### The closing force (R352) -/

/-- F_CLOSE of door d from this period's position and currents. -/
def closeForce (s : State) (d : Nat) : Int :=
  let n := doorChan s d
  let v := s.chan n
  let th := elecAngle s n (s.pairS (Reg.FBK_CH_POS_LO n))
  let kf : Int := s.get (F.TRJ_DOOR_KF.KF d)
  if chanType s n = 1 then
    -fxTrunc (kf * (v.iB * fxCos th 65536 - v.iA * fxSin th 65536) / 1000000)
  else
    -fxTrunc (-(kf * 2 * (v.iA * fxSin (3 * th) 196608 + v.iB * fxSin (3 * th + 131072) 196608 +
      v.iC * fxSin (3 * th + 65536) 196608) / 3000000))

/-- F_CLOSE follows; a held slot repeats it (R311). -/
def doorForce (d : Nat) (s : State) : State :=
  if (s.chan (doorChan s d)).got then
    let f := closeForce s d
    (s.modDoor d (fun x => { x with force := f })).setReg (Reg.TRJ_DOOR_FORCE d) (wdi f)
  else s

/-! ### Supervision (R356, R357, R361) -/

/-- A consecutive count. -/
def countIf (c : Bool) (n : Nat) : Nat := if c then n + 1 else 0

/-- The axis moves, and no abort is under way. -/
def doorDriven (s : State) (d : Nat) : Bool :=
  let a := (s.axis (doorAxis s d)).st
  a == .running || a == .stopping

/-- The door is CLOSING or NUDGING, with its move not yet aborted. -/
def closingNow (s : State) (d : Nat) : Bool :=
  let x := s.door d
  (x.st == .closing || x.st == .nudging) && doorDriven s d

/-- The door opens, with its move not yet aborted. -/
def openingNow (s : State) (d : Nat) : Bool :=
  let x := s.door d
  (x.st == .opening || (x.st == .reopening && !x.toOpen)) && doorDriven s d

/-- The speed lags the set-point: `sg` is -1 for closing (Table 11.5, SPEED). -/
def speedLags (s : State) (d : Nat) (sg : Int) : Bool :=
  let sp := sg * (s.axis (doorAxis s d)).spVel
  let v := sg * s.regS (Reg.FBK_CH_VEL (doorChan s d))
  decide ((s.get (F.TRJ_DOOR_DEF.V_CHK d) : Int) ≤ sp) && decide (100 * v < (s.get (F.TRJ_DOOR_DEF.DEF_PCT d) : Int) * sp)

/-- The counts of door d after this stage 4. -/
def doorCounts (d : Nat) (s : State) : State :=
  let c := closingNow s d
  let o := openingNow s d
  let x := s.door d
  let ve : Int := vE s d (x.st == .nudging)
  let v := -(s.regS (Reg.FBK_CH_VEL (doorChan s d)))
  s.modDoor d (fun x =>
    { x with nForce := countIf (c && decide ((s.get (F.TRJ_DOOR_FCAP.F_OBS d) : Int) < x.force)) x.nForce
             nSpeed := countIf (c && speedLags s d (-1)) x.nSpeed
             nKe := countIf (c && decide (11 * ve < 10 * v)) x.nKe
             nStall := countIf (o && speedLags s d 1) x.nStall })

/-- Sources of Table 11.5 that fire. -/
def obstructions (s : State) (d : Nat) : Nat :=
  let x := s.door d
  if closingNow s d then
    b2n (decide ((s.get (F.TRJ_DOOR_FCAP.F_CAP d) : Int) < x.force)) +
      2 * b2n (decide (periodsOf s (s.get (F.TRJ_DOOR_FCAP.T_FOBS d)) ≤ x.nForce)) +
      4 * b2n (decide (periodsOf s (s.get (F.TRJ_DOOR_DEF.T_DEF d)) ≤ x.nSpeed)) +
      8 * b2n (x.st == .closing && curtainCut s d)
  else 0

/-- What the supervision finds: an obstruction, a stall, or an energy excess (R345). -/
def doorFinds (s : State) (d : Nat) : DoorDue :=
  let o := obstructions s d
  if o ≠ 0 then .obstruction o
  else if periodsOf s (s.get (F.TRJ_DOOR_DEF.T_DEF d)) ≤ (s.door d).nStall ∧ openingNow s d = true then .stall
  else if 3 ≤ (s.door d).nKe ∧ closingNow s d = true then .keExc
  else .none

/-! ### Stage 4 (R345) -/

/-- What the axis brought: a completed move, or rest. -/
def doorAxisResult (d : Nat) (s : State) : State :=
  let a := s.axis (doorAxis s d)
  let x := s.door d
  if a.doneNow.isSome then
    match x.st with
    | .opening => doorReached d false s
    | .reopening => doorReached d true s
    | .closing | .nudging => doorShutReached d s
    | _ => s
  else doorSettle d s

/-- A pending close of a door that stands open, with no dwell running, or that the curtain held back begins where R347 lets it
(R346, R347, R362). -/
def pendingClose (d : Nat) (s : State) : State :=
  let x := s.door d
  if x.pending && x.dwellFrom.isNone && (x.st == .opened || (x.st == .stopped && x.nudgeFrom.isSome)) && doorMode s.mode && !doorFault s d then beginClose d (doorGivesUp d) s else s

/-- The one action of door d in this stage 4, in the order of R345; an obstruction, a stall and an energy excess are left to their
events. -/
def doorAct (d : Nat) (s : State) : State :=
  let x := s.door d
  let t := s.modDoor d (fun y => { y with cmd := none, due := .none, nudgeDue := false })
  if x.cmd = some 4 then doorStopped d t
  else if x.modeStop then doorStopped d t
  else if doorFault s d && (doorMoving s d || !x.fault) then doorFaulted d t
  else
    match doorFinds t d with
    | .none =>
      (match x.cmd with
       | some op => doorCommand d op t
       | none => pendingClose d (if x.nudgeDue && x.pending then t.modDoor d (fun y => { y with nudge := true }) else t))
    | f => t.modDoor d (fun y => { y with due := f })

/-- FAULT ends with the fault and the STO bit; a closed and locked report ends the lock confirmation. -/
def doorFollow (d : Nat) (s : State) : State :=
  s.modDoor d (fun x =>
    let shut := x.lockFrom.isSome && doorShut s d
    { x with fault := x.fault && doorFault s d, lockFrom := if shut then none else x.lockFrom, lockTried := x.lockTried && !shut })

/-- Door d in a stage 4. -/
def doorStage4 (d : Nat) (s : State) : State :=
  if doorEn s d then doorAct d (doorCounts d (doorForce d (doorAxisResult d (doorFollow d s)))) else s

/-! ### TRJ_DOOR_CMD (R346) -/

/-- A door command waits for the next stage 4. Where none will take it, its refusal comes at once: the unit is not enabled, or the
servo clock is off (STOP then finds an enabled door at rest). -/
def doorCmdOp (v : Word) (s : State) : State :=
  let d := getF F.TRJ_DOOR_CMD.DOOR.bits v
  let op := getF F.TRJ_DOOR_CMD.OP.bits v
  if op = 0 ∨ 4 < op ∨ isCar s = false then s
  else if !doorEn s d || !s.servoOn then (if op = 4 ∧ doorEn s d = true then s else doorReject d (doorCode s d op) s)
  else
    let t := if (s.door d).cmd.isSome then s.ev F.TRJ_DOOR_EVENT.CMD_OVR else s
    t.modDoor d (fun x => { x with cmd := some op })

/-- A TRJ_DOOR_CMD row: the write whose OP is that row's. -/
def doorRow (core : Sender) (op : Nat) (v : Word) (s : State) : State :=
  writeCmd core Reg.TRJ_DOOR_CMD (fun t => if getF F.TRJ_DOOR_CMD.OP.bits v = op then doorCmdOp v t else t) s

/-- DOOR_OPEN (R346). -/
def execDoorOpen (core : Sender) (val : Word) (s : State) : Host.Outcome State Fault Refusal := .next (doorRow core 1 val s)
/-- DOOR_CLOSE (R346). -/
def execDoorClose (core : Sender) (val : Word) (s : State) : Host.Outcome State Fault Refusal := .next (doorRow core 2 val s)
/-- DOOR_NUDGE (R346). -/
def execDoorNudge (core : Sender) (val : Word) (s : State) : Host.Outcome State Fault Refusal := .next (doorRow core 3 val s)
/-- DOOR_STOP (R346). -/
def execDoorStop (core : Sender) (val : Word) (s : State) : Host.Outcome State Fault Refusal := .next (doorRow core 4 val s)

/-! ### Events -/

/-- The finding of the last stage 4 is carried out, if it is of the event's kind. -/
def doorDueIs (d : Nat) (p : DoorDue → Bool) (act : State → State) (s : State) : State :=
  if s.servoOn && doorEn s d && p (s.door d).due then act (s.modDoor d (fun x => { x with due := .none })) else s

/-- OBSTRUCTION (R358). -/
def obstruction (d : Nat) (s : State) : State :=
  match (s.door d).due with
  | .obstruction o => doorDueIs d (fun _ => true) (doorObstruct d o true) s
  | _ => s

/-- OBSTRUCTION (R358). -/
def execObstruction (door : Fin 2) (s : State) : Host.Outcome State Fault Refusal := .next (obstruction door.val s)

/-- A stall: ABORT, STALL, STOPPED at rest (R357). -/
def doorStall (d : Nat) (s : State) : State := doorSettle d (doorEv d 6 (doorAbort d s))

/-- STALL (R357). -/
def execStall (door : Fin 2) (s : State) : Host.Outcome State Fault Refusal :=
  .next (doorDueIs door.val (fun x => x == .stall) (doorStall door.val) s)

/-- An energy excess: ABORT, KE_EXC, STOPPED at rest (R361). -/
def doorKe (d : Nat) (s : State) : State := doorSettle d (doorEv d 5 (doorAbort d s))

/-- KE_EXC (R361). -/
def execKeExc (door : Fin 2) (s : State) : Host.Outcome State Fault Refusal :=
  .next (doorDueIs door.val (fun x => x == .keExc) (doorKe door.val) s)

/-- A time of `ms` since tick t has passed. -/
def passed (s : State) (t ms : Nat) : Bool := decide (t + ms * 125000 ≤ s.tb.tick)

/-- The dwell after a reopening ends: the pending close begins in the next stage 4, at the rank of a timer and subject to R347 (R345,
R362). -/
def dwellEnd (d : Nat) (s : State) : State :=
  match (s.door d).dwellFrom with
  | none => s
  | some t =>
    if s.servoOn && doorEn s d && passed s t (s.get (F.TRJ_DOOR_TIME.DWELL_RE d)) then
      s.modDoor d (fun x => { x with dwellFrom := none })
    else s

/-- DWELL_EXPIRY (R362). -/
def execDwellExpiry (door : Fin 2) (s : State) : Host.Outcome State Fault Refusal := .next (dwellEnd door.val s)

/-- The nudge timer has run NUDGE_T seconds: NUDGE_LATCH sets and the close begins as a nudge close in the next stage 4, at the rank of a
timer (R345, R363). -/
def nudgeEnd (d : Nat) (s : State) : State :=
  match (s.door d).nudgeFrom with
  | none => s
  | some t =>
    let n := s.get (F.TRJ_DOOR_CFG.NUDGE_T d)
    if s.servoOn && doorEn s d && (s.door d).pending && n != 0 && passed s t (1000 * n) then
      s.modDoor d (fun x => { x with nudgeDue := true })
    else s

/-- NUDGE_TIMER_EXPIRY (R363). -/
def execNudgeTimerExpiry (door : Fin 2) (s : State) : Host.Outcome State Fault Refusal := .next (nudgeEnd door.val s)

/-- T_LOCK passes without a closed and locked report: LOCK_FAIL, and one opening where REOPEN is 1 (R365). -/
def lockFail (d : Nat) (s : State) : State :=
  match (s.door d).lockFrom with
  | none => s
  | some t =>
    if s.servoOn && doorEn s d && passed s t (s.get (F.TRJ_DOOR_TIME.T_LOCK d)) && !doorShut s d then
      let u := doorEv d 7 (s.modDoor d (fun x => { x with lockFrom := none }))
      if s.flag (F.TRJ_DOOR_CFG.REOPEN d) && !(s.door d).lockTried && (s.door d).st == .closed then
        doorQueue d true false false (doorGivesUp d) (u.modDoor d (fun x => { x with lockTried := true, pending := true }))
      else u
    else s

/-- LOCK_FAIL (R365). -/
def execLockFail (door : Fin 2) (s : State) : Host.Outcome State Fault Refusal := .next (lockFail door.val s)

/-! ### Register view -/

/-- TRJ_DOORd_STAT. -/
def doorStatWord (s : State) (d : Nat) : Word :=
  let x := s.door d
  wd (x.st.code * 2 ^ 28 + b2n x.pending * 2 ^ 27 + b2n x.nudge * 2 ^ 26 + b2n x.fault * 2 ^ 25 + x.rej % 16 * 2 ^ 21 +
    x.lastObs % 16 * 2 ^ 16 + x.obsCnt % 2 ^ 16)

end Sys2Proof.Machine
end

