-- ==== Sys2Proof/Machine/Load.lean ====
section
/-!
DEFINITION. Loading the operational set in force into registers and memories, at start-up and on waking (03 R77; 04 Table 4.2).
-/

namespace Sys2Proof.Machine

open Sys2Proof

/-! ### Loading the operational set (R77, Table 4.2; 06 R172; 07 R204, R206) -/

/-- A car record of the set. -/
def loadCar (k : OpsCar) (s : State) : State :=
  coreSeed k.idx k.pos 0 (s.modCar k.idx (fun _ => { CarRec.init with
    held := true, id := k.id, mass := k.mass, arrOfs := k.arrOfs, arrLen := k.arrLen, owner := k.owner, posValid := true,
    pos := k.pos }))

/-- A start-up check fails slot g. -/
def slotBad (s : State) (g : Nat) : Bool := !(slotHeaderOk s g && slotRulesOk s g && windowOk s (engOf g))

/-- Slots that fail a start-up check are disabled. -/
def slotsChecked (s : State) : State :=
  let bad := (enabledSlots s).filter (slotBad s)
  s.forL bad (fun g t => t.modSlot g (fun x => { x with bad := true }))

/-- Registers and memories take the content of the set in force, the car records too where `cars`, and the blocks start as a first
application of every group would. -/
def loadSet (cars : Bool) (s : State) : State :=
  let o := s.conf.ops
  let r := loadRegs o
  let put (m : List (Nat × Word)) := r.foldl (fun m e => smSet (wd (regReset e.1)) m e.1 e.2) m
  let t := loadTide { s with bus := { s.bus with regs := put s.bus.regs, pend := put s.bus.pend } }
  let u := if cars && isSection s then t.forL o.cars loadCar else t
  let h := headersRead u u
  slotsChecked ((List.range 8).foldl (fun v g => applyGroup s g v) h)

/-- At start-up. -/
def loadOps (s : State) : State := loadSet true s

/-- On waking from Dormant, where no car record was held: the records of the set are not taken again. DEDUCED (log entry 69). -/
def loadWake (s : State) : State := loadSet false s

end Sys2Proof.Machine
end

