-- ==== Sys2Proof/Machine/Modes.lean ====
section
/-!
DEFINITION. Operating modes (03): requests, guards, the evaluation of triggers, completed transitions, idle timers, wake sources and
notices, and the SLK ports of Rescue.
-/

namespace Sys2Proof.Machine

open Sys2Proof

/-! ### Cars at rest (Table 3.2) -/

/-- The car this car device rides on moves, by its tape (log entry 62). -/
def tapeMoves (s : State) : Bool := s.saf.tape.ok && s.saf.tape.vel != 0

/-- Some car is in motion. -/
def carsMove (s : State) : Bool := if isCar s then tapeMoves s else (heldCars s).any (recMoves s)

/-- The car device of record c reports its brakes set. -/
def brakesSetOf (s : State) (c : Nat) : Bool := (carTel s (s.car c).id).alive && !(carTel s (s.car c).id).flags.testBit 2

/-- Every held record's car is at rest with brakes set. -/
def heldSet (s : State) : Bool := (heldCars s).all (fun c => !recMoves s c && brakesSetOf s c)

/-- In car role, the car is at rest with brakes set. -/
def ownSet (s : State) : Bool := !isCar s || (!tapeMoves s && !brakesReleased s)

/-- Every car is at rest at a landing (log entry 62): in the door zone of one. -/
def atLandings (s : State) : Bool := !carsMove s && (heldCars s).all (fun c => (zoneAt s c).isSome)

/-- A reservation is granted or pending: a move's entry, one not yet in force, or a candidate that waits (log entry 62). -/
def resHeld (s : State) : Bool := s.bss.cand.isSome || s.bss.res.any (fun e => e.2.mv || e.2.st == 1)

/-! ### Guards (Tables 3.2 and 3.3) -/

/-- The device is Commissioned. -/
def commissioned (s : State) : Bool := s.nv.lc.state == .commissioned
/-- Some factory default is in force. -/
def cfgDefault (s : State) : Bool := s.reg Reg.CFG_DEFAULT != 0
/-- The rescue input is active. -/
def rescueActive (s : State) : Bool := pathNamed s 0 (sps s).rescueIn

/-- The first failing entry of a list of guards, 0 if none fails. -/
def firstCode : List (Bool × Nat) → Nat
  | [] => 0
  | g :: t => if g.1 then firstCode t else g.2

/-- The first failing guard of the transition to m, 8 where Table 3.2 gives none; 0 if every guard holds. The bar of R92 is a guard of
Watch to Dormant alone: from another mode a request for Dormant is refused with 8. DEDUCED (log entry 93). -/
def guardCode (s : State) (m : Mode) : Nat :=
  match s.mode, m with
  | .watch, .dormant =>
    firstCode [(!s.pw.bar, 12), ((heldCars s).isEmpty, 10), (ownSet s && (!isCar s || (doorLocked s 0 && doorLocked s 1)), 3),
      (interlocksClosed s, 4)]
  | .watch, .standby => firstCode [(s.nv.lc.state == .provisioned || commissioned s, 1), (!demandActive s, 5)]
  | .standby, .watch => firstCode [((heldCars s).isEmpty, 10), (ownSet s, 3)]
  | .standby, .service =>
    firstCode [(commissioned s, 1), (!cfgDefault s, 2), (!demandActive s, 5), (s.flag F.TIM_STAT.SYNC, 6)]
  | .service, .standby => firstCode [(heldSet s, 3), (!resHeld s, 10)]
  | .standby, .rescue | .service, .rescue => firstCode [(commissioned s, 1)]
  | .rescue, .standby => firstCode [(atLandings s, 3), (!rescueActive s, 13)]
  | .watch, .commissioning | .standby, .commissioning => firstCode [(keyOn s, 7), (!carsMove s, 3)]
  | .commissioning, .watch => firstCode [(!carsMove s, 3)]
  | .lockout, .watch => 5
  | .dormant, _ => 8
  | _, .lockout => 0
  | _, _ => 8

/-- The code a request for mode m is refused with, 0 if its guards hold: 11 for Service or Rescue while the switch reads the inspection
state, before any other (R69; log entry 83). -/
def reqCode (s : State) (m : Mode) : Nat :=
  if (m = .service ∨ m = .rescue) ∧ inspActive s = true then 11 else guardCode s m

/-! ### Requests (R70, R71; 04 R110, R127) -/

/-- The loader refuses a request for m in the present mode: in Watch every one but that for Commissioning, in Lock-out every one but that
for Lock-out itself (04 R110). -/
def loaderRefuses (s : State) (m : Mode) : Bool :=
  s.conf.loader && ((s.mode == .watch && m != .commissioning) || (s.mode == .lockout && m != .lockout))

/-- The code a request is refused with at once. -/
def reqEarly (s : State) (m : Mode) : Option Nat :=
  if s.nv.lc.state = .retired ∧ m ≠ .dormant then some 1
  else if m = .inspection ∨ loaderRefuses s m = true then some 8
  else if s.pw.trans.isSome then some 9
  else none

/-- PCM_MODE_REQ: refused at once, of no effect for the mode in force, or left to the next evaluation (R67). One that waits already is
replaced without a refusal by one that is left to the evaluation, and stays through one that is not. DESIGN CHOICE (log entry 93). -/
def modeReqOp (m : Mode) (s : State) : State :=
  match reqEarly s m with
  | some c => refuseNote c s
  | none => if s.mode = m then s else { s with pw := { s.pw with fwReq := some m } }

/-- The mode of a code. -/
def modeOfCode (n : Nat) : Mode :=
  match n with
  | 0 => .dormant
  | 1 => .watch
  | 2 => .standby
  | 3 => .service
  | 4 => .inspection
  | 5 => .rescue
  | 6 => .commissioning
  | _ => .lockout

/-- The completed guarded write of PCM_MODE_REQ. -/
def modeReqWrite (v : Word) (s : State) : State :=
  modeReqOp (modeOfCode (getF F.PCM_MODE_REQ.TARGET.bits v)) (keepVal Reg.PCM_MODE_REQ v s)

/-- A mode-request row: the guarded write whose TARGET is that row's. -/
def modeRow (core : Sender) (m : Mode) (cpl : Word) (s : State) : State :=
  if cplIs F.PCM_MODE_REQ.TARGET m.code cpl then cplWrite core Reg.PCM_MODE_REQ cpl modeReqWrite s else s

/-- MODE_REQ_DORMANT (R63). -/
def execModeReqDormant (core : Sender) (cpl : Word) (s : State) : Host.Outcome State Fault Refusal := .next (modeRow core .dormant cpl s)
/-- MODE_REQ_WATCH (R63). -/
def execModeReqWatch (core : Sender) (cpl : Word) (s : State) : Host.Outcome State Fault Refusal := .next (modeRow core .watch cpl s)
/-- MODE_REQ_STANDBY (R63). -/
def execModeReqStandby (core : Sender) (cpl : Word) (s : State) : Host.Outcome State Fault Refusal := .next (modeRow core .standby cpl s)
/-- MODE_REQ_SERVICE (R63). -/
def execModeReqService (core : Sender) (cpl : Word) (s : State) : Host.Outcome State Fault Refusal := .next (modeRow core .service cpl s)
/-- MODE_REQ_INSPECTION (R70). -/
def execModeReqInspection (core : Sender) (cpl : Word) (s : State) : Host.Outcome State Fault Refusal :=
  .next (modeRow core .inspection cpl s)
/-- MODE_REQ_RESCUE (R63). -/
def execModeReqRescue (core : Sender) (cpl : Word) (s : State) : Host.Outcome State Fault Refusal := .next (modeRow core .rescue cpl s)
/-- MODE_REQ_COMMISSIONING (R63). -/
def execModeReqCommissioning (core : Sender) (cpl : Word) (s : State) : Host.Outcome State Fault Refusal :=
  .next (modeRow core .commissioning cpl s)
/-- MODE_REQ_LOCKOUT (R63). -/
def execModeReqLockout (core : Sender) (cpl : Word) (s : State) : Host.Outcome State Fault Refusal := .next (modeRow core .lockout cpl s)

/-! ### Evaluation (R67 to R69) -/

/-- The rescue trigger in the present mode, by code: input 6, notice 7, firmware 1. -/
def rescueTrigger (s : State) : Option Nat :=
  if rescueActive s then some 6
  else if s.pw.rescuePend.isSome then some 7
  else if s.pw.fwReq = some .rescue then some 1
  else none

/-- The transition of the first five ranks of R68 whose guards hold, with its trigger. Inspection to Standby, which R68 does not rank,
stands with these. DESIGN CHOICE (log entry 93). -/
def dueInput (s : State) : Option (Mode × Nat) :=
  if s.pw.fwReq = some .lockout ∧ reqCode s .lockout = 0 then some (.lockout, 1)
  else
    match s.mode with
    | .standby | .service =>
      if inspActive s && commissioned s && !cfgDefault s then some (.inspection, 5)
      else if reqCode s .rescue = 0 then (rescueTrigger s).map (fun t => (Mode.rescue, t)) else none
    | .rescue => if inspActive s && commissioned s && !cfgDefault s then some (.inspection, 5) else none
    | .commissioning => if !keyOn s && !carsMove s then some (.watch, 8) else none
    | .inspection => if !inspActive s && !carsMove s then some (.standby, 5) else none
    | _ => none

/-- The transition a wake notice, a reservation request or an idle timer brings. -/
def dueNotice (s : State) : Option (Mode × Nat) :=
  match s.mode with
  | .watch =>
    if (s.pw.wakePend || s.pw.resPend) && reqCode s .standby == 0 then some (.standby, if s.pw.wakePend then 3 else 12) else none
  | .standby =>
    if s.pw.wakePend && reqCode s .service == 0 then some (.service, 3)
    else if s.pw.stbyExp && reqCode s .watch == 0 then some (.watch, 4)
    else none
  | .service => if s.pw.svcExp && reqCode s .standby == 0 then some (.standby, 4) else none
  | _ => none

/-- A transition starts; Lock-out is entered at once. -/
def takeTrans (m : Mode) (trig : Nat) (s : State) : State :=
  if m = .lockout then lockoutEnter trig { s with pw := { s.pw with fwReq := none } }
  else { s with pw := { s.pw with trans := some m, trigger := trig, fwReq := none } }

/-- The firmware request of this evaluation loses to another transition, unless it is the one taken. -/
def reqLost (m : Mode) (trig : Nat) (s : State) : State := if s.pw.fwReq = some m ∧ trig = 1 then s else reqDrop s

/-- The firmware request, then the notices and timers. -/
def evalRest (s : State) : State :=
  match s.pw.fwReq with
  | some r =>
    (match reqCode s r with
     | 0 => takeTrans r 1 s
     | c =>
       let t := refuseReq c s
       (match dueNotice t with
        | some x => takeTrans x.1 x.2 t
        | none => t))
  | none =>
    match dueNotice s with
    | some x => takeTrans x.1 x.2 s
    | none => s

/-- An evaluation of the triggers (R67, R68). A reservation request triggers at one evaluation only, whether or not the guard holds
there. DESIGN CHOICE (log entry 93). -/
def evaluateModes (s : State) : State :=
  if s.pw.trans.isSome then s
  else
    let t := match dueInput s with
      | some x => takeTrans x.1 x.2 (reqLost x.1 x.2 s)
      | none => evalRest s
    { t with pw := { t.pw with
      resPend := false
      rescuePend := if inspActive t then none else t.pw.rescuePend } }

/-- In Commissioning without the key, cars in motion stop on their cap ramps (R64). -/
def keyStop (s : State) : State :=
  if s.mode = .commissioning ∧ keyOn s = false then
    s.forN 8 (fun n t => if (t.axis n).st == .running then stopAxis n 5 t else t)
  else s

/-- The idle timers stand at 0 while a car record, or in Service a reservation, is held (R80). -/
def idleHold (s : State) : State :=
  let held := !(heldCars s).isEmpty
  if (s.mode == .standby && held) || (s.mode == .service && (held || !s.bss.res.isEmpty)) then idleRestart s else s

/-- Cycles of the 32.768 kHz clock from the entry to the n-th millisecond instant (R67). -/
def instantCycles (n : Nat) : Nat := ceilDiv (n * 4096) 125

/-- The next millisecond instant has come (R67). -/
def instantDue (s : State) : Bool :=
  decide (instantCycles (s.pw.instants + 1) ≤ slowCycles s.tb.tick - slowCycles s.pw.entryFrom)

/-- MILLISECOND_INSTANT: triggers are evaluated in Watch and Lock-out (R67). -/
def msInstant (s : State) : State :=
  if s.pw.phase = .running ∧ (s.mode = .watch ∨ s.mode = .lockout) ∧ instantDue s = true then
    evaluateModes { s with pw := { s.pw with instants := s.pw.instants + 1 } }
  else s

/-- MILLISECOND_INSTANT (R67). -/
def execMillisecondInstant (s : State) : Host.Outcome State Fault Refusal := .next (msInstant s)

/-! ### The SLK ports of Rescue (R76) -/

/-- The smallest interval that holds `p` and an interval. -/
def widen (m : Int × Int) (p : Int) : Int × Int := (min m.1 p, max m.2 p)

/-- Where a span that starts at p in a direction takes a car between two span times in us: its two ends there and its rows between them. -/
def spanReach (rows : List TstRow) (p d : Int) (lo hi : Nat) : Int × Int :=
  let at_ (us : Nat) : Int := p + d * (spanAt rows us).1.floor
  let mid := (rows.foldl (fun (q : Nat × List Int) r =>
    let t := q.1 + r.dt
    (t, if lo < t ∧ t < hi then (p + d * r.pos) :: q.2 else q.2)) (0, [])).2
  mid.foldl widen (widen (at_ lo, at_ lo) (at_ hi))

/-- Where a cap ramp takes a car in `n` more periods, or until it is at rest (08 R259). -/
def rampReach (aCap jCap ts : Nat) (start sg : Int) : Nat → Int → Int → Int → Int
  | 0, p, _, _ => start + p / 1024
  | n + 1, p, v, a =>
    let r := rampStep aCap jCap ts sg p v a
    if r.2 then start + r.1.1 / 1024 else rampReach aCap jCap ts start sg n r.1.1 r.1.2.1 r.1.2.2

/-- The moves an axis is to run one after another from position p with `us` microseconds left. -/
def queueReach (s : State) : List MoveArg → Int → Nat → Int × Int → Int × Int
  | [], _, _, m => m
  | g :: rest, p, us, m =>
    let rows := spanRows s g.first g.count
    let d := dirSign g.dir
    let q := spanReach rows p d 0 (min us (spanUs rows))
    queueReach s rest (p + d * lastPos s g.first g.count) (us - spanUs rows) (widen (widen m q.1) q.2)

/-- Positions the car of axis n passes within the next `us` microseconds of its planned motion, as an interval: its ramp, or its move
and those queued after it; a move admitted for a later T0; and for a car owned elsewhere the span its owner has reserved for (R76). -/
def motionWithin (s : State) (n us : Nat) : Int × Int :=
  let a := s.axis n
  let p := a.spPos
  let own : Int × Int := match a.st, a.mv with
    | .running, some m =>
      let rows := spanRows s m.arg.first m.arg.count
      let t := m.tau / tauPerUs
      let q := spanReach rows m.start (dirSign m.arg.dir) t (t + us)
      queueReach s a.queue m.target (t + us - spanUs rows) (widen (widen (p, p) q.1) q.2)
    | .stopping, some m | .aborting, some m =>
      let c := capsOf s n m
      widen (p, p) (rampReach c.1 c.2 s.tsNs m.start m.sg (ceilDiv (us * 1000) s.tsNs) m.rampP m.rampV m.rampA)
    | .stopped, _ => (p, p)
    | _, _ => queueReach s a.queue p us (p, p)
  let planned : Int × Int := match (bssCar s n).start with
    | some (t0, arg, _) => queueReach s [arg] p ((s.nowNs + us * 1000 - t0) / 1000) own
    | none => own
  match (resOf s (s.car n).id).bind (fun e => e.plan.map (fun g => (e, g))) with
  | some (e, g) =>
    let t := (s.nowNs - e.t0) / 1000
    let q := spanReach g.rows g.start (dirSign g.down) t ((s.nowNs + us * 1000 - e.t0) / 1000)
    if (s.car n).owner then planned else widen (widen (widen planned (s.car n).pos) q.1) q.2
  | none => planned

/-- A segment is in the active set of a held car, or comes to be within 2 s. -/
def segNeeded (s : State) (x : SegX) : Bool :=
  (heldCars s).any (fun c =>
    let r := s.car c
    let m := motionWithin s c 2000000
    decide (0 < segOverlap x r) || decide (0 < overlapLen x.lo x.hi (m.1 + r.arrOfs) (m.2 + 1 + r.arrOfs + r.arrLen)))

/-- Ports that Rescue powers. -/
def rescueNeed (s : State) : Nat :=
  mapBits 8 (fun p => portEn s p && (ownSegs s.conf.geom).any (fun x => portOf x.chan == p && segNeeded s x))

/-- A port sends, or idles before it does. -/
def portRuns (s : State) (p : Nat) : Bool := (s.slkPort p).ready || (s.slkPort p).idleFrom.isSome

/-- PD6 is on for some SLK port (R76). -/
def pd6On (s : State) : Bool := (List.range 8).any (portRuns s)

/-- The ports follow a mask; where PD6 returns to On, every channel's next conversion is a fresh start (09 R276). -/
def portsFollow (mask : Nat) (s : State) : State :=
  let t := s.forN 8 (fun p t =>
    if mask.testBit p then (if portRuns t p then t else portStart p t) else (if portRuns t p then portStop p t else t))
  if !pd6On s && pd6On t then t.forN 128 cmmFresh else t

/-- In Rescue the ports follow the cars; in car role there is no car's active set (R76). -/
def rescuePower (s : State) : State :=
  if s.mode = .rescue then
    let need := rescueNeed s
    portsFollow need { s with pw := { s.pw with rescuePorts := need } }
  else s

/-- Ports that Rescue had left unpowered come on in another running mode. -/
def rescueEnd (s : State) : State :=
  if modeServo s.mode then portsFollow (mapBits 8 (portEn s)) s else s

/-! ### Completed transitions (R82) -/

/-- RESCUE to each neighbour, with what brought it (18 Table 18.3). -/
def rescueTell (reason : Nat) (s : State) : State :=
  let g := s.conf.geom
  if isSection s then
    s.forL ((g.below.toList ++ g.above.toList).map (fun n => n.id)) (fun d t => t.send d (.rescue ⟨reason⟩))
  else s

/-- REASON of the rescue being entered: 1 the input, 2 firmware, a notice's own. -/
def rescueReason (s : State) : Nat :=
  match s.pw.trigger with
  | 6 => 1
  | 1 => 2
  | _ => s.pw.rescuePend.getD 1

/-- What the stop scheduler drops on entering mode m: a candidate that waits, and but for Service admitted moves to come (12 R374). -/
def schedEnter (m : Mode) (s : State) : State :=
  let t := candDrop s
  if m = .service then t else schedDrop t

/-- Mode m is in force. -/
def enterNow (m : Mode) (s : State) : State :=
  let prev := s.mode
  let why := rescueReason s
  let a := if prev = .dormant then (loadWake s).forN 8 portHeld else s
  let e := schedEnter m (enterMode m s.pw.trigger a)
  let t := if prev = .dormant then (e.forN 4 spineEnable).forN 2 lbEnable else e
  if m = .rescue then rescueTell why (rescuePower (clearQueues t))
  else if prev = .rescue then rescueEnd (rescueLeft t)
  else t

/-- The transition in progress is ready. Into a mode with servo periods it takes effect at the next boundary, its ports sending idle from
here on; into another it takes effect at once (R82). -/
def transDone (s : State) : State :=
  match s.pw.trans with
  | none => s
  | some m =>
    if s.pw.phase = .running ∧ s.pw.ready = false then
      if modeServo m then
        let t := if modeServo s.mode then s else portsOn s
        { t with pw := { t.pw with ready := true } }
      else enterNow m s
    else s

/-- A boundary puts the mode of a transition that is ready in force (R82). -/
def transBoundary (s : State) : State :=
  match s.pw.trans with
  | some m => if s.pw.ready then enterNow m s else s
  | none => s

/-- MODE_TRANSITION_DONE (R82). -/
def execModeTransitionDone (s : State) : Host.Outcome State Fault Refusal := .next (transDone s)

/-! ### Idle timers (R80) -/

/-- An idle timer of `sec` seconds has run; 0 means never. -/
def idleRun (s : State) (sec : Nat) : Bool := sec != 0 && decide (s.pw.idleFrom + ticksOf sec ≤ s.tb.tick)

/-- STANDBY_IDLE_EXPIRY (R80). -/
def execStandbyIdleExpiry (s : State) : Host.Outcome State Fault Refusal :=
  .next (if s.pw.phase == .running && s.mode == .standby && (heldCars s).isEmpty && idleRun s (s.get F.PCM_IDLE.STBY_IDLE) then
    { s with pw := { s.pw with stbyExp := true } } else s)

/-- SERVICE_IDLE_EXPIRY (R80). -/
def execServiceIdleExpiry (s : State) : Host.Outcome State Fault Refusal :=
  .next (if s.pw.phase == .running && s.mode == .service && (heldCars s).isEmpty && s.bss.res.isEmpty &&
      idleRun s (s.get F.PCM_IDLE.SVC_IDLE) then
    { s with pw := { s.pw with svcExp := true } } else s)

/-! ### Wake sources (R79, R93; Table 3.5) -/

/-- An enabled wake source wakes a Dormant device. -/
def wakeBy (cause : Nat) (enabled : Bool) (s : State) : State :=
  if s.pw.phase = .running ∧ s.mode = .dormant ∧ s.pw.trans = none ∧ enabled = true then
    { s with pw := { s.pw with wakeCause := cause, trans := some .watch, trigger := 2 } }
  else s

/-- A spine wake pulse of at least 0.5 ms; outside Dormant it sets WAKE_RX (17 R533). -/
def spineWake (p : Nat) (s : State) : State :=
  if s.awake then s.ev F.FAB_LINK_EVENT.WAKE_RX else wakeBy (1 + p) (s.bit F.PCM_WAKE_CFG.SP_EN p) s

/-- SPINE_WAKE_DETECT (R533). -/
def execSpineWakeDetect (port : Fin 4) (s : State) : Host.Outcome State Fault Refusal := .next (spineWake port.val s)

/-- LB_ENERGY_DETECT (R533). -/
def execLbEnergyDetect (port : Fin 2) (s : State) : Host.Outcome State Fault Refusal :=
  .next (wakeBy (5 + port.val) (s.bit F.PCM_WAKE_CFG.LB_EN port.val) s)

/-- FIELD_WAKE_EDGE (R79). -/
def execFieldWakeEdge (group : Fin 4) (s : State) : Host.Outcome State Fault Refusal :=
  .next (wakeBy (7 + group.val) (s.bit F.PCM_WAKE_CFG.IN_EN group.val) s)

/-- The holdover counter reaches PCM_ALARM seconds after Dormant was entered; 0 disables the alarm. -/
def timeAlarm (s : State) : State := wakeBy 11 (s.pw.alarm.any (fun t => decide (t ≤ s.tb.tick))) s

/-- TIME_ALARM (R79). -/
def execTimeAlarm (s : State) : Host.Outcome State Fault Refusal := .next (timeAlarm s)

/-- CLOCK_STOP_DETECT (R93). -/
def execClockStopDetect (s : State) : Host.Outcome State Fault Refusal := .next (wakeBy 12 true s)

/-! ### Notices (R84, Table 3.2) -/

/-- A wake notice: pending in Watch and Standby; the idle timers restart (R80, R84). -/
def wakeNotice (s : State) : State :=
  if isSection s then
    idleRestart { s with pw := { s.pw with wakePend := s.pw.wakePend || decide (s.mode = Mode.watch ∨ s.mode = Mode.standby) } }
  else s

/-- WAKE_NOTICE (R84). -/
def execWakeNotice (h : Hdr) (p : WakePl) (s : State) : Host.Outcome State Fault Refusal :=
  .next (receive 9 h (.wake p) wakeNotice s)

/-- A rescue notice from a neighbour: it triggers Rescue from Standby and Service. -/
def rescueNotice (src reason : Nat) (s : State) : State :=
  let g := s.conf.geom
  if (g.below.toList ++ g.above.toList).any (fun n => n.id == src) && (s.mode == .standby || s.mode == .service) then
    { s with pw := { s.pw with rescuePend := some reason } }
  else s

/-- RESCUE (R63). -/
def execRescue (h : Hdr) (reason : Nat) (s : State) : Host.Outcome State Fault Refusal :=
  .next (receive 14 h (.rescue ⟨reason⟩) (rescueNotice h.src reason) s)

end Sys2Proof.Machine
end

