-- ==== Sys2Proof/Machine/Period.lean ====
section
/-!
DEFINITION. The servo period (02 R41 to R51; 07 R205 to R218): the boundary, the compute window, and the split.
-/

namespace Sys2Proof.Machine

open Sys2Proof

/-! ### The boundary (R41, R43 to R46; 19 R579) -/

/-- The number of the boundary that fires: the next one while servo periods run, none skipped or repeated, else that of the present
time, whatever number it carries (19 R579). -/
def nextK (s : State) : Nat := if s.servoOn then s.tb.next else s.nowNs / s.tsNs

/-- Boundary k fires (R41; 19 R579). -/
def boundaryFires (s : State) : State := { s with tb := { s.tb with k := nextK s, next := nextK s + 1 } }

/-- Slot g has not reached END by its limit: its run, if one goes on, is stopped, and the slot counts as overrun (R43, R207). -/
def slotShort (g : Nat) (s : State) : State :=
  match (s.slot g).run with
  | .done | .overran => s
  | .waiting => countOverrun g (markRun g .overran s)
  | .running =>
    match runOf s (engOf g) with
    | some r => stopRun (engOf g) r s
    | none => countOverrun g (markRun g .overran s)

/-- The enabled slots of engines that are not halted, for which `p` holds: a halted engine's slots change no count (06 R197). -/
def liveSlots (s : State) (p : Nat → Bool) : List Nat := (enabledSlots s).filter (fun g => !halted s (engOf g) && p g)

/-- Every slot is at its limit. -/
def slotsAtLimit (p : Nat → Bool) (s : State) : State := s.forL (liveSlots s p) slotShort

/-- Drive channels with an enabled slot bound to them. -/
def slotChans (s : State) : List Nat := ((enabledSlots s).filter (fun g => slotKind s g == 2)).map (slotBind s)

/-- Both demands of channel n as latched. -/
def latchChan (s : State) (m : List (Nat × Word)) (n : Nat) : List (Nat × Word) :=
  smSet 0 (smSet 0 m (n * 2) (chanDemand s n 0)) (n * 2 + 1) (chanDemand s n 1)

/-- Every demand port is latched, whatever the configuration in force makes of its channel: one that this boundary enables converts
what its ports hold here (R43, R44; 09 Table 9.1). A channel without a slot has demands of 0. -/
def latchDemands (s : State) : State :=
  { s with tide := { s.tide with latched := (slotChans s).foldl (latchChan s) [] } }

/-- A new period: every slot has its run to come. -/
def freshRuns (s : State) : State :=
  let t := { s with tide := { s.tide with runs := [], stage := .link } }
  t.forL (enabledSlots t) (markRun · .waiting)

/-- What the boundary does while servo periods run: slots short of END, latching, hand-overs, conversion, frames, transactions, admitted
moves (R43 to R46; 07 R222, R225; 10 R313, R331; 12 R385). -/
def servoBoundary (s : State) : State :=
  let a := latchDemands (slotsAtLimit (fun _ => true) s)
  let b := (haltBoundary (updateApply a)).forN 8 hoBoundary
  let c := noteSto (convertAll (b.forN 128 modeHoLatch))
  let d := slkBoundary (stoA c) (stoB c) (retryGrants c)
  freshRuns (bssStart (standAnalog (d.forN 8 serBoundary)))

/-- Triggers at a boundary of a running mode (03 R64, R67, R76, R80). -/
def servoTriggers (s : State) : State := if s.servoOn then rescuePower (evaluateModes (idleHold (keyStop s))) else s

/-- SERVO_PERIOD_BOUNDARY, once the clock has reached it (R41): in every mode but Dormant a boundary applies updates and a committed
safety set (04 R119, 05 R151), and a transition that is ready takes effect (03 R82); servo stages run in the running modes only, and
where they do not the period's telegrams leave at once, else at its compute window (16 R515). -/
def boundary (s : State) : State :=
  if s.awake && boundaryDue s then
    let t := transBoundary ((spsGovern (boundaryFires s)).ev F.TIM_EVENT.PERIOD)
    servoTriggers (if s.servoOn then servoBoundary t else sendTelegrams (haltBoundary (updateApply t)))
  else s

/-- SERVO_PERIOD_BOUNDARY (R43). -/
def execServoPeriodBoundary (s : State) : Host.Outcome State Fault Refusal := .next (boundary s)

/-! ### The compute window (R47): stages 3 and 4 -/

/-- Stage 3: feedback; then the owner hand-overs it starts, and the comparisons before phase A (07 R226, R229). -/
def feedbackStage (s : State) : State := ((stage3 s).forN 8 ownerHoStart).forN 8 ownerHoCompare

/-- Stage 4: axes, the compares on them, the door units, and the arrivals of the stop scheduler. -/
def trajectoryStage (s : State) : State := bssArrivals ((compareStage true (s.forN 8 axisStage4)).forN 2 doorStage4)

/-- The window opens once every port's return is dealt with; the telegrams of the period carry its evaluation (16 R515). -/
def windowOpen (s : State) : State :=
  if windowReady s then
    let t := releaseRecords (powerSample (trajectoryStage (feedbackStage (retryGrants s))))
    sendTelegrams { t with tide := { t.tide with stage := .phaseA } }
  else s

/-- COMPUTE_WINDOW_OPEN (R47). -/
def execComputeWindowOpen (s : State) : Host.Outcome State Fault Refusal := .next (windowOpen s)

/-! ### The split (R48, R49, R647; 07 R207, R213 to R218) -/

/-- Shares of this period, for own cars and from neighbours; SEGSTAT to the owners served. -/
def shareStage (s : State) : State :=
  let segs := ownSegs s.conf.geom
  let a := (s.forN 8 ownerHoTurn).forL segs (fun x t => noShare x.chan t)
  let b := a.forL (ownedCars a) splitOwned
  let c := b.forL segs splitDue
  c.forL (heldCars c) segstatSend

/-- The held cars whose arrays overlap one segment, where more than one does (01 R31). -/
def doubledCars (s : State) : List Nat :=
  match (allSegs s.conf.geom).find? (sharedSeg s) with
  | some x => ((heldCars s).filter (fun c => decide (0 < segOverlap x (s.car c)))).map (fun c => (s.car c).id)
  | none => []

/-- Two arrays over one segment are a car-separation violation (01 R31; 16 R504). -/
def separationCheck (s : State) : State :=
  match doubledCars s with
  | id :: l => safRefresh (carFault 1 38 id (id :: l) s)
  | [] => s

/-- The entries of cars whose owner changes at this split: at its claim the incoming device turns its entry into its own, and back
where a HO_FAIL notice has reached it (12 R399; 07 R229, R232). -/
def entriesTurn (s : State) : State :=
  s.forN 8 (fun c t =>
    match (t.car c).ho with
    | some h =>
      if h.kind == .ownerIn && h.back then claimEntry c false h.nb t
      else if h.kind == .ownerIn && h.stage == .blending && decide (h.h = t.tb.k) then claimEntry c true h.nb t
      else t
    | none =>
      match (t.car c).retTo with
      | some nb => claimEntry c false nb t
      | none => t)

/-- Phase A ends at SPLIT, the forces are shared, phase B follows. -/
def split (s : State) : State :=
  if s.servoOn && decide (s.tide.stage = .phaseA) then
    let t := slotsAtLimit (fun g => slotPhase s g == 0) s
    if isSection t then
      let u := sparesCheck (shareStage (entriesTurn t))
      separationCheck { u with tide := { u.tide with stage := .phaseB } }
    else { t with tide := { t.tide with stage := .phaseB } }
  else s

/-- FORCE_SPLIT (R213). -/
def execForceSplit (s : State) : Host.Outcome State Fault Refusal := .next (split s)

end Sys2Proof.Machine
end

