-- ==== Sys2Proof/Machine/Ecdsa.lean ====
section
/-!
DEFINITION. The signature of the application image (04 R107): ECDSA on the curve P-256 with SHA-256, as FIPS 186 and FIPS 180 define
them.
-/

namespace Sys2Proof.Machine

open Sys2Proof

/-! ### SHA-256 -/

/-- Rotation to the right. -/
def rotr (n : Nat) (x : Word) : Word := x.rotateRight n

/-- The first 32 bits of the fractional part of a root of a prime: `root` takes a number to its integer root. -/
def fracBits (root : Nat → Nat) (scale p : Nat) : Word := wd (root (p * scale))

/-- Integer cube root of a number below 2^105, bit by bit. -/
def cubeRoot (n : Nat) : Nat :=
  (List.range 36).foldl (fun r i => let q := r + 2 ^ (35 - i); if q * q * q ≤ n then q else r) 0

/-- Integer square root of a number below 2^74. -/
def squareRoot (n : Nat) : Nat :=
  (List.range 38).foldl (fun r i => let q := r + 2 ^ (37 - i); if q * q ≤ n then q else r) 0

/-- The first 64 primes. -/
def primes64 : List Nat := (List.range 312).filter (fun n => decide (2 ≤ n) && (List.range n).all (fun d => decide (d < 2) || n % d != 0))

/-- Round constants: cube roots of the first 64 primes. -/
def shaK : List Word := primes64.map (fracBits cubeRoot (2 ^ 96))

/-- Initial hash: square roots of the first 8 primes. -/
def shaInit : List Word := (primes64.take 8).map (fracBits squareRoot (2 ^ 64))

/-- Big-endian value of a byte string. -/
def beVal (bs : List Byte) : Nat := bs.foldl (fun n b => n * 256 + b.toNat) 0

/-- The message with its padding: a 1 bit, zeros, and its length in bits in 64 bits. -/
def shaPad (m : List Byte) : List Byte :=
  m ++ [0x80] ++ List.replicate ((119 - m.length % 64) % 64) 0 ++ (leBytes 8 (8 * m.length)).reverse

/-- Words of a block, big-endian. -/
def shaWords : List Byte → List Word
  | a :: b :: c :: d :: r => wd (beVal [a, b, c, d]) :: shaWords r
  | _ => []

/-- The message schedule, newest word first: 16 words of the block, then n more. -/
def shaSchedule : Nat → List Word → List Word
  | 0, w => w
  | n + 1, w =>
    let x := w.getD 14 0
    let y := w.getD 1 0
    let s0 := rotr 7 x ^^^ rotr 18 x ^^^ (x >>> 3)
    let s1 := rotr 17 y ^^^ rotr 19 y ^^^ (y >>> 10)
    shaSchedule n ((w.getD 15 0 + s0 + w.getD 6 0 + s1) :: w)

/-- The eight working variables. -/
structure ShaVars where
  a : Word
  b : Word
  c : Word
  d : Word
  e : Word
  f : Word
  g : Word
  h : Word
  deriving DecidableEq, Repr

/-- One round with its constant and schedule word. -/
def shaRound (v : ShaVars) (kw : Word × Word) : ShaVars :=
  let s1 := rotr 6 v.e ^^^ rotr 11 v.e ^^^ rotr 25 v.e
  let ch := (v.e &&& v.f) ^^^ (~~~v.e &&& v.g)
  let t1 := v.h + s1 + ch + kw.1 + kw.2
  let s0 := rotr 2 v.a ^^^ rotr 13 v.a ^^^ rotr 22 v.a
  let maj := (v.a &&& v.b) ^^^ (v.a &&& v.c) ^^^ (v.b &&& v.c)
  ⟨t1 + (s0 + maj), v.a, v.b, v.c, v.d + t1, v.e, v.f, v.g⟩

/-- One block into the hash. -/
def shaBlock (k : List Word) (v : ShaVars) (block : List Byte) : ShaVars :=
  let w := (shaSchedule 48 (shaWords block).reverse).reverse
  let r := (k.zip w).foldl shaRound v
  ⟨v.a + r.a, v.b + r.b, v.c + r.c, v.d + r.d, v.e + r.e, v.f + r.f, v.g + r.g, v.h + r.h⟩

/-- The blocks of a padded message, n of them. -/
def shaBlocks (k : List Word) : Nat → List Byte → ShaVars → ShaVars
  | 0, _, v => v
  | n + 1, m, v => shaBlocks k n (m.drop 64) (shaBlock k v (m.take 64))

/-- SHA-256 of a byte string, as a number of 256 bits. -/
def sha256 (m : List Byte) : Nat :=
  let p := shaPad m
  let i (n : Nat) := shaInit.getD n 0
  let v := shaBlocks shaK (p.length / 64) p ⟨i 0, i 1, i 2, i 3, i 4, i 5, i 6, i 7⟩
  [v.a, v.b, v.c, v.d, v.e, v.f, v.g, v.h].foldl (fun n w => n * 2 ^ 32 + w.toNat) 0

/-! ### The curve P-256 -/

/-- The field's prime. -/
def p256P : Nat := 2 ^ 256 - 2 ^ 224 + 2 ^ 192 + 2 ^ 96 - 1
/-- The order of the base point. -/
def p256N : Nat := 0xFFFFFFFF00000000FFFFFFFFFFFFFFFFBCE6FAADA7179E84F3B9CAC2FC632551
/-- Coefficient b; a is -3. -/
def p256B : Nat := 0x5AC635D8AA3A93E7B3EBBD55769886BC651D06B0CC53B0F63BCE3C3E27D2604B
/-- The base point. -/
def p256G : Nat × Nat :=
  (0x6B17D1F2E12C4247F8BCE6E563A440F277037D812DEB33A0F4A13945D898C296,
   0x4FE342E2FE1A7F9B8EE7EB4A7C0F9E162BCE33576B315ECECBB6406837BF51F5)

/-- b to the power e modulo m, over n bits of e. -/
def powMod (m b e : Nat) (n : Nat) : Nat :=
  (List.range n).foldl (fun r i => let q := r * r % m; if e.testBit (n - 1 - i) then q * b % m else q) 1

/-- Inverse modulo a prime m. -/
def invMod (m x : Nat) : Nat := powMod m (x % m) (m - 2) 256

/-- A point of the curve; none is the point at infinity. -/
abbrev CurvePt := Option (Nat × Nat)

/-- The point on the line of slope l through (x1, y1) and a point with abscissa x2, reflected. -/
def chordPt (l x1 y1 x2 : Nat) : CurvePt :=
  let x := (l * l + 2 * p256P - x1 - x2) % p256P
  some (x, (l * (x1 + p256P - x) + p256P - y1) % p256P)

/-- The sum of two points. -/
def addPt (a b : CurvePt) : CurvePt :=
  match a, b with
  | none, q => q
  | p, none => p
  | some (x1, y1), some (x2, y2) =>
    if x1 = x2 then
      if (y1 + y2) % p256P = 0 then none
      else chordPt (3 * (x1 * x1 + p256P - 1) * invMod p256P (2 * y1) % p256P) x1 y1 x2
    else chordPt ((y2 + p256P - y1) * invMod p256P (x2 + p256P - x1) % p256P) x1 y1 x2

/-- k times a point. -/
def mulPt (k : Nat) (q : CurvePt) : CurvePt :=
  (List.range 256).foldl (fun r i => let d := addPt r r; if k.testBit (255 - i) then addPt d q else d) none

/-- A point of the curve in affine coordinates. -/
def onCurve (x y : Nat) : Bool :=
  decide (x < p256P) && decide (y < p256P) && (y * y) % p256P == (x * x * x + (p256P - 3) * x + p256B) % p256P

/-! ### Verification -/

/-- The signature (r, s) of a hash verifies under the key (x, y). -/
def ecdsaVerify (x y hash r s : Nat) : Bool :=
  let w := invMod p256N s
  inR 1 (p256N - 1) r && inR 1 (p256N - 1) s && onCurve x y &&
  (match addPt (mulPt (hash * w % p256N) (some p256G)) (mulPt (r * w % p256N) (some (x, y))) with
   | some (v, _) => v % p256N == r
   | none => false)

/-- The image's signature: the key as x then y, the signature as r then s, 32 bytes each, big-endian (Table 4.3; for the key, whose form
the spec does not give, DESIGN CHOICE, log entry 19). -/
def ecdsaOk (key msg sig : List Byte) : Bool :=
  key.length == 64 && sig.length == 64 &&
    ecdsaVerify (beVal (key.take 32)) (beVal (key.drop 32)) (sha256 msg) (beVal (sig.take 32)) (beVal (sig.drop 32))

end Sys2Proof.Machine
end

