-- ==== Sys2Proof/Machine/Startup.lean ====
section
/-!
DEFINITION. Resets and the start-up sequence (04 R94 to R110, R115, R116; 03 R72, R87, R88; 18 R568; 21 R617, R618).
-/

namespace Sys2Proof.Machine

open Sys2Proof

/-! ### Resets (R94 to R98) -/

/-- Cause bits of SYS_RESET_CAUSE. -/
def causePor : Nat := 0x81
/-- Supply monitor. -/
def causeSupply : Nat := 2
/-- nRST. -/
def causePin : Nat := 4
/-- Software. -/
def causeSw : Nat := 8
/-- Life-cycle. -/
def causeLc : Nat := 16

/-- A reset starts (R96 to R98): the MRAM, the field dies, the holdover counter, the bar on Dormant of R92 and what the Fenced state
knows (18 R564; log entry 66) stay, everything else is at its reset value; every STO line is de-energised on the dies' reset channel. Causes add up until the release (R100). -/
def resetNow (cause : Nat) (s : State) : State :=
  let z := State.reset
  { z with
    pending := s.pending
    free := s.free
    nv := s.nv
    tb := { z.tb with tick := s.tb.tick, holdSec := s.tb.holdSec, holdCyc := s.tb.holdCyc }
    pw := { z.pw with bar := s.pw.bar, railsOut := s.pw.railsOut, alarm := s.pw.alarm }
    pins := { s.pins with usb := false }
    fab := { z.fab with newer := s.fab.newer }
    fio := { z.fio with
      dies := s.fio.dies
      links := s.fio.links.map (fun (e : Nat × StoLink) => (e.1, { e.2 with lines := 0 })) }
    conf := { Conf.init with causes := Nat.lor s.conf.causes cause, rail := s.conf.rail, resumed := s.conf.resumed && s.pw.phase == .inReset } }

/-- PD0 powers up: the holdover time is lost (R87, R100), and the TAP is in Test-Logic-Reset (21 R625). -/
def powerOn (s : State) : State :=
  let t := resetNow causePor { s with pw := { s.pw with railsOut := [], bar := false, alarm := none } }
  { t with
    tb := { t.tb with holdSec := 0, holdCyc := 0 }
    pins := { t.pins with tapIr := tapIdcode, tapDr := idcodeWord } }

/-- POWER_ON_RESET (R94). -/
def execPowerOnReset (s : State) : Host.Outcome State Fault Refusal := .next (powerOn s)

/-- Domains of the rails 0 to 9 (22 Table 22.4); VS5 and the PLLs stand with PD7. -/
def railPd (r : Nat) : List Nat :=
  match r with
  | 0 => [0]
  | 1 => [3]
  | 2 => [4]
  | 3 => [5, 6]
  | 4 => [1]
  | 5 => [2]
  | 6 => [7]
  | 7 => [8]
  | 8 => [9]
  | _ => [7]

/-- A rail is monitored while its domain is on (22 R630). -/
def railWatched (s : State) (r : Nat) : Bool := (railPd r).any (fun d => (pdOn s.mode s.pw.rescuePorts).testBit d)

/-- VS5 or a rail crosses a threshold outward or back (R88); VS5 below its low threshold sets VS5_WARN. -/
def railCross (r : Nat) (low beyond : Bool) (s : State) : State :=
  if railWatched s r then
    let t := { s with pw := { s.pw with
      railsOut := if beyond then smPut s.pw.railsOut r s.tb.tick else smErase s.pw.railsOut r } }
    if r == 0 && low && beyond && s.pw.phase == .running then t.ev F.PCM_EVENT.VS5_WARN else t
  else s

/-- SUPPLY_THRESHOLD_CROSS (R88). -/
def execSupplyThresholdCross (rail : Fin 10) (low beyond : Bool) (s : State) : Host.Outcome State Fault Refusal :=
  .next (railCross rail.val low beyond s)

/-- 50 us in ticks (R88). -/
def railTicks : Nat := 6250

/-- A rail has stayed beyond its threshold for 50 us. -/
def supplyReset (r : Nat) (s : State) : State :=
  match smFind s.pw.railsOut r with
  | some t =>
    if t + railTicks ≤ s.tb.tick then
      let u := resetNow causeSupply s
      { u with conf := { u.conf with rail := r } }
    else s
  | none => s

/-- SUPPLY_MONITOR_RESET (R88). -/
def execSupplyMonitorReset (rail : Fin 10) (s : State) : Host.Outcome State Fault Refusal := .next (supplyReset rail.val s)

/-- nRST has been low for `ns`: below 200 ns nothing happens, from 1 us it resets and is held low until the release, between the two
it may or may not reset (R94, R95). -/
def nrstLow (ns : Nat) (s : State) : State :=
  if ns < 200 then s
  else if ns < 1000 then
    let d := s.draw
    if d.1 % 2 = 1 then resetNow causePin d.2 else d.2
  else
    let t := resetNow causePin s
    { t with pins := { t.pins with nrst := false } }

/-- NRST_RESET (R95). -/
def execNrstReset (lowNs : Nat) (s : State) : Host.Outcome State Fault Refusal := .next (nrstLow lowNs s)

/-- R99: the modes SYS_RESET_REQ is accepted in. -/
def resetAllowed (s : State) : Bool :=
  match s.mode with
  | .watch | .lockout => true
  | .standby | .commissioning => !(heldCars s).any (recMoves s)
  | _ => false

/-- A completed SYS_RESET_REQ (R99); a refused write is ignored and recorded. -/
def resetReqOp (v : Word) (s : State) : State :=
  if bitOf v 0 then (if resetAllowed s then resetNow causeSw s else record 0 0 4 (items [s.mode.code]) s)
  else keepVal Reg.SYS_RESET_REQ v s

/-- SOFTWARE_RESET (R99). -/
def execSoftwareReset (core : Sender) (cpl : Word) (s : State) : Host.Outcome State Fault Refusal :=
  .next (cplWrite core Reg.SYS_RESET_REQ cpl resetReqOp s)

/-! ### Bank selection (R115) -/

/-- The bank chosen: bank, its content, whether by rule 2; none where the factory defaults are in force. -/
def chooseBank {α : Type} (sel : Option (Bool × Nat)) (bank : Bool → Option α) (ok : α → Bool) (gen : α → Nat) :
    Option (Bool × α × Bool) :=
  let good := fun b => (bank b).filter ok
  let rule2 : Option (Bool × α × Bool) :=
    match good false, good true with
    | some a, some b => if newerEpoch (gen b) (gen a) then some (true, b, true) else some (false, a, true)
    | some a, none => some (false, a, true)
    | none, some b => some (true, b, true)
    | none, none => none
  match sel with
  | some (b, g) =>
    match good b with
    | some x => if gen x = g then some (b, x, false) else rule2
    | none => rule2
  | none => rule2

/-- The factory-default safety set (R650; log entry 63 for the fields without a range). -/
def factorySps : SpsContent :=
  { SpsContent.blank with
    tsNs := 125000, key := 23, keyCf := 22, tPulse := 300, grpTo := [10, 10, 10, 10], linkATo := 10, linkBTo := 10
    vDz := 300000, tdLb := 1, vCarUp := 1, vCarDn := 1, sigPer := 1, tapeLsb := 1, tBrk := 50, ucmDist := 1 }

/-- The SPS is chosen: its registers, and the set both paths hold. -/
def chooseSps (s : State) : State :=
  match chooseBank (selectorNames (mramWord s spsSelector)) (spsBankOf s) spsBankOk (fun (b : SpsBank) => b.gen) with
  | some (b, x, fb) =>
    let t := ((s.put F.SAF_SPS_GEN.GEN x.gen).putB F.SAF_SPS_GEN.BANK b).setReg Reg.SAF_SPS_WORD x.check
    let u := (t.putB F.CFG_STAT.SPS_BANK b).putB F.CFG_STAT.SPS_FALLBACK fb
    let v := { u with conf := { u.conf with sps := x.content } }
    if fb then v.ev F.CFG_EVENT.FALLBACK else v
  | none =>
    ({ s with conf := { s.conf with sps := factorySps } }.ev F.CFG_DEFAULT.SPS).ev F.CFG_EVENT.DEFAULT

/-- The OPS is chosen, against the SPS just chosen (R114). -/
def chooseOps (s : State) : State :=
  match chooseBank (selectorNames (mramWord s opsSelector)) (opsBankOf s) (fun b => opsBankOk s b (some s.conf.sps))
      (fun (b : OpsBank) => b.gen) with
  | some (b, x, fb) =>
    let t := (s.putB F.CFG_STAT.OPS_BANK b).putB F.CFG_STAT.OPS_FALLBACK fb
    let o := x.content
    let u := { t with conf := { t.conf with ops := o, geom := o.geom, tsNs := o.tsNs } }
    if fb then u.ev F.CFG_EVENT.FALLBACK else u
  | none => (s.ev F.CFG_DEFAULT.OPS).ev F.CFG_EVENT.DEFAULT

/-- Both sets; in Blank their steps are skipped and the defaults are in force (R105; log entry 64). -/
def chooseSets (s : State) : State :=
  if s.nv.lc.state = .blank then
    ((({ s with conf := { s.conf with sps := factorySps } }.ev F.CFG_DEFAULT.SPS).ev F.CFG_DEFAULT.OPS)).ev F.CFG_EVENT.DEFAULT
  else chooseOps (chooseSps s)

/-! ### The application image (R106 to R110) -/

/-- Offset of the image region. -/
def imgBase : Nat := 0x1000000
/-- Size of the image region. -/
def imgSize : Nat := 0x1000000

/-- A word of the image region. -/
def imgWord (s : State) (off : Nat) : Nat := leAt s.nv.mram (imgBase + off) 4

/-- Body length L. -/
def imgLen (s : State) : Nat := imgWord s 0x0C

/-- Every field after the magic word meets Table 4.3. -/
def imgFields (s : State) : Bool :=
  imgWord s 4 == 3 && decide (imgWord s 8 < 2) && inR 1 16777088 (imgLen s) && imgLen s % 4 == 0 &&
    decide (imgWord s 0x10 < imgLen s) && imgWord s 0x10 % 4 == 0 && (mramBytes s (imgBase + 0x18) 40).all (fun b => b == 0)

/-- The signature verifies under the image public key (R107). -/
def imgSigned (s : State) : Bool :=
  ecdsaOk s.nv.lc.pubKey (mramBytes s imgBase (0x40 + imgLen s)) (mramBytes s (imgBase + 0x40 + imgLen s) 64)

/-- The role of the image. -/
def imgRole (s : State) : Role := if imgWord s 8 = 1 then .car else .sect

/-- The role fits the operational set in force: its role-dependent entries pass their checks (R109; the default set carries none,
R116). -/
def roleFits (s : State) (r : Role) : Bool := s.flag F.CFG_DEFAULT.OPS || opsForRole s s.conf.ops r (some s.conf.sps)

/-- CFG_STAT.IMG: 0 accepted, 1 none, 2 field, 3 signature, 4 role. In Blank, where the step is skipped (R105), it shows 1. DESIGN
CHOICE (log entry 70). -/
def imgCode (s : State) : Nat :=
  if s.nv.lc.state = .blank ∨ s.pins.boot = 1 ∨ imgWord s 0 ≠ 0x4B524849 then 1
  else if imgFields s = false then 2
  else if imgSigned s = false then 3
  else if roleFits s (imgRole s) = false then 4
  else 0

/-- The image is accepted, or the loader takes its place with no role (R110). -/
def imageStep (s : State) : State :=
  let c := imgCode s
  let t := s.put F.CFG_STAT.IMG c
  if c = 0 then { t with conf := { t.conf with role := some (imgRole s), imgVersion := imgWord s 0x14 } }
  else { t with conf := { t.conf with role := none, loader := true } }

/-! ### The sequence (R101 to R105) -/

/-- A failed start-up self-test (R103; 15 Table 15.4, class 7): path and test number are recorded. -/
def selfTestFailed (path : Nat) (test : Option (Fin 256)) (s : State) : State :=
  match test with
  | none => s
  | some n =>
    let t := recordSafety 0 5 (items [path, n.val]) s
    if t.saf.latched then t else firstFault path 7 0 t

/-- SYS_RESET_CAUSE, SYS_STRAP and what the life-cycle record shows. -/
def releaseRegs (s : State) : State :=
  let cause := Nat.lor s.conf.causes (if s.conf.causes.testBit 1 then s.conf.rail * 2 ^ 8 else 0)
  let a := (s.setReg Reg.SYS_RESET_CAUSE (wd cause)).putB F.SYS_RESET_CAUSE.LOCKOUT_KEPT s.nv.lc.lockout
  let b := (a.put F.SYS_STRAP.BOOT s.pins.boot).put F.CFG_STAT.LC s.nv.lc.state.code
  let c := b.putB F.CFG_STAT.WIPE_RESUMED s.conf.resumed
  proofSet c.nv.lc.proof { c with conf := { c.conf with causes := 0, rail := 0 } }

/-- The clock at start-up (19 R587). -/
def clockStart (s : State) : State := if s.flag F.SYS_RESET_CAUSE.HOLD_LOST then clockFromZero s else clockFromHoldover s

/-- Data of START (20 Table 20.3). -/
def startItems (s : State) : List Nat :=
  let sb := s.flag F.CFG_STAT.SPS_BANK
  let ob := s.flag F.CFG_STAT.OPS_BANK
  let og := if s.flag F.CFG_DEFAULT.OPS then 0 else imageGen s (opsBase ob)
  [(s.reg Reg.SYS_RESET_CAUSE).toNat, (s.reg Reg.CFG_STAT).toNat, b2n sb, s.get F.SAF_SPS_GEN.GEN, b2n ob, og, s.conf.imgVersion]

/-- The first mode is Lock-out because start-up found a failure: flag, event and record (R103, R104; 15 R475). -/
def startLockout (s : State) : State :=
  if s.nv.lc.lockout then s
  else
    recordSafety 0 0x10 (items [(s.reg Reg.SAF_FAULT).toNat])
      ({ s with nv := { s.nv with lc := { s.nv.lc with lockout := true } } }.ev F.SAF_EVENT.LOCKOUT)

/-- The first mode is entered (R72, R98): no transition of Table 3.2, so neither MODE_CHG nor a record tells of it. -/
def firstMode (m : Mode) (s : State) : State :=
  let t := { s with
    pw := { s.pw with phase := .running, mode := m, idleFrom := s.tb.tick, entryFrom := s.tb.tick, alarm := none }
    pins := { s.pins with usb := true }
    fab := { s.fab with settle := some s.tb.tick } }
  let u := announceAll (armNext ((loadOps t).forN 8 portHeld))
  queueStart (items (startItems u)) u

/-- The steps of Table 4.2 from the boot scan on. `core`, `ecl`: the test number each self-test failed with; `xtal`: the 32.768 kHz
clock was confirmed. -/
def startSteps (core ecl : Option (Fin 256)) (xtal : Bool) (s : State) : State :=
  let a := bootScan (clockStart s)
  let b := if xtal then { a with pw := { a.pw with bar := false } }
    else { a with pw := { a.pw with bar := true } }.ev F.SYS_RESET_CAUSE.XTAL_FAIL
  let c := selfTestFailed 2 ecl (selfTestFailed 1 core b)
  let failed := core.isSome || ecl.isSome || !xtal
  let d := imageStep (chooseSets c)
  let e := { d with saf := { d.saf with eclFail := ecl.isSome, coreDown := core.isSome } }
  let f := if failed then startLockout e else e
  firstMode (if f.nv.lc.lockout || f.nv.lc.fenced then .lockout else .watch) f

/-- Reset is released (R101): a set wipe marker resumes the wipe where it stood (R126), a set take-over marker the copy (18 R568), and a reset then
follows; otherwise the sequence runs. -/
def release (boot : Fin 4) (core ecl : Option (Fin 256)) (xtal : Bool) (s : State) : State :=
  if s.pw.phase = .inReset ∧ s.conf.causes ≠ 0 then
    let p := s.pins
    let t := releaseRegs { s with pins := { p with
      boot := boot.val, nrst := true
      tapIr := if p.nrst then p.tapIr else tapIdcode
      tapDr := if p.nrst then p.tapDr else idcodeWord } }
    if t.nv.lc.wipe.isSome then { t with conf := { t.conf with wiping := true, resumed := true, wipeFrom := t.tb.tick } }
    else if t.nv.lc.take.isSome then t
    else startSteps core ecl xtal t
  else s

/-- RESET_RELEASE (R101). -/
def execResetRelease (boot : Fin 4) (coreFail eclFail : Option (Fin 256)) (xtalOk : Bool) (s : State) :
    Host.Outcome State Fault Refusal :=
  .next (release boot coreFail eclFail xtalOk s)

/-! ### The loader (R110, R124) -/

/-- The loader takes what Benrex Studio sends: it runs, in Watch, Commissioning or Lock-out, and the key input is active. -/
def loaderOpen (s : State) : Bool :=
  s.pw.phase == .running && s.conf.loader && (s.mode == .watch || s.mode == .commissioning || s.mode == .lockout) && keyOn s

/-- A new image reaches the image region; the loader ends with a software reset. Over the fabric only while not Fenced (R110). -/
def loaderImage (usb : Bool) (img : List Byte) (s : State) : State :=
  if loaderOpen s && (usb || !s.nv.lc.fenced) then resetNow causeSw (mramPut imgBase (img.take imgSize) s) else s

/-- LOADER_IMAGE_RECEIVE (R110). -/
def execLoaderImageReceive (usb : Bool) (img : List Byte) (s : State) : Host.Outcome State Fault Refusal :=
  .next (loaderImage usb img s)

/-! ### Life-cycle changes (R124 to R127) -/

/-- The transitions of Table 4.6 that CFG_LC_CMD makes. -/
def lcAllowed (now dst : LifeCycle) : Bool :=
  match now, dst with
  | .provisioned, .commissioned | .commissioned, .provisioned | .provisioned, .retired | .commissioned, .retired => true
  | _, _ => false

/-- A change begins: the wipe-pending marker is written and the wipe runs (R125). -/
def lcStart (target : LifeCycle) (img : Bool) (s : State) : State :=
  { s with
    nv := { s.nv with lc := { s.nv.lc with wipe := some ⟨target, img, wipeStart⟩ } }
    conf := { s.conf with wiping := true, wipeFrom := s.tb.tick } }

/-- The life-cycle state of a code. -/
def lcOfCode (n : Nat) : LifeCycle :=
  match n with
  | 0 => .blank
  | 1 => .provisioned
  | 2 => .commissioned
  | _ => .retired

/-- A completed CFG_LC_CMD (R124, R118, R127). -/
def lcCmdOp (v : Word) (s : State) : State :=
  let t := keepVal Reg.CFG_LC_CMD v s
  let dst := lcOfCode (getF F.CFG_LC_CMD.TARGET.bits v)
  if s.mode = .commissioning ∧ lcAllowed s.nv.lc.state dst = true ∧ cfgBusy s = false then
    lcStart dst (bitOf v 2 || dst == .retired) t
  else cfgRefuse t

/-- CFG_LC_CMD (R124). -/
def execCfgLcCmd (core : Sender) (cpl : Word) (s : State) : Host.Outcome State Fault Refusal :=
  .next (cplWrite core Reg.CFG_LC_CMD cpl lcCmdOp s)

/-- A Blank device is provisioned or retired through the loader, over USB with the key active; the fabric ID and the image public key
are written with the marker, before the wipe (R125 does not place them: DESIGN CHOICE, log entry 97), the epoch is 0 (R124, Table 4.6;
18 R546). -/
def loaderChange (retire : Bool) (id : Nat) (key : List Byte) (s : State) : State :=
  if loaderOpen s && s.nv.lc.state == .blank && !cfgBusy s then
    if retire then lcStart .retired true s
    else lcStart .provisioned true { s with nv := { s.nv with lc := { s.nv.lc with
      fabricId := id, actId := id, pubKey := key, epoch := 0 } } }
  else s

/-- LOADER_LIFE_CYCLE_CHANGE (R124). -/
def execLoaderLifeCycleChange (retire : Bool) (fabricId : Fin 16384) (pubKey : List Byte) (s : State) :
    Host.Outcome State Fault Refusal :=
  .next (loaderChange retire fabricId.val pubKey s)

/-- The new state is written and the marker cleared; retiring erases the IDs, the key, the epoch, the Fenced state and the take-over
marker (Table 4.6; 18 R546). -/
def lcDone (target : LifeCycle) (r : LcRecord) : LcRecord :=
  let t := { r with state := target, wipe := none }
  if target = .retired then { t with fabricId := 0, actId := 0, epoch := 0, fenced := false, pubKey := [], take := none, chgOut := none }
  else t

/-- The wipe completes: what is left is written with zero, and a life-cycle reset follows (R125). -/
def wipeDone (s : State) : State :=
  match s.nv.lc.wipe with
  | some w =>
    if s.conf.wiping then
      let t := mramZero w.progress (wipeEnd w.img - w.progress) s
      resetNow causeLc { t with nv := { t.nv with lc := lcDone w.target t.nv.lc } }
    else s
  | none => s

/-- LIFE_CYCLE_WIPE_DONE (R125). -/
def execLifeCycleWipeDone (s : State) : Host.Outcome State Fault Refusal := .next (wipeDone s)

end Sys2Proof.Machine
end

