-- ==== Sys2Proof/Machine/Standby.lean ====
section
/-!
DEFINITION. Standby take-over (18 R565 to R570): adopting a covered ID, copying the shadow images, and giving an adopted ID up.
-/

namespace Sys2Proof.Machine

open Sys2Proof

/-! ### Shadows (R565) -/

/-- Bytes written to the application-data area; a shadow they meet no longer verifies. -/
def appWrite (off : Nat) (bs : List Byte) (s : State) : State := mramPut off bs s

/-! ### Taking over (R566, R567) -/

/-- A watched peer of this ID is DEAD, RANK x 20 ms have passed, and nothing of R566 has been accepted since. -/
def takeDue (s : State) (id rank : Nat) : Bool :=
  (List.range 32).any (fun i =>
    watches s i id && (peerOf s i).st == 2 && !(peerOf s i).seen && decide ((peerOf s i).dead + rank * 2500000 ≤ s.tb.tick))

/-- Cover slot j takes over: marker, acting ID and epoch written, TAKEOVER sent, CHG_OUT on (Table 18.4). -/
def takeStart (j : Nat) (s : State) : State :=
  let id := s.get (F.FAB_COVER.ID j)
  let lc := s.nv.lc
  if s.mode = .watch ∧ s.awake = true ∧ isSection s = true ∧ commissioned s = true ∧ lc.fenced = false ∧ lc.take = none ∧
      s.flag (F.FAB_COVER.EN j) = true ∧ takeDue s id (s.get (F.FAB_COVER.RANK j)) = true then
    let e := ((epochFor s id).getD 0 + 1) % 2 ^ 16
    let t := { s with
      nv := { s.nv with lc := { lc with
        take := some ⟨id, e, j, lc.epoch⟩, actId := id, epoch := e, chgOut := some (s.get (F.FAB_COVER.CHG_OUT j)) } }
      fab := { s.fab with taking := some j } }
    let u := t.sendGroup 8 (.takeover ⟨id, e, lc.fabricId, s.nv.serial⟩)
    announceAll (record 9 0 0x25 (items [id, e]) (u.ev F.FAB_NET_EVENT.TAKEOVER))
  else s

/-- TAKEOVER_START (R566). -/
def execTakeoverStart (cover : Fin 3) (s : State) : Host.Outcome State Fault Refusal := .next (takeStart cover.val s)

/-- The bank image at `src` is copied to `dst`; where there is none, nothing verifies there. -/
def copyBank (src room dst : Nat) (s : State) : State :=
  match bankAt s.nv.mram src room with
  | some bs => mramPut dst bs s
  | none => breakSeal dst s

/-- The shadow OPS goes into the inactive bank, and its selector carries the shadow's generation. -/
def copyOps (j : Nat) (s : State) : State :=
  let dst := (opsTarget s).1
  mramPut opsSelector (leBytes 4 (selectorWord (imageGen s (shadowBase j)) dst)) (copyBank (shadowBase j) opsBankSize (opsBase dst) s)

/-- The shadow SPS likewise. -/
def copySps (j : Nat) (s : State) : State :=
  let dst := (spsTarget s).1
  mramPut spsSelector (leBytes 4 (selectorWord (imageGen s (shadowSps s j)) dst))
    (copyBank (shadowSps s j) spsBankSize (spsBase dst) s)

/-- Both images are copied, the selectors written and the marker cleared; a software reset follows (R567). At start-up the copy runs
before the parameter-set step, with the same end (R568; log entry 65). -/
def takeCopied (s : State) : State :=
  match s.nv.lc.take with
  | some m =>
    if s.nv.lc.wipe.isSome || s.conf.causes != 0 then s
    else
      let t := copySps m.slot (copyOps m.slot s)
      resetNow causeSw { t with nv := { t.nv with lc := { t.nv.lc with take := none } } }
  | none => s

/-- TAKEOVER_COPY_DONE (R567). -/
def execTakeoverCopyDone (s : State) : Host.Outcome State Fault Refusal := .next (takeCopied s)

/-! ### Giving up an adopted ID (R570) -/

/-- Both selectors are erased and no bank verifies, so that rule 3 of R115 applies. -/
def dropSets (s : State) : State :=
  let t := mramPut opsSelector (leBytes 4 0) (mramPut spsSelector (leBytes 4 0) s)
  breakSeal (opsBase true) (breakSeal (opsBase false) (breakSeal (spsBase true) (breakSeal (spsBase false) t)))

/-- A completed FAB_STBY_CMD (R570, Table 18.5). -/
def stbyCmdOp (core : Sender) (v : Word) (s : State) : State :=
  let t := keepVal Reg.FAB_STBY_CMD v s
  if core.val ≠ 4 then netOutcome 2 1 t
  else if keyOn s = false then netOutcome 2 2 t
  else if ¬(s.mode = .watch ∨ s.mode = .lockout) then netOutcome 2 4 t
  else if s.nv.lc.actId = s.nv.lc.fabricId then netOutcome 2 3 t
  else if getF F.FAB_STBY_CMD.OP.bits v ≠ 1 then netOutcome 2 6 t
  else
    resetNow causeSw (dropSets { t with nv := { t.nv with lc := { t.nv.lc with
      chgOut := none, actId := t.nv.lc.fabricId, take := none } } })

/-- STANDBY_GIVE_UP_ID (R570). -/
def execStandbyGiveUpId (core : Sender) (cpl : Word) (s : State) : Host.Outcome State Fault Refusal :=
  .next (cplWrite core Reg.FAB_STBY_CMD cpl (stbyCmdOp core) s)

end Sys2Proof.Machine
end

