-- ==== Sys2Proof/Machine/Bus.lean ====
section
/-!
DEFINITION. Bus accesses without a row of their own: what every register read returns (05 R132, R135, R139, R148; the
views the block chapters give of state that is no plain register), what a 32-bit write to any address does (05 R128 to
R141, R153; 23 R640 to R644), interrupt claims (23 R645).
-/

namespace Sys2Proof.Machine

open Sys2Proof

/-! ### Interrupt claims (23 R645) -/

/-- Routing byte of event bit `b` of source register `src` = 16 B + r (R644). -/
def routeByte (s : State) (src b : Nat) : Nat :=
  (s.reg (0x400d0000 + 0x20 * src + 4 * (b / 4))).toNat / 2 ^ (8 * (b % 4)) % 256

/-- The asserted sources routed to core c: priority, 16 B + r and bit, in ascending 16 B + r and then bit. -/
def claims (s : State) (c : Nat) : List (Nat × Nat × Nat) :=
  (List.range 15).flatMap (fun b =>
    (eventRegs b).zipIdx.flatMap (fun e =>
      let w := s.reg e.1.1 &&& wd e.1.2
      if w = 0 then []
      else (List.range 32).filterMap (fun i =>
        let r := routeByte s (16 * b + e.2) i
        if w.getLsbD i && r.testBit 7 && decide (r / 16 % 4 = c) then some (r % 8, 16 * b + e.2, i) else none)))

/-- The claim of highest priority; of equal ones the first. -/
def bestClaim : List (Nat × Nat × Nat) → Option (Nat × Nat × Nat)
  | [] => none
  | x :: l =>
    match bestClaim l with
    | none => some x
    | some y => if x.1 < y.1 then some y else some x

/-- INT_CLAIMc (R645). -/
def claimWord (s : State) (c : Nat) : Word :=
  match bestClaim (claims s c) with
  | none => 0
  | some (p, r, b) => wd (2 ^ 31 + r * 2 ^ 8 + p * 2 ^ 5 + b)

/-! ### Views -/

/-- A register array whose words are computed: base, count, stride and the word of each index. -/
structure View where
  base : Nat
  n : Nat
  stride : Nat
  word : Nat → Word

/-- The first view that holds address `a`. -/
def findView (a : Nat) : List View → Option Word
  | [] => none
  | v :: l =>
    if v.base ≤ a ∧ (a - v.base) % v.stride = 0 ∧ (a - v.base) / v.stride < v.n then some (v.word ((a - v.base) / v.stride))
    else findView a l

/-- SYS_ID: the CODE field tells HX128-E from HX128-A (04). -/
def sysIdWord (s : State) : Word := wd (0x01280003 + b2n s.nv.codeE * 16)

/-- Views of SYS, PCM and TAC. -/
def viewsA (s : State) : List View :=
  [⟨Reg.SYS_ID, 1, 4, fun _ => sysIdWord s⟩,
   ⟨Reg.SYS_UPD_STAT, 1, 4, fun _ => updStatWord s⟩,
   ⟨Reg.PCM_MODE_STAT, 1, 4, fun _ => modeStatWord s⟩,
   ⟨Reg.TAC_PERIOD, 1, 4, fun _ => wd (s.tsNs % 2 ^ 19)⟩,
   ⟨Reg.TAC_HO_CAR 0, 8, 4, fun c => hoCarWord s c⟩]

/-- Views of TRJ and SLK. -/
def viewsB (s : State) : List View :=
  [⟨Reg.TRJ_AXIS_STAT 0, 8, 0x40, fun n => axisStatWord s n⟩,
   ⟨Reg.TRJ_AXIS_MOVE 0, 8, 0x40, fun n => axisMoveWord s n⟩,
   ⟨Reg.TRJ_AXIS_REM 0, 8, 0x40, fun n => axisRemWord s n⟩,
   ⟨Reg.TRJ_LAT_STAT, 1, 4, fun _ => s.reg Reg.TRJ_LAT_STAT ||| wd (latArmed s)⟩,
   ⟨Reg.TRJ_LAT_WAIT, 1, 4, fun _ => wd (latWait s)⟩,
   ⟨Reg.TRJ_DOOR_STAT 0, 2, 0x40, fun d => doorStatWord s d⟩,
   ⟨Reg.SLK_PORT_DRET 0, 8, 0x20, fun p => wd (dRet s p)⟩,
   ⟨Reg.SLK_CAP_STAT, 1, 4, fun _ => capStatWord s⟩,
   ⟨Reg.SLK_POOL, 1, 4, fun _ => poolWord s⟩,
   ⟨Reg.SLK_CAP_DATA 0, 16, 4, fun w => capDataWord s w⟩]

/-- Views of FIO, SAF and FAB. -/
def viewsC (s : State) : List View :=
  [⟨Reg.FIO_SAFE_MAP, 1, 4, fun _ => safeMapWord s⟩,
   ⟨Reg.SAF_STAT, 1, 4, fun _ => safStatWord s⟩,
   ⟨Reg.FAB_ID, 1, 4, fun _ => fabIdWord s⟩,
   ⟨Reg.FAB_EPOCH, 1, 4, fun _ => fabEpochWord s⟩,
   ⟨Reg.FAB_NET_STAT, 1, 4, fun _ => netStatWord s⟩,
   ⟨Reg.FAB_PEER_STAT 0, 32, 8, fun i => peerStatWord s i⟩,
   ⟨Reg.FAB_MRT 0, 256, 4, fun m => mrtWord s m (s.pendReg (Reg.FAB_MRT m))⟩]

/-- Views of TIM, BSS and INT; the seconds pairs are the reader's latched copies (19 R586). -/
def viewsD (s : State) (core : Sender) : List View :=
  [⟨Reg.TIM_NOW_NS, 1, 4, fun _ => wd s.tb.ns⟩,
   ⟨Reg.TIM_NOW_S_LO, 2, 4, fun i => shadowOf s (Reg.TIM_NOW_S_LO + 4 * i) core⟩,
   ⟨Reg.TIM_PERIOD_LO, 1, 4, fun _ => lo32 s.tb.k⟩,
   ⟨Reg.TIM_PERIOD_HI, 1, 4, fun _ => hi32 s.tb.k⟩,
   ⟨Reg.TIM_TXQ_ID 0, 4, 0x20, fun p => txqIdWord s p⟩,
   ⟨Reg.TIM_TXQ_NS 0, 4, 0x20, fun p => match txqOf s p with
     | [] => 0
     | h :: _ => wd h.ns⟩,
   ⟨Reg.TIM_TXQ_S_LO 0, 4, 0x20, fun p => shadowOf s (Reg.TIM_TXQ_S_LO p) core⟩,
   ⟨Reg.TIM_TXQ_S_HI 0, 4, 0x20, fun p => shadowOf s (Reg.TIM_TXQ_S_HI p) core⟩,
   ⟨Reg.BSS_CAR_STAT 0, 8, 0x10, fun c => bssStatWord s c⟩,
   ⟨Reg.BSS_RES_LO_LO 0, 32, 0x20, fun r => lo32 (uns 64 (bssResWords s r).1)⟩,
   ⟨Reg.BSS_RES_LO_HI 0, 32, 0x20, fun r => hi32 (uns 64 (bssResWords s r).1)⟩,
   ⟨Reg.BSS_RES_HI_LO 0, 32, 0x20, fun r => lo32 (uns 64 (bssResWords s r).2.1)⟩,
   ⟨Reg.BSS_RES_HI_HI 0, 32, 0x20, fun r => hi32 (uns 64 (bssResWords s r).2.1)⟩,
   ⟨Reg.BSS_RES_INFO 0, 32, 0x20, fun r => (bssResWords s r).2.2⟩,
   ⟨Reg.BSS_THETA 0, 128, 4, fun k => thetaWord s k⟩,
   ⟨Reg.BSS_BUCKET, 1, 4, fun _ => bucketWord s⟩,
   ⟨Reg.INT_CLAIM 0, 4, 4, fun c => claimWord s c⟩,
   ⟨Reg.BSS_Q 0 0, 512, 4, fun j => bssQWord s (j / 64) (j % 64)⟩]

/-- The views of an address's block. -/
def viewOf (s : State) (core : Sender) (a : Nat) : Option Word :=
  match blockOf a with
  | some 0 | some 1 | some 2 => findView a (viewsA s)
  | some 3 | some 5 => findView a (viewsB s)
  | some 7 | some 8 | some 9 => findView a (viewsC s)
  | some 10 | some 12 | some 13 => findView a (viewsD s core)
  | _ => none

/-- A register of the door units, which a section does not have (11 R341). -/
def doorAbsent (s : State) (a : Nat) : Bool := isSection s && decide (0x40030c00 ≤ a) && decide (a < 0x40030c88)

/-- Registers outside the stop scheduler that serve car records, segments or the sensor position, which a car device does not have
(01 Table 1.4; log entry 81). -/
def carRecRegs : List Nat :=
  [Reg.TAC_HO_CFG_CAR, Reg.TAC_CAR_FB, Reg.TAC_STRADDLE_V, Reg.TAC_SEG_FMAX, Reg.FBK_MARK, Reg.FBK_ROPED, Reg.FBK_ROPED_OFS] ++
    (List.range 8).map Reg.TAC_HO_CAR

/-- A register of a function that only a section has: the stop scheduler, but for its command with its outcome (12 Table 12.1, code
1), and `carRecRegs`. -/
def sectOnly (a : Nat) : Bool :=
  (decide (0x400c0000 ≤ a) && decide (a < 0x400d0000) && !(decide (Reg.BSS_STOP_CMD ≤ a) && decide (a ≤ Reg.BSS_EVENT))) ||
    carRecRegs.contains a

/-- A register of a function that the device's role does not have reads its reset value and ignores writes (01 R36; 11 R341). -/
def roleIdle (s : State) (a : Nat) : Bool := doorAbsent s a || (isCar s && sectOnly a)

/-- The drive channel whose CMM_CHn register lies at `a`, if one does: configuration and status, or the holding registers of
snapshots. -/
def cmmChanAt (a : Nat) : Option Nat :=
  if Reg.CMM_CH_CFG 0 ≤ a ∧ a < Reg.CMM_CH_CFG 128 then some ((a - Reg.CMM_CH_CFG 0) / 0x20)
  else if Reg.CMM_CH_SNPV 0 ≤ a ∧ a < Reg.CMM_CH_SNPV 128 then some ((a - Reg.CMM_CH_SNPV 0) / 8)
  else none

/-- A CMM register of a SETP channel, which reads its reset value (09 R292). -/
def setpIdle (s : State) (a : Nat) : Bool := (cmmChanAt a).any (fun n => chanType s n == 3)

/-- The word of this instant behind address `a`: a view, a pending copy (R148), or the register. -/
def instantWord (s : State) (core : Sender) (a : Nat) : Word :=
  if roleIdle s a || setpIdle s a then wd (regReset a)
  else match viewOf s core a with
    | some w => w
    | none =>
      match regGroup a with
      | some _ => s.pendReg a
      | none => s.reg a

/-- Whether the register at `a` can be read back: a WO register and a CPL address return 0 (Table 5.1). -/
def readable (a : Nat) : Bool :=
  match findRow a with
  | some r => r.acc != .wo && r.acc != .gwCpl
  | none => true

/-- Place of `a` in a 64-bit pair. -/
def pairRole (a : Nat) : PairRole :=
  match findRow a with
  | some r => r.pair
  | none => .single

/-- What a 32-bit read of a register returns: HI of a pair is the reader's shadow (R139). -/
def readReg (s : State) (core : Sender) (a : Nat) : Word :=
  if !readable a then 0
  else if pairRole a = .hi then shadowOf s (a - 4) core
  else instantWord s core a

/-! ### Accesses that are refused -/

/-- A read that is refused returns 0; a write is ignored, and one to a block's window breaks its guarded write (R153). -/
def refused (core : Sender) (wr : Bool) (a : Nat) (s : State) : State := if wr then touch a s else setRdata core 0 s

/-- Whether an access of `width` bytes at `a` is narrower, wider or unaligned where something stands (R129, R641). -/
def isNarrow (a width : Nat) : Bool :=
  match blockOf a with
  | some _ => width != 4 || a % 4 != 0
  | none =>
    match regionOf a with
    | some r => !r.widths.contains width || a % width != 0
    | none => false

/-- Whether nothing stands at `a`: no memory region, or no register at its word (R130, R640). -/
def isUnmapped (a : Nat) : Bool :=
  match blockOf a with
  | some _ => !occupied (a / 4 * 4)
  | none => (regionOf a).isNone

/-- A narrower or unaligned access; where no register stands it also sets UNMAPPED (R129, R130). -/
def narrowOp (core : Sender) (wr : Bool) (a : Nat) (s : State) : State :=
  (narrowErr a (refused core wr a s)).when (isUnmapped a) (unmappedErr a)

/-- An access where nothing stands (R130, R640). -/
def unmappedOp (core : Sender) (wr : Bool) (a : Nat) (s : State) : State := unmappedErr a (refused core wr a s)

/-- A 32-bit access at `a`: refused where it is unaligned or nothing stands there, else `act`. -/
def access32 (core : Sender) (wr : Bool) (a : Nat) (act : State → State) (s : State) : State :=
  if canAccess s core then
    if isNarrow a 4 then narrowOp core wr a s else if isUnmapped a then unmappedOp core wr a s else act s
  else s

/-! ### Reads -/

/-- A read of LO returns it and copies HI of the same instant into the reader's shadow (R139, R140). -/
def loReadOp (core : Sender) (a : Nat) (s : State) : State :=
  let hi := if readable (a + 4) then instantWord s core (a + 4) else 0
  setShadow a core hi (setRdata core (readReg s core a) s)

/-- An index among the registers `base + stride * i`, `i < n`. -/
def idxOf (a base n stride : Nat) : Option Nat :=
  if base ≤ a ∧ (a - base) % stride = 0 ∧ (a - base) / stride < n then some ((a - base) / stride) else none

/-- A read of a register without side effect on the pair shadows: its word, and RC bits that read 1 clear unless Benrex
Studio reads (R132, R135, R137). -/
def wordReadOp (core : Sender) (a : Nat) (s : State) : State :=
  let w := readReg s core a
  let t := setRdata core w s
  if core.val = 4 ∨ regRcmask a = 0 ∨ roleIdle s a = true then t
  else t.setReg a (s.reg a &&& ~~~ (w &&& wd (regRcmask a)))

/-- An aligned 32-bit read of an occupied register. -/
def readOp (core : Sender) (a : Nat) (s : State) : State :=
  if a = Reg.TIM_NOW_NS then nowNsOp core s
  else match idxOf a (Reg.TIM_TXQ_NS 0) 4 0x20 with
    | some p => txqNsOp core p s
    | none => if pairRole a = .lo then loReadOp core a s else wordReadOp core a s

/-- Whether `a` lies in the memory region at `base`. -/
def inRegion (a base : Nat) : Bool :=
  match regionOf a with
  | some r => r.base == base
  | none => false

/-- A word of the MRAM window (R642): the key store reads 0; the bytes of the identity and the life-cycle record are not in the spec,
whose contents are held as fields: none. -/
def mramRead (s : State) (off : Nat) : Option Word :=
  if off < 0x2000 then none
  else if 0x4000 ≤ off ∧ off < 0x10000 then some 0
  else some (wd (leAt s.nv.mram off 4))

/-- The word of memory at an aligned address (R642; 06 R157, R159; 08, TST); none where the spec gives no content: the boot ROM, and as
`mramRead` says. -/
def memWord (s : State) (a : Nat) : Option Word :=
  if inRegion a sramBase then some (wd (leAt s.sram (a - sramBase) 4))
  else if inRegion a mramBase then mramRead s (a - mramBase)
  else if inRegion a 0x30000000 then some (tideRead s a)
  else if inRegion a 0x31000000 then some (tstRead s a)
  else none

/-- A 32-bit read of memory; a content the spec does not give is a free value (log entry 99). -/
def memReadOp (core : Sender) (a : Nat) (s : State) : State :=
  match memWord s a with
  | some w => setRdata core w s
  | none =>
    let (v, t) := s.draw
    setRdata core (wd v) t

/-- RC_READ (R132, R136, R137, R145): a 32-bit read of a register that is no pair's LO, or of a word of memory (06 R159); a read that
is unaligned or finds nothing is refused (R129, R130). -/
def execRcRead (core : Sender) (addr : Nat) (s : State) : Host.Outcome State Fault Refusal :=
  .next (access32 core false addr (fun t =>
    if occupied addr then (if pairRole addr == .lo then t else readOp core addr t) else memReadOp core addr t) s)

/-- PAIR_LO_READ (R139, R140). -/
def execPairLoRead (core : Sender) (addr : Nat) (s : State) : Host.Outcome State Fault Refusal :=
  .next (if canAccess s core && pairRole addr == .lo then loReadOp core addr s else s)

/-! ### Guarded writes -/

/-- What a completed guarded write of the register at `va` does. -/
def gwAct (core : Sender) (va : Nat) : Word → State → State :=
  if va = Reg.SYS_RESET_REQ then resetReqOp
  else if va = Reg.PCM_MODE_REQ then modeReqWrite
  else if va = Reg.TAC_ENG_HALT then engHaltOp
  else if va = Reg.TAC_FAULT_CLR then faultClrOp
  else if va = Reg.TAC_HO_CMD then hoCmdOp
  else if va = Reg.SLK_NODE_CLR then nodeClrOp
  else if va = Reg.FIO_OUT_CLR then outClrOp
  else if va = Reg.SAF_RESET_CMD then resetCmdOp core
  else if va = Reg.SAF_DIAG_CMD then diagOp core
  else if va = Reg.SAF_SPS_CONFIRM then spsConfirmOp core
  else if va = Reg.FAB_KEY_LOAD then keyLoadOp
  else if va = Reg.FAB_SEC_CMD then secCmdOp
  else if va = Reg.FAB_STBY_CMD then stbyCmdOp core
  else if va = Reg.FAB_FENCE_CMD then fenceCmdOp core
  else if va = Reg.REC_CLEAR then recClearOp core
  else if va = Reg.CFG_LC_CMD then lcCmdOp
  else if va = Reg.CFG_OPS_COMMIT then opsCommitOp
  else fun _ s => s

/-- Access type of a register. -/
def accTypeOf (a : Nat) : Option Acc :=
  match findRow a with
  | some r => some r.acc
  | none => none

/-- GUARDED_VAL_WRITE (R153): the write breaks a guarded write armed in the block and arms its own. -/
def execGuardedValWrite (core : Sender) (addr : Nat) (val : Word) (s : State) : Host.Outcome State Fault Refusal :=
  .next (if accTypeOf addr = some Acc.gwVal then writeCmd core addr (armGuard addr val) s else s)

/-! ### Writes of RW and WO registers -/

/-- The commands behind WO registers and the registers whose write does more than store. -/
def commandWrite (core : Sender) (a : Nat) (v : Word) (s : State) : Option State :=
  if a = Reg.SYS_UPDATE then some (updateOp v s)
  else if a = Reg.SYS_SNAP then some (if bitOf v 0 then snapAll s else s)
  else if a = Reg.TRJ_SNAP then some (if bitOf v 0 then snapTrj s else s)
  else if a = Reg.CMM_SNAP then some (if bitOf v 0 then snapCmm s else s)
  else if a = Reg.FBK_SNAP then some (if bitOf v 0 then snapFbk s else s)
  else if a = Reg.FIO_SNAP then some (if bitOf v 0 then snapFio s else s)
  else if a = Reg.TRJ_CMD then some (trjCmdOp v s)
  else if a = Reg.TRJ_LAT_CMD then some (latCmdOp v s)
  else if a = Reg.TRJ_CMP_DISARM then some (cmpDisarmOp v s)
  else if a = Reg.TRJ_DOOR_CMD then some (doorCmdOp v s)
  else if a = Reg.SLK_CAP then some (slkCapOp v s)
  else if a = Reg.FBK_CMD then some (fbkCmdOp v s)
  else if a = Reg.TIM_CMD then some (timCmdOp v s)
  else if a = Reg.TIM_ADDEND then some (addendOp v s)
  else if a = Reg.TIM_SNAP_AT_NS then some (snapArmOp v s)
  else if a = Reg.REC_APP_CMD then some (recAppOp core v s)
  else if a = Reg.BSS_STOP_CMD then some (stopCmdOp v s)
  else match idxOf a (Reg.FAB_SP_CMD 0) 4 0x20 with
    | some p => some (spCmdOp p v s)
    | none =>
      match idxOf a (Reg.TIM_TXQ_POP 0) 4 0x20 with
      | some p => some (txqPopOp p v s)
      | none => none

/-- The value that enters an RW register: an override above 65,536 is stored as 65,536 (08, TRJ_AXISn_OVR); EN and PORT of a
learned member route stay (18, FAB_MRTm). -/
def storedWord (s : State) (a : Nat) (v : Word) : Word :=
  if (idxOf a (Reg.TRJ_AXIS_OVR 0) 8 0x40).isSome then (if 65536 < (v &&& 0x1ffff).toNat then 65536 else v)
  else if (idxOf a (Reg.FAB_MRT 0) 256 4).isSome then
    (if bitOf v 30 then (s.pendReg a &&& 0x80000003) ||| 0x40000000 else v)
  else v

/-- An RW register is written (R132, R133, R148, R341). -/
def rwWrite (a : Nat) (v : Word) (s : State) : State :=
  if roleIdle s a then s else storeReg a (storedWord s a v) s

/-- LO of a written pair enters the writer's holding register (R141). -/
def loWrite (core : Sender) (a : Nat) (v : Word) (s : State) : State := if roleIdle s a then s else setHold a core v s

/-- HI of a written pair: all 64 bits are written, bits [31:0] from the holding register (R141). The HI write that ends a held LO is
the same writer's own: another's leaves it. DEDUCED (log entry 98). -/
def hiWrite (core : Sender) (a : Nat) (v : Word) (s : State) : State :=
  if roleIdle s a then s
  else if a = Reg.TIM_STEP_HI then clockStepOp core v s
  else match idxOf a (Reg.TRJ_CMP_POS_HI 0) 32 0x10 with
    | some u => compareArm core u v s
    | none =>
      let lo := holdOf s (a - 4) core
      storeReg a v (storeReg (a - 4) lo (setHold (a - 4) core 0 s))

/-- A register takes writes other than guarded ones. -/
def plainAcc (a : Nat) : Bool := accTypeOf a == some .rw || accTypeOf a == some .wo || isRoute a

/-- The effect of an aligned 32-bit write of an occupied register, guards apart (Table 5.1). -/
def regWrite (core : Sender) (a : Nat) (v : Word) (s : State) : State :=
  if plainAcc a then
    match commandWrite core a v s with
    | some t => t
    | none =>
      match pairRole a with
      | .lo => loWrite core a v s
      | .hi => hiWrite core a v s
      | .single => rwWrite a v s
  else s

/-! ### Writes of memory -/

/-- MRAM window offset of the application-data area and its end (Table 4.4, R642). -/
def appBase : Nat := 0x830000
/-- End of the application-data area. -/
def appEnd : Nat := 0x1000000

/-- A write of `n` bytes to the MRAM window: it takes effect in the application-data area alone, elsewhere it is ignored
with UNMAPPED (R642). -/
def mramWrite (a n : Nat) (v : Nat) (s : State) : State :=
  let off := a - mramBase
  if appBase ≤ off ∧ off + n ≤ appEnd then appWrite off (leBytes n v) s else unmappedErr a s

/-- A write of `n` bytes to the system SRAM. -/
def sramWrite (a n : Nat) (v : Nat) (s : State) : State :=
  { s with sram := putBytes s.sram (a - sramBase) (leBytes n v) }

/-- An aligned 32-bit write to a memory address; the boot ROM is read only (Table 23.1). -/
def memWrite (a : Nat) (v : Word) (s : State) : State :=
  if inRegion a sramBase then sramWrite a 4 v.toNat s
  else if inRegion a mramBase then mramWrite a 4 v.toNat s
  else if inRegion a 0x30000000 then tideWrite a v s
  else if inRegion a 0x31000000 then tstWrite a v s
  else s

/-- REGISTER_WRITE (R132, R133, R148): an aligned 32-bit write. Of a register with a row of its own it does what that row does,
a guarded register's VAL arms and its CPL completes (R153); a word of memory is stored; a write that is unaligned or finds nothing is
refused (R129, R130). -/
def execRegisterWrite (core : Sender) (addr : Nat) (val : Word) (s : State) : Host.Outcome State Fault Refusal :=
  .next (
    access32 core true addr (fun t =>
      if occupied addr then
        match accTypeOf addr with
        | some .gwCpl => cplWrite core (addr - 4) val (gwAct core (addr - 4)) t
        | some .gwVal => writeCmd core addr (armGuard addr val) t
        | _ => writeCmd core addr (regWrite core addr val) t
      else memWrite addr val t) s)

/-- PAIR_LO_WRITE (R141): of an RW pair, or the WO step pair. -/
def execPairLoWrite (core : Sender) (addr : Nat) (val : Word) (s : State) : Host.Outcome State Fault Refusal :=
  .next (if pairRole addr == .lo then writeCmd core addr (fun t => if plainAcc addr then loWrite core addr val t else t) s else s)

/-- PAIR_HI_WRITE (R141). -/
def execPairHiWrite (core : Sender) (addr : Nat) (val : Word) (s : State) : Host.Outcome State Fault Refusal :=
  .next (if pairRole addr == .hi then writeCmd core addr (fun t => if plainAcc addr then hiWrite core addr val t else t) s else s)

/-- MRAM_WINDOW_WRITE (R642): a write of 1, 2, 4 or 8 bytes, aligned, to the window. -/
def execMramWindowWrite (core : Sender) (addr width : Nat) (val : DWord) (s : State) : Host.Outcome State Fault Refusal :=
  .next (
    if canAccess s core && inRegion addr mramBase && [1, 2, 4, 8].contains width && addr % width == 0 then
      mramWrite addr width val.toNat s
    else s)

/-! ### Rows of the refused accesses -/

/-- NARROW_ACCESS (R129, R641); where no register stands it also sets UNMAPPED (R130). -/
def execNarrowAccess (core : Sender) (wr : Bool) (addr width : Nat) (s : State) : Host.Outcome State Fault Refusal :=
  .next (
    if canAccess s core && isNarrow addr width then
      narrowOp core wr addr s
    else s)

/-- UNMAPPED_ACCESS (R130, R640). -/
def execUnmappedAccess (core : Sender) (wr : Bool) (addr : Nat) (s : State) : Host.Outcome State Fault Refusal :=
  .next (if canAccess s core && isUnmapped addr then unmappedOp core wr addr s else s)

end Sys2Proof.Machine
end

