-- ==== Sys2Proof/Machine/Flags.lean ====
section
/-!
DEFINITION. The flag computations of the Omgil instructions (06 R163, R187, R188) and the results they go with.
-/

namespace Sys2Proof.Machine

open Sys2Proof

/-- Z and N of a 32-bit result. -/
def flagsZN (x : Word) (r : Run) : Run := { r with z := x == 0, n := x.msb }

/-- Logic flags: ZN with C = 0 and V = 0. -/
def flagsLogic (x : Word) (r : Run) : Run := { flagsZN x r with c := false, v := false }

/-- Z and N of an accumulator. -/
def flagsAcc (x : DWord) (r : Run) : Run := { r with z := x == 0, n := x.msb }

/-- Carry out of bit 31 of a sum. -/
def addCarry (a b : Word) : Bool := decide (2 ^ 32 ≤ a.toNat + b.toNat)

/-- V of a sum: operands alike in sign, result different. -/
def addOvf (a b : Word) : Bool := (~~~ (a ^^^ b) &&& (a ^^^ (a + b))).msb

/-- V of a difference. -/
def subOvf (a b : Word) : Bool := ((a ^^^ b) &&& (a ^^^ (a - b))).msb

/-- V of a 64-bit sum. -/
def accOvf (a t : DWord) : Bool := (~~~ (a ^^^ t) &&& (a ^^^ (a + t))).msb

/-- ADD and ADDI: ZN, C, V. -/
def flagsAdd (a b : Word) (r : Run) : Run := { flagsZN (a + b) r with c := addCarry a b, v := addOvf a b }

/-- SUB: ZN, C = no borrow, V. -/
def flagsSub (a b : Word) (r : Run) : Run := { flagsZN (a - b) r with c := decide (b.toNat ≤ a.toNat), v := subOvf a b }

/-- Shifts: ZN, C = last bit out, V = 0. -/
def flagsShift (x : Word) (c : Bool) (r : Run) : Run := { flagsZN x r with c := c, v := false }

/-- Left shift: result and last bit shifted out (0 for an amount of 0). -/
def shl (a : Word) (n : Nat) : Word × Bool := (a <<< n, n != 0 && a.getLsbD (32 - n))

/-- Right shift with zero fill, and last bit out. -/
def shr (a : Word) (n : Nat) : Word × Bool := (a >>> n, n != 0 && a.getLsbD (n - 1))

/-- Right shift with sign fill, and last bit out. -/
def sar (a : Word) (n : Nat) : Word × Bool := (a.sshiftRight n, n != 0 && a.getLsbD (n - 1))

/-- ZN and V, C unchanged: the multiplications. -/
def flagsZNV (x : Word) (v : Bool) (r : Run) : Run := { flagsZN x r with v := v }

/-- Signed product. -/
def sprod (a b : Word) : Int := a.toInt * b.toInt

/-- The product as a 64-bit word. -/
def prod64 (a b : Word) : DWord := BitVec.ofInt 64 (sprod a b)

/-- Q15 operand: bits [15:0] read as signed. -/
def q15 (a : Word) : Int := sgn 16 a.toNat

/-- MULQ15's s32 quotient, before its 16-bit narrowing. -/
def mulq15 (a b : Word) : Int := q15 a * q15 b / 2 ^ 15

/-- MULQ15's result: (u32)(s32)(s16). -/
def mulq15Res (a b : Word) : Word := wdi (sgn 16 (uns 16 (mulq15 a b)))

/-- MULQ31's s64 quotient. -/
def mulq31 (a b : Word) : Int := sprod a b / 2 ^ 31

/-- Whether an exact value is what its 32-bit result reads back as: V is its negation. -/
def fits32 (x : Int) : Bool := x == (wdi x).toInt

/-- A branch condition on the flags (Table 6.8). -/
def condHolds (c : Cond) (r : Run) : Bool :=
  match c with
  | .al => true
  | .eq => r.z
  | .ne => !r.z
  | .lt => r.n != r.v
  | .ge => r.n == r.v
  | .gt => !r.z && (r.n == r.v)
  | .le => r.z || (r.n != r.v)
  | .mi => r.n
  | .pl => !r.n
  | .vs => r.v
  | .vc => !r.v
  | .cs => r.c
  | .cc => !r.c
  | .hi => r.c && !r.z
  | .ls => !r.c || r.z

end Sys2Proof.Machine
end

