-- ==== Sys2Proof/Machine/Operands.lean ====
section
/-!
DEFINITION. The operand forms of the Omgil instructions: immediates, private and shared data words, input and output
ports (06 R176 to R182, Tables 6.3 to 6.6).
-/

namespace Sys2Proof.Machine

open Sys2Proof

/-! ### Immediates -/

/-- sext(imm16). -/
def sextImm (i : BitVec 16) : Word := i.signExtend 32
/-- zext(imm16). -/
def zextImm (i : BitVec 16) : Word := i.zeroExtend 32

/-! ### Data words (R181, R182) -/

/-- The data word of private word `a` of slot k: its own context, then the first PRIV words of its private area; none
outside (R181). -/
def privAddr (s : State) (e k a : Nat) : Option Nat :=
  if a < 64 then some (ctxBase k + a)
  else if a < 64 + (s.slot (gSlot e k)).priv then some (s.get (F.TAC_SLOT_PRIV.BASE (gSlot e k)) + (a - 64))
  else none

/-- The data word of shared word `a` of engine e; none at or beyond the area's length (R182), nor past the last word
of the engine's own data memory, which a BASE and LEN may name (DESIGN CHOICE, log entry 101). -/
def sharedAddr (s : State) (e a : Nat) : Option Nat :=
  let i := s.get (F.TAC_ENG_SHARED.BASE e) + a
  if a < s.get (F.TAC_ENG_SHARED.LEN e) ∧ i < tideWords then some i else none

/-! ### Input ports (R176 to R180) -/

/-- A preload as slot g reads it in the present period: 0 but for the incoming slot in period h (R220). -/
def preloadFor (s : State) (g : Nat) (p : Option Preload) : Int :=
  match p with
  | some x => if x.slot = g ∧ x.period = s.tb.k then x.value else 0
  | none => 0

/-- STATUS of a car (Table 6.4): OWNER, IN_MOVE, STOPPING, HO_ACTIVE, POS_VALID. -/
def carStatus (s : State) (c : Nat) : Nat :=
  let r := s.car c
  let a := s.axis c
  let stopping := match a.st with
    | .stopping | .aborting => true
    | _ => false
  b2n r.owner + 2 * b2n (inMove a) + 4 * b2n stopping + 8 * b2n r.ho.isSome + 16 * b2n r.posValid

/-- Car view field f of record c, with the preload the reader sees (Table 6.4; R237). -/
def carField (s : State) (c f : Nat) (preload : Int) : Option Word :=
  let r := s.car c
  let a := s.axis c
  match f with
  | 0 => some (lo32 (uns 64 a.ptPos))
  | 1 => some (hi32 (uns 64 a.ptPos))
  | 2 => some (wdi a.ptVel)
  | 3 => some (wdi a.ptAcc)
  | 4 => some (lo32 (uns 64 r.pos))
  | 5 => some (hi32 (uns 64 r.pos))
  | 6 => some (wdi r.vel)
  | 7 => some (wdi r.acc)
  | 8 => some (wd r.mass)
  | 9 => some (wd (carStatus s c))
  | 10 => some (wd r.activeN)
  | 11 => some (wd r.ovSum)
  | 12 => some (wdi preload)
  | _ => none

/-- STATUS of a channel (Table 6.4): ACTIVE, STO, FAULT, HELD. -/
def chanStatus (s : State) (n : Nat) : Nat :=
  b2n (s.chan n).active + 2 * b2n (chanSto s n) + 4 * b2n (chanFault s n) + 8 * b2n (s.flag (F.SLK_CH_STAT.HELD n))

/-- Channel bound input f of channel n (Table 6.4). -/
def chanField (s : State) (n f : Nat) (preload : Int) : Option Word :=
  let v := s.chan n
  match f with
  | 0 => some (wdi v.share)
  | 1 => some (wdi v.iA)
  | 2 => some (wdi v.iB)
  | 3 => some (if chanType s n = 1 then 0 else wdi v.iC)
  | 4 => some (wd v.vbus)
  | 5 => some (wdi v.temp)
  | 6 => some (s.reg (Reg.FBK_CH_VEL n))
  | 7 => some (wd (chanStatus s n))
  | 8 => some (s.reg (Reg.FBK_CH_POS_LO n))
  | 9 => some (s.reg (Reg.FBK_CH_POS_HI n))
  | 10 => some (wd v.overlap)
  | 11 => some (match v.car with
    | some c => wd c
    | none => wdi (-1))
  | 12 => some (wdi preload)
  | _ => none

/-- Feedback view field f of FBn (Table 6.6). -/
def fbField (s : State) (n f : Nat) : Option Word :=
  match f with
  | 0 => some (s.reg (Reg.FBK_CH_POS_LO n))
  | 1 => some (s.reg (Reg.FBK_CH_POS_HI n))
  | 2 => some (s.reg (Reg.FBK_CH_VEL n))
  | 3 => some (s.reg (Reg.FBK_CH_ACC n))
  | 4 => some (s.reg (Reg.FBK_CH_STAT n))
  | _ => none

/-- BIND as ports give it: the bound record or channel, or -1 for an auxiliary slot (Table 6.6). -/
def bindWord (s : State) (g : Nat) : Word := if slotKind s g = 0 then wdi (-1) else wd (slotBind s g)

/-- System input f of slot k of engine e (Table 6.6). -/
def sysField (s : State) (e k f : Nat) : Option Word :=
  let g := gSlot e k
  match f with
  | 0 => some (lo32 s.tb.k)
  | 1 => some (hi32 s.tb.k)
  | 2 => some (wd s.tsNs)
  | 3 => some (wd s.mode.code)
  | 4 => some (wd (g * 2 ^ 16 + e * 2 ^ 8 + k))
  | 5 => some (wd (s.get (F.TAC_OVR.CONSEC g)))
  | 6 => some (bindWord s g)
  | _ => none

/-- A bound input of slot g (Table 6.4); an auxiliary slot has none. -/
def boundIn (s : State) (g f : Nat) : Option Word :=
  let b := slotBind s g
  match slotKind s g with
  | 1 => carField s b f (preloadFor s g (s.car b).preload)
  | 2 => chanField s b f (preloadFor s g (s.chan b).preload)
  | _ => none

/-- What IN reads from port `p` in slot k of engine e (Table 6.3); none for a port that IN may not address (R177). -/
def inPort (s : State) (e k p : Nat) : Option Word :=
  let g := gSlot e k
  if p < 0x010 then boundIn s g p
  else if 0x080 ≤ p ∧ p < 0x087 then sysField s e k (p - 0x080)
  else if 0x100 ≤ p ∧ p < 0x140 then some (s.reg (Reg.TAC_PARAM g (p - 0x100)))
  else if 0x400 ≤ p ∧ p < 0x400 + 8 * 144 then fbField s ((p - 0x400) / 8) ((p - 0x400) % 8)
  else if 0x900 ≤ p ∧ p < 0x900 + 16 * 8 then carField s ((p - 0x900) / 16) ((p - 0x900) % 16) 0
  else if 0xA00 ≤ p ∧ p < 0xA00 + 8 * 128 then chanField s ((p - 0xA00) / 8) ((p - 0xA00) % 8) 0
  else none

/-! ### Output ports (R177, Table 6.5) -/

/-- Which output q (port 0x40 + q) a slot kind may write. -/
def outAllowed (kind q : Nat) : Bool :=
  if 4 ≤ q ∧ q < 8 then true
  else match kind, q with
    | 1, 0 | 2, 0 | 2, 1 => true
    | _, _ => false

/-- The output that OUT to port `p` stages in slot g; none for a port that OUT may not address (R177). -/
def outPort (s : State) (g p : Nat) : Option Nat :=
  if 0x040 ≤ p ∧ p < 0x048 ∧ outAllowed (slotKind s g) (p - 0x040) then some (p - 0x040) else none

/-- A port number: ra + imm12 as a u32 sum; none beyond the port space (R177). -/
def portNum (a : Word) (p : BitVec 12) : Option Nat :=
  let n := (a + p.zeroExtend 32).toNat
  if n ≤ 0xFFF then some n else none

end Sys2Proof.Machine
end

