-- ==== Sys2Proof/Machine/OmgilRun.lean ====
section
/-!
DEFINITION. How an Omgil instruction runs: it must be the word at the engine's pc, its cycles must be left in the budget,
and the pc and the hardware loop move on as 06 R164, R173, R190 and R191 state.
-/

namespace Sys2Proof.Machine

open Sys2Proof

/-- The next word index; past word 16,383 execution continues at word 0 (R164). -/
def pcNext (pc : Nat) : Nat := (pc + 1) % tideWords

/-- Cycles charged to the budget (R173). -/
def charge (n : Nat) (r : Run) : Run := { r with left := r.left - n }

/-- After an instruction that takes no branch: the next word, or what the hardware loop says at its last word (R190). -/
def seqPc (r : Run) : Run :=
  match r.loop with
  | none => { r with pc := pcNext r.pc }
  | some l =>
    if r.pc = l.last then
      if 1 < l.left then { r with pc := l.first, loop := some { l with left := l.left - 1 } }
      else { r with pc := pcNext r.pc, loop := none }
    else { r with pc := pcNext r.pc }

/-- A taken branch: the loop stays active only if the target lies inside its body (R191). -/
def branchTo (t : Nat) (r : Run) : Run :=
  match r.loop with
  | none => { r with pc := t }
  | some l => if l.first ≤ t ∧ t ≤ l.last then { r with pc := t } else { r with pc := t, loop := none }

/-- An instruction of engine e takes effect if it is what the word at the pc stands for and its cycles are left in the
budget (R173); otherwise nothing happens. -/
def omgil (e : Fin 8) (i : Instr) (cost : Run → Nat) (act : Run → State → State) (s : State) : State :=
  match runOf s e.val with
  | none => s
  | some r => if omgilDecode e (codeWord s e.val r.pc) = some i ∧ cost r ≤ r.left then act r s else s

/-- A one-cycle instruction that only changes the run. -/
def plain (e : Fin 8) (i : Instr) (f : Run → Run) (s : State) : State :=
  omgil e i (fun _ => 1) (fun r t => setRun e.val (seqPc (charge 1 (f r))) t) s

/-- A run that goes on with `r'` after a one-cycle instruction. -/
def goOn (e : Fin 8) (r' : Run) (s : State) : State := setRun e.val (seqPc (charge 1 r')) s

/-- Two-register operation writing rd: result and flags from a and b. -/
def alu (e : Fin 8) (i : Instr) (rd ra rb : Fin 32) (f : Word → Word → Word) (g : Word → Word → Run → Run) (s : State) :
    State :=
  plain e i (fun r => let a := wreg r ra; let b := wreg r rb; g a b (setW rd (f a b) r)) s

/-- Accumulator operation: the new accumulator value and whether it overflowed. -/
def accOp (e : Fin 8) (i : Instr) (acc : Fin 4) (f : Run → DWord × Bool) (s : State) : State :=
  plain e i (fun r => let x := f r; { flagsAcc x.1 (setAcc acc x.1 r) with v := x.2 }) s

/-- The budget of the run on engine e is used up, or the next instruction's cycles exceed what is left: cause BUDGET at
the instruction that would have begun next (R173, R195). -/
def cyclesOf (i : Instr) (r : Run) : Nat :=
  match i with
  | .opB _ c _ => if condHolds c r then 2 else 1
  | .opBl _ _ | .opBr _ _ => 2
  | .opLoop _ ra _ => if wreg r ra = 0 then 2 else 1
  | .opLoopi _ n _ => if n = 0 then 2 else 1
  | _ => 1

/-- Whether the word at the run's pc cannot begin within the budget left. -/
def spent (s : State) (e : Fin 8) (r : Run) : Bool :=
  match omgilDecode e (codeWord s e.val r.pc) with
  | some i => decide (r.left < cyclesOf i r)
  | none => r.left == 0

/-- The run on engine e ends with cause BUDGET. -/
def budgetOut (e : Fin 8) (s : State) : State :=
  match runOf s e.val with
  | none => s
  | some r => if spent s e r then trapRun e r .budget s else s

/-- BUDGET_EXHAUSTED (R173). -/
def execBudgetExhausted (e : Fin 8) (s : State) : Host.Outcome State Fault Refusal := .next (budgetOut e s)

/-- The word at the pc of engine e's run is no instruction: an ILLEGAL trap (R186). -/
def illegalAt (e : Fin 8) (s : State) : State :=
  match runOf s e.val with
  | none => s
  | some r =>
    if omgilDecode e (codeWord s e.val r.pc) = none ∧ r.left ≠ 0 then trapRun e r .illegal s else s

/-- ILLEGAL_WORD (R186, R193). -/
def execIllegalWord (e : Fin 8) (s : State) : Host.Outcome State Fault Refusal := .next (illegalAt e s)

end Sys2Proof.Machine
end

