-- ==== Sys2Proof/Machine/OmgilAlu.lean ====
section
/-!
DEFINITION. The Omgil arithmetic, logic, shift, multiply and accumulator instructions (06 Table 6.7, R187, R188).
-/

namespace Sys2Proof.Machine

open Sys2Proof

/-- ADD: r = a + b; ZN, C, V. -/
def execOpAdd (e : Fin 8) (rd ra rb : Fin 32) (s : State) : Host.Outcome State Fault Refusal :=
  .next (alu e (.opAdd e rd ra rb) rd ra rb (fun a b => a + b) (flagsAdd) s)

/-- SUB: r = a - b; ZN, C, V. -/
def execOpSub (e : Fin 8) (rd ra rb : Fin 32) (s : State) : Host.Outcome State Fault Refusal :=
  .next (alu e (.opSub e rd ra rb) rd ra rb (fun a b => a - b) (flagsSub) s)

/-- AND: r = a & b; logic flags. -/
def execOpAnd (e : Fin 8) (rd ra rb : Fin 32) (s : State) : Host.Outcome State Fault Refusal :=
  .next (alu e (.opAnd e rd ra rb) rd ra rb (fun a b => a &&& b) (fun a b => flagsLogic (a &&& b)) s)

/-- OR: r = a | b; logic flags. -/
def execOpOr (e : Fin 8) (rd ra rb : Fin 32) (s : State) : Host.Outcome State Fault Refusal :=
  .next (alu e (.opOr e rd ra rb) rd ra rb (fun a b => a ||| b) (fun a b => flagsLogic (a ||| b)) s)

/-- XOR: r = a ^ b; logic flags. -/
def execOpXor (e : Fin 8) (rd ra rb : Fin 32) (s : State) : Host.Outcome State Fault Refusal :=
  .next (alu e (.opXor e rd ra rb) rd ra rb (fun a b => a ^^^ b) (fun a b => flagsLogic (a ^^^ b)) s)

/-- SLL: shift by b[4:0]; ZN, C, V = 0. -/
def execOpSll (e : Fin 8) (rd ra rb : Fin 32) (s : State) : Host.Outcome State Fault Refusal :=
  .next (alu e (.opSll e rd ra rb) rd ra rb (fun a b => (shl a (b.toNat % 32)).1) (fun a b => flagsShift (shl a (b.toNat % 32)).1 (shl a (b.toNat % 32)).2) s)

/-- SRL: shift by b[4:0]; ZN, C, V = 0. -/
def execOpSrl (e : Fin 8) (rd ra rb : Fin 32) (s : State) : Host.Outcome State Fault Refusal :=
  .next (alu e (.opSrl e rd ra rb) rd ra rb (fun a b => (shr a (b.toNat % 32)).1) (fun a b => flagsShift (shr a (b.toNat % 32)).1 (shr a (b.toNat % 32)).2) s)

/-- SRA: shift by b[4:0]; ZN, C, V = 0. -/
def execOpSra (e : Fin 8) (rd ra rb : Fin 32) (s : State) : Host.Outcome State Fault Refusal :=
  .next (alu e (.opSra e rd ra rb) rd ra rb (fun a b => (sar a (b.toNat % 32)).1) (fun a b => flagsShift (sar a (b.toNat % 32)).1 (sar a (b.toNat % 32)).2) s)

/-- MIN: smaller as signed; ZN. -/
def execOpMin (e : Fin 8) (rd ra rb : Fin 32) (s : State) : Host.Outcome State Fault Refusal :=
  .next (alu e (.opMin e rd ra rb) rd ra rb (fun a b => if a.toInt ≤ b.toInt then a else b) (fun a b => flagsZN (if a.toInt ≤ b.toInt then a else b)) s)

/-- MAX: larger as signed; ZN. -/
def execOpMax (e : Fin 8) (rd ra rb : Fin 32) (s : State) : Host.Outcome State Fault Refusal :=
  .next (alu e (.opMax e rd ra rb) rd ra rb (fun a b => if b.toInt ≤ a.toInt then a else b) (fun a b => flagsZN (if b.toInt ≤ a.toInt then a else b)) s)

/-- MINU: smaller as unsigned; ZN. -/
def execOpMinu (e : Fin 8) (rd ra rb : Fin 32) (s : State) : Host.Outcome State Fault Refusal :=
  .next (alu e (.opMinu e rd ra rb) rd ra rb (fun a b => if a.toNat ≤ b.toNat then a else b) (fun a b => flagsZN (if a.toNat ≤ b.toNat then a else b)) s)

/-- MAXU: larger as unsigned; ZN. -/
def execOpMaxu (e : Fin 8) (rd ra rb : Fin 32) (s : State) : Host.Outcome State Fault Refusal :=
  .next (alu e (.opMaxu e rd ra rb) rd ra rb (fun a b => if b.toNat ≤ a.toNat then a else b) (fun a b => flagsZN (if b.toNat ≤ a.toNat then a else b)) s)

/-- MUL: low 32 bits of the signed product; V if it does not fit. -/
def execOpMul (e : Fin 8) (rd ra rb : Fin 32) (s : State) : Host.Outcome State Fault Refusal :=
  .next (alu e (.opMul e rd ra rb) rd ra rb (fun a b => wdi (sprod a b)) (fun a b => flagsZNV (wdi (sprod a b)) (!fits32 (sprod a b))) s)

/-- MULH: high 32 bits of the signed product; V = 0. -/
def execOpMulh (e : Fin 8) (rd ra rb : Fin 32) (s : State) : Host.Outcome State Fault Refusal :=
  .next (alu e (.opMulh e rd ra rb) rd ra rb (fun a b => wdi (sprod a b / 2 ^ 32)) (fun a b => flagsZNV (wdi (sprod a b / 2 ^ 32)) false) s)

/-- MULQ31: Q31 product; V if it does not fit. -/
def execOpMulq31 (e : Fin 8) (rd ra rb : Fin 32) (s : State) : Host.Outcome State Fault Refusal :=
  .next (alu e (.opMulq31 e rd ra rb) rd ra rb (fun a b => wdi (mulq31 a b)) (fun a b => flagsZNV (wdi (mulq31 a b)) (!fits32 (mulq31 a b))) s)

/-- MULQ15: Q15 product of the low halves; V if it does not fit 16 bits. -/
def execOpMulq15 (e : Fin 8) (rd ra rb : Fin 32) (s : State) : Host.Outcome State Fault Refusal :=
  .next (alu e (.opMulq15 e rd ra rb) rd ra rb (mulq15Res) (fun a b => flagsZNV (mulq15Res a b) (mulq15 a b != sgn 16 (uns 16 (mulq15 a b)))) s)

/-- ADDI: r = a + sext(imm16); ZN, C, V. -/
def execOpAddi (e : Fin 8) (rd ra : Fin 32) (imm : BitVec 16) (s : State) : Host.Outcome State Fault Refusal :=
  .next (plain e (.opAddi e rd ra imm) (fun r => let a := wreg r ra; flagsAdd a (sextImm imm) (setW rd (a + sextImm imm) r)) s)

/-- ANDI: bitwise with zext(imm16); logic flags. -/
def execOpAndi (e : Fin 8) (rd ra : Fin 32) (imm : BitVec 16) (s : State) : Host.Outcome State Fault Refusal :=
  .next (plain e (.opAndi e rd ra imm) (fun r => let x := wreg r ra &&& zextImm imm; flagsLogic x (setW rd x r)) s)

/-- ORI: bitwise with zext(imm16); logic flags. -/
def execOpOri (e : Fin 8) (rd ra : Fin 32) (imm : BitVec 16) (s : State) : Host.Outcome State Fault Refusal :=
  .next (plain e (.opOri e rd ra imm) (fun r => let x := wreg r ra ||| zextImm imm; flagsLogic x (setW rd x r)) s)

/-- XORI: bitwise with zext(imm16); logic flags. -/
def execOpXori (e : Fin 8) (rd ra : Fin 32) (imm : BitVec 16) (s : State) : Host.Outcome State Fault Refusal :=
  .next (plain e (.opXori e rd ra imm) (fun r => let x := wreg r ra ^^^ zextImm imm; flagsLogic x (setW rd x r)) s)

/-- LUI: r = imm16 << 16; no flags. -/
def execOpLui (e : Fin 8) (rd : Fin 32) (imm : BitVec 16) (s : State) : Host.Outcome State Fault Refusal :=
  .next (plain e (.opLui e rd imm) (fun r => setW rd (zextImm imm <<< 16) r) s)

/-- SLLI: shift by n; ZN, C, V = 0. -/
def execOpSlli (e : Fin 8) (rd ra amount : Fin 32) (s : State) : Host.Outcome State Fault Refusal :=
  .next (plain e (.opSlli e rd ra amount) (fun r => let x := shl (wreg r ra) amount.val; flagsShift x.1 x.2 (setW rd x.1 r)) s)

/-- SRLI: shift by n; ZN, C, V = 0. -/
def execOpSrli (e : Fin 8) (rd ra amount : Fin 32) (s : State) : Host.Outcome State Fault Refusal :=
  .next (plain e (.opSrli e rd ra amount) (fun r => let x := shr (wreg r ra) amount.val; flagsShift x.1 x.2 (setW rd x.1 r)) s)

/-- SRAI: shift by n; ZN, C, V = 0. -/
def execOpSrai (e : Fin 8) (rd ra amount : Fin 32) (s : State) : Host.Outcome State Fault Refusal :=
  .next (plain e (.opSrai e rd ra amount) (fun r => let x := sar (wreg r ra) amount.val; flagsShift x.1 x.2 (setW rd x.1 r)) s)

/-- MAC: acc + product; Z, N, V of acc. -/
def execOpMac (e : Fin 8) (acc : Fin 4) (ra rb : Fin 32) (s : State) : Host.Outcome State Fault Refusal :=
  .next (accOp e (.opMac e acc ra rb) acc (fun r => let x := accOf r acc; let t := prod64 (wreg r ra) (wreg r rb); (x + t, accOvf x t)) s)

/-- MSU: acc - product, as acc + (-product); Z, N, V of acc. -/
def execOpMsu (e : Fin 8) (acc : Fin 4) (ra rb : Fin 32) (s : State) : Host.Outcome State Fault Refusal :=
  .next (accOp e (.opMsu e acc ra rb) acc (fun r => let x := accOf r acc; let t := 0 - prod64 (wreg r ra) (wreg r rb); (x + t, accOvf x t)) s)

/-- MULA: product; Z, N of acc, V = 0. -/
def execOpMula (e : Fin 8) (acc : Fin 4) (ra rb : Fin 32) (s : State) : Host.Outcome State Fault Refusal :=
  .next (accOp e (.opMula e acc ra rb) acc (fun r => (prod64 (wreg r ra) (wreg r rb), false)) s)

/-- ACCSET: acc = (b << 32) | a; Z, N of acc, V = 0. -/
def execOpAccset (e : Fin 8) (acc : Fin 4) (ra rb : Fin 32) (s : State) : Host.Outcome State Fault Refusal :=
  .next (accOp e (.opAccset e acc ra rb) acc (fun r => (BitVec.ofNat 64 (join64 (wreg r ra) (wreg r rb)), false)) s)

/-- ACCADD: acc + sign-extended a; Z, N, V of acc. -/
def execOpAccadd (e : Fin 8) (acc : Fin 4) (ra : Fin 32) (s : State) : Host.Outcome State Fault Refusal :=
  .next (accOp e (.opAccadd e acc ra) acc (fun r => let x := accOf r acc; let t := (wreg r ra).signExtend 64; (x + t, accOvf x t)) s)

/-- ACCCLR: acc = 0; Z = 1, N = 0, V = 0. -/
def execOpAccclr (e : Fin 8) (acc : Fin 4) (s : State) : Host.Outcome State Fault Refusal :=
  .next (accOp e (.opAccclr e acc) acc (fun _ => (0, false)) s)

/-- ACCLO: r = acc[31:0]; no flags. -/
def execOpAcclo (e : Fin 8) (rd : Fin 32) (acc : Fin 4) (s : State) : Host.Outcome State Fault Refusal :=
  .next (plain e (.opAcclo e rd acc) (fun r => setW rd (lo32 (accOf r acc).toNat) r) s)

/-- ACCHI: r = acc[63:32]; no flags. -/
def execOpAcchi (e : Fin 8) (rd : Fin 32) (acc : Fin 4) (s : State) : Host.Outcome State Fault Refusal :=
  .next (plain e (.opAcchi e rd acc) (fun r => setW rd (hi32 (accOf r acc).toNat) r) s)

/-- ACCRD: low 32 bits of acc >> sh, sign fill; ZN, V if it does not fit. -/
def execOpAccrd (e : Fin 8) (rd : Fin 32) (acc : Fin 4) (sh : Fin 64) (s : State) : Host.Outcome State Fault Refusal :=
  .next (plain e (.opAccrd e rd acc sh) (fun r => let x := (accOf r acc).toInt / 2 ^ sh.val; flagsZNV (wdi x) (!fits32 x) (setW rd (wdi x) r)) s)

end Sys2Proof.Machine
end

