-- ==== Sys2Proof/Machine/OmgilMem.lean ====
section
/-!
DEFINITION. The Omgil loads, stores, port, branch, loop and END instructions (06 Table 6.7, R177 to R182, R189 to R192,
R167).
-/

namespace Sys2Proof.Machine

open Sys2Proof

/-- A one-cycle instruction whose effect may be a trap. -/
def memOp (e : Fin 8) (i : Instr) (act : Run → State → State) (s : State) : State := omgil e i (fun _ => 1) act s

/-- Address operand: ra + sext(imm16) as a u32 sum. -/
def dataAddr (r : Run) (ra : Fin 32) (imm : BitVec 16) : Nat := (wreg r ra + sextImm imm).toNat

/-- LD: r = private word; MEM trap outside the slot's range (R181). -/
def execOpLd (e : Fin 8) (rd ra : Fin 32) (imm : BitVec 16) (s : State) : Host.Outcome State Fault Refusal :=
  .next (memOp e (.opLd e rd ra imm) (fun r t =>
    match privAddr t e.val r.slot.val (dataAddr r ra imm) with
    | some a => goOn e (setW rd (dataWord t e.val a) r) t
    | none => trapRun e r .mem t) s)

/-- ST: private word = rs; CTX trap on words 0 to 47, MEM trap outside the slot's range (R169, R181). -/
def execOpSt (e : Fin 8) (rs ra : Fin 32) (imm : BitVec 16) (s : State) : Host.Outcome State Fault Refusal :=
  .next (memOp e (.opSt e rs ra imm) (fun r t =>
    if dataAddr r ra imm < 48 then trapRun e r .ctx t
    else match privAddr t e.val r.slot.val (dataAddr r ra imm) with
      | some a => goOn e r (setData e.val a (wreg r rs) t)
      | none => trapRun e r .mem t) s)

/-- LDS: r = shared word; MEM trap at or beyond the area's length (R182). -/
def execOpLds (e : Fin 8) (rd ra : Fin 32) (imm : BitVec 16) (s : State) : Host.Outcome State Fault Refusal :=
  .next (memOp e (.opLds e rd ra imm) (fun r t =>
    match sharedAddr t e.val (dataAddr r ra imm) with
    | some a => goOn e (setW rd (dataWord t e.val a) r) t
    | none => trapRun e r .mem t) s)

/-- STS: shared word = rs; MEM trap at or beyond the area's length (R182). -/
def execOpSts (e : Fin 8) (rs ra : Fin 32) (imm : BitVec 16) (s : State) : Host.Outcome State Fault Refusal :=
  .next (memOp e (.opSts e rs ra imm) (fun r t =>
    match sharedAddr t e.val (dataAddr r ra imm) with
    | some a => goOn e r (setData e.val a (wreg r rs) t)
    | none => trapRun e r .mem t) s)

/-- IN: r = port value; PORT trap on a port IN may not address (R177). -/
def execOpIn (e : Fin 8) (rd ra : Fin 32) (port : BitVec 12) (s : State) : Host.Outcome State Fault Refusal :=
  .next (memOp e (.opIn e rd ra port) (fun r t =>
    match (portNum (wreg r ra) port).bind (inPort t e.val r.slot.val) with
    | some v => goOn e (setW rd v r) t
    | none => trapRun e r .port t) s)

/-- OUT: rs staged for an output port, committed at END; PORT trap on a port OUT may not address (R177, R178). -/
def execOpOut (e : Fin 8) (rs ra : Fin 32) (port : BitVec 12) (s : State) : Host.Outcome State Fault Refusal :=
  .next (memOp e (.opOut e rs ra port) (fun r t =>
    match (portNum (wreg r ra) port).bind (outPort t (gSlot e.val r.slot.val)) with
    | some q => goOn e { r with staged := smPut r.staged q (wreg r rs) } t
    | none => trapRun e r .port t) s)

/-- B: a taken branch goes to target in 2 cycles, one not taken on in 1 (R189, R191). -/
def execOpB (e : Fin 8) (cond : Cond) (target : BitVec 14) (s : State) : Host.Outcome State Fault Refusal :=
  .next (omgil e (.opB e cond target) (cyclesOf (.opB e cond target)) (fun r t =>
    if condHolds cond r then setRun e.val (branchTo target.toNat (charge 2 r)) t
    else setRun e.val (seqPc (charge 1 r)) t) s)

/-- BL: w31 = pc + 1, then target (R164). The link value wraps as the 14-bit program counter does: from word 16,383 it is 0. DEDUCED
(log entry 102). -/
def execOpBl (e : Fin 8) (target : BitVec 14) (s : State) : Host.Outcome State Fault Refusal :=
  .next (omgil e (.opBl e target) (fun _ => 2) (fun r t =>
    setRun e.val (branchTo target.toNat (charge 2 (setW 31 (wd (pcNext r.pc)) r))) t) s)

/-- BR: pc = a[13:0]. -/
def execOpBr (e : Fin 8) (ra : Fin 32) (s : State) : Host.Outcome State Fault Refusal :=
  .next (omgil e (.opBr e ra) (fun _ => 2) (fun r t =>
    setRun e.val (branchTo ((wreg r ra).toNat % tideWords) (charge 2 r)) t) s)

/-- A loop of `n` iterations over the words after the loop instruction up to `last`: LOOP trap if a loop is active or
`last` is not above the instruction's own address; a count of 0 continues at last + 1 (R190, R192). -/
def startLoop (e : Fin 8) (n last : Nat) (r : Run) (s : State) : State :=
  if r.loop.isSome ∨ last ≤ r.pc then trapRun e r .loop s
  else if n = 0 then setRun e.val (charge 2 { r with pc := pcNext last }) s
  else setRun e.val (charge 1 { r with pc := pcNext r.pc, loop := some ⟨r.pc + 1, last, n⟩ }) s

/-- LOOP: a iterations (R190). -/
def execOpLoop (e : Fin 8) (ra : Fin 32) (last : BitVec 14) (s : State) : Host.Outcome State Fault Refusal :=
  .next (omgil e (.opLoop e ra last) (cyclesOf (.opLoop e ra last)) (fun r t =>
    startLoop e (wreg r ra).toNat last.toNat r t) s)

/-- LOOPI: count iterations (R190). -/
def execOpLoopi (e : Fin 8) (count : BitVec 12) (last : BitVec 14) (s : State) : Host.Outcome State Fault Refusal :=
  .next (omgil e (.opLoopi e count last) (cyclesOf (.opLoopi e count last)) (fun r t =>
    startLoop e count.toNat last.toNat r t) s)

/-- A run reaches END: staged outputs are committed, words 1 to 40 of the context saved, and the run ends (R167, R178,
R208). -/
def endRun (e : Fin 8) (r : Run) (s : State) : State :=
  let g := gSlot e.val r.slot.val
  reachedEnd g (markRun g .done (saveCtx e.val r (commitOuts g r.staged (dropRun e.val s))))

/-- END (R167). -/
def execOpEnd (e : Fin 8) (s : State) : Host.Outcome State Fault Refusal :=
  .next (omgil e (.opEnd e) (fun _ => 1) (endRun e) s)

end Sys2Proof.Machine
end

