-- ==== Sys2Proof/Machine/Dispatch.lean ====
section
/-!
DEFINITION. The dispatcher: one arm per command, each one direct call of that command's meaning.
-/

namespace Sys2Proof.Machine

open Sys2Proof

/-- The effect of a command on everything but the queue. -/
def exec (i : Instr) (s : State) : Host.Outcome State Fault Refusal :=
  match i with
  | .servoPeriodBoundary => Sys2Proof.Machine.execServoPeriodBoundary s
  | .returnFrameReceived port f => Sys2Proof.Machine.execReturnFrameReceived port f s
  | .returnDeadline port => Sys2Proof.Machine.execReturnDeadline port s
  | .retryAnalysisDone ch => Sys2Proof.Machine.execRetryAnalysisDone ch s
  | .computeWindowOpen => Sys2Proof.Machine.execComputeWindowOpen s
  | .speedTZeroExpiry ch => Sys2Proof.Machine.execSpeedTZeroExpiry ch s
  | .forceSplit => Sys2Proof.Machine.execForceSplit s
  | .shareMissed seg => Sys2Proof.Machine.execShareMissed seg s
  | .slotRunStart e k => Sys2Proof.Machine.execSlotRunStart e k s
  | .budgetExhausted e => Sys2Proof.Machine.execBudgetExhausted e s
  | .illegalWord e => Sys2Proof.Machine.execIllegalWord e s
  | .opAdd e rd ra rb => Sys2Proof.Machine.execOpAdd e rd ra rb s
  | .opSub e rd ra rb => Sys2Proof.Machine.execOpSub e rd ra rb s
  | .opAnd e rd ra rb => Sys2Proof.Machine.execOpAnd e rd ra rb s
  | .opOr e rd ra rb => Sys2Proof.Machine.execOpOr e rd ra rb s
  | .opXor e rd ra rb => Sys2Proof.Machine.execOpXor e rd ra rb s
  | .opSll e rd ra rb => Sys2Proof.Machine.execOpSll e rd ra rb s
  | .opSrl e rd ra rb => Sys2Proof.Machine.execOpSrl e rd ra rb s
  | .opSra e rd ra rb => Sys2Proof.Machine.execOpSra e rd ra rb s
  | .opMin e rd ra rb => Sys2Proof.Machine.execOpMin e rd ra rb s
  | .opMax e rd ra rb => Sys2Proof.Machine.execOpMax e rd ra rb s
  | .opMinu e rd ra rb => Sys2Proof.Machine.execOpMinu e rd ra rb s
  | .opMaxu e rd ra rb => Sys2Proof.Machine.execOpMaxu e rd ra rb s
  | .opMul e rd ra rb => Sys2Proof.Machine.execOpMul e rd ra rb s
  | .opMulh e rd ra rb => Sys2Proof.Machine.execOpMulh e rd ra rb s
  | .opMulq31 e rd ra rb => Sys2Proof.Machine.execOpMulq31 e rd ra rb s
  | .opMulq15 e rd ra rb => Sys2Proof.Machine.execOpMulq15 e rd ra rb s
  | .opAddi e rd ra imm => Sys2Proof.Machine.execOpAddi e rd ra imm s
  | .opAndi e rd ra imm => Sys2Proof.Machine.execOpAndi e rd ra imm s
  | .opOri e rd ra imm => Sys2Proof.Machine.execOpOri e rd ra imm s
  | .opXori e rd ra imm => Sys2Proof.Machine.execOpXori e rd ra imm s
  | .opLui e rd imm => Sys2Proof.Machine.execOpLui e rd imm s
  | .opSlli e rd ra amount => Sys2Proof.Machine.execOpSlli e rd ra amount s
  | .opSrli e rd ra amount => Sys2Proof.Machine.execOpSrli e rd ra amount s
  | .opSrai e rd ra amount => Sys2Proof.Machine.execOpSrai e rd ra amount s
  | .opMac e acc ra rb => Sys2Proof.Machine.execOpMac e acc ra rb s
  | .opMsu e acc ra rb => Sys2Proof.Machine.execOpMsu e acc ra rb s
  | .opMula e acc ra rb => Sys2Proof.Machine.execOpMula e acc ra rb s
  | .opAccset e acc ra rb => Sys2Proof.Machine.execOpAccset e acc ra rb s
  | .opAccadd e acc ra => Sys2Proof.Machine.execOpAccadd e acc ra s
  | .opAccclr e acc => Sys2Proof.Machine.execOpAccclr e acc s
  | .opAcclo e rd acc => Sys2Proof.Machine.execOpAcclo e rd acc s
  | .opAcchi e rd acc => Sys2Proof.Machine.execOpAcchi e rd acc s
  | .opAccrd e rd acc sh => Sys2Proof.Machine.execOpAccrd e rd acc sh s
  | .opLd e rd ra imm => Sys2Proof.Machine.execOpLd e rd ra imm s
  | .opSt e rs ra imm => Sys2Proof.Machine.execOpSt e rs ra imm s
  | .opLds e rd ra imm => Sys2Proof.Machine.execOpLds e rd ra imm s
  | .opSts e rs ra imm => Sys2Proof.Machine.execOpSts e rs ra imm s
  | .opIn e rd ra port => Sys2Proof.Machine.execOpIn e rd ra port s
  | .opOut e rs ra port => Sys2Proof.Machine.execOpOut e rs ra port s
  | .opB e cond target => Sys2Proof.Machine.execOpB e cond target s
  | .opBl e target => Sys2Proof.Machine.execOpBl e target s
  | .opBr e ra => Sys2Proof.Machine.execOpBr e ra s
  | .opLoop e ra last => Sys2Proof.Machine.execOpLoop e ra last s
  | .opLoopi e count last => Sys2Proof.Machine.execOpLoopi e count last s
  | .opEnd e => Sys2Proof.Machine.execOpEnd e s
  | .tideMemoryWrite core addr val => Sys2Proof.Machine.execTideMemoryWrite core addr val s
  | .engineHalt core cpl => Sys2Proof.Machine.execEngineHalt core cpl s
  | .engineRelease core cpl => Sys2Proof.Machine.execEngineRelease core cpl s
  | .tacFaultClr core cpl => Sys2Proof.Machine.execTacFaultClr core cpl s
  | .controlModeHandover core cpl => Sys2Proof.Machine.execControlModeHandover core cpl s
  | .permitOwnerHandover core cpl => Sys2Proof.Machine.execPermitOwnerHandover core cpl s
  | .share h p => Sys2Proof.Machine.execShare h p s
  | .offer h p => Sys2Proof.Machine.execOffer h p s
  | .hoOut h p => Sys2Proof.Machine.execHoOut h p s
  | .claim h p => Sys2Proof.Machine.execClaim h p s
  | .hoFail h p => Sys2Proof.Machine.execHoFail h p s
  | .claimTimeout car => Sys2Proof.Machine.execClaimTimeout car s
  | .segstat h p => Sys2Proof.Machine.execSegstat h p s
  | .updateRequest core val => Sys2Proof.Machine.execUpdateRequest core val s
  | .updateCutoff => Sys2Proof.Machine.execUpdateCutoff s
  | .registerWrite core addr val => Sys2Proof.Machine.execRegisterWrite core addr val s
  | .rcRead core addr => Sys2Proof.Machine.execRcRead core addr s
  | .pairLoRead core addr => Sys2Proof.Machine.execPairLoRead core addr s
  | .pairLoWrite core addr val => Sys2Proof.Machine.execPairLoWrite core addr val s
  | .pairHiWrite core addr val => Sys2Proof.Machine.execPairHiWrite core addr val s
  | .narrowAccess core wr addr width => Sys2Proof.Machine.execNarrowAccess core wr addr width s
  | .unmappedAccess core wr addr => Sys2Proof.Machine.execUnmappedAccess core wr addr s
  | .guardedValWrite core addr val => Sys2Proof.Machine.execGuardedValWrite core addr val s
  | .mramWindowWrite core addr width val => Sys2Proof.Machine.execMramWindowWrite core addr width val s
  | .systemSnapshot core val => Sys2Proof.Machine.execSystemSnapshot core val s
  | .trjSnap core val => Sys2Proof.Machine.execTrjSnap core val s
  | .cmmSnap core val => Sys2Proof.Machine.execCmmSnap core val s
  | .fbkSnap core val => Sys2Proof.Machine.execFbkSnap core val s
  | .fioSnap core val => Sys2Proof.Machine.execFioSnap core val s
  | .modeReqDormant core cpl => Sys2Proof.Machine.execModeReqDormant core cpl s
  | .modeReqWatch core cpl => Sys2Proof.Machine.execModeReqWatch core cpl s
  | .modeReqStandby core cpl => Sys2Proof.Machine.execModeReqStandby core cpl s
  | .modeReqService core cpl => Sys2Proof.Machine.execModeReqService core cpl s
  | .modeReqInspection core cpl => Sys2Proof.Machine.execModeReqInspection core cpl s
  | .modeReqRescue core cpl => Sys2Proof.Machine.execModeReqRescue core cpl s
  | .modeReqCommissioning core cpl => Sys2Proof.Machine.execModeReqCommissioning core cpl s
  | .modeReqLockout core cpl => Sys2Proof.Machine.execModeReqLockout core cpl s
  | .millisecondInstant => Sys2Proof.Machine.execMillisecondInstant s
  | .modeTransitionDone => Sys2Proof.Machine.execModeTransitionDone s
  | .standbyIdleExpiry => Sys2Proof.Machine.execStandbyIdleExpiry s
  | .serviceIdleExpiry => Sys2Proof.Machine.execServiceIdleExpiry s
  | .spineWakeDetect port => Sys2Proof.Machine.execSpineWakeDetect port s
  | .lbEnergyDetect port => Sys2Proof.Machine.execLbEnergyDetect port s
  | .fieldWakeEdge group => Sys2Proof.Machine.execFieldWakeEdge group s
  | .timeAlarm => Sys2Proof.Machine.execTimeAlarm s
  | .clockStopDetect => Sys2Proof.Machine.execClockStopDetect s
  | .clockCrossMonitorFault clock => Sys2Proof.Machine.execClockCrossMonitorFault clock s
  | .wakeNotice h p => Sys2Proof.Machine.execWakeNotice h p s
  | .rescue h reason => Sys2Proof.Machine.execRescue h reason s
  | .supplyThresholdCross rail low beyond => Sys2Proof.Machine.execSupplyThresholdCross rail low beyond s
  | .supplyMonitorReset rail => Sys2Proof.Machine.execSupplyMonitorReset rail s
  | .powerOnReset => Sys2Proof.Machine.execPowerOnReset s
  | .nrstReset lowNs => Sys2Proof.Machine.execNrstReset lowNs s
  | .softwareReset core cpl => Sys2Proof.Machine.execSoftwareReset core cpl s
  | .resetRelease boot coreFail eclFail xtalOk => Sys2Proof.Machine.execResetRelease boot coreFail eclFail xtalOk s
  | .loaderImageReceive usb img => Sys2Proof.Machine.execLoaderImageReceive usb img s
  | .spsImageTransfer shadow len gen payload => Sys2Proof.Machine.execSpsImageTransfer shadow len gen payload s
  | .spsConfirm core cpl => Sys2Proof.Machine.execSpsConfirm core cpl s
  | .keyCfRelease => Sys2Proof.Machine.execKeyCfRelease s
  | .spsConfirmTimeout => Sys2Proof.Machine.execSpsConfirmTimeout s
  | .spsCommit agree => Sys2Proof.Machine.execSpsCommit agree s
  | .cfgOpsCommit core cpl => Sys2Proof.Machine.execCfgOpsCommit core cpl s
  | .opsCommitDone agree => Sys2Proof.Machine.execOpsCommitDone agree s
  | .cfgLcCmd core cpl => Sys2Proof.Machine.execCfgLcCmd core cpl s
  | .lifeCycleWipeDone => Sys2Proof.Machine.execLifeCycleWipeDone s
  | .trjQueue core val => Sys2Proof.Machine.execTrjQueue core val s
  | .trjStop core val => Sys2Proof.Machine.execTrjStop core val s
  | .trjResume core val => Sys2Proof.Machine.execTrjResume core val s
  | .trjAbort core val => Sys2Proof.Machine.execTrjAbort core val s
  | .trjHome core val => Sys2Proof.Machine.execTrjHome core val s
  | .trjFlush core val => Sys2Proof.Machine.execTrjFlush core val s
  | .spanCheckDone => Sys2Proof.Machine.execSpanCheckDone s
  | .tstWrite core addr val => Sys2Proof.Machine.execTstWrite core addr val s
  | .latchArm core val => Sys2Proof.Machine.execLatchArm core val s
  | .latchDisarm core val => Sys2Proof.Machine.execLatchDisarm core val s
  | .latchHoldoffExpiry unit => Sys2Proof.Machine.execLatchHoldoffExpiry unit s
  | .homeDecision axis => Sys2Proof.Machine.execHomeDecision axis s
  | .compareArm core unit val => Sys2Proof.Machine.execCompareArm core unit val s
  | .compareDisarm core val => Sys2Proof.Machine.execCompareDisarm core val s
  | .fbkArmOnceIndex core val => Sys2Proof.Machine.execFbkArmOnceIndex core val s
  | .fbkClearSignalFault core val => Sys2Proof.Machine.execFbkClearSignalFault core val s
  | .fbkRenegotiatePort core val => Sys2Proof.Machine.execFbkRenegotiatePort core val s
  | .analogSample ch sn cs ref => Sys2Proof.Machine.execAnalogSample ch sn cs ref s
  | .kspClockHoldExpiry port => Sys2Proof.Machine.execKspClockHoldExpiry port s
  | .kspTransactionDone port r => Sys2Proof.Machine.execKspTransactionDone port r s
  | .kspFaultPauseExpiry port => Sys2Proof.Machine.execKspFaultPauseExpiry port s
  | .ssiTransferDone port r => Sys2Proof.Machine.execSsiTransferDone port r s
  | .doorOpen core val => Sys2Proof.Machine.execDoorOpen core val s
  | .doorClose core val => Sys2Proof.Machine.execDoorClose core val s
  | .doorNudge core val => Sys2Proof.Machine.execDoorNudge core val s
  | .doorStop core val => Sys2Proof.Machine.execDoorStop core val s
  | .obstruction door => Sys2Proof.Machine.execObstruction door s
  | .stall door => Sys2Proof.Machine.execStall door s
  | .keExc door => Sys2Proof.Machine.execKeExc door s
  | .dwellExpiry door => Sys2Proof.Machine.execDwellExpiry door s
  | .nudgeTimerExpiry door => Sys2Proof.Machine.execNudgeTimerExpiry door s
  | .lockFail door => Sys2Proof.Machine.execLockFail door s
  | .bssAdd core val => Sys2Proof.Machine.execBssAdd core val s
  | .bssRemove core val => Sys2Proof.Machine.execBssRemove core val s
  | .bssClear core val => Sys2Proof.Machine.execBssClear core val s
  | .depart core val => Sys2Proof.Machine.execDepart core val s
  | .bssEvaluation => Sys2Proof.Machine.execBssEvaluation s
  | .resAnswerTimeout => Sys2Proof.Machine.execResAnswerTimeout s
  | .thermalUpdate => Sys2Proof.Machine.execThermalUpdate s
  | .resReq h p => Sys2Proof.Machine.execResReq h p s
  | .resAns h p => Sys2Proof.Machine.execResAns h p s
  | .resRel h p => Sys2Proof.Machine.execResRel h p s
  | .resTrim h p => Sys2Proof.Machine.execResTrim h p s
  | .stopq h p => Sys2Proof.Machine.execStopq h p s
  | .heldReservationRelease id => Sys2Proof.Machine.execHeldReservationRelease id s
  | .slkNodeClr core cpl => Sys2Proof.Machine.execSlkNodeClr core cpl s
  | .captureReceiveBuffer core val => Sys2Proof.Machine.execCaptureReceiveBuffer core val s
  | .captureTransmitBuffer core val => Sys2Proof.Machine.execCaptureTransmitBuffer core val s
  | .captureRelease core val => Sys2Proof.Machine.execCaptureRelease core val s
  | .portIdleEnd port => Sys2Proof.Machine.execPortIdleEnd port s
  | .fieldRefresh => Sys2Proof.Machine.execFieldRefresh s
  | .dieFrameReceived link ok => Sys2Proof.Machine.execDieFrameReceived link ok s
  | .fieldReply g r => Sys2Proof.Machine.execFieldReply g r s
  | .fieldReplyMissing g core ecl => Sys2Proof.Machine.execFieldReplyMissing g core ecl s
  | .dieSilenceTimeout g => Sys2Proof.Machine.execDieSilenceTimeout g s
  | .inputFilterAccept input level t => Sys2Proof.Machine.execInputFilterAccept input level t s
  | .fastInputEdge f rising t => Sys2Proof.Machine.execFastInputEdge f rising t s
  | .frequencyGate f => Sys2Proof.Machine.execFrequencyGate f s
  | .frequencyZeroTimeout f => Sys2Proof.Machine.execFrequencyZeroTimeout f s
  | .comparePulseEnd out => Sys2Proof.Machine.execComparePulseEnd out s
  | .outputThermalShutdown out => Sys2Proof.Machine.execOutputThermalShutdown out s
  | .outputCooled out => Sys2Proof.Machine.execOutputCooled out s
  | .fioOutClr core cpl => Sys2Proof.Machine.execFioOutClr core cpl s
  | .offPulseStart out => Sys2Proof.Machine.execOffPulseStart out s
  | .offPulseEnd out rb => Sys2Proof.Machine.execOffPulseEnd out rb s
  | .lplusMeasure g v => Sys2Proof.Machine.execLplusMeasure g v s
  | .uv g => Sys2Proof.Machine.execUv g s
  | .uvClear g => Sys2Proof.Machine.execUvClear g s
  | .stoLinkTimeout link => Sys2Proof.Machine.execStoLinkTimeout link s
  | .stobEnergise port => Sys2Proof.Machine.execStobEnergise port s
  | .safetyCoreLockstepError => Sys2Proof.Machine.execSafetyCoreLockstepError s
  | .eclipseSelftest pass => Sys2Proof.Machine.execEclipseSelftest pass s
  | .resetPair => Sys2Proof.Machine.execResetPair s
  | .safResetCmd core cpl => Sys2Proof.Machine.execSafResetCmd core cpl s
  | .diagSuspend core cpl => Sys2Proof.Machine.execDiagSuspend core cpl s
  | .diagResume core cpl => Sys2Proof.Machine.execDiagResume core cpl s
  | .proofTestConfirm core cpl => Sys2Proof.Machine.execProofTestConfirm core cpl s
  | .proofDue => Sys2Proof.Machine.execProofDue s
  | .sramScrub bad => Sys2Proof.Machine.execSramScrub bad s
  | .mramScrub bad => Sys2Proof.Machine.execMramScrub bad s
  | .discrepancyTick => Sys2Proof.Machine.execDiscrepancyTick s
  | .carState h b => Sys2Proof.Machine.execCarState h b s
  | .secState h b => Sys2Proof.Machine.execSecState h b s
  | .permit h b => Sys2Proof.Machine.execPermit h b s
  | .telegramWatchdogExpiry kind src => Sys2Proof.Machine.execTelegramWatchdogExpiry kind src s
  | .interlockTelegram port b => Sys2Proof.Machine.execInterlockTelegram port b s
  | .brakeFeedbackTimeout brake => Sys2Proof.Machine.execBrakeFeedbackTimeout brake s
  | .spineLinkUp port mode sqi => Sys2Proof.Machine.execSpineLinkUp port mode sqi s
  | .spineLinkDown port => Sys2Proof.Machine.execSpineLinkDown port s
  | .wakePulse core port val => Sys2Proof.Machine.execWakePulse core port val s
  | .cableTest core port val => Sys2Proof.Machine.execCableTest core port val s
  | .cableTestDone port result dist => Sys2Proof.Machine.execCableTestDone port result dist s
  | .restoreDownshiftedModes core port val => Sys2Proof.Machine.execRestoreDownshiftedModes core port val s
  | .fabKeyLoad core cpl => Sys2Proof.Machine.execFabKeyLoad core cpl s
  | .lbFrameReceived port f => Sys2Proof.Machine.execLbFrameReceived port f s
  | .lbCollision port cycle => Sys2Proof.Machine.execLbCollision port cycle s
  | .foreignBeacon port => Sys2Proof.Machine.execForeignBeacon port s
  | .plcaResume port => Sys2Proof.Machine.execPlcaResume port s
  | .announce h p => Sys2Proof.Machine.execAnnounce h p s
  | .heartbeat h p => Sys2Proof.Machine.execHeartbeat h p s
  | .peerDead peer => Sys2Proof.Machine.execPeerDead peer s
  | .frameForward h type p => Sys2Proof.Machine.execFrameForward h type p s
  | .takeover h p => Sys2Proof.Machine.execTakeover h p s
  | .fenced h p => Sys2Proof.Machine.execFenced h p s
  | .stale h p => Sys2Proof.Machine.execStale h p s
  | .app h p => Sys2Proof.Machine.execApp h p s
  | .ptpSecond => Sys2Proof.Machine.execPtpSecond s
  | .heartbeatSend => Sys2Proof.Machine.execHeartbeatSend s
  | .settlingEnd => Sys2Proof.Machine.execSettlingEnd s
  | .takeoverStart cover => Sys2Proof.Machine.execTakeoverStart cover s
  | .takeoverCopyDone => Sys2Proof.Machine.execTakeoverCopyDone s
  | .takeMaxExpiry peer => Sys2Proof.Machine.execTakeMaxExpiry peer s
  | .sectionClose core cpl => Sys2Proof.Machine.execSectionClose core cpl s
  | .sectionReopen core cpl => Sys2Proof.Machine.execSectionReopen core cpl s
  | .standbyGiveUpId core cpl => Sys2Proof.Machine.execStandbyGiveUpId core cpl s
  | .fenceRelease core cpl => Sys2Proof.Machine.execFenceRelease core cpl s
  | .addendWrite core val => Sys2Proof.Machine.execAddendWrite core val s
  | .clockStep core val => Sys2Proof.Machine.execClockStep core val s
  | .setSync core val => Sys2Proof.Machine.execSetSync core val s
  | .clearSync core val => Sys2Proof.Machine.execClearSync core val s
  | .ptpEventMessage port stamp m => Sys2Proof.Machine.execPtpEventMessage port stamp m s
  | .syncReceiptTimeout => Sys2Proof.Machine.execSyncReceiptTimeout s
  | .txTimestampEnqueue port msgType seqId stamp => Sys2Proof.Machine.execTxTimestampEnqueue port msgType seqId stamp s
  | .txqPop core port val => Sys2Proof.Machine.execTxqPop core port val s
  | .txqNsRead core port => Sys2Proof.Machine.execTxqNsRead core port s
  | .nowNsRead core => Sys2Proof.Machine.execNowNsRead core s
  | .snapArm core val => Sys2Proof.Machine.execSnapArm core val s
  | .snapDisarm core val => Sys2Proof.Machine.execSnapDisarm core val s
  | .timedSnapshotFire => Sys2Proof.Machine.execTimedSnapshotFire s
  | .recordWrite => Sys2Proof.Machine.execRecordWrite s
  | .recClear core cpl => Sys2Proof.Machine.execRecClear core cpl s
  | .cleared => Sys2Proof.Machine.execCleared s
  | .recAppCmd core val => Sys2Proof.Machine.execRecAppCmd core val s
  | .extest lands pattern => Sys2Proof.Machine.execExtest lands pattern s
  | .idcode => Sys2Proof.Machine.execIdcode s
  | .samplePreload lands pattern => Sys2Proof.Machine.execSamplePreload lands pattern s
  | .bypass code => Sys2Proof.Machine.execBypass code s
  | .ptpGeneralMessage port m => Sys2Proof.Machine.execPtpGeneralMessage port m s
  | .frameDiscarded port macsec => Sys2Proof.Machine.execFrameDiscarded port macsec s
  | .eccDoubleOnAccess core addr => Sys2Proof.Machine.execEccDoubleOnAccess core addr s
  | .loaderLifeCycleChange retire fabricId pubKey => Sys2Proof.Machine.execLoaderLifeCycleChange retire fabricId pubKey s

end Sys2Proof.Machine
end

