-- ==== Sys2Proof/Machine/Step.lean ====
section
/-!
DEFINITION. One step of the block: the command at the front of the queue, or with an empty queue one tick of the 125 MHz
clock.
-/

namespace Sys2Proof.Machine

open Sys2Proof

/-- The state with the rest of the queue. -/
def State.withQueue (s : State) (q : List Instr) : State := { s with pending := q }

/-- The state with command `c` put at the front of its queue. -/
def State.push (s : State) (c : Instr) : State := s.withQueue (c :: s.pending)

/-- A step takes the command at the front of the queue and does its effect; with no command waiting the clocks tick once (log
entry 1). -/
def step (s : State) : Host.Outcome State Fault Refusal :=
  match s.pending with
  | [] => .next (idleTick s)
  | c :: q => exec c (s.withQueue q)

/-- The state with the command a table word spells put at the front of its queue; unchanged where it spells none. -/
def State.withFetchWord (s : State) (nbits w : Nat) : State :=
  match decodeTableWord nbits w with
  | some c => s.push c
  | none => s

end Sys2Proof.Machine
end

