-- ==== Sys2Proof/Safety.lean ====
section
/-!
DEFINITION. What claims say about runs: the canonical form of memories, the PTP clock's ranges, and the invariant that every
step keeps.
-/

namespace Sys2Proof.Machine

open Sys2Proof

/-- The canonical form of a byte memory: addresses strictly rising, no entry equal to what an unlisted address reads as. -/
def Memory.wf (m : List Host.Cell) : Bool := smWf (fun _ => (0 : Byte)) m

/-- The canonical form of a word memory. -/
def wordsWf (m : List (Nat × Word)) : Bool := smWf (fun _ => (0 : Word)) m

/-- The parts of the PTP clock are in range (19 R576). -/
def clockOk (s : State) : Bool :=
  decide (s.tb.sec < 2 ^ 48) && decide (s.tb.ns < 1000000000) && decide (s.tb.frac < 2 ^ 28)

/-- The invariant: the clock is in range, and the system SRAM, the MRAM and the Tide memories keep their canonical form. -/
def Inv (s : State) : Prop :=
  clockOk s = true ∧ Memory.wf s.sram = true ∧ Memory.wf s.nv.mram = true ∧ wordsWf s.tide.code = true ∧ wordsWf s.tide.data = true

/-- A device that runs and may be commanded: out of reset, not Dormant. -/
abbrev Running (s : State) : Prop := s.pw.phase = Phase.running ∧ s.mode ≠ Mode.dormant

/-- A sender whose writes reach the bus: core 0 or Benrex Studio of a running device. -/
abbrev Writes (s : State) (core : Sender) : Prop := Running s ∧ (core.val = 0 ∨ core.val = 4)

/-- No guarded write is armed in the block of `a`. -/
abbrev Unguarded (s : State) (a : Nat) : Prop := (blockOf a).bind (smFind s.bus.guards) = none

/-- A guarded write of `v` to `a` is armed in its block, and no more than 16 us old (05 R153). -/
abbrev Armed (s : State) (a : Nat) (v : Word) : Prop :=
  ((blockOf a).bind (smFind s.bus.guards)).any
    (fun g => g.addr == a && g.val == v && decide (s.tb.tick ≤ g.tick + guardTicks)) = true

/-- Command `i` answers a next state that has `P`. -/
def Completes (i : Instr) (s : State) (P : State → Prop) : Prop := ∃ t, exec i s = .next t ∧ P t

/-- Register `a` is an RW register outside the pairs, aligned, that is only stored to. -/
abbrev StoredSingle (a : Nat) : Prop :=
  accTypeOf a = some Acc.rw ∧ pairRole a = .single ∧ a % 4 = 0 ∧ a ≠ Reg.TIM_ADDEND ∧ a ≠ Reg.TIM_SNAP_AT_NS

/-- `lo` is LO of an RW pair that is only stored to (the compare positions arm their unit). -/
abbrev StoredPair (lo : Nat) : Prop :=
  accTypeOf lo = some Acc.rw ∧ accTypeOf (lo + 4) = some Acc.rw ∧ pairRole lo = .lo ∧ pairRole (lo + 4) = .hi ∧
    regGroup (lo + 4) = regGroup lo ∧ lo % 4 = 0 ∧ idxOf (lo + 4) (Reg.TRJ_CMP_POS_HI 0) 32 0x10 = none

/-- Every register but those of `l` reads as before. -/
def RegsBut (l : List Nat) (s t : State) : Prop := ∀ a, a ∉ l → t.reg a = s.reg a

/-! ### Omgil runs, as claims speak of them -/

/-- The run on engine `e` is `r`, and the word at its pc stands for `i`. -/
abbrev At (s : State) (e : Fin 8) (i : Instr) (r : Run) : Prop :=
  runOf s e.val = some r ∧ omgilDecode e (codeWord s e.val r.pc) = some i

/-- From `s` to `t` the run on engine `e` became `r'`, and nothing else changed. -/
def RunsOn (s t : State) (e : Fin 8) (r' : Run) : Prop :=
  runOf t e.val = some r' ∧ (∀ n, n ≠ e.val → runOf t n = runOf s n) ∧
    t = { s with tide := { s.tide with runs := t.tide.runs } }

/-- The pc and the hardware loop after an instruction that takes no branch (06 R164, R190). -/
def MovedOn (r r' : Run) : Prop :=
  (r.loop = none → r'.pc = (r.pc + 1) % 16384 ∧ r'.loop = none) ∧
  ∀ l, r.loop = some l →
    (r.pc ≠ l.last → r'.pc = (r.pc + 1) % 16384 ∧ r'.loop = some l) ∧
    (r.pc = l.last → 1 < l.left → r'.pc = l.first ∧ r'.loop = some { l with left := l.left - 1 }) ∧
    (r.pc = l.last → l.left ≤ 1 → r'.pc = (r.pc + 1) % 16384 ∧ r'.loop = none)

/-- Working register `rd` took `v` (w0 stays 0) and every other kept its value. -/
def RegTakes (rd : Fin 32) (v : Word) (r r' : Run) : Prop :=
  ∀ i, wreg r' i = if i = rd ∧ rd ≠ 0 then v else wreg r i

/-- Every working register kept its value. -/
def RegsKept (r r' : Run) : Prop := ∀ i, wreg r' i = wreg r i

/-- Every accumulator kept its value. -/
def AccsKept (r r' : Run) : Prop := ∀ a, accOf r' a = accOf r a

/-- The flags. -/
def Flags (r' : Run) (z n c v : Bool) : Prop := r'.z = z ∧ r'.n = n ∧ r'.c = c ∧ r'.v = v

/-- The flags kept their values. -/
def FlagsKept (r r' : Run) : Prop := Flags r' r.z r.n r.c r.v

/-- One cycle of the budget used, the pc moved on, slot and staged outputs as before. -/
def OneCycle (r r' : Run) : Prop :=
  r'.left = r.left - 1 ∧ MovedOn r r' ∧ r'.slot = r.slot ∧ r'.staged = r.staged

/-- `i` completes on engine `e` in one cycle: `rd` takes `v`, the flags are as given, nothing else changes. -/
def RegResult (s : State) (e : Fin 8) (i : Instr) (r : Run) (rd : Fin 32) (v : Word) (z n c o : Bool) : Prop :=
  Completes i s (fun t => ∃ r', RunsOn s t e r' ∧ OneCycle r r' ∧ RegTakes rd v r r' ∧ AccsKept r r' ∧ Flags r' z n c o)

/-- `i` completes on engine `e` in one cycle: accumulator `acc` takes `v`, Z and N tell of it, V is `o`, C and everything else
stays. -/
def AccResult (s : State) (e : Fin 8) (i : Instr) (r : Run) (acc : Fin 4) (v : DWord) (o : Bool) : Prop :=
  Completes i s (fun t => ∃ r', RunsOn s t e r' ∧ OneCycle r r' ∧ RegsKept r r' ∧
    (∀ a, accOf r' a = if a = acc then v else accOf r a) ∧ Flags r' (v == 0) v.msb r.c o)

/-- Data word `w` of engine `e` took `v` by a one-cycle store, and nothing else changed but the run's pc, loop and budget. -/
def Stored (s t : State) (e : Fin 8) (r : Run) (w : Nat) (v : Word) : Prop :=
  dataWord t e.val w = v ∧ (∀ j, j ≠ 16384 * e.val + w → smGet 0 t.tide.data j = smGet 0 s.tide.data j) ∧
    (∀ n, n ≠ e.val → runOf t n = runOf s n) ∧
    (∃ r', runOf t e.val = some r' ∧ OneCycle r r' ∧ RegsKept r r' ∧ AccsKept r r' ∧ FlagsKept r r') ∧
    t = { s with tide := { s.tide with runs := t.tide.runs, data := t.tide.data } }

/-- A taken branch to `p`: 2 cycles, and the hardware loop stays active only if `p` lies in its body (06 R191). -/
def Jumped (r r' : Run) (p : Nat) : Prop :=
  r'.left = r.left - 2 ∧ r'.pc = p ∧ r'.slot = r.slot ∧ r'.staged = r.staged ∧ AccsKept r r' ∧ FlagsKept r r' ∧
    (∀ l, r.loop = some l → l.first ≤ p → p ≤ l.last → r'.loop = some l) ∧
    ((r.loop = none ∨ ∃ l, r.loop = some l ∧ (p < l.first ∨ l.last < p)) → r'.loop = none)

/-- `i` ends the run on engine `e` with the cause of code `code` (06 Table 6.9): TAC_TRAP_INFO takes slot, cause and pc with its tag
advanced, TRAP and the slot's overrun flags set, both overrun counts rise and stop at 15 and 65,535; nothing is committed or saved,
and no other register changes. Of a run whose overrun does not fault its slot. -/
def Traps (s : State) (e : Fin 8) (i : Instr) (r : Run) (code : Nat) : Prop :=
  let g := 24 * e.val + r.slot.val
  (nOvr s g ≤ min 15 (s.get (F.TAC_OVR.CONSEC g) + 1) → slotFault s g = true) →
  Completes i s (fun t =>
    runOf t e.val = none ∧ (∀ n, n ≠ e.val → runOf t n = runOf s n) ∧
    t.reg (Reg.TAC_TRAP_INFO e.val) = wd ((r.slot.val * 2 ^ 25 + code * 2 ^ 21 + r.pc % 16384) +
      ((s.reg (Reg.TAC_TRAP_INFO e.val)).toNat / 2 ^ 30 + 1) % 4 * 2 ^ 30) ∧
    t.bit F.TAC_EVENT.TRAP e.val = true ∧
    t.get (F.TAC_OVR.CONSEC g) = min 15 (s.get (F.TAC_OVR.CONSEC g) + 1) ∧
    t.bit (F.TAC_OVR_EVENT.OVR (g / 32)) (g % 32) = true ∧
    (t.slot g).run = RunState.overran ∧ t.tide.data = s.tide.data ∧ t.tide.outs = s.tide.outs ∧
    RegsBut [Reg.TAC_TRAP_INFO e.val, Reg.TAC_EVENT, Reg.TAC_OVR g, Reg.TAC_OVR_EVENT (g / 32)] s t ∧
    t = { s with bus := t.bus, tide := t.tide })

/-- A unicast frame for this device that nothing discards and that fences nothing: it arrives on an up port with the start-up wait over,
from another device heard for 1.1 s (18 R548) and at no other epoch than the one in force for it. -/
def Delivers (s : State) (h : Hdr) : Prop :=
  s.awake = true ∧ spineUp s h.port.val = true ∧ s.fab.settle = none ∧ h.src ≠ s.myId ∧ h.bcast = false ∧ h.dst = s.myId ∧
    ∃ x, smFind s.fab.epochs h.src = some x ∧ x.epoch = h.epoch ∧ x.since + 137500000 ≤ s.tb.tick

/-- A group broadcast from another device arrives on an up port, at no older epoch than the one in force for it. -/
def HeardInGroup (s : State) (h : Hdr) : Prop :=
  s.awake = true ∧ spineUp s h.port.val = true ∧ h.src ≠ s.myId ∧ h.bcast = true ∧ h.dst / 256 = s.myId / 256 ∧
    ∀ x, smFind s.fab.epochs h.src = some x → newerEpoch x.epoch h.epoch = false

/-- The start-up wait is over and the source has been heard for 1.1 s (18 R548). -/
def Settled (s : State) (src : Nat) : Prop :=
  s.fab.settle = none ∧ ∃ x, smFind s.fab.epochs src = some x ∧ x.since + 137500000 ≤ s.tb.tick

/-- What hearing a frame changes beside its effect: the epochs and the peers seen. -/
def HeardBut (s t : State) : Prop := t.fab = { s.fab with epochs := t.fab.epochs, peers := t.fab.peers }

/-- Own drive channel of segment `seg` of the section. -/
def segChan (s : State) (seg : Nat) : Option Nat := ((ownSegs s.conf.geom).find? (fun x => x.seg == seg)).map (fun x => x.chan)

/-- The guarded write of `v` to `va` is armed and its sender may access the bus: the write of the complement completes it. -/
abbrev Guarded (s : State) (core : Sender) (va : Nat) (v : Word) : Prop := canAccess s core = true ∧ Armed s va v

/-- Nothing changed but registers (and the guarded write that was used up). -/
def OnlyRegs (l : List Nat) (s t : State) : Prop :=
  RegsBut l s t ∧ (∀ b, t.pendReg b = s.pendReg b) ∧ t = { s with bus := t.bus }

/-- The device is in Lock-out, and would be after a reset. -/
def LockedOut (t : State) : Prop := t.mode = Mode.lockout ∧ t.nv.lc.lockout = true

/-- Event bit i of door d. -/
def DoorEvent (s : State) (d i : Nat) : Bool := s.bit (if d = 0 then F.TRJ_DOOR_EVENT.DOOR0 else F.TRJ_DOOR_EVENT.DOOR1) i

/-- The axis of door d runs a move at a speed. -/
def DoorRuns (s : State) (d : Nat) : Prop :=
  (s.axis (doorAxis s d)).st = .running ∧ (s.axis (doorAxis s d)).mv ≠ none ∧ (s.axis (doorAxis s d)).spVel ≠ 0 ∧
    (s.axis (doorAxis s d)).restNow = false

/-- Only door d and the events of the doors changed. -/
def OnlyDoor (d : Nat) (s t : State) : Prop :=
  (∀ e, e ≠ d → t.door e = s.door e) ∧ RegsBut [Reg.TRJ_DOOR_EVENT] s t ∧ t = { s with bus := t.bus, doors := t.doors }

/-- A result pair at `lo` holds `v` in 62 bits, its tag one above that of `s`. -/
def Snapped (s t : State) (lo : Nat) (v : Int) : Prop :=
  t.reg lo = lo32 (uns 62 v) ∧
    t.reg (lo + 4) = wd (uns 62 v / 2 ^ 32 + ((s.reg (lo + 4)).toNat / 2 ^ 30 + 1) % 4 * 2 ^ 30)

/-- A single result register at `a` holds `v` in 30 bits, its tag one above that of `s`. -/
def Snapped30 (s t : State) (a v : Nat) : Prop :=
  t.reg a = wd (v % 2 ^ 30 + ((s.reg a).toNat / 2 ^ 30 + 1) % 4 * 2 ^ 30)

/-- Block b took a snapshot in this clock (05 R147). -/
abbrev SnapTaken (s : State) (b : Nat) : Prop := smFind s.bus.snapAt b = some s.tb.tick

/-- A snapshot changes registers alone. -/
def SnapOnly (s t : State) : Prop := t = { s with bus := t.bus } ∧ ∀ b, t.pendReg b = s.pendReg b

/-- The bytes of `bs` stand in the MRAM from an offset on. -/
def MramHolds (t : State) (off : Nat) (bs : List Byte) : Prop := ∀ i, i < bs.length → smGet 0 t.nv.mram (off + i) = bs.getD i 0

/-- Event `e` has entered queue `q`, which is now `q'`: at the end, but before the events of its own clock with a higher SOURCE (20 R593). -/
def Entered (e : RecEv) (q q' : List RecEv) : Prop :=
  ∃ a b, q = a ++ b ∧ q' = a ++ e :: b ∧
    (∀ x, x ∈ b → x.sec = e.sec ∧ x.ns = e.ns ∧ e.src * 256 + e.unit < x.src * 256 + x.unit) ∧
    (∀ x, a.getLast? = some x → ¬(x.sec = e.sec ∧ x.ns = e.ns ∧ e.src * 256 + e.unit < x.src * 256 + x.unit))

/-- A reset of this cause is in force (04 R96 to R98, R100): registers, memories and blocks are at their reset values, the causes add
up; the queue, the tick count, the holdover time, the dies and the bar on Dormant stay, and every STO line is de-energised. -/
def ResetInForce (cause : Nat) (s t : State) : Prop :=
  t.pw.phase = Phase.inReset ∧ t.pw.bar = s.pw.bar ∧ t.conf.causes = Nat.lor s.conf.causes cause ∧ (∀ a, t.reg a = wd (regReset a)) ∧
    (∀ a, t.pendReg a = wd (regReset a)) ∧ t.sram = [] ∧ t.tide = State.reset.tide ∧ t.cars = [] ∧ t.chans = [] ∧ t.trj = State.reset.trj ∧
    t.saf = State.reset.saf ∧ t.bss = State.reset.bss ∧ t.rcd = State.reset.rcd ∧ t.fio.dies = s.fio.dies ∧
    (∀ e, e ∈ t.fio.links → e.2.lines = 0) ∧ t.pending = s.pending ∧ t.tb.tick = s.tb.tick ∧ t.tb.holdSec = s.tb.holdSec ∧
    t.caches = Caches.init

end Sys2Proof.Machine
end

