-- ==== Sys2Proof/Certificates/Slice0/Obligations.lean ====
section
/-!
DEFINITION. The statements for the provers. Each names the rules of the spec it rests on; where a clause rests on a choice of the
model, the docstring names the log entry.
-/

open Sys2Proof Sys2Proof.Machine

/-! ### The queue -/

/-- A step runs the command at the front of the queue on the state with the queue's rest; with no command waiting it is one tick:
the tick count rises by 1 and nothing but the time base changes, and while a wipe or a clear of the recorder runs its part of the
non-volatile memory and its progress (the empty-queue step is the model's choice, log entry 1; the rate of a clear is entry 105). -/
def Obligations.StepRunsTheFrontCommand : Prop :=
  (∀ (s : State) (c : Instr), step (s.push c) = exec c s) ∧
  (∀ (s : State) (c : Instr) (q : List Instr), s.pending = c :: q → step s = exec c (s.withQueue q)) ∧
  (∀ s : State, s.pending = [] → ∃ t, step s = .next t ∧ t.tb.tick = s.tb.tick + 1 ∧
    (s.conf.wiping = false → s.rcd.clear = none ∨ s.tb.tick < s.rcd.clearAt + wipeTicks → t = { s with tb := t.tb }) ∧
    (s.conf.wiping = false → ∀ x, s.rcd.clear = some x → s.awake = true → 0 < s.rcd.clearTo → s.rcd.clearAt + wipeTicks ≤ s.tb.tick →
      t.rcd.clearTo = s.rcd.clearTo - 0x10000 ∧ t.rcd.clearAt = s.tb.tick ∧
      (∀ i, 0x430000 + t.rcd.clearTo ≤ i → i < 0x430000 + s.rcd.clearTo → smGet 0 t.nv.mram i = 0) ∧
      (∀ i, i < 0x430000 + t.rcd.clearTo ∨ 0x430000 + s.rcd.clearTo ≤ i → smGet 0 t.nv.mram i = smGet 0 s.nv.mram i)) ∧
    (∀ w, s.conf.wiping = true → s.rcd.clear = none → s.nv.lc.wipe = some w →
      wipeEnd w.img ≤ w.progress ∨ s.tb.tick < s.conf.wipeFrom + wipeTicks → t = { s with tb := t.tb }) ∧
    (∀ w, s.conf.wiping = true → s.rcd.clear = none → s.nv.lc.wipe = some w → w.progress < wipeEnd w.img → s.conf.wipeFrom + wipeTicks ≤ s.tb.tick →
      ∃ w', t.nv.lc.wipe = some w' ∧ w' = { w with progress := w'.progress } ∧ w.progress < w'.progress ∧ w'.progress ≤ wipeEnd w.img ∧
        (w'.progress % 0x10000 = 0 ∨ w'.progress = wipeEnd w.img) ∧
        (∀ i, w.progress ≤ i → i < w'.progress → smGet 0 t.nv.mram i = 0) ∧
        (∀ i, i < w.progress ∨ w'.progress ≤ i → smGet 0 t.nv.mram i = smGet 0 s.nv.mram i)) ∧
    t = { s with
      tb := t.tb
      nv := { s.nv with mram := t.nv.mram, lc := { s.nv.lc with wipe := t.nv.lc.wipe } }
      rcd := { s.rcd with clearTo := t.rcd.clearTo, clearAt := t.rcd.clearAt }
      conf := { s.conf with wipeFrom := t.conf.wipeFrom } })

/-! ### 05: register access -/

/-- REGISTER_WRITE of a stored register. A configuration register's pending copy takes the value and the running device is
unchanged; between cutoff and boundary the write is held back; any other register takes it at once; reserved bits are ignored; an
override above 65,536 is stored as 65,536; EN and PORT of a learned member route stay; a register of a function that the device's
role does not have ignores the write, and so does an RO register. -/
def Obligations.RegisterWriteStores : Prop :=
  ∀ (s : State) (core : Sender) (a : Nat) (v : Word), canAccess s core = true → Unguarded s a → a % 4 = 0 →
    (∀ g, StoredSingle a → regGroup a = some g → roleIdle s a = false → idxOf a (Reg.FAB_MRT 0) 256 4 = none →
      s.bus.frozen.testBit g = false →
      Completes (.registerWrite core a v) s (fun t => t.pendReg a = v &&& wd (regWmask a) ∧
        (∀ b, b ≠ a → t.pendReg b = s.pendReg b) ∧ (∀ b, t.reg b = s.reg b) ∧ t.bus.dirty.testBit g = true ∧
        t.bus.late = s.bus.late ∧ t = { s with bus := t.bus })) ∧
    (∀ g, StoredSingle a → regGroup a = some g → roleIdle s a = false → idxOf a (Reg.FAB_MRT 0) 256 4 = none →
      s.bus.frozen.testBit g = true →
      Completes (.registerWrite core a v) s (fun t => t.bus.late = s.bus.late ++ [(a, v &&& wd (regWmask a))] ∧
        (∀ b, t.pendReg b = s.pendReg b) ∧ (∀ b, t.reg b = s.reg b) ∧ t = { s with bus := t.bus })) ∧
    (StoredSingle a → regGroup a = none → roleIdle s a = false → idxOf a (Reg.TRJ_AXIS_OVR 0) 8 0x40 = none →
      Completes (.registerWrite core a v) s (fun t => t.reg a = v &&& wd (regWmask a) ∧ RegsBut [a] s t ∧
        (∀ b, t.pendReg b = s.pendReg b) ∧ t = { s with bus := t.bus })) ∧
    (∀ n, n < 8 → a = Reg.TRJ_AXIS_OVR n →
      Completes (.registerWrite core a v) s (fun t => t.reg a = wd (min (v.toNat % 2 ^ 17) 65536) ∧ RegsBut [a] s t ∧
        (∀ b, t.pendReg b = s.pendReg b) ∧ t = { s with bus := t.bus })) ∧
    (∀ m, m < 256 → a = Reg.FAB_MRT m → s.bus.frozen.testBit 6 = false → v.getLsbD 30 = true →
      Completes (.registerWrite core a v) s (fun t => t.pendReg a = (s.pendReg a &&& 0x80000003) ||| 0x40000000 ∧
        (∀ b, b ≠ a → t.pendReg b = s.pendReg b) ∧ (∀ b, t.reg b = s.reg b) ∧ t = { s with bus := t.bus })) ∧
    (StoredSingle a → roleIdle s a = true → Completes (.registerWrite core a v) s (fun t => t = s)) ∧
    (accTypeOf a = some Acc.ro → Completes (.registerWrite core a v) s (fun t => t = s))

/-- RC_READ of an event register returns its word; a core's read then clears the RC bits that read 1, Benrex Studio's read clears
nothing. Nothing else changes. -/
def Obligations.EventReadClearsWhatItReturns : Prop :=
  ∀ (s : State) (core : Sender) (b a m : Nat), canAccess s core = true → (a, m) ∈ eventRegs b → roleIdle s a = false →
    Completes (.rcRead core a) s (fun t => smGet 0 t.bus.rdata core.val = readReg s core a ∧
      t.reg a = (if core.val = 4 then s.reg a else s.reg a &&& ~~~ (readReg s core a &&& wd m)) ∧
      RegsBut [a] s t ∧ (∀ c, t.pendReg c = s.pendReg c) ∧ t.bus.shadow = s.bus.shadow ∧ t = { s with bus := t.bus })

/-- PAIR_LO_READ returns LO and keeps HI of the same instant for its reader; a read of HI returns what was kept. PAIR_LO_WRITE holds the
word for its writer; PAIR_HI_WRITE writes all 64 bits, with 0 for bits [31:0] where no LO write preceded it. -/
def Obligations.PairAccessesAreWhole : Prop :=
  (∀ (s : State) (core : Sender) (a : Nat), canAccess s core = true → pairRole a = .lo → pairRole (a + 4) = .hi →
      readable a = true → readable (a + 4) = true →
      Completes (.pairLoRead core a) s (fun t => smGet 0 t.bus.rdata core.val = instantWord s core a ∧
        readReg t core (a + 4) = instantWord s core (a + 4) ∧
        (∀ c : Sender, c ≠ core → readReg t c (a + 4) = readReg s c (a + 4)) ∧
        RegsBut [] s t ∧ (∀ c, t.pendReg c = s.pendReg c) ∧ t = { s with bus := t.bus })) ∧
  (∀ (s : State) (core : Sender) (lo : Nat) (w v : Word), canAccess s core = true → Unguarded s lo → StoredPair lo →
      roleIdle s lo = false → roleIdle s (lo + 4) = false →
      Completes (.pairLoWrite core lo w) s (fun t => holdOf t lo core = w ∧
        (∀ c : Sender, c ≠ core → holdOf t lo c = holdOf s lo c) ∧
        RegsBut [] s t ∧ (∀ b, t.pendReg b = s.pendReg b) ∧ t = { s with bus := t.bus }) ∧
      Completes (.pairHiWrite core (lo + 4) v) s (fun t => holdOf t lo core = 0 ∧
        (regGroup lo = none → t.reg lo = holdOf s lo core &&& wd (regWmask lo) ∧
          t.reg (lo + 4) = v &&& wd (regWmask (lo + 4)) ∧ RegsBut [lo, lo + 4] s t ∧ ∀ b, t.pendReg b = s.pendReg b) ∧
        (∀ g, regGroup lo = some g → s.bus.frozen.testBit g = false →
          t.pendReg lo = holdOf s lo core &&& wd (regWmask lo) ∧ t.pendReg (lo + 4) = v &&& wd (regWmask (lo + 4)) ∧
          RegsBut [] s t ∧ ∀ b, b ≠ lo → b ≠ lo + 4 → t.pendReg b = s.pendReg b) ∧
        (∀ g, regGroup lo = some g → s.bus.frozen.testBit g = true → RegsBut [] s t ∧ ∀ b, t.pendReg b = s.pendReg b) ∧
        t = { s with bus := t.bus }))

/-- GUARDED_VAL_WRITE arms a guarded write of its block and changes no register. A completion that does not follow the armed VAL, by address,
complement or time, has no effect and sets GUARD_ERR with the address. -/
def Obligations.GuardedWritesArmAndBreak : Prop :=
  (∀ (s : State) (core : Sender) (a : Nat) (v : Word), canAccess s core = true → accTypeOf a = some Acc.gwVal →
      Completes (.guardedValWrite core a v) s (fun t => Armed t a v ∧ t = { s with bus := t.bus } ∧
        (∀ b, t.pendReg b = s.pendReg b) ∧
        (Unguarded s a → RegsBut [] s t) ∧
        (¬ Unguarded s a → RegsBut [Reg.SYS_EVENT, Reg.SYS_ERR_ADDR] s t ∧ t.flag F.SYS_EVENT.GUARD_ERR = true ∧
          t.reg Reg.SYS_ERR_ADDR = wd a))) ∧
  (∀ (s : State) (core : Sender) (va : Nat) (c : Word), canAccess s core = true → accTypeOf (va + 4) = some Acc.gwCpl →
      (va + 4) % 4 = 0 → blockOf va = blockOf (va + 4) → ¬ Armed s va (~~~ c) →
      Completes (.registerWrite core (va + 4) c) s (fun t => t.flag F.SYS_EVENT.GUARD_ERR = true ∧
        t.reg Reg.SYS_ERR_ADDR = wd (va + 4) ∧ Unguarded t va ∧ RegsBut [Reg.SYS_EVENT, Reg.SYS_ERR_ADDR] s t ∧
        (∀ b, t.pendReg b = s.pendReg b) ∧ t = { s with bus := t.bus }))

/-- A narrow or unmapped access is refused: a read returns 0, a write has no effect, SYS_EVENT and SYS_ERR_ADDR tell of it. The MRAM window
takes writes in the application-data area alone. -/
def Obligations.RefusedAccessesAndTheMramWindow : Prop :=
  (∀ (s : State) (core : Sender) (wr : Bool) (a w : Nat), canAccess s core = true → Unguarded s a →
      (isNarrow a w = true →
        Completes (.narrowAccess core wr a w) s (fun t => t.flag F.SYS_EVENT.NARROW = true ∧
          t.reg Reg.SYS_ERR_ADDR = wd a ∧ (wr = false → smGet 0 t.bus.rdata core.val = 0) ∧
          (t.flag F.SYS_EVENT.UNMAPPED = true ↔ isUnmapped a = true ∨ s.flag F.SYS_EVENT.UNMAPPED = true) ∧
          RegsBut [Reg.SYS_EVENT, Reg.SYS_ERR_ADDR] s t ∧ (∀ b, t.pendReg b = s.pendReg b) ∧ t = { s with bus := t.bus })) ∧
      (isUnmapped a = true →
        Completes (.unmappedAccess core wr a) s (fun t => t.flag F.SYS_EVENT.UNMAPPED = true ∧
          t.reg Reg.SYS_ERR_ADDR = wd a ∧ (wr = false → smGet 0 t.bus.rdata core.val = 0) ∧
          RegsBut [Reg.SYS_EVENT, Reg.SYS_ERR_ADDR] s t ∧ (∀ b, t.pendReg b = s.pendReg b) ∧ t = { s with bus := t.bus }))) ∧
  (∀ (s : State) (core : Sender) (a w : Nat) (v : DWord), canAccess s core = true →
      mramBase ≤ a → a < mramBase + 0x2000000 → (w = 1 ∨ w = 2 ∨ w = 4 ∨ w = 8) → a % w = 0 →
      (appBase ≤ a - mramBase → a - mramBase < appEnd →
        Completes (.mramWindowWrite core a w v) s (fun t =>
          (∀ i, i < w → smGet 0 t.nv.mram (a - mramBase + i) = BitVec.ofNat 8 (v.toNat / 2 ^ (8 * i))) ∧
          (∀ j, j < a - mramBase ∨ a - mramBase + w ≤ j → smGet 0 t.nv.mram j = smGet 0 s.nv.mram j) ∧
          t = { s with nv := { s.nv with mram := t.nv.mram } })) ∧
      (a - mramBase < appBase ∨ appEnd ≤ a - mramBase →
        Completes (.mramWindowWrite core a w v) s (fun t => t.flag F.SYS_EVENT.UNMAPPED = true ∧
          t.reg Reg.SYS_ERR_ADDR = wd a ∧ RegsBut [Reg.SYS_EVENT, Reg.SYS_ERR_ADDR] s t ∧
          (∀ b, t.pendReg b = s.pendReg b) ∧ t = { s with bus := t.bus })))

/-- A block snapshot completes: a write with bit 0 clear takes none, and a second one in a clock is the first (log entry 10); any other
copies the live values of its block into the holding registers with advanced tags. SYS_SNAP takes every block's at once. -/
def Obligations.SnapshotsFillTheHoldingRegisters : Prop :=
  ∀ (s : State) (core : Sender) (v : Word), canAccess s core = true →
    (Unguarded s Reg.TRJ_SNAP →
      ((v.getLsbD 0 = false ∨ SnapTaken s 3) → exec (.trjSnap core v) s = .next s) ∧
      (v.getLsbD 0 = true → ¬ SnapTaken s 3 → Completes (.trjSnap core v) s (fun t => SnapOnly s t ∧ SnapTaken t 3 ∧ ∀ n, n < 8 →
        Snapped s t (Reg.TRJ_AXIS_SNP_LO n) (if s.servoOn then (s.axis n).spPos else 0) ∧
        Snapped30 s t (Reg.TRJ_AXIS_SNV n) (uns 30 (if s.servoOn then (s.axis n).spVel else 0))))) ∧
    (Unguarded s Reg.CMM_SNAP →
      ((v.getLsbD 0 = false ∨ SnapTaken s 4) → exec (.cmmSnap core v) s = .next s) ∧
      (v.getLsbD 0 = true → ¬ SnapTaken s 4 → Completes (.cmmSnap core v) s (fun t => SnapOnly s t ∧ SnapTaken t 4 ∧
        t.flag F.CMM_EVENT.NEW = true ∧ ∀ n, n < 128 →
          Snapped30 s t (Reg.CMM_CH_SNPV n)
            (if s.servoOn then s.get (F.CMM_CH_VEC.M n) * 2 ^ 14 + s.get (F.CMM_CH_VEC.PHI n) / 4 else 0) ∧
          Snapped30 s t (Reg.CMM_CH_SNPC n)
            (if s.servoOn then s.get (F.CMM_CH_STAT.BAND n) * 2 ^ 28 + s.get (F.CMM_CH_STAT.VSAT_CNT n) else 0)))) ∧
    (Unguarded s Reg.FBK_SNAP →
      ((v.getLsbD 0 = false ∨ SnapTaken s 6) → exec (.fbkSnap core v) s = .next s) ∧
      (v.getLsbD 0 = true → ¬ SnapTaken s 6 → Completes (.fbkSnap core v) s (fun t => SnapOnly s t ∧ SnapTaken t 6 ∧
        t.flag F.FBK_EVENT.NEW = true ∧ ∀ n, n < 144 →
          Snapped s t (Reg.FBK_CH_SNP_LO n) (if s.servoOn then s.pairS (Reg.FBK_CH_POS_LO n) else 0) ∧
          Snapped30 s t (Reg.FBK_CH_SNV n) (uns 30 (if s.servoOn then s.regS (Reg.FBK_CH_VEL n) else 0))))) ∧
    (Unguarded s Reg.FIO_SNAP →
      ((v.getLsbD 0 = false ∨ SnapTaken s 7) → exec (.fioSnap core v) s = .next s) ∧
      (v.getLsbD 0 = true → ¬ SnapTaken s 7 → Completes (.fioSnap core v) s (fun t => SnapOnly s t ∧ SnapTaken t 7 ∧
        t.flag F.FIO_EVENT.NEW = true ∧ ∀ f, f < 16 →
          Snapped s t (Reg.FIO_FIN_SNC_LO f) (s.reg (Reg.FIO_FIN_CNT_LO f)).toNat))) ∧
    (Unguarded s Reg.SYS_SNAP →
      ((v.getLsbD 0 = false ∨ SnapTaken s 10) → exec (.systemSnapshot core v) s = .next s) ∧
      (v.getLsbD 0 = true → (∀ b, ¬ SnapTaken s b) → Completes (.systemSnapshot core v) s (fun t => SnapOnly s t ∧ SnapTaken t 10 ∧
        (∀ n, n < 8 → Snapped s t (Reg.TRJ_AXIS_SNP_LO n) (if s.servoOn then (s.axis n).spPos else 0)) ∧
        (∀ n, n < 144 → Snapped s t (Reg.FBK_CH_SNP_LO n) (if s.servoOn then s.pairS (Reg.FBK_CH_POS_LO n) else 0)) ∧
        (∀ n, n < 128 → Snapped30 s t (Reg.CMM_CH_SNPV n)
          (if s.servoOn then s.get (F.CMM_CH_VEC.M n) * 2 ^ 14 + s.get (F.CMM_CH_VEC.PHI n) / 4 else 0)) ∧
        (∀ f, f < 16 → Snapped s t (Reg.FIO_FIN_SNC_LO f) (s.reg (Reg.FIO_FIN_CNT_LO f)).toNat) ∧
        Snapped s t Reg.TIM_SNAPT_LO (s.tb.sec % 2 ^ 32 * 2 ^ 30 + s.tb.ns : Nat) ∧ t.flag F.SYS_EVENT.SNAP_DONE = true)))

/-- UPDATE_REQUEST combines its mask with those already requested. UPDATE_CUTOFF freezes the requested groups where every check passes,
with BUDGET and PRIV of each enabled slot as its header check read them;
where one fails it freezes none and records the first failing group and its code, 2 where the present mode does not permit the
group. -/
def Obligations.UpdateRequestAndCutoff : Prop :=
  (∀ (s : State) (core : Sender) (v : Word), canAccess s core = true → Unguarded s Reg.SYS_UPDATE →
    Completes (.updateRequest core v) s (fun t => (∀ g, t.bus.armed.testBit g = (s.bus.armed.testBit g || decide (g < 8) && v.getLsbD g)) ∧
      RegsBut [] s t ∧ (∀ b, t.pendReg b = s.pendReg b) ∧ t = { s with bus := t.bus })) ∧
  (∀ s : State, s.awake = true → s.bus.armed ≠ 0 →
    (firstFail s s.bus.armed = none →
      Completes .updateCutoff s (fun t => t.bus.frozen = s.bus.armed ∧ t.bus.armed = 0 ∧ RegsBut [] s t ∧
        (∀ b, t.pendReg b = s.pendReg b) ∧ (s.bus.armed.testBit 0 = false → t = { s with bus := t.bus }) ∧
        (∀ g, g < 192 → s.bus.armed.testBit 0 = true → slotEn (withGroups s.bus.armed s) g = true →
          t.slot g = { s.slot g with
            nextBudget := hdrBudget (withGroups s.bus.armed s) g, nextPriv := hdrPriv (withGroups s.bus.armed s) g }) ∧
        (∀ g, g < 192 → slotEn (withGroups s.bus.armed s) g = false → t.slot g = s.slot g) ∧
        t = { s with bus := t.bus, tide := { s.tide with slots := t.tide.slots } })) ∧
    (∀ g c, firstFail s s.bus.armed = some (g, c) →
      Completes .updateCutoff s (fun t => t.bus.frozen = s.bus.frozen ∧ t.bus.armed = 0 ∧
        t.get F.SYS_UPD_STAT.REJ_CODE = c ∧ t.get F.SYS_UPD_STAT.REJ_GROUP = g ∧ t.flag F.SYS_EVENT.UPD_REJECT = true ∧
        RegsBut [Reg.SYS_UPD_STAT, Reg.SYS_EVENT] s t ∧ (∀ b, t.pendReg b = s.pendReg b) ∧ t = { s with bus := t.bus })) ∧
    (∀ g, g < 8 → s.bus.armed.testBit g = true → groupAllowed s g = false → (∀ h, h < g → s.bus.armed.testBit h = false) →
      firstFail s s.bus.armed = some (g, 2)))


/-! ### 06: the Omgil instruction set -/

/-- ADD, SUB, ADDI, AND, OR, XOR, ANDI, ORI, XORI and LUI with a cycle left in the budget: the result (w0 discards it), Z and N
of it, C as carry out of bit 31 or no borrow, V where the signed result is not the exact one; the logic operations clear C
and V; LUI leaves the flags. -/
def Obligations.OmgilSumsAndLogic : Prop :=
  ∀ (s : State) (e : Fin 8) (r : Run) (rd ra rb : Fin 32) (imm : BitVec 16) (a b u x : Word),
    1 ≤ r.left → a = wreg r ra → b = wreg r rb → u = imm.signExtend 32 → x = imm.zeroExtend 32 →
    (∀ i, i = Instr.opAdd e rd ra rb → At s e i r →
      RegResult s e i r rd (a + b) (a + b == 0) (a + b).msb (decide (2 ^ 32 ≤ a.toNat + b.toNat)) (decide ((a + b).toInt ≠ a.toInt + b.toInt))) ∧
    (∀ i, i = Instr.opSub e rd ra rb → At s e i r →
      RegResult s e i r rd (a - b) (a - b == 0) (a - b).msb (decide (b.toNat ≤ a.toNat)) (decide ((a - b).toInt ≠ a.toInt - b.toInt))) ∧
    (∀ i, i = Instr.opAddi e rd ra imm → At s e i r →
      RegResult s e i r rd (a + u) (a + u == 0) (a + u).msb (decide (2 ^ 32 ≤ a.toNat + u.toNat)) (decide ((a + u).toInt ≠ a.toInt + u.toInt))) ∧
    (∀ i, i = Instr.opAnd e rd ra rb → At s e i r →
      RegResult s e i r rd (a &&& b) (a &&& b == 0) (a &&& b).msb false false) ∧
    (∀ i, i = Instr.opOr e rd ra rb → At s e i r →
      RegResult s e i r rd (a ||| b) (a ||| b == 0) (a ||| b).msb false false) ∧
    (∀ i, i = Instr.opXor e rd ra rb → At s e i r →
      RegResult s e i r rd (a ^^^ b) (a ^^^ b == 0) (a ^^^ b).msb false false) ∧
    (∀ i, i = Instr.opAndi e rd ra imm → At s e i r →
      RegResult s e i r rd (a &&& x) (a &&& x == 0) (a &&& x).msb false false) ∧
    (∀ i, i = Instr.opOri e rd ra imm → At s e i r →
      RegResult s e i r rd (a ||| x) (a ||| x == 0) (a ||| x).msb false false) ∧
    (∀ i, i = Instr.opXori e rd ra imm → At s e i r →
      RegResult s e i r rd (a ^^^ x) (a ^^^ x == 0) (a ^^^ x).msb false false) ∧
    (∀ i, i = Instr.opLui e rd imm → At s e i r →
      RegResult s e i r rd (x <<< 16) r.z r.n r.c r.v)

/-- The shifts by register and by amount: C is the last bit shifted out, 0 for an amount of 0, and V is 0. MIN, MAX, MINU and
MAXU write the operand that is not above (below) the other as signed or as unsigned, and leave C and V. -/
def Obligations.OmgilShiftsAndExtremes : Prop :=
  ∀ (s : State) (e : Fin 8) (r : Run) (rd ra rb : Fin 32) (k : Fin 32) (a b : Word) (n : Nat),
    1 ≤ r.left → a = wreg r ra → b = wreg r rb → n = (wreg r rb).toNat % 32 →
    (∀ i, i = Instr.opSll e rd ra rb → At s e i r →
      RegResult s e i r rd (a <<< n) (a <<< n == 0) (a <<< n).msb (n != 0 && a.getLsbD (32 - n)) false) ∧
    (∀ i, i = Instr.opSrl e rd ra rb → At s e i r →
      RegResult s e i r rd (a >>> n) (a >>> n == 0) (a >>> n).msb (n != 0 && a.getLsbD (n - 1)) false) ∧
    (∀ i, i = Instr.opSra e rd ra rb → At s e i r →
      RegResult s e i r rd (a.sshiftRight n) (a.sshiftRight n == 0) (a.sshiftRight n).msb (n != 0 && a.getLsbD (n - 1)) false) ∧
    (∀ i, i = Instr.opSlli e rd ra k → At s e i r →
      RegResult s e i r rd (a <<< k.val) (a <<< k.val == 0) (a <<< k.val).msb (k.val != 0 && a.getLsbD (32 - k.val)) false) ∧
    (∀ i, i = Instr.opSrli e rd ra k → At s e i r →
      RegResult s e i r rd (a >>> k.val) (a >>> k.val == 0) (a >>> k.val).msb (k.val != 0 && a.getLsbD (k.val - 1)) false) ∧
    (∀ i, i = Instr.opSrai e rd ra k → At s e i r →
      RegResult s e i r rd (a.sshiftRight k.val) (a.sshiftRight k.val == 0) (a.sshiftRight k.val).msb (k.val != 0 && a.getLsbD (k.val - 1)) false) ∧
    (∀ m, (m = a ∨ m = b) → m.toInt ≤ a.toInt → m.toInt ≤ b.toInt → ∀ i, i = Instr.opMin e rd ra rb → At s e i r →
      RegResult s e i r rd m (m == 0) m.msb r.c r.v) ∧
    (∀ m, (m = a ∨ m = b) → a.toInt ≤ m.toInt → b.toInt ≤ m.toInt → ∀ i, i = Instr.opMax e rd ra rb → At s e i r →
      RegResult s e i r rd m (m == 0) m.msb r.c r.v) ∧
    (∀ m, (m = a ∨ m = b) → m.toNat ≤ a.toNat → m.toNat ≤ b.toNat → ∀ i, i = Instr.opMinu e rd ra rb → At s e i r →
      RegResult s e i r rd m (m == 0) m.msb r.c r.v) ∧
    (∀ m, (m = a ∨ m = b) → a.toNat ≤ m.toNat → b.toNat ≤ m.toNat → ∀ i, i = Instr.opMaxu e rd ra rb → At s e i r →
      RegResult s e i r rd m (m == 0) m.msb r.c r.v)

/-- MUL, MULH, MULQ31 and MULQ15: the low word, the high word, the Q31 and the Q15 product, rounded toward minus infinity and
wrapped; C stays; V tells exactly when the product does not fit, for MULQ31 and MULQ15 only the square of -1. -/
def Obligations.OmgilProducts : Prop :=
  ∀ (s : State) (e : Fin 8) (r : Run) (rd ra rb : Fin 32) (a b : Word) (p q : Int),
    1 ≤ r.left → a = wreg r ra → b = wreg r rb → p = a.toInt * b.toInt → q = (a.setWidth 16).toInt * (b.setWidth 16).toInt →
    (∀ v, v = BitVec.ofInt 32 p → ∀ i, i = Instr.opMul e rd ra rb → At s e i r →
      RegResult s e i r rd v (v == 0) v.msb r.c (decide (p < -2 ^ 31 ∨ 2 ^ 31 ≤ p))) ∧
    (∀ v, v = BitVec.ofInt 32 (p / 2 ^ 32) → ∀ i, i = Instr.opMulh e rd ra rb → At s e i r →
      RegResult s e i r rd v (v == 0) v.msb r.c false) ∧
    (∀ v, v = BitVec.ofInt 32 (p / 2 ^ 31) → ∀ i, i = Instr.opMulq31 e rd ra rb → At s e i r →
      RegResult s e i r rd v (v == 0) v.msb r.c (decide (a = 0x80000000 ∧ b = 0x80000000))) ∧
    (∀ v, v = (BitVec.ofInt 16 (q / 2 ^ 15)).signExtend 32 → ∀ i, i = Instr.opMulq15 e rd ra rb → At s e i r →
      RegResult s e i r rd v (v == 0) v.msb r.c (decide (a.setWidth 16 = 0x8000#16 ∧ b.setWidth 16 = 0x8000#16)))

/-- MAC, MSU, MULA, ACCSET, ACCADD and ACCCLR write the named accumulator, wrapped modulo 2^64; Z and N tell of the accumulator,
V of a signed overflow, C stays. ACCLO and ACCHI move half an accumulator and no flag; ACCRD moves its shifted value and V
tells whether it fits. -/
def Obligations.OmgilAccumulators : Prop :=
  ∀ (s : State) (e : Fin 8) (r : Run) (rd ra rb : Fin 32) (acc : Fin 4) (sh : Fin 64) (x p c : DWord),
    1 ≤ r.left → x = accOf r acc → p = (wreg r ra).signExtend 64 * (wreg r rb).signExtend 64 → c = (wreg r ra).signExtend 64 →
    (∀ i, i = Instr.opMac e acc ra rb → At s e i r →
      AccResult s e i r acc (x + p) (decide ((x + p).toInt ≠ x.toInt + p.toInt))) ∧
    (∀ i, i = Instr.opMsu e acc ra rb → At s e i r →
      AccResult s e i r acc (x - p) (decide ((x - p).toInt ≠ x.toInt + (0 - p).toInt))) ∧
    (∀ i, i = Instr.opMula e acc ra rb → At s e i r →
      AccResult s e i r acc (p) false) ∧
    (∀ i, i = Instr.opAccset e acc ra rb → At s e i r →
      AccResult s e i r acc (wreg r rb ++ wreg r ra) false) ∧
    (∀ i, i = Instr.opAccadd e acc ra → At s e i r →
      AccResult s e i r acc (x + c) (decide ((x + c).toInt ≠ x.toInt + c.toInt))) ∧
    (∀ i, i = Instr.opAccclr e acc → At s e i r →
      AccResult s e i r acc (0) false) ∧
    (∀ i, i = Instr.opAcclo e rd acc → At s e i r →
      RegResult s e i r rd (x.setWidth 32) r.z r.n r.c r.v) ∧
    (∀ i, i = Instr.opAcchi e rd acc → At s e i r →
      RegResult s e i r rd ((x >>> 32).setWidth 32) r.z r.n r.c r.v) ∧
    (∀ v, v = x.sshiftRight sh.val → ∀ i, i = Instr.opAccrd e rd acc sh → At s e i r →
      RegResult s e i r rd (v.setWidth 32) (v.setWidth 32 == 0) (v.setWidth 32).msb r.c
      (decide (v.toInt < -2 ^ 31 ∨ 2 ^ 31 ≤ v.toInt)))

/-- LD, ST, LDS, STS, IN and OUT with a cycle left: a load writes rd; a store writes one data word, and every other data word stays; IN
reads the port; OUT stages its value and commits nothing. A private word is one of the slot's own context or of the first PRIV words of
its private area (R181), a shared word lies below the area's length (R182) and inside the data
memory (log entry 101). The flags stay. -/
def Obligations.OmgilDataAndPorts : Prop :=
  ∀ (s : State) (e : Fin 8) (r : Run) (rd ra : Fin 32) (imm : BitVec 16) (port : BitVec 12) (n g : Nat),
    1 ≤ r.left → n = (wreg r ra + imm.signExtend 32).toNat → g = 24 * e.val + r.slot.val →
    (∀ i w, i = Instr.opLd e rd ra imm → At s e i r →
      (n < 64 ∧ w = 64 * r.slot.val + n ∨
        64 ≤ n ∧ n < 64 + (s.slot g).priv ∧ w = s.get (F.TAC_SLOT_PRIV.BASE g) + (n - 64)) →
      RegResult s e i r rd (dataWord s e.val w) r.z r.n r.c r.v) ∧
    (∀ i w, i = Instr.opSt e rd ra imm → At s e i r →
      (48 ≤ n ∧ n < 64 ∧ w = 64 * r.slot.val + n ∨
        64 ≤ n ∧ n < 64 + (s.slot g).priv ∧ w = s.get (F.TAC_SLOT_PRIV.BASE g) + (n - 64)) →
      Completes i s (fun t => Stored s t e r w (wreg r rd))) ∧
    (∀ i, i = Instr.opLds e rd ra imm → At s e i r → n < s.get (F.TAC_ENG_SHARED.LEN e.val) →
      s.get (F.TAC_ENG_SHARED.BASE e.val) + n < 16384 →
      RegResult s e i r rd (dataWord s e.val (s.get (F.TAC_ENG_SHARED.BASE e.val) + n)) r.z r.n r.c r.v) ∧
    (∀ i, i = Instr.opSts e rd ra imm → At s e i r → n < s.get (F.TAC_ENG_SHARED.LEN e.val) →
      s.get (F.TAC_ENG_SHARED.BASE e.val) + n < 16384 →
      Completes i s (fun t => Stored s t e r (s.get (F.TAC_ENG_SHARED.BASE e.val) + n) (wreg r rd))) ∧
    (∀ i p v, i = Instr.opIn e rd ra port → At s e i r → p = (wreg r ra + port.setWidth 32).toNat → p ≤ 0xFFF →
      inPort s e.val r.slot.val p = some v → RegResult s e i r rd v r.z r.n r.c r.v) ∧
    (∀ i q, i = Instr.opOut e rd ra port → At s e i r → (wreg r ra + port.setWidth 32).toNat = 0x40 + q →
      (4 ≤ q ∧ q < 8 ∨ q = 0 ∧ (slotKind s g = 1 ∨ slotKind s g = 2) ∨ q = 1 ∧ slotKind s g = 2) →
      Completes i s (fun t => ∃ r', RunsOn s t e r' ∧ r'.left = r.left - 1 ∧ MovedOn r r' ∧ r'.slot = r.slot ∧
        RegsKept r r' ∧ AccsKept r r' ∧ FlagsKept r r' ∧ smFind r'.staged q = some (wreg r rd) ∧
        ∀ q', q' ≠ q → smFind r'.staged q' = smFind r.staged q'))

/-- B, BL, BR, LOOP and LOOPI. A branch taken uses 2 cycles, goes to its target and leaves the hardware loop active only if the target
lies in its body; B not taken uses 1 cycle and moves on. BL writes pc + 1 to w31. With no loop active and its end above its own address,
a loop of n > 0 iterations runs the words after it up to `last`; one of 0 iterations continues at last + 1 after 2 cycles. -/
def Obligations.OmgilBranchesAndLoops : Prop :=
  ∀ (s : State) (e : Fin 8) (r : Run) (ra : Fin 32) (c : Cond) (last : BitVec 14) (count : BitVec 12),
    (∀ i, i = Instr.opB e c last → At s e i r → condHolds c r = false → 1 ≤ r.left →
      Completes i s (fun t => ∃ r', RunsOn s t e r' ∧ OneCycle r r' ∧ RegsKept r r' ∧ AccsKept r r' ∧ FlagsKept r r')) ∧
    (∀ i, i = Instr.opB e c last → At s e i r → condHolds c r = true → 2 ≤ r.left →
      Completes i s (fun t => ∃ r', RunsOn s t e r' ∧ Jumped r r' last.toNat ∧ RegsKept r r')) ∧
    (∀ i, i = Instr.opBl e last → At s e i r → 2 ≤ r.left →
      Completes i s (fun t => ∃ r', RunsOn s t e r' ∧ Jumped r r' last.toNat ∧ RegTakes 31 (wd ((r.pc + 1) % 16384)) r r')) ∧
    (∀ i, i = Instr.opBr e ra → At s e i r → 2 ≤ r.left →
      Completes i s (fun t => ∃ r', RunsOn s t e r' ∧ Jumped r r' ((wreg r ra).toNat % 2 ^ 14) ∧ RegsKept r r')) ∧
    (∀ i n, (i = Instr.opLoop e ra last ∧ n = (wreg r ra).toNat ∨ i = Instr.opLoopi e count last ∧ n = count.toNat) →
      At s e i r → r.loop = none → r.pc < last.toNat →
      (1 ≤ r.left → 0 < n → Completes i s (fun t => ∃ r', RunsOn s t e r' ∧ r' = { r with
        left := r.left - 1, pc := r.pc + 1, loop := some ⟨r.pc + 1, last.toNat, n⟩ })) ∧
      (2 ≤ r.left → n = 0 → Completes i s (fun t => ∃ r', RunsOn s t e r' ∧ r' = { r with
        left := r.left - 2, pc := (last.toNat + 1) % 16384, loop := none })))

/-- SLOT_RUN_START of a slot that may start: words 1 to 40 of its context become w1 to w31, the accumulators and the flags, the pc is
the program's entry word, no loop is active and the whole budget is left. END commits every staged output (of two values for a port the
last), saves words 1 to 40, ends the run and clears the slot's consecutive overruns; other data words and outputs stay. -/
def Obligations.OmgilRunsRestoreAndSave : Prop :=
  ∀ (s : State) (e : Fin 8),
    (∀ (k : Fin 24), mayStart s e k = true → Completes (.slotRunStart e k) s (fun t => ∃ r, runOf t e.val = some r ∧
      (∀ i : Fin 32, i ≠ 0 → wreg r i = dataWord s e.val (64 * k.val + i.val)) ∧
      (∀ a : Fin 4, accOf r a = dataWord s e.val (64 * k.val + 33 + 2 * a.val) ++ dataWord s e.val (64 * k.val + 32 + 2 * a.val)) ∧
      (∀ f, f = dataWord s e.val (64 * k.val + 40) → Flags r (f.getLsbD 2) (f.getLsbD 3) (f.getLsbD 1) (f.getLsbD 0)) ∧
      r.pc = (s.get (F.TAC_SLOT_CODE.HDR (24 * e.val + k.val)) + 4) % 16384 ∧ r.loop = none ∧ r.staged = [] ∧ r.slot = k ∧
      r.left = (s.slot (24 * e.val + k.val)).budget ∧ (t.slot (24 * e.val + k.val)).run = RunState.running ∧
      t = { s with tide := { s.tide with runs := t.tide.runs, slots := t.tide.slots } })) ∧
    (∀ (r : Run), At s e (.opEnd e) r → 1 ≤ r.left → Completes (.opEnd e) s (fun t =>
      runOf t e.val = none ∧ (∀ n, n ≠ e.val → runOf t n = runOf s n) ∧
      dataWord t e.val (64 * r.slot.val) = 0 ∧
      (∀ i : Fin 32, i ≠ 0 → dataWord t e.val (64 * r.slot.val + i.val) = wreg r i) ∧
      (∀ a : Fin 4, dataWord t e.val (64 * r.slot.val + 33 + 2 * a.val) ++ dataWord t e.val (64 * r.slot.val + 32 + 2 * a.val) = accOf r a) ∧
      dataWord t e.val (64 * r.slot.val + 40) = wd (b2n r.n * 8 + b2n r.z * 4 + b2n r.c * 2 + b2n r.v) ∧
      (∀ j, (j < 16384 * e.val + 64 * r.slot.val ∨ 16384 * e.val + 64 * r.slot.val + 40 < j) →
        smGet 0 t.tide.data j = smGet 0 s.tide.data j) ∧
      (∀ q p, (r.staged.filter (fun x => x.1 == q)).getLast? = some p → outOf t (24 * e.val + r.slot.val) q = p.2) ∧
      (∀ j, (∀ p, p ∈ r.staged → (24 * e.val + r.slot.val) * 8 + p.1 ≠ j) → smGet 0 t.tide.outs j = smGet 0 s.tide.outs j) ∧
      t.get (F.TAC_OVR.CONSEC (24 * e.val + r.slot.val)) = 0 ∧ (t.slot (24 * e.val + r.slot.val)).run = RunState.done ∧
      t.tide.code = s.tide.code ∧ t = { s with tide := t.tide, bus := t.bus }))

/-- Table 6.9: BUDGET_EXHAUSTED where no cycle is left, ILLEGAL_WORD where the word stands for no instruction, and the PORT, MEM, CTX and
LOOP traps of the instructions that address what they may not (an OUT to a port that is none of the slot's outputs, an access outside
the private or the shared area or past the data memory (log entry 101), a store to private words 0 to 47, a loop inside a loop or with its end not above its own address). -/
def Obligations.OmgilTraps : Prop :=
  ∀ (s : State) (e : Fin 8) (r : Run) (rd ra : Fin 32) (imm : BitVec 16) (port : BitVec 12) (last : BitVec 14) (count : BitVec 12)
    (n g : Nat), n = (wreg r ra + imm.signExtend 32).toNat → g = 24 * e.val + r.slot.val →
    (runOf s e.val = some r → r.left = 0 → Traps s e (.budgetExhausted e) r 6) ∧
    (runOf s e.val = some r → r.left ≠ 0 → omgilDecode e (codeWord s e.val r.pc) = none → Traps s e (.illegalWord e) r 1) ∧
    (1 ≤ r.left →
      (∀ i p, i = Instr.opIn e rd ra port → At s e i r → p = (wreg r ra + port.setWidth 32).toNat →
        (0xFFF < p ∨ inPort s e.val r.slot.val p = none) → Traps s e i r 2) ∧
      (∀ i p, i = Instr.opOut e rd ra port → At s e i r → p = (wreg r ra + port.setWidth 32).toNat →
        (p < 0x40 ∨ 0x47 < p ∨ outAllowed (slotKind s g) (p - 0x40) = false) → Traps s e i r 2) ∧
      (∀ i, i = Instr.opLd e rd ra imm → At s e i r → 64 + (s.slot g).priv ≤ n → Traps s e i r 3) ∧
      (∀ i, i = Instr.opSt e rd ra imm → At s e i r → 64 + (s.slot g).priv ≤ n → Traps s e i r 3) ∧
      (∀ i, i = Instr.opLds e rd ra imm → At s e i r →
        (s.get (F.TAC_ENG_SHARED.LEN e.val) ≤ n ∨ 16384 ≤ s.get (F.TAC_ENG_SHARED.BASE e.val) + n) → Traps s e i r 3) ∧
      (∀ i, i = Instr.opSts e rd ra imm → At s e i r →
        (s.get (F.TAC_ENG_SHARED.LEN e.val) ≤ n ∨ 16384 ≤ s.get (F.TAC_ENG_SHARED.BASE e.val) + n) → Traps s e i r 3) ∧
      (∀ i, i = Instr.opSt e rd ra imm → At s e i r → n < 48 → Traps s e i r 4) ∧
      (2 ≤ r.left → (r.loop ≠ none ∨ last.toNat ≤ r.pc) →
        (∀ i, i = Instr.opLoop e ra last → At s e i r → Traps s e i r 5) ∧
        (∀ i, i = Instr.opLoopi e count last → At s e i r → Traps s e i r 5)))

/-- Decoding the word of an Omgil instruction gives the instruction back, on any engine, for every value of every operand. -/
def Obligations.OmgilDecodeOfEncode : Prop :=
  ∀ (i : Instr) (e : Fin 8) (w : Word), omgilEngine i = some e → omgilEncode i = some w → omgilDecode e w = some i

/-- The encodings the chapter writes out, and words that R186 calls illegal. -/
def Obligations.OmgilWordsOfTheManual : Prop :=
  ∀ e : Fin 8,
    omgilDecode e 0x04611001 = some (.opSub e 3 1 2) ∧ omgilDecode e 0x04632008 = some (.opMin e 3 3 4) ∧
    omgilDecode e 0x20033002 = some (.opMula e 0 3 6) ∧ omgilDecode e 0x24E00010 = some (.opAccrd e 7 0 16) ∧
    omgilDecode e 0x65A00040 = some (.opOut e 13 0 0x040) ∧ omgilDecode e 0xFC000000 = some (.opEnd e) ∧
    omgilDecode e 0x00000000 = none ∧ omgilDecode e 0x01D70101 = none ∧ omgilDecode e 0xFC000001 = none

/-- TIDE_MEMORY_WRITE: a code word only while its engine is halted, a data word also in the shared area; any other write is ignored
and sets MEM_WR_REJ. ENGINE_HALT and ENGINE_RELEASE: in Standby the value is the halts wanted at the next boundary; in any other mode a
bit written 0 withdraws its halt, no new halt is taken, and a bit that asks for one sets HALT_REJ. -/
def Obligations.EngineMemoriesAndHalts : Prop :=
  (∀ (s : State) (core : Sender) (e i : Nat) (w : Word), canAccess s core = true → e < 8 → i < 16384 →
    (halted s e = true → Completes (.tideMemoryWrite core (0x30000000 + 0x20000 * e + 4 * i) w) s (fun t =>
      codeWord t e i = w ∧ (∀ j, j ≠ 16384 * e + i → smGet 0 t.tide.code j = smGet 0 s.tide.code j) ∧
      t = { s with tide := { s.tide with code := t.tide.code } })) ∧
    (halted s e = false → Completes (.tideMemoryWrite core (0x30000000 + 0x20000 * e + 4 * i) w) s (fun t =>
      t.flag F.TAC_EVENT.MEM_WR_REJ = true ∧ RegsBut [Reg.TAC_EVENT] s t ∧ t = { s with bus := t.bus })) ∧
    (∀ b, b = s.get (F.TAC_ENG_SHARED.BASE e) →
      (halted s e = true ∨ b ≤ i ∧ i < b + s.get (F.TAC_ENG_SHARED.LEN e) →
        Completes (.tideMemoryWrite core (0x30010000 + 0x20000 * e + 4 * i) w) s (fun t =>
          dataWord t e i = w ∧ (∀ j, j ≠ 16384 * e + i → smGet 0 t.tide.data j = smGet 0 s.tide.data j) ∧
          t = { s with tide := { s.tide with data := t.tide.data } })) ∧
      (halted s e = false → (i < b ∨ b + s.get (F.TAC_ENG_SHARED.LEN e) ≤ i) →
        Completes (.tideMemoryWrite core (0x30010000 + 0x20000 * e + 4 * i) w) s (fun t =>
          t.flag F.TAC_EVENT.MEM_WR_REJ = true ∧ RegsBut [Reg.TAC_EVENT] s t ∧ t = { s with bus := t.bus })))) ∧
  (∀ (s : State) (core : Sender) (v : Word) (i : Instr), canAccess s core = true → Armed s Reg.TAC_ENG_HALT v →
    (i = .engineHalt core (~~~ v) ∨ i = .engineRelease core (~~~ v)) → Completes i s (fun t =>
      Unguarded t Reg.TAC_ENG_HALT ∧
      (s.mode = Mode.standby → t.tide.haltWant = v.toNat % 256 ∧ RegsBut [] s t) ∧
      (s.mode ≠ Mode.standby → (∀ n, n < 8 → t.tide.haltWant.testBit n = (s.tide.haltWant.testBit n && v.getLsbD n)) ∧
        (t.flag F.TAC_EVENT.HALT_REJ = true ↔ s.flag F.TAC_EVENT.HALT_REJ = true ∨
          ∃ n, n < 8 ∧ v.getLsbD n = true ∧ s.bit F.TAC_ENG_HALT.HALT n = false) ∧ RegsBut [Reg.TAC_EVENT] s t) ∧
      t = { s with bus := t.bus, tide := { s.tide with haltWant := t.tide.haltWant } }))

/-! ### 03: operating modes, wake sources, supplies -/

/-- A completed PCM_MODE_REQ of a row's mode. A retired device's request is refused with 1, Inspection and what the loader does not take
with 8 and one during a transition with 9, the code shown in PCM_MODE_STAT and REQ_REFUSED set; a request for the mode in force has no effect; any other waits
for the next evaluation. -/
def Obligations.ModeRequestsWaitForTheEvaluation : Prop :=
  ∀ (s : State) (core : Sender) (v : Word) (m : Mode) (i : Instr), Guarded s core Reg.PCM_MODE_REQ v → v.toNat % 8 = m.code →
    (m = .dormant ∧ i = .modeReqDormant core (~~~ v) ∨ m = .watch ∧ i = .modeReqWatch core (~~~ v) ∨
      m = .standby ∧ i = .modeReqStandby core (~~~ v) ∨ m = .service ∧ i = .modeReqService core (~~~ v) ∨
      m = .inspection ∧ i = .modeReqInspection core (~~~ v) ∨ m = .rescue ∧ i = .modeReqRescue core (~~~ v) ∨
      m = .commissioning ∧ i = .modeReqCommissioning core (~~~ v) ∨ m = .lockout ∧ i = .modeReqLockout core (~~~ v)) →
    (∀ code, (s.nv.lc.state = .retired ∧ m ≠ .dormant ∧ code = 1 ∨
        ¬(s.nv.lc.state = .retired ∧ m ≠ .dormant) ∧ (m = .inspection ∨ loaderRefuses s m = true) ∧ code = 8 ∨
        ¬(s.nv.lc.state = .retired ∧ m ≠ .dormant) ∧ m ≠ .inspection ∧ loaderRefuses s m = false ∧ s.pw.trans ≠ none ∧ code = 9) →
      Completes i s (fun t => t.pw.refuse = code ∧ t.flag F.PCM_EVENT.REQ_REFUSED = true ∧ t.mode = s.mode ∧
        t.pw.trans = s.pw.trans ∧ RegsBut [Reg.PCM_MODE_REQ, Reg.PCM_EVENT] s t ∧
        t = { s with bus := t.bus, pw := { s.pw with refuse := code } })) ∧
    (¬(s.nv.lc.state = .retired ∧ m ≠ .dormant) → m ≠ .inspection → loaderRefuses s m = false → s.pw.trans = none →
      Completes i s (fun t => (m ≠ s.mode → t.pw = { s.pw with fwReq := some m }) ∧ (m = s.mode → t.pw = s.pw) ∧
        RegsBut [Reg.PCM_MODE_REQ] s t ∧ t = { s with bus := t.bus, pw := t.pw }))

/-- MILLISECOND_INSTANT, when the 32.768 kHz clock has reached it, evaluates the triggers in Watch: a firmware request whose guards hold
starts its transition, one that fails is refused with the code of its first failing guard, and a retained wake notice takes the device to
Standby; before its time it does nothing. MODE_TRANSITION_DONE: the device is in a new mode without servo periods; one with them waits for
the boundary. The idle timers expire with no car record (and in Service no reservation) held. -/
def Obligations.TransitionsFollowTheTriggers : Prop :=
  (∀ s : State, instantDue s = false → exec .millisecondInstant s = .next s) ∧
  (∀ (s : State) (m : Mode), s.pw.phase = Phase.running → s.mode = .watch → s.pw.trans = none → s.pw.fwReq = some m → m ≠ .lockout →
    instantDue s = true →
    (reqCode s m = 0 → Completes .millisecondInstant s (fun t => t.pw.trans = some m ∧ t.pw.trigger = 1 ∧ t.pw.fwReq = none ∧
      t.mode = .watch ∧ t.pw.instants = s.pw.instants + 1 ∧ t = { s with pw := t.pw })) ∧
    (reqCode s m ≠ 0 → s.pw.wakePend = false → s.pw.resPend = false → Completes .millisecondInstant s (fun t =>
      t.pw.refuse = reqCode s m ∧ t.pw.trans = none ∧ t.pw.fwReq = none ∧ t.flag F.PCM_EVENT.REQ_REFUSED = true ∧
      RegsBut [Reg.PCM_EVENT] s t ∧ t = { s with bus := t.bus, pw := t.pw }))) ∧
  (∀ s : State, s.pw.phase = Phase.running → s.mode = .watch → s.pw.trans = none → s.pw.fwReq = none → s.pw.wakePend = true →
    instantDue s = true → reqCode s .standby = 0 → Completes .millisecondInstant s (fun t => t.pw.trans = some .standby ∧ t.pw.trigger = 3 ∧
      t = { s with pw := t.pw })) ∧
  (∀ (s : State) (m : Mode), s.pw.phase = Phase.running → s.pw.trans = some m → s.pw.ready = false →
    (modeServo m = false → Completes .modeTransitionDone s (fun t => t.mode = m ∧ t.pw.prev = s.mode ∧ t.pw.trans = none ∧
      t.pw.fwReq = none ∧ t.pw.idleFrom = s.tb.tick ∧ t.pw.phase = Phase.running)) ∧
    (modeServo m = true → Completes .modeTransitionDone s (fun t => t.mode = s.mode ∧ t.pw = { s.pw with ready := true } ∧
      (modeServo s.mode = true → t = { s with pw := t.pw })))) ∧
  (∀ s : State, s.pw.phase = Phase.running → heldCars s = [] →
    (s.mode = .standby → s.get F.PCM_IDLE.STBY_IDLE ≠ 0 → s.pw.idleFrom + 125000000 * s.get F.PCM_IDLE.STBY_IDLE ≤ s.tb.tick →
      Completes .standbyIdleExpiry s (fun t => t = { s with pw := { s.pw with stbyExp := true } })) ∧
    (s.mode = .service → s.bss.res = [] → s.get F.PCM_IDLE.SVC_IDLE ≠ 0 →
      s.pw.idleFrom + 125000000 * s.get F.PCM_IDLE.SVC_IDLE ≤ s.tb.tick →
      Completes .serviceIdleExpiry s (fun t => t = { s with pw := { s.pw with svcExp := true } })))

/-- In Dormant an enabled wake source starts the transition to Watch and shows its cause; one not enabled does nothing; the clock-stop
detector always wakes. Outside Dormant a spine wake pulse sets WAKE_RX. A wake notice is retained in Watch and Standby and restarts the
idle timers; a rescue notice of a neighbour is kept for the next evaluation in Standby and Service. -/
def Obligations.WakeSourcesAndNotices : Prop :=
  (∀ (s : State) (i : Instr) (cause : Nat) (en : Bool), s.pw.phase = Phase.running → s.mode = .dormant → s.pw.trans = none →
    ((∃ p : Fin 4, i = .spineWakeDetect p ∧ cause = 1 + p.val ∧ en = s.bit F.PCM_WAKE_CFG.SP_EN p.val) ∨
      (∃ p : Fin 2, i = .lbEnergyDetect p ∧ cause = 5 + p.val ∧ en = s.bit F.PCM_WAKE_CFG.LB_EN p.val) ∨
      (∃ g : Fin 4, i = .fieldWakeEdge g ∧ cause = 7 + g.val ∧ en = s.bit F.PCM_WAKE_CFG.IN_EN g.val) ∨
      (i = .timeAlarm ∧ cause = 11 ∧ en = s.pw.alarm.any (fun t => decide (t ≤ s.tb.tick))) ∨
      (i = .clockStopDetect ∧ cause = 12 ∧ en = true)) →
    (en = true → Completes i s (fun t => t.pw.trans = some .watch ∧ t.pw.wakeCause = cause ∧ t.mode = .dormant ∧
      t = { s with pw := { s.pw with wakeCause := cause, trans := some .watch, trigger := 2 } })) ∧
    (en = false → Completes i s (fun t => t = s))) ∧
  (∀ (s : State) (p : Fin 4), s.awake = true → Completes (.spineWakeDetect p) s (fun t => t.flag F.FAB_LINK_EVENT.WAKE_RX = true ∧
    OnlyRegs [Reg.FAB_LINK_EVENT] s t)) ∧
  (∀ (s : State) (h : Hdr) (p : WakePl), Delivers s h → isSection s = true → Completes (.wakeNotice h p) s (fun t =>
    (t.pw.wakePend = true ↔ s.pw.wakePend = true ∨ s.mode = .watch ∨ s.mode = .standby) ∧ t.pw.idleFrom = s.tb.tick ∧
    t.pw.stbyExp = false ∧ t.pw.svcExp = false ∧ HeardBut s t ∧ t = { s with fab := t.fab, pw := t.pw })) ∧
  (∀ (s : State) (h : Hdr) (reason : Nat) (n : Neighbour), Delivers s h → (s.conf.geom.below = some n ∨ s.conf.geom.above = some n) →
    n.id = h.src → (s.mode = .standby ∨ s.mode = .service) → Completes (.rescue h reason) s (fun t =>
      t.pw = { s.pw with rescuePend := some reason } ∧ HeardBut s t ∧ t = { s with fab := t.fab, pw := t.pw }))

/-- A watched rail's crossing is noted with its time, and VS5 below its low threshold warns. A rail beyond its threshold for 50 us, the
power-on, nRST low for 1 us or more, and an accepted SYS_RESET_REQ each put the reset in force with their cause; the power-on also loses
the holdover time and the time alarm. nRST low for less than 200 ns does nothing (between the two the model leaves it free). A request outside the modes of
R99 resets nothing, leaves the register as it was and is recorded. A clock that fails its cross-check sets CLK_FAULT and leads to Lock-out, and the 32.768 kHz clock bars Dormant. IDCODE reads
0x30128A4D; EXTEST and SAMPLE/PRELOAD act with nRST low alone, and with nRST high BYPASS is loaded in their place, as for every code that Table
21.7 does not name. -/
def Obligations.ResetsSuppliesAndTheTestPort : Prop :=
  (∀ (s : State) (r : Fin 10) (low beyond : Bool), railWatched s r.val = true → s.pw.phase = Phase.running →
    Completes (.supplyThresholdCross r low beyond) s (fun t => smFind t.pw.railsOut r.val = (if beyond then some s.tb.tick else none) ∧
      (r = 0 → low = true → beyond = true → t.flag F.PCM_EVENT.VS5_WARN = true) ∧ RegsBut [Reg.PCM_EVENT] s t ∧
      (∀ q, q ≠ r.val → smFind t.pw.railsOut q = smFind s.pw.railsOut q) ∧
      t = { s with bus := t.bus, pw := { s.pw with railsOut := t.pw.railsOut } })) ∧
  (∀ (s : State) (r : Fin 10) (t0 : Nat), smFind s.pw.railsOut r.val = some t0 → t0 + 6250 ≤ s.tb.tick →
    Completes (.supplyMonitorReset r) s (fun t => ResetInForce 2 s t ∧ t.conf.rail = r.val ∧ t.nv = s.nv)) ∧
  (∀ s : State, Completes .powerOnReset s (fun t => t.pw.phase = Phase.inReset ∧ t.conf.causes = Nat.lor s.conf.causes 0x81 ∧
    t.nv = s.nv ∧ (∀ a, t.reg a = wd (regReset a)) ∧ t.tb.holdSec = 0 ∧ t.pw.bar = false ∧ t.pw.alarm = none ∧ t.pins.tapIr = tapIdcode ∧
    t.pins.tapDr = idcodeWord)) ∧
  (∀ (s : State) (ns : Nat), (1000 ≤ ns → Completes (.nrstReset ns) s (fun t => ResetInForce 4 s t ∧ t.nv = s.nv ∧ t.pins.nrst = false)) ∧
    (ns < 200 → Completes (.nrstReset ns) s (fun t => t = s))) ∧
  (∀ (s : State) (core : Sender) (v : Word), Guarded s core Reg.SYS_RESET_REQ v → v.getLsbD 0 = true →
    (s.mode = .watch ∨ s.mode = .lockout ∨ (s.mode = .standby ∨ s.mode = .commissioning) ∧ ∀ c, c ∈ heldCars s → recMoves s c = false) →
    Completes (.softwareReset core (~~~ v)) s (fun t => ResetInForce 8 s t ∧ t.nv = s.nv)) ∧
  (∀ (s : State) (core : Sender) (v : Word), Guarded s core Reg.SYS_RESET_REQ v → v.getLsbD 0 = true →
    (s.mode = .service ∨ s.mode = .inspection ∨ s.mode = .rescue ∨
      (s.mode = .standby ∨ s.mode = .commissioning) ∧ ∃ c, c ∈ heldCars s ∧ recMoves s c = true) →
    Completes (.softwareReset core (~~~ v)) s (fun t => t.pw = s.pw ∧ t.tide = s.tide ∧ t.cars = s.cars ∧ t.sram = s.sram ∧
      t.reg Reg.SYS_RESET_REQ = s.reg Reg.SYS_RESET_REQ ∧
      (s.flag F.REC_STAT.FULL = false → s.rcd.general.length < 32 → 
        Entered ⟨0, 0, 4, s.tb.sec, s.tb.ns, items [s.mode.code]⟩ s.rcd.general t.rcd.general))) ∧
  (∀ (s : State) (c : Fin 4), s.awake = true → s.mode ≠ .lockout → Completes (.clockCrossMonitorFault c) s (fun t =>
    LockedOut t ∧ t.flag F.PCM_EVENT.CLK_FAULT = true ∧ (c.val = 3 → t.pw.bar = true))) ∧
  (∀ (s : State) (lands pattern : BitVec 91),
    Completes .idcode s (fun t => t.pins.tapIr = 1 ∧ t.pins.tapDr = 0x30128A4D ∧
      t = { s with pins := { s.pins with tapIr := 1, tapDr := 0x30128A4D } }) ∧
    (∀ i ir, (i = .extest lands pattern ∧ ir = 0 ∨ i = .samplePreload lands pattern ∧ ir = 2) →
      (s.pins.nrst = false → Completes i s (fun t => t = { s with pins :=
        { s.pins with tapIr := ir, tapDr := lands.toNat, chain := pattern.toNat } })) ∧
      (s.pins.nrst = true → Completes i s (fun t => t = { s with pins := { s.pins with tapIr := 15, tapDr := 0 } }))) ∧
    (∀ c : Fin 16, c.val ≠ 0 → c.val ≠ 1 → c.val ≠ 2 →
      Completes (.bypass c) s (fun t => t = { s with pins := { s.pins with tapIr := 15, tapDr := 0 } })))

/-- RESET_RELEASE with a reset in force, no wipe and no take-over to resume: the device runs, in Watch where start-up found nothing and
neither Lock-out nor the Fenced state was kept, else in Lock-out; a failed self-test is kept as Lock-out; fabric frames wait for 1.1 s.
With a wipe marker set the wipe goes on where it stood and nothing else starts. -/
def Obligations.StartUpEntersItsFirstMode : Prop :=
  ∀ (s : State) (boot : Fin 4) (core ecl : Option (Fin 256)) (xtal : Bool), s.pw.phase = Phase.inReset → s.conf.causes ≠ 0 →
    (s.nv.lc.wipe = none → s.nv.lc.take = none → Completes (.resetRelease boot core ecl xtal) s (fun t =>
      t.pw.phase = Phase.running ∧ t.fab.settle = some s.tb.tick ∧ t.conf.causes = 0 ∧
      (core = none → ecl = none → xtal = true → s.nv.lc.lockout = false → s.nv.lc.fenced = false → t.mode = .watch) ∧
      (core ≠ none ∨ ecl ≠ none ∨ xtal = false → LockedOut t) ∧
      (s.nv.lc.lockout = true ∨ s.nv.lc.fenced = true → t.mode = .lockout))) ∧
    (s.nv.lc.wipe ≠ none → Completes (.resetRelease boot core ecl xtal) s (fun t =>
      t.pw.phase = Phase.inReset ∧ t.conf.wiping = true ∧ t.conf.resumed = true ∧ t.conf.wipeFrom = s.tb.tick ∧ t.nv = s.nv))

/-! ### 04: parameter sets, the loader and the life cycle -/

/-- The way of a safety set. SPS_IMAGE_TRANSFER in Commissioning with the key presents a set that passes its checks, as a bank image with
its check word, and refuses one that fails, or comes in another mode (which set a payload stands for is the free value of log entry 6).
SPS_CONFIRM from Benrex Studio with that word awaits the key hold; another sender gets code 7; a wrong word counts, and the third discards
the image. The end of a valid hold starts the commit, from which on the bank being written does not verify; 60 s without one discard the
image with code 6. SPS_COMMIT makes the bank effective from the next boundary if both paths agree; if not, the banks stay as they are and
the device enters Lock-out. -/
def Obligations.SafetySetIsConfirmedBeforeItGoverns : Prop :=
  (∀ (s : State) (len gen : Nat) (pay : List Byte), s.awake = true → s.get F.SAF_SPS_STAT.STATE ≠ 4 →
    (∀ c, s.mode = .commissioning → keyOn s = true → len = 16 + pay.length → len ≤ 0x10000 →
      Config.spsContentOf pay = some c → spsFault s false c = none →
      Completes (.spsImageTransfer none len gen pay) s (fun t => t.get F.SAF_SPS_STAT.STATE = 2 ∧ t.get F.SAF_SPS_STAT.REJ = 0 ∧
        (∃ x, t.saf.xfer = some x ∧ x.toB = (spsTarget s).1 ∧ x.shadow = none ∧ x.confirmAt = none ∧ x.img.drop 16 = pay ∧
          x.img.length = 16 + pay.length ∧ bankKind x.img = 0x53 ∧ bankLen x.img = 16 + pay.length ∧
          bankGen x.img = (spsTarget s).2 ∧ bankFormat x.img = 3 ∧ checkOk x.img = true ∧
          t.reg Reg.SAF_SPS_CHECK = bankCheck x.img) ∧
        RegsBut [Reg.SAF_SPS_STAT, Reg.SAF_SPS_CHECK] s t ∧ t.conf = s.conf ∧ t.nv = s.nv)) ∧
    (∀ r, (s.mode ≠ .commissioning ∨ keyOn s = false) ∧ r = 1 ∨
        s.mode = .commissioning ∧ keyOn s = true ∧
          (len ≠ 16 + pay.length ∧ r = 2 ∨ 0x10000 < len ∧ r = 2 ∨ Config.spsContentOf pay = none ∧ r = 2 ∨
            len = 16 + pay.length ∧ len ≤ 0x10000 ∧ ∃ c, Config.spsContentOf pay = some c ∧ spsFault s false c = some r) →
      Completes (.spsImageTransfer none len gen pay) s (fun t => t.get F.SAF_SPS_STAT.STATE = 0 ∧
        t.get F.SAF_SPS_STAT.REJ = r ∧ t.saf.xfer = none ∧ t.conf = s.conf ∧ t.nv = s.nv))) ∧
  (∀ (s : State) (core : Sender) (v : Word) (x : SpsXfer), Guarded s core Reg.SAF_SPS_CONFIRM v → s.saf.xfer = some x →
    s.mode = .commissioning → keyOn s = true → s.get F.SAF_SPS_STAT.STATE = 2 →
    (core.val ≠ 4 → Completes (.spsConfirm core (~~~ v)) s (fun t => t.get F.SAF_SPS_STAT.REJ = 7 ∧ t.saf = s.saf ∧
      OnlyRegs [Reg.SAF_SPS_STAT, Reg.SAF_SPS_CONFIRM] s t)) ∧
    (core.val = 4 → v = bankCheck x.img → Completes (.spsConfirm core (~~~ v)) s (fun t => t.get F.SAF_SPS_STAT.STATE = 3 ∧
      t.get F.SAF_SPS_STAT.REJ = 0 ∧ t.saf.xfer = some { x with confirmAt := some s.tb.tick, cfFrom := none } ∧ t.conf = s.conf ∧
      RegsBut [Reg.SAF_SPS_STAT, Reg.SAF_SPS_CONFIRM] s t)) ∧
    (core.val = 4 → v ≠ bankCheck x.img →
      (s.get F.SAF_SPS_STAT.TRIES = 2 → Completes (.spsConfirm core (~~~ v)) s (fun t => t.get F.SAF_SPS_STAT.STATE = 0 ∧
        t.get F.SAF_SPS_STAT.REJ = 5 ∧ t.saf.xfer = none)) ∧
      (s.get F.SAF_SPS_STAT.TRIES < 2 → Completes (.spsConfirm core (~~~ v)) s (fun t => t.get F.SAF_SPS_STAT.STATE = 2 ∧
        t.get F.SAF_SPS_STAT.REJ = 4 ∧ t.get F.SAF_SPS_STAT.TRIES = s.get F.SAF_SPS_STAT.TRIES + 1 ∧ t.saf = s.saf)))) ∧
  (∀ (s : State) (x : SpsXfer) (c f : Nat), s.awake = true → s.mode = .commissioning → s.saf.xfer = some x → x.shadow = none →
    x.confirmAt = some c → x.cfFrom = some f → cfgBusy s = false →
    (f + 62500000 ≤ s.tb.tick → s.tb.tick ≤ f + 625000000 → f ≤ c + 7500000000 → Completes .keyCfRelease s (fun t =>
      t.conf.commit = some (.sps x.img x.toB) ∧ t.get F.SAF_SPS_STAT.STATE = 4 ∧ t.flag F.CFG_STAT.COMMIT_BUSY = true ∧
      t.saf.xfer = none ∧ t.conf.sps = s.conf.sps ∧ spsBankOf t x.toB = none ∧ spsBankOf t (!x.toB) = spsBankOf s (!x.toB) ∧
      RegsBut [Reg.SAF_SPS_STAT, Reg.CFG_STAT] s t)) ∧
    (s.tb.tick < f + 62500000 ∨ f + 625000000 < s.tb.tick ∨ c + 7500000000 < f → Completes .keyCfRelease s (fun t =>
      t.saf.xfer = some { x with cfFrom := none } ∧ t.conf = s.conf ∧ t.nv = s.nv ∧ RegsBut [] s t))) ∧
  (∀ (s : State) (x : SpsXfer) (c : Nat), s.awake = true → s.saf.xfer = some x → x.confirmAt = some c → x.cfFrom = none →
    c + 7500000000 ≤ s.tb.tick → Completes .spsConfirmTimeout s (fun t => t.get F.SAF_SPS_STAT.STATE = 0 ∧
      t.get F.SAF_SPS_STAT.REJ = 6 ∧ t.saf.xfer = none ∧ t.conf = s.conf)) ∧
  (∀ (s : State) (img : List Byte) (toB : Bool), s.awake = true → s.conf.commit = some (.sps img toB) → img.length ≤ 0x10000 →
    Completes (.spsCommit true) s (fun t => t.conf.spsNext = Config.spsContentOf (img.drop 16) ∧ t.conf.sps = s.conf.sps ∧
      t.conf.commit = none ∧ MramHolds t (spsBase toB) img ∧ spsBankOf t (!toB) = spsBankOf s (!toB) ∧
      mramWord t 0x2000 = wd (selectorWord (bankGen img) toB) ∧ t.get F.SAF_SPS_GEN.GEN = bankGen img ∧
      t.reg Reg.SAF_SPS_WORD = bankCheck img ∧ t.flag F.CFG_EVENT.COMMIT_DONE = true) ∧
    Completes (.spsCommit false) s (fun t => LockedOut t ∧ t.conf.commit = none ∧ t.conf.spsNext = s.conf.spsNext ∧
      t.conf.sps = s.conf.sps ∧ ∀ b, spsBankOf t b = spsBankOf s b))

/-- CFG_OPS_COMMIT starts writing the inactive bank with an image that passes its checks in a mode that permits it, else it is refused;
at its end the bank stands and nothing in force changes until the next start-up. CFG_LC_CMD in Commissioning starts the wipe of a
transition Table 4.6 allows, else it is refused; the wipe's end changes the state, clears what is left of the user areas and resets. The
loader, with its key, takes an image and resets, and provisions or retires a Blank device. -/
def Obligations.OperationalSetsAndLifeCycle : Prop :=
  (∀ (s : State) (core : Sender) (v : Word), Guarded s core Reg.CFG_OPS_COMMIT v →
    ((s.mode = .watch ∨ s.mode = .standby ∨ s.mode = .commissioning) → cfgBusy s = false →
      ∀ img, opsImage s v.toNat (opsTarget s).2 = some img →
        (opsImageOk s img = true → Completes (.cfgOpsCommit core (~~~ v)) s (fun t =>
          t.conf.commit = some (.ops img (opsTarget s).1) ∧
          t.flag F.CFG_STAT.COMMIT_BUSY = true ∧ opsBankOf t (opsTarget s).1 = none ∧
          opsBankOf t (!(opsTarget s).1) = opsBankOf s (!(opsTarget s).1) ∧ t.conf.ops = s.conf.ops ∧
          RegsBut [Reg.CFG_OPS_COMMIT, Reg.CFG_STAT] s t)) ∧
        (opsImageOk s img = false → Completes (.cfgOpsCommit core (~~~ v)) s (fun t =>
          t.flag F.CFG_EVENT.REFUSED = true ∧ OnlyRegs [Reg.CFG_OPS_COMMIT, Reg.CFG_EVENT] s t))) ∧
    (¬(s.mode = .watch ∨ s.mode = .standby ∨ s.mode = .commissioning) ∨ cfgBusy s = true ∨
        opsImage s v.toNat (opsTarget s).2 = none →
      Completes (.cfgOpsCommit core (~~~ v)) s (fun t => t.flag F.CFG_EVENT.REFUSED = true ∧
        OnlyRegs [Reg.CFG_OPS_COMMIT, Reg.CFG_EVENT] s t))) ∧
  (∀ (s : State) (img : List Byte) (toB : Bool), s.awake = true → s.conf.commit = some (.ops img toB) → img.length ≤ 0x200000 →
    Completes (.opsCommitDone true) s (fun t => MramHolds t (opsBase toB) img ∧ opsBankOf t (!toB) = opsBankOf s (!toB) ∧
      t.conf = { s.conf with commit := none } ∧ t.flag F.CFG_EVENT.COMMIT_DONE = true ∧ t.flag F.CFG_STAT.COMMIT_BUSY = false ∧
      mramWord t 0x2004 = wd (selectorWord (bankGen img) toB) ∧ RegsBut [Reg.CFG_EVENT, Reg.CFG_STAT] s t) ∧
    Completes (.opsCommitDone false) s (fun t => t.nv = s.nv ∧ t.conf = { s.conf with commit := none } ∧
      t.flag F.CFG_EVENT.REFUSED = true)) ∧
  (∀ (s : State) (core : Sender) (v : Word) (dst : LifeCycle), Guarded s core Reg.CFG_LC_CMD v →
    getF F.CFG_LC_CMD.TARGET.bits v = dst.code →
    (s.mode = .commissioning → lcAllowed s.nv.lc.state dst = true → cfgBusy s = false →
      Completes (.cfgLcCmd core (~~~ v)) s (fun t => t.nv.lc.wipe = some ⟨dst, v.getLsbD 2 || decide (dst = .retired), 0x2000⟩ ∧
        t.conf.wiping = true ∧ t.conf.wipeFrom = s.tb.tick ∧ t.nv.lc.state = s.nv.lc.state ∧ RegsBut [Reg.CFG_LC_CMD] s t)) ∧
    (s.mode ≠ .commissioning ∨ lcAllowed s.nv.lc.state dst = false ∨ cfgBusy s = true →
      Completes (.cfgLcCmd core (~~~ v)) s (fun t => t.flag F.CFG_EVENT.REFUSED = true ∧
        OnlyRegs [Reg.CFG_LC_CMD, Reg.CFG_EVENT] s t))) ∧
  (∀ (s : State) (w : WipeMarker), s.nv.lc.wipe = some w → s.conf.wiping = true → Completes .lifeCycleWipeDone s (fun t =>
    ResetInForce 16 s t ∧ t.nv.lc.state = w.target ∧ t.nv.lc.wipe = none ∧
    (∀ a, w.progress ≤ a → a < (if w.img then 0x2000000 else 0x1000000) → smGet 0 t.nv.mram a = 0) ∧
    (∀ a, a < w.progress ∨ (if w.img then 0x2000000 else 0x1000000) ≤ a → w.progress ≤ (if w.img then 0x2000000 else 0x1000000) →
      smGet 0 t.nv.mram a = smGet 0 s.nv.mram a))) ∧
  (∀ (s : State) (usb : Bool) (img : List Byte), loaderOpen s = true → (usb = true ∨ s.nv.lc.fenced = false) →
    Completes (.loaderImageReceive usb img) s (fun t => ResetInForce 8 s t ∧
      (∀ i, i < img.length → i < 0x1000000 → smGet 0 t.nv.mram (0x1000000 + i) = img.getD i 0) ∧
      (∀ a, a < 0x1000000 → smGet 0 t.nv.mram a = smGet 0 s.nv.mram a) ∧ t.nv.lc = s.nv.lc)) ∧
  (∀ (s : State) (retire : Bool) (id : Fin 16384) (key : List Byte), loaderOpen s = true → s.nv.lc.state = .blank → cfgBusy s = false →
    Completes (.loaderLifeCycleChange retire id key) s (fun t => t.conf.wiping = true ∧
      t.nv.lc.wipe = some ⟨if retire then .retired else .provisioned, true, 0x2000⟩ ∧
      (retire = false → t.nv.lc.fabricId = id.val ∧ t.nv.lc.actId = id.val ∧ t.nv.lc.pubKey = key ∧ t.nv.lc.epoch = 0) ∧
      RegsBut [] s t))

/-! ### 07 and 02: sharing the force, hand-over, the servo period -/

/-- SHARE for a car the device does not own is kept for its boundary, channel by channel; for a car it owns outside an owner hand-over it
is discarded. HO_OUT that comes
in time is kept in the hand-over it belongs to, a later one is not. SEGSTAT replaces what its sender last excluded for the car. -/
def Obligations.NeighbourFramesAreKept : Prop :=
  ∀ (s : State) (h : Hdr), Delivers s h →
    (∀ (p : SharePl), (carById s p.car = none ∨ ∃ c, carById s p.car = some c ∧ (s.car c).owner = false ∧ (s.car c).ho = none) →
      Completes (.share h p) s (fun t =>
        (∀ e n, e ∈ p.entries → segChan s e.seg = some n → (∀ e', e' ∈ p.entries → segChan s e'.seg = some n → e' = e) →
          ∃ y, (t.chan n).shareIn = some y ∧ y.owner = h.src ∧ y.car = p.car ∧ (p.stamp, sgn 32 (uns 32 e.share)) ∈ y.recv ∧
            ∀ q, q ∈ y.recv → q.1 = p.stamp → q.2 = sgn 32 (uns 32 e.share)) ∧
        (∀ n, (∀ e, e ∈ p.entries → segChan s e.seg ≠ some n) → t.chan n = s.chan n) ∧
        (∀ c, carById s p.car = some c → (t.car c).ownerId = h.src) ∧
        HeardBut s t ∧ t = { s with fab := t.fab, cars := t.cars, chans := t.chans })) ∧
    (∀ (p : SharePl) c, carById s p.car = some c → (s.car c).owner = true → (s.car c).ho = none →
      Completes (.share h p) s (fun t => HeardBut s t ∧ t = { s with fab := t.fab })) ∧
    (∀ (p : HoOutPl) c x, carById s p.car = some c → (s.car c).ho = some x → x.nb = h.src → (s.tide.stage = .link ∨ s.tb.k ≤ p.period) →
      Completes (.hoOut h p) s (fun t => ∃ y, (t.car c).ho = some y ∧ hoRecv y p.period = some (sgn 32 (uns 32 p.u)) ∧
        y = { x with recv := y.recv } ∧ (∀ d, d ≠ c → t.car d = s.car d) ∧ HeardBut s t ∧
        t = { s with fab := t.fab, cars := t.cars })) ∧
    (∀ p : HoOutPl, s.tide.stage ≠ .link → p.period < s.tb.k → Completes (.hoOut h p) s (fun t => HeardBut s t ∧ t = { s with fab := t.fab })) ∧
    (∀ (p : SegstatPl) c, carById s p.car = some c →
      Completes (.segstat h p) s (fun t => (∀ seg, (h.src, seg) ∈ (t.car c).excl ↔ ∃ why, (seg, why) ∈ p.segs) ∧
        (∀ e, e.1 ≠ h.src → (e ∈ (t.car c).excl ↔ e ∈ (s.car c).excl)) ∧ (∀ d, d ≠ c → t.car d = s.car d) ∧
        HeardBut s t ∧ t = { s with fab := t.fab, cars := t.cars }))

/-- OFFER taken: the car's data, context and move enter a record whose slot runs from the next period on. CLAIM in time makes the
hand-over instant known; a later one is ignored. HO_FAIL ends a hand-over that compares and is kept for the next split by one that
blends, and by a car whose blend has ended. CLAIM_TIMEOUT ends it with HO_FAIL and a stop of cause 4, and no new one starts until it is permitted (R227 to R233). -/
def Obligations.OwnerHandOverRuns : Prop :=
  (∀ (s : State) (h : Hdr), Delivers s h →
    (∀ (p : OfferPl) c g, isSection s = true → s.servoOn = true → s.flag F.TIM_STAT.SYNC = true → s.tide.stage ≠ Stage.phaseA →
      offerSpanOk s p = true → 1 ≤ p.mass → p.mass ≤ 65535 → offerRecord s p.car = some c → ctrlSlot s 1 c = some g → (s.car c).owner = false → (s.car c).ho = none →
      Completes (.offer h p) s (fun t => ∃ x, (t.car c).ho = some x ∧ x.kind = HoKind.ownerIn ∧ x.stage = HoStage.comparing ∧
        x.nb = h.src ∧ x.inSlot = g ∧ x.fails = 0 ∧ (t.car c).held = true ∧ (t.car c).id = p.car ∧ (t.car c).mass = p.mass ∧
        (t.car c).arrOfs = p.arrOfs ∧ (t.car c).arrLen = p.arrLen ∧ (t.car c).ownerId = h.src ∧
        (∀ i, i < 64 → dataWord t (g / 24) (64 * (g % 24) + i) = p.ctx.getD i 0) ∧
        (∀ j, (∀ i, i < 64 → j ≠ g / 24 * 16384 + (64 * (g % 24) + i)) → smGet 0 t.tide.data j = smGet 0 s.tide.data j) ∧
        (∀ d, d ≠ c → t.car d = s.car d ∧ t.axis d = s.axis d) ∧ (∀ a, t.reg a = s.reg a))) ∧
    (∀ (p : ClaimPl) c x, carById s p.car = some c → (s.car c).ho = some x → x.kind = HoKind.ownerOut → x.nb = h.src → x.claimed = false →
      ((s.tb.k < x.k0 + s.get F.TAC_HO_CFG_CAR.N_HO + 2 ∨ s.tb.k = x.k0 + s.get F.TAC_HO_CFG_CAR.N_HO + 2 ∧ s.tide.stage ≠ .phaseB) →
        Completes (.claim h p) s (fun t =>
        (t.car c).ho = some { x with claimed := true, h := p.period, stage := .blending } ∧ (t.car c).owner = (s.car c).owner ∧
        (∀ d, d ≠ c → t.car d = s.car d))) ∧
      (x.k0 + s.get F.TAC_HO_CFG_CAR.N_HO + 2 < s.tb.k → Completes (.claim h p) s (fun t => HeardBut s t ∧
        t = { s with fab := t.fab }))) ∧
    (∀ (p : HoFailPl) c x, carById s p.car = some c → (s.car c).ho = some x → x.kind = HoKind.ownerIn → x.nb = h.src →
      (x.stage = HoStage.blending → Completes (.hoFail h p) s (fun t => (t.car c).ho = some { x with back := true } ∧ HeardBut s t ∧
        (∀ d, d ≠ c → t.car d = s.car d) ∧ t = { s with fab := t.fab, cars := t.cars })) ∧
      (x.stage ≠ HoStage.blending → Completes (.hoFail h p) s (fun t => (t.car c).ho = none ∧
        t.flag F.TAC_SCHED_EVENT.HO_FAIL = true ∧ t.flag F.SAF_EVENT.HO_FAIL = true ∧ (∀ d, d ≠ c → t.car d = s.car d)))) ∧
    (∀ (p : HoFailPl) c, carById s p.car = some c → (s.car c).ho = none → (s.car c).owner = true → (s.car c).cameFrom = some h.src →
      Completes (.hoFail h p) s (fun t => t.car c = { s.car c with retTo := some h.src } ∧ (∀ d, d ≠ c → t.car d = s.car d) ∧
        HeardBut s t ∧ t = { s with fab := t.fab, cars := t.cars }))) ∧
  (∀ (s : State) (c : Fin 8) (x : HandOver), (s.car c.val).ho = some x → x.kind = HoKind.ownerOut → x.claimed = false →
    x.k0 + s.get F.TAC_HO_CFG_CAR.N_HO + 2 ≤ s.tb.k → Completes (.claimTimeout c) s (fun t =>
      (t.car c.val).ho = none ∧ (t.car c.val).hoFailed = true ∧ (t.axis c.val).evs = (s.axis c.val).evs ++ [AxisEv.stop 4] ∧
      (∀ d, d ≠ c.val → t.car d = s.car d ∧ t.axis d = s.axis d) ∧ t.tide = s.tide ∧ t.tb = s.tb))

/-- TAC_FAULT_CLR clears the fault and the consecutive count of a car slot at rest, of a channel slot under no car's array, or of an
auxiliary slot. CONTROL_MODE_HANDOVER starts the comparison with an enabled slot that has a partner in control. PERMIT_OWNER_HANDOVER
lets a car at rest start a new owner hand-over. Each is refused otherwise, with REFUSED and no other effect (R212, R224, R233). -/
def Obligations.SchedulingCommands : Prop :=
  (∀ (s : State) (core : Sender) (v : Word) (g : Nat), Guarded s core Reg.TAC_FAULT_CLR v → g = v.toNat % 256 →
    (g < 192 → (slotKind s g = 1 → recMoves s (slotBind s g) = false) → (slotKind s g = 2 → chanUnderCar s (slotBind s g) = false) →
      Completes (.tacFaultClr core (~~~ v)) s (fun t => t.get (F.TAC_OVR.FAULT g) = 0 ∧ t.get (F.TAC_OVR.CONSEC g) = 0 ∧
        t.get (F.TAC_OVR.TOTAL g) = s.get (F.TAC_OVR.TOTAL g) ∧ OnlyRegs [Reg.TAC_OVR g, Reg.TAC_FAULT_CLR] s t)) ∧
    (192 ≤ g ∨ slotKind s g = 1 ∧ recMoves s (slotBind s g) = true ∨ slotKind s g = 2 ∧ chanUnderCar s (slotBind s g) = true →
      Completes (.tacFaultClr core (~~~ v)) s (fun t => t.flag F.TAC_SCHED_EVENT.REFUSED = true ∧
        OnlyRegs [Reg.TAC_SCHED_EVENT, Reg.TAC_FAULT_CLR] s t))) ∧
  (∀ (s : State) (core : Sender) (v : Word) (g b : Nat), Guarded s core Reg.TAC_HO_CMD v → g = v.toNat % 256 → b = slotBind s g →
    (v.toNat / 256 % 4 = 1 →
      (∀ o, g < 192 → slotEn s g = true → (s.slot g).bad = false → slotKind s g = 1 → ctrlSlot s 1 b = some o → o ≠ g → (s.car b).ho = none →
        Completes (.controlModeHandover core (~~~ v)) s (fun t => ∃ x, (t.car b).ho = some x ∧ x.kind = HoKind.carMode ∧
          x.stage = HoStage.comparing ∧ x.outSlot = o ∧ x.inSlot = g ∧ x.k0 = s.tb.k ∧ x.fails = 0 ∧
          x.blend = s.get F.TAC_HO_CFG_CAR.BLEND ∧ (∀ d, d ≠ b → t.car d = s.car d) ∧ RegsBut [Reg.TAC_HO_CMD] s t ∧
          t = { s with bus := t.bus, cars := t.cars })) ∧
      (∀ o, g < 192 → slotEn s g = true → (s.slot g).bad = false → slotKind s g = 2 → ctrlSlot s 2 b = some o → o ≠ g → (s.chan b).ho = none →
        Completes (.controlModeHandover core (~~~ v)) s (fun t => ∃ x, (t.chan b).ho = some x ∧ x.kind = HoKind.chanMode ∧
          x.stage = HoStage.comparing ∧ x.outSlot = o ∧ x.inSlot = g ∧ x.k0 = s.tb.k ∧ x.fails = 0 ∧
          x.blend = s.get F.TAC_HO_CFG_CH.BLEND ∧ (∀ d, d ≠ b → t.chan d = s.chan d) ∧ RegsBut [Reg.TAC_HO_CMD] s t ∧
          t = { s with bus := t.bus, chans := t.chans })) ∧
      (slotEn s g = false ∨ (s.slot g).bad = true ∨ ctrlSlot s (slotKind s g) b = none ∨ ctrlSlot s (slotKind s g) b = some g ∨
          slotKind s g = 1 ∧ (s.car b).ho ≠ none ∨ slotKind s g = 2 ∧ (s.chan b).ho ≠ none →
        Completes (.controlModeHandover core (~~~ v)) s (fun t => t.flag F.TAC_SCHED_EVENT.REFUSED = true ∧
          OnlyRegs [Reg.TAC_SCHED_EVENT, Reg.TAC_HO_CMD] s t))) ∧
    (v.toNat / 256 % 4 = 2 →
      (g < 192 → slotEn s g = true → slotKind s g = 1 → recMoves s b = false →
        Completes (.permitOwnerHandover core (~~~ v)) s (fun t => t.car b = { s.car b with hoFailed := false } ∧
          (∀ d, d ≠ b → t.car d = s.car d) ∧ RegsBut [Reg.TAC_HO_CMD] s t ∧ t = { s with bus := t.bus, cars := t.cars })) ∧
      (slotEn s g = false ∨ slotKind s g ≠ 1 ∨ recMoves s b = true →
        Completes (.permitOwnerHandover core (~~~ v)) s (fun t => t.flag F.TAC_SCHED_EVENT.REFUSED = true ∧
          OnlyRegs [Reg.TAC_SCHED_EVENT, Reg.TAC_HO_CMD] s t))))

/-- A comparison of a car's control-mode hand-over at the split: within DU_MAX the next period is the instant and its preload is
U_out - U_in, wrapped; else the failures rise, and N_HO of them end it with HO_FAIL and a stop of cause 4, the outgoing law in control.
The blend starts above the outgoing value and reaches the incoming one (R219, R220, R222, R223). -/
def Obligations.ComparisonDecidesTheHandOver : Prop :=
  (∀ (s : State) (c : Nat) (x : HandOver) (u w : Int), (s.car c).ho = some x → x.kind = HoKind.carMode → x.stage = HoStage.comparing →
    x.k0 < s.tb.k → u = (outOf s x.inSlot 0).toInt → w = (outOf s x.outSlot 0).toInt →
    ((u - w).natAbs ≤ s.get F.TAC_HO_CFG_CAR.DU_MAX → ∀ t, t = modeHoSplit c s →
      (t.car c).ho = some { x with stage := .blending, h := s.tb.k + 1 } ∧
      (t.car c).preload = some ⟨x.inSlot, s.tb.k + 1, (BitVec.ofInt 32 (w - u)).toInt⟩ ∧ t = { s with cars := t.cars }) ∧
    (s.get F.TAC_HO_CFG_CAR.DU_MAX < (u - w).natAbs → ∀ t, t = modeHoSplit c s →
      (x.fails + 1 < s.get F.TAC_HO_CFG_CAR.N_HO → (t.car c).ho = some { x with fails := x.fails + 1 } ∧ t = { s with cars := t.cars }) ∧
      (s.get F.TAC_HO_CFG_CAR.N_HO ≤ x.fails + 1 → (t.car c).ho = none ∧ t.flag F.TAC_SCHED_EVENT.HO_FAIL = true ∧
        t.flag F.SAF_EVENT.HO_FAIL = true ∧ (t.axis c).evs = (s.axis c).evs ++ [AxisEv.stop 4] ∧ t.tide = s.tide))) ∧
  (∀ (u w : Int) (l : Nat), blendOut u w l l = u) ∧
  (∀ (u w : Int) (j l : Nat), w ≤ u → j ≤ l → w ≤ blendOut u w j l ∧ blendOut u w j l ≤ u)

/-- Before the limit the shares of R213 sum exactly to the force, and none exceeds the limit after it. FORCE_SPLIT with one owned car and
every phase A run ended: the car's force is the applied one, each own segment of its active set takes its limited share and any other
own segment 0, and phase B begins. The split takes the share received for a segment that is in use, without one the previous share once,
then 0. SHARE_MISSED of a segment whose split found none counts it, once in a period, and sets SHARE_MISS. -/
def Obligations.ForceIsShared : Prop :=
  (∀ (f : Int) (ov : List Nat), 0 < ov.sum → (rawShares f ov).sum = f ∧ (rawShares f ov).length = ov.length) ∧
  (∀ (m : Int) (l : List Int) x, 0 ≤ m → x ∈ limitShares m l → -m ≤ x ∧ x ≤ m) ∧
  (∀ (s : State) (c : Nat), s.servoOn = true → s.tide.stage = Stage.phaseA → isSection s = true → heldCars s = [c] →
    (s.car c).owner = true → (∀ d, d < 8 → (s.car d).ho = none ∧ (s.car d).retTo = none) → ((ownSegs s.conf.geom).map (fun x => x.chan)).Nodup →
    spareGone s = false → (∀ g, g ∈ liveSlots s (fun g => slotPhase s g == 0) → (s.slot g).run = RunState.done ∨ (s.slot g).run = RunState.overran) →
    Completes .forceSplit s (fun t => t.tide.stage = Stage.phaseB ∧ (t.car c).force = (appliedForce s c).1 ∧
      (t.car c).activeN = (activeSet s c).length ∧
      (∀ (i : Nat) (x : SegX) (o : Nat), (activeSet s c)[i]? = some (x, o) → x.nb = none → (t.chan x.chan).car = some c ∧ (t.chan x.chan).overlap = o ∧
        (limitShares (s.get F.TAC_SEG_FMAX.FMAX) (rawShares (appliedForce s c).1 ((activeSet s c).map (fun p => p.2))))[i]? =
          some (t.chan x.chan).share) ∧
      (∀ x, x ∈ ownSegs s.conf.geom → (∀ o, (x, o) ∉ activeSet s c) →
        (t.chan x.chan).share = 0 ∧ (t.chan x.chan).active = false))) ∧
  (∀ (s : State) (x : SegX) (c : Nat), dueCar s x = some c → outOfUse s x.chan = false → doubleShare s x = false →
    (∀ sh, shareFor s x.chan = some sh → ∀ t, t = splitDue x s → (t.chan x.chan).share = sh ∧ (t.chan x.chan).active = true ∧
      (t.chan x.chan).car = some c ∧ (∃ y, (t.chan x.chan).shareIn = some y ∧ y.misses = 0 ∧ y.last = sh) ∧
      (∀ n, n ≠ x.chan → t.chan n = s.chan n) ∧ t = { s with chans := t.chans }) ∧
    (∀ y, shareFor s x.chan = none → (s.chan x.chan).shareIn = some y → ∀ t, t = splitDue x s →
      (t.chan x.chan).share = (if y.misses = 0 then y.last else 0) ∧
      (∃ z, (t.chan x.chan).shareIn = some z ∧ z.misses = y.misses + 1 ∧ z.missAt = some s.tb.k ∧ z.last = y.last) ∧
      (∀ n, n ≠ x.chan → t.chan n = s.chan n) ∧ t = { s with chans := t.chans })) ∧
  (∀ (s : State) (x : SegX) (y : ShareIn), s.servoOn = true → (ownSegs s.conf.geom).find? (fun z => z.seg == x.seg) = some x →
    (s.chan x.chan).shareIn = some y → y.missAt = some s.tb.k → y.cntAt ≠ some s.tb.k →
    Completes (.shareMissed x.seg) s (fun t => t.chan x.chan = { s.chan x.chan with shareIn := some { y with cntAt := some s.tb.k } } ∧
      t.get (F.SLK_CH_CNT.SHARE_MISS x.chan) = min 255 (s.get (F.SLK_CH_CNT.SHARE_MISS x.chan) + 1) ∧
      t.flag F.SLK_EVENT.SHARE_MISS = true ∧ (∀ n, n ≠ x.chan → t.chan n = s.chan n) ∧
      RegsBut [Reg.SLK_CH_CNT x.chan, Reg.SLK_EVENT] s t ∧ t = { s with bus := t.bus, chans := t.chans }))

/-- SERVO_PERIOD_BOUNDARY before the clock has reached it does nothing. Where no servo stage runs, no telegram is due and no transition is
ready: k is the number of the present time, PERIOD sets, every halt is released, a committed safety set governs from here, and the frozen
UG5 takes effect whole. A transition that is ready takes effect there. COMPUTE_WINDOW_OPEN leads to phase A once every port's return is
dealt with. SPEED_T_ZERO_EXPIRY makes the period method read exactly 0. -/
def Obligations.PeriodAdvances : Prop :=
  (∀ s : State, boundaryDue s = false → exec .servoPeriodBoundary s = .next s) ∧
  (∀ (s : State) (k : Nat), k = s.nowNs / s.tsNs → s.awake = true → s.servoOn = false → boundaryDue s = true → s.pw.ready = false →
    k % tgPeriods s ≠ 0 →
    (s.bus.frozen = 0 → Completes .servoPeriodBoundary s (fun t => t.tb = { s.tb with k := k, next := k + 1 } ∧
      t.flag F.TIM_EVENT.PERIOD = true ∧ (∀ c, s.conf.spsNext = some c → t.conf.sps = c ∧ t.conf.spsNext = none) ∧
      (s.conf.spsNext = none → t.conf = s.conf) ∧ t.tide.haltWant = 0 ∧ (∀ e, e < 8 → halted t e = false) ∧
      RegsBut [Reg.TIM_EVENT, Reg.CFG_DEFAULT, Reg.TAC_ENG_HALT] s t ∧
      t = { s with tb := t.tb, conf := t.conf, bus := t.bus, tide := { s.tide with haltWant := t.tide.haltWant } })) ∧
    (s.bus.frozen = 32 → s.conf.spsNext = none → Completes .servoPeriodBoundary s (fun t => t.tb.k = k ∧
      t.flag F.SYS_EVENT.UPD_DONE = true ∧ (∀ a, regGroup a = some 5 → t.reg a = s.pendReg a) ∧
      (∀ a, regGroup a ≠ some 5 → a ≠ Reg.TIM_EVENT → a ≠ Reg.SYS_EVENT → a ≠ Reg.TAC_ENG_HALT → t.reg a = s.reg a) ∧
      t = { s with tb := t.tb, bus := t.bus, tide := { s.tide with haltWant := 0 } }))) ∧
  (∀ (s : State) (m : Mode), s.pw.trans = some m → s.pw.ready = true → modeServo m = true → ∀ t, t = transBoundary s →
    t.mode = m ∧ t.pw.prev = s.mode ∧ t.pw.trans = none ∧ t.pw.ready = false) ∧
  (∀ s : State, windowReady s = true → Completes .computeWindowOpen s (fun t => t.tide.stage = Stage.phaseA)) ∧
  (∀ (s : State) (n : Nat), n < 144 → s.servoOn = true → fbEn s n = true → (s.fb n).live = true →
    (s.fb n).eT + tZero s n ≤ s.nowNs → s.flag (F.FBK_CH_CFG.METHOD n) = false → (s.fb n).useObs = false → (s.fb n).blend = 0 →
    s.flag (F.FBK_CH_STAT.SIGF n) = false →
    Completes (.speedTZeroExpiry n) s (fun t => t.reg (Reg.FBK_CH_VEL n) = 0 ∧ t.flag (F.FBK_CH_STAT.SPD_VALID n) = true ∧
      (t.fb n).edge = false ∧ (∀ m, m ≠ n → t.fb m = s.fb m) ∧ RegsBut [Reg.FBK_CH_VEL n, Reg.FBK_CH_STAT n] s t ∧
      t = { s with bus := t.bus, fbk := t.fbk }))

/-! ### 08: trajectories -/

/-- TRJ_QUEUE, TRJ_RESUME and TRJ_HOME start the span check of the arguments as they stand; TRJ_STOP, TRJ_ABORT and TRJ_FLUSH have their
outcome at once, the lowest code they fail, and act in the next stage 4; any of them during a span check ends with code 10.
SPAN_CHECK_DONE accepts or refuses. TST_WRITE stores a word, except in a row of a move at hand. -/
def Obligations.TrajectoryCommands : Prop :=
  (∀ (s : State) (core : Sender) (v : Word) (i : Instr) (op n : Nat), canAccess s core = true → Unguarded s Reg.TRJ_CMD →
    v.toNat / 16 % 16 = op → v.toNat % 8 = n →
    (op = 1 ∧ i = .trjQueue core v ∨ op = 2 ∧ i = .trjStop core v ∨ op = 3 ∧ i = .trjResume core v ∨ op = 4 ∧ i = .trjAbort core v ∨
      op = 5 ∧ i = .trjHome core v ∨ op = 6 ∧ i = .trjFlush core v) →
    (s.trj.chk ≠ none → Completes i s (fun t => t.get F.TRJ_CMD_STAT.CODE = 10 ∧ t.get F.TRJ_CMD_STAT.AXIS = n ∧
      t.flag F.TRJ_EVENT.CMD_REJ = true ∧ OnlyRegs [Reg.TRJ_CMD_STAT, Reg.TRJ_EVENT] s t)) ∧
    (s.trj.chk = none → (op = 1 ∨ op = 3 ∨ op = 5) → Completes i s (fun t => t.flag F.TRJ_CMD_STAT.BUSY = true ∧
      (∃ c, t.trj.chk = some c ∧ c.axis = n ∧ c.op = op ∧ c.arg = { argNow s with kind := if op = 5 then 1 else (argNow s).kind }) ∧
      RegsBut [Reg.TRJ_CMD_STAT] s t ∧ t = { s with bus := t.bus, trj := { s.trj with chk := t.trj.chk } })) ∧
    (s.trj.chk = none → (op = 2 ∨ op = 4 ∨ op = 6) →
      (cmdCode s n op (argNow s) = 0 → Completes i s (fun t => t.get F.TRJ_CMD_STAT.CODE = 0 ∧ t.get F.TRJ_CMD_STAT.AXIS = n ∧
        t.flag F.TRJ_EVENT.CMD_DONE = true ∧ (t.axis n) = { s.axis n with evs := (s.axis n).evs ++
          [if op = 2 then .stop 1 else if op = 4 then .stop 2 else .flush] } ∧ (∀ m, m ≠ n → t.axis m = s.axis m) ∧
        RegsBut [Reg.TRJ_CMD_STAT, Reg.TRJ_EVENT] s t ∧ t = { s with bus := t.bus, trj := { s.trj with axes := t.trj.axes } })) ∧
      (cmdCode s n op (argNow s) ≠ 0 → Completes i s (fun t => t.get F.TRJ_CMD_STAT.CODE = cmdCode s n op (argNow s) % 16 ∧
        t.flag F.TRJ_EVENT.CMD_REJ = true ∧ OnlyRegs [Reg.TRJ_CMD_STAT, Reg.TRJ_EVENT] s t)))) ∧
  (∀ (s : State) (c : SpanCheck), s.trj.chk = some c → c.axis < 8 →
    (cmdCode s c.axis c.op c.arg ≠ 0 → Completes .spanCheckDone s (fun t => t.trj = { s.trj with chk := none } ∧
      t.get F.TRJ_CMD_STAT.CODE = cmdCode s c.axis c.op c.arg % 16 ∧ t.flag F.TRJ_CMD_STAT.BUSY = false ∧
      t.flag F.TRJ_EVENT.CMD_REJ = true ∧ RegsBut [Reg.TRJ_CMD_STAT, Reg.TRJ_EVENT] s t)) ∧
    (cmdCode s c.axis c.op c.arg = 0 → Completes .spanCheckDone s (fun t => t.trj.chk = none ∧ t.get F.TRJ_CMD_STAT.CODE = 0 ∧
      t.flag F.TRJ_CMD_STAT.BUSY = false ∧ t.flag F.TRJ_EVENT.CMD_DONE = true ∧ (∀ m, m ≠ c.axis → t.axis m = s.axis m) ∧
      (c.op = 1 → ∃ g, (t.axis c.axis).queue = (s.axis c.axis).queue ++ [g] ∧ g.first = c.arg.first ∧ g.count = c.arg.count ∧
        g.dir = c.arg.dir ∧ g.kind = c.arg.kind ∧ g.id = c.arg.id ∧ (t.axis c.axis).st = (s.axis c.axis).st) ∧
      (c.op = 3 → ∀ m, (s.axis c.axis).mv = some m → (t.axis c.axis).st = AxisSt.running ∧ ∃ x, (t.axis c.axis).mv = some x ∧
        x.target = m.target ∧ x.arg.first = c.arg.first ∧ x.arg.count = c.arg.count ∧ x.arg.id = m.arg.id ∧ x.tau = 0) ∧
      (c.op = 5 → (t.axis c.axis).st = AxisSt.running ∧ (t.axis c.axis).homing = 1 ∧
        (latch t (s.get (F.TRJ_AXIS_HOME.LATCH c.axis))).armedAt = some s.nowNs)))) ∧
  (∀ (s : State) (core : Sender) (r w : Nat) (v : Word), canAccess s core = true → r < 8192 → w < 4 →
    (rowLocked s r = false → Completes (.tstWrite core (0x31000000 + 16 * r + 4 * w) v) s (fun t => tstWord t (4 * r + w) = v ∧
      (∀ j, j ≠ 4 * r + w → tstWord t j = tstWord s j) ∧ t = { s with trj := { s.trj with tst := t.trj.tst } })) ∧
    (rowLocked s r = true → Completes (.tstWrite core (0x31000000 + 16 * r + 4 * w) v) s (fun t =>
      t.flag F.TRJ_EVENT.TST_WR_REJ = true ∧ OnlyRegs [Reg.TRJ_EVENT] s t)))

/-- A TRJ_LAT_CMD write, unit by unit: DISARM wins; ARM without an edge or an enabled source is refused; in its hold-off a unit waits,
else it is armed now. A hold-off's end arms the unit. A homing axis whose limit came first aborts with cause 6, one whose span ended with neither limit nor
capture has failed. The write of POS_HI arms a compare unit with a mode and judges BEHIND by its source; the disarm write clears ARMED and BEHIND where its bits are 1. -/
def Obligations.LatchesAndCompares : Prop :=
  (∀ (s : State) (core : Sender) (v : Word) (i : Instr), canAccess s core = true → Unguarded s Reg.TRJ_LAT_CMD →
    (i = .latchArm core v ∧ v.toNat % 65536 ≠ 0 ∨ i = .latchDisarm core v ∧ v.toNat / 65536 ≠ 0) → Completes i s (fun t =>
      (∀ m, m < 16 → v.getLsbD (16 + m) = true → (latch t m).armedAt = none ∧ (latch t m).waitUntil = none) ∧
      (∀ m, m < 16 → v.getLsbD (16 + m) = false → v.getLsbD m = true →
        (s.get (F.TRJ_LAT_CFG.EDGE m) = 0 ∨ fbEn s (s.get (F.TRJ_LAT_CFG.SOURCE m)) = false →
          t.flag F.TRJ_EVENT.CMD_REJ = true ∧ latch t m = latch s m) ∧
        (s.get (F.TRJ_LAT_CFG.EDGE m) ≠ 0 → fbEn s (s.get (F.TRJ_LAT_CFG.SOURCE m)) = true →
          ((latch s m).lastCap = none → (latch t m).armedAt = some s.nowNs) ∧
          (∀ c f, (latch s m).lastCap = some c → f = c + s.get (F.TRJ_LAT_CFG.HOLDOFF m) * 1000000 →
            (f ≤ s.nowNs → (latch t m).armedAt = some s.nowNs) ∧
            (s.nowNs < f → (latch t m).armedAt = none ∧ (latch t m).waitUntil = some f)))) ∧
      (∀ m, m < 16 → v.getLsbD (16 + m) = false → v.getLsbD m = false → latch t m = latch s m) ∧
      RegsBut [Reg.TRJ_EVENT] s t ∧ t = { s with bus := t.bus, trj := { s.trj with lat := t.trj.lat } })) ∧
  (∀ (s : State) (m : Fin 16) (f : Nat), (latch s m.val).waitUntil = some f → f ≤ s.nowNs → Completes (.latchHoldoffExpiry m) s (fun t =>
    latch t m.val = { latch s m.val with armedAt := some f, upTo := none, waitUntil := none } ∧ (∀ k, k ≠ m.val → latch t k = latch s k) ∧
    t = { s with trj := { s.trj with lat := t.trj.lat } })) ∧
  (∀ (s : State) (n : Fin 8) (tl : Nat), (s.axis n.val).homeLimit = some tl → (s.axis n.val).homing = 1 → tl + 300000 ≤ s.nowNs →
    limitFirst (s.axis n.val) tl = true → (∀ c, c ∈ homeCaps s n.val → tl ≤ c) → Completes (.homeDecision n) s (fun t =>
      (t.axis n.val).homing = 3 ∧ t.flag F.TRJ_EVENT.LIMIT = true ∧ t.bit F.TRJ_AXIS_EVENT.HOME n.val = true ∧
      (∀ m, (s.axis n.val).mv = some m → m.arg.kind = 1 → (t.axis n.val).evs = (s.axis n.val).evs ++ [.stop 6] ∧
        (t.axis n.val).mv = some { m with arg := { m.arg with kind := 0 } }) ∧ (∀ k, k ≠ n.val → t.axis k = s.axis k) ∧
      RegsBut [Reg.TRJ_AXIS_EVENT, Reg.TRJ_EVENT] s t)) ∧
  (∀ (s : State) (n : Fin 8) (te : Nat), (s.axis n.val).homeLimit = none → (s.axis n.val).homeEnd = some te → (s.axis n.val).homing = 1 →
    te + 300000 ≤ s.nowNs → homeCaps s n.val = [] → Completes (.homeDecision n) s (fun t => (t.axis n.val).homing = 4 ∧
      (t.axis n.val).evs = (s.axis n.val).evs ∧ (t.axis n.val).mv = (s.axis n.val).mv ∧ t.bit F.TRJ_AXIS_EVENT.HOME n.val = true ∧
      (latch t (s.get (F.TRJ_AXIS_HOME.LATCH n.val))).armedAt = none ∧ (∀ k, k ≠ n.val → t.axis k = s.axis k) ∧
      RegsBut [Reg.TRJ_AXIS_EVENT] s t)) ∧
  (∀ (s : State) (core : Sender) (u : Fin 32) (v : Word) (c x vel : Int), canAccess s core = true →
    Unguarded s (Reg.TRJ_CMP_POS_HI u.val) → c = sgn 64 (join64 (holdOf s (Reg.TRJ_CMP_POS_LO u.val) core) v) →
    cmpSource s u.val = (x, vel) → Completes (.compareArm core u v) s (fun t =>
      t.reg (Reg.TRJ_CMP_POS_LO u.val) = holdOf s (Reg.TRJ_CMP_POS_LO u.val) core ∧ t.reg (Reg.TRJ_CMP_POS_HI u.val) = v ∧
      (t.bit F.TRJ_CMP_BEHIND.BEHIND u.val = true ↔ 0 < vel ∧ c ≤ x ∨ vel < 0 ∧ x ≤ c) ∧
      (s.get (F.TRJ_CMP_CFG.MODE u.val) ≠ 0 → t.bit F.TRJ_CMP_ARMED.ARMED u.val = true ∧ smGet 0 t.trj.cmpPrev u.val = x) ∧
      (s.get (F.TRJ_CMP_CFG.MODE u.val) = 0 → t.reg Reg.TRJ_CMP_ARMED = s.reg Reg.TRJ_CMP_ARMED ∧ t.trj = s.trj) ∧
      (∀ k, k < 32 → k ≠ u.val → t.bit F.TRJ_CMP_ARMED.ARMED k = s.bit F.TRJ_CMP_ARMED.ARMED k) ∧
      RegsBut [Reg.TRJ_CMP_POS_LO u.val, Reg.TRJ_CMP_POS_HI u.val, Reg.TRJ_CMP_ARMED, Reg.TRJ_CMP_BEHIND] s t ∧
      t = { s with bus := t.bus, trj := { s.trj with cmpPrev := t.trj.cmpPrev } })) ∧
  (∀ (s : State) (core : Sender) (v : Word), canAccess s core = true → Unguarded s Reg.TRJ_CMP_DISARM →
    Completes (.compareDisarm core v) s (fun t => t.reg Reg.TRJ_CMP_ARMED = s.reg Reg.TRJ_CMP_ARMED &&& ~~~ v ∧
      t.reg Reg.TRJ_CMP_BEHIND = s.reg Reg.TRJ_CMP_BEHIND &&& ~~~ v ∧ OnlyRegs [Reg.TRJ_CMP_ARMED, Reg.TRJ_CMP_BEHIND] s t))

/-! ### 10: feedback -/

/-- FBK_CMD OP 1 arms the named pairs for their next index; OP 2 clears their signal fault, on a section's link channel only while no
named pair is PRESENT or COVERED; an OP 1 or 2 of a channel that is not enabled, or whose PAIR names no configured pair, sets CMD_REJ
alone. OP 3 starts a serial port's negotiation again. An analog sample advances the count by its phase difference, with no signal fault; the third
violation in a row raises one; a reference crossing registers the count in either case. -/
def Obligations.FeedbackCommandsAndAnalogSamples : Prop :=
  (∀ (s : State) (core : Sender) (v : Word) (n : Nat) (i : Instr), canAccess s core = true → Unguarded s Reg.FBK_CMD →
    n = v.toNat % 256 → (i = .fbkArmOnceIndex core v ∧ v.toNat / 2 ^ 28 = 1 ∨ i = .fbkClearSignalFault core v ∧ v.toNat / 2 ^ 28 = 2) →
    (cmdPairs s n (v.toNat / 256 % 4) = none → Completes i s (fun t => t.flag F.FBK_EVENT.CMD_REJ = true ∧
      OnlyRegs [Reg.FBK_EVENT] s t)) ∧
    (∀ ks, cmdPairs s n (v.toNat / 256 % 4) = some ks →
      (v.toNat / 2 ^ 28 = 1 → Completes i s (fun t =>
        (∀ k, k < 2 → pairOf (t.fb n) k = { pairOf (s.fb n) k with once := (pairOf (s.fb n) k).once || ks.contains k }) ∧
        (∀ m, m ≠ n → t.fb m = s.fb m) ∧ RegsBut [] s t ∧
        t = { s with bus := t.bus, fbk := { s.fbk with chans := t.fbk.chans } })) ∧
      (v.toNat / 2 ^ 28 = 2 →
        (n < 128 → isSection s = true → (∃ k, k ∈ ks ∧ ((pairOf (s.fb n) k).present = true ∨ (pairOf (s.fb n) k).cover ≠ none)) →
          Completes i s (fun t => t.flag F.FBK_EVENT.CMD_REJ = true ∧ OnlyRegs [Reg.FBK_EVENT] s t)) ∧
        ((128 ≤ n ∨ isSection s = false ∨
            ∀ k, k ∈ ks → (pairOf (s.fb n) k).present = false ∧ (pairOf (s.fb n) k).cover = none) →
          Completes i s (fun t => t.get (F.FBK_CH_STAT.SIGF n) = 0 ∧ (t.fb n).pv = none ∧ (t.fb n).eT = s.nowNs ∧
            (∀ k, k ∈ ks → (pairOf (t.fb n) k).sigf = false ∧ (pairOf (t.fb n) k).viol = 0 ∧
              (pairOf (t.fb n) k).cnt = (pairOf (s.fb n) k).cnt) ∧
            (∀ k, k < 2 → k ∉ ks → pairOf (t.fb n) k = pairOf (s.fb n) k) ∧ (∀ m, m ≠ n → t.fb m = s.fb m) ∧
            ((128 ≤ n ∨ isCar s = false) → t.doors = s.doors) ∧
            RegsBut [Reg.FBK_CH_STAT n] s t ∧
            t = { s with bus := t.bus, doors := t.doors, fbk := { s.fbk with chans := t.fbk.chans } }))))) ∧
  (∀ (s : State) (core : Sender) (v : Word) (p : Nat), canAccess s core = true → Unguarded s Reg.FBK_CMD → v.toNat / 2 ^ 28 = 3 →
    p < 8 → v.toNat % 256 = 136 + p → portClocks s p = true →
    Completes (.fbkRenegotiatePort core v) s (fun t => t.get (F.FBK_PORT_STAT.RATE p) = 0 ∧ (t.ser p).busy = false ∧
      (s.get (F.FBK_PORT_CFG.MODE p) = 2 → t.get (F.FBK_PORT_STAT.STATE p) = 3 ∧ (t.ser p).nego = none) ∧
      (s.get (F.FBK_PORT_CFG.MODE p) ≠ 2 → t.get (F.FBK_PORT_STAT.STATE p) = 1 ∧ (t.ser p).nego = some (.hold s.tb.tick) ∧
        (t.ser p).code = s.get (F.FBK_PORT_CFG.RATE_MAX p)) ∧ (∀ q, q ≠ p → t.ser q = s.ser q) ∧
      RegsBut [Reg.FBK_PORT_STAT p, Reg.FBK_EVENT] s t)) ∧
  (∀ (s : State) (a : Fin 8) (x y : Int) (ref : Bool) (n : Nat) (f : FbCh) (d : Int), n = 128 + a.val → f = s.fb n →
    s.servoOn = true → fbEn s n = true → d = (if f.p0.sigf then 0 else phaseDelta f.p0.cnt x y) →
    Completes (.analogSample a x y ref) s (fun t => (t.fb n).p0.cnt = f.p0.cnt + d ∧ (t.fb n).moved = f.moved + d ∧
      (f.p0.sigf = true → (t.fb n).p0 = f.p0) ∧
      (f.p0.sigf = false → ampViolation s n (x * x + y * y) d = false → (t.fb n).p0.viol = 0 ∧ (t.fb n).p0.sigf = false) ∧
      (f.p0.sigf = false → ampViolation s n (x * x + y * y) d = true → (t.fb n).p0.viol = f.p0.viol + 1 ∧
        ((t.fb n).p0.sigf = true ↔ 2 ≤ f.p0.viol) ∧ (2 ≤ f.p0.viol → t.flag (F.FBK_CH_STAT.SIGF n) = true ∧
          t.flag F.FBK_EVENT.SIGF = true ∧ t.bit (F.FBK_SIGF_MAP.MAP (n / 32)) (n % 32) = true)) ∧
      (ref = true → t.reg (Reg.FBK_CH_IDX_LO n) = wdi (f.p0.cnt + d) ∧
        t.get (F.FBK_CH_IDX_HI.TAG n) = (s.get (F.FBK_CH_IDX_HI.TAG n) + 1) % 4 ∧ t.flag F.FBK_EVENT.IDX = true) ∧
      (ref = false → t.pair (Reg.FBK_CH_IDX_LO n) = s.pair (Reg.FBK_CH_IDX_LO n)) ∧ (∀ m, m ≠ n → t.fb m = s.fb m) ∧
      t = { s with bus := t.bus, fbk := { s.fbk with chans := t.fbk.chans } }))

/-- Negotiation of a KSP port: IDENT after 1 ms of high clock; RATE with the lower of the cap and the sensor's code; three valid IDENTs at
the new rate enter KSP; any failure, or a delay above 500 ns at a code above 0, repeats one code lower. A POS transaction that is valid
gives its sample; a lost one counts in LOSS, and the third in a row raises the signal fault. After 2 ms the port negotiates again. An SSI
transfer counts likewise, its sample stamped with the time it began. -/
def Obligations.SerialPortsNegotiateAndTransfer : Prop :=
  (∀ (s : State) (p : Fin 8) (t0 : Nat), portClocks s p.val = true →
    ((s.ser p.val).nego = some (.hold t0) → t0 + 125000 ≤ s.tb.tick → Completes (.kspClockHoldExpiry p) s (fun t =>
      t.ser p.val = { s.ser p.val with nego := some (.ident 0), cmd := kspCommand 2 0 } ∧ (∀ q, q ≠ p.val → t.ser q = s.ser q) ∧
      t = { s with fbk := { s.fbk with ports := t.fbk.ports } })) ∧
    ((s.ser p.val).nego = some (.pause t0) → t0 + 250000 ≤ s.tb.tick → s.get (F.FBK_PORT_CFG.MODE p.val) ≠ 2 →
      Completes (.kspFaultPauseExpiry p) s (fun t => (t.ser p.val).nego = some (.hold s.tb.tick) ∧
        (t.ser p.val).code = s.get (F.FBK_PORT_CFG.RATE_MAX p.val) ∧ t.get (F.FBK_PORT_STAT.STATE p.val) = 1 ∧
        (∀ n, (t.fb n) = s.fb n) ∧ RegsBut [Reg.FBK_PORT_STAT p.val, Reg.FBK_EVENT] s t))) ∧
  (∀ (s : State) (p : Fin 8) (r : KspResp) (q : SerPort), q = s.ser p.val → s.flag F.FBK_ROPED.EN = false →
    (∀ k, q.nego = some (.ident k) → kspValid r = true → r.delay ≤ 500 → Completes (.kspTransactionDone p r) s (fun t =>
      (t.ser p.val).nego = some .rate ∧ (t.ser p.val).code = min q.code (identRate r) ∧ (t.ser p.val).lsb = r.data % 2 ^ 16 ∧
      (t.ser p.val).cmd = kspCommand 3 (min q.code (identRate r)) ∧ (t.ser p.val).idle = s.tb.tick + 250 ∧
      t.pair (Reg.FBK_PORT_ID_LO p.val) = r.data % 2 ^ 40 ∧ t.get (F.FBK_PORT_STAT.DELAY p.val) = r.delay / 4 ∧
      t.flag (F.FBK_CH_STAT.WARN (136 + p.val)) = r.warn ∧
      RegsBut [Reg.FBK_PORT_ID_LO p.val, Reg.FBK_PORT_ID_HI p.val, Reg.FBK_PORT_STAT p.val, Reg.FBK_CH_STAT (136 + p.val)] s t)) ∧
    (∀ k, q.nego = some (.ident k) → kspValid r = true → 500 < r.delay → 0 < min q.code (identRate r) →
      Completes (.kspTransactionDone p r) s (fun t => (t.ser p.val).nego = some (.hold s.tb.tick) ∧
        (t.ser p.val).code = min q.code (identRate r) - 1)) ∧
    (q.nego = some .rate → kspValid r = true → Completes (.kspTransactionDone p r) s (fun t =>
      t.ser p.val = { q with nego := some (.verify 0), cmd := kspCommand 2 0, idle := s.tb.tick + 250 } ∧
      t.get (F.FBK_PORT_STAT.RATE p.val) = r.data % 8 ∧
      RegsBut [Reg.FBK_PORT_STAT p.val, Reg.FBK_CH_STAT (136 + p.val)] s t)) ∧
    ((q.nego = some .rate ∨ ∃ g, q.nego = some (.verify g)) → kspValid r = false → Completes (.kspTransactionDone p r) s (fun t =>
      t.ser p.val = { q with nego := some (.hold s.tb.tick), code := q.code - 1, idle := s.tb.tick + 250 } ∧
      t.get (F.FBK_PORT_STAT.RATE p.val) = 0 ∧
      t.get (F.FBK_PORT_STAT.LOSS p.val) =
        min (2 ^ bitsLen (F.FBK_PORT_STAT.LOSS p.val).bits - 1) (s.get (F.FBK_PORT_STAT.LOSS p.val) + 1) ∧
      RegsBut [Reg.FBK_PORT_STAT p.val, Reg.FBK_CH_STAT (136 + p.val)] s t)) ∧
    (∀ g, q.nego = some (.verify g) → kspValid r = true →
      (g < 2 → (r.delay ≤ 500 ∨ q.code = 0) → Completes (.kspTransactionDone p r) s (fun t =>
        (t.ser p.val).nego = some (.verify (g + 1)))) ∧
      (2 ≤ g → (r.delay ≤ 500 ∨ q.code = 0) → Completes (.kspTransactionDone p r) s (fun t => (t.ser p.val).nego = none ∧
        t.get (F.FBK_PORT_STAT.STATE p.val) = 2)) ∧
      (500 < r.delay → 0 < q.code → Completes (.kspTransactionDone p r) s (fun t => (t.ser p.val).nego = some (.hold s.tb.tick) ∧
        (t.ser p.val).code = q.code - 1)))) ∧
  (∀ (s : State) (p : Fin 8) (i : Instr) (ok : Bool) (word at' n : Nat) (f : FbCh), n = 136 + p.val → f = s.fb n → f.p0.sigf = false →
    (s.ser p.val).busy = true → (isCar s = false ∨ p.val ≠ 0) →
    ((∃ r : KspResp, i = .kspTransactionDone p r ∧ (s.ser p.val).nego = none ∧ s.get (F.FBK_PORT_STAT.STATE p.val) = 2 ∧
        ok = kspValid r ∧ word = r.data ∧ at' = r.t) ∨
      (∃ r : SsiResp, i = .ssiTransferDone p r ∧ s.get (F.FBK_PORT_STAT.STATE p.val) = 3 ∧ ok = ssiValid s p.val r ∧
        at' = (s.ser p.val).began ∧ word = ssiWord s p.val r)) →
    (ok = true → Completes i s (fun t => (t.ser p.val).busy = false ∧ (t.fb n).lost = false ∧ (t.fb n).sampleT = at' ∧
      (t.fb n).p0.viol = 0 ∧ (t.fb n).p0.cnt % 2 ^ 32 = (word : Int) % 2 ^ 32 ∧
      t.get (F.FBK_PORT_STAT.LOSS p.val) = s.get (F.FBK_PORT_STAT.LOSS p.val) ∧ (∀ m, m ≠ n → t.fb m = s.fb m))) ∧
    (ok = false → Completes i s (fun t => (t.fb n).lost = true ∧ (t.fb n).p0.cnt = f.p0.cnt ∧
      t.get (F.FBK_PORT_STAT.LOSS p.val) =
        min (2 ^ bitsLen (F.FBK_PORT_STAT.LOSS p.val).bits - 1) (s.get (F.FBK_PORT_STAT.LOSS p.val) + 1) ∧
      (f.p0.viol < 2 → (t.fb n).p0.viol = f.p0.viol + 1 ∧ (t.fb n).p0.sigf = false) ∧
      (2 ≤ f.p0.viol → (t.fb n).p0.sigf = true ∧ (t.ser p.val).nego = some (.pause s.tb.tick) ∧
        t.flag F.FBK_EVENT.SIGF = true ∧ t.flag (F.FBK_CH_STAT.SIGF n) = true ∧ t.get (F.FBK_PORT_STAT.STATE p.val) = 1) ∧
      (∀ m, m ≠ n → t.fb m = s.fb m))))

/-! ### 11: doors -/

/-- A TRJ_DOOR_CMD write waits for the next stage 4, replaces one that waited (CMD_OVR), and is refused with code 1 where its unit is not
enabled. Stage 4 refuses with the lowest code of Table 11.3; else OPEN aborts a closing move, uncounted, and cancels PENDING of an opening
one, and CLOSE in OPENING sets PENDING. -/
def Obligations.DoorCommandsWaitForStageFour : Prop :=
  (∀ (s : State) (core : Sender) (v : Word) (i : Instr) (op d : Nat), canAccess s core = true → Unguarded s Reg.TRJ_DOOR_CMD →
    isCar s = true → v.toNat / 16 % 16 = op → v.toNat % 2 = d →
    (op = 1 ∧ i = .doorOpen core v ∨ op = 2 ∧ i = .doorClose core v ∨ op = 3 ∧ i = .doorNudge core v ∨ op = 4 ∧ i = .doorStop core v) →
    (doorEn s d = true → s.servoOn = true → Completes i s (fun t => t.door d = { s.door d with cmd := some op } ∧
      (t.flag F.TRJ_DOOR_EVENT.CMD_OVR = true ↔ (s.door d).cmd ≠ none ∨ s.flag F.TRJ_DOOR_EVENT.CMD_OVR = true) ∧
      (∀ e j, e < 2 → j < 8 → DoorEvent t e j = DoorEvent s e j) ∧ OnlyDoor d s t)) ∧
    (doorEn s d = false → Completes i s (fun t => t.door d = { s.door d with rej := 1 } ∧
      DoorEvent t d 4 = true ∧ OnlyDoor d s t))) ∧
  (∀ (s : State) (d op : Nat), d < 2 → 1 ≤ op → op ≤ 3 →
    (doorCode s d op ≠ 0 → (doorCommand d op s).door d = { s.door d with rej := doorCode s d op } ∧
      DoorEvent (doorCommand d op s) d 4 = true ∧ OnlyDoor d s (doorCommand d op s)) ∧
    (doorCode s d op = 0 →
      (op = 1 → (s.door d).st = .closing ∨ (s.door d).st = .nudging → DoorRuns s d → ((doorCommand d 1 s).door d).st = .reopening ∧
        ((doorCommand d 1 s).door d).obsCnt = (s.door d).obsCnt ∧ ((doorCommand d 1 s).door d).lastObs = 0 ∧
        ((doorCommand d 1 s).door d).toOpen = s.flag (F.TRJ_DOOR_CFG.REOPEN d)) ∧
      (op = 1 → (s.door d).st = .opening ∨ (s.door d).st = .opened ∨ (s.door d).st = .reopening →
        ((doorCommand d 1 s).door d).st = (s.door d).st ∧ ((doorCommand d 1 s).door d).pending = false ∧
        (doorCommand d 1 s).trj = s.trj) ∧
      (2 ≤ op → (s.door d).st = .opening → ((doorCommand d op s).door d).pending = true ∧
        ((doorCommand d op s).door d).nudge = ((s.door d).nudge || op == 3) ∧ ((doorCommand d op s).door d).st = .opening ∧
        (doorCommand d op s).trj = s.trj)))

/-- What stage 4 found is carried out in it: an obstruction aborts the move, sets OBST, writes LAST_OBS, raises OBS_CNT up to 65,535 and
enters REOPENING; a stall aborts and sets STALL, an energy excess KE_EXC. The end of the dwell, and the nudge timer's, leave the pending
close to the next stage 4: there it is held back by an interrupted light curtain unless NUDGE_LATCH is set, and else its move is queued. No
locked report within T_LOCK sets LOCK_FAIL. -/
def Obligations.DoorSupervisionAndTimers : Prop :=
  (∀ (s : State) (d : Fin 2), s.servoOn = true → doorEn s d.val = true → DoorRuns s d.val →
    (∀ o, (s.door d.val).due = .obstruction o → Completes (.obstruction d) s (fun t => (t.door d.val).st = .reopening ∧
      (t.door d.val).lastObs = o ∧ (t.door d.val).obsCnt = min 65535 ((s.door d.val).obsCnt + 1) ∧
      (t.door d.val).toOpen = s.flag (F.TRJ_DOOR_CFG.REOPEN d.val) ∧ (t.door d.val).due = .none ∧ DoorEvent t d.val 0 = true ∧
      (t.axis (doorAxis s d.val)).st = .aborting ∧ (t.axis (doorAxis s d.val)).cause = 2 ∧ (t.axis (doorAxis s d.val)).queue = [] ∧
      (∀ n, n ≠ doorAxis s d.val → t.axis n = s.axis n) ∧ RegsBut [Reg.TRJ_DOOR_EVENT] s t)) ∧
    (∀ i b, (s.door d.val).due = .stall ∧ i = .stall d ∧ b = 6 ∨ (s.door d.val).due = .keExc ∧ i = .keExc d ∧ b = 5 →
      Completes i s (fun t => DoorEvent t d.val b = true ∧ t.door d.val = { s.door d.val with due := .none } ∧
        (t.axis (doorAxis s d.val)).st = .aborting ∧ (t.axis (doorAxis s d.val)).cause = 2 ∧ (t.axis (doorAxis s d.val)).queue = [] ∧
        (∀ n, n ≠ doorAxis s d.val → t.axis n = s.axis n) ∧ RegsBut [Reg.TRJ_DOOR_EVENT] s t))) ∧
  (∀ (s : State) (d : Fin 2) (t0 : Nat), s.servoOn = true → doorEn s d.val = true →
    ((s.door d.val).dwellFrom = some t0 → t0 + 125000 * s.get (F.TRJ_DOOR_TIME.DWELL_RE d.val) ≤ s.tb.tick →
      Completes (.dwellExpiry d) s (fun t => t.door d.val = { s.door d.val with dwellFrom := none } ∧
        (∀ e, e ≠ d.val → t.door e = s.door e) ∧ t = { s with doors := t.doors })) ∧
    ((s.door d.val).nudgeFrom = some t0 → (s.door d.val).pending = true → s.get (F.TRJ_DOOR_CFG.NUDGE_T d.val) ≠ 0 →
      t0 + 125000000 * s.get (F.TRJ_DOOR_CFG.NUDGE_T d.val) ≤ s.tb.tick →
      Completes (.nudgeTimerExpiry d) s (fun t => t.door d.val = { s.door d.val with nudgeDue := true } ∧
        (∀ e, e ≠ d.val → t.door e = s.door e) ∧ t = { s with doors := t.doors }))) ∧
  (∀ (s : State) (d : Nat) (nudge : Bool), d < 2 → (s.door d).pending = true → (s.door d).dwellFrom = none → doorMode s.mode = true →
    (s.door d).st = .opened ∨ (s.door d).st = .stopped ∧ (s.door d).nudgeFrom ≠ none → doorFault s d = false → nudge = (s.door d).nudge →
    (curtainCut s d = true → nudge = false → ∀ t, t = pendingClose d s → (t.door d).st = (s.door d).st ∧ (t.door d).pending = true ∧
      (t.door d).nudgeFrom ≠ none ∧ t.trj = s.trj ∧ OnlyDoor d s t) ∧
    (curtainCut s d = false ∨ nudge = true → (s.axis (doorAxis s d)).spPos ≠ 0 →
      ∀ m u, doorMove d false nudge s = (m, u) → doorSpanOk u d false nudge m = true → ∀ t, t = pendingClose d s →
        (t.door d).st = (if nudge then .nudging else .closing) ∧ (t.door d).pending = false ∧ (t.door d).nudge = nudge ∧
        (t.door d).nudgeFrom = none ∧ t.bus = s.bus ∧
        (∃ g, (t.axis (doorAxis s d)).queue = (s.axis (doorAxis s d)).queue ++ [g] ∧ g.first = m.first ∧ g.count = m.count ∧
          g.dir = m.dir) ∧ ∀ n, n ≠ doorAxis s d → t.axis n = s.axis n)) ∧
  (∀ (s : State) (d : Fin 2) (t0 : Nat), s.servoOn = true → doorEn s d.val = true → (s.door d.val).lockFrom = some t0 →
    t0 + 125000 * s.get (F.TRJ_DOOR_TIME.T_LOCK d.val) ≤ s.tb.tick → doorShut s d.val = false →
    s.flag (F.TRJ_DOOR_CFG.REOPEN d.val) = false → Completes (.lockFail d) s (fun t =>
      t.door d.val = { s.door d.val with lockFrom := none } ∧ DoorEvent t d.val 7 = true ∧ OnlyDoor d.val s t))

/-! ### 12: stop scheduling and reservations -/

/-- BSS_STOP_CMD. The lowest code of Table 12.1 refuses it, with CMD_REJ. ADD ORs flags and sides into the landing's entry or makes it,
and leaves the others; at the landing where the car stands it is served at once. REMOVE clears flags of the landing it names and deletes its entry
if none is left. CLEAR keeps only the target of an admitted or running move, and then reports code 4. DEPART releases the car. -/
def Obligations.StopCommandsChangeTheQueue : Prop :=
  ∀ (s : State) (core : Sender) (v : Word) (i : Instr) (op c : Nat) (e : StopEntry), canAccess s core = true →
    Unguarded s Reg.BSS_STOP_CMD → op = getF F.BSS_STOP_CMD.OP.bits v → c = getF F.BSS_STOP_CMD.CAR.bits v → e = cmdStop v s →
    (op = 1 ∧ i = .bssAdd core v ∨ op = 2 ∧ i = .bssRemove core v ∨ op = 3 ∧ i = .bssClear core v ∨ op = 4 ∧ i = .depart core v) →
    (∀ code l, stopCodes s op c e = code :: l → Completes i s (fun t => t.get F.BSS_CMD_STAT.CODE = code ∧
      t.get F.BSS_CMD_STAT.CAR = c ∧ t.flag F.BSS_EVENT.CMD_REJ = true ∧ OnlyRegs [Reg.BSS_CMD_STAT, Reg.BSS_EVENT] s t)) ∧
    (stopCodes s op c e = [] →
      (op = 1 → ¬(e.member = myMember s ∧ levelAt s c = some e.landing ∧ bssBusy s c = false) → Completes i s (fun t =>
        (∃ x, x ∈ (bssCar t c).queue ∧ sameStop e x = true ∧ (∀ y, (bssCar s c).queue.find? (sameStop e) = some y →
          x.flags = Nat.lor y.flags e.flags ∧ x.sides = Nat.lor y.sides e.sides ∧ x.target = y.target) ∧
          ((bssCar s c).queue.find? (sameStop e) = none → x = e)) ∧
        (∀ y, sameStop e y = false → (y ∈ (bssCar t c).queue ↔ y ∈ (bssCar s c).queue)) ∧
        ((bssCar s c).queue.Pairwise (fun a b => a.target ≤ b.target) →
          (bssCar t c).queue.Pairwise (fun a b => a.target ≤ b.target)) ∧
        t.get F.BSS_CMD_STAT.CODE = 0 ∧ RegsBut [Reg.BSS_CMD_STAT] s t ∧
        t = { s with bus := t.bus, bss := { s.bss with cars := t.bss.cars } })) ∧
      (op = 1 → e.member = myMember s → levelAt s c = some e.landing → bssBusy s c = false → Completes i s (fun t =>
        t.flag F.BSS_EVENT.ARRIVE = true ∧ (bssCar t c).level = true ∧ (bssCar t c).depart = false ∧
        ((bssCar t c).dir = 0 → ∀ y, y ∈ (bssCar t c).queue → sameStop e y = false) ∧ t.get F.BSS_CMD_STAT.CODE = 0)) ∧
      (op = 2 → Completes i s (fun t => (∀ y, y ∈ (bssCar t c).queue ↔ ∃ x, x ∈ (bssCar s c).queue ∧
          (sameStop e x = false ∧ y = x ∨
            sameStop e x = true ∧ y = { x with flags := x.flags - Nat.land x.flags e.flags } ∧ y.flags ≠ 0)) ∧
        t.get F.BSS_CMD_STAT.CODE = 0 ∧ RegsBut [Reg.BSS_CMD_STAT] s t ∧
        t = { s with bus := t.bus, bss := { s.bss with cars := t.bss.cars } })) ∧
      (op = 3 → Completes i s (fun t => (bssCar t c).queue = (bssCar s c).queue.filter (isTarget s c) ∧
        t.get F.BSS_CMD_STAT.CODE = (if (bssCar t c).queue = [] then 0 else 4) ∧
        t = { s with bus := t.bus, bss := { s.bss with cars := t.bss.cars } })) ∧
      (op = 4 → Completes i s (fun t => bssCar t c = { bssCar s c with depart := true, level := false } ∧
        (∀ d, d ≠ c → bssCar t d = bssCar s d) ∧ t.get F.BSS_CMD_STAT.CODE = 0 ∧ RegsBut [Reg.BSS_CMD_STAT] s t)))

/-- BSS_EVALUATION refills and charges the bucket and ends with every car evaluated, or with a candidate waiting. Missing answers after
5 ms defer the candidate with reason 2, or drop it where no moves are formed any more, and its pending entry goes. THERMAL_UPDATE advances each segment by the formula of R400. -/
def Obligations.EvaluationsBucketsAndTemperatures : Prop :=
  (∀ s : State, bssOn s = true → s.bss.cand = none → Completes .bssEvaluation s (fun t =>
    t.bss.level = bucketStep s s.bss.level (if s.bss.pmN = 0 then 0 else s.bss.pmSum / s.bss.pmN) ∧ t.bss.pmSum = 0 ∧ t.bss.pmN = 0 ∧
    (t.bss.cand = none ↔ t.bss.todo = none) ∧ (bssForms s = false → t.bss.cand = none ∧ t.bss.cars = s.bss.cars) ∧
    t.bss.theta = s.bss.theta ∧ t.mode = s.mode)) ∧
  (∀ (s : State) (x : Cand), s.bss.cand = some x → x.granted = [] → x.sent + 625000 ≤ s.tb.tick → bssActs s = false →
    Completes .resAnswerTimeout s (fun t => t.bss.cand = none ∧ t.bss.todo = none ∧ bssCar t x.car = { bssCar s x.car with eval := 0 } ∧
      (∀ p, p ∈ t.bss.res ↔ p ∈ s.bss.res ∧ ¬(p.2.st = 1 ∧ p.2.id = x.id ∧ p.2.loc = true)) ∧ t = { s with bss := t.bss })) ∧
  (∀ (s : State) (x : Cand) (T : Nat), s.bss.cand = some x → s.bss.todo = some (T, []) → x.reasons = [] → x.granted = [] →
    x.sent + 625000 ≤ s.tb.tick → bssActs s = true → Completes .resAnswerTimeout s (fun t => t.bss.cand = none ∧ t.bss.todo = none ∧
      (bssCar t x.car).eval = 1 ∧ (bssCar t x.car).reason = 2 ∧
      (bssCar t x.car).deferCnt = min 65535 ((bssCar s x.car).deferCnt + 1) ∧ (bssCar t x.car).queue = (bssCar s x.car).queue ∧
      t.flag F.BSS_EVENT.DEFER = true ∧ (∀ p, p ∈ t.bss.res ↔ p ∈ s.bss.res ∧ ¬(p.2.st = 1 ∧ p.2.id = x.id ∧ p.2.loc = true)) ∧
      RegsBut [Reg.BSS_EVENT] s t ∧ t = { s with bus := t.bus, bss := t.bss })) ∧
  (∀ s : State, bssOn s = true → ((hotSegs s).map (fun x => x.seg)).Nodup → Completes .thermalUpdate s (fun t =>
    (∀ x i2 pcu a, x ∈ hotSegs s →
      i2 = (((s.chan x.chan).heat.iA * (s.chan x.chan).heat.iA + (s.chan x.chan).heat.iB * (s.chan x.chan).heat.iB +
        (s.chan x.chan).heat.iC * (s.chan x.chan).heat.iC : Int) : Rat) →
      pcu = (s.get (F.CMM_CH_RES.RPH x.chan) : Rat) * (1 + (s.get (F.CMM_CH_RES.ALPHA x.chan) : Rat) * (thetaOf s x.seg - 20) / 1000000) /
        1000 * i2 / 1000000 →
      a = thetaOf s x.seg + ((s.getS F.BSS_TEMP.T_AMB : Rat) / 10 + (s.get F.BSS_THERM.R_TH : Rat) / 1000 * pcu - thetaOf s x.seg) *
        (1 / 1000) / (s.get F.BSS_THERM.TAU : Rat) →
      thetaOf t x.seg = a + (((s.chan x.chan).heat.temp : Rat) / 10 - a) * (s.get F.BSS_CORR.CORR : Rat) / 65536) ∧
    (∀ k, k ∉ (hotSegs s).map (fun x => x.seg) → thetaOf t k = thetaOf s k) ∧
    t = { s with bss := { s.bss with theta := t.bss.theta } }))

/-- RES_REQ with a mass of Table 1.1 is answered with the first failing check, or GRANT, which makes the entry with its draw and its rows
and takes a car record. RES_ANS collects answers: the last GRANT admits the candidate, and a GRANT nobody waits for is released. RES_REL
deletes the entry it granted; RES_TRIM changes the ends of the car's newest grant from the evaluation 10 ms on, and MOVE with the shrink
to rest (log entry 95); STOPQ installs direction and queue (masses outside Table 1.1: log entry 92). -/
def Obligations.ReservationsAreGrantedAndReleased : Prop :=
  (∀ (s : State) (h : Hdr) (p : ResReqPl) (good : Bool), Delivers s h → bssOn s = true → s.bss.cand = none → s.bss.todo = none →
    1 ≤ p.mass → p.mass ≤ 65535 →
    good = (if p.member = myMember s then (landing s p.landing).en && decide ((landing s p.landing).target = p.target) &&
        decide (Nat.land p.sides (landing s p.landing).sides = p.sides)
      else !(decide (extLo s.conf.geom ≤ p.target) && decide (p.target < extHi s.conf.geom))) →
    (∀ o r, (ownClosed s = true ∧ o = 3 ∧ r = 12 ∨
        ownClosed s = false ∧ s.mode ≠ .service ∧ s.mode ≠ .inspection ∧ s.mode ≠ .rescue ∧ o = 2 ∧ r = 3 ∨
        ownClosed s = false ∧ (s.mode = .service ∨ s.mode = .inspection ∨ s.mode = .rescue) ∧
          (good = false ∧ o = 3 ∧ r = 13 ∨
           good = true ∧ (∃ e, e ∈ resList s ∧ e.car ≠ p.car ∧ e.lo ≤ p.hi ∧ p.lo ≤ e.hi) ∧ o = 2 ∧ r = 1 ∨
           good = true ∧ (∀ e, e ∈ resList s → e.car = p.car ∨ e.hi < p.lo ∨ p.hi < e.lo) ∧ carById s p.car = none ∧ freeCar s = none ∧
             o = 2 ∧ r = 4)) →
      Completes (.resReq h p) s (fun t => ∃ u : State, t = u.send h.src (.resAns ⟨p.id, o, r⟩) ∧ u.bss = s.bss ∧ u.cars = s.cars)) ∧
    (∀ d, ownClosed s = false → (s.mode = .service ∨ s.mode = .inspection ∨ s.mode = .rescue) → good = true →
      (∀ e, e ∈ resList s → e.car = p.car ∨ e.hi < p.lo ∨ p.hi < e.lo) → carById s p.car = none → freeCar s ≠ none →
      (∃ r, r < 32 ∧ smFind s.bss.res r = none) →
      projReasons s ⟨p.mass, p.arrOfs, p.arrLen, p.start, p.dir⟩ p.car p.t0 p.rows = ([], d) →
      Completes (.resReq h p) s (fun t => (∃ u : State, t = u.send h.src (.resAns ⟨p.id, 1, 0⟩)) ∧
        (∃ r bank, smFind t.bss.res r = some { ResEntry.plain p.car 2 false true p.lo p.hi p.id h.src p.t0 d with
          plan := some ⟨p.start, p.dir, p.rows, bank⟩ }) ∧
        (∀ r e, smFind s.bss.res r = some e → (e.car ≠ p.car ∨ e.loc = true ∨ e.mv = false ∨ e.firm = true) →
          smFind t.bss.res r = some e) ∧
        (∃ c, c < 8 ∧ (s.car c).held = false ∧ (t.car c).held = true ∧ (t.car c).id = p.car ∧ (t.car c).owner = false ∧
          (t.car c).mass = p.mass ∧ ∀ n, n ≠ c → t.car n = s.car n) ∧ t.flag F.BSS_EVENT.GRANT_OUT = true))) ∧
  (∀ (s : State) (h : Hdr) (p : ResAnsPl), Delivers s h →
    (∀ x T, s.bss.cand = some x → s.bss.todo = some (T, []) → x.id = p.id → x.asked = [h.src] → x.reasons = [] → p.outcome = 1 →
      bssActs s = true →
      Completes (.resAns h p) s (fun t => t.bss.cand = none ∧ t.bss.todo = none ∧ (bssCar t x.car).eval = 2 ∧
        (bssCar t x.car).goal = some x.stop ∧ (bssCar t x.car).start = some (T + 10000000, x.arg, x.resume) ∧
        t.flag F.BSS_EVENT.ADMIT = true ∧ (∃ r e, smFind t.bss.res r = some e ∧ e.car = (s.car x.car).id ∧ e.st = 2 ∧ e.loc = true ∧
          e.mv = true ∧ e.lo = x.lo ∧ e.hi = x.hi ∧ h.src ∈ e.told) ∧ HeardBut s t)) ∧
    (∀ x, s.bss.cand = some x → x.id = p.id → h.src ∈ x.asked → x.asked.erase h.src ≠ [] → p.outcome ≠ 1 → bssActs s = true →
      Completes (.resAns h p) s (fun t => t.bss = { s.bss with cand := some { x with
        asked := x.asked.erase h.src, reasons := x.reasons ++ [p.reason] } } ∧ HeardBut s t ∧ t = { s with bss := t.bss, fab := t.fab })) ∧
    ((s.bss.cand = none ∨ bssActs s = false) → p.outcome = 1 → Completes (.resAns h p) s (fun t =>
      ∃ u : State, t = u.send h.src (.resRel ⟨p.id⟩) ∧ HeardBut s u ∧ u = { s with fab := u.fab }))) ∧
  (∀ (s : State) (h : Hdr), Delivers s h → bssOn s = true →
    (∀ p : ResRelPl, Completes (.resRel h p) s (fun t =>
      (∀ x, x ∈ t.bss.res ↔ x ∈ s.bss.res ∧ ¬(x.2.id = p.id ∧ x.2.owner = h.src ∧ x.2.loc = false)) ∧ HeardBut s t ∧
      t = { s with bss := { s.bss with res := t.bss.res }, fab := t.fab })) ∧
    (∀ (p : ResTrimPl) (r : Nat) (e : ResEntry), trimSlot s p.car = some r → smFind s.bss.res r = some e →
      Completes (.resTrim h p) s (fun t =>
        smFind t.bss.res r = some { e with
          trims := e.trims ++ [(p.t + 10000000, p.lo, p.hi, e.mv && decide (envUp s - envDn s + 2 * sepM s < p.hi - p.lo))]
          owner := h.src
          orphan := false
          firm := true } ∧
        (∀ x, x.1 ≠ r → (x ∈ t.bss.res ↔ x ∈ s.bss.res ∧ (x.2.car ≠ p.car ∨ x.2.loc = true))) ∧
        HeardBut s t ∧ t = { s with bss := { s.bss with res := t.bss.res }, fab := t.fab })) ∧
    (∀ p : ResTrimPl, trimSlot s p.car = none → Completes (.resTrim h p) s (fun t =>
      (carById s p.car = none → t.bss = s.bss) ∧
      (carById s p.car ≠ none → ∃ r, smFind t.bss.res r = some (ResEntry.plain p.car 2 false false p.lo p.hi 0 h.src 0 [])) ∧
      HeardBut s t ∧ t = { s with bss := { s.bss with res := t.bss.res }, fab := t.fab })) ∧
    (∀ (p : StopqPl) (c : Nat), carById s p.car = some c → p.queue.length ≤ 64 → p.d < 3 → Completes (.stopq h p) s (fun t =>
      (∃ g, bssCar t c = { bssCar s c with dir := p.d, queue := p.queue, redo := none, goal := g } ∧
        (∀ m, (s.axis c).mv = some m → g = p.queue.find? (fun e => e.target == m.target)) ∧ ((s.axis c).mv = none → g = none)) ∧
      (∀ d, d ≠ c → bssCar t d = bssCar s d) ∧ HeardBut s t ∧
      t = { s with bss := { s.bss with cars := t.bss.cars }, fab := t.fab }))) ∧
  (∀ (s : State) (id t0 : Nat) (l : Learned), learnedOf s id = some l → l.service = some t0 → t0 + 1250000000 ≤ s.tb.tick →
    Completes (.heldReservationRelease id) s (fun t =>
      (∀ x, x ∈ t.bss.res ↔ x ∈ s.bss.res ∧ ¬(x.2.owner = id ∧ x.2.orphan = true)) ∧
      t = { s with bss := { s.bss with res := t.bss.res } }))

/-! ### 13: the Segment Link -/

/-- RETURN_FRAME_RECEIVED of a good frame, slot by slot: an accepted slot's currents, voltage and temperature enter the Tide inputs and
HELD clears; a failing one is held and counted, and a second lost period in a row declares a node fault. RETURN_DEADLINE loses every
slot of the port, whose STATE becomes 3. RETRY_ANALYSIS_DONE gives its buffer back; PORT_IDLE_END makes the port ready. -/
def Obligations.ReturnsAreCheckedSlotBySlot : Prop :=
  (∀ (s : State) (p : Fin 8) (f : RetFrame), awaiting s p.val = true →
    (f.sof = true → f.eof = true → hdrOk s.tb.k (portChans s p.val).length f.hdr = true → f.slots.length = (portChans s p.val).length →
      Completes (.returnFrameReceived p f) s (fun t => t.get (F.SLK_PORT_STAT.STATE p.val) = 2 ∧ (t.slkPort p.val).done = true ∧
        (∀ n b, (n, b) ∈ (portChans s p.val).zip f.slots →
          (slotOk s n b = true → t.flag (F.SLK_CH_STAT.HELD n) = false ∧ (t.slkCh n).rx = b ∧
            (t.chan n).iA = 5 * slotAtS b 4 2 ∧ (t.chan n).iB = 5 * slotAtS b 6 2 ∧ (t.chan n).iC = 5 * slotAtS b 8 2 ∧
            (t.chan n).vbus = 20 * slotAt b 18 2 ∧ (t.chan n).temp = slotAtS b 20 2 ∧
            (slotAt b 1 1 = (s.slkCh n).seq → t.get (F.SLK_CH_STAT.CONSEC n) = 0)) ∧
          (slotOk s n b = false → t.flag (F.SLK_CH_STAT.HELD n) = true ∧ t.chan n = s.chan n ∧
            t.get (F.SLK_CH_CNT.RX_LOST n) = min 65535 (s.get (F.SLK_CH_CNT.RX_LOST n) + 1) ∧
            (0 < s.get (F.SLK_CH_STAT.CONSEC n) → t.flag (F.SLK_CH_STAT.FAULT n) = true))) ∧
        (∀ n, n ∉ portChans s p.val → t.chan n = s.chan n ∧ t.slkCh n = s.slkCh n))) ∧
    Completes (.returnDeadline p) s (fun t => (t.slkPort p.val).done = true ∧ t.chans = s.chans ∧
      t.get (F.SLK_PORT_STAT.STATE p.val) = 3 ∧
      t.get (F.SLK_PORT_STAT.FRAME_LOSS p.val) =
        min 65535 (s.get (F.SLK_PORT_STAT.FRAME_LOSS p.val) + 1) ∧
      (∀ n, n ∈ portChans s p.val → t.flag (F.SLK_CH_STAT.HELD n) = true ∧
        t.get (F.SLK_CH_CNT.RX_LOST n) = min 65535 (s.get (F.SLK_CH_CNT.RX_LOST n) + 1) ∧
        (0 < s.get (F.SLK_CH_STAT.CONSEC n) → t.flag (F.SLK_CH_STAT.FAULT n) = true)) ∧
      t = { s with bus := t.bus, slk := { s.slk with ports := t.slk.ports } })) ∧
  (∀ (s : State) (n : Fin 128), Completes (.retryAnalysisDone n) s (fun t => t.slk.retry = s.slk.retry.erase n.val ∧
    t = { s with slk := { s.slk with retry := t.slk.retry } })) ∧
  (∀ (s : State) (p : Fin 8) (t0 : Nat), (s.slkPort p.val).idleFrom = some t0 → t0 + 12500 ≤ s.tb.tick →
    Completes (.portIdleEnd p) s (fun t => t.slkPort p.val = { s.slkPort p.val with idleFrom := none, ready := true } ∧
      (∀ q, q ≠ p.val → t.slkPort q = s.slkPort q) ∧ t = { s with slk := { s.slk with ports := t.slk.ports } }))

/-- A capture freezes the channel's receive or transmit buffer while the reserve has one free and none is frozen; otherwise CAP_REJ
(a frozen buffer and a disabled channel as refusals are the model's reading, log entry 41). CAPTURE_RELEASE gives it back. SLK_NODE_CLR
clears a node fault while no car's array overlaps the segment, else CAP_REJ. -/
def Obligations.CapturesAndNodeFaults : Prop :=
  ∀ (s : State) (core : Sender) (v : Word) (n : Nat), canAccess s core = true → n = v.toNat % 128 →
    (Unguarded s Reg.SLK_CAP → ∀ i tx, (i = .captureReceiveBuffer core v ∧ tx = false ∧ getF F.SLK_CAP.OP.bits v = 1 ∨
        i = .captureTransmitBuffer core v ∧ tx = true ∧ getF F.SLK_CAP.OP.bits v = 2) →
      (0 < reserveFree s → s.slk.cap = none → chanEn s n = true →
        Completes i s (fun t => t.slk.cap = some (n, tx, if tx then (s.slkCh n).tx else (s.slkCh n).rx) ∧
          reserveFree t = reserveFree s - 1 ∧ t = { s with slk := { s.slk with cap := t.slk.cap, poolMin := t.slk.poolMin } })) ∧
      ((reserveFree s = 0 ∨ s.slk.cap ≠ none ∨ chanEn s n = false) →
        Completes i s (fun t => t.flag F.SLK_EVENT.CAP_REJ = true ∧ OnlyRegs [Reg.SLK_EVENT] s t))) ∧
    (Unguarded s Reg.SLK_CAP → getF F.SLK_CAP.OP.bits v = 3 → Completes (.captureRelease core v) s (fun t => t.slk.cap = none ∧
      t = { s with slk := { s.slk with cap := none } })) ∧
    (Armed s Reg.SLK_NODE_CLR v →
      (chanUnderCar s n = false → Completes (.slkNodeClr core (~~~ v)) s (fun t => t.get (F.SLK_CH_STAT.FAULT n) = 0 ∧
        OnlyRegs [Reg.SLK_CH_STAT n, Reg.SLK_NODE_CLR] s t)) ∧
      (chanUnderCar s n = true → Completes (.slkNodeClr core (~~~ v)) s (fun t => t.flag F.SLK_EVENT.CAP_REJ = true ∧
        OnlyRegs [Reg.SLK_EVENT, Reg.SLK_NODE_CLR] s t)))

/-! ### 14: field inputs and outputs -/

/-- A grid instant: every die latches its inputs, and each group's frame goes out with the next count, firmware's requests and a
permission bit for each permitted safety output. A die accepts a frame that passes its checks and follows its last valid count, which
ends a silent action; another that passes becomes the last valid one (log entry 45). Without a frame for its timeout a die goes silent,
and an FG4 link de-energises its lines. STOpB follows 1 ms after STOpA if both taps read it low; if one reads it high, Lock-out is entered. -/
def Obligations.FieldFramesAndSilence : Prop :=
  (∀ s : State, s.awake = true → isCar s = false → s.nv.lc.chgOut = none → s.nv.lc.fenced = false → Completes .fieldRefresh s (fun t =>
    (∀ g, g < 4 → (t.die g).lat = (s.die g).inputs ∧ (t.die g).edges = [] ∧ (t.die g).latEdges = (s.die g).latEdges ++ (s.die g).edges ∧
      ∃ f, smFind t.fio.sent g = some f ∧ f.seq = (smGet 0 s.fio.seq g + 1) % 256 ∧
        (∀ b, b < 8 → f.req.testBit b = s.bit F.FIO_OUT_REQ.REQ (8 * g + b) ∧ f.perm.testBit b = permits s (8 * g + b)) ∧
        f.tmo = s.get (F.FIO_GRP_CFG.TIMEOUT g) ∧ f.now = s.nowNs ∧
        (∀ b, b < 4 → f.edge / 4 ^ b % 4 = s.get (F.FIO_FIN_CFG.EDGE (4 * g + b)))) ∧
    t.fio.clr = 0 ∧ t.fio.pulses = [] ∧ t.bus = s.bus)) ∧
  (∀ (s : State) (g : Fin 6) (f : FieldFrame), g.val < 4 → smFind s.fio.sent g.val = some f → f.permOk = true →
    (((s.die g.val).ref = none ∨ ∃ r, (s.die g.val).ref = some r ∧ f.seq = (r + 1) % 256) →
      Completes (.dieFrameReceived g true) s (fun t => (t.die g.val).ref = some f.seq ∧ (t.die g.val).heard = s.tb.tick ∧
        (t.die g.val).silent = false ∧ (t.die g.val).req = f.req ∧ (t.die g.val).perm = f.perm ∧ (t.die g.val).tmo = f.tmo ∧
        (t.die g.val).pat = f.pat ∧ (t.die g.val).edge = f.edge ∧ (t.die g.val).filt = f.filt ∧ (∀ h, h ≠ g.val → t.die h = s.die h) ∧ t = { s with fio := { s.fio with dies := t.fio.dies } })) ∧
    ((∃ r, (s.die g.val).ref = some r ∧ f.seq ≠ (r + 1) % 256) → Completes (.dieFrameReceived g true) s (fun t =>
      t.die g.val = { s.die g.val with ref := some f.seq } ∧ t = { s with fio := { s.fio with dies := t.fio.dies } })) ∧
    Completes (.dieFrameReceived g false) s (fun t => t = s)) ∧
  (∀ (s : State) (l : Fin 6) (f : FieldFrame), 4 ≤ l.val → smFind s.fio.sent l.val = some f → (s.stoLink l.val).ref = none →
    Completes (.dieFrameReceived l true) s (fun t =>
      t.stoLink l.val = ⟨some f.seq, s.tb.tick, if (s.die 4).uv then 0 else f.lines⟩ ∧
      t = { s with fio := { s.fio with links := t.fio.links } })) ∧
  (∀ (s : State) (g : Fin 4), (s.die g.val).heard + 125000 * (s.die g.val).tmo ≤ s.tb.tick → Completes (.dieSilenceTimeout g) s (fun t =>
    t.die g.val = { s.die g.val with silent := true } ∧ (∀ b, b < 8 → safeOut s (8 * g.val + b) = true → outOn t (8 * g.val + b) = false) ∧
    (∀ h, h ≠ g.val → t.die h = s.die h) ∧ t = { s with fio := { s.fio with dies := t.fio.dies } })) ∧
  (∀ (s : State) (l : Fin 2), (s.stoLink (4 + l.val)).heard +
      125000 * (if l.val = 0 then s.conf.sps.linkATo else s.conf.sps.linkBTo) ≤ s.tb.tick →
    Completes (.stoLinkTimeout l) s (fun t => t.stoLink (4 + l.val) = { s.stoLink (4 + l.val) with lines := 0 } ∧
      t = { s with fio := { s.fio with links := t.fio.links } })) ∧
  (∀ (s : State) (p : Fin 8) (t0 : Nat), smFind s.saf.aOn p.val = some t0 → s.servoOn = true → t0 + 125000 ≤ s.tb.tick →
    s.saf.bOn.testBit p.val = false → wantLine s 1 p.val = true →
    ((tapOf s 0 4).rb.testBit (2 * p.val + 1) = false → (tapOf s 1 4).rb.testBit (2 * p.val + 1) = false → lineBSeen s p.val = false → Completes (.stobEnergise p) s (fun t =>
      t.saf.bOn.testBit p.val = true ∧ (∀ q, q ≠ p.val → t.saf.bOn.testBit q = s.saf.bOn.testBit q) ∧
      t = { s with saf := { s.saf with bOn := t.saf.bOn } })) ∧
    ((tapOf s 0 4).rb.testBit (2 * p.val + 1) = true ∨ (tapOf s 1 4).rb.testBit (2 * p.val + 1) = true → s.mode ≠ .lockout → Completes (.stobEnergise p) s LockedOut))

/-- A reply that answers the frame sent shows the latched inputs in FIO_IN, makes LINK up and passes the inputs to each path for which it
is fresh; a missing one is counted, and the fourth in a row makes the group lost and its inputs 0. -/
def Obligations.FieldRepliesShowTheInputs : Prop :=
  (∀ (s : State) (g : Fin 5) (r : ReplyIn) (f : FieldFrame), s.awake = true → g.val < 4 → smFind s.fio.sent g.val = some f →
    r.fio = some f.seq → Completes (.fieldReply g r) s (fun t => t.get (F.FIO_GRP_STAT.LINK g.val) = 1 ∧ smGet 0 t.fio.bad g.val = 0 ∧
      (∀ b i, b < 24 → i = 24 * g.val + b → (t.bit (F.FIO_IN.IN (i / 32)) (i % 32) = (s.die g.val).lat.testBit b)) ∧
      (∀ i, i < 96 → i / 24 ≠ g.val → t.bit (F.FIO_IN.IN (i / 32)) (i % 32) = s.bit (F.FIO_IN.IN (i / 32)) (i % 32)) ∧
      (t.reg Reg.FIO_OUT_RB).toNat / 2 ^ (8 * g.val) % 256 = r.rb % 256 ∧ (t.die g.val).latEdges = [] ∧
      (∀ c, r.ecl = some c → tapIsFresh (tapOf s 1 g.val) c = true →
        (tapOf t 1 g.val).inputs = (s.die g.val).lat ∧ (tapOf t 1 g.val).last = some c ∧ (tapOf t 1 g.val).stale = 0) ∧
      (∀ c, r.core = some c → tapIsFresh (tapOf s 0 g.val) c = true → s.saf.coreDown = false →
        (tapOf t 0 g.val).inputs = (s.die g.val).lat ∧ (tapOf t 0 g.val).last = some c ∧ (tapOf t 0 g.val).stale = 0))) ∧
  (∀ (s : State) (g : Fin 5) (core ecl : Option Nat), s.awake = true → Completes (.fieldReplyMissing g core ecl) s (fun t =>
    smGet 0 t.fio.bad g.val = smGet 0 s.fio.bad g.val + 1 ∧
    t.get (F.FIO_GRP_STAT.LOST g.val) =
      min (2 ^ bitsLen (F.FIO_GRP_STAT.LOST g.val).bits - 1) (s.get (F.FIO_GRP_STAT.LOST g.val) + 1) ∧
    (3 ≤ smGet 0 s.fio.bad g.val → s.get (F.FIO_GRP_STAT.LINK g.val) ≠ 2 → t.get (F.FIO_GRP_STAT.LINK g.val) = 2 ∧
      t.flag F.FIO_EVENT.GROUP = true ∧ (∀ b i, g.val < 4 → b < 24 → i = 24 * g.val + b →
        t.bit (F.FIO_IN.IN (i / 32)) (i % 32) = false)) ∧
    (smGet 0 s.fio.bad g.val < 3 → t.get (F.FIO_GRP_STAT.LINK g.val) = s.get (F.FIO_GRP_STAT.LINK g.val))))

/-- A new level of an input is taken with its edge; fast inputs count the edges their EDGE selects and have no filter. A gate that has
run completes the frequency from the edges between two rising ones, in mHz, clamped at 250 kHz with OVR; 10.5 s without a rising edge
complete one result of 0. -/
def Obligations.InputsCountAndMeasure : Prop :=
  (∀ (s : State) (i : Fin 96) (level : Bool) (at' : Nat), isFast i.val = false → (s.die (i.val / 24)).inputs.testBit (i.val % 24) ≠ level →
    (smFind (s.die (i.val / 24)).accs i.val = none ∨
      ∃ u, smFind (s.die (i.val / 24)).accs i.val = some u ∧ u + 1000000 * (s.die (i.val / 24)).filt.getD (i.val % 24) 3 ≤ at') →
    Completes (.inputFilterAccept i level at') s (fun t => (t.die (i.val / 24)).inputs.testBit (i.val % 24) = level ∧
      (∀ b, b ≠ i.val % 24 → (t.die (i.val / 24)).inputs.testBit b = (s.die (i.val / 24)).inputs.testBit b) ∧
      (t.die (i.val / 24)).edges = (s.die (i.val / 24)).edges ++ [(i.val, level, at')] ∧ (∀ g, g ≠ i.val / 24 → t.die g = s.die g) ∧
      t = { s with fio := { s.fio with dies := t.fio.dies } })) ∧
  (∀ (s : State) (f : Fin 16) (rising : Bool) (at' : Nat), (s.die (f.val / 4)).inputs.testBit (f.val % 4) ≠ rising →
    Completes (.fastInputEdge f rising at') s (fun t => (t.die (f.val / 4)).inputs.testBit (f.val % 4) = rising ∧
      (t.die (f.val / 4)).edges = (s.die (f.val / 4)).edges ++ [(fastInput f.val, rising, at')] ∧
      (∀ e c, e = (s.die (f.val / 4)).edge / 4 ^ (f.val % 4) % 4 → c = smGet 0 (s.die (f.val / 4)).cnt f.val →
        (e = 2 ∨ e = 0 ∧ rising = true ∨ e = 1 ∧ rising = false → smGet 0 (t.die (f.val / 4)).cnt f.val = (c + 1) % 2 ^ 32) ∧
        (e = 3 ∨ e = 0 ∧ rising = false ∨ e = 1 ∧ rising = true → smGet 0 (t.die (f.val / 4)).cnt f.val = c)) ∧
      (∀ k, k ≠ f.val → smGet 0 (t.die (f.val / 4)).cnt k = smGet 0 (s.die (f.val / 4)).cnt k) ∧
      t = { s with fio := { s.fio with dies := t.fio.dies } })) ∧
  (∀ (s : State) (f : Fin 16) (q : FreqIn) (r dt mhz : Nat), s.awake = true → q = s.freqIn f.val → q.ref = some r →
    (q.done = none ∨ ∃ d, q.done = some d ∧ d + 125000 * s.get (F.FIO_FIN_CFG.GATE f.val) ≤ s.tb.tick) → 0 < q.n → r < q.last →
    dt = q.last - r → mhz = (q.n * 1000000000000 + dt / 2) / dt → Completes (.frequencyGate f) s (fun t =>
      t.get (F.FIO_FIN_FREQ.FREQ f.val) = min mhz 250000000 ∧ (t.flag (F.FIO_FIN_FREQ.OVR f.val) = true ↔ 250000000 < mhz) ∧
      t.get (F.FIO_FIN_FREQ.TAG f.val) = (s.get (F.FIO_FIN_FREQ.TAG f.val) + 1) % 4 ∧ t.flag F.FIO_EVENT.NEW = true ∧
      t.freqIn f.val = { q with ref := some q.last, n := 0, done := some s.tb.tick } ∧ (∀ k, k ≠ f.val → t.freqIn k = s.freqIn k) ∧
      RegsBut [Reg.FIO_FIN_FREQ f.val, Reg.FIO_EVENT] s t ∧
      t = { s with bus := t.bus, fio := { s.fio with freq := t.fio.freq } })) ∧
  (∀ (s : State) (f : Fin 16), s.awake = true → (s.freqIn f.val).zeroed = false → (s.freqIn f.val).seen + 1312500000 ≤ s.tb.tick →
    Completes (.frequencyZeroTimeout f) s (fun t => t.get (F.FIO_FIN_FREQ.FREQ f.val) = 0 ∧
      t.flag (F.FIO_FIN_FREQ.OVR f.val) = false ∧ t.get (F.FIO_FIN_FREQ.TAG f.val) = (s.get (F.FIO_FIN_FREQ.TAG f.val) + 1) % 4 ∧
      (t.freqIn f.val).zeroed = true ∧ (t.freqIn f.val).ref = none ∧ RegsBut [Reg.FIO_FIN_FREQ f.val, Reg.FIO_EVENT] s t))

/-- A compare pulse ends after its width. A thermal shutdown forces its output off and is counted; cooling returns it where RESTART is 1.
FIO_OUT_CLR is refused as a whole if it names a safety output or a persisting cause. An off-pulse switches a safety output off; a high
readback at its end is STUCK_ON and Lock-out. L+ sets WARN below 19.2 V and clears it above 19.5 V; UV takes the group's outputs off and
clears after 10 ms above 18.0 V. -/
def Obligations.OutputsPulsesAndSupply : Prop :=
  (∀ (s : State) (n : Fin 32) (e : Nat), smFind (s.die (n.val / 8)).pulses n.val = some e → e ≤ s.tb.tick →
    Completes (.comparePulseEnd n) s (fun t => smFind (t.die (n.val / 8)).pulses n.val = none ∧
      (∀ m, m ≠ n.val → smFind (t.die (n.val / 8)).pulses m = smFind (s.die (n.val / 8)).pulses m) ∧
      (∀ g, g ≠ n.val / 8 → t.die g = s.die g) ∧ t = { s with fio := { s.fio with dies := t.fio.dies } })) ∧
  (∀ (s : State) (n : Fin 32),
    Completes (.outputThermalShutdown n) s (fun t =>
      outSt t n.val = { outSt s n.val with hot := true, c1 := true, therm := min 65535 ((outSt s n.val).therm + 1) } ∧
      outDriven t n.val = false ∧ outCause t n.val = 1 ∧ (∀ m, m ≠ n.val → outSt t m = outSt s m) ∧
      t = { s with fio := { s.fio with dies := t.fio.dies } }) ∧
    Completes (.outputCooled n) s (fun t =>
      outSt t n.val = { outSt s n.val with hot := false, c1 := (outSt s n.val).c1 && !restarts s n.val } ∧
      (∀ m, m ≠ n.val → outSt t m = outSt s m) ∧ t = { s with fio := { s.fio with dies := t.fio.dies } })) ∧
  (∀ (s : State) (core : Sender) (v : Word), Guarded s core Reg.FIO_OUT_CLR v →
    ((∃ n, n < 32 ∧ v.getLsbD n = true ∧ (safeOut s n = true ∨ causePersists s n = true)) → Completes (.fioOutClr core (~~~ v)) s (fun t =>
      t.flag F.FIO_EVENT.CLR_REJ = true ∧ OnlyRegs [Reg.FIO_OUT_CLR, Reg.FIO_EVENT] s t)) ∧
    ((∀ n, n < 32 → v.getLsbD n = true → safeOut s n = false ∧ causePersists s n = false) → Completes (.fioOutClr core (~~~ v)) s (fun t =>
      t.fio = { s.fio with clr := Nat.lor s.fio.clr v.toNat } ∧ RegsBut [Reg.FIO_OUT_CLR] s t ∧
      t = { s with bus := t.bus, fio := t.fio }))) ∧
  (∀ (s : State) (n : Fin 32) (rb : Nat), s.awake = true → safeOut s n.val = true →
    (outDriven s n.val = true → (s.die (n.val / 8)).uv = false → s.flag F.SAF_STAT.DIAG_SUSP = false →
      Completes (.offPulseStart n) s (fun t => outOn t n.val = false ∧ t.die (n.val / 8) = { s.die (n.val / 8) with off := some n.val } ∧
        (∀ g, g ≠ n.val / 8 → t.die g = s.die g) ∧ t = { s with fio := { s.fio with dies := t.fio.dies } })) ∧
    ((s.die (n.val / 8)).off = some n.val →
      ((∀ b, b < 8 → rb.testBit b = ((s.die (n.val / 8)).rb.testBit b && !decide (b = n.val % 8))) → Completes (.offPulseEnd n rb) s (fun t =>
        t.die (n.val / 8) = { s.die (n.val / 8) with off := none, rb := rb } ∧ t.mode = s.mode ∧
        RegsBut [Reg.SAF_FUNC_STAT, Reg.SAF_EVENT] s t)) ∧
      ((∀ b, b < 8 → (s.die (n.val / 8)).rb.testBit b = true → rb.testBit b = true) → rb.testBit (n.val % 8) = true →
        (outSt s n.val).stuck = 0 → s.mode ≠ .lockout → Completes (.offPulseEnd n rb) s (fun t => (outSt t n.val).stuck = 4 ∧
          outDriven t n.val = false ∧ t.flag F.FIO_EVENT.STUCK = true ∧ LockedOut t)))) ∧
  (∀ (s : State) (g : Fin 5) (v : Nat), Completes (.lplusMeasure g v) s (fun t => (t.die g.val).lplus = min 4095 v ∧
    (v < 1920 → (t.die g.val).warn = true) ∧ (1950 < v → (t.die g.val).warn = false) ∧
    (1920 ≤ v → v ≤ 1950 → (t.die g.val).warn = (s.die g.val).warn) ∧ (1600 ≤ v → (t.die g.val).lowFrom = none) ∧
    (v < 1600 → (t.die g.val).lowFrom = some ((s.die g.val).lowFrom.getD s.tb.tick)) ∧ (v ≤ 1800 → (t.die g.val).okFrom = none) ∧
    (1800 < v → (t.die g.val).okFrom = some ((s.die g.val).okFrom.getD s.tb.tick)) ∧ (∀ h, h ≠ g.val → t.die h = s.die h) ∧
    t = { s with fio := { s.fio with dies := t.fio.dies } })) ∧
  (∀ (s : State) (g : Fin 5) (t0 : Nat),
    ((s.die g.val).lowFrom = some t0 → t0 + 37500 ≤ s.tb.tick → (s.die g.val).uv = false → Completes (.uv g) s (fun t =>
      (t.die g.val).uv = true ∧ (g.val < 4 → ∀ b, b < 8 → (outSt t (8 * g.val + b)).c2 = true ∧ outOn t (8 * g.val + b) = false) ∧
      (g.val = 4 → (t.stoLink 4).lines = 0 ∧ (t.stoLink 5).lines = 0) ∧ (∀ h, h ≠ g.val → t.die h = s.die h) ∧
      t = { s with fio := { s.fio with dies := t.fio.dies, links := t.fio.links } })) ∧
    ((s.die g.val).okFrom = some t0 → t0 + 1250000 ≤ s.tb.tick → (s.die g.val).uv = true → Completes (.uvClear g) s (fun t =>
      (t.die g.val).uv = false ∧ (g.val < 4 → ∀ b, b < 8 →
        (outSt t (8 * g.val + b)).c2 = ((outSt s (8 * g.val + b)).c2 && !restarts s (8 * g.val + b))) ∧
      (∀ h, h ≠ g.val → t.die h = s.die h) ∧ t = { s with fio := { s.fio with dies := t.fio.dies } })))

/-! ### 15, 16: the safety pair -/

/-- A fault detected in any mode but Lock-out takes the device to Lock-out at once, with every line command fallen; the first since the
last deliberate reset is shown in SAF_FAULT. Clean scrubs and a passed self-test change nothing else; a double-bit error in other MRAM is
only recorded. Each quarter tick counts a pair whose channels differ and clears the count of one whose channels agree; the count that
reaches the set time raises DISC_FAULT and Lock-out. A position of the tape enters as bits [39:0] times the LSB plus the offset. -/
def Obligations.FaultsAndDiscrepanciesEnterLockOut : Prop :=
  ((∀ (s : State) (i : Instr) (path cls det : Nat), s.awake = true → s.mode ≠ .lockout →
      (i = .safetyCoreLockstepError ∧ path = 2 ∧ cls = 3 ∧ det = 0 ∨
        i = .eclipseSelftest false ∧ s.saf.coreDown = false ∧ path = 1 ∧ cls = 4 ∧ det = 0 ∨
        i = .sramScrub true ∧ s.flag F.SAF_STAT.DIAG_SUSP = false ∧ path = 1 ∧ cls = 2 ∧ det = 0 ∨
        (∃ off : Fin 0x2000000, i = .mramScrub (some off) ∧ mramVital s off.val = true ∧ s.flag F.SAF_STAT.DIAG_SUSP = false ∧
          path = 1 ∧ cls = 2 ∧ det = 0) ∨
        (∃ (core : Sender) (a : Nat), i = .eccDoubleOnAccess core a ∧ canAccess s core = true ∧ sramBase ≤ a ∧ a < sramBase + sramSize ∧
          path = 1 ∧ cls = 2 ∧ det = 0) ∨
        (∃ (b : Fin 2) (t0 t1 o j : Nat), i = .brakeFeedbackTimeout b ∧ smFind s.saf.brkBad b.val = some t0 ∧
          smFind s.saf.brkBad (2 + b.val) = some t1 ∧ s.saf.coreDown = false ∧ brakeOf s b.val = some (o, j) ∧
          t0 + 125000 * s.conf.sps.tBrk ≤ s.tb.tick ∧ t1 + 125000 * s.conf.sps.tBrk ≤ s.tb.tick ∧ path = 3 ∧ cls = 41 ∧
          det = o % 65536)) →
      Completes i s (fun t => LockedOut t ∧ t.saf.aOn = [] ∧ t.saf.bOn = 0 ∧ t.flag F.SAF_EVENT.LOCKOUT = true ∧
        (s.saf.latched = false → t.get F.SAF_FAULT.PATH = path ∧ t.get F.SAF_FAULT.CLASS = cls ∧ t.get F.SAF_FAULT.DETAIL = det ∧
          t.saf.latched = true) ∧
        (s.saf.latched = true → t.reg Reg.SAF_FAULT = s.reg Reg.SAF_FAULT))) ∧
    (∀ s : State, s.awake = true →
      Completes (.eclipseSelftest true) s (fun t => t = { s with saf := { s.saf with eclFail := false } }) ∧
      Completes (.sramScrub false) s (fun t => t = s) ∧ Completes (.mramScrub none) s (fun t => t = s) ∧
      (∀ off : Fin 0x2000000, mramVital s off.val = false → s.flag F.SAF_STAT.DIAG_SUSP = false →
        Completes (.mramScrub (some off)) s (fun t => t.mode = s.mode ∧ t.nv.lc = s.nv.lc ∧ t = { s with bus := t.bus, rcd := t.rcd, nv := t.nv })))) ∧
  ((∀ (s : State) (j : Nat) (q : SafetyPair) (path n : Nat), s.awake = true → s.conf.sps.pairs.length ≤ 64 →
      s.conf.sps.pairs[j]? = some q → path < 2 → (path = 0 → s.saf.coreDown = false) → n = (pairSt s path j).cnt →
      Completes .discrepancyTick s (fun t =>
        (pathIn s path q.a = pathIn s path q.b → (pairSt t path j).cnt = 0 ∧ (pairSt t path j).need = (pairSt s path j).need) ∧
        (pathIn s path q.a ≠ pathIn s path q.b → (pairSt t path j).cnt = min 4000 (n + 1) ∧
          (n < 4000 → 1 ≤ q.td → n + 2 = 4 * q.td → (pairSt t path j).need = 3 ∧ t.flag F.SAF_EVENT.DISC_FAULT = true ∧
            t.mode = .lockout)))) ∧
    (∀ (s : State) (p : Fin 8) (r : KspResp), isCar s = true → p.val = 0 → s.servoOn = true → kspValid r = true →
      (s.ser p.val).nego = none → (s.ser p.val).busy = true → s.get (F.FBK_PORT_STAT.STATE p.val) = 2 →
      Completes (.kspTransactionDone p r) s (fun t => t.saf.tape.ok = true ∧ t.saf.tape.t = r.t ∧
        t.saf.tape.pos = (r.data % 2 ^ 40 : Nat) * (s.conf.sps.tapeLsb : Int) / 1000 + s.conf.sps.tapeOfs)))

/-- A deliberate reset that both paths accept clears the flag, SAF_FAULT and the latches, and Watch follows; each refusal shows its code
of Table 15.3 and leaves Lock-out in force. A hold outside 0.5 s to 5.0 s is refused with code 3, a command not from Benrex Studio or
with another CODE with 5. SAF_DIAG_CMD suspends diagnostics only from Benrex Studio in Commissioning with the key; it resumes them; it
confirms the proof test at the present time. PROOF_DUE sets once more than 631,152,000 s have passed. -/
def Obligations.DeliberateResetsAndDiagnostics : Prop :=
  (∀ (s : State) (i : Instr) (src : Nat) (early : Option Nat),
      ((∃ ns, i = .resetPair ∧ s.saf.rstHold = some ns ∧ s.awake = true ∧ src = 1 ∧
          early = if 500000000 ≤ ns ∧ ns ≤ 5000000000 then none else some 3) ∨
        (∃ (core : Sender) (v : Word), i = .safResetCmd core (~~~ v) ∧ Guarded s core Reg.SAF_RESET_CMD v ∧ src = 2 ∧
          early = if core.val = 4 ∧ v.toNat % 65536 = 0x5E7A then none else some 5)) →
      (early = none → resetCode s (src == 2) = none → Completes i s (fun t => t.nv.lc.lockout = false ∧ t.pw.trans = some .watch ∧
        t.pw.delReset = true ∧ t.get F.SAF_FAULT.CLASS = 0 ∧ t.get F.SAF_FAULT.PATH = 0 ∧ t.get F.SAF_FAULT.DETAIL = 0 ∧
        t.saf.trip = 0 ∧ t.saf.latched = false ∧ t.get F.SAF_RESET_STAT.SRC = src ∧ t.flag F.SAF_EVENT.RESET_DONE = true ∧
        (∀ n, n < 32 → safeOut s n = true → (outSt t n).stuck = 0) ∧ t.mode = .lockout)) ∧
      (∀ c, (early = some c ∨ early = none ∧ resetCode s (src == 2) = some c) → Completes i s (fun t => t.get F.SAF_RESET_STAT.REJ = c ∧
        t.get F.SAF_RESET_STAT.SRC = src ∧ t.flag F.SAF_EVENT.RESET_REJ = true ∧ t.pw = s.pw ∧ t.nv.lc = s.nv.lc ∧ t.mode = s.mode ∧
        t.saf.latched = s.saf.latched ∧ t.reg Reg.SAF_FAULT = s.reg Reg.SAF_FAULT))) ∧
  ((∀ (s : State) (core : Sender) (v : Word), Guarded s core Reg.SAF_DIAG_CMD v →
      (getF F.SAF_DIAG_CMD.OP.bits v = 1 →
        (core.val = 4 → s.mode = .commissioning → keyOn s = true → Completes (.diagSuspend core (~~~ v)) s (fun t =>
          t.flag F.SAF_STAT.DIAG_SUSP = true ∧ OnlyRegs [Reg.SAF_DIAG_CMD, Reg.SAF_STAT] s t)) ∧
        ((core.val ≠ 4 ∨ s.mode ≠ .commissioning ∨ keyOn s = false) → Completes (.diagSuspend core (~~~ v)) s (fun t =>
          OnlyRegs [Reg.SAF_DIAG_CMD] s t))) ∧
      (getF F.SAF_DIAG_CMD.OP.bits v = 2 → Completes (.diagResume core (~~~ v)) s (fun t => t.flag F.SAF_STAT.DIAG_SUSP = false ∧
        OnlyRegs [Reg.SAF_DIAG_CMD, Reg.SAF_STAT] s t)) ∧
      (getF F.SAF_DIAG_CMD.OP.bits v = 3 → Completes (.proofTestConfirm core (~~~ v)) s (fun t => t.nv.lc.proof = s.tb.sec ∧
        t.reg Reg.SAF_PROOF_LO = lo32 s.tb.sec ∧ t.flag F.SAF_STAT.PROOF_DUE = false ∧
        RegsBut [Reg.SAF_DIAG_CMD, Reg.SAF_STAT, Reg.SAF_PROOF_LO, Reg.SAF_PROOF_HI] s t ∧
        t = { s with bus := t.bus, nv := { s.nv with lc := { s.nv.lc with proof := s.tb.sec } } }))) ∧
    (∀ s : State, s.awake = true → s.nv.lc.proof ≠ 0 → s.nv.lc.proof + 631152000 < s.tb.sec → Completes .proofDue s (fun t =>
      t.flag F.SAF_STAT.PROOF_DUE = true ∧ OnlyRegs [Reg.SAF_STAT] s t)))

/-- A telegram that passes every check is taken with its SEQ and restarts its watchdog; any other is counted and changes nothing of its
sender. A watchdog that runs out withdraws the content. A landing-bus node's contacts reach both paths. -/
def Obligations.SafetyTelegrams : Prop :=
  (∀ (s : State) (h : Hdr) (b : List Byte) (kind src : Nat) (i : Instr), Delivers s h → s.saf.coreDown = false → src = slotAt b 2 2 →
    (kind = 1 ∧ i = .carState h b ∨ kind = 2 ∧ i = .secState h b ∨ kind = 3 ∧ i = .permit h b) →
    (telOk s kind b = true → Completes i s (fun t =>
      (kind = 1 → carTel t src = ⟨some (slotAt b 8 4), s.tb.tick, true, slotAt (telBody b) 0 4, slotAtS (telBody b) 4 8,
        slotAtS (telBody b) 12 4, slotAt (telBody b) 16 4⟩ ∧ (∀ x, x ≠ src → carTel t x = carTel s x) ∧ t.mode = s.mode) ∧
      (kind = 2 → (secTel t src).seq = some (slotAt b 8 4) ∧ (secTel t src).alive = true ∧ (secTel t src).tick = s.tb.tick ∧
        (secTel t src).flags = slotAt (telBody b) 0 4 ∧ (secTel t src).cars.length = min 8 (slotAt (telBody b) 0 4 / 256 % 16) ∧
        (∀ x, x ≠ src → secTel t x = secTel s x)) ∧
      (kind = 3 → (permitTel t src).seq = some (slotAt b 8 4) ∧ (permitTel t src).alive = true ∧
        (permitTel t src).car = slotAt (telBody b) 0 2 ∧ (permitTel t src).landing = slotAt (telBody b) 2 2 ∧
        (permitTel t src).flags = slotAt (telBody b) 4 4 ∧ (permitTel t src).target = slotAtS (telBody b) 8 8 ∧
        (∀ x, x ≠ src → permitTel t x = permitTel s x) ∧ t.mode = s.mode))) ∧
    (telOk s kind b = false → Completes i s (fun t =>
      t.get F.SAF_TG_STAT.DISCARDED = min 65535 (s.get F.SAF_TG_STAT.DISCARDED + 1) ∧ RegsBut [Reg.SAF_TG_STAT] s t ∧ HeardBut s t ∧
      t = { s with bus := t.bus, fab := t.fab }))) ∧
  (∀ (s : State) (k : Fin 4) (src : Nat), s.awake = true →
    (k.val = 0 ∧ (carTel s src).alive = true ∧ (carTel s src).tick + 500000 ≤ s.tb.tick ∨
      k.val = 1 ∧ (secTel s src).alive = true ∧ (secTel s src).tick + 500000 ≤ s.tb.tick ∨
      k.val = 2 ∧ (permitTel s src).alive = true ∧ (permitTel s src).tick + 500000 ≤ s.tb.tick ∨
      k.val = 3 ∧ src < 64 ∧ (nodeOf s 1 (src / 32) (src % 32)).alive = true ∧
        (nodeOf s 1 (src / 32) (src % 32)).tick + 500000 ≤ s.tb.tick) →
    Completes (.telegramWatchdogExpiry k src) s (fun t => t.get F.SAF_TG_STAT.WD_EXP = min 65535 (s.get F.SAF_TG_STAT.WD_EXP + 1) ∧
      (k.val = 0 → carTel t src = { carTel s src with alive := false }) ∧ (k.val = 1 → secTel t src = { secTel s src with alive := false }) ∧
      (k.val = 2 → permitTel t src = { permitTel s src with alive := false }) ∧
      (k.val = 3 → ∀ path, path < 2 → (nodeOf t path (src / 32) (src % 32)).alive =
        ((nodeOf s path (src / 32) (src % 32)).alive && decide (s.tb.tick < (nodeOf s path (src / 32) (src % 32)).tick + 500000))) ∧ (k.val ≠ 1 → t.mode = s.mode))) ∧
  (∀ (s : State) (p : Fin 2) (b : List Byte) (node : Nat), s.awake = true → s.saf.coreDown = false → node = slotAt b 2 1 → node < 32 →
    (∀ path, path < 2 → ilkOk s path p.val b = true) → Completes (.interlockTelegram p b) s (fun t =>
      (∀ path, path < 2 → (nodeOf t path p.val node).seq = some (slotAt b 4 2) ∧ (nodeOf t path p.val node).state = slotAt b 6 1 ∧
        (nodeOf t path p.val node).alive = true ∧ (nodeOf t path p.val node).tick = s.tb.tick) ∧
      RegsBut [Reg.SAF_FUNC_STAT, Reg.SAF_EVENT] s t ∧ t = { s with bus := t.bus, saf := { s.saf with nodes := t.saf.nodes } }))


/-! ### 17: spine ports and the landing bus -/

/-- A link comes up at a mode its port advertises; it goes down, its queued frames are dropped and the drop counts, the third of one mode
within 10 s removing that mode. A wake pulse or cable test on an up link is ignored with CMD_REJ; a test's result is tagged. Malformed
frames and those MACsec rejects are counted. A key enters its slot of the key store in Watch, Standby and Commissioning. -/
def Obligations.SpinePortsAndKeys : Prop :=
  (∀ (s : State) (p : Fin 4) (m : Fin 3) (q : Fin 8), s.awake = true → s.flag (F.FAB_SP_CFG.EN p.val) = true → spineUp s p.val = false →
    (spinePort s p.val).test = false → (advertised s p.val).testBit m.val = true → s.nv.lc.fenced = false →
    s.flag (F.FAB_SP_MSEC.EN p.val) = false → Completes (.spineLinkUp p m q) s (fun t => t.get (F.FAB_SP_STAT.STATE p.val) = 3 ∧
      t.get (F.FAB_SP_STAT.MODE p.val) = m.val + 1 ∧ t.get (F.FAB_SP_STAT.SQI p.val) = q.val ∧
      t.bit F.FAB_LINK_EVENT.UP p.val = true ∧ (∃ f a, t.tx = s.tx ++ [f] ∧ f.port = p.val ∧ f.src = s.myId ∧ f.body = .announce a) ∧
      RegsBut [Reg.FAB_SP_STAT p.val, Reg.FAB_LINK_EVENT] s t ∧ t = { s with bus := t.bus, tx := t.tx, fab := t.fab })) ∧
  (∀ (s : State) (p : Fin 4), spineUp s p.val = true → Completes (.spineLinkDown p) s (fun t =>
    t.get (F.FAB_SP_STAT.STATE p.val) = (if s.flag (F.FAB_SP_CFG.FORCE p.val) then 2 else 1) ∧ t.get (F.FAB_SP_STAT.MODE p.val) = 0 ∧
    t.get (F.FAB_SP_STAT.SQI p.val) = 0 ∧ t.tx = s.tx.filter (fun f => f.port != p.val) ∧ t.bit F.FAB_LINK_EVENT.DOWN p.val = true ∧
    t.get (F.FAB_SP_STAT.DROPS p.val) =
      min (2 ^ bitsLen (F.FAB_SP_STAT.DROPS p.val).bits - 1) (s.get (F.FAB_SP_STAT.DROPS p.val) + 1) ∧
    (∀ m, m = s.get (F.FAB_SP_STAT.MODE p.val) - 1 → m < 3 →
      2 ≤ ((spinePort s p.val).drops.filter (fun d => d.2 == m && decide (s.tb.tick ≤ d.1 + 1250000000))).length →
      s.flag (F.FAB_SP_CFG.DS_EN p.val) = true → advertised s p.val ≠ 2 ^ m →
      (t.get (F.FAB_SP_STAT.DS_MASK p.val)).testBit m = true ∧ t.flag F.FAB_LINK_EVENT.DOWNSHIFT = true) ∧
    (s.flag (F.FAB_SP_CFG.DS_EN p.val) = false → t.get (F.FAB_SP_STAT.DS_MASK p.val) = s.get (F.FAB_SP_STAT.DS_MASK p.val)))) ∧
  (∀ (s : State) (core : Sender) (p : Fin 4) (v : Word), canAccess s core = true → Unguarded s (Reg.FAB_SP_CMD p.val) →
    (∀ i op, (op = 1 ∧ i = .wakePulse core p v ∨ op = 2 ∧ i = .cableTest core p v) → getF (F.FAB_SP_CMD.OP p.val).bits v = op →
      (spineUp s p.val = true → Completes i s (fun t => t.flag F.FAB_LINK_EVENT.CMD_REJ = true ∧ OnlyRegs [Reg.FAB_LINK_EVENT] s t)) ∧
      (spineUp s p.val = false → op = 2 → Completes i s (fun t => spinePort t p.val = { spinePort s p.val with test := true } ∧
        (∀ q, q ≠ p.val → spinePort t q = spinePort s q) ∧ RegsBut [] s t ∧ t = { s with bus := t.bus, fab := t.fab })) ∧
      (spineUp s p.val = false → op = 1 → (spinePort s p.val).test = false → Completes i s (fun t =>
        (∃ f, t.tx = s.tx ++ [f] ∧ f.port = p.val ∧ f.body = .wakePulse) ∧ RegsBut [] s t ∧ t = { s with bus := t.bus, tx := t.tx })) ∧
      (spineUp s p.val = false → op = 1 → (spinePort s p.val).test = true → Completes i s (fun t =>
        (spinePort t p.val).pulses = (spinePort s p.val).pulses + 1 ∧ t.tx = s.tx))) ∧
    (getF (F.FAB_SP_CMD.OP p.val).bits v = 3 → Completes (.restoreDownshiftedModes core p v) s (fun t =>
      t.get (F.FAB_SP_STAT.DS_MASK p.val) = 0 ∧ (spinePort t p.val).drops = [] ∧ RegsBut [Reg.FAB_SP_STAT p.val] s t))) ∧
  (∀ (s : State) (p : Fin 4) (r : Fin 4) (d : Nat), s.awake = true → (spinePort s p.val).test = true → d < 2 ^ 12 →
    Completes (.cableTestDone p r d) s (fun t => t.get (F.FAB_SP_TEST.RESULT p.val) = r.val ∧
      t.get (F.FAB_SP_TEST.DIST p.val) = (if r.val = 0 then 0 else d) ∧
      t.get (F.FAB_SP_TEST.TAG p.val) = (s.get (F.FAB_SP_TEST.TAG p.val) + 1) % 4 ∧ t.flag F.FAB_LINK_EVENT.NEW = true ∧
      (spinePort t p.val).test = false ∧ (spinePort t p.val).pulses = 0 ∧
      (∃ l, t.tx = s.tx ++ l ∧ l.length = (spinePort s p.val).pulses ∧ ∀ f, f ∈ l → f.port = p.val ∧ f.body = .wakePulse) ∧ RegsBut [Reg.FAB_SP_TEST p.val, Reg.FAB_LINK_EVENT] s t)) ∧
  (∀ (s : State) (p : Fin 4), s.awake = true →
    Completes (.frameDiscarded p false) s (fun t => t.get F.FAB_NET_CNT.DISCARD =
      min (2 ^ bitsLen F.FAB_NET_CNT.DISCARD.bits - 1) (s.get F.FAB_NET_CNT.DISCARD + 1) ∧ OnlyRegs [Reg.FAB_NET_CNT] s t) ∧
    Completes (.frameDiscarded p true) s (fun t => t.get (F.FAB_SP_MSDROP.MSDROP p.val) =
      min (2 ^ bitsLen (F.FAB_SP_MSDROP.MSDROP p.val).bits - 1) (s.get (F.FAB_SP_MSDROP.MSDROP p.val) + 1) ∧
      t.flag F.FAB_LINK_EVENT.MSEC_DROP = true ∧ OnlyRegs [Reg.FAB_SP_MSDROP p.val, Reg.FAB_LINK_EVENT] s t)) ∧
  (∀ (s : State) (core : Sender) (v : Word) (slot src : Nat), Guarded s core Reg.FAB_KEY_LOAD v →
    slot = getF F.FAB_KEY_LOAD.SLOT.bits v → src = 16 * getF F.FAB_KEY_LOAD.SRC.bits v →
    (slot < 3072 → (s.mode = .watch ∨ s.mode = .standby ∨ s.mode = .commissioning) → Completes (.fabKeyLoad core (~~~ v)) s (fun t =>
      (∀ i, i < 16 → smGet 0 t.nv.mram (0x4000 + 16 * slot + i) = smGet 0 s.sram (src + i)) ∧
      (∀ j, j < 0x4000 + 16 * slot ∨ 0x4000 + 16 * slot + 16 ≤ j → smGet 0 t.nv.mram j = smGet 0 s.nv.mram j) ∧
      RegsBut [Reg.FAB_KEY_LOAD] s t ∧ t = { s with bus := t.bus, nv := { s.nv with mram := t.nv.mram } })) ∧
    ((3072 ≤ slot ∨ s.mode ≠ .watch ∧ s.mode ≠ .standby ∧ s.mode ≠ .commissioning) → Completes (.fabKeyLoad core (~~~ v)) s (fun t =>
      OnlyRegs [Reg.FAB_KEY_LOAD] s t)))

/-- A landing-bus frame of an admitted node goes to firmware; one that matches no entry is dropped, counted and shown as a stranger. 16
consecutive cycles with a collision, or a foreign beacon, lose PLCA; after its wait the port is the coordinator again. -/
def Obligations.LandingBusAdmitsItsNodes : Prop :=
  (∀ (s : State) (q : Fin 2) (f : LbFrame), s.awake = true → lbState s q.val = 1 →
    (admitted s q.val f.id = true → admMac s q.val f.id = f.mac → f.type ≠ 0x20 → Completes (.lbFrameReceived q f) s (fun t =>
      t = { s with fab := { s.fab with app := s.fab.app ++ [(q.val, f.payload)] } })) ∧
    ((admitted s q.val f.id = false ∨ admMac s q.val f.id ≠ f.mac) → Completes (.lbFrameReceived q f) s (fun t =>
      t.get (F.FAB_LB_CNT.STRANGER q.val) =
        min (2 ^ bitsLen (F.FAB_LB_CNT.STRANGER q.val).bits - 1) (s.get (F.FAB_LB_CNT.STRANGER q.val) + 1) ∧
      t.bit F.FAB_LINK_EVENT.STRANGER q.val = true ∧ t.fab.app = s.fab.app ∧ t.saf = s.saf ∧
      t.reg (Reg.FAB_LB_STR_LO q.val) = wd (f.mac % 2 ^ 32)))) ∧
  (∀ (s : State) (q : Fin 2) (cycle : Nat), s.awake = true → lbState s q.val = 1 →
    (cycle = (lbPort s q.val).cycle + 1 → (lbPort s q.val).colls < 15 → 0 < (lbPort s q.val).colls → Completes (.lbCollision q cycle) s
      (fun t => (lbPort t q.val).colls = (lbPort s q.val).colls + 1 ∧ (lbPort t q.val).cycle = cycle ∧ lbState t q.val = 1 ∧
        OnlyRegs [Reg.FAB_LB_CNT q.val] s { t with fab := s.fab })) ∧
    (cycle = (lbPort s q.val).cycle + 1 → 15 ≤ (lbPort s q.val).colls → Completes (.lbCollision q cycle) s (fun t =>
      lbState t q.val = 2 ∧ t.bit F.FAB_LINK_EVENT.PLCA_LOST q.val = true ∧ (lbPort t q.val).csma = some s.tb.tick)) ∧
    Completes (.foreignBeacon q) s (fun t => lbState t q.val = 2 ∧ t.bit F.FAB_LINK_EVENT.PLCA_LOST q.val = true ∧
      (lbPort t q.val).csma = some s.tb.tick ∧
      ((lbPort s q.val).back = none → (lbPort t q.val).wait = 1) ∧
      (∀ b, (lbPort s q.val).back = some b → s.tb.tick ≤ b + 1250000000 → (lbPort t q.val).wait = 10))) ∧
  (∀ (s : State) (q : Fin 2) (t0 : Nat), s.awake = true → lbState s q.val = 2 → (lbPort s q.val).csma = some t0 →
    t0 + 125000000 * (lbPort s q.val).wait ≤ s.tb.tick → Completes (.plcaResume q) s (fun t => lbState t q.val = 1 ∧
      t.bit F.FAB_LINK_EVENT.PLCA_BACK q.val = true ∧ (lbPort t q.val).csma = none ∧ (lbPort t q.val).back = some s.tb.tick ∧
      RegsBut [Reg.FAB_LB_STAT q.val, Reg.FAB_LINK_EVENT] s t ∧ t = { s with bus := t.bus, fab := { s.fab with lbs := t.fab.lbs } }))

/-! ### 18: the fabric -/

/-- An accepted ANNOUNCE is kept with its port and the time of its arrival, and a changed CLOSED flag sets CLOSED; another SERIAL at the
own ID and epoch fences the device, as does a STALE naming it at a newer epoch. FENCED and TAKEOVER set their events. A heartbeat makes a
watched peer ALIVE, 30 ms without one DEAD. Firmware data is delivered. A unicast frame for another device leaves by its route, one hop
lower and otherwise as it came; without a route or hops it is counted. -/
def Obligations.FramesAreHeardAndForwarded : Prop :=
  (∀ (s : State) (h : Hdr) (p : AnnouncePl),
    (HeardInGroup s h → Completes (.announce h p) s (fun t =>
      (∃ l, learnedOf t h.src = some l ∧ l.ann = p ∧ smFind l.ports h.port.val = some s.tb.tick) ∧ smFind t.nbTs h.src = some p.tsNs ∧
      (p.flags.testBit 0 ≠ (learnedOf s h.src).any (fun l => l.ann.flags.testBit 0) → t.flag F.FAB_NET_EVENT.CLOSED = true))) ∧
    (s.awake = true → spineUp s h.port.val = true → h.src = s.myId → h.bcast = true → h.dst / 256 = s.myId / 256 →
      h.epoch = s.nv.lc.epoch → (∀ x, smFind s.fab.epochs h.src = some x → x.epoch = h.epoch) → p.serial ≠ s.nv.serial →
      s.nv.lc.take = none → s.nv.lc.fenced = false → s.mode ≠ .lockout → Completes (.announce h p) s (fun t =>
        t.nv.lc.fenced = true ∧ t.flag F.FAB_NET_EVENT.FENCED = true ∧ LockedOut t ∧
        t.pair Reg.FAB_DUP_LO % 2 ^ 62 = p.serial % 2 ^ 48))) ∧
  (∀ (s : State) (h : Hdr), HeardInGroup s h →
    (∀ p : FencedPl, Completes (.fenced h p) s (fun t => t.flag F.FAB_NET_EVENT.PEER_FENCED = true ∧ HeardBut s t ∧
      RegsBut [Reg.FAB_NET_EVENT] s t ∧ t = { s with bus := t.bus, fab := t.fab })) ∧
    (∀ p : StalePl, p.id = s.myId → newerEpoch p.epoch s.nv.lc.epoch = true → s.nv.lc.fenced = false → s.mode ≠ .lockout →
      Completes (.stale h p) s (fun t => t.nv.lc.fenced = true ∧ t.fab.newer = p.epoch ∧ LockedOut t)) ∧
    (∀ p : HeartbeatPl, Settled s h.src → Completes (.heartbeat h p) s (fun t => ∀ i, i < 32 → watches s i h.src = true →
      (peerOf t i).st = 1 ∧ (peerOf t i).last = s.tb.tick ∧
      ((peerOf s i).st = 2 → t.flag F.FAB_NET_EVENT.PEER_BACK = true))) ∧
    (∀ p : TakeoverPl, Settled s h.src → s.nv.lc.take = none → Completes (.takeover h p) s (fun t =>
      t.flag F.FAB_NET_EVENT.TAKEOVER = true ∧ t.nv = s.nv ∧
      ∀ i, i < 32 → watches s i p.id = true → (peerOf s i).st = 2 → (peerOf t i).seen = true))) ∧
  (∀ (s : State) (h : Hdr) (b : List Byte), Delivers s h → Completes (.app h b) s (fun t =>
    t.fab.app = s.fab.app ++ [(h.src, b)] ∧ t = { s with fab := t.fab })) ∧
  (∀ (s : State) (i : Fin 32), s.awake = true → s.flag (F.FAB_PEER_CFG.EN i.val) = true → (peerOf s i.val).st = 1 →
    (peerOf s i.val).last + 3750000 ≤ s.tb.tick → Completes (.peerDead i) s (fun t => (peerOf t i.val).st = 2 ∧
      (peerOf t i.val).dead = s.tb.tick ∧ t.flag F.FAB_NET_EVENT.PEER_DEAD = true ∧ (∀ j, j ≠ i.val → peerOf t j = peerOf s j) ∧
      (∀ r e, smFind s.bss.res r = some e → e.owner = s.get (F.FAB_PEER_CFG.ID i.val) → e.loc = false →
        smFind t.bss.res r = some { e with orphan := true }))) ∧
  (∀ (s : State) (h : Hdr) (type : Nat) (b : List Byte), s.awake = true → spineUp s h.port.val = true → h.src ≠ s.myId →
    Settled s h.src → (∀ x, smFind s.fab.epochs h.src = some x → x.epoch = h.epoch) → 2 ≤ type → type ≤ 16 → type ≠ 12 → type ≠ 13 →
    h.bcast = false → h.dst ≠ s.myId → s.nv.lc.fenced = false →
    (∀ p, routeOf s h.dst = some p → p ≠ h.port.val → 2 ≤ h.hops → spineUp s p = true → s.flag (F.FAB_SP_MSEC.EN p) = false →
      Completes (.frameForward h type b) s (fun t =>
        (∃ f, t.tx = s.tx ++ [f] ∧ f.port = p ∧ f.src = h.src ∧ f.dst = h.dst ∧ f.epoch = h.epoch ∧ f.hops = h.hops - 1 ∧
          f.bcast = false ∧ f.seq = h.seq ∧ f.body = .raw type b ∧ f.wire = frameBytes f) ∧ HeardBut s t ∧
        t = { s with tx := t.tx, fab := t.fab })) ∧
    (∀ p, routeOf s h.dst = some p → p ≠ h.port.val → h.hops ≤ 1 → Completes (.frameForward h type b) s (fun t => t.tx = s.tx ∧
      t.get F.FAB_NET_CNT.HOP_EXP = min 255 (s.get F.FAB_NET_CNT.HOP_EXP + 1))) ∧
    ((routeOf s h.dst = none ∨ routeOf s h.dst = some h.port.val) → Completes (.frameForward h type b) s (fun t => t.tx = s.tx ∧
      t.get F.FAB_NET_CNT.NO_ROUTE = min 255 (s.get F.FAB_NET_CNT.NO_ROUTE + 1) ∧ t.flag F.FAB_NET_EVENT.NO_ROUTE = true)))

/-- Each PTP second the device announces itself on every up port, and the holdover counter takes the time; heartbeats go to the group.
Settling ends 1.1 s after start-up. A standby in Watch whose covered peer is dead takes its ID at the next epoch; the copied images end in
a software reset. A peer dead for TAKE_MAX has its section held closed. Closing, reopening, giving up an ID and releasing the Fenced state
each report their code of Table 18.5 (their order is the model's reading, log entry 88). -/
def Obligations.NetworkDutiesAndTakeOvers : Prop :=
  (∀ s : State, s.awake = true → s.nv.lc.fenced = false → (∀ p, p < 4 → s.flag (F.FAB_SP_MSEC.EN p) = false) →
    Completes .ptpSecond s (fun t => t.tb.holdSec = s.tb.sec ∧ t.tb.holdCyc = 0 ∧
      (∃ l, t.tx = s.tx ++ l ∧ (∀ f, f ∈ l → f.hops = 1 ∧ f.bcast = true ∧ f.src = s.myId ∧ f.body = .announce (announcement s)) ∧
        l.map (fun f => f.port) = (List.range 4).filter (spineUp s)) ∧
      (s.flag F.TIM_CFG.FW = false → (∀ p, p < 4 → (ptpPort s p).ann = none) → t.flag F.TIM_STAT.GM = s.flag F.TIM_CFG.GM_CAP ∧
        (s.flag F.TIM_CFG.GM_CAP = true → t.flag F.TIM_STAT.SYNC = true ∧ t.flag F.TIM_STAT.HOLD = false)) ∧
      ((s.flag F.TIM_CFG.FW = true ∨ ∃ p, p < 4 ∧ (ptpPort s p).ann ≠ none) → t.bus = s.bus) ∧
      RegsBut [Reg.TIM_STAT, Reg.TIM_EVENT] s t ∧ t = { s with bus := t.bus, tb := t.tb, tx := t.tx, fab := t.fab }) ∧
    Completes .heartbeatSend s (fun t => (∃ l, t.tx = s.tx ++ l ∧ (∀ f, f ∈ l → f.hops = 8 ∧ f.bcast = true ∧ f.src = s.myId ∧
        f.body = .heartbeat ⟨s.mode.code, annFlags s⟩) ∧ l.map (fun f => f.port) = (List.range 4).filter (spineUp s)) ∧
      t = { s with tx := t.tx, fab := t.fab })) ∧
  (∀ (s : State) (t0 : Nat), s.fab.settle = some t0 → t0 + 137500000 ≤ s.tb.tick → Completes .settlingEnd s (fun t =>
    t = { s with fab := { s.fab with settle := none } })) ∧
  (∀ (s : State) (j : Fin 3) (id e : Nat), s.mode = .watch → s.awake = true → isSection s = true → commissioned s = true →
    s.nv.lc.fenced = false → s.nv.lc.take = none → s.flag (F.FAB_COVER.EN j.val) = true → id = s.get (F.FAB_COVER.ID j.val) →
    takeDue s id (s.get (F.FAB_COVER.RANK j.val)) = true → e = ((epochFor s id).getD 0 + 1) % 2 ^ 16 →
    Completes (.takeoverStart j) s (fun t => t.nv.lc = { s.nv.lc with
        take := some ⟨id, e, j.val, s.nv.lc.epoch⟩, actId := id, epoch := e, chgOut := some (s.get (F.FAB_COVER.CHG_OUT j.val)) } ∧
      t.flag F.FAB_NET_EVENT.TAKEOVER = true ∧ t.fab.taking = some j.val ∧ t.mode = .watch)) ∧
  (∀ (s : State) (m : TakeMarker), s.nv.lc.take = some m → s.nv.lc.wipe = none → s.conf.causes = 0 →
    Completes .takeoverCopyDone s (fun t => ResetInForce 8 s t ∧ t.nv.lc = { s.nv.lc with take := none } ∧
      (∀ bs, bankAt s.nv.mram (shadowBase m.slot) opsBankSize = some bs → MramHolds t (opsBase (opsTarget s).1) bs) ∧
      (∀ bs, bankAt s.nv.mram (shadowSps s m.slot) spsBankSize = some bs → MramHolds t (spsBase (spsTarget s).1) bs) ∧
      (bankAt s.nv.mram (shadowBase m.slot) opsBankSize = none → opsBankOf t (opsTarget s).1 = none) ∧
      (bankAt s.nv.mram (shadowSps s m.slot) spsBankSize = none → spsBankOf t (spsTarget s).1 = none) ∧
      opsBankOf t (!(opsTarget s).1) = opsBankOf s (!(opsTarget s).1) ∧ spsBankOf t (!(spsTarget s).1) = spsBankOf s (!(spsTarget s).1) ∧
      leAt t.nv.mram opsSelector 4 = selectorWord (imageGen s (shadowBase m.slot)) (opsTarget s).1 ∧
      leAt t.nv.mram spsSelector 4 = selectorWord (imageGen s (shadowSps s m.slot)) (spsTarget s).1)) ∧
  (∀ (s : State) (i : Fin 32) (id : Nat), s.awake = true → (peerOf s i.val).st = 2 → id = s.get (F.FAB_PEER_CFG.ID i.val) →
    (peerOf s i.val).dead + 12500000 * s.get F.FAB_NET_CFG.TAKE_MAX ≤ s.tb.tick → learnedOf s id = none →
    s.fab.closedFor.contains id = false → Completes (.takeMaxExpiry i) s (fun t => t.fab.closedFor = s.fab.closedFor ++ [id] ∧
      closedDev t id = true ∧ t.flag F.FAB_NET_EVENT.CLOSED = true)) ∧
  (∀ (s : State) (core : Sender) (v : Word), Guarded s core Reg.FAB_SEC_CMD v →
    (getF F.FAB_SEC_CMD.OP.bits v = 1 →
      (isSection s = true → Completes (.sectionClose core (~~~ v)) s (fun t => t.fab.closeCmd = true ∧
        t.get F.FAB_NET_CMD_STAT.CODE = 0 ∧ t.get F.FAB_NET_CMD_STAT.CMD = 1 ∧ (annFlags t).testBit 0 = true ∧
        (ownClosed s = false → t.flag F.FAB_NET_EVENT.CLOSED = true ∧
          ∀ c, c ∈ ownedCars s → inMove (s.axis c) = true → (t.axis c).evs = (s.axis c).evs ++ [.stop 8]))) ∧
      (isSection s = false → Completes (.sectionClose core (~~~ v)) s (fun t => t.get F.FAB_NET_CMD_STAT.CODE = 3 ∧
        t.flag F.FAB_NET_EVENT.CMD_REJ = true ∧ OnlyRegs [Reg.FAB_SEC_CMD, Reg.FAB_NET_CMD_STAT, Reg.FAB_NET_EVENT] s t))) ∧
    (getF F.FAB_SEC_CMD.OP.bits v = 2 → isSection s = true → spareGone s = false →
      ((s.mode = .watch ∨ s.mode = .standby ∨ s.mode = .commissioning) → Completes (.sectionReopen core (~~~ v)) s (fun t =>
        ownClosed t = false ∧ t.get F.FAB_NET_CMD_STAT.CODE = 0 ∧
        (ownClosed s = true → t.flag F.FAB_NET_EVENT.CLOSED = true))) ∧
      (s.mode ≠ .watch → s.mode ≠ .standby → s.mode ≠ .commissioning → Completes (.sectionReopen core (~~~ v)) s (fun t =>
        t.get F.FAB_NET_CMD_STAT.CODE = 4 ∧ t.flag F.FAB_NET_EVENT.CMD_REJ = true ∧
        OnlyRegs [Reg.FAB_SEC_CMD, Reg.FAB_NET_CMD_STAT, Reg.FAB_NET_EVENT] s t)))) ∧
  (∀ (s : State) (core : Sender) (v : Word), Guarded s core Reg.FAB_STBY_CMD v →
    (core.val = 4 → keyOn s = true → (s.mode = .watch ∨ s.mode = .lockout) → s.nv.lc.actId ≠ s.nv.lc.fabricId →
      getF F.FAB_STBY_CMD.OP.bits v = 1 → Completes (.standbyGiveUpId core (~~~ v)) s (fun t => ResetInForce 8 s t ∧
        t.nv.lc = { s.nv.lc with chgOut := none, actId := s.nv.lc.fabricId, take := none } ∧
        (∀ b, spsBankOf t b = none ∧ opsBankOf t b = none) ∧ leAt t.nv.mram 0x2000 8 = 0)) ∧
    (core.val ≠ 4 → Completes (.standbyGiveUpId core (~~~ v)) s (fun t => t.get F.FAB_NET_CMD_STAT.CODE = 1 ∧
      t.get F.FAB_NET_CMD_STAT.CMD = 2 ∧ t.flag F.FAB_NET_EVENT.CMD_REJ = true ∧
      OnlyRegs [Reg.FAB_STBY_CMD, Reg.FAB_NET_CMD_STAT, Reg.FAB_NET_EVENT] s t))) ∧
  (∀ (s : State) (core : Sender) (v : Word), Guarded s core Reg.FAB_FENCE_CMD v → core.val = 4 → keyOn s = true → s.nv.lc.fenced = true →
    (ownHeardLately s = true → Completes (.fenceRelease core (~~~ v)) s (fun t => t.get F.FAB_NET_CMD_STAT.CODE = 5 ∧
      t.flag F.FAB_NET_EVENT.CMD_REJ = true ∧ t.nv = s.nv)) ∧
    (ownHeardLately s = false → getF F.FAB_FENCE_CMD.OP.bits v = 1 → Completes (.fenceRelease core (~~~ v)) s (fun t =>
      t.nv.lc = { s.nv.lc with fenced := false, actId := s.nv.lc.fabricId, epoch := (newestOwn s + 1) % 2 ^ 16 } ∧
      t.get F.FAB_NET_CMD_STAT.CODE = 0)))

/-! ### 19: the time base -/

/-- With FW = 1 an ADDEND within 500 ppm of nominal is stored, and a step moves the clock by the pair's signed nanoseconds, in a running
mode by at most 1,000 ns and with no period number skipped, elsewhere with the next boundary the first at or after the new time;
otherwise nothing moves and ADDEND_REJ or STEP_REJ sets. TIM_CMD sets and clears SYNC with FW = 1. A read of the present
time keeps its seconds for the reader. Arming a snapshot at a time that has passed sets SNAP_LATE; disarming sets nothing; the armed
time's tick takes the snapshot. -/
def Obligations.ClockTakesAddendStepsAndSnapshots : Prop :=
  (∀ (s : State) (core : Sender) (v : Word), canAccess s core = true → Unguarded s Reg.TIM_ADDEND →
    (s.flag F.TIM_CFG.FW = true → 0x80000000 - 1073741 ≤ v.toNat → v.toNat ≤ 0x80000000 + 1073741 →
      Completes (.addendWrite core v) s (fun t => t.reg Reg.TIM_ADDEND = v ∧ OnlyRegs [Reg.TIM_ADDEND] s t)) ∧
    ((s.flag F.TIM_CFG.FW = false ∨ v.toNat < 0x80000000 - 1073741 ∨ 0x80000000 + 1073741 < v.toNat) →
      Completes (.addendWrite core v) s (fun t => t.flag F.TIM_EVENT.ADDEND_REJ = true ∧ OnlyRegs [Reg.TIM_EVENT] s t))) ∧
  (∀ (s : State) (core : Sender) (v : Word) (off : Int), canAccess s core = true → Unguarded s Reg.TIM_STEP_HI →
    off = (v ++ holdOf s Reg.TIM_STEP_LO core).toInt →
    (s.flag F.TIM_CFG.FW = true → (modeServo s.mode = true → -1000 ≤ off ∧ off ≤ 1000) → Completes (.clockStep core v) s (fun t =>
      (t.nowNs : Int) = ((s.nowNs : Int) + off) % (2 ^ 48 * 1000000000) ∧ t.tb.ns < 1000000000 ∧ t.tb.frac = s.tb.frac ∧
      holdOf t Reg.TIM_STEP_LO core = 0 ∧ (modeServo s.mode = true → t.tb.next = s.tb.next) ∧
      (modeServo s.mode = false → 0 < s.tsNs → t.nowNs ≤ t.tb.next * s.tsNs ∧ t.tb.next * s.tsNs < t.nowNs + s.tsNs) ∧
      RegsBut [] s t ∧ (∀ b, t.pendReg b = s.pendReg b) ∧
      t = { s with bus := t.bus, tb := { s.tb with sec := t.tb.sec, ns := t.tb.ns, next := t.tb.next } })) ∧
    ((s.flag F.TIM_CFG.FW = false ∨ modeServo s.mode = true ∧ (off < -1000 ∨ 1000 < off)) → Completes (.clockStep core v) s (fun t =>
      t.flag F.TIM_EVENT.STEP_REJ = true ∧ holdOf t Reg.TIM_STEP_LO core = 0 ∧ OnlyRegs [Reg.TIM_EVENT] s t))) ∧
  (∀ (s : State) (core : Sender) (v : Word), canAccess s core = true → Unguarded s Reg.TIM_CMD →
    (s.flag F.TIM_CFG.FW = true → getF F.TIM_CMD.OP.bits v = 1 → Completes (.setSync core v) s (fun t =>
      t.flag F.TIM_STAT.SYNC = true ∧ t.flag F.TIM_STAT.HOLD = false ∧
      (s.flag F.TIM_STAT.SYNC = false → t.flag F.TIM_EVENT.SYNC_GAIN = true) ∧ OnlyRegs [Reg.TIM_STAT, Reg.TIM_EVENT] s t)) ∧
    (s.flag F.TIM_CFG.FW = true → getF F.TIM_CMD.OP.bits v = 2 → Completes (.clearSync core v) s (fun t =>
      t.flag F.TIM_STAT.SYNC = false ∧
      (s.flag F.TIM_STAT.SYNC = true → t.flag F.TIM_STAT.HOLD = true ∧ t.flag F.TIM_EVENT.SYNC_LOST = true) ∧
      (s.flag F.TIM_STAT.SYNC = false → t = s) ∧ OnlyRegs [Reg.TIM_STAT, Reg.TIM_EVENT] s t)) ∧
    (s.flag F.TIM_CFG.FW = false → Completes (.setSync core v) s (fun t => t = s) ∧ Completes (.clearSync core v) s (fun t => t = s))) ∧
  (∀ (s : State) (core : Sender), canAccess s core = true → Completes (.nowNsRead core) s (fun t =>
    smGet 0 t.bus.rdata core.val = wd s.tb.ns ∧ readReg t core Reg.TIM_NOW_S_LO = wd s.tb.sec ∧
    readReg t core Reg.TIM_NOW_S_HI = wd (s.tb.sec / 2 ^ 32 % 2 ^ 16) ∧
    (∀ c : Sender, c ≠ core → readReg t c Reg.TIM_NOW_S_LO = readReg s c Reg.TIM_NOW_S_LO ∧
      readReg t c Reg.TIM_NOW_S_HI = readReg s c Reg.TIM_NOW_S_HI) ∧ OnlyRegs [] s t)) ∧
  (∀ (s : State) (core : Sender) (v : Word) (at' : Nat), canAccess s core = true → Unguarded s Reg.TIM_SNAP_AT_NS →
    at' = s.pair Reg.TIM_SNAP_AT_S_LO * 1000000000 + v.toNat % 2 ^ 30 →
    (v.getLsbD 31 = true → s.nowNs ≤ at' → Completes (.snapArm core v) s (fun t =>
      t.reg Reg.TIM_SNAP_AT_NS = v &&& 0xBFFFFFFF ∧ OnlyRegs [Reg.TIM_SNAP_AT_NS] s t)) ∧
    (v.getLsbD 31 = true → at' < s.nowNs → Completes (.snapArm core v) s (fun t =>
      t.reg Reg.TIM_SNAP_AT_NS = v &&& 0x3FFFFFFF ∧ t.flag F.TIM_EVENT.SNAP_LATE = true ∧
      OnlyRegs [Reg.TIM_SNAP_AT_NS, Reg.TIM_EVENT] s t)) ∧
    (v.getLsbD 31 = false → Completes (.snapDisarm core v) s (fun t =>
      t.reg Reg.TIM_SNAP_AT_NS = v &&& 0x3FFFFFFF ∧ OnlyRegs [Reg.TIM_SNAP_AT_NS] s t))) ∧
  (∀ s : State, s.awake = true →
    (s.flag F.TIM_SNAP_AT_NS.ARM = true → s.pair Reg.TIM_SNAP_AT_S_LO * 1000000000 + s.get F.TIM_SNAP_AT_NS.NS ≤ s.nowNs →
      (∀ b, ¬ SnapTaken s b) → Completes .timedSnapshotFire s (fun t =>
      t.reg Reg.TIM_SNAP_AT_NS = s.reg Reg.TIM_SNAP_AT_NS &&& 0x7FFFFFFF ∧
      Snapped s t Reg.TIM_SNAPT_LO (s.tb.sec % 2 ^ 32 * 2 ^ 30 + s.tb.ns : Nat) ∧ t.flag F.SYS_EVENT.SNAP_DONE = true ∧
      t = { s with bus := t.bus } ∧ (∀ b, t.pendReg b = s.pendReg b))) ∧
    (s.flag F.TIM_SNAP_AT_NS.ARM = false ∨ s.nowNs < s.pair Reg.TIM_SNAP_AT_S_LO * 1000000000 + s.get F.TIM_SNAP_AT_NS.NS →
      Completes .timedSnapshotFire s (fun t => t = s)))

/-- With FW = 0 a Sync from the upstream neighbour gives TIM_OFFSET, the receive time less origin, correction and link delay: the eighth in
a row within LIMIT sets SYNC, one beyond 2 LIMIT or a missing Sync clears it. A better Announce makes its port upstream. Whether ADDEND or a step
follows the offset is left free (log entry 31), within R577 and R578. Transmit stamps enter a queue of 8, whose head is stable until popped. -/
def Obligations.SyncFollowsTheOffsets : Prop :=
  (∀ (s : State) (p : Fin 4) (stamp origin : PtpTime) (corr off : Int) (lim seq : Nat), s.awake = true → s.flag F.TIM_CFG.FW = false →
    s.bit F.TIM_CFG.PORT_EN p.val = true → s.get F.TIM_STAT.UPSTREAM = p.val → s.flag F.TIM_STAT.GM = false →
    lim = (if s.get (F.FAB_SP_STAT.MODE p.val) = 1 then 500 else 50) →
    (∀ i rx, (i = .ptpEventMessage p stamp (.sync seq (some (origin, corr))) ∧ rx = ptpNs stamp ∨
        i = .ptpGeneralMessage p (.followUp seq origin corr) ∧ (ptpPort s p.val).syncRx = some rx ∧ (ptpPort s p.val).syncSeq = seq) →
      off = (rx : Int) - ((ptpNs origin : Int) + corr + ((ptpPort s p.val).delay : Int)) →
      Completes i s (fun t => t.reg Reg.TIM_OFFSET = BitVec.ofInt 32 off ∧
        (off.natAbs ≤ lim → 7 ≤ s.tb.goodOffs → t.flag F.TIM_STAT.SYNC = true) ∧
        (2 * lim < off.natAbs → t.flag F.TIM_STAT.SYNC = false ∧ t.tb.goodOffs = 0) ∧
        (off.natAbs ≤ 2 * lim → (lim < off.natAbs ∨ s.tb.goodOffs < 7) → t.flag F.TIM_STAT.SYNC = s.flag F.TIM_STAT.SYNC) ∧
        (t.reg Reg.TIM_ADDEND = s.reg Reg.TIM_ADDEND ∧ (modeServo s.mode = true → off.natAbs ≤ 1000) ∨
          t.nowNs = s.nowNs ∧ addendOk (t.reg Reg.TIM_ADDEND) = true) ∧
        RegsBut [Reg.TIM_OFFSET, Reg.TIM_STAT, Reg.TIM_EVENT, Reg.TIM_ADDEND] s t ∧ (∀ b, t.pendReg b = s.pendReg b) ∧
        t = { s with bus := t.bus, tb := t.tb, free := t.free }))) ∧
  (∀ (s : State) (p : Fin 4) (stamp : PtpTime), s.awake = true → s.flag F.TIM_CFG.FW = false → s.bit F.TIM_CFG.PORT_EN p.val = true →
    (∀ seq, Completes (.ptpEventMessage p stamp (.sync seq none)) s (fun t =>
      ptpPort t p.val = { ptpPort s p.val with syncSeq := seq, syncRx := some (ptpNs stamp) } ∧
      (∀ q, q ≠ p.val → ptpPort t q = ptpPort s q) ∧ t = { s with tb := { s.tb with ports := t.tb.ports } })) ∧
    (∀ seq rx, Completes (.ptpEventMessage p stamp (.pdelayResp seq rx)) s (fun t =>
      ptpPort t p.val = { ptpPort s p.val with t2 := some (ptpNs rx), t4 := some (ptpNs stamp) } ∧
      (∀ q, q ≠ p.val → ptpPort t q = ptpPort s q) ∧ t = { s with tb := { s.tb with ports := t.tb.ports } })) ∧
    (∀ seq, Completes (.txTimestampEnqueue p 2 seq stamp) s (fun t => (ptpPort t p.val).t1 = some (ptpNs stamp) ∧
      t = { s with tb := { s.tb with ports := t.tb.ports } })) ∧
    (∀ seq t1 t2 t4, (ptpPort s p.val).t1 = some t1 → (ptpPort s p.val).t2 = some t2 → (ptpPort s p.val).t4 = some t4 →
      Completes (.ptpGeneralMessage p (.pdelayFollowUp seq stamp)) s (fun t =>
        ((ptpPort t p.val).delay : Int) = max 0 ((((t4 : Int) - t1) - ((ptpNs stamp : Int) - t2)) / 2) ∧
        (ptpPort t p.val).t1 = none ∧ t = { s with tb := { s.tb with ports := t.tb.ports } })) ∧
    (∀ v, (∀ q, q ≠ p.val → (ptpPort s q).ann = none) →
      ((∀ o, ownVector s = some o → vecBetter v o = true) → Completes (.ptpGeneralMessage p (.announce v)) s (fun t =>
        t.flag F.TIM_STAT.GM = false ∧ t.get F.TIM_STAT.UPSTREAM = p.val ∧ RegsBut [Reg.TIM_STAT] s t)) ∧
      (∀ o, ownVector s = some o → vecBetter v o = false → Completes (.ptpGeneralMessage p (.announce v)) s (fun t =>
        t.flag F.TIM_STAT.GM = true ∧ t.flag F.TIM_STAT.SYNC = true ∧ RegsBut [Reg.TIM_STAT, Reg.TIM_EVENT] s t)))) ∧
  (∀ s : State, s.awake = true → s.flag F.TIM_CFG.FW = false → s.flag F.TIM_STAT.GM = false → Completes .syncReceiptTimeout s (fun t =>
    t.flag F.TIM_STAT.SYNC = false ∧ t.tb.goodOffs = 0 ∧
    (s.flag F.TIM_STAT.SYNC = true → t.flag F.TIM_STAT.HOLD = true ∧ t.flag F.TIM_EVENT.SYNC_LOST = true) ∧
    (ptpPort t (s.get F.TIM_STAT.UPSTREAM)).ann = none ∧
    (∀ q, q ≠ s.get F.TIM_STAT.UPSTREAM → ptpPort t q = ptpPort s q) ∧
    RegsBut [Reg.TIM_STAT, Reg.TIM_EVENT] s t ∧ (∀ b, t.pendReg b = s.pendReg b) ∧
    t = { s with bus := t.bus, tb := { s.tb with goodOffs := 0, ports := t.tb.ports } })) ∧
  (∀ (s : State) (p : Fin 4) (mt sq : Nat) (stamp : PtpTime), s.awake = true → s.flag F.TIM_CFG.FW = true → mt < 16 → sq < 65536 →
    ((txqOf s p.val).length < 8 → Completes (.txTimestampEnqueue p mt sq stamp) s (fun t =>
      txqOf t p.val = txqOf s p.val ++ [⟨mt, sq, stamp.sec, stamp.ns⟩] ∧ (∀ q, q ≠ p.val → txqOf t q = txqOf s q) ∧
      t = { s with tb := { s.tb with txq := t.tb.txq } })) ∧
    (8 ≤ (txqOf s p.val).length → Completes (.txTimestampEnqueue p mt sq stamp) s (fun t =>
      t.get (F.TIM_TXQ_LOSS.LOSS p.val) = min 65535 (s.get (F.TIM_TXQ_LOSS.LOSS p.val) + 1) ∧ t.flag F.TIM_EVENT.TS_OVF = true ∧
      OnlyRegs [Reg.TIM_TXQ_LOSS p.val, Reg.TIM_EVENT] s t))) ∧
  (∀ (s : State) (core : Sender) (p : Fin 4) (h : TxStamp) (r : List TxStamp), canAccess s core = true → txqOf s p.val = h :: r →
    Completes (.txqNsRead core p) s (fun t => smGet 0 t.bus.rdata core.val = wd h.ns ∧
      readReg t core (Reg.TIM_TXQ_S_LO p.val) = wd h.sec ∧ readReg t core (Reg.TIM_TXQ_S_HI p.val) = wd (h.sec / 2 ^ 32 % 2 ^ 16) ∧
      readReg t core (Reg.TIM_TXQ_ID p.val) = readReg s core (Reg.TIM_TXQ_ID p.val) ∧ OnlyRegs [] s t) ∧
    (Unguarded s (Reg.TIM_TXQ_POP p.val) → Completes (.txqPop core p 1) s (fun t =>
      txqOf t p.val = r ∧ (∀ q, q ≠ p.val → txqOf t q = txqOf s q) ∧ t = { s with tb := { s.tb with txq := t.tb.txq } })))

/-! ### 20: the event recorder -/

/-- RECORD_WRITE writes START first, then the safety queue, then the general one, into slot NEXT: time, source, code, slot number and data, sealed
with a CRC-32C; NEXT moves on, and slot 65,535 makes the recorder full. REC_CLEAR starts a clear in Commissioning alone. Its end leaves the
area empty but for CLEARED in slot 0. A firmware record needs a code from 0x8000. (The layout of CLEARED's data is log entry 20.) -/
def Obligations.RecordsAreSealedInOrder : Prop :=
  (∀ (s : State) (e : RecEv) (n : Nat), s.awake = true → s.rcd.recording = true → s.rcd.clear = none → n = s.get F.REC_STAT.NEXT → n < 65536 →
    (s.rcd.start = some e ∨ s.rcd.start = none ∧ s.rcd.safety.head? = some e ∨
      s.rcd.start = none ∧ s.rcd.safety = [] ∧ s.rcd.general.head? = some e) →
    Completes .recordWrite s (fun t =>
      (∀ i, i < 6 → smGet 0 t.nv.mram (0x430000 + 64 * n + i) = BitVec.ofNat 8 (e.sec / 2 ^ (8 * i))) ∧
      (∀ i, i < 4 → smGet 0 t.nv.mram (0x430000 + 64 * n + 6 + i) = BitVec.ofNat 8 (e.ns / 2 ^ (8 * i))) ∧
      smGet 0 t.nv.mram (0x430000 + 64 * n + 10) = BitVec.ofNat 8 e.unit ∧
      (e.unit < 256 → smGet 0 t.nv.mram (0x430000 + 64 * n + 11) = BitVec.ofNat 8 e.src) ∧
      (∀ i, i < 2 → smGet 0 t.nv.mram (0x430000 + 64 * n + 12 + i) = BitVec.ofNat 8 (e.code / 2 ^ (8 * i))) ∧
      (∀ i, i < 2 → smGet 0 t.nv.mram (0x430000 + 64 * n + 14 + i) = BitVec.ofNat 8 (n / 2 ^ (8 * i))) ∧
      (∀ i, i < 44 → smGet 0 t.nv.mram (0x430000 + 64 * n + 16 + i) = e.data.getD i 0) ∧
      mramWord t (0x430000 + 64 * n + 60) = crc32c (bytesAt t.nv.mram (0x430000 + 64 * n) 60) ∧
      (∀ j, j < 0x430000 + 64 * n ∨ 0x430000 + 64 * n + 64 ≤ j → smGet 0 t.nv.mram j = smGet 0 s.nv.mram j) ∧
      t.get F.REC_STAT.NEXT = n + 1 ∧ (n < 65535 → RegsBut [Reg.REC_STAT] s t ∧ t.flag F.REC_STAT.FULL = s.flag F.REC_STAT.FULL) ∧
      (n = 65535 → t.flag F.REC_STAT.FULL = true ∧ t.flag F.REC_EVENT.FULL = true ∧ RegsBut [Reg.REC_STAT, Reg.REC_EVENT] s t) ∧
      (∀ b, t.pendReg b = s.pendReg b) ∧ t.rcd.start = none ∧
      (s.rcd.start ≠ none → t.rcd.safety = s.rcd.safety ∧ t.rcd.general = s.rcd.general) ∧
      (s.rcd.start = none → s.rcd.safety ≠ [] → t.rcd.safety = s.rcd.safety.tail ∧ t.rcd.general = s.rcd.general) ∧
      (s.rcd.start = none → s.rcd.safety = [] → t.rcd.safety = [] ∧ t.rcd.general = s.rcd.general.tail) ∧
      t = { s with bus := t.bus, rcd := t.rcd, nv := { s.nv with mram := t.nv.mram } })) ∧
  (∀ (s : State) (core : Sender) (v : Word), Guarded s core Reg.REC_CLEAR v →
    (v.toNat % 2 ^ 16 = 0xC1EA → s.mode = Mode.commissioning → s.rcd.clear = none → Completes (.recClear core (~~~ v)) s (fun t =>
      t.rcd = { s.rcd with clear := some (core.val, 0), clearTo := 0x400000, clearAt := s.tb.tick } ∧ t.flag F.REC_STAT.CLEARING = true ∧
      RegsBut [Reg.REC_CLEAR, Reg.REC_STAT] s t ∧ (∀ b, t.pendReg b = s.pendReg b) ∧ t = { s with bus := t.bus, rcd := t.rcd })) ∧
    ((v.toNat % 2 ^ 16 ≠ 0xC1EA ∨ s.mode ≠ Mode.commissioning ∨ s.rcd.clear ≠ none) → Completes (.recClear core (~~~ v)) s (fun t =>
      t.flag F.REC_EVENT.CLR_REJ = true ∧ OnlyRegs [Reg.REC_EVENT] s t))) ∧
  (∀ (s : State) (c n : Nat), s.rcd.clear = some (c, n) → n < 2 ^ 32 → Completes .cleared s (fun t =>
    t.rcd.clear = none ∧ t.get F.REC_STAT.NEXT = 1 ∧ t.flag F.REC_STAT.CLEARING = false ∧ t.flag F.REC_STAT.FULL = false ∧
    t.reg Reg.REC_LOST = wd n ∧ mramWord t 0x3000 = wd n ∧ mramWord t 0x3004 = wd n ∧ t.flag F.REC_EVENT.CLEARED = true ∧
    mramWord t (0x430000 + 60) = crc32c (bytesAt t.nv.mram 0x430000 60) ∧ leAt t.nv.mram (0x430000 + 12) 2 = 2 ∧
    mramWord t (0x430000 + 16) = s.reg Reg.REC_LOST ∧
    (∀ j, 0x430000 + 64 ≤ j → j < 0x830000 → smGet 0 t.nv.mram j = 0) ∧
    (∀ j, (j < 0x430000 ∧ (j < 0x3000 ∨ 0x3008 ≤ j) ∨ 0x830000 ≤ j) → smGet 0 t.nv.mram j = smGet 0 s.nv.mram j) ∧
    RegsBut [Reg.REC_STAT, Reg.REC_LOST, Reg.REC_EVENT] s t ∧ (∀ b, t.pendReg b = s.pendReg b) ∧
    t = { s with bus := t.bus, rcd := { s.rcd with clear := none }, nv := { s.nv with mram := t.nv.mram } })) ∧
  (∀ (s : State) (core : Sender) (v : Word), canAccess s core = true → Unguarded s Reg.REC_APP_CMD →
    (0x8000 ≤ v.toNat / 2 ^ 16 → (s.flag F.REC_STAT.FULL = false ∨ s.rcd.clear ≠ none) → s.rcd.general.length < 32 → Completes (.recAppCmd core v) s (fun t =>
      (∃ d, Entered ⟨0x20, core.val, v.toNat / 2 ^ 16, s.tb.sec, s.tb.ns, d⟩ s.rcd.general t.rcd.general ∧ d.length = 44 ∧
        ∀ i, i < 44 → d.getD i 0 = BitVec.ofNat 8 ((s.reg (Reg.REC_APP_DATA (i / 4))).toNat / 2 ^ (8 * (i % 4)))) ∧
      t = { s with rcd := { s.rcd with general := t.rcd.general } })) ∧
    (0x8000 ≤ v.toNat / 2 ^ 16 → s.rcd.clear = none → (s.flag F.REC_STAT.FULL = true ∨ 32 ≤ s.rcd.general.length) →
      Completes (.recAppCmd core v) s (fun t => t.flag F.REC_EVENT.DROP = true ∧
        t.reg Reg.REC_LOST = wd (min 0xFFFFFFFF ((s.reg Reg.REC_LOST).toNat + 1)) ∧ mramWord t 0x3000 = t.reg Reg.REC_LOST ∧
        mramWord t 0x3004 = t.reg Reg.REC_LOST ∧ (∀ j, j < 0x3000 ∨ 0x3008 ≤ j → smGet 0 t.nv.mram j = smGet 0 s.nv.mram j) ∧
        RegsBut [Reg.REC_EVENT, Reg.REC_LOST] s t ∧ (∀ b, t.pendReg b = s.pendReg b) ∧ t = { s with bus := t.bus, nv := { s.nv with mram := t.nv.mram } })) ∧
    (∀ c n, 0x8000 ≤ v.toNat / 2 ^ 16 → s.rcd.clear = some (c, n) → 32 ≤ s.rcd.general.length → Completes (.recAppCmd core v) s (fun t =>
      t.rcd = { s.rcd with clear := some (c, n + 1) } ∧ t.flag F.REC_EVENT.DROP = true ∧ RegsBut [Reg.REC_EVENT] s t ∧
      (∀ b, t.pendReg b = s.pendReg b) ∧ t = { s with bus := t.bus, rcd := t.rcd })) ∧
    (v.toNat / 2 ^ 16 < 0x8000 → Completes (.recAppCmd core v) s (fun t =>
      t.flag F.REC_EVENT.APP_REJ = true ∧ OnlyRegs [Reg.REC_EVENT] s t)))

/-! ### The whole block -/

/-- Every step keeps the invariant: the PTP clock's parts stay in range (R576), and the system SRAM, the MRAM and the Tide code and data
memories keep their canonical form. -/
def Obligations.EveryStepKeepsTheInvariant : Prop :=
  ∀ s t : State, Machine.Inv s → step s = .next t → Machine.Inv t

/-- The state after reset has the invariant; its queue is empty, reset is in force, every register and pending copy holds
the reset value of its row of the register tables, TIM_CFG, TIM_ADDEND and INT_ROUTE's word hold those of chapters 19 and 02, and the clock is 0. (That the SRAM
reads 0 is the model's choice, log entry 68.) -/
def Obligations.ResetHoldsTheInvariant : Prop :=
  Machine.Inv State.reset ∧ State.reset.pending = [] ∧ State.reset.pw.phase = Phase.inReset ∧ (∀ a, State.reset.reg a = wd (regReset a)) ∧
    (∀ a, State.reset.pendReg a = wd (regReset a)) ∧ State.reset.reg Reg.TIM_CFG = 0x400FF8F8 ∧
    State.reset.reg Reg.TIM_ADDEND = 0x80000000 ∧ State.reset.reg 0x400D1400 = 0xB5B5B586 ∧ (∀ j, smGet 0 State.reset.sram j = 0) ∧ State.reset.nowNs = 0

/-- No command answers with the queue changed: exec has its effect on everything but the queue. -/
def Obligations.CommandsLeaveTheQueue : Prop :=
  ∀ (i : Instr) (s t : State), exec i s = .next t → t.pending = s.pending
end

