-- ==== Sys2Proof/Laws/SMap.lean ====
section
/-!
SUPPORT. Laws of the sparse maps: what a read gives after each operation, and that every operation keeps the canonical
form. They hold for the memories (Memory.wf) as for the register file.
-/

namespace Sys2Proof.Machine

variable {α : Type}

theorem smFind_smPut_same (m : List (Nat × α)) (k : Nat) (v : α) : smFind (smPut m k v) k = some v := by
  induction m with
  | nil => simp [smPut, smFind]
  | cons e t ih =>
    unfold smPut
    split
    · simp [smFind]
    · split
      · simp [smFind]
      · rename_i h _
        simp [smFind, h, ih]

theorem smFind_smPut_ne (m : List (Nat × α)) (k j : Nat) (v : α) (h : j ≠ k) :
    smFind (smPut m k v) j = smFind m j := by
  have hk : k ≠ j := fun e => h e.symm
  induction m with
  | nil => simp [smPut, smFind, hk]
  | cons e t ih =>
    unfold smPut
    split
    · rename_i he
      simp [smFind, hk, he]
    · split
      · simp [smFind, hk]
      · simp [smFind, ih]

theorem smFind_smErase_same (m : List (Nat × α)) (k : Nat) : smFind (smErase m k) k = none := by
  induction m with
  | nil => rfl
  | cons e t ih =>
    unfold smErase
    split
    · exact ih
    · rename_i h
      simp [smFind, h, ih]

theorem smFind_smErase_ne (m : List (Nat × α)) (k j : Nat) (h : j ≠ k) : smFind (smErase m k) j = smFind m j := by
  induction m with
  | nil => rfl
  | cons e t ih =>
    unfold smErase
    split
    · rename_i he
      have : e.1 ≠ j := fun x => h (x.symm.trans he)
      simp [smFind, this, ih]
    · simp [smFind, ih]

/-- A read after a write of the same key gives the value written. -/
@[simp] theorem smGet_smSet_same [DecidableEq α] (d : α) (m : List (Nat × α)) (k : Nat) (v : α) :
    smGet d (smSet d m k v) k = v := by
  unfold smSet smGet
  by_cases h : v = d
  · rw [if_pos h, smFind_smErase_same, h]
  · rw [if_neg h, smFind_smPut_same]

/-- A write leaves every other key alone. -/
theorem smGet_smSet_ne [DecidableEq α] (d d' : α) (m : List (Nat × α)) (k j : Nat) (v : α) (h : j ≠ k) :
    smGet d' (smSet d m k v) j = smGet d' m j := by
  unfold smSet smGet
  by_cases hv : v = d
  · rw [if_pos hv, smFind_smErase_ne m k j h]
  · rw [if_neg hv, smFind_smPut_ne m k j v h]

theorem smGet_smSet [DecidableEq α] (d : α) (m : List (Nat × α)) (k j : Nat) (v : α) :
    smGet d (smSet d m k v) j = if j = k then v else smGet d m j := by
  split
  · rename_i h; subst h; exact smGet_smSet_same d m j v
  · rename_i h; exact smGet_smSet_ne d d m k j v h

@[simp] theorem smGet_smMod_same [DecidableEq α] (d : α) (m : List (Nat × α)) (k : Nat) (f : α → α) :
    smGet d (smMod d m k f) k = f (smGet d m k) := smGet_smSet_same d m k _

theorem smGet_smMod_ne [DecidableEq α] (d : α) (m : List (Nat × α)) (k j : Nat) (f : α → α) (h : j ≠ k) :
    smGet d (smMod d m k f) j = smGet d m j := smGet_smSet_ne d d m k j _ h

@[simp] theorem smGet_nil (d : α) (k : Nat) : smGet d [] k = d := rfl

/-! ### The canonical form -/

theorem smWfFrom_mono [DecidableEq α] (d : Nat → α) (m : List (Nat × α)) (a b : Nat) (hab : a ≤ b)
    (h : smWfFrom d b m = true) : smWfFrom d a m = true := by
  cases m with
  | nil => rfl
  | cons e t =>
    simp only [smWfFrom, Bool.and_eq_true, decide_eq_true_eq] at h ⊢
    exact ⟨⟨Nat.le_trans hab h.1.1, h.1.2⟩, h.2⟩

theorem smWfFrom_smPut [DecidableEq α] (d : Nat → α) (m : List (Nat × α)) (a k : Nat) (v : α) (hk : a ≤ k)
    (hv : v ≠ d k) (h : smWfFrom d a m = true) : smWfFrom d a (smPut m k v) = true := by
  induction m generalizing a with
  | nil => simp [smPut, smWfFrom, hk, hv]
  | cons e t ih =>
    simp only [smWfFrom, Bool.and_eq_true, decide_eq_true_eq] at h
    unfold smPut
    split
    · rename_i he
      subst he
      simp [smWfFrom, hk, hv, h.2]
    · split
      · rename_i hlt
        simp only [smWfFrom, Bool.and_eq_true, decide_eq_true_eq]
        exact ⟨⟨hk, hv⟩, ⟨hlt, h.1.2⟩, h.2⟩
      · rename_i hne hnl
        simp only [smWfFrom, Bool.and_eq_true, decide_eq_true_eq]
        exact ⟨h.1, ih (e.1 + 1) (by omega) h.2⟩

theorem smWfFrom_smErase [DecidableEq α] (d : Nat → α) (m : List (Nat × α)) (a k : Nat)
    (h : smWfFrom d a m = true) : smWfFrom d a (smErase m k) = true := by
  induction m generalizing a with
  | nil => rfl
  | cons e t ih =>
    simp only [smWfFrom, Bool.and_eq_true, decide_eq_true_eq] at h
    unfold smErase
    split
    · exact smWfFrom_mono d _ a (e.1 + 1) (by omega) (ih (e.1 + 1) h.2)
    · simp only [smWfFrom, Bool.and_eq_true, decide_eq_true_eq]
      exact ⟨h.1, ih (e.1 + 1) h.2⟩

theorem smWfFrom_filter [DecidableEq α] (d : Nat → α) (m : List (Nat × α)) (a : Nat) (p : Nat × α → Bool)
    (h : smWfFrom d a m = true) : smWfFrom d a (m.filter p) = true := by
  induction m generalizing a with
  | nil => rfl
  | cons e t ih =>
    simp only [smWfFrom, Bool.and_eq_true, decide_eq_true_eq] at h
    rw [List.filter_cons]
    split
    · simp only [smWfFrom, Bool.and_eq_true, decide_eq_true_eq]
      exact ⟨h.1, ih (e.1 + 1) h.2⟩
    · exact smWfFrom_mono d _ a (e.1 + 1) (by omega) (ih (e.1 + 1) h.2)

/-- Writing a key keeps the canonical form. -/
theorem smWf_smSet [DecidableEq α] (d : Nat → α) (m : List (Nat × α)) (k : Nat) (v : α) (h : smWf d m = true) :
    smWf d (smSet (d k) m k v) = true := by
  unfold smSet smWf at *
  split
  · exact smWfFrom_smErase d m 0 k h
  · rename_i hv
    exact smWfFrom_smPut d m 0 k v (Nat.zero_le k) hv h

/-- A map built from any list of entries is in canonical form. -/
theorem smWf_smBuild [DecidableEq α] (d : α) (l : List (Nat × α)) : smWf (fun _ => d) (smBuild d l) = true := by
  unfold smBuild
  suffices h : ∀ m : List (Nat × α), smWf (fun _ => d) m = true →
      smWf (fun _ => d) (l.foldl (fun m e => smSet d m e.1 e.2) m) = true from h [] rfl
  induction l with
  | nil => exact fun m h => h
  | cons e t ih => exact fun m h => ih _ (smWf_smSet (fun _ => d) m e.1 e.2 h)

/-- Filtering keys keeps the canonical form. -/
theorem smWf_smFilter [DecidableEq α] (d : Nat → α) (p : Nat → Bool) (m : List (Nat × α)) (h : smWf d m = true) :
    smWf d (smFilter p m) = true := smWfFrom_filter d m 0 _ h

/-! ### Memories -/

/-- Writing bytes keeps a memory's canonical form. -/
theorem Memory.wf_putBytes (m : List Host.Cell) (a : Nat) (bs : List Byte) (h : Memory.wf m = true) :
    Memory.wf (putBytes m a bs) = true := by
  induction bs generalizing m a with
  | nil => exact h
  | cons b t ih => exact ih _ _ (smWf_smSet (fun _ => (0 : Byte)) m a b h)

/-- Clearing a range of a memory keeps its canonical form. -/
theorem Memory.wf_smFilter (m : List Host.Cell) (p : Nat → Bool) (h : Memory.wf m = true) :
    Memory.wf (smFilter p m) = true := smWf_smFilter _ p m h

/-- The memories at reset are in canonical form. -/
theorem Memory.wf_reset : Memory.wf State.reset.sram = true ∧ Memory.wf State.reset.nv.mram = true := by decide

/-- A byte outside the bytes written reads as before. -/
theorem smGet_putBytes_ne (m : List (Nat × Byte)) (a : Nat) (bs : List Byte) (j : Nat)
    (h : j < a ∨ a + bs.length ≤ j) : smGet 0 (putBytes m a bs) j = smGet 0 m j := by
  induction bs generalizing m a with
  | nil => rfl
  | cons b t ih =>
    simp only [putBytes, List.length_cons] at *
    rw [ih _ _ (by omega), smGet_smSet_ne 0 0 m a j b (by omega)]

/-- A byte written reads as written. -/
theorem smGet_putBytes (m : List (Nat × Byte)) (a : Nat) (bs : List Byte) (i : Nat) (h : i < bs.length) :
    smGet 0 (putBytes m a bs) (a + i) = bs[i] := by
  induction bs generalizing m a i with
  | nil => simp at h
  | cons b t ih =>
    simp only [putBytes]
    cases i with
    | zero =>
      rw [Nat.add_zero, smGet_putBytes_ne _ _ _ _ (by omega)]
      simp
    | succ n =>
      have := ih (smSet 0 m a b) (a + 1) n (by simpa using h)
      rw [show a + (n + 1) = a + 1 + n by omega, this]
      simp

end Sys2Proof.Machine
end

