-- ==== Sys2Proof/Laws/State.lean ====
section
/-!
SUPPORT. What each named update of the state leaves alone, one lemma per field, and what a register reads as after it.
-/

namespace Sys2Proof.Machine

open Sys2Proof

/-! ### Registers -/

/-- A register reads as written. -/
@[simp] theorem State.reg_setReg_same (s : State) (a : Nat) (w : Word) : (s.setReg a w).reg a = w := smGet_smSet_same _ _ _ _

/-- A register write leaves every other register alone. -/
theorem State.reg_setReg_ne (s : State) (a b : Nat) (w : Word) (h : b ≠ a) : (s.setReg a w).reg b = s.reg b :=
  smGet_smSet_ne _ _ _ _ _ _ h

theorem State.reg_setReg (s : State) (a b : Nat) (w : Word) : (s.setReg a w).reg b = if b = a then w else s.reg b := by
  split
  · rename_i h; subst h; exact State.reg_setReg_same s b w
  · rename_i h; exact State.reg_setReg_ne s a b w h

/-- A field write leaves every other register alone. -/
theorem State.reg_put_ne (s : State) (f : FRef) (v b : Nat) (h : b ≠ f.addr) : (s.put f v).reg b = s.reg b :=
  State.reg_setReg_ne _ _ _ _ h

theorem State.reg_ev_ne (s : State) (f : FRef) (b : Nat) (h : b ≠ f.addr) : (s.ev f).reg b = s.reg b :=
  State.reg_put_ne s f 1 b h

theorem State.reg_evBit_ne (s : State) (f : FRef) (n b : Nat) (h : b ≠ f.addr) : (s.evBit f n).reg b = s.reg b :=
  State.reg_put_ne s f _ b h

theorem State.reg_clrBit_ne (s : State) (f : FRef) (n b : Nat) (h : b ≠ f.addr) : (s.clrBit f n).reg b = s.reg b :=
  State.reg_put_ne s f _ b h

/-- A write of values in force leaves the pending copies alone. -/
@[simp] theorem State.pendReg_setReg (s : State) (a b : Nat) (w : Word) : (s.setReg a w).pendReg b = s.pendReg b := rfl

/-- A write of a pending copy leaves the values in force alone. -/
@[simp] theorem State.reg_setPend (s : State) (a b : Nat) (w : Word) : (s.setPend a w).reg b = s.reg b := rfl

@[simp] theorem State.pendReg_setPend_same (s : State) (a : Nat) (w : Word) : (s.setPend a w).pendReg a = w :=
  smGet_smSet_same _ _ _ _

theorem State.pendReg_setPend_ne (s : State) (a b : Nat) (w : Word) (h : b ≠ a) : (s.setPend a w).pendReg b = s.pendReg b :=
  smGet_smSet_ne _ _ _ _ _ _ h

/-! ### Records -/

@[simp] theorem State.axis_modAxis_same (s : State) (n : Nat) (f : Axis → Axis) : (s.modAxis n f).axis n = f (s.axis n) :=
  smGet_smMod_same _ _ _ _
theorem State.axis_modAxis_ne (s : State) (n m : Nat) (f : Axis → Axis) (h : m ≠ n) : (s.modAxis n f).axis m = s.axis m :=
  smGet_smMod_ne _ _ _ _ _ h
@[simp] theorem State.car_modCar_same (s : State) (n : Nat) (f : CarRec → CarRec) : (s.modCar n f).car n = f (s.car n) :=
  smGet_smMod_same _ _ _ _
theorem State.car_modCar_ne (s : State) (n m : Nat) (f : CarRec → CarRec) (h : m ≠ n) : (s.modCar n f).car m = s.car m :=
  smGet_smMod_ne _ _ _ _ _ h
@[simp] theorem State.chan_modChan_same (s : State) (n : Nat) (f : ChanView → ChanView) :
    (s.modChan n f).chan n = f (s.chan n) := smGet_smMod_same _ _ _ _
theorem State.chan_modChan_ne (s : State) (n m : Nat) (f : ChanView → ChanView) (h : m ≠ n) :
    (s.modChan n f).chan m = s.chan m := smGet_smMod_ne _ _ _ _ _ h
@[simp] theorem State.door_modDoor_same (s : State) (n : Nat) (f : Door → Door) : (s.modDoor n f).door n = f (s.door n) :=
  smGet_smMod_same _ _ _ _
theorem State.door_modDoor_ne (s : State) (n m : Nat) (f : Door → Door) (h : m ≠ n) : (s.modDoor n f).door m = s.door m :=
  smGet_smMod_ne _ _ _ _ _ h
@[simp] theorem State.fb_modFb_same (s : State) (n : Nat) (f : FbCh → FbCh) : (s.modFb n f).fb n = f (s.fb n) :=
  smGet_smMod_same _ _ _ _
theorem State.fb_modFb_ne (s : State) (n m : Nat) (f : FbCh → FbCh) (h : m ≠ n) : (s.modFb n f).fb m = s.fb m :=
  smGet_smMod_ne _ _ _ _ _ h
@[simp] theorem State.die_modDie_same (s : State) (n : Nat) (f : Die → Die) : (s.modDie n f).die n = f (s.die n) :=
  smGet_smMod_same _ _ _ _
theorem State.die_modDie_ne (s : State) (n m : Nat) (f : Die → Die) (h : m ≠ n) : (s.modDie n f).die m = s.die m :=
  smGet_smMod_ne _ _ _ _ _ h
@[simp] theorem State.ser_modSer_same (s : State) (n : Nat) (f : SerPort → SerPort) : (s.modSer n f).ser n = f (s.ser n) :=
  smGet_smMod_same _ _ _ _
@[simp] theorem State.slkPort_modPort_same (s : State) (n : Nat) (f : SlkPort → SlkPort) :
    (s.modPort n f).slkPort n = f (s.slkPort n) := smGet_smMod_same _ _ _ _
@[simp] theorem State.slot_modSlot_same (s : State) (n : Nat) (f : SlotSt → SlotSt) : (s.modSlot n f).slot n = f (s.slot n) :=
  smGet_smMod_same _ _ _ _

/-! ### Other fields -/

theorem State.pending_mk (p0 p1 p2 p3 p4 p5 p6 p7 p8 p9 p10 p11 p12 p13 p14 p15 p16 p17 p18 p19 p20 p21 p22 p23 p24) : (State.mk p0 p1 p2 p3 p4 p5 p6 p7 p8 p9 p10 p11 p12 p13 p14 p15 p16 p17 p18 p19 p20 p21 p22 p23 p24).pending = p0 := rfl
theorem State.free_mk (p0 p1 p2 p3 p4 p5 p6 p7 p8 p9 p10 p11 p12 p13 p14 p15 p16 p17 p18 p19 p20 p21 p22 p23 p24) : (State.mk p0 p1 p2 p3 p4 p5 p6 p7 p8 p9 p10 p11 p12 p13 p14 p15 p16 p17 p18 p19 p20 p21 p22 p23 p24).free = p1 := rfl
theorem State.tx_mk (p0 p1 p2 p3 p4 p5 p6 p7 p8 p9 p10 p11 p12 p13 p14 p15 p16 p17 p18 p19 p20 p21 p22 p23 p24) : (State.mk p0 p1 p2 p3 p4 p5 p6 p7 p8 p9 p10 p11 p12 p13 p14 p15 p16 p17 p18 p19 p20 p21 p22 p23 p24).tx = p2 := rfl
theorem State.bus_mk (p0 p1 p2 p3 p4 p5 p6 p7 p8 p9 p10 p11 p12 p13 p14 p15 p16 p17 p18 p19 p20 p21 p22 p23 p24) : (State.mk p0 p1 p2 p3 p4 p5 p6 p7 p8 p9 p10 p11 p12 p13 p14 p15 p16 p17 p18 p19 p20 p21 p22 p23 p24).bus = p3 := rfl
theorem State.tb_mk (p0 p1 p2 p3 p4 p5 p6 p7 p8 p9 p10 p11 p12 p13 p14 p15 p16 p17 p18 p19 p20 p21 p22 p23 p24) : (State.mk p0 p1 p2 p3 p4 p5 p6 p7 p8 p9 p10 p11 p12 p13 p14 p15 p16 p17 p18 p19 p20 p21 p22 p23 p24).tb = p4 := rfl
theorem State.pw_mk (p0 p1 p2 p3 p4 p5 p6 p7 p8 p9 p10 p11 p12 p13 p14 p15 p16 p17 p18 p19 p20 p21 p22 p23 p24) : (State.mk p0 p1 p2 p3 p4 p5 p6 p7 p8 p9 p10 p11 p12 p13 p14 p15 p16 p17 p18 p19 p20 p21 p22 p23 p24).pw = p5 := rfl
theorem State.nv_mk (p0 p1 p2 p3 p4 p5 p6 p7 p8 p9 p10 p11 p12 p13 p14 p15 p16 p17 p18 p19 p20 p21 p22 p23 p24) : (State.mk p0 p1 p2 p3 p4 p5 p6 p7 p8 p9 p10 p11 p12 p13 p14 p15 p16 p17 p18 p19 p20 p21 p22 p23 p24).nv = p6 := rfl
theorem State.conf_mk (p0 p1 p2 p3 p4 p5 p6 p7 p8 p9 p10 p11 p12 p13 p14 p15 p16 p17 p18 p19 p20 p21 p22 p23 p24) : (State.mk p0 p1 p2 p3 p4 p5 p6 p7 p8 p9 p10 p11 p12 p13 p14 p15 p16 p17 p18 p19 p20 p21 p22 p23 p24).conf = p7 := rfl
theorem State.pins_mk (p0 p1 p2 p3 p4 p5 p6 p7 p8 p9 p10 p11 p12 p13 p14 p15 p16 p17 p18 p19 p20 p21 p22 p23 p24) : (State.mk p0 p1 p2 p3 p4 p5 p6 p7 p8 p9 p10 p11 p12 p13 p14 p15 p16 p17 p18 p19 p20 p21 p22 p23 p24).pins = p8 := rfl
theorem State.sram_mk (p0 p1 p2 p3 p4 p5 p6 p7 p8 p9 p10 p11 p12 p13 p14 p15 p16 p17 p18 p19 p20 p21 p22 p23 p24) : (State.mk p0 p1 p2 p3 p4 p5 p6 p7 p8 p9 p10 p11 p12 p13 p14 p15 p16 p17 p18 p19 p20 p21 p22 p23 p24).sram = p9 := rfl
theorem State.caches_mk (p0 p1 p2 p3 p4 p5 p6 p7 p8 p9 p10 p11 p12 p13 p14 p15 p16 p17 p18 p19 p20 p21 p22 p23 p24) : (State.mk p0 p1 p2 p3 p4 p5 p6 p7 p8 p9 p10 p11 p12 p13 p14 p15 p16 p17 p18 p19 p20 p21 p22 p23 p24).caches = p10 := rfl
theorem State.tide_mk (p0 p1 p2 p3 p4 p5 p6 p7 p8 p9 p10 p11 p12 p13 p14 p15 p16 p17 p18 p19 p20 p21 p22 p23 p24) : (State.mk p0 p1 p2 p3 p4 p5 p6 p7 p8 p9 p10 p11 p12 p13 p14 p15 p16 p17 p18 p19 p20 p21 p22 p23 p24).tide = p11 := rfl
theorem State.cars_mk (p0 p1 p2 p3 p4 p5 p6 p7 p8 p9 p10 p11 p12 p13 p14 p15 p16 p17 p18 p19 p20 p21 p22 p23 p24) : (State.mk p0 p1 p2 p3 p4 p5 p6 p7 p8 p9 p10 p11 p12 p13 p14 p15 p16 p17 p18 p19 p20 p21 p22 p23 p24).cars = p12 := rfl
theorem State.chans_mk (p0 p1 p2 p3 p4 p5 p6 p7 p8 p9 p10 p11 p12 p13 p14 p15 p16 p17 p18 p19 p20 p21 p22 p23 p24) : (State.mk p0 p1 p2 p3 p4 p5 p6 p7 p8 p9 p10 p11 p12 p13 p14 p15 p16 p17 p18 p19 p20 p21 p22 p23 p24).chans = p13 := rfl
theorem State.trj_mk (p0 p1 p2 p3 p4 p5 p6 p7 p8 p9 p10 p11 p12 p13 p14 p15 p16 p17 p18 p19 p20 p21 p22 p23 p24) : (State.mk p0 p1 p2 p3 p4 p5 p6 p7 p8 p9 p10 p11 p12 p13 p14 p15 p16 p17 p18 p19 p20 p21 p22 p23 p24).trj = p14 := rfl
theorem State.doors_mk (p0 p1 p2 p3 p4 p5 p6 p7 p8 p9 p10 p11 p12 p13 p14 p15 p16 p17 p18 p19 p20 p21 p22 p23 p24) : (State.mk p0 p1 p2 p3 p4 p5 p6 p7 p8 p9 p10 p11 p12 p13 p14 p15 p16 p17 p18 p19 p20 p21 p22 p23 p24).doors = p15 := rfl
theorem State.cmm_mk (p0 p1 p2 p3 p4 p5 p6 p7 p8 p9 p10 p11 p12 p13 p14 p15 p16 p17 p18 p19 p20 p21 p22 p23 p24) : (State.mk p0 p1 p2 p3 p4 p5 p6 p7 p8 p9 p10 p11 p12 p13 p14 p15 p16 p17 p18 p19 p20 p21 p22 p23 p24).cmm = p16 := rfl
theorem State.slk_mk (p0 p1 p2 p3 p4 p5 p6 p7 p8 p9 p10 p11 p12 p13 p14 p15 p16 p17 p18 p19 p20 p21 p22 p23 p24) : (State.mk p0 p1 p2 p3 p4 p5 p6 p7 p8 p9 p10 p11 p12 p13 p14 p15 p16 p17 p18 p19 p20 p21 p22 p23 p24).slk = p17 := rfl
theorem State.fbk_mk (p0 p1 p2 p3 p4 p5 p6 p7 p8 p9 p10 p11 p12 p13 p14 p15 p16 p17 p18 p19 p20 p21 p22 p23 p24) : (State.mk p0 p1 p2 p3 p4 p5 p6 p7 p8 p9 p10 p11 p12 p13 p14 p15 p16 p17 p18 p19 p20 p21 p22 p23 p24).fbk = p18 := rfl
theorem State.fio_mk (p0 p1 p2 p3 p4 p5 p6 p7 p8 p9 p10 p11 p12 p13 p14 p15 p16 p17 p18 p19 p20 p21 p22 p23 p24) : (State.mk p0 p1 p2 p3 p4 p5 p6 p7 p8 p9 p10 p11 p12 p13 p14 p15 p16 p17 p18 p19 p20 p21 p22 p23 p24).fio = p19 := rfl
theorem State.saf_mk (p0 p1 p2 p3 p4 p5 p6 p7 p8 p9 p10 p11 p12 p13 p14 p15 p16 p17 p18 p19 p20 p21 p22 p23 p24) : (State.mk p0 p1 p2 p3 p4 p5 p6 p7 p8 p9 p10 p11 p12 p13 p14 p15 p16 p17 p18 p19 p20 p21 p22 p23 p24).saf = p20 := rfl
theorem State.bss_mk (p0 p1 p2 p3 p4 p5 p6 p7 p8 p9 p10 p11 p12 p13 p14 p15 p16 p17 p18 p19 p20 p21 p22 p23 p24) : (State.mk p0 p1 p2 p3 p4 p5 p6 p7 p8 p9 p10 p11 p12 p13 p14 p15 p16 p17 p18 p19 p20 p21 p22 p23 p24).bss = p21 := rfl
theorem State.fab_mk (p0 p1 p2 p3 p4 p5 p6 p7 p8 p9 p10 p11 p12 p13 p14 p15 p16 p17 p18 p19 p20 p21 p22 p23 p24) : (State.mk p0 p1 p2 p3 p4 p5 p6 p7 p8 p9 p10 p11 p12 p13 p14 p15 p16 p17 p18 p19 p20 p21 p22 p23 p24).fab = p22 := rfl
theorem State.nbTs_mk (p0 p1 p2 p3 p4 p5 p6 p7 p8 p9 p10 p11 p12 p13 p14 p15 p16 p17 p18 p19 p20 p21 p22 p23 p24) : (State.mk p0 p1 p2 p3 p4 p5 p6 p7 p8 p9 p10 p11 p12 p13 p14 p15 p16 p17 p18 p19 p20 p21 p22 p23 p24).nbTs = p23 := rfl
theorem State.rcd_mk (p0 p1 p2 p3 p4 p5 p6 p7 p8 p9 p10 p11 p12 p13 p14 p15 p16 p17 p18 p19 p20 p21 p22 p23 p24) : (State.mk p0 p1 p2 p3 p4 p5 p6 p7 p8 p9 p10 p11 p12 p13 p14 p15 p16 p17 p18 p19 p20 p21 p22 p23 p24).rcd = p24 := rfl

@[simp] theorem State.setReg_pending (s : State) (a : Nat) (w : Word) : (s.setReg a w).pending = s.pending :=
  State.pending_mk _ _ _ _ _ _ _ _ _ _ _ _ _ _ _ _ _ _ _ _ _ _ _ _ _
@[simp] theorem State.setReg_free (s : State) (a : Nat) (w : Word) : (s.setReg a w).free = s.free :=
  State.free_mk _ _ _ _ _ _ _ _ _ _ _ _ _ _ _ _ _ _ _ _ _ _ _ _ _
@[simp] theorem State.setReg_tx (s : State) (a : Nat) (w : Word) : (s.setReg a w).tx = s.tx :=
  State.tx_mk _ _ _ _ _ _ _ _ _ _ _ _ _ _ _ _ _ _ _ _ _ _ _ _ _
@[simp] theorem State.setReg_tb (s : State) (a : Nat) (w : Word) : (s.setReg a w).tb = s.tb :=
  State.tb_mk _ _ _ _ _ _ _ _ _ _ _ _ _ _ _ _ _ _ _ _ _ _ _ _ _
@[simp] theorem State.setReg_pw (s : State) (a : Nat) (w : Word) : (s.setReg a w).pw = s.pw :=
  State.pw_mk _ _ _ _ _ _ _ _ _ _ _ _ _ _ _ _ _ _ _ _ _ _ _ _ _
@[simp] theorem State.setReg_nv (s : State) (a : Nat) (w : Word) : (s.setReg a w).nv = s.nv :=
  State.nv_mk _ _ _ _ _ _ _ _ _ _ _ _ _ _ _ _ _ _ _ _ _ _ _ _ _
@[simp] theorem State.setReg_conf (s : State) (a : Nat) (w : Word) : (s.setReg a w).conf = s.conf :=
  State.conf_mk _ _ _ _ _ _ _ _ _ _ _ _ _ _ _ _ _ _ _ _ _ _ _ _ _
@[simp] theorem State.setReg_pins (s : State) (a : Nat) (w : Word) : (s.setReg a w).pins = s.pins :=
  State.pins_mk _ _ _ _ _ _ _ _ _ _ _ _ _ _ _ _ _ _ _ _ _ _ _ _ _
@[simp] theorem State.setReg_sram (s : State) (a : Nat) (w : Word) : (s.setReg a w).sram = s.sram :=
  State.sram_mk _ _ _ _ _ _ _ _ _ _ _ _ _ _ _ _ _ _ _ _ _ _ _ _ _
@[simp] theorem State.setReg_caches (s : State) (a : Nat) (w : Word) : (s.setReg a w).caches = s.caches :=
  State.caches_mk _ _ _ _ _ _ _ _ _ _ _ _ _ _ _ _ _ _ _ _ _ _ _ _ _
@[simp] theorem State.setReg_tide (s : State) (a : Nat) (w : Word) : (s.setReg a w).tide = s.tide :=
  State.tide_mk _ _ _ _ _ _ _ _ _ _ _ _ _ _ _ _ _ _ _ _ _ _ _ _ _
@[simp] theorem State.setReg_cars (s : State) (a : Nat) (w : Word) : (s.setReg a w).cars = s.cars :=
  State.cars_mk _ _ _ _ _ _ _ _ _ _ _ _ _ _ _ _ _ _ _ _ _ _ _ _ _
@[simp] theorem State.setReg_chans (s : State) (a : Nat) (w : Word) : (s.setReg a w).chans = s.chans :=
  State.chans_mk _ _ _ _ _ _ _ _ _ _ _ _ _ _ _ _ _ _ _ _ _ _ _ _ _
@[simp] theorem State.setReg_trj (s : State) (a : Nat) (w : Word) : (s.setReg a w).trj = s.trj :=
  State.trj_mk _ _ _ _ _ _ _ _ _ _ _ _ _ _ _ _ _ _ _ _ _ _ _ _ _
@[simp] theorem State.setReg_doors (s : State) (a : Nat) (w : Word) : (s.setReg a w).doors = s.doors :=
  State.doors_mk _ _ _ _ _ _ _ _ _ _ _ _ _ _ _ _ _ _ _ _ _ _ _ _ _
@[simp] theorem State.setReg_cmm (s : State) (a : Nat) (w : Word) : (s.setReg a w).cmm = s.cmm :=
  State.cmm_mk _ _ _ _ _ _ _ _ _ _ _ _ _ _ _ _ _ _ _ _ _ _ _ _ _
@[simp] theorem State.setReg_slk (s : State) (a : Nat) (w : Word) : (s.setReg a w).slk = s.slk :=
  State.slk_mk _ _ _ _ _ _ _ _ _ _ _ _ _ _ _ _ _ _ _ _ _ _ _ _ _
@[simp] theorem State.setReg_fbk (s : State) (a : Nat) (w : Word) : (s.setReg a w).fbk = s.fbk :=
  State.fbk_mk _ _ _ _ _ _ _ _ _ _ _ _ _ _ _ _ _ _ _ _ _ _ _ _ _
@[simp] theorem State.setReg_fio (s : State) (a : Nat) (w : Word) : (s.setReg a w).fio = s.fio :=
  State.fio_mk _ _ _ _ _ _ _ _ _ _ _ _ _ _ _ _ _ _ _ _ _ _ _ _ _
@[simp] theorem State.setReg_saf (s : State) (a : Nat) (w : Word) : (s.setReg a w).saf = s.saf :=
  State.saf_mk _ _ _ _ _ _ _ _ _ _ _ _ _ _ _ _ _ _ _ _ _ _ _ _ _
@[simp] theorem State.setReg_bss (s : State) (a : Nat) (w : Word) : (s.setReg a w).bss = s.bss :=
  State.bss_mk _ _ _ _ _ _ _ _ _ _ _ _ _ _ _ _ _ _ _ _ _ _ _ _ _
@[simp] theorem State.setReg_fab (s : State) (a : Nat) (w : Word) : (s.setReg a w).fab = s.fab :=
  State.fab_mk _ _ _ _ _ _ _ _ _ _ _ _ _ _ _ _ _ _ _ _ _ _ _ _ _
@[simp] theorem State.setReg_nbTs (s : State) (a : Nat) (w : Word) : (s.setReg a w).nbTs = s.nbTs :=
  State.nbTs_mk _ _ _ _ _ _ _ _ _ _ _ _ _ _ _ _ _ _ _ _ _ _ _ _ _
@[simp] theorem State.setReg_rcd (s : State) (a : Nat) (w : Word) : (s.setReg a w).rcd = s.rcd :=
  State.rcd_mk _ _ _ _ _ _ _ _ _ _ _ _ _ _ _ _ _ _ _ _ _ _ _ _ _

@[simp] theorem State.setPend_pending (s : State) (a : Nat) (w : Word) : (s.setPend a w).pending = s.pending :=
  State.pending_mk _ _ _ _ _ _ _ _ _ _ _ _ _ _ _ _ _ _ _ _ _ _ _ _ _
@[simp] theorem State.setPend_free (s : State) (a : Nat) (w : Word) : (s.setPend a w).free = s.free :=
  State.free_mk _ _ _ _ _ _ _ _ _ _ _ _ _ _ _ _ _ _ _ _ _ _ _ _ _
@[simp] theorem State.setPend_tx (s : State) (a : Nat) (w : Word) : (s.setPend a w).tx = s.tx :=
  State.tx_mk _ _ _ _ _ _ _ _ _ _ _ _ _ _ _ _ _ _ _ _ _ _ _ _ _
@[simp] theorem State.setPend_tb (s : State) (a : Nat) (w : Word) : (s.setPend a w).tb = s.tb :=
  State.tb_mk _ _ _ _ _ _ _ _ _ _ _ _ _ _ _ _ _ _ _ _ _ _ _ _ _
@[simp] theorem State.setPend_pw (s : State) (a : Nat) (w : Word) : (s.setPend a w).pw = s.pw :=
  State.pw_mk _ _ _ _ _ _ _ _ _ _ _ _ _ _ _ _ _ _ _ _ _ _ _ _ _
@[simp] theorem State.setPend_nv (s : State) (a : Nat) (w : Word) : (s.setPend a w).nv = s.nv :=
  State.nv_mk _ _ _ _ _ _ _ _ _ _ _ _ _ _ _ _ _ _ _ _ _ _ _ _ _
@[simp] theorem State.setPend_conf (s : State) (a : Nat) (w : Word) : (s.setPend a w).conf = s.conf :=
  State.conf_mk _ _ _ _ _ _ _ _ _ _ _ _ _ _ _ _ _ _ _ _ _ _ _ _ _
@[simp] theorem State.setPend_pins (s : State) (a : Nat) (w : Word) : (s.setPend a w).pins = s.pins :=
  State.pins_mk _ _ _ _ _ _ _ _ _ _ _ _ _ _ _ _ _ _ _ _ _ _ _ _ _
@[simp] theorem State.setPend_sram (s : State) (a : Nat) (w : Word) : (s.setPend a w).sram = s.sram :=
  State.sram_mk _ _ _ _ _ _ _ _ _ _ _ _ _ _ _ _ _ _ _ _ _ _ _ _ _
@[simp] theorem State.setPend_caches (s : State) (a : Nat) (w : Word) : (s.setPend a w).caches = s.caches :=
  State.caches_mk _ _ _ _ _ _ _ _ _ _ _ _ _ _ _ _ _ _ _ _ _ _ _ _ _
@[simp] theorem State.setPend_tide (s : State) (a : Nat) (w : Word) : (s.setPend a w).tide = s.tide :=
  State.tide_mk _ _ _ _ _ _ _ _ _ _ _ _ _ _ _ _ _ _ _ _ _ _ _ _ _
@[simp] theorem State.setPend_cars (s : State) (a : Nat) (w : Word) : (s.setPend a w).cars = s.cars :=
  State.cars_mk _ _ _ _ _ _ _ _ _ _ _ _ _ _ _ _ _ _ _ _ _ _ _ _ _
@[simp] theorem State.setPend_chans (s : State) (a : Nat) (w : Word) : (s.setPend a w).chans = s.chans :=
  State.chans_mk _ _ _ _ _ _ _ _ _ _ _ _ _ _ _ _ _ _ _ _ _ _ _ _ _
@[simp] theorem State.setPend_trj (s : State) (a : Nat) (w : Word) : (s.setPend a w).trj = s.trj :=
  State.trj_mk _ _ _ _ _ _ _ _ _ _ _ _ _ _ _ _ _ _ _ _ _ _ _ _ _
@[simp] theorem State.setPend_doors (s : State) (a : Nat) (w : Word) : (s.setPend a w).doors = s.doors :=
  State.doors_mk _ _ _ _ _ _ _ _ _ _ _ _ _ _ _ _ _ _ _ _ _ _ _ _ _
@[simp] theorem State.setPend_cmm (s : State) (a : Nat) (w : Word) : (s.setPend a w).cmm = s.cmm :=
  State.cmm_mk _ _ _ _ _ _ _ _ _ _ _ _ _ _ _ _ _ _ _ _ _ _ _ _ _
@[simp] theorem State.setPend_slk (s : State) (a : Nat) (w : Word) : (s.setPend a w).slk = s.slk :=
  State.slk_mk _ _ _ _ _ _ _ _ _ _ _ _ _ _ _ _ _ _ _ _ _ _ _ _ _
@[simp] theorem State.setPend_fbk (s : State) (a : Nat) (w : Word) : (s.setPend a w).fbk = s.fbk :=
  State.fbk_mk _ _ _ _ _ _ _ _ _ _ _ _ _ _ _ _ _ _ _ _ _ _ _ _ _
@[simp] theorem State.setPend_fio (s : State) (a : Nat) (w : Word) : (s.setPend a w).fio = s.fio :=
  State.fio_mk _ _ _ _ _ _ _ _ _ _ _ _ _ _ _ _ _ _ _ _ _ _ _ _ _
@[simp] theorem State.setPend_saf (s : State) (a : Nat) (w : Word) : (s.setPend a w).saf = s.saf :=
  State.saf_mk _ _ _ _ _ _ _ _ _ _ _ _ _ _ _ _ _ _ _ _ _ _ _ _ _
@[simp] theorem State.setPend_bss (s : State) (a : Nat) (w : Word) : (s.setPend a w).bss = s.bss :=
  State.bss_mk _ _ _ _ _ _ _ _ _ _ _ _ _ _ _ _ _ _ _ _ _ _ _ _ _
@[simp] theorem State.setPend_fab (s : State) (a : Nat) (w : Word) : (s.setPend a w).fab = s.fab :=
  State.fab_mk _ _ _ _ _ _ _ _ _ _ _ _ _ _ _ _ _ _ _ _ _ _ _ _ _
@[simp] theorem State.setPend_nbTs (s : State) (a : Nat) (w : Word) : (s.setPend a w).nbTs = s.nbTs :=
  State.nbTs_mk _ _ _ _ _ _ _ _ _ _ _ _ _ _ _ _ _ _ _ _ _ _ _ _ _
@[simp] theorem State.setPend_rcd (s : State) (a : Nat) (w : Word) : (s.setPend a w).rcd = s.rcd :=
  State.rcd_mk _ _ _ _ _ _ _ _ _ _ _ _ _ _ _ _ _ _ _ _ _ _ _ _ _

@[simp] theorem State.put_pending (s : State) (f : FRef) (v : Nat) : (s.put f v).pending = s.pending :=
  State.setReg_pending s _ _
@[simp] theorem State.put_free (s : State) (f : FRef) (v : Nat) : (s.put f v).free = s.free :=
  State.setReg_free s _ _
@[simp] theorem State.put_tx (s : State) (f : FRef) (v : Nat) : (s.put f v).tx = s.tx :=
  State.setReg_tx s _ _
@[simp] theorem State.put_tb (s : State) (f : FRef) (v : Nat) : (s.put f v).tb = s.tb :=
  State.setReg_tb s _ _
@[simp] theorem State.put_pw (s : State) (f : FRef) (v : Nat) : (s.put f v).pw = s.pw :=
  State.setReg_pw s _ _
@[simp] theorem State.put_nv (s : State) (f : FRef) (v : Nat) : (s.put f v).nv = s.nv :=
  State.setReg_nv s _ _
@[simp] theorem State.put_conf (s : State) (f : FRef) (v : Nat) : (s.put f v).conf = s.conf :=
  State.setReg_conf s _ _
@[simp] theorem State.put_pins (s : State) (f : FRef) (v : Nat) : (s.put f v).pins = s.pins :=
  State.setReg_pins s _ _
@[simp] theorem State.put_sram (s : State) (f : FRef) (v : Nat) : (s.put f v).sram = s.sram :=
  State.setReg_sram s _ _
@[simp] theorem State.put_caches (s : State) (f : FRef) (v : Nat) : (s.put f v).caches = s.caches :=
  State.setReg_caches s _ _
@[simp] theorem State.put_tide (s : State) (f : FRef) (v : Nat) : (s.put f v).tide = s.tide :=
  State.setReg_tide s _ _
@[simp] theorem State.put_cars (s : State) (f : FRef) (v : Nat) : (s.put f v).cars = s.cars :=
  State.setReg_cars s _ _
@[simp] theorem State.put_chans (s : State) (f : FRef) (v : Nat) : (s.put f v).chans = s.chans :=
  State.setReg_chans s _ _
@[simp] theorem State.put_trj (s : State) (f : FRef) (v : Nat) : (s.put f v).trj = s.trj :=
  State.setReg_trj s _ _
@[simp] theorem State.put_doors (s : State) (f : FRef) (v : Nat) : (s.put f v).doors = s.doors :=
  State.setReg_doors s _ _
@[simp] theorem State.put_cmm (s : State) (f : FRef) (v : Nat) : (s.put f v).cmm = s.cmm :=
  State.setReg_cmm s _ _
@[simp] theorem State.put_slk (s : State) (f : FRef) (v : Nat) : (s.put f v).slk = s.slk :=
  State.setReg_slk s _ _
@[simp] theorem State.put_fbk (s : State) (f : FRef) (v : Nat) : (s.put f v).fbk = s.fbk :=
  State.setReg_fbk s _ _
@[simp] theorem State.put_fio (s : State) (f : FRef) (v : Nat) : (s.put f v).fio = s.fio :=
  State.setReg_fio s _ _
@[simp] theorem State.put_saf (s : State) (f : FRef) (v : Nat) : (s.put f v).saf = s.saf :=
  State.setReg_saf s _ _
@[simp] theorem State.put_bss (s : State) (f : FRef) (v : Nat) : (s.put f v).bss = s.bss :=
  State.setReg_bss s _ _
@[simp] theorem State.put_fab (s : State) (f : FRef) (v : Nat) : (s.put f v).fab = s.fab :=
  State.setReg_fab s _ _
@[simp] theorem State.put_nbTs (s : State) (f : FRef) (v : Nat) : (s.put f v).nbTs = s.nbTs :=
  State.setReg_nbTs s _ _
@[simp] theorem State.put_rcd (s : State) (f : FRef) (v : Nat) : (s.put f v).rcd = s.rcd :=
  State.setReg_rcd s _ _

@[simp] theorem State.putB_pending (s : State) (f : FRef) (b : Bool) : (s.putB f b).pending = s.pending :=
  State.put_pending s _ _
@[simp] theorem State.putB_free (s : State) (f : FRef) (b : Bool) : (s.putB f b).free = s.free :=
  State.put_free s _ _
@[simp] theorem State.putB_tx (s : State) (f : FRef) (b : Bool) : (s.putB f b).tx = s.tx :=
  State.put_tx s _ _
@[simp] theorem State.putB_tb (s : State) (f : FRef) (b : Bool) : (s.putB f b).tb = s.tb :=
  State.put_tb s _ _
@[simp] theorem State.putB_pw (s : State) (f : FRef) (b : Bool) : (s.putB f b).pw = s.pw :=
  State.put_pw s _ _
@[simp] theorem State.putB_nv (s : State) (f : FRef) (b : Bool) : (s.putB f b).nv = s.nv :=
  State.put_nv s _ _
@[simp] theorem State.putB_conf (s : State) (f : FRef) (b : Bool) : (s.putB f b).conf = s.conf :=
  State.put_conf s _ _
@[simp] theorem State.putB_pins (s : State) (f : FRef) (b : Bool) : (s.putB f b).pins = s.pins :=
  State.put_pins s _ _
@[simp] theorem State.putB_sram (s : State) (f : FRef) (b : Bool) : (s.putB f b).sram = s.sram :=
  State.put_sram s _ _
@[simp] theorem State.putB_caches (s : State) (f : FRef) (b : Bool) : (s.putB f b).caches = s.caches :=
  State.put_caches s _ _
@[simp] theorem State.putB_tide (s : State) (f : FRef) (b : Bool) : (s.putB f b).tide = s.tide :=
  State.put_tide s _ _
@[simp] theorem State.putB_cars (s : State) (f : FRef) (b : Bool) : (s.putB f b).cars = s.cars :=
  State.put_cars s _ _
@[simp] theorem State.putB_chans (s : State) (f : FRef) (b : Bool) : (s.putB f b).chans = s.chans :=
  State.put_chans s _ _
@[simp] theorem State.putB_trj (s : State) (f : FRef) (b : Bool) : (s.putB f b).trj = s.trj :=
  State.put_trj s _ _
@[simp] theorem State.putB_doors (s : State) (f : FRef) (b : Bool) : (s.putB f b).doors = s.doors :=
  State.put_doors s _ _
@[simp] theorem State.putB_cmm (s : State) (f : FRef) (b : Bool) : (s.putB f b).cmm = s.cmm :=
  State.put_cmm s _ _
@[simp] theorem State.putB_slk (s : State) (f : FRef) (b : Bool) : (s.putB f b).slk = s.slk :=
  State.put_slk s _ _
@[simp] theorem State.putB_fbk (s : State) (f : FRef) (b : Bool) : (s.putB f b).fbk = s.fbk :=
  State.put_fbk s _ _
@[simp] theorem State.putB_fio (s : State) (f : FRef) (b : Bool) : (s.putB f b).fio = s.fio :=
  State.put_fio s _ _
@[simp] theorem State.putB_saf (s : State) (f : FRef) (b : Bool) : (s.putB f b).saf = s.saf :=
  State.put_saf s _ _
@[simp] theorem State.putB_bss (s : State) (f : FRef) (b : Bool) : (s.putB f b).bss = s.bss :=
  State.put_bss s _ _
@[simp] theorem State.putB_fab (s : State) (f : FRef) (b : Bool) : (s.putB f b).fab = s.fab :=
  State.put_fab s _ _
@[simp] theorem State.putB_nbTs (s : State) (f : FRef) (b : Bool) : (s.putB f b).nbTs = s.nbTs :=
  State.put_nbTs s _ _
@[simp] theorem State.putB_rcd (s : State) (f : FRef) (b : Bool) : (s.putB f b).rcd = s.rcd :=
  State.put_rcd s _ _

@[simp] theorem State.ev_pending (s : State) (f : FRef) : (s.ev f).pending = s.pending :=
  State.put_pending s _ _
@[simp] theorem State.ev_free (s : State) (f : FRef) : (s.ev f).free = s.free :=
  State.put_free s _ _
@[simp] theorem State.ev_tx (s : State) (f : FRef) : (s.ev f).tx = s.tx :=
  State.put_tx s _ _
@[simp] theorem State.ev_tb (s : State) (f : FRef) : (s.ev f).tb = s.tb :=
  State.put_tb s _ _
@[simp] theorem State.ev_pw (s : State) (f : FRef) : (s.ev f).pw = s.pw :=
  State.put_pw s _ _
@[simp] theorem State.ev_nv (s : State) (f : FRef) : (s.ev f).nv = s.nv :=
  State.put_nv s _ _
@[simp] theorem State.ev_conf (s : State) (f : FRef) : (s.ev f).conf = s.conf :=
  State.put_conf s _ _
@[simp] theorem State.ev_pins (s : State) (f : FRef) : (s.ev f).pins = s.pins :=
  State.put_pins s _ _
@[simp] theorem State.ev_sram (s : State) (f : FRef) : (s.ev f).sram = s.sram :=
  State.put_sram s _ _
@[simp] theorem State.ev_caches (s : State) (f : FRef) : (s.ev f).caches = s.caches :=
  State.put_caches s _ _
@[simp] theorem State.ev_tide (s : State) (f : FRef) : (s.ev f).tide = s.tide :=
  State.put_tide s _ _
@[simp] theorem State.ev_cars (s : State) (f : FRef) : (s.ev f).cars = s.cars :=
  State.put_cars s _ _
@[simp] theorem State.ev_chans (s : State) (f : FRef) : (s.ev f).chans = s.chans :=
  State.put_chans s _ _
@[simp] theorem State.ev_trj (s : State) (f : FRef) : (s.ev f).trj = s.trj :=
  State.put_trj s _ _
@[simp] theorem State.ev_doors (s : State) (f : FRef) : (s.ev f).doors = s.doors :=
  State.put_doors s _ _
@[simp] theorem State.ev_cmm (s : State) (f : FRef) : (s.ev f).cmm = s.cmm :=
  State.put_cmm s _ _
@[simp] theorem State.ev_slk (s : State) (f : FRef) : (s.ev f).slk = s.slk :=
  State.put_slk s _ _
@[simp] theorem State.ev_fbk (s : State) (f : FRef) : (s.ev f).fbk = s.fbk :=
  State.put_fbk s _ _
@[simp] theorem State.ev_fio (s : State) (f : FRef) : (s.ev f).fio = s.fio :=
  State.put_fio s _ _
@[simp] theorem State.ev_saf (s : State) (f : FRef) : (s.ev f).saf = s.saf :=
  State.put_saf s _ _
@[simp] theorem State.ev_bss (s : State) (f : FRef) : (s.ev f).bss = s.bss :=
  State.put_bss s _ _
@[simp] theorem State.ev_fab (s : State) (f : FRef) : (s.ev f).fab = s.fab :=
  State.put_fab s _ _
@[simp] theorem State.ev_nbTs (s : State) (f : FRef) : (s.ev f).nbTs = s.nbTs :=
  State.put_nbTs s _ _
@[simp] theorem State.ev_rcd (s : State) (f : FRef) : (s.ev f).rcd = s.rcd :=
  State.put_rcd s _ _

@[simp] theorem State.evBit_pending (s : State) (f : FRef) (n : Nat) : (s.evBit f n).pending = s.pending :=
  State.put_pending s _ _
@[simp] theorem State.evBit_free (s : State) (f : FRef) (n : Nat) : (s.evBit f n).free = s.free :=
  State.put_free s _ _
@[simp] theorem State.evBit_tx (s : State) (f : FRef) (n : Nat) : (s.evBit f n).tx = s.tx :=
  State.put_tx s _ _
@[simp] theorem State.evBit_tb (s : State) (f : FRef) (n : Nat) : (s.evBit f n).tb = s.tb :=
  State.put_tb s _ _
@[simp] theorem State.evBit_pw (s : State) (f : FRef) (n : Nat) : (s.evBit f n).pw = s.pw :=
  State.put_pw s _ _
@[simp] theorem State.evBit_nv (s : State) (f : FRef) (n : Nat) : (s.evBit f n).nv = s.nv :=
  State.put_nv s _ _
@[simp] theorem State.evBit_conf (s : State) (f : FRef) (n : Nat) : (s.evBit f n).conf = s.conf :=
  State.put_conf s _ _
@[simp] theorem State.evBit_pins (s : State) (f : FRef) (n : Nat) : (s.evBit f n).pins = s.pins :=
  State.put_pins s _ _
@[simp] theorem State.evBit_sram (s : State) (f : FRef) (n : Nat) : (s.evBit f n).sram = s.sram :=
  State.put_sram s _ _
@[simp] theorem State.evBit_caches (s : State) (f : FRef) (n : Nat) : (s.evBit f n).caches = s.caches :=
  State.put_caches s _ _
@[simp] theorem State.evBit_tide (s : State) (f : FRef) (n : Nat) : (s.evBit f n).tide = s.tide :=
  State.put_tide s _ _
@[simp] theorem State.evBit_cars (s : State) (f : FRef) (n : Nat) : (s.evBit f n).cars = s.cars :=
  State.put_cars s _ _
@[simp] theorem State.evBit_chans (s : State) (f : FRef) (n : Nat) : (s.evBit f n).chans = s.chans :=
  State.put_chans s _ _
@[simp] theorem State.evBit_trj (s : State) (f : FRef) (n : Nat) : (s.evBit f n).trj = s.trj :=
  State.put_trj s _ _
@[simp] theorem State.evBit_doors (s : State) (f : FRef) (n : Nat) : (s.evBit f n).doors = s.doors :=
  State.put_doors s _ _
@[simp] theorem State.evBit_cmm (s : State) (f : FRef) (n : Nat) : (s.evBit f n).cmm = s.cmm :=
  State.put_cmm s _ _
@[simp] theorem State.evBit_slk (s : State) (f : FRef) (n : Nat) : (s.evBit f n).slk = s.slk :=
  State.put_slk s _ _
@[simp] theorem State.evBit_fbk (s : State) (f : FRef) (n : Nat) : (s.evBit f n).fbk = s.fbk :=
  State.put_fbk s _ _
@[simp] theorem State.evBit_fio (s : State) (f : FRef) (n : Nat) : (s.evBit f n).fio = s.fio :=
  State.put_fio s _ _
@[simp] theorem State.evBit_saf (s : State) (f : FRef) (n : Nat) : (s.evBit f n).saf = s.saf :=
  State.put_saf s _ _
@[simp] theorem State.evBit_bss (s : State) (f : FRef) (n : Nat) : (s.evBit f n).bss = s.bss :=
  State.put_bss s _ _
@[simp] theorem State.evBit_fab (s : State) (f : FRef) (n : Nat) : (s.evBit f n).fab = s.fab :=
  State.put_fab s _ _
@[simp] theorem State.evBit_nbTs (s : State) (f : FRef) (n : Nat) : (s.evBit f n).nbTs = s.nbTs :=
  State.put_nbTs s _ _
@[simp] theorem State.evBit_rcd (s : State) (f : FRef) (n : Nat) : (s.evBit f n).rcd = s.rcd :=
  State.put_rcd s _ _

@[simp] theorem State.clrBit_pending (s : State) (f : FRef) (n : Nat) : (s.clrBit f n).pending = s.pending :=
  State.put_pending s _ _
@[simp] theorem State.clrBit_free (s : State) (f : FRef) (n : Nat) : (s.clrBit f n).free = s.free :=
  State.put_free s _ _
@[simp] theorem State.clrBit_tx (s : State) (f : FRef) (n : Nat) : (s.clrBit f n).tx = s.tx :=
  State.put_tx s _ _
@[simp] theorem State.clrBit_tb (s : State) (f : FRef) (n : Nat) : (s.clrBit f n).tb = s.tb :=
  State.put_tb s _ _
@[simp] theorem State.clrBit_pw (s : State) (f : FRef) (n : Nat) : (s.clrBit f n).pw = s.pw :=
  State.put_pw s _ _
@[simp] theorem State.clrBit_nv (s : State) (f : FRef) (n : Nat) : (s.clrBit f n).nv = s.nv :=
  State.put_nv s _ _
@[simp] theorem State.clrBit_conf (s : State) (f : FRef) (n : Nat) : (s.clrBit f n).conf = s.conf :=
  State.put_conf s _ _
@[simp] theorem State.clrBit_pins (s : State) (f : FRef) (n : Nat) : (s.clrBit f n).pins = s.pins :=
  State.put_pins s _ _
@[simp] theorem State.clrBit_sram (s : State) (f : FRef) (n : Nat) : (s.clrBit f n).sram = s.sram :=
  State.put_sram s _ _
@[simp] theorem State.clrBit_caches (s : State) (f : FRef) (n : Nat) : (s.clrBit f n).caches = s.caches :=
  State.put_caches s _ _
@[simp] theorem State.clrBit_tide (s : State) (f : FRef) (n : Nat) : (s.clrBit f n).tide = s.tide :=
  State.put_tide s _ _
@[simp] theorem State.clrBit_cars (s : State) (f : FRef) (n : Nat) : (s.clrBit f n).cars = s.cars :=
  State.put_cars s _ _
@[simp] theorem State.clrBit_chans (s : State) (f : FRef) (n : Nat) : (s.clrBit f n).chans = s.chans :=
  State.put_chans s _ _
@[simp] theorem State.clrBit_trj (s : State) (f : FRef) (n : Nat) : (s.clrBit f n).trj = s.trj :=
  State.put_trj s _ _
@[simp] theorem State.clrBit_doors (s : State) (f : FRef) (n : Nat) : (s.clrBit f n).doors = s.doors :=
  State.put_doors s _ _
@[simp] theorem State.clrBit_cmm (s : State) (f : FRef) (n : Nat) : (s.clrBit f n).cmm = s.cmm :=
  State.put_cmm s _ _
@[simp] theorem State.clrBit_slk (s : State) (f : FRef) (n : Nat) : (s.clrBit f n).slk = s.slk :=
  State.put_slk s _ _
@[simp] theorem State.clrBit_fbk (s : State) (f : FRef) (n : Nat) : (s.clrBit f n).fbk = s.fbk :=
  State.put_fbk s _ _
@[simp] theorem State.clrBit_fio (s : State) (f : FRef) (n : Nat) : (s.clrBit f n).fio = s.fio :=
  State.put_fio s _ _
@[simp] theorem State.clrBit_saf (s : State) (f : FRef) (n : Nat) : (s.clrBit f n).saf = s.saf :=
  State.put_saf s _ _
@[simp] theorem State.clrBit_bss (s : State) (f : FRef) (n : Nat) : (s.clrBit f n).bss = s.bss :=
  State.put_bss s _ _
@[simp] theorem State.clrBit_fab (s : State) (f : FRef) (n : Nat) : (s.clrBit f n).fab = s.fab :=
  State.put_fab s _ _
@[simp] theorem State.clrBit_nbTs (s : State) (f : FRef) (n : Nat) : (s.clrBit f n).nbTs = s.nbTs :=
  State.put_nbTs s _ _
@[simp] theorem State.clrBit_rcd (s : State) (f : FRef) (n : Nat) : (s.clrBit f n).rcd = s.rcd :=
  State.put_rcd s _ _

@[simp] theorem State.incSat_pending (s : State) (f : FRef) : (s.incSat f).pending = s.pending :=
  State.put_pending s _ _
@[simp] theorem State.incSat_free (s : State) (f : FRef) : (s.incSat f).free = s.free :=
  State.put_free s _ _
@[simp] theorem State.incSat_tx (s : State) (f : FRef) : (s.incSat f).tx = s.tx :=
  State.put_tx s _ _
@[simp] theorem State.incSat_tb (s : State) (f : FRef) : (s.incSat f).tb = s.tb :=
  State.put_tb s _ _
@[simp] theorem State.incSat_pw (s : State) (f : FRef) : (s.incSat f).pw = s.pw :=
  State.put_pw s _ _
@[simp] theorem State.incSat_nv (s : State) (f : FRef) : (s.incSat f).nv = s.nv :=
  State.put_nv s _ _
@[simp] theorem State.incSat_conf (s : State) (f : FRef) : (s.incSat f).conf = s.conf :=
  State.put_conf s _ _
@[simp] theorem State.incSat_pins (s : State) (f : FRef) : (s.incSat f).pins = s.pins :=
  State.put_pins s _ _
@[simp] theorem State.incSat_sram (s : State) (f : FRef) : (s.incSat f).sram = s.sram :=
  State.put_sram s _ _
@[simp] theorem State.incSat_caches (s : State) (f : FRef) : (s.incSat f).caches = s.caches :=
  State.put_caches s _ _
@[simp] theorem State.incSat_tide (s : State) (f : FRef) : (s.incSat f).tide = s.tide :=
  State.put_tide s _ _
@[simp] theorem State.incSat_cars (s : State) (f : FRef) : (s.incSat f).cars = s.cars :=
  State.put_cars s _ _
@[simp] theorem State.incSat_chans (s : State) (f : FRef) : (s.incSat f).chans = s.chans :=
  State.put_chans s _ _
@[simp] theorem State.incSat_trj (s : State) (f : FRef) : (s.incSat f).trj = s.trj :=
  State.put_trj s _ _
@[simp] theorem State.incSat_doors (s : State) (f : FRef) : (s.incSat f).doors = s.doors :=
  State.put_doors s _ _
@[simp] theorem State.incSat_cmm (s : State) (f : FRef) : (s.incSat f).cmm = s.cmm :=
  State.put_cmm s _ _
@[simp] theorem State.incSat_slk (s : State) (f : FRef) : (s.incSat f).slk = s.slk :=
  State.put_slk s _ _
@[simp] theorem State.incSat_fbk (s : State) (f : FRef) : (s.incSat f).fbk = s.fbk :=
  State.put_fbk s _ _
@[simp] theorem State.incSat_fio (s : State) (f : FRef) : (s.incSat f).fio = s.fio :=
  State.put_fio s _ _
@[simp] theorem State.incSat_saf (s : State) (f : FRef) : (s.incSat f).saf = s.saf :=
  State.put_saf s _ _
@[simp] theorem State.incSat_bss (s : State) (f : FRef) : (s.incSat f).bss = s.bss :=
  State.put_bss s _ _
@[simp] theorem State.incSat_fab (s : State) (f : FRef) : (s.incSat f).fab = s.fab :=
  State.put_fab s _ _
@[simp] theorem State.incSat_nbTs (s : State) (f : FRef) : (s.incSat f).nbTs = s.nbTs :=
  State.put_nbTs s _ _
@[simp] theorem State.incSat_rcd (s : State) (f : FRef) : (s.incSat f).rcd = s.rcd :=
  State.put_rcd s _ _

@[simp] theorem State.result_pending (s : State) (a v : Nat) : (s.result a v).pending = s.pending :=
  State.setReg_pending s _ _
@[simp] theorem State.result_free (s : State) (a v : Nat) : (s.result a v).free = s.free :=
  State.setReg_free s _ _
@[simp] theorem State.result_tx (s : State) (a v : Nat) : (s.result a v).tx = s.tx :=
  State.setReg_tx s _ _
@[simp] theorem State.result_tb (s : State) (a v : Nat) : (s.result a v).tb = s.tb :=
  State.setReg_tb s _ _
@[simp] theorem State.result_pw (s : State) (a v : Nat) : (s.result a v).pw = s.pw :=
  State.setReg_pw s _ _
@[simp] theorem State.result_nv (s : State) (a v : Nat) : (s.result a v).nv = s.nv :=
  State.setReg_nv s _ _
@[simp] theorem State.result_conf (s : State) (a v : Nat) : (s.result a v).conf = s.conf :=
  State.setReg_conf s _ _
@[simp] theorem State.result_pins (s : State) (a v : Nat) : (s.result a v).pins = s.pins :=
  State.setReg_pins s _ _
@[simp] theorem State.result_sram (s : State) (a v : Nat) : (s.result a v).sram = s.sram :=
  State.setReg_sram s _ _
@[simp] theorem State.result_caches (s : State) (a v : Nat) : (s.result a v).caches = s.caches :=
  State.setReg_caches s _ _
@[simp] theorem State.result_tide (s : State) (a v : Nat) : (s.result a v).tide = s.tide :=
  State.setReg_tide s _ _
@[simp] theorem State.result_cars (s : State) (a v : Nat) : (s.result a v).cars = s.cars :=
  State.setReg_cars s _ _
@[simp] theorem State.result_chans (s : State) (a v : Nat) : (s.result a v).chans = s.chans :=
  State.setReg_chans s _ _
@[simp] theorem State.result_trj (s : State) (a v : Nat) : (s.result a v).trj = s.trj :=
  State.setReg_trj s _ _
@[simp] theorem State.result_doors (s : State) (a v : Nat) : (s.result a v).doors = s.doors :=
  State.setReg_doors s _ _
@[simp] theorem State.result_cmm (s : State) (a v : Nat) : (s.result a v).cmm = s.cmm :=
  State.setReg_cmm s _ _
@[simp] theorem State.result_slk (s : State) (a v : Nat) : (s.result a v).slk = s.slk :=
  State.setReg_slk s _ _
@[simp] theorem State.result_fbk (s : State) (a v : Nat) : (s.result a v).fbk = s.fbk :=
  State.setReg_fbk s _ _
@[simp] theorem State.result_fio (s : State) (a v : Nat) : (s.result a v).fio = s.fio :=
  State.setReg_fio s _ _
@[simp] theorem State.result_saf (s : State) (a v : Nat) : (s.result a v).saf = s.saf :=
  State.setReg_saf s _ _
@[simp] theorem State.result_bss (s : State) (a v : Nat) : (s.result a v).bss = s.bss :=
  State.setReg_bss s _ _
@[simp] theorem State.result_fab (s : State) (a v : Nat) : (s.result a v).fab = s.fab :=
  State.setReg_fab s _ _
@[simp] theorem State.result_nbTs (s : State) (a v : Nat) : (s.result a v).nbTs = s.nbTs :=
  State.setReg_nbTs s _ _
@[simp] theorem State.result_rcd (s : State) (a v : Nat) : (s.result a v).rcd = s.rcd :=
  State.setReg_rcd s _ _

@[simp] theorem State.resultPair_pending (s : State) (lo : Nat) (v : Int) : (s.resultPair lo v).pending = s.pending :=
  (State.setReg_pending _ _ _).trans (State.setReg_pending s _ _)
@[simp] theorem State.resultPair_free (s : State) (lo : Nat) (v : Int) : (s.resultPair lo v).free = s.free :=
  (State.setReg_free _ _ _).trans (State.setReg_free s _ _)
@[simp] theorem State.resultPair_tx (s : State) (lo : Nat) (v : Int) : (s.resultPair lo v).tx = s.tx :=
  (State.setReg_tx _ _ _).trans (State.setReg_tx s _ _)
@[simp] theorem State.resultPair_tb (s : State) (lo : Nat) (v : Int) : (s.resultPair lo v).tb = s.tb :=
  (State.setReg_tb _ _ _).trans (State.setReg_tb s _ _)
@[simp] theorem State.resultPair_pw (s : State) (lo : Nat) (v : Int) : (s.resultPair lo v).pw = s.pw :=
  (State.setReg_pw _ _ _).trans (State.setReg_pw s _ _)
@[simp] theorem State.resultPair_nv (s : State) (lo : Nat) (v : Int) : (s.resultPair lo v).nv = s.nv :=
  (State.setReg_nv _ _ _).trans (State.setReg_nv s _ _)
@[simp] theorem State.resultPair_conf (s : State) (lo : Nat) (v : Int) : (s.resultPair lo v).conf = s.conf :=
  (State.setReg_conf _ _ _).trans (State.setReg_conf s _ _)
@[simp] theorem State.resultPair_pins (s : State) (lo : Nat) (v : Int) : (s.resultPair lo v).pins = s.pins :=
  (State.setReg_pins _ _ _).trans (State.setReg_pins s _ _)
@[simp] theorem State.resultPair_sram (s : State) (lo : Nat) (v : Int) : (s.resultPair lo v).sram = s.sram :=
  (State.setReg_sram _ _ _).trans (State.setReg_sram s _ _)
@[simp] theorem State.resultPair_caches (s : State) (lo : Nat) (v : Int) : (s.resultPair lo v).caches = s.caches :=
  (State.setReg_caches _ _ _).trans (State.setReg_caches s _ _)
@[simp] theorem State.resultPair_tide (s : State) (lo : Nat) (v : Int) : (s.resultPair lo v).tide = s.tide :=
  (State.setReg_tide _ _ _).trans (State.setReg_tide s _ _)
@[simp] theorem State.resultPair_cars (s : State) (lo : Nat) (v : Int) : (s.resultPair lo v).cars = s.cars :=
  (State.setReg_cars _ _ _).trans (State.setReg_cars s _ _)
@[simp] theorem State.resultPair_chans (s : State) (lo : Nat) (v : Int) : (s.resultPair lo v).chans = s.chans :=
  (State.setReg_chans _ _ _).trans (State.setReg_chans s _ _)
@[simp] theorem State.resultPair_trj (s : State) (lo : Nat) (v : Int) : (s.resultPair lo v).trj = s.trj :=
  (State.setReg_trj _ _ _).trans (State.setReg_trj s _ _)
@[simp] theorem State.resultPair_doors (s : State) (lo : Nat) (v : Int) : (s.resultPair lo v).doors = s.doors :=
  (State.setReg_doors _ _ _).trans (State.setReg_doors s _ _)
@[simp] theorem State.resultPair_cmm (s : State) (lo : Nat) (v : Int) : (s.resultPair lo v).cmm = s.cmm :=
  (State.setReg_cmm _ _ _).trans (State.setReg_cmm s _ _)
@[simp] theorem State.resultPair_slk (s : State) (lo : Nat) (v : Int) : (s.resultPair lo v).slk = s.slk :=
  (State.setReg_slk _ _ _).trans (State.setReg_slk s _ _)
@[simp] theorem State.resultPair_fbk (s : State) (lo : Nat) (v : Int) : (s.resultPair lo v).fbk = s.fbk :=
  (State.setReg_fbk _ _ _).trans (State.setReg_fbk s _ _)
@[simp] theorem State.resultPair_fio (s : State) (lo : Nat) (v : Int) : (s.resultPair lo v).fio = s.fio :=
  (State.setReg_fio _ _ _).trans (State.setReg_fio s _ _)
@[simp] theorem State.resultPair_saf (s : State) (lo : Nat) (v : Int) : (s.resultPair lo v).saf = s.saf :=
  (State.setReg_saf _ _ _).trans (State.setReg_saf s _ _)
@[simp] theorem State.resultPair_bss (s : State) (lo : Nat) (v : Int) : (s.resultPair lo v).bss = s.bss :=
  (State.setReg_bss _ _ _).trans (State.setReg_bss s _ _)
@[simp] theorem State.resultPair_fab (s : State) (lo : Nat) (v : Int) : (s.resultPair lo v).fab = s.fab :=
  (State.setReg_fab _ _ _).trans (State.setReg_fab s _ _)
@[simp] theorem State.resultPair_nbTs (s : State) (lo : Nat) (v : Int) : (s.resultPair lo v).nbTs = s.nbTs :=
  (State.setReg_nbTs _ _ _).trans (State.setReg_nbTs s _ _)
@[simp] theorem State.resultPair_rcd (s : State) (lo : Nat) (v : Int) : (s.resultPair lo v).rcd = s.rcd :=
  (State.setReg_rcd _ _ _).trans (State.setReg_rcd s _ _)

@[simp] theorem State.setPair_pending (s : State) (lo v : Nat) : (s.setPair lo v).pending = s.pending :=
  (State.setReg_pending _ _ _).trans (State.setReg_pending s _ _)
@[simp] theorem State.setPair_free (s : State) (lo v : Nat) : (s.setPair lo v).free = s.free :=
  (State.setReg_free _ _ _).trans (State.setReg_free s _ _)
@[simp] theorem State.setPair_tx (s : State) (lo v : Nat) : (s.setPair lo v).tx = s.tx :=
  (State.setReg_tx _ _ _).trans (State.setReg_tx s _ _)
@[simp] theorem State.setPair_tb (s : State) (lo v : Nat) : (s.setPair lo v).tb = s.tb :=
  (State.setReg_tb _ _ _).trans (State.setReg_tb s _ _)
@[simp] theorem State.setPair_pw (s : State) (lo v : Nat) : (s.setPair lo v).pw = s.pw :=
  (State.setReg_pw _ _ _).trans (State.setReg_pw s _ _)
@[simp] theorem State.setPair_nv (s : State) (lo v : Nat) : (s.setPair lo v).nv = s.nv :=
  (State.setReg_nv _ _ _).trans (State.setReg_nv s _ _)
@[simp] theorem State.setPair_conf (s : State) (lo v : Nat) : (s.setPair lo v).conf = s.conf :=
  (State.setReg_conf _ _ _).trans (State.setReg_conf s _ _)
@[simp] theorem State.setPair_pins (s : State) (lo v : Nat) : (s.setPair lo v).pins = s.pins :=
  (State.setReg_pins _ _ _).trans (State.setReg_pins s _ _)
@[simp] theorem State.setPair_sram (s : State) (lo v : Nat) : (s.setPair lo v).sram = s.sram :=
  (State.setReg_sram _ _ _).trans (State.setReg_sram s _ _)
@[simp] theorem State.setPair_caches (s : State) (lo v : Nat) : (s.setPair lo v).caches = s.caches :=
  (State.setReg_caches _ _ _).trans (State.setReg_caches s _ _)
@[simp] theorem State.setPair_tide (s : State) (lo v : Nat) : (s.setPair lo v).tide = s.tide :=
  (State.setReg_tide _ _ _).trans (State.setReg_tide s _ _)
@[simp] theorem State.setPair_cars (s : State) (lo v : Nat) : (s.setPair lo v).cars = s.cars :=
  (State.setReg_cars _ _ _).trans (State.setReg_cars s _ _)
@[simp] theorem State.setPair_chans (s : State) (lo v : Nat) : (s.setPair lo v).chans = s.chans :=
  (State.setReg_chans _ _ _).trans (State.setReg_chans s _ _)
@[simp] theorem State.setPair_trj (s : State) (lo v : Nat) : (s.setPair lo v).trj = s.trj :=
  (State.setReg_trj _ _ _).trans (State.setReg_trj s _ _)
@[simp] theorem State.setPair_doors (s : State) (lo v : Nat) : (s.setPair lo v).doors = s.doors :=
  (State.setReg_doors _ _ _).trans (State.setReg_doors s _ _)
@[simp] theorem State.setPair_cmm (s : State) (lo v : Nat) : (s.setPair lo v).cmm = s.cmm :=
  (State.setReg_cmm _ _ _).trans (State.setReg_cmm s _ _)
@[simp] theorem State.setPair_slk (s : State) (lo v : Nat) : (s.setPair lo v).slk = s.slk :=
  (State.setReg_slk _ _ _).trans (State.setReg_slk s _ _)
@[simp] theorem State.setPair_fbk (s : State) (lo v : Nat) : (s.setPair lo v).fbk = s.fbk :=
  (State.setReg_fbk _ _ _).trans (State.setReg_fbk s _ _)
@[simp] theorem State.setPair_fio (s : State) (lo v : Nat) : (s.setPair lo v).fio = s.fio :=
  (State.setReg_fio _ _ _).trans (State.setReg_fio s _ _)
@[simp] theorem State.setPair_saf (s : State) (lo v : Nat) : (s.setPair lo v).saf = s.saf :=
  (State.setReg_saf _ _ _).trans (State.setReg_saf s _ _)
@[simp] theorem State.setPair_bss (s : State) (lo v : Nat) : (s.setPair lo v).bss = s.bss :=
  (State.setReg_bss _ _ _).trans (State.setReg_bss s _ _)
@[simp] theorem State.setPair_fab (s : State) (lo v : Nat) : (s.setPair lo v).fab = s.fab :=
  (State.setReg_fab _ _ _).trans (State.setReg_fab s _ _)
@[simp] theorem State.setPair_nbTs (s : State) (lo v : Nat) : (s.setPair lo v).nbTs = s.nbTs :=
  (State.setReg_nbTs _ _ _).trans (State.setReg_nbTs s _ _)
@[simp] theorem State.setPair_rcd (s : State) (lo v : Nat) : (s.setPair lo v).rcd = s.rcd :=
  (State.setReg_rcd _ _ _).trans (State.setReg_rcd s _ _)

@[simp] theorem State.modCar_pending (s : State) (c : Nat) (f : CarRec → CarRec) : (s.modCar c f).pending = s.pending :=
  State.pending_mk _ _ _ _ _ _ _ _ _ _ _ _ _ _ _ _ _ _ _ _ _ _ _ _ _
@[simp] theorem State.modCar_free (s : State) (c : Nat) (f : CarRec → CarRec) : (s.modCar c f).free = s.free :=
  State.free_mk _ _ _ _ _ _ _ _ _ _ _ _ _ _ _ _ _ _ _ _ _ _ _ _ _
@[simp] theorem State.modCar_tx (s : State) (c : Nat) (f : CarRec → CarRec) : (s.modCar c f).tx = s.tx :=
  State.tx_mk _ _ _ _ _ _ _ _ _ _ _ _ _ _ _ _ _ _ _ _ _ _ _ _ _
@[simp] theorem State.modCar_bus (s : State) (c : Nat) (f : CarRec → CarRec) : (s.modCar c f).bus = s.bus :=
  State.bus_mk _ _ _ _ _ _ _ _ _ _ _ _ _ _ _ _ _ _ _ _ _ _ _ _ _
@[simp] theorem State.modCar_tb (s : State) (c : Nat) (f : CarRec → CarRec) : (s.modCar c f).tb = s.tb :=
  State.tb_mk _ _ _ _ _ _ _ _ _ _ _ _ _ _ _ _ _ _ _ _ _ _ _ _ _
@[simp] theorem State.modCar_pw (s : State) (c : Nat) (f : CarRec → CarRec) : (s.modCar c f).pw = s.pw :=
  State.pw_mk _ _ _ _ _ _ _ _ _ _ _ _ _ _ _ _ _ _ _ _ _ _ _ _ _
@[simp] theorem State.modCar_nv (s : State) (c : Nat) (f : CarRec → CarRec) : (s.modCar c f).nv = s.nv :=
  State.nv_mk _ _ _ _ _ _ _ _ _ _ _ _ _ _ _ _ _ _ _ _ _ _ _ _ _
@[simp] theorem State.modCar_conf (s : State) (c : Nat) (f : CarRec → CarRec) : (s.modCar c f).conf = s.conf :=
  State.conf_mk _ _ _ _ _ _ _ _ _ _ _ _ _ _ _ _ _ _ _ _ _ _ _ _ _
@[simp] theorem State.modCar_pins (s : State) (c : Nat) (f : CarRec → CarRec) : (s.modCar c f).pins = s.pins :=
  State.pins_mk _ _ _ _ _ _ _ _ _ _ _ _ _ _ _ _ _ _ _ _ _ _ _ _ _
@[simp] theorem State.modCar_sram (s : State) (c : Nat) (f : CarRec → CarRec) : (s.modCar c f).sram = s.sram :=
  State.sram_mk _ _ _ _ _ _ _ _ _ _ _ _ _ _ _ _ _ _ _ _ _ _ _ _ _
@[simp] theorem State.modCar_caches (s : State) (c : Nat) (f : CarRec → CarRec) : (s.modCar c f).caches = s.caches :=
  State.caches_mk _ _ _ _ _ _ _ _ _ _ _ _ _ _ _ _ _ _ _ _ _ _ _ _ _
@[simp] theorem State.modCar_tide (s : State) (c : Nat) (f : CarRec → CarRec) : (s.modCar c f).tide = s.tide :=
  State.tide_mk _ _ _ _ _ _ _ _ _ _ _ _ _ _ _ _ _ _ _ _ _ _ _ _ _
@[simp] theorem State.modCar_chans (s : State) (c : Nat) (f : CarRec → CarRec) : (s.modCar c f).chans = s.chans :=
  State.chans_mk _ _ _ _ _ _ _ _ _ _ _ _ _ _ _ _ _ _ _ _ _ _ _ _ _
@[simp] theorem State.modCar_trj (s : State) (c : Nat) (f : CarRec → CarRec) : (s.modCar c f).trj = s.trj :=
  State.trj_mk _ _ _ _ _ _ _ _ _ _ _ _ _ _ _ _ _ _ _ _ _ _ _ _ _
@[simp] theorem State.modCar_doors (s : State) (c : Nat) (f : CarRec → CarRec) : (s.modCar c f).doors = s.doors :=
  State.doors_mk _ _ _ _ _ _ _ _ _ _ _ _ _ _ _ _ _ _ _ _ _ _ _ _ _
@[simp] theorem State.modCar_cmm (s : State) (c : Nat) (f : CarRec → CarRec) : (s.modCar c f).cmm = s.cmm :=
  State.cmm_mk _ _ _ _ _ _ _ _ _ _ _ _ _ _ _ _ _ _ _ _ _ _ _ _ _
@[simp] theorem State.modCar_slk (s : State) (c : Nat) (f : CarRec → CarRec) : (s.modCar c f).slk = s.slk :=
  State.slk_mk _ _ _ _ _ _ _ _ _ _ _ _ _ _ _ _ _ _ _ _ _ _ _ _ _
@[simp] theorem State.modCar_fbk (s : State) (c : Nat) (f : CarRec → CarRec) : (s.modCar c f).fbk = s.fbk :=
  State.fbk_mk _ _ _ _ _ _ _ _ _ _ _ _ _ _ _ _ _ _ _ _ _ _ _ _ _
@[simp] theorem State.modCar_fio (s : State) (c : Nat) (f : CarRec → CarRec) : (s.modCar c f).fio = s.fio :=
  State.fio_mk _ _ _ _ _ _ _ _ _ _ _ _ _ _ _ _ _ _ _ _ _ _ _ _ _
@[simp] theorem State.modCar_saf (s : State) (c : Nat) (f : CarRec → CarRec) : (s.modCar c f).saf = s.saf :=
  State.saf_mk _ _ _ _ _ _ _ _ _ _ _ _ _ _ _ _ _ _ _ _ _ _ _ _ _
@[simp] theorem State.modCar_bss (s : State) (c : Nat) (f : CarRec → CarRec) : (s.modCar c f).bss = s.bss :=
  State.bss_mk _ _ _ _ _ _ _ _ _ _ _ _ _ _ _ _ _ _ _ _ _ _ _ _ _
@[simp] theorem State.modCar_fab (s : State) (c : Nat) (f : CarRec → CarRec) : (s.modCar c f).fab = s.fab :=
  State.fab_mk _ _ _ _ _ _ _ _ _ _ _ _ _ _ _ _ _ _ _ _ _ _ _ _ _
@[simp] theorem State.modCar_nbTs (s : State) (c : Nat) (f : CarRec → CarRec) : (s.modCar c f).nbTs = s.nbTs :=
  State.nbTs_mk _ _ _ _ _ _ _ _ _ _ _ _ _ _ _ _ _ _ _ _ _ _ _ _ _
@[simp] theorem State.modCar_rcd (s : State) (c : Nat) (f : CarRec → CarRec) : (s.modCar c f).rcd = s.rcd :=
  State.rcd_mk _ _ _ _ _ _ _ _ _ _ _ _ _ _ _ _ _ _ _ _ _ _ _ _ _

@[simp] theorem State.modChan_pending (s : State) (n : Nat) (f : ChanView → ChanView) : (s.modChan n f).pending = s.pending :=
  State.pending_mk _ _ _ _ _ _ _ _ _ _ _ _ _ _ _ _ _ _ _ _ _ _ _ _ _
@[simp] theorem State.modChan_free (s : State) (n : Nat) (f : ChanView → ChanView) : (s.modChan n f).free = s.free :=
  State.free_mk _ _ _ _ _ _ _ _ _ _ _ _ _ _ _ _ _ _ _ _ _ _ _ _ _
@[simp] theorem State.modChan_tx (s : State) (n : Nat) (f : ChanView → ChanView) : (s.modChan n f).tx = s.tx :=
  State.tx_mk _ _ _ _ _ _ _ _ _ _ _ _ _ _ _ _ _ _ _ _ _ _ _ _ _
@[simp] theorem State.modChan_bus (s : State) (n : Nat) (f : ChanView → ChanView) : (s.modChan n f).bus = s.bus :=
  State.bus_mk _ _ _ _ _ _ _ _ _ _ _ _ _ _ _ _ _ _ _ _ _ _ _ _ _
@[simp] theorem State.modChan_tb (s : State) (n : Nat) (f : ChanView → ChanView) : (s.modChan n f).tb = s.tb :=
  State.tb_mk _ _ _ _ _ _ _ _ _ _ _ _ _ _ _ _ _ _ _ _ _ _ _ _ _
@[simp] theorem State.modChan_pw (s : State) (n : Nat) (f : ChanView → ChanView) : (s.modChan n f).pw = s.pw :=
  State.pw_mk _ _ _ _ _ _ _ _ _ _ _ _ _ _ _ _ _ _ _ _ _ _ _ _ _
@[simp] theorem State.modChan_nv (s : State) (n : Nat) (f : ChanView → ChanView) : (s.modChan n f).nv = s.nv :=
  State.nv_mk _ _ _ _ _ _ _ _ _ _ _ _ _ _ _ _ _ _ _ _ _ _ _ _ _
@[simp] theorem State.modChan_conf (s : State) (n : Nat) (f : ChanView → ChanView) : (s.modChan n f).conf = s.conf :=
  State.conf_mk _ _ _ _ _ _ _ _ _ _ _ _ _ _ _ _ _ _ _ _ _ _ _ _ _
@[simp] theorem State.modChan_pins (s : State) (n : Nat) (f : ChanView → ChanView) : (s.modChan n f).pins = s.pins :=
  State.pins_mk _ _ _ _ _ _ _ _ _ _ _ _ _ _ _ _ _ _ _ _ _ _ _ _ _
@[simp] theorem State.modChan_sram (s : State) (n : Nat) (f : ChanView → ChanView) : (s.modChan n f).sram = s.sram :=
  State.sram_mk _ _ _ _ _ _ _ _ _ _ _ _ _ _ _ _ _ _ _ _ _ _ _ _ _
@[simp] theorem State.modChan_caches (s : State) (n : Nat) (f : ChanView → ChanView) : (s.modChan n f).caches = s.caches :=
  State.caches_mk _ _ _ _ _ _ _ _ _ _ _ _ _ _ _ _ _ _ _ _ _ _ _ _ _
@[simp] theorem State.modChan_tide (s : State) (n : Nat) (f : ChanView → ChanView) : (s.modChan n f).tide = s.tide :=
  State.tide_mk _ _ _ _ _ _ _ _ _ _ _ _ _ _ _ _ _ _ _ _ _ _ _ _ _
@[simp] theorem State.modChan_cars (s : State) (n : Nat) (f : ChanView → ChanView) : (s.modChan n f).cars = s.cars :=
  State.cars_mk _ _ _ _ _ _ _ _ _ _ _ _ _ _ _ _ _ _ _ _ _ _ _ _ _
@[simp] theorem State.modChan_trj (s : State) (n : Nat) (f : ChanView → ChanView) : (s.modChan n f).trj = s.trj :=
  State.trj_mk _ _ _ _ _ _ _ _ _ _ _ _ _ _ _ _ _ _ _ _ _ _ _ _ _
@[simp] theorem State.modChan_doors (s : State) (n : Nat) (f : ChanView → ChanView) : (s.modChan n f).doors = s.doors :=
  State.doors_mk _ _ _ _ _ _ _ _ _ _ _ _ _ _ _ _ _ _ _ _ _ _ _ _ _
@[simp] theorem State.modChan_cmm (s : State) (n : Nat) (f : ChanView → ChanView) : (s.modChan n f).cmm = s.cmm :=
  State.cmm_mk _ _ _ _ _ _ _ _ _ _ _ _ _ _ _ _ _ _ _ _ _ _ _ _ _
@[simp] theorem State.modChan_slk (s : State) (n : Nat) (f : ChanView → ChanView) : (s.modChan n f).slk = s.slk :=
  State.slk_mk _ _ _ _ _ _ _ _ _ _ _ _ _ _ _ _ _ _ _ _ _ _ _ _ _
@[simp] theorem State.modChan_fbk (s : State) (n : Nat) (f : ChanView → ChanView) : (s.modChan n f).fbk = s.fbk :=
  State.fbk_mk _ _ _ _ _ _ _ _ _ _ _ _ _ _ _ _ _ _ _ _ _ _ _ _ _
@[simp] theorem State.modChan_fio (s : State) (n : Nat) (f : ChanView → ChanView) : (s.modChan n f).fio = s.fio :=
  State.fio_mk _ _ _ _ _ _ _ _ _ _ _ _ _ _ _ _ _ _ _ _ _ _ _ _ _
@[simp] theorem State.modChan_saf (s : State) (n : Nat) (f : ChanView → ChanView) : (s.modChan n f).saf = s.saf :=
  State.saf_mk _ _ _ _ _ _ _ _ _ _ _ _ _ _ _ _ _ _ _ _ _ _ _ _ _
@[simp] theorem State.modChan_bss (s : State) (n : Nat) (f : ChanView → ChanView) : (s.modChan n f).bss = s.bss :=
  State.bss_mk _ _ _ _ _ _ _ _ _ _ _ _ _ _ _ _ _ _ _ _ _ _ _ _ _
@[simp] theorem State.modChan_fab (s : State) (n : Nat) (f : ChanView → ChanView) : (s.modChan n f).fab = s.fab :=
  State.fab_mk _ _ _ _ _ _ _ _ _ _ _ _ _ _ _ _ _ _ _ _ _ _ _ _ _
@[simp] theorem State.modChan_nbTs (s : State) (n : Nat) (f : ChanView → ChanView) : (s.modChan n f).nbTs = s.nbTs :=
  State.nbTs_mk _ _ _ _ _ _ _ _ _ _ _ _ _ _ _ _ _ _ _ _ _ _ _ _ _
@[simp] theorem State.modChan_rcd (s : State) (n : Nat) (f : ChanView → ChanView) : (s.modChan n f).rcd = s.rcd :=
  State.rcd_mk _ _ _ _ _ _ _ _ _ _ _ _ _ _ _ _ _ _ _ _ _ _ _ _ _

@[simp] theorem State.modAxis_pending (s : State) (n : Nat) (f : Axis → Axis) : (s.modAxis n f).pending = s.pending :=
  State.pending_mk _ _ _ _ _ _ _ _ _ _ _ _ _ _ _ _ _ _ _ _ _ _ _ _ _
@[simp] theorem State.modAxis_free (s : State) (n : Nat) (f : Axis → Axis) : (s.modAxis n f).free = s.free :=
  State.free_mk _ _ _ _ _ _ _ _ _ _ _ _ _ _ _ _ _ _ _ _ _ _ _ _ _
@[simp] theorem State.modAxis_tx (s : State) (n : Nat) (f : Axis → Axis) : (s.modAxis n f).tx = s.tx :=
  State.tx_mk _ _ _ _ _ _ _ _ _ _ _ _ _ _ _ _ _ _ _ _ _ _ _ _ _
@[simp] theorem State.modAxis_bus (s : State) (n : Nat) (f : Axis → Axis) : (s.modAxis n f).bus = s.bus :=
  State.bus_mk _ _ _ _ _ _ _ _ _ _ _ _ _ _ _ _ _ _ _ _ _ _ _ _ _
@[simp] theorem State.modAxis_tb (s : State) (n : Nat) (f : Axis → Axis) : (s.modAxis n f).tb = s.tb :=
  State.tb_mk _ _ _ _ _ _ _ _ _ _ _ _ _ _ _ _ _ _ _ _ _ _ _ _ _
@[simp] theorem State.modAxis_pw (s : State) (n : Nat) (f : Axis → Axis) : (s.modAxis n f).pw = s.pw :=
  State.pw_mk _ _ _ _ _ _ _ _ _ _ _ _ _ _ _ _ _ _ _ _ _ _ _ _ _
@[simp] theorem State.modAxis_nv (s : State) (n : Nat) (f : Axis → Axis) : (s.modAxis n f).nv = s.nv :=
  State.nv_mk _ _ _ _ _ _ _ _ _ _ _ _ _ _ _ _ _ _ _ _ _ _ _ _ _
@[simp] theorem State.modAxis_conf (s : State) (n : Nat) (f : Axis → Axis) : (s.modAxis n f).conf = s.conf :=
  State.conf_mk _ _ _ _ _ _ _ _ _ _ _ _ _ _ _ _ _ _ _ _ _ _ _ _ _
@[simp] theorem State.modAxis_pins (s : State) (n : Nat) (f : Axis → Axis) : (s.modAxis n f).pins = s.pins :=
  State.pins_mk _ _ _ _ _ _ _ _ _ _ _ _ _ _ _ _ _ _ _ _ _ _ _ _ _
@[simp] theorem State.modAxis_sram (s : State) (n : Nat) (f : Axis → Axis) : (s.modAxis n f).sram = s.sram :=
  State.sram_mk _ _ _ _ _ _ _ _ _ _ _ _ _ _ _ _ _ _ _ _ _ _ _ _ _
@[simp] theorem State.modAxis_caches (s : State) (n : Nat) (f : Axis → Axis) : (s.modAxis n f).caches = s.caches :=
  State.caches_mk _ _ _ _ _ _ _ _ _ _ _ _ _ _ _ _ _ _ _ _ _ _ _ _ _
@[simp] theorem State.modAxis_tide (s : State) (n : Nat) (f : Axis → Axis) : (s.modAxis n f).tide = s.tide :=
  State.tide_mk _ _ _ _ _ _ _ _ _ _ _ _ _ _ _ _ _ _ _ _ _ _ _ _ _
@[simp] theorem State.modAxis_cars (s : State) (n : Nat) (f : Axis → Axis) : (s.modAxis n f).cars = s.cars :=
  State.cars_mk _ _ _ _ _ _ _ _ _ _ _ _ _ _ _ _ _ _ _ _ _ _ _ _ _
@[simp] theorem State.modAxis_chans (s : State) (n : Nat) (f : Axis → Axis) : (s.modAxis n f).chans = s.chans :=
  State.chans_mk _ _ _ _ _ _ _ _ _ _ _ _ _ _ _ _ _ _ _ _ _ _ _ _ _
@[simp] theorem State.modAxis_doors (s : State) (n : Nat) (f : Axis → Axis) : (s.modAxis n f).doors = s.doors :=
  State.doors_mk _ _ _ _ _ _ _ _ _ _ _ _ _ _ _ _ _ _ _ _ _ _ _ _ _
@[simp] theorem State.modAxis_cmm (s : State) (n : Nat) (f : Axis → Axis) : (s.modAxis n f).cmm = s.cmm :=
  State.cmm_mk _ _ _ _ _ _ _ _ _ _ _ _ _ _ _ _ _ _ _ _ _ _ _ _ _
@[simp] theorem State.modAxis_slk (s : State) (n : Nat) (f : Axis → Axis) : (s.modAxis n f).slk = s.slk :=
  State.slk_mk _ _ _ _ _ _ _ _ _ _ _ _ _ _ _ _ _ _ _ _ _ _ _ _ _
@[simp] theorem State.modAxis_fbk (s : State) (n : Nat) (f : Axis → Axis) : (s.modAxis n f).fbk = s.fbk :=
  State.fbk_mk _ _ _ _ _ _ _ _ _ _ _ _ _ _ _ _ _ _ _ _ _ _ _ _ _
@[simp] theorem State.modAxis_fio (s : State) (n : Nat) (f : Axis → Axis) : (s.modAxis n f).fio = s.fio :=
  State.fio_mk _ _ _ _ _ _ _ _ _ _ _ _ _ _ _ _ _ _ _ _ _ _ _ _ _
@[simp] theorem State.modAxis_saf (s : State) (n : Nat) (f : Axis → Axis) : (s.modAxis n f).saf = s.saf :=
  State.saf_mk _ _ _ _ _ _ _ _ _ _ _ _ _ _ _ _ _ _ _ _ _ _ _ _ _
@[simp] theorem State.modAxis_bss (s : State) (n : Nat) (f : Axis → Axis) : (s.modAxis n f).bss = s.bss :=
  State.bss_mk _ _ _ _ _ _ _ _ _ _ _ _ _ _ _ _ _ _ _ _ _ _ _ _ _
@[simp] theorem State.modAxis_fab (s : State) (n : Nat) (f : Axis → Axis) : (s.modAxis n f).fab = s.fab :=
  State.fab_mk _ _ _ _ _ _ _ _ _ _ _ _ _ _ _ _ _ _ _ _ _ _ _ _ _
@[simp] theorem State.modAxis_nbTs (s : State) (n : Nat) (f : Axis → Axis) : (s.modAxis n f).nbTs = s.nbTs :=
  State.nbTs_mk _ _ _ _ _ _ _ _ _ _ _ _ _ _ _ _ _ _ _ _ _ _ _ _ _
@[simp] theorem State.modAxis_rcd (s : State) (n : Nat) (f : Axis → Axis) : (s.modAxis n f).rcd = s.rcd :=
  State.rcd_mk _ _ _ _ _ _ _ _ _ _ _ _ _ _ _ _ _ _ _ _ _ _ _ _ _

@[simp] theorem State.modCmm_pending (s : State) (n : Nat) (f : CmmCh → CmmCh) : (s.modCmm n f).pending = s.pending :=
  State.pending_mk _ _ _ _ _ _ _ _ _ _ _ _ _ _ _ _ _ _ _ _ _ _ _ _ _
@[simp] theorem State.modCmm_free (s : State) (n : Nat) (f : CmmCh → CmmCh) : (s.modCmm n f).free = s.free :=
  State.free_mk _ _ _ _ _ _ _ _ _ _ _ _ _ _ _ _ _ _ _ _ _ _ _ _ _
@[simp] theorem State.modCmm_tx (s : State) (n : Nat) (f : CmmCh → CmmCh) : (s.modCmm n f).tx = s.tx :=
  State.tx_mk _ _ _ _ _ _ _ _ _ _ _ _ _ _ _ _ _ _ _ _ _ _ _ _ _
@[simp] theorem State.modCmm_bus (s : State) (n : Nat) (f : CmmCh → CmmCh) : (s.modCmm n f).bus = s.bus :=
  State.bus_mk _ _ _ _ _ _ _ _ _ _ _ _ _ _ _ _ _ _ _ _ _ _ _ _ _
@[simp] theorem State.modCmm_tb (s : State) (n : Nat) (f : CmmCh → CmmCh) : (s.modCmm n f).tb = s.tb :=
  State.tb_mk _ _ _ _ _ _ _ _ _ _ _ _ _ _ _ _ _ _ _ _ _ _ _ _ _
@[simp] theorem State.modCmm_pw (s : State) (n : Nat) (f : CmmCh → CmmCh) : (s.modCmm n f).pw = s.pw :=
  State.pw_mk _ _ _ _ _ _ _ _ _ _ _ _ _ _ _ _ _ _ _ _ _ _ _ _ _
@[simp] theorem State.modCmm_nv (s : State) (n : Nat) (f : CmmCh → CmmCh) : (s.modCmm n f).nv = s.nv :=
  State.nv_mk _ _ _ _ _ _ _ _ _ _ _ _ _ _ _ _ _ _ _ _ _ _ _ _ _
@[simp] theorem State.modCmm_conf (s : State) (n : Nat) (f : CmmCh → CmmCh) : (s.modCmm n f).conf = s.conf :=
  State.conf_mk _ _ _ _ _ _ _ _ _ _ _ _ _ _ _ _ _ _ _ _ _ _ _ _ _
@[simp] theorem State.modCmm_pins (s : State) (n : Nat) (f : CmmCh → CmmCh) : (s.modCmm n f).pins = s.pins :=
  State.pins_mk _ _ _ _ _ _ _ _ _ _ _ _ _ _ _ _ _ _ _ _ _ _ _ _ _
@[simp] theorem State.modCmm_sram (s : State) (n : Nat) (f : CmmCh → CmmCh) : (s.modCmm n f).sram = s.sram :=
  State.sram_mk _ _ _ _ _ _ _ _ _ _ _ _ _ _ _ _ _ _ _ _ _ _ _ _ _
@[simp] theorem State.modCmm_caches (s : State) (n : Nat) (f : CmmCh → CmmCh) : (s.modCmm n f).caches = s.caches :=
  State.caches_mk _ _ _ _ _ _ _ _ _ _ _ _ _ _ _ _ _ _ _ _ _ _ _ _ _
@[simp] theorem State.modCmm_tide (s : State) (n : Nat) (f : CmmCh → CmmCh) : (s.modCmm n f).tide = s.tide :=
  State.tide_mk _ _ _ _ _ _ _ _ _ _ _ _ _ _ _ _ _ _ _ _ _ _ _ _ _
@[simp] theorem State.modCmm_cars (s : State) (n : Nat) (f : CmmCh → CmmCh) : (s.modCmm n f).cars = s.cars :=
  State.cars_mk _ _ _ _ _ _ _ _ _ _ _ _ _ _ _ _ _ _ _ _ _ _ _ _ _
@[simp] theorem State.modCmm_chans (s : State) (n : Nat) (f : CmmCh → CmmCh) : (s.modCmm n f).chans = s.chans :=
  State.chans_mk _ _ _ _ _ _ _ _ _ _ _ _ _ _ _ _ _ _ _ _ _ _ _ _ _
@[simp] theorem State.modCmm_trj (s : State) (n : Nat) (f : CmmCh → CmmCh) : (s.modCmm n f).trj = s.trj :=
  State.trj_mk _ _ _ _ _ _ _ _ _ _ _ _ _ _ _ _ _ _ _ _ _ _ _ _ _
@[simp] theorem State.modCmm_doors (s : State) (n : Nat) (f : CmmCh → CmmCh) : (s.modCmm n f).doors = s.doors :=
  State.doors_mk _ _ _ _ _ _ _ _ _ _ _ _ _ _ _ _ _ _ _ _ _ _ _ _ _
@[simp] theorem State.modCmm_slk (s : State) (n : Nat) (f : CmmCh → CmmCh) : (s.modCmm n f).slk = s.slk :=
  State.slk_mk _ _ _ _ _ _ _ _ _ _ _ _ _ _ _ _ _ _ _ _ _ _ _ _ _
@[simp] theorem State.modCmm_fbk (s : State) (n : Nat) (f : CmmCh → CmmCh) : (s.modCmm n f).fbk = s.fbk :=
  State.fbk_mk _ _ _ _ _ _ _ _ _ _ _ _ _ _ _ _ _ _ _ _ _ _ _ _ _
@[simp] theorem State.modCmm_fio (s : State) (n : Nat) (f : CmmCh → CmmCh) : (s.modCmm n f).fio = s.fio :=
  State.fio_mk _ _ _ _ _ _ _ _ _ _ _ _ _ _ _ _ _ _ _ _ _ _ _ _ _
@[simp] theorem State.modCmm_saf (s : State) (n : Nat) (f : CmmCh → CmmCh) : (s.modCmm n f).saf = s.saf :=
  State.saf_mk _ _ _ _ _ _ _ _ _ _ _ _ _ _ _ _ _ _ _ _ _ _ _ _ _
@[simp] theorem State.modCmm_bss (s : State) (n : Nat) (f : CmmCh → CmmCh) : (s.modCmm n f).bss = s.bss :=
  State.bss_mk _ _ _ _ _ _ _ _ _ _ _ _ _ _ _ _ _ _ _ _ _ _ _ _ _
@[simp] theorem State.modCmm_fab (s : State) (n : Nat) (f : CmmCh → CmmCh) : (s.modCmm n f).fab = s.fab :=
  State.fab_mk _ _ _ _ _ _ _ _ _ _ _ _ _ _ _ _ _ _ _ _ _ _ _ _ _
@[simp] theorem State.modCmm_nbTs (s : State) (n : Nat) (f : CmmCh → CmmCh) : (s.modCmm n f).nbTs = s.nbTs :=
  State.nbTs_mk _ _ _ _ _ _ _ _ _ _ _ _ _ _ _ _ _ _ _ _ _ _ _ _ _
@[simp] theorem State.modCmm_rcd (s : State) (n : Nat) (f : CmmCh → CmmCh) : (s.modCmm n f).rcd = s.rcd :=
  State.rcd_mk _ _ _ _ _ _ _ _ _ _ _ _ _ _ _ _ _ _ _ _ _ _ _ _ _

@[simp] theorem State.modPort_pending (s : State) (p : Nat) (f : SlkPort → SlkPort) : (s.modPort p f).pending = s.pending :=
  State.pending_mk _ _ _ _ _ _ _ _ _ _ _ _ _ _ _ _ _ _ _ _ _ _ _ _ _
@[simp] theorem State.modPort_free (s : State) (p : Nat) (f : SlkPort → SlkPort) : (s.modPort p f).free = s.free :=
  State.free_mk _ _ _ _ _ _ _ _ _ _ _ _ _ _ _ _ _ _ _ _ _ _ _ _ _
@[simp] theorem State.modPort_tx (s : State) (p : Nat) (f : SlkPort → SlkPort) : (s.modPort p f).tx = s.tx :=
  State.tx_mk _ _ _ _ _ _ _ _ _ _ _ _ _ _ _ _ _ _ _ _ _ _ _ _ _
@[simp] theorem State.modPort_bus (s : State) (p : Nat) (f : SlkPort → SlkPort) : (s.modPort p f).bus = s.bus :=
  State.bus_mk _ _ _ _ _ _ _ _ _ _ _ _ _ _ _ _ _ _ _ _ _ _ _ _ _
@[simp] theorem State.modPort_tb (s : State) (p : Nat) (f : SlkPort → SlkPort) : (s.modPort p f).tb = s.tb :=
  State.tb_mk _ _ _ _ _ _ _ _ _ _ _ _ _ _ _ _ _ _ _ _ _ _ _ _ _
@[simp] theorem State.modPort_pw (s : State) (p : Nat) (f : SlkPort → SlkPort) : (s.modPort p f).pw = s.pw :=
  State.pw_mk _ _ _ _ _ _ _ _ _ _ _ _ _ _ _ _ _ _ _ _ _ _ _ _ _
@[simp] theorem State.modPort_nv (s : State) (p : Nat) (f : SlkPort → SlkPort) : (s.modPort p f).nv = s.nv :=
  State.nv_mk _ _ _ _ _ _ _ _ _ _ _ _ _ _ _ _ _ _ _ _ _ _ _ _ _
@[simp] theorem State.modPort_conf (s : State) (p : Nat) (f : SlkPort → SlkPort) : (s.modPort p f).conf = s.conf :=
  State.conf_mk _ _ _ _ _ _ _ _ _ _ _ _ _ _ _ _ _ _ _ _ _ _ _ _ _
@[simp] theorem State.modPort_pins (s : State) (p : Nat) (f : SlkPort → SlkPort) : (s.modPort p f).pins = s.pins :=
  State.pins_mk _ _ _ _ _ _ _ _ _ _ _ _ _ _ _ _ _ _ _ _ _ _ _ _ _
@[simp] theorem State.modPort_sram (s : State) (p : Nat) (f : SlkPort → SlkPort) : (s.modPort p f).sram = s.sram :=
  State.sram_mk _ _ _ _ _ _ _ _ _ _ _ _ _ _ _ _ _ _ _ _ _ _ _ _ _
@[simp] theorem State.modPort_caches (s : State) (p : Nat) (f : SlkPort → SlkPort) : (s.modPort p f).caches = s.caches :=
  State.caches_mk _ _ _ _ _ _ _ _ _ _ _ _ _ _ _ _ _ _ _ _ _ _ _ _ _
@[simp] theorem State.modPort_tide (s : State) (p : Nat) (f : SlkPort → SlkPort) : (s.modPort p f).tide = s.tide :=
  State.tide_mk _ _ _ _ _ _ _ _ _ _ _ _ _ _ _ _ _ _ _ _ _ _ _ _ _
@[simp] theorem State.modPort_cars (s : State) (p : Nat) (f : SlkPort → SlkPort) : (s.modPort p f).cars = s.cars :=
  State.cars_mk _ _ _ _ _ _ _ _ _ _ _ _ _ _ _ _ _ _ _ _ _ _ _ _ _
@[simp] theorem State.modPort_chans (s : State) (p : Nat) (f : SlkPort → SlkPort) : (s.modPort p f).chans = s.chans :=
  State.chans_mk _ _ _ _ _ _ _ _ _ _ _ _ _ _ _ _ _ _ _ _ _ _ _ _ _
@[simp] theorem State.modPort_trj (s : State) (p : Nat) (f : SlkPort → SlkPort) : (s.modPort p f).trj = s.trj :=
  State.trj_mk _ _ _ _ _ _ _ _ _ _ _ _ _ _ _ _ _ _ _ _ _ _ _ _ _
@[simp] theorem State.modPort_doors (s : State) (p : Nat) (f : SlkPort → SlkPort) : (s.modPort p f).doors = s.doors :=
  State.doors_mk _ _ _ _ _ _ _ _ _ _ _ _ _ _ _ _ _ _ _ _ _ _ _ _ _
@[simp] theorem State.modPort_cmm (s : State) (p : Nat) (f : SlkPort → SlkPort) : (s.modPort p f).cmm = s.cmm :=
  State.cmm_mk _ _ _ _ _ _ _ _ _ _ _ _ _ _ _ _ _ _ _ _ _ _ _ _ _
@[simp] theorem State.modPort_fbk (s : State) (p : Nat) (f : SlkPort → SlkPort) : (s.modPort p f).fbk = s.fbk :=
  State.fbk_mk _ _ _ _ _ _ _ _ _ _ _ _ _ _ _ _ _ _ _ _ _ _ _ _ _
@[simp] theorem State.modPort_fio (s : State) (p : Nat) (f : SlkPort → SlkPort) : (s.modPort p f).fio = s.fio :=
  State.fio_mk _ _ _ _ _ _ _ _ _ _ _ _ _ _ _ _ _ _ _ _ _ _ _ _ _
@[simp] theorem State.modPort_saf (s : State) (p : Nat) (f : SlkPort → SlkPort) : (s.modPort p f).saf = s.saf :=
  State.saf_mk _ _ _ _ _ _ _ _ _ _ _ _ _ _ _ _ _ _ _ _ _ _ _ _ _
@[simp] theorem State.modPort_bss (s : State) (p : Nat) (f : SlkPort → SlkPort) : (s.modPort p f).bss = s.bss :=
  State.bss_mk _ _ _ _ _ _ _ _ _ _ _ _ _ _ _ _ _ _ _ _ _ _ _ _ _
@[simp] theorem State.modPort_fab (s : State) (p : Nat) (f : SlkPort → SlkPort) : (s.modPort p f).fab = s.fab :=
  State.fab_mk _ _ _ _ _ _ _ _ _ _ _ _ _ _ _ _ _ _ _ _ _ _ _ _ _
@[simp] theorem State.modPort_nbTs (s : State) (p : Nat) (f : SlkPort → SlkPort) : (s.modPort p f).nbTs = s.nbTs :=
  State.nbTs_mk _ _ _ _ _ _ _ _ _ _ _ _ _ _ _ _ _ _ _ _ _ _ _ _ _
@[simp] theorem State.modPort_rcd (s : State) (p : Nat) (f : SlkPort → SlkPort) : (s.modPort p f).rcd = s.rcd :=
  State.rcd_mk _ _ _ _ _ _ _ _ _ _ _ _ _ _ _ _ _ _ _ _ _ _ _ _ _

@[simp] theorem State.modSlkCh_pending (s : State) (n : Nat) (f : SlkCh → SlkCh) : (s.modSlkCh n f).pending = s.pending :=
  State.pending_mk _ _ _ _ _ _ _ _ _ _ _ _ _ _ _ _ _ _ _ _ _ _ _ _ _
@[simp] theorem State.modSlkCh_free (s : State) (n : Nat) (f : SlkCh → SlkCh) : (s.modSlkCh n f).free = s.free :=
  State.free_mk _ _ _ _ _ _ _ _ _ _ _ _ _ _ _ _ _ _ _ _ _ _ _ _ _
@[simp] theorem State.modSlkCh_tx (s : State) (n : Nat) (f : SlkCh → SlkCh) : (s.modSlkCh n f).tx = s.tx :=
  State.tx_mk _ _ _ _ _ _ _ _ _ _ _ _ _ _ _ _ _ _ _ _ _ _ _ _ _
@[simp] theorem State.modSlkCh_bus (s : State) (n : Nat) (f : SlkCh → SlkCh) : (s.modSlkCh n f).bus = s.bus :=
  State.bus_mk _ _ _ _ _ _ _ _ _ _ _ _ _ _ _ _ _ _ _ _ _ _ _ _ _
@[simp] theorem State.modSlkCh_tb (s : State) (n : Nat) (f : SlkCh → SlkCh) : (s.modSlkCh n f).tb = s.tb :=
  State.tb_mk _ _ _ _ _ _ _ _ _ _ _ _ _ _ _ _ _ _ _ _ _ _ _ _ _
@[simp] theorem State.modSlkCh_pw (s : State) (n : Nat) (f : SlkCh → SlkCh) : (s.modSlkCh n f).pw = s.pw :=
  State.pw_mk _ _ _ _ _ _ _ _ _ _ _ _ _ _ _ _ _ _ _ _ _ _ _ _ _
@[simp] theorem State.modSlkCh_nv (s : State) (n : Nat) (f : SlkCh → SlkCh) : (s.modSlkCh n f).nv = s.nv :=
  State.nv_mk _ _ _ _ _ _ _ _ _ _ _ _ _ _ _ _ _ _ _ _ _ _ _ _ _
@[simp] theorem State.modSlkCh_conf (s : State) (n : Nat) (f : SlkCh → SlkCh) : (s.modSlkCh n f).conf = s.conf :=
  State.conf_mk _ _ _ _ _ _ _ _ _ _ _ _ _ _ _ _ _ _ _ _ _ _ _ _ _
@[simp] theorem State.modSlkCh_pins (s : State) (n : Nat) (f : SlkCh → SlkCh) : (s.modSlkCh n f).pins = s.pins :=
  State.pins_mk _ _ _ _ _ _ _ _ _ _ _ _ _ _ _ _ _ _ _ _ _ _ _ _ _
@[simp] theorem State.modSlkCh_sram (s : State) (n : Nat) (f : SlkCh → SlkCh) : (s.modSlkCh n f).sram = s.sram :=
  State.sram_mk _ _ _ _ _ _ _ _ _ _ _ _ _ _ _ _ _ _ _ _ _ _ _ _ _
@[simp] theorem State.modSlkCh_caches (s : State) (n : Nat) (f : SlkCh → SlkCh) : (s.modSlkCh n f).caches = s.caches :=
  State.caches_mk _ _ _ _ _ _ _ _ _ _ _ _ _ _ _ _ _ _ _ _ _ _ _ _ _
@[simp] theorem State.modSlkCh_tide (s : State) (n : Nat) (f : SlkCh → SlkCh) : (s.modSlkCh n f).tide = s.tide :=
  State.tide_mk _ _ _ _ _ _ _ _ _ _ _ _ _ _ _ _ _ _ _ _ _ _ _ _ _
@[simp] theorem State.modSlkCh_cars (s : State) (n : Nat) (f : SlkCh → SlkCh) : (s.modSlkCh n f).cars = s.cars :=
  State.cars_mk _ _ _ _ _ _ _ _ _ _ _ _ _ _ _ _ _ _ _ _ _ _ _ _ _
@[simp] theorem State.modSlkCh_chans (s : State) (n : Nat) (f : SlkCh → SlkCh) : (s.modSlkCh n f).chans = s.chans :=
  State.chans_mk _ _ _ _ _ _ _ _ _ _ _ _ _ _ _ _ _ _ _ _ _ _ _ _ _
@[simp] theorem State.modSlkCh_trj (s : State) (n : Nat) (f : SlkCh → SlkCh) : (s.modSlkCh n f).trj = s.trj :=
  State.trj_mk _ _ _ _ _ _ _ _ _ _ _ _ _ _ _ _ _ _ _ _ _ _ _ _ _
@[simp] theorem State.modSlkCh_doors (s : State) (n : Nat) (f : SlkCh → SlkCh) : (s.modSlkCh n f).doors = s.doors :=
  State.doors_mk _ _ _ _ _ _ _ _ _ _ _ _ _ _ _ _ _ _ _ _ _ _ _ _ _
@[simp] theorem State.modSlkCh_cmm (s : State) (n : Nat) (f : SlkCh → SlkCh) : (s.modSlkCh n f).cmm = s.cmm :=
  State.cmm_mk _ _ _ _ _ _ _ _ _ _ _ _ _ _ _ _ _ _ _ _ _ _ _ _ _
@[simp] theorem State.modSlkCh_fbk (s : State) (n : Nat) (f : SlkCh → SlkCh) : (s.modSlkCh n f).fbk = s.fbk :=
  State.fbk_mk _ _ _ _ _ _ _ _ _ _ _ _ _ _ _ _ _ _ _ _ _ _ _ _ _
@[simp] theorem State.modSlkCh_fio (s : State) (n : Nat) (f : SlkCh → SlkCh) : (s.modSlkCh n f).fio = s.fio :=
  State.fio_mk _ _ _ _ _ _ _ _ _ _ _ _ _ _ _ _ _ _ _ _ _ _ _ _ _
@[simp] theorem State.modSlkCh_saf (s : State) (n : Nat) (f : SlkCh → SlkCh) : (s.modSlkCh n f).saf = s.saf :=
  State.saf_mk _ _ _ _ _ _ _ _ _ _ _ _ _ _ _ _ _ _ _ _ _ _ _ _ _
@[simp] theorem State.modSlkCh_bss (s : State) (n : Nat) (f : SlkCh → SlkCh) : (s.modSlkCh n f).bss = s.bss :=
  State.bss_mk _ _ _ _ _ _ _ _ _ _ _ _ _ _ _ _ _ _ _ _ _ _ _ _ _
@[simp] theorem State.modSlkCh_fab (s : State) (n : Nat) (f : SlkCh → SlkCh) : (s.modSlkCh n f).fab = s.fab :=
  State.fab_mk _ _ _ _ _ _ _ _ _ _ _ _ _ _ _ _ _ _ _ _ _ _ _ _ _
@[simp] theorem State.modSlkCh_nbTs (s : State) (n : Nat) (f : SlkCh → SlkCh) : (s.modSlkCh n f).nbTs = s.nbTs :=
  State.nbTs_mk _ _ _ _ _ _ _ _ _ _ _ _ _ _ _ _ _ _ _ _ _ _ _ _ _
@[simp] theorem State.modSlkCh_rcd (s : State) (n : Nat) (f : SlkCh → SlkCh) : (s.modSlkCh n f).rcd = s.rcd :=
  State.rcd_mk _ _ _ _ _ _ _ _ _ _ _ _ _ _ _ _ _ _ _ _ _ _ _ _ _

@[simp] theorem State.modFb_pending (s : State) (n : Nat) (f : FbCh → FbCh) : (s.modFb n f).pending = s.pending :=
  State.pending_mk _ _ _ _ _ _ _ _ _ _ _ _ _ _ _ _ _ _ _ _ _ _ _ _ _
@[simp] theorem State.modFb_free (s : State) (n : Nat) (f : FbCh → FbCh) : (s.modFb n f).free = s.free :=
  State.free_mk _ _ _ _ _ _ _ _ _ _ _ _ _ _ _ _ _ _ _ _ _ _ _ _ _
@[simp] theorem State.modFb_tx (s : State) (n : Nat) (f : FbCh → FbCh) : (s.modFb n f).tx = s.tx :=
  State.tx_mk _ _ _ _ _ _ _ _ _ _ _ _ _ _ _ _ _ _ _ _ _ _ _ _ _
@[simp] theorem State.modFb_bus (s : State) (n : Nat) (f : FbCh → FbCh) : (s.modFb n f).bus = s.bus :=
  State.bus_mk _ _ _ _ _ _ _ _ _ _ _ _ _ _ _ _ _ _ _ _ _ _ _ _ _
@[simp] theorem State.modFb_tb (s : State) (n : Nat) (f : FbCh → FbCh) : (s.modFb n f).tb = s.tb :=
  State.tb_mk _ _ _ _ _ _ _ _ _ _ _ _ _ _ _ _ _ _ _ _ _ _ _ _ _
@[simp] theorem State.modFb_pw (s : State) (n : Nat) (f : FbCh → FbCh) : (s.modFb n f).pw = s.pw :=
  State.pw_mk _ _ _ _ _ _ _ _ _ _ _ _ _ _ _ _ _ _ _ _ _ _ _ _ _
@[simp] theorem State.modFb_nv (s : State) (n : Nat) (f : FbCh → FbCh) : (s.modFb n f).nv = s.nv :=
  State.nv_mk _ _ _ _ _ _ _ _ _ _ _ _ _ _ _ _ _ _ _ _ _ _ _ _ _
@[simp] theorem State.modFb_conf (s : State) (n : Nat) (f : FbCh → FbCh) : (s.modFb n f).conf = s.conf :=
  State.conf_mk _ _ _ _ _ _ _ _ _ _ _ _ _ _ _ _ _ _ _ _ _ _ _ _ _
@[simp] theorem State.modFb_pins (s : State) (n : Nat) (f : FbCh → FbCh) : (s.modFb n f).pins = s.pins :=
  State.pins_mk _ _ _ _ _ _ _ _ _ _ _ _ _ _ _ _ _ _ _ _ _ _ _ _ _
@[simp] theorem State.modFb_sram (s : State) (n : Nat) (f : FbCh → FbCh) : (s.modFb n f).sram = s.sram :=
  State.sram_mk _ _ _ _ _ _ _ _ _ _ _ _ _ _ _ _ _ _ _ _ _ _ _ _ _
@[simp] theorem State.modFb_caches (s : State) (n : Nat) (f : FbCh → FbCh) : (s.modFb n f).caches = s.caches :=
  State.caches_mk _ _ _ _ _ _ _ _ _ _ _ _ _ _ _ _ _ _ _ _ _ _ _ _ _
@[simp] theorem State.modFb_tide (s : State) (n : Nat) (f : FbCh → FbCh) : (s.modFb n f).tide = s.tide :=
  State.tide_mk _ _ _ _ _ _ _ _ _ _ _ _ _ _ _ _ _ _ _ _ _ _ _ _ _
@[simp] theorem State.modFb_cars (s : State) (n : Nat) (f : FbCh → FbCh) : (s.modFb n f).cars = s.cars :=
  State.cars_mk _ _ _ _ _ _ _ _ _ _ _ _ _ _ _ _ _ _ _ _ _ _ _ _ _
@[simp] theorem State.modFb_chans (s : State) (n : Nat) (f : FbCh → FbCh) : (s.modFb n f).chans = s.chans :=
  State.chans_mk _ _ _ _ _ _ _ _ _ _ _ _ _ _ _ _ _ _ _ _ _ _ _ _ _
@[simp] theorem State.modFb_trj (s : State) (n : Nat) (f : FbCh → FbCh) : (s.modFb n f).trj = s.trj :=
  State.trj_mk _ _ _ _ _ _ _ _ _ _ _ _ _ _ _ _ _ _ _ _ _ _ _ _ _
@[simp] theorem State.modFb_doors (s : State) (n : Nat) (f : FbCh → FbCh) : (s.modFb n f).doors = s.doors :=
  State.doors_mk _ _ _ _ _ _ _ _ _ _ _ _ _ _ _ _ _ _ _ _ _ _ _ _ _
@[simp] theorem State.modFb_cmm (s : State) (n : Nat) (f : FbCh → FbCh) : (s.modFb n f).cmm = s.cmm :=
  State.cmm_mk _ _ _ _ _ _ _ _ _ _ _ _ _ _ _ _ _ _ _ _ _ _ _ _ _
@[simp] theorem State.modFb_slk (s : State) (n : Nat) (f : FbCh → FbCh) : (s.modFb n f).slk = s.slk :=
  State.slk_mk _ _ _ _ _ _ _ _ _ _ _ _ _ _ _ _ _ _ _ _ _ _ _ _ _
@[simp] theorem State.modFb_fio (s : State) (n : Nat) (f : FbCh → FbCh) : (s.modFb n f).fio = s.fio :=
  State.fio_mk _ _ _ _ _ _ _ _ _ _ _ _ _ _ _ _ _ _ _ _ _ _ _ _ _
@[simp] theorem State.modFb_saf (s : State) (n : Nat) (f : FbCh → FbCh) : (s.modFb n f).saf = s.saf :=
  State.saf_mk _ _ _ _ _ _ _ _ _ _ _ _ _ _ _ _ _ _ _ _ _ _ _ _ _
@[simp] theorem State.modFb_bss (s : State) (n : Nat) (f : FbCh → FbCh) : (s.modFb n f).bss = s.bss :=
  State.bss_mk _ _ _ _ _ _ _ _ _ _ _ _ _ _ _ _ _ _ _ _ _ _ _ _ _
@[simp] theorem State.modFb_fab (s : State) (n : Nat) (f : FbCh → FbCh) : (s.modFb n f).fab = s.fab :=
  State.fab_mk _ _ _ _ _ _ _ _ _ _ _ _ _ _ _ _ _ _ _ _ _ _ _ _ _
@[simp] theorem State.modFb_nbTs (s : State) (n : Nat) (f : FbCh → FbCh) : (s.modFb n f).nbTs = s.nbTs :=
  State.nbTs_mk _ _ _ _ _ _ _ _ _ _ _ _ _ _ _ _ _ _ _ _ _ _ _ _ _
@[simp] theorem State.modFb_rcd (s : State) (n : Nat) (f : FbCh → FbCh) : (s.modFb n f).rcd = s.rcd :=
  State.rcd_mk _ _ _ _ _ _ _ _ _ _ _ _ _ _ _ _ _ _ _ _ _ _ _ _ _

@[simp] theorem State.modSer_pending (s : State) (p : Nat) (f : SerPort → SerPort) : (s.modSer p f).pending = s.pending :=
  State.pending_mk _ _ _ _ _ _ _ _ _ _ _ _ _ _ _ _ _ _ _ _ _ _ _ _ _
@[simp] theorem State.modSer_free (s : State) (p : Nat) (f : SerPort → SerPort) : (s.modSer p f).free = s.free :=
  State.free_mk _ _ _ _ _ _ _ _ _ _ _ _ _ _ _ _ _ _ _ _ _ _ _ _ _
@[simp] theorem State.modSer_tx (s : State) (p : Nat) (f : SerPort → SerPort) : (s.modSer p f).tx = s.tx :=
  State.tx_mk _ _ _ _ _ _ _ _ _ _ _ _ _ _ _ _ _ _ _ _ _ _ _ _ _
@[simp] theorem State.modSer_bus (s : State) (p : Nat) (f : SerPort → SerPort) : (s.modSer p f).bus = s.bus :=
  State.bus_mk _ _ _ _ _ _ _ _ _ _ _ _ _ _ _ _ _ _ _ _ _ _ _ _ _
@[simp] theorem State.modSer_tb (s : State) (p : Nat) (f : SerPort → SerPort) : (s.modSer p f).tb = s.tb :=
  State.tb_mk _ _ _ _ _ _ _ _ _ _ _ _ _ _ _ _ _ _ _ _ _ _ _ _ _
@[simp] theorem State.modSer_pw (s : State) (p : Nat) (f : SerPort → SerPort) : (s.modSer p f).pw = s.pw :=
  State.pw_mk _ _ _ _ _ _ _ _ _ _ _ _ _ _ _ _ _ _ _ _ _ _ _ _ _
@[simp] theorem State.modSer_nv (s : State) (p : Nat) (f : SerPort → SerPort) : (s.modSer p f).nv = s.nv :=
  State.nv_mk _ _ _ _ _ _ _ _ _ _ _ _ _ _ _ _ _ _ _ _ _ _ _ _ _
@[simp] theorem State.modSer_conf (s : State) (p : Nat) (f : SerPort → SerPort) : (s.modSer p f).conf = s.conf :=
  State.conf_mk _ _ _ _ _ _ _ _ _ _ _ _ _ _ _ _ _ _ _ _ _ _ _ _ _
@[simp] theorem State.modSer_pins (s : State) (p : Nat) (f : SerPort → SerPort) : (s.modSer p f).pins = s.pins :=
  State.pins_mk _ _ _ _ _ _ _ _ _ _ _ _ _ _ _ _ _ _ _ _ _ _ _ _ _
@[simp] theorem State.modSer_sram (s : State) (p : Nat) (f : SerPort → SerPort) : (s.modSer p f).sram = s.sram :=
  State.sram_mk _ _ _ _ _ _ _ _ _ _ _ _ _ _ _ _ _ _ _ _ _ _ _ _ _
@[simp] theorem State.modSer_caches (s : State) (p : Nat) (f : SerPort → SerPort) : (s.modSer p f).caches = s.caches :=
  State.caches_mk _ _ _ _ _ _ _ _ _ _ _ _ _ _ _ _ _ _ _ _ _ _ _ _ _
@[simp] theorem State.modSer_tide (s : State) (p : Nat) (f : SerPort → SerPort) : (s.modSer p f).tide = s.tide :=
  State.tide_mk _ _ _ _ _ _ _ _ _ _ _ _ _ _ _ _ _ _ _ _ _ _ _ _ _
@[simp] theorem State.modSer_cars (s : State) (p : Nat) (f : SerPort → SerPort) : (s.modSer p f).cars = s.cars :=
  State.cars_mk _ _ _ _ _ _ _ _ _ _ _ _ _ _ _ _ _ _ _ _ _ _ _ _ _
@[simp] theorem State.modSer_chans (s : State) (p : Nat) (f : SerPort → SerPort) : (s.modSer p f).chans = s.chans :=
  State.chans_mk _ _ _ _ _ _ _ _ _ _ _ _ _ _ _ _ _ _ _ _ _ _ _ _ _
@[simp] theorem State.modSer_trj (s : State) (p : Nat) (f : SerPort → SerPort) : (s.modSer p f).trj = s.trj :=
  State.trj_mk _ _ _ _ _ _ _ _ _ _ _ _ _ _ _ _ _ _ _ _ _ _ _ _ _
@[simp] theorem State.modSer_doors (s : State) (p : Nat) (f : SerPort → SerPort) : (s.modSer p f).doors = s.doors :=
  State.doors_mk _ _ _ _ _ _ _ _ _ _ _ _ _ _ _ _ _ _ _ _ _ _ _ _ _
@[simp] theorem State.modSer_cmm (s : State) (p : Nat) (f : SerPort → SerPort) : (s.modSer p f).cmm = s.cmm :=
  State.cmm_mk _ _ _ _ _ _ _ _ _ _ _ _ _ _ _ _ _ _ _ _ _ _ _ _ _
@[simp] theorem State.modSer_slk (s : State) (p : Nat) (f : SerPort → SerPort) : (s.modSer p f).slk = s.slk :=
  State.slk_mk _ _ _ _ _ _ _ _ _ _ _ _ _ _ _ _ _ _ _ _ _ _ _ _ _
@[simp] theorem State.modSer_fio (s : State) (p : Nat) (f : SerPort → SerPort) : (s.modSer p f).fio = s.fio :=
  State.fio_mk _ _ _ _ _ _ _ _ _ _ _ _ _ _ _ _ _ _ _ _ _ _ _ _ _
@[simp] theorem State.modSer_saf (s : State) (p : Nat) (f : SerPort → SerPort) : (s.modSer p f).saf = s.saf :=
  State.saf_mk _ _ _ _ _ _ _ _ _ _ _ _ _ _ _ _ _ _ _ _ _ _ _ _ _
@[simp] theorem State.modSer_bss (s : State) (p : Nat) (f : SerPort → SerPort) : (s.modSer p f).bss = s.bss :=
  State.bss_mk _ _ _ _ _ _ _ _ _ _ _ _ _ _ _ _ _ _ _ _ _ _ _ _ _
@[simp] theorem State.modSer_fab (s : State) (p : Nat) (f : SerPort → SerPort) : (s.modSer p f).fab = s.fab :=
  State.fab_mk _ _ _ _ _ _ _ _ _ _ _ _ _ _ _ _ _ _ _ _ _ _ _ _ _
@[simp] theorem State.modSer_nbTs (s : State) (p : Nat) (f : SerPort → SerPort) : (s.modSer p f).nbTs = s.nbTs :=
  State.nbTs_mk _ _ _ _ _ _ _ _ _ _ _ _ _ _ _ _ _ _ _ _ _ _ _ _ _
@[simp] theorem State.modSer_rcd (s : State) (p : Nat) (f : SerPort → SerPort) : (s.modSer p f).rcd = s.rcd :=
  State.rcd_mk _ _ _ _ _ _ _ _ _ _ _ _ _ _ _ _ _ _ _ _ _ _ _ _ _

@[simp] theorem State.modEmu_pending (s : State) (e : Nat) (f : Emu → Emu) : (s.modEmu e f).pending = s.pending :=
  State.pending_mk _ _ _ _ _ _ _ _ _ _ _ _ _ _ _ _ _ _ _ _ _ _ _ _ _
@[simp] theorem State.modEmu_free (s : State) (e : Nat) (f : Emu → Emu) : (s.modEmu e f).free = s.free :=
  State.free_mk _ _ _ _ _ _ _ _ _ _ _ _ _ _ _ _ _ _ _ _ _ _ _ _ _
@[simp] theorem State.modEmu_tx (s : State) (e : Nat) (f : Emu → Emu) : (s.modEmu e f).tx = s.tx :=
  State.tx_mk _ _ _ _ _ _ _ _ _ _ _ _ _ _ _ _ _ _ _ _ _ _ _ _ _
@[simp] theorem State.modEmu_bus (s : State) (e : Nat) (f : Emu → Emu) : (s.modEmu e f).bus = s.bus :=
  State.bus_mk _ _ _ _ _ _ _ _ _ _ _ _ _ _ _ _ _ _ _ _ _ _ _ _ _
@[simp] theorem State.modEmu_tb (s : State) (e : Nat) (f : Emu → Emu) : (s.modEmu e f).tb = s.tb :=
  State.tb_mk _ _ _ _ _ _ _ _ _ _ _ _ _ _ _ _ _ _ _ _ _ _ _ _ _
@[simp] theorem State.modEmu_pw (s : State) (e : Nat) (f : Emu → Emu) : (s.modEmu e f).pw = s.pw :=
  State.pw_mk _ _ _ _ _ _ _ _ _ _ _ _ _ _ _ _ _ _ _ _ _ _ _ _ _
@[simp] theorem State.modEmu_nv (s : State) (e : Nat) (f : Emu → Emu) : (s.modEmu e f).nv = s.nv :=
  State.nv_mk _ _ _ _ _ _ _ _ _ _ _ _ _ _ _ _ _ _ _ _ _ _ _ _ _
@[simp] theorem State.modEmu_conf (s : State) (e : Nat) (f : Emu → Emu) : (s.modEmu e f).conf = s.conf :=
  State.conf_mk _ _ _ _ _ _ _ _ _ _ _ _ _ _ _ _ _ _ _ _ _ _ _ _ _
@[simp] theorem State.modEmu_pins (s : State) (e : Nat) (f : Emu → Emu) : (s.modEmu e f).pins = s.pins :=
  State.pins_mk _ _ _ _ _ _ _ _ _ _ _ _ _ _ _ _ _ _ _ _ _ _ _ _ _
@[simp] theorem State.modEmu_sram (s : State) (e : Nat) (f : Emu → Emu) : (s.modEmu e f).sram = s.sram :=
  State.sram_mk _ _ _ _ _ _ _ _ _ _ _ _ _ _ _ _ _ _ _ _ _ _ _ _ _
@[simp] theorem State.modEmu_caches (s : State) (e : Nat) (f : Emu → Emu) : (s.modEmu e f).caches = s.caches :=
  State.caches_mk _ _ _ _ _ _ _ _ _ _ _ _ _ _ _ _ _ _ _ _ _ _ _ _ _
@[simp] theorem State.modEmu_tide (s : State) (e : Nat) (f : Emu → Emu) : (s.modEmu e f).tide = s.tide :=
  State.tide_mk _ _ _ _ _ _ _ _ _ _ _ _ _ _ _ _ _ _ _ _ _ _ _ _ _
@[simp] theorem State.modEmu_cars (s : State) (e : Nat) (f : Emu → Emu) : (s.modEmu e f).cars = s.cars :=
  State.cars_mk _ _ _ _ _ _ _ _ _ _ _ _ _ _ _ _ _ _ _ _ _ _ _ _ _
@[simp] theorem State.modEmu_chans (s : State) (e : Nat) (f : Emu → Emu) : (s.modEmu e f).chans = s.chans :=
  State.chans_mk _ _ _ _ _ _ _ _ _ _ _ _ _ _ _ _ _ _ _ _ _ _ _ _ _
@[simp] theorem State.modEmu_trj (s : State) (e : Nat) (f : Emu → Emu) : (s.modEmu e f).trj = s.trj :=
  State.trj_mk _ _ _ _ _ _ _ _ _ _ _ _ _ _ _ _ _ _ _ _ _ _ _ _ _
@[simp] theorem State.modEmu_doors (s : State) (e : Nat) (f : Emu → Emu) : (s.modEmu e f).doors = s.doors :=
  State.doors_mk _ _ _ _ _ _ _ _ _ _ _ _ _ _ _ _ _ _ _ _ _ _ _ _ _
@[simp] theorem State.modEmu_cmm (s : State) (e : Nat) (f : Emu → Emu) : (s.modEmu e f).cmm = s.cmm :=
  State.cmm_mk _ _ _ _ _ _ _ _ _ _ _ _ _ _ _ _ _ _ _ _ _ _ _ _ _
@[simp] theorem State.modEmu_slk (s : State) (e : Nat) (f : Emu → Emu) : (s.modEmu e f).slk = s.slk :=
  State.slk_mk _ _ _ _ _ _ _ _ _ _ _ _ _ _ _ _ _ _ _ _ _ _ _ _ _
@[simp] theorem State.modEmu_fio (s : State) (e : Nat) (f : Emu → Emu) : (s.modEmu e f).fio = s.fio :=
  State.fio_mk _ _ _ _ _ _ _ _ _ _ _ _ _ _ _ _ _ _ _ _ _ _ _ _ _
@[simp] theorem State.modEmu_saf (s : State) (e : Nat) (f : Emu → Emu) : (s.modEmu e f).saf = s.saf :=
  State.saf_mk _ _ _ _ _ _ _ _ _ _ _ _ _ _ _ _ _ _ _ _ _ _ _ _ _
@[simp] theorem State.modEmu_bss (s : State) (e : Nat) (f : Emu → Emu) : (s.modEmu e f).bss = s.bss :=
  State.bss_mk _ _ _ _ _ _ _ _ _ _ _ _ _ _ _ _ _ _ _ _ _ _ _ _ _
@[simp] theorem State.modEmu_fab (s : State) (e : Nat) (f : Emu → Emu) : (s.modEmu e f).fab = s.fab :=
  State.fab_mk _ _ _ _ _ _ _ _ _ _ _ _ _ _ _ _ _ _ _ _ _ _ _ _ _
@[simp] theorem State.modEmu_nbTs (s : State) (e : Nat) (f : Emu → Emu) : (s.modEmu e f).nbTs = s.nbTs :=
  State.nbTs_mk _ _ _ _ _ _ _ _ _ _ _ _ _ _ _ _ _ _ _ _ _ _ _ _ _
@[simp] theorem State.modEmu_rcd (s : State) (e : Nat) (f : Emu → Emu) : (s.modEmu e f).rcd = s.rcd :=
  State.rcd_mk _ _ _ _ _ _ _ _ _ _ _ _ _ _ _ _ _ _ _ _ _ _ _ _ _

@[simp] theorem State.modDoor_pending (s : State) (d : Nat) (f : Door → Door) : (s.modDoor d f).pending = s.pending :=
  State.pending_mk _ _ _ _ _ _ _ _ _ _ _ _ _ _ _ _ _ _ _ _ _ _ _ _ _
@[simp] theorem State.modDoor_free (s : State) (d : Nat) (f : Door → Door) : (s.modDoor d f).free = s.free :=
  State.free_mk _ _ _ _ _ _ _ _ _ _ _ _ _ _ _ _ _ _ _ _ _ _ _ _ _
@[simp] theorem State.modDoor_tx (s : State) (d : Nat) (f : Door → Door) : (s.modDoor d f).tx = s.tx :=
  State.tx_mk _ _ _ _ _ _ _ _ _ _ _ _ _ _ _ _ _ _ _ _ _ _ _ _ _
@[simp] theorem State.modDoor_bus (s : State) (d : Nat) (f : Door → Door) : (s.modDoor d f).bus = s.bus :=
  State.bus_mk _ _ _ _ _ _ _ _ _ _ _ _ _ _ _ _ _ _ _ _ _ _ _ _ _
@[simp] theorem State.modDoor_tb (s : State) (d : Nat) (f : Door → Door) : (s.modDoor d f).tb = s.tb :=
  State.tb_mk _ _ _ _ _ _ _ _ _ _ _ _ _ _ _ _ _ _ _ _ _ _ _ _ _
@[simp] theorem State.modDoor_pw (s : State) (d : Nat) (f : Door → Door) : (s.modDoor d f).pw = s.pw :=
  State.pw_mk _ _ _ _ _ _ _ _ _ _ _ _ _ _ _ _ _ _ _ _ _ _ _ _ _
@[simp] theorem State.modDoor_nv (s : State) (d : Nat) (f : Door → Door) : (s.modDoor d f).nv = s.nv :=
  State.nv_mk _ _ _ _ _ _ _ _ _ _ _ _ _ _ _ _ _ _ _ _ _ _ _ _ _
@[simp] theorem State.modDoor_conf (s : State) (d : Nat) (f : Door → Door) : (s.modDoor d f).conf = s.conf :=
  State.conf_mk _ _ _ _ _ _ _ _ _ _ _ _ _ _ _ _ _ _ _ _ _ _ _ _ _
@[simp] theorem State.modDoor_pins (s : State) (d : Nat) (f : Door → Door) : (s.modDoor d f).pins = s.pins :=
  State.pins_mk _ _ _ _ _ _ _ _ _ _ _ _ _ _ _ _ _ _ _ _ _ _ _ _ _
@[simp] theorem State.modDoor_sram (s : State) (d : Nat) (f : Door → Door) : (s.modDoor d f).sram = s.sram :=
  State.sram_mk _ _ _ _ _ _ _ _ _ _ _ _ _ _ _ _ _ _ _ _ _ _ _ _ _
@[simp] theorem State.modDoor_caches (s : State) (d : Nat) (f : Door → Door) : (s.modDoor d f).caches = s.caches :=
  State.caches_mk _ _ _ _ _ _ _ _ _ _ _ _ _ _ _ _ _ _ _ _ _ _ _ _ _
@[simp] theorem State.modDoor_tide (s : State) (d : Nat) (f : Door → Door) : (s.modDoor d f).tide = s.tide :=
  State.tide_mk _ _ _ _ _ _ _ _ _ _ _ _ _ _ _ _ _ _ _ _ _ _ _ _ _
@[simp] theorem State.modDoor_cars (s : State) (d : Nat) (f : Door → Door) : (s.modDoor d f).cars = s.cars :=
  State.cars_mk _ _ _ _ _ _ _ _ _ _ _ _ _ _ _ _ _ _ _ _ _ _ _ _ _
@[simp] theorem State.modDoor_chans (s : State) (d : Nat) (f : Door → Door) : (s.modDoor d f).chans = s.chans :=
  State.chans_mk _ _ _ _ _ _ _ _ _ _ _ _ _ _ _ _ _ _ _ _ _ _ _ _ _
@[simp] theorem State.modDoor_trj (s : State) (d : Nat) (f : Door → Door) : (s.modDoor d f).trj = s.trj :=
  State.trj_mk _ _ _ _ _ _ _ _ _ _ _ _ _ _ _ _ _ _ _ _ _ _ _ _ _
@[simp] theorem State.modDoor_cmm (s : State) (d : Nat) (f : Door → Door) : (s.modDoor d f).cmm = s.cmm :=
  State.cmm_mk _ _ _ _ _ _ _ _ _ _ _ _ _ _ _ _ _ _ _ _ _ _ _ _ _
@[simp] theorem State.modDoor_slk (s : State) (d : Nat) (f : Door → Door) : (s.modDoor d f).slk = s.slk :=
  State.slk_mk _ _ _ _ _ _ _ _ _ _ _ _ _ _ _ _ _ _ _ _ _ _ _ _ _
@[simp] theorem State.modDoor_fbk (s : State) (d : Nat) (f : Door → Door) : (s.modDoor d f).fbk = s.fbk :=
  State.fbk_mk _ _ _ _ _ _ _ _ _ _ _ _ _ _ _ _ _ _ _ _ _ _ _ _ _
@[simp] theorem State.modDoor_fio (s : State) (d : Nat) (f : Door → Door) : (s.modDoor d f).fio = s.fio :=
  State.fio_mk _ _ _ _ _ _ _ _ _ _ _ _ _ _ _ _ _ _ _ _ _ _ _ _ _
@[simp] theorem State.modDoor_saf (s : State) (d : Nat) (f : Door → Door) : (s.modDoor d f).saf = s.saf :=
  State.saf_mk _ _ _ _ _ _ _ _ _ _ _ _ _ _ _ _ _ _ _ _ _ _ _ _ _
@[simp] theorem State.modDoor_bss (s : State) (d : Nat) (f : Door → Door) : (s.modDoor d f).bss = s.bss :=
  State.bss_mk _ _ _ _ _ _ _ _ _ _ _ _ _ _ _ _ _ _ _ _ _ _ _ _ _
@[simp] theorem State.modDoor_fab (s : State) (d : Nat) (f : Door → Door) : (s.modDoor d f).fab = s.fab :=
  State.fab_mk _ _ _ _ _ _ _ _ _ _ _ _ _ _ _ _ _ _ _ _ _ _ _ _ _
@[simp] theorem State.modDoor_nbTs (s : State) (d : Nat) (f : Door → Door) : (s.modDoor d f).nbTs = s.nbTs :=
  State.nbTs_mk _ _ _ _ _ _ _ _ _ _ _ _ _ _ _ _ _ _ _ _ _ _ _ _ _
@[simp] theorem State.modDoor_rcd (s : State) (d : Nat) (f : Door → Door) : (s.modDoor d f).rcd = s.rcd :=
  State.rcd_mk _ _ _ _ _ _ _ _ _ _ _ _ _ _ _ _ _ _ _ _ _ _ _ _ _

@[simp] theorem State.modDie_pending (s : State) (g : Nat) (f : Die → Die) : (s.modDie g f).pending = s.pending :=
  State.pending_mk _ _ _ _ _ _ _ _ _ _ _ _ _ _ _ _ _ _ _ _ _ _ _ _ _
@[simp] theorem State.modDie_free (s : State) (g : Nat) (f : Die → Die) : (s.modDie g f).free = s.free :=
  State.free_mk _ _ _ _ _ _ _ _ _ _ _ _ _ _ _ _ _ _ _ _ _ _ _ _ _
@[simp] theorem State.modDie_tx (s : State) (g : Nat) (f : Die → Die) : (s.modDie g f).tx = s.tx :=
  State.tx_mk _ _ _ _ _ _ _ _ _ _ _ _ _ _ _ _ _ _ _ _ _ _ _ _ _
@[simp] theorem State.modDie_bus (s : State) (g : Nat) (f : Die → Die) : (s.modDie g f).bus = s.bus :=
  State.bus_mk _ _ _ _ _ _ _ _ _ _ _ _ _ _ _ _ _ _ _ _ _ _ _ _ _
@[simp] theorem State.modDie_tb (s : State) (g : Nat) (f : Die → Die) : (s.modDie g f).tb = s.tb :=
  State.tb_mk _ _ _ _ _ _ _ _ _ _ _ _ _ _ _ _ _ _ _ _ _ _ _ _ _
@[simp] theorem State.modDie_pw (s : State) (g : Nat) (f : Die → Die) : (s.modDie g f).pw = s.pw :=
  State.pw_mk _ _ _ _ _ _ _ _ _ _ _ _ _ _ _ _ _ _ _ _ _ _ _ _ _
@[simp] theorem State.modDie_nv (s : State) (g : Nat) (f : Die → Die) : (s.modDie g f).nv = s.nv :=
  State.nv_mk _ _ _ _ _ _ _ _ _ _ _ _ _ _ _ _ _ _ _ _ _ _ _ _ _
@[simp] theorem State.modDie_conf (s : State) (g : Nat) (f : Die → Die) : (s.modDie g f).conf = s.conf :=
  State.conf_mk _ _ _ _ _ _ _ _ _ _ _ _ _ _ _ _ _ _ _ _ _ _ _ _ _
@[simp] theorem State.modDie_pins (s : State) (g : Nat) (f : Die → Die) : (s.modDie g f).pins = s.pins :=
  State.pins_mk _ _ _ _ _ _ _ _ _ _ _ _ _ _ _ _ _ _ _ _ _ _ _ _ _
@[simp] theorem State.modDie_sram (s : State) (g : Nat) (f : Die → Die) : (s.modDie g f).sram = s.sram :=
  State.sram_mk _ _ _ _ _ _ _ _ _ _ _ _ _ _ _ _ _ _ _ _ _ _ _ _ _
@[simp] theorem State.modDie_caches (s : State) (g : Nat) (f : Die → Die) : (s.modDie g f).caches = s.caches :=
  State.caches_mk _ _ _ _ _ _ _ _ _ _ _ _ _ _ _ _ _ _ _ _ _ _ _ _ _
@[simp] theorem State.modDie_tide (s : State) (g : Nat) (f : Die → Die) : (s.modDie g f).tide = s.tide :=
  State.tide_mk _ _ _ _ _ _ _ _ _ _ _ _ _ _ _ _ _ _ _ _ _ _ _ _ _
@[simp] theorem State.modDie_cars (s : State) (g : Nat) (f : Die → Die) : (s.modDie g f).cars = s.cars :=
  State.cars_mk _ _ _ _ _ _ _ _ _ _ _ _ _ _ _ _ _ _ _ _ _ _ _ _ _
@[simp] theorem State.modDie_chans (s : State) (g : Nat) (f : Die → Die) : (s.modDie g f).chans = s.chans :=
  State.chans_mk _ _ _ _ _ _ _ _ _ _ _ _ _ _ _ _ _ _ _ _ _ _ _ _ _
@[simp] theorem State.modDie_trj (s : State) (g : Nat) (f : Die → Die) : (s.modDie g f).trj = s.trj :=
  State.trj_mk _ _ _ _ _ _ _ _ _ _ _ _ _ _ _ _ _ _ _ _ _ _ _ _ _
@[simp] theorem State.modDie_doors (s : State) (g : Nat) (f : Die → Die) : (s.modDie g f).doors = s.doors :=
  State.doors_mk _ _ _ _ _ _ _ _ _ _ _ _ _ _ _ _ _ _ _ _ _ _ _ _ _
@[simp] theorem State.modDie_cmm (s : State) (g : Nat) (f : Die → Die) : (s.modDie g f).cmm = s.cmm :=
  State.cmm_mk _ _ _ _ _ _ _ _ _ _ _ _ _ _ _ _ _ _ _ _ _ _ _ _ _
@[simp] theorem State.modDie_slk (s : State) (g : Nat) (f : Die → Die) : (s.modDie g f).slk = s.slk :=
  State.slk_mk _ _ _ _ _ _ _ _ _ _ _ _ _ _ _ _ _ _ _ _ _ _ _ _ _
@[simp] theorem State.modDie_fbk (s : State) (g : Nat) (f : Die → Die) : (s.modDie g f).fbk = s.fbk :=
  State.fbk_mk _ _ _ _ _ _ _ _ _ _ _ _ _ _ _ _ _ _ _ _ _ _ _ _ _
@[simp] theorem State.modDie_saf (s : State) (g : Nat) (f : Die → Die) : (s.modDie g f).saf = s.saf :=
  State.saf_mk _ _ _ _ _ _ _ _ _ _ _ _ _ _ _ _ _ _ _ _ _ _ _ _ _
@[simp] theorem State.modDie_bss (s : State) (g : Nat) (f : Die → Die) : (s.modDie g f).bss = s.bss :=
  State.bss_mk _ _ _ _ _ _ _ _ _ _ _ _ _ _ _ _ _ _ _ _ _ _ _ _ _
@[simp] theorem State.modDie_fab (s : State) (g : Nat) (f : Die → Die) : (s.modDie g f).fab = s.fab :=
  State.fab_mk _ _ _ _ _ _ _ _ _ _ _ _ _ _ _ _ _ _ _ _ _ _ _ _ _
@[simp] theorem State.modDie_nbTs (s : State) (g : Nat) (f : Die → Die) : (s.modDie g f).nbTs = s.nbTs :=
  State.nbTs_mk _ _ _ _ _ _ _ _ _ _ _ _ _ _ _ _ _ _ _ _ _ _ _ _ _
@[simp] theorem State.modDie_rcd (s : State) (g : Nat) (f : Die → Die) : (s.modDie g f).rcd = s.rcd :=
  State.rcd_mk _ _ _ _ _ _ _ _ _ _ _ _ _ _ _ _ _ _ _ _ _ _ _ _ _

@[simp] theorem State.modStoLink_pending (s : State) (l : Nat) (f : StoLink → StoLink) : (s.modStoLink l f).pending = s.pending :=
  State.pending_mk _ _ _ _ _ _ _ _ _ _ _ _ _ _ _ _ _ _ _ _ _ _ _ _ _
@[simp] theorem State.modStoLink_free (s : State) (l : Nat) (f : StoLink → StoLink) : (s.modStoLink l f).free = s.free :=
  State.free_mk _ _ _ _ _ _ _ _ _ _ _ _ _ _ _ _ _ _ _ _ _ _ _ _ _
@[simp] theorem State.modStoLink_tx (s : State) (l : Nat) (f : StoLink → StoLink) : (s.modStoLink l f).tx = s.tx :=
  State.tx_mk _ _ _ _ _ _ _ _ _ _ _ _ _ _ _ _ _ _ _ _ _ _ _ _ _
@[simp] theorem State.modStoLink_bus (s : State) (l : Nat) (f : StoLink → StoLink) : (s.modStoLink l f).bus = s.bus :=
  State.bus_mk _ _ _ _ _ _ _ _ _ _ _ _ _ _ _ _ _ _ _ _ _ _ _ _ _
@[simp] theorem State.modStoLink_tb (s : State) (l : Nat) (f : StoLink → StoLink) : (s.modStoLink l f).tb = s.tb :=
  State.tb_mk _ _ _ _ _ _ _ _ _ _ _ _ _ _ _ _ _ _ _ _ _ _ _ _ _
@[simp] theorem State.modStoLink_pw (s : State) (l : Nat) (f : StoLink → StoLink) : (s.modStoLink l f).pw = s.pw :=
  State.pw_mk _ _ _ _ _ _ _ _ _ _ _ _ _ _ _ _ _ _ _ _ _ _ _ _ _
@[simp] theorem State.modStoLink_nv (s : State) (l : Nat) (f : StoLink → StoLink) : (s.modStoLink l f).nv = s.nv :=
  State.nv_mk _ _ _ _ _ _ _ _ _ _ _ _ _ _ _ _ _ _ _ _ _ _ _ _ _
@[simp] theorem State.modStoLink_conf (s : State) (l : Nat) (f : StoLink → StoLink) : (s.modStoLink l f).conf = s.conf :=
  State.conf_mk _ _ _ _ _ _ _ _ _ _ _ _ _ _ _ _ _ _ _ _ _ _ _ _ _
@[simp] theorem State.modStoLink_pins (s : State) (l : Nat) (f : StoLink → StoLink) : (s.modStoLink l f).pins = s.pins :=
  State.pins_mk _ _ _ _ _ _ _ _ _ _ _ _ _ _ _ _ _ _ _ _ _ _ _ _ _
@[simp] theorem State.modStoLink_sram (s : State) (l : Nat) (f : StoLink → StoLink) : (s.modStoLink l f).sram = s.sram :=
  State.sram_mk _ _ _ _ _ _ _ _ _ _ _ _ _ _ _ _ _ _ _ _ _ _ _ _ _
@[simp] theorem State.modStoLink_caches (s : State) (l : Nat) (f : StoLink → StoLink) : (s.modStoLink l f).caches = s.caches :=
  State.caches_mk _ _ _ _ _ _ _ _ _ _ _ _ _ _ _ _ _ _ _ _ _ _ _ _ _
@[simp] theorem State.modStoLink_tide (s : State) (l : Nat) (f : StoLink → StoLink) : (s.modStoLink l f).tide = s.tide :=
  State.tide_mk _ _ _ _ _ _ _ _ _ _ _ _ _ _ _ _ _ _ _ _ _ _ _ _ _
@[simp] theorem State.modStoLink_cars (s : State) (l : Nat) (f : StoLink → StoLink) : (s.modStoLink l f).cars = s.cars :=
  State.cars_mk _ _ _ _ _ _ _ _ _ _ _ _ _ _ _ _ _ _ _ _ _ _ _ _ _
@[simp] theorem State.modStoLink_chans (s : State) (l : Nat) (f : StoLink → StoLink) : (s.modStoLink l f).chans = s.chans :=
  State.chans_mk _ _ _ _ _ _ _ _ _ _ _ _ _ _ _ _ _ _ _ _ _ _ _ _ _
@[simp] theorem State.modStoLink_trj (s : State) (l : Nat) (f : StoLink → StoLink) : (s.modStoLink l f).trj = s.trj :=
  State.trj_mk _ _ _ _ _ _ _ _ _ _ _ _ _ _ _ _ _ _ _ _ _ _ _ _ _
@[simp] theorem State.modStoLink_doors (s : State) (l : Nat) (f : StoLink → StoLink) : (s.modStoLink l f).doors = s.doors :=
  State.doors_mk _ _ _ _ _ _ _ _ _ _ _ _ _ _ _ _ _ _ _ _ _ _ _ _ _
@[simp] theorem State.modStoLink_cmm (s : State) (l : Nat) (f : StoLink → StoLink) : (s.modStoLink l f).cmm = s.cmm :=
  State.cmm_mk _ _ _ _ _ _ _ _ _ _ _ _ _ _ _ _ _ _ _ _ _ _ _ _ _
@[simp] theorem State.modStoLink_slk (s : State) (l : Nat) (f : StoLink → StoLink) : (s.modStoLink l f).slk = s.slk :=
  State.slk_mk _ _ _ _ _ _ _ _ _ _ _ _ _ _ _ _ _ _ _ _ _ _ _ _ _
@[simp] theorem State.modStoLink_fbk (s : State) (l : Nat) (f : StoLink → StoLink) : (s.modStoLink l f).fbk = s.fbk :=
  State.fbk_mk _ _ _ _ _ _ _ _ _ _ _ _ _ _ _ _ _ _ _ _ _ _ _ _ _
@[simp] theorem State.modStoLink_saf (s : State) (l : Nat) (f : StoLink → StoLink) : (s.modStoLink l f).saf = s.saf :=
  State.saf_mk _ _ _ _ _ _ _ _ _ _ _ _ _ _ _ _ _ _ _ _ _ _ _ _ _
@[simp] theorem State.modStoLink_bss (s : State) (l : Nat) (f : StoLink → StoLink) : (s.modStoLink l f).bss = s.bss :=
  State.bss_mk _ _ _ _ _ _ _ _ _ _ _ _ _ _ _ _ _ _ _ _ _ _ _ _ _
@[simp] theorem State.modStoLink_fab (s : State) (l : Nat) (f : StoLink → StoLink) : (s.modStoLink l f).fab = s.fab :=
  State.fab_mk _ _ _ _ _ _ _ _ _ _ _ _ _ _ _ _ _ _ _ _ _ _ _ _ _
@[simp] theorem State.modStoLink_nbTs (s : State) (l : Nat) (f : StoLink → StoLink) : (s.modStoLink l f).nbTs = s.nbTs :=
  State.nbTs_mk _ _ _ _ _ _ _ _ _ _ _ _ _ _ _ _ _ _ _ _ _ _ _ _ _
@[simp] theorem State.modStoLink_rcd (s : State) (l : Nat) (f : StoLink → StoLink) : (s.modStoLink l f).rcd = s.rcd :=
  State.rcd_mk _ _ _ _ _ _ _ _ _ _ _ _ _ _ _ _ _ _ _ _ _ _ _ _ _

@[simp] theorem State.modFreq_pending (s : State) (i : Nat) (f : FreqIn → FreqIn) : (s.modFreq i f).pending = s.pending :=
  State.pending_mk _ _ _ _ _ _ _ _ _ _ _ _ _ _ _ _ _ _ _ _ _ _ _ _ _
@[simp] theorem State.modFreq_free (s : State) (i : Nat) (f : FreqIn → FreqIn) : (s.modFreq i f).free = s.free :=
  State.free_mk _ _ _ _ _ _ _ _ _ _ _ _ _ _ _ _ _ _ _ _ _ _ _ _ _
@[simp] theorem State.modFreq_tx (s : State) (i : Nat) (f : FreqIn → FreqIn) : (s.modFreq i f).tx = s.tx :=
  State.tx_mk _ _ _ _ _ _ _ _ _ _ _ _ _ _ _ _ _ _ _ _ _ _ _ _ _
@[simp] theorem State.modFreq_bus (s : State) (i : Nat) (f : FreqIn → FreqIn) : (s.modFreq i f).bus = s.bus :=
  State.bus_mk _ _ _ _ _ _ _ _ _ _ _ _ _ _ _ _ _ _ _ _ _ _ _ _ _
@[simp] theorem State.modFreq_tb (s : State) (i : Nat) (f : FreqIn → FreqIn) : (s.modFreq i f).tb = s.tb :=
  State.tb_mk _ _ _ _ _ _ _ _ _ _ _ _ _ _ _ _ _ _ _ _ _ _ _ _ _
@[simp] theorem State.modFreq_pw (s : State) (i : Nat) (f : FreqIn → FreqIn) : (s.modFreq i f).pw = s.pw :=
  State.pw_mk _ _ _ _ _ _ _ _ _ _ _ _ _ _ _ _ _ _ _ _ _ _ _ _ _
@[simp] theorem State.modFreq_nv (s : State) (i : Nat) (f : FreqIn → FreqIn) : (s.modFreq i f).nv = s.nv :=
  State.nv_mk _ _ _ _ _ _ _ _ _ _ _ _ _ _ _ _ _ _ _ _ _ _ _ _ _
@[simp] theorem State.modFreq_conf (s : State) (i : Nat) (f : FreqIn → FreqIn) : (s.modFreq i f).conf = s.conf :=
  State.conf_mk _ _ _ _ _ _ _ _ _ _ _ _ _ _ _ _ _ _ _ _ _ _ _ _ _
@[simp] theorem State.modFreq_pins (s : State) (i : Nat) (f : FreqIn → FreqIn) : (s.modFreq i f).pins = s.pins :=
  State.pins_mk _ _ _ _ _ _ _ _ _ _ _ _ _ _ _ _ _ _ _ _ _ _ _ _ _
@[simp] theorem State.modFreq_sram (s : State) (i : Nat) (f : FreqIn → FreqIn) : (s.modFreq i f).sram = s.sram :=
  State.sram_mk _ _ _ _ _ _ _ _ _ _ _ _ _ _ _ _ _ _ _ _ _ _ _ _ _
@[simp] theorem State.modFreq_caches (s : State) (i : Nat) (f : FreqIn → FreqIn) : (s.modFreq i f).caches = s.caches :=
  State.caches_mk _ _ _ _ _ _ _ _ _ _ _ _ _ _ _ _ _ _ _ _ _ _ _ _ _
@[simp] theorem State.modFreq_tide (s : State) (i : Nat) (f : FreqIn → FreqIn) : (s.modFreq i f).tide = s.tide :=
  State.tide_mk _ _ _ _ _ _ _ _ _ _ _ _ _ _ _ _ _ _ _ _ _ _ _ _ _
@[simp] theorem State.modFreq_cars (s : State) (i : Nat) (f : FreqIn → FreqIn) : (s.modFreq i f).cars = s.cars :=
  State.cars_mk _ _ _ _ _ _ _ _ _ _ _ _ _ _ _ _ _ _ _ _ _ _ _ _ _
@[simp] theorem State.modFreq_chans (s : State) (i : Nat) (f : FreqIn → FreqIn) : (s.modFreq i f).chans = s.chans :=
  State.chans_mk _ _ _ _ _ _ _ _ _ _ _ _ _ _ _ _ _ _ _ _ _ _ _ _ _
@[simp] theorem State.modFreq_trj (s : State) (i : Nat) (f : FreqIn → FreqIn) : (s.modFreq i f).trj = s.trj :=
  State.trj_mk _ _ _ _ _ _ _ _ _ _ _ _ _ _ _ _ _ _ _ _ _ _ _ _ _
@[simp] theorem State.modFreq_doors (s : State) (i : Nat) (f : FreqIn → FreqIn) : (s.modFreq i f).doors = s.doors :=
  State.doors_mk _ _ _ _ _ _ _ _ _ _ _ _ _ _ _ _ _ _ _ _ _ _ _ _ _
@[simp] theorem State.modFreq_cmm (s : State) (i : Nat) (f : FreqIn → FreqIn) : (s.modFreq i f).cmm = s.cmm :=
  State.cmm_mk _ _ _ _ _ _ _ _ _ _ _ _ _ _ _ _ _ _ _ _ _ _ _ _ _
@[simp] theorem State.modFreq_slk (s : State) (i : Nat) (f : FreqIn → FreqIn) : (s.modFreq i f).slk = s.slk :=
  State.slk_mk _ _ _ _ _ _ _ _ _ _ _ _ _ _ _ _ _ _ _ _ _ _ _ _ _
@[simp] theorem State.modFreq_fbk (s : State) (i : Nat) (f : FreqIn → FreqIn) : (s.modFreq i f).fbk = s.fbk :=
  State.fbk_mk _ _ _ _ _ _ _ _ _ _ _ _ _ _ _ _ _ _ _ _ _ _ _ _ _
@[simp] theorem State.modFreq_saf (s : State) (i : Nat) (f : FreqIn → FreqIn) : (s.modFreq i f).saf = s.saf :=
  State.saf_mk _ _ _ _ _ _ _ _ _ _ _ _ _ _ _ _ _ _ _ _ _ _ _ _ _
@[simp] theorem State.modFreq_bss (s : State) (i : Nat) (f : FreqIn → FreqIn) : (s.modFreq i f).bss = s.bss :=
  State.bss_mk _ _ _ _ _ _ _ _ _ _ _ _ _ _ _ _ _ _ _ _ _ _ _ _ _
@[simp] theorem State.modFreq_fab (s : State) (i : Nat) (f : FreqIn → FreqIn) : (s.modFreq i f).fab = s.fab :=
  State.fab_mk _ _ _ _ _ _ _ _ _ _ _ _ _ _ _ _ _ _ _ _ _ _ _ _ _
@[simp] theorem State.modFreq_nbTs (s : State) (i : Nat) (f : FreqIn → FreqIn) : (s.modFreq i f).nbTs = s.nbTs :=
  State.nbTs_mk _ _ _ _ _ _ _ _ _ _ _ _ _ _ _ _ _ _ _ _ _ _ _ _ _
@[simp] theorem State.modFreq_rcd (s : State) (i : Nat) (f : FreqIn → FreqIn) : (s.modFreq i f).rcd = s.rcd :=
  State.rcd_mk _ _ _ _ _ _ _ _ _ _ _ _ _ _ _ _ _ _ _ _ _ _ _ _ _

@[simp] theorem State.modSlot_pending (s : State) (g : Nat) (f : SlotSt → SlotSt) : (s.modSlot g f).pending = s.pending :=
  State.pending_mk _ _ _ _ _ _ _ _ _ _ _ _ _ _ _ _ _ _ _ _ _ _ _ _ _
@[simp] theorem State.modSlot_free (s : State) (g : Nat) (f : SlotSt → SlotSt) : (s.modSlot g f).free = s.free :=
  State.free_mk _ _ _ _ _ _ _ _ _ _ _ _ _ _ _ _ _ _ _ _ _ _ _ _ _
@[simp] theorem State.modSlot_tx (s : State) (g : Nat) (f : SlotSt → SlotSt) : (s.modSlot g f).tx = s.tx :=
  State.tx_mk _ _ _ _ _ _ _ _ _ _ _ _ _ _ _ _ _ _ _ _ _ _ _ _ _
@[simp] theorem State.modSlot_bus (s : State) (g : Nat) (f : SlotSt → SlotSt) : (s.modSlot g f).bus = s.bus :=
  State.bus_mk _ _ _ _ _ _ _ _ _ _ _ _ _ _ _ _ _ _ _ _ _ _ _ _ _
@[simp] theorem State.modSlot_tb (s : State) (g : Nat) (f : SlotSt → SlotSt) : (s.modSlot g f).tb = s.tb :=
  State.tb_mk _ _ _ _ _ _ _ _ _ _ _ _ _ _ _ _ _ _ _ _ _ _ _ _ _
@[simp] theorem State.modSlot_pw (s : State) (g : Nat) (f : SlotSt → SlotSt) : (s.modSlot g f).pw = s.pw :=
  State.pw_mk _ _ _ _ _ _ _ _ _ _ _ _ _ _ _ _ _ _ _ _ _ _ _ _ _
@[simp] theorem State.modSlot_nv (s : State) (g : Nat) (f : SlotSt → SlotSt) : (s.modSlot g f).nv = s.nv :=
  State.nv_mk _ _ _ _ _ _ _ _ _ _ _ _ _ _ _ _ _ _ _ _ _ _ _ _ _
@[simp] theorem State.modSlot_conf (s : State) (g : Nat) (f : SlotSt → SlotSt) : (s.modSlot g f).conf = s.conf :=
  State.conf_mk _ _ _ _ _ _ _ _ _ _ _ _ _ _ _ _ _ _ _ _ _ _ _ _ _
@[simp] theorem State.modSlot_pins (s : State) (g : Nat) (f : SlotSt → SlotSt) : (s.modSlot g f).pins = s.pins :=
  State.pins_mk _ _ _ _ _ _ _ _ _ _ _ _ _ _ _ _ _ _ _ _ _ _ _ _ _
@[simp] theorem State.modSlot_sram (s : State) (g : Nat) (f : SlotSt → SlotSt) : (s.modSlot g f).sram = s.sram :=
  State.sram_mk _ _ _ _ _ _ _ _ _ _ _ _ _ _ _ _ _ _ _ _ _ _ _ _ _
@[simp] theorem State.modSlot_caches (s : State) (g : Nat) (f : SlotSt → SlotSt) : (s.modSlot g f).caches = s.caches :=
  State.caches_mk _ _ _ _ _ _ _ _ _ _ _ _ _ _ _ _ _ _ _ _ _ _ _ _ _
@[simp] theorem State.modSlot_cars (s : State) (g : Nat) (f : SlotSt → SlotSt) : (s.modSlot g f).cars = s.cars :=
  State.cars_mk _ _ _ _ _ _ _ _ _ _ _ _ _ _ _ _ _ _ _ _ _ _ _ _ _
@[simp] theorem State.modSlot_chans (s : State) (g : Nat) (f : SlotSt → SlotSt) : (s.modSlot g f).chans = s.chans :=
  State.chans_mk _ _ _ _ _ _ _ _ _ _ _ _ _ _ _ _ _ _ _ _ _ _ _ _ _
@[simp] theorem State.modSlot_trj (s : State) (g : Nat) (f : SlotSt → SlotSt) : (s.modSlot g f).trj = s.trj :=
  State.trj_mk _ _ _ _ _ _ _ _ _ _ _ _ _ _ _ _ _ _ _ _ _ _ _ _ _
@[simp] theorem State.modSlot_doors (s : State) (g : Nat) (f : SlotSt → SlotSt) : (s.modSlot g f).doors = s.doors :=
  State.doors_mk _ _ _ _ _ _ _ _ _ _ _ _ _ _ _ _ _ _ _ _ _ _ _ _ _
@[simp] theorem State.modSlot_cmm (s : State) (g : Nat) (f : SlotSt → SlotSt) : (s.modSlot g f).cmm = s.cmm :=
  State.cmm_mk _ _ _ _ _ _ _ _ _ _ _ _ _ _ _ _ _ _ _ _ _ _ _ _ _
@[simp] theorem State.modSlot_slk (s : State) (g : Nat) (f : SlotSt → SlotSt) : (s.modSlot g f).slk = s.slk :=
  State.slk_mk _ _ _ _ _ _ _ _ _ _ _ _ _ _ _ _ _ _ _ _ _ _ _ _ _
@[simp] theorem State.modSlot_fbk (s : State) (g : Nat) (f : SlotSt → SlotSt) : (s.modSlot g f).fbk = s.fbk :=
  State.fbk_mk _ _ _ _ _ _ _ _ _ _ _ _ _ _ _ _ _ _ _ _ _ _ _ _ _
@[simp] theorem State.modSlot_fio (s : State) (g : Nat) (f : SlotSt → SlotSt) : (s.modSlot g f).fio = s.fio :=
  State.fio_mk _ _ _ _ _ _ _ _ _ _ _ _ _ _ _ _ _ _ _ _ _ _ _ _ _
@[simp] theorem State.modSlot_saf (s : State) (g : Nat) (f : SlotSt → SlotSt) : (s.modSlot g f).saf = s.saf :=
  State.saf_mk _ _ _ _ _ _ _ _ _ _ _ _ _ _ _ _ _ _ _ _ _ _ _ _ _
@[simp] theorem State.modSlot_bss (s : State) (g : Nat) (f : SlotSt → SlotSt) : (s.modSlot g f).bss = s.bss :=
  State.bss_mk _ _ _ _ _ _ _ _ _ _ _ _ _ _ _ _ _ _ _ _ _ _ _ _ _
@[simp] theorem State.modSlot_fab (s : State) (g : Nat) (f : SlotSt → SlotSt) : (s.modSlot g f).fab = s.fab :=
  State.fab_mk _ _ _ _ _ _ _ _ _ _ _ _ _ _ _ _ _ _ _ _ _ _ _ _ _
@[simp] theorem State.modSlot_nbTs (s : State) (g : Nat) (f : SlotSt → SlotSt) : (s.modSlot g f).nbTs = s.nbTs :=
  State.nbTs_mk _ _ _ _ _ _ _ _ _ _ _ _ _ _ _ _ _ _ _ _ _ _ _ _ _
@[simp] theorem State.modSlot_rcd (s : State) (g : Nat) (f : SlotSt → SlotSt) : (s.modSlot g f).rcd = s.rcd :=
  State.rcd_mk _ _ _ _ _ _ _ _ _ _ _ _ _ _ _ _ _ _ _ _ _ _ _ _ _

@[simp] theorem State.withQueue_free (s : State) (q : List Instr) : (s.withQueue q).free = s.free :=
  State.free_mk _ _ _ _ _ _ _ _ _ _ _ _ _ _ _ _ _ _ _ _ _ _ _ _ _
@[simp] theorem State.withQueue_tx (s : State) (q : List Instr) : (s.withQueue q).tx = s.tx :=
  State.tx_mk _ _ _ _ _ _ _ _ _ _ _ _ _ _ _ _ _ _ _ _ _ _ _ _ _
@[simp] theorem State.withQueue_bus (s : State) (q : List Instr) : (s.withQueue q).bus = s.bus :=
  State.bus_mk _ _ _ _ _ _ _ _ _ _ _ _ _ _ _ _ _ _ _ _ _ _ _ _ _
@[simp] theorem State.withQueue_tb (s : State) (q : List Instr) : (s.withQueue q).tb = s.tb :=
  State.tb_mk _ _ _ _ _ _ _ _ _ _ _ _ _ _ _ _ _ _ _ _ _ _ _ _ _
@[simp] theorem State.withQueue_pw (s : State) (q : List Instr) : (s.withQueue q).pw = s.pw :=
  State.pw_mk _ _ _ _ _ _ _ _ _ _ _ _ _ _ _ _ _ _ _ _ _ _ _ _ _
@[simp] theorem State.withQueue_nv (s : State) (q : List Instr) : (s.withQueue q).nv = s.nv :=
  State.nv_mk _ _ _ _ _ _ _ _ _ _ _ _ _ _ _ _ _ _ _ _ _ _ _ _ _
@[simp] theorem State.withQueue_conf (s : State) (q : List Instr) : (s.withQueue q).conf = s.conf :=
  State.conf_mk _ _ _ _ _ _ _ _ _ _ _ _ _ _ _ _ _ _ _ _ _ _ _ _ _
@[simp] theorem State.withQueue_pins (s : State) (q : List Instr) : (s.withQueue q).pins = s.pins :=
  State.pins_mk _ _ _ _ _ _ _ _ _ _ _ _ _ _ _ _ _ _ _ _ _ _ _ _ _
@[simp] theorem State.withQueue_sram (s : State) (q : List Instr) : (s.withQueue q).sram = s.sram :=
  State.sram_mk _ _ _ _ _ _ _ _ _ _ _ _ _ _ _ _ _ _ _ _ _ _ _ _ _
@[simp] theorem State.withQueue_caches (s : State) (q : List Instr) : (s.withQueue q).caches = s.caches :=
  State.caches_mk _ _ _ _ _ _ _ _ _ _ _ _ _ _ _ _ _ _ _ _ _ _ _ _ _
@[simp] theorem State.withQueue_tide (s : State) (q : List Instr) : (s.withQueue q).tide = s.tide :=
  State.tide_mk _ _ _ _ _ _ _ _ _ _ _ _ _ _ _ _ _ _ _ _ _ _ _ _ _
@[simp] theorem State.withQueue_cars (s : State) (q : List Instr) : (s.withQueue q).cars = s.cars :=
  State.cars_mk _ _ _ _ _ _ _ _ _ _ _ _ _ _ _ _ _ _ _ _ _ _ _ _ _
@[simp] theorem State.withQueue_chans (s : State) (q : List Instr) : (s.withQueue q).chans = s.chans :=
  State.chans_mk _ _ _ _ _ _ _ _ _ _ _ _ _ _ _ _ _ _ _ _ _ _ _ _ _
@[simp] theorem State.withQueue_trj (s : State) (q : List Instr) : (s.withQueue q).trj = s.trj :=
  State.trj_mk _ _ _ _ _ _ _ _ _ _ _ _ _ _ _ _ _ _ _ _ _ _ _ _ _
@[simp] theorem State.withQueue_doors (s : State) (q : List Instr) : (s.withQueue q).doors = s.doors :=
  State.doors_mk _ _ _ _ _ _ _ _ _ _ _ _ _ _ _ _ _ _ _ _ _ _ _ _ _
@[simp] theorem State.withQueue_cmm (s : State) (q : List Instr) : (s.withQueue q).cmm = s.cmm :=
  State.cmm_mk _ _ _ _ _ _ _ _ _ _ _ _ _ _ _ _ _ _ _ _ _ _ _ _ _
@[simp] theorem State.withQueue_slk (s : State) (q : List Instr) : (s.withQueue q).slk = s.slk :=
  State.slk_mk _ _ _ _ _ _ _ _ _ _ _ _ _ _ _ _ _ _ _ _ _ _ _ _ _
@[simp] theorem State.withQueue_fbk (s : State) (q : List Instr) : (s.withQueue q).fbk = s.fbk :=
  State.fbk_mk _ _ _ _ _ _ _ _ _ _ _ _ _ _ _ _ _ _ _ _ _ _ _ _ _
@[simp] theorem State.withQueue_fio (s : State) (q : List Instr) : (s.withQueue q).fio = s.fio :=
  State.fio_mk _ _ _ _ _ _ _ _ _ _ _ _ _ _ _ _ _ _ _ _ _ _ _ _ _
@[simp] theorem State.withQueue_saf (s : State) (q : List Instr) : (s.withQueue q).saf = s.saf :=
  State.saf_mk _ _ _ _ _ _ _ _ _ _ _ _ _ _ _ _ _ _ _ _ _ _ _ _ _
@[simp] theorem State.withQueue_bss (s : State) (q : List Instr) : (s.withQueue q).bss = s.bss :=
  State.bss_mk _ _ _ _ _ _ _ _ _ _ _ _ _ _ _ _ _ _ _ _ _ _ _ _ _
@[simp] theorem State.withQueue_fab (s : State) (q : List Instr) : (s.withQueue q).fab = s.fab :=
  State.fab_mk _ _ _ _ _ _ _ _ _ _ _ _ _ _ _ _ _ _ _ _ _ _ _ _ _
@[simp] theorem State.withQueue_nbTs (s : State) (q : List Instr) : (s.withQueue q).nbTs = s.nbTs :=
  State.nbTs_mk _ _ _ _ _ _ _ _ _ _ _ _ _ _ _ _ _ _ _ _ _ _ _ _ _
@[simp] theorem State.withQueue_rcd (s : State) (q : List Instr) : (s.withQueue q).rcd = s.rcd :=
  State.rcd_mk _ _ _ _ _ _ _ _ _ _ _ _ _ _ _ _ _ _ _ _ _ _ _ _ _

@[simp] theorem State.draw_pending (s : State) : s.draw.2.pending = s.pending := State.pending_mk _ _ _ _ _ _ _ _ _ _ _ _ _ _ _ _ _ _ _ _ _ _ _ _ _
@[simp] theorem State.draw_tx (s : State) : s.draw.2.tx = s.tx := State.tx_mk _ _ _ _ _ _ _ _ _ _ _ _ _ _ _ _ _ _ _ _ _ _ _ _ _
@[simp] theorem State.draw_bus (s : State) : s.draw.2.bus = s.bus := State.bus_mk _ _ _ _ _ _ _ _ _ _ _ _ _ _ _ _ _ _ _ _ _ _ _ _ _
@[simp] theorem State.draw_tb (s : State) : s.draw.2.tb = s.tb := State.tb_mk _ _ _ _ _ _ _ _ _ _ _ _ _ _ _ _ _ _ _ _ _ _ _ _ _
@[simp] theorem State.draw_pw (s : State) : s.draw.2.pw = s.pw := State.pw_mk _ _ _ _ _ _ _ _ _ _ _ _ _ _ _ _ _ _ _ _ _ _ _ _ _
@[simp] theorem State.draw_nv (s : State) : s.draw.2.nv = s.nv := State.nv_mk _ _ _ _ _ _ _ _ _ _ _ _ _ _ _ _ _ _ _ _ _ _ _ _ _
@[simp] theorem State.draw_conf (s : State) : s.draw.2.conf = s.conf := State.conf_mk _ _ _ _ _ _ _ _ _ _ _ _ _ _ _ _ _ _ _ _ _ _ _ _ _
@[simp] theorem State.draw_pins (s : State) : s.draw.2.pins = s.pins := State.pins_mk _ _ _ _ _ _ _ _ _ _ _ _ _ _ _ _ _ _ _ _ _ _ _ _ _
@[simp] theorem State.draw_sram (s : State) : s.draw.2.sram = s.sram := State.sram_mk _ _ _ _ _ _ _ _ _ _ _ _ _ _ _ _ _ _ _ _ _ _ _ _ _
@[simp] theorem State.draw_caches (s : State) : s.draw.2.caches = s.caches := State.caches_mk _ _ _ _ _ _ _ _ _ _ _ _ _ _ _ _ _ _ _ _ _ _ _ _ _
@[simp] theorem State.draw_tide (s : State) : s.draw.2.tide = s.tide := State.tide_mk _ _ _ _ _ _ _ _ _ _ _ _ _ _ _ _ _ _ _ _ _ _ _ _ _
@[simp] theorem State.draw_cars (s : State) : s.draw.2.cars = s.cars := State.cars_mk _ _ _ _ _ _ _ _ _ _ _ _ _ _ _ _ _ _ _ _ _ _ _ _ _
@[simp] theorem State.draw_chans (s : State) : s.draw.2.chans = s.chans := State.chans_mk _ _ _ _ _ _ _ _ _ _ _ _ _ _ _ _ _ _ _ _ _ _ _ _ _
@[simp] theorem State.draw_trj (s : State) : s.draw.2.trj = s.trj := State.trj_mk _ _ _ _ _ _ _ _ _ _ _ _ _ _ _ _ _ _ _ _ _ _ _ _ _
@[simp] theorem State.draw_doors (s : State) : s.draw.2.doors = s.doors := State.doors_mk _ _ _ _ _ _ _ _ _ _ _ _ _ _ _ _ _ _ _ _ _ _ _ _ _
@[simp] theorem State.draw_cmm (s : State) : s.draw.2.cmm = s.cmm := State.cmm_mk _ _ _ _ _ _ _ _ _ _ _ _ _ _ _ _ _ _ _ _ _ _ _ _ _
@[simp] theorem State.draw_slk (s : State) : s.draw.2.slk = s.slk := State.slk_mk _ _ _ _ _ _ _ _ _ _ _ _ _ _ _ _ _ _ _ _ _ _ _ _ _
@[simp] theorem State.draw_fbk (s : State) : s.draw.2.fbk = s.fbk := State.fbk_mk _ _ _ _ _ _ _ _ _ _ _ _ _ _ _ _ _ _ _ _ _ _ _ _ _
@[simp] theorem State.draw_fio (s : State) : s.draw.2.fio = s.fio := State.fio_mk _ _ _ _ _ _ _ _ _ _ _ _ _ _ _ _ _ _ _ _ _ _ _ _ _
@[simp] theorem State.draw_saf (s : State) : s.draw.2.saf = s.saf := State.saf_mk _ _ _ _ _ _ _ _ _ _ _ _ _ _ _ _ _ _ _ _ _ _ _ _ _
@[simp] theorem State.draw_bss (s : State) : s.draw.2.bss = s.bss := State.bss_mk _ _ _ _ _ _ _ _ _ _ _ _ _ _ _ _ _ _ _ _ _ _ _ _ _
@[simp] theorem State.draw_fab (s : State) : s.draw.2.fab = s.fab := State.fab_mk _ _ _ _ _ _ _ _ _ _ _ _ _ _ _ _ _ _ _ _ _ _ _ _ _
@[simp] theorem State.draw_nbTs (s : State) : s.draw.2.nbTs = s.nbTs := State.nbTs_mk _ _ _ _ _ _ _ _ _ _ _ _ _ _ _ _ _ _ _ _ _ _ _ _ _
@[simp] theorem State.draw_rcd (s : State) : s.draw.2.rcd = s.rcd := State.rcd_mk _ _ _ _ _ _ _ _ _ _ _ _ _ _ _ _ _ _ _ _ _ _ _ _ _

end Sys2Proof.Machine
end

