-- ==== Sys2Proof/Laws/Fields.lean ====
section
/-!
SUPPORT. Fields of registers: what a field reads as after a write of it, of another field of the same register, or of a field of
another register.
-/

namespace Sys2Proof.Machine

open Sys2Proof

/-! ### Bit ranges of a word -/

/-- A field's value fits its bits. -/
theorem getF_lt (b : Bits) (w : Word) : getF b w < 2 ^ bitsLen b := Nat.mod_lt _ (Nat.two_pow_pos _)

/-- Bit i of a field is bit lo + i of the word. -/
theorem getF_testBit (b : Bits) (w : Word) (i : Nat) :
    (getF b w).testBit i = (decide (i < bitsLen b) && w.toNat.testBit (b.lo + i)) := by
  simp [getF, Nat.testBit_mod_two_pow, Nat.testBit_div_two_pow, Nat.add_comm]

/-- Bit i of a word with a field replaced. -/
theorem setF_testBit (b : Bits) (v : Nat) (w : Word) (i : Nat) (hb : b.lo ≤ b.hi) (h31 : b.hi < 32) :
    (setF b v w).toNat.testBit i =
      if b.lo ≤ i ∧ i ≤ b.hi then v.testBit (i - b.lo) else w.toNat.testBit i := by
  have hlen : b.lo + bitsLen b = b.hi + 1 := by unfold bitsLen; omega
  -- the word as high part, field and low part
  have hw := w.isLt
  have hlt : w.toNat % 2 ^ b.lo < 2 ^ b.lo := Nat.mod_lt _ (Nat.two_pow_pos _)
  have hfl : getF b w < 2 ^ bitsLen b := getF_lt b w
  have hv : v % 2 ^ bitsLen b < 2 ^ bitsLen b := Nat.mod_lt _ (Nat.two_pow_pos _)
  have e1 : w.toNat = (w.toNat / 2 ^ b.lo / 2 ^ bitsLen b * 2 ^ bitsLen b + getF b w) * 2 ^ b.lo + w.toNat % 2 ^ b.lo := by
    unfold getF
    rw [Nat.div_add_mod', Nat.div_add_mod']
  have e2 : w.toNat - getF b w * 2 ^ b.lo + v % 2 ^ bitsLen b * 2 ^ b.lo =
      2 ^ b.lo * (2 ^ bitsLen b * (w.toNat / 2 ^ b.lo / 2 ^ bitsLen b) + v % 2 ^ bitsLen b) + w.toNat % 2 ^ b.lo := by
    have : getF b w * 2 ^ b.lo ≤ w.toNat := by
      rw [e1, Nat.add_mul]
      exact le_trans (Nat.le_add_left _ _) (Nat.le_add_right _ _)
    zify [this]
    have := congrArg (Nat.cast (R := Int)) e1
    push_cast at this ⊢
    linarith
  have hbits : ∀ n x y : Nat, y < 2 ^ n → ∀ j, (2 ^ n * x + y).testBit j = if j < n then y.testBit j else x.testBit (j - n) := by
    intro n x y hy j
    rw [Nat.testBit_two_pow_mul_add _ hy]
  have e3 : (w.toNat - getF b w * 2 ^ b.lo + v % 2 ^ bitsLen b * 2 ^ b.lo).testBit i =
      if b.lo ≤ i ∧ i ≤ b.hi then v.testBit (i - b.lo) else w.toNat.testBit i := by
    rw [e2, hbits _ _ _ hlt, hbits _ _ _ hv]
    by_cases h1 : i < b.lo
    · have : ¬ (b.lo ≤ i ∧ i ≤ b.hi) := by omega
      simp only [h1, if_true, this, if_false, Nat.testBit_mod_two_pow, decide_true, Bool.true_and]
    · simp only [h1, if_false]
      by_cases h2 : i ≤ b.hi
      · have h3 : i - b.lo < bitsLen b := by omega
        have : b.lo ≤ i ∧ i ≤ b.hi := by omega
        simp only [h3, if_true, this, and_self, Nat.testBit_mod_two_pow, decide_true, Bool.true_and]
      · have h3 : ¬ i - b.lo < bitsLen b := by omega
        have : ¬ (b.lo ≤ i ∧ i ≤ b.hi) := by omega
        simp only [h3, if_false, this, Nat.testBit_div_two_pow]
        congr 1; omega
  unfold setF
  rw [BitVec.toNat_ofNat, Nat.testBit_mod_two_pow, e3]
  by_cases h4 : i < 32
  · simp [h4]
  · have h5 : ¬ (b.lo ≤ i ∧ i ≤ b.hi) := by omega
    simp only [h4, decide_false, Bool.false_and, h5, if_false]
    symm
    exact Nat.testBit_lt_two_pow (lt_of_lt_of_le hw (Nat.pow_le_pow_right (by norm_num) (by omega)))

/-- A field reads as written, modulo its size. -/
theorem getF_setF_same (b : Bits) (v : Nat) (w : Word) (hb : b.lo ≤ b.hi) (h31 : b.hi < 32) :
    getF b (setF b v w) = v % 2 ^ bitsLen b := by
  refine Nat.eq_of_testBit_eq fun i => ?_
  rw [getF_testBit, setF_testBit b v w _ hb h31, Nat.testBit_mod_two_pow]
  by_cases h : i < bitsLen b
  · have : b.lo ≤ b.lo + i ∧ b.lo + i ≤ b.hi := by unfold bitsLen at h; omega
    simp [h, this]
  · simp [h]

/-- A write of a field leaves a field of other bits alone. -/
theorem getF_setF_ne (b c : Bits) (v : Nat) (w : Word) (hb : b.lo ≤ b.hi) (h31 : b.hi < 32) (hd : c.hi < b.lo ∨ b.hi < c.lo) :
    getF c (setF b v w) = getF c w := by
  refine Nat.eq_of_testBit_eq fun i => ?_
  rw [getF_testBit, getF_testBit, setF_testBit b v w _ hb h31]
  by_cases h : i < bitsLen c
  · have : ¬ (b.lo ≤ c.lo + i ∧ c.lo + i ≤ b.hi) := by unfold bitsLen at h; omega
    simp [this]
  · simp [h]

/-! ### Fields of registers -/

/-- A field reads as put, modulo its size. -/
theorem State.get_put_same (s : State) (f : FRef) (v : Nat) (hb : f.bits.lo ≤ f.bits.hi) (h31 : f.bits.hi < 32) :
    (s.put f v).get f = v % 2 ^ bitsLen f.bits := by
  unfold State.get State.put
  rw [State.reg_setReg_same]
  exact getF_setF_same _ _ _ hb h31

/-- A put leaves a field of another register alone. -/
theorem State.get_put_reg (s : State) (f g : FRef) (v : Nat) (h : g.addr ≠ f.addr) : (s.put f v).get g = s.get g := by
  unfold State.get
  rw [State.reg_put_ne _ _ _ _ h]

/-- A put leaves a field of other bits of the same register alone. -/
theorem State.get_put_bits (s : State) (f g : FRef) (v : Nat) (h : g.addr = f.addr) (hb : f.bits.lo ≤ f.bits.hi)
    (h31 : f.bits.hi < 32) (hd : g.bits.hi < f.bits.lo ∨ f.bits.hi < g.bits.lo) : (s.put f v).get g = s.get g := by
  unfold State.get State.put
  rw [h, State.reg_setReg_same]
  exact getF_setF_ne _ _ _ _ hb h31 hd

/-- A field of one bit reads 1 after its event. -/
theorem State.flag_ev (s : State) (f : FRef) (hb : f.bits.lo ≤ f.bits.hi) (h31 : f.bits.hi < 32) : (s.ev f).flag f = true := by
  have hl : 1 < 2 ^ bitsLen f.bits := Nat.one_lt_two_pow (by unfold bitsLen; omega)
  unfold State.flag State.ev
  rw [State.get_put_same _ _ _ hb h31, Nat.mod_eq_of_lt hl]
  rfl

/-- A one-bit field reads as put. -/
theorem State.flag_putB (s : State) (f : FRef) (b : Bool) (hb : f.bits.lo ≤ f.bits.hi) (h31 : f.bits.hi < 32) :
    (s.putB f b).flag f = b := by
  have hl : 1 < 2 ^ bitsLen f.bits := Nat.one_lt_two_pow (by unfold bitsLen; omega)
  unfold State.flag State.putB
  rw [State.get_put_same _ _ _ hb h31]
  cases b <;> simp [b2n, Nat.mod_eq_of_lt hl]

end Sys2Proof.Machine
end

