-- ==== Sys2Proof/Laws/Frames.lean ====
section
/-!
SUPPORT. The lengths of what the device sends: a move record, and the payloads and frames of fixed length.
-/

namespace Sys2Proof.Machine

open Sys2Proof

/-- A number in n bytes has n bytes. -/
@[simp] theorem leBytes_length (n v : Nat) : (leBytes n v).length = n := by
  induction n generalizing v with
  | zero => rfl
  | succ n ih => simp [leBytes, ih]

/-- A word has 4 bytes. -/
@[simp] theorem wordBytes_length (w : Word) : (wordBytes w).length = 4 := leBytes_length 4 _

/-- A signed number in n bytes has n bytes. -/
@[simp] theorem leSigned_length (n : Nat) (v : Int) : (leSigned n v).length = n := leBytes_length n _

/-- A TST row has 16 bytes (08 Table 8.1). -/
@[simp] theorem rowBytes_length (r : TstRow) : (rowBytes r).length = 16 := by simp [rowBytes]

/-- A move record has 72 bytes (08 R264). -/
@[simp] theorem moveBytes_length (m : MoveRec) : (moveBytes m).length = 72 := by simp [moveBytes]

/-- A filled payload is a multiple of 4 bytes long. -/
theorem padded_length_mod (b : List Byte) : (padded b).length % 4 = 0 := by simp only [padded, List.length_append, List.length_replicate]; omega

/-- A frame is its header of 16 bytes, its filled payload and a CRC of 4 bytes (18 Table 18.1). -/
theorem frameBytes_length (f : TxFrame) : (frameBytes f).length = (padded (payloadBytes f.body)).length + 20 := by
  simp [frameBytes]; omega

end Sys2Proof.Machine
end

