-- ==== Sys2Proof/Laws/Memory.lean ====
section
/-!
SUPPORT. The operations that write a memory keep its canonical form, and what a word of a Tide memory reads as after a write.
-/

namespace Sys2Proof.Machine

open Sys2Proof

/-- A code word written keeps the form of the code memories. -/
theorem wordsWf_setCode (e i : Nat) (w : Word) (s : State) (h : wordsWf s.tide.code = true) :
    wordsWf (setCode e i w s).tide.code = true := smWf_smSet (fun _ => (0 : Word)) _ _ _ h

/-- A data word written keeps the form of the data memories. -/
theorem wordsWf_setData (e i : Nat) (w : Word) (s : State) (h : wordsWf s.tide.data = true) :
    wordsWf (setData e i w s).tide.data = true := smWf_smSet (fun _ => (0 : Word)) _ _ _ h

/-- A code word reads as written, and every other word as before. -/
theorem codeWord_setCode (e i n j : Nat) (w : Word) (s : State) (hi : i < tideWords) (hj : j < tideWords) :
    codeWord (setCode e i w s) n j = if n = e ∧ j = i then w else codeWord s n j := by
  unfold codeWord setCode tideWords at *
  rw [smGet_smSet]
  by_cases h : n = e ∧ j = i
  · simp [h]
  · rw [if_neg h, if_neg (by omega)]

/-- A data word reads as written, and every other word as before. -/
theorem dataWord_setData (e i n j : Nat) (w : Word) (s : State) (hi : i < tideWords) (hj : j < tideWords) :
    dataWord (setData e i w s) n j = if n = e ∧ j = i then w else dataWord s n j := by
  unfold dataWord setData tideWords at *
  rw [smGet_smSet]
  by_cases h : n = e ∧ j = i
  · simp [h]
  · rw [if_neg h, if_neg (by omega)]

/-- The Tide memories loaded at start-up are in canonical form (04 R116). -/
theorem wordsWf_loadTide (s : State) : wordsWf (loadTide s).tide.code = true ∧ wordsWf (loadTide s).tide.data = true :=
  ⟨smWf_smBuild 0 _, smWf_smBuild 0 _⟩

/-- A write of the MRAM keeps its form. -/
theorem Memory.wf_mramPut (off : Nat) (bs : List Byte) (s : State) (h : Memory.wf s.nv.mram = true) :
    Memory.wf (mramPut off bs s).nv.mram = true := Memory.wf_putBytes _ _ _ h

/-- A range of the MRAM written with zero keeps its form. -/
theorem Memory.wf_mramZero (off n : Nat) (s : State) (h : Memory.wf s.nv.mram = true) :
    Memory.wf (mramZero off n s).nv.mram = true := by
  show Memory.wf (smFilter (fun a => decide (a < off) || decide (off + n ≤ a)) s.nv.mram) = true
  exact Memory.wf_smFilter _ _ h

/-- A write of the system SRAM keeps its form. -/
theorem Memory.wf_sramWrite (a n v : Nat) (s : State) (h : Memory.wf s.sram = true) :
    Memory.wf (sramWrite a n v s).sram = true := Memory.wf_putBytes _ _ _ h

/-- A byte of the SRAM outside the bytes written reads as before. -/
theorem sramWrite_other (a n v : Nat) (s : State) (j : Nat) (h : j < a - sramBase ∨ a - sramBase + (leBytes n v).length ≤ j) :
    smGet 0 (sramWrite a n v s).sram j = smGet 0 s.sram j := smGet_putBytes_ne _ _ _ _ h

end Sys2Proof.Machine
end

