-- ==== Sys2Proof/Laws/Omgil.lean ====
section
/-!
SUPPORT. Runs of the Tide engines: what the shared operations of the instructions do to a run, once for all instructions.
-/

namespace Sys2Proof.Machine

open Sys2Proof

/-- A run reads as set. -/
theorem runOf_setRun_same (e : Nat) (r : Run) (s : State) : runOf (setRun e r s) e = some r := by
  simp [runOf, setRun, smFind_smPut_same]

/-- Setting a run leaves the runs of the other engines alone. -/
theorem runOf_setRun_ne (e n : Nat) (r : Run) (s : State) (h : n ≠ e) : runOf (setRun e r s) n = runOf s n := by
  simp [runOf, setRun, smFind_smPut_ne, h]

/-- Setting a run changes that run and nothing else. -/
theorem runsOn_setRun (s : State) (e : Fin 8) (r : Run) : RunsOn s (setRun e.val r s) e r :=
  ⟨runOf_setRun_same .., fun n h => runOf_setRun_ne _ _ _ _ h, by simp [setRun]⟩

/-- The pc and the hardware loop after an instruction that takes no branch. -/
theorem seqPc_moved (r r' : Run) (h1 : r'.pc = r.pc) (h2 : r'.loop = r.loop) : MovedOn r (seqPc r') := by
  unfold MovedOn seqPc pcNext tideWords
  rw [h2, h1]
  refine ⟨fun h => ?_, fun l h => ?_⟩
  · simp [h]
  · simp only [h]
    refine ⟨fun hp => ?_, fun hp hl => ?_, fun hp hl => ?_⟩
    · simp [hp]
    · simp [hp, hl]
    · simp [hp, show ¬ 1 < l.left by omega]

/-- Moving on changes the pc and the loop alone. -/
theorem seqPc_rest (r : Run) : (seqPc r).w = r.w ∧ (seqPc r).acc = r.acc ∧ (seqPc r).z = r.z ∧ (seqPc r).n = r.n ∧ (seqPc r).c = r.c ∧ (seqPc r).v = r.v ∧ (seqPc r).left = r.left ∧ (seqPc r).slot = r.slot ∧ (seqPc r).staged = r.staged := by
  unfold seqPc; split
  · simp
  · split
    · split <;> simp
    · simp

/-- What a working register reads as after a write. -/
theorem wreg_setW (r : Run) (rd i : Fin 32) (v : Word) : wreg (setW rd v r) i = if i = rd ∧ rd ≠ 0 then v else wreg r i := by
  unfold wreg setW
  by_cases h : rd = 0
  · simp [h]
  · by_cases hi : i = rd
    · subst hi; simp [h]
    · simp only [h, hi, if_false, false_and]
      split
      · rfl
      · rw [smGet_smSet_ne]; exact fun h' => hi (Fin.ext h')

/-- What an accumulator reads as after a write. -/
theorem accOf_setAcc (r : Run) (a b : Fin 4) (v : DWord) : accOf (setAcc a v r) b = if b = a then v else accOf r b := by
  unfold accOf setAcc
  by_cases hi : b = a
  · subst hi; simp
  · simp only [hi, if_false]; rw [smGet_smSet_ne]; exact fun h' => hi (Fin.ext h')

/-- A one-cycle instruction at the pc, with a cycle left, has its effect and moves on. -/
theorem plain_next (s : State) (e : Fin 8) (i : Instr) (r : Run) (f : Run → Run) (h : At s e i r) (hl : 1 ≤ r.left) :
    plain e i f s = setRun e.val (seqPc (charge 1 (f r))) s := by
  unfold plain omgil; rw [h.1]; simp [h.2, hl]

/-- A one-cycle instruction that writes a working register gives that result and keeps everything else. -/
theorem regResult_of_plain (s : State) (e : Fin 8) (i : Instr) (r : Run) (f : Run → Run) (rd : Fin 32) (v : Word) (z n c o : Bool)
    (h : At s e i r) (hl : 1 ≤ r.left) (he : exec i s = .next (plain e i f s))
    (h1 : (f r).pc = r.pc) (h2 : (f r).loop = r.loop) (h3 : (f r).left = r.left) (h4 : (f r).slot = r.slot) (h5 : (f r).staged = r.staged) (h6 : (f r).acc = r.acc)
    (h7 : (f r).w = (setW rd v r).w) (h8 : (f r).z = z) (h9 : (f r).n = n) (h10 : (f r).c = c) (h11 : (f r).v = o) :
    RegResult s e i r rd v z n c o := by
  refine ⟨_, he, seqPc (charge 1 (f r)), ?_, ?_⟩
  · rw [plain_next s e i r f h hl]; exact runsOn_setRun _ _ _
  · have q := seqPc_rest (charge 1 (f r))
    refine ⟨⟨by rw [q.2.2.2.2.2.2.1]; simp [charge, h3], seqPc_moved r _ h1 h2, by rw [q.2.2.2.2.2.2.2.1]; exact h4, by rw [q.2.2.2.2.2.2.2.2]; exact h5⟩, ?_, ?_, ?_⟩
    · intro j
      have : wreg (seqPc (charge 1 (f r))) j = wreg (setW rd v r) j := by
        unfold wreg; rw [q.1]; simp [charge, h7]
      rw [this, wreg_setW]
    · intro a; unfold accOf; rw [q.2.1]; simp [charge, h6]
    · refine ⟨?_, ?_, ?_, ?_⟩
      · rw [q.2.2.1]; exact h8
      · rw [q.2.2.2.1]; exact h9
      · rw [q.2.2.2.2.1]; exact h10
      · rw [q.2.2.2.2.2.1]; exact h11

/-- A one-cycle instruction that writes an accumulator gives that result and keeps everything else. -/
theorem accResult_of_plain (s : State) (e : Fin 8) (i : Instr) (r : Run) (f : Run → Run) (acc : Fin 4) (v : DWord) (o : Bool)
    (h : At s e i r) (hl : 1 ≤ r.left) (he : exec i s = .next (plain e i f s))
    (h1 : (f r).pc = r.pc) (h2 : (f r).loop = r.loop) (h3 : (f r).left = r.left) (h4 : (f r).slot = r.slot) (h5 : (f r).staged = r.staged) (h6 : (f r).acc = (setAcc acc v r).acc)
    (h7 : (f r).w = r.w) (h8 : (f r).z = (v == 0)) (h9 : (f r).n = v.msb) (h10 : (f r).c = r.c) (h11 : (f r).v = o) :
    AccResult s e i r acc v o := by
  refine ⟨_, he, seqPc (charge 1 (f r)), ?_, ?_⟩
  · rw [plain_next s e i r f h hl]; exact runsOn_setRun _ _ _
  · have q := seqPc_rest (charge 1 (f r))
    refine ⟨⟨by rw [q.2.2.2.2.2.2.1]; simp [charge, h3], seqPc_moved r _ h1 h2, by rw [q.2.2.2.2.2.2.2.1]; exact h4, by rw [q.2.2.2.2.2.2.2.2]; exact h5⟩, ?_, ?_, ?_⟩
    · intro j; unfold wreg; rw [q.1]; simp [charge, h7]
    · intro a
      have : accOf (seqPc (charge 1 (f r))) a = accOf (setAcc acc v r) a := by unfold accOf; rw [q.2.1]; simp [charge, h6]
      rw [this, accOf_setAcc]
    · refine ⟨?_, ?_, ?_, ?_⟩
      · rw [q.2.2.1]; exact h8
      · rw [q.2.2.2.1]; exact h9
      · rw [q.2.2.2.2.1]; exact h10
      · rw [q.2.2.2.2.2.1]; exact h11

/-- A register write leaves the rest of the run alone. -/
theorem setW_rest (i : Fin 32) (v : Word) (r : Run) : (setW i v r).pc = r.pc ∧ (setW i v r).loop = r.loop ∧ (setW i v r).left = r.left ∧ (setW i v r).slot = r.slot ∧ (setW i v r).staged = r.staged ∧ (setW i v r).acc = r.acc ∧ (setW i v r).z = r.z ∧ (setW i v r).n = r.n ∧ (setW i v r).c = r.c ∧ (setW i v r).v = r.v := by
  unfold setW; split <;> simp

/-- The sign bit. -/
theorem word_msb_toInt (x : Word) : x.msb = decide (x.toInt < 0) := BitVec.msb_eq_toInt

/-- The sign rule of an overflowing sum, over the integers. -/
theorem sum_sign_rule (A B S : Int) (ha : A < 2147483648) (ha' : -2147483648 ≤ A) (hb : B < 2147483648) (hb' : -2147483648 ≤ B)
    (hs : S = A + B ∨ S = A + B - 4294967296 ∨ S = A + B + 4294967296) (h1 : S < 2147483648) (h2 : -2147483648 ≤ S) :
    (!(decide (A < 0) ^^ decide (B < 0)) && (decide (A < 0) ^^ decide (S < 0))) = decide (S ≠ A + B) := by
  by_cases hA : A < 0 <;> by_cases hB : B < 0 <;> by_cases hS : S < 0 <;> simp only [hA, hB, hS] <;>
    (by_cases hq : S = A + B <;> simp [hq] <;> omega)

/-- The sign rule of an overflowing difference, over the integers. -/
theorem difference_sign_rule (A B S : Int) (ha : A < 2147483648) (ha' : -2147483648 ≤ A) (hb : B < 2147483648) (hb' : -2147483648 ≤ B)
    (hs : S = A - B ∨ S = A - B - 4294967296 ∨ S = A - B + 4294967296) (h1 : S < 2147483648) (h2 : -2147483648 ≤ S) :
    ((decide (A < 0) ^^ decide (B < 0)) && (decide (A < 0) ^^ decide (S < 0))) = decide (S ≠ A - B) := by
  by_cases hA : A < 0 <;> by_cases hB : B < 0 <;> by_cases hS : S < 0 <;> simp only [hA, hB, hS] <;>
    (by_cases hq : S = A - B <;> simp [hq] <;> omega)

/-- The range of a signed word. -/
theorem word_toInt_range (a : Word) : a.toInt < 2147483648 ∧ -2147483648 ≤ a.toInt := by
  have ha := @BitVec.toInt_lt 32 a; have ha' := @BitVec.le_toInt 32 a
  simpa using ⟨ha, ha'⟩

/-- V of a sum: the exact sum is not the signed result. -/
theorem addOvf_eq (a b : Word) : addOvf a b = decide ((a + b).toInt ≠ a.toInt + b.toInt) := by
  unfold addOvf
  rw [BitVec.msb_and, BitVec.msb_not, BitVec.msb_xor, BitVec.msb_xor, word_msb_toInt, word_msb_toInt, word_msb_toInt]
  have h := sum_sign_rule a.toInt b.toInt (a + b).toInt (word_toInt_range a).1 (word_toInt_range a).2 (word_toInt_range b).1 (word_toInt_range b).2 (by
    rw [BitVec.toInt_add, Int.bmod_def]; have := word_toInt_range a; have := word_toInt_range b; split <;> omega) (word_toInt_range _).1 (word_toInt_range _).2
  simpa using h

/-- V of a difference: the exact difference is not the signed result. -/
theorem subOvf_eq (a b : Word) : subOvf a b = decide ((a - b).toInt ≠ a.toInt - b.toInt) := by
  unfold subOvf
  rw [BitVec.msb_and, BitVec.msb_xor, BitVec.msb_xor, word_msb_toInt, word_msb_toInt, word_msb_toInt]
  have h := difference_sign_rule a.toInt b.toInt (a - b).toInt (word_toInt_range a).1 (word_toInt_range a).2 (word_toInt_range b).1 (word_toInt_range b).2 (by
    rw [BitVec.toInt_sub, Int.bmod_def]; have := word_toInt_range a; have := word_toInt_range b; split <;> omega) (word_toInt_range _).1 (word_toInt_range _).2
  simpa using h

end Sys2Proof.Machine
end

