-- ==== Sys2Proof/Laws/PerInstr.lean ====
section
/-!
SUPPORT. Per command: exactly the Omgil instructions have an engine, and exactly they have an instruction word (06 R185).
-/

namespace Sys2Proof.Laws.HasWord

/-- A command has an instruction word if and only if it is an instruction of an engine. -/
def Statement (i : Instr) : Prop := (omgilEncode i).isSome = (omgilEngine i).isSome

theorem returnFrameReceived (port : Fin 8) (f : RetFrame) : Statement (.returnFrameReceived port f) := rfl
theorem returnDeadline (port : Fin 8) : Statement (.returnDeadline port) := rfl
theorem retryAnalysisDone (ch : Fin 128) : Statement (.retryAnalysisDone ch) := rfl
theorem speedTZeroExpiry (ch : Nat) : Statement (.speedTZeroExpiry ch) := rfl
theorem shareMissed (seg : Nat) : Statement (.shareMissed seg) := rfl
theorem slotRunStart (e : Fin 8) (k : Fin 24) : Statement (.slotRunStart e k) := rfl
theorem budgetExhausted (e : Fin 8) : Statement (.budgetExhausted e) := rfl
theorem illegalWord (e : Fin 8) : Statement (.illegalWord e) := rfl
theorem opAdd (e : Fin 8) (rd ra rb : Fin 32) : Statement (.opAdd e rd ra rb) := rfl
theorem opSub (e : Fin 8) (rd ra rb : Fin 32) : Statement (.opSub e rd ra rb) := rfl
theorem opAnd (e : Fin 8) (rd ra rb : Fin 32) : Statement (.opAnd e rd ra rb) := rfl
theorem opOr (e : Fin 8) (rd ra rb : Fin 32) : Statement (.opOr e rd ra rb) := rfl
theorem opXor (e : Fin 8) (rd ra rb : Fin 32) : Statement (.opXor e rd ra rb) := rfl
theorem opSll (e : Fin 8) (rd ra rb : Fin 32) : Statement (.opSll e rd ra rb) := rfl
theorem opSrl (e : Fin 8) (rd ra rb : Fin 32) : Statement (.opSrl e rd ra rb) := rfl
theorem opSra (e : Fin 8) (rd ra rb : Fin 32) : Statement (.opSra e rd ra rb) := rfl
theorem opMin (e : Fin 8) (rd ra rb : Fin 32) : Statement (.opMin e rd ra rb) := rfl
theorem opMax (e : Fin 8) (rd ra rb : Fin 32) : Statement (.opMax e rd ra rb) := rfl
theorem opMinu (e : Fin 8) (rd ra rb : Fin 32) : Statement (.opMinu e rd ra rb) := rfl
theorem opMaxu (e : Fin 8) (rd ra rb : Fin 32) : Statement (.opMaxu e rd ra rb) := rfl
theorem opMul (e : Fin 8) (rd ra rb : Fin 32) : Statement (.opMul e rd ra rb) := rfl
theorem opMulh (e : Fin 8) (rd ra rb : Fin 32) : Statement (.opMulh e rd ra rb) := rfl
theorem opMulq31 (e : Fin 8) (rd ra rb : Fin 32) : Statement (.opMulq31 e rd ra rb) := rfl
theorem opMulq15 (e : Fin 8) (rd ra rb : Fin 32) : Statement (.opMulq15 e rd ra rb) := rfl
theorem opAddi (e : Fin 8) (rd ra : Fin 32) (imm : BitVec 16) : Statement (.opAddi e rd ra imm) := rfl
theorem opAndi (e : Fin 8) (rd ra : Fin 32) (imm : BitVec 16) : Statement (.opAndi e rd ra imm) := rfl
theorem opOri (e : Fin 8) (rd ra : Fin 32) (imm : BitVec 16) : Statement (.opOri e rd ra imm) := rfl
theorem opXori (e : Fin 8) (rd ra : Fin 32) (imm : BitVec 16) : Statement (.opXori e rd ra imm) := rfl
theorem opLui (e : Fin 8) (rd : Fin 32) (imm : BitVec 16) : Statement (.opLui e rd imm) := rfl
theorem opSlli (e : Fin 8) (rd ra : Fin 32) (amount : Fin 32) : Statement (.opSlli e rd ra amount) := rfl
theorem opSrli (e : Fin 8) (rd ra : Fin 32) (amount : Fin 32) : Statement (.opSrli e rd ra amount) := rfl
theorem opSrai (e : Fin 8) (rd ra : Fin 32) (amount : Fin 32) : Statement (.opSrai e rd ra amount) := rfl
theorem opMac (e : Fin 8) (acc : Fin 4) (ra rb : Fin 32) : Statement (.opMac e acc ra rb) := rfl
theorem opMsu (e : Fin 8) (acc : Fin 4) (ra rb : Fin 32) : Statement (.opMsu e acc ra rb) := rfl
theorem opMula (e : Fin 8) (acc : Fin 4) (ra rb : Fin 32) : Statement (.opMula e acc ra rb) := rfl
theorem opAccset (e : Fin 8) (acc : Fin 4) (ra rb : Fin 32) : Statement (.opAccset e acc ra rb) := rfl
theorem opAccadd (e : Fin 8) (acc : Fin 4) (ra : Fin 32) : Statement (.opAccadd e acc ra) := rfl
theorem opAccclr (e : Fin 8) (acc : Fin 4) : Statement (.opAccclr e acc) := rfl
theorem opAcclo (e : Fin 8) (rd : Fin 32) (acc : Fin 4) : Statement (.opAcclo e rd acc) := rfl
theorem opAcchi (e : Fin 8) (rd : Fin 32) (acc : Fin 4) : Statement (.opAcchi e rd acc) := rfl
theorem opAccrd (e : Fin 8) (rd : Fin 32) (acc : Fin 4) (sh : Fin 64) : Statement (.opAccrd e rd acc sh) := rfl
theorem opLd (e : Fin 8) (rd ra : Fin 32) (imm : BitVec 16) : Statement (.opLd e rd ra imm) := rfl
theorem opSt (e : Fin 8) (rs ra : Fin 32) (imm : BitVec 16) : Statement (.opSt e rs ra imm) := rfl
theorem opLds (e : Fin 8) (rd ra : Fin 32) (imm : BitVec 16) : Statement (.opLds e rd ra imm) := rfl
theorem opSts (e : Fin 8) (rs ra : Fin 32) (imm : BitVec 16) : Statement (.opSts e rs ra imm) := rfl
theorem opIn (e : Fin 8) (rd ra : Fin 32) (port : BitVec 12) : Statement (.opIn e rd ra port) := rfl
theorem opOut (e : Fin 8) (rs ra : Fin 32) (port : BitVec 12) : Statement (.opOut e rs ra port) := rfl
theorem opB (e : Fin 8) (cond : Cond) (target : BitVec 14) : Statement (.opB e cond target) := rfl
theorem opBl (e : Fin 8) (target : BitVec 14) : Statement (.opBl e target) := rfl
theorem opBr (e : Fin 8) (ra : Fin 32) : Statement (.opBr e ra) := rfl
theorem opLoop (e : Fin 8) (ra : Fin 32) (last : BitVec 14) : Statement (.opLoop e ra last) := rfl
theorem opLoopi (e : Fin 8) (count : BitVec 12) (last : BitVec 14) : Statement (.opLoopi e count last) := rfl
theorem opEnd (e : Fin 8) : Statement (.opEnd e) := rfl
theorem tideMemoryWrite (core : Sender) (addr : Nat) (val : Word) : Statement (.tideMemoryWrite core addr val) := rfl
theorem engineHalt (core : Sender) (cpl : Word) : Statement (.engineHalt core cpl) := rfl
theorem engineRelease (core : Sender) (cpl : Word) : Statement (.engineRelease core cpl) := rfl
theorem tacFaultClr (core : Sender) (cpl : Word) : Statement (.tacFaultClr core cpl) := rfl
theorem controlModeHandover (core : Sender) (cpl : Word) : Statement (.controlModeHandover core cpl) := rfl
theorem permitOwnerHandover (core : Sender) (cpl : Word) : Statement (.permitOwnerHandover core cpl) := rfl
theorem share (h : Hdr) (p : SharePl) : Statement (.share h p) := rfl
theorem offer (h : Hdr) (p : OfferPl) : Statement (.offer h p) := rfl
theorem hoOut (h : Hdr) (p : HoOutPl) : Statement (.hoOut h p) := rfl
theorem claim (h : Hdr) (p : ClaimPl) : Statement (.claim h p) := rfl
theorem hoFail (h : Hdr) (p : HoFailPl) : Statement (.hoFail h p) := rfl
theorem claimTimeout (car : Fin 8) : Statement (.claimTimeout car) := rfl
theorem segstat (h : Hdr) (p : SegstatPl) : Statement (.segstat h p) := rfl
theorem updateRequest (core : Sender) (val : Word) : Statement (.updateRequest core val) := rfl
theorem registerWrite (core : Sender) (addr : Nat) (val : Word) : Statement (.registerWrite core addr val) := rfl
theorem rcRead (core : Sender) (addr : Nat) : Statement (.rcRead core addr) := rfl
theorem pairLoRead (core : Sender) (addr : Nat) : Statement (.pairLoRead core addr) := rfl
theorem pairLoWrite (core : Sender) (addr : Nat) (val : Word) : Statement (.pairLoWrite core addr val) := rfl
theorem pairHiWrite (core : Sender) (addr : Nat) (val : Word) : Statement (.pairHiWrite core addr val) := rfl
theorem narrowAccess (core : Sender) (wr : Bool) (addr width : Nat) : Statement (.narrowAccess core wr addr width) := rfl
theorem unmappedAccess (core : Sender) (wr : Bool) (addr : Nat) : Statement (.unmappedAccess core wr addr) := rfl
theorem guardedValWrite (core : Sender) (addr : Nat) (val : Word) : Statement (.guardedValWrite core addr val) := rfl
theorem mramWindowWrite (core : Sender) (addr width : Nat) (val : DWord) : Statement (.mramWindowWrite core addr width val) := rfl
theorem systemSnapshot (core : Sender) (val : Word) : Statement (.systemSnapshot core val) := rfl
theorem trjSnap (core : Sender) (val : Word) : Statement (.trjSnap core val) := rfl
theorem cmmSnap (core : Sender) (val : Word) : Statement (.cmmSnap core val) := rfl
theorem fbkSnap (core : Sender) (val : Word) : Statement (.fbkSnap core val) := rfl
theorem fioSnap (core : Sender) (val : Word) : Statement (.fioSnap core val) := rfl
theorem modeReqDormant (core : Sender) (cpl : Word) : Statement (.modeReqDormant core cpl) := rfl
theorem modeReqWatch (core : Sender) (cpl : Word) : Statement (.modeReqWatch core cpl) := rfl
theorem modeReqStandby (core : Sender) (cpl : Word) : Statement (.modeReqStandby core cpl) := rfl
theorem modeReqService (core : Sender) (cpl : Word) : Statement (.modeReqService core cpl) := rfl
theorem modeReqInspection (core : Sender) (cpl : Word) : Statement (.modeReqInspection core cpl) := rfl
theorem modeReqRescue (core : Sender) (cpl : Word) : Statement (.modeReqRescue core cpl) := rfl
theorem modeReqCommissioning (core : Sender) (cpl : Word) : Statement (.modeReqCommissioning core cpl) := rfl
theorem modeReqLockout (core : Sender) (cpl : Word) : Statement (.modeReqLockout core cpl) := rfl
theorem spineWakeDetect (port : Fin 4) : Statement (.spineWakeDetect port) := rfl
theorem lbEnergyDetect (port : Fin 2) : Statement (.lbEnergyDetect port) := rfl
theorem fieldWakeEdge (group : Fin 4) : Statement (.fieldWakeEdge group) := rfl
theorem clockCrossMonitorFault (clock : Fin 4) : Statement (.clockCrossMonitorFault clock) := rfl
theorem wakeNotice (h : Hdr) (p : WakePl) : Statement (.wakeNotice h p) := rfl
theorem rescue (h : Hdr) (reason : Nat) : Statement (.rescue h reason) := rfl
theorem supplyThresholdCross (rail : Fin 10) (low beyond : Bool) : Statement (.supplyThresholdCross rail low beyond) := rfl
theorem supplyMonitorReset (rail : Fin 10) : Statement (.supplyMonitorReset rail) := rfl
theorem nrstReset (lowNs : Nat) : Statement (.nrstReset lowNs) := rfl
theorem softwareReset (core : Sender) (cpl : Word) : Statement (.softwareReset core cpl) := rfl
theorem resetRelease (boot : Fin 4) (coreFail eclFail : Option (Fin 256)) (xtalOk : Bool) : Statement (.resetRelease boot coreFail eclFail xtalOk) := rfl
theorem loaderImageReceive (usb : Bool) (img : List Byte) : Statement (.loaderImageReceive usb img) := rfl
theorem spsImageTransfer (shadow : Option (Fin 3)) (len gen : Nat) (payload : List Byte) : Statement (.spsImageTransfer shadow len gen payload) := rfl
theorem spsConfirm (core : Sender) (cpl : Word) : Statement (.spsConfirm core cpl) := rfl
theorem spsCommit (agree : Bool) : Statement (.spsCommit agree) := rfl
theorem cfgOpsCommit (core : Sender) (cpl : Word) : Statement (.cfgOpsCommit core cpl) := rfl
theorem opsCommitDone (agree : Bool) : Statement (.opsCommitDone agree) := rfl
theorem cfgLcCmd (core : Sender) (cpl : Word) : Statement (.cfgLcCmd core cpl) := rfl
theorem trjQueue (core : Sender) (val : Word) : Statement (.trjQueue core val) := rfl
theorem trjStop (core : Sender) (val : Word) : Statement (.trjStop core val) := rfl
theorem trjResume (core : Sender) (val : Word) : Statement (.trjResume core val) := rfl
theorem trjAbort (core : Sender) (val : Word) : Statement (.trjAbort core val) := rfl
theorem trjHome (core : Sender) (val : Word) : Statement (.trjHome core val) := rfl
theorem trjFlush (core : Sender) (val : Word) : Statement (.trjFlush core val) := rfl
theorem tstWrite (core : Sender) (addr : Nat) (val : Word) : Statement (.tstWrite core addr val) := rfl
theorem latchArm (core : Sender) (val : Word) : Statement (.latchArm core val) := rfl
theorem latchDisarm (core : Sender) (val : Word) : Statement (.latchDisarm core val) := rfl
theorem latchHoldoffExpiry (unit : Fin 16) : Statement (.latchHoldoffExpiry unit) := rfl
theorem homeDecision (axis : Fin 8) : Statement (.homeDecision axis) := rfl
theorem compareArm (core : Sender) (unit : Fin 32) (val : Word) : Statement (.compareArm core unit val) := rfl
theorem compareDisarm (core : Sender) (val : Word) : Statement (.compareDisarm core val) := rfl
theorem fbkArmOnceIndex (core : Sender) (val : Word) : Statement (.fbkArmOnceIndex core val) := rfl
theorem fbkClearSignalFault (core : Sender) (val : Word) : Statement (.fbkClearSignalFault core val) := rfl
theorem fbkRenegotiatePort (core : Sender) (val : Word) : Statement (.fbkRenegotiatePort core val) := rfl
theorem analogSample (ch : Fin 8) (sn cs : Int) (ref : Bool) : Statement (.analogSample ch sn cs ref) := rfl
theorem kspClockHoldExpiry (port : Fin 8) : Statement (.kspClockHoldExpiry port) := rfl
theorem kspTransactionDone (port : Fin 8) (r : KspResp) : Statement (.kspTransactionDone port r) := rfl
theorem kspFaultPauseExpiry (port : Fin 8) : Statement (.kspFaultPauseExpiry port) := rfl
theorem ssiTransferDone (port : Fin 8) (r : SsiResp) : Statement (.ssiTransferDone port r) := rfl
theorem doorOpen (core : Sender) (val : Word) : Statement (.doorOpen core val) := rfl
theorem doorClose (core : Sender) (val : Word) : Statement (.doorClose core val) := rfl
theorem doorNudge (core : Sender) (val : Word) : Statement (.doorNudge core val) := rfl
theorem doorStop (core : Sender) (val : Word) : Statement (.doorStop core val) := rfl
theorem obstruction (door : Fin 2) : Statement (.obstruction door) := rfl
theorem stall (door : Fin 2) : Statement (.stall door) := rfl
theorem keExc (door : Fin 2) : Statement (.keExc door) := rfl
theorem dwellExpiry (door : Fin 2) : Statement (.dwellExpiry door) := rfl
theorem nudgeTimerExpiry (door : Fin 2) : Statement (.nudgeTimerExpiry door) := rfl
theorem lockFail (door : Fin 2) : Statement (.lockFail door) := rfl
theorem bssAdd (core : Sender) (val : Word) : Statement (.bssAdd core val) := rfl
theorem bssRemove (core : Sender) (val : Word) : Statement (.bssRemove core val) := rfl
theorem bssClear (core : Sender) (val : Word) : Statement (.bssClear core val) := rfl
theorem depart (core : Sender) (val : Word) : Statement (.depart core val) := rfl
theorem resReq (h : Hdr) (p : ResReqPl) : Statement (.resReq h p) := rfl
theorem resAns (h : Hdr) (p : ResAnsPl) : Statement (.resAns h p) := rfl
theorem resRel (h : Hdr) (p : ResRelPl) : Statement (.resRel h p) := rfl
theorem resTrim (h : Hdr) (p : ResTrimPl) : Statement (.resTrim h p) := rfl
theorem stopq (h : Hdr) (p : StopqPl) : Statement (.stopq h p) := rfl
theorem heldReservationRelease (id : Nat) : Statement (.heldReservationRelease id) := rfl
theorem slkNodeClr (core : Sender) (cpl : Word) : Statement (.slkNodeClr core cpl) := rfl
theorem captureReceiveBuffer (core : Sender) (val : Word) : Statement (.captureReceiveBuffer core val) := rfl
theorem captureTransmitBuffer (core : Sender) (val : Word) : Statement (.captureTransmitBuffer core val) := rfl
theorem captureRelease (core : Sender) (val : Word) : Statement (.captureRelease core val) := rfl
theorem portIdleEnd (port : Fin 8) : Statement (.portIdleEnd port) := rfl
theorem dieFrameReceived (link : Fin 6) (ok : Bool) : Statement (.dieFrameReceived link ok) := rfl
theorem fieldReply (g : Fin 5) (r : ReplyIn) : Statement (.fieldReply g r) := rfl
theorem fieldReplyMissing (g : Fin 5) (core ecl : Option Nat) : Statement (.fieldReplyMissing g core ecl) := rfl
theorem dieSilenceTimeout (g : Fin 4) : Statement (.dieSilenceTimeout g) := rfl
theorem inputFilterAccept (input : Fin 96) (level : Bool) (t : Nat) : Statement (.inputFilterAccept input level t) := rfl
theorem fastInputEdge (f : Fin 16) (rising : Bool) (t : Nat) : Statement (.fastInputEdge f rising t) := rfl
theorem frequencyGate (f : Fin 16) : Statement (.frequencyGate f) := rfl
theorem frequencyZeroTimeout (f : Fin 16) : Statement (.frequencyZeroTimeout f) := rfl
theorem comparePulseEnd (out : Fin 32) : Statement (.comparePulseEnd out) := rfl
theorem outputThermalShutdown (out : Fin 32) : Statement (.outputThermalShutdown out) := rfl
theorem outputCooled (out : Fin 32) : Statement (.outputCooled out) := rfl
theorem fioOutClr (core : Sender) (cpl : Word) : Statement (.fioOutClr core cpl) := rfl
theorem offPulseStart (out : Fin 32) : Statement (.offPulseStart out) := rfl
theorem offPulseEnd (out : Fin 32) (rb : Nat) : Statement (.offPulseEnd out rb) := rfl
theorem lplusMeasure (g : Fin 5) (v : Nat) : Statement (.lplusMeasure g v) := rfl
theorem uv (g : Fin 5) : Statement (.uv g) := rfl
theorem uvClear (g : Fin 5) : Statement (.uvClear g) := rfl
theorem stoLinkTimeout (link : Fin 2) : Statement (.stoLinkTimeout link) := rfl
theorem stobEnergise (port : Fin 8) : Statement (.stobEnergise port) := rfl
theorem eclipseSelftest (pass : Bool) : Statement (.eclipseSelftest pass) := rfl
theorem safResetCmd (core : Sender) (cpl : Word) : Statement (.safResetCmd core cpl) := rfl
theorem diagSuspend (core : Sender) (cpl : Word) : Statement (.diagSuspend core cpl) := rfl
theorem diagResume (core : Sender) (cpl : Word) : Statement (.diagResume core cpl) := rfl
theorem proofTestConfirm (core : Sender) (cpl : Word) : Statement (.proofTestConfirm core cpl) := rfl
theorem sramScrub (bad : Bool) : Statement (.sramScrub bad) := rfl
theorem mramScrub (bad : Option (Fin 0x2000000)) : Statement (.mramScrub bad) := rfl
theorem carState (h : Hdr) (b : List Byte) : Statement (.carState h b) := rfl
theorem secState (h : Hdr) (b : List Byte) : Statement (.secState h b) := rfl
theorem permit (h : Hdr) (b : List Byte) : Statement (.permit h b) := rfl
theorem telegramWatchdogExpiry (kind : Fin 4) (src : Nat) : Statement (.telegramWatchdogExpiry kind src) := rfl
theorem interlockTelegram (port : Fin 2) (b : List Byte) : Statement (.interlockTelegram port b) := rfl
theorem brakeFeedbackTimeout (brake : Fin 2) : Statement (.brakeFeedbackTimeout brake) := rfl
theorem spineLinkUp (port : Fin 4) (mode : Fin 3) (sqi : Fin 8) : Statement (.spineLinkUp port mode sqi) := rfl
theorem spineLinkDown (port : Fin 4) : Statement (.spineLinkDown port) := rfl
theorem wakePulse (core : Sender) (port : Fin 4) (val : Word) : Statement (.wakePulse core port val) := rfl
theorem cableTest (core : Sender) (port : Fin 4) (val : Word) : Statement (.cableTest core port val) := rfl
theorem cableTestDone (port : Fin 4) (result : Fin 4) (dist : Nat) : Statement (.cableTestDone port result dist) := rfl
theorem restoreDownshiftedModes (core : Sender) (port : Fin 4) (val : Word) : Statement (.restoreDownshiftedModes core port val) := rfl
theorem fabKeyLoad (core : Sender) (cpl : Word) : Statement (.fabKeyLoad core cpl) := rfl
theorem lbFrameReceived (port : Fin 2) (f : LbFrame) : Statement (.lbFrameReceived port f) := rfl
theorem lbCollision (port : Fin 2) (cycle : Nat) : Statement (.lbCollision port cycle) := rfl
theorem foreignBeacon (port : Fin 2) : Statement (.foreignBeacon port) := rfl
theorem plcaResume (port : Fin 2) : Statement (.plcaResume port) := rfl
theorem announce (h : Hdr) (p : AnnouncePl) : Statement (.announce h p) := rfl
theorem heartbeat (h : Hdr) (p : HeartbeatPl) : Statement (.heartbeat h p) := rfl
theorem peerDead (peer : Fin 32) : Statement (.peerDead peer) := rfl
theorem frameForward (h : Hdr) (type : Nat) (p : List Byte) : Statement (.frameForward h type p) := rfl
theorem takeover (h : Hdr) (p : TakeoverPl) : Statement (.takeover h p) := rfl
theorem fenced (h : Hdr) (p : FencedPl) : Statement (.fenced h p) := rfl
theorem stale (h : Hdr) (p : StalePl) : Statement (.stale h p) := rfl
theorem app (h : Hdr) (p : List Byte) : Statement (.app h p) := rfl
theorem takeoverStart (cover : Fin 3) : Statement (.takeoverStart cover) := rfl
theorem takeMaxExpiry (peer : Fin 32) : Statement (.takeMaxExpiry peer) := rfl
theorem sectionClose (core : Sender) (cpl : Word) : Statement (.sectionClose core cpl) := rfl
theorem sectionReopen (core : Sender) (cpl : Word) : Statement (.sectionReopen core cpl) := rfl
theorem standbyGiveUpId (core : Sender) (cpl : Word) : Statement (.standbyGiveUpId core cpl) := rfl
theorem fenceRelease (core : Sender) (cpl : Word) : Statement (.fenceRelease core cpl) := rfl
theorem addendWrite (core : Sender) (val : Word) : Statement (.addendWrite core val) := rfl
theorem clockStep (core : Sender) (val : Word) : Statement (.clockStep core val) := rfl
theorem setSync (core : Sender) (val : Word) : Statement (.setSync core val) := rfl
theorem clearSync (core : Sender) (val : Word) : Statement (.clearSync core val) := rfl
theorem ptpEventMessage (port : Fin 4) (stamp : PtpTime) (m : PtpEvent) : Statement (.ptpEventMessage port stamp m) := rfl
theorem txTimestampEnqueue (port : Fin 4) (msgType seqId : Nat) (stamp : PtpTime) : Statement (.txTimestampEnqueue port msgType seqId stamp) := rfl
theorem txqPop (core : Sender) (port : Fin 4) (val : Word) : Statement (.txqPop core port val) := rfl
theorem txqNsRead (core : Sender) (port : Fin 4) : Statement (.txqNsRead core port) := rfl
theorem nowNsRead (core : Sender) : Statement (.nowNsRead core) := rfl
theorem snapArm (core : Sender) (val : Word) : Statement (.snapArm core val) := rfl
theorem snapDisarm (core : Sender) (val : Word) : Statement (.snapDisarm core val) := rfl
theorem recClear (core : Sender) (cpl : Word) : Statement (.recClear core cpl) := rfl
theorem recAppCmd (core : Sender) (val : Word) : Statement (.recAppCmd core val) := rfl
theorem extest (lands pattern : BitVec 91) : Statement (.extest lands pattern) := rfl
theorem samplePreload (lands pattern : BitVec 91) : Statement (.samplePreload lands pattern) := rfl
theorem bypass (code : Fin 16) : Statement (.bypass code) := rfl
theorem ptpGeneralMessage (port : Fin 4) (m : PtpGeneral) : Statement (.ptpGeneralMessage port m) := rfl
theorem frameDiscarded (port : Fin 4) (macsec : Bool) : Statement (.frameDiscarded port macsec) := rfl
theorem eccDoubleOnAccess (core : Sender) (addr : Nat) : Statement (.eccDoubleOnAccess core addr) := rfl
theorem loaderLifeCycleChange (retire : Bool) (fabricId : Fin 16384) (pubKey : List Byte) : Statement (.loaderLifeCycleChange retire fabricId pubKey) := rfl
theorem servoPeriodBoundary : Statement .servoPeriodBoundary := rfl
theorem computeWindowOpen : Statement .computeWindowOpen := rfl
theorem forceSplit : Statement .forceSplit := rfl
theorem updateCutoff : Statement .updateCutoff := rfl
theorem millisecondInstant : Statement .millisecondInstant := rfl
theorem modeTransitionDone : Statement .modeTransitionDone := rfl
theorem standbyIdleExpiry : Statement .standbyIdleExpiry := rfl
theorem serviceIdleExpiry : Statement .serviceIdleExpiry := rfl
theorem timeAlarm : Statement .timeAlarm := rfl
theorem clockStopDetect : Statement .clockStopDetect := rfl
theorem powerOnReset : Statement .powerOnReset := rfl
theorem keyCfRelease : Statement .keyCfRelease := rfl
theorem spsConfirmTimeout : Statement .spsConfirmTimeout := rfl
theorem lifeCycleWipeDone : Statement .lifeCycleWipeDone := rfl
theorem spanCheckDone : Statement .spanCheckDone := rfl
theorem bssEvaluation : Statement .bssEvaluation := rfl
theorem resAnswerTimeout : Statement .resAnswerTimeout := rfl
theorem thermalUpdate : Statement .thermalUpdate := rfl
theorem fieldRefresh : Statement .fieldRefresh := rfl
theorem safetyCoreLockstepError : Statement .safetyCoreLockstepError := rfl
theorem resetPair : Statement .resetPair := rfl
theorem proofDue : Statement .proofDue := rfl
theorem discrepancyTick : Statement .discrepancyTick := rfl
theorem ptpSecond : Statement .ptpSecond := rfl
theorem heartbeatSend : Statement .heartbeatSend := rfl
theorem settlingEnd : Statement .settlingEnd := rfl
theorem takeoverCopyDone : Statement .takeoverCopyDone := rfl
theorem syncReceiptTimeout : Statement .syncReceiptTimeout := rfl
theorem timedSnapshotFire : Statement .timedSnapshotFire := rfl
theorem recordWrite : Statement .recordWrite := rfl
theorem cleared : Statement .cleared := rfl
theorem idcode : Statement .idcode := rfl

end Sys2Proof.Laws.HasWord
end

