-- ==== Sys2Proof/WellFormed.lean ====
section
/-!
DEFINITION. Well-formed commands: every operand fits the field the spec gives it (18 Tables 18.1 and 18.3, 12 Table 12.4,
08 Tables 8.1 and 8.5, 10 Tables 10.3 to 10.5, 13 Table 13.3, 19 R576, 23 R640).
-/

namespace Sys2Proof

/-- An unsigned field of `n` bits. -/
def fitsU (n v : Nat) : Bool := decide (v < 2 ^ n)

/-- A signed field of `n` bits. -/
def fitsS (n : Nat) (v : Int) : Bool := decide (-(2 : Int) ^ (n - 1) ≤ v) && decide (v < (2 : Int) ^ (n - 1))

/-- A car mass: u32 in kg, 1 to 65,535 (01 Table 1.1). -/
def massOk (m : Nat) : Bool := decide (1 ≤ m) && decide (m ≤ 65535)

/-- A PTP time (19 R576). -/
def PtpTime.wf (t : PtpTime) : Bool := fitsU 48 t.sec && decide (t.ns < 1000000000)

/-- A fabric header (18 Table 18.1): 14-bit IDs, u16 epoch, u8 hops, u32 SEQ. -/
def Hdr.wf (h : Hdr) : Bool := fitsU 14 h.src && fitsU 14 h.dst && fitsU 16 h.epoch && fitsU 8 h.hops && fitsU 32 h.seq

/-- A share entry: segment index u8, share s32. -/
def ShareEntry.wf (e : ShareEntry) : Bool := fitsU 8 e.seg && fitsS 32 e.share

/-- SHARE: 1 to 16 entries. -/
def SharePl.wf (p : SharePl) : Bool :=
  fitsU 16 p.car && fitsU 64 p.stamp && decide (1 ≤ p.entries.length) && decide (p.entries.length ≤ 16) &&
    p.entries.all ShareEntry.wf

/-- A move record (08 Table 8.5). -/
def MoveRec.wf (m : MoveRec) : Bool :=
  fitsS 64 m.start && fitsU 16 m.first && fitsU 16 m.count && fitsU 16 m.id && fitsU 2 m.kind && fitsU 8 m.state &&
    fitsU 64 m.tau && fitsU 32 m.ov && fitsU 32 m.ovTgt && fitsU 32 m.ovPrev && fitsU 32 m.vPeak && fitsU 32 m.aCap &&
    fitsU 32 m.jCap && fitsS 64 m.rampP && fitsS 64 m.rampV && fitsS 32 m.rampA

/-- OFFER: 64 context words. -/
def OfferPl.wf (p : OfferPl) : Bool :=
  fitsU 16 p.car && massOk p.mass && fitsS 32 p.arrOfs && fitsU 32 p.arrLen && decide (p.ctx.length = 64) && p.move.wf

/-- HO_OUT. -/
def HoOutPl.wf (p : HoOutPl) : Bool := fitsU 16 p.car && fitsU 64 p.period && fitsS 32 p.u

/-- CLAIM: entries as in SHARE. -/
def ClaimPl.wf (p : ClaimPl) : Bool :=
  fitsU 16 p.car && fitsU 64 p.period && decide (p.entries.length ≤ 16) && p.entries.all ShareEntry.wf

/-- HO_FAIL. -/
def HoFailPl.wf (p : HoFailPl) : Bool := fitsU 16 p.car && fitsU 64 p.period

/-- SEGSTAT: up to 16 segments, reasons 1 to 4. -/
def SegstatPl.wf (p : SegstatPl) : Bool :=
  fitsU 16 p.car && fitsU 64 p.period && decide (p.segs.length ≤ 16) &&
    p.segs.all (fun e => fitsU 8 e.1 && decide (1 ≤ e.2) && decide (e.2 ≤ 4))

/-- WAKE. -/
def WakePl.wf (p : WakePl) : Bool := fitsU 16 p.car && fitsU 48 p.arrS && decide (p.arrNs < 1000000000)

/-- ANNOUNCE. -/
def AnnouncePl.wf (p : AnnouncePl) : Bool :=
  fitsU 48 p.serial && decide (p.role ≤ 2) && decide (p.mode ≤ 7) && fitsU 3 p.flags && fitsU 32 p.tsNs &&
    fitsS 64 p.extLo && fitsS 64 p.extHi

/-- HEARTBEAT. -/
def HeartbeatPl.wf (p : HeartbeatPl) : Bool := decide (p.mode ≤ 7) && fitsU 8 p.flags

/-- TAKEOVER. -/
def TakeoverPl.wf (p : TakeoverPl) : Bool := fitsU 14 p.id && fitsU 16 p.epoch && fitsU 14 p.own && fitsU 64 p.serial

/-- FENCED. -/
def FencedPl.wf (p : FencedPl) : Bool := fitsU 64 p.serial && fitsU 16 p.newer

/-- STALE. -/
def StalePl.wf (p : StalePl) : Bool := fitsU 14 p.id && fitsU 16 p.epoch

/-- A stop-queue entry. -/
def StopEntry.wf (e : StopEntry) : Bool :=
  fitsU 8 e.member && decide (e.landing < 64) && fitsS 64 e.target && fitsU 2 e.sides && fitsU 3 e.flags

/-- A TST row (08 Table 8.1). -/
def TstRow.wf (r : TstRow) : Bool := fitsU 32 r.dt && fitsS 32 r.pos && fitsS 32 r.vel && fitsU 32 r.flags

/-- RES_REQ. -/
def ResReqPl.wf (p : ResReqPl) : Bool :=
  fitsU 32 p.id && fitsU 16 p.car && fitsS 64 p.lo && fitsS 64 p.hi && fitsS 64 p.start && fitsS 64 p.target &&
    massOk p.mass && fitsS 32 p.arrOfs && fitsU 32 p.arrLen && fitsU 8 p.member && fitsU 8 p.landing && fitsU 2 p.sides &&
    fitsU 64 p.t0 && p.rows.all TstRow.wf

/-- RES_ANS: outcomes 1 to 3. -/
def ResAnsPl.wf (p : ResAnsPl) : Bool :=
  fitsU 32 p.id && decide (1 ≤ p.outcome) && decide (p.outcome ≤ 3) && fitsU 8 p.reason

/-- RES_REL. -/
def ResRelPl.wf (p : ResRelPl) : Bool := fitsU 32 p.id

/-- RES_TRIM. -/
def ResTrimPl.wf (p : ResTrimPl) : Bool := fitsU 16 p.car && fitsS 64 p.lo && fitsS 64 p.hi && fitsU 64 p.t

/-- STOPQ: at most 64 entries. -/
def StopqPl.wf (p : StopqPl) : Bool :=
  fitsU 16 p.car && decide (p.d ≤ 2) && decide (p.queue.length ≤ 64) && p.queue.all StopEntry.wf

/-- A returned frame (13 Table 13.3): nine header bytes, slots of 32 bytes. -/
def RetFrame.wf (f : RetFrame) : Bool :=
  decide (f.hdr.length = 9) && decide (f.slots.length ≤ 32) && f.slots.all (fun b => decide (b.length = 32))

/-- A field reply (14 R438): 8-bit counts of 250 us instants, 16 readback bits. -/
def ReplyIn.wf (r : ReplyIn) : Bool :=
  r.fio.all (fitsU 8) && r.core.all (fitsU 8) && r.ecl.all (fitsU 8) && fitsU 16 r.rb

/-- A KSP answer (10 Table 10.3): 40 data bits and a CRC-16. -/
def KspResp.wf (r : KspResp) : Bool := fitsU 40 r.data && fitsU 16 r.crc

/-- An SSI transfer (10 Table 10.5): at most 7 leading bits, 40 data bits, a parity bit and two error bits. -/
def SsiResp.wf (r : SsiResp) : Bool := decide (r.bits.length ≤ 50)

/-- A landing-bus frame (18 R551): a bus ID below 32, a 48-bit address. -/
def LbFrame.wf (f : LbFrame) : Bool := fitsU 5 f.id && fitsU 48 f.mac && fitsU 8 f.ver && fitsU 8 f.type

/-- A PTP event message: u16 sequence IDs. -/
def PtpEvent.wf : PtpEvent → Bool
  | .sync q o => fitsU 16 q && o.all (fun e => e.1.wf)
  | .pdelayReq q => fitsU 16 q
  | .pdelayResp q t => fitsU 16 q && t.wf

/-- A PTP general message. -/
def PtpGeneral.wf : PtpGeneral → Bool
  | .followUp q t _ => fitsU 16 q && t.wf
  | .pdelayFollowUp q t => fitsU 16 q && t.wf
  | .announce v => fitsU 8 v.prio1 && fitsU 8 v.prio2 && fitsU 64 v.gmId && fitsU 16 v.steps

/-- A payload of a forwarded or firmware frame: 4 to 1,024 bytes. -/
def payloadWf (b : List Byte) : Bool := decide (4 ≤ b.length) && decide (b.length ≤ 1024)

/-- An access width in bytes (23 Table 23.1). -/
def widthWf (n : Nat) : Bool := n == 1 || n == 2 || n == 4 || n == 8

namespace Instr

/-- Every operand of a command fits its field. -/
def wf : Instr → Bool
  | .returnFrameReceived _ f => f.wf
  | .speedTZeroExpiry ch => decide (ch < 144)
  | .shareMissed seg => decide (seg < 128)
  | .tideMemoryWrite _ addr _ => fitsU 32 addr
  | .share h p => h.wf && p.wf
  | .offer h p => h.wf && p.wf
  | .hoOut h p => h.wf && p.wf
  | .claim h p => h.wf && p.wf
  | .hoFail h p => h.wf && p.wf
  | .segstat h p => h.wf && p.wf
  | .registerWrite _ addr _ => fitsU 32 addr
  | .rcRead _ addr => fitsU 32 addr
  | .pairLoRead _ addr => fitsU 32 addr
  | .pairLoWrite _ addr _ => fitsU 32 addr
  | .pairHiWrite _ addr _ => fitsU 32 addr
  | .narrowAccess _ _ addr width => fitsU 32 addr && widthWf width
  | .unmappedAccess _ _ addr => fitsU 32 addr
  | .guardedValWrite _ addr _ => fitsU 32 addr
  | .mramWindowWrite _ addr width _ => fitsU 32 addr && widthWf width
  | .wakeNotice h p => h.wf && p.wf
  | .rescue h reason => h.wf && fitsU 8 reason
  | .spsImageTransfer _ len gen payload => fitsU 32 len && fitsU 16 gen && fitsU 32 (16 + payload.length)
  | .tstWrite _ addr _ => fitsU 32 addr
  | .analogSample _ sn cs _ => fitsS 16 sn && fitsS 16 cs
  | .kspTransactionDone _ r => r.wf
  | .ssiTransferDone _ r => r.wf
  | .resReq h p => h.wf && p.wf
  | .resAns h p => h.wf && p.wf
  | .resRel h p => h.wf && p.wf
  | .resTrim h p => h.wf && p.wf
  | .stopq h p => h.wf && p.wf
  | .heldReservationRelease id => fitsU 14 id
  | .fieldReply _ r => r.wf
  | .fieldReplyMissing _ core ecl => core.all (fitsU 8) && ecl.all (fitsU 8)
  | .offPulseEnd _ rb => fitsU 8 rb
  | .lplusMeasure _ v => fitsU 12 v
  | .carState h b => h.wf && payloadWf b
  | .secState h b => h.wf && payloadWf b
  | .permit h b => h.wf && payloadWf b
  | .telegramWatchdogExpiry _ src => fitsU 14 src
  | .interlockTelegram _ b => decide (b.length = 16)
  | .cableTestDone _ _ dist => fitsU 12 dist
  | .lbFrameReceived _ f => f.wf
  | .announce h p => h.wf && p.wf
  | .heartbeat h p => h.wf && p.wf
  | .frameForward h t p => h.wf && fitsU 8 t && payloadWf p
  | .takeover h p => h.wf && p.wf
  | .fenced h p => h.wf && p.wf
  | .stale h p => h.wf && p.wf
  | .app h p => h.wf && payloadWf p
  | .ptpEventMessage _ t m => t.wf && m.wf
  | .txTimestampEnqueue _ m q t => fitsU 4 m && fitsU 16 q && t.wf
  | .ptpGeneralMessage _ m => m.wf
  | .eccDoubleOnAccess _ addr => fitsU 32 addr
  | .loaderLifeCycleChange _ _ k => decide (k.length = 64)
  | .servoPeriodBoundary | .returnDeadline .. | .retryAnalysisDone .. | .computeWindowOpen | .forceSplit
  | .slotRunStart .. | .budgetExhausted .. | .illegalWord .. | .opAdd .. | .opSub .. | .opAnd .. | .opOr ..
  | .opXor .. | .opSll .. | .opSrl .. | .opSra .. | .opMin .. | .opMax .. | .opMinu .. | .opMaxu .. | .opMul ..
  | .opMulh .. | .opMulq31 .. | .opMulq15 .. | .opAddi .. | .opAndi .. | .opOri .. | .opXori .. | .opLui ..
  | .opSlli .. | .opSrli .. | .opSrai .. | .opMac .. | .opMsu .. | .opMula .. | .opAccset .. | .opAccadd ..
  | .opAccclr .. | .opAcclo .. | .opAcchi .. | .opAccrd .. | .opLd .. | .opSt .. | .opLds .. | .opSts .. | .opIn ..
  | .opOut .. | .opB .. | .opBl .. | .opBr .. | .opLoop .. | .opLoopi .. | .opEnd .. | .engineHalt ..
  | .engineRelease .. | .tacFaultClr .. | .controlModeHandover .. | .permitOwnerHandover .. | .claimTimeout ..
  | .updateRequest .. | .updateCutoff | .systemSnapshot .. | .trjSnap .. | .cmmSnap .. | .fbkSnap .. | .fioSnap ..
  | .modeReqDormant .. | .modeReqWatch .. | .modeReqStandby .. | .modeReqService .. | .modeReqInspection ..
  | .modeReqRescue .. | .modeReqCommissioning .. | .modeReqLockout .. | .millisecondInstant | .modeTransitionDone
  | .standbyIdleExpiry | .serviceIdleExpiry | .spineWakeDetect .. | .lbEnergyDetect .. | .fieldWakeEdge ..
  | .timeAlarm | .clockStopDetect | .clockCrossMonitorFault .. | .supplyThresholdCross .. | .supplyMonitorReset ..
  | .powerOnReset | .nrstReset .. | .softwareReset .. | .resetRelease .. | .loaderImageReceive .. | .spsConfirm ..
  | .keyCfRelease | .spsConfirmTimeout | .spsCommit .. | .cfgOpsCommit .. | .opsCommitDone .. | .cfgLcCmd ..
  | .lifeCycleWipeDone | .trjQueue .. | .trjStop .. | .trjResume .. | .trjAbort .. | .trjHome .. | .trjFlush ..
  | .spanCheckDone | .latchArm .. | .latchDisarm .. | .latchHoldoffExpiry .. | .homeDecision .. | .compareArm ..
  | .compareDisarm .. | .fbkArmOnceIndex .. | .fbkClearSignalFault .. | .fbkRenegotiatePort ..
  | .kspClockHoldExpiry .. | .kspFaultPauseExpiry .. | .doorOpen .. | .doorClose ..
  | .doorNudge .. | .doorStop .. | .obstruction .. | .stall .. | .keExc .. | .dwellExpiry .. | .nudgeTimerExpiry ..
  | .lockFail .. | .bssAdd .. | .bssRemove .. | .bssClear .. | .depart .. | .bssEvaluation | .resAnswerTimeout
  | .thermalUpdate | .slkNodeClr .. | .captureReceiveBuffer .. | .captureTransmitBuffer .. | .captureRelease ..
  | .portIdleEnd .. | .fieldRefresh | .dieFrameReceived .. | .dieSilenceTimeout .. | .inputFilterAccept ..
  | .fastInputEdge .. | .frequencyGate .. | .frequencyZeroTimeout .. | .comparePulseEnd ..
  | .outputThermalShutdown .. | .outputCooled .. | .fioOutClr .. | .offPulseStart .. | .uv .. | .uvClear ..
  | .stoLinkTimeout .. | .stobEnergise .. | .safetyCoreLockstepError | .eclipseSelftest .. | .resetPair
  | .safResetCmd .. | .diagSuspend .. | .diagResume .. | .proofTestConfirm .. | .proofDue | .sramScrub ..
  | .mramScrub .. | .discrepancyTick | .brakeFeedbackTimeout .. | .spineLinkUp .. | .spineLinkDown .. | .wakePulse ..
  | .cableTest .. | .restoreDownshiftedModes .. | .fabKeyLoad .. | .lbCollision .. | .foreignBeacon ..
  | .plcaResume .. | .peerDead .. | .ptpSecond | .heartbeatSend | .settlingEnd | .takeoverStart ..
  | .takeoverCopyDone | .takeMaxExpiry .. | .sectionClose .. | .sectionReopen .. | .standbyGiveUpId ..
  | .fenceRelease .. | .addendWrite .. | .clockStep .. | .setSync .. | .clearSync .. | .syncReceiptTimeout
  | .txqPop .. | .txqNsRead .. | .nowNsRead .. | .snapArm .. | .snapDisarm .. | .timedSnapshotFire | .recordWrite
  | .recClear .. | .cleared | .recAppCmd .. | .extest .. | .idcode | .samplePreload .. | .bypass ..
  | .frameDiscarded .. => true

end Instr

end Sys2Proof
end

