-- ==== Sys2Proof/Tests/Slice0.lean ====
section
/-!
SUPPORT. The model's own tests. First the ill-formed commands that WellFormed refuses, instruction words of the manual, and small steps
whose results the spec gives; then, for every statement, concrete states and operands that meet its hypotheses clause by clause: each
`witness_` theorem applies the statement to them.
-/

open Sys2Proof Sys2Proof.Machine

set_option Elab.async false

namespace Sys2Proof.Tests

/-- A clause that says that a command completes gives its next state. -/
theorem runs {i : Instr} {s : State} {P : State → Prop} (h : Completes i s P) : ∃ t, exec i s = .next t := by
  obtain ⟨t, h, _⟩ := h
  exact ⟨t, h⟩

/-- The state after reset, awake in mode `m`. -/
def run (m : Mode) : State := { State.reset with pw := { Power.init with phase := .running, mode := m } }

/-! ### Ill-formed commands -/

namespace C00

def hdr : Hdr := ⟨0, 769, 768, 3, 1, false, 9, 0x20⟩
def mv : MoveRec := ⟨0, 1, 2, 3, false, 0, 1, 0, 65536, 65536, 65536, 1, 0, 1, 1, 0, 0, 0⟩
def req : ResReqPl := ⟨1, 784, 0, 9, 0, 9, false, 3400, -5, 10, 0, 1, 1, 0, [⟨1, 0, 0, 0⟩]⟩

/-- The commands below are well-formed but for the one field changed. -/
theorem test_wf_accepts :
    (Instr.hoOut hdr ⟨784, 5, -1⟩).wf = true ∧ (Instr.offer hdr ⟨784, 3400, -5, 10, List.replicate 64 0, mv⟩).wf = true ∧
    (Instr.resReq hdr req).wf = true ∧ (Instr.share hdr ⟨784, 1, [⟨2, -7⟩]⟩).wf = true := by decide
theorem test_wf_refuses_header_fields :
    (Instr.hoFail { hdr with src := 16384 } ⟨1, 2⟩).wf = false ∧ (Instr.hoFail { hdr with dst := 16384 } ⟨1, 2⟩).wf = false ∧
    (Instr.hoFail { hdr with epoch := 65536 } ⟨1, 2⟩).wf = false ∧ (Instr.hoFail { hdr with hops := 256 } ⟨1, 2⟩).wf = false ∧
    (Instr.hoFail { hdr with seq := 2 ^ 32 } ⟨1, 2⟩).wf = false := by decide
theorem test_wf_refuses_share_entries :
    (Instr.share hdr ⟨784, 1, []⟩).wf = false ∧ (Instr.share hdr ⟨784, 1, List.replicate 17 ⟨1, 1⟩⟩).wf = false ∧
    (Instr.share hdr ⟨784, 1, [⟨256, 1⟩]⟩).wf = false ∧ (Instr.share hdr ⟨784, 1, [⟨1, 2 ^ 31⟩]⟩).wf = false ∧
    (Instr.share hdr ⟨65536, 1, [⟨1, 1⟩]⟩).wf = false ∧ (Instr.share hdr ⟨784, 2 ^ 64, [⟨1, 1⟩]⟩).wf = false := by decide
theorem test_wf_refuses_offer_fields :
    (Instr.offer hdr ⟨784, 3400, -5, 10, List.replicate 63 0, mv⟩).wf = false ∧
    (Instr.offer hdr ⟨784, 3400, -5, 10, List.replicate 64 0, { mv with kind := 4 }⟩).wf = false ∧
    (Instr.offer hdr ⟨784, 3400, 2 ^ 31, 10, List.replicate 64 0, mv⟩).wf = false := by decide
theorem test_wf_refuses_hand_over_frames :
    (Instr.hoOut hdr ⟨784, 5, -2 ^ 31 - 1⟩).wf = false ∧ (Instr.claim hdr ⟨784, 2 ^ 64, []⟩).wf = false ∧
    (Instr.hoFail hdr ⟨65536, 2⟩).wf = false := by decide
theorem test_wf_refuses_segment_states :
    (Instr.segstat hdr ⟨784, 5, [(3, 5)]⟩).wf = false ∧ (Instr.segstat hdr ⟨784, 5, [(3, 0)]⟩).wf = false ∧
    (Instr.segstat hdr ⟨784, 5, List.replicate 17 (3, 1)⟩).wf = false := by decide
theorem test_wf_refuses_network_frames :
    (Instr.wakeNotice hdr ⟨784, 5, 1000000000⟩).wf = false ∧ (Instr.rescue hdr 256).wf = false ∧
    (Instr.announce hdr ⟨1, 3, 0, 0, 0, 0, 0⟩).wf = false ∧ (Instr.heartbeat hdr ⟨8, 0⟩).wf = false ∧
    (Instr.takeover hdr ⟨16384, 0, 0, 0⟩).wf = false ∧ (Instr.fenced hdr ⟨0, 65536⟩).wf = false ∧
    (Instr.stale hdr ⟨16384, 0⟩).wf = false := by decide
theorem test_wf_refuses_payload_lengths :
    (Instr.app hdr [1, 2, 3]).wf = false ∧ (Instr.carState hdr []).wf = false ∧ (Instr.secState hdr [1]).wf = false ∧
    (Instr.permit hdr [1]).wf = false ∧ (Instr.frameForward hdr 256 [1, 2, 3, 4]).wf = false ∧
    (Instr.interlockTelegram 0 [1]).wf = false := by decide
theorem test_wf_refuses_reservation_frames :
    (Instr.resReq hdr { req with sides := 4 }).wf = false ∧ (Instr.resReq hdr { req with rows := [⟨2 ^ 32, 0, 0, 0⟩] }).wf = false ∧
    (Instr.resAns hdr ⟨1, 0, 0⟩).wf = false ∧ (Instr.resAns hdr ⟨1, 4, 0⟩).wf = false ∧ (Instr.resRel hdr ⟨2 ^ 32⟩).wf = false ∧
    (Instr.resTrim hdr ⟨784, 0, 2 ^ 63, 0⟩).wf = false ∧ (Instr.heldReservationRelease 16384).wf = false := by decide
theorem test_wf_refuses_stop_queues :
    (Instr.stopq hdr ⟨784, 3, []⟩).wf = false ∧ (Instr.stopq hdr ⟨784, 0, [⟨0, 64, 0, 1, 1⟩]⟩).wf = false ∧
    (Instr.stopq hdr ⟨784, 0, [⟨0, 1, 0, 4, 1⟩]⟩).wf = false ∧
    (Instr.stopq hdr ⟨784, 0, List.replicate 65 ⟨0, 1, 0, 1, 1⟩⟩).wf = false := by decide
theorem test_wf_refuses_return_frames :
    (Instr.returnFrameReceived 0 ⟨true, [1], [], true⟩).wf = false ∧
    (Instr.returnFrameReceived 0 ⟨true, List.replicate 9 0, [[1]], true⟩).wf = false := by decide
theorem test_wf_refuses_addresses_and_widths :
    (Instr.registerWrite 0 (2 ^ 32) 1).wf = false ∧ (Instr.narrowAccess 0 false 4 3).wf = false ∧
    (Instr.mramWindowWrite 0 4 16 0).wf = false ∧ (Instr.tstWrite 0 (2 ^ 32) 0).wf = false ∧
    (Instr.eccDoubleOnAccess 0 (2 ^ 32)).wf = false := by decide
theorem test_wf_refuses_numbers_out_of_range :
    (Instr.speedTZeroExpiry 144).wf = false ∧ (Instr.shareMissed 128).wf = false ∧ (Instr.lplusMeasure 0 4096).wf = false ∧
    (Instr.offPulseEnd 8 256).wf = false ∧ (Instr.spsImageTransfer none 16 (2 ^ 16) []).wf = false ∧
    (Instr.spsImageTransfer none (2 ^ 32) 1 []).wf = false := by decide
theorem test_wf_refuses_measured_values :
    (Instr.analogSample 128 32768 0 false).wf = false ∧ (Instr.kspTransactionDone 136 ⟨true, 0, false, false, 2 ^ 40, 0, 0⟩).wf = false ∧
    (Instr.fieldReply 0 ⟨some 256, none, none, 0⟩).wf = false ∧ (Instr.fieldReply 0 ⟨none, none, none, 65536⟩).wf = false := by decide
theorem test_wf_refuses_ptp_messages :
    (Instr.ptpEventMessage 0 ⟨2 ^ 48, 0⟩ (.pdelayReq 1)).wf = false ∧ (Instr.ptpEventMessage 0 ⟨0, 0⟩ (.sync 65536 none)).wf = false ∧
    (Instr.txTimestampEnqueue 0 16 0 ⟨0, 0⟩).wf = false ∧ (Instr.ptpGeneralMessage 0 (.announce ⟨256, 0, 0, 0, 0⟩)).wf = false := by decide
theorem test_wf_refuses_landing_bus_frames : (Instr.lbFrameReceived 0 ⟨32, 0, 1, 1, []⟩).wf = false := by decide

/-! ### Words of the manual (06, Encodings; 09, Worked examples; 12; 13 Table 13.2; 23 R644) -/

/-- The encodings written out in 06. -/
theorem test_words_of_06 :
    omgilDecode 0 0x04611001 = some (.opSub 0 3 1 2) ∧ omgilDecode 0 0x04632008 = some (.opMin 0 3 3 4) ∧
    omgilDecode 0 0x20033002 = some (.opMula 0 0 3 6) ∧ omgilDecode 0 0x24E00010 = some (.opAccrd 0 7 0 16) ∧
    omgilDecode 0 0x65A00040 = some (.opOut 0 13 0 0x040) ∧ omgilDecode 0 0xFC000000 = some (.opEnd 0) := by decide
/-- A field shown as 0 that is not, and condition 15, make a word illegal (06 R186, R189). -/
theorem test_illegal_words :
    omgilDecode 0 0x04611041 = none ∧ omgilDecode 0 0x83C00000 = none ∧ omgilDecode 0 0xFC000001 = none := by decide

def seg : State :=
  ((((((((State.reset.put (F.CMM_CH_RES.RPH 0) 420).put (F.CMM_CH_RES.ALPHA 0) 3930).put (F.CMM_CH_IND.L_D 0) 2400).put
    (F.CMM_CH_IND.L_Q 0) 2400).put (F.CMM_CH_KE.KE 0) 24000).put (F.CMM_CH_LAMBDA.LAMBDA 0) 96000).put
    (F.CMM_CH_ZERO.ZERO 0) 2048).put (F.CMM_CH_CFG.LEAD 0) 5).put F.CMM_CFG.VLIM 31130

/-- The two conversions worked in 09. -/
theorem test_voltages_of_09 :
    voltages seg 0 ⟨0, 85000, 0, 84950, 0, 23615, 2000000, 720000, 600, 125000⟩ = (-26703545, 90272040) ∧
    voltages seg 0 ⟨0, 90000, 0, 90000, 0, 46075, 10000000, 720000, 600, 125000⟩ = (-141371726, 283742160) := by decide +kernel
theorem test_vectors_of_09 :
    vector seg 0 ⟨0, 85000, 0, 84950, 0, 23615, 2000000, 720000, 600, 125000⟩ = (94138836, 37816) ∧
    vector seg 0 ⟨0, 90000, 0, 90000, 0, 46075, 10000000, 720000, 600, 125000⟩ = (317010375, 56021) := by decide +kernel
theorem test_phase_commands_of_09 :
    phaseCmds 0 1 8568 37816 true = (-7416, 421, 7416) ∧ phaseCmds 0 2 28854 56021 true = (23387, -23387, 15246) := by decide +kernel

/-- The shares of 07 with segment 2 failed, and the applied force of the first blended period. -/
theorem test_shares_of_07 :
    limitShares 20000 (rawShares 45966 [576000, 1152000, 576000]) = [11491, 20000, 11491] ∧ blendOut 41330 41320 0 4 = 41322 := by decide

def span : List TstRow := [⟨0, 0, 0, 0⟩, ⟨2000000, 2400000, 2400000, 0⟩, ⟨1840000, 6816000, 2400000, 0x40000000⟩, ⟨2000000, 9216000, 0, 0x80000000⟩]

/-- The span of 08 at 1.0 s, and one step of its override. -/
theorem test_span_of_08 :
    (locate span 0 0 (1000000 * tauPerUs)).map (setPoint 0 1 65536 65536 125000) = some (600000, 1200000, 1200000) ∧
    vPeak span = 2400000 ∧ ovStep 1200000 125000 2400000 65536 32768 = 65532 := by decide +kernel

/-- The rows of the move to floor 30 in 12. -/
theorem test_span_of_12 :
    (spanForm ⟨10000000, 1000000, 1000000⟩ 138240000 10000000).map (fun r => (r.dt, r.pos, r.vel)) =
      [(0, 0, 0), (1000000, 166667, 500000), (9000000, 45166667, 9500000), (1000000, 55000000, 10000000),
       (2824000, 83240000, 10000000), (1000000, 93073333, 9500000), (9000000, 138073333, 500000), (1000000, 138240000, 0)] := by
  decide +kernel

/-- The command slot of DC3 in 13, its CRC apart. -/
theorem test_command_slot_of_13 :
    (cmdSlot ((((({ State.reset with tb := { State.reset.tb with k := 7 } }).put (F.SLK_CH_CFG.SAFE_PAT 3) 0x15).put
      (F.SLK_CH_CFG.SAFE 3) 1).put (F.SLK_CH_CFG.T_SIL 3) 4).modCmm 3 (fun x => { x with a := -7416, b := 421, c := 7416, mode := 1 }))
      false false 3).take 12 = [0x30, 0x10, 7, 0x84, 0x15, 0, 0x08, 0xE3, 0xA5, 0x01, 0xF8, 0x1C] := by decide +kernel

/-- The routing word of TIM_EVENT in 23. -/
theorem test_routing_word_of_23 : State.reset.reg 0x400D1400 = 0xB5B5B586 := by decide +kernel

/-! ### Hypotheses of the statements about every command -/

/-- The invariant's hypotheses are met. -/
theorem witness_EveryStepKeepsTheInvariant (h : Obligations.EveryStepKeepsTheInvariant) :
    ∃ t, step State.reset = .next t ∧ Machine.Inv t :=
  ⟨_, rfl, h State.reset _ (by unfold Machine.Inv; decide +kernel) rfl⟩
/-- A command that answers a next state. -/
theorem witness_CommandsLeaveTheQueue (h : Obligations.CommandsLeaveTheQueue) :
    ∃ t, exec .settlingEnd State.reset = .next t ∧ t.pending = [] :=
  ⟨_, rfl, h .settlingEnd State.reset _ rfl⟩
/-- A command at the front of the queue, and an empty queue. -/
theorem witness_StepRunsTheFrontCommand (h : Obligations.StepRunsTheFrontCommand) :
    step (State.reset.withQueue [.settlingEnd, .millisecondInstant]) =
      exec .settlingEnd ((State.reset.withQueue [.settlingEnd, .millisecondInstant]).withQueue [.millisecondInstant]) ∧
    ∃ t, step State.reset = .next t :=
  ⟨h.2.1 _ _ _ rfl, let ⟨t, e, _⟩ := h.2.2 State.reset rfl; ⟨t, e⟩⟩
/-- An Omgil instruction and its word. -/
theorem witness_OmgilDecodeOfEncode (h : Obligations.OmgilDecodeOfEncode) : omgilDecode 0 0x04611001 = some (.opSub 0 3 1 2) :=
  h (.opSub 0 3 1 2) 0 0x04611001 rfl rfl

end C00

/-! ### 05 -/

namespace C05

def s0 : State := run .watch
def sFz : State := { s0 with bus := { s0.bus with frozen := 64 } }
def sDoor : State := { run .watch with conf := { s0.conf with role := some .sect } }
def sEv : State := s0.setReg Reg.TIM_EVENT 0xFF
def sPair : State := (s0.setReg Reg.TIM_SNAPT_LO 7).setReg (Reg.TIM_SNAPT_LO + 4) 8
def sLate : State := { armGuard Reg.REC_CLEAR 7 s0 with tb := { s0.tb with tick := 2001 } }
def sSnap : State := (run .service).modAxis 3 (fun a => { a with spPos := -5, spVel := -2 ^ 29 })
/-- TRJ has taken a snapshot in this clock. -/
def sTwice : State := { sSnap with bus := { sSnap.bus with snapAt := [(3, sSnap.tb.tick)] } }
def sArm (n : Nat) : State := { s0 with bus := { s0.bus with armed := n } }

/-- The hypotheses of RegisterWriteStores are met. -/
theorem witness_RegisterWriteStores (h : Obligations.RegisterWriteStores) :
    (∃ t, exec (Instr.registerWrite 0 Reg.TIM_CFG 4294967295) (s0) = .next t) ∧
    (∃ t, exec (Instr.registerWrite 0 Reg.TIM_CFG 4294967295) (sFz) = .next t) ∧
    (∃ t, exec (Instr.registerWrite 0 (Reg.REC_APP_DATA 0) 4294967295) (s0) = .next t) ∧
    (∃ t, exec (Instr.registerWrite 0 (Reg.TRJ_AXIS_OVR 0) 65537) (s0) = .next t) ∧
    (∃ t, exec (Instr.registerWrite 0 (Reg.TRJ_AXIS_OVR 7) 65536) (s0) = .next t) ∧
    (∃ t, exec (Instr.registerWrite 0 (Reg.FAB_MRT 0) 1073741828) (s0) = .next t) ∧
    (∃ t, exec (Instr.registerWrite 0 (Reg.FAB_MRT 255) 1073741828) (s0) = .next t) ∧
    (∃ t, exec (Instr.registerWrite 0 (Reg.TRJ_DOOR_CFG 0) 5) (sDoor) = .next t) ∧
    (∃ t, exec (Instr.registerWrite 0 Reg.TIM_STAT 5) (s0) = .next t) :=
  ⟨by refine runs ((h s0 0 Reg.TIM_CFG 0xFFFFFFFF ?_ ?_ ?_).1 6 ?_ ?_ ?_ ?_ ?_) <;> decide +kernel,
    by refine runs ((h sFz 0 Reg.TIM_CFG 0xFFFFFFFF ?_ ?_ ?_).2.1 6 ?_ ?_ ?_ ?_ ?_) <;> decide +kernel,
    by refine runs ((h s0 0 (Reg.REC_APP_DATA 0) 0xFFFFFFFF ?_ ?_ ?_).2.2.1 ?_ ?_ ?_ ?_) <;> decide +kernel,
    by refine runs ((h s0 0 (Reg.TRJ_AXIS_OVR 0) 65537 ?_ ?_ ?_).2.2.2.1 0 ?_ ?_) <;> decide +kernel,
    by refine runs ((h s0 0 (Reg.TRJ_AXIS_OVR 7) 65536 ?_ ?_ ?_).2.2.2.1 7 ?_ ?_) <;> decide +kernel,
    by refine runs ((h s0 0 (Reg.FAB_MRT 0) 0x40000004 ?_ ?_ ?_).2.2.2.2.1 0 ?_ ?_ ?_ ?_) <;> decide +kernel,
    by refine runs ((h s0 0 (Reg.FAB_MRT 255) 0x40000004 ?_ ?_ ?_).2.2.2.2.1 255 ?_ ?_ ?_ ?_) <;> decide +kernel,
    by refine runs ((h sDoor 0 (Reg.TRJ_DOOR_CFG 0) 5 ?_ ?_ ?_).2.2.2.2.2.1 ?_ ?_) <;> decide +kernel,
    by refine runs ((h s0 0 (Reg.TIM_STAT) 5 ?_ ?_ ?_).2.2.2.2.2.2 ?_) <;> decide +kernel⟩

/-- The hypotheses of EventReadClearsWhatItReturns are met. -/
theorem witness_EventReadClearsWhatItReturns (h : Obligations.EventReadClearsWhatItReturns) :
    (∃ t, exec (Instr.rcRead 0 Reg.TIM_EVENT) (sEv) = .next t) ∧
    (∃ t, exec (Instr.rcRead 4 Reg.TIM_EVENT) (sEv) = .next t) :=
  ⟨by refine runs (h sEv 0 10 Reg.TIM_EVENT 0xFF ?_ ?_ ?_) <;> decide +kernel,
    by refine runs (h sEv 4 10 Reg.TIM_EVENT 0xFF ?_ ?_ ?_) <;> decide +kernel⟩

/-- The hypotheses of PairAccessesAreWhole are met. -/
theorem witness_PairAccessesAreWhole (h : Obligations.PairAccessesAreWhole) :
    (∃ t, exec (Instr.pairLoRead 0 Reg.TIM_SNAPT_LO) (sPair) = .next t) ∧
    (∃ t, exec (Instr.pairLoWrite 0 Reg.TIM_SNAP_AT_S_LO 9) (s0) = .next t) ∧
    (∃ t, exec (Instr.pairHiWrite 0 (Reg.TIM_SNAP_AT_S_LO + 4) 10) (setHold Reg.TIM_SNAP_AT_S_LO 0 9 s0) = .next t) :=
  ⟨by refine runs (h.1 sPair 0 Reg.TIM_SNAPT_LO ?_ ?_ ?_ ?_ ?_) <;> decide +kernel,
    by refine runs ((h.2 s0 0 Reg.TIM_SNAP_AT_S_LO 9 10 ?_ ?_ ?_ ?_ ?_).1) <;> decide +kernel,
    by refine runs ((h.2 (setHold Reg.TIM_SNAP_AT_S_LO 0 9 s0) 0 Reg.TIM_SNAP_AT_S_LO 9 10 ?_ ?_ ?_ ?_ ?_).2) <;> decide +kernel⟩

/-- The hypotheses of GuardedWritesArmAndBreak are met. -/
theorem witness_GuardedWritesArmAndBreak (h : Obligations.GuardedWritesArmAndBreak) :
    (∃ t, exec (Instr.guardedValWrite 0 Reg.REC_CLEAR 49642) (s0) = .next t) ∧
    (∃ t, exec (Instr.guardedValWrite 0 Reg.REC_CLEAR 49642) (armGuard Reg.REC_CLEAR 7 s0) = .next t) ∧
    (∃ t, exec (Instr.registerWrite 0 (Reg.REC_CLEAR + 4) (~~~7)) (sLate) = .next t) ∧
    (∃ t, exec (Instr.registerWrite 0 (Reg.REC_CLEAR + 4) (~~~7)) (s0) = .next t) :=
  ⟨by refine runs (h.1 s0 0 Reg.REC_CLEAR 0xC1EA ?_ ?_) <;> decide +kernel,
    by refine runs (h.1 (armGuard Reg.REC_CLEAR 7 s0) 0 Reg.REC_CLEAR 0xC1EA ?_ ?_) <;> decide +kernel,
    by refine runs (h.2 sLate 0 Reg.REC_CLEAR (~~~ 7) ?_ ?_ ?_ ?_ ?_) <;> decide +kernel,
    by refine runs (h.2 s0 0 Reg.REC_CLEAR (~~~ 7) ?_ ?_ ?_ ?_ ?_) <;> decide +kernel⟩

/-- The hypotheses of RefusedAccessesAndTheMramWindow are met. -/
theorem witness_RefusedAccessesAndTheMramWindow (h : Obligations.RefusedAccessesAndTheMramWindow) :
    (∃ t, exec (Instr.narrowAccess 0 false Reg.TIM_STAT 1) (s0) = .next t) ∧
    (∃ t, exec (Instr.narrowAccess 0 true Reg.TIM_STAT 8) (s0) = .next t) ∧
    (∃ t, exec (Instr.unmappedAccess 0 false 1610612736) (s0) = .next t) ∧
    (∃ t, exec (Instr.mramWindowWrite 0 (mramBase + appBase) 8 1234605616436508552) (s0) = .next t) ∧
    (∃ t, exec (Instr.mramWindowWrite 0 (mramBase + appEnd - 1) 1 136) (s0) = .next t) ∧
    (∃ t, exec (Instr.mramWindowWrite 0 (mramBase + appEnd) 1 136) (s0) = .next t) ∧
    (∃ t, exec (Instr.mramWindowWrite 0 (mramBase + appBase - 4) 4 136) (s0) = .next t) :=
  ⟨by refine runs ((h.1 s0 0 false Reg.TIM_STAT 1 ?_ ?_).1 ?_) <;> decide +kernel,
    by refine runs ((h.1 s0 0 true Reg.TIM_STAT 8 ?_ ?_).1 ?_) <;> decide +kernel,
    by refine runs ((h.1 s0 0 false 0x60000000 4 ?_ ?_).2 ?_) <;> decide +kernel,
    by refine runs ((h.2 s0 0 (mramBase + appBase) 8 0x1122334455667788 ?_ ?_ ?_ ?_ ?_).1 ?_ ?_) <;> decide +kernel,
    by refine runs ((h.2 s0 0 (mramBase + appEnd - 1) 1 0x88 ?_ ?_ ?_ ?_ ?_).1 ?_ ?_) <;> decide +kernel,
    by refine runs ((h.2 s0 0 (mramBase + appEnd) 1 0x88 ?_ ?_ ?_ ?_ ?_).2 ?_) <;> decide +kernel,
    by refine runs ((h.2 s0 0 (mramBase + appBase - 4) 4 0x88 ?_ ?_ ?_ ?_ ?_).2 ?_) <;> decide +kernel⟩

/-- The hypotheses of SnapshotsFillTheHoldingRegisters are met. -/
theorem witness_SnapshotsFillTheHoldingRegisters (h : Obligations.SnapshotsFillTheHoldingRegisters) :
    (∃ t, exec (Instr.trjSnap 0 1) sSnap = .next t) ∧ exec (Instr.trjSnap 0 0) sSnap = .next sSnap ∧
    exec (Instr.trjSnap 0 1) sTwice = .next sTwice ∧
    (∃ t, exec (Instr.cmmSnap 0 1) sSnap = .next t) ∧ exec (Instr.cmmSnap 0 0) sSnap = .next sSnap ∧
    (∃ t, exec (Instr.fbkSnap 0 1) sSnap = .next t) ∧ exec (Instr.fbkSnap 0 0) sSnap = .next sSnap ∧
    (∃ t, exec (Instr.fioSnap 0 1) (s0.setReg (Reg.FIO_FIN_CNT_LO 3) 77) = .next t) ∧ exec (Instr.fioSnap 0 0) sSnap = .next sSnap ∧
    (∃ t, exec (Instr.systemSnapshot 0 1) sSnap = .next t) ∧ exec (Instr.systemSnapshot 0 0) sSnap = .next sSnap :=
  have none (s : State) (e : s.bus.snapAt = []) (b : Nat) : ¬ SnapTaken s b := by simp [SnapTaken, e, smFind]
  have u : canAccess sSnap 0 = true := by decide +kernel
  ⟨by refine runs (((h sSnap 0 1 u).1 ?_).2 ?_ ?_) <;> decide +kernel,
    by refine ((h sSnap 0 0 u).1 ?_).1 (.inl ?_) <;> decide +kernel,
    by refine ((h sTwice 0 1 ?_).1 ?_).1 (.inr ?_) <;> decide +kernel,
    by refine runs (((h sSnap 0 1 u).2.1 ?_).2 ?_ ?_) <;> decide +kernel,
    by refine ((h sSnap 0 0 u).2.1 ?_).1 (.inl ?_) <;> decide +kernel,
    by refine runs (((h sSnap 0 1 u).2.2.1 ?_).2 ?_ ?_) <;> decide +kernel,
    by refine ((h sSnap 0 0 u).2.2.1 ?_).1 (.inl ?_) <;> decide +kernel,
    by refine runs (((h (s0.setReg (Reg.FIO_FIN_CNT_LO 3) 77) 0 1 ?_).2.2.2.1 ?_).2 ?_ ?_) <;> decide +kernel,
    by refine ((h sSnap 0 0 u).2.2.2.1 ?_).1 (.inl ?_) <;> decide +kernel,
    by refine runs (((h sSnap 0 1 u).2.2.2.2 ?_).2 ?_ (none sSnap rfl)) <;> decide +kernel,
    by refine ((h sSnap 0 0 u).2.2.2.2 ?_).1 (.inl ?_) <;> decide +kernel⟩

/-- The hypotheses of UpdateRequestAndCutoff are met. -/
theorem witness_UpdateRequestAndCutoff (h : Obligations.UpdateRequestAndCutoff) :
    (∃ t, exec (Instr.updateRequest 0 4294967295) (sArm 4) = .next t) ∧
    (∃ t, exec (Instr.updateCutoff) (sArm 64) = .next t) ∧
    (∃ t, exec (Instr.updateCutoff) (sArm 1) = .next t) :=
  ⟨by refine runs (h.1 (sArm 4) 0 0xFFFFFFFF ?_ ?_) <;> decide +kernel,
    by refine runs ((h.2 (sArm 64) ?_ ?_).1 ?_) <;> decide +kernel,
    by refine runs ((h.2 (sArm 1) ?_ ?_).2.1 0 2 ?_) <;> decide +kernel⟩

/-- The mode clause of UpdateRequestAndCutoff: group 0 is armed outside the servo modes. -/
theorem witness_UpdateRequestAndCutoff_mode (h : Obligations.UpdateRequestAndCutoff) :
    firstFail (sArm 1) (sArm 1).bus.armed = some (0, 2) :=
  by refine (h.2 (sArm 1) ?_ ?_).2.2 0 ?_ ?_ ?_ (fun _ hh => absurd hh (Nat.not_lt_zero _)) <;> decide +kernel

end C05

/-! ### 06 -/

namespace C06

/-- A run of slot 2: w3 is the most negative number, w4 is -1, w5 is 5; one cycle left. -/
def r1 : Run := ⟨2, [(3, 0x80000000), (4, 0xFFFFFFFF), (5, 5)], [(1, 0x7FFFFFFFFFFFFFFF)], true, false, true, false, 9, none, 1, [(4, 7)]⟩
/-- The run `r` on engine 1, the word at its pc standing for `i`. -/
def om (i : Instr) (r : Run) : State :=
  let s := run .service
  setRun 1 r { s with tide := { s.tide with code := [(16384 + r.pc, (omgilEncode i).getD 0)], slots := [(26, { SlotSt.init with priv := 4, budget := 50 })] } }
def omS (i : Instr) (r : Run) : State := (((om i r).setReg (Reg.TAC_ENG_SHARED 1) 0x00020001).put (F.TAC_ENG_SHARED.LEN 1) 6).put (F.TAC_SLOT_PRIV.BASE 26) 3000
def r2 : Run := { r1 with left := 2 }
def rl (n : Nat) : Run := { r2 with loop := some ⟨8, 9, n⟩ }
def sRun : State := { run .service with
  bus := { Bus.init with regs := [(Reg.TAC_SLOT_BIND 26, 0x80000000), (Reg.TAC_SLOT_CODE 26, 16380)] },
  tide := { Tide.init with
    slots := [(26, { SlotSt.init with budget := 50 })]
    stage := .phaseA
    data := [(16384 + 64 * 2 + 3, 9), (16384 + 64 * 2 + 33, 7), (16384 + 64 * 2 + 40, 5)] } }
def r0 : Run := { r1 with left := 0 }
def sIll : State := { run .service with tide := { Tide.init with runs := [(1, r1)] } }
def sWant : State := { run .service with tide := { Tide.init with haltWant := 6 } }
def sH : State := (run .standby).put F.TAC_ENG_HALT.HALT 2
def sSh : State := ((run .service).put (F.TAC_ENG_SHARED.BASE 0) 100).put (F.TAC_ENG_SHARED.LEN 0) 2

/-- The hypotheses of OmgilSumsAndLogic are met. -/
theorem witness_OmgilSumsAndLogic (h : Obligations.OmgilSumsAndLogic) :
    (∃ t, exec (Instr.opAdd 1 6 3 4) (om (Instr.opAdd 1 6 3 4) r1) = .next t) ∧
    (∃ t, exec (Instr.opSub 1 0 5 3) (om (Instr.opSub 1 0 5 3) r1) = .next t) ∧
    (∃ t, exec (Instr.opAddi 1 6 3 65535) (om (Instr.opAddi 1 6 3 65535) r1) = .next t) ∧
    (∃ t, exec (Instr.opAnd 1 6 3 4) (om (Instr.opAnd 1 6 3 4) r1) = .next t) ∧
    (∃ t, exec (Instr.opOr 1 6 3 4) (om (Instr.opOr 1 6 3 4) r1) = .next t) ∧
    (∃ t, exec (Instr.opXor 1 6 3 4) (om (Instr.opXor 1 6 3 4) r1) = .next t) ∧
    (∃ t, exec (Instr.opAndi 1 6 4 65535) (om (Instr.opAndi 1 6 4 65535) r1) = .next t) ∧
    (∃ t, exec (Instr.opOri 1 6 3 65535) (om (Instr.opOri 1 6 3 65535) r1) = .next t) ∧
    (∃ t, exec (Instr.opXori 1 6 4 65535) (om (Instr.opXori 1 6 4 65535) r1) = .next t) ∧
    (∃ t, exec (Instr.opLui 1 6 32769) (om (Instr.opLui 1 6 32769) r1) = .next t) :=
  ⟨by refine runs ((h (om (.opAdd 1 6 3 4) r1) 1 r1 6 3 4 0xFFFF _ _ _ _ ?_ rfl rfl rfl rfl).1 _ rfl ?_) <;> decide +kernel,
    by refine runs ((h (om (.opSub 1 0 5 3) r1) 1 r1 0 5 3 0xFFFF _ _ _ _ ?_ rfl rfl rfl rfl).2.1 _ rfl ?_) <;> decide +kernel,
    by refine runs ((h (om (.opAddi 1 6 3 0xFFFF) r1) 1 r1 6 3 4 0xFFFF _ _ _ _ ?_ rfl rfl rfl rfl).2.2.1 _ rfl ?_) <;> decide +kernel,
    by refine runs ((h (om (.opAnd 1 6 3 4) r1) 1 r1 6 3 4 0xFFFF _ _ _ _ ?_ rfl rfl rfl rfl).2.2.2.1 _ rfl ?_) <;> decide +kernel,
    by refine runs ((h (om (.opOr 1 6 3 4) r1) 1 r1 6 3 4 0xFFFF _ _ _ _ ?_ rfl rfl rfl rfl).2.2.2.2.1 _ rfl ?_) <;> decide +kernel,
    by refine runs ((h (om (.opXor 1 6 3 4) r1) 1 r1 6 3 4 0xFFFF _ _ _ _ ?_ rfl rfl rfl rfl).2.2.2.2.2.1 _ rfl ?_) <;> decide +kernel,
    by refine runs ((h (om (.opAndi 1 6 4 0xFFFF) r1) 1 r1 6 4 4 0xFFFF _ _ _ _ ?_ rfl rfl rfl rfl).2.2.2.2.2.2.1 _ rfl ?_) <;> decide +kernel,
    by refine runs ((h (om (.opOri 1 6 3 0xFFFF) r1) 1 r1 6 3 4 0xFFFF _ _ _ _ ?_ rfl rfl rfl rfl).2.2.2.2.2.2.2.1 _ rfl ?_) <;> decide +kernel,
    by refine runs ((h (om (.opXori 1 6 4 0xFFFF) r1) 1 r1 6 4 4 0xFFFF _ _ _ _ ?_ rfl rfl rfl rfl).2.2.2.2.2.2.2.2.1 _ rfl ?_) <;> decide +kernel,
    by refine runs ((h (om (.opLui 1 6 0x8001) r1) 1 r1 6 4 4 0x8001 _ _ _ _ ?_ rfl rfl rfl rfl).2.2.2.2.2.2.2.2.2 _ rfl ?_) <;> decide +kernel⟩

/-- The hypotheses of OmgilShiftsAndExtremes are met. -/
theorem witness_OmgilShiftsAndExtremes (h : Obligations.OmgilShiftsAndExtremes) :
    (∃ t, exec (Instr.opSll 1 6 4 5) (om (Instr.opSll 1 6 4 5) r1) = .next t) ∧
    (∃ t, exec (Instr.opSll 1 6 4 0) (om (Instr.opSll 1 6 4 0) r1) = .next t) ∧
    (∃ t, exec (Instr.opSrl 1 6 4 5) (om (Instr.opSrl 1 6 4 5) r1) = .next t) ∧
    (∃ t, exec (Instr.opSra 1 6 3 5) (om (Instr.opSra 1 6 3 5) r1) = .next t) ∧
    (∃ t, exec (Instr.opSlli 1 6 3 0) (om (Instr.opSlli 1 6 3 0) r1) = .next t) ∧
    (∃ t, exec (Instr.opSrli 1 6 3 31) (om (Instr.opSrli 1 6 3 31) r1) = .next t) ∧
    (∃ t, exec (Instr.opSrai 1 6 3 31) (om (Instr.opSrai 1 6 3 31) r1) = .next t) ∧
    (∃ t, exec (Instr.opMin 1 6 3 5) (om (Instr.opMin 1 6 3 5) r1) = .next t) ∧
    (∃ t, exec (Instr.opMax 1 6 3 5) (om (Instr.opMax 1 6 3 5) r1) = .next t) ∧
    (∃ t, exec (Instr.opMinu 1 6 3 5) (om (Instr.opMinu 1 6 3 5) r1) = .next t) ∧
    (∃ t, exec (Instr.opMaxu 1 6 3 3) (om (Instr.opMaxu 1 6 3 3) r1) = .next t) :=
  ⟨by refine runs ((h (om (.opSll 1 6 4 5) r1) 1 r1 6 4 5 31 _ _ _ ?_ rfl rfl rfl).1 _ rfl ?_) <;> decide +kernel,
    by refine runs ((h (om (.opSll 1 6 4 0) r1) 1 r1 6 4 0 31 _ _ _ ?_ rfl rfl rfl).1 _ rfl ?_) <;> decide +kernel,
    by refine runs ((h (om (.opSrl 1 6 4 5) r1) 1 r1 6 4 5 31 _ _ _ ?_ rfl rfl rfl).2.1 _ rfl ?_) <;> decide +kernel,
    by refine runs ((h (om (.opSra 1 6 3 5) r1) 1 r1 6 3 5 31 _ _ _ ?_ rfl rfl rfl).2.2.1 _ rfl ?_) <;> decide +kernel,
    by refine runs ((h (om (.opSlli 1 6 3 0) r1) 1 r1 6 3 5 0 _ _ _ ?_ rfl rfl rfl).2.2.2.1 _ rfl ?_) <;> decide +kernel,
    by refine runs ((h (om (.opSrli 1 6 3 31) r1) 1 r1 6 3 5 31 _ _ _ ?_ rfl rfl rfl).2.2.2.2.1 _ rfl ?_) <;> decide +kernel,
    by refine runs ((h (om (.opSrai 1 6 3 31) r1) 1 r1 6 3 5 31 _ _ _ ?_ rfl rfl rfl).2.2.2.2.2.1 _ rfl ?_) <;> decide +kernel,
    by refine runs ((h (om (.opMin 1 6 3 5) r1) 1 r1 6 3 5 31 _ _ _ ?_ rfl rfl rfl).2.2.2.2.2.2.1 0x80000000 ?_ ?_ ?_ _ rfl ?_) <;> decide +kernel,
    by refine runs ((h (om (.opMax 1 6 3 5) r1) 1 r1 6 3 5 31 _ _ _ ?_ rfl rfl rfl).2.2.2.2.2.2.2.1 5 ?_ ?_ ?_ _ rfl ?_) <;> decide +kernel,
    by refine runs ((h (om (.opMinu 1 6 3 5) r1) 1 r1 6 3 5 31 _ _ _ ?_ rfl rfl rfl).2.2.2.2.2.2.2.2.1 5 ?_ ?_ ?_ _ rfl ?_) <;> decide +kernel,
    by refine runs ((h (om (.opMaxu 1 6 3 3) r1) 1 r1 6 3 3 31 _ _ _ ?_ rfl rfl rfl).2.2.2.2.2.2.2.2.2 0x80000000 ?_ ?_ ?_ _ rfl ?_) <;> decide +kernel⟩

/-- The hypotheses of OmgilProducts are met. -/
theorem witness_OmgilProducts (h : Obligations.OmgilProducts) :
    (∃ t, exec (Instr.opMul 1 6 3 4) (om (Instr.opMul 1 6 3 4) r1) = .next t) ∧
    (∃ t, exec (Instr.opMulh 1 6 3 3) (om (Instr.opMulh 1 6 3 3) r1) = .next t) ∧
    (∃ t, exec (Instr.opMulq31 1 6 3 3) (om (Instr.opMulq31 1 6 3 3) r1) = .next t) ∧
    (∃ t, exec (Instr.opMulq15 1 6 4 5) (om (Instr.opMulq15 1 6 4 5) r1) = .next t) :=
  ⟨by refine runs ((h (om (.opMul 1 6 3 4) r1) 1 r1 6 3 4 _ _ _ _ ?_ rfl rfl rfl rfl).1 _ rfl _ rfl ?_) <;> decide +kernel,
    by refine runs ((h (om (.opMulh 1 6 3 3) r1) 1 r1 6 3 3 _ _ _ _ ?_ rfl rfl rfl rfl).2.1 _ rfl _ rfl ?_) <;> decide +kernel,
    by refine runs ((h (om (.opMulq31 1 6 3 3) r1) 1 r1 6 3 3 _ _ _ _ ?_ rfl rfl rfl rfl).2.2.1 _ rfl _ rfl ?_) <;> decide +kernel,
    by refine runs ((h (om (.opMulq15 1 6 4 5) r1) 1 r1 6 4 5 _ _ _ _ ?_ rfl rfl rfl rfl).2.2.2 _ rfl _ rfl ?_) <;> decide +kernel⟩

/-- The hypotheses of OmgilAccumulators are met. -/
theorem witness_OmgilAccumulators (h : Obligations.OmgilAccumulators) :
    (∃ t, exec (Instr.opMac 1 1 4 4) (om (Instr.opMac 1 1 4 4) r1) = .next t) ∧
    (∃ t, exec (Instr.opMsu 1 1 4 4) (om (Instr.opMsu 1 1 4 4) r1) = .next t) ∧
    (∃ t, exec (Instr.opMula 1 0 3 4) (om (Instr.opMula 1 0 3 4) r1) = .next t) ∧
    (∃ t, exec (Instr.opAccset 1 3 3 4) (om (Instr.opAccset 1 3 3 4) r1) = .next t) ∧
    (∃ t, exec (Instr.opAccadd 1 1 5) (om (Instr.opAccadd 1 1 5) r1) = .next t) ∧
    (∃ t, exec (Instr.opAccclr 1 1) (om (Instr.opAccclr 1 1) r1) = .next t) ∧
    (∃ t, exec (Instr.opAcclo 1 6 1) (om (Instr.opAcclo 1 6 1) r1) = .next t) ∧
    (∃ t, exec (Instr.opAcchi 1 0 1) (om (Instr.opAcchi 1 0 1) r1) = .next t) ∧
    (∃ t, exec (Instr.opAccrd 1 6 1 63) (om (Instr.opAccrd 1 6 1 63) r1) = .next t) ∧
    (∃ t, exec (Instr.opAccrd 1 6 1 0) (om (Instr.opAccrd 1 6 1 0) r1) = .next t) :=
  ⟨by refine runs ((h (om (.opMac 1 1 4 4) r1) 1 r1 6 4 4 1 0 _ _ _ ?_ rfl rfl rfl).1 _ rfl ?_) <;> decide +kernel,
    by refine runs ((h (om (.opMsu 1 1 4 4) r1) 1 r1 6 4 4 1 0 _ _ _ ?_ rfl rfl rfl).2.1 _ rfl ?_) <;> decide +kernel,
    by refine runs ((h (om (.opMula 1 0 3 4) r1) 1 r1 6 3 4 0 0 _ _ _ ?_ rfl rfl rfl).2.2.1 _ rfl ?_) <;> decide +kernel,
    by refine runs ((h (om (.opAccset 1 3 3 4) r1) 1 r1 6 3 4 3 0 _ _ _ ?_ rfl rfl rfl).2.2.2.1 _ rfl ?_) <;> decide +kernel,
    by refine runs ((h (om (.opAccadd 1 1 5) r1) 1 r1 6 5 4 1 0 _ _ _ ?_ rfl rfl rfl).2.2.2.2.1 _ rfl ?_) <;> decide +kernel,
    by refine runs ((h (om (.opAccclr 1 1) r1) 1 r1 6 5 4 1 0 _ _ _ ?_ rfl rfl rfl).2.2.2.2.2.1 _ rfl ?_) <;> decide +kernel,
    by refine runs ((h (om (.opAcclo 1 6 1) r1) 1 r1 6 5 4 1 0 _ _ _ ?_ rfl rfl rfl).2.2.2.2.2.2.1 _ rfl ?_) <;> decide +kernel,
    by refine runs ((h (om (.opAcchi 1 0 1) r1) 1 r1 0 5 4 1 0 _ _ _ ?_ rfl rfl rfl).2.2.2.2.2.2.2.1 _ rfl ?_) <;> decide +kernel,
    by refine runs ((h (om (.opAccrd 1 6 1 63) r1) 1 r1 6 5 4 1 63 _ _ _ ?_ rfl rfl rfl).2.2.2.2.2.2.2.2 _ rfl _ rfl ?_) <;> decide +kernel,
    by refine runs ((h (om (.opAccrd 1 6 1 0) r1) 1 r1 6 5 4 1 0 _ _ _ ?_ rfl rfl rfl).2.2.2.2.2.2.2.2 _ rfl _ rfl ?_) <;> decide +kernel⟩

/-- The hypotheses of OmgilDataAndPorts are met. -/
theorem witness_OmgilDataAndPorts (h : Obligations.OmgilDataAndPorts) :
    (∃ t, exec (Instr.opLd 1 6 0 63) (omS (Instr.opLd 1 6 0 63) r1) = .next t) ∧
    (∃ t, exec (Instr.opLd 1 6 0 67) (omS (Instr.opLd 1 6 0 67) r1) = .next t) ∧
    (∃ t, exec (Instr.opSt 1 4 0 48) (omS (Instr.opSt 1 4 0 48) r1) = .next t) ∧
    (∃ t, exec (Instr.opSt 1 4 0 64) (omS (Instr.opSt 1 4 0 64) r1) = .next t) ∧
    (∃ t, exec (Instr.opLds 1 4 5 0) (omS (Instr.opLds 1 4 5 0) r1) = .next t) ∧
    (∃ t, exec (Instr.opSts 1 4 5 0) (omS (Instr.opSts 1 4 5 0) r1) = .next t) ∧
    (∃ t, exec (Instr.opIn 1 4 0 256) (omS (Instr.opIn 1 4 0 256) r1) = .next t) ∧
    (∃ t, exec (Instr.opOut 1 4 0 68) (omS (Instr.opOut 1 4 0 68) r1) = .next t) ∧
    (∃ t, exec (Instr.opOut 1 4 0 71) (omS (Instr.opOut 1 4 0 71) r1) = .next t) :=
  ⟨by refine runs ((h (omS (.opLd 1 6 0 63) r1) 1 r1 6 0 63 0 _ _ ?_ rfl rfl).1 _ (64*2+63) rfl ?_ ?_) <;> decide +kernel,
    by refine runs ((h (omS (.opLd 1 6 0 67) r1) 1 r1 6 0 67 0 _ _ ?_ rfl rfl).1 _ 3003 rfl ?_ ?_) <;> decide +kernel,
    by refine runs ((h (omS (.opSt 1 4 0 48) r1) 1 r1 4 0 48 0 _ _ ?_ rfl rfl).2.1 _ (64*2+48) rfl ?_ ?_) <;> decide +kernel,
    by refine runs ((h (omS (.opSt 1 4 0 64) r1) 1 r1 4 0 64 0 _ _ ?_ rfl rfl).2.1 _ 3000 rfl ?_ ?_) <;> decide +kernel,
    by refine runs ((h (omS (.opLds 1 4 5 0) r1) 1 r1 4 5 0 0 _ _ ?_ rfl rfl).2.2.1 _ rfl ?_ ?_ ?_) <;> decide +kernel,
    by refine runs ((h (omS (.opSts 1 4 5 0) r1) 1 r1 4 5 0 0 _ _ ?_ rfl rfl).2.2.2.1 _ rfl ?_ ?_ ?_) <;> decide +kernel,
    by refine runs ((h (omS (.opIn 1 4 0 0x100) r1) 1 r1 4 0 0 0x100 _ _ ?_ rfl rfl).2.2.2.2.1 _ 0x100 _ rfl ?_ ?_ ?_ rfl) <;> decide +kernel,
    by refine runs ((h (omS (.opOut 1 4 0 0x44) r1) 1 r1 4 0 0 0x44 _ _ ?_ rfl rfl).2.2.2.2.2 _ 4 rfl ?_ ?_ ?_) <;> decide +kernel,
    by refine runs ((h (omS (.opOut 1 4 0 0x47) r1) 1 r1 4 0 0 0x47 _ _ ?_ rfl rfl).2.2.2.2.2 _ 7 rfl ?_ ?_ ?_) <;> decide +kernel⟩

/-- The hypotheses of OmgilBranchesAndLoops are met. -/
theorem witness_OmgilBranchesAndLoops (h : Obligations.OmgilBranchesAndLoops) :
    (∃ t, exec (Instr.opB 1 Cond.ne 100) (om (Instr.opB 1 Cond.ne 100) (rl 2)) = .next t) ∧
    (∃ t, exec (Instr.opB 1 Cond.ne 100) (om (Instr.opB 1 Cond.ne 100) (rl 1)) = .next t) ∧
    (∃ t, exec (Instr.opB 1 Cond.eq 9) (om (Instr.opB 1 Cond.eq 9) (rl 1)) = .next t) ∧
    (∃ t, exec (Instr.opB 1 Cond.al 7) (om (Instr.opB 1 Cond.al 7) (rl 1)) = .next t) ∧
    (∃ t, exec (Instr.opBl 1 16383) (om (Instr.opBl 1 16383) r2) = .next t) ∧
    (∃ t, exec (Instr.opBr 1 4) (om (Instr.opBr 1 4) r2) = .next t) ∧
    (∃ t, exec (Instr.opLoop 1 5 10) (om (Instr.opLoop 1 5 10) r2) = .next t) ∧
    (∃ t, exec (Instr.opLoopi 1 0 16383) (om (Instr.opLoopi 1 0 16383) r2) = .next t) :=
  ⟨by refine runs ((h (om (.opB 1 .ne 100) (rl 2)) 1 (rl 2) 0 .ne 100 0).1 _ rfl ?_ ?_ ?_) <;> decide +kernel,
    by refine runs ((h (om (.opB 1 .ne 100) (rl 1)) 1 (rl 1) 0 .ne 100 0).1 _ rfl ?_ ?_ ?_) <;> decide +kernel,
    by refine runs ((h (om (.opB 1 .eq 9) (rl 1)) 1 (rl 1) 0 .eq 9 0).2.1 _ rfl ?_ ?_ ?_) <;> decide +kernel,
    by refine runs ((h (om (.opB 1 .al 7) (rl 1)) 1 (rl 1) 0 .al 7 0).2.1 _ rfl ?_ ?_ ?_) <;> decide +kernel,
    by refine runs ((h (om (.opBl 1 16383) r2) 1 r2 0 .al 16383 0).2.2.1 _ rfl ?_ ?_) <;> decide +kernel,
    by refine runs ((h (om (.opBr 1 4) r2) 1 r2 4 .al 16383 0).2.2.2.1 _ rfl ?_ ?_) <;> decide +kernel,
    by refine runs (((h (om (.opLoop 1 5 10) r2) 1 r2 5 .al 10 0).2.2.2.2 (.opLoop 1 5 10) 5 (.inl ⟨rfl, ?_⟩) ?_ ?_ ?_).1 ?_ ?_) <;> decide +kernel,
    by refine runs (((h (om (.opLoopi 1 0 16383) r2) 1 r2 5 .al 16383 0).2.2.2.2 (.opLoopi 1 0 16383) 0 (.inr ⟨rfl, ?_⟩) ?_ ?_ ?_).2 ?_ ?_) <;> decide +kernel⟩

/-- The hypotheses of OmgilRunsRestoreAndSave are met. -/
theorem witness_OmgilRunsRestoreAndSave (h : Obligations.OmgilRunsRestoreAndSave) :
    (∃ t, exec (Instr.slotRunStart 1 2) (sRun) = .next t) ∧
    (∃ t, exec (Instr.opEnd 1) (om (Instr.opEnd 1) r1) = .next t) :=
  ⟨by refine runs ((h sRun 1).1 2 ?_) <;> decide +kernel,
    by refine runs ((h (om (.opEnd 1) r1) 1).2 r1 ?_ ?_) <;> decide +kernel⟩

/-- The hypotheses of OmgilTraps are met. -/
theorem witness_OmgilTraps (h : Obligations.OmgilTraps) :
    (∃ t, exec (Instr.budgetExhausted 1) (om (Instr.opEnd 1) r0) = .next t) ∧
    (∃ t, exec (Instr.illegalWord 1) (sIll) = .next t) ∧
    (∃ t, exec (Instr.opIn 1 6 5 4095) (om (Instr.opIn 1 6 5 4095) r1) = .next t) ∧
    (∃ t, exec (Instr.opIn 1 6 0 135) (om (Instr.opIn 1 6 0 135) r1) = .next t) ∧
    (∃ t, exec (Instr.opOut 1 6 0 72) (om (Instr.opOut 1 6 0 72) r1) = .next t) ∧
    (∃ t, exec (Instr.opOut 1 6 0 66) (om (Instr.opOut 1 6 0 66) r1) = .next t) ∧
    (∃ t, exec (Instr.opLd 1 6 0 68) (om (Instr.opLd 1 6 0 68) r1) = .next t) ∧
    (∃ t, exec (Instr.opSt 1 6 0 68) (om (Instr.opSt 1 6 0 68) r1) = .next t) ∧
    (∃ t, exec (Instr.opLds 1 6 0 0) (om (Instr.opLds 1 6 0 0) r1) = .next t) ∧
    (∃ t, exec (Instr.opSts 1 6 0 0) (om (Instr.opSts 1 6 0 0) r1) = .next t) ∧
    (∃ t, exec (Instr.opSt 1 6 0 47) (om (Instr.opSt 1 6 0 47) r1) = .next t) ∧
    (∃ t, exec (Instr.opLoop 1 5 9) (om (Instr.opLoop 1 5 9) r2) = .next t) ∧
    (∃ t, exec (Instr.opLoopi 1 3 10) (om (Instr.opLoopi 1 3 10) (rl 2)) = .next t) :=
  ⟨by refine runs ((h (om (.opEnd 1) r0) 1 r0 0 0 0 0 0 0 0 26 ?_ ?_).1 ?_ ?_ ?_) <;> decide +kernel,
    by refine runs ((h sIll 1 r1 0 0 0 0 0 0 0 26 ?_ ?_).2.1 ?_ ?_ ?_ ?_) <;> decide +kernel,
    by refine runs (((h (om (.opIn 1 6 5 0xFFF) r1) 1 r1 6 5 0 0xFFF 0 0 5 26 ?_ ?_).2.2 ?_).1 _ 0x1004 rfl ?_ ?_ ?_ ?_) <;> decide +kernel,
    by refine runs (((h (om (.opIn 1 6 0 0x087) r1) 1 r1 6 0 0 0x087 0 0 0 26 ?_ ?_).2.2 ?_).1 _ 0x087 rfl ?_ ?_ ?_ ?_) <;> decide +kernel,
    by refine runs (((h (om (.opOut 1 6 0 0x048) r1) 1 r1 6 0 0 0x048 0 0 0 26 ?_ ?_).2.2 ?_).2.1 _ 0x048 rfl ?_ ?_ ?_ ?_) <;> decide +kernel,
    by refine runs (((h (om (.opOut 1 6 0 0x042) r1) 1 r1 6 0 0 0x042 0 0 0 26 ?_ ?_).2.2 ?_).2.1 _ 0x042 rfl ?_ ?_ ?_ ?_) <;> decide +kernel,
    by refine runs (((h (om (.opLd 1 6 0 68) r1) 1 r1 6 0 68 0 0 0 68 26 ?_ ?_).2.2 ?_).2.2.1 _ rfl ?_ ?_ ?_) <;> decide +kernel,
    by refine runs (((h (om (.opSt 1 6 0 68) r1) 1 r1 6 0 68 0 0 0 68 26 ?_ ?_).2.2 ?_).2.2.2.1 _ rfl ?_ ?_ ?_) <;> decide +kernel,
    by refine runs (((h (om (.opLds 1 6 0 0) r1) 1 r1 6 0 0 0 0 0 0 26 ?_ ?_).2.2 ?_).2.2.2.2.1 _ rfl ?_ ?_ ?_) <;> decide +kernel,
    by refine runs (((h (om (.opSts 1 6 0 0) r1) 1 r1 6 0 0 0 0 0 0 26 ?_ ?_).2.2 ?_).2.2.2.2.2.1 _ rfl ?_ ?_ ?_) <;> decide +kernel,
    by refine runs (((h (om (.opSt 1 6 0 47) r1) 1 r1 6 0 47 0 0 0 47 26 ?_ ?_).2.2 ?_).2.2.2.2.2.2.1 _ rfl ?_ ?_ ?_) <;> decide +kernel,
    by refine runs ((((h (om (.opLoop 1 5 9) r2) 1 r2 6 5 0 0 9 0 5 26 ?_ ?_).2.2 ?_).2.2.2.2.2.2.2 ?_ ?_).1 _ rfl ?_ ?_) <;> decide +kernel,
    by refine runs ((((h (om (.opLoopi 1 3 10) (rl 2)) 1 (rl 2) 6 5 0 0 10 3 5 26 ?_ ?_).2.2 ?_).2.2.2.2.2.2.2 ?_ ?_).2 _ rfl ?_ ?_) <;> decide +kernel⟩

/-- The hypotheses of EngineMemoriesAndHalts are met. -/
theorem witness_EngineMemoriesAndHalts (h : Obligations.EngineMemoriesAndHalts) :
    (∃ t, exec (Instr.tideMemoryWrite 0 (805306368 + 131072 * 1 + 4 * 16383) 7) (sH) = .next t) ∧
    (∃ t, exec (Instr.tideMemoryWrite 0 (805306368 + 131072 * 0 + 4 * 0) 7) (sH) = .next t) ∧
    (∃ t, exec (Instr.tideMemoryWrite 0 (805371904 + 131072 * 0 + 4 * 101) 7) (sSh) = .next t) ∧
    (∃ t, exec (Instr.tideMemoryWrite 0 (805371904 + 131072 * 0 + 4 * 102) 7) (sSh) = .next t) ∧
    (∃ t, exec (Instr.engineHalt 0 (~~~3)) (armGuard Reg.TAC_ENG_HALT 3 sH) = .next t) ∧
    (∃ t, exec (Instr.engineRelease 0 (~~~3)) (armGuard Reg.TAC_ENG_HALT 3 sWant) = .next t) :=
  ⟨by refine runs ((h.1 sH 0 1 16383 7 ?_ ?_ ?_).1 ?_) <;> decide +kernel,
    by refine runs ((h.1 sH 0 0 0 7 ?_ ?_ ?_).2.1 ?_) <;> decide +kernel,
    by refine runs (((h.1 sSh 0 0 101 7 ?_ ?_ ?_).2.2 100 ?_).1 ?_) <;> decide +kernel,
    by refine runs (((h.1 sSh 0 0 102 7 ?_ ?_ ?_).2.2 100 ?_).2 ?_ ?_) <;> decide +kernel,
    by refine runs (h.2 (armGuard Reg.TAC_ENG_HALT 3 sH) 0 3 (.engineHalt 0 (~~~ 3)) ?_ ?_ (.inl rfl)) <;> decide +kernel,
    by refine runs (h.2 (armGuard Reg.TAC_ENG_HALT 3 sWant) 0 3 (.engineRelease 0 (~~~ 3)) ?_ ?_ (.inr rfl)) <;> decide +kernel⟩


end C06

/-! ### 03 -/

namespace C03

/-- In mode `m` with a guarded PCM_MODE_REQ of `v` armed. -/
def mq (m : Mode) (v : Word) : State := armGuard Reg.PCM_MODE_REQ v (run m)
def retired : State := { mq .watch 2 with nv := { NonVol.init with lc := { LcRecord.init with state := .retired } } }
def moving : State := { mq .watch 2 with pw := { (run .watch).pw with trans := some .standby } }
/-- In mode `m` 8 ms after its entry. -/
def pwOf (m : Mode) (f : Power → Power) : State := { run m with pw := f (run m).pw, tb := { TimeBase.init with tick := 1000000 } }
def asking : State := pwOf .watch (fun p => { p with fwReq := some .standby })
/-- Taps of FG0 that have had a reply. -/
def heard0 : Saf := { Saf.init with taps := [(0, { Tap.init with last := some 0 }), (64, { Tap.init with last := some 0 })] }
def noticed : State := { pwOf .watch (fun p => { p with wakePend := true }) with
  saf := heard0
  nv := { NonVol.init with lc := { LcRecord.init with state := .provisioned } } }
def toMode (m n : Mode) : State := pwOf m (fun p => { p with trans := some n })
def prov : State := { pwOf .watch (fun p => { p with fwReq := some .standby }) with saf := heard0, nv := { NonVol.init with lc := { LcRecord.init with state := .provisioned } } }
def idle (m : Mode) (f : FRef) : State := { (run m).put f 1 with tb := { TimeBase.init with tick := 125000000 } }
def asleep (a : Nat) (w : Word) : State := (run .dormant).setReg a w
def alarm : State := { asleep Reg.PCM_ALARM 2 with tb := { TimeBase.init with tick := 250000000 }, pw := { (run .dormant).pw with alarm := some 250000000 } }
/-- A frame's header from device 2.5 at epoch 1 on port 0, to device `dst`. -/
def hd (dst : Nat) : Hdr := ⟨0, 0x205, dst, 1, 0, false, 7, 0x20⟩
/-- A section in mode `m`, its port 0 up, device 2.5 heard at epoch 1 for long enough, its neighbour below. -/
def heard (m : Mode) : State :=
  let s := (run m).put (F.FAB_SP_STAT.STATE 0) 3
  { s with
    tb := { TimeBase.init with tick := 137500000 }
    conf := { Conf.init with role := some .sect, geom := { SectionGeom.none with below := some ⟨0x205, 4, []⟩ } }
    fab := { Fab.init with settle := none, epochs := [(0x205, ⟨1, 0⟩)] } }
def railsBad : State := { pwOf .watch (fun p => { p with railsOut := [(0, 3), (1, 4)] }) with tb := { TimeBase.init with tick := 6254 } }
def rq (m : Mode) : State := armGuard Reg.SYS_RESET_REQ 1 (run m)
def low : State := { run .watch with pins := { Pins.init with nrst := false } }
def inRst : State := { State.reset with conf := { Conf.init with causes := 1 } }
def lcOf (f : LcRecord → LcRecord) : State := { inRst with nv := { NonVol.init with lc := f LcRecord.init } }
def lcLocked : State := lcOf (fun l => { l with lockout := true })
def lcFenced : State := lcOf (fun l => { l with fenced := true })
def lcWiping : State := lcOf (fun l => { l with wipe := some ⟨.retired, false, 0⟩ })

/-- The hypotheses of ModeRequestsWaitForTheEvaluation are met. -/
theorem witness_ModeRequestsWaitForTheEvaluation (h : Obligations.ModeRequestsWaitForTheEvaluation) :
    (∃ t, exec (Instr.modeReqDormant 0 (~~~0)) (mq Mode.watch 0) = .next t) ∧
    (∃ t, exec (Instr.modeReqWatch 0 (~~~1)) (mq Mode.watch 1) = .next t) ∧
    (∃ t, exec (Instr.modeReqStandby 0 (~~~2)) (mq Mode.watch 2) = .next t) ∧
    (∃ t, exec (Instr.modeReqService 0 (~~~3)) (mq Mode.standby 3) = .next t) ∧
    (∃ t, exec (Instr.modeReqInspection 0 (~~~4)) (mq Mode.watch 4) = .next t) ∧
    (∃ t, exec (Instr.modeReqRescue 0 (~~~5)) (mq Mode.watch 5) = .next t) ∧
    (∃ t, exec (Instr.modeReqCommissioning 0 (~~~6)) (mq Mode.watch 6) = .next t) ∧
    (∃ t, exec (Instr.modeReqLockout 0 (~~~7)) (mq Mode.watch 7) = .next t) ∧
    (∃ t, exec (Instr.modeReqStandby 0 (~~~2)) (retired) = .next t) ∧
    (∃ t, exec (Instr.modeReqStandby 0 (~~~2)) (moving) = .next t) :=
  ⟨by refine runs ((h (mq .watch 0) 0 0 .dormant (.modeReqDormant 0 (~~~ 0)) ?_ ?_ (.inl ⟨rfl, rfl⟩)).2 ?_ ?_ ?_ ?_) <;> decide +kernel,
    by refine runs ((h (mq .watch 1) 0 1 .watch (.modeReqWatch 0 (~~~ 1)) ?_ ?_ (.inr (.inl ⟨rfl, rfl⟩))).2 ?_ ?_ ?_ ?_) <;> decide +kernel,
    by refine runs ((h (mq .watch 2) 0 2 .standby (.modeReqStandby 0 (~~~ 2)) ?_ ?_ (.inr (.inr (.inl ⟨rfl, rfl⟩)))).2 ?_ ?_ ?_ ?_) <;> decide +kernel,
    by refine runs ((h (mq .standby 3) 0 3 .service (.modeReqService 0 (~~~ 3)) ?_ ?_ (.inr (.inr (.inr (.inl ⟨rfl, rfl⟩))))).2 ?_ ?_ ?_ ?_) <;> decide +kernel,
    by refine runs ((h (mq .watch 4) 0 4 .inspection (.modeReqInspection 0 (~~~ 4)) ?_ ?_ (.inr (.inr (.inr (.inr (.inl ⟨rfl, rfl⟩)))))).1 8 ?_) <;> decide +kernel,
    by refine runs ((h (mq .watch 5) 0 5 .rescue (.modeReqRescue 0 (~~~ 5)) ?_ ?_ (.inr (.inr (.inr (.inr (.inr (.inl ⟨rfl, rfl⟩))))))).2 ?_ ?_ ?_ ?_) <;> decide +kernel,
    by refine runs ((h (mq .watch 6) 0 6 .commissioning (.modeReqCommissioning 0 (~~~ 6)) ?_ ?_ (.inr (.inr (.inr (.inr (.inr (.inr (.inl ⟨rfl, rfl⟩)))))))).2 ?_ ?_ ?_ ?_) <;> decide +kernel,
    by refine runs ((h (mq .watch 7) 0 7 .lockout (.modeReqLockout 0 (~~~ 7)) ?_ ?_ (.inr (.inr (.inr (.inr (.inr (.inr (.inr ⟨rfl, rfl⟩)))))))).2 ?_ ?_ ?_ ?_) <;> decide +kernel,
    by refine runs ((h retired 0 2 .standby (.modeReqStandby 0 (~~~ 2)) ?_ ?_ (.inr (.inr (.inl ⟨rfl, rfl⟩)))).1 1 ?_) <;> decide +kernel,
    by refine runs ((h moving 0 2 .standby (.modeReqStandby 0 (~~~ 2)) ?_ ?_ (.inr (.inr (.inl ⟨rfl, rfl⟩)))).1 9 ?_) <;> decide +kernel⟩

/-- The hypotheses of TransitionsFollowTheTriggers are met. -/
theorem witness_TransitionsFollowTheTriggers (h : Obligations.TransitionsFollowTheTriggers) :
    (exec (Instr.millisecondInstant) (run .watch) = .next (run .watch)) ∧
    (∃ t, exec (Instr.millisecondInstant) (prov) = .next t) ∧
    (∃ t, exec (Instr.millisecondInstant) (asking) = .next t) ∧
    (∃ t, exec (Instr.millisecondInstant) (noticed) = .next t) ∧
    (∃ t, exec (Instr.modeTransitionDone) (toMode Mode.watch Mode.standby) = .next t) ∧
    (∃ t, exec (Instr.modeTransitionDone) (toMode Mode.watch Mode.dormant) = .next t) ∧
    (∃ t, exec (Instr.modeTransitionDone) (toMode Mode.service Mode.lockout) = .next t) ∧
    (∃ t, exec (Instr.modeTransitionDone) (toMode Mode.standby Mode.service) = .next t) ∧
    (∃ t, exec (Instr.modeTransitionDone) (toMode Mode.dormant Mode.watch) = .next t) ∧
    (∃ t, exec (Instr.standbyIdleExpiry) (idle Mode.standby F.PCM_IDLE.STBY_IDLE) = .next t) ∧
    (∃ t, exec (Instr.serviceIdleExpiry) (idle Mode.service F.PCM_IDLE.SVC_IDLE) = .next t) :=
  ⟨by refine h.1 (run .watch) ?_ <;> decide +kernel,
    by refine runs ((h.2.1 prov .standby ?_ ?_ ?_ ?_ ?_ ?_).1 ?_) <;> decide +kernel,
    by refine runs ((h.2.1 asking .standby ?_ ?_ ?_ ?_ ?_ ?_).2 ?_ ?_ ?_) <;> decide +kernel,
    by refine runs (h.2.2.1 noticed ?_ ?_ ?_ ?_ ?_ ?_ ?_) <;> decide +kernel,
    by refine runs ((h.2.2.2.1 (toMode .watch .standby) .standby ?_ ?_ ?_).2 ?_) <;> decide +kernel,
    by refine runs ((h.2.2.2.1 (toMode .watch .dormant) .dormant ?_ ?_ ?_).1 ?_) <;> decide +kernel,
    by refine runs ((h.2.2.2.1 (toMode .service .lockout) .lockout ?_ ?_ ?_).1 ?_) <;> decide +kernel,
    by refine runs ((h.2.2.2.1 (toMode .standby .service) .service ?_ ?_ ?_).2 ?_) <;> decide +kernel,
    by refine runs ((h.2.2.2.1 (toMode .dormant .watch) .watch ?_ ?_ ?_).1 ?_) <;> decide +kernel,
    by refine runs ((h.2.2.2.2 (idle .standby F.PCM_IDLE.STBY_IDLE) ?_ ?_).1 ?_ ?_ ?_) <;> decide +kernel,
    by refine runs ((h.2.2.2.2 (idle .service F.PCM_IDLE.SVC_IDLE) ?_ ?_).2 ?_ ?_ ?_ ?_) <;> decide +kernel⟩

/-- The hypotheses of WakeSourcesAndNotices are met. -/
theorem witness_WakeSourcesAndNotices (h : Obligations.WakeSourcesAndNotices) :
    (∃ t, exec (Instr.spineWakeDetect 3) (asleep Reg.PCM_WAKE_CFG 4294967295) = .next t) ∧
    (∃ t, exec (Instr.lbEnergyDetect 1) (asleep Reg.PCM_WAKE_CFG 4294967295) = .next t) ∧
    (∃ t, exec (Instr.fieldWakeEdge 3) (asleep Reg.PCM_WAKE_CFG 4294967295) = .next t) ∧
    (∃ t, exec (Instr.fieldWakeEdge 3) (asleep Reg.PCM_WAKE_CFG 0) = .next t) ∧
    (∃ t, exec (Instr.timeAlarm) (alarm) = .next t) ∧
    (∃ t, exec (Instr.timeAlarm) (asleep Reg.PCM_ALARM 0) = .next t) ∧
    (∃ t, exec (Instr.clockStopDetect) (asleep Reg.PCM_ALARM 0) = .next t) ∧
    (∃ t, exec (Instr.spineWakeDetect 2) (run Mode.watch) = .next t) ∧
    (∃ t, exec (Instr.wakeNotice (hd 0) { car := 1, arrS := 0, arrNs := 0 }) (heard Mode.watch) = .next t) ∧
    (∃ t, exec (Instr.wakeNotice (hd 0) { car := 1, arrS := 0, arrNs := 0 }) (heard Mode.service) = .next t) ∧
    (∃ t, exec (Instr.rescue (hd 0) 3) (heard Mode.service) = .next t) :=
  ⟨by refine runs ((h.1 (asleep Reg.PCM_WAKE_CFG 0xFFFFFFFF) (.spineWakeDetect 3) 4 _ ?_ ?_ ?_ (.inl ⟨3, rfl, rfl, rfl⟩)).1 ?_) <;> decide +kernel,
    by refine runs ((h.1 (asleep Reg.PCM_WAKE_CFG 0xFFFFFFFF) (.lbEnergyDetect 1) 6 _ ?_ ?_ ?_ (.inr (.inl ⟨1, rfl, rfl, rfl⟩))).1 ?_) <;> decide +kernel,
    by refine runs ((h.1 (asleep Reg.PCM_WAKE_CFG 0xFFFFFFFF) (.fieldWakeEdge 3) 10 _ ?_ ?_ ?_ (.inr (.inr (.inl ⟨3, rfl, rfl, rfl⟩)))).1 ?_) <;> decide +kernel,
    by refine runs ((h.1 (asleep Reg.PCM_WAKE_CFG 0) (.fieldWakeEdge 3) 10 _ ?_ ?_ ?_ (.inr (.inr (.inl ⟨3, rfl, rfl, rfl⟩)))).2 ?_) <;> decide +kernel,
    by refine runs ((h.1 alarm .timeAlarm 11 _ ?_ ?_ ?_ (.inr (.inr (.inr (.inl ⟨rfl, rfl, rfl⟩))))).1 ?_) <;> decide +kernel,
    by refine runs ((h.1 (asleep Reg.PCM_ALARM 0) .timeAlarm 11 _ ?_ ?_ ?_ (.inr (.inr (.inr (.inl ⟨rfl, rfl, rfl⟩))))).2 ?_) <;> decide +kernel,
    by refine runs ((h.1 (asleep Reg.PCM_ALARM 0) .clockStopDetect 12 _ ?_ ?_ ?_ (.inr (.inr (.inr (.inr ⟨rfl, rfl, rfl⟩))))).1 ?_) <;> decide +kernel,
    by refine runs (h.2.1 (run .watch) 2 ?_) <;> decide +kernel,
    by refine runs (h.2.2.1 (heard .watch) (hd 0) ⟨1, 0, 0⟩ ⟨?_, ?_, ?_, ?_, ?_, ?_, _, rfl, ?_, ?_⟩ ?_) <;> decide +kernel,
    by refine runs (h.2.2.1 (heard .service) (hd 0) ⟨1, 0, 0⟩ ⟨?_, ?_, ?_, ?_, ?_, ?_, _, rfl, ?_, ?_⟩ ?_) <;> decide +kernel,
    by refine runs (h.2.2.2 (heard .service) (hd 0) 3 _ ⟨?_, ?_, ?_, ?_, ?_, ?_, _, rfl, ?_, ?_⟩ (.inl rfl) ?_ ?_) <;> decide +kernel⟩

/-- The hypotheses of ResetsSuppliesAndTheTestPort are met. -/
theorem witness_ResetsSuppliesAndTheTestPort (h : Obligations.ResetsSuppliesAndTheTestPort) :
    (∃ t, exec (Instr.supplyThresholdCross 0 true true) (run Mode.watch) = .next t) ∧
    (∃ t, exec (Instr.supplyThresholdCross 0 false false) (railsBad) = .next t) ∧
    (∃ t, exec (Instr.supplyMonitorReset 1) (railsBad) = .next t) ∧
    (∃ t, exec (Instr.powerOnReset) (run Mode.service) = .next t) ∧
    (∃ t, exec (Instr.nrstReset 1000) (run Mode.service) = .next t) ∧
    (∃ t, exec (Instr.nrstReset 199) (run Mode.service) = .next t) ∧
    (∃ t, exec (Instr.softwareReset 0 (~~~1)) (rq Mode.watch) = .next t) ∧
    (∃ t, exec (Instr.softwareReset 0 (~~~1)) (rq Mode.standby) = .next t) ∧
    (∃ t, exec (Instr.softwareReset 0 (~~~1)) (rq Mode.service) = .next t) ∧
    (∃ t, exec (Instr.clockCrossMonitorFault 3) (run Mode.service) = .next t) ∧
    (∃ t, exec (Instr.idcode) (run Mode.service) = .next t) ∧
    (∃ t, exec (Instr.extest 5 9) (low) = .next t) ∧
    (∃ t, exec (Instr.samplePreload 5 9) (run Mode.watch) = .next t) ∧
    (∃ t, exec (Instr.bypass 3) (run Mode.watch) = .next t) :=
  ⟨by refine runs (h.1 (run .watch) 0 true true ?_ ?_) <;> decide +kernel,
    by refine runs (h.1 railsBad 0 false false ?_ ?_) <;> decide +kernel,
    by refine runs (h.2.1 railsBad 1 4 ?_ ?_) <;> decide +kernel,
    runs ((h.2.2.1 (run .service))),
    by refine runs ((h.2.2.2.1 (run .service) 1000).1 ?_) <;> decide +kernel,
    by refine runs ((h.2.2.2.1 (run .service) 199).2 ?_) <;> decide +kernel,
    by refine runs (h.2.2.2.2.1 (rq .watch) 0 1 ?_ ?_ (.inl rfl)) <;> decide +kernel,
    by refine runs (h.2.2.2.2.1 (rq .standby) 0 1 ?_ ?_ (.inr (.inr ⟨.inl rfl, ?_⟩))) <;> decide +kernel,
    by refine runs (h.2.2.2.2.2.1 (rq .service) 0 1 ?_ ?_ (.inl rfl)) <;> decide +kernel,
    by refine runs (h.2.2.2.2.2.2.1 (run .service) 3 ?_ ?_) <;> decide +kernel,
    runs (((h.2.2.2.2.2.2.2 (run .service) 5 9).1)),
    by refine runs (((h.2.2.2.2.2.2.2 low 5 9).2.1 (.extest 5 9) 0 (.inl ⟨rfl, rfl⟩)).1 ?_) <;> decide +kernel,
    by refine runs (((h.2.2.2.2.2.2.2 (run .watch) 5 9).2.1 (.samplePreload 5 9) 2 (.inr ⟨rfl, rfl⟩)).2 ?_) <;> decide +kernel,
    by refine runs ((h.2.2.2.2.2.2.2 (run .watch) 5 9).2.2 3 ?_ ?_ ?_) <;> decide +kernel⟩

/-- The hypotheses of StartUpEntersItsFirstMode are met. -/
theorem witness_StartUpEntersItsFirstMode (h : Obligations.StartUpEntersItsFirstMode) :
    (∃ t, exec (Instr.resetRelease 0 none none true) (inRst) = .next t) ∧
    (∃ t, exec (Instr.resetRelease 3 none (some 4) true) (inRst) = .next t) ∧
    (∃ t, exec (Instr.resetRelease 1 none none false) (inRst) = .next t) ∧
    (∃ t, exec (Instr.resetRelease 1 none none true) (lcLocked) = .next t) ∧
    (∃ t, exec (Instr.resetRelease 1 none none true) (lcFenced) = .next t) ∧
    (∃ t, exec (Instr.resetRelease 1 none none true) (lcWiping) = .next t) :=
  ⟨by refine runs ((h inRst 0 none none true ?_ ?_).1 ?_ ?_) <;> decide +kernel,
    by refine runs ((h inRst 3 none (some 4) true ?_ ?_).1 ?_ ?_) <;> decide +kernel,
    by refine runs ((h inRst 1 none none false ?_ ?_).1 ?_ ?_) <;> decide +kernel,
    by refine runs ((h lcLocked 1 none none true ?_ ?_).1 ?_ ?_) <;> decide +kernel,
    by refine runs ((h lcFenced 1 none none true ?_ ?_).1 ?_ ?_) <;> decide +kernel,
    by refine runs ((h lcWiping 1 none none true ?_ ?_).2 ?_) <;> decide +kernel⟩


end C03

/-! ### 04 -/

namespace C04

/-- In mode `m`, the key input 0 read active by both paths. -/
def keyed (m : Mode) : State := { run m with
  saf := { Saf.init with taps := [(0, { Tap.init with last := some 0, inputs := 1 }), (64, { Tap.init with last := some 0, inputs := 1 })] } }
/-- A safety-set bank image with an empty payload, its check word. -/
def imgX : List Byte := bankImage 0x53 3 []
def wordX : Word := bankCheck imgX
def xferX : SpsXfer := ⟨imgX, true, none, none, none⟩
/-- An image presented, its confirmation of `v` armed. -/
def offered (v : Word) (tries : Nat) : State :=
  armGuard Reg.SAF_SPS_CONFIRM v { ((keyed .commissioning).put F.SAF_SPS_STAT.STATE 2).put F.SAF_SPS_STAT.TRIES tries with
    saf := { (keyed .commissioning).saf with xfer := some xferX } }
def xferH : SpsXfer := { xferX with confirmAt := some 5, cfFrom := some 6 }
def held (t : Nat) : State := { keyed .commissioning with saf := { (keyed .commissioning).saf with xfer := some xferH }, tb := { TimeBase.init with tick := t } }
def xferT : SpsXfer := { xferX with confirmAt := some 5 }
def timedOut : State := { held 7500000005 with saf := { (keyed .commissioning).saf with xfer := some xferT } }
def committing : State := { keyed .commissioning with conf := { Conf.init with commit := some (.sps imgX true) } }
def opsReq (m : Mode) : State := armGuard Reg.CFG_OPS_COMMIT 0 (run m)
/-- An operational-set bank image of generation 1 with an empty payload; one that the SRAM holds. -/
def oimg : List Byte := bankImage 0x4F 1 []
def opsHas : State := { opsReq .watch with sram := putBytes [] 0 oimg }
def ocommit : State := { run .service with conf := { Conf.init with commit := some (.ops oimg true) } }
def lcReq (m : Mode) (s : LifeCycle) (v : Word) : State :=
  armGuard Reg.CFG_LC_CMD v { run m with nv := { NonVol.init with lc := { LcRecord.init with state := s } } }
def wiping (img : Bool) : State := { run .commissioning with
  conf := { Conf.init with wiping := true }
  nv := { NonVol.init with mram := [(5, 1), (0x2000, 1), (0xFFFFFF, 2), (0x1000000, 3)], lc := { LcRecord.init with wipe := some ⟨.commissioned, img, 0⟩ } } }
def loading : State := { keyed .watch with conf := { Conf.init with loader := true } }

/-- The hypotheses of SafetySetIsConfirmedBeforeItGoverns are met. -/
theorem witness_SafetySetIsConfirmedBeforeItGoverns (h : Obligations.SafetySetIsConfirmedBeforeItGoverns) :
    (∃ t, exec (Instr.spsImageTransfer none 16 16 []) (keyed Mode.standby) = .next t) ∧
    (∃ t, exec (Instr.spsConfirm 0 (~~~wordX)) (offered wordX 0) = .next t) ∧
    (∃ t, exec (Instr.spsConfirm 4 (~~~wordX)) (offered wordX 0) = .next t) ∧
    (∃ t, exec (Instr.spsConfirm 4 (~~~7)) (offered 7 2) = .next t) ∧
    (∃ t, exec (Instr.spsConfirm 4 (~~~7)) (offered 7 1) = .next t) ∧
    (∃ t, exec (Instr.keyCfRelease) (held (6 + 62500000)) = .next t) ∧
    (∃ t, exec (Instr.keyCfRelease) (held (6 + 625000000)) = .next t) ∧
    (∃ t, exec (Instr.keyCfRelease) (held (5 + 62500000)) = .next t) ∧
    (∃ t, exec (Instr.keyCfRelease) (held (7 + 625000000)) = .next t) ∧
    (∃ t, exec (Instr.spsConfirmTimeout) (timedOut) = .next t) ∧
    (∃ t, exec (Instr.spsCommit true) (committing) = .next t) ∧
    (∃ t, exec (Instr.spsCommit false) (committing) = .next t) :=
  ⟨by refine runs ((h.1 (keyed .standby) 16 16 [] ?_ ?_).2 1 (.inl ⟨?_, rfl⟩)) <;> decide +kernel,
    by refine runs ((h.2.1 (offered wordX 0) 0 wordX xferX ?_ rfl ?_ ?_ ?_).1 ?_) <;> decide +kernel,
    by refine runs ((h.2.1 (offered wordX 0) 4 wordX xferX ?_ rfl ?_ ?_ ?_).2.1 ?_ ?_) <;> decide +kernel,
    by refine runs (((h.2.1 (offered 7 2) 4 7 xferX ?_ rfl ?_ ?_ ?_).2.2 ?_ ?_).1 ?_) <;> decide +kernel,
    by refine runs (((h.2.1 (offered 7 1) 4 7 xferX ?_ rfl ?_ ?_ ?_).2.2 ?_ ?_).2 ?_) <;> decide +kernel,
    by refine runs ((h.2.2.1 (held (6 + 62500000)) xferH 5 6 ?_ ?_ rfl ?_ ?_ ?_ ?_).1 ?_ ?_ ?_) <;> decide +kernel,
    by refine runs ((h.2.2.1 (held (6 + 625000000)) xferH 5 6 ?_ ?_ rfl ?_ ?_ ?_ ?_).1 ?_ ?_ ?_) <;> decide +kernel,
    by refine runs ((h.2.2.1 (held (5 + 62500000)) xferH 5 6 ?_ ?_ rfl ?_ ?_ ?_ ?_).2 ?_) <;> decide +kernel,
    by refine runs ((h.2.2.1 (held (7 + 625000000)) xferH 5 6 ?_ ?_ rfl ?_ ?_ ?_ ?_).2 ?_) <;> decide +kernel,
    by refine runs (h.2.2.2.1 timedOut xferT 5 ?_ rfl ?_ ?_ ?_) <;> decide +kernel,
    by refine runs (h.2.2.2.2 committing imgX true ?_ rfl ?_).1 <;> decide +kernel,
    by refine runs (h.2.2.2.2 committing imgX true ?_ rfl ?_).2 <;> decide +kernel⟩

/-- The transfer in Commissioning, whichever set the payload stands for (a free value): the clauses cover it. -/
theorem witness_SafetySetIsConfirmedBeforeItGoverns_transfer (h : Obligations.SafetySetIsConfirmedBeforeItGoverns) :
    (∃ t, exec (Instr.spsImageTransfer none 17 1 []) (keyed Mode.commissioning) = .next t) ∧
    (∃ t, exec (Instr.spsImageTransfer none 16 1 []) (keyed Mode.commissioning) = .next t) := by
  refine ⟨by refine runs ((h.1 (keyed .commissioning) 17 1 [] ?_ ?_).2 2 (.inr ⟨?_, ?_, .inl ⟨?_, rfl⟩⟩)) <;> decide +kernel, ?_⟩
  have k := h.1 (keyed .commissioning) 16 1 [] (by decide +kernel) (by decide +kernel)
  have on : keyOn (keyed .commissioning) = true := by decide +kernel
  cases e : Config.spsContentOf [] with
  | none => exact runs (k.2 2 (.inr ⟨rfl, on, .inr (.inr (.inl ⟨e, rfl⟩))⟩))
  | some c =>
    cases f : spsFault (keyed .commissioning) false c with
    | none => exact runs (k.1 c rfl on rfl (by decide) e f)
    | some r => exact runs (k.2 r (.inr ⟨rfl, on, .inr (.inr (.inr ⟨rfl, by decide, c, e, f⟩))⟩))

/-- The hypotheses of OperationalSetsAndLifeCycle are met. -/
theorem witness_OperationalSetsAndLifeCycle (h : Obligations.OperationalSetsAndLifeCycle) :
    (∃ t, exec (Instr.cfgOpsCommit 0 (~~~0)) (opsReq Mode.service) = .next t) ∧
    (∃ t, exec (Instr.cfgOpsCommit 0 (~~~0)) (opsReq Mode.watch) = .next t) ∧
    (∃ t, exec (Instr.opsCommitDone true) (ocommit) = .next t) ∧
    (∃ t, exec (Instr.opsCommitDone false) (ocommit) = .next t) ∧
    (∃ t, exec (Instr.cfgLcCmd 0 (~~~7)) (lcReq Mode.commissioning LifeCycle.provisioned 7) = .next t) ∧
    (∃ t, exec (Instr.cfgLcCmd 0 (~~~2)) (lcReq Mode.commissioning LifeCycle.provisioned 2) = .next t) ∧
    (∃ t, exec (Instr.cfgLcCmd 0 (~~~2)) (lcReq Mode.standby LifeCycle.provisioned 2) = .next t) ∧
    (∃ t, exec (Instr.cfgLcCmd 0 (~~~2)) (lcReq Mode.commissioning LifeCycle.retired 2) = .next t) ∧
    (∃ t, exec (Instr.lifeCycleWipeDone) (wiping false) = .next t) ∧
    (∃ t, exec (Instr.lifeCycleWipeDone) (wiping true) = .next t) ∧
    (∃ t, exec (Instr.loaderImageReceive false [1, 2, 3]) (loading) = .next t) ∧
    (∃ t, exec (Instr.loaderLifeCycleChange false 9 [1, 2, 3]) (loading) = .next t) ∧
    (∃ t, exec (Instr.loaderLifeCycleChange true 9 [1, 2, 3]) (loading) = .next t) :=
  ⟨by refine runs ((h.1 (opsReq .service) 0 0 ?_).2 (.inl ?_)) <;> decide +kernel,
    by refine runs ((h.1 (opsReq .watch) 0 0 ?_).2 (.inr (.inr ?_))) <;> decide +kernel,
    by refine runs (h.2.1 ocommit oimg true ?_ rfl ?_).1 <;> decide +kernel,
    by refine runs (h.2.1 ocommit oimg true ?_ rfl ?_).2 <;> decide +kernel,
    by refine runs ((h.2.2.1 (lcReq .commissioning .provisioned 7) 0 7 .retired ?_ ?_).1 ?_ ?_ ?_) <;> decide +kernel,
    by refine runs ((h.2.2.1 (lcReq .commissioning .provisioned 2) 0 2 .commissioned ?_ ?_).1 ?_ ?_ ?_) <;> decide +kernel,
    by refine runs ((h.2.2.1 (lcReq .standby .provisioned 2) 0 2 .commissioned ?_ ?_).2 ?_) <;> decide +kernel,
    by refine runs ((h.2.2.1 (lcReq .commissioning .retired 2) 0 2 .commissioned ?_ ?_).2 ?_) <;> decide +kernel,
    by refine runs (h.2.2.2.1 (wiping false) ⟨.commissioned, false, 0⟩ rfl ?_) <;> decide +kernel,
    by refine runs (h.2.2.2.1 (wiping true) ⟨.commissioned, true, 0⟩ rfl ?_) <;> decide +kernel,
    by refine runs (h.2.2.2.2.1 loading false [1, 2, 3] ?_ ?_) <;> decide +kernel,
    by refine runs (h.2.2.2.2.2 loading false 9 [1, 2, 3] ?_ ?_ ?_) <;> decide +kernel,
    by refine runs (h.2.2.2.2.2 loading true 9 [1, 2, 3] ?_ ?_ ?_) <;> decide +kernel⟩

/-- A commit of the image that the SRAM holds, whichever set it stands for (a free value). -/
theorem witness_OperationalSetsAndLifeCycle_commit (h : Obligations.OperationalSetsAndLifeCycle) :
    ∃ t, exec (Instr.cfgOpsCommit 0 (~~~0)) opsHas = .next t := by
  have k := (h.1 opsHas 0 0 (by decide +kernel)).1 (.inl rfl) (by decide +kernel) oimg (by decide +kernel)
  cases e : opsImageOk opsHas oimg
  · exact runs (k.2 e)
  · exact runs (k.1 e)

end C04

/-! ### 07 -/

namespace C07

/-- A header from device 2.5 at epoch 1 on port 0, to this device. -/
def hd : Hdr := ⟨0, 0x205, 0, 1, 0, false, 7, 0x20⟩
/-- A section of two segments in mode `m`, port 0 up, device 2.5 below it heard at epoch 1 for long enough. -/
def sec (m : Mode) (cars : List (Nat × CarRec)) : State :=
  let s := run m
  { s with
    bus := { Bus.init with regs := [(Reg.FAB_SP_STAT 0, 0xC0000000)] }
    tb := { TimeBase.init with tick := 137500000, k := 40 }
    conf := { Conf.init with role := some .sect, geom := ⟨0, 64000, [⟨1024000, 3⟩, ⟨1024000, 5⟩], some ⟨0x205, 2, [1024000]⟩, none⟩ }
    cars := cars
    fab := { Fab.init with epochs := [(0x205, ⟨1, 0⟩)] } }
def car1 : CarRec := { CarRec.init with held := true, id := 9, ownerId := 0x205, posValid := true, formed := true, pos := 900000, arrLen := 400000 }
def carOwn : CarRec := { car1 with owner := true, ownerId := 0 }
def carEx : CarRec := { car1 with excl := [(0x205, 1), (4, 4)] }
/-- A running hand-over with device 2.5. -/
def hoOf (k : HoKind) (st : HoStage) : HandOver := ⟨k, st, 0x205, 39, 26, 27, 0, 0, 10, [(30, 1)], false, false⟩
def carHo (k : HoKind) (st : HoStage) : CarRec := { carOwn with ho := some (hoOf k st) }
/-- Slot 26 in control of car record 2, slot 27 its partner; `regs` beside. -/
def slotted (s : State) : State := { s with
  bus := { s.bus with regs := (Reg.TAC_SLOT_BIND 26, 0xA0000002) :: (Reg.TAC_SLOT_BIND 27, 0xA0000002) :: s.bus.regs }
  tide := { Tide.init with slots := [(26, { SlotSt.init with inControl := true })] } }
def sync (s : State) : State := { s with bus := { s.bus with regs := s.bus.regs ++ [(Reg.TIM_STAT, 0x80000000)] } }
def mv0 : MoveRec := ⟨0, 0, 0, 0, false, 0, 0, 0, 0, 0, 0, 0, 0, 0, 0, 0, 0, 0⟩
def sLate : State := { sec .service [(2, carHo .ownerIn .comparing)] with tide := { Tide.init with stage := .phaseA } }
def gone : State := { sec .service [(2, carHo .ownerOut .comparing)] with tb := { TimeBase.init with tick := 137500000, k := 1000 } }
def later : State := { sec .service [(2, carHo .ownerOut .comparing)] with tb := { TimeBase.init with k := 1000 } }
def ctl (a : Nat) (v : Word) (s : State) : State := armGuard a v s
def moving : State := { slotted (sec .service []) with trj := { Trj.init with axes := [(2, { Axis.init with st := .running })] } }
def slottedCh (s : State) : State := { s with
  bus := { s.bus with regs := (Reg.TAC_SLOT_BIND 26, 0xC0000005) :: (Reg.TAC_SLOT_BIND 27, 0xC0000005) :: s.bus.regs }
  tide := { Tide.init with slots := [(26, { SlotSt.init with inControl := true })] } }
/-- A car-mode hand-over of record 2 comparing since period 39, its outputs `a` (slot 26) and `b` (slot 27), DU_MAX 5. -/
def cmp (a b : Word) (fails : Nat) : State :=
  let s := sec .service [(2, { carOwn with ho := some { hoOf .carMode .comparing with fails := fails } })]
  { (s.put F.TAC_HO_CFG_CAR.DU_MAX 5).put F.TAC_HO_CFG_CAR.N_HO 3 with tide := { Tide.init with outs := [(26 * 8, a), (27 * 8, b)] } }
def hoF (fails : Nat) : HandOver := { hoOf .carMode .comparing with fails := fails }
/-- Phase A over, car record 2 owned and over both segments. -/
def splitting : State :=
  let s := sec .service [(2, { carOwn with pos := 1200000, arrLen := 400000 })]
  { s with tide := { Tide.init with stage := .phaseA, slots := [(26, { SlotSt.init with inControl := true, run := .done })], outs := [(26 * 8, 45966)] }
           bus := { s.bus with regs := (Reg.TAC_SLOT_BIND 26, 0xA0000002) :: (Reg.TAC_SEG_FMAX, 20000) :: s.bus.regs } }
def segX : SegX := ⟨none, 0, 3, 0, 1024000⟩
def nbCar : CarRec := { car1 with pos := 100000 }
def shin (m : Nat) (r : List (Nat × Int)) : ShareIn := { ShareIn.none 0x205 9 with recv := r, last := 77, misses := m }
/-- The neighbour's car on the first segment, its share entry `y`. -/
def shared (y : ShareIn) : State :=
  let s := (sec .service [(2, nbCar)]).setReg (Reg.SAF_STO_MAP 0) 0
  { s with chans := [(3, { ChanView.init with shareIn := some y })] }
def missing : State := { shared { shin 1 [] with missAt := some 40 } with tide := { Tide.init with stage := .phaseB } }
/-- The hand-over of a car that came from device 2.5 has ended. -/
def ended : State := sec .service [(2, { carOwn with cameFrom := some 0x205 })]
def late : State := { run .watch with tb := { TimeBase.init with ns := 125000, next := 2 } }
def turning : State := { run .watch with pw := { (run .watch).pw with trans := some .standby, ready := true } }
def timed : State := { run .watch with tb := { TimeBase.init with ns := 125000, k := 0 } }
def frz : State := { timed with bus := { Bus.init with frozen := 32, pend := [(Reg.FIO_GRP_CFG 0, 7)] } }
def slow : State :=
  let s := run .service
  { s with bus := { Bus.init with regs := [(Reg.FBK_CH_CFG 130, 0x80000000), (Reg.FBK_CH_STAT 130, 0), (Reg.FBK_CH_VEL 130, 900)] }
           tb := { TimeBase.init with sec := 100 }, fbk := { Fbk.init with chans := [(130, { FbCh.init with live := true, edge := true })] } }

/-- The hypotheses of NeighbourFramesAreKept are met. -/
theorem witness_NeighbourFramesAreKept (h : Obligations.NeighbourFramesAreKept) :
    (∃ t, exec (Instr.share hd { car := 9, stamp := 41, entries := [{ seg := 0, share := -5 }, { seg := 1, share := 7 }] }) (sec Mode.service [(2, car1)]) = .next t) ∧
    (∃ t, exec (Instr.share hd { car := 9, stamp := 41, entries := [{ seg := 0, share := -5 }] }) (sec Mode.service []) = .next t) ∧
    (∃ t, exec (Instr.share hd { car := 9, stamp := 41, entries := [{ seg := 0, share := -5 }] }) (sec Mode.service [(2, carOwn)]) = .next t) ∧
    (∃ t, exec (Instr.hoOut hd { car := 9, period := 41, u := -2 ^ 31 }) (sec Mode.service [(2, carHo HoKind.ownerIn HoStage.comparing)]) = .next t) ∧
    (∃ t, exec (Instr.hoOut hd { car := 9, period := 39, u := 5 }) sLate = .next t) ∧
    (∃ t, exec (Instr.segstat hd { car := 9, period := 41, segs := [(0, 2), (3, 1)] }) (sec Mode.service [(2, carEx)]) = .next t) :=
  ⟨by refine runs ((h (sec .service [(2, car1)]) hd ⟨?_, ?_, ?_, ?_, ?_, ?_, _, rfl, ?_, ?_⟩).1 ⟨9, 41, [⟨0, -5⟩, ⟨1, 7⟩]⟩ (.inr ⟨2, ?_, ?_, rfl⟩)) <;> decide +kernel,
    by refine runs ((h (sec .service []) hd ⟨?_, ?_, ?_, ?_, ?_, ?_, _, rfl, ?_, ?_⟩).1 ⟨9, 41, [⟨0, -5⟩]⟩ (.inl ?_)) <;> decide +kernel,
    by refine runs ((h (sec .service [(2, carOwn)]) hd ⟨?_, ?_, ?_, ?_, ?_, ?_, _, rfl, ?_, ?_⟩).2.1 ⟨9, 41, [⟨0, -5⟩]⟩ 2 ?_ ?_ rfl) <;> decide +kernel,
    by refine runs ((h (sec .service [(2, carHo .ownerIn .comparing)]) hd ⟨?_, ?_, ?_, ?_, ?_, ?_, _, rfl, ?_, ?_⟩).2.2.1 ⟨9, 41, -2 ^ 31⟩ 2 (hoOf .ownerIn .comparing) ?_ rfl ?_ ?_) <;> decide +kernel,
    by refine runs ((h sLate hd ⟨?_, ?_, ?_, ?_, ?_, ?_, _, rfl, ?_, ?_⟩).2.2.2.1 ⟨9, 39, 5⟩ ?_ ?_) <;> decide +kernel,
    by refine runs ((h (sec .service [(2, carEx)]) hd ⟨?_, ?_, ?_, ?_, ?_, ?_, _, rfl, ?_, ?_⟩).2.2.2.2 ⟨9, 41, [(0, 2), (3, 1)]⟩ 2 ?_) <;> decide +kernel⟩

/-- The hypotheses of OwnerHandOverRuns are met. -/
theorem witness_OwnerHandOverRuns (h : Obligations.OwnerHandOverRuns) :
    (∃ t, exec (Instr.offer hd { car := 9, mass := 4000, arrOfs := -5, arrLen := 400000, ctx := [1, 2, 3], move := mv0 }) (sync (slotted (sec Mode.service []))) = .next t) ∧
    (∃ t, exec (Instr.claim hd { car := 9, period := 41, entries := [] }) (sec Mode.service [(2, carHo HoKind.ownerOut HoStage.comparing)]) = .next t) ∧
    (∃ t, exec (Instr.claim hd { car := 9, period := 999, entries := [] }) gone = .next t) ∧
    (∃ t, exec (Instr.hoFail hd { car := 9, period := 41 }) (sec Mode.service [(2, carHo HoKind.ownerIn HoStage.blending)]) = .next t) ∧
    (∃ t, exec (Instr.hoFail hd { car := 9, period := 41 }) (sec Mode.service [(2, carHo HoKind.ownerIn HoStage.comparing)]) = .next t) ∧
    (∃ t, exec (Instr.claimTimeout 2) (later) = .next t) ∧
    (∃ t, exec (Instr.hoFail hd { car := 9, period := 41 }) ended = .next t) :=
  ⟨by refine runs ((h.1 (sync (slotted (sec .service []))) hd ⟨?_, ?_, ?_, ?_, ?_, ?_, _, rfl, ?_, ?_⟩).1 ⟨9, 4000, -5, 400000, [1, 2, 3], mv0⟩ 2 26 ?_ ?_ ?_ ?_ ?_ ?_ ?_ ?_ ?_ ?_ ?_) <;> decide +kernel,
    by refine runs (((h.1 (sec .service [(2, carHo .ownerOut .comparing)]) hd ⟨?_, ?_, ?_, ?_, ?_, ?_, _, rfl, ?_, ?_⟩).2.1 ⟨9, 41, []⟩ 2 (hoOf .ownerOut .comparing) ?_ rfl ?_ ?_ ?_).1 ?_) <;> decide +kernel,
    by refine runs (((h.1 gone hd ⟨?_, ?_, ?_, ?_, ?_, ?_, _, rfl, ?_, ?_⟩).2.1 ⟨9, 999, []⟩ 2 (hoOf .ownerOut .comparing) ?_ rfl ?_ ?_ ?_).2 ?_) <;> decide +kernel,
    by refine runs (((h.1 (sec .service [(2, carHo .ownerIn .blending)]) hd ⟨?_, ?_, ?_, ?_, ?_, ?_, _, rfl, ?_, ?_⟩).2.2.1 ⟨9, 41⟩ 2 (hoOf .ownerIn .blending) ?_ rfl ?_ ?_).1 ?_) <;> decide +kernel,
    by refine runs (((h.1 (sec .service [(2, carHo .ownerIn .comparing)]) hd ⟨?_, ?_, ?_, ?_, ?_, ?_, _, rfl, ?_, ?_⟩).2.2.1 ⟨9, 41⟩ 2 (hoOf .ownerIn .comparing) ?_ rfl ?_ ?_).2 ?_) <;> decide +kernel,
    by refine runs (h.2 later 2 (hoOf .ownerOut .comparing) rfl ?_ ?_ ?_) <;> decide +kernel,
    by refine runs ((h.1 ended hd ⟨?_, ?_, ?_, ?_, ?_, ?_, _, rfl, ?_, ?_⟩).2.2.2 ⟨9, 41⟩ 2 ?_ ?_ ?_ ?_) <;> decide +kernel⟩

/-- The hypotheses of SchedulingCommands are met. -/
theorem witness_SchedulingCommands (h : Obligations.SchedulingCommands) :
    (∃ t, exec (Instr.tacFaultClr 0 (~~~26)) (ctl Reg.TAC_FAULT_CLR 26 (slotted (sec Mode.service []))) = .next t) ∧
    (∃ t, exec (Instr.tacFaultClr 0 (~~~191)) (ctl Reg.TAC_FAULT_CLR 191 (slotted (sec Mode.service []))) = .next t) ∧
    (∃ t, exec (Instr.tacFaultClr 0 (~~~192)) (ctl Reg.TAC_FAULT_CLR 192 (slotted (sec Mode.service []))) = .next t) ∧
    (∃ t, exec (Instr.tacFaultClr 0 (~~~26)) (ctl Reg.TAC_FAULT_CLR 26 moving) = .next t) ∧
    (∃ t, exec (Instr.controlModeHandover 0 (~~~283)) (ctl Reg.TAC_HO_CMD 283 (slotted (sec Mode.service []))) = .next t) ∧
    (∃ t, exec (Instr.controlModeHandover 0 (~~~283)) (ctl Reg.TAC_HO_CMD 283 (slottedCh (sec Mode.service []))) = .next t) ∧
    (∃ t, exec (Instr.controlModeHandover 0 (~~~282)) (ctl Reg.TAC_HO_CMD 282 (slotted (sec Mode.service []))) = .next t) ∧
    (∃ t, exec (Instr.permitOwnerHandover 0 (~~~538)) (ctl Reg.TAC_HO_CMD 538 (slotted (sec Mode.service []))) = .next t) ∧
    (∃ t, exec (Instr.permitOwnerHandover 0 (~~~538)) (ctl Reg.TAC_HO_CMD 538 moving) = .next t) :=
  ⟨by refine runs ((h.1 (ctl Reg.TAC_FAULT_CLR 26 (slotted (sec .service []))) 0 26 26 ?_ ?_).1 ?_ ?_ ?_) <;> decide +kernel,
    by refine runs ((h.1 (ctl Reg.TAC_FAULT_CLR 191 (slotted (sec .service []))) 0 191 191 ?_ ?_).1 ?_ ?_ ?_) <;> decide +kernel,
    by refine runs ((h.1 (ctl Reg.TAC_FAULT_CLR 192 (slotted (sec .service []))) 0 192 192 ?_ ?_).2 ?_) <;> decide +kernel,
    by refine runs ((h.1 (ctl Reg.TAC_FAULT_CLR 26 moving) 0 26 26 ?_ ?_).2 ?_) <;> decide +kernel,
    by refine runs (((h.2 (ctl Reg.TAC_HO_CMD 0x11B (slotted (sec .service []))) 0 0x11B 27 2 ?_ ?_ ?_).1 ?_).1 26 ?_ ?_ ?_ ?_ ?_ ?_ ?_) <;> decide +kernel,
    by refine runs (((h.2 (ctl Reg.TAC_HO_CMD 0x11B (slottedCh (sec .service []))) 0 0x11B 27 5 ?_ ?_ ?_).1 ?_).2.1 26 ?_ ?_ ?_ ?_ ?_ ?_ ?_) <;> decide +kernel,
    by refine runs (((h.2 (ctl Reg.TAC_HO_CMD 0x11A (slotted (sec .service []))) 0 0x11A 26 2 ?_ ?_ ?_).1 ?_).2.2 ?_) <;> decide +kernel,
    by refine runs (((h.2 (ctl Reg.TAC_HO_CMD 0x21A (slotted (sec .service []))) 0 0x21A 26 2 ?_ ?_ ?_).2 ?_).1 ?_ ?_ ?_ ?_) <;> decide +kernel,
    by refine runs (((h.2 (ctl Reg.TAC_HO_CMD 0x21A moving) 0 0x21A 26 2 ?_ ?_ ?_).2 ?_).2 ?_) <;> decide +kernel⟩

/-- The hypotheses of ForceIsShared are met. -/
theorem witness_ForceIsShared (h : Obligations.ForceIsShared) :
    (∃ t, exec (Instr.forceSplit) (splitting) = .next t) ∧ (∃ t, exec (Instr.shareMissed 0) missing = .next t) :=
  ⟨by refine runs (h.2.2.1 splitting 2 ?_ ?_ ?_ ?_ ?_ ?_ ?_ ?_ ?_) <;> decide +kernel,
    by refine runs (h.2.2.2.2 missing segX _ ?_ ?_ rfl ?_ ?_) <;> decide +kernel⟩

/-- A share that is in, a first miss and a second one. -/
theorem witness_ForceIsShared_due (h : Obligations.ForceIsShared) :
    ((splitDue segX (shared (shin 0 [(41, -5)]))).chan 3).share = -5 ∧ ((splitDue segX (shared (shin 0 []))).chan 3).share = 77 ∧
    ((splitDue segX (shared (shin 1 []))).chan 3).share = 0 :=
  ⟨by refine ((h.2.2.2.1 (shared (shin 0 [(41, -5)])) segX 2 ?_ ?_ ?_).1 (-5) ?_ _ rfl).1 <;> decide +kernel,
    by refine ((h.2.2.2.1 (shared (shin 0 [])) segX 2 ?_ ?_ ?_).2 (shin 0 []) ?_ rfl _ rfl).1 <;> decide +kernel,
    by refine ((h.2.2.2.1 (shared (shin 1 [])) segX 2 ?_ ?_ ?_).2 (shin 1 []) ?_ rfl _ rfl).1 <;> decide +kernel⟩

/-- The hypotheses of PeriodAdvances are met. -/
theorem witness_PeriodAdvances (h : Obligations.PeriodAdvances) :
    exec (Instr.servoPeriodBoundary) late = .next late ∧
    (∃ t, exec (Instr.servoPeriodBoundary) (timed) = .next t) ∧
    (∃ t, exec (Instr.servoPeriodBoundary) (frz) = .next t) ∧
    (transBoundary turning).mode = .standby ∧
    (∃ t, exec (Instr.computeWindowOpen) (sec Mode.service []) = .next t) ∧
    (∃ t, exec (Instr.speedTZeroExpiry 130) (slow) = .next t) :=
  ⟨h.1 late (by decide +kernel),
    by refine runs ((h.2.1 timed 1 ?_ ?_ ?_ ?_ ?_ ?_).1 ?_) <;> decide +kernel,
    by refine runs ((h.2.1 frz 1 ?_ ?_ ?_ ?_ ?_ ?_).2 ?_ ?_) <;> decide +kernel,
    by refine (h.2.2.1 turning .standby ?_ ?_ ?_ _ rfl).1 <;> decide +kernel,
    by refine runs (h.2.2.2.1 (sec .service []) ?_) <;> decide +kernel,
    by refine runs (h.2.2.2.2 slow 130 ?_ ?_ ?_ ?_ ?_ ?_ ?_ ?_ ?_) <;> decide +kernel⟩

/-- The hypotheses of ComparisonDecidesTheHandOver are met: outputs within DU_MAX, and the second and third failures outside it. -/
theorem witness_ComparisonDecidesTheHandOver (h : Obligations.ComparisonDecidesTheHandOver) :
    ((modeHoSplit 2 (cmp 100 95 0)).car 2).preload = some ⟨27, 41, 5⟩ ∧
    ((modeHoSplit 2 (cmp 100 94 1)).car 2).ho = some { hoF 1 with fails := 2 } ∧
    ((modeHoSplit 2 (cmp 100 94 2)).car 2).ho = none ∧ blendOut 5 3 7 7 = 5 ∧ 3 ≤ blendOut 5 3 2 7 :=
  ⟨by refine ((h.1 (cmp 100 95 0) 2 (hoF 0) 95 100 rfl ?_ ?_ ?_ ?_ ?_).1 ?_ _ rfl).2.1 <;> decide +kernel,
    by refine (((h.1 (cmp 100 94 1) 2 (hoF 1) 94 100 rfl ?_ ?_ ?_ ?_ ?_).2 ?_ _ rfl).1 ?_).1 <;> decide +kernel,
    by refine (((h.1 (cmp 100 94 2) 2 (hoF 2) 94 100 rfl ?_ ?_ ?_ ?_ ?_).2 ?_ _ rfl).2 ?_).1 <;> decide +kernel,
    h.2.1 5 3 7, (h.2.2 5 3 2 7 (by decide +kernel) (by decide +kernel)).1⟩

/-- The arithmetic clauses of ForceIsShared on chapter 07's example: 45,966 N over 576, 1,152 and 576 mm, limited to 20,000 N. -/
theorem witness_ForceIsShared_sum (h : Obligations.ForceIsShared) :
    (rawShares 45966 [576000, 1152000, 576000]).sum = 45966 ∧ -20000 ≤ (20000 : Int) :=
  ⟨(h.1 45966 [576000, 1152000, 576000] (by decide +kernel)).1, (h.2.1 20000 [11491, 22984, 11491] 20000 (by decide +kernel) (by decide +kernel)).1⟩

end C07

/-! ### 08 -/

namespace C08

/-- In mode `m` with axis 2 enabled and a span in rows 10 and 11: 1,000 um in 1 s. -/
def trj (m : Mode) (a : Axis) : State := { run m with
  bus := { Bus.init with regs := [(Reg.TRJ_AXIS_CFG 2, 0xFFFE0000), (Reg.TRJ_AXIS_VRATED 2, 100000), (Reg.TRJ_SPAN, 0x0002000A)] }
  conf := { Conf.init with role := some .sect }
  trj := { Trj.init with axes := [(2, a)], tst := [(44, 1000000), (45, 1000), (47, 0x80000000)] } }
def busy : State := { trj .commissioning Axis.init with trj := { Trj.init with chk := some ⟨2, 1, argNow (trj .commissioning Axis.init)⟩ } }
def c0 : State := trj .commissioning Axis.init
def axRun : Axis := { Axis.init with st := .running, mv := some ⟨⟨10, 2, true, 0, 7, false, 0, 0⟩, 0, 1000, 0, 65536, 65536, 65536, 0, 0, 0, 0, 0, 1, false⟩ }
def axStop : Axis := { axRun with st := .stopped, cause := 1 }
def cRun : State := trj .commissioning axRun
def arg1 : MoveArg := ⟨10, 2, false, 0, 5, false, 0, 0⟩
def argBad : MoveArg := { arg1 with count := 1 }
def chkOf (a : Axis) (op : Nat) (g : MoveArg) : State := { trj .commissioning a with trj := { (trj .commissioning a).trj with chk := some ⟨2, op, g⟩ } }
def argH : MoveArg := { arg1 with kind := 1 }
def homing : State :=
  let s := chkOf Axis.init 5 argH
  { s with bus := { s.bus with regs := s.bus.regs ++ [(Reg.TRJ_LAT_CFG 0, 0x00400082), (Reg.FBK_CH_CFG 130, 0x80000000)] } }
/-- Latch unit 0 on feedback channel 130, rising edge, hold-off 1 ms; unit 1 without an edge. -/
def lat (u : LatchU) : State :=
  let s := run .service
  { s with bus := { Bus.init with regs := [(Reg.TRJ_LAT_CFG 0, 0x00408082), (Reg.FBK_CH_CFG 130, 0x80000000)] }
           tb := { TimeBase.init with ns := 2000000 }, trj := { Trj.init with lat := [(0, u)] } }
def capAt (n : Nat) : LatchU := { LatchU.init with lastCap := some n }
def armed5 : LatchU := { LatchU.init with armedAt := some 5 }
def waiting : LatchU := { LatchU.init with waitUntil := some 2000000 }
def homed : State := { cRun with tb := { TimeBase.init with ns := 300005 }, trj := { Trj.init with axes := [(2, { axRun with homing := 1, homeLimit := some 5 })] } }
def spanOver : State := { homed with trj := { Trj.init with axes := [(2, { axRun with homing := 1, homeEnd := some 5 })] } }
/-- Compare unit 3 in MODE 1 on axis 2, at position 5. -/
def cmpr (v : Int) : State :=
  let s := run .service
  { s with bus := { Bus.init with regs := [(Reg.TRJ_CMP_CFG 3, 0x60000002)] }, trj := { Trj.init with axes := [(2, { Axis.init with spPos := 5, spVel := v })] } }

/-- The hypotheses of TrajectoryCommands are met. -/
theorem witness_TrajectoryCommands (h : Obligations.TrajectoryCommands) :
    (∃ t, exec (Instr.trjQueue 0 18) (busy) = .next t) ∧
    (∃ t, exec (Instr.trjQueue 0 18) (c0) = .next t) ∧
    (∃ t, exec (Instr.trjResume 0 50) (c0) = .next t) ∧
    (∃ t, exec (Instr.trjHome 0 82) (c0) = .next t) ∧
    (∃ t, exec (Instr.trjStop 0 34) (cRun) = .next t) ∧
    (∃ t, exec (Instr.trjAbort 0 66) (cRun) = .next t) ∧
    (∃ t, exec (Instr.trjFlush 0 98) (c0) = .next t) ∧
    (∃ t, exec (Instr.trjStop 0 34) (c0) = .next t) ∧
    (∃ t, exec (Instr.spanCheckDone) (chkOf Axis.init 1 argBad) = .next t) ∧
    (∃ t, exec (Instr.spanCheckDone) (chkOf Axis.init 1 arg1) = .next t) ∧
    (∃ t, exec (Instr.spanCheckDone) (chkOf axStop 3 arg1) = .next t) ∧
    (∃ t, exec (Instr.spanCheckDone) (homing) = .next t) ∧
    (∃ t, exec (Instr.tstWrite 0 (822083584 + 16 * 8191 + 4 * 3) 9) (c0) = .next t) ∧
    (∃ t, exec (Instr.tstWrite 0 (822083584 + 16 * 11 + 4 * 0) 9) (cRun) = .next t) :=
  ⟨by refine runs ((h.1 busy 0 0x12 (.trjQueue 0 0x12) 1 2 ?_ ?_ ?_ ?_ (.inl ⟨rfl, rfl⟩)).1 ?_) <;> decide +kernel,
    by refine runs ((h.1 c0 0 0x12 (.trjQueue 0 0x12) 1 2 ?_ ?_ ?_ ?_ (.inl ⟨rfl, rfl⟩)).2.1 ?_ ?_) <;> decide +kernel,
    by refine runs ((h.1 c0 0 0x32 (.trjResume 0 0x32) 3 2 ?_ ?_ ?_ ?_ (.inr (.inr (.inl ⟨rfl, rfl⟩)))).2.1 ?_ ?_) <;> decide +kernel,
    by refine runs ((h.1 c0 0 0x52 (.trjHome 0 0x52) 5 2 ?_ ?_ ?_ ?_ (.inr (.inr (.inr (.inr (.inl ⟨rfl, rfl⟩)))))).2.1 ?_ ?_) <;> decide +kernel,
    by refine runs (((h.1 cRun 0 0x22 (.trjStop 0 0x22) 2 2 ?_ ?_ ?_ ?_ (.inr (.inl ⟨rfl, rfl⟩))).2.2 ?_ ?_).1 ?_) <;> decide +kernel,
    by refine runs (((h.1 cRun 0 0x42 (.trjAbort 0 0x42) 4 2 ?_ ?_ ?_ ?_ (.inr (.inr (.inr (.inl ⟨rfl, rfl⟩))))).2.2 ?_ ?_).1 ?_) <;> decide +kernel,
    by refine runs (((h.1 c0 0 0x62 (.trjFlush 0 0x62) 6 2 ?_ ?_ ?_ ?_ (.inr (.inr (.inr (.inr (.inr ⟨rfl, rfl⟩)))))).2.2 ?_ ?_).1 ?_) <;> decide +kernel,
    by refine runs (((h.1 c0 0 0x22 (.trjStop 0 0x22) 2 2 ?_ ?_ ?_ ?_ (.inr (.inl ⟨rfl, rfl⟩))).2.2 ?_ ?_).2 ?_) <;> decide +kernel,
    by refine runs ((h.2.1 (chkOf Axis.init 1 argBad) ⟨2, 1, argBad⟩ rfl ?_).1 ?_) <;> decide +kernel,
    by refine runs ((h.2.1 (chkOf Axis.init 1 arg1) ⟨2, 1, arg1⟩ rfl ?_).2 ?_) <;> decide +kernel,
    by refine runs ((h.2.1 (chkOf axStop 3 arg1) ⟨2, 3, arg1⟩ rfl ?_).2 ?_) <;> decide +kernel,
    by refine runs ((h.2.1 homing ⟨2, 5, argH⟩ rfl ?_).2 ?_) <;> decide +kernel,
    by refine runs ((h.2.2 c0 0 8191 3 9 ?_ ?_ ?_).1 ?_) <;> decide +kernel,
    by refine runs ((h.2.2 cRun 0 11 0 9 ?_ ?_ ?_).2 ?_) <;> decide +kernel⟩

/-- The hypotheses of LatchesAndCompares are met. -/
theorem witness_LatchesAndCompares (h : Obligations.LatchesAndCompares) :
    (∃ t, exec (Instr.latchArm 0 131075) (lat LatchU.init) = .next t) ∧
    (∃ t, exec (Instr.latchArm 0 3) (lat (capAt 1000000)) = .next t) ∧
    (∃ t, exec (Instr.latchArm 0 1) (lat (capAt 1000001)) = .next t) ∧
    (∃ t, exec (Instr.latchDisarm 0 65536) (lat armed5) = .next t) ∧
    (∃ t, exec (Instr.latchHoldoffExpiry 0) (lat waiting) = .next t) ∧
    (∃ t, exec (Instr.homeDecision 2) (homed) = .next t) ∧
    (∃ t, exec (Instr.homeDecision 2) (spanOver) = .next t) ∧
    (∃ t, exec (Instr.compareArm 0 3 0) (setHold (Reg.TRJ_CMP_POS_LO 3) 0 5 (cmpr 1)) = .next t) ∧
    (∃ t, exec (Instr.compareArm 0 3 0) (setHold (Reg.TRJ_CMP_POS_LO 3) 0 6 (cmpr 1)) = .next t) ∧
    (∃ t, exec (Instr.compareArm 0 3 0) (setHold (Reg.TRJ_CMP_POS_LO 3) 0 4 (cmpr (-1))) = .next t) ∧
    (∃ t, exec (Instr.compareArm 0 4 0) (cmpr (-1)) = .next t) ∧
    (∃ t, exec (Instr.compareDisarm 0 5) ((run Mode.service).setReg Reg.TRJ_CMP_ARMED 7) = .next t) :=
  ⟨by refine runs (h.1 (lat LatchU.init) 0 0x00020003 (.latchArm 0 0x00020003) ?_ ?_ (.inl ⟨rfl, ?_⟩)) <;> decide +kernel,
    by refine runs (h.1 (lat (capAt 1000000)) 0 0x3 (.latchArm 0 0x3) ?_ ?_ (.inl ⟨rfl, ?_⟩)) <;> decide +kernel,
    by refine runs (h.1 (lat (capAt 1000001)) 0 0x1 (.latchArm 0 0x1) ?_ ?_ (.inl ⟨rfl, ?_⟩)) <;> decide +kernel,
    by refine runs (h.1 (lat armed5) 0 0x10000 (.latchDisarm 0 0x10000) ?_ ?_ (.inr ⟨rfl, ?_⟩)) <;> decide +kernel,
    by refine runs (h.2.1 (lat waiting) 0 2000000 rfl ?_) <;> decide +kernel,
    by refine runs (h.2.2.1 homed 2 5 rfl ?_ ?_ ?_ ?_) <;> decide +kernel,
    by refine runs (h.2.2.2.1 spanOver 2 5 ?_ rfl ?_ ?_ ?_) <;> decide +kernel,
    by refine runs (h.2.2.2.2.1 (setHold (Reg.TRJ_CMP_POS_LO 3) 0 5 (cmpr 1)) 0 3 0 5 5 1 ?_ ?_ ?_ ?_) <;> decide +kernel,
    by refine runs (h.2.2.2.2.1 (setHold (Reg.TRJ_CMP_POS_LO 3) 0 6 (cmpr 1)) 0 3 0 6 5 1 ?_ ?_ ?_ ?_) <;> decide +kernel,
    by refine runs (h.2.2.2.2.1 (setHold (Reg.TRJ_CMP_POS_LO 3) 0 4 (cmpr (-1))) 0 3 0 4 5 (-1) ?_ ?_ ?_ ?_) <;> decide +kernel,
    by refine runs (h.2.2.2.2.1 (cmpr (-1)) 0 4 0 0 0 0 ?_ ?_ ?_ ?_) <;> decide +kernel,
    by refine runs (h.2.2.2.2.2 ((run .service).setReg Reg.TRJ_CMP_ARMED 7) 0 5 ?_ ?_) <;> decide +kernel⟩


end C08

/-! ### 10 -/

namespace C10

/-- A register file holding `l`. -/
def rg (l : List (Nat × Word)) : List (Nat × Word) := l.foldl (fun m e => smPut m e.1 e.2) []
/-- A section in Service, link channel 5 (both pairs) and private channels 130 and 138 enabled, serial port 2 on in MODE `md`. -/
def fb (md : Word) (chs : List (Nat × FbCh)) (ps : List (Nat × SerPort)) : State :=
  let s := run .service
  let t := { s with
    bus := { Bus.init with regs := rg [(Reg.SLK_CH_CFG 5, 0x80000000), (Reg.FBK_CH_CFG 5, 0x04000000), (Reg.FBK_CH_CFG 130, 0x800003E8), (Reg.FBK_CH_CFG 138, 0x80000000), (Reg.FBK_PORT_CFG 2, 0x90000000 + md * 0x20000000)] }
    tb := { TimeBase.init with ns := 2000000, tick := 250000 }
    conf := { Conf.init with role := some .sect }
    fbk := { Fbk.init with chans := chs, ports := ps } }
  (t.put (F.FBK_PORT_STAT.STATE 2) 2).put (F.FBK_PORT_STAT.LOSS 2) 65535
def pq : FbPair := { FbPair.init with sigf := true, started := true, viol := 3 }
def chq : FbCh := { FbCh.init with p0 := pq, p1 := pq }
def prs : FbCh := { chq with p1 := { pq with present := true } }
def w1 (n : Word) : Word := 0x10000300 + n
def w2 (n : Word) : Word := 0x20000300 + n
def cha (v : Nat) : FbCh := { FbCh.init with live := true, p0 := { FbPair.init with viol := v, started := true, cnt := 65000 } }
/-- Port 2 in step `n`, trying code 3. -/
def sp (n : Option Nego) (busy : Bool) : SerPort := { SerPort.init with nego := n, code := 3, lsb := 7, busy := busy, began := 1999000 }
def kOk (data delay : Nat) : KspResp := ⟨true, delay, false, false, data, (crc16 42 (data % 2 ^ 40)).toNat, 1999000⟩
def kBad : KspResp := ⟨true, 10, true, false, 5, 0, 1999000⟩
def kGood (m : Word) (n : Nego) : State := fb m [] [(2, sp (some n) false)]
def chs (v : Nat) : FbCh := { FbCh.init with live := true, p0 := { FbPair.init with viol := v, started := true, cnt := -70000 } }
def tr (v : Nat) : State := fb 0 [(138, chs v)] [(2, sp none true)]
/-- SSI, 24 bits Gray, odd parity wanted even. -/
def ssi (v : Nat) : State :=
  let s := (fb 2 [(138, chs v)] [(2, sp none true)]).put (F.FBK_PORT_STAT.STATE 2) 3
  ((s.put (F.FBK_PORT_SSI.NBITS 2) 24).put (F.FBK_PORT_SSI.GRAY 2) 1).put (F.FBK_PORT_SSI.PAR 2) 1
def sBits : List Bool := [true, true] ++ List.replicate 21 false ++ [true]
def sOk : SsiResp := ⟨sBits ++ [true]⟩
def sBad : SsiResp := ⟨sBits ++ [false]⟩
def chf : FbCh := { cha 3 with p0 := { (cha 3).p0 with sigf := true } }

/-- The hypotheses of FeedbackCommandsAndAnalogSamples are met. -/
theorem witness_FeedbackCommandsAndAnalogSamples (h : Obligations.FeedbackCommandsAndAnalogSamples) :
    (∃ t, exec (Instr.fbkArmOnceIndex 0 (w1 6)) (fb 0 [(5, chq)] []) = .next t) ∧
    (∃ t, exec (Instr.fbkClearSignalFault 0 (w2 6)) (fb 0 [(5, chq)] []) = .next t) ∧
    (∃ t, exec (Instr.fbkArmOnceIndex 0 (w1 5)) (fb 0 [(5, chq)] []) = .next t) ∧
    (∃ t, exec (Instr.fbkClearSignalFault 0 (w2 5)) (fb 0 [(5, prs)] []) = .next t) ∧
    (∃ t, exec (Instr.fbkClearSignalFault 0 (w2 5)) (fb 0 [(5, chq)] []) = .next t) ∧
    (∃ t, exec (Instr.fbkClearSignalFault 0 (w2 130)) (fb 0 [(130, chq)] []) = .next t) ∧
    (∃ t, exec (Instr.fbkRenegotiatePort 0 805306506) (fb 0 [] [(2, sp none true)]) = .next t) ∧
    (∃ t, exec (Instr.fbkRenegotiatePort 0 805306506) (fb 2 [] [(2, sp none true)]) = .next t) ∧
    (∃ t, exec (Instr.analogSample 2 1000 0 true) (fb 0 [(130, cha 1)] []) = .next t) ∧
    (∃ t, exec (Instr.analogSample 2 (-100) 50 false) (fb 0 [(130, cha 1)] []) = .next t) ∧
    (∃ t, exec (Instr.analogSample 2 0 0 false) (fb 0 [(130, cha 2)] []) = .next t) ∧
    (∃ t, exec (Instr.analogSample 2 1000 0 true) (fb 0 [(130, chf)] []) = .next t) :=
  ⟨by refine runs ((h.1 (fb 0 [(5, chq)] []) 0 (w1 6) 6 (.fbkArmOnceIndex 0 (w1 6)) ?_ ?_ ?_ (.inl ⟨rfl, ?_⟩)).1 ?_) <;> decide +kernel,
    by refine runs ((h.1 (fb 0 [(5, chq)] []) 0 (w2 6) 6 (.fbkClearSignalFault 0 (w2 6)) ?_ ?_ ?_ (.inr ⟨rfl, ?_⟩)).1 ?_) <;> decide +kernel,
    by refine runs (((h.1 (fb 0 [(5, chq)] []) 0 (w1 5) 5 (.fbkArmOnceIndex 0 (w1 5)) ?_ ?_ ?_ (.inl ⟨rfl, ?_⟩)).2 [0, 1] ?_).1 ?_) <;> decide +kernel,
    by refine runs (((h.1 (fb 0 [(5, prs)] []) 0 (w2 5) 5 (.fbkClearSignalFault 0 (w2 5)) ?_ ?_ ?_ (.inr ⟨rfl, ?_⟩)).2 [0, 1] ?_).2 ?_ |>.1 ?_ ?_ ⟨1, ?_, .inl ?_⟩) <;> decide +kernel,
    by refine runs (((h.1 (fb 0 [(5, chq)] []) 0 (w2 5) 5 (.fbkClearSignalFault 0 (w2 5)) ?_ ?_ ?_ (.inr ⟨rfl, ?_⟩)).2 [0, 1] ?_).2 ?_ |>.2 (.inr (.inr ?_))) <;> decide +kernel,
    by refine runs (((h.1 (fb 0 [(130, chq)] []) 0 (w2 130) 130 (.fbkClearSignalFault 0 (w2 130)) ?_ ?_ ?_ (.inr ⟨rfl, ?_⟩)).2 [0] ?_).2 ?_ |>.2 (.inl ?_)) <;> decide +kernel,
    by refine runs (h.2.1 (fb 0 [] [(2, sp none true)]) 0 (0x3000008A) 2 ?_ ?_ ?_ ?_ ?_ ?_) <;> decide +kernel,
    by refine runs (h.2.1 (fb 2 [] [(2, sp none true)]) 0 (0x3000008A) 2 ?_ ?_ ?_ ?_ ?_ ?_) <;> decide +kernel,
    by refine runs (h.2.2 (fb 0 [(130, cha 1)] []) 2 1000 0 true 130 (cha 1) _ ?_ rfl ?_ ?_ rfl) <;> decide +kernel,
    by refine runs (h.2.2 (fb 0 [(130, cha 1)] []) 2 (-100) 50 false 130 (cha 1) _ ?_ rfl ?_ ?_ rfl) <;> decide +kernel,
    by refine runs (h.2.2 (fb 0 [(130, cha 2)] []) 2 0 0 false 130 (cha 2) _ ?_ rfl ?_ ?_ rfl) <;> decide +kernel,
    by refine runs (h.2.2 (fb 0 [(130, chf)] []) 2 1000 0 true 130 chf _ ?_ rfl ?_ ?_ rfl) <;> decide +kernel⟩

/-- The hypotheses of SerialPortsNegotiateAndTransfer are met. -/
theorem witness_SerialPortsNegotiateAndTransfer (h : Obligations.SerialPortsNegotiateAndTransfer) :
    (∃ t, exec (Instr.kspClockHoldExpiry 2) (kGood 0 (Nego.hold 125000)) = .next t) ∧
    (∃ t, exec (Instr.kspFaultPauseExpiry 2) (kGood 0 (Nego.pause 0)) = .next t) ∧
    (∃ t, exec (Instr.kspTransactionDone 2 (kOk 1073742824 500)) (kGood 0 (Nego.ident 2)) = .next t) ∧
    (∃ t, exec (Instr.kspTransactionDone 2 (kOk 1073742824 501)) (kGood 0 (Nego.ident 2)) = .next t) ∧
    (∃ t, exec (Instr.kspTransactionDone 2 (kOk 2 501)) (kGood 0 Nego.rate) = .next t) ∧
    (∃ t, exec (Instr.kspTransactionDone 2 kBad) (kGood 0 Nego.rate) = .next t) ∧
    (∃ t, exec (Instr.kspTransactionDone 2 kBad) (kGood 0 (Nego.verify 1)) = .next t) ∧
    (∃ t, exec (Instr.kspTransactionDone 2 (kOk 5 5)) (kGood 0 (Nego.verify 1)) = .next t) ∧
    (∃ t, exec (Instr.kspTransactionDone 2 (kOk 5 5)) (kGood 0 (Nego.verify 2)) = .next t) ∧
    (∃ t, exec (Instr.kspTransactionDone 2 (kOk 5 501)) (kGood 0 (Nego.verify 2)) = .next t) ∧
    (∃ t, exec (Instr.kspTransactionDone 2 (kOk 1099511627775 5)) (tr 2) = .next t) ∧
    (∃ t, exec (Instr.kspTransactionDone 2 kBad) (tr 1) = .next t) ∧
    (∃ t, exec (Instr.kspTransactionDone 2 kBad) (tr 2) = .next t) ∧
    (∃ t, exec (Instr.ssiTransferDone 2 sOk) (ssi 1) = .next t) ∧
    (∃ t, exec (Instr.ssiTransferDone 2 sBad) (ssi 2) = .next t) :=
  ⟨by refine runs ((h.1 (kGood 0 (.hold 125000)) 2 125000 ?_).1 ?_ ?_) <;> decide +kernel,
    by refine runs ((h.1 (kGood 0 (.pause 0)) 2 0 ?_).2 ?_ ?_ ?_) <;> decide +kernel,
    by refine runs ((h.2.1 (kGood 0 (.ident 2)) 2 (kOk 0x400003E8 500) (sp (some (.ident 2)) false) ?_ ?_).1 2 ?_ ?_ ?_) <;> decide +kernel,
    by refine runs ((h.2.1 (kGood 0 (.ident 2)) 2 (kOk 0x400003E8 501) (sp (some (.ident 2)) false) ?_ ?_).2.1 2 ?_ ?_ ?_ ?_) <;> decide +kernel,
    by refine runs ((h.2.1 (kGood 0 .rate) 2 (kOk 0x2 501) (sp (some .rate) false) ?_ ?_).2.2.1 ?_ ?_) <;> decide +kernel,
    by refine runs ((h.2.1 (kGood 0 .rate) 2 kBad (sp (some .rate) false) ?_ ?_).2.2.2.1 (.inl ?_) ?_) <;> decide +kernel,
    by refine runs ((h.2.1 (kGood 0 (.verify 1)) 2 kBad (sp (some (.verify 1)) false) ?_ ?_).2.2.2.1 (.inr ⟨1, ?_⟩) ?_) <;> decide +kernel,
    by refine runs (((h.2.1 (kGood 0 (.verify 1)) 2 (kOk 5 5) (sp (some (.verify 1)) false) ?_ ?_).2.2.2.2 1 ?_ ?_).1 ?_ ?_) <;> decide +kernel,
    by refine runs (((h.2.1 (kGood 0 (.verify 2)) 2 (kOk 5 5) (sp (some (.verify 2)) false) ?_ ?_).2.2.2.2 2 ?_ ?_).2.1 ?_ ?_) <;> decide +kernel,
    by refine runs (((h.2.1 (kGood 0 (.verify 2)) 2 (kOk 5 501) (sp (some (.verify 2)) false) ?_ ?_).2.2.2.2 2 ?_ ?_).2.2 ?_ ?_) <;> decide +kernel,
    by refine runs ((h.2.2 (tr 2) 2 (.kspTransactionDone 2 (kOk 0xFFFFFFFFFF 5)) true _ 1999000 138 (chs 2) ?_ rfl ?_ ?_ (.inl ?_) (.inl ⟨kOk 0xFFFFFFFFFF 5, rfl, ?_, ?_, ?_, rfl, rfl⟩)).1 ?_) <;> decide +kernel,
    by refine runs ((h.2.2 (tr 1) 2 (.kspTransactionDone 2 kBad) false _ 1999000 138 (chs 1) ?_ rfl ?_ ?_ (.inl ?_) (.inl ⟨kBad, rfl, ?_, ?_, ?_, rfl, rfl⟩)).2 ?_) <;> decide +kernel,
    by refine runs ((h.2.2 (tr 2) 2 (.kspTransactionDone 2 kBad) false _ 1999000 138 (chs 2) ?_ rfl ?_ ?_ (.inl ?_) (.inl ⟨kBad, rfl, ?_, ?_, ?_, rfl, rfl⟩)).2 ?_) <;> decide +kernel,
    by refine runs ((h.2.2 (ssi 1) 2 (.ssiTransferDone 2 sOk) true _ 1999000 138 (chs 1) ?_ rfl ?_ ?_ (.inl ?_) (.inr ⟨sOk, rfl, ?_, ?_, rfl, rfl⟩)).1 ?_) <;> decide +kernel,
    by refine runs ((h.2.2 (ssi 2) 2 (.ssiTransferDone 2 sBad) false _ 1999000 138 (chs 2) ?_ rfl ?_ ?_ (.inl ?_) (.inr ⟨sBad, rfl, ?_, ?_, rfl, rfl⟩)).2 ?_) <;> decide +kernel⟩


end C10

/-! ### 11 -/

namespace C11

/-- A register file holding `l`. -/
def rg (l : List (Nat × Word)) : List (Nat × Word) := l.foldl (fun m e => smPut m e.1 e.2) []
/-- A car in mode `m`, door unit 0 of `cfg` on axis 1 and channel 5, WIDTH 900,000 um, its axis `a`. -/
def drc (cfg : Word) (m : Mode) (x : Door) (a : Axis) : State := { run m with
  bus := { Bus.init with regs := rg [(Reg.TRJ_DOOR_CFG 0, cfg), (Reg.TRJ_AXIS_CFG 1, 0xFFFE0005), (Reg.TRJ_DOOR_GEOM 0, 0x004DBBA0),
    (Reg.TRJ_AXIS_VRATED 1, 1000000), (Reg.TRJ_DOOR_GENV 0, 300000), (Reg.TRJ_DOOR_GENA 0, 500000), (Reg.TRJ_DOOR_MASS 0, 200),
    (Reg.TRJ_DOOR_ECAP 0, 0x27100FA0), (Reg.TRJ_DOOR_SCR 0, 100), (Reg.TRJ_DOOR_TIME 0, 0x01F407D0), (Reg.SAF_STO_MAP 0, 0)] }
  conf := { Conf.init with role := some .car, sps := { SpsContent.blank with pairs := [⟨0, 1, 0, 1, 2, 0⟩] } }
  tb := { TimeBase.init with tick := 3000000000 }
  doors := [(0, x)], trj := { Trj.init with axes := [(1, a)] } }
def dr (m : Mode) (x : Door) (a : Axis) : State := drc 0xFFFE1401 m x a
def axAt (p : Int) : Axis := { Axis.init with spPos := p }
def axGo : Axis := { axAt 500000 with st := .running, spVel := 20000, mv := some ⟨⟨10, 2, true, 0, 7, false, 0, 0⟩, 0, 1000, 0, 65536, 65536, 65536, 0, 0, 0, 0, 0, 1, false⟩ }
/-- A door-zone permission of section 1.0 for both doors is in force. -/
def permitted (s : State) : State :=
  { s with saf := { s.saf with tape := { TapeSt.init with ok := true }, permits := [(0x100, ⟨some 1, 0, true, s.myId, 0, 7, 0, 1000, 1000, 0⟩)] } }
def opened : Door := { Door.init with st := .opened, pending := true }
def waiting : Door := { opened with cmd := some 3 }
def closing : Door := { opened with st := .closing, pending := false, obsCnt := 65535 }
def opening : Door := { opened with st := .opening }
def obs : Door := { closing with due := .obstruction 9 }
def stl : Door := { opening with due := .stall }
def kex : Door := { closing with due := .keExc }
def dwl : Door := { opened with dwellFrom := some 2750000000 }
def ndg : Door := { opened with nudgeFrom := some 500000000 }
/-- Two closes that wait for the curtain, the second with NUDGE_LATCH. -/
def held : Door := { Door.init with st := .stopped, pending := true, nudgeFrom := some 500000000 }
def forced : Door := { opened with nudge := true }
/-- The light curtain on input 0, which reads interrupted. -/
def cut (x : Door) : State := drc 0x80FE1401 .service x (axAt 900000)
def lck : Door := { Door.init with st := .closed, lockFrom := some 2937500000 }

/-- The hypotheses of DoorCommandsWaitForStageFour are met. -/
theorem witness_DoorCommandsWaitForStageFour (h : Obligations.DoorCommandsWaitForStageFour) :
    (∃ t, exec (Instr.doorOpen 0 16) (dr Mode.service opened (axAt 900000)) = .next t) ∧
    (∃ t, exec (Instr.doorClose 0 32) (dr Mode.service waiting (axAt 900000)) = .next t) ∧
    (∃ t, exec (Instr.doorNudge 0 48) (dr Mode.service opened (axAt 900000)) = .next t) ∧
    (∃ t, exec (Instr.doorStop 0 64) (dr Mode.service opened (axAt 900000)) = .next t) ∧
    (∃ t, exec (Instr.doorNudge 0 49) (dr Mode.service opened (axAt 900000)) = .next t) :=
  ⟨by refine runs ((h.1 (dr .service opened (axAt 900000)) 0 0x10 (.doorOpen 0 0x10) 1 0 ?_ ?_ ?_ ?_ ?_ (.inl ⟨rfl, rfl⟩)).1 ?_ ?_) <;> decide +kernel,
    by refine runs ((h.1 (dr .service waiting (axAt 900000)) 0 0x20 (.doorClose 0 0x20) 2 0 ?_ ?_ ?_ ?_ ?_ (.inr (.inl ⟨rfl, rfl⟩))).1 ?_ ?_) <;> decide +kernel,
    by refine runs ((h.1 (dr .service opened (axAt 900000)) 0 0x30 (.doorNudge 0 0x30) 3 0 ?_ ?_ ?_ ?_ ?_ (.inr (.inr (.inl ⟨rfl, rfl⟩)))).1 ?_ ?_) <;> decide +kernel,
    by refine runs ((h.1 (dr .service opened (axAt 900000)) 0 0x40 (.doorStop 0 0x40) 4 0 ?_ ?_ ?_ ?_ ?_ (.inr (.inr (.inr ⟨rfl, rfl⟩)))).1 ?_ ?_) <;> decide +kernel,
    by refine runs ((h.1 (dr .service opened (axAt 900000)) 0 0x31 (.doorNudge 0 0x31) 3 1 ?_ ?_ ?_ ?_ ?_ (.inr (.inr (.inl ⟨rfl, rfl⟩)))).2 ?_) <;> decide +kernel⟩

/-- The hypotheses of DoorSupervisionAndTimers are met. -/
theorem witness_DoorSupervisionAndTimers (h : Obligations.DoorSupervisionAndTimers) :
    (∃ t, exec (Instr.obstruction 0) (dr Mode.service obs axGo) = .next t) ∧
    (∃ t, exec (Instr.stall 0) (dr Mode.service stl axGo) = .next t) ∧
    (∃ t, exec (Instr.keExc 0) (dr Mode.service kex axGo) = .next t) ∧
    (∃ t, exec (Instr.dwellExpiry 0) (cut dwl) = .next t) ∧
    (∃ t, exec (Instr.nudgeTimerExpiry 0) (cut ndg) = .next t) ∧
    (∃ t, exec (Instr.lockFail 0) (dr Mode.service lck (axAt 0)) = .next t) :=
  ⟨by refine runs ((h.1 (dr .service obs axGo) 0 ?_ ?_ ⟨?_, ?_, ?_, ?_⟩).1 9 ?_) <;> decide +kernel,
    by refine runs ((h.1 (dr .service stl axGo) 0 ?_ ?_ ⟨?_, ?_, ?_, ?_⟩).2 (.stall 0) 6 (.inl ⟨?_, rfl, ?_⟩)) <;> decide +kernel,
    by refine runs ((h.1 (dr .service kex axGo) 0 ?_ ?_ ⟨?_, ?_, ?_, ?_⟩).2 (.keExc 0) 5 (.inr ⟨?_, rfl, ?_⟩)) <;> decide +kernel,
    by refine runs ((h.2.1 (cut dwl) 0 2750000000 ?_ ?_).1 ?_ ?_) <;> decide +kernel,
    by refine runs ((h.2.1 (cut ndg) 0 500000000 ?_ ?_).2 ?_ ?_ ?_ ?_) <;> decide +kernel,
    by refine runs (h.2.2.2 (dr .service lck (axAt 0)) 0 2937500000 ?_ ?_ ?_ ?_ ?_ ?_) <;> decide +kernel⟩

/-- A pending close under an interrupted curtain, one with a clear curtain and one with NUDGE_LATCH. -/
theorem witness_DoorSupervisionAndTimers_closes (h : Obligations.DoorSupervisionAndTimers) :
    ((pendingClose 0 (cut held)).door 0).pending = true ∧ ((pendingClose 0 (dr .service opened (axAt 900000))).door 0).st = .closing ∧
    ((pendingClose 0 (cut forced)).door 0).st = .nudging :=
  ⟨by refine ((h.2.2.1 (cut held) 0 false ?_ ?_ ?_ ?_ (.inr ?_) ?_ ?_).1 ?_ rfl _ rfl).2.1 <;> decide +kernel,
    by refine ((h.2.2.1 (dr .service opened (axAt 900000)) 0 false ?_ ?_ ?_ ?_ (.inl ?_) ?_ ?_).2 (.inl ?_) ?_ _ _ rfl ?_ _ rfl).1 <;> decide +kernel,
    by refine ((h.2.2.1 (cut forced) 0 true ?_ ?_ ?_ ?_ (.inl ?_) ?_ ?_).2 (.inr ?_) ?_ _ _ rfl ?_ _ rfl).1 <;> decide +kernel⟩

/-- The stage-4 clauses of DoorCommandsWaitForStageFour: a refused CLOSE, an OPEN in CLOSING and in OPENING, a NUDGE in OPENING. -/
theorem witness_DoorCommandsWaitForStageFour_acts (h : Obligations.DoorCommandsWaitForStageFour) :
    DoorEvent (doorCommand 0 2 (dr .standby opened (axAt 900000))) 0 4 = true ∧
    ((doorCommand 0 1 (permitted (dr .service closing axGo))).door 0).st = .reopening ∧
    ((doorCommand 0 1 (permitted (dr .service opening axGo))).door 0).pending = false ∧
    ((doorCommand 0 3 (dr .service opening axGo)).door 0).pending = true :=
  ⟨by refine ((h.2 (dr .standby opened (axAt 900000)) 0 2 ?_ ?_ ?_).1 ?_).2.1 <;> decide +kernel,
    by refine (((h.2 (permitted (dr .service closing axGo)) 0 1 ?_ ?_ ?_).2 ?_).1 ?_ (.inl ?_) ⟨?_, ?_, ?_, ?_⟩).1 <;> decide +kernel,
    by refine (((h.2 (permitted (dr .service opening axGo)) 0 1 ?_ ?_ ?_).2 ?_).2.1 ?_ (.inl ?_)).2.1 <;> decide +kernel,
    by refine (((h.2 (dr .service opening axGo) 0 3 ?_ ?_ ?_).2 ?_).2.2 ?_ ?_).1 <;> decide +kernel⟩

end C11

/-! ### 12 -/

namespace C12

/-- A register file holding `l`. -/
def rg (l : List (Nat × Word)) : List (Nat × Word) := l.foldl (fun m e => smPut m e.1 e.2) []
/-- A header from device 2.5 at epoch 1 on port 0, to this device. -/
def hd : Hdr := ⟨0, 0x205, 0, 1, 0, false, 7, 0x20⟩
def car1 : CarRec := { CarRec.init with held := true, owner := true, id := 9, posValid := true, formed := true, pos := 900000, arrLen := 400000 }
/-- A section in mode `m` with the BSS on, car record 2, landings 0 (at 900,000 um) and 1 (at 4,000,000 um); device 2.5 heard. -/
def bs (m : Mode) (cs : List (Nat × BssCar)) (b : Bss) : State := { run m with
  bus := { Bus.init with regs := rg [(Reg.FAB_SP_STAT 0, 0xC0000000), (F.BSS_CFG.EN.addr, 0x80000000),
    (Reg.BSS_LAND_W0 0, 900000), (Reg.BSS_LAND_W4 0, 0xE0000000), (Reg.BSS_LAND_W7 0, 5000),
    (Reg.BSS_LAND_W0 1, 4000000), (Reg.BSS_LAND_W4 1, 0xC0000000), (Reg.BSS_LAND_W7 1, 5000), (Reg.SLK_CH_CFG 3, 0x80000000)] }
  conf := { Conf.init with role := some .sect, geom := ⟨0, 64000, [⟨1024000, 3⟩, ⟨1024000, 5⟩], some ⟨0x205, 2, [1024000]⟩, none⟩ }
  tb := { TimeBase.init with tick := 137500000, k := 40, ns := 20000000 }
  cars := [(2, car1)]
  fab := { Fab.init with epochs := [(0x205, ⟨1, 0⟩)] }
  bss := { b with cars := cs } }
def st (l : Nat) (x : Int) (f : Nat) : StopEntry := ⟨0, l, x, 1, f⟩
def q2 : BssCar := { BssCar.init with queue := [⟨0, 1, 4000000, 1, 3⟩, ⟨2, 0, 5000000, 1, 4⟩] }
def sv (cs : List (Nat × BssCar)) : State := bs .service cs Bss.init
/-- The word of a stop command. -/
def wd' (op c m l sides fl : Nat) : Word :=
  setF F.BSS_STOP_CMD.OP.bits op (setF F.BSS_STOP_CMD.CAR.bits c (setF F.BSS_STOP_CMD.SECTION.bits m (setF F.BSS_STOP_CMD.LANDING.bits l
    (setF F.BSS_STOP_CMD.SIDES.bits sides (setF F.BSS_STOP_CMD.FLAGS.bits fl 0)))))
def a1 : Word := wd' 1 2 0 1 1 4
def a0 : Word := wd' 1 2 0 0 1 4
def a2 : Word := wd' 2 2 0 1 1 1
def a3 : Word := wd' 3 2 0 0 0 0
def a4 : Word := wd' 4 2 0 0 0 0
def q3 : BssCar := { q2 with goal := some ⟨2, 0, 5000000, 1, 4⟩, start := some (5, ⟨10, 2, true, 0, 7, false, 0, 0⟩, false) }
def charged : Bss := { Bss.init with level := 70000, pmSum := 12, pmN := 4 }
def goal : StopEntry := ⟨2, 0, 5000000, 1, 4⟩
def arg : MoveArg := ⟨10, 2, false, 0, 7, true, 0, 0⟩
def cnd (asked : List Nat) : Cand := ⟨2, goal, arg, false, 800000, 5100000, 77, asked, [], [], 136875000, [], [], false⟩
def resP : ResEntry := ResEntry.plain 9 1 true true 800000 5100000 77 0 0 []
def resR : ResEntry := ResEntry.plain 9 2 true false 800000 1000000 0 0 0 []
def wait (asked : List Nat) : Bss := { Bss.init with res := [(0, resR), (3, resP)], todo := some (20000000, []), cand := some (cnd asked) }
def hot : State := { bs .service [] Bss.init with chans := [(3, { ChanView.init with iA := 1000, iB := -500, iC := -500, temp := 300 })] }

def rq (m l : Nat) (tg lo hi : Int) (car : Nat) : ResReqPl := ⟨5, car, lo, hi, lo, tg, false, 1000, 0, 400000, m, l, 1, 30000000, [⟨0, 0, 0, 0⟩, ⟨20000, 10, 0, 0x80000000⟩]⟩
def onlyR : Bss := { Bss.init with res := [(0, resR)] }
def chargedR : Bss := { charged with res := [(0, resR)] }
def sGr : State := ((bs .service [] chargedR).put F.BSS_CAP.CAP 80000).put F.BSS_PCONT.P_CONT 1000
def pGr : ResReqPl := rq 2 0 9000001 1000001 1200000 7
def dGr : List Rat := (projReasons sGr ⟨pGr.mass, pGr.arrOfs, pGr.arrLen, pGr.start, pGr.dir⟩ pGr.car pGr.t0 pGr.rows).2
theorem grOk : (projReasons sGr ⟨pGr.mass, pGr.arrOfs, pGr.arrLen, pGr.start, pGr.dir⟩ pGr.car pGr.t0 pGr.rows).1.isEmpty = true := by decide +kernel
theorem grEq : projReasons sGr ⟨pGr.mass, pGr.arrOfs, pGr.arrLen, pGr.start, pGr.dir⟩ pGr.car pGr.t0 pGr.rows = ([], dGr) := by
  exact Prod.ext (List.isEmpty_iff.mp grOk) rfl
def resG : ResEntry := { ResEntry.plain 7 2 false true 800000 5100000 78 0x205 0 [] with orphan := true }
/-- The section is closed; every car record is taken. -/
def shut : State := let s := bs .service [] Bss.init; { s with fab := { s.fab with closeCmd := true } }
def full : State := { bs .service [] Bss.init with cars := (List.range 8).map (fun c => (c, { car1 with id := 20 + c })) }
def granted : Bss := { Bss.init with res := [(0, resR), (3, resG)] }
def heldFrom : State := { bs .service [] granted with
  tb := { TimeBase.init with tick := 1250000005 }
  fab := { Fab.init with learned := [(0x205, ⟨⟨0, 0, 0, 0, 0, 0, 0⟩, [], some 5⟩)] } }

/-- The hypotheses of StopCommandsChangeTheQueue are met. -/
theorem witness_StopCommandsChangeTheQueue (h : Obligations.StopCommandsChangeTheQueue) :
    (∃ t, exec (Instr.bssAdd 0 a1) (bs Mode.standby [] Bss.init) = .next t) ∧
    (∃ t, exec (Instr.bssAdd 0 a1) (sv [(2, q2)]) = .next t) ∧
    (∃ t, exec (Instr.bssAdd 0 a0) (sv [(2, q2)]) = .next t) ∧
    (∃ t, exec (Instr.bssRemove 0 a2) (sv [(2, q2)]) = .next t) ∧
    (∃ t, exec (Instr.bssClear 0 a3) (sv [(2, q2)]) = .next t) ∧
    (∃ t, exec (Instr.bssClear 0 a3) (sv [(2, q3)]) = .next t) ∧
    (∃ t, exec (Instr.depart 0 a4) (sv [(2, q2)]) = .next t) :=
  ⟨by refine runs ((h (bs .standby [] Bss.init) 0 a1 (.bssAdd 0 a1) 1 2 _ ?_ ?_ ?_ ?_ rfl (.inl ⟨rfl, rfl⟩)).1 7 [] ?_) <;> decide +kernel,
    by refine runs ((h (sv [(2, q2)]) 0 a1 (.bssAdd 0 a1) 1 2 _ ?_ ?_ ?_ ?_ rfl (.inl ⟨rfl, rfl⟩)).2 ?_ |>.1 ?_ ?_) <;> decide +kernel,
    by refine runs ((h (sv [(2, q2)]) 0 a0 (.bssAdd 0 a0) 1 2 _ ?_ ?_ ?_ ?_ rfl (.inl ⟨rfl, rfl⟩)).2 ?_ |>.2.1 ?_ ?_ ?_ ?_) <;> decide +kernel,
    by refine runs ((h (sv [(2, q2)]) 0 a2 (.bssRemove 0 a2) 2 2 _ ?_ ?_ ?_ ?_ rfl (.inr (.inl ⟨rfl, rfl⟩))).2 ?_ |>.2.2.1 ?_) <;> decide +kernel,
    by refine runs ((h (sv [(2, q2)]) 0 a3 (.bssClear 0 a3) 3 2 _ ?_ ?_ ?_ ?_ rfl (.inr (.inr (.inl ⟨rfl, rfl⟩)))).2 ?_ |>.2.2.2.1 ?_) <;> decide +kernel,
    by refine runs ((h (sv [(2, q3)]) 0 a3 (.bssClear 0 a3) 3 2 _ ?_ ?_ ?_ ?_ rfl (.inr (.inr (.inl ⟨rfl, rfl⟩)))).2 ?_ |>.2.2.2.1 ?_) <;> decide +kernel,
    by refine runs ((h (sv [(2, q2)]) 0 a4 (.depart 0 a4) 4 2 _ ?_ ?_ ?_ ?_ rfl (.inr (.inr (.inr ⟨rfl, rfl⟩)))).2 ?_ |>.2.2.2.2 ?_) <;> decide +kernel⟩

/-- The hypotheses of EvaluationsBucketsAndTemperatures are met. -/
theorem witness_EvaluationsBucketsAndTemperatures (h : Obligations.EvaluationsBucketsAndTemperatures) :
    (∃ t, exec (Instr.bssEvaluation) (bs Mode.standby [(2, q2)] charged) = .next t) ∧
    (∃ t, exec (Instr.bssEvaluation) (bs Mode.service [(2, q2)] charged) = .next t) ∧
    (∃ t, exec (Instr.resAnswerTimeout) (bs Mode.standby [(2, q2)] (wait [517])) = .next t) ∧
    (∃ t, exec (Instr.resAnswerTimeout) (bs Mode.service [(2, q2)] (wait [517])) = .next t) ∧
    (∃ t, exec (Instr.thermalUpdate) (hot) = .next t) :=
  ⟨by refine runs (h.1 (bs .standby [(2, q2)] charged) ?_ ?_) <;> decide +kernel,
    by refine runs (h.1 (bs .service [(2, q2)] charged) ?_ ?_) <;> decide +kernel,
    by refine runs (h.2.1 (bs .standby [(2, q2)] (wait [0x205])) (cnd [0x205]) rfl ?_ ?_ ?_) <;> decide +kernel,
    by refine runs (h.2.2.1 (bs .service [(2, q2)] (wait [0x205])) (cnd [0x205]) 20000000 rfl ?_ ?_ ?_ ?_ ?_) <;> decide +kernel,
    by refine runs (h.2.2.2 hot ?_ ?_) <;> decide +kernel⟩

/-- The hypotheses of ReservationsAreGrantedAndReleased are met: the five refusals and the grant. -/
theorem witness_ReservationsAreGrantedAndReleased (h : Obligations.ReservationsAreGrantedAndReleased) :
    (∃ t, exec (Instr.resReq hd (rq 0 0 900000 0 1 7)) shut = .next t) ∧
    (∃ t, exec (Instr.resReq hd (rq 0 0 900000 0 1 7)) (bs Mode.standby [] Bss.init) = .next t) ∧
    (∃ t, exec (Instr.resReq hd (rq 0 0 900001 0 1 7)) (bs Mode.service [] Bss.init) = .next t) ∧
    (∃ t, exec (Instr.resReq hd (rq 2 0 9000001 1000000 1200000 7)) (bs Mode.service [] onlyR) = .next t) ∧
    (∃ t, exec (Instr.resReq hd (rq 2 0 9000001 1000000 1200000 7)) full = .next t) ∧
    (∃ t, exec (Instr.resReq hd pGr) (sGr) = .next t) :=
  ⟨by refine runs ((h.1 shut hd (rq 0 0 900000 0 1 7) _ ⟨?_, ?_, ?_, ?_, ?_, ?_, _, rfl, ?_, ?_⟩ ?_ ?_ ?_ ?_ ?_ rfl).1 3 12 (.inl ⟨?_, ?_, ?_⟩)) <;> decide +kernel,
    by refine runs ((h.1 (bs .standby [] Bss.init) hd (rq 0 0 900000 0 1 7) _ ⟨?_, ?_, ?_, ?_, ?_, ?_, _, rfl, ?_, ?_⟩ ?_ ?_ ?_ ?_ ?_ rfl).1 2 3 (.inr (.inl ⟨?_, ?_, ?_, ?_, ?_, ?_⟩))) <;> decide +kernel,
    by refine runs ((h.1 (bs .service [] Bss.init) hd (rq 0 0 900001 0 1 7) _ ⟨?_, ?_, ?_, ?_, ?_, ?_, _, rfl, ?_, ?_⟩ ?_ ?_ ?_ ?_ ?_ rfl).1 3 13 (.inr (.inr ⟨?_, .inl ?_, .inl ⟨?_, ?_, ?_⟩⟩))) <;> decide +kernel,
    by refine runs ((h.1 (bs .service [] onlyR) hd (rq 2 0 9000001 1000000 1200000 7) _ ⟨?_, ?_, ?_, ?_, ?_, ?_, _, rfl, ?_, ?_⟩ ?_ ?_ ?_ ?_ ?_ rfl).1 2 1 (.inr (.inr ⟨?_, .inl ?_, .inr (.inl ⟨?_, ⟨resR, ?_, ?_, ?_, ?_⟩, ?_, ?_⟩)⟩))) <;> decide +kernel,
    by refine runs ((h.1 full hd (rq 2 0 9000001 1000000 1200000 7) _ ⟨?_, ?_, ?_, ?_, ?_, ?_, _, rfl, ?_, ?_⟩ ?_ ?_ ?_ ?_ ?_ rfl).1 2 4 (.inr (.inr ⟨?_, .inl ?_, .inr (.inr ⟨?_, ?_, ?_, ?_, ?_, ?_⟩)⟩))) <;> decide +kernel,
    by refine runs ((h.1 sGr hd pGr _ ⟨?_, ?_, ?_, ?_, ?_, ?_, _, rfl, ?_, ?_⟩ ?_ ?_ ?_ ?_ ?_ rfl).2 _ ?_ ?_ ?_ ?_ ?_ ?_ ⟨1, ?_, ?_⟩ grEq) <;> decide +kernel⟩

/-- The other clauses: answers, a release, trims with and without an entry, a stop queue, a held reservation. -/
theorem witness_ReservationsAreGrantedAndReleased_answers (h : Obligations.ReservationsAreGrantedAndReleased) :
    (∃ t, exec (Instr.resAns hd { id := 77, outcome := 1, reason := 0 }) (bs Mode.service [(2, q2)] (wait [517])) = .next t) ∧
    (∃ t, exec (Instr.resAns hd { id := 77, outcome := 2, reason := 6 }) (bs Mode.service [(2, q2)] (wait [517, 518])) = .next t) ∧
    (∃ t, exec (Instr.resAns hd { id := 77, outcome := 1, reason := 6 }) (bs Mode.service [(2, q2)] Bss.init) = .next t) ∧
    (∃ t, exec (Instr.resAns hd { id := 77, outcome := 1, reason := 6 }) (bs Mode.standby [(2, q2)] (wait [517])) = .next t) ∧
    (∃ t, exec (Instr.resRel hd { id := 78 }) (bs Mode.service [(2, q2)] granted) = .next t) ∧
    (∃ t, exec (Instr.resTrim hd { car := 7, lo := 900000, hi := 5000000, t := 30000000 }) (bs Mode.service [(2, q2)] granted) = .next t) ∧
    (∃ t, exec (Instr.resTrim hd { car := 9, lo := 900000, hi := 5000000, t := 30000000 }) (bs Mode.service [(2, q2)] granted) = .next t) ∧
    (∃ t, exec (Instr.resTrim hd { car := 8, lo := 900000, hi := 5000000, t := 30000000 }) (bs Mode.service [(2, q2)] granted) = .next t) ∧
    (∃ t, exec (Instr.stopq hd { car := 9, d := 2, queue := [st 0 900000 4] }) (bs Mode.service [(2, q2)] granted) = .next t) ∧
    (∃ t, exec (Instr.heldReservationRelease 517) (heldFrom) = .next t) :=
  ⟨by refine runs ((h.2.1 (bs .service [(2, q2)] (wait [0x205])) hd ⟨77, 1, 0⟩ ⟨?_, ?_, ?_, ?_, ?_, ?_, _, rfl, ?_, ?_⟩).1 (cnd [0x205]) 20000000 rfl rfl ?_ ?_ ?_ ?_ ?_) <;> decide +kernel,
    by refine runs ((h.2.1 (bs .service [(2, q2)] (wait [0x205, 0x206])) hd ⟨77, 2, 6⟩ ⟨?_, ?_, ?_, ?_, ?_, ?_, _, rfl, ?_, ?_⟩).2.1 (cnd [0x205, 0x206]) rfl ?_ ?_ ?_ ?_ ?_) <;> decide +kernel,
    by refine runs ((h.2.1 (bs .service [(2, q2)] Bss.init) hd ⟨77, 1, 6⟩ ⟨?_, ?_, ?_, ?_, ?_, ?_, _, rfl, ?_, ?_⟩).2.2 (.inl ?_) ?_) <;> decide +kernel,
    by refine runs ((h.2.1 (bs .standby [(2, q2)] (wait [0x205])) hd ⟨77, 1, 6⟩ ⟨?_, ?_, ?_, ?_, ?_, ?_, _, rfl, ?_, ?_⟩).2.2 (.inr ?_) ?_) <;> decide +kernel,
    by refine runs ((h.2.2.1 (bs .service [(2, q2)] granted) hd ⟨?_, ?_, ?_, ?_, ?_, ?_, _, rfl, ?_, ?_⟩ ?_).1 ⟨78⟩) <;> decide +kernel,
    by refine runs ((h.2.2.1 (bs .service [(2, q2)] granted) hd ⟨?_, ?_, ?_, ?_, ?_, ?_, _, rfl, ?_, ?_⟩ ?_).2.1 ⟨7, 900000, 5000000, 30000000⟩ 3 resG ?_ ?_) <;> decide +kernel,
    by refine runs ((h.2.2.1 (bs .service [(2, q2)] granted) hd ⟨?_, ?_, ?_, ?_, ?_, ?_, _, rfl, ?_, ?_⟩ ?_).2.2.1 ⟨9, 900000, 5000000, 30000000⟩ ?_) <;> decide +kernel,
    by refine runs ((h.2.2.1 (bs .service [(2, q2)] granted) hd ⟨?_, ?_, ?_, ?_, ?_, ?_, _, rfl, ?_, ?_⟩ ?_).2.2.1 ⟨8, 900000, 5000000, 30000000⟩ ?_) <;> decide +kernel,
    by refine runs ((h.2.2.1 (bs .service [(2, q2)] granted) hd ⟨?_, ?_, ?_, ?_, ?_, ?_, _, rfl, ?_, ?_⟩ ?_).2.2.2 ⟨9, 2, [st 0 900000 4]⟩ 2 ?_ ?_ ?_) <;> decide +kernel,
    by refine runs (h.2.2.2 heldFrom 0x205 5 _ rfl ?_ ?_) <;> decide +kernel⟩

end C12

/-! ### 13 -/

namespace C13

/-- A register file holding `l`. -/
def rg (l : List (Nat × Word)) : List (Nat × Word) := l.foldl (fun m e => smPut m e.1 e.2) []
/-- Port 0 has sent period 40's frame to channels 3 and 5; the next return is awaited. -/
def sl : State :=
  let s := run .service
  let t := { s with
    bus := { Bus.init with regs := rg [(Reg.SLK_CH_CFG 3, 0x80000000), (Reg.SLK_CH_CFG 5, 0x80000000)] }
    conf := { Conf.init with role := some .sect, geom := ⟨0, 64000, [⟨1024000, 3⟩, ⟨1024000, 5⟩], some ⟨0x205, 2, [1024000]⟩, none⟩ }
    tb := { TimeBase.init with tick := 137500000, k := 40 }
    tide := { Tide.init with stage := .link }
    slk := { Slk.init with ports := [(0, ⟨some 5, true, true, false⟩)], chans := [(3, ⟨[], [7], 40⟩), (5, ⟨[1], [], 39⟩)], retry := [3, 5] } }
  t.put (F.SLK_CH_STAT.CONSEC 5) 1
/-- A return slot of ring position `r` with CSEQ `c`. -/
def slot (r c : Byte) : List Byte :=
  let b : List Byte := [r * 16, c, 0x60, 0, 0x10, 0xFF] ++ leBytes 22 0x0123456789
  b ++ wordBytes (crc32c b)
def frm : RetFrame := ⟨true, frameHdr 40 2, [slot 3 40, slot 4 40], true⟩
def frm2 : RetFrame := ⟨true, frameHdr 40 2, [slot 3 39, slot 5 39], true⟩
def w (op n : Nat) : Word := setF F.SLK_CAP.OP.bits op (BitVec.ofNat 32 n)
def clr (cs : List (Nat × CarRec)) : State := { armGuard Reg.SLK_NODE_CLR 5 sl with cars := cs }
def car1 : CarRec := { CarRec.init with held := true, owner := true, id := 9, posValid := true, formed := true, pos := 1500000, arrLen := 400000 }

/-- The hypotheses of ReturnsAreCheckedSlotBySlot are met. -/
theorem witness_ReturnsAreCheckedSlotBySlot (h : Obligations.ReturnsAreCheckedSlotBySlot) :
    (∃ t, exec (Instr.returnFrameReceived 0 frm) (sl) = .next t) ∧
    (∃ t, exec (Instr.returnFrameReceived 0 frm2) (sl) = .next t) ∧
    (∃ t, exec (Instr.returnDeadline 0) (sl) = .next t) ∧
    (∃ t, exec (Instr.retryAnalysisDone 5) (sl) = .next t) ∧
    (∃ t, exec (Instr.portIdleEnd 0) (sl) = .next t) :=
  ⟨by refine runs ((h.1 sl 0 frm ?_).1 ?_ ?_ ?_ ?_) <;> decide +kernel,
    by refine runs ((h.1 sl 0 frm2 ?_).1 ?_ ?_ ?_ ?_) <;> decide +kernel,
    by refine runs ((h.1 sl 0 frm ?_).2) <;> decide +kernel,
    runs ((h.2.1 sl 5)),
    by refine runs (h.2.2 sl 0 5 ?_ ?_) <;> decide +kernel⟩

/-- The hypotheses of CapturesAndNodeFaults are met. -/
theorem witness_CapturesAndNodeFaults (h : Obligations.CapturesAndNodeFaults) :
    (∃ t, exec (Instr.captureReceiveBuffer 0 (w 1 5)) (sl) = .next t) ∧
    (∃ t, exec (Instr.captureTransmitBuffer 0 (w 2 3)) (sl) = .next t) ∧
    (∃ t, exec (Instr.captureTransmitBuffer 0 (w 2 4)) (sl) = .next t) ∧
    (∃ t, exec (Instr.captureRelease 0 (w 3 3)) (sl) = .next t) ∧
    (∃ t, exec (Instr.slkNodeClr 0 (~~~5)) (clr []) = .next t) ∧
    (∃ t, exec (Instr.slkNodeClr 0 (~~~5)) (clr [(2, car1)]) = .next t) :=
  ⟨by refine runs ((h sl 0 (w 1 5) 5 ?_ ?_).1 ?_ (.captureReceiveBuffer 0 (w 1 5)) false (.inl ⟨rfl, ?_, ?_⟩) |>.1 ?_ ?_ ?_) <;> decide +kernel,
    by refine runs ((h sl 0 (w 2 3) 3 ?_ ?_).1 ?_ (.captureTransmitBuffer 0 (w 2 3)) true (.inr ⟨rfl, ?_, ?_⟩) |>.1 ?_ ?_ ?_) <;> decide +kernel,
    by refine runs ((h sl 0 (w 2 4) 4 ?_ ?_).1 ?_ (.captureTransmitBuffer 0 (w 2 4)) true (.inr ⟨rfl, ?_, ?_⟩) |>.2 (.inr (.inr ?_))) <;> decide +kernel,
    by refine runs ((h sl 0 (w 3 3) 3 ?_ ?_).2.1 ?_ ?_) <;> decide +kernel,
    by refine runs ((h (clr []) 0 5 5 ?_ ?_).2.2 ?_ |>.1 ?_) <;> decide +kernel,
    by refine runs ((h (clr [(2, car1)]) 0 5 5 ?_ ?_).2.2 ?_ |>.2 ?_) <;> decide +kernel⟩


end C13

/-! ### 14 -/

namespace C14

/-- A register file holding `l`. -/
def rg (l : List (Nat × Word)) : List (Nat × Word) := l.foldl (fun m e => smPut m e.1 e.2) []
def die2 : Die := { Die.init with ref := some 9, heard := 136250000, inputs := 0x000005, edges := [(50, true, 3)], outs := [(1, ⟨false, true, true, 0, 0, 65535⟩)], req := 0xFF, perm := 0x10, rb := 0x31 }
def frm (q : Nat) : FieldFrame := ⟨q, 0x81, 0x10, true, [(17, 1000)], 2, 20, some 3, 0, 0x11, 0x24, [], 5⟩
/-- A section in Service, outputs 20 and 21 safety outputs; die 2 as given, frame 10 sent to it, frame 3 to STO link 4. -/
def fi (x : Die) : State := { run .service with
  bus := { Bus.init with regs := rg [(F.FIO_OUT_REQ.REQ.addr, 0x00FF0102), (Reg.SLK_PORT_CFG 1, 0x80000002), (F.FIO_FIN_CFG.EDGE 9 |>.addr, 0)] }
  conf := { Conf.init with role := some .sect, sps := { SpsContent.blank with safeOuts := [(20, 0), (21, 0)], linkATo := 1, linkBTo := 2 } }
  tb := { TimeBase.init with tick := 137500000, k := 40 }
  fio := { Fio.init with dies := [(2, x)], sent := [(2, frm 10), (4, frm 3)], seq := [(2, 255)], links := [(4, ⟨none, 137375000, 9⟩), (5, ⟨some 4, 137250000, 9⟩)], bad := [(2, 3)], clr := 5, pulses := [(17, 3)] } }
def dieAcc : Die := { die2 with accs := [(52, 77)] }
def dieNew : Die := { die2 with ref := none }
def dieOld : Die := { die2 with ref := some 10 }
/-- STOpA of port 1 on since `t0`; the readback `rb` of FG4 on the Eclipse path's tap. -/
def sto (rb : Nat) : State := { fi die2 with
  fio := { (fi die2).fio with links := [] }
  saf := { Saf.init with aOn := [(1, 137375000)], taps := [(68, { Tap.init with last := some 0, rb := rb })] } }
def tapped : State := { fi die2 with saf := { Saf.init with taps := [(2, { Tap.init with last := some 8, since := 2 }), (66, { Tap.init with last := some 9, since := 1 })] } }
def rep : ReplyIn := ⟨some 10, some 10, some 10, 0x11⟩
def fq (n last : Nat) : FreqIn := ⟨some 1000, n, last, some 5, 6, false⟩
def freq (q : FreqIn) (tick : Nat) : State := { fi die2 with fio := { (fi die2).fio with freq := [(9, q)] }, tb := { TimeBase.init with tick := tick } }
def dieP : Die := { die2 with pulses := [(17, 137500000)] }
def clr (v : Word) : State := armGuard Reg.FIO_OUT_CLR v (fi die2)
def pulseOn : State := fi { die2 with req := 0x10 }
def dieOff : Die := { die2 with off := some 20, req := 0x10 }
def dieL : Die := { die2 with lowFrom := some 137462500 }
def dieH : Die := { die2 with okFrom := some 136250000, uv := true }
def fg4 (x : Die) : State := { fi die2 with fio := { (fi die2).fio with dies := [(4, x)] } }

/-- The hypotheses of FieldFramesAndSilence are met. -/
theorem witness_FieldFramesAndSilence (h : Obligations.FieldFramesAndSilence) :
    (∃ t, exec (Instr.fieldRefresh) (fi die2) = .next t) ∧
    (∃ t, exec (Instr.dieFrameReceived 2 true) (fi die2) = .next t) ∧
    (∃ t, exec (Instr.dieFrameReceived 2 true) (fi dieNew) = .next t) ∧
    (∃ t, exec (Instr.dieFrameReceived 2 true) (fi dieOld) = .next t) ∧
    (∃ t, exec (Instr.dieFrameReceived 2 false) (fi dieOld) = .next t) ∧
    (∃ t, exec (Instr.dieFrameReceived 4 true) (fi die2) = .next t) ∧
    (∃ t, exec (Instr.dieSilenceTimeout 2) (fi die2) = .next t) ∧
    (∃ t, exec (Instr.stoLinkTimeout 0) (fi die2) = .next t) ∧
    (∃ t, exec (Instr.stoLinkTimeout 1) (fi die2) = .next t) ∧
    (∃ t, exec (Instr.stobEnergise 1) (sto 0) = .next t) ∧
    (∃ t, exec (Instr.stobEnergise 1) (sto 8) = .next t) :=
  ⟨by refine runs (h.1 (fi die2) ?_ ?_ ?_ ?_) <;> decide +kernel,
    by refine runs ((h.2.1 (fi die2) 2 (frm 10) ?_ rfl ?_).1 (.inr ⟨9, ?_, ?_⟩)) <;> decide +kernel,
    by refine runs ((h.2.1 (fi dieNew) 2 (frm 10) ?_ rfl ?_).1 (.inl ?_)) <;> decide +kernel,
    by refine runs ((h.2.1 (fi dieOld) 2 (frm 10) ?_ rfl ?_).2.1 ⟨10, ?_, ?_⟩) <;> decide +kernel,
    by refine runs ((h.2.1 (fi dieOld) 2 (frm 10) ?_ rfl ?_).2.2) <;> decide +kernel,
    by refine runs (h.2.2.1 (fi die2) 4 (frm 3) ?_ rfl ?_) <;> decide +kernel,
    by refine runs (h.2.2.2.1 (fi die2) 2 ?_) <;> decide +kernel,
    by refine runs (h.2.2.2.2.1 (fi die2) 0 ?_) <;> decide +kernel,
    by refine runs (h.2.2.2.2.1 (fi die2) 1 ?_) <;> decide +kernel,
    by refine runs ((h.2.2.2.2.2 (sto 0) 1 137375000 rfl ?_ ?_ ?_ ?_).1 ?_ ?_ ?_) <;> decide +kernel,
    by refine runs ((h.2.2.2.2.2 (sto 8) 1 137375000 rfl ?_ ?_ ?_ ?_).2 (.inr ?_) ?_) <;> decide +kernel⟩

/-- The hypotheses of FieldRepliesShowTheInputs are met. -/
theorem witness_FieldRepliesShowTheInputs (h : Obligations.FieldRepliesShowTheInputs) :
    (∃ t, exec (Instr.fieldReply 2 rep) (tapped) = .next t) ∧
    (∃ t, exec (Instr.fieldReplyMissing 2 none none) (fi die2) = .next t) ∧
    (∃ t, exec (Instr.fieldReplyMissing 4 none none) (fi die2) = .next t) :=
  ⟨by refine runs (h.1 tapped 2 rep (frm 10) ?_ ?_ rfl rfl) <;> decide +kernel,
    by refine runs (h.2 (fi die2) 2 none none ?_) <;> decide +kernel,
    by refine runs (h.2 (fi die2) 4 none none ?_) <;> decide +kernel⟩

/-- The hypotheses of InputsCountAndMeasure are met. -/
theorem witness_InputsCountAndMeasure (h : Obligations.InputsCountAndMeasure) :
    (∃ t, exec (Instr.inputFilterAccept 52 true 77) (fi die2) = .next t) ∧
    (∃ t, exec (Instr.inputFilterAccept 52 true 3000077) (fi dieAcc) = .next t) ∧
    (∃ t, exec (Instr.fastInputEdge 9 true 77) (fi die2) = .next t) ∧
    (∃ t, exec (Instr.fastInputEdge 8 false 77) (fi die2) = .next t) ∧
    (∃ t, exec (Instr.frequencyGate 9) (freq (fq 3 31000) 137500000) = .next t) ∧
    (∃ t, exec (Instr.frequencyGate 9) (freq (fq 300 3100) 137500000) = .next t) ∧
    (∃ t, exec (Instr.frequencyZeroTimeout 9) (freq (fq 3 31000) 1312500006) = .next t) :=
  ⟨by refine runs (h.1 (fi die2) 52 true 77 ?_ ?_ (.inl ?_)) <;> decide +kernel,
    by refine runs (h.1 (fi dieAcc) 52 true 3000077 ?_ ?_ (.inr ⟨77, ?_, ?_⟩)) <;> decide +kernel,
    by refine runs (h.2.1 (fi die2) 9 true 77 ?_) <;> decide +kernel,
    by refine runs (h.2.1 (fi die2) 8 false 77 ?_) <;> decide +kernel,
    by refine runs (h.2.2.1 (freq (fq 3 31000) 137500000) 9 (fq 3 31000) 1000 30000 _ ?_ rfl rfl (.inr ⟨5, rfl, ?_⟩) ?_ ?_ ?_ rfl) <;> decide +kernel,
    by refine runs (h.2.2.1 (freq (fq 300 3100) 137500000) 9 (fq 300 3100) 1000 2100 142857142857 ?_ rfl rfl (.inr ⟨5, rfl, ?_⟩) ?_ ?_ ?_ ?_) <;> decide +kernel,
    by refine runs (h.2.2.2 (freq (fq 3 31000) 1312500006) 9 ?_ ?_ ?_) <;> decide +kernel⟩

/-- The hypotheses of OutputsPulsesAndSupply are met. -/
theorem witness_OutputsPulsesAndSupply (h : Obligations.OutputsPulsesAndSupply) :
    (∃ t, exec (Instr.comparePulseEnd 17) (fi dieP) = .next t) ∧
    (∃ t, exec (Instr.outputThermalShutdown 17) (fi die2) = .next t) ∧
    (∃ t, exec (Instr.outputCooled 17) (fi die2) = .next t) ∧
    (∃ t, exec (Instr.fioOutClr 0 (~~~1048577)) (clr 1048577) = .next t) ∧
    (∃ t, exec (Instr.fioOutClr 0 (~~~3)) (clr 3) = .next t) ∧
    (∃ t, exec (Instr.offPulseStart 20) (fi die2) = .next t) ∧
    (∃ t, exec (Instr.offPulseEnd 20 33) (fi dieOff) = .next t) ∧
    (∃ t, exec (Instr.offPulseEnd 20 49) (fi dieOff) = .next t) ∧
    (∃ t, exec (Instr.lplusMeasure 2 1599) (fi die2) = .next t) ∧
    (∃ t, exec (Instr.lplusMeasure 4 5000) (fi die2) = .next t) ∧
    (∃ t, exec (Instr.uv 2) (fi dieL) = .next t) ∧
    (∃ t, exec (Instr.uv 4) (fg4 dieL) = .next t) ∧
    (∃ t, exec (Instr.uvClear 2) (fi dieH) = .next t) :=
  ⟨by refine runs (h.1 (fi dieP) 17 137500000 rfl ?_) <;> decide +kernel,
    runs ((h.2.1 (fi die2) 17).1),
    runs ((h.2.1 (fi die2) 17).2),
    by refine runs ((h.2.2.1 (clr 0x00100001) 0 0x00100001 ⟨?_, ?_⟩).1 ⟨20, ?_, ?_, .inl ?_⟩) <;> decide +kernel,
    by refine runs ((h.2.2.1 (clr 3) 0 3 ⟨?_, ?_⟩).2 ?_) <;> decide +kernel,
    by refine runs ((h.2.2.2.1 (fi die2) 20 0 ?_ ?_).1 ?_ ?_ ?_) <;> decide +kernel,
    by refine runs (((h.2.2.2.1 (fi dieOff) 20 0x21 ?_ ?_).2 rfl).1 ?_) <;> decide +kernel,
    by refine runs (((h.2.2.2.1 (fi dieOff) 20 0x31 ?_ ?_).2 rfl).2 ?_ ?_ ?_ ?_) <;> decide +kernel,
    runs ((h.2.2.2.2.1 (fi die2) 2 1599)),
    runs ((h.2.2.2.2.1 (fi die2) 4 5000)),
    by refine runs ((h.2.2.2.2.2 (fi dieL) 2 137462500).1 rfl ?_ ?_) <;> decide +kernel,
    by refine runs ((h.2.2.2.2.2 (fg4 dieL) 4 137462500).1 rfl ?_ ?_) <;> decide +kernel,
    by refine runs ((h.2.2.2.2.2 (fi dieH) 2 136250000).2 rfl ?_ ?_) <;> decide +kernel⟩


end C14

/-! ### 15 -/

namespace C15

/-- A register file holding `l`. -/
def rg (l : List (Nat × Word)) : List (Nat × Word) := l.foldl (fun m e => smPut m e.1 e.2) []
/-- A tap whose last reply had count 0, inputs `i`. -/
def tp (i : Nat) : Tap := { Tap.init with last := some 0, inputs := i }
def land : SafeLanding := ⟨true, 900000, 300, 300, true, false, 0x80000105, 0⟩
/-- A section in mode `m`: pair 0 on inputs 0 and 1 (differing on the core path), key input 2, brake A on output 20 with feedback 3. -/
def sf (m : Mode) (x : Saf) : State := { run m with
  bus := { Bus.init with regs := rg [(Reg.FAB_SP_STAT 0, 0xC0000000)] }
  conf := { Conf.init with
    role := some .sect
    sps := { SpsContent.blank with
      pairs := [⟨0, 1, 0, 5, 2, 0⟩, ⟨4, 5, 0, 5, 2, 0⟩], key := 2, brkA := some 20, brkFbA := some 3, tBrk := 50, safeOuts := [(20, 0)],
      cars := [0x205], neighbours := [0x205], landings := [land], tdLb := 3 } }
  tb := { TimeBase.init with tick := 137500000, sec := 3, ns := 500000 }
  fab := { Fab.init with epochs := [(0x205, ⟨1, 0⟩)] }
  saf := x }
def saf1 : Saf := { Saf.init with taps := [(0, tp 0x16), (64, tp 0x17)], aOn := [(1, 5)], bOn := 2, brkBad := [(0, 131250000), (2, 131250000)], pairs := [(0, ⟨18, 0⟩), (64, ⟨18, 0⟩), (1, ⟨4000, 0⟩)] }
def safL : Saf := { saf1 with latched := true }
def kOk (data delay : Nat) : KspResp := ⟨true, delay, false, false, data, (crc16 42 (data % 2 ^ 40)).toNat, 1999000⟩
def tape : State :=
  let s := sf .service saf1
  { s with
    bus := { Bus.init with regs := rg [(Reg.FBK_PORT_STAT 0, 0x40000000)] }
    conf := { Conf.init with role := some .car, sps := { SpsContent.blank with tapeLsb := 1500, tapeOfs := -7 } }
    fbk := { Fbk.init with ports := [(0, { SerPort.init with code := 3, lsb := 1000, busy := true })] } }
def fioUp (s : State) : State := { s with bus := { s.bus with regs := (List.range 5).foldl (fun m g => smPut m (F.FIO_GRP_STAT.LINK g).addr (setF (F.FIO_GRP_STAT.LINK g).bits 1 0)) s.bus.regs } }
def lockd (x : Saf) : State := fioUp { sf .lockout x with nv := { NonVol.init with lc := { LcRecord.init with lockout := true } }, fio := { Fio.init with dies := [(2, { Die.init with outs := [(4, ⟨false, true, false, 4, 7, 3⟩)] })] } }
def safR (ns : Nat) : Saf := { safL with taps := [(0, tp 0x17), (64, tp 0x17)], rstHold := some ns, trip := 5, pairs := [(0, ⟨18, 3⟩)] }
def cmd (a : Nat) (v : Word) (s : State) : State := armGuard a v s
def dg (op : Nat) : Word := setF F.SAF_DIAG_CMD.OP.bits op 0
def old : State := { sf .service saf1 with nv := { NonVol.init with lc := { LcRecord.init with proof := 1 } }, tb := { TimeBase.init with sec := 631152002 } }
/-- A telegram of KIND `k` from device 2.5 with SEQ `q` and payload `p`. -/
def tel (k q : Nat) (p : List Byte) : List Byte :=
  let b := [1, BitVec.ofNat 8 k] ++ leBytes 2 0x205 ++ leBytes 2 0 ++ leBytes 2 1 ++ leBytes 4 q ++ leBytes 4 3 ++ leBytes 4 400000 ++ leBytes 2 p.length ++ [0, 0] ++ p
  b ++ wordBytes (shaftCrc (sf .service saf1) b)
/-- A header from device 2.5 at epoch 1 on port 0, to this device. -/
def hd : Hdr := ⟨0, 0x205, 0, 1, 0, false, 7, 0x20⟩
def pay (n : Nat) : List Byte := leBytes n 0xFEDCBA98765432100123456789
def safT : Saf := { saf1 with carTels := [(0x205, ⟨some 0xFFFFFFFF, 3, false, 0, 0, 0, 0⟩)] }
def safW : Saf := { saf1 with
  carTels := [(0x205, ⟨some 1, 137000000, true, 0, 0, 0, 0⟩)]
  secTels := [(0x205, ⟨some 1, 137000000, true, 0, []⟩)]
  permits := [(0x205, { PermitTel.init with seq := some 1, alive := true, tick := 137000000 })]
  nodes := [(37, ⟨some 3, 3, 137000000, true, PairSt.init⟩), (101, ⟨some 3, 3, 137000000, true, PairSt.init⟩)] }
def ilk : List Byte :=
  let b : List Byte := [1, 6, 5, 1, 4, 0, 3, 0, 0, 0, 0, 0]
  b ++ wordBytes (shaftCrc (sf .service saf1) b)

/-- The hypotheses of FaultsAndDiscrepanciesEnterLockOut are met. -/
theorem witness_FaultsAndDiscrepanciesEnterLockOut (h : Obligations.FaultsAndDiscrepanciesEnterLockOut) :
    (∃ t, exec (Instr.safetyCoreLockstepError) (sf Mode.service saf1) = .next t) ∧
    (∃ t, exec (Instr.safetyCoreLockstepError) (sf Mode.service safL) = .next t) ∧
    (∃ t, exec (Instr.eclipseSelftest false) (sf Mode.standby saf1) = .next t) ∧
    (∃ t, exec (Instr.sramScrub true) (sf Mode.standby saf1) = .next t) ∧
    (∃ t, exec (Instr.mramScrub (some 4096)) (sf Mode.standby saf1) = .next t) ∧
    (∃ t, exec (Instr.eccDoubleOnAccess 0 sramBase) (sf Mode.watch saf1) = .next t) ∧
    (∃ t, exec (Instr.brakeFeedbackTimeout 0) (sf Mode.rescue saf1) = .next t) ∧
    (∃ t, exec (Instr.eclipseSelftest true) (sf Mode.rescue saf1) = .next t) ∧
    (∃ t, exec (Instr.sramScrub false) (sf Mode.rescue saf1) = .next t) ∧
    (∃ t, exec (Instr.mramScrub none) (sf Mode.rescue saf1) = .next t) ∧
    (∃ t, exec (Instr.mramScrub (some 8388608)) (sf Mode.rescue saf1) = .next t) ∧
    (∃ t, exec (Instr.discrepancyTick) (sf Mode.service saf1) = .next t) ∧
    (∃ t, exec (Instr.discrepancyTick) (sf Mode.service saf1) = .next t) ∧
    (∃ t, exec (Instr.discrepancyTick) (sf Mode.service saf1) = .next t) ∧
    (∃ t, exec (Instr.kspTransactionDone 0 (kOk 78187493530 5)) (tape) = .next t) :=
  ⟨by refine runs (h.1.1 (sf .service saf1) .safetyCoreLockstepError 2 3 0 ?_ ?_ (.inl ⟨rfl, ?_, ?_, ?_⟩)) <;> decide +kernel,
    by refine runs (h.1.1 (sf .service safL) .safetyCoreLockstepError 2 3 0 ?_ ?_ (.inl ⟨rfl, ?_, ?_, ?_⟩)) <;> decide +kernel,
    by refine runs (h.1.1 (sf .standby saf1) (.eclipseSelftest false) 1 4 0 ?_ ?_ (.inr (.inl ⟨rfl, ?_, ?_, ?_, ?_⟩))) <;> decide +kernel,
    by refine runs (h.1.1 (sf .standby saf1) (.sramScrub true) 1 2 0 ?_ ?_ (.inr (.inr (.inl ⟨rfl, ?_, ?_, ?_, ?_⟩)))) <;> decide +kernel,
    by refine runs (h.1.1 (sf .standby saf1) (.mramScrub (some 0x1000)) 1 2 0 ?_ ?_ (.inr (.inr (.inr (.inl ⟨0x1000, rfl, ?_, ?_, ?_, ?_, ?_⟩))))) <;> decide +kernel,
    by refine runs (h.1.1 (sf .watch saf1) (.eccDoubleOnAccess 0 sramBase) 1 2 0 ?_ ?_ (.inr (.inr (.inr (.inr (.inl ⟨0, sramBase, rfl, ?_, ?_, ?_, ?_, ?_, ?_⟩)))))) <;> decide +kernel,
    by refine runs (h.1.1 (sf .rescue saf1) (.brakeFeedbackTimeout 0) 3 41 20 ?_ ?_ (.inr (.inr (.inr (.inr (.inr ⟨0, 131250000, 131250000, 20, 3, rfl, ?_, ?_, ?_, ?_, ?_, ?_, ?_, ?_, ?_⟩)))))) <;> decide +kernel,
    by refine runs ((h.1.2 (sf .rescue saf1) ?_).1) <;> decide +kernel,
    by refine runs ((h.1.2 (sf .rescue saf1) ?_).2.1) <;> decide +kernel,
    by refine runs ((h.1.2 (sf .rescue saf1) ?_).2.2.1) <;> decide +kernel,
    by refine runs ((h.1.2 (sf .rescue saf1) ?_).2.2.2 0x800000 ?_ ?_) <;> decide +kernel,
    by refine runs (h.2.1 (sf .service saf1) 0 ⟨0, 1, 0, 5, 2, 0⟩ 0 18 ?_ ?_ ?_ ?_ (fun _ => ?_) ?_) <;> decide +kernel,
    by refine runs (h.2.1 (sf .service saf1) 0 ⟨0, 1, 0, 5, 2, 0⟩ 1 18 ?_ ?_ ?_ ?_ (fun _ => ?_) ?_) <;> decide +kernel,
    by refine runs (h.2.1 (sf .service saf1) 1 ⟨4, 5, 0, 5, 2, 0⟩ 0 4000 ?_ ?_ ?_ ?_ (fun _ => ?_) ?_) <;> decide +kernel,
    by refine runs (h.2.2 tape 0 (kOk 0x123456789A 5) ?_ ?_ ?_ ?_ ?_ ?_ ?_) <;> decide +kernel⟩

/-- The hypotheses of DeliberateResetsAndDiagnostics are met. -/
theorem witness_DeliberateResetsAndDiagnostics (h : Obligations.DeliberateResetsAndDiagnostics) :
    (∃ t, exec (Instr.resetPair) (lockd (safR 500000000)) = .next t) ∧
    (∃ t, exec (Instr.resetPair) (lockd (safR 499999999)) = .next t) ∧
    (∃ t, exec (Instr.resetPair) (sf Mode.service (safR 5000000000)) = .next t) ∧
    (∃ t, exec (Instr.safResetCmd 4 (~~~24186)) (cmd Reg.SAF_RESET_CMD 24186 (lockd safL)) = .next t) ∧
    (∃ t, exec (Instr.safResetCmd 0 (~~~24186)) (cmd Reg.SAF_RESET_CMD 24186 (lockd safL)) = .next t) ∧
    (∃ t, exec (Instr.diagSuspend 4 (~~~dg 1)) (cmd Reg.SAF_DIAG_CMD (dg 1) (sf Mode.commissioning saf1)) = .next t) ∧
    (∃ t, exec (Instr.diagSuspend 4 (~~~dg 1)) (cmd Reg.SAF_DIAG_CMD (dg 1) (sf Mode.service saf1)) = .next t) ∧
    (∃ t, exec (Instr.diagResume 0 (~~~dg 2)) (cmd Reg.SAF_DIAG_CMD (dg 2) (sf Mode.service saf1)) = .next t) ∧
    (∃ t, exec (Instr.proofTestConfirm 0 (~~~dg 3)) (cmd Reg.SAF_DIAG_CMD (dg 3) (sf Mode.service saf1)) = .next t) ∧
    (∃ t, exec (Instr.proofDue) (old) = .next t) :=
  ⟨by refine runs ((h.1 (lockd (safR 500000000)) .resetPair 1 none (.inl ⟨500000000, rfl, ?_, ?_, ?_, ?_⟩)).1 ?_ ?_) <;> decide +kernel,
    by refine runs ((h.1 (lockd (safR 499999999)) .resetPair 1 (some 3) (.inl ⟨499999999, rfl, ?_, ?_, ?_, ?_⟩)).2 3 (.inl ?_)) <;> decide +kernel,
    by refine runs ((h.1 (sf .service (safR 5000000000)) .resetPair 1 none (.inl ⟨5000000000, rfl, ?_, ?_, ?_, ?_⟩)).2 7 (.inr ⟨?_, ?_⟩)) <;> decide +kernel,
    by refine runs ((h.1 (cmd Reg.SAF_RESET_CMD 0x5E7A (lockd safL)) (.safResetCmd 4 (~~~ 0x5E7A)) 2 none (.inr ⟨4, 0x5E7A, rfl, ⟨?_, ?_⟩, ?_, ?_⟩)).1 ?_ ?_) <;> decide +kernel,
    by refine runs ((h.1 (cmd Reg.SAF_RESET_CMD 0x5E7A (lockd safL)) (.safResetCmd 0 (~~~ 0x5E7A)) 2 (some 5) (.inr ⟨0, 0x5E7A, rfl, ⟨?_, ?_⟩, ?_, ?_⟩)).2 5 (.inl ?_)) <;> decide +kernel,
    by refine runs ((h.2.1 (cmd Reg.SAF_DIAG_CMD (dg 1) (sf .commissioning saf1)) 4 (dg 1) ⟨?_, ?_⟩).1 ?_ |>.1 ?_ ?_ ?_) <;> decide +kernel,
    by refine runs ((h.2.1 (cmd Reg.SAF_DIAG_CMD (dg 1) (sf .service saf1)) 4 (dg 1) ⟨?_, ?_⟩).1 ?_ |>.2 (.inr (.inl ?_))) <;> decide +kernel,
    by refine runs ((h.2.1 (cmd Reg.SAF_DIAG_CMD (dg 2) (sf .service saf1)) 0 (dg 2) ⟨?_, ?_⟩).2.1 ?_) <;> decide +kernel,
    by refine runs ((h.2.1 (cmd Reg.SAF_DIAG_CMD (dg 3) (sf .service saf1)) 0 (dg 3) ⟨?_, ?_⟩).2.2 ?_) <;> decide +kernel,
    by refine runs (h.2.2 old ?_ ?_ ?_) <;> decide +kernel⟩

/-- The hypotheses of SafetyTelegrams are met. -/
theorem witness_SafetyTelegrams (h : Obligations.SafetyTelegrams) :
    (∃ t, exec (Instr.carState hd (tel 1 0 (pay 20))) (sf Mode.service safT) = .next t) ∧
    (∃ t, exec (Instr.secState hd (tel 2 7 (leBytes 4 256 ++ pay 32))) (sf Mode.service safT) = .next t) ∧
    (∃ t, exec (Instr.permit hd (tel 3 7 (pay 32))) (sf Mode.service safT) = .next t) ∧
    (∃ t, exec (Instr.carState hd (tel 1 4294967295 (pay 20))) (sf Mode.service safT) = .next t) ∧
    (∃ t, exec (Instr.telegramWatchdogExpiry 0 517) (sf Mode.service safW) = .next t) ∧
    (∃ t, exec (Instr.telegramWatchdogExpiry 1 517) (sf Mode.service safW) = .next t) ∧
    (∃ t, exec (Instr.telegramWatchdogExpiry 2 517) (sf Mode.service safW) = .next t) ∧
    (∃ t, exec (Instr.telegramWatchdogExpiry 3 37) (sf Mode.service safW) = .next t) ∧
    (∃ t, exec (Instr.interlockTelegram 1 ilk) (sf Mode.service safW) = .next t) :=
  ⟨by refine runs ((h.1 (sf .service safT) hd (tel 1 0 (pay 20)) 1 0x205 (.carState hd (tel 1 0 (pay 20))) ⟨?_, ?_, ?_, ?_, ?_, ?_, _, rfl, ?_, ?_⟩ ?_ ?_ (.inl ⟨?_, rfl⟩)).1 ?_) <;> decide +kernel,
    by refine runs ((h.1 (sf .service safT) hd (tel 2 7 (leBytes 4 0x100 ++ pay 32)) 2 0x205 (.secState hd (tel 2 7 (leBytes 4 0x100 ++ pay 32))) ⟨?_, ?_, ?_, ?_, ?_, ?_, _, rfl, ?_, ?_⟩ ?_ ?_ (.inr (.inl ⟨?_, rfl⟩))).1 ?_) <;> decide +kernel,
    by refine runs ((h.1 (sf .service safT) hd (tel 3 7 (pay 32)) 3 0x205 (.permit hd (tel 3 7 (pay 32))) ⟨?_, ?_, ?_, ?_, ?_, ?_, _, rfl, ?_, ?_⟩ ?_ ?_ (.inr (.inr ⟨?_, rfl⟩))).1 ?_) <;> decide +kernel,
    by refine runs ((h.1 (sf .service safT) hd (tel 1 0xFFFFFFFF (pay 20)) 1 0x205 (.carState hd (tel 1 0xFFFFFFFF (pay 20))) ⟨?_, ?_, ?_, ?_, ?_, ?_, _, rfl, ?_, ?_⟩ ?_ ?_ (.inl ⟨?_, rfl⟩)).2 ?_) <;> decide +kernel,
    by refine runs (h.2.1 (sf .service safW) 0 0x205 ?_ (.inl ⟨?_, ?_, ?_⟩)) <;> decide +kernel,
    by refine runs (h.2.1 (sf .service safW) 1 0x205 ?_ (.inr (.inl ⟨?_, ?_, ?_⟩))) <;> decide +kernel,
    by refine runs (h.2.1 (sf .service safW) 2 0x205 ?_ (.inr (.inr (.inl ⟨?_, ?_, ?_⟩)))) <;> decide +kernel,
    by refine runs (h.2.1 (sf .service safW) 3 37 ?_ (.inr (.inr (.inr ⟨?_, ?_, ?_, ?_⟩)))) <;> decide +kernel,
    by refine runs (h.2.2 (sf .service safW) 1 ilk 5 ?_ ?_ ?_ ?_ ?_) <;> decide +kernel⟩


end C15

/-! ### 17 -/

namespace C17

/-- A register file holding `l`. -/
def rg (l : List (Nat × Word)) : List (Nat × Word) := l.foldl (fun m e => smPut m e.1 e.2) []
def sent0 (p : Nat) : TxFrame := { port := p, src := 0, dst := 5, epoch := 0, hops := 8, bcast := false, seq := 3, body := .wakePulse }
/-- Spine ports 0 (up, MODE 2) and 1 (enabled, all modes, seeking); landing-bus port 1 in state `lb`; node 3 admitted. -/
def sp (m : Mode) (lb : Nat) (f : Fab) : State :=
  let s := { run m with
    bus := { Bus.init with regs := rg [(Reg.FAB_SP_STAT 0, 0xC0000000), (Reg.FAB_LB_ADM_LO 1 3, 0x1234)] }
    tb := { TimeBase.init with tick := 1375000000 }
    sram := [(0x20, 7), (0x2F, 9)]
    tx := [sent0 0, sent0 1]
    fab := f }
  let t := ((s.put (F.FAB_SP_STAT.MODE 0) 2).put (F.FAB_SP_CFG.ALLOW 0) 7).put (F.FAB_SP_CFG.DS_EN 0) 1
  let u := ((t.put (F.FAB_SP_CFG.EN 1) 1).put (F.FAB_SP_CFG.ALLOW 1) 7).put (F.FAB_SP_STAT.STATE 1) 1
  (u.put (F.FAB_LB_ADM_HI.EN 1 3) 1).put (F.FAB_LB_STAT.STATE 1) lb
def spn (l : List (Nat × SpinePort)) : State := sp .watch 1 { Fab.init with spine := l }
def c (op : Nat) : Word := setF (F.FAB_SP_CMD.OP 0).bits op 0
def key (m : Mode) (v : Word) : State := armGuard Reg.FAB_KEY_LOAD v (sp m 1 Fab.init)
def kv (slot : Nat) : Word := setF F.FAB_KEY_LOAD.SLOT.bits slot (setF F.FAB_KEY_LOAD.SRC.bits 2 0)
def lbs (st : Nat) (x : LbPort) : State := sp .service st { Fab.init with lbs := [(1, x)] }
def fr (mac : Nat) : LbFrame := ⟨3, mac, 1, 0x21, [1, 2, 3]⟩
def lbp (n : Nat) : LbPort := ⟨n, 9, none, 1, some 125000000, none⟩
def wtg : LbPort := ⟨0, 9, some 125000000, 10, none, none⟩

/-- The hypotheses of SpinePortsAndKeys are met. -/
theorem witness_SpinePortsAndKeys (h : Obligations.SpinePortsAndKeys) :
    (∃ t, exec (Instr.spineLinkUp 1 2 7) (spn []) = .next t) ∧
    (∃ t, exec (Instr.spineLinkDown 0) (spn [(0, { drops := [(1374999999, 1), (125000000, 1)], test := false, pulses := 0 })]) = .next t) ∧
    (∃ t, exec (Instr.spineLinkDown 0) (spn [(0, { drops := [(1374999999, 1), (124999999, 1)], test := false, pulses := 0 })]) = .next t) ∧
    (∃ t, exec (Instr.wakePulse 0 0 (c 1)) (spn []) = .next t) ∧
    (∃ t, exec (Instr.cableTest 0 0 (c 2)) (spn []) = .next t) ∧
    (∃ t, exec (Instr.cableTest 0 1 (c 2)) (spn []) = .next t) ∧
    (∃ t, exec (Instr.wakePulse 0 1 (c 1)) (spn []) = .next t) ∧
    (∃ t, exec (Instr.wakePulse 0 1 (c 1)) (spn [(1, { drops := [], test := true, pulses := 0 })]) = .next t) ∧
    (∃ t, exec (Instr.restoreDownshiftedModes 0 0 (c 3)) (spn [(0, { drops := [(5, 1)], test := false, pulses := 0 })]) = .next t) ∧
    (∃ t, exec (Instr.cableTestDone 1 2 4095) (spn [(1, { drops := [], test := true, pulses := 2 })]) = .next t) ∧
    (∃ t, exec (Instr.cableTestDone 1 0 4095) (spn [(1, { drops := [], test := true, pulses := 0 })]) = .next t) ∧
    (∃ t, exec (Instr.frameDiscarded 1 false) (spn []) = .next t) ∧
    (∃ t, exec (Instr.frameDiscarded 1 true) (spn []) = .next t) ∧
    (∃ t, exec (Instr.fabKeyLoad 0 (~~~kv 3071)) (key Mode.watch (kv 3071)) = .next t) ∧
    (∃ t, exec (Instr.fabKeyLoad 0 (~~~kv 3072)) (key Mode.watch (kv 3072)) = .next t) ∧
    (∃ t, exec (Instr.fabKeyLoad 0 (~~~kv 1)) (key Mode.service (kv 1)) = .next t) :=
  ⟨by refine runs (h.1 (spn []) 1 2 7 ?_ ?_ ?_ ?_ ?_ ?_ ?_) <;> decide +kernel,
    by refine runs (h.2.1 (spn [(0, ⟨[(1374999999, 1), (125000000, 1)], false, 0⟩)]) 0 ?_) <;> decide +kernel,
    by refine runs (h.2.1 (spn [(0, ⟨[(1374999999, 1), (124999999, 1)], false, 0⟩)]) 0 ?_) <;> decide +kernel,
    by refine runs (((h.2.2.1 (spn []) 0 0 (c 1) ?_ ?_).1 (.wakePulse 0 0 (c 1)) 1 (.inl ⟨rfl, rfl⟩) ?_).1 ?_) <;> decide +kernel,
    by refine runs (((h.2.2.1 (spn []) 0 0 (c 2) ?_ ?_).1 (.cableTest 0 0 (c 2)) 2 (.inr ⟨rfl, rfl⟩) ?_).1 ?_) <;> decide +kernel,
    by refine runs (((h.2.2.1 (spn []) 0 1 (c 2) ?_ ?_).1 (.cableTest 0 1 (c 2)) 2 (.inr ⟨rfl, rfl⟩) ?_).2.1 ?_ ?_) <;> decide +kernel,
    by refine runs (((h.2.2.1 (spn []) 0 1 (c 1) ?_ ?_).1 (.wakePulse 0 1 (c 1)) 1 (.inl ⟨rfl, rfl⟩) ?_).2.2.1 ?_ ?_ ?_) <;> decide +kernel,
    by refine runs (((h.2.2.1 (spn [(1, ⟨[], true, 0⟩)]) 0 1 (c 1) ?_ ?_).1 (.wakePulse 0 1 (c 1)) 1 (.inl ⟨rfl, rfl⟩) ?_).2.2.2 ?_ ?_ ?_) <;> decide +kernel,
    by refine runs ((h.2.2.1 (spn [(0, ⟨[(5, 1)], false, 0⟩)]) 0 0 (c 3) ?_ ?_).2 ?_) <;> decide +kernel,
    by refine runs (h.2.2.2.1 (spn [(1, ⟨[], true, 2⟩)]) 1 2 4095 ?_ ?_ ?_) <;> decide +kernel,
    by refine runs (h.2.2.2.1 (spn [(1, ⟨[], true, 0⟩)]) 1 0 4095 ?_ ?_ ?_) <;> decide +kernel,
    by refine runs ((h.2.2.2.2.1 (spn []) 1 ?_).1) <;> decide +kernel,
    by refine runs ((h.2.2.2.2.1 (spn []) 1 ?_).2) <;> decide +kernel,
    by refine runs ((h.2.2.2.2.2 (key .watch (kv 3071)) 0 (kv 3071) 3071 32 ⟨?_, ?_⟩ ?_ ?_).1 ?_ (.inl ?_)) <;> decide +kernel,
    by refine runs ((h.2.2.2.2.2 (key .watch (kv 3072)) 0 (kv 3072) 3072 32 ⟨?_, ?_⟩ ?_ ?_).2 (.inl ?_)) <;> decide +kernel,
    by refine runs ((h.2.2.2.2.2 (key .service (kv 1)) 0 (kv 1) 1 32 ⟨?_, ?_⟩ ?_ ?_).2 (.inr ⟨?_, ?_, ?_⟩)) <;> decide +kernel⟩

/-- The hypotheses of LandingBusAdmitsItsNodes are met. -/
theorem witness_LandingBusAdmitsItsNodes (h : Obligations.LandingBusAdmitsItsNodes) :
    (∃ t, exec (Instr.lbFrameReceived 1 (fr 4660)) (lbs 1 LbPort.init) = .next t) ∧
    (∃ t, exec (Instr.lbFrameReceived 1 (fr 4661)) (lbs 1 LbPort.init) = .next t) ∧
    (∃ t, exec (Instr.lbCollision 1 10) (lbs 1 (lbp 14)) = .next t) ∧
    (∃ t, exec (Instr.lbCollision 1 10) (lbs 1 (lbp 15)) = .next t) ∧
    (∃ t, exec (Instr.foreignBeacon 1) (lbs 1 (lbp 15)) = .next t) ∧
    (∃ t, exec (Instr.plcaResume 1) (lbs 2 wtg) = .next t) :=
  ⟨by refine runs ((h.1 (lbs 1 LbPort.init) 1 (fr 0x1234) ?_ ?_).1 ?_ ?_ ?_) <;> decide +kernel,
    by refine runs ((h.1 (lbs 1 LbPort.init) 1 (fr 0x1235) ?_ ?_).2 (.inr ?_)) <;> decide +kernel,
    by refine runs ((h.2.1 (lbs 1 (lbp 14)) 1 10 ?_ ?_).1 ?_ ?_ ?_) <;> decide +kernel,
    by refine runs ((h.2.1 (lbs 1 (lbp 15)) 1 10 ?_ ?_).2.1 ?_ ?_) <;> decide +kernel,
    by refine runs ((h.2.1 (lbs 1 (lbp 15)) 1 10 ?_ ?_).2.2) <;> decide +kernel,
    by refine runs (h.2.2 (lbs 2 wtg) 1 125000000 ?_ ?_ rfl ?_) <;> decide +kernel⟩


end C17

/-! ### 18 -/

namespace C18

/-- A register file holding `l`. -/
def rg (l : List (Nat × Word)) : List (Nat × Word) := l.foldl (fun m e => smPut m e.1 e.2) []
def car1 : CarRec := { CarRec.init with held := true, owner := true, id := 9, posValid := true, formed := true, pos := 900000, arrLen := 400000 }
def pe (st : Nat) : PeerSt := ⟨st, 1371250000, 125000000, 1, false⟩
def resG (o : Nat) : ResEntry := ResEntry.plain 7 2 false true 800000 5100000 78 o 0 []
def lc1 : LcRecord := { LcRecord.init with state := .commissioned, epoch := 4 }
/-- A section in mode `m`, ports 0 and 2 up, device 2.5 heard at epoch 1 and watched by peer entry 3 in state `ps`. -/
def nt (m : Mode) (ps : Nat) (f : Fab) (lc : LcRecord) : State :=
  let s := { run m with
    bus := { Bus.init with regs := rg [(Reg.FAB_SP_STAT 0, 0xC0000000), (Reg.FAB_SP_STAT 2, 0xC0000000)] }
    tb := { TimeBase.init with tick := 1375000000, sec := 77, ns := 5 }
    conf := { Conf.init with role := some .sect, sps := { SpsContent.blank with key := 2 } }
    nv := { NonVol.init with lc := lc, serial := 11 }
    cars := [(2, car1)]
    trj := { Trj.init with axes := [(2, { Axis.init with st := .running })] }
    saf := { Saf.init with taps := [(0, { Tap.init with last := some 0, inputs := 4 })] }
    bss := { Bss.init with res := [(0, resG 0x205), (3, resG 0x206)] }
    fab := { f with epochs := [(0, ⟨4, 0⟩), (0x205, ⟨1, 0⟩)], peers := [(3, pe ps)] } }
  let t := ((s.put (F.FAB_PEER_CFG.EN 3) 1).put (F.FAB_PEER_CFG.ID 3) 0x205).put F.FAB_NET_CFG.TAKE_MAX 100
  let u := ((t.put (F.FAB_GRT.EN 2) 1).put (F.FAB_GRT.PORT 2) 2).put (F.FAB_COVER.EN 1) 1
  ((u.put (F.FAB_COVER.ID 1) 0x205).put (F.FAB_COVER.RANK 1) 3).put (F.FAB_COVER.CHG_OUT 1) 30
def n0 (ps : Nat) : State := nt .service ps Fab.init lc1
def fabSettle : Fab := { Fab.init with settle := some 1237500000 }
def fabHeard : Fab := { Fab.init with ownHeard := some 1375000000 }
def hg : Hdr := ⟨0, 0x205, 0, 1, 1, true, 7, 0x20⟩
def hd : Hdr := ⟨0, 0x205, 0, 1, 0, false, 7, 0x20⟩
def an (ser fl : Nat) : AnnouncePl := ⟨ser, 0, 3, fl, 125000, 0, 1000⟩
theorem heard : ∀ x, smFind (n0 2).fab.epochs hg.src = some x → newerEpoch x.epoch hg.epoch = false := by
  intro x h; cases h; decide
def hown : Hdr := ⟨0, 0, 0, 4, 1, true, 7, 0x20⟩
def hf (dst hops : Nat) : Hdr := ⟨0, 0x205, dst, 1, hops, false, 9, 0x20⟩
def mk : TakeMarker := ⟨0x205, 2, 1, 4⟩
def lcT : LcRecord := { lc1 with take := some mk }
/-- Slot 1's shadow holds the image of an empty operational set and behind it that of an empty safety set, or nothing. -/
def shadow : List (Nat × Byte) := putBytes (putBytes [] (shadowBase 1) (bankImage 0x4F 2 [])) (shadowBase 1 + 16) (bankImage 0x53 2 [])
def copy (m : List (Nat × Byte)) : State := { nt .watch 2 Fab.init lcT with nv := { NonVol.init with lc := lcT, mram := m } }
def cm (a : Nat) (v : Word) (s : State) : State := armGuard a v s
def op (f : FRef) (n : Nat) : Word := setF f.bits n 0
def v1 : Word := op F.FAB_SEC_CMD.OP 1
def v2 : Word := op F.FAB_SEC_CMD.OP 2
def carNt : State := { n0 2 with conf := { Conf.init with role := some .car } }
def closed : Fab := { Fab.init with closeCmd := true }
def lcA : LcRecord := { lc1 with actId := 0x205, fabricId := 3, chgOut := some 30 }
def vs : Word := op F.FAB_STBY_CMD.OP 1
def lcF : LcRecord := { lc1 with fenced := true, fabricId := 3 }
def vf : Word := op F.FAB_FENCE_CMD.OP 1

/-- The hypotheses of FramesAreHeardAndForwarded are met. -/
theorem witness_FramesAreHeardAndForwarded (h : Obligations.FramesAreHeardAndForwarded) :
    (∃ t, exec (Instr.announce hg (an 5 1)) (n0 2) = .next t) ∧
    (∃ t, exec (Instr.announce hown (an 5 1)) (n0 2) = .next t) ∧
    (∃ t, exec (Instr.fenced hg { serial := 5, newer := 2 }) (n0 2) = .next t) ∧
    (∃ t, exec (Instr.stale hg { id := 0, epoch := 5 }) (n0 2) = .next t) ∧
    (∃ t, exec (Instr.heartbeat hg { mode := 3, flags := 1 }) (n0 2) = .next t) ∧
    (∃ t, exec (Instr.takeover hg { id := 517, epoch := 2, own := 9, serial := 4 }) (n0 2) = .next t) ∧
    (∃ t, exec (Instr.app hd [1, 2]) (n0 2) = .next t) ∧
    (∃ t, exec (Instr.peerDead 3) (n0 1) = .next t) ∧
    (∃ t, exec (Instr.frameForward (hf 513 2) 5 [3]) (n0 2) = .next t) ∧
    (∃ t, exec (Instr.frameForward (hf 513 1) 5 [3]) (n0 2) = .next t) ∧
    (∃ t, exec (Instr.frameForward (hf 769 1) 5 [3]) (n0 2) = .next t) :=
  ⟨by refine runs ((h.1 (n0 2) hg (an 5 1)).1 ⟨?_, ?_, ?_, ?_, ?_, heard⟩) <;> decide +kernel,
    by refine runs ((h.1 (n0 2) hown (an 5 1)).2 ?_ ?_ ?_ ?_ ?_ ?_ (fun x h => by cases h; decide) ?_ ?_ ?_ ?_) <;> decide +kernel,
    by refine runs ((h.2.1 (n0 2) hg ⟨?_, ?_, ?_, ?_, ?_, heard⟩).1 ⟨5, 2⟩) <;> decide +kernel,
    by refine runs ((h.2.1 (n0 2) hg ⟨?_, ?_, ?_, ?_, ?_, heard⟩).2.1 ⟨0, 5⟩ ?_ ?_ ?_ ?_) <;> decide +kernel,
    by refine runs ((h.2.1 (n0 2) hg ⟨?_, ?_, ?_, ?_, ?_, heard⟩).2.2.1 ⟨3, 1⟩ ⟨?_, _, rfl, ?_⟩) <;> decide +kernel,
    by refine runs ((h.2.1 (n0 2) hg ⟨?_, ?_, ?_, ?_, ?_, heard⟩).2.2.2 ⟨0x205, 2, 9, 4⟩ ⟨?_, _, rfl, ?_⟩ ?_) <;> decide +kernel,
    by refine runs (h.2.2.1 (n0 2) hd [1, 2] ⟨?_, ?_, ?_, ?_, ?_, ?_, _, rfl, ?_, ?_⟩) <;> decide +kernel,
    by refine runs (h.2.2.2.1 (n0 1) 3 ?_ ?_ ?_ ?_) <;> decide +kernel,
    by refine runs ((h.2.2.2.2 (n0 2) (hf 0x201 2) 5 [3] ?_ ?_ ?_ ⟨?_, _, rfl, ?_⟩ (fun x h => by cases h; decide) ?_ ?_ ?_ ?_ ?_ ?_ ?_).1 2 ?_ ?_ ?_ ?_ ?_) <;> decide +kernel,
    by refine runs ((h.2.2.2.2 (n0 2) (hf 0x201 1) 5 [3] ?_ ?_ ?_ ⟨?_, _, rfl, ?_⟩ (fun x h => by cases h; decide) ?_ ?_ ?_ ?_ ?_ ?_ ?_).2.1 2 ?_ ?_ ?_) <;> decide +kernel,
    by refine runs ((h.2.2.2.2 (n0 2) (hf 0x301 1) 5 [3] ?_ ?_ ?_ ⟨?_, _, rfl, ?_⟩ (fun x h => by cases h; decide) ?_ ?_ ?_ ?_ ?_ ?_ ?_).2.2 (.inl ?_)) <;> decide +kernel⟩

/-- The hypotheses of NetworkDutiesAndTakeOvers are met. -/
theorem witness_NetworkDutiesAndTakeOvers (h : Obligations.NetworkDutiesAndTakeOvers) :
    (∃ t, exec (Instr.ptpSecond) (n0 2) = .next t) ∧
    (∃ t, exec (Instr.heartbeatSend) (n0 2) = .next t) ∧
    (∃ t, exec (Instr.settlingEnd) (nt Mode.service 1 fabSettle lc1) = .next t) ∧
    (∃ t, exec (Instr.takeoverStart 1) (nt Mode.watch 2 Fab.init lc1) = .next t) ∧
    (∃ t, exec (Instr.takeoverCopyDone) (copy shadow) = .next t) ∧
    (∃ t, exec (Instr.takeoverCopyDone) (copy []) = .next t) ∧
    (∃ t, exec (Instr.takeMaxExpiry 3) (n0 2) = .next t) ∧
    (∃ t, exec (Instr.sectionClose 0 (~~~v1)) (cm Reg.FAB_SEC_CMD v1 (n0 2)) = .next t) ∧
    (∃ t, exec (Instr.sectionClose 0 (~~~v1)) (cm Reg.FAB_SEC_CMD v1 carNt) = .next t) ∧
    (∃ t, exec (Instr.sectionReopen 0 (~~~v2)) (cm Reg.FAB_SEC_CMD v2 (nt Mode.standby 2 closed lc1)) = .next t) ∧
    (∃ t, exec (Instr.sectionReopen 0 (~~~v2)) (cm Reg.FAB_SEC_CMD v2 (nt Mode.service 2 closed lc1)) = .next t) ∧
    (∃ t, exec (Instr.standbyGiveUpId 4 (~~~vs)) (cm Reg.FAB_STBY_CMD vs (nt Mode.watch 2 Fab.init lcA)) = .next t) ∧
    (∃ t, exec (Instr.standbyGiveUpId 0 (~~~vs)) (cm Reg.FAB_STBY_CMD vs (nt Mode.watch 2 Fab.init lcA)) = .next t) ∧
    (∃ t, exec (Instr.fenceRelease 4 (~~~vf)) (cm Reg.FAB_FENCE_CMD vf (nt Mode.lockout 2 fabHeard lcF)) = .next t) ∧
    (∃ t, exec (Instr.fenceRelease 4 (~~~vf)) (cm Reg.FAB_FENCE_CMD vf (nt Mode.lockout 2 Fab.init lcF)) = .next t) :=
  ⟨by refine runs ((h.1 (n0 2) ?_ ?_ ?_).1) <;> decide +kernel,
    by refine runs ((h.1 (n0 2) ?_ ?_ ?_).2) <;> decide +kernel,
    by refine runs (h.2.1 (nt .service 1 fabSettle lc1) 1237500000 rfl ?_) <;> decide +kernel,
    by refine runs (h.2.2.1 (nt .watch 2 Fab.init lc1) 1 0x205 2 ?_ ?_ ?_ ?_ ?_ ?_ ?_ ?_ ?_ ?_) <;> decide +kernel,
    by refine runs (h.2.2.2.1 (copy shadow) mk ?_ ?_ ?_) <;> decide +kernel,
    by refine runs (h.2.2.2.1 (copy []) mk ?_ ?_ ?_) <;> decide +kernel,
    by refine runs (h.2.2.2.2.1 (n0 2) 3 0x205 ?_ ?_ ?_ ?_ ?_ ?_) <;> decide +kernel,
    by refine runs ((h.2.2.2.2.2.1 (cm Reg.FAB_SEC_CMD v1 (n0 2)) 0 v1 ⟨?_, ?_⟩).1 ?_ |>.1 ?_) <;> decide +kernel,
    by refine runs ((h.2.2.2.2.2.1 (cm Reg.FAB_SEC_CMD v1 carNt) 0 v1 ⟨?_, ?_⟩).1 ?_ |>.2 ?_) <;> decide +kernel,
    by refine runs ((h.2.2.2.2.2.1 (cm Reg.FAB_SEC_CMD v2 (nt .standby 2 closed lc1)) 0 v2 ⟨?_, ?_⟩).2 ?_ ?_ ?_ |>.1 (.inr (.inl ?_))) <;> decide +kernel,
    by refine runs ((h.2.2.2.2.2.1 (cm Reg.FAB_SEC_CMD v2 (nt .service 2 closed lc1)) 0 v2 ⟨?_, ?_⟩).2 ?_ ?_ ?_ |>.2 ?_ ?_ ?_) <;> decide +kernel,
    by refine runs ((h.2.2.2.2.2.2.1 (cm Reg.FAB_STBY_CMD vs (nt .watch 2 Fab.init lcA)) 4 vs ⟨?_, ?_⟩).1 ?_ ?_ (.inl ?_) ?_ ?_) <;> decide +kernel,
    by refine runs ((h.2.2.2.2.2.2.1 (cm Reg.FAB_STBY_CMD vs (nt .watch 2 Fab.init lcA)) 0 vs ⟨?_, ?_⟩).2 ?_) <;> decide +kernel,
    by refine runs ((h.2.2.2.2.2.2.2 (cm Reg.FAB_FENCE_CMD vf (nt .lockout 2 fabHeard lcF)) 4 vf ⟨?_, ?_⟩ ?_ ?_ ?_).1 ?_) <;> decide +kernel,
    by refine runs ((h.2.2.2.2.2.2.2 (cm Reg.FAB_FENCE_CMD vf (nt .lockout 2 Fab.init lcF)) 4 vf ⟨?_, ?_⟩ ?_ ?_ ?_).2 ?_ ?_) <;> decide +kernel⟩


end C18

/-! ### 19 -/

namespace C19

def fw : State := (run .watch).setReg Reg.TIM_CFG 0x800FF8F8
def fw5 : State := { fw with tb := { fw.tb with sec := 5 } }
def fw3 : State := { fw with tb := { fw.tb with sec := 3 } }
def fw9 : State := { fw with tb := { fw.tb with ns := 9 } }
def fwBig : State := { fw with tb := { fw.tb with sec := 2 ^ 40 + 7, ns := 9 } }
def fwFull : State := setTxq 1 (List.replicate 8 ⟨1, 2, 3, 4⟩) fw
def fwS : State := (run .standby).setReg Reg.TIM_CFG 0x800FF8F8
def fwHold : State := setHold Reg.TIM_STEP_LO 0 1000 fwS
def fwHold1 : State := setHold Reg.TIM_STEP_LO 0 1001 fwS
def p0 : State := run .watch
def p7 : State := {p0 with tb := {p0.tb with goodOffs := 7}}
def off (n:Nat) : PtpTime := ⟨10, 100+n⟩
def p9 : State := modPort 1 (fun q => {q with t1 := some 5, t2 := some 600, t4 := some 2000}) p0

/-- The hypotheses of ClockTakesAddendStepsAndSnapshots are met. -/
theorem witness_ClockTakesAddendStepsAndSnapshots (h : Obligations.ClockTakesAddendStepsAndSnapshots) :
    (∃ t, exec (Instr.addendWrite 0 (2147483648 - 1073741)) (fw) = .next t) ∧
    (∃ t, exec (Instr.addendWrite 0 (2147483648 + 1073741)) (fw) = .next t) ∧
    (∃ t, exec (Instr.addendWrite 0 (2147483648 + 1073742)) (fw) = .next t) ∧
    (∃ t, exec (Instr.addendWrite 0 2147483648) (run Mode.watch) = .next t) ∧
    (∃ t, exec (Instr.clockStep 0 4294967295) (fw5) = .next t) ∧
    (∃ t, exec (Instr.clockStep 0 4294967295) (fw3) = .next t) ∧
    (∃ t, exec (Instr.clockStep 0 0) (fwHold) = .next t) ∧
    (∃ t, exec (Instr.clockStep 0 0) (fwHold1) = .next t) ∧
    (∃ t, exec (Instr.setSync 0 1) (fw) = .next t) ∧
    (∃ t, exec (Instr.clearSync 0 2) (fw) = .next t) ∧
    (∃ t, exec (Instr.clearSync 0 2) (fw.put F.TIM_STAT.SYNC 1) = .next t) ∧
    (∃ t, exec (Instr.nowNsRead 0) (fwBig) = .next t) ∧
    (∃ t, exec (Instr.snapArm 0 2147483653) (fw) = .next t) ∧
    (∃ t, exec (Instr.snapArm 0 2147483653) (fw9) = .next t) ∧
    (∃ t, exec (Instr.snapDisarm 0 5) (fw) = .next t) ∧
    (∃ t, exec (Instr.timedSnapshotFire) (fw9.setReg Reg.TIM_SNAP_AT_NS 2147483653) = .next t) ∧
    (∃ t, exec (Instr.timedSnapshotFire) (fw) = .next t) ∧
    (∃ t, exec (Instr.timedSnapshotFire) (fw.setReg Reg.TIM_SNAP_AT_NS 2147483653) = .next t) :=
  ⟨runs (((h.1 fw 0 (0x80000000-1073741) (by decide) (by decide)).1 (by decide) (by decide) (by decide))),
    runs (((h.1 fw 0 (0x80000000+1073741) (by decide) (by decide)).1 (by decide) (by decide) (by decide))),
    runs (((h.1 fw 0 (0x80000000+1073742) (by decide) (by decide)).2 (by decide))),
    runs (((h.1 (run .watch) 0 (0x80000000) (by decide) (by decide)).2 (by decide))),
    runs (((h.2.1 fw5 0 0xFFFFFFFF (-4294967296) (by decide) (by decide) (by decide)).1 (by decide) (by decide))),
    runs (((h.2.1 fw3 0 0xFFFFFFFF (-4294967296) (by decide) (by decide) (by decide)).1 (by decide) (by decide))),
    runs (((h.2.1 fwHold 0 0 1000 (by decide) (by decide) (by decide)).1 (by decide) (by decide))),
    runs (((h.2.1 fwHold1 0 0 1001 (by decide) (by decide) (by decide)).2 (by decide))),
    runs (((h.2.2.1 fw 0 1 (by decide) (by decide)).1 (by decide) (by decide))),
    runs (((h.2.2.1 fw 0 2 (by decide) (by decide)).2.1 (by decide) (by decide))),
    runs (((h.2.2.1 (fw.put F.TIM_STAT.SYNC 1) 0 2 (by decide) (by decide)).2.1 (by decide) (by decide))),
    runs ((h.2.2.2.1 fwBig 0 (by decide))),
    runs (((h.2.2.2.2.1 fw 0 0x80000005 5 (by decide) (by decide) (by decide)).1 (by decide) (by decide))),
    runs (((h.2.2.2.2.1 fw9 0 0x80000005 5 (by decide) (by decide) (by decide)).2.1 (by decide) (by decide))),
    runs (((h.2.2.2.2.1 fw 0 5 5 (by decide) (by decide) (by decide)).2.2 (by decide))),
    runs ((h.2.2.2.2.2 (fw9.setReg Reg.TIM_SNAP_AT_NS 0x80000005) (by decide)).1 (by decide) (by decide) (fun b => by simp [SnapTaken, fw9, fw, run, State.setReg, State.reset, Bus.init, smFind])),
    runs (((h.2.2.2.2.2 fw (by decide)).2 (.inl (by decide)))),
    runs (((h.2.2.2.2.2 (fw.setReg Reg.TIM_SNAP_AT_NS 0x80000005) (by decide)).2 (.inr (by decide))))⟩

/-- The hypotheses of SyncFollowsTheOffsets are met. -/
theorem witness_SyncFollowsTheOffsets (h : Obligations.SyncFollowsTheOffsets) :
    (∃ t, exec (Instr.ptpEventMessage 0 (off 50) (PtpEvent.sync 0 (some (off 0, 0)))) (p7) = .next t) ∧
    (∃ t, exec (Instr.ptpEventMessage 0 (off 51) (PtpEvent.sync 0 (some (off 0, 0)))) (p7) = .next t) ∧
    (∃ t, exec (Instr.ptpEventMessage 0 (off 101) (PtpEvent.sync 0 (some (off 0, 0)))) (p7.put F.TIM_STAT.SYNC 1) = .next t) ∧
    (∃ t, exec (Instr.ptpEventMessage 1 (off 3) (PtpEvent.sync 4 none)) (p0) = .next t) ∧
    (∃ t, exec (Instr.ptpEventMessage 1 (off 3) (PtpEvent.pdelayResp 4 (off 2))) (p0) = .next t) ∧
    (∃ t, exec (Instr.txTimestampEnqueue 1 2 4 (off 3)) (p0) = .next t) ∧
    (∃ t, exec (Instr.ptpGeneralMessage 1 (PtpGeneral.pdelayFollowUp 4 { sec := 0, ns := 700 })) (p9) = .next t) ∧
    (∃ t, exec (Instr.syncReceiptTimeout) (p0.put F.TIM_STAT.SYNC 1) = .next t) ∧
    (∃ t, exec (Instr.txTimestampEnqueue 1 3 77 (off 0)) (fw) = .next t) ∧
    (∃ t, exec (Instr.txTimestampEnqueue 1 3 77 (off 0)) (fwFull) = .next t) ∧
    (∃ t, exec (Instr.txqNsRead 0 1) (fwFull) = .next t) ∧
    (∃ t, exec (Instr.txqPop 0 1 1) (fwFull) = .next t) :=
  ⟨runs ((h.1 p7 0 (off 50) (off 0) 0 50 50 0 (by decide) (by decide) (by decide) (by decide) (by decide) (by decide) _ _ (.inl ⟨rfl,rfl⟩) (by decide))),
    runs ((h.1 p7 0 (off 51) (off 0) 0 51 50 0 (by decide) (by decide) (by decide) (by decide) (by decide) (by decide) _ _ (.inl ⟨rfl,rfl⟩) (by decide))),
    runs ((h.1 (p7.put F.TIM_STAT.SYNC 1) 0 (off 101) (off 0) 0 101 50 0 (by decide) (by decide) (by decide) (by decide) (by decide) (by decide) _ _ (.inl ⟨rfl,rfl⟩) (by decide))),
    runs (((h.2.1 p0 1 (off 3) (by decide) (by decide) (by decide)).1 4)),
    runs (((h.2.1 p0 1 (off 3) (by decide) (by decide) (by decide)).2.1 4 (off 2))),
    runs (((h.2.1 p0 1 (off 3) (by decide) (by decide) (by decide)).2.2.1 4)),
    runs (((h.2.1 p9 1 (⟨0,700⟩) (by decide) (by decide) (by decide)).2.2.2.1 4 5 600 2000 (by decide) (by decide) (by decide))),
    runs ((h.2.2.1 (p0.put F.TIM_STAT.SYNC 1) (by decide) (by decide) (by decide))),
    runs (((h.2.2.2.1 fw 1 3 77 (off 0) (by decide) (by decide) (by decide) (by decide)).1 (by decide))),
    runs (((h.2.2.2.1 fwFull 1 3 77 (off 0) (by decide) (by decide) (by decide) (by decide)).2 (by decide))),
    runs (((h.2.2.2.2 fwFull 0 1 ⟨1,2,3,4⟩ (List.replicate 7 ⟨1,2,3,4⟩)  (by decide) (by decide)).1)),
    runs (((h.2.2.2.2 fwFull 0 1 ⟨1,2,3,4⟩ (List.replicate 7 ⟨1,2,3,4⟩)  (by decide) (by decide)).2 (by decide)))⟩

/-- TIM_CMD without FW is ignored. -/
theorem witness_ClockTakesAddendStepsAndSnapshots_ignored (h : Obligations.ClockTakesAddendStepsAndSnapshots) :
    (∃ t, exec (.setSync 0 2) (run .watch) = .next t) ∧ (∃ t, exec (.clearSync 0 2) (run .watch) = .next t) :=
  ⟨by refine runs ((h.2.2.1 (run .watch) 0 2 ?_ ?_).2.2 ?_).1 <;> decide +kernel,
    by refine runs ((h.2.2.1 (run .watch) 0 2 ?_ ?_).2.2 ?_).2 <;> decide +kernel⟩

/-- The Announce clauses of SyncFollowsTheOffsets, whatever this device's own quality is: a better priority1 on port 1, and a worse one. -/
theorem witness_SyncFollowsTheOffsets_announce (h : Obligations.SyncFollowsTheOffsets) :
    (∃ t, exec (.ptpGeneralMessage 1 (.announce ⟨0, 2, 3, 4, 5⟩)) (p0.put F.TIM_CFG.PRIO1 9) = .next t) ∧
    (∃ t, exec (.ptpGeneralMessage 1 (.announce ⟨10, 2, 3, 4, 5⟩)) (p0.put F.TIM_CFG.PRIO1 9) = .next t) := by
  have hb : vecBetter ⟨0, 2, 3, 4, 5⟩ ⟨9, Config.ptpQuality, (p0.put F.TIM_CFG.PRIO1 9).get F.TIM_CFG.PRIO2,
      Config.ptpClockId (p0.put F.TIM_CFG.PRIO1 9).nv.serial, 0⟩ = true := by simp [vecBetter]
  have hw : vecBetter ⟨10, 2, 3, 4, 5⟩ ⟨9, Config.ptpQuality, (p0.put F.TIM_CFG.PRIO1 9).get F.TIM_CFG.PRIO2,
      Config.ptpClockId (p0.put F.TIM_CFG.PRIO1 9).nv.serial, 0⟩ = false := by simp [vecBetter]
  have ho : ownVector (p0.put F.TIM_CFG.PRIO1 9) = some ⟨9, Config.ptpQuality, (p0.put F.TIM_CFG.PRIO1 9).get F.TIM_CFG.PRIO2,
      Config.ptpClockId (p0.put F.TIM_CFG.PRIO1 9).nv.serial, 0⟩ := by
    rw [ownVector, if_pos (by decide +kernel), show (p0.put F.TIM_CFG.PRIO1 9).get F.TIM_CFG.PRIO1 = 9 from (by decide +kernel)]
  have hp := (h.2.1 (p0.put F.TIM_CFG.PRIO1 9) 1 (off 3) (by decide +kernel) (by decide +kernel) (by decide +kernel)).2.2.2.2
  exact ⟨runs ((hp _ (fun q _ => rfl)).1 (fun o e => by rw [ho] at e; cases e; exact hb)),
    runs ((hp _ (fun q _ => rfl)).2 _ ho hw)⟩

end C19

/-- The bytes of a STALE frame before its CRC, from 18 Tables 18.1 to 18.3. -/
theorem test_stale_frame :
    (frameBytes { port := 0, src := 0x301, dst := 0x302, epoch := 5, hops := 1, bcast := false, seq := 9, body := .stale ⟨0x302, 6⟩ }).take 20 =
      [1, 0x0D, 0x01, 0x03, 0x02, 0x03, 5, 0, 1, 0, 4, 0, 9, 0, 0, 0, 0x02, 0x03, 6, 0] := by
  decide +kernel

/-! ### 20 -/

namespace C20

def ev (u : Nat) : RecEv := ⟨1, u, 0x23, 0x10203040506, 999999999, [1, 2, 3]⟩
def r0 : Rec := { Rec.init with recording := true }
def rc (m : Mode) (next : Nat) (r : Rec) (full : Nat) : State :=
  let s := { run m with
    rcd := r
    nv := { NonVol.init with mram := [(0x3000, 9), (0x430001, 5), (0x43007F, 1), (0x82FFFF, 3), (0x830000, 4)] } }
  ((s.put F.REC_STAT.NEXT next).put F.REC_STAT.FULL full).setReg Reg.REC_LOST 0x55667788
def rStart : Rec := { r0 with start := some (ev 3), safety := [ev 4], general := [ev 5] }
def rSafe : Rec := { r0 with safety := [ev 300, ev 4], general := [ev 5] }
def rGen : Rec := { r0 with general := [ev 5] }
def gd (m : Mode) (v : Word) : State := armGuard Reg.REC_CLEAR v (rc m 7 r0 0)
def rClr : Rec := { rGen with clear := some (2, 4294967295) }
def rFull : Rec := { r0 with general := List.replicate 32 (ev 5) }
def rFullC : Rec := { rFull with clear := some (2, 7) }

/-- The hypotheses of RecordsAreSealedInOrder are met. -/
theorem witness_RecordsAreSealedInOrder (h : Obligations.RecordsAreSealedInOrder) :
    (∃ t, exec (Instr.recordWrite) (rc Mode.service 0 rStart 0) = .next t) ∧
    (∃ t, exec (Instr.recordWrite) (rc Mode.service 1 rSafe 0) = .next t) ∧
    (∃ t, exec (Instr.recordWrite) (rc Mode.service 65535 rGen 0) = .next t) ∧
    (∃ t, exec (Instr.recClear 1 (~~~49642)) (gd Mode.commissioning 49642) = .next t) ∧
    (∃ t, exec (Instr.recClear 1 (~~~49642)) (gd Mode.service 49642) = .next t) ∧
    (∃ t, exec (Instr.recClear 1 (~~~49643)) (gd Mode.commissioning 49643) = .next t) ∧
    (∃ t, exec (Instr.cleared) (rc Mode.service 9 rClr 1) = .next t) ∧
    (∃ t, exec (Instr.recAppCmd 2 2147483648) (rc Mode.service 9 rGen 0) = .next t) ∧
    (∃ t, exec (Instr.recAppCmd 2 4294901760) (rc Mode.service 9 rClr 1) = .next t) ∧
    (∃ t, exec (Instr.recAppCmd 2 2147483648) (rc Mode.service 9 rFull 0) = .next t) ∧
    (∃ t, exec (Instr.recAppCmd 2 2147483648) (rc Mode.service 9 rGen 1) = .next t) ∧
    (∃ t, exec (Instr.recAppCmd 2 2147483648) (rc Mode.service 9 rFullC 0) = .next t) ∧
    (∃ t, exec (Instr.recAppCmd 2 2147418112) (rc Mode.service 9 rGen 0) = .next t) :=
  ⟨by refine runs (h.1 (rc .service 0 rStart 0) (ev 3) 0 ?_ ?_ ?_ ?_ ?_ (.inl ?_)) <;> decide +kernel,
    by refine runs (h.1 (rc .service 1 rSafe 0) (ev 300) 1 ?_ ?_ ?_ ?_ ?_ (.inr (.inl ⟨?_, ?_⟩))) <;> decide +kernel,
    by refine runs (h.1 (rc .service 65535 rGen 0) (ev 5) 65535 ?_ ?_ ?_ ?_ ?_ (.inr (.inr ⟨?_, ?_, ?_⟩))) <;> decide +kernel,
    by refine runs ((h.2.1 (gd .commissioning 0xC1EA) 1 0xC1EA ⟨?_, ?_⟩).1 ?_ ?_ ?_) <;> decide +kernel,
    by refine runs ((h.2.1 (gd .service 0xC1EA) 1 0xC1EA ⟨?_, ?_⟩).2 (.inr (.inl ?_))) <;> decide +kernel,
    by refine runs ((h.2.1 (gd .commissioning 0xC1EB) 1 0xC1EB ⟨?_, ?_⟩).2 (.inl ?_)) <;> decide +kernel,
    by refine runs (h.2.2.1 (rc .service 9 rClr 1) 2 4294967295 ?_ ?_) <;> decide +kernel,
    by refine runs ((h.2.2.2 (rc .service 9 rGen 0) 2 0x80000000 ?_ ?_).1 ?_ (.inl ?_) ?_) <;> decide +kernel,
    by refine runs ((h.2.2.2 (rc .service 9 rClr 1) 2 0xFFFF0000 ?_ ?_).1 ?_ (.inr ?_) ?_) <;> decide +kernel,
    by refine runs ((h.2.2.2 (rc .service 9 rFull 0) 2 0x80000000 ?_ ?_).2.1 ?_ ?_ (.inr ?_)) <;> decide +kernel,
    by refine runs ((h.2.2.2 (rc .service 9 rGen 1) 2 0x80000000 ?_ ?_).2.1 ?_ ?_ (.inl ?_)) <;> decide +kernel,
    by refine runs ((h.2.2.2 (rc .service 9 rFullC 0) 2 0x80000000 ?_ ?_).2.2.1 2 7 ?_ ?_ ?_) <;> decide +kernel,
    by refine runs ((h.2.2.2 (rc .service 9 rGen 0) 2 0x7FFF0000 ?_ ?_).2.2.2 ?_) <;> decide +kernel⟩


/-- A clear comes down from the top of the record area, 64 KiB at a time (20 R602; the area's end from Table 4.4). -/
theorem test_clear_comes_down :
    (idleTick (rc .commissioning 9 { rClr with clearTo := 0x400000, clearAt := 0 } 0 |> fun s => { s with tb := { s.tb with tick := 102344 } })).rcd.clearTo = 0x3F0000 := by
  decide +kernel

/-- Two events of one clock stand in the order of their SOURCE (20 R593). -/
theorem test_events_of_one_clock :
    (enter ⟨1, 0, 3, 5, 6, []⟩ [⟨9, 0, 0x23, 5, 5, []⟩, ⟨0, 0, 4, 5, 6, []⟩, ⟨9, 0, 0x23, 5, 6, []⟩]).map (fun e => e.source) =
      [0x900, 0, 0x100, 0x900] := by
  decide +kernel

end C20

end Sys2Proof.Tests
end

section
/-!
PROOF. Reads of event registers (05 R135, R137): what a word read does to the state, the place of the event registers in the map, and
RC_READ of one.
-/

namespace Sys2Proof.Machine

open Sys2Proof

/-! ### What a word read does -/

@[simp] theorem setRdata_rdata_same (core : Sender) (w : Word) (s : State) :
    smGet 0 (setRdata core w s).bus.rdata core.val = w := smGet_smSet_same _ _ _ _

@[simp] theorem reg_setRdata (core : Sender) (w : Word) (s : State) (a : Nat) : (setRdata core w s).reg a = s.reg a := rfl

/-- A word read returns its word and leaves the register as it was, or sets it, and nothing else. -/
theorem wordReadOp_cases (core : Sender) (a : Nat) (s : State) :
    ((core.val = 4 ∨ regRcmask a = 0 ∨ roleIdle s a = true) ∧
      wordReadOp core a s = setRdata core (readReg s core a) s) ∨
    (¬ (core.val = 4 ∨ regRcmask a = 0 ∨ roleIdle s a = true) ∧
      wordReadOp core a s = (setRdata core (readReg s core a) s).setReg a
        (s.reg a &&& ~~~ (readReg s core a &&& wd (regRcmask a)))) :=
  if h : core.val = 4 ∨ regRcmask a = 0 ∨ roleIdle s a = true then .inl ⟨h, if_pos h⟩ else .inr ⟨h, if_neg h⟩

theorem wordReadOp_rdata (core : Sender) (a : Nat) (s : State) :
    smGet 0 (wordReadOp core a s).bus.rdata core.val = readReg s core a := by
  obtain ⟨-, hread⟩ | ⟨-, hread⟩ := wordReadOp_cases core a s <;> rw [hread] <;> exact setRdata_rdata_same ..

/-- What the register read holds after a word read; a register with no RC bits loses none. -/
theorem wordReadOp_reg_same {core : Sender} {a : Nat} {s : State} (hrole : roleIdle s a = false) :
    (wordReadOp core a s).reg a =
      if core.val = 4 then s.reg a else s.reg a &&& ~~~ (readReg s core a &&& wd (regRcmask a)) := by
  obtain ⟨hkeeps, hread⟩ | ⟨hclears, hread⟩ := wordReadOp_cases core a s
  · by_cases hstudio : core.val = 4
    · simp [hread, hstudio]
    · have hmask : regRcmask a = 0 := by simpa [hstudio, hrole] using hkeeps
      have hall : ~~~ (readReg s core a &&& wd (regRcmask a)) = BitVec.allOnes 32 := by simp [hmask, wd]
      rw [hread, reg_setRdata, if_neg hstudio, hall, BitVec.and_allOnes]
  · have hcore : core.val ≠ 4 := fun h => hclears (.inl h)
    simp [hread, hcore]

theorem wordReadOp_regsBut (core : Sender) (a : Nat) (s : State) : RegsBut [a] s (wordReadOp core a s) := by
  intro c hc
  have hne : c ≠ a := by simpa using hc
  obtain ⟨-, hread⟩ | ⟨-, hread⟩ := wordReadOp_cases core a s
  · rw [hread, reg_setRdata]
  · rw [hread, State.reg_setReg_ne _ _ _ _ hne, reg_setRdata]

/-- A word read changes no pending copy, no shadow of a pair and nothing outside the bus. -/
theorem wordReadOp_frame (core : Sender) (a : Nat) (s : State) :
    (∀ c, (wordReadOp core a s).pendReg c = s.pendReg c) ∧ (wordReadOp core a s).bus.shadow = s.bus.shadow ∧
      wordReadOp core a s = { s with bus := (wordReadOp core a s).bus } := by
  obtain ⟨-, hread⟩ | ⟨-, hread⟩ := wordReadOp_cases core a s <;> rw [hread] <;> exact ⟨fun _ => rfl, rfl, rfl⟩

/-! ### The event registers in the map -/

theorem eventRegs_eq_nil {b : Nat} (h : 15 ≤ b) : eventRegs b = [] := by
  obtain ⟨k, rfl⟩ := Nat.exists_eq_add_of_le' h
  rfl

/-- The list of event registers (23, before R644) agrees with the map: each is aligned, occupied and single, has the listed RC bits,
and is neither of the registers whose read pops or latches a time stamp. -/
theorem map_of_mem_eventRegs {a m b : Nat} (h : (a, m) ∈ eventRegs b) :
    isNarrow a 4 = false ∧ isUnmapped a = false ∧ occupied a = true ∧ pairRole a = .single ∧ regRcmask a = m ∧
      a ≠ Reg.TIM_NOW_NS ∧ idxOf a (Reg.TIM_TXQ_NS 0) 4 0x20 = none := by
  have hmap : ∀ b < 15, ∀ e ∈ eventRegs b,
      isNarrow e.1 4 = false ∧ isUnmapped e.1 = false ∧ occupied e.1 = true ∧ pairRole e.1 = .single ∧ regRcmask e.1 = e.2 ∧
        e.1 ≠ Reg.TIM_NOW_NS ∧ idxOf e.1 (Reg.TIM_TXQ_NS 0) 4 0x20 = none := by
    decide +kernel
  have hb : b < 15 := by
    by_contra hge
    simp [eventRegs_eq_nil (Nat.le_of_not_lt hge)] at h
  exact hmap b hb (a, m) h

/-! ### RC_READ -/

/-- An aligned access where something stands is not refused. -/
theorem access32_eq_act {s : State} {core : Sender} {a : Nat} (wr : Bool) (act : State → State)
    (hacc : canAccess s core = true) (hwide : isNarrow a 4 = false) (hthere : isUnmapped a = false) :
    access32 core wr a act s = act s := by
  simp [access32, hacc, hwide, hthere]

/-- A read of a single register that is no time stamp is a word read. -/
theorem readOp_eq_wordReadOp {a : Nat} (core : Sender) (s : State) (hsingle : pairRole a = .single)
    (hnow : a ≠ Reg.TIM_NOW_NS) (htxq : idxOf a (Reg.TIM_TXQ_NS 0) 4 0x20 = none) :
    readOp core a s = wordReadOp core a s := by
  simp [readOp, hnow, htxq, hsingle]

/-- RC_READ of an event register is a word read of it. -/
theorem exec_rcRead_of_mem_eventRegs {s : State} {core : Sender} {a m b : Nat} (hacc : canAccess s core = true)
    (hmem : (a, m) ∈ eventRegs b) : exec (.rcRead core a) s = .next (wordReadOp core a s) := by
  obtain ⟨hwide, hthere, hocc, hsingle, -, hnow, htxq⟩ := map_of_mem_eventRegs hmem
  change execRcRead core a s = _
  rw [execRcRead, access32_eq_act false _ hacc hwide hthere]
  simp [hocc, hsingle, readOp_eq_wordReadOp core s hsingle hnow htxq]

/-- Settles O3: RC_READ of an event register is a word read, which clears the RC bits it returned unless Benrex Studio reads. -/
theorem eventReadClearsWhatItReturns : Obligations.EventReadClearsWhatItReturns := by
  intro s core b a m hacc hmem hrole
  obtain ⟨-, -, -, -, hmask, -, -⟩ := map_of_mem_eventRegs hmem
  obtain ⟨hpend, hshadow, hbus⟩ := wordReadOp_frame core a s
  exact ⟨wordReadOp core a s, exec_rcRead_of_mem_eventRegs hacc hmem, wordReadOp_rdata core a s,
    hmask ▸ wordReadOp_reg_same hrole, wordReadOp_regsBut core a s, hpend, hshadow, hbus⟩

end Sys2Proof.Machine
end

section
/-!
PROOF. Tide memories and engine halts as a core writes them (06 R158, R160, R196, R197): the word an address names, the write that is
ignored, a guarded write that completes, and TAC_ENG_HALT taken bit by bit.
-/

namespace Sys2Proof.Machine

open Sys2Proof

/-! ### Bitmaps -/

theorem mapBits_succ (k : Nat) (f : Nat → Bool) :
    mapBits (k + 1) f = if f k then mapBits k f + 2 ^ k else mapBits k f := by
  simp [mapBits, List.range_succ]

theorem mapBits_lt (k : Nat) (f : Nat → Bool) : mapBits k f < 2 ^ k := by
  induction k with
  | zero => simp [mapBits]
  | succ k ih =>
    rw [mapBits_succ, Nat.pow_succ]
    split <;> omega

theorem mapBits_succ_eq_add (k : Nat) (f : Nat → Bool) : mapBits (k + 1) f = 2 ^ k * (f k).toNat + mapBits k f := by
  rw [mapBits_succ]
  cases f k <;> simp [Nat.add_comm]

theorem testBit_mapBits (k : Nat) (f : Nat → Bool) {n : Nat} (hn : n < k) : (mapBits k f).testBit n = f n := by
  induction k with
  | zero => omega
  | succ k ih =>
    rw [mapBits_succ_eq_add, Nat.testBit_two_pow_mul_add _ (mapBits_lt k f)]
    split
    case isTrue hlow => exact ih hlow
    case isFalse htop =>
      obtain rfl : n = k := by omega
      cases f n <;> simp

/-! ### Events and guarded writes -/

/-- An event is seen in its own bit and changes no other register and nothing outside the bus. -/
theorem State.ev_frame (s : State) (f : FRef) (hb : f.bits.lo ≤ f.bits.hi) (h31 : f.bits.hi < 32) :
    (s.ev f).flag f = true ∧ RegsBut [f.addr] s (s.ev f) ∧ s.ev f = { s with bus := (s.ev f).bus } :=
  ⟨State.flag_ev s f hb h31, fun a ha => State.reg_ev_ne s f a (by simpa using ha), rfl⟩

/-- The complement of an armed value completes its guarded write, and the guard of the block is gone (05 R153). -/
theorem cplWrite_of_armed {s : State} {core : Sender} {va b : Nat} {v : Word} (act : Word → State → State)
    (hacc : canAccess s core = true) (hblock : blockOf va = some b) (harmed : Armed s va v) :
    cplWrite core va (~~~ v) act s = act v (dropGuard b s) := by
  simp only [Armed, hblock, Option.bind_some, Option.any_eq_true, Bool.and_eq_true, beq_iff_eq, decide_eq_true_eq] at harmed
  obtain ⟨g, hg, ⟨haddr, hval⟩, htime⟩ := harmed
  simp [cplWrite, hacc, hblock, hg, haddr, hval, htime]

theorem unguarded_of_guards_eq_dropGuard {s t : State} {a b : Nat} (hblock : blockOf a = some b)
    (hguards : t.bus.guards = (dropGuard b s).bus.guards) : Unguarded t a := by
  simp [hblock, hguards, dropGuard, smFind_smErase_same]

/-! ### TIDE_MEMORY_WRITE -/

/-- A write at offset `o` of engine `e`'s window: code in the lower half (R158), data in the upper (R160). -/
theorem tideWrite_window {e o : Nat} (he : e < 8) (ho : o < 0x20000) (hal : o % 4 = 0) (w : Word) (s : State) :
    tideWrite (0x30000000 + 0x20000 * e + o) w s =
      if o < 0x10000 then
        if halted s e then setCode e (o / 4) w s else s.ev F.TAC_EVENT.MEM_WR_REJ
      else
        if halted s e || inShared s e ((o - 0x10000) / 4) then setData e ((o - 0x10000) / 4) w s
        else s.ev F.TAC_EVENT.MEM_WR_REJ := by
  have hin : 0x30000000 ≤ 0x30000000 + 0x20000 * e + o ∧ 0x30000000 + 0x20000 * e + o < 0x30100000 ∧
      (0x30000000 + 0x20000 * e + o) % 4 = 0 := by omega
  have heng : (0x30000000 + 0x20000 * e + o - 0x30000000) / 0x20000 = e := by omega
  have hoff : (0x30000000 + 0x20000 * e + o - 0x30000000) % 0x20000 = o := by omega
  simp only [tideWrite, if_pos hin, heng, hoff]

theorem tideWrite_code {e i : Nat} (he : e < 8) (hi : i < 16384) (w : Word) (s : State) :
    tideWrite (0x30000000 + 0x20000 * e + 4 * i) w s =
      if halted s e then setCode e i w s else s.ev F.TAC_EVENT.MEM_WR_REJ := by
  rw [tideWrite_window he (by omega) (by omega), if_pos (by omega), Nat.mul_div_cancel_left i (by omega)]

theorem tideWrite_data {e i : Nat} (he : e < 8) (hi : i < 16384) (w : Word) (s : State) :
    tideWrite (0x30010000 + 0x20000 * e + 4 * i) w s =
      if halted s e || inShared s e i then setData e i w s else s.ev F.TAC_EVENT.MEM_WR_REJ := by
  have haddr : 0x30010000 + 0x20000 * e + 4 * i = 0x30000000 + 0x20000 * e + (0x10000 + 4 * i) := by omega
  rw [haddr, tideWrite_window he (by omega) (by omega), if_neg (by omega), Nat.add_sub_cancel_left,
    Nat.mul_div_cancel_left i (by omega)]

theorem inShared_eq_true_iff (s : State) (e i : Nat) :
    inShared s e i = true ↔ s.get (F.TAC_ENG_SHARED.BASE e) ≤ i ∧
      i < s.get (F.TAC_ENG_SHARED.BASE e) + s.get (F.TAC_ENG_SHARED.LEN e) := by
  simp [inShared]

theorem exec_tideMemoryWrite {s : State} {core : Sender} (hacc : canAccess s core = true) (a : Nat) (w : Word) :
    exec (.tideMemoryWrite core a w) s = .next (tideWrite a w s) := by
  change execTideMemoryWrite core a w s = _
  rw [execTideMemoryWrite, if_pos hacc]

/-- Writing a code word changes that word of the code memories and nothing else. -/
theorem setCode_frame (e i : Nat) (w : Word) (s : State) :
    codeWord (setCode e i w s) e i = w ∧
      (∀ j, j ≠ 16384 * e + i → smGet 0 (setCode e i w s).tide.code j = smGet 0 s.tide.code j) ∧
      setCode e i w s = { s with tide := { s.tide with code := (setCode e i w s).tide.code } } :=
  ⟨smGet_smSet_same _ _ _ _, fun j hj => smGet_smSet_ne _ _ _ _ _ _ (by rwa [tideWords, Nat.mul_comm]), rfl⟩

/-- Writing a data word changes that word of the data memories and nothing else. -/
theorem setData_frame (e i : Nat) (w : Word) (s : State) :
    dataWord (setData e i w s) e i = w ∧
      (∀ j, j ≠ 16384 * e + i → smGet 0 (setData e i w s).tide.data j = smGet 0 s.tide.data j) ∧
      setData e i w s = { s with tide := { s.tide with data := (setData e i w s).tide.data } } :=
  ⟨smGet_smSet_same _ _ _ _, fun j hj => smGet_smSet_ne _ _ _ _ _ _ (by rwa [tideWords, Nat.mul_comm]), rfl⟩

/-- A write of a Tide word that is ignored sets MEM_WR_REJ and changes nothing else. -/
theorem completes_of_tideWrite_ignored {s : State} {core : Sender} {a : Nat} {w : Word} (hacc : canAccess s core = true)
    (hwrite : tideWrite a w s = s.ev F.TAC_EVENT.MEM_WR_REJ) :
    Completes (.tideMemoryWrite core a w) s (fun t =>
      t.flag F.TAC_EVENT.MEM_WR_REJ = true ∧ RegsBut [Reg.TAC_EVENT] s t ∧ t = { s with bus := t.bus }) :=
  ⟨_, hwrite ▸ exec_tideMemoryWrite hacc a w, State.ev_frame s F.TAC_EVENT.MEM_WR_REJ (by decide) (by decide)⟩

/-! ### TAC_ENG_HALT -/

/-- A value of TAC_ENG_HALT asks for the halt of an engine that is not halted. -/
def AsksHalt (v : Word) (s : State) : Prop := ∃ n, n < 8 ∧ v.getLsbD n = true ∧ s.bit F.TAC_ENG_HALT.HALT n = false

/-- The halts wanted at the next boundary set (R197). -/
def wantHalts (want : Nat) (s : State) : State := { s with tide := { s.tide with haltWant := want } }

/-- The halts wanted that a value of TAC_ENG_HALT does not withdraw. -/
def keptHalts (v : Word) (s : State) : Nat :=
  mapBits 8 (fun n => (getF F.TAC_ENG_HALT.HALT.bits v).testBit n && s.tide.haltWant.testBit n)

theorem testBit_getF_halt (v : Word) {n : Nat} (hn : n < 8) :
    (getF F.TAC_ENG_HALT.HALT.bits v).testBit n = v.getLsbD n := by
  simp [getF_testBit, bitsLen, hn, BitVec.testBit_toNat]

theorem testBit_keptHalts (v : Word) (s : State) {n : Nat} (hn : n < 8) :
    (keptHalts v s).testBit n = (s.tide.haltWant.testBit n && v.getLsbD n) := by
  rw [keptHalts, testBit_mapBits 8 _ hn, testBit_getF_halt v hn, Bool.and_comm]

/-- Halts wanted and an event leave the guards alone, and beside the bus change only the halts wanted. -/
theorem wantHalts_ev_frame (want : Nat) (f : FRef) (s : State) :
    ((wantHalts want s).ev f).bus.guards = s.bus.guards ∧
      (wantHalts want s).ev f = { s with
        bus := ((wantHalts want s).ev f).bus, tide := { s.tide with haltWant := ((wantHalts want s).ev f).tide.haltWant } } :=
  ⟨rfl, rfl⟩

theorem engHaltOp_of_standby {s : State} (v : Word) (hmode : s.mode = .standby) :
    engHaltOp v s = wantHalts (v.toNat % 256) s := by
  have hfield : getF F.TAC_ENG_HALT.HALT.bits v = v.toNat % 256 := by simp [getF, bitsLen]
  rw [engHaltOp, if_pos hmode, hfield, wantHalts]

/-- Outside Standby a TAC_ENG_HALT value only withdraws halts, and is reported when it asks for one (R196). -/
theorem engHaltOp_cases {s : State} (v : Word) (hmode : s.mode ≠ .standby) :
    (AsksHalt v s ∧ engHaltOp v s = (wantHalts (keptHalts v s) s).ev F.TAC_EVENT.HALT_REJ) ∨
      (¬ AsksHalt v s ∧ engHaltOp v s = wantHalts (keptHalts v s) s) := by
  have hasks : ((List.range 8).any fun n => (getF F.TAC_ENG_HALT.HALT.bits v).testBit n &&
      !(s.get F.TAC_ENG_HALT.HALT).testBit n) = true ↔ AsksHalt v s := by
    simp only [List.any_eq_true, List.mem_range, Bool.and_eq_true, Bool.not_eq_true']
    exact exists_congr fun n => and_congr_right fun hn => by rw [testBit_getF_halt v hn]; rfl
  by_cases h : AsksHalt v s
  · exact .inl ⟨h, by rw [engHaltOp, if_neg hmode, if_pos (hasks.mpr h)]; rfl⟩
  · exact .inr ⟨h, by rw [engHaltOp, if_neg hmode, if_neg (mt hasks.mp h)]; rfl⟩

/-- What a TAC_ENG_HALT value does outside Standby: its withdrawals, its report, and nothing else. -/
theorem engHaltOp_outside_standby {s : State} (v : Word) (hmode : s.mode ≠ .standby) :
    (engHaltOp v s).tide.haltWant = keptHalts v s ∧
      ((engHaltOp v s).flag F.TAC_EVENT.HALT_REJ = true ↔ s.flag F.TAC_EVENT.HALT_REJ = true ∨ AsksHalt v s) ∧
      RegsBut [Reg.TAC_EVENT] s (engHaltOp v s) := by
  obtain ⟨hasks, hop⟩ | ⟨hnone, hop⟩ := engHaltOp_cases v hmode
  · obtain ⟨hrej, hregs, -⟩ := State.ev_frame (wantHalts (keptHalts v s) s) F.TAC_EVENT.HALT_REJ (by decide) (by decide)
    rw [hop]
    exact ⟨rfl, iff_of_true hrej (.inr hasks), hregs⟩
  · rw [hop]
    exact ⟨rfl, (or_iff_left hnone).symm, fun _ _ => rfl⟩

/-- A TAC_ENG_HALT value leaves the guards alone, and beside the bus changes only the halts wanted. -/
theorem engHaltOp_frame (v : Word) (s : State) :
    (engHaltOp v s).bus.guards = s.bus.guards ∧
      engHaltOp v s = { s with
        bus := (engHaltOp v s).bus, tide := { s.tide with haltWant := (engHaltOp v s).tide.haltWant } } := by
  by_cases hmode : s.mode = .standby
  · rw [engHaltOp_of_standby v hmode]
    exact ⟨rfl, rfl⟩
  · obtain ⟨-, hop⟩ | ⟨-, hop⟩ := engHaltOp_cases v hmode <;> rw [hop]
    · exact wantHalts_ev_frame ..
    · exact ⟨rfl, rfl⟩

theorem exec_engHalt_of_armed {s : State} {core : Sender} {v : Word} {i : Instr} (hacc : canAccess s core = true)
    (harmed : Armed s Reg.TAC_ENG_HALT v) (hi : i = .engineHalt core (~~~ v) ∨ i = .engineRelease core (~~~ v)) :
    exec i s = .next (engHaltOp v (dropGuard 2 s)) := by
  have hwrite := cplWrite_of_armed engHaltOp hacc (by decide) harmed (b := 2)
  obtain rfl | rfl := hi
  · change execEngineHalt core (~~~ v) s = _
    rw [execEngineHalt, hwrite]
  · change execEngineRelease core (~~~ v) s = _
    rw [execEngineRelease, hwrite]

/-- Settles O19: the halt in force and the shared area decide a write of a Tide word; a TAC_ENG_HALT value completes with its guard
dropped and is then taken by the mode. -/
theorem engineMemoriesAndHalts : Obligations.EngineMemoriesAndHalts := by
  refine ⟨fun s core e i w hacc he hi => ⟨fun hhalt => ?_, fun hrun => ?_, fun b hb => ?_⟩,
    fun s core v i hacc harmed hi => ?_⟩
  · have hwrite := (tideWrite_code he hi w s).trans (if_pos hhalt)
    exact ⟨_, hwrite ▸ exec_tideMemoryWrite hacc _ w, setCode_frame e i w s⟩
  · exact completes_of_tideWrite_ignored hacc ((tideWrite_code he hi w s).trans (if_neg (by simp [hrun])))
  · subst hb
    refine ⟨fun hmay => ?_, fun hrun hout => ?_⟩
    · have hwrite := (tideWrite_data he hi w s).trans (if_pos (by rwa [Bool.or_eq_true, inShared_eq_true_iff]))
      exact ⟨_, hwrite ▸ exec_tideMemoryWrite hacc _ w, setData_frame e i w s⟩
    · have hnot : ¬ (halted s e || inShared s e i) = true := by
        rw [Bool.or_eq_true, inShared_eq_true_iff, hrun]
        rintro (hhalt | ⟨hlo, hhi⟩)
        · cases hhalt
        · omega
      exact completes_of_tideWrite_ignored hacc ((tideWrite_data he hi w s).trans (if_neg hnot))
  · obtain ⟨hguards, hframe⟩ := engHaltOp_frame v (dropGuard 2 s)
    refine ⟨_, exec_engHalt_of_armed hacc harmed hi, unguarded_of_guards_eq_dropGuard (by decide) hguards,
      fun hmode => ?_, fun hmode => ?_, hframe⟩
    · rw [engHaltOp_of_standby (s := dropGuard 2 s) v hmode]
      exact ⟨rfl, fun _ _ => rfl⟩
    · obtain ⟨hwant, hrej, hregs⟩ := engHaltOp_outside_standby (s := dropGuard 2 s) v hmode
      exact ⟨fun n hn => hwant ▸ testBit_keptHalts v (dropGuard 2 s) hn, hrej, hregs⟩

end Sys2Proof.Machine
end

section
/-!
PROOF. The time base as firmware runs it (19 R577, R578, R581, R586, R588, R651): ADDEND, clock steps, SYNC, the present time as a reader
takes it, and the armed snapshot.
-/

namespace Sys2Proof.Machine

open Sys2Proof

/-! ### Changes of registers alone -/

/-- Nothing changed but registers of `P` and the bus's records of accesses: `OnlyRegs` with a predicate for its list. -/
def ChangesOnly (P : Nat → Prop) (s t : State) : Prop :=
  (∀ a, ¬ P a → t.reg a = s.reg a) ∧ (∀ b, t.pendReg b = s.pendReg b) ∧ t = { s with bus := t.bus }

theorem onlyRegs_of_changesOnly {l : List Nat} {s t : State} (h : ChangesOnly (· ∈ l) s t) : OnlyRegs l s t := h

theorem ChangesOnly.refl (P : Nat → Prop) (s : State) : ChangesOnly P s s := ⟨fun _ _ => rfl, fun _ => rfl, rfl⟩

theorem ChangesOnly.trans {P : Nat → Prop} {s t u : State} (hst : ChangesOnly P s t) (htu : ChangesOnly P t u) :
    ChangesOnly P s u := by
  obtain ⟨hreg, hpend, hrest⟩ := hst
  obtain ⟨hreg', hpend', hrest'⟩ := htu
  exact ⟨fun a ha => (hreg' a ha).trans (hreg a ha), fun b => (hpend' b).trans (hpend b), hrest'.trans (by rw [hrest])⟩

theorem ChangesOnly.mono {P Q : Nat → Prop} {s t : State} (h : ChangesOnly P s t) (hPQ : ∀ a, P a → Q a) : ChangesOnly Q s t :=
  ⟨fun a ha => h.1 a (mt (hPQ a) ha), h.2⟩

theorem changesOnly_setReg {P : Nat → Prop} {a : Nat} (ha : P a) (s : State) (w : Word) : ChangesOnly P s (s.setReg a w) :=
  ⟨fun _ hb => State.reg_setReg_ne _ _ _ _ fun h => hb (h ▸ ha), fun _ => rfl, rfl⟩

theorem changesOnly_put {P : Nat → Prop} {f : FRef} (hf : P f.addr) (s : State) (v : Nat) : ChangesOnly P s (s.put f v) :=
  changesOnly_setReg hf s _

theorem changesOnly_ev {P : Nat → Prop} {f : FRef} (hf : P f.addr) (s : State) : ChangesOnly P s (s.ev f) :=
  changesOnly_put hf s 1

theorem changesOnly_result {P : Nat → Prop} {a : Nat} (ha : P a) (s : State) (v : Nat) : ChangesOnly P s (s.result a v) :=
  changesOnly_setReg ha s _

theorem changesOnly_resultPair {P : Nat → Prop} {lo : Nat} (hlo : P lo) (hhi : P (lo + 4)) (s : State) (v : Int) :
    ChangesOnly P s (s.resultPair lo v) :=
  (changesOnly_setReg hlo s _).trans (changesOnly_setReg hhi _ _)

theorem changesOnly_forN {P : Nat → Prop} {n : Nat} {f : Nat → State → State} (hf : ∀ i, i < n → ∀ t, ChangesOnly P t (f i t))
    (s : State) : ChangesOnly P s (s.forN n f) := by
  have hfold : ∀ (l : List Nat), (∀ i, i ∈ l → i < n) → ∀ t, ChangesOnly P t (l.foldl (fun u i => f i u) t) := by
    intro l
    induction l with
    | nil => exact fun _ t => .refl P t
    | cons i l ih =>
      exact fun hl t => (hf i (hl i List.mem_cons_self) t).trans (ih (fun j hj => hl j (List.mem_cons_of_mem i hj)) _)
  exact hfold (List.range n) (fun i hi => List.mem_range.mp hi) s

/-! ### Flags -/

theorem State.flag_put_zero (s : State) (f : FRef) (hb : f.bits.lo ≤ f.bits.hi) (h31 : f.bits.hi < 32) :
    (s.put f 0).flag f = false := State.flag_putB s f false hb h31

theorem State.flag_put_bits (s : State) (f g : FRef) (v : Nat) (h : g.addr = f.addr) (hb : f.bits.lo ≤ f.bits.hi)
    (h31 : f.bits.hi < 32) (hd : g.bits.hi < f.bits.lo ∨ f.bits.hi < g.bits.lo) : (s.put f v).flag g = s.flag g := by
  rw [State.flag, State.get_put_bits s f g v h hb h31 hd, State.flag]

theorem State.flag_ev_reg (s : State) (f g : FRef) (h : g.addr ≠ f.addr) : (s.ev f).flag g = s.flag g := by
  rw [State.flag, State.ev, State.get_put_reg s f g 1 h, State.flag]

/-- A one-bit field is its bit of the register. -/
theorem State.flag_eq_getLsbD (s : State) (a n : Nat) : s.flag ⟨a, ⟨n, n⟩⟩ = (s.reg a).getLsbD n := by
  rw [Bool.eq_iff_iff]
  simp [State.flag, State.get, getF, bitsLen, BitVec.getLsbD, Nat.testBit_eq_decide_div_mod_eq]

/-! ### Words of TIM_SNAP_AT_NS -/

theorem toNat_and_low31 (w : Word) : (w &&& 0x7FFFFFFF).toNat = w.toNat % 2 ^ 31 :=
  (BitVec.toNat_and w _).trans (Nat.and_two_pow_sub_one_eq_mod w.toNat 31)

theorem setF_bit31_zero (w : Word) : setF ⟨31, 31⟩ 0 w = w &&& 0x7FFFFFFF := by
  apply BitVec.eq_of_toNat_eq
  rw [toNat_and_low31]
  simp only [setF, getF, bitsLen, BitVec.toNat_ofNat]
  omega

/-- The bits 31 and 29 to 0 of a word without its bit 31. -/
theorem and_snapMask_low31 (v : Word) : v &&& 0xBFFFFFFF &&& 0x7FFFFFFF = v &&& 0x3FFFFFFF := by
  rw [BitVec.and_assoc]
  rfl

theorem and_snapMask_of_disarmed {v : Word} (hv : v.getLsbD 31 = false) : v &&& 0xBFFFFFFF = v &&& 0x3FFFFFFF := by
  have hlow : v &&& 0x7FFFFFFF = v := by
    apply BitVec.eq_of_toNat_eq
    have hbit : v.toNat / 2 ^ 31 % 2 ≠ 1 := by simpa [BitVec.getLsbD, Nat.testBit_eq_decide_div_mod_eq] using hv
    rw [toNat_and_low31]
    omega
  calc v &&& 0xBFFFFFFF = v &&& 0x7FFFFFFF &&& 0xBFFFFFFF := by rw [hlow]
    _ = v &&& 0x3FFFFFFF := by
      rw [BitVec.and_assoc]
      rfl

theorem getF_ns_and_snapMask (v : Word) : getF ⟨29, 0⟩ (v &&& 0xBFFFFFFF) = v.toNat % 2 ^ 30 := by
  have hmask : (v &&& 0xBFFFFFFF).toNat % 2 ^ 30 = v.toNat % 2 ^ 30 := by
    rw [BitVec.toNat_and, Nat.and_mod_two_pow]
    change v.toNat % 2 ^ 30 &&& (2 ^ 30 - 1) = _
    rw [Nat.and_two_pow_sub_one_eq_mod, Nat.mod_mod]
  simpa [getF, bitsLen] using hmask

/-! ### Write commands -/

theorem touch_of_unguarded {s : State} {a : Nat} (hfree : Unguarded s a) : touch a s = s := by
  cases hblock : blockOf a with
  | none => simp [touch, hblock]
  | some b =>
    have hnone : smFind s.bus.guards b = none := by simpa [hblock] using hfree
    simp [touch, hblock, hnone]

theorem writeCmd_of_unguarded {s : State} {core : Sender} {a : Nat} (act : State → State) (hacc : canAccess s core = true)
    (hfree : Unguarded s a) : writeCmd core a act s = act s := by
  rw [writeCmd, if_pos hacc, touch_of_unguarded hfree]

/-! ### ADDEND (R577) -/

theorem exec_addendWrite {s : State} {core : Sender} (v : Word) (hacc : canAccess s core = true)
    (hfree : Unguarded s Reg.TIM_ADDEND) : exec (.addendWrite core v) s = .next (addendOp v s) :=
  congrArg Host.Outcome.next (writeCmd_of_unguarded (addendOp v) hacc hfree)

theorem addendOk_iff (v : Word) : addendOk v = true ↔ 0x80000000 - 1073741 ≤ v.toNat ∧ v.toNat ≤ 0x80000000 + 1073741 := by
  rw [addendOk, Bool.and_eq_true, decide_eq_true_iff, decide_eq_true_iff, addendSpan]

theorem addendOp_of_accepted {s : State} {v : Word} (hfw : s.flag F.TIM_CFG.FW = true) (hok : addendOk v = true) :
    addendOp v s = s.setReg Reg.TIM_ADDEND v := by
  simp [addendOp, fwPtp, hfw, hok]

theorem addendOp_of_refused {s : State} {v : Word} (h : ¬ (s.flag F.TIM_CFG.FW = true ∧ addendOk v = true)) :
    addendOp v s = s.ev F.TIM_EVENT.ADDEND_REJ := by
  rw [addendOp, fwPtp, if_neg (by rwa [Bool.and_eq_true])]

/-! ### Clock steps (R578, R579) -/

/-- The 64 bits of a step pair as a signed offset. -/
theorem sgn_join64 (lo hi : Word) : sgn 64 (join64 lo hi) = (hi ++ lo).toInt := by
  have hnat : (hi ++ lo).toNat = join64 lo hi := by
    rw [BitVec.toNat_append, ← Nat.shiftLeft_add_eq_or_of_lt lo.isLt, Nat.shiftLeft_eq, join64]
  have hlt := (hi ++ lo).isLt
  rw [BitVec.toInt, hnat, sgn, Nat.mod_eq_of_lt (hnat ▸ hlt)]
  norm_num
  split <;> split <;> omega

theorem exec_clockStep {s : State} {core : Sender} (v : Word) (hacc : canAccess s core = true)
    (hfree : Unguarded s Reg.TIM_STEP_HI) :
    exec (.clockStep core v) s =
      .next (stepOp (v ++ holdOf s Reg.TIM_STEP_LO core).toInt (setHold Reg.TIM_STEP_LO core 0 s)) := by
  rw [← sgn_join64]
  exact congrArg Host.Outcome.next (writeCmd_of_unguarded (clockStepOp core v) hacc hfree)

theorem holdOf_setHold_same (lo : Nat) (core : Sender) (w : Word) (s : State) : holdOf (setHold lo core w s) lo core = w :=
  smGet_smSet_same _ _ _ _

/-- What a state reads of the bus alone reads alike on the same bus. -/
theorem reads_of_bus_eq {s t : State} (h : t.bus = s.bus) :
    (∀ a, t.reg a = s.reg a) ∧ (∀ b, t.pendReg b = s.pendReg b) ∧ ∀ lo core, holdOf t lo core = holdOf s lo core := by
  simp [State.reg, State.pendReg, holdOf, h]

theorem holdOf_ev (s : State) (f : FRef) (lo : Nat) (core : Sender) : holdOf (s.ev f) lo core = holdOf s lo core := rfl

theorem stepAllowed_iff (s : State) (off : Int) :
    stepAllowed s off = true ↔ (modeServo s.mode = true → -1000 ≤ off ∧ off ≤ 1000) := by
  cases hservo : modeServo s.mode
  · simp [stepAllowed, hservo]
  · simp only [stepAllowed, hservo, Bool.not_true, Bool.false_or, decide_eq_true_eq, forall_const]
    omega

theorem stepOp_of_accepted {s : State} {off : Int} (hfw : s.flag F.TIM_CFG.FW = true) (hok : stepAllowed s off = true) :
    stepOp off s = clockAdd off s := by
  simp [stepOp, fwPtp, hfw, hok]

theorem stepOp_of_refused {s : State} {off : Int} (h : ¬ (s.flag F.TIM_CFG.FW = true ∧ stepAllowed s off = true)) :
    stepOp off s = s.ev F.TIM_EVENT.STEP_REJ := by
  rw [stepOp, fwPtp, if_neg (by rwa [Bool.and_eq_true])]

/-- The moved clock shows the time moved by the offset, modulo the range of its seconds. -/
theorem nowNs_clockMove (off : Int) (s : State) :
    ((clockMove off s).nowNs : Int) = ((s.nowNs : Int) + off) % (2 ^ 48 * 1000000000) := by
  have hparts : (clockMove off s).nowNs = (((s.nowNs : Int) + off) % ((2 ^ 48 * nsPerSec : Nat) : Int)).toNat :=
    Nat.div_add_mod' _ _
  rw [hparts, Int.toNat_of_nonneg (Int.emod_nonneg _ (by decide))]
  rfl

theorem ns_clockMove_lt (off : Int) (s : State) : (clockMove off s).tb.ns < 1000000000 := Nat.mod_lt _ (by decide)

/-- The boundary armed is the first at or after the present time. -/
theorem next_armNext {s : State} (hts : 0 < s.tsNs) :
    s.nowNs ≤ (armNext s).tb.next * s.tsNs ∧ (armNext s).tb.next * s.tsNs < s.nowNs + s.tsNs := by
  have hnext : (armNext s).tb.next = (s.nowNs + (s.tsNs - 1)) / s.tsNs := rfl
  have hdiv := Nat.div_add_mod' (s.nowNs + (s.tsNs - 1)) s.tsNs
  have hmod := Nat.mod_lt (s.nowNs + (s.tsNs - 1)) hts
  rw [hnext]
  omega

theorem clockAdd_of_servo {s : State} (off : Int) (h : modeServo s.mode = true) : clockAdd off s = clockMove off s := if_pos h

theorem clockAdd_of_not_servo {s : State} (off : Int) (h : modeServo s.mode = false) :
    clockAdd off s = armNext (clockMove off s) := if_neg (by simp [h])

/-- A step shows the time of the moved clock, and of everything else changes at most the number of the next boundary. -/
theorem clockAdd_clock (off : Int) (s : State) :
    (clockAdd off s).nowNs = (clockMove off s).nowNs ∧ (clockAdd off s).tb.ns = (clockMove off s).tb.ns ∧
      (clockAdd off s).bus = s.bus ∧
      clockAdd off s = { s with
        tb := { s.tb with sec := (clockAdd off s).tb.sec, ns := (clockAdd off s).tb.ns, next := (clockAdd off s).tb.next } } := by
  cases h : modeServo s.mode
  · rw [clockAdd_of_not_servo off h]
    exact ⟨rfl, rfl, rfl, rfl⟩
  · rw [clockAdd_of_servo off h]
    exact ⟨rfl, rfl, rfl, rfl⟩

theorem next_clockAdd_of_servo {s : State} (off : Int) (h : modeServo s.mode = true) : (clockAdd off s).tb.next = s.tb.next := by
  rw [clockAdd_of_servo off h]
  rfl

theorem next_clockAdd_of_not_servo {s : State} (off : Int) (h : modeServo s.mode = false) (hts : 0 < s.tsNs) :
    (clockAdd off s).nowNs ≤ (clockAdd off s).tb.next * s.tsNs ∧
      (clockAdd off s).tb.next * s.tsNs < (clockAdd off s).nowNs + s.tsNs := by
  rw [clockAdd_of_not_servo off h]
  exact next_armNext (s := clockMove off s) hts

/-! ### SYNC (R581, R651) -/

theorem exec_setSync {s : State} {core : Sender} (v : Word) (hacc : canAccess s core = true) (hfree : Unguarded s Reg.TIM_CMD) :
    exec (.setSync core v) s = .next (if getF F.TIM_CMD.OP.bits v = 1 then timCmdOp v s else s) :=
  congrArg Host.Outcome.next
    (writeCmd_of_unguarded (fun t => if getF F.TIM_CMD.OP.bits v = 1 then timCmdOp v t else t) hacc hfree)

theorem exec_clearSync {s : State} {core : Sender} (v : Word) (hacc : canAccess s core = true) (hfree : Unguarded s Reg.TIM_CMD) :
    exec (.clearSync core v) s = .next (if getF F.TIM_CMD.OP.bits v = 2 then timCmdOp v s else s) :=
  congrArg Host.Outcome.next
    (writeCmd_of_unguarded (fun t => if getF F.TIM_CMD.OP.bits v = 2 then timCmdOp v t else t) hacc hfree)

theorem timCmdOp_one {s : State} {v : Word} (hfw : s.flag F.TIM_CFG.FW = true) (hop : getF F.TIM_CMD.OP.bits v = 1) :
    timCmdOp v s = setSyncOp s := by
  simp [timCmdOp, fwPtp, hfw, hop]

theorem timCmdOp_two {s : State} {v : Word} (hfw : s.flag F.TIM_CFG.FW = true) (hop : getF F.TIM_CMD.OP.bits v = 2) :
    timCmdOp v s = clearSyncOp s := by
  simp [timCmdOp, fwPtp, hfw, hop]

theorem timCmdOp_of_no_fw {s : State} (v : Word) (hfw : s.flag F.TIM_CFG.FW = false) : timCmdOp v s = s := by
  simp [timCmdOp, fwPtp, hfw]

theorem setSyncOp_of_sync {s : State} (h : s.flag F.TIM_STAT.SYNC = true) : setSyncOp s = s.put F.TIM_STAT.HOLD 0 := if_pos h

theorem setSyncOp_of_no_sync {s : State} (h : s.flag F.TIM_STAT.SYNC = false) :
    setSyncOp s = ((s.put F.TIM_STAT.SYNC 1).put F.TIM_STAT.HOLD 0).ev F.TIM_EVENT.SYNC_GAIN := if_neg (by simp [h])

theorem clearSyncOp_of_sync {s : State} (h : s.flag F.TIM_STAT.SYNC = true) :
    clearSyncOp s = ((s.put F.TIM_STAT.SYNC 0).put F.TIM_STAT.HOLD 1).ev F.TIM_EVENT.SYNC_LOST := if_pos h

theorem clearSyncOp_of_no_sync {s : State} (h : s.flag F.TIM_STAT.SYNC = false) : clearSyncOp s = s := if_neg (by simp [h])

/-- SYNC reads as before after a change of HOLD. -/
theorem sync_put_hold (s : State) (v : Nat) : (s.put F.TIM_STAT.HOLD v).flag F.TIM_STAT.SYNC = s.flag F.TIM_STAT.SYNC :=
  State.flag_put_bits s F.TIM_STAT.HOLD F.TIM_STAT.SYNC v rfl (by decide) (by decide) (by decide)

/-- SYNC and HOLD set to `v` and `h` with an event of TIM_EVENT: a change of SYNC, either way, has this shape. -/
theorem onlyRegs_sync_event (s : State) (v h : Nat) {f : FRef} (hf : f.addr = Reg.TIM_EVENT) :
    OnlyRegs [Reg.TIM_STAT, Reg.TIM_EVENT] s (((s.put F.TIM_STAT.SYNC v).put F.TIM_STAT.HOLD h).ev f) :=
  onlyRegs_of_changesOnly
    (((changesOnly_put (by simp) s v).trans (changesOnly_put (by simp) _ h)).trans (changesOnly_ev (by simp [hf]) _))

theorem setSyncOp_spec (s : State) :
    (setSyncOp s).flag F.TIM_STAT.SYNC = true ∧ (setSyncOp s).flag F.TIM_STAT.HOLD = false ∧
      (s.flag F.TIM_STAT.SYNC = false → (setSyncOp s).flag F.TIM_EVENT.SYNC_GAIN = true) ∧
      OnlyRegs [Reg.TIM_STAT, Reg.TIM_EVENT] s (setSyncOp s) := by
  cases hsync : s.flag F.TIM_STAT.SYNC
  · rw [setSyncOp_of_no_sync hsync, State.flag_ev_reg _ _ _ (by decide), State.flag_ev_reg _ _ _ (by decide), sync_put_hold]
    exact ⟨State.flag_ev _ _ (by decide) (by decide), State.flag_put_zero _ _ (by decide) (by decide),
      fun _ => State.flag_ev _ _ (by decide) (by decide), onlyRegs_sync_event s 1 0 rfl⟩
  · rw [setSyncOp_of_sync hsync, sync_put_hold]
    exact ⟨hsync, State.flag_put_zero _ _ (by decide) (by decide), Bool.noConfusion,
      onlyRegs_of_changesOnly (changesOnly_put (by simp) s 0)⟩

theorem clearSyncOp_spec (s : State) :
    (clearSyncOp s).flag F.TIM_STAT.SYNC = false ∧
      (s.flag F.TIM_STAT.SYNC = true →
        (clearSyncOp s).flag F.TIM_STAT.HOLD = true ∧ (clearSyncOp s).flag F.TIM_EVENT.SYNC_LOST = true) ∧
      (s.flag F.TIM_STAT.SYNC = false → clearSyncOp s = s) ∧ OnlyRegs [Reg.TIM_STAT, Reg.TIM_EVENT] s (clearSyncOp s) := by
  cases hsync : s.flag F.TIM_STAT.SYNC
  · rw [clearSyncOp_of_no_sync hsync]
    exact ⟨hsync, Bool.noConfusion, fun _ => rfl, onlyRegs_of_changesOnly (.refl _ s)⟩
  · rw [clearSyncOp_of_sync hsync, State.flag_ev_reg _ _ _ (by decide), State.flag_ev_reg _ _ _ (by decide), sync_put_hold]
    exact ⟨State.flag_put_zero _ _ (by decide) (by decide),
      fun _ => ⟨State.flag_ev _ _ (by decide) (by decide), State.flag_ev _ _ (by decide) (by decide)⟩,
      Bool.noConfusion, onlyRegs_sync_event s 0 1 rfl⟩

/-! ### The present time (R586) -/

theorem exec_nowNsRead {s : State} {core : Sender} (hacc : canAccess s core = true) :
    exec (.nowNsRead core) s = .next (nowNsOp core s) :=
  congrArg Host.Outcome.next (if_pos hacc)

/-- A view that stands at a single register of every role is what its read returns. -/
theorem readReg_of_viewOf {s : State} {core : Sender} {a : Nat} {w : Word} (hread : readable a = true)
    (hsingle : pairRole a = .single) (hdoor : a < 0x40030c00 ∨ 0x40030c88 ≤ a) (hrole : sectOnly a = false)
    (hcmm : cmmChanAt a = none) (hview : viewOf s core a = some w) : readReg s core a = w := by
  have hidle : doorAbsent s a = false := by
    simp only [doorAbsent, Bool.and_eq_false_iff, decide_eq_false_iff_not]
    omega
  simp [readReg, instantWord, roleIdle, setpIdle, hread, hsingle, hidle, hrole, hcmm, hview]

/-- Address `a` is that of a register of the array of `n` from `base` on, `stride` apart. -/
abbrev InArray (base n stride a : Nat) : Prop := base ≤ a ∧ (a - base) % stride = 0 ∧ (a - base) / stride < n

theorem findView_cons_of_inArray {base n stride a : Nat} (word : Nat → Word) (l : List View) (h : InArray base n stride a) :
    findView a (⟨base, n, stride, word⟩ :: l) = some (word ((a - base) / stride)) := if_pos h

theorem findView_cons_of_not_inArray {base n stride a : Nat} (word : Nat → Word) (l : List View) (h : ¬ InArray base n stride a) :
    findView a (⟨base, n, stride, word⟩ :: l) = findView a l := if_neg h

theorem viewOf_of_tim {a : Nat} (s : State) (core : Sender) (h : blockOf a = some 10) : viewOf s core a = findView a (viewsD s core) := by
  simp [viewOf, h]

theorem viewOf_nowSeconds (s : State) (core : Sender) :
    viewOf s core Reg.TIM_NOW_S_LO = some (shadowOf s Reg.TIM_NOW_S_LO core) ∧
      viewOf s core Reg.TIM_NOW_S_HI = some (shadowOf s Reg.TIM_NOW_S_HI core) := by
  constructor <;>
    rw [viewOf_of_tim s core (by decide), viewsD, findView_cons_of_not_inArray _ _ (by decide),
      findView_cons_of_inArray _ _ (by decide)] <;>
    rfl

/-- The words of the present seconds are the reader's latched copies. -/
theorem readReg_nowSeconds (s : State) (core : Sender) :
    readReg s core Reg.TIM_NOW_S_LO = shadowOf s Reg.TIM_NOW_S_LO core ∧
      readReg s core Reg.TIM_NOW_S_HI = shadowOf s Reg.TIM_NOW_S_HI core :=
  ⟨readReg_of_viewOf (by decide) (by decide) (by decide) (by decide) (by decide) (viewOf_nowSeconds s core).1,
    readReg_of_viewOf (by decide) (by decide) (by decide) (by decide) (by decide) (viewOf_nowSeconds s core).2⟩

theorem shadowOf_setShadow_same (lo : Nat) (core : Sender) (w : Word) (s : State) :
    shadowOf (setShadow lo core w s) lo core = w := smGet_smSet_same _ _ _ _

theorem shadowOf_setShadow_ne {lo lo' : Nat} {core c : Sender} (w : Word) (s : State) (h : lo ≠ lo' ∨ core ≠ c) :
    shadowOf (setShadow lo' c w s) lo core = shadowOf s lo core := by
  refine smGet_smSet_ne _ _ _ _ _ _ ?_
  have hval : lo ≠ lo' ∨ core.val ≠ c.val := h.imp_right Fin.val_ne_of_ne
  simp only [perSender]
  omega

theorem shadowOf_setRdata (core : Sender) (w : Word) (s : State) (lo : Nat) (c : Sender) :
    shadowOf (setRdata core w s) lo c = shadowOf s lo c := rfl

/-- A read of TIM_NOW_NS keeps both words of the seconds for its reader. -/
theorem shadowOf_nowNsOp (core : Sender) (s : State) :
    shadowOf (nowNsOp core s) Reg.TIM_NOW_S_LO core = wd s.tb.sec ∧
      shadowOf (nowNsOp core s) Reg.TIM_NOW_S_HI core = wd (s.tb.sec / 2 ^ 32 % 2 ^ 16) := by
  simp only [nowNsOp, latchSec, shadowOf_setRdata]
  constructor
  · rw [shadowOf_setShadow_ne _ _ (.inl (by decide)), shadowOf_setShadow_same, lo32]
  · exact shadowOf_setShadow_same ..

/-- A read of TIM_NOW_NS leaves the copies of every other reader alone. -/
theorem shadowOf_nowNsOp_ne {core c : Sender} (s : State) (lo : Nat) (h : c ≠ core) :
    shadowOf (nowNsOp core s) lo c = shadowOf s lo c := by
  simp only [nowNsOp, latchSec, shadowOf_setRdata, shadowOf_setShadow_ne _ _ (.inr h)]

/-! ### Arming a snapshot (R588) -/

theorem exec_snapArm {s : State} {core : Sender} {v : Word} (hacc : canAccess s core = true)
    (hfree : Unguarded s Reg.TIM_SNAP_AT_NS) (hv : v.getLsbD 31 = true) :
    exec (.snapArm core v) s = .next (snapArmOp v s) :=
  congrArg Host.Outcome.next ((writeCmd_of_unguarded _ hacc hfree).trans (if_pos hv))

theorem exec_snapDisarm {s : State} {core : Sender} {v : Word} (hacc : canAccess s core = true)
    (hfree : Unguarded s Reg.TIM_SNAP_AT_NS) (hv : v.getLsbD 31 = false) :
    exec (.snapDisarm core v) s = .next (snapArmOp v s) :=
  congrArg Host.Outcome.next ((writeCmd_of_unguarded _ hacc hfree).trans (if_neg (ne_true_of_eq_false hv)))

theorem storeReg_snapAtNs (v : Word) (s : State) :
    storeReg Reg.TIM_SNAP_AT_NS v s = s.setReg Reg.TIM_SNAP_AT_NS (v &&& 0xBFFFFFFF) := by
  have hgroup : regGroup Reg.TIM_SNAP_AT_NS = none := by decide
  have hmask : wd (regWmask Reg.TIM_SNAP_AT_NS) = 0xBFFFFFFF := by decide
  simp only [storeReg, hgroup, hmask]

theorem arm_setReg_snapAtNs (v : Word) (s : State) :
    (s.setReg Reg.TIM_SNAP_AT_NS (v &&& 0xBFFFFFFF)).flag F.TIM_SNAP_AT_NS.ARM = v.getLsbD 31 := by
  rw [State.flag_eq_getLsbD, State.reg_setReg_same]
  simp

theorem snapAt_setReg_snapAtNs (v : Word) (s : State) :
    snapAt (s.setReg Reg.TIM_SNAP_AT_NS (v &&& 0xBFFFFFFF)) =
      s.pair Reg.TIM_SNAP_AT_S_LO * 1000000000 + v.toNat % 2 ^ 30 := by
  rw [snapAt, State.get, State.reg_setReg_same, getF_ns_and_snapMask, State.pair, State.reg_setReg_ne _ _ _ _ (by decide),
    State.reg_setReg_ne _ _ _ _ (by decide), State.pair, nsPerSec]

/-- What a write of TIM_SNAP_AT_NS does: it stores, and a time armed that has passed is disarmed with SNAP_LATE. -/
theorem snapArmOp_eq (v : Word) (s : State) :
    snapArmOp v s =
      if v.getLsbD 31 = true ∧ s.pair Reg.TIM_SNAP_AT_S_LO * 1000000000 + v.toNat % 2 ^ 30 < s.nowNs then
        ((s.setReg Reg.TIM_SNAP_AT_NS (v &&& 0xBFFFFFFF)).put F.TIM_SNAP_AT_NS.ARM 0).ev F.TIM_EVENT.SNAP_LATE
      else s.setReg Reg.TIM_SNAP_AT_NS (v &&& 0xBFFFFFFF) := by
  have hnow : (s.setReg Reg.TIM_SNAP_AT_NS (v &&& 0xBFFFFFFF)).nowNs = s.nowNs := rfl
  simp only [snapArmOp, storeReg_snapAtNs, arm_setReg_snapAtNs, snapAt_setReg_snapAtNs, hnow, Bool.and_eq_true, decide_eq_true_eq]

/-- TIM_SNAP_AT_NS with ARM cleared. -/
theorem reg_put_arm_zero (s : State) :
    (s.put F.TIM_SNAP_AT_NS.ARM 0).reg Reg.TIM_SNAP_AT_NS = s.reg Reg.TIM_SNAP_AT_NS &&& 0x7FFFFFFF :=
  (State.reg_setReg_same _ _ _).trans (setF_bit31_zero _)

/-! ### Snapshots (05 R146; R588, R589) -/

/-- The registers below the window of TIM: those of the blocks SYS to FAB. -/
abbrev BelowTim (a : Nat) : Prop := a < 0x400a0000

theorem changesOnly_snapOnce {P : Nat → Prop} {f : State → State} (hf : ∀ t, ChangesOnly P t (f t)) (b : Nat) (s : State) :
    ChangesOnly P s (snapOnce b f s) := by
  have hmark : ChangesOnly P s { s with bus := { s.bus with snapAt := smPut s.bus.snapAt b s.tb.tick } } :=
    ⟨fun _ _ => rfl, fun _ => rfl, rfl⟩
  rw [snapOnce]
  split
  case isTrue => exact .refl P s
  case isFalse => exact hmark.trans (hf _)

theorem changesOnly_takeTrj (s : State) : ChangesOnly BelowTim s (takeTrj s) := by
  refine changesOnly_forN (fun i _ t => ?_) s
  have hpos : Reg.TRJ_AXIS_SNP_LO i = 0x4003002c + 0x40 * i := rfl
  have hvel : Reg.TRJ_AXIS_SNV i = 0x40030034 + 0x40 * i := rfl
  exact (changesOnly_resultPair (by omega) (by omega) t _).trans (changesOnly_result (by omega) _ _)

theorem changesOnly_takeCmm (s : State) : ChangesOnly BelowTim s (takeCmm s) := by
  refine (changesOnly_forN (fun i _ t => ?_) s).trans (changesOnly_ev (by decide) _)
  have hvec : Reg.CMM_CH_SNPV i = 0x40041100 + 0x8 * i := rfl
  have hcnt : Reg.CMM_CH_SNPC i = 0x40041104 + 0x8 * i := rfl
  exact (changesOnly_result (by omega) t _).trans (changesOnly_result (by omega) _ _)

theorem changesOnly_takeFbk (s : State) : ChangesOnly BelowTim s (takeFbk s) := by
  refine (changesOnly_forN (fun i _ t => ?_) s).trans (changesOnly_ev (by decide) _)
  have hpos : Reg.FBK_CH_SNP_LO i = 0x40060034 + 0x40 * i := rfl
  have hvel : Reg.FBK_CH_SNV i = 0x4006003c + 0x40 * i := rfl
  exact (changesOnly_resultPair (by omega) (by omega) t _).trans (changesOnly_result (by omega) _ _)

theorem changesOnly_takeFio (s : State) : ChangesOnly BelowTim s (takeFio s) := by
  refine (changesOnly_forN (fun i _ t => ?_) s).trans (changesOnly_ev (by decide) _)
  have hcnt : Reg.FIO_FIN_SNC_LO i = 0x40070110 + 0x20 * i := rfl
  exact changesOnly_resultPair (by omega) (by omega) t _

/-- The snapshots of the blocks leave TIM alone. -/
theorem changesOnly_snapBlocks (s : State) : ChangesOnly BelowTim s (snapFio (snapFbk (snapCmm (snapTrj s)))) :=
  (((changesOnly_snapOnce changesOnly_takeTrj 3 s).trans (changesOnly_snapOnce changesOnly_takeCmm 4 _)).trans
    (changesOnly_snapOnce changesOnly_takeFbk 6 _)).trans (changesOnly_snapOnce changesOnly_takeFio 7 _)

theorem snapped_resultPair (s : State) (lo : Nat) (v : Int) : Snapped s (s.resultPair lo v) lo v :=
  ⟨(State.reg_setReg_ne _ _ _ _ (by omega)).trans (State.reg_setReg_same _ _ _), State.reg_setReg_same _ _ _⟩

/-- A snapshot's result seen from another state with the same tag, and in a later state with the same words. -/
theorem Snapped.congr {s s' t t' : State} {lo : Nat} {v : Int} (h : Snapped s t lo v) (htag : s.reg (lo + 4) = s'.reg (lo + 4))
    (hlo : t'.reg lo = t.reg lo) (hhi : t'.reg (lo + 4) = t.reg (lo + 4)) : Snapped s' t' lo v :=
  ⟨hlo.trans h.1, hhi.trans (htag ▸ h.2)⟩

/-- A system snapshot: TIM_SNAPT takes the present time, SNAP_DONE sets, and no register of TIM beside it and TIM_EVENT changes. -/
theorem takeAll_spec (s : State) :
    Snapped s (takeAll s) Reg.TIM_SNAPT_LO (s.tb.sec % 2 ^ 32 * 2 ^ 30 + s.tb.ns : Nat) ∧
      (takeAll s).flag F.SYS_EVENT.SNAP_DONE = true ∧
      ChangesOnly (fun a => BelowTim a ∨ a ∈ [Reg.TIM_SNAPT_LO, Reg.TIM_SNAPT_HI, Reg.TIM_EVENT]) s (takeAll s) := by
  have hblocks := changesOnly_snapBlocks s
  have hstamp : stamp62 s.now = s.tb.sec % 2 ^ 32 * 2 ^ 30 + s.tb.ns := rfl
  rw [← hstamp]
  refine ⟨?_, State.flag_ev _ _ (by decide) (by decide), ?_⟩
  · refine (snapped_resultPair _ Reg.TIM_SNAPT_LO _).congr (hblocks.1 _ (by decide)) ?_ ?_ <;>
      exact (State.reg_ev_ne _ _ _ (by decide)).trans (State.reg_ev_ne _ _ _ (by decide))
  · exact (((hblocks.mono fun _ => .inl).trans (changesOnly_resultPair (by simp) (by simp) _ _)).trans
      (changesOnly_ev (by simp) _)).trans (changesOnly_ev (by decide) _)

theorem snapTaken_put (s : State) (f : FRef) (v b : Nat) : SnapTaken (s.put f v) b ↔ SnapTaken s b := Iff.rfl

theorem snapAll_of_not_taken {s : State} (h : ¬ SnapTaken s 10) :
    snapAll s = takeAll { s with bus := { s.bus with snapAt := smPut s.bus.snapAt 10 s.tb.tick } } := if_neg h

/-- A system snapshot not yet taken in this clock is taken. -/
theorem snapAll_spec {s : State} (h : ¬ SnapTaken s 10) :
    Snapped s (snapAll s) Reg.TIM_SNAPT_LO (s.tb.sec % 2 ^ 32 * 2 ^ 30 + s.tb.ns : Nat) ∧
      (snapAll s).flag F.SYS_EVENT.SNAP_DONE = true ∧
      ChangesOnly (fun a => BelowTim a ∨ a ∈ [Reg.TIM_SNAPT_LO, Reg.TIM_SNAPT_HI, Reg.TIM_EVENT]) s (snapAll s) := by
  rw [snapAll_of_not_taken h]
  exact takeAll_spec { s with bus := { s.bus with snapAt := smPut s.bus.snapAt 10 s.tb.tick } }

theorem snapAt_eq (s : State) :
    snapAt s = s.pair Reg.TIM_SNAP_AT_S_LO * 1000000000 + s.get F.TIM_SNAP_AT_NS.NS := by
  rw [snapAt, nsPerSec]

theorem snapFire_of_due {s : State} (hawake : s.awake = true) (harm : s.flag F.TIM_SNAP_AT_NS.ARM = true)
    (hdue : snapAt s ≤ s.nowNs) : snapFire s = snapAll (s.put F.TIM_SNAP_AT_NS.ARM 0) := by
  simp [snapFire, hawake, harm, hdue]

theorem snapFire_of_not_due {s : State} (h : s.flag F.TIM_SNAP_AT_NS.ARM = false ∨ s.nowNs < snapAt s) : snapFire s = s := by
  refine if_neg ?_
  simp only [Bool.and_eq_true, decide_eq_true_eq, not_and, not_le]
  exact fun ⟨_, harm⟩ => h.resolve_left (ne_false_of_eq_true harm)

/-- Settles O55: each command of the time base is its operation on the state; the step's arithmetic is the clock's own modulo its range, and
the armed snapshot is a system snapshot, whose blocks leave TIM alone. -/
theorem clockTakesAddendStepsAndSnapshots : Obligations.ClockTakesAddendStepsAndSnapshots := by
  refine ⟨fun s core v hacc hfree => ⟨fun hfw hlo hhi => ?addendStored, fun href => ?addendRefused⟩,
    fun s core v off hacc hfree hoff => ⟨fun hfw hok => ?stepTaken, fun href => ?stepRefused⟩,
    fun s core v hacc hfree =>
      ⟨fun hfw hop => ?syncSet, fun hfw hop => ?syncCleared, fun hfw => ⟨?setIgnored, ?clearIgnored⟩⟩,
    fun s core hacc => ?timeRead,
    fun s core v at' hacc hfree hat => ⟨fun harm hnow => ?armed, fun harm hlate => ?armedLate, fun harm => ?disarmed⟩,
    fun s hawake => ⟨fun harm hdue hfresh => ?fired, fun hidle => ?idle⟩⟩
  case addendStored =>
    have hop := addendOp_of_accepted hfw ((addendOk_iff v).mpr ⟨hlo, hhi⟩)
    exact ⟨_, hop ▸ exec_addendWrite v hacc hfree, State.reg_setReg_same _ _ _,
      onlyRegs_of_changesOnly (changesOnly_setReg (by simp) s v)⟩
  case addendRefused =>
    have hnot : ¬ (s.flag F.TIM_CFG.FW = true ∧ addendOk v = true) := by
      rw [addendOk_iff]
      rintro ⟨hfw, hlo, hhi⟩
      simp only [hfw, Bool.true_eq_false, false_or] at href
      omega
    exact ⟨_, addendOp_of_refused hnot ▸ exec_addendWrite v hacc hfree, State.flag_ev _ _ (by decide) (by decide),
      onlyRegs_of_changesOnly (changesOnly_ev (by simp) s)⟩
  case stepTaken =>
    have hop := stepOp_of_accepted (s := setHold Reg.TIM_STEP_LO core 0 s) hfw ((stepAllowed_iff _ off).mpr hok)
    obtain ⟨hnow, hns, hbus, hrest⟩ := clockAdd_clock off (setHold Reg.TIM_STEP_LO core 0 s)
    obtain ⟨hreg, hpend, hhold⟩ := reads_of_bus_eq hbus
    refine ⟨clockAdd off (setHold Reg.TIM_STEP_LO core 0 s), (exec_clockStep v hacc hfree).trans (by rw [← hoff, hop]),
      (congrArg Nat.cast hnow).trans (nowNs_clockMove off _), hns ▸ ns_clockMove_lt off _, ?_,
      (hhold _ _).trans (holdOf_setHold_same ..), next_clockAdd_of_servo (s := setHold Reg.TIM_STEP_LO core 0 s) off,
      next_clockAdd_of_not_servo (s := setHold Reg.TIM_STEP_LO core 0 s) off, fun a _ => hreg a, hpend, ?_⟩
    · rw [hrest]
      rfl
    · rw [hbus]
      exact hrest
  case stepRefused =>
    have hnot : ¬ (s.flag F.TIM_CFG.FW = true ∧ stepAllowed s off = true) := by
      rw [stepAllowed_iff]
      rintro ⟨hfw, hok⟩
      obtain hnofw | ⟨hservo, hbig⟩ := href
      · exact ne_true_of_eq_false hnofw hfw
      · have := hok hservo
        omega
    have hop := stepOp_of_refused (s := setHold Reg.TIM_STEP_LO core 0 s) hnot
    exact ⟨(setHold Reg.TIM_STEP_LO core 0 s).ev F.TIM_EVENT.STEP_REJ,
      (exec_clockStep v hacc hfree).trans (by rw [← hoff, hop]), State.flag_ev _ _ (by decide) (by decide),
      (holdOf_ev ..).trans (holdOf_setHold_same ..), onlyRegs_of_changesOnly (changesOnly_ev (by simp) _)⟩
  case syncSet =>
    exact ⟨_, (exec_setSync v hacc hfree).trans (by rw [if_pos hop, timCmdOp_one hfw hop]), setSyncOp_spec s⟩
  case syncCleared =>
    exact ⟨_, (exec_clearSync v hacc hfree).trans (by rw [if_pos hop, timCmdOp_two hfw hop]), clearSyncOp_spec s⟩
  case setIgnored => exact ⟨_, (exec_setSync v hacc hfree).trans (by rw [timCmdOp_of_no_fw v hfw, ite_self]), rfl⟩
  case clearIgnored => exact ⟨_, (exec_clearSync v hacc hfree).trans (by rw [timCmdOp_of_no_fw v hfw, ite_self]), rfl⟩
  case timeRead =>
    simp only [readReg_nowSeconds]
    obtain ⟨hlo, hhi⟩ := shadowOf_nowNsOp core s
    exact ⟨_, exec_nowNsRead hacc, setRdata_rdata_same .., hlo, hhi,
      fun c hc => ⟨shadowOf_nowNsOp_ne s _ hc, shadowOf_nowNsOp_ne s _ hc⟩, fun _ _ => rfl, fun _ => rfl, rfl⟩
  case armed =>
    have hop := (snapArmOp_eq v s).trans (if_neg (by omega))
    exact ⟨_, hop ▸ exec_snapArm hacc hfree harm, State.reg_setReg_same _ _ _,
      onlyRegs_of_changesOnly (changesOnly_setReg (by simp) s _)⟩
  case armedLate =>
    have hop := (snapArmOp_eq v s).trans (if_pos ⟨harm, hat ▸ hlate⟩)
    refine ⟨_, hop ▸ exec_snapArm hacc hfree harm, ?_, State.flag_ev _ _ (by decide) (by decide), onlyRegs_of_changesOnly
      (((changesOnly_setReg (by simp) s _).trans (changesOnly_put (by simp) _ 0)).trans (changesOnly_ev (by simp) _))⟩
    rw [State.reg_ev_ne _ _ _ (by decide), reg_put_arm_zero, State.reg_setReg_same, and_snapMask_low31]
  case disarmed =>
    have hop := (snapArmOp_eq v s).trans (if_neg fun h => ne_true_of_eq_false harm h.1)
    rw [and_snapMask_of_disarmed harm] at hop
    exact ⟨_, hop ▸ exec_snapDisarm hacc hfree harm, State.reg_setReg_same _ _ _,
      onlyRegs_of_changesOnly (changesOnly_setReg (by simp) s _)⟩
  case fired =>
    have hop := snapFire_of_due hawake harm (snapAt_eq s ▸ hdue)
    obtain ⟨hsnapped, hdone, hall⟩ := snapAll_spec ((snapTaken_put s F.TIM_SNAP_AT_NS.ARM 0 10).not.mpr (hfresh 10))
    obtain ⟨-, hpend, hrest⟩ := (changesOnly_put (P := fun _ => True) trivial s 0).trans (hall.mono fun _ _ => trivial)
    rw [State.put_tb] at hsnapped
    exact ⟨_, congrArg Host.Outcome.next hop, (hall.1 _ (by decide)).trans (reg_put_arm_zero s),
      hsnapped.congr (State.reg_put_ne _ _ _ _ (by decide)) rfl rfl, hdone, hrest, hpend⟩
  case idle => exact ⟨_, congrArg Host.Outcome.next (snapFire_of_not_due (by rwa [snapAt_eq])), rfl⟩

end Sys2Proof.Machine
end

section
/-!
PROOF. Resets, supplies, clock failures and the test port (03 R88, R91, R92; 04 R94 to R100; 21 R621 to R623): what a reset puts in
force, how an event enters its queue, and what entering Lock-out leaves of the clock failure that led to it.
-/

namespace Sys2Proof.Machine

open Sys2Proof

/-! ### Supplies (R88) -/

/-- Rail `r` noted as beyond its threshold since now, or as back. -/
def noteRail (r : Nat) (beyond : Bool) (s : State) : State :=
  { s with pw := { s.pw with railsOut := if beyond then smPut s.pw.railsOut r s.tb.tick else smErase s.pw.railsOut r } }

theorem smFind_noteRail_same (r : Nat) (beyond : Bool) (s : State) :
    smFind (noteRail r beyond s).pw.railsOut r = if beyond then some s.tb.tick else none := by
  cases beyond
  · exact smFind_smErase_same _ _
  · exact smFind_smPut_same _ _ _

theorem smFind_noteRail_ne {r q : Nat} (beyond : Bool) (s : State) (h : q ≠ r) :
    smFind (noteRail r beyond s).pw.railsOut q = smFind s.pw.railsOut q := by
  cases beyond
  · exact smFind_smErase_ne _ _ _ h
  · exact smFind_smPut_ne _ _ _ _ h

/-- A watched rail's crossing is noted, and VS5 below its low threshold is the one that warns. -/
theorem railCross_cases {s : State} {r : Nat} (low beyond : Bool) (hwatch : railWatched s r = true)
    (hrun : s.pw.phase = Phase.running) :
    ((r = 0 ∧ low = true ∧ beyond = true) ∧ railCross r low beyond s = (noteRail r beyond s).ev F.PCM_EVENT.VS5_WARN) ∨
      (¬ (r = 0 ∧ low = true ∧ beyond = true) ∧ railCross r low beyond s = noteRail r beyond s) := by
  have hcross : railCross r low beyond s =
      if r = 0 ∧ low = true ∧ beyond = true then (noteRail r beyond s).ev F.PCM_EVENT.VS5_WARN else noteRail r beyond s := by
    simp [railCross, noteRail, hwatch, hrun, and_assoc]
  by_cases hwarn : r = 0 ∧ low = true ∧ beyond = true
  · exact .inl ⟨hwarn, hcross.trans (if_pos hwarn)⟩
  · exact .inr ⟨hwarn, hcross.trans (if_neg hwarn)⟩

theorem supplyReset_of_due {s : State} {r t0 : Nat} (hout : smFind s.pw.railsOut r = some t0) (hdue : t0 + 6250 ≤ s.tb.tick) :
    supplyReset r s = { resetNow causeSupply s with conf := { (resetNow causeSupply s).conf with rail := r } } := by
  simp [supplyReset, hout, railTicks, hdue]

/-! ### Resets (R94 to R100) -/

theorem resetInForce_resetNow (cause : Nat) (s : State) : ResetInForce cause s (resetNow cause s) := by
  have hlines : ∀ e, e ∈ (resetNow cause s).fio.links → e.2.lines = 0 := by
    intro e he
    obtain ⟨x, -, rfl⟩ := List.mem_map.mp he
    rfl
  exact ⟨rfl, rfl, rfl, fun _ => rfl, fun _ => rfl, rfl, rfl, rfl, rfl, rfl, rfl, rfl, rfl, rfl, hlines, rfl, rfl, rfl, rfl⟩

theorem nrstLow_of_long {ns : Nat} (s : State) (h : 1000 ≤ ns) :
    nrstLow ns s = { resetNow causePin s with pins := { (resetNow causePin s).pins with nrst := false } } := by
  rw [nrstLow, if_neg (by omega), if_neg (by omega)]

theorem nrstLow_of_short {ns : Nat} (s : State) (h : ns < 200) : nrstLow ns s = s := if_pos h

/-- The modes SYS_RESET_REQ is accepted in (R99). -/
theorem resetAllowed_iff (s : State) :
    resetAllowed s = true ↔ s.mode = .watch ∨ s.mode = .lockout ∨
      (s.mode = .standby ∨ s.mode = .commissioning) ∧ ∀ c, c ∈ heldCars s → recMoves s c = false := by
  rw [resetAllowed]
  cases s.mode <;> simp

theorem not_resetAllowed {s : State} (h : s.mode = .service ∨ s.mode = .inspection ∨ s.mode = .rescue ∨
    (s.mode = .standby ∨ s.mode = .commissioning) ∧ ∃ c, c ∈ heldCars s ∧ recMoves s c = true) : ¬ resetAllowed s = true := by
  obtain hm | hm | hm | ⟨hm | hm, hmove⟩ := h
  case inl => simp [resetAllowed, hm]
  case inr.inl => simp [resetAllowed, hm]
  case inr.inr.inl => simp [resetAllowed, hm]
  case inr.inr.inr.inl => simpa [resetAllowed, hm] using hmove
  case inr.inr.inr.inr => simpa [resetAllowed, hm] using hmove

theorem exec_softwareReset {s : State} {core : Sender} {v : Word} (hguard : Guarded s core Reg.SYS_RESET_REQ v) :
    exec (.softwareReset core (~~~ v)) s = .next (resetReqOp v (dropGuard 0 s)) :=
  congrArg Host.Outcome.next (cplWrite_of_armed resetReqOp hguard.1 (by decide) hguard.2)

theorem resetReqOp_of_allowed {s : State} {v : Word} (hv : v.getLsbD 0 = true) (hallow : resetAllowed s = true) :
    resetReqOp v s = resetNow causeSw s := (if_pos hv).trans (if_pos hallow)

theorem resetReqOp_of_refused {s : State} {v : Word} (hv : v.getLsbD 0 = true) (hrefuse : ¬ resetAllowed s = true) :
    resetReqOp v s = record 0 0 4 (items [s.mode.code]) s := (if_pos hv).trans (if_neg hrefuse)

/-! ### The queues of the recorder (20 R593, R595) -/

theorem behind_iff (e x : RecEv) :
    behind e x = true ↔ x.sec = e.sec ∧ x.ns = e.ns ∧ e.src * 256 + e.unit < x.src * 256 + x.unit := by
  simp only [behind, Bool.and_eq_true, beq_iff_eq, decide_eq_true_eq, and_assoc]
  rfl

/-- An event enters between the longest end of the queue that is behind it and the rest. -/
theorem enter_eq (e : RecEv) (q : List RecEv) :
    enter e q = q.rdropWhile (behind e) ++ e :: q.rtakeWhile (behind e) := by
  have hq : q.rdropWhile (behind e) ++ q.rtakeWhile (behind e) = q := List.rdropWhile_append_rtakeWhile
  have hlen : q.length - (q.reverse.takeWhile (behind e)).length = (q.rdropWhile (behind e)).length := by
    have hsum := congrArg List.length hq
    rw [List.length_append, List.rtakeWhile, List.length_reverse] at hsum
    omega
  have htake := List.take_left (l₁ := q.rdropWhile (behind e)) (l₂ := q.rtakeWhile (behind e))
  have hdrop := List.drop_left (l₁ := q.rdropWhile (behind e)) (l₂ := q.rtakeWhile (behind e))
  rw [hq] at htake hdrop
  simp only [enter, hlen, htake, hdrop]

theorem entered_enter (e : RecEv) (q : List RecEv) : Entered e q (enter e q) := by
  refine ⟨q.rdropWhile (behind e), q.rtakeWhile (behind e), List.rdropWhile_append_rtakeWhile.symm, enter_eq e q,
    fun x hx => (behind_iff e x).mp (List.mem_rtakeWhile_imp hx), fun x hx => ?_⟩
  rw [← behind_iff]
  obtain ⟨hne, hlast⟩ := List.mem_getLast?_eq_getLast hx
  exact hlast ▸ List.rdropWhile_last_not _ _ hne

/-- What discarding or queueing an event changes: the recorder, its two registers and the MRAM. -/
def RecorderOnly (s t : State) : Prop :=
  RegsBut [Reg.REC_EVENT, Reg.REC_LOST] s t ∧
    t = { s with bus := t.bus, nv := { s.nv with mram := t.nv.mram }, rcd := t.rcd }

theorem recorderOnly_dropEvent (s : State) : RecorderOnly s (dropEvent s) := by
  have hev : RegsBut [Reg.REC_EVENT, Reg.REC_LOST] s (s.ev F.REC_EVENT.DROP) :=
    fun a ha => State.reg_ev_ne _ _ _ (by rintro rfl; simp at ha)
  rw [dropEvent]
  split
  · exact ⟨hev, rfl⟩
  · exact ⟨fun a ha => (State.reg_setReg_ne _ _ _ _ (by rintro rfl; simp at ha)).trans (hev a ha), rfl⟩

theorem recorderOnly_enqueue (safety : Bool) (e : RecEv) (s : State) : RecorderOnly s (enqueue safety e s) := by
  have hqueue : ∀ r, RecorderOnly s { s with rcd := r } := fun _ => ⟨fun _ _ => rfl, rfl⟩
  have hdrop := recorderOnly_dropEvent s
  rw [enqueue]
  split_ifs
  exacts [hdrop, hqueue _, hdrop, hqueue _, hdrop]

theorem record_of_room {s : State} (src unit code : Nat) (data : List Byte) (hfull : s.flag F.REC_STAT.FULL = false)
    (hroom : s.rcd.general.length < 32) :
    (record src unit code data s).rcd.general = enter ⟨src, unit, code, s.tb.sec, s.tb.ns, data⟩ s.rcd.general := by
  simp [record, enqueue, hfull, hroom]

/-! ### The test access port (21 R621 to R623) -/

theorem tapChain_of_low {s : State} (ir : Nat) (lands pattern : BitVec 91) (h : s.pins.nrst = false) :
    tapChain ir lands pattern s =
      { s with pins := { s.pins with tapIr := ir, tapDr := lands.toNat, chain := pattern.toNat } } := by
  rw [tapChain, if_neg (by simp [h])]
  rfl

theorem tapChain_of_high {s : State} (ir : Nat) (lands pattern : BitVec 91) (h : s.pins.nrst = true) :
    tapChain ir lands pattern s = { s with pins := { s.pins with tapIr := 15, tapDr := 0 } } := if_pos h

theorem tapKnown_eq_false {code : Nat} (h0 : code ≠ 0) (h1 : code ≠ 1) (h2 : code ≠ 2) : tapKnown code = false := by
  simp [tapKnown, tapExtest, tapIdcode, tapSample, h0, h1, h2]

/-! ### What leads to Lock-out keeps of a clock failure (03 R91, R92; 15 R475) -/

/-- The mode, the bar on Dormant, the life-cycle record and CLK_FAULT stand as before. -/
def KeepsClockFault (s t : State) : Prop :=
  t.mode = s.mode ∧ t.pw.bar = s.pw.bar ∧ t.nv.lc = s.nv.lc ∧
    t.flag F.PCM_EVENT.CLK_FAULT = s.flag F.PCM_EVENT.CLK_FAULT

theorem flag_of_reg_eq {s t : State} {f : FRef} (h : t.reg f.addr = s.reg f.addr) : t.flag f = s.flag f := by
  simp only [State.flag, State.get, h]

namespace KeepsClockFault

theorem refl (s : State) : KeepsClockFault s s := ⟨rfl, rfl, rfl, rfl⟩

theorem trans {s t u : State} (hst : KeepsClockFault s t) (htu : KeepsClockFault t u) : KeepsClockFault s u := by
  obtain ⟨hmode, hbar, hlc, hflag⟩ := hst
  obtain ⟨hmode', hbar', hlc', hflag'⟩ := htu
  exact ⟨hmode'.trans hmode, hbar'.trans hbar, hlc'.trans hlc, hflag'.trans hflag⟩

theorem setReg {a : Nat} (ha : Reg.PCM_EVENT < a) (s : State) (w : Word) : KeepsClockFault s (s.setReg a w) :=
  ⟨rfl, rfl, rfl, flag_of_reg_eq (State.reg_setReg_ne _ _ _ _ (Nat.ne_of_lt ha))⟩

theorem put {f : FRef} (hf : Reg.PCM_EVENT < f.addr) (s : State) (v : Nat) : KeepsClockFault s (s.put f v) := setReg hf s _

theorem ev {f : FRef} (hf : Reg.PCM_EVENT < f.addr) (s : State) : KeepsClockFault s (s.ev f) := put hf s 1

/-- The other events of PCM_EVENT stand below CLK_FAULT. -/
theorem ev_pcm {n : Nat} (hn : n < 4) (s : State) : KeepsClockFault s (s.ev ⟨Reg.PCM_EVENT, ⟨n, n⟩⟩) :=
  ⟨rfl, rfl, rfl, State.flag_put_bits s _ _ 1 rfl (le_refl n) (by omega : n < 32) (.inr hn)⟩

theorem forL {α : Type} {f : α → State → State} (hf : ∀ x t, KeepsClockFault t (f x t)) (l : List α) (s : State) :
    KeepsClockFault s (s.forL l f) := by
  induction l generalizing s with
  | nil => exact refl s
  | cons x l ih => exact (hf x s).trans (ih (f x s))

theorem forN {f : Nat → State → State} (hf : ∀ i t, KeepsClockFault t (f i t)) (n : Nat) (s : State) :
    KeepsClockFault s (s.forN n f) := forL hf (List.range n) s

/-- The safety paths' own state holds none of it. -/
theorem setSaf (s : State) (x : Saf) : KeepsClockFault s { s with saf := x } := ⟨rfl, rfl, rfl, rfl⟩

/-! #### Recording and sending -/

theorem enqueue (safety : Bool) (e : RecEv) (s : State) : KeepsClockFault s (enqueue safety e s) := by
  obtain ⟨hregs, hrest⟩ := recorderOnly_enqueue safety e s
  exact ⟨(congrArg State.mode hrest :), (congrArg (·.pw.bar) hrest :), (congrArg (·.nv.lc) hrest :),
    flag_of_reg_eq (hregs Reg.PCM_EVENT (by decide))⟩

theorem nextPn (p : Nat) (s : State) : KeepsClockFault s (nextPn p s) := by
  have hpn := setReg (Nat.lt_add_right (4 * p) (by decide : Reg.PCM_EVENT < Reg.FAB_SP_TXPN 0)) s
    (wd ((s.reg (Reg.FAB_SP_TXPN p)).toNat + 1))
  have hwarn := fun t => ev (f := F.FAB_LINK_EVENT.PN_WARN) (by decide) t
  have hexh := fun t => ev (f := F.FAB_LINK_EVENT.PN_EXH) (by decide) t
  rw [Machine.nextPn]
  split_ifs
  exacts [(hpn.trans (hwarn _)).trans (hexh _), hpn.trans (hexh _), hpn.trans (hwarn _), hpn]

theorem emit (f : TxFrame) (s : State) : KeepsClockFault s (emit f s) := by
  have htx : KeepsClockFault s { s with tx := s.tx ++ [onWire s f] } := ⟨rfl, rfl, rfl, rfl⟩
  rw [Machine.emit]
  split_ifs
  exacts [refl s, htx.trans (nextPn _ _), htx, refl s]

theorem sendPort (s : State) (p dst : Nat) (bcast : Bool) (b : FrameBody) : KeepsClockFault s (s.sendPort p dst bcast b) := by
  have hseq : KeepsClockFault s (nextSeq s) := ⟨rfl, rfl, rfl, rfl⟩
  rw [State.sendPort]
  split
  · exact hseq.trans (emit _ _)
  · exact refl s

theorem announceAll (s : State) : KeepsClockFault s (announceAll s) := by
  refine forN (fun p t => ?_) 4 s
  rw [announceOn]
  split
  · exact sendPort ..
  · exact refl t

/-! #### The domains and the motion blocks -/

theorem portStop (p : Nat) (s : State) : KeepsClockFault s (portStop p s) := by
  have hheld : ∀ n t, KeepsClockFault t (t.put (F.SLK_CH_STAT.HELD n) 1) :=
    fun n t => put (Nat.lt_add_right (0x10 * n) (by decide : Reg.PCM_EVENT < Reg.SLK_CH_STAT 0)) t 1
  have hstate : ∀ t, KeepsClockFault t (setPortState p 0 t) := by
    intro t
    rw [setPortState]
    split
    · exact refl t
    · exact (put (Nat.lt_add_right (0x20 * p) (by decide : Reg.PCM_EVENT < Reg.SLK_PORT_STAT 0)) t 0).trans (ev (by decide) _)
  have hport : KeepsClockFault s (s.modPort p fun _ => SlkPort.init) := ⟨rfl, rfl, rfl, rfl⟩
  exact (hport.trans (hstate _)).trans (forL hheld _ _)

theorem serOff (p : Nat) (s : State) : KeepsClockFault s (serOff p s) := by
  have hstat : Reg.PCM_EVENT < Reg.FBK_PORT_STAT p := Nat.lt_add_right (0x20 * p) (by decide)
  have hstate : ∀ t, KeepsClockFault t (setSerState p 0 t) := by
    intro t
    rw [setSerState]
    split
    · exact refl t
    · exact (put hstat t 0).trans (ev (by decide) _)
  have hport : ∀ t f, KeepsClockFault t (t.modSer p f) := fun _ _ => ⟨rfl, rfl, rfl, rfl⟩
  exact ((put hstat s 0).trans (hport _ _)).trans (hstate _)

theorem servoStop (s : State) : KeepsClockFault s (servoStop s) := by
  have hfb : ∀ n t, KeepsClockFault t (fbOff n t) := fun _ _ => ⟨rfl, rfl, rfl, rfl⟩
  have hchan : ∀ n t, KeepsClockFault t (t.modChan n fun x => { x with got := false }) := fun _ _ => ⟨rfl, rfl, rfl, rfl⟩
  have hblocks : ∀ t cmm tide slk fbk, KeepsClockFault t { t with cmm := cmm, tide := tide, slk := slk, fbk := fbk } :=
    fun _ _ _ _ _ => ⟨rfl, rfl, rfl, rfl⟩
  have hports := (forN portStop 8 s).trans (forN serOff 8 _)
  have hchans := (hports.trans (forN hfb 144 _)).trans (forN hchan 128 _)
  exact (hchans.trans (setSaf _ _)).trans (hblocks _ _ _ _ _)

theorem domainEnter {m : Mode} (hm : modeServo m = false) (on : Bool) (prev : Mode) (s : State) :
    KeepsClockFault s (domainEnter on prev m s) := by
  rw [Machine.domainEnter, if_neg (by simp [hm])]
  split
  · exact servoStop s
  · exact refl s

theorem cmdOutcome (n code : Nat) (s : State) : KeepsClockFault s (cmdOutcome n code s) := by
  have hstat := (put (f := F.TRJ_CMD_STAT.CODE) (by decide) s code).trans (put (f := F.TRJ_CMD_STAT.AXIS) (by decide) _ n)
  rw [Machine.cmdOutcome]
  split
  · exact hstat.trans (ev (by decide) _)
  · exact hstat.trans (ev (by decide) _)

theorem modeDiscard (s : State) : KeepsClockFault s (modeDiscard s) := by
  have haxis : ∀ n u f, KeepsClockFault u (u.modAxis n f) := fun _ _ _ => ⟨rfl, rfl, rfl, rfl⟩
  have hcheck : ∀ c, KeepsClockFault s { s with trj := { s.trj with chk := c } } := fun _ => ⟨rfl, rfl, rfl, rfl⟩
  have hbusy := fun u => put (f := F.TRJ_CMD_STAT.BUSY) (by decide) u 0
  rw [Machine.modeDiscard]
  refine trans ?_ (forN (fun n u => haxis n u _) 8 _)
  split
  · exact refl s
  · exact (hcheck none).trans ((hbusy _).trans (cmdOutcome _ _ _))

/-- Doors and axes come to rest on entering Lock-out. -/
theorem motionEnter_lockout (s : State) : KeepsClockFault s (motionEnter .lockout s) := by
  have hdoor : ∀ d t, KeepsClockFault t (t.modDoor d doorHalt) := fun _ _ => ⟨rfl, rfl, rfl, rfl⟩
  exact (modeDiscard s).trans (forL hdoor (doorUnits (Machine.modeDiscard s)) _)

theorem leaveCommissioning (s : State) : KeepsClockFault s (leaveCommissioning s) := by
  have hdiag := put (f := F.SAF_STAT.DIAG_SUSP) (by decide) s 0
  rw [Machine.leaveCommissioning]
  split
  · exact hdiag
  · exact ((hdiag.trans (setSaf _ _)).trans (put (by decide) _ 0)).trans (setReg (by decide) _ 0)

theorem cachesFollow (m : Mode) (s : State) : KeepsClockFault s (cachesFollow m s) := by
  rw [Machine.cachesFollow]
  split
  · exact refl s
  · exact ⟨rfl, rfl, rfl, rfl⟩

theorem reqDrop (s : State) : KeepsClockFault s (reqDrop s) := by
  have hrefuse : ∀ code, KeepsClockFault s (refuseReq code s) :=
    fun code => trans ⟨rfl, rfl, rfl, rfl⟩ (ev_pcm (n := 1) (by decide) _)
  rw [Machine.reqDrop]
  split
  · exact hrefuse _
  · exact refl s

end KeepsClockFault

/-! ### Entering Lock-out (R475) -/

/-- The state with another mode. -/
def inMode (m : Mode) (s : State) : State := { s with pw := { s.pw with mode := m } }

/-- The state with Lock-out in its life-cycle record. -/
def withLockout (s : State) : State := { s with nv := { s.nv with lc := { s.nv.lc with lockout := true } } }

theorem KeepsClockFault.inMode {s t : State} (h : KeepsClockFault s t) (m : Mode) :
    KeepsClockFault (inMode m s) (inMode m t) := by
  obtain ⟨-, hbar, hlc, hflag⟩ := h
  exact ⟨rfl, hbar, hlc, hflag⟩

theorem KeepsClockFault.withLockout {s t : State} (h : KeepsClockFault s t) : KeepsClockFault (withLockout s) (withLockout t) := by
  obtain ⟨hmode, hbar, hlc, hflag⟩ := h
  exact ⟨hmode, hbar, congrArg (fun r : LcRecord => { r with lockout := true }) hlc, hflag⟩

/-- The report of a mode changes the mode. -/
theorem keeps_modeReport (prev m : Mode) (trig : Nat) (s : State) :
    KeepsClockFault (inMode m s) (modeReport prev m trig s) := by
  have hchg := fun t => KeepsClockFault.ev_pcm (n := 0) (by decide) t
  have hwake := fun t => KeepsClockFault.ev_pcm (n := 2) (by decide) t
  rw [modeReport]
  refine KeepsClockFault.trans ?_ (KeepsClockFault.enqueue false _ _)
  split
  · exact .trans ⟨rfl, rfl, rfl, rfl⟩ ((hchg _).trans (hwake _))
  · exact .trans ⟨rfl, rfl, rfl, rfl⟩ (hchg _)

/-- Entering Lock-out from a mode in which the device is awake changes the mode. -/
theorem keeps_enterMode_lockout {s : State} (trig : Nat) (hawake : s.mode ≠ .dormant) :
    KeepsClockFault (inMode .lockout s) (enterMode .lockout trig s) := by
  have hleft : KeepsClockFault s (if s.mode = .commissioning then leaveCommissioning s else s) := by
    split
    · exact .leaveCommissioning s
    · exact .refl s
  rw [enterMode, if_neg hawake, if_neg (by decide)]
  exact ((((hleft.trans (.motionEnter_lockout _)).inMode _).trans (keeps_modeReport _ _ _ _)).trans
    (.cachesFollow _ _)).trans ((KeepsClockFault.domainEnter rfl _ _ _).trans (.announceAll _))

theorem keeps_lockoutEnter {s : State} (trig : Nat) (hawake : s.mode ≠ .dormant) :
    KeepsClockFault (inMode .lockout (withLockout s)) (lockoutEnter trig s) := by
  -- up to the entry of the mode: the request dropped, the flag kept, the record queued
  have hnoted : KeepsClockFault (withLockout s) (recordSafety 0 0x10
      (items [((withLockout (reqDrop s)).reg Reg.SAF_FAULT).toNat]) ((withLockout (reqDrop s)).ev F.SAF_EVENT.LOCKOUT)) :=
    ((KeepsClockFault.reqDrop s).withLockout.trans (.ev (by decide) _)).trans (.enqueue true _ _)
  exact (hnoted.inMode .lockout).trans ((keeps_enterMode_lockout trig (hnoted.1 ▸ hawake)).trans (.setSaf _ _))

/-- A fault found outside Lock-out enters it (R474, R475). -/
theorem keeps_safFault {s : State} (path cls det : Nat) (hawake : s.awake = true) (hmode : s.mode ≠ .lockout) :
    KeepsClockFault (inMode .lockout (withLockout s)) (safFault path cls det s) := by
  have htrip : KeepsClockFault s (noteTrip cls s) := by
    rw [noteTrip]
    split
    · exact .setSaf _ _
    · exact .refl s
  have hfirst : KeepsClockFault s (if s.saf.latched then noteTrip cls s else firstFault path cls det (noteTrip cls s)) := by
    split
    · exact htrip
    · exact htrip.trans ((KeepsClockFault.setReg (by decide) _ _).trans ((KeepsClockFault.ev (by decide) _).trans (.setSaf _ _)))
  have hdormant : s.mode ≠ .dormant := by simpa using (Bool.and_eq_true_iff.mp hawake).2
  rw [safFault, if_pos hawake, if_neg hmode]
  exact (hfirst.withLockout.inMode .lockout).trans (keeps_lockoutEnter 9 (hfirst.1 ▸ hdormant))

/-- A clock's failure noted (R91, R92). -/
def noteClockFault (clock : Nat) (s : State) : State :=
  { s.ev F.PCM_EVENT.CLK_FAULT with
    saf := { s.saf with clkBad := true }
    pw := { s.pw with bar := s.pw.bar || clock == 3 } }

theorem flag_noteClockFault (clock : Nat) (s : State) : (noteClockFault clock s).flag F.PCM_EVENT.CLK_FAULT = true :=
  State.flag_ev s F.PCM_EVENT.CLK_FAULT (by decide) (by decide)

theorem clockFault_of_awake {s : State} (clock : Nat) (hawake : s.awake = true) :
    clockFault clock s = safFault (if clock < 2 then 2 else 1) 5 0 (noteClockFault clock s) := if_pos hawake

theorem mode_noteClockFault (clock : Nat) (s : State) : (noteClockFault clock s).mode = s.mode := by rw [State.mode, State.mode]; rfl

theorem awake_noteClockFault (clock : Nat) (s : State) : (noteClockFault clock s).awake = s.awake := by
  rw [State.awake, mode_noteClockFault, State.awake]
  rfl

/-- A clock that fails its cross-check leads to Lock-out, with CLK_FAULT set; the 32.768 kHz clock bars Dormant. -/
theorem clockFault_spec {s : State} (clock : Nat) (hawake : s.awake = true) (hmode : s.mode ≠ .lockout) :
    LockedOut (clockFault clock s) ∧ (clockFault clock s).flag F.PCM_EVENT.CLK_FAULT = true ∧
      (clock = 3 → (clockFault clock s).pw.bar = true) := by
  obtain ⟨hin, hbar, hlc, hflag⟩ :=
    keeps_safFault (if clock < 2 then 2 else 1) 5 0 ((awake_noteClockFault clock s).trans hawake)
      ((mode_noteClockFault clock s).symm ▸ hmode)
  rw [clockFault_of_awake clock hawake]
  refine ⟨⟨hin, (congrArg LcRecord.lockout hlc :)⟩, hflag.trans (flag_noteClockFault clock s), fun hclock => hbar.trans ?_⟩
  simp [inMode, withLockout, noteClockFault, hclock]

/-! ### The obligation -/

/-- Settles O23: each reset is `resetNow` with its cause, each crossing, request and test instruction its operation on the state, and a
clock failure is a safety fault, whose entry of Lock-out keeps CLK_FAULT and the bar. -/
theorem resetsSuppliesAndTheTestPort : Obligations.ResetsSuppliesAndTheTestPort := by
  refine ⟨fun s r low beyond hwatch hrun => ?crossing, fun s r t0 hout hdue => ?supply, fun s => ?powerOn,
    fun s ns => ⟨fun hlong => ?nrst, fun hshort => ?glitch⟩, fun s core v hguard hv hallow => ?accepted,
    fun s core v hguard hv hrefuse => ?refused, fun s c hawake hmode => ?clock,
    fun s lands pattern => ⟨?idcode, fun i ir hi => ⟨fun hlow => ?chain, fun hhigh => ?noChain⟩, fun c h0 h1 h2 => ?bypass⟩⟩
  case crossing =>
    refine ⟨_, rfl, ?_⟩
    obtain ⟨-, hcross⟩ | ⟨hquiet, hcross⟩ := railCross_cases low beyond hwatch hrun <;> rw [hcross]
    · exact ⟨smFind_noteRail_same _ _ _, fun _ _ _ => State.flag_ev _ _ (by decide) (by decide),
        fun a ha => State.reg_ev_ne _ _ _ (by simpa using ha), fun q hq => smFind_noteRail_ne _ _ hq, rfl⟩
    · exact ⟨smFind_noteRail_same _ _ _, fun hr hlow hout => absurd ⟨congrArg Fin.val hr, hlow, hout⟩ hquiet, fun _ _ => rfl,
        fun q hq => smFind_noteRail_ne _ _ hq, rfl⟩
  case supply =>
    exact ⟨_, congrArg Host.Outcome.next (supplyReset_of_due hout hdue), resetInForce_resetNow causeSupply s, rfl, rfl⟩
  case powerOn => exact ⟨_, rfl, rfl, rfl, rfl, fun _ => rfl, rfl, rfl, rfl, rfl, rfl⟩
  case nrst => exact ⟨_, congrArg Host.Outcome.next (nrstLow_of_long s hlong), resetInForce_resetNow causePin s, rfl, rfl⟩
  case glitch => exact ⟨_, congrArg Host.Outcome.next (nrstLow_of_short s hshort), rfl⟩
  case accepted =>
    have hop := resetReqOp_of_allowed (s := dropGuard 0 s) hv ((resetAllowed_iff s).mpr hallow)
    exact ⟨_, (exec_softwareReset hguard).trans (congrArg Host.Outcome.next hop), resetInForce_resetNow causeSw (dropGuard 0 s), rfl⟩
  case refused =>
    have hop := resetReqOp_of_refused (s := dropGuard 0 s) hv (not_resetAllowed hrefuse)
    obtain ⟨hregs, hrest⟩ := recorderOnly_enqueue false ⟨0, 0, 4, s.tb.sec, s.tb.ns, items [s.mode.code]⟩ (dropGuard 0 s)
    refine ⟨_, (exec_softwareReset hguard).trans (congrArg Host.Outcome.next hop), (congrArg State.pw hrest :),
      (congrArg State.tide hrest :), (congrArg State.cars hrest :), (congrArg State.sram hrest :),
      hregs Reg.SYS_RESET_REQ (by decide), fun hfull hroom => ?_⟩
    exact record_of_room (s := dropGuard 0 s) 0 0 4 (items [s.mode.code]) hfull hroom ▸ entered_enter _ _
  case clock => exact ⟨_, rfl, clockFault_spec c.val hawake hmode⟩
  case idcode => exact ⟨_, rfl, rfl, rfl, rfl⟩
  case chain =>
    obtain ⟨rfl, rfl⟩ | ⟨rfl, rfl⟩ := hi <;>
      exact ⟨_, congrArg Host.Outcome.next (tapChain_of_low _ lands pattern hlow), rfl⟩
  case noChain =>
    obtain ⟨rfl, rfl⟩ | ⟨rfl, rfl⟩ := hi <;>
      exact ⟨_, congrArg Host.Outcome.next (tapChain_of_high _ lands pattern hhigh), rfl⟩
  case bypass => exact ⟨_, congrArg Host.Outcome.next (if_neg (by simp [tapKnown_eq_false h0 h1 h2])), rfl⟩

end Sys2Proof.Machine
end

section
/-!
PROOF. The words of the Omgil instructions (06 R185 to R187, Tables 6.7 to 6.8): the fields of each format's word, and the decoder on it.
-/

namespace Sys2Proof.Machine

open Sys2Proof

/-! ### The fields of each format's word -/

/-- A field of the word of a number below 2^32 is that of the number. -/
theorem fld_ofNat {n : Nat} (hn : n < 2 ^ 32) (hi lo : Nat) :
    fld (BitVec.ofNat 32 n) hi lo = n / 2 ^ lo % 2 ^ (hi + 1 - lo) := by
  rw [fld, BitVec.toNat_ofNat, Nat.mod_eq_of_lt hn]

@[simp] theorem regF_val (r : Fin 32) : regF r.val = r := Fin.ofNat_val_eq_self r

@[simp] theorem accF_val (a : Fin 4) : accF a.val = a := Fin.ofNat_val_eq_self a

@[simp] theorem regF_zero : regF 0 = 0 := rfl

theorem fields_encR {func : Nat} (hf : func < 64) (rd ra rb : Fin 32) :
    fld (encR func rd ra rb) 31 26 = 0x01 ∧ fld (encR func rd ra rb) 25 21 = rd.val ∧ fld (encR func rd ra rb) 20 16 = ra.val ∧
      fld (encR func rd ra rb) 15 11 = rb.val ∧ fld (encR func rd ra rb) 10 6 = 0 ∧ fld (encR func rd ra rb) 5 0 = func := by
  unfold encR
  iterate 6 rw [fld_ofNat (by omega)]
  omega

theorem fields_encI {op : Nat} (hop : op < 64) (rd ra : Fin 32) (imm : BitVec 16) :
    fld (encI op rd ra imm) 31 26 = op ∧ fld (encI op rd ra imm) 25 21 = rd.val ∧ fld (encI op rd ra imm) 20 16 = ra.val ∧
      fld (encI op rd ra imm) 15 0 = imm.toNat := by
  have himm := imm.isLt
  unfold encI
  iterate 4 rw [fld_ofNat (by omega)]
  omega

theorem fields_encS {kind : Nat} (hk : kind < 4) (rd ra amount : Fin 32) :
    fld (encS kind rd ra amount) 31 26 = 0x07 ∧ fld (encS kind rd ra amount) 25 21 = rd.val ∧
      fld (encS kind rd ra amount) 20 16 = ra.val ∧ fld (encS kind rd ra amount) 15 7 = 0 ∧
      fld (encS kind rd ra amount) 6 5 = kind ∧ fld (encS kind rd ra amount) 4 0 = amount.val := by
  unfold encS
  iterate 6 rw [fld_ofNat (by omega)]
  omega

theorem fields_encA {func : Nat} (hf : func < 16) (rd ra rb : Fin 32) (acc : Fin 4) :
    fld (encA func rd ra rb acc) 31 26 = 0x08 ∧ fld (encA func rd ra rb acc) 25 21 = rd.val ∧
      fld (encA func rd ra rb acc) 20 16 = ra.val ∧ fld (encA func rd ra rb acc) 15 11 = rb.val ∧
      fld (encA func rd ra rb acc) 10 9 = acc.val ∧ fld (encA func rd ra rb acc) 8 4 = 0 ∧ fld (encA func rd ra rb acc) 3 0 = func := by
  unfold encA
  iterate 7 rw [fld_ofNat (by omega)]
  omega

theorem fields_encP {op : Nat} (hop : op < 64) (rd ra : Fin 32) (port : BitVec 12) :
    fld (encP op rd ra port) 31 26 = op ∧ fld (encP op rd ra port) 25 21 = rd.val ∧ fld (encP op rd ra port) 20 16 = ra.val ∧
      fld (encP op rd ra port) 15 12 = 0 ∧ fld (encP op rd ra port) 11 0 = port.toNat := by
  have hport := port.isLt
  unfold encP
  iterate 5 rw [fld_ofNat (by omega)]
  omega

/-! ### The decoder on each format's word -/

theorem omgilDecode_encR {func : Nat} (hf : func < 64) (e : Fin 8) (rd ra rb : Fin 32) :
    omgilDecode e (encR func rd ra rb) = decodeR e rd ra rb func := by
  obtain ⟨hop, hrd, hra, hrb, hzero, hfunc⟩ := fields_encR hf rd ra rb
  simp only [omgilDecode, hop, hrd, hra, hrb, hzero, hfunc, regF_val, if_true]

theorem omgilDecode_encS {kind : Nat} (hk : kind < 4) (e : Fin 8) (rd ra amount : Fin 32) :
    omgilDecode e (encS kind rd ra amount) = decodeS e rd ra amount kind := by
  obtain ⟨hop, hrd, hra, hzero, hkind, hamount⟩ := fields_encS hk rd ra amount
  simp only [omgilDecode, hop, hrd, hra, hzero, hkind, hamount, regF_val, if_true]

theorem omgilDecode_encA {func : Nat} (hf : func < 16) (e : Fin 8) (rd ra rb : Fin 32) (acc : Fin 4) :
    omgilDecode e (encA func rd ra rb acc) = decodeA e rd ra rb acc func := by
  obtain ⟨hop, hrd, hra, hrb, hacc, hzero, hfunc⟩ := fields_encA hf rd ra rb acc
  simp only [omgilDecode, hop, hrd, hra, hrb, hacc, hzero, hfunc, regF_val, accF_val, if_true]

theorem condOf_condCode (c : Cond) : condOf (condCode c) = some c := by cases c <;> rfl

theorem condCode_lt (c : Cond) : condCode c < 16 := by cases c <;> decide

theorem omgilDecode_accrd (e : Fin 8) (rd : Fin 32) (acc : Fin 4) (sh : Fin 64) {w : Word}
    (hw : w = BitVec.ofNat 32 (0x09 * 2 ^ 26 + rd.val * 2 ^ 21 + acc.val * 2 ^ 19 + sh.val)) :
    omgilDecode e w = some (.opAccrd e rd acc sh) := by
  have hfields : fld w 31 26 = 0x09 ∧ fld w 25 21 = rd.val ∧ fld w 20 19 = acc.val ∧ fld w 18 6 = 0 ∧ fld w 5 0 = sh.val := by
    subst hw
    iterate 5 rw [fld_ofNat (by omega)]
    omega
  obtain ⟨hop, hrd, hacc, hzero, hsh⟩ := hfields
  simp [omgilDecode, hop, hrd, hacc, hzero, hsh]

theorem omgilDecode_b (e : Fin 8) (c : Cond) (target : BitVec 14) {w : Word}
    (hw : w = BitVec.ofNat 32 (0x20 * 2 ^ 26 + condCode c * 2 ^ 22 + target.toNat)) :
    omgilDecode e w = some (.opB e c target) := by
  have hc := condCode_lt c
  have ht := target.isLt
  have hfields : fld w 31 26 = 0x20 ∧ fld w 25 22 = condCode c ∧ fld w 21 14 = 0 ∧ fld w 13 0 = target.toNat := by
    subst hw
    iterate 4 rw [fld_ofNat (by omega)]
    omega
  obtain ⟨hop, hcond, hzero, htarget⟩ := hfields
  simp [omgilDecode, hop, hcond, hzero, htarget, condOf_condCode]

theorem omgilDecode_bl (e : Fin 8) (target : BitVec 14) {w : Word} (hw : w = BitVec.ofNat 32 (0x21 * 2 ^ 26 + target.toNat)) :
    omgilDecode e w = some (.opBl e target) := by
  have ht := target.isLt
  have hfields : fld w 31 26 = 0x21 ∧ fld w 25 14 = 0 ∧ fld w 13 0 = target.toNat := by
    subst hw
    iterate 3 rw [fld_ofNat (by omega)]
    omega
  obtain ⟨hop, hzero, htarget⟩ := hfields
  simp [omgilDecode, hop, hzero, htarget]

theorem omgilDecode_br (e : Fin 8) (ra : Fin 32) {w : Word} (hw : w = BitVec.ofNat 32 (0x22 * 2 ^ 26 + ra.val * 2 ^ 16)) :
    omgilDecode e w = some (.opBr e ra) := by
  have hfields : fld w 31 26 = 0x22 ∧ fld w 25 21 = 0 ∧ fld w 20 16 = ra.val ∧ fld w 15 0 = 0 := by
    subst hw
    iterate 4 rw [fld_ofNat (by omega)]
    omega
  obtain ⟨hop, hhigh, hra, hlow⟩ := hfields
  simp [omgilDecode, hop, hhigh, hra, hlow]

theorem omgilDecode_loop (e : Fin 8) (ra : Fin 32) (last : BitVec 14) {w : Word}
    (hw : w = BitVec.ofNat 32 (0x24 * 2 ^ 26 + ra.val * 2 ^ 16 + last.toNat)) :
    omgilDecode e w = some (.opLoop e ra last) := by
  have hl := last.isLt
  have hfields : fld w 31 26 = 0x24 ∧ fld w 25 21 = 0 ∧ fld w 20 16 = ra.val ∧ fld w 15 14 = 0 ∧ fld w 13 0 = last.toNat := by
    subst hw
    iterate 5 rw [fld_ofNat (by omega)]
    omega
  obtain ⟨hop, hhigh, hra, hzero, hlast⟩ := hfields
  simp [omgilDecode, hop, hhigh, hra, hzero, hlast]

theorem omgilDecode_loopi (e : Fin 8) (count : BitVec 12) (last : BitVec 14) {w : Word}
    (hw : w = BitVec.ofNat 32 (0x25 * 2 ^ 26 + count.toNat * 2 ^ 14 + last.toNat)) :
    omgilDecode e w = some (.opLoopi e count last) := by
  have hc := count.isLt
  have hl := last.isLt
  have hfields : fld w 31 26 = 0x25 ∧ fld w 25 14 = count.toNat ∧ fld w 13 0 = last.toNat := by
    subst hw
    iterate 3 rw [fld_ofNat (by omega)]
    omega
  obtain ⟨hop, hcount, hlast⟩ := hfields
  simp [omgilDecode, hop, hcount, hlast]

/-! ### The obligations -/

/-- Settles O17, format by format: each field of the word an instruction is encoded to reads back as the operand put there. -/
theorem omgilDecodeOfEncode : Obligations.OmgilDecodeOfEncode := by
  intro i e w he hw
  cases i <;> simp only [omgilEngine, omgilEncode, Option.some.injEq, reduceCtorEq] at he hw <;> subst he <;> subst hw
  case opAccrd => exact omgilDecode_accrd _ _ _ _ rfl
  case opB => exact omgilDecode_b _ _ _ rfl
  case opBl => exact omgilDecode_bl _ _ rfl
  case opBr => exact omgilDecode_br _ _ rfl
  case opLoop => exact omgilDecode_loop _ _ _ rfl
  case opLoopi => exact omgilDecode_loopi _ _ _ rfl
  case opEnd => rfl
  case opAddi | opAndi | opOri | opXori | opLd | opSt | opLds | opSts => simp [omgilDecode, fields_encI]
  case opLui => simp [omgilDecode, fields_encI]
  case opIn | opOut => simp [omgilDecode, fields_encP]
  case opSlli | opSrli | opSrai => exact (omgilDecode_encS (by decide) _ _ _ _).trans rfl
  case opMac | opMsu | opMula | opAccset | opAccadd | opAccclr | opAcclo | opAcchi =>
    exact (omgilDecode_encA (by decide) _ _ _ _ _).trans rfl
  all_goals exact (omgilDecode_encR (by decide) _ _ _ _).trans rfl

/-- Settles O18: the words of the chapter, evaluated; the instruction's engine plays no part in reading its word. -/
theorem omgilWordsOfTheManual : Obligations.OmgilWordsOfTheManual := by
  unfold Obligations.OmgilWordsOfTheManual
  decide

end Sys2Proof.Machine
end

section
/-!
PROOF. The Omgil arithmetic, logic, shift, multiply and accumulator instructions (06 R163, R187, R188, Table 6.7): each is a one-cycle
instruction that writes one register or accumulator and the flags.
-/

namespace Sys2Proof.Machine

open Sys2Proof

/-- A one-cycle instruction whose run is a register write with these flags gives that result. -/
theorem regResult_of_flags {s : State} {e : Fin 8} {i : Instr} {r : Run} {f : Run → Run} {rd : Fin 32} {v : Word} {z n c o : Bool}
    (h : At s e i r) (hl : 1 ≤ r.left) (he : exec i s = .next (plain e i f s))
    (hf : f r = { setW rd v r with z := z, n := n, c := c, v := o }) : RegResult s e i r rd v z n c o := by
  obtain ⟨hpc, hloop, hleft, hslot, hstaged, hacc, -, -, -, -⟩ := setW_rest rd v r
  exact regResult_of_plain s e i r f rd v z n c o h hl he (by simpa [hf]) (by simpa [hf]) (by simpa [hf]) (by simpa [hf])
    (by simpa [hf]) (by simpa [hf]) (by simp [hf]) (by simp [hf]) (by simp [hf]) (by simp [hf]) (by simp [hf])

/-- A one-cycle instruction that writes a register and no flag. -/
theorem regResult_of_move {s : State} {e : Fin 8} {i : Instr} {r : Run} {f : Run → Run} {rd : Fin 32} {v : Word}
    (h : At s e i r) (hl : 1 ≤ r.left) (he : exec i s = .next (plain e i f s)) (hf : f r = setW rd v r) :
    RegResult s e i r rd v r.z r.n r.c r.v := by
  obtain ⟨-, -, -, -, -, -, hz, hn, hc, hv⟩ := setW_rest rd v r
  exact regResult_of_flags h hl he (by simp [hf, ← hz, ← hn, ← hc, ← hv])

/-- A one-cycle instruction that writes a register, Z, N and V, and leaves C. -/
theorem regResult_of_znv {s : State} {e : Fin 8} {i : Instr} {r : Run} {f : Run → Run} {rd : Fin 32} {v : Word} {o : Bool}
    (h : At s e i r) (hl : 1 ≤ r.left) (he : exec i s = .next (plain e i f s)) (hf : f r = flagsZNV v o (setW rd v r)) :
    RegResult s e i r rd v (v == 0) v.msb r.c o := by
  obtain ⟨-, -, -, -, -, -, -, -, hc, -⟩ := setW_rest rd v r
  exact regResult_of_flags h hl he (by simp [hf, flagsZNV, flagsZN, ← hc])

/-- A one-cycle instruction that writes a register, Z and N, and leaves C and V. -/
theorem regResult_of_zn {s : State} {e : Fin 8} {i : Instr} {r : Run} {f : Run → Run} {rd : Fin 32} {v : Word}
    (h : At s e i r) (hl : 1 ≤ r.left) (he : exec i s = .next (plain e i f s)) (hf : f r = flagsZN v (setW rd v r)) :
    RegResult s e i r rd v (v == 0) v.msb r.c r.v := by
  obtain ⟨-, -, -, -, -, -, -, -, hc, hv⟩ := setW_rest rd v r
  exact regResult_of_flags h hl he (by simp [hf, flagsZN, ← hc, ← hv])

/-- Settles O9: each operation writes its result and the flags that go with it; V is the sign rule, which tells of the exact sum. -/
theorem omgilSumsAndLogic : Obligations.OmgilSumsAndLogic := by
  rintro s e r rd ra rb imm a b u x hl rfl rfl rfl rfl
  refine ⟨?add, ?sub, ?addi, ?and, ?or, ?xor, ?andi, ?ori, ?xori, ?lui⟩
  all_goals rintro i rfl hat
  case add | addi => exact regResult_of_flags hat hl rfl (by rw [← addOvf_eq]; rfl)
  case sub => exact regResult_of_flags hat hl rfl (by rw [← subOvf_eq]; rfl)
  case lui => exact regResult_of_move hat hl rfl rfl
  all_goals exact regResult_of_flags hat hl rfl rfl

/-- What is not above either operand and is one of them is what the comparison picks. -/
theorem eq_ite_of_le {α β : Type} [LinearOrder β] {f : α → β} (hf : Function.Injective f) {a b m : α} (hm : m = a ∨ m = b)
    (ha : f m ≤ f a) (hb : f m ≤ f b) : (if f a ≤ f b then a else b) = m := by
  obtain rfl | rfl := hm
  · exact if_pos hb
  · split
    · exact hf (le_antisymm ‹_› ha)
    · rfl

theorem eq_ite_of_ge {α β : Type} [LinearOrder β] {f : α → β} (hf : Function.Injective f) {a b m : α} (hm : m = a ∨ m = b)
    (ha : f a ≤ f m) (hb : f b ≤ f m) : (if f b ≤ f a then a else b) = m :=
  eq_ite_of_le (β := βᵒᵈ) (f := f) hf hm ha hb

theorem toInt_injective : Function.Injective (BitVec.toInt : Word → Int) := fun _ _ => BitVec.eq_of_toInt_eq

theorem toNat_injective : Function.Injective (BitVec.toNat : Word → Nat) := fun _ _ => BitVec.eq_of_toNat_eq

/-- Settles O10: the shifts are the model's own; an extreme is the operand that the comparison picks. -/
theorem omgilShiftsAndExtremes : Obligations.OmgilShiftsAndExtremes := by
  rintro s e r rd ra rb k a b n hl rfl rfl rfl
  refine ⟨?sll, ?srl, ?sra, ?slli, ?srli, ?srai, fun m hm ha hb => ?min, fun m hm ha hb => ?max, fun m hm ha hb => ?minu,
    fun m hm ha hb => ?maxu⟩
  all_goals rintro i rfl hat
  case min => exact regResult_of_zn hat hl rfl (congrArg (fun v => flagsZN v (setW rd v r)) (eq_ite_of_le toInt_injective hm ha hb))
  case max => exact regResult_of_zn hat hl rfl (congrArg (fun v => flagsZN v (setW rd v r)) (eq_ite_of_ge toInt_injective hm ha hb))
  case minu => exact regResult_of_zn hat hl rfl (congrArg (fun v => flagsZN v (setW rd v r)) (eq_ite_of_le toNat_injective hm ha hb))
  case maxu => exact regResult_of_zn hat hl rfl (congrArg (fun v => flagsZN v (setW rd v r)) (eq_ite_of_ge toNat_injective hm ha hb))
  all_goals exact regResult_of_flags hat hl rfl rfl

/-! ### Products -/

/-- Two's-complement reading as a bit vector's. -/
theorem sgn_eq_toInt {n : Nat} (hn : 0 < n) (v : Nat) : sgn n v = (BitVec.ofNat n v).toInt := by
  have htwo : 2 ^ n = 2 * 2 ^ (n - 1) := by rw [← Nat.pow_succ', Nat.succ_eq_add_one, Nat.sub_add_cancel hn]
  have hhalf : v % 2 ^ n < 2 ^ (n - 1) ↔ 2 * (v % 2 ^ n) < 2 ^ n := by omega
  simp only [sgn, BitVec.toInt, BitVec.toNat_ofNat, hhalf]
  push_cast
  rfl

theorem ofNat_uns (n : Nat) (z : Int) : BitVec.ofNat n (uns n z) = BitVec.ofInt n z := by
  have hpos : (0 : Int) < 2 ^ n := by positivity
  have hnonneg := Int.emod_nonneg z hpos.ne'
  apply BitVec.eq_of_toNat_eq
  rw [BitVec.toNat_ofNat, BitVec.toNat_ofInt, uns]
  have hlt : (z % 2 ^ n).toNat < 2 ^ n := by
    have := Int.emod_lt_of_pos z hpos
    zify
    rwa [Int.toNat_of_nonneg hnonneg]
  rw [Nat.mod_eq_of_lt hlt]
  push_cast
  rfl

theorem q15_eq (a : Word) : q15 a = (a.setWidth 16).toInt := by
  rw [q15, sgn_eq_toInt (by decide), BitVec.ofNat_toNat]

theorem mulq15Res_eq (a b : Word) : mulq15Res a b = (BitVec.ofInt 16 (mulq15 a b)).signExtend 32 := by
  rw [mulq15Res, sgn_eq_toInt (by decide), ofNat_uns]
  rfl

/-- V of a result: the exact value does not fit in 32 bits. -/
theorem not_fits32_eq (x : Int) : (!fits32 x) = decide (x < -2 ^ 31 ∨ 2 ^ 31 ≤ x) := by
  have hx : (wdi x).toInt = x.bmod (2 ^ 32) := BitVec.toInt_ofInt ..
  have hiff : x = x.bmod (2 ^ 32) ↔ ¬ (x < -2 ^ 31 ∨ 2 ^ 31 ≤ x) := by rw [Int.bmod_def]; omega
  simp only [fits32, hx, Bool.beq_eq_decide_eq, hiff, decide_not, Bool.not_not]

/-- A product of two numbers of n + 1 signed bits, scaled by 2^n, is out of range only for the square of the least. -/
theorem scaled_product_overflows_iff {M x y : Int} (hM : 0 < M) (hx : -M ≤ x ∧ x < M) (hy : -M ≤ y ∧ y < M) :
    (x * y / M < -M ∨ M ≤ x * y / M) ↔ x = -M ∧ y = -M := by
  have hlow : ¬ x * y / M < -M := by
    rw [not_lt, Int.le_ediv_iff_mul_le hM]
    nlinarith
  have hhigh : M ≤ x * y / M ↔ M * M ≤ x * y := Int.le_ediv_iff_mul_le hM
  rw [or_iff_right hlow, hhigh]
  constructor
  · intro h
    constructor <;> nlinarith
  · rintro ⟨rfl, rfl⟩
    nlinarith

theorem mulq31_overflow_eq (a b : Word) : (!fits32 (mulq31 a b)) = decide (a = 0x80000000 ∧ b = 0x80000000) := by
  have hleast : ∀ x : Word, x = 0x80000000 ↔ x.toInt = -2 ^ 31 := fun x =>
    ⟨fun h => h ▸ rfl, fun h => BitVec.eq_of_toInt_eq (h.trans rfl)⟩
  have hrange : ∀ x : Word, -2 ^ 31 ≤ x.toInt ∧ x.toInt < 2 ^ 31 := fun x => (word_toInt_range x).symm
  simp only [not_fits32_eq, hleast, mulq31, sprod, scaled_product_overflows_iff (by decide) (hrange a) (hrange b)]

theorem mulq15_overflow_eq (a b : Word) :
    (mulq15 a b != sgn 16 (uns 16 (mulq15 a b))) = decide (a.setWidth 16 = 0x8000#16 ∧ b.setWidth 16 = 0x8000#16) := by
  have hleast : ∀ x : BitVec 16, x = 0x8000#16 ↔ x.toInt = -2 ^ 15 := fun x =>
    ⟨fun h => h ▸ rfl, fun h => BitVec.eq_of_toInt_eq (h.trans rfl)⟩
  have hrange : ∀ x : BitVec 16, -2 ^ 15 ≤ x.toInt ∧ x.toInt < 2 ^ 15 := fun x => ⟨BitVec.le_toInt x, BitVec.toInt_lt⟩
  have hfits : ∀ x : Int, x = x.bmod (2 ^ 16) ↔ ¬ (x < -2 ^ 15 ∨ 2 ^ 15 ≤ x) := fun x => by rw [Int.bmod_def]; omega
  simp only [sgn_eq_toInt (n := 16) (by decide), ofNat_uns, BitVec.toInt_ofInt, hleast, bne, Bool.beq_eq_decide_eq, hfits, decide_not,
    Bool.not_not, mulq15, q15_eq, scaled_product_overflows_iff (by decide) (hrange _) (hrange _)]

/-- Settles O11: the low and the high word are moves with their flags; a Q product overflows only for the square of -1, by the bound on
the scaled product. -/
theorem omgilProducts : Obligations.OmgilProducts := by
  rintro s e r rd ra rb a b p q hl rfl rfl rfl rfl
  refine ⟨?mul, ?mulh, ?mulq31, ?mulq15⟩
  all_goals rintro v rfl i rfl hat
  case mul => exact regResult_of_znv hat hl rfl (by rw [← not_fits32_eq]; rfl)
  case mulh => exact regResult_of_znv hat hl rfl rfl
  case mulq31 => exact regResult_of_znv hat hl rfl (by rw [← mulq31_overflow_eq]; rfl)
  case mulq15 => exact regResult_of_znv hat hl rfl (by simp only [mulq15Res_eq, ← mulq15_overflow_eq, mulq15, q15_eq])

/-! ### Accumulators -/

/-- An accumulator operation gives its value and overflow. -/
theorem accResult_of_accOp {s : State} {e : Fin 8} {i : Instr} {r : Run} {acc : Fin 4} {f : Run → DWord × Bool} {v : DWord} {o : Bool}
    (h : At s e i r) (hl : 1 ≤ r.left) (he : exec i s = .next (accOp e i acc f s)) (hf : f r = (v, o)) : AccResult s e i r acc v o :=
  accResult_of_plain s e i r _ acc v o h hl he rfl rfl rfl rfl rfl (by rw [hf]; rfl) rfl (by rw [hf]; rfl) (by rw [hf]; rfl) rfl (by rw [hf])

theorem prod64_eq (a b : Word) : prod64 a b = a.signExtend 64 * b.signExtend 64 := by
  simp only [prod64, sprod, BitVec.signExtend, BitVec.ofInt_mul]

theorem accOvf_eq (a t : DWord) : accOvf a t = decide ((a + t).toInt ≠ a.toInt + t.toInt) := by
  have ha : -2 ^ 63 ≤ a.toInt ∧ a.toInt < 2 ^ 63 := ⟨BitVec.le_toInt a, BitVec.toInt_lt⟩
  have ht : -2 ^ 63 ≤ t.toInt ∧ t.toInt < 2 ^ 63 := ⟨BitVec.le_toInt t, BitVec.toInt_lt⟩
  have hsum : (a + t).toInt = a.toInt + t.toInt ∨ (a + t).toInt = a.toInt + t.toInt - 2 ^ 64 ∨
      (a + t).toInt = a.toInt + t.toInt + 2 ^ 64 := by
    rw [BitVec.toInt_add, Int.bmod_def]
    split <;> omega
  have hrange : -2 ^ 63 ≤ (a + t).toInt ∧ (a + t).toInt < 2 ^ 63 := ⟨BitVec.le_toInt _, BitVec.toInt_lt⟩
  unfold accOvf
  rw [BitVec.msb_and, BitVec.msb_not, BitVec.msb_xor, BitVec.msb_xor, BitVec.msb_eq_toInt, BitVec.msb_eq_toInt, BitVec.msb_eq_toInt,
    Bool.eq_iff_iff]
  generalize (a + t).toInt = S at hsum hrange
  by_cases hA : a.toInt < 0 <;> by_cases hT : t.toInt < 0 <;> simp [hA, hT] <;> omega

theorem join64_eq_append (lo hi : Word) : BitVec.ofNat 64 (join64 lo hi) = hi ++ lo := by
  apply BitVec.eq_of_toNat_eq
  rw [BitVec.toNat_append, ← Nat.shiftLeft_add_eq_or_of_lt lo.isLt, Nat.shiftLeft_eq, BitVec.toNat_ofNat, join64,
    Nat.mod_eq_of_lt (by omega)]

/-- The arithmetic shift is the floor of the quotient. -/
theorem toInt_sshiftRight_eq_div (x : DWord) (n : Nat) : (x.sshiftRight n).toInt = x.toInt / 2 ^ n := by
  rw [BitVec.toInt_sshiftRight, Int.shiftRight_eq_div_pow]
  norm_cast

/-- The low word of a double word is its integer's. -/
theorem wdi_toInt (x : DWord) : wdi x.toInt = x.setWidth 32 := by
  apply BitVec.eq_of_toNat_eq
  rw [wdi, BitVec.toNat_ofInt, BitVec.toNat_setWidth, BitVec.toInt]
  split <;> omega

/-- The high word of a double word. -/
theorem hi32_toNat (x : DWord) : hi32 x.toNat = (x >>> 32).setWidth 32 := by
  apply BitVec.eq_of_toNat_eq
  simp [hi32, wd, Nat.shiftRight_eq_div_pow]

/-- Settles O12: sums and products of accumulators are those of 64-bit words; V of a sum is its sign rule; ACCRD shifts with sign fill. -/
theorem omgilAccumulators : Obligations.OmgilAccumulators := by
  rintro s e r rd ra rb acc sh x p c hl rfl rfl rfl
  have hneg : ∀ x p : DWord, x - p = x + (0 - p) := fun x p => by rw [zero_sub, sub_eq_add_neg]
  refine ⟨?mac, ?msu, ?mula, ?accset, ?accadd, ?accclr, ?acclo, ?acchi, fun v hv => ?accrd⟩
  all_goals rintro i rfl hat
  case mac => exact accResult_of_accOp hat hl rfl (by rw [← accOvf_eq, ← prod64_eq])
  case msu => exact accResult_of_accOp hat hl rfl (by rw [hneg (accOf r acc), ← accOvf_eq, ← prod64_eq])
  case mula => exact accResult_of_accOp hat hl rfl (by rw [← prod64_eq])
  case accset => exact accResult_of_accOp hat hl rfl (by rw [join64_eq_append])
  case accadd => exact accResult_of_accOp hat hl rfl (by rw [← accOvf_eq])
  case accclr => exact accResult_of_accOp hat hl rfl rfl
  case acclo => exact regResult_of_move hat hl rfl (by simp only [lo32, wd, BitVec.ofNat_toNat])
  case acchi => exact regResult_of_move hat hl rfl (by rw [hi32_toNat])
  case accrd =>
    subst hv
    rw [← not_fits32_eq]
    exact regResult_of_znv hat hl rfl (by simp only [← wdi_toInt, toInt_sshiftRight_eq_div])

end Sys2Proof.Machine
end

section
/-!
PROOF. The Omgil loads, stores, ports, branches and loops (06 R164, R177 to R182, R189 to R192): an instruction at the pc with its cycles
left has its effect; what a run is after it moves on or jumps.
-/

namespace Sys2Proof.Machine

open Sys2Proof

/-- An instruction at the pc whose cycles are left has its effect. -/
theorem omgil_of_at {s : State} {e : Fin 8} {i : Instr} {r : Run} {cost : Run → Nat} (act : Run → State → State) (h : At s e i r)
    (hl : cost r ≤ r.left) : omgil e i cost act s = act r s := by
  obtain ⟨hrun, hword⟩ := h
  simp [omgil, hrun, hword, hl]

theorem memOp_of_at {s : State} {e : Fin 8} {i : Instr} {r : Run} (act : Run → State → State) (h : At s e i r) (hl : 1 ≤ r.left) :
    memOp e i act s = act r s := omgil_of_at act h hl

/-! ### A run that moves on -/

/-- Moving on after one cycle, with these outputs staged. -/
theorem oneCycle_staged (r : Run) (l : List (Nat × Word)) (r' : Run) (hr' : r' = seqPc (charge 1 { r with staged := l })) :
    r'.left = r.left - 1 ∧ MovedOn r r' ∧ r'.slot = r.slot ∧ r'.staged = l ∧ RegsKept r r' ∧ AccsKept r r' ∧ FlagsKept r r' := by
  subst hr'
  obtain ⟨hw, hacc, hz, hn, hc, hv, hleft, hslot, hstaged⟩ := seqPc_rest (charge 1 { r with staged := l })
  exact ⟨hleft, seqPc_moved r _ rfl rfl, hslot, hstaged, fun _ => by rw [wreg, wreg, hw]; rfl, fun _ => by rw [accOf, accOf, hacc]; rfl,
    hz, hn, hc, hv⟩

/-- A run that takes a cycle and changes nothing else. -/
theorem oneCycle_of_goOn (r : Run) : ∀ r', r' = seqPc (charge 1 r) → OneCycle r r' ∧ RegsKept r r' ∧ AccsKept r r' ∧ FlagsKept r r' := by
  intro r' hr'
  obtain ⟨hleft, hmoved, hslot, hstaged, hregs, haccs, hflags⟩ := oneCycle_staged r r.staged r' hr'
  exact ⟨⟨hleft, hmoved, hslot, hstaged⟩, hregs, haccs, hflags⟩

/-- A load gives its value in rd, and no flag changes. -/
theorem regResult_of_goOn {s : State} {e : Fin 8} {i : Instr} {r : Run} {rd : Fin 32} {v : Word} (h : At s e i r) (hl : 1 ≤ r.left)
    (he : exec i s = .next (goOn e (setW rd v r) s)) : RegResult s e i r rd v r.z r.n r.c r.v :=
  regResult_of_move (f := setW rd v) h hl (by rw [he, plain_next s e i r _ h hl]; rfl) rfl

/-- A store writes its data word, and the run takes a cycle. -/
theorem stored_goOn (s : State) (e : Fin 8) (r : Run) (a : Nat) (v : Word) : Stored s (goOn e r (setData e.val a v s)) e r a v := by
  obtain ⟨hword, hother, -⟩ := setData_frame e.val a v s
  exact ⟨hword, hother, fun n hn => runOf_setRun_ne e.val n _ _ hn, ⟨_, runOf_setRun_same e.val _ _, oneCycle_of_goOn r _ rfl⟩, rfl⟩

/-! ### Addresses and ports -/

/-- The data word a private address names (R181). -/
theorem privAddr_eq_some {s : State} {e k a w : Nat}
    (h : a < 64 ∧ w = 64 * k + a ∨
      64 ≤ a ∧ a < 64 + (s.slot (24 * e + k)).priv ∧ w = s.get (F.TAC_SLOT_PRIV.BASE (24 * e + k)) + (a - 64)) :
    privAddr s e k a = some w := by
  obtain ⟨hctx, rfl⟩ | ⟨hout, hin, rfl⟩ := h
  · exact if_pos hctx
  · rw [privAddr, if_neg (by omega), gSlot, if_pos hin]

theorem privAddr_eq_none {s : State} {e k a : Nat} (h : 64 + (s.slot (24 * e + k)).priv ≤ a) : privAddr s e k a = none := by
  rw [privAddr, if_neg (by omega), gSlot, if_neg (by omega)]

theorem sharedAddr_eq_some {s : State} {e a : Nat} (hlen : a < s.get (F.TAC_ENG_SHARED.LEN e))
    (hmem : s.get (F.TAC_ENG_SHARED.BASE e) + a < 16384) : sharedAddr s e a = some (s.get (F.TAC_ENG_SHARED.BASE e) + a) :=
  if_pos ⟨hlen, hmem⟩

theorem sharedAddr_eq_none {s : State} {e a : Nat}
    (h : s.get (F.TAC_ENG_SHARED.LEN e) ≤ a ∨ 16384 ≤ s.get (F.TAC_ENG_SHARED.BASE e) + a) : sharedAddr s e a = none :=
  if_neg (by rw [tideWords]; omega)

theorem portNum_eq_some {a : Word} {p : BitVec 12} (h : (a + p.setWidth 32).toNat ≤ 0xFFF) :
    portNum a p = some (a + p.setWidth 32).toNat := if_pos h

theorem portNum_eq_none {a : Word} {p : BitVec 12} (h : 0xFFF < (a + p.setWidth 32).toNat) : portNum a p = none :=
  if_neg (Nat.not_le.mpr h)

/-- The outputs a slot of this kind may write (Table 6.5). -/
theorem outAllowed_of {kind q : Nat} (h : 4 ≤ q ∧ q < 8 ∨ q = 0 ∧ (kind = 1 ∨ kind = 2) ∨ q = 1 ∧ kind = 2) :
    outAllowed kind q = true := by
  obtain h | ⟨rfl, rfl | rfl⟩ | ⟨rfl, rfl⟩ := h
  · exact if_pos h
  all_goals rfl

theorem outPort_eq_some {s : State} {g q : Nat}
    (h : 4 ≤ q ∧ q < 8 ∨ q = 0 ∧ (slotKind s g = 1 ∨ slotKind s g = 2) ∨ q = 1 ∧ slotKind s g = 2) :
    outPort s g (0x40 + q) = some q := by
  have hq : 0x40 + q - 0x40 = q := by omega
  rw [outPort, hq, if_pos ⟨by omega, by omega, outAllowed_of h⟩]

/-- Settles O13: with its address or port resolved, a load is a register write, a store a write of one data word, and OUT a staged value. -/
theorem omgilDataAndPorts : Obligations.OmgilDataAndPorts := by
  rintro s e r rd ra imm port n g hl rfl rfl
  refine ⟨?ld, ?st, ?lds, ?sts, ?inp, ?out⟩
  case ld =>
    rintro i w rfl hat haddr
    refine regResult_of_goOn hat hl ?_
    change Host.Outcome.next (memOp e _ _ s) = _
    rw [memOp_of_at _ hat hl, dataAddr, sextImm, privAddr_eq_some haddr]
  case st =>
    rintro i w rfl hat haddr
    refine ⟨_, ?_, stored_goOn s e r w (wreg r rd)⟩
    change Host.Outcome.next (memOp e _ _ s) = _
    rw [memOp_of_at _ hat hl, dataAddr, sextImm, if_neg (by omega), privAddr_eq_some (w := w) (by omega)]
  case lds =>
    rintro i rfl hat hlen hmem
    refine regResult_of_goOn hat hl ?_
    change Host.Outcome.next (memOp e _ _ s) = _
    rw [memOp_of_at _ hat hl, dataAddr, sextImm, sharedAddr_eq_some hlen hmem]
  case sts =>
    rintro i rfl hat hlen hmem
    refine ⟨_, ?_, stored_goOn s e r _ (wreg r rd)⟩
    change Host.Outcome.next (memOp e _ _ s) = _
    rw [memOp_of_at _ hat hl, dataAddr, sextImm, sharedAddr_eq_some hlen hmem]
  case inp =>
    rintro i p v rfl hat rfl hp hport
    refine regResult_of_goOn hat hl ?_
    change Host.Outcome.next (memOp e _ _ s) = _
    rw [memOp_of_at _ hat hl, portNum_eq_some hp, Option.bind_some, hport]
  case out =>
    rintro i q rfl hat hp hq
    refine ⟨goOn e { r with staged := smPut r.staged q (wreg r rd) } s, ?_, _, runsOn_setRun s e _, ?_⟩
    · change Host.Outcome.next (memOp e _ _ s) = _
      rw [memOp_of_at _ hat hl, portNum_eq_some (by omega), Option.bind_some, hp, gSlot, outPort_eq_some hq]
    · obtain ⟨hleft, hmoved, hslot, hstaged, hregs, haccs, hflags⟩ := oneCycle_staged r (smPut r.staged q (wreg r rd)) _ rfl
      refine ⟨hleft, hmoved, hslot, hregs, haccs, hflags, ?_, fun q' hq' => ?_⟩
      · rw [hstaged, smFind_smPut_same]
      · rw [hstaged, smFind_smPut_ne _ _ _ _ hq']

/-! ### Branches and loops -/

/-- A taken branch changes the pc, and the loop where its body does not hold the target (R191). -/
theorem branchTo_eq (p : Nat) (r : Run) :
    branchTo p r = { r with pc := p, loop := r.loop.filter (fun l => decide (l.first ≤ p ∧ p ≤ l.last)) } := by
  unfold branchTo
  split
  case h_1 hloop => simp [hloop]
  case h_2 l hloop => split <;> simp [Option.filter, *]

/-- A run that differs from `r` in a working register jumps as `r` would. -/
theorem jumped_branchTo (r : Run) (p : Nat) (w : List (Nat × Word)) : Jumped r (branchTo p (charge 2 { r with w := w })) p := by
  rw [branchTo_eq]
  refine ⟨rfl, rfl, rfl, rfl, fun _ => rfl, ⟨rfl, rfl, rfl, rfl⟩, fun l hl hlo hhi => ?_, fun hout => ?_⟩
  · simp [charge, hl, hlo, hhi]
  · obtain hnone | ⟨l, hl, hout⟩ := hout
    · simp [charge, hnone]
    · have hnot : l.first ≤ p → ¬ p ≤ l.last := by omega
      simpa [charge, hl] using hnot

theorem regsKept_branchTo (r : Run) (p : Nat) : RegsKept r (branchTo p (charge 2 r)) := by
  rw [branchTo_eq]
  exact fun _ => rfl

theorem setW_link (v : Word) (r : Run) : setW 31 v r = { r with w := smSet 0 r.w 31 v } := rfl

theorem cyclesOf_b_of_taken {e : Fin 8} {c : Cond} {target : BitVec 14} {r : Run} (h : condHolds c r = true) :
    cyclesOf (.opB e c target) r = 2 := if_pos h

theorem cyclesOf_b_of_not_taken {e : Fin 8} {c : Cond} {target : BitVec 14} {r : Run} (h : condHolds c r = false) :
    cyclesOf (.opB e c target) r = 1 := if_neg (by simp [h])

/-- LOOP and LOOPI with their cycles left start a loop of their count. -/
theorem exec_loop_of_at {s : State} {e : Fin 8} {i : Instr} {r : Run} {ra : Fin 32} {last : BitVec 14} {count : BitVec 12} {n : Nat}
    (hi : i = .opLoop e ra last ∧ n = (wreg r ra).toNat ∨ i = .opLoopi e count last ∧ n = count.toNat) (hat : At s e i r)
    (hl : (if n = 0 then 2 else 1) ≤ r.left) : exec i s = .next (startLoop e n last.toNat r s) := by
  obtain ⟨rfl, rfl⟩ | ⟨rfl, rfl⟩ := hi
  · have hcost : cyclesOf (.opLoop e ra last) r ≤ r.left := by simpa [cyclesOf, ← BitVec.toNat_inj] using hl
    exact congrArg Host.Outcome.next (omgil_of_at (cost := cyclesOf (.opLoop e ra last)) _ hat hcost)
  · have hcost : cyclesOf (.opLoopi e count last) r ≤ r.left := by simpa [cyclesOf, ← BitVec.toNat_inj] using hl
    exact congrArg Host.Outcome.next (omgil_of_at (cost := cyclesOf (.opLoopi e count last)) _ hat hcost)

theorem startLoop_of_allowed {e : Fin 8} {n last : Nat} {r : Run} {s : State} (hloop : r.loop = none) (hlast : r.pc < last) :
    startLoop e n last r s = setRun e.val (if n = 0 then charge 2 { r with pc := pcNext last }
      else charge 1 { r with pc := pcNext r.pc, loop := some ⟨r.pc + 1, last, n⟩ }) s := by
  rw [startLoop, if_neg (by simp [hloop, hlast])]
  split <;> rfl

/-- Settles O14: a branch taken jumps, one not taken moves on; a loop that may start takes its count and its body. -/
theorem omgilBranchesAndLoops : Obligations.OmgilBranchesAndLoops := by
  intro s e r ra c last count
  refine ⟨?notTaken, ?taken, ?link, ?register, ?loop⟩
  case notTaken =>
    rintro i rfl hat hc hl
    refine ⟨setRun e.val (seqPc (charge 1 r)) s, ?_, _, runsOn_setRun s e _, oneCycle_of_goOn r _ rfl⟩
    change Host.Outcome.next (omgil e _ _ _ s) = _
    rw [omgil_of_at _ hat (by rwa [cyclesOf_b_of_not_taken hc]), hc]
    rfl
  case taken =>
    rintro i rfl hat hc hl
    refine ⟨setRun e.val (branchTo last.toNat (charge 2 r)) s, ?_, _, runsOn_setRun s e _, jumped_branchTo r _ r.w, regsKept_branchTo r _⟩
    change Host.Outcome.next (omgil e _ _ _ s) = _
    rw [omgil_of_at _ hat (by rwa [cyclesOf_b_of_taken hc]), hc]
    rfl
  case link =>
    rintro i rfl hat hl
    refine ⟨_, congrArg Host.Outcome.next (omgil_of_at _ hat hl), _, runsOn_setRun s e _, ?_, fun j => ?_⟩
    · rw [setW_link]
      exact jumped_branchTo r _ _
    · rw [regsKept_branchTo, wreg_setW]
      rfl
  case register =>
    rintro i rfl hat hl
    exact ⟨_, congrArg Host.Outcome.next (omgil_of_at _ hat hl), _, runsOn_setRun s e _, jumped_branchTo r _ r.w, regsKept_branchTo r _⟩
  case loop =>
    intro i n hi hat hloop hlast
    refine ⟨fun hl hn => ⟨_, exec_loop_of_at hi hat (by rwa [if_neg hn.ne']), _, ?_, rfl⟩,
      fun hl hn => ⟨_, exec_loop_of_at hi hat (by rwa [if_pos hn]), _, ?_, rfl⟩⟩
    · have hnext : pcNext r.pc = r.pc + 1 := by
        rw [pcNext, tideWords]
        omega
      rw [startLoop_of_allowed hloop hlast, if_neg hn.ne', hnext]
      exact runsOn_setRun s e _
    · rw [startLoop_of_allowed hloop hlast, if_pos hn, ← hloop]
      exact runsOn_setRun s e _

end Sys2Proof.Machine
end

section
/-!
PROOF. Folds of state changes: what every turn keeps the fold keeps, and what one turn writes and no other touches stands at its end.
-/

namespace Sys2Proof.Machine

open Sys2Proof

theorem State.forN_succ (s : State) (n : Nat) (f : Nat → State → State) : s.forN (n + 1) f = f n (s.forN n f) := by
  simp [State.forN, List.range_succ]

/-- A relation that every turn has, and that chains, holds from the start to the end of a fold. -/
theorem State.forN_rel {R : State → State → Prop} (hrefl : ∀ s, R s s) (htrans : ∀ s t u, R s t → R t u → R s u) {n : Nat}
    {f : Nat → State → State} (hf : ∀ i, i < n → ∀ t, R t (f i t)) (s : State) : R s (s.forN n f) := by
  induction n with
  | zero => exact hrefl s
  | succ n ih =>
    rw [State.forN_succ]
    exact htrans _ _ _ (ih fun i hi => hf i (by omega)) (hf n (by omega) _)

theorem State.forL_rel {α : Type} {R : State → State → Prop} (hrefl : ∀ s, R s s) (htrans : ∀ s t u, R s t → R t u → R s u) {l : List α}
    {f : α → State → State} (hf : ∀ x, x ∈ l → ∀ t, R t (f x t)) (s : State) : R s (s.forL l f) := by
  induction l generalizing s with
  | nil => exact hrefl s
  | cons x l ih => exact htrans _ _ _ (hf x (by simp) s) (ih (fun y hy => hf y (by simp [hy])) _)

/-- What every turn leaves as it was reads after the fold as before. -/
theorem State.read_forN {β : Type} {read : State → β} {n : Nat} {f : Nat → State → State}
    (hf : ∀ i, i < n → ∀ t, read (f i t) = read t) (s : State) : read (s.forN n f) = read s :=
  State.forN_rel (R := fun s t => read t = read s) (fun _ => rfl) (fun _ _ _ h1 h2 => h2.trans h1) hf s

theorem State.read_forL {α β : Type} {read : State → β} {l : List α} {f : α → State → State}
    (hf : ∀ x, x ∈ l → ∀ t, read (f x t) = read t) (s : State) : read (s.forL l f) = read s :=
  State.forL_rel (R := fun s t => read t = read s) (fun _ => rfl) (fun _ _ _ h1 h2 => h2.trans h1) hf s

/-- What one turn writes and no later one touches stands at the end of the fold. -/
theorem State.read_forN_of_writes {β : Type} {read : State → β} {n i : Nat} {f : Nat → State → State} {v : β} (hi : i < n)
    (hwrite : ∀ t, read (f i t) = v) (hkeep : ∀ j, j < n → j ≠ i → ∀ t, read (f j t) = read t) (s : State) :
    read (s.forN n f) = v := by
  induction n with
  | zero => omega
  | succ n ih =>
    rw [State.forN_succ]
    by_cases hin : i = n
    · rw [← hin, hwrite]
    · rw [hkeep n (by omega) (Ne.symm hin)]
      exact ih (by omega) fun j hj => hkeep j (by omega)

/-- A map built by writing key after key of a range reads each key's value, and the default elsewhere. -/
theorem smGet_foldl_smSet_range {α : Type} [DecidableEq α] (d : α) (n : Nat) (k : Nat → Nat) (hk : Function.Injective k) (v : Nat → α)
    {i : Nat} (hi : i < n) : smGet d ((List.range n).foldl (fun m j => smSet d m (k j) (v j)) []) (k i) = v i := by
  induction n with
  | zero => omega
  | succ n ih =>
    rw [List.range_succ, List.foldl_append, List.foldl_cons, List.foldl_nil, smGet_smSet]
    by_cases hin : i = n
    · rw [if_pos (congrArg k hin), hin]
    · rw [if_neg (hk.ne hin), ih (by omega)]

end Sys2Proof.Machine
end

section
/-!
PROOF. How a run starts and ends (06 R164 to R167, R178; 07 R205, R208): the context restored, the staged outputs committed, words 1 to 40
saved.
-/

namespace Sys2Proof.Machine

open Sys2Proof

/-! ### The start of a run (R166) -/

theorem wreg_startRun (s : State) (e : Nat) (k : Fin 24) {i : Fin 32} (hi : i ≠ 0) :
    wreg (startRun s e k) i = dataWord s e (64 * k.val + i.val) := by
  obtain ⟨n, hn⟩ := Nat.exists_eq_succ_of_ne_zero (fun h => hi (Fin.ext h))
  have hread := smGet_foldl_smSet_range (0 : Word) 31 (· + 1) (add_left_injective 1)
    (fun j => dataWord s e (ctxBase k.val + j + 1)) (i := n) (by omega)
  rw [wreg, if_neg hi, hn]
  exact hread

theorem accOf_startRun (s : State) (e : Nat) (k : Fin 24) (a : Fin 4) :
    accOf (startRun s e k) a =
      dataWord s e (64 * k.val + 33 + 2 * a.val) ++ dataWord s e (64 * k.val + 32 + 2 * a.val) :=
  (smGet_foldl_smSet_range (0 : DWord) 4 id Function.injective_id
    (fun i => BitVec.ofNat 64 (join64 (dataWord s e (ctxBase k.val + 32 + 2 * i)) (dataWord s e (ctxBase k.val + 33 + 2 * i)))) a.isLt).trans
      (join64_eq_append _ _)

theorem slotStart_of_mayStart {s : State} {e : Fin 8} {k : Fin 24} (h : mayStart s e k = true) :
    slotStart e k s = setRun e.val (startRun s e.val k) (markRun (gSlot e.val k.val) .running s) := if_pos h

/-! ### Data words written one by one -/

/-- The two halves of a double word. -/
theorem append_halves (x : DWord) : hi32 x.toNat ++ lo32 x.toNat = x := by
  have hx := x.isLt
  rw [← join64_eq_append]
  apply BitVec.eq_of_toNat_eq
  simp only [join64, hi32, lo32, wd, BitVec.toNat_ofNat]
  omega

/-- A data word after a write of one. -/
theorem data_setData (e i : Nat) (w : Word) (s : State) (j : Nat) :
    smGet 0 (setData e i w s).tide.data j = if j = 16384 * e + i then w else smGet 0 s.tide.data j := by
  rw [setData, smGet_smSet, tideWords, Nat.mul_comm]

/-- The data word of engine `e` at index `i` of all engines' memories. -/
theorem dataWord_eq (s : State) (e i : Nat) : dataWord s e i = smGet 0 s.tide.data (16384 * e + i) := by
  rw [dataWord, tideWords, Nat.mul_comm]

/-! ### The context saved (R167) -/

/-- Working registers w1 to w31 saved in a context. -/
def saveRegs (e : Nat) (r : Run) (s : State) : State :=
  s.forN 31 fun i t => setData e (ctxBase r.slot.val + i + 1) (smGet 0 r.w (i + 1)) t

/-- The accumulators saved in a context. -/
def saveAccs (e : Nat) (r : Run) (s : State) : State :=
  s.forN 4 fun i t => setData e (ctxBase r.slot.val + 33 + 2 * i) (hi32 (smGet 0 r.acc i).toNat)
    (setData e (ctxBase r.slot.val + 32 + 2 * i) (lo32 (smGet 0 r.acc i).toNat) t)

theorem saveCtx_eq (e : Nat) (r : Run) (s : State) :
    saveCtx e r s = setData e (ctxBase r.slot.val + 40) (flagsWord r) (setData e (ctxBase r.slot.val) 0 (saveAccs e r (saveRegs e r s))) := rfl

theorem saveRegs_word (e : Nat) (r : Run) (s : State) {i : Nat} (hi : i < 31) :
    smGet 0 (saveRegs e r s).tide.data (16384 * e + (64 * r.slot.val + (i + 1))) = smGet 0 r.w (i + 1) := by
  refine State.read_forN_of_writes (read := fun t => smGet 0 t.tide.data (16384 * e + (64 * r.slot.val + (i + 1)))) hi (fun t => ?_)
    (fun j _ hj t => ?_) s
  · rw [data_setData, if_pos (by rw [ctxBase]; omega)]
  · rw [data_setData, if_neg (by rw [ctxBase]; omega)]

theorem saveRegs_other (e : Nat) (r : Run) (s : State) {j : Nat}
    (hj : j < 16384 * e + 64 * r.slot.val + 1 ∨ 16384 * e + 64 * r.slot.val + 31 < j) :
    smGet 0 (saveRegs e r s).tide.data j = smGet 0 s.tide.data j := by
  refine State.read_forN (read := fun t => smGet 0 t.tide.data j) (fun i hi t => ?_) s
  rw [data_setData, if_neg (by rw [ctxBase]; omega)]

theorem saveAccs_word (e : Nat) (r : Run) (s : State) {i : Nat} (hi : i < 4) :
    smGet 0 (saveAccs e r s).tide.data (16384 * e + (64 * r.slot.val + 32 + 2 * i)) = lo32 (smGet 0 r.acc i).toNat ∧
      smGet 0 (saveAccs e r s).tide.data (16384 * e + (64 * r.slot.val + 33 + 2 * i)) = hi32 (smGet 0 r.acc i).toNat := by
  constructor
  · refine State.read_forN_of_writes (read := fun t => smGet 0 t.tide.data (16384 * e + (64 * r.slot.val + 32 + 2 * i))) hi (fun t => ?_)
      (fun j _ hj t => ?_) s
    · rw [data_setData, if_neg (by rw [ctxBase]; omega), data_setData, if_pos (by rw [ctxBase])]
    · rw [data_setData, if_neg (by rw [ctxBase]; omega), data_setData, if_neg (by rw [ctxBase]; omega)]
  · refine State.read_forN_of_writes (read := fun t => smGet 0 t.tide.data (16384 * e + (64 * r.slot.val + 33 + 2 * i))) hi (fun t => ?_)
      (fun j _ hj t => ?_) s
    · rw [data_setData, if_pos (by rw [ctxBase])]
    · rw [data_setData, if_neg (by rw [ctxBase]; omega), data_setData, if_neg (by rw [ctxBase]; omega)]

theorem saveAccs_other (e : Nat) (r : Run) (s : State) {j : Nat}
    (hj : j < 16384 * e + 64 * r.slot.val + 32 ∨ 16384 * e + 64 * r.slot.val + 39 < j) :
    smGet 0 (saveAccs e r s).tide.data j = smGet 0 s.tide.data j := by
  refine State.read_forN (read := fun t => smGet 0 t.tide.data j) (fun i hi t => ?_) s
  rw [data_setData, if_neg (by rw [ctxBase]; omega), data_setData, if_neg (by rw [ctxBase]; omega)]

theorem data_saveCtx (e : Nat) (r : Run) (s : State) (j : Nat) :
    smGet 0 (saveCtx e r s).tide.data j = if j = 16384 * e + (64 * r.slot.val + 40) then flagsWord r
      else if j = 16384 * e + 64 * r.slot.val then 0 else smGet 0 (saveAccs e r (saveRegs e r s)).tide.data j := by
  rw [saveCtx_eq, data_setData, data_setData, ctxBase]

/-- The words of a context as END leaves them (Table 6.1); every other data word stays. -/
theorem saveCtx_words (e : Nat) (r : Run) (s : State) :
    dataWord (saveCtx e r s) e (64 * r.slot.val) = 0 ∧
      (∀ i : Fin 32, i ≠ 0 → dataWord (saveCtx e r s) e (64 * r.slot.val + i.val) = wreg r i) ∧
      (∀ a : Fin 4, dataWord (saveCtx e r s) e (64 * r.slot.val + 33 + 2 * a.val) ++
        dataWord (saveCtx e r s) e (64 * r.slot.val + 32 + 2 * a.val) = accOf r a) ∧
      dataWord (saveCtx e r s) e (64 * r.slot.val + 40) = flagsWord r ∧
      (∀ j, (j < 16384 * e + 64 * r.slot.val ∨ 16384 * e + 64 * r.slot.val + 40 < j) →
        smGet 0 (saveCtx e r s).tide.data j = smGet 0 s.tide.data j) := by
  simp only [dataWord_eq]
  refine ⟨?zero, fun i hi => ?regs, fun a => ?accs, ?flags, fun j hj => ?others⟩
  case zero => rw [data_saveCtx, if_neg (by omega), if_pos rfl]
  case regs =>
    obtain ⟨n, hn⟩ := Nat.exists_eq_succ_of_ne_zero (fun h => hi (Fin.ext h))
    rw [data_saveCtx, if_neg (by omega), if_neg (by omega), saveAccs_other e r _ (by omega), hn, saveRegs_word e r s (by omega),
      wreg, if_neg hi, hn]
  case accs =>
    obtain ⟨hlo, hhi⟩ := saveAccs_word e r (saveRegs e r s) a.isLt
    rw [data_saveCtx, if_neg (by omega), if_neg (by omega), data_saveCtx, if_neg (by omega), if_neg (by omega), hlo, hhi, append_halves]
    rfl
  case flags => rw [data_saveCtx, if_pos rfl]
  case others =>
    rw [data_saveCtx, if_neg (by omega), if_neg (by omega), saveAccs_other e r _ (by omega), saveRegs_other e r _ (by omega)]

/-! ### What is saved and committed, and what stays -/

/-- Beside the bus and the Tide memories, outputs, runs and slots, nothing changed. -/
def TideBusOnly (s t : State) : Prop := t.tide.code = s.tide.code ∧ t = { s with tide := t.tide, bus := t.bus }

theorem TideBusOnly.refl (s : State) : TideBusOnly s s := ⟨rfl, rfl⟩

theorem TideBusOnly.trans (s t u : State) (hst : TideBusOnly s t) (htu : TideBusOnly t u) : TideBusOnly s u := by
  obtain ⟨hcode, ht⟩ := hst
  obtain ⟨hcode', hu⟩ := htu
  refine ⟨hcode'.trans hcode, hu.trans ?_⟩
  rw [ht]

theorem tideBusOnly_setData (e i : Nat) (w : Word) (s : State) : TideBusOnly s (setData e i w s) := ⟨rfl, rfl⟩

theorem tideBusOnly_saveCtx (e : Nat) (r : Run) (s : State) : TideBusOnly s (saveCtx e r s) := by
  have hregs : TideBusOnly s (saveRegs e r s) :=
    State.forN_rel TideBusOnly.refl TideBusOnly.trans (fun _ _ _ => tideBusOnly_setData ..) s
  have haccs : TideBusOnly (saveRegs e r s) (saveAccs e r (saveRegs e r s)) :=
    State.forN_rel TideBusOnly.refl TideBusOnly.trans
      (fun _ _ _ => (tideBusOnly_setData ..).trans _ _ _ (tideBusOnly_setData ..)) _
  exact hregs.trans _ _ _ (haccs.trans _ _ _ ⟨rfl, rfl⟩)

/-- A context saved changes the data memories alone. -/
theorem saveCtx_keeps {β : Type} {read : State → β} (hread : ∀ e i w t, read (setData e i w t) = read t) (e : Nat) (r : Run) (s : State) :
    read (saveCtx e r s) = read s := by
  have hregs : read (saveRegs e r s) = read s := State.read_forN (fun _ _ _ => hread ..) s
  have haccs : read (saveAccs e r (saveRegs e r s)) = read (saveRegs e r s) :=
    State.read_forN (fun _ _ _ => (hread ..).trans (hread ..)) _
  rw [saveCtx_eq, hread, hread, haccs, hregs]

/-- One staged output committed; DIAG values read in TAC_DIAG. -/
def commitOut (g : Nat) (p : Nat × Word) (t : State) : State :=
  let u := { t with tide := { t.tide with outs := smSet 0 t.tide.outs (g * 8 + p.1) p.2 } }
  if 4 ≤ p.1 then u.setReg (Reg.TAC_DIAG g (p.1 - 4)) p.2 else u

theorem commitOuts_eq (g : Nat) (staged : List (Nat × Word)) (s : State) : commitOuts g staged s = s.forL staged (commitOut g) := rfl

theorem commitOut_cases (g : Nat) (p : Nat × Word) (t : State) :
    (commitOut g p t).tide = { t.tide with outs := smSet 0 t.tide.outs (g * 8 + p.1) p.2 } ∧
      (∀ a, (∀ j, a ≠ Reg.TAC_DIAG g j) → (commitOut g p t).reg a = t.reg a) ∧ TideBusOnly t (commitOut g p t) := by
  unfold commitOut
  split
  · exact ⟨rfl, fun a ha => State.reg_setReg_ne _ _ _ _ (ha _), rfl, rfl⟩
  · exact ⟨rfl, fun _ _ => rfl, rfl, rfl⟩

/-- What the outputs staged leave alone, they leave alone together. -/
theorem commitOuts_keeps {β : Type} {read : State → β} {g : Nat} {staged : List (Nat × Word)}
    (hread : ∀ p, p ∈ staged → ∀ t, read (commitOut g p t) = read t) (s : State) : read (commitOuts g staged s) = read s :=
  State.read_forL hread s

/-- Of two values staged for a port the last is committed (R178). -/
theorem outOf_commitOuts (g q : Nat) (staged : List (Nat × Word)) (s : State) (p : Nat × Word)
    (hp : (staged.filter (fun x => x.1 == q)).getLast? = some p) : outOf (commitOuts g staged s) g q = p.2 := by
  induction staged using List.reverseRecOn with
  | nil => simp at hp
  | append_singleton l x ih =>
    have hstep : commitOuts g (l ++ [x]) s = commitOut g x (commitOuts g l s) := by
      simp [commitOuts_eq, State.forL]
    obtain ⟨htide, -⟩ := commitOut_cases g x (commitOuts g l s)
    rw [outOf, hstep, htide]
    by_cases hx : x.1 = q
    · have : p = x := by simpa [hx] using hp.symm
      simp [this, hx]
    · have hlast : (l.filter (fun x => x.1 == q)).getLast? = some p := by simpa [hx] using hp
      rw [smGet_smSet_ne _ _ _ _ _ _ (by omega)]
      exact ih hlast

/-! ### END (R167) -/

/-- What END has saved and committed before it marks the run. -/
def endSaved (e : Fin 8) (r : Run) (s : State) : State :=
  saveCtx e.val r (commitOuts (gSlot e.val r.slot.val) r.staged (dropRun e.val s))

theorem endRun_eq (e : Fin 8) (r : Run) (s : State) :
    endRun e r s = reachedEnd (gSlot e.val r.slot.val) (markRun (gSlot e.val r.slot.val) .done (endSaved e r s)) := rfl

theorem tide_reachedEnd (g : Nat) (s : State) : (reachedEnd g s).tide = s.tide := by rw [reachedEnd, State.put_tide, State.put_tide]

theorem tideBusOnly_put (f : FRef) (v : Nat) (s : State) : TideBusOnly s (s.put f v) := ⟨congrArg Tide.code (s.put_tide f v), rfl⟩

theorem tideBusOnly_markRun (g : Nat) (x : RunState) (s : State) : TideBusOnly s (markRun g x s) := ⟨rfl, rfl⟩

/-- Marking the run changes its slot alone, and reaching END the overrun counts. -/
theorem endRun_tide (e : Fin 8) (r : Run) (s : State) :
    (endRun e r s).tide.data = (endSaved e r s).tide.data ∧ (endRun e r s).tide.runs = (endSaved e r s).tide.runs ∧
      (endRun e r s).tide.outs = (endSaved e r s).tide.outs ∧ TideBusOnly (endSaved e r s) (endRun e r s) := by
  rw [endRun_eq]
  generalize endSaved e r s = u
  rw [tide_reachedEnd]
  exact ⟨rfl, rfl, rfl, (tideBusOnly_markRun ..).trans _ _ _ ((tideBusOnly_put ..).trans _ _ _ (tideBusOnly_put ..))⟩

theorem endSaved_runs (e : Fin 8) (r : Run) (s : State) : (endSaved e r s).tide.runs = smErase s.tide.runs e.val := by
  rw [endSaved, saveCtx_keeps (read := fun t => t.tide.runs) (fun _ _ _ _ => rfl),
    commitOuts_keeps (read := fun t => t.tide.runs) (fun p _ t => by rw [(commitOut_cases _ p t).1])]
  rfl

theorem endSaved_outs (e : Fin 8) (r : Run) (s : State) :
    (endSaved e r s).tide.outs = (commitOuts (gSlot e.val r.slot.val) r.staged (dropRun e.val s)).tide.outs := by
  rw [endSaved, saveCtx_keeps (read := fun t => t.tide.outs) (fun _ _ _ _ => rfl)]

theorem commitOuts_data (g : Nat) (staged : List (Nat × Word)) (s : State) : (commitOuts g staged s).tide.data = s.tide.data :=
  commitOuts_keeps (read := fun t => t.tide.data) (fun p _ t => by rw [(commitOut_cases _ p t).1]) s

theorem tideBusOnly_endRun (e : Fin 8) (r : Run) (s : State) : TideBusOnly s (endRun e r s) := by
  obtain ⟨-, -, -, hend⟩ := endRun_tide e r s
  have hdrop : TideBusOnly s (dropRun e.val s) := ⟨rfl, rfl⟩
  have hcommit : TideBusOnly (dropRun e.val s) (commitOuts (gSlot e.val r.slot.val) r.staged (dropRun e.val s)) :=
    State.forL_rel TideBusOnly.refl TideBusOnly.trans (fun p _ t => (commitOut_cases _ p t).2.2) _
  exact hdrop.trans _ _ _ (hcommit.trans _ _ _ ((tideBusOnly_saveCtx _ _ _).trans _ _ _ hend))

theorem consec_reachedEnd (g : Nat) (s : State) : (reachedEnd g s).get (F.TAC_OVR.CONSEC g) = 0 := by
  have hlast := State.get_put_bits (s.put (F.TAC_OVR.CONSEC g) 0) (F.TAC_OVR.LAST g) (F.TAC_OVR.CONSEC g) 0 rfl (by decide : 0 ≤ 0)
    (by decide : 0 < 32) (.inr (by decide : 0 < 8))
  exact hlast.trans (State.get_put_same s (F.TAC_OVR.CONSEC g) 0 (by decide : 8 ≤ 11) (by decide : 11 < 32))

theorem slot_markRun (g : Nat) (x : RunState) (s : State) : ((markRun g x s).slot g).run = x :=
  congrArg SlotSt.run (State.slot_modSlot_same s g _)

/-- The slots read by the Tide state alone. -/
theorem slot_of_tide_eq {s t : State} (h : t.tide.slots = s.tide.slots) (g : Nat) : t.slot g = s.slot g := by
  rw [State.slot, h, State.slot]

/-- Settles O15: a run starts from its context and END puts it back, with the outputs staged committed in their order. -/
theorem omgilRunsRestoreAndSave : Obligations.OmgilRunsRestoreAndSave := by
  refine fun s e => ⟨fun k hmay => ?start, fun r hat hl => ?finish⟩
  case start =>
    refine ⟨_, congrArg Host.Outcome.next (slotStart_of_mayStart hmay), startRun s e.val k, runOf_setRun_same .., fun i hi =>
      wreg_startRun s e.val k hi, fun a => accOf_startRun s e.val k a, ?_, rfl, rfl, rfl, rfl, rfl, ?_, rfl⟩
    · rintro f rfl
      exact ⟨BitVec.testBit_toNat _, BitVec.testBit_toNat _, BitVec.testBit_toNat _, BitVec.testBit_toNat _⟩
    · exact slot_markRun (gSlot e.val k.val) .running s
  case finish =>
    obtain ⟨hdata, hruns, houts, -⟩ := endRun_tide e r s
    obtain ⟨hcode, hrest⟩ := tideBusOnly_endRun e r s
    obtain ⟨hzero, hregs, haccs, hflags, hothers⟩ :=
      saveCtx_words e.val r (commitOuts (gSlot e.val r.slot.val) r.staged (dropRun e.val s))
    have hword : ∀ i, dataWord (endRun e r s) e.val i = dataWord (endSaved e r s) e.val i := fun i => by rw [dataWord, dataWord, hdata]
    refine ⟨endRun e r s, congrArg Host.Outcome.next (omgil_of_at _ hat hl), ?_, fun n hn => ?_, (hword _).trans hzero,
      fun i hi => (hword _).trans (hregs i hi), fun a => ?_, (hword _).trans hflags, fun j hj => ?_, fun q p hp => ?_, fun j hj => ?_,
      consec_reachedEnd _ _, ?_, hcode, hrest⟩
    · rw [runOf, hruns, endSaved_runs, smFind_smErase_same]
    · rw [runOf, hruns, endSaved_runs, smFind_smErase_ne _ _ _ hn, runOf]
    · rw [hword, hword]
      exact haccs a
    · rw [hdata, endSaved, hothers j hj, commitOuts_data]
      rfl
    · rw [outOf, houts, endSaved_outs]
      exact outOf_commitOuts _ q r.staged _ p hp
    · rw [houts, endSaved_outs]
      refine commitOuts_keeps (read := fun t => smGet 0 t.tide.outs j) (fun p hp t => ?_) _
      rw [(commitOut_cases _ p t).1]
      exact smGet_smSet_ne _ _ _ _ _ _ (hj p hp).symm
    · rw [endRun_eq, slot_of_tide_eq (congrArg Tide.slots (tide_reachedEnd _ _))]
      exact slot_markRun _ _ _

end Sys2Proof.Machine
end

section
/-!
PROOF. Fields and bits of registers after named updates, stated on the parts of a field so that `simp` finds its side conditions; and the
registers a chain of updates leaves alone.
-/

namespace Sys2Proof.Machine

open Sys2Proof

/-! ### Fields -/

theorem State.get_put_self {hi lo : Nat} (hb : lo ≤ hi) (h31 : hi < 32) (s : State) (a v : Nat) :
    (s.put ⟨a, ⟨hi, lo⟩⟩ v).get ⟨a, ⟨hi, lo⟩⟩ = v % 2 ^ (hi + 1 - lo) :=
  State.get_put_same s ⟨a, ⟨hi, lo⟩⟩ v hb h31

theorem State.get_put_disjoint {hi lo hi' lo' : Nat} (hb : lo ≤ hi) (h31 : hi < 32) (hd : hi' < lo ∨ hi < lo') (s : State) (a v : Nat) :
    (s.put ⟨a, ⟨hi, lo⟩⟩ v).get ⟨a, ⟨hi', lo'⟩⟩ = s.get ⟨a, ⟨hi', lo'⟩⟩ :=
  State.get_put_bits s ⟨a, ⟨hi, lo⟩⟩ ⟨a, ⟨hi', lo'⟩⟩ v rfl hb h31 hd

theorem State.get_put_other {a b : Nat} (h : b ≠ a) (s : State) (x y : Bits) (v : Nat) : (s.put ⟨a, x⟩ v).get ⟨b, y⟩ = s.get ⟨b, y⟩ :=
  State.get_put_reg s ⟨a, x⟩ ⟨b, y⟩ v h

/-- A field is read of its register alone. -/
theorem State.get_of_reg_eq {s t : State} {f : FRef} (h : t.reg f.addr = s.reg f.addr) : t.get f = s.get f := by
  rw [State.get, h, State.get]

/-! ### Bitmaps -/

/-- A number with one bit replaced: the bits above, the bit, the bits below. -/
theorem setBitN_eq (v i : Nat) (b : Bool) : setBitN v i b = 2 ^ i * (2 * (v / 2 ^ i / 2) + b.toNat) + v % 2 ^ i := by
  have hv : v = 2 ^ i * (v / 2 ^ i) + v % 2 ^ i := (Nat.div_add_mod v (2 ^ i)).symm
  have hbit : v.testBit i = decide (v / 2 ^ i % 2 = 1) := Nat.testBit_eq_decide_div_mod_eq
  have hpos := Nat.two_pow_pos i
  generalize hq : v / 2 ^ i = q at *
  generalize v % 2 ^ i = m at *
  obtain ⟨k, rfl | rfl⟩ : ∃ k, q = 2 * k ∨ q = 2 * k + 1 := ⟨q / 2, by omega⟩
  · have hclear : v.testBit i = false := by simp [hbit]
    have hhalf : 2 * k / 2 = k := by omega
    cases b
    · simpa [setBitN, hclear, hhalf] using hv
    · simp only [setBitN, hclear, hhalf, Bool.toNat_true, if_true, Bool.false_beq, Bool.not_true, if_neg Bool.false_ne_true]
      rw [hv]
      ring
  · have hset : v.testBit i = true := by simp [hbit]
    have hhalf : (2 * k + 1) / 2 = k := by omega
    cases b
    · simp only [setBitN, hset, hhalf, Bool.toNat_false, Bool.true_beq, if_neg Bool.false_ne_true]
      rw [hv]
      ring_nf
      omega
    · simpa [setBitN, hset, hhalf] using hv

/-- Bits of a number with one bit replaced. -/
theorem testBit_setBitN (v i j : Nat) (b : Bool) : (setBitN v i b).testBit j = if j = i then b else v.testBit j := by
  have hlow : v % 2 ^ i < 2 ^ i := Nat.mod_lt _ (Nat.two_pow_pos i)
  rw [setBitN_eq, Nat.testBit_two_pow_mul_add _ hlow]
  by_cases hlt : j < i
  · simp [hlt, hlt.ne]
  · obtain ⟨k, rfl⟩ := Nat.exists_eq_add_of_le (Nat.le_of_not_lt hlt)
    have htail : 2 * (v / 2 ^ i / 2) + b.toNat = 2 ^ 1 * (v / 2 ^ i / 2) + b.toNat := rfl
    have hb : b.toNat < 2 ^ 1 := by cases b <;> decide
    rw [if_neg hlt, Nat.add_sub_cancel_left, htail, Nat.testBit_two_pow_mul_add _ hb]
    cases k with
    | zero => cases b <;> simp
    | succ k => simp [Nat.testBit_div_two_pow, Nat.testBit_div_two, Nat.add_comm]

theorem setBitN_lt {n v i : Nat} (hv : v < 2 ^ n) (hi : i < n) (b : Bool) : setBitN v i b < 2 ^ n := by
  apply Nat.lt_pow_two_of_testBit
  intro j hj
  rw [testBit_setBitN, if_neg (by omega)]
  exact Nat.testBit_lt_two_pow (lt_of_lt_of_le hv (Nat.pow_le_pow_right (by decide) hj))

theorem State.get_lt (s : State) (f : FRef) : s.get f < 2 ^ bitsLen f.bits := getF_lt _ _

/-- A bit of a bitmap field after a bit was set. -/
theorem State.bit_evBit (s : State) (f : FRef) (n m : Nat) (hb : f.bits.lo ≤ f.bits.hi) (h31 : f.bits.hi < 32) (hn : n < bitsLen f.bits) :
    (s.evBit f n).bit f m = if m = n then true else s.bit f m := by
  rw [State.bit, State.evBit, State.get_put_same _ _ _ hb h31, Nat.mod_eq_of_lt (setBitN_lt (s.get_lt f) hn true), testBit_setBitN]
  rfl

theorem State.bit_evBit_self {hi lo n : Nat} (hb : lo ≤ hi) (h31 : hi < 32) (hn : n < hi + 1 - lo) (s : State) (a : Nat) :
    (s.evBit ⟨a, ⟨hi, lo⟩⟩ n).bit ⟨a, ⟨hi, lo⟩⟩ n = true := by
  rw [State.bit_evBit s ⟨a, ⟨hi, lo⟩⟩ n n hb h31 hn, if_pos rfl]

/-- A bit of a bitmap field after a bit was cleared. -/
theorem State.bit_clrBit (s : State) (f : FRef) (n m : Nat) (hb : f.bits.lo ≤ f.bits.hi) (h31 : f.bits.hi < 32) (hn : n < bitsLen f.bits) :
    (s.clrBit f n).bit f m = if m = n then false else s.bit f m := by
  rw [State.bit, State.clrBit, State.get_put_same _ _ _ hb h31, Nat.mod_eq_of_lt (setBitN_lt (s.get_lt f) hn false), testBit_setBitN]
  rfl

/-! ### The registers a change leaves alone -/

theorem RegsBut.refl (l : List Nat) (s : State) : RegsBut l s s := fun _ _ => rfl

theorem RegsBut.trans {l : List Nat} {s t u : State} (hst : RegsBut l s t) (htu : RegsBut l t u) : RegsBut l s u :=
  fun a ha => (htu a ha).trans (hst a ha)

theorem RegsBut.mono {l m : List Nat} {s t : State} (h : RegsBut l s t) (hlm : ∀ a, a ∈ l → a ∈ m) : RegsBut m s t :=
  fun a ha => h a fun hl => ha (hlm a hl)

/-- A change that leaves the register file alone leaves every register alone. -/
theorem regsBut_of_regs_eq {s t : State} (l : List Nat) (h : t.bus.regs = s.bus.regs) : RegsBut l s t :=
  fun a _ => by rw [State.reg, h, State.reg]

theorem regsBut_setReg {l : List Nat} {a : Nat} (ha : a ∈ l) (s : State) (w : Word) : RegsBut l s (s.setReg a w) :=
  fun b hb => State.reg_setReg_ne s a b w fun h => hb (h ▸ ha)

theorem regsBut_put {l : List Nat} {f : FRef} (hf : f.addr ∈ l) (s : State) (v : Nat) : RegsBut l s (s.put f v) :=
  regsBut_setReg hf s _

end Sys2Proof.Machine
end

section
/-!
PROOF. Traps (06 R173, R186, R192 to R195, Table 6.9): what the end of a run on a cause does to the state, and which cause each
instruction ends on.
-/

namespace Sys2Proof.Machine

open Sys2Proof

/-! ### The overrun counted (07 R208, R209) -/

/-- Both overrun counts of slot g raised, with the flag of its last run and its event. -/
def noteOverrun (g : Nat) (s : State) : State :=
  (((s.incSat (F.TAC_OVR.TOTAL g)).incSat (F.TAC_OVR.CONSEC g)).ev (F.TAC_OVR.LAST g)).evBit (F.TAC_OVR_EVENT.OVR (g / 32)) (g % 32)

/-- An overrun that does not fault its slot is counted, and no more. -/
theorem countOverrun_of_no_fault {g : Nat} {s : State}
    (h : nOvr (noteOverrun g s) g ≤ (noteOverrun g s).get (F.TAC_OVR.CONSEC g) → slotFault (noteOverrun g s) g = true) :
    countOverrun g s = noteOverrun g s :=
  if_neg fun ⟨hle, hno⟩ => Bool.false_ne_true (hno.symm.trans (h hle))

theorem onlyRegs_noteOverrun (g : Nat) (s : State) : OnlyRegs [Reg.TAC_OVR g, Reg.TAC_OVR_EVENT (g / 32)] s (noteOverrun g s) :=
  (((changesOnly_put (by simp) s _).trans (changesOnly_put (by simp) _ _)).trans (changesOnly_put (by simp) _ _)).trans
    (changesOnly_put (by simp) _ _)

theorem tide_noteOverrun (g : Nat) (s : State) : (noteOverrun g s).tide = s.tide := by
  rw [noteOverrun, State.evBit_tide, State.ev_tide, State.incSat_tide, State.incSat_tide]

/-- What an overrun leaves in TAC_OVR: the count raised, the latch as it was; and its bit of the event register. -/
theorem noteOverrun_fields {g : Nat} (hg : g < 192) (s : State) :
    (noteOverrun g s).get (F.TAC_OVR.CONSEC g) = min 15 (s.get (F.TAC_OVR.CONSEC g) + 1) ∧
      slotFault (noteOverrun g s) g = slotFault s g ∧ (noteOverrun g s).bit (F.TAC_OVR_EVENT.OVR (g / 32)) (g % 32) = true := by
  have hne : 0x40021000 + 4 * g ≠ 0x40021300 + 4 * (g / 32) := by omega
  refine ⟨?_, ?_, ?_⟩
  · simp [noteOverrun, State.evBit, State.ev, State.incSat, satN, bitsLen, State.get_put_other hne, State.get_put_disjoint,
      State.get_put_self]
  · simp [slotFault, State.flag, noteOverrun, State.evBit, State.ev, State.incSat, State.get_put_other hne, State.get_put_disjoint]
  · exact State.bit_evBit_self (by decide) (by decide) (Nat.mod_lt g (by decide)) _ _

/-- The limit of consecutive overruns is read of TAC_SLOT_LIMIT. -/
theorem nOvr_of_reg_eq {s t : State} {g : Nat} (h : t.reg (Reg.TAC_SLOT_LIMIT g) = s.reg (Reg.TAC_SLOT_LIMIT g)) : nOvr t g = nOvr s g := by
  rw [nOvr, State.get_of_reg_eq (f := F.TAC_SLOT_LIMIT.N_OVR g) h, nOvr]

/-! ### The end of a run on a cause -/

/-- The run taken off its engine, TAC_TRAP_INFO and TRAP telling of it. -/
def noteTrap (e : Fin 8) (r : Run) (cause : TrapCause) (s : State) : State :=
  ((dropRun e.val s).result (Reg.TAC_TRAP_INFO e.val) (r.slot.val * 2 ^ 25 + trapCode cause * 2 ^ 21 + r.pc % tideWords)).evBit
    F.TAC_EVENT.TRAP e.val

theorem trapRun_eq (e : Fin 8) (r : Run) (cause : TrapCause) (s : State) :
    trapRun e r cause s = countOverrun (gSlot e.val r.slot.val) (markRun (gSlot e.val r.slot.val) .overran (noteTrap e r cause s)) := rfl

theorem regsBut_noteTrap (e : Fin 8) (r : Run) (cause : TrapCause) (s : State) :
    RegsBut [Reg.TAC_TRAP_INFO e.val, Reg.TAC_EVENT] s (noteTrap e r cause s) :=
  (regsBut_setReg (by simp) _ _).trans (regsBut_put (by simp) _ _)

theorem noteTrap_regs (e : Fin 8) (r : Run) (cause : TrapCause) (s : State) :
    (noteTrap e r cause s).reg (Reg.TAC_TRAP_INFO e.val) = wd ((r.slot.val * 2 ^ 25 + trapCode cause * 2 ^ 21 + r.pc % 16384) +
        ((s.reg (Reg.TAC_TRAP_INFO e.val)).toNat / 2 ^ 30 + 1) % 4 * 2 ^ 30) ∧
      (noteTrap e r cause s).bit F.TAC_EVENT.TRAP e.val = true := by
  have he := e.isLt
  constructor
  · have hne : 0x40023c20 + 0x4 * e.val ≠ 0x40023c08 := by omega
    have hcode : trapCode cause < 8 := by cases cause <;> decide
    have hsmall : r.slot.val * 2 ^ 25 + trapCode cause * 2 ^ 21 + r.pc % tideWords < 2 ^ 30 := by
      have := r.slot.isLt
      have := Nat.mod_lt r.pc (by decide : 0 < tideWords)
      rw [tideWords] at *
      omega
    rw [noteTrap, State.reg_evBit_ne _ _ _ _ hne, State.result, State.reg_setReg_same, Nat.mod_eq_of_lt hsmall]
    rfl
  · exact State.bit_evBit_self (by decide) (by decide) he _ _

theorem tide_noteTrap (e : Fin 8) (r : Run) (cause : TrapCause) (s : State) : (noteTrap e r cause s).tide = (dropRun e.val s).tide := by
  rw [noteTrap, State.evBit_tide, State.result_tide]

theorem tideBusOnly_of_changesOnly {P : Nat → Prop} {s t : State} (htide : t.tide = s.tide) (h : ChangesOnly P s t) : TideBusOnly s t := by
  obtain ⟨-, -, hbus⟩ := h
  exact ⟨by rw [htide], hbus.trans (by rw [htide])⟩

theorem tideBusOnly_noteTrap (e : Fin 8) (r : Run) (cause : TrapCause) (s : State) : TideBusOnly s (noteTrap e r cause s) :=
  TideBusOnly.trans s (dropRun e.val s) _ ⟨rfl, rfl⟩ (tideBusOnly_of_changesOnly (tide_noteTrap ..)
    ((changesOnly_setReg (P := fun _ => True) trivial _ _).trans (changesOnly_put trivial _ _)))

/-- The run taken off, told of, and its slot marked as overrun: a trap but for the overrun's count. -/
def trapMarked (e : Fin 8) (r : Run) (cause : TrapCause) (s : State) : State :=
  markRun (gSlot e.val r.slot.val) .overran (noteTrap e r cause s)

theorem reg_markRun (g : Nat) (x : RunState) (s : State) (a : Nat) : (markRun g x s).reg a = s.reg a := rfl

theorem tide_markRun (g : Nat) (x : RunState) (s : State) :
    (markRun g x s).tide.runs = s.tide.runs ∧ (markRun g x s).tide.data = s.tide.data ∧ (markRun g x s).tide.outs = s.tide.outs :=
  ⟨rfl, rfl, rfl⟩

theorem tide_dropRun (e : Nat) (s : State) :
    (dropRun e s).tide.runs = smErase s.tide.runs e ∧ (dropRun e s).tide.data = s.tide.data ∧ (dropRun e s).tide.outs = s.tide.outs :=
  ⟨rfl, rfl, rfl⟩

theorem regsBut_trapMarked (e : Fin 8) (r : Run) (cause : TrapCause) (s : State) :
    RegsBut [Reg.TAC_TRAP_INFO e.val, Reg.TAC_EVENT] s (trapMarked e r cause s) :=
  fun a ha => by rw [trapMarked, reg_markRun, regsBut_noteTrap e r cause s a ha]

theorem tide_trapMarked (e : Fin 8) (r : Run) (cause : TrapCause) (s : State) :
    (trapMarked e r cause s).tide.runs = smErase s.tide.runs e.val ∧ (trapMarked e r cause s).tide.data = s.tide.data ∧
      (trapMarked e r cause s).tide.outs = s.tide.outs := by
  obtain ⟨hruns, hdata, houts⟩ := tide_markRun (gSlot e.val r.slot.val) .overran (noteTrap e r cause s)
  obtain ⟨hruns', hdata', houts'⟩ := tide_dropRun e.val s
  rw [trapMarked, hruns, hdata, houts, tide_noteTrap]
  exact ⟨hruns', hdata', houts'⟩

theorem tideBusOnly_trap (e : Fin 8) (r : Run) (cause : TrapCause) (s : State) :
    TideBusOnly s (noteOverrun (gSlot e.val r.slot.val) (trapMarked e r cause s)) :=
  TideBusOnly.trans _ _ _ (TideBusOnly.trans _ _ _ (tideBusOnly_noteTrap e r cause s) (tideBusOnly_markRun _ .overran _))
    (tideBusOnly_of_changesOnly (tide_noteOverrun ..) (onlyRegs_noteOverrun ..))

/-- A trap leaves what the count of overruns reads. -/
theorem trapMarked_counts {e : Fin 8} {g : Nat} (hg : g < 192) (r : Run) (cause : TrapCause) (s : State) :
    (trapMarked e r cause s).get (F.TAC_OVR.CONSEC g) = s.get (F.TAC_OVR.CONSEC g) ∧
      slotFault (trapMarked e r cause s) g = slotFault s g ∧
      nOvr (noteOverrun g (trapMarked e r cause s)) g = nOvr s g := by
  have hlt := e.isLt
  have hreg := regsBut_trapMarked e r cause s
  have hne : ∀ a, a ≠ 0x40023c20 + 0x4 * e.val → a ≠ 0x40023c08 → (trapMarked e r cause s).reg a = s.reg a :=
    fun a h1 h2 => hreg a (by simp [Reg.TAC_TRAP_INFO, Reg.TAC_EVENT, h1, h2])
  have hovr : (trapMarked e r cause s).reg (0x40021000 + 0x4 * g) = s.reg (0x40021000 + 0x4 * g) := hne _ (by omega) (by omega)
  have hlimit : (trapMarked e r cause s).reg (0x4002000c + 0x10 * g) = s.reg (0x4002000c + 0x10 * g) := hne _ (by omega) (by omega)
  obtain ⟨hother, -, -⟩ := onlyRegs_noteOverrun g (trapMarked e r cause s)
  have hkept : ∀ a, a ≠ 0x40021000 + 0x4 * g → a ≠ 0x40021300 + 0x4 * (g / 32) →
      (noteOverrun g (trapMarked e r cause s)).reg a = (trapMarked e r cause s).reg a :=
    fun a h1 h2 => hother a (by simp [Reg.TAC_OVR, Reg.TAC_OVR_EVENT, h1, h2])
  refine ⟨State.get_of_reg_eq hovr, ?_, nOvr_of_reg_eq ((hkept (0x4002000c + 0x10 * g) (by omega) (by omega)).trans hlimit)⟩
  rw [slotFault, slotFault, State.flag, State.get_of_reg_eq (f := F.TAC_OVR.FAULT g) hovr, State.flag]

/-- What the count of the overrun leaves of the trap's own registers. -/
theorem noteOverrun_trap_regs {e : Fin 8} {g : Nat} (hg : g < 192) (r : Run) (cause : TrapCause) (s : State) :
    (noteOverrun g (trapMarked e r cause s)).reg (Reg.TAC_TRAP_INFO e.val) = (noteTrap e r cause s).reg (Reg.TAC_TRAP_INFO e.val) ∧
      (noteOverrun g (trapMarked e r cause s)).bit F.TAC_EVENT.TRAP e.val = (noteTrap e r cause s).bit F.TAC_EVENT.TRAP e.val ∧
      RegsBut [Reg.TAC_TRAP_INFO e.val, Reg.TAC_EVENT, Reg.TAC_OVR g, Reg.TAC_OVR_EVENT (g / 32)] s
        (noteOverrun g (trapMarked e r cause s)) := by
  have hlt := e.isLt
  obtain ⟨hother, -, -⟩ := onlyRegs_noteOverrun g (trapMarked e r cause s)
  have hinfo : 0x40023c20 + 0x4 * e.val ≠ 0x40021000 + 0x4 * g ∧ 0x40023c20 + 0x4 * e.val ≠ 0x40021300 + 0x4 * (g / 32) := by omega
  have hevent : 0x40023c08 ≠ 0x40021000 + 0x4 * g ∧ 0x40023c08 ≠ 0x40021300 + 0x4 * (g / 32) := by omega
  refine ⟨(hother _ (by simpa [Reg.TAC_TRAP_INFO, Reg.TAC_OVR, Reg.TAC_OVR_EVENT] using hinfo)).trans (reg_markRun ..), ?_,
    ((regsBut_trapMarked e r cause s).mono (by simp)).trans (RegsBut.mono hother (by simp))⟩
  have hsame : (noteOverrun g (trapMarked e r cause s)).reg Reg.TAC_EVENT = (noteTrap e r cause s).reg Reg.TAC_EVENT :=
    (hother _ (by simpa [Reg.TAC_EVENT, Reg.TAC_OVR, Reg.TAC_OVR_EVENT] using hevent)).trans (reg_markRun ..)
  rw [State.bit, State.get_of_reg_eq (f := F.TAC_EVENT.TRAP) hsame, State.bit]

/-- A command that ends the run on a cause has that cause's trap. -/
theorem traps_of_trapRun {s : State} {e : Fin 8} {i : Instr} {r : Run} (cause : TrapCause) (he : exec i s = .next (trapRun e r cause s)) :
    Traps s e i r (trapCode cause) := by
  intro hfault
  have hg : gSlot e.val r.slot.val < 192 := by have := e.isLt; have := r.slot.isLt; rw [gSlot]; omega
  obtain ⟨hconsec, hlatch, hevent⟩ := noteOverrun_fields hg (trapMarked e r cause s)
  obtain ⟨hconsec', hlatch', hlimit⟩ := trapMarked_counts (e := e) hg r cause s
  obtain ⟨hinfo, htrap⟩ := noteTrap_regs e r cause s
  obtain ⟨hinfo', htrap', hregs⟩ := noteOverrun_trap_regs (e := e) hg r cause s
  obtain ⟨hruns, hdata, houts⟩ := tide_trapMarked e r cause s
  obtain ⟨-, honly⟩ := tideBusOnly_trap e r cause s
  have htide := tide_noteOverrun (gSlot e.val r.slot.val) (trapMarked e r cause s)
  rw [hconsec'] at hconsec
  have hcount := countOverrun_of_no_fault (g := gSlot e.val r.slot.val) (s := trapMarked e r cause s)
    (by rw [hlimit, hconsec, hlatch, hlatch']; exact hfault)
  refine ⟨_, he.trans (congrArg Host.Outcome.next ((trapRun_eq e r cause s).trans hcount)), ?_, fun n hn => ?_, hinfo'.trans hinfo,
    htrap'.trans htrap, hconsec, hevent, ?_, ?_, ?_, hregs, honly⟩
  · rw [runOf, htide, hruns, smFind_smErase_same]
  · rw [runOf, htide, hruns, smFind_smErase_ne _ _ _ hn, runOf]
  · exact (congrArg SlotSt.run (slot_of_tide_eq (congrArg Tide.slots htide) _)).trans (slot_markRun ..)
  · rw [htide, hdata]
  · rw [htide, houts]

/-! ### Which instruction ends on which cause (R173, R177, R181, R182, R186, R192) -/

/-- No word begins where no cycle is left (R173). -/
theorem spent_of_left_zero {s : State} {e : Fin 8} {r : Run} (h : r.left = 0) : spent s e r = true := by
  have hcycles : ∀ i, 0 < cyclesOf i r := by
    intro i
    unfold cyclesOf
    split <;> (try split) <;> decide
  unfold spent
  split
  · simp [h, hcycles]
  · simp [h]

theorem exec_budgetExhausted {s : State} {e : Fin 8} {r : Run} (hrun : runOf s e.val = some r) (hleft : r.left = 0) :
    exec (.budgetExhausted e) s = .next (trapRun e r .budget s) := by
  change Host.Outcome.next (budgetOut e s) = _
  simp only [budgetOut, hrun, spent_of_left_zero hleft, if_true]

theorem exec_illegalWord {s : State} {e : Fin 8} {r : Run} (hrun : runOf s e.val = some r) (hleft : r.left ≠ 0)
    (hword : omgilDecode e (codeWord s e.val r.pc) = none) : exec (.illegalWord e) s = .next (trapRun e r .illegal s) := by
  change Host.Outcome.next (illegalAt e s) = _
  simp only [illegalAt, hrun]
  rw [if_pos ⟨hword, hleft⟩]

theorem outPort_eq_none {s : State} {g p : Nat} (h : p < 0x40 ∨ 0x47 < p ∨ outAllowed (slotKind s g) (p - 0x40) = false) :
    outPort s g p = none := by
  refine if_neg fun ⟨hlo, hhi, hout⟩ => ?_
  obtain hp | hp | hp := h
  · omega
  · omega
  · exact Bool.false_ne_true (hp.symm.trans hout)

/-- A port beyond the port space, and one that its direction may not address, gives nothing. -/
theorem portNum_bind_eq_none {β : Type} {a : Word} {p : BitVec 12} {f : Nat → Option β}
    (h : 0xFFF < (a + p.setWidth 32).toNat ∨ f (a + p.setWidth 32).toNat = none) : (portNum a p).bind f = none := by
  by_cases hp : 0xFFF < (a + p.setWidth 32).toNat
  · rw [portNum_eq_none hp, Option.bind_none]
  · rw [portNum_eq_some (by omega), Option.bind_some]
    exact h.resolve_left hp

theorem startLoop_of_refused {e : Fin 8} {n last : Nat} {r : Run} {s : State} (h : r.loop ≠ none ∨ last ≤ r.pc) :
    startLoop e n last r s = trapRun e r .loop s :=
  if_pos (h.imp_left Option.isSome_iff_ne_none.mpr)

/-- Settles O16: every limit of Table 6.9 ends the run on its own cause. -/
theorem omgilTraps : Obligations.OmgilTraps := by
  rintro s e r rd ra imm port last count n g rfl rfl
  refine ⟨fun hrun hleft => traps_of_trapRun .budget (exec_budgetExhausted hrun hleft),
    fun hrun hleft hword => traps_of_trapRun .illegal (exec_illegalWord hrun hleft hword), fun hl => ⟨?inp, ?out, ?ld, ?st, ?lds, ?sts,
      ?ctx, fun hl2 hloop => ⟨?loop, ?loopi⟩⟩⟩
  case inp =>
    rintro i p rfl hat rfl hport
    refine traps_of_trapRun .port ?_
    change Host.Outcome.next (memOp e _ _ s) = _
    rw [memOp_of_at _ hat hl, portNum_bind_eq_none hport]
  case out =>
    rintro i p rfl hat rfl hport
    refine traps_of_trapRun .port ?_
    change Host.Outcome.next (memOp e _ _ s) = _
    rw [memOp_of_at _ hat hl, gSlot, portNum_bind_eq_none (.inr (outPort_eq_none hport))]
  case ld =>
    rintro i rfl hat hout
    refine traps_of_trapRun .mem ?_
    change Host.Outcome.next (memOp e _ _ s) = _
    rw [memOp_of_at _ hat hl, dataAddr, sextImm, privAddr_eq_none hout]
  case st =>
    rintro i rfl hat hout
    refine traps_of_trapRun .mem ?_
    change Host.Outcome.next (memOp e _ _ s) = _
    rw [memOp_of_at _ hat hl, dataAddr, sextImm, if_neg (by omega), privAddr_eq_none hout]
  case lds =>
    rintro i rfl hat hout
    refine traps_of_trapRun .mem ?_
    change Host.Outcome.next (memOp e _ _ s) = _
    rw [memOp_of_at _ hat hl, dataAddr, sextImm, sharedAddr_eq_none hout]
  case sts =>
    rintro i rfl hat hout
    refine traps_of_trapRun .mem ?_
    change Host.Outcome.next (memOp e _ _ s) = _
    rw [memOp_of_at _ hat hl, dataAddr, sextImm, sharedAddr_eq_none hout]
  case ctx =>
    rintro i rfl hat hlow
    refine traps_of_trapRun .ctx ?_
    change Host.Outcome.next (memOp e _ _ s) = _
    rw [memOp_of_at _ hat hl, dataAddr, sextImm, if_pos hlow]
  case loop =>
    rintro i rfl hat
    exact traps_of_trapRun .loop ((exec_loop_of_at (count := count) (.inl ⟨rfl, rfl⟩) hat (by split <;> omega)).trans
      (congrArg Host.Outcome.next (startLoop_of_refused hloop)))
  case loopi =>
    rintro i rfl hat
    exact traps_of_trapRun .loop ((exec_loop_of_at (ra := ra) (.inr ⟨rfl, rfl⟩) hat (by split <;> omega)).trans
      (congrArg Host.Outcome.next (startLoop_of_refused hloop)))

end Sys2Proof.Machine
end

section
/-!
PROOF. A step with no command waiting (95): the clocks tick, and a wipe or a clear of the recorder that is due writes its next 64 KiB.
The state after reset.
-/

namespace Sys2Proof.Machine

open Sys2Proof

/-! ### A range of the MRAM written with zero -/

theorem smFind_smFilter {α : Type} (p : Nat → Bool) (m : List (Nat × α)) (j : Nat) :
    smFind (smFilter p m) j = if p j then smFind m j else none := by
  induction m with
  | nil => simp [smFilter, smFind]
  | cons e t ih =>
    unfold smFilter at ih ⊢
    by_cases hkey : p e.1 <;> by_cases hj : e.1 = j <;> simp_all [smFind]

theorem smGet_mramZero (off n i : Nat) (s : State) :
    smGet 0 (mramZero off n s).nv.mram i = if off ≤ i ∧ i < off + n then 0 else smGet 0 s.nv.mram i := by
  unfold smGet mramZero
  rw [smFind_smFilter]
  by_cases hin : off ≤ i ∧ i < off + n
  · rw [if_pos hin, if_neg (by simp; omega)]
  · rw [if_neg hin, if_pos (by simp; omega)]

/-! ### The parts of an idle tick -/

/-- A tick with nothing commanded changes the time base of what the wipe and the clear leave. -/
theorem idleTick_eq (s : State) : ∃ tb : TimeBase,
    idleTick s = { clearTick (wipeTick s) with tb := tb } ∧ tb.tick = (clearTick (wipeTick s)).tb.tick + 1 := by
  rw [idleTick]
  by_cases hawake : (slowTick (clearTick (wipeTick s))).awake = true
  · simp only [hawake, if_true, clockTick]
    split <;> exact ⟨_, rfl, rfl⟩
  · simp only [hawake]
    exact ⟨_, rfl, rfl⟩

theorem wipeTick_of_quiet {s : State}
    (h : s.conf.wiping = true → ∀ w, s.nv.lc.wipe = some w → wipeEnd w.img ≤ w.progress ∨ s.tb.tick < s.conf.wipeFrom + wipeTicks) :
    wipeTick s = s := by
  unfold wipeTick
  split
  · rename_i w hw
    refine if_neg fun hall => ?_
    simp only [Bool.and_eq_true, decide_eq_true_eq] at hall
    obtain ⟨⟨hwiping, hdue⟩, hleft⟩ := hall
    have := h hwiping w hw
    omega
  · rfl

theorem wipeTick_of_due {s : State} {w : WipeMarker} (hw : s.nv.lc.wipe = some w) (hwiping : s.conf.wiping = true)
    (hdue : s.conf.wipeFrom + wipeTicks ≤ s.tb.tick) (hleft : w.progress < wipeEnd w.img) : wipeTick s = wipeChunk w s := by
  simp [wipeTick, hw, hwiping, hdue, hleft]

theorem clearTick_of_quiet {s : State} (h : s.rcd.clear = none ∨ s.tb.tick < s.rcd.clearAt + wipeTicks) : clearTick s = s := by
  refine if_neg fun hall => ?_
  simp only [Bool.and_eq_true, decide_eq_true_eq] at hall
  obtain ⟨⟨⟨-, hclear⟩, hdue⟩, -⟩ := hall
  obtain h | h := h
  · simp [h] at hclear
  · omega

theorem clearTick_of_due {s : State} {x : Nat × Nat} (hx : s.rcd.clear = some x) (hawake : s.awake = true)
    (hdue : s.rcd.clearAt + wipeTicks ≤ s.tb.tick) (hleft : 0 < s.rcd.clearTo) : clearTick s = clearChunk s := by
  simp [clearTick, hx, hawake, hdue, hleft]

theorem clearChunk_mram (s : State) : (clearChunk s).nv.mram =
    (mramZero (recBase + (s.rcd.clearTo - 0x10000)) (s.rcd.clearTo - (s.rcd.clearTo - 0x10000)) s).nv.mram := rfl

/-- From `s` to `t` nothing changed but the MRAM and the progress of a wipe and of a clear. -/
def SweepOnly (s t : State) : Prop :=
  t = { s with
    nv := { s.nv with mram := t.nv.mram, lc := { s.nv.lc with wipe := t.nv.lc.wipe } }
    rcd := { s.rcd with clearTo := t.rcd.clearTo, clearAt := t.rcd.clearAt }
    conf := { s.conf with wipeFrom := t.conf.wipeFrom } }

theorem SweepOnly.trans {s t u : State} (hst : SweepOnly s t) (htu : SweepOnly t u) : SweepOnly s u := by
  rw [SweepOnly] at *
  rw [htu, hst]

theorem sweepOnly_wipeTick (s : State) : SweepOnly s (wipeTick s) := by
  unfold wipeTick
  split
  · split <;> rfl
  · rfl

theorem sweepOnly_clearTick (s : State) : SweepOnly s (clearTick s) := by
  unfold clearTick
  split <;> rfl

/-- The end of the chunk that a wipe with this progress writes next. -/
def chunkEnd (w : WipeMarker) : Nat := min (wipeEnd w.img) ((w.progress / 0x10000 + 1) * 0x10000)

theorem chunkEnd_bounds {w : WipeMarker} (h : w.progress < wipeEnd w.img) :
    w.progress < chunkEnd w ∧ chunkEnd w ≤ wipeEnd w.img ∧ (chunkEnd w % 0x10000 = 0 ∨ chunkEnd w = wipeEnd w.img) := by
  unfold chunkEnd
  omega

/-- What is left of an idle tick where neither a wipe nor a clear is due. -/
theorem idleTick_of_quiet {s t : State} {tb : TimeBase} (h : t = { clearTick (wipeTick s) with tb := tb }) (hwipe : wipeTick s = s)
    (hclear : clearTick s = s) : t = { s with tb := t.tb } := by
  rw [h, hwipe, hclear]

/-- The tick count rises by 1 whatever else a tick does. -/
theorem idleTick_tick (s : State) : ∃ t, idleTick s = t ∧ ∃ tb : TimeBase,
    t = { clearTick (wipeTick s) with tb := tb } ∧ tb.tick = s.tb.tick + 1 := by
  obtain ⟨tb, htb, htick⟩ := idleTick_eq s
  have hsweep : SweepOnly s (clearTick (wipeTick s)) := (sweepOnly_wipeTick s).trans (sweepOnly_clearTick _)
  have hsame : (clearTick (wipeTick s)).tb = s.tb := by rw [hsweep]
  exact ⟨_, rfl, tb, htb, by rw [htick, hsame]⟩

/-- Settles O1: a step runs the front command, and with none waiting ticks, wiping and clearing on. -/
theorem stepRunsTheFrontCommand : Obligations.StepRunsTheFrontCommand := by
  refine ⟨fun s c => rfl, fun s c q hq => by rw [step, hq], fun s hempty => ?_⟩
  obtain ⟨t, ht, tb, htb, htick⟩ := idleTick_tick s
  refine ⟨t, by rw [step, hempty, ← ht], by rw [htb]; exact htick, ?quiet, ?clear, ?wait, ?wipe, ?rest⟩
  case quiet =>
    intro hwiping hclear
    exact idleTick_of_quiet htb (wipeTick_of_quiet fun h => absurd h (by simp [hwiping])) (clearTick_of_quiet hclear)
  case clear =>
    intro hwiping x hx hawake hleft hdue
    rw [wipeTick_of_quiet fun h => absurd h (by simp [hwiping]), clearTick_of_due hx hawake hdue hleft] at htb
    subst htb
    have hmem : ∀ i, smGet 0 (clearChunk s).nv.mram i =
        if 0x430000 + (s.rcd.clearTo - 0x10000) ≤ i ∧ i < 0x430000 + s.rcd.clearTo then 0 else smGet 0 s.nv.mram i := fun i => by
      rw [clearChunk_mram, smGet_mramZero, recBase, show 0x430000 + (s.rcd.clearTo - 0x10000) + (s.rcd.clearTo - (s.rcd.clearTo - 0x10000)) = 0x430000 + s.rcd.clearTo by
        omega]
    exact ⟨rfl, rfl, fun i hlo hhi => (hmem i).trans (if_pos ⟨hlo, hhi⟩),
      fun i hout => (hmem i).trans (if_neg fun ⟨hlo, hhi⟩ => hout.elim (Nat.not_lt.mpr hlo) (Nat.not_le.mpr hhi))⟩
  case wait =>
    intro w hwiping hclear hw hquiet
    refine idleTick_of_quiet htb (wipeTick_of_quiet fun _ w' hw' => ?_) (clearTick_of_quiet (.inl hclear))
    obtain rfl := Option.some.inj (hw.symm.trans hw')
    exact hquiet
  case wipe =>
    intro w hwiping hclear hw hleft hdue
    obtain ⟨hmore, hend, hround⟩ := chunkEnd_bounds hleft
    rw [wipeTick_of_due hw hwiping hdue hleft, clearTick_of_quiet (s := wipeChunk w s) (.inl hclear)] at htb
    subst htb
    have hmem : ∀ i, smGet 0 (wipeChunk w s).nv.mram i =
        if w.progress ≤ i ∧ i < chunkEnd w then 0 else smGet 0 s.nv.mram i := fun i => by
      refine (smGet_mramZero w.progress (chunkEnd w - w.progress) i s).trans ?_
      rw [show w.progress + (chunkEnd w - w.progress) = chunkEnd w by omega]
    exact ⟨{ w with progress := chunkEnd w }, rfl, rfl, hmore, hend, hround, fun i hlo hhi => (hmem i).trans (if_pos ⟨hlo, hhi⟩),
      fun i hout => (hmem i).trans (if_neg fun ⟨hlo, hhi⟩ => hout.elim (Nat.not_lt.mpr hlo) (Nat.not_le.mpr hhi))⟩
  case rest =>
    have hsweep := (sweepOnly_wipeTick s).trans (sweepOnly_clearTick (wipeTick s))
    rw [SweepOnly] at hsweep
    subst htb
    exact congrArg (fun u : State => { u with tb := tb }) hsweep

/-- Settles O59: the state after reset is what chapters 04, 05, 19 and 02 say of it. -/
theorem resetHoldsTheInvariant : Obligations.ResetHoldsTheInvariant := by
  refine ⟨⟨by decide, Memory.wf_reset.1, Memory.wf_reset.2, by decide, by decide⟩, rfl, rfl, fun _ => rfl, fun _ => rfl, ?_, ?_, ?_,
    fun _ => rfl, rfl⟩
  · decide +kernel
  · decide +kernel
  · decide +kernel

end Sys2Proof.Machine
end

section
/-!
PROOF. What every operation keeps (95): the queue of commands and the invariant, operation by operation in the order of the model.
-/

namespace Sys2Proof.Machine

open Sys2Proof

/-- The queue is `q`, and where `P` the state has the invariant. -/
def Held (q : List Instr) (P : Prop) (s : State) : Prop := s.pending = q ∧ (P → Inv s)

variable {q : List Instr} {P : Prop} {s t : State}

section

/-! A change of what `Held` does not speak of keeps it, whatever the new values. The blocks of which it speaks in part have a lemma each, so
that no check has to take apart a block that did not change. -/

variable
  {free : Nat} {tx : List TxFrame} {bus : Bus} {pw : Power} {conf : Conf} {pins : Pins} {caches : Caches} {cars : List (Nat × CarRec)}
  {chans : List (Nat × ChanView)} {trj : Trj} {doors : List (Nat × Door)} {cmm : List (Nat × CmmCh)} {slk : Slk} {fbk : Fbk} {fio : Fio}
  {saf : Saf} {bss : Bss} {fab : Fab} {nbTs : List (Nat × Nat)} {rcd : Rec}

theorem held_with
    (h : Held q P s) : Held q P { s with
      free := free, tx := tx, bus := bus, pw := pw, conf := conf, pins := pins, caches := caches, cars := cars, chans := chans
      trj := trj, doors := doors, cmm := cmm, slk := slk, fbk := fbk, fio := fio, saf := saf, bss := bss, fab := fab, nbTs := nbTs, rcd := rcd } := h

theorem held_withTb {tick k next holdSec holdCyc goodOffs : Nat} {txq : List (Nat × List TxStamp)} {ports : List (Nat × PtpPort)}
    (h : Held q P s) : Held q P { s with
      free := free, tx := tx, bus := bus, pw := pw, conf := conf, pins := pins, caches := caches, cars := cars, chans := chans
      trj := trj, doors := doors, cmm := cmm, slk := slk, fbk := fbk, fio := fio, saf := saf, bss := bss, fab := fab, nbTs := nbTs, rcd := rcd
      tb := { s.tb with tick := tick, k := k, next := next, txq := txq, holdSec := holdSec, holdCyc := holdCyc, goodOffs := goodOffs, ports := ports } } := h

theorem held_withNv {lc : LcRecord} {serial : Nat} {codeE : Bool} {macs : List Nat}
    (h : Held q P s) : Held q P { s with
      free := free, tx := tx, bus := bus, pw := pw, conf := conf, pins := pins, caches := caches, cars := cars, chans := chans
      trj := trj, doors := doors, cmm := cmm, slk := slk, fbk := fbk, fio := fio, saf := saf, bss := bss, fab := fab, nbTs := nbTs, rcd := rcd
      nv := { s.nv with lc := lc, serial := serial, codeE := codeE, macs := macs } } := h

theorem held_withTide {runs : List (Nat × Run)} {slots : List (Nat × SlotSt)} {haltWant : Nat} {outs latched : List (Nat × Word)} {stage : Stage}
    (h : Held q P s) : Held q P { s with
      free := free, tx := tx, bus := bus, pw := pw, conf := conf, pins := pins, caches := caches, cars := cars, chans := chans
      trj := trj, doors := doors, cmm := cmm, slk := slk, fbk := fbk, fio := fio, saf := saf, bss := bss, fab := fab, nbTs := nbTs, rcd := rcd
      tide := { s.tide with runs := runs, slots := slots, haltWant := haltWant, outs := outs, latched := latched, stage := stage } } := h

theorem held_withAll {tick k next holdSec holdCyc goodOffs : Nat} {txq : List (Nat × List TxStamp)} {ports : List (Nat × PtpPort)}
    {lc : LcRecord} {serial : Nat} {codeE : Bool} {macs : List Nat}
    {runs : List (Nat × Run)} {slots : List (Nat × SlotSt)} {haltWant : Nat} {outs latched : List (Nat × Word)} {stage : Stage}
    (h : Held q P s) : Held q P { s with
      free := free, tx := tx, bus := bus, pw := pw, conf := conf, pins := pins, caches := caches, cars := cars, chans := chans
      trj := trj, doors := doors, cmm := cmm, slk := slk, fbk := fbk, fio := fio, saf := saf, bss := bss, fab := fab, nbTs := nbTs, rcd := rcd
      tb := { s.tb with tick := tick, k := k, next := next, txq := txq, holdSec := holdSec, holdCyc := holdCyc, goodOffs := goodOffs, ports := ports }
      nv := { s.nv with lc := lc, serial := serial, codeE := codeE, macs := macs }
      tide := { s.tide with runs := runs, slots := slots, haltWant := haltWant, outs := outs, latched := latched, stage := stage } } := h

end

theorem held_ite_of {c : Prop} [Decidable c] (hs : c → Held q P s) (ht : ¬c → Held q P t) : Held q P (if c then s else t) := by
  split
  next hc => exact hs hc
  next hc => exact ht hc

theorem held_ite {c : Prop} [Decidable c] (hs : Held q P s) (ht : Held q P t) : Held q P (if c then s else t) :=
  held_ite_of (fun _ => hs) (fun _ => ht)

theorem held_fst_ite {α : Type} {c : Prop} [Decidable c] {a b : State × α} (ha : Held q P a.1) (hb : Held q P b.1) :
    Held q P (if c then a else b).1 := by
  split
  · exact ha
  · exact hb

theorem held_snd_ite {α : Type} {c : Prop} [Decidable c] {a b : α × State} (ha : Held q P a.2) (hb : Held q P b.2) :
    Held q P (if c then a else b).2 := by
  split
  · exact ha
  · exact hb

theorem held_fn_ite {α : Type} {c : Prop} [Decidable c] {f g : α → State → State} {a : α} (hf : Held q P (f a s)) (hg : Held q P (g a s)) :
    Held q P ((if c then f else g) a s) := by
  split
  · exact hf
  · exact hg

theorem held_some_ite {c : Prop} [Decidable c] {x : State} {o : Option State} (hx : Held q P x) (ho : ∀ t ∈ o, Held q P t) :
    ∀ t ∈ (if c then some x else o), Held q P t := by
  split
  · exact fun t ht => Option.some.inj ht ▸ hx
  · exact ho

theorem held_dite {c : Prop} [Decidable c] {f : c → State} {g : ¬c → State} (hf : ∀ h, Held q P (f h)) (hg : ∀ h, Held q P (g h)) :
    Held q P (if h : c then f h else g h) := by
  split
  · exact hf _
  · exact hg _

theorem held_forN {n : Nat} {f : Nat → State → State} (h : Held q P s) (hf : ∀ i t, Held q P t → Held q P (f i t)) :
    Held q P (s.forN n f) :=
  State.forN_rel (R := fun s t => Held q P s → Held q P t) (fun _ h => h) (fun _ _ _ hst htu h => htu (hst h))
    (fun i _ t => hf i t) s h

theorem held_foldl {α : Type} {f : State → α → State} {l : List α} (hf : ∀ t a, Held q P t → Held q P (f t a)) (h : Held q P s) :
    Held q P (l.foldl f s) := by
  induction l generalizing s with
  | nil => exact h
  | cons a l ih => exact ih (hf s a h)

theorem held_foldl_fst {α β : Type} {f : State × β → α → State × β} {l : List α} {p : State × β}
    (hf : ∀ p a, Held q P p.1 → Held q P (f p a).1) (h : Held q P p.1) : Held q P (l.foldl f p).1 := by
  induction l generalizing p with
  | nil => exact h
  | cons a l ih => exact ih (hf p a h)

theorem held_forL {α : Type} {l : List α} {f : α → State → State} (h : Held q P s) (hf : ∀ a t, Held q P t → Held q P (f a t)) :
    Held q P (s.forL l f) := held_foldl (fun t a => hf a t) h

/-! ### Answers -/

/-- Where the answer is a next state, that state keeps. -/
def HeldNext (q : List Instr) (P : Prop) (o : Host.Outcome State Fault Refusal) : Prop := ∀ t, o = .next t → Held q P t

theorem heldNext_next (h : Held q P s) : HeldNext q P (.next s) := fun _ ht => Host.Outcome.next.inj ht ▸ h

theorem heldNext_refused {r : Refusal} : HeldNext q P (.refused r) := fun t ht =>
  absurd ht (by simp)

theorem heldNext_ite {c : Prop} [Decidable c] {a b : Host.Outcome State Fault Refusal} (ha : HeldNext q P a) (hb : HeldNext q P b) :
    HeldNext q P (if c then a else b) := by
  split
  · exact ha
  · exact hb

/-! ### The memories -/

theorem held_of_inv (h : Held q P s) (hq : t.pending = s.pending) (hinv : Inv s → Inv t) : Held q P t := by
  obtain ⟨hpending, hheld⟩ := h
  exact ⟨hq.trans hpending, fun hP => hinv (hheld hP)⟩

theorem held_mramPut {off : Nat} {bs : List Byte} (h : Held q P s) : Held q P (mramPut off bs s) :=
  held_of_inv h rfl fun ⟨hclock, hsram, hmram, hcode, hdata⟩ => ⟨hclock, hsram, Memory.wf_mramPut off bs s hmram, hcode, hdata⟩

theorem held_mramZero {off n : Nat} (h : Held q P s) : Held q P (mramZero off n s) :=
  held_of_inv h rfl fun ⟨hclock, hsram, hmram, hcode, hdata⟩ => ⟨hclock, hsram, Memory.wf_mramZero off n s hmram, hcode, hdata⟩

theorem held_sramWrite {a n v : Nat} (h : Held q P s) : Held q P (sramWrite a n v s) :=
  held_of_inv h rfl fun ⟨hclock, hsram, hmram, hcode, hdata⟩ => ⟨hclock, Memory.wf_sramWrite a n v s hsram, hmram, hcode, hdata⟩

theorem held_setCode {e i : Nat} {w : Word} (h : Held q P s) : Held q P (setCode e i w s) :=
  held_of_inv h rfl fun ⟨hclock, hsram, hmram, hcode, hdata⟩ => ⟨hclock, hsram, hmram, wordsWf_setCode e i w s hcode, hdata⟩

theorem held_setData {e i : Nat} {w : Word} (h : Held q P s) : Held q P (setData e i w s) :=
  held_of_inv h rfl fun ⟨hclock, hsram, hmram, hcode, hdata⟩ => ⟨hclock, hsram, hmram, hcode, wordsWf_setData e i w s hdata⟩

theorem held_loadTide (h : Held q P s) : Held q P (loadTide s) :=
  held_of_inv h rfl fun ⟨hclock, hsram, hmram, _, _⟩ => ⟨hclock, hsram, hmram, wordsWf_loadTide s⟩

/-! ### The clock (19 R576, R578, R587) -/

theorem clockOk_iff : clockOk s = true ↔ s.tb.sec < 2 ^ 48 ∧ s.tb.ns < 1000000000 ∧ s.tb.frac < 2 ^ 28 := by
  simp [clockOk, and_assoc]

/-- A clock set within its ranges keeps. -/
theorem held_clock {tb : TimeBase} (h : Held q P s)
    (hok : s.tb.sec < 2 ^ 48 ∧ s.tb.ns < 1000000000 ∧ s.tb.frac < 2 ^ 28 → tb.sec < 2 ^ 48 ∧ tb.ns < 1000000000 ∧ tb.frac < 2 ^ 28) :
    Held q P { s with tb := tb } :=
  held_of_inv h rfl fun ⟨hclock, hrest⟩ => ⟨clockOk_iff.mpr (hok (clockOk_iff.mp hclock)), hrest⟩

theorem held_clockTick (h : Held q P s) : Held q P (clockTick s) := by
  have hmod := Nat.mod_lt (s.tb.ns * 2 ^ 28 + s.tb.frac + (s.reg Reg.TIM_ADDEND).toNat) (by decide : 0 < 2 ^ 28)
  have hadd := (s.reg Reg.TIM_ADDEND).isLt
  refine held_ite_of (fun hge => held_clock h fun hok => ?_) (fun hlt => held_clock h fun hok => ?_) <;> dsimp only [nsPerSec] at * <;>
    omega

theorem held_clockMove {off : Int} (h : Held q P s) : Held q P (clockMove off s) := by
  have hrange : (((s.nowNs : Int) + off) % ((2 ^ 48 * nsPerSec : Nat) : Int)).toNat < 2 ^ 48 * 1000000000 := by
    have := Int.emod_lt_of_pos ((s.nowNs : Int) + off) (by decide : (0 : Int) < ((2 ^ 48 * nsPerSec : Nat) : Int))
    have := Int.emod_nonneg ((s.nowNs : Int) + off) (by decide : ((2 ^ 48 * nsPerSec : Nat) : Int) ≠ 0)
    rw [nsPerSec] at *
    omega
  refine held_clock h fun ⟨_, _, hfrac⟩ => ⟨Nat.div_lt_of_lt_mul (by rwa [nsPerSec, Nat.mul_comm]), Nat.mod_lt _ (by decide), hfrac⟩

theorem held_clockFromHoldover (h : Held q P s) : Held q P (clockFromHoldover s) :=
  held_clock h fun _ => ⟨Nat.mod_lt _ (by decide), Nat.mod_lt _ (by decide), Nat.two_pow_pos 28⟩

theorem held_clockFromZero (h : Held q P s) : Held q P (clockFromZero s) :=
  held_clock h fun _ => ⟨Nat.two_pow_pos 48, Nat.zero_lt_succ _, Nat.two_pow_pos 28⟩

/-! ### Power lost, and resets -/

theorem held_powerDown (h : Held q P s) : Held q P (powerDown s) :=
  held_of_inv h rfl fun ⟨hclock, _, hmram, _, _⟩ => ⟨hclock, rfl, hmram, rfl, rfl⟩

theorem held_resetNow {cause : Nat} (h : Held q P s) : Held q P (resetNow cause s) :=
  held_of_inv h rfl fun ⟨_, _, hmram, _, _⟩ => ⟨rfl, rfl, hmram, rfl, rfl⟩

theorem held_draw (h : Held q P s) : Held q P s.draw.2 := h

end Sys2Proof.Machine
end

section
/-!
PROOF. Every operation of the model keeps the queue and the invariant: one rule per operation, in the order of the model's files, each by the
rules of the operations it is made of. Then every command, and every step.
-/

namespace Sys2Proof.Machine

open Sys2Proof

variable {q : List Instr} {P : Prop}

/-! ### Machine/Ops.lean -/

theorem held_setReg {s : State} {a : Nat} {w : Word} (h : Held q P s) : Held q P (State.setReg s a w) := h

theorem held_put {s : State} {f : FRef} {v : Nat} (h : Held q P s) : Held q P (State.put s f v) := held_setReg h

theorem held_ev {s : State} {f : FRef} (h : Held q P s) : Held q P (State.ev s f) := held_put h

theorem held_putB {s : State} {f : FRef} {b : Bool} (h : Held q P s) : Held q P (State.putB s f b) := held_put h

theorem held_evBit {s : State} {f : FRef} {n : Nat} (h : Held q P s) : Held q P (State.evBit s f n) := held_put h

theorem held_clrBit {s : State} {f : FRef} {n : Nat} (h : Held q P s) : Held q P (State.clrBit s f n) := held_put h

theorem held_incSat {s : State} {f : FRef} (h : Held q P s) : Held q P (State.incSat s f) := held_put h

theorem held_incWrap {s : State} {f : FRef} (h : Held q P s) : Held q P (State.incWrap s f) := held_put h

theorem held_setPair {s : State} {lo v : Nat} (h : Held q P s) : Held q P (State.setPair s lo v) := held_setReg (held_setReg h)

theorem held_setPairS {s : State} {lo : Nat} {v : Int} (h : Held q P s) : Held q P (State.setPairS s lo v) := held_setPair h

theorem held_setPend {s : State} {a : Nat} {w : Word} (h : Held q P s) : Held q P (State.setPend s a w) := h

theorem held_result {s : State} {a v : Nat} (h : Held q P s) : Held q P (State.result s a v) := held_setReg h

theorem held_resultPair {s : State} {lo : Nat} {v : Int} (h : Held q P s) : Held q P (State.resultPair s lo v) :=
  held_setReg (held_setReg h)

theorem held_bumpTag {s : State} {f : FRef} (h : Held q P s) : Held q P (State.bumpTag s f) := held_put h

theorem held_noRoute {s : State} (h : Held q P s) : Held q P (noRoute s) := held_ev (held_incSat h)

theorem held_nextPn {p : Nat} {s : State} (h : Held q P s) : Held q P (nextPn p s) :=
  held_ite (held_ev (held_ite (held_ev (held_setReg h)) (held_setReg h))) (held_ite (held_ev (held_setReg h)) (held_setReg h))

theorem held_emit {f : TxFrame} {s : State} (h : Held q P s) : Held q P (emit f s) := held_ite (held_ite (held_ite h (held_nextPn h)) h) h

theorem held_nextSeq {s : State} (h : Held q P s) : Held q P (nextSeq s) := h

theorem held_send {s : State} {dst : Nat} {b : FrameBody} (h : Held q P s) : Held q P (State.send s dst b) :=
  held_ite (by
  dsimp only
  split
  · exact held_noRoute (held_nextSeq h)
  · exact held_emit (held_nextSeq h)) h

theorem held_sendGroup {s : State} {hops : Nat} {b : FrameBody} (h : Held q P s) : Held q P (State.sendGroup s hops b) :=
  held_ite (held_foldl (fun _ _ h1 => held_emit h1) (held_nextSeq h)) h

theorem held_sendPort {s : State} {p dst : Nat} {bcast : Bool} {b : FrameBody} (h : Held q P s) : Held q P (State.sendPort s p dst bcast b)
    :=
  held_ite (held_emit (held_nextSeq h)) h

theorem held_modCar {s : State} {c : Nat} {f : CarRec → CarRec} (h : Held q P s) : Held q P (State.modCar s c f) := h

theorem held_modChan {s : State} {n : Nat} {f : ChanView → ChanView} (h : Held q P s) : Held q P (State.modChan s n f) := h

theorem held_modAxis {s : State} {n : Nat} {f : Axis → Axis} (h : Held q P s) : Held q P (State.modAxis s n f) := h

theorem held_modCmm {s : State} {n : Nat} {f : CmmCh → CmmCh} (h : Held q P s) : Held q P (State.modCmm s n f) := h

theorem held_modPort {s : State} {p : Nat} {f : SlkPort → SlkPort} (h : Held q P s) : Held q P (State.modPort s p f) := h

theorem held_modSlkCh {s : State} {n : Nat} {f : SlkCh → SlkCh} (h : Held q P s) : Held q P (State.modSlkCh s n f) := h

theorem held_modFb {s : State} {n : Nat} {f : FbCh → FbCh} (h : Held q P s) : Held q P (State.modFb s n f) := h

theorem held_modSer {s : State} {p : Nat} {f : SerPort → SerPort} (h : Held q P s) : Held q P (State.modSer s p f) := h

theorem held_modEmu {s : State} {e : Nat} {f : Emu → Emu} (h : Held q P s) : Held q P (State.modEmu s e f) := h

theorem held_modDoor {s : State} {d : Nat} {f : Door → Door} (h : Held q P s) : Held q P (State.modDoor s d f) := h

theorem held_modDie {s : State} {g : Nat} {f : Die → Die} (h : Held q P s) : Held q P (State.modDie s g f) := h

theorem held_modStoLink {s : State} {l : Nat} {f : StoLink → StoLink} (h : Held q P s) : Held q P (State.modStoLink s l f) := h

theorem held_modFreq {s : State} {f : Nat} {g : FreqIn → FreqIn} (h : Held q P s) : Held q P (State.modFreq s f g) := h

theorem held_modSlot {s : State} {g : Nat} {f : SlotSt → SlotSt} (h : Held q P s) : Held q P (State.modSlot s g f) := h

theorem held_when {s : State} {c : Bool} {f : State → State} (h : Held q P s) (hf : ∀ t', Held q P t' → Held q P (f t')) : Held q P
    (State.when s c f) :=
  held_ite (hf _ h) h

/-! ### Machine/Geom.lean -/

theorem held_stopAxis {n cause : Nat} {s : State} (h : Held q P s) : Held q P (stopAxis n cause s) := held_modAxis h

theorem held_homeHandedOver {n : Nat} {s : State} (h : Held q P s) : Held q P (homeHandedOver n s) := held_modAxis h

theorem held_axisLost {c : Nat} {s : State} (h : Held q P s) : Held q P (axisLost c s) := held_modAxis h

/-! ### Machine/Announce.lean -/

theorem held_announceOn {p : Nat} {s : State} (h : Held q P s) : Held q P (announceOn p s) := held_ite (held_sendPort h) h

theorem held_announceAll {s : State} (h : Held q P s) : Held q P (announceAll s) := held_forN h (fun _ _ h1 => held_announceOn h1)

/-! ### Machine/Access.lean -/

theorem held_errAddr {a : Nat} {s : State} (h : Held q P s) : Held q P (errAddr a s) := held_setReg h

theorem held_guardErr {a : Nat} {s : State} (h : Held q P s) : Held q P (guardErr a s) := held_errAddr (held_ev h)

theorem held_dropGuard {b : Nat} {s : State} (h : Held q P s) : Held q P (dropGuard b s) := h

theorem held_touch {a : Nat} {s : State} (h : Held q P s) : Held q P (touch a s) := by
  unfold touch
  split
  · exact h
  · split
    · exact h
    · exact held_guardErr (held_dropGuard h)

theorem held_writeCmd {core : Sender} {a : Nat} {act : State → State} {s : State} (hact : ∀ t', Held q P t' → Held q P (act t')) (h : Held
    q P s) : Held q P (writeCmd core a act s) :=
  held_ite (hact _ (held_touch h)) h

theorem held_armGuard {a : Nat} {v : Word} {s : State} (h : Held q P s) : Held q P (armGuard a v s) := by
  unfold armGuard
  split
  · exact h
  · exact h

theorem held_cplWrite {core : Sender} {va : Nat} {cpl : Word} {act : Word → State → State} {s : State} (hact : ∀ a0 t', Held q P t' → Held
    q P (act a0 t')) (h : Held q P s) : Held q P (cplWrite core va cpl act s) :=
  held_ite (by
  split
  · exact h
  · split
    · exact held_guardErr h
    · exact held_ite (hact _ _ (held_dropGuard h)) (held_guardErr (held_dropGuard h))) h

theorem held_keepVal {va : Nat} {v : Word} {s : State} (h : Held q P s) : Held q P (keepVal va v s) := held_setReg h

theorem held_storePend {g a : Nat} {w : Word} {s : State} (h : Held q P s) : Held q P (storePend g a w s) :=
  held_ite h (held_with (held_setPend h))

theorem held_storeReg {a : Nat} {w : Word} {s : State} (h : Held q P s) : Held q P (storeReg a w s) := by
  unfold storeReg
  dsimp only
  split
  · exact held_storePend h
  · exact held_setReg h

theorem held_setRdata {core : Sender} {w : Word} {s : State} (h : Held q P s) : Held q P (setRdata core w s) := h

theorem held_setShadow {lo : Nat} {core : Sender} {w : Word} {s : State} (h : Held q P s) : Held q P (setShadow lo core w s) := h

theorem held_setHold {lo : Nat} {core : Sender} {w : Word} {s : State} (h : Held q P s) : Held q P (setHold lo core w s) := h

theorem held_narrowErr {a : Nat} {s : State} (h : Held q P s) : Held q P (narrowErr a s) := held_errAddr (held_ev h)

theorem held_unmappedErr {a : Nat} {s : State} (h : Held q P s) : Held q P (unmappedErr a s) := held_errAddr (held_ev h)

theorem held_rcReadOp {core : Sender} {a : Nat} {s : State} (h : Held q P s) : Held q P (rcReadOp core a s) :=
  held_ite (held_setRdata h) (held_setReg (held_setRdata h))

/-! ### Machine/Recorder.lean -/

theorem held_setLost {v : Nat} {s : State} (h : Held q P s) : Held q P (setLost v s) := held_setReg (held_mramPut (held_mramPut h))

theorem held_dropEvent {s : State} (h : Held q P s) : Held q P (dropEvent s) := by
  unfold dropEvent
  dsimp only
  split
  · exact held_with (held_ev h)
  · exact held_setLost (held_ev h)

theorem held_enqueue {safety : Bool} {e : RecEv} {s : State} (h : Held q P s) : Held q P (enqueue safety e s) :=
  held_ite (held_dropEvent h) (held_ite (held_ite h (held_dropEvent h)) (held_ite h (held_dropEvent h)))

theorem held_record {src unit code : Nat} {data : List Byte} {s : State} (h : Held q P s) : Held q P (record src unit code data s) :=
  held_enqueue h

theorem held_recordSafety {unit code : Nat} {data : List Byte} {s : State} (h : Held q P s) : Held q P (recordSafety unit code data s) :=
  held_enqueue h

theorem held_writeRecord {e : RecEv} {s : State} (h : Held q P s) : Held q P (writeRecord e s) :=
  held_ite (held_ev (held_ev (held_put (held_mramPut (held_mramPut h))))) (held_put (held_mramPut (held_mramPut h)))

theorem held_recordStep {s : State} (h : Held q P s) : Held q P (recordStep s) :=
  held_ite (by
  split
  · exact h
  · exact held_ite (held_writeRecord h) (held_dropEvent h)) h

theorem held_queueStart {data : List Byte} {s : State} (h : Held q P s) : Held q P (queueStart data s) := h

theorem held_bootScan {s : State} (h : Held q P s) : Held q P (bootScan s) :=
  held_ite (held_ev (held_ev (held_setReg (held_putB (held_setReg (held_ite (held_mramZero h) h)))))) (held_setReg (held_putB (held_setReg
      (held_ite (held_mramZero h) h))))

theorem held_recClearOp {core : Sender} {v : Word} {s : State} (h : Held q P s) : Held q P (recClearOp core v s) :=
  held_ite (held_ev (held_with (held_keepVal h))) (held_ev h)

theorem held_clearDone {s : State} (h : Held q P s) : Held q P (clearDone s) := by
  unfold clearDone
  split
  · exact h
  · exact held_ev (held_writeRecord (held_setLost (held_put (held_put (held_put (held_with (held_mramZero (held_mramZero h))))))))

theorem held_recAppOp {core : Sender} {v : Word} {s : State} (h : Held q P s) : Held q P (recAppOp core v s) :=
  held_ite (held_record h) (held_ev h)

/-! ### Machine/Snap.lean -/

theorem held_snapOnce {b : Nat} {f : State → State} {s : State} (hf : ∀ t', Held q P t' → Held q P (f t')) (h : Held q P s) : Held q P
    (snapOnce b f s) :=
  held_ite h (hf _ h)

theorem held_takeTrj {s : State} (h : Held q P s) : Held q P (takeTrj s) := held_forN h (fun _ _ h1 => held_result (held_resultPair h1))

theorem held_snapTrj {s : State} (h : Held q P s) : Held q P (snapTrj s) := held_snapOnce (fun _ h1 => held_takeTrj h1) h

theorem held_takeCmm {s : State} (h : Held q P s) : Held q P (takeCmm s) :=
  held_ev (held_forN h (fun _ _ h1 => held_result (held_result h1)))

theorem held_snapCmm {s : State} (h : Held q P s) : Held q P (snapCmm s) := held_snapOnce (fun _ h1 => held_takeCmm h1) h

theorem held_takeFbk {s : State} (h : Held q P s) : Held q P (takeFbk s) :=
  held_ev (held_forN h (fun _ _ h1 => held_result (held_resultPair h1)))

theorem held_snapFbk {s : State} (h : Held q P s) : Held q P (snapFbk s) := held_snapOnce (fun _ h1 => held_takeFbk h1) h

theorem held_takeFio {s : State} (h : Held q P s) : Held q P (takeFio s) := held_ev (held_forN h (fun _ _ h1 => held_resultPair h1))

theorem held_snapFio {s : State} (h : Held q P s) : Held q P (snapFio s) := held_snapOnce (fun _ h1 => held_takeFio h1) h

theorem held_takeAll {s : State} (h : Held q P s) : Held q P (takeAll s) :=
  held_ev (held_ev (held_resultPair (held_snapFio (held_snapFbk (held_snapCmm (held_snapTrj h))))))

theorem held_snapAll {s : State} (h : Held q P s) : Held q P (snapAll s) := held_snapOnce (fun _ h1 => held_takeAll h1) h

theorem held_snapCmd {core : Sender} {a : Nat} {v : Word} {f : State → State} {s : State} (hf : ∀ t', Held q P t' → Held q P (f t')) (h :
    Held q P s) : Held q P (snapCmd core a v f s) :=
  held_writeCmd (fun _ h1 => held_ite (hf _ h1) h1) h

/-! ### Machine/Traj.lean -/

theorem held_setTst {i : Nat} {w : Word} {s : State} (h : Held q P s) : Held q P (setTst i w s) := h

theorem held_putRow {r : Nat} {x : TstRow} {s : State} (h : Held q P s) : Held q P (putRow r x s) :=
  held_setTst (held_setTst (held_setTst (held_setTst h)))

theorem held_rampRest {n : Nat} {s : State} (h : Held q P s) : Held q P (rampRest n s) := held_evBit (held_modAxis h)

theorem held_rampAxis {n : Nat} {s : State} (h : Held q P s) : Held q P (rampAxis n s) := by
  unfold rampAxis
  dsimp only
  split
  · exact h
  · exact held_ite (held_rampRest (held_modAxis h)) (held_modAxis h)

theorem held_beginStop {n cause : Nat} {s : State} (h : Held q P s) : Held q P (beginStop n cause s) := by
  unfold beginStop
  dsimp only
  split
  · exact h
  · exact held_ite (held_rampRest (held_modAxis h)) (held_modAxis h)

theorem held_axisEvent {n : Nat} {e : AxisEv} {p : State × Bool} (h : Held q P p.1) : Held q P ((axisEvent n e p).1) := by
  unfold axisEvent
  dsimp only
  split
  · exact held_modAxis h
  · split
    · exact held_beginStop h
    · exact held_ite (held_modAxis h) h
    · exact held_fst_ite (held_modAxis h) h
    · exact h

theorem held_inputStops {n : Nat} {s : State} (h : Held q P s) : Held q P (inputStops n s) := by
  unfold inputStops
  dsimp only
  split
  · exact held_ite (held_beginStop h) (held_ite (held_beginStop (held_ev h)) (held_ite (held_beginStop h) h))
  · exact h

theorem held_modLatch {m : Nat} {f : LatchU → LatchU} {s : State} (h : Held q P s) : Held q P (modLatch m f s) := h

theorem held_homed {n : Nat} {pos : Int} {s : State} (h : Held q P s) : Held q P (homed n pos s) :=
  held_forN (held_modAxis (held_evBit (held_resultPair h))) (fun _ _ h1 => held_ite (held_modDoor h1) h1)

theorem held_homeAborted {n : Nat} {s : State} (h : Held q P s) : Held q P (homeAborted n s) := held_modAxis (held_ev (held_evBit h))

theorem held_homeSpanEnd {n : Nat} {s : State} (h : Held q P s) : Held q P (homeSpanEnd n s) := held_ite (held_modAxis (held_modLatch h)) h

theorem held_homeFailed {n : Nat} {s : State} (h : Held q P s) : Held q P (homeFailed n s) := held_modAxis (held_evBit (held_modLatch h))

theorem held_homeDecide {n : Nat} {s : State} (h : Held q P s) : Held q P (homeDecide n s) :=
  held_ite (by
  split
  · exact held_ite (held_homeAborted h) h
  · exact held_ite (held_homeFailed h) h
  · exact h) h

theorem held_runAxis {n : Nat} {s : State} (h : Held q P s) : Held q P (runAxis n s) := by
  unfold runAxis
  split
  · exact h
  · dsimp only
    split
    · exact held_modAxis (held_ite (held_evBit h) h)
    · exact held_homeSpanEnd (held_evBit (held_modAxis (held_ite (held_evBit h) h)))

theorem held_startQueued {n : Nat} {s : State} (h : Held q P s) : Held q P (startQueued n s) := by
  unfold startQueued
  split
  · exact h
  · exact held_modAxis h

theorem held_seedAxis {n : Nat} {s : State} (h : Held q P s) : Held q P (seedAxis n s) :=
  held_ite (held_modAxis h) (held_ite (by
  split
  · exact held_modAxis h
  · exact h) h)

theorem held_axisActs {n : Nat} {s : State} (h : Held q P s) : Held q P (axisActs n s) :=
  held_inputStops (held_ite (held_startQueued (held_foldl_fst (fun _ _ h1 => held_axisEvent h1) (held_modAxis h))) (held_foldl_fst (fun _ _
      h1 => held_axisEvent h1) (held_modAxis h)))

theorem held_axisMoves {n : Nat} {s : State} (h : Held q P s) : Held q P (axisMoves n s) := by
  unfold axisMoves
  split
  · exact held_rampAxis h
  · exact held_rampAxis h
  · exact held_runAxis h
  · exact h
  · exact h

theorem held_pointTaken {n : Nat} {s : State} (h : Held q P s) : Held q P (pointTaken n s) := held_modAxis h

theorem held_axisStage4 {n : Nat} {s : State} (h : Held q P s) : Held q P (axisStage4 n s) :=
  held_ite (held_pointTaken (held_axisMoves (held_axisActs (held_seedAxis (held_modAxis h))))) (held_pointTaken (held_ite (held_seedAxis
      (held_modAxis (held_modAxis h))) (held_modAxis (held_modAxis h))))

theorem held_cmdOutcome {n code : Nat} {s : State} (h : Held q P s) : Held q P (cmdOutcome n code s) :=
  held_ite (held_ev (held_put (held_put h))) (held_ev (held_put (held_put h)))

theorem held_acceptCmd {n op : Nat} {arg : MoveArg} {s : State} (h : Held q P s) : Held q P (acceptCmd n op arg s) := by
  unfold acceptCmd
  dsimp only
  split
  · exact held_modAxis h
  · split
    · exact h
    · exact held_modAxis h
  · exact held_modAxis (held_modLatch h)
  · exact h

theorem held_trjCmdOp {v : Word} {s : State} (h : Held q P s) : Held q P (trjCmdOp v s) :=
  held_ite (held_cmdOutcome h) (held_ite (held_cmdOutcome h) (held_ite (held_put h) (held_cmdOutcome (held_ite (by
  split
  · exact held_stopAxis h
  · exact held_stopAxis h
  · exact held_modAxis h) h))))

theorem held_trjRow {core : Sender} {op : Nat} {v : Word} {s : State} (h : Held q P s) : Held q P (trjRow core op v s) :=
  held_writeCmd (fun _ h1 => held_ite (held_trjCmdOp h1) h1) h

theorem held_spanCheckDone {s : State} (h : Held q P s) : Held q P (spanCheckDone s) := by
  unfold spanCheckDone
  split
  · exact h
  · exact held_cmdOutcome (held_ite (held_acceptCmd (held_put h)) (held_put h))

theorem held_modeDiscard {s : State} (h : Held q P s) : Held q P (modeDiscard s) :=
  held_forN (by
  split
  · exact h
  · exact held_cmdOutcome (held_put h)) (fun _ _ h1 => held_modAxis h1)

theorem held_tstWrite {a : Nat} {w : Word} {s : State} (h : Held q P s) : Held q P (tstWrite a w s) :=
  held_ite (held_ite (held_ev h) (held_setTst h)) h

theorem held_armLatch {m : Nat} {s : State} (h : Held q P s) : Held q P (armLatch m s) :=
  held_ite (held_ev h) (held_ite (held_modLatch h) (held_modLatch h))

theorem held_disarmLatch {m : Nat} {s : State} (h : Held q P s) : Held q P (disarmLatch m s) := held_modLatch h

theorem held_latCmdOp {v : Word} {s : State} (h : Held q P s) : Held q P (latCmdOp v s) :=
  held_forN h (fun _ _ h1 => held_ite (held_disarmLatch h1) (held_ite (held_armLatch h1) h1))

theorem held_holdoffEnd {m : Nat} {s : State} (h : Held q P s) : Held q P (holdoffEnd m s) := by
  unfold holdoffEnd
  split
  · exact h
  · exact held_ite (held_modLatch h) h

theorem held_latchEdge {i : Nat} {rising : Bool} {t : Nat} {s : State} (h : Held q P s) : Held q P (latchEdge i rising t s) :=
  held_forN h (fun _ _ h1 => held_ite (held_modLatch h1) h1)

theorem held_limitEdge {i t : Nat} {s : State} (h : Held q P s) : Held q P (limitEdge i t s) :=
  held_forN h (fun _ _ h1 => held_ite (held_modAxis h1) h1)

theorem held_latchSample {c t : Nat} {pos : Int} {s : State} (h : Held q P s) : Held q P (latchSample c t pos s) :=
  held_forN h (fun _ _ h1 => held_ite (held_modLatch h1) h1)

theorem held_captureDone {m t : Nat} {s : State} (h : Held q P s) : Held q P (captureDone m t s) :=
  held_forN (held_evBit (held_resultPair (held_resultPair (by
  split
  · exact h
  · exact held_draw h)))) (fun _ _ h1 => held_ite (by
  split
  · exact held_ite (held_homeAborted h1) (held_homed h1)
  · exact held_homed h1) h1)

theorem held_latchStage3 {b : Nat} {s : State} (h : Held q P s) : Held q P (latchStage3 b s) :=
  held_forN h (fun _ _ h1 => held_forL (held_ite h1 (held_modLatch h1)) (fun _ _ h2 => held_captureDone h2))

theorem held_compareArm {core : Sender} {u : Nat} {v : Word} {s : State} (h : Held q P s) : Held q P (compareArm core u v s) :=
  held_ite (held_evBit (held_ite (held_setHold (held_setReg (held_setReg h))) (held_evBit (held_with (held_setHold (held_setReg
      (held_setReg h))))))) (held_clrBit (held_ite (held_setHold (held_setReg (held_setReg h))) (held_evBit (held_with (held_setHold
      (held_setReg (held_setReg h)))))))

theorem held_cmpDisarmOp {v : Word} {s : State} (h : Held q P s) : Held q P (cmpDisarmOp v s) := held_setReg (held_setReg h)

theorem held_startPulse {o ns : Nat} {s : State} (h : Held q P s) : Held q P (startPulse o ns s) := h

theorem held_compareFire {u dir : Nat} {s : State} (h : Held q P s) : Held q P (compareFire u dir s) :=
  held_ite (held_snapAll (held_ite (held_startPulse (held_clrBit (held_clrBit (held_evBit (held_result h))))) (held_clrBit (held_clrBit
      (held_evBit (held_result h)))))) (held_ite (held_startPulse (held_clrBit (held_clrBit (held_evBit (held_result h))))) (held_clrBit
      (held_clrBit (held_evBit (held_result h)))))

theorem held_compareEval {u : Nat} {s : State} (h : Held q P s) : Held q P (compareEval u s) :=
  held_ite (held_ite (held_compareFire h) (held_ite (held_compareFire h) h)) h

theorem held_compareStage {axisSrc : Bool} {s : State} (h : Held q P s) : Held q P (compareStage axisSrc s) :=
  held_forN h (fun _ _ h1 => held_ite (held_compareEval h1) h1)

/-! ### Machine/Fio.lean -/

theorem held_modOut {n : Nat} {f : OutSt → OutSt} {s : State} (h : Held q P s) : Held q P (modOut n f s) := held_modDie h

theorem held_outClrOp {v : Word} {s : State} (h : Held q P s) : Held q P (outClrOp v s) :=
  held_ite (held_ev (held_keepVal h)) (held_with (held_keepVal h))

theorem held_sendFrame {l : Nat} {f : FieldFrame} {s : State} (h : Held q P s) : Held q P (sendFrame l f s) := h

theorem held_dieLatch {g : Nat} {s : State} (h : Held q P s) : Held q P (dieLatch g s) := held_modDie h

theorem held_dieClear {g clr : Nat} {s : State} (h : Held q P s) : Held q P (dieClear g clr s) :=
  held_forN h (fun _ _ h1 => held_ite (held_modOut h1) h1)

theorem held_dieAccept {g : Nat} {f : FieldFrame} {s : State} (h : Held q P s) : Held q P (dieAccept g f s) := held_dieClear (held_modDie h)

theorem held_groupFrameIn {g : Nat} {ok : Bool} {s : State} (h : Held q P s) : Held q P (groupFrameIn g ok s) := by
  unfold groupFrameIn
  split
  · exact h
  · exact held_ite h (held_ite (held_dieAccept h) (held_modDie h))

theorem held_lineFrameIn {l : Nat} {ok : Bool} {s : State} (h : Held q P s) : Held q P (lineFrameIn l ok s) := by
  unfold lineFrameIn
  split
  · exact h
  · exact held_ite h (held_ite (held_modStoLink h) (held_modStoLink h))

theorem held_dieSilence {g : Nat} {s : State} (h : Held q P s) : Held q P (dieSilence g s) := held_ite (held_modDie h) h

theorem held_stoTimeout {l : Nat} {s : State} (h : Held q P s) : Held q P (stoTimeout l s) := held_ite (held_modStoLink h) h

theorem held_inputEdge {i : Nat} {level : Bool} {t : Nat} {s : State} (h : Held q P s) : Held q P (inputEdge i level t s) :=
  held_ite h (held_modDie h)

theorem held_filterAccept {i : Nat} {level : Bool} {t : Nat} {s : State} (h : Held q P s) : Held q P (filterAccept i level t s) :=
  held_ite h (held_modDie (held_inputEdge h))

theorem held_fastCount {f : Nat} {rising : Bool} {s : State} (h : Held q P s) : Held q P (fastCount f rising s) :=
  held_ite (held_modDie h) h

theorem held_fastEdge {f : Nat} {rising : Bool} {t : Nat} {s : State} (h : Held q P s) : Held q P (fastEdge f rising t s) :=
  held_ite h (held_fastCount (held_inputEdge h))

theorem held_showInputs {g v : Nat} {s : State} (h : Held q P s) : Held q P (showInputs g v s) :=
  held_forN h (fun _ _ h1 => held_ite (held_evBit h1) (held_clrBit h1))

theorem held_edgeOp {e : Nat × Bool × Nat} {s : State} (h : Held q P s) : Held q P (edgeOp e s) :=
  held_ite (held_modFreq (held_ite (held_latchEdge h) (held_limitEdge (held_latchEdge h)))) (held_ite (held_latchEdge h) (held_limitEdge
      (held_latchEdge h)))

theorem held_countResult {f : Nat} {s : State} (h : Held q P s) : Held q P (countResult f s) := held_ite h (held_ev (held_resultPair h))

theorem held_supplyShown {g : Nat} {s : State} (h : Held q P s) : Held q P (supplyShown g s) :=
  held_put (held_putB (held_putB (held_putB (held_ite (held_ev (held_ite (held_ev h) h)) (held_ite (held_ev h) h)))))

theorem held_outsShown {g : Nat} {s : State} (h : Held q P s) : Held q P (outsShown g s) :=
  held_forN h (fun _ _ h1 => held_ite (held_evBit (held_setReg h1)) (held_clrBit (held_setReg h1)))

theorem held_groupReply {g rb : Nat} {s : State} (h : Held q P s) : Held q P (groupReply g rb s) :=
  held_modDie (held_outsShown (held_supplyShown (held_setReg (held_ite (held_forN (held_forL (held_showInputs (held_put h)) (fun _ _ h1 =>
      held_edgeOp h1)) (fun _ _ h1 => held_countResult h1)) (held_ev (held_forN (held_forL (held_showInputs (held_put h)) (fun _ _ h1 =>
      held_edgeOp h1)) (fun _ _ h1 => held_countResult h1)))))))

theorem held_groupInputsOff {g : Nat} {s : State} (h : Held q P s) : Held q P (groupInputsOff g s) :=
  held_showInputs (held_forN h (fun _ _ h1 => held_ite (held_limitEdge h1) h1))

theorem held_replyLost {g : Nat} {s : State} (h : Held q P s) : Held q P (replyLost g s) :=
  held_ite (held_ite (held_groupInputsOff (held_ev (held_put (held_incSat h)))) (held_ev (held_put (held_incSat h)))) (held_incSat h)

theorem held_fg4Shown {rb : Nat} {s : State} (h : Held q P s) : Held q P (fg4Shown rb s) := held_setReg (held_supplyShown h)

theorem held_fg4Reply {rb : Nat} {s : State} (h : Held q P s) : Held q P (fg4Reply rb s) :=
  held_fg4Shown (held_ite (held_replyLost h) (held_put h))

theorem held_freqResult {f mhz : Nat} {s : State} (h : Held q P s) : Held q P (freqResult f mhz s) := held_ev (held_result h)

theorem held_freqGate {f : Nat} {s : State} (h : Held q P s) : Held q P (freqGate f s) := by
  unfold freqGate
  dsimp only
  split
  · exact h
  · exact held_ite (held_freqResult (held_modFreq h)) h

theorem held_freqZero {f : Nat} {s : State} (h : Held q P s) : Held q P (freqZero f s) := held_ite (held_freqResult (held_modFreq h)) h

theorem held_pulseEnd {n : Nat} {s : State} (h : Held q P s) : Held q P (pulseEnd n s) := by
  unfold pulseEnd
  split
  · exact held_ite (held_modDie h) h
  · exact h

theorem held_thermalOff {n : Nat} {s : State} (h : Held q P s) : Held q P (thermalOff n s) := held_modDie (held_modOut h)

theorem held_cooled {n : Nat} {s : State} (h : Held q P s) : Held q P (cooled n s) := held_modOut h

theorem held_offPulse {n : Nat} {s : State} (h : Held q P s) : Held q P (offPulse n s) := held_ite (held_modDie h) h

theorem held_lplusMeasure {g v : Nat} {s : State} (h : Held q P s) : Held q P (lplusMeasure g v s) := held_modDie h

theorem held_uvSet {g : Nat} {s : State} (h : Held q P s) : Held q P (uvSet g s) := by
  unfold uvSet
  dsimp only
  split
  · exact h
  · exact held_ite (held_ite (held_forN (held_modDie h) (fun _ _ h1 => held_modOut h1)) (held_modStoLink (held_modStoLink (held_modDie
      h)))) h

theorem held_uvClear {g : Nat} {s : State} (h : Held q P s) : Held q P (uvClear g s) := by
  unfold uvClear
  dsimp only
  split
  · exact h
  · exact held_ite (held_ite (held_forN (held_modDie h) (fun _ _ h1 => held_ite (held_modOut h1) h1)) (held_modDie h)) h

/-! ### Machine/Tide.lean -/

theorem held_tideWrite {a : Nat} {w : Word} {s : State} (h : Held q P s) : Held q P (tideWrite a w s) :=
  held_ite (held_ite (held_ite (held_setCode h) (held_ev h)) (held_ite (held_setData h) (held_ev h))) h

theorem held_setRun {e : Nat} {r : Run} {s : State} (h : Held q P s) : Held q P (setRun e r s) := h

theorem held_dropRun {e : Nat} {s : State} (h : Held q P s) : Held q P (dropRun e s) := h

theorem held_saveCtx {e : Nat} {r : Run} {s : State} (h : Held q P s) : Held q P (saveCtx e r s) :=
  held_setData (held_setData (held_forN (held_forN h (fun _ _ h1 => held_setData h1)) (fun _ _ h1 => held_setData (held_setData h1))))

theorem held_commitOuts {g : Nat} {staged : List (Nat × Word)} {s : State} (h : Held q P s) : Held q P (commitOuts g staged s) :=
  held_forL h (fun _ _ h1 => held_ite (held_setReg h1) h1)

theorem held_hoResult {kind : HoKind} {failed : Bool} {fails b : Nat} {s : State} (h : Held q P s) : Held q P (hoResult kind failed fails b
    s) :=
  held_ev (held_result h)

theorem held_hoFailFlags {s : State} (h : Held q P s) : Held q P (hoFailFlags s) := held_ev (held_ev h)

theorem held_hoFailCar {c : Nat} {s : State} (h : Held q P s) : Held q P (hoFailCar c s) := by
  unfold hoFailCar
  split
  · exact h
  · dsimp only
    split
    · exact held_send (held_stopAxis (held_modCar (held_hoResult (held_hoFailFlags h))))
    · exact held_axisLost (held_modCar (held_modCar (held_hoResult (held_hoFailFlags h))))
    · exact held_stopAxis (held_modCar (held_hoResult (held_hoFailFlags h)))

theorem held_hoFailChan {n : Nat} {s : State} (h : Held q P s) : Held q P (hoFailChan n s) := by
  unfold hoFailChan
  split
  · exact h
  · dsimp only
    split
    · exact held_stopAxis (held_modChan (held_hoResult (held_hoFailFlags h)))
    · exact held_modChan (held_hoResult (held_hoFailFlags h))

theorem held_hoAnnounce {hx : HandOver} {c : Nat} {s : State} (h : Held q P s) : Held q P (hoAnnounce hx c s) := held_ev (held_hoResult h)

theorem held_hoDoneCar {c : Nat} {s : State} (h : Held q P s) : Held q P (hoDoneCar c s) := by
  unfold hoDoneCar
  split
  · exact h
  · exact held_ite (held_modSlot (held_modSlot (held_modCar (held_ite h (held_hoAnnounce h))))) (held_modCar (held_ite h (held_hoAnnounce
      h)))

theorem held_hoDoneChan {n : Nat} {s : State} (h : Held q P s) : Held q P (hoDoneChan n s) := by
  unfold hoDoneChan
  split
  · exact h
  · exact held_modSlot (held_modSlot (held_modChan (held_ev (held_hoResult h))))

theorem held_declareFault {g : Nat} {s : State} (h : Held q P s) : Held q P (declareFault g s) :=
  held_ite (held_stopAxis (held_ite (held_hoFailCar (held_evBit (held_ev h))) (held_evBit (held_ev h)))) (held_evBit (held_ev h))

theorem held_countOverrun {g : Nat} {s : State} (h : Held q P s) : Held q P (countOverrun g s) :=
  held_ite (held_declareFault (held_evBit (held_ev (held_incSat (held_incSat h))))) (held_evBit (held_ev (held_incSat (held_incSat h))))

theorem held_reachedEnd {g : Nat} {s : State} (h : Held q P s) : Held q P (reachedEnd g s) := held_put (held_put h)

theorem held_markRun {g : Nat} {x : RunState} {s : State} (h : Held q P s) : Held q P (markRun g x s) := held_modSlot h

theorem held_trapRun {e : Fin 8} {r : Run} {cause : TrapCause} {s : State} (h : Held q P s) : Held q P (trapRun e r cause s) :=
  held_countOverrun (held_markRun (held_evBit (held_result (held_dropRun h))))

theorem held_stopRun {e : Nat} {r : Run} {s : State} (h : Held q P s) : Held q P (stopRun e r s) :=
  held_ite (held_trapRun h) (held_countOverrun (held_markRun (held_dropRun h)))

theorem held_engHaltOp {v : Word} {s : State} (h : Held q P s) : Held q P (engHaltOp v s) := held_ite h (held_ite (held_ev h) h)

theorem held_haltBoundary {s : State} (h : Held q P s) : Held q P (haltBoundary s) := held_put h

theorem held_slotStart {e : Fin 8} {k : Fin 24} {s : State} (h : Held q P s) : Held q P (slotStart e k s) :=
  held_ite (held_setRun (held_markRun h)) h

/-! ### Machine/Handover.lean -/

theorem held_setHoCar {c : Nat} {hx : HandOver} {s : State} (h : Held q P s) : Held q P (setHoCar c hx s) := held_modCar h

theorem held_setHoChan {n : Nat} {hx : HandOver} {s : State} (h : Held q P s) : Held q P (setHoChan n hx s) := held_modChan h

theorem held_startModeHo {g : Nat} {s : State} (h : Held q P s) : Held q P (startModeHo g s) := by
  unfold startModeHo
  dsimp only
  split
  · exact held_ev h
  · exact held_ite (held_ev h) (held_ite (held_setHoCar h) (held_setHoChan h))

theorem held_permitOwnerHo {g : Nat} {s : State} (h : Held q P s) : Held q P (permitOwnerHo g s) := held_ite (held_modCar h) (held_ev h)

theorem held_hoCmdOp {v : Word} {s : State} (h : Held q P s) : Held q P (hoCmdOp v s) := by
  unfold hoCmdOp
  dsimp only
  split
  · exact held_startModeHo (held_keepVal h)
  · exact held_permitOwnerHo (held_keepVal h)
  · exact held_ev (held_keepVal h)

theorem held_modeHoSplit {c : Nat} {s : State} (h : Held q P s) : Held q P (modeHoSplit c s) := by
  unfold modeHoSplit
  split
  · exact h
  · exact held_ite (held_ite (held_modCar (held_setHoCar h)) (held_ite (held_hoFailCar (held_setHoCar h)) (held_setHoCar h))) h

theorem held_modeHoLatch {n : Nat} {s : State} (h : Held q P s) : Held q P (modeHoLatch n s) := by
  unfold modeHoLatch
  split
  · exact h
  · dsimp only
    split
    · exact held_ite (held_hoDoneChan (held_ite (held_ite (held_modChan (held_setHoChan h)) (held_ite (held_hoFailChan (held_setHoChan h))
        (held_setHoChan h))) h)) (held_ite (held_ite (held_modChan (held_setHoChan h)) (held_ite (held_hoFailChan (held_setHoChan h))
        (held_setHoChan h))) h)
    · exact held_ite (held_ite (held_modChan (held_setHoChan h)) (held_ite (held_hoFailChan (held_setHoChan h)) (held_setHoChan h))) h

theorem held_putCtx {g : Nat} {ws : List Word} {s : State} (h : Held q P s) : Held q P (putCtx g ws s) :=
  held_forN h (fun _ _ h1 => held_setData h1)

theorem held_ownerHoStart {c : Nat} {s : State} (h : Held q P s) : Held q P (ownerHoStart c s) :=
  held_ite (by
  split
  · exact h
  · exact held_ite (held_homeHandedOver (held_setHoCar h)) (held_hoFailFlags (held_modCar h))) h

theorem held_offerSend {c : Nat} {s : State} (h : Held q P s) : Held q P (offerSend c s) := by
  unfold offerSend
  dsimp only
  split
  · exact held_ite (held_send h) h
  · exact h

theorem held_hoOutSend {c : Nat} {s : State} (h : Held q P s) : Held q P (hoOutSend c s) := by
  unfold hoOutSend
  dsimp only
  split
  · exact held_ite (held_send h) h
  · exact h

theorem held_ownerHoCompare {c : Nat} {s : State} (h : Held q P s) : Held q P (ownerHoCompare c s) := by
  unfold ownerHoCompare
  split
  · exact h
  · exact held_ite (by
      dsimp only
      split
      · exact held_ite (held_hoFailCar (held_setHoCar h)) (held_setHoCar h)
      · exact held_ite (held_ite (held_hoAnnounce (held_modCar (held_setHoCar h))) (held_modCar (held_setHoCar h))) (held_ite
          (held_hoFailCar (held_setHoCar h)) (held_setHoCar h))) h

theorem held_hoBoundary {c : Nat} {s : State} (h : Held q P s) : Held q P (hoBoundary c s) := by
  unfold hoBoundary
  split
  · exact h
  · exact held_ite (held_ite (held_axisLost (held_hoDoneCar h)) (held_hoDoneCar h)) h

theorem held_giveBack {c nb : Nat} {s : State} (h : Held q P s) : Held q P (giveBack c nb s) := held_axisLost (held_modCar h)

theorem held_ownerHoTurn {c : Nat} {s : State} (h : Held q P s) : Held q P (ownerHoTurn c s) := by
  unfold ownerHoTurn
  split
  · split
    · exact held_giveBack h
    · exact h
  · exact held_ite (held_hoBoundary (held_modCar h)) (held_ite (held_giveBack (held_hoFailCar h)) h)

theorem held_claimSent {c : Nat} {s : State} (h : Held q P s) : Held q P (claimSent c s) := held_modCar h

theorem held_claimTimeoutOp {c : Nat} {s : State} (h : Held q P s) : Held q P (claimTimeoutOp c s) := by
  unfold claimTimeoutOp
  split
  · exact h
  · exact held_ite (held_hoFailCar h) h

theorem held_faultClrOp {v : Word} {s : State} (h : Held q P s) : Held q P (faultClrOp v s) :=
  held_ite (held_put (held_put (held_keepVal h))) (held_ev (held_keepVal h))

/-! ### Machine/Cmm.lean -/

theorem held_convert {n : Nat} {s : State} (h : Held q P s) : Held q P (convert n s) :=
  held_ite (held_ev (held_evBit (held_ite (held_ev (held_evBit (held_incSat (held_ite (held_ev (held_put (held_put (held_put (held_putB
      (held_putB (held_put (held_put (held_modCmm (held_ite (held_draw h) h)))))))))) (held_put (held_put (held_put (held_putB (held_putB
      (held_put (held_put (held_modCmm (held_ite (held_draw h) h))))))))))))) (held_ite (held_ev (held_put (held_put (held_put (held_putB
      (held_putB (held_put (held_put (held_modCmm (held_ite (held_draw h) h)))))))))) (held_put (held_put (held_put (held_putB (held_putB
      (held_put (held_put (held_modCmm (held_ite (held_draw h) h))))))))))))) (held_ite (held_ev (held_evBit (held_incSat (held_ite
      (held_ev (held_put (held_put (held_put (held_putB (held_putB (held_put (held_put (held_modCmm (held_ite (held_draw h) h))))))))))
      (held_put (held_put (held_put (held_putB (held_putB (held_put (held_put (held_modCmm (held_ite (held_draw h) h))))))))))))) (held_ite
      (held_ev (held_put (held_put (held_put (held_putB (held_putB (held_put (held_put (held_modCmm (held_ite (held_draw h) h))))))))))
      (held_put (held_put (held_put (held_putB (held_putB (held_put (held_put (held_modCmm (held_ite (held_draw h) h)))))))))))

theorem held_convertAll {s : State} (h : Held q P s) : Held q P (convertAll s) := held_forN h (fun _ _ h1 => held_ite (held_convert h1) h1)

theorem held_cmmFresh {n : Nat} {s : State} (h : Held q P s) : Held q P (cmmFresh n s) := held_modCmm h

/-! ### Machine/Slk.lean -/

theorem held_setPortState {p v : Nat} {s : State} (h : Held q P s) : Held q P (setPortState p v s) := held_ite h (held_ev (held_put h))

theorem held_portStart {p : Nat} {s : State} (h : Held q P s) : Held q P (portStart p s) := held_setPortState (held_modPort h)

theorem held_portHeld {p : Nat} {s : State} (h : Held q P s) : Held q P (portHeld p s) := held_forL h (fun _ _ h1 => held_put h1)

theorem held_portStop {p : Nat} {s : State} (h : Held q P s) : Held q P (portStop p s) := held_portHeld (held_setPortState (held_modPort h))

theorem held_portIdleEnd {p : Nat} {s : State} (h : Held q P s) : Held q P (portIdleEnd p s) := by
  unfold portIdleEnd
  split
  · exact h
  · exact held_ite (held_modPort h) h

theorem held_notePool {s : State} (h : Held q P s) : Held q P (notePool s) := h

theorem held_retryHold {n : Nat} {s : State} (h : Held q P s) : Held q P (retryHold n s) := held_ite (held_notePool h) (held_ev h)

theorem held_retryWait {n : Nat} {s : State} (h : Held q P s) : Held q P (retryWait n s) := h

theorem held_retryGrants {s : State} (h : Held q P s) : Held q P (retryGrants s) :=
  held_with (held_forL h (fun _ _ h1 => held_retryHold h1))

theorem held_retryDone {n : Nat} {s : State} (h : Held q P s) : Held q P (retryDone n s) := h

theorem held_captureOp {n : Nat} {tx : Bool} {s : State} (h : Held q P s) : Held q P (captureOp n tx s) :=
  held_ite (held_notePool h) (held_ev h)

theorem held_captureRelease {s : State} (h : Held q P s) : Held q P (captureRelease s) := h

theorem held_slkCapOp {v : Word} {s : State} (h : Held q P s) : Held q P (slkCapOp v s) := by
  unfold slkCapOp
  split
  · exact held_captureOp h
  · exact held_captureOp h
  · exact held_captureRelease h
  · exact h

theorem held_slkCapRow {core : Sender} {op : Nat} {v : Word} {s : State} (h : Held q P s) : Held q P (slkCapRow core op v s) :=
  held_writeCmd (fun _ h1 => held_ite (held_slkCapOp h1) h1) h

theorem held_portBoundary {stoA stoB : Nat → Bool} {p : Nat} {s : State} (h : Held q P s) : Held q P (portBoundary stoA stoB p s) :=
  held_ite (held_modPort (held_with (held_forL (held_forL h (fun _ _ h1 => held_modChan (held_ite h1 (held_put h1)))) (fun _ _ h1 =>
      held_modSlkCh h1)))) (held_modPort (held_with (held_forL h (fun _ _ h1 => held_modChan (held_ite h1 (held_put h1))))))

theorem held_slkBoundary {stoA stoB : Nat → Bool} {s : State} (h : Held q P s) : Held q P (slkBoundary stoA stoB s) :=
  held_forN h (fun _ _ h1 => held_portBoundary h1)

theorem held_periodLost {n : Nat} {s : State} (h : Held q P s) : Held q P (periodLost n s) :=
  held_ite (held_ev (held_evBit (held_ev (held_put h)))) (held_put h)

theorem held_slotLost {n : Nat} {s : State} (h : Held q P s) : Held q P (slotLost n s) :=
  held_periodLost (held_ev (held_incSat (held_putB h)))

theorem held_slotAccept {n : Nat} {b : List Byte} {s : State} (h : Held q P s) : Held q P (slotAccept n b s) :=
  held_ite (held_put (held_put (held_putB (held_modSlkCh (held_modChan h))))) (held_periodLost (held_incSat (held_put (held_putB
      (held_modSlkCh (held_modChan h))))))

theorem held_slotReturn {n : Nat} {b : List Byte} {s : State} (h : Held q P s) : Held q P (slotReturn n b s) :=
  held_ite (held_slotAccept h) (held_slotLost (held_retryWait h))

theorem held_frameLost {header : Bool} {p : Nat} {s : State} (h : Held q P s) : Held q P (frameLost header p s) :=
  held_setPortState (held_incSat (held_forL h (fun _ _ h1 => held_slotLost h1)))

theorem held_portDone {p : Nat} {s : State} (h : Held q P s) : Held q P (portDone p s) := held_modPort h

theorem held_frameReturn {p : Nat} {f : RetFrame} {s : State} (h : Held q P s) : Held q P (frameReturn p f s) :=
  held_ite (held_portDone (held_ite (held_setPortState (held_forL h (fun _ _ h1 => held_slotReturn h1))) (held_frameLost h))) h

theorem held_frameDeadline {p : Nat} {s : State} (h : Held q P s) : Held q P (frameDeadline p s) :=
  held_ite (held_portDone (held_frameLost h)) h

theorem held_nodeClrOp {v : Word} {s : State} (h : Held q P s) : Held q P (nodeClrOp v s) :=
  held_ite (held_ev (held_keepVal h)) (held_put (held_keepVal h))

/-! ### Machine/Fbk.lean -/

theorem held_idxResult {n : Nat} {v : Int} {s : State} (h : Held q P s) : Held q P (idxResult n v s) :=
  held_ev (held_evBit (held_resultPair h))

theorem held_dirResult {n : Nat} {s : State} (h : Held q P s) : Held q P (dirResult n s) := held_ev (held_evBit h)

theorem held_perEdge {n t : Nat} {c : Int} {down : Bool} {s : State} (h : Held q P s) : Held q P (perEdge n t c down s) :=
  held_ite (held_dirResult (held_modFb h)) (held_ite (held_modFb h) (held_modFb h))

theorem held_perRestart {n t : Nat} {s : State} (h : Held q P s) : Held q P (perRestart n t s) := held_modFb h

theorem held_perZero {n t : Nat} {s : State} (h : Held q P s) : Held q P (perZero n t s) := held_ite (held_modFb h) h

theorem held_speedZero {n : Nat} {s : State} (h : Held q P s) : Held q P (speedZero n s) :=
  held_ite (held_ite (held_put (held_setReg (held_modFb h))) (held_modFb h)) h

theorem held_report {n t : Nat} {pos : Int} {s : State} (h : Held q P s) : Held q P (report n t pos s) :=
  held_putB (held_putB (held_putB (held_setReg (held_setReg (held_setPairS (held_modFb (held_perZero h)))))))

theorem held_sigfRaise {n : Nat} {s : State} (h : Held q P s) : Held q P (sigfRaise n s) := held_ev (held_evBit (held_put h))

theorem held_linkPair {n k : Nat} {qx : State × List (Nat × Int × Bool)} (h : Held q P qx.1) : Held q P ((linkPair n k qx).1) :=
  held_ite (held_ev (by
  split
  · exact held_idxResult (held_modFb h)
  · exact held_modFb h)) (by
  split
  · exact held_idxResult (held_modFb h)
  · exact held_modFb h)

theorem held_linkTrack {n b sel : Nat} {heldx seeded : Bool} {old : Int} {s : State} (h : Held q P s) : Held q P (linkTrack n b sel heldx
    seeded old s) :=
  held_ite (held_perRestart (held_modFb h)) (held_ite (held_modFb h) (held_ite (held_perRestart (held_modFb h)) (held_ite (held_perRestart
      (held_modFb h)) (held_ite (held_modFb h) (held_perEdge (held_modFb h))))))

theorem held_linkStage {b n : Nat} {s : State} (h : Held q P s) : Held q P (linkStage b n s) :=
  held_ite (held_latchSample (held_ite (held_putB (held_putB (held_putB (held_put (held_putB (held_putB (held_putB (held_putB (held_put
      (held_fst_ite (held_forL h (fun _ _ h1 => held_modFb h1)) (held_foldl_fst (fun _ _ h1 => held_linkPair h1) h)))))))))))
      (held_sigfRaise (held_putB (held_putB (held_putB (held_put (held_putB (held_putB (held_putB (held_putB (held_put (held_fst_ite
      (held_forL h (fun _ _ h1 => held_modFb h1)) (held_foldl_fst (fun _ _ h1 => held_linkPair h1) h)))))))))))))) (held_latchSample
      (held_putB (held_report (held_modFb (held_linkTrack (held_put (held_putB (held_putB (held_putB (held_put (held_putB (held_putB
      (held_putB (held_putB (held_put (held_fst_ite (held_forL h (fun _ _ h1 => held_modFb h1)) (held_foldl_fst (fun _ _ h1 =>
      held_linkPair h1) h)))))))))))))))))

theorem held_fbOff {n : Nat} {s : State} (h : Held q P s) : Held q P (fbOff n s) := held_modFb h

theorem held_standAnalog {s : State} (h : Held q P s) : Held q P (standAnalog s) := held_forN h (fun _ _ h1 => held_ite (held_modFb h1) h1)

theorem held_privStage {b n : Nat} {s : State} (h : Held q P s) : Held q P (privStage b n s) :=
  held_ite (held_ite (held_latchSample (held_put (held_putB (held_putB (held_putB (held_put h)))))) (held_put (held_putB (held_putB
      (held_putB (held_put h)))))) (held_ite (held_latchSample (held_putB (held_report (held_ite (held_perRestart (held_modFb (held_put
      (held_putB (held_putB (held_putB (held_put h))))))) (held_modFb (held_put (held_putB (held_putB (held_putB (held_put h))))))))))
      (held_putB (held_report (held_ite (held_perRestart (held_modFb (held_put (held_putB (held_putB (held_putB (held_put h)))))))
      (held_modFb (held_put (held_putB (held_putB (held_putB (held_put h))))))))))

theorem held_analogSample {a : Nat} {sn cs : Int} {ref : Bool} {s : State} (h : Held q P s) : Held q P (analogSample a sn cs ref s) :=
  held_ite (held_ite (held_idxResult (held_ite (held_ite (held_sigfRaise (held_putB (held_modFb h))) (held_putB (held_modFb h)))
      (held_perEdge (held_ite (held_sigfRaise (held_putB (held_modFb h))) (held_putB (held_modFb h)))))) (held_ite (held_ite
      (held_sigfRaise (held_putB (held_modFb h))) (held_putB (held_modFb h))) (held_perEdge (held_ite (held_sigfRaise (held_putB
      (held_modFb h))) (held_putB (held_modFb h)))))) h

theorem held_carTakes {c : Nat} {pos vel acc : Int} {s : State} (h : Held q P s) : Held q P (carTakes c pos vel acc s) := held_modCar h

theorem held_carHolds {c : Nat} {s : State} (h : Held q P s) : Held q P (carHolds c s) := held_modCar h

theorem held_carSense {c : Nat} {s : State} (h : Held q P s) : Held q P (carSense c s) :=
  held_ite (held_ite (held_carTakes h) (held_carHolds h)) (held_ite (held_carHolds (held_forL h (fun _ _ h1 => held_put h1)))
      (held_carTakes (held_forL h (fun _ _ h1 => held_put h1))))

theorem held_movedTaken {n : Nat} {s : State} (h : Held q P s) : Held q P (movedTaken n s) := held_modFb h

theorem held_emuStage {e : Nat} {s : State} (h : Held q P s) : Held q P (emuStage e s) :=
  held_ite (held_ite (held_ev (held_put (held_put (held_put (held_modEmu (held_ite (held_put (held_modEmu h)) (held_ite (held_modEmu h)
      (held_modEmu h)))))))) (held_put (held_putB (held_modEmu (held_ite (held_put (held_modEmu h)) (held_ite (held_modEmu h) (held_modEmu
      h))))))) (held_setReg (held_modEmu h))

theorem held_heatTaken {n : Nat} {s : State} (h : Held q P s) : Held q P (heatTaken n s) := held_modChan h

theorem held_stage3 {s : State} (h : Held q P s) : Held q P (stage3 s) :=
  held_compareStage (held_forN (held_forN (held_latchStage3 (held_ite (held_forL (held_forN (held_forN (held_forN h (fun _ _ h1 =>
      held_heatTaken h1)) (fun _ _ h1 => held_ite (held_linkStage h1) (held_fbOff h1))) (fun _ _ h1 => held_ite (held_privStage h1)
      (held_fbOff h1))) (fun _ _ h1 => held_carSense h1)) (held_forN (held_forN (held_forN h (fun _ _ h1 => held_heatTaken h1)) (fun _ _ h1
      => held_ite (held_linkStage h1) (held_fbOff h1))) (fun _ _ h1 => held_ite (held_privStage h1) (held_fbOff h1))))) (fun _ _ h1 =>
      held_emuStage h1)) (fun _ _ h1 => held_movedTaken h1))

theorem held_fbkReject {s : State} (h : Held q P s) : Held q P (fbkReject s) := held_ev h

theorem held_armOnce {n pair : Nat} {s : State} (h : Held q P s) : Held q P (armOnce n pair s) := by
  unfold armOnce
  split
  · exact held_fbkReject h
  · exact held_forL h (fun _ _ h1 => held_modFb h1)

theorem held_doorUnref {n : Nat} {s : State} (h : Held q P s) : Held q P (doorUnref n s) :=
  held_forN h (fun _ _ h1 => held_ite (held_modDoor h1) h1)

theorem held_clearSigf {n pair : Nat} {s : State} (h : Held q P s) : Held q P (clearSigf n pair s) := by
  unfold clearSigf
  split
  · exact held_fbkReject h
  · exact held_ite (held_fbkReject h) (held_ite (held_doorUnref (held_perRestart (held_put (held_forL h (fun _ _ h1 => held_modFb h1)))))
      (held_perRestart (held_put (held_forL h (fun _ _ h1 => held_modFb h1)))))

theorem held_fbkCmdRow {core : Sender} {op : Nat} {v : Word} {act : Nat → Nat → State → State} {s : State} (hact : ∀ a0 a1 t', Held q P t'
    → Held q P (act a0 a1 t')) (h : Held q P s) : Held q P (fbkCmdRow core op v act s) :=
  held_writeCmd (fun _ h1 => held_ite (hact _ _ _ h1) h1) h

/-! ### Machine/Serial.lean -/

theorem held_setSerState {p v : Nat} {s : State} (h : Held q P s) : Held q P (setSerState p v s) := held_ite h (held_ev (held_put h))

theorem held_kspSend {p cmd arg : Nat} {s : State} (h : Held q P s) : Held q P (kspSend p cmd arg s) := held_modSer h

theorem held_negotiate {p : Nat} {s : State} (h : Held q P s) : Held q P (negotiate p s) :=
  held_ite (held_setSerState (held_modSer (held_put h))) (held_setSerState (held_modSer (held_put h)))

theorem held_negoRetry {p c : Nat} {s : State} (h : Held q P s) : Held q P (negoRetry p c s) := held_modSer (held_put h)

theorem held_serOff {p : Nat} {s : State} (h : Held q P s) : Held q P (serOff p s) := held_setSerState (held_modSer (held_put h))

theorem held_serFault {p : Nat} {s : State} (h : Held q P s) : Held q P (serFault p s) :=
  held_ite (held_setSerState (held_put (held_modSer h))) (held_sigfRaise (held_modFb (held_setSerState (held_put (held_modSer h)))))

theorem held_serLost {p : Nat} {s : State} (h : Held q P s) : Held q P (serLost p s) :=
  held_ite (held_ite (held_serFault (held_modFb (held_incSat h))) (held_modFb (held_incSat h))) (held_incSat h)

theorem held_serSample {p word t : Nat} {s : State} (h : Held q P s) : Held q P (serSample p word t s) :=
  held_ite h (held_latchSample (held_ite (held_perEdge (held_modFb h)) (held_modFb h)))

theorem held_kspWarn {p : Nat} {r : KspResp} {s : State} (h : Held q P s) : Held q P (kspWarn p r s) := held_ite (held_putB h) h

theorem held_identTaken {p : Nat} {r : KspResp} {s : State} (h : Held q P s) : Held q P (identTaken p r s) :=
  held_ite (held_serFault (held_put (held_modSer (held_setPair h)))) (held_put (held_modSer (held_setPair h)))

theorem held_noSensor {p : Nat} {s : State} (h : Held q P s) : Held q P (noSensor p s) :=
  held_ite (held_setSerState (held_modSer h)) (held_ite (held_setSerState (held_modSer h)) (held_sigfRaise (held_modFb (held_setSerState
      (held_modSer h)))))

theorem held_identDone {p tries : Nat} {r : KspResp} {s : State} (h : Held q P s) : Held q P (identDone p tries r s) :=
  held_ite (held_ite (held_identTaken h) (held_ite (held_negoRetry (held_identTaken h)) (held_kspSend (held_modSer (held_identTaken h)))))
      (held_ite (held_modSer (held_incSat h)) (held_noSensor (held_incSat h)))

theorem held_rateDone {p : Nat} {r : KspResp} {s : State} (h : Held q P s) : Held q P (rateDone p r s) :=
  held_ite (held_kspSend (held_put (held_modSer h))) (held_negoRetry (held_incSat h))

theorem held_verifyDone {p good : Nat} {r : KspResp} {s : State} (h : Held q P s) : Held q P (verifyDone p good r s) :=
  held_ite (held_ite (held_identTaken h) (held_ite (held_negoRetry (held_identTaken h)) (held_ite (held_modSer (held_identTaken h))
      (held_setSerState (held_modSer (held_identTaken h)))))) (held_negoRetry (held_incSat h))

theorem held_posDone {p : Nat} {r : KspResp} {s : State} (h : Held q P s) : Held q P (posDone p r s) :=
  held_ite (held_serSample (held_modSer h)) (held_serLost (held_modSer h))

theorem held_kspDone {p : Nat} {r : KspResp} {s : State} (h : Held q P s) : Held q P (kspDone p r s) :=
  held_ite (by
  dsimp only
  split
  · exact held_identDone (held_kspWarn (held_modSer h))
  · exact held_rateDone (held_kspWarn (held_modSer h))
  · exact held_verifyDone (held_kspWarn (held_modSer h))
  · exact held_posDone (held_kspWarn (held_modSer h))) h

theorem held_kspHoldExpiry {p : Nat} {s : State} (h : Held q P s) : Held q P (kspHoldExpiry p s) := by
  unfold kspHoldExpiry
  split
  · exact held_ite (held_kspSend (held_modSer h)) h
  · exact h

theorem held_kspPauseExpiry {p : Nat} {s : State} (h : Held q P s) : Held q P (kspPauseExpiry p s) := by
  unfold kspPauseExpiry
  split
  · exact held_ite (held_negotiate h) h
  · exact h

theorem held_renegotiate {n _pair : Nat} {s : State} (h : Held q P s) : Held q P (renegotiate n _pair s) :=
  held_ite (held_ite (held_negotiate h) h) (held_fbkReject h)

theorem held_fbkCmdOp {v : Word} {s : State} (h : Held q P s) : Held q P (fbkCmdOp v s) := by
  unfold fbkCmdOp
  dsimp only
  split
  · exact held_armOnce h
  · exact held_clearSigf h
  · exact held_renegotiate h
  · exact held_fbkReject h

theorem held_ssiDone {p : Nat} {r : SsiResp} {s : State} (h : Held q P s) : Held q P (ssiDone p r s) :=
  held_ite (held_ite (held_serSample (held_modSer h)) (held_serLost (held_modSer h))) h

theorem held_serBoundary {p : Nat} {s : State} (h : Held q P s) : Held q P (serBoundary p s) :=
  held_ite (held_ite (held_ite (held_kspSend (held_modSer (held_ite (held_negotiate h) h))) (held_modSer (held_ite (held_negotiate h) h)))
      (held_ite (held_negotiate h) h)) (held_ite h (held_serOff h))

/-! ### Machine/Split.lean -/

theorem held_giveShare {n c ov : Nat} {sh : Int} {s : State} (h : Held q P s) : Held q P (giveShare n c ov sh s) := held_modChan h

theorem held_noShare {n : Nat} {s : State} (h : Held q P s) : Held q P (noShare n s) := held_modChan h

theorem held_sendShares {c : Nat} {shares : List (SegX × Int)} {s : State} (h : Held q P s) : Held q P (sendShares c shares s) :=
  held_forL h (fun _ _ h1 => held_ite (held_claimSent (held_send h1)) (held_ite h1 (held_send h1)))

theorem held_splitOwned {c : Nat} {s : State} (h : Held q P s) : Held q P (splitOwned c s) := by
  unfold splitOwned
  split
  · exact held_ite (held_hoDoneCar (held_hoOutSend (held_offerSend (held_sendShares (held_forL (held_ite (held_modCar h) (held_ev
      (held_modCar h))) (fun _ _ h1 => held_giveShare h1)))))) (held_modeHoSplit (held_hoOutSend (held_offerSend (held_sendShares
      (held_forL (held_ite (held_modCar h) (held_ev (held_modCar h))) (fun _ _ h1 => held_giveShare h1))))))

theorem held_placeDue {x : SegX} {c : Nat} {sh : Int} {s : State} (h : Held q P s) : Held q P (placeDue x c sh s) :=
  held_ite (held_noShare h) (held_giveShare h)

theorem held_splitDue {x : SegX} {s : State} (h : Held q P s) : Held q P (splitDue x s) := by
  unfold splitDue
  split
  · exact held_modChan h
  · split
    · exact held_placeDue (held_modChan h)
    · exact held_modChan (held_placeDue (held_modChan h))

theorem held_shareMissedOp {seg : Nat} {s : State} (h : Held q P s) : Held q P (shareMissedOp seg s) := by
  unfold shareMissedOp
  split
  · exact h
  · split
    · exact h
    · exact held_ite (held_ev (held_incSat (held_modChan h))) h

theorem held_segstatSend {c : Nat} {s : State} (h : Held q P s) : Held q P (segstatSend c s) := held_ite h (held_send h)

theorem held_segstatOp {src : Nat} {p : SegstatPl} {s : State} (h : Held q P s) : Held q P (segstatOp src p s) := by
  unfold segstatOp
  split
  · exact h
  · exact held_modCar h

theorem held_keepShare {src car stamp : Nat} {e : ShareEntry} {s : State} (h : Held q P s) : Held q P (keepShare src car stamp e s) := by
  unfold keepShare
  split
  · exact h
  · exact held_modChan h

theorem held_shareOp {src : Nat} {p : SharePl} {s : State} (h : Held q P s) : Held q P (shareOp src p s) := by
  unfold shareOp
  split
  · exact held_ite h (held_modCar (held_forL h (fun _ _ h1 => held_keepShare h1)))
  · exact held_forL h (fun _ _ h1 => held_keepShare h1)

/-! ### Machine/Tim.lean -/

theorem held_slowTick {s : State} (h : Held q P s) : Held q P (slowTick s) := h

theorem held_wipeChunk {w : WipeMarker} {s : State} (h : Held q P s) : Held q P (wipeChunk w s) := held_withNv (held_mramZero h)

theorem held_wipeTick {s : State} (h : Held q P s) : Held q P (wipeTick s) := by
  unfold wipeTick
  split
  · exact held_ite (held_wipeChunk h) h
  · exact h

theorem held_clearChunk {s : State} (h : Held q P s) : Held q P (clearChunk s) := held_with (held_mramZero h)

theorem held_clearTick {s : State} (h : Held q P s) : Held q P (clearTick s) := held_ite (held_clearChunk h) h

theorem held_idleTick {s : State} (h : Held q P s) : Held q P (idleTick s) :=
  held_ite (held_clockTick (held_slowTick (held_clearTick (held_wipeTick h)))) (held_withTb (held_slowTick (held_clearTick (held_wipeTick
      h))))

theorem held_armNext {s : State} (h : Held q P s) : Held q P (armNext s) := h

theorem held_clockAdd {off : Int} {s : State} (h : Held q P s) : Held q P (clockAdd off s) :=
  held_ite (held_clockMove h) (held_armNext (held_clockMove h))

theorem held_addendOp {v : Word} {s : State} (h : Held q P s) : Held q P (addendOp v s) := held_ite (held_setReg h) (held_ev h)

theorem held_stepOp {off : Int} {s : State} (h : Held q P s) : Held q P (stepOp off s) := held_ite (held_clockAdd h) (held_ev h)

theorem held_clockStepOp {core : Sender} {v : Word} {s : State} (h : Held q P s) : Held q P (clockStepOp core v s) :=
  held_stepOp (held_setHold h)

theorem held_setSyncOp {s : State} (h : Held q P s) : Held q P (setSyncOp s) := held_ite (held_put h) (held_ev (held_put (held_put h)))

theorem held_clearSyncOp {s : State} (h : Held q P s) : Held q P (clearSyncOp s) := held_ite (held_ev (held_put (held_put h))) h

theorem held_timCmdOp {v : Word} {s : State} (h : Held q P s) : Held q P (timCmdOp v s) :=
  held_ite (by
  split
  · exact held_setSyncOp h
  · exact held_clearSyncOp h
  · exact h) h

theorem held_modPtpPort {p : Nat} {f : PtpPort → PtpPort} {s : State} (h : Held q P s) : Held q P (modPort p f s) := h

theorem held_forgetAnn {p : Nat} {s : State} (h : Held q P s) : Held q P (forgetAnn p s) := held_modPtpPort h

theorem held_syncTimeout {s : State} (h : Held q P s) : Held q P (syncTimeout s) := held_ite (held_clearSyncOp (held_forgetAnn h)) h

theorem held_offsetSeen {off : Int} {s : State} (h : Held q P s) : Held q P (offsetSeen off s) :=
  held_ite (held_clearSyncOp (held_withTb (held_setReg h))) (held_ite (held_ite (held_setSyncOp (held_withTb (held_setReg h))) (held_withTb
      (held_setReg h))) (held_withTb (held_setReg h)))

theorem held_follow {off : Int} {s : State} (h : Held q P s) : Held q P (follow off s) :=
  held_ite (held_clockAdd (held_draw h)) (held_setReg (held_draw h))

theorem held_syncOffset {p rx : Nat} {origin : PtpTime} {corr : Int} {s : State} (h : Held q P s) : Held q P (syncOffset p rx origin corr
    s) :=
  held_ite (held_follow (held_offsetSeen h)) h

theorem held_ptpEventOp {p : Nat} {stamp : PtpTime} {m : PtpEvent} {s : State} (h : Held q P s) : Held q P (ptpEventOp p stamp m s) :=
  held_ite (by
  split
  · split
    · exact held_syncOffset h
    · exact held_modPtpPort h
  · exact h
  · exact held_modPtpPort h) h

theorem held_bmca {s : State} (h : Held q P s) : Held q P (bmca s) := by
  unfold bmca
  split
  · exact held_put h
  · exact held_setSyncOp (held_put h)
  · exact held_put (held_put h)
  · exact held_ite (held_put (held_put h)) (held_setSyncOp (held_put h))

theorem held_selectAlone {s : State} (h : Held q P s) : Held q P (selectAlone s) := held_ite (held_bmca h) h

theorem held_ptpGeneralOp {p : Nat} {m : PtpGeneral} {s : State} (h : Held q P s) : Held q P (ptpGeneralOp p m s) :=
  held_ite (by
  split
  · dsimp only
    split
    · exact held_ite (held_syncOffset (held_modPtpPort h)) h
    · exact h
  · dsimp only
    split
    · exact held_modPtpPort h
    · exact h
  · exact held_bmca (held_modPtpPort h)) h

theorem held_setTxq {p : Nat} {qx : List TxStamp} {s : State} (h : Held q P s) : Held q P (setTxq p qx s) := h

theorem held_txStampOp {p msgType seqId : Nat} {stamp : PtpTime} {s : State} (h : Held q P s) : Held q P (txStampOp p msgType seqId stamp
    s) :=
  held_ite (held_ite (held_ite (held_setTxq h) (held_ev (held_incSat h))) (held_ite (held_modPtpPort h) h)) h

theorem held_txqPopOp {p : Nat} {v : Word} {s : State} (h : Held q P s) : Held q P (txqPopOp p v s) := held_ite (held_setTxq h) h

theorem held_latchSec {lo : Nat} {core : Sender} {sec : Nat} {s : State} (h : Held q P s) : Held q P (latchSec lo core sec s) :=
  held_setShadow (held_setShadow h)

theorem held_txqNsOp {core : Sender} {p : Nat} {s : State} (h : Held q P s) : Held q P (txqNsOp core p s) := by
  unfold txqNsOp
  split
  · exact held_setRdata (held_latchSec h)
  · exact held_setRdata (held_latchSec h)

theorem held_nowNsOp {core : Sender} {s : State} (h : Held q P s) : Held q P (nowNsOp core s) := held_setRdata (held_latchSec h)

theorem held_snapArmOp {v : Word} {s : State} (h : Held q P s) : Held q P (snapArmOp v s) :=
  held_ite (held_ev (held_put (held_storeReg h))) (held_storeReg h)

theorem held_snapFire {s : State} (h : Held q P s) : Held q P (snapFire s) := held_ite (held_snapAll (held_put h)) h

theorem held_holdoverWrite {s : State} (h : Held q P s) : Held q P (holdoverWrite s) := h

/-! ### Machine/ModeCore.lean -/

theorem held_doorsHalt {s : State} (h : Held q P s) : Held q P (doorsHalt s) := held_forL h (fun _ _ h1 => held_modDoor h1)

theorem held_doorsModeStop {s : State} (h : Held q P s) : Held q P (doorsModeStop s) := held_forL h (fun _ _ h1 => held_modDoor h1)

theorem held_pathsBlind {s : State} (h : Held q P s) : Held q P (pathsBlind s) := h

theorem held_servoStop {s : State} (h : Held q P s) : Held q P (servoStop s) :=
  held_withTide (held_pathsBlind (held_forN (held_forN (held_forN (held_forN h (fun _ _ h1 => held_portStop h1)) (fun _ _ h1 => held_serOff
      h1)) (fun _ _ h1 => held_fbOff h1)) (fun _ _ h1 => held_modChan h1)))

theorem held_portsOn {s : State} (h : Held q P s) : Held q P (portsOn s) := held_forN h (fun _ _ h1 => held_ite (held_portStart h1) h1)

theorem held_servoStart {s : State} (h : Held q P s) : Held q P (servoStart s) :=
  held_forN (held_forL h (fun _ _ h1 => held_markRun h1)) (fun _ _ h1 => held_modAxis h1)

theorem held_cachesFollow {m : Mode} {s : State} (h : Held q P s) : Held q P (cachesFollow m s) := held_ite h h

theorem held_powerUp {s : State} (h : Held q P s) : Held q P (powerUp s) :=
  held_armNext (held_with (held_ite (held_clockFromZero h) (held_clockFromHoldover h)))

theorem held_refuseNote {code : Nat} {s : State} (h : Held q P s) : Held q P (refuseNote code s) := held_ev h

theorem held_refuseReq {code : Nat} {s : State} (h : Held q P s) : Held q P (refuseReq code s) := held_refuseNote h

theorem held_motionEnter {m : Mode} {s : State} (h : Held q P s) : Held q P (motionEnter m s) := by
  unfold motionEnter
  split
  · exact held_doorsHalt (held_modeDiscard h)
  · exact held_doorsHalt (held_modeDiscard h)
  · exact held_doorsHalt (held_modeDiscard h)
  · exact held_doorsModeStop h
  · exact held_forN h (fun _ _ h1 => held_ite (held_stopAxis h1) h1)
  · exact held_forN h (fun _ _ h1 => held_ite (held_stopAxis h1) h1)
  · exact h

theorem held_leaveCommissioning {s : State} (h : Held q P s) : Held q P (leaveCommissioning s) :=
  held_ite (held_put h) (held_setReg (held_put (held_with (held_put h))))

theorem held_domainEnter {on : Bool} {prev m : Mode} {s : State} (h : Held q P s) : Held q P (domainEnter on prev m s) :=
  held_ite (held_ite h (held_servoStart h)) (held_ite (held_servoStop h) h)

theorem held_modeReport {prev m : Mode} {trig : Nat} {s : State} (h : Held q P s) : Held q P (modeReport prev m trig s) :=
  held_record (held_ite (held_ev (held_ev h)) (held_ev h))

theorem held_enterMode {m : Mode} {trig : Nat} {s : State} (h : Held q P s) : Held q P (enterMode m trig s) :=
  held_ite (held_powerDown (held_domainEnter (held_cachesFollow (held_modeReport (held_motionEnter (held_ite (held_leaveCommissioning
      (held_ite (held_powerUp h) h)) (held_ite (held_powerUp h) h))))))) (held_announceAll (held_domainEnter (held_cachesFollow
      (held_modeReport (held_motionEnter (held_ite (held_leaveCommissioning (held_ite (held_powerUp h) h)) (held_ite (held_powerUp h)
      h)))))))

/-! ### Machine/SafCore.lean -/

theorem held_reqDrop {s : State} (h : Held q P s) : Held q P (reqDrop s) := by
  unfold reqDrop
  split
  · exact held_refuseReq h
  · exact h

theorem held_linesOff {s : State} (h : Held q P s) : Held q P (linesOff s) := h

theorem held_lockoutEnter {trig : Nat} {s0 : State} (h : Held q P s0) : Held q P (lockoutEnter trig s0) :=
  held_linesOff (held_enterMode (held_recordSafety (held_ev (held_withNv (held_reqDrop h)))))

theorem held_resetRefused {code : Nat} {s : State} (h : Held q P s) : Held q P (resetRefused code s) :=
  held_recordSafety (held_ev (held_put h))

theorem held_noteTrip {cls : Nat} {s : State} (h : Held q P s) : Held q P (noteTrip cls s) := held_ite h h

theorem held_firstFault {path cls det : Nat} {s : State} (h : Held q P s) : Held q P (firstFault path cls det s) :=
  held_with (held_ev (held_result h))

theorem held_safFault {path cls det : Nat} {s : State} (h : Held q P s) : Held q P (safFault path cls det s) :=
  held_ite (held_ite (held_ite (held_resetRefused (held_withNv (held_recordSafety (held_ite (held_noteTrip h) (held_firstFault
      (held_noteTrip h)))))) (held_recordSafety (held_ite (held_noteTrip h) (held_firstFault (held_noteTrip h))))) (held_lockoutEnter
      (held_ite (held_noteTrip h) (held_firstFault (held_noteTrip h))))) h

theorem held_carFault {path cls det : Nat} {ids : List Nat} {s : State} (h : Held q P s) : Held q P (carFault path cls det ids s) :=
  held_with (held_safFault h)

theorem held_pathFault {core ecl : Bool} {cls det : Nat} {s : State} (h : Held q P s) : Held q P (pathFault core ecl cls det s) :=
  held_ite (held_safFault h) (held_ite (held_safFault h) (held_ite (held_safFault h) h))

theorem held_modTap {path g : Nat} {f : Tap → Tap} {s : State} (h : Held q P s) : Held q P (modTap path g f s) := h

theorem held_modPairSt {path j : Nat} {f : PairSt → PairSt} {s : State} (h : Held q P s) : Held q P (modPairSt path j f s) := h

theorem held_modNode {path port node : Nat} {f : IlkNode → IlkNode} {s : State} (h : Held q P s) : Held q P (modNode path port node f s) :=
  h

theorem held_coreSeed {c : Nat} {pos vel : Int} {s : State} (h : Held q P s) : Held q P (coreSeed c pos vel s) := h

theorem held_safRefresh {s : State} (h : Held q P s) : Held q P (safRefresh s) := held_ite (held_ite (held_ev (held_put h)) (held_put h)) h

theorem held_noteSto {s : State} (h : Held q P s) : Held q P (noteSto s) := held_forN h (fun _ _ h1 => held_setReg h1)

/-! ### Machine/SafField.lean -/

theorem held_lineCommands {s : State} (h : Held q P s) : Held q P (lineCommands s) :=
  held_with (held_forN h (fun _ _ h1 => held_ite (held_ite h1 h1) h1))

theorem held_noteCommands {s : State} (h : Held q P s) : Held q P (noteCommands s) := h

theorem held_tapsTick {s : State} (h : Held q P s) : Held q P (tapsTick s) :=
  held_forN h (fun _ _ h1 => held_forN h1 (fun _ _ h2 => held_modTap h2))

theorem held_fieldRefresh {s : State} (h : Held q P s) : Held q P (fieldRefresh s) :=
  held_ite (held_with (held_sendFrame (held_ite (held_forN (held_lineCommands (held_tapsTick (held_noteCommands (held_forN h (fun _ _ h1 =>
      held_dieLatch h1))))) (fun _ _ h1 => held_sendFrame h1)) (held_sendFrame (held_forN (held_lineCommands (held_tapsTick
      (held_noteCommands (held_forN h (fun _ _ h1 => held_dieLatch h1))))) (fun _ _ h1 => held_sendFrame h1)))))) h

theorem held_tapFresh {path g c rb : Nat} {s : State} (h : Held q P s) : Held q P (tapFresh path g c rb s) := held_modTap h

theorem held_tapReply {path g : Nat} {r : Option Nat} {rb : Nat} {s : State} (h : Held q P s) : Held q P ((tapReply path g r rb s).1) := by
  unfold tapReply
  dsimp only
  split
  · exact held_fst_ite (held_tapFresh h) (held_modTap h)
  · exact held_modTap h

theorem held_safTaps {g : Nat} {core ecl : Option Nat} {rb : Nat} {s : State} (h : Held q P s) : Held q P (safTaps g core ecl rb s) :=
  held_pathFault (held_tapReply (held_fst_ite h (held_tapReply h)))

theorem held_outFault {n code partner : Nat} {s : State} (h : Held q P s) : Held q P (outFault n code partner s) :=
  held_safFault (held_ev (held_modOut h))

theorem held_outCheck {n rb : Nat} {s : State} (h : Held q P s) : Held q P (outCheck n rb s) :=
  held_ite (held_ite (held_outFault h) (held_ite (held_outFault h) (held_ite (held_safFault h) h))) h

theorem held_outSampled {g rb : Nat} {s : State} (h : Held q P s) : Held q P (outSampled g rb s) := held_modDie h

theorem held_uvLock {g : Nat} {was : Bool} {s : State} (h : Held q P s) : Held q P (uvLock g was s) := held_ite (held_safFault h) h

theorem held_offPulseEnd {n rb : Nat} {s : State} (h : Held q P s) : Held q P (offPulseEnd n rb s) :=
  held_ite (held_ite (held_ite (held_outFault (held_forN (held_modDie h) (fun _ _ h1 => held_ite (held_outFault (held_outFault h1)) h1)))
      (held_forN (held_modDie h) (fun _ _ h1 => held_ite (held_outFault (held_outFault h1)) h1))) (held_modDie h)) h

theorem held_lineCheck {path rb p : Nat} {s : State} (h : Held q P s) : Held q P (lineCheck path rb p s) :=
  held_ite (held_ite (held_safFault h) h) h

theorem held_nodeLineCheck {path p : Nat} {s : State} (h : Held q P s) : Held q P (nodeLineCheck path p s) := by
  unfold nodeLineCheck
  split
  · exact held_ite (held_safFault h) h
  · exact h

theorem held_lineChecks {rb : Nat} {s : State} (h : Held q P s) : Held q P (lineChecks rb s) :=
  held_forN h (fun _ _ h1 => held_nodeLineCheck (held_lineCheck (held_ite h1 (held_nodeLineCheck (held_lineCheck h1)))))

theorem held_stobEnergise {p : Nat} {s : State} (h : Held q P s) : Held q P (stobEnergise p s) := by
  unfold stobEnergise
  split
  · exact h
  · exact held_ite (held_ite (held_safFault h) h) h

theorem held_pairsFollow {s : State} (h : Held q P s) : Held q P (pairsFollow s) :=
  held_forL h (fun _ _ h1 => held_forN h1 (fun _ _ h2 => held_modPairSt h2))

theorem held_discrepancyPair {qx : SafetyPair × Nat} {s : State} (h : Held q P s) : Held q P (discrepancyPair qx s) :=
  held_pathFault (held_ite (held_ev (held_modPairSt (held_ite (held_modPairSt h) h))) (held_modPairSt (held_ite (held_modPairSt h) h)))

theorem held_discrepancyNode {qx : Nat × Nat} {s : State} (h : Held q P s) : Held q P (discrepancyNode qx s) :=
  held_pathFault (held_ite (held_ev (held_modNode (held_ite (held_modNode h) h))) (held_modNode (held_ite (held_modNode h) h)))

theorem held_discrepancyTick {s : State} (h : Held q P s) : Held q P (discrepancyTick s) :=
  held_ite (held_safRefresh (held_forL (held_forL h (fun _ _ h1 => held_discrepancyPair h1)) (fun _ _ h1 => held_discrepancyNode h1))) h

theorem held_brakeTrack {path b : Nat} {s : State} (h : Held q P s) : Held q P (brakeTrack path b s) := by
  unfold brakeTrack
  split
  · exact h
  · exact held_ite h (held_ite h h)

theorem held_brakesTrack {s : State} (h : Held q P s) : Held q P (brakesTrack s) :=
  held_forN h (fun _ _ h1 => held_forN h1 (fun _ _ h2 => held_brakeTrack h2))

theorem held_brakeTimeout {b : Nat} {s : State} (h : Held q P s) : Held q P (brakeTimeout b s) := by
  unfold brakeTimeout
  split
  · exact held_ite (held_safRefresh (held_pathFault h)) h
  · exact h

theorem held_rstRose {t : Nat} {s : State} (h : Held q P s) : Held q P (rstRose t s) := h

theorem held_rstFell {t : Nat} {s : State} (h : Held q P s) : Held q P (rstFell t s) := by
  unfold rstFell
  split
  · exact h
  · exact h

theorem held_rstEdges {a b : Nat} {l : List (Nat × Bool × Nat)} {va vb : Bool} {s : State} (h : Held q P s) :
    Held q P (rstEdges a b l va vb s) := by
  induction l generalizing va vb s with
  | nil => exact h
  | cons e l ih => exact ih (held_ite (held_rstRose h) (held_ite (held_rstFell h) h))

theorem held_rstReply {edges : List (Nat × Bool × Nat)} {s : State} (h : Held q P s) : Held q P (rstReply edges s) := by
  unfold rstReply
  split
  · exact held_rstEdges h
  · exact h

theorem held_rstLevel {s : State} (h : Held q P s) : Held q P (rstLevel s) := by
  unfold rstLevel
  split
  · exact held_ite h h
  · exact h

theorem held_keyCfLevel {s : State} (h : Held q P s) : Held q P (keyCfLevel s) := by
  unfold keyCfLevel
  split
  · exact held_ite h h
  · exact h

theorem held_fioReply {g : Nat} {c : Option Nat} {rb : Nat} {s : State} (h : Held q P s) : Held q P (fioReply g c rb s) := by
  unfold fioReply
  split
  · exact held_ite (held_groupReply h) (held_replyLost h)
  · exact held_replyLost h

theorem held_fioReply4 {c : Option Nat} {rb : Nat} {s : State} (h : Held q P s) : Held q P (fioReply4 c rb s) := by
  unfold fioReply4
  split
  · exact held_ite (held_fg4Reply h) (held_replyLost h)
  · exact held_replyLost h

theorem held_safGroup {g : Nat} {r : ReplyIn} {edges : List (Nat × Bool × Nat)} {s : State} (h : Held q P s) : Held q P (safGroup g r edges
    s) :=
  held_keyCfLevel (held_rstLevel (held_brakesTrack (held_pairsFollow (held_outSampled (held_uvLock (held_forN (held_safTaps (held_ite
      (held_rstReply h) h)) (fun _ _ h1 => held_outCheck h1)))))))

theorem held_fieldReply {g : Nat} {r : ReplyIn} {s : State} (h : Held q P s) : Held q P (fieldReply g r s) :=
  held_ite (held_ite (held_safRefresh (held_fioReply (held_safGroup h))) (held_safRefresh (held_fioReply4 (held_lineChecks (held_safTaps
      h))))) h

theorem held_replyMissing {g : Nat} {core ecl : Option Nat} {s : State} (h : Held q P s) : Held q P (replyMissing g core ecl s) :=
  held_ite (held_safRefresh (held_replyLost (held_safTaps h))) h

/-! ### Machine/FabCore.lean -/

theorem held_noteEpoch {id e : Nat} {s : State} (h : Held q P s) : Held q P (noteEpoch id e s) := by
  unfold noteEpoch
  split
  · exact held_ite h h
  · exact h

theorem held_resetUndone {s : State} (h : Held q P s) : Held q P (resetUndone s) := held_ite h h

theorem held_fence {newer src : Nat} {s : State} (h : Held q P s) : Held q P (fence newer src s) :=
  held_ite h (held_ite (held_resetUndone (held_record (held_ev h))) (held_lockoutEnter (held_record (held_ev h))))

theorem held_discardFrame {s : State} (h : Held q P s) : Held q P (discardFrame s) := held_incSat h

theorem held_sendStale {hx : Hdr} {force : Nat} {s : State} (h : Held q P s) : Held q P (sendStale hx force s) :=
  held_ite (held_sendPort h) h

theorem held_noteOwn {id epoch : Nat} {s : State} (h : Held q P s) : Held q P (noteOwn id epoch s) := held_ite h h

theorem held_noteSeen {id : Nat} {s : State} (h : Held q P s) : Held q P (noteSeen id s) := held_forN h (fun _ _ h1 => held_ite h1 h1)

theorem held_frameAccepted {hx : Hdr} {s : State} (h : Held q P s) : Held q P (frameAccepted hx s) :=
  held_ite (held_fence (held_noteSeen (held_noteEpoch h))) (held_noteSeen (held_noteEpoch h))

theorem held_accept {type : Nat} {hx : Hdr} {s : State} (h : Held q P s) : Held q P ((accept type hx s).1) :=
  held_fst_ite (held_fst_ite (held_sendStale (held_discardFrame (held_noteOwn h))) (held_fst_ite (held_discardFrame (held_noteOwn h))
      (held_frameAccepted (held_noteOwn h)))) h

theorem held_hopExpired {s : State} (h : Held q P s) : Held q P (hopExpired s) := held_incSat h

theorem held_forward {type : Nat} {hx : Hdr} {b : FrameBody} {s : State} (h : Held q P s) : Held q P (forward type hx b s) :=
  held_ite h (held_ite (held_ite (held_ite (held_hopExpired h) (held_forN h (fun _ _ h1 => held_ite h1 (held_emit h1)))) h) (held_ite h (by
  split
  · exact held_noRoute h
  · exact held_ite (held_noRoute h) (held_ite (held_hopExpired h) (held_emit h)))))

theorem held_receive {type : Nat} {hx : Hdr} {b : FrameBody} {act : State → State} {s : State} (hact : ∀ t', Held q P t' → Held q P (act
    t')) (h : Held q P s) : Held q P (receive type hx b act s) :=
  held_ite (held_ite (hact _ (held_forward (held_accept h))) (held_forward (held_accept h))) (held_accept h)

theorem held_fencedAll {s : State} (h : Held q P s) : Held q P (fencedAll s) := held_forN h (fun _ _ h1 => held_ite (held_sendPort h1) h1)

theorem held_heartbeatSend {s : State} (h : Held q P s) : Held q P (heartbeatSend s) := held_sendGroup h

theorem held_ptpSecond {s : State} (h : Held q P s) : Held q P (ptpSecond s) :=
  held_ite (held_selectAlone (held_holdoverWrite (held_ite (held_fencedAll h) (held_announceAll h)))) h

theorem held_settlingEnd {s : State} (h : Held q P s) : Held q P (settlingEnd s) := by
  unfold settlingEnd
  split
  · exact held_ite h h
  · exact h

theorem held_toApp {src : Nat} {payload : List Byte} {s : State} (h : Held q P s) : Held q P (toApp src payload s) := h

theorem held_staleOp {hx : Hdr} {p : StalePl} {s : State} (h : Held q P s) : Held q P (staleOp hx p s) :=
  held_ite (held_fence (held_noteOwn h)) (held_noteOwn h)

/-! ### Machine/Bss.lean -/

theorem held_whenBss {f : State → State} {s : State} (hf : ∀ t', Held q P t' → Held q P (f t')) (h : Held q P s) : Held q P (whenBss f s) :=
  held_ite (hf _ h) h

theorem held_modBss {c : Nat} {f : BssCar → BssCar} {s : State} (h : Held q P s) : Held q P (modBss c f s) := h

theorem held_idleRestart {s : State} (h : Held q P s) : Held q P (idleRestart s) := h

theorem held_mapRes {f : ResEntry → ResEntry} {s : State} (h : Held q P s) : Held q P (mapRes f s) := h

theorem held_keepRes {p : ResEntry → Bool} {s : State} (h : Held q P s) : Held q P (keepRes p s) := h

theorem held_addRes {e : ResEntry} {s : State} (h : Held q P s) : Held q P (addRes e s) := h

theorem held_sendTrim {e : ResEntry} {lo hi : Int} {t : Nat} {s : State} (h : Held q P s) : Held q P (sendTrim e lo hi t s) :=
  held_forL h (fun _ _ h1 => held_send h1)

theorem held_ensureEntry {t c : Nat} {s : State} (h : Held q P s) : Held q P (ensureEntry t c s) := by
  unfold ensureEntry
  dsimp only
  split
  · exact h
  · exact held_sendTrim (held_addRes h)

theorem held_applyTrims {t : Nat} {s : State} (h : Held q P s) : Held q P (applyTrims t s) := held_mapRes h

theorem held_trimCar {t c : Nat} {s : State} (h : Held q P s) : Held q P (trimCar t c s) := by
  unfold trimCar
  dsimp only
  split
  · exact h
  · split
    · exact h
    · exact held_sendTrim (held_mapRes h)

theorem held_arrive {c : Nat} {e0 : StopEntry} {s : State} (h : Held q P s) : Held q P (arrive c e0 s) :=
  held_ev (held_ev (held_result (held_modBss h)))

theorem held_bssArrivals {s : State} (h : Held q P s) : Held q P (bssArrivals s) :=
  held_forL h (fun _ _ h1 => by
  split
  · exact held_ite (by
      split
      · exact held_arrive h1
      · exact held_modBss h1) h1
  · exact h1)

theorem held_stopOutcome {c code : Nat} {s : State} (h : Held q P s) : Held q P (stopOutcome c code s) :=
  held_ite (held_put (held_put h)) (held_ev (held_put (held_put h)))

theorem held_stopAdd {c : Nat} {e : StopEntry} {s : State} (h : Held q P s) : Held q P (stopAdd c e s) :=
  held_ite (held_arrive (held_modBss h)) (held_modBss h)

theorem held_stopRemove {c : Nat} {e : StopEntry} {s : State} (h : Held q P s) : Held q P (stopRemove c e s) := held_modBss h

theorem held_stopClear {c : Nat} {s : State} (h : Held q P s) : Held q P (stopClear c s) := held_stopOutcome (held_modBss h)

theorem held_stopCmdOp {v : Word} {s : State} (h : Held q P s) : Held q P (stopCmdOp v s) := by
  unfold stopCmdOp
  dsimp only
  split
  · exact held_stopOutcome h
  · split
    · exact held_stopOutcome (held_stopAdd h)
    · exact held_stopOutcome (held_stopRemove h)
    · exact held_stopClear h
    · exact held_stopOutcome (held_modBss h)

theorem held_stopRow {core : Sender} {op : Nat} {v : Word} {s : State} (h : Held q P s) : Held q P (stopRow core op v s) :=
  held_writeCmd (fun _ h1 => held_ite (held_stopCmdOp h1) h1) h

theorem held_thermalSeg {x : SegX} {s : State} (h : Held q P s) : Held q P (thermalSeg x s) := h

theorem held_thermalStart {s : State} (h : Held q P s) : Held q P (thermalStart s) := held_forL h (fun _ _ h1 => h1)

theorem held_powerSample {s : State} (h : Held q P s) : Held q P (powerSample s) := held_ite h h

theorem held_bucketUpdate {s : State} (h : Held q P s) : Held q P (bucketUpdate s) := h

theorem held_putRows {r : Nat} {l : List TstRow} {s : State} (h : Held q P s) : Held q P (putRows r l s) := by
  induction l generalizing r s with
  | nil => exact h
  | cons x t ih => exact ih (held_putRow h)

theorem held_lastResult {c out reason : Nat} {e : StopEntry} {s : State} (h : Held q P s) : Held q P (lastResult c out reason e s) :=
  held_ev (held_result h)

theorem held_deferCar {c reason : Nat} {s : State} (h : Held q P s) : Held q P (deferCar c reason s) := held_ev (held_modBss h)

theorem held_refuseCar {c reason : Nat} {e : StopEntry} {s : State} (h : Held q P s) : Held q P (refuseCar c reason e s) :=
  held_ev (held_lastResult (held_modBss h))

theorem held_admitCar {t : Nat} {x : Cand} {s : State} (h : Held q P s) : Held q P (admitCar t x s) :=
  held_ev (held_lastResult (held_modBss (held_addRes (held_keepRes h))))

theorem held_askDev {t : Nat} {x : Cand} {start : Int} {rows : List TstRow} {s : State} {id : Nat} (h : Held q P s) : Held q P (askDev t x
    start rows s id) :=
  held_send (held_ite h (held_modBss (held_send h)))

theorem held_tryCand {t c : Nat} {w : Want} {others : List StopEntry} {s : State} (h : Held q P s) : Held q P (tryCand t c w others s) :=
  held_ite (held_arrive h) (by
  dsimp only
  split
  · exact held_refuseCar (held_putRows h)
  · exact held_deferCar (held_putRows h)
  · exact held_ite (held_admitCar (held_with (held_putRows h))) (held_idleRestart (held_foldl (fun _ _ h1 => held_askDev h1) (held_addRes
      (held_with (held_with (held_putRows h)))))))

theorem held_tryWants {t c : Nat} {l : List Want} {s : State} (h : Held q P s) : Held q P (tryWants t c l s) := by
  induction l generalizing s with
  | nil => exact h
  | cons w rest ih => exact held_ite (ih (held_tryCand h)) (held_tryCand h)

theorem held_evalCar {t c : Nat} {s : State} (h : Held q P s) : Held q P (evalCar t c s) :=
  held_ite h (held_ite (held_stopAxis (held_modBss h)) (held_tryWants (held_modBss h)))

theorem held_evalCars {t : Nat} {l : List Nat} {s : State} (h : Held q P s) : Held q P (evalCars t l s) := by
  induction l generalizing s with
  | nil => exact h
  | cons c rest ih => exact held_ite (held_with (held_evalCar h)) (ih (held_evalCar h))

theorem held_concludeCand {s : State} (h : Held q P s) : Held q P (concludeCand s) := by
  unfold concludeCand
  split
  · exact held_ite (held_ite (held_with (held_tryWants (held_ite (held_admitCar (held_keepRes h)) (held_ite (held_refuseCar (held_forL
      (held_keepRes h) (fun _ _ h1 => held_send h1))) (held_deferCar (held_forL (held_keepRes h) (fun _ _ h1 => held_send h1)))))))
      (held_evalCars (held_tryWants (held_ite (held_admitCar (held_keepRes h)) (held_ite (held_refuseCar (held_forL (held_keepRes h) (fun _
      _ h1 => held_send h1))) (held_deferCar (held_forL (held_keepRes h) (fun _ _ h1 => held_send h1)))))))) (held_evalCars (held_ite
      (held_admitCar (held_keepRes h)) (held_ite (held_refuseCar (held_forL (held_keepRes h) (fun _ _ h1 => held_send h1))) (held_deferCar
      (held_forL (held_keepRes h) (fun _ _ h1 => held_send h1))))))
  · exact h

theorem held_endCand {reason : Nat} {s : State} (h : Held q P s) : Held q P (endCand reason s) := by
  unfold endCand
  split
  · exact h
  · exact held_concludeCand h

theorem held_candDrop {s : State} (h : Held q P s) : Held q P (candDrop s) := by
  unfold candDrop
  split
  · exact h
  · exact held_modBss (held_forL (held_keepRes h) (fun _ _ h1 => held_send h1))

theorem held_schedDrop {s : State} (h : Held q P s) : Held q P (schedDrop s) :=
  held_forN h (fun _ _ h1 => held_ite (held_modBss (held_modAxis h1)) h1)

theorem held_dropEval {s : State} (h : Held q P s) : Held q P (dropEval s) := by
  unfold dropEval
  split
  · exact held_endCand h
  · exact h

theorem held_evaluate {t : Nat} {s : State} (h : Held q P s) : Held q P (evaluate t s) :=
  held_ite (held_evalCars (held_forL (held_forL (held_applyTrims (held_bucketUpdate (held_dropEval h))) (fun _ _ h1 => held_ensureEntry
      h1)) (fun _ _ h1 => held_trimCar h1))) (held_forL (held_forL (held_applyTrims (held_bucketUpdate (held_dropEval h))) (fun _ _ h1 =>
      held_ensureEntry h1)) (fun _ _ h1 => held_trimCar h1))

theorem held_answerTimeout {s : State} (h : Held q P s) : Held q P (answerTimeout s) := by
  unfold answerTimeout
  split
  · exact held_ite (held_ite (held_endCand h) (held_candDrop h)) h
  · exact h

theorem held_bssStart {s : State} (h : Held q P s) : Held q P (bssStart s) :=
  held_forL h (fun _ _ h1 => by
  split
  · exact h1
  · exact held_ite (held_cmdOutcome (held_ite (held_acceptCmd (held_modBss h1)) (held_modBss h1))) h1)

theorem held_newCar {c : Nat} {r : CarRec} {s : State} (h : Held q P s) : Held q P (newCar c r s) :=
  held_coreSeed (held_idleRestart (held_modBss (held_modCar (held_modAxis h))))

theorem held_takeCar {p : ResReqPl} {owner : Nat} {s : State} (h : Held q P s) : Held q P (takeCar p owner s) := by
  unfold takeCar
  split
  · exact held_ite h (held_modCar h)
  · split
    · exact h
    · exact held_newCar h

theorem held_grantRes {src : Nat} {p : ResReqPl} {draw : List ℚ} {s : State} (h : Held q P s) : Held q P (grantRes src p draw s) :=
  held_ev (held_putRows (held_addRes (held_takeCar (held_keepRes h))))

theorem held_withRest {l : List Nat} {s : State} (h : Held q P s) : Held q P (withRest l s) := h

theorem held_resReqOp {src : Nat} {p : ResReqPl} {s : State} (h : Held q P s) : Held q P (resReqOp src p s) :=
  held_ite (by
  dsimp only
  split
  · exact held_ite (held_evalCars (held_send (held_ite (held_grantRes (held_ite (held_endCand (held_withRest (held_idleRestart h)))
      (held_idleRestart h))) (held_ite (held_endCand (held_withRest (held_idleRestart h))) (held_idleRestart h))))) (held_send (held_ite
      (held_grantRes (held_ite (held_endCand (held_withRest (held_idleRestart h))) (held_idleRestart h))) (held_ite (held_endCand
      (held_withRest (held_idleRestart h))) (held_idleRestart h))))
  · exact held_send (held_ite (held_grantRes (held_ite (held_endCand (held_withRest (held_idleRestart h))) (held_idleRestart h))) (held_ite
      (held_endCand (held_withRest (held_idleRestart h))) (held_idleRestart h)))) h

theorem held_resAnsOp {src : Nat} {p : ResAnsPl} {s : State} (h : Held q P s) : Held q P (resAnsOp src p s) := by
  unfold resAnsOp
  split
  · exact held_ite (held_ite (held_ite (held_send h) h) (held_ite (held_concludeCand h) h)) (held_ite (held_send h) h)
  · exact held_ite (held_send h) h

theorem held_resRelOp {src : Nat} {p : ResRelPl} {s : State} (h : Held q P s) : Held q P (resRelOp src p s) := held_keepRes h

theorem held_resTrimOp {src : Nat} {p : ResTrimPl} {s : State} (h : Held q P s) : Held q P (resTrimOp src p s) := by
  unfold resTrimOp
  split
  · exact h
  · exact held_ite (held_addRes h) h

theorem held_stopqOp {p : StopqPl} {s : State} (h : Held q P s) : Held q P (stopqOp p s) := by
  unfold stopqOp
  split
  · exact held_modBss h
  · exact h

theorem held_claimEntry {c : Nat} {mine : Bool} {other : Nat} {s : State} (h : Held q P s) : Held q P (claimEntry c mine other s) :=
  held_mapRes h

theorem held_sendStopq {c dst : Nat} {s : State} (h : Held q P s) : Held q P (sendStopq c dst s) := held_modBss (held_send h)

theorem held_heldRelease {id : Nat} {s : State} (h : Held q P s) : Held q P (heldRelease id s) := by
  unfold heldRelease
  split
  · split
    · exact held_ite (held_keepRes h) h
    · exact h
  · exact h

theorem held_clearQueues {s : State} (h : Held q P s) : Held q P (clearQueues s) := held_forL h (fun _ _ h1 => held_modBss h1)

theorem held_rescueLeft {s : State} (h : Held q P s) : Held q P (rescueLeft s) := held_forN h (fun _ _ h1 => held_modBss h1)

theorem held_sectionClosed {id : Nat} {s : State} (h : Held q P s) : Held q P (sectionClosed id s) := by
  unfold sectionClosed
  dsimp only
  split
  · exact held_ite (held_endCand (held_forL h (fun _ _ h1 => held_ite (held_stopAxis h1) h1))) (held_forL h (fun _ _ h1 => held_ite
      (held_stopAxis h1) h1))
  · exact held_forL h (fun _ _ h1 => held_ite (held_stopAxis h1) h1)

theorem held_closeOwn {s : State} (h : Held q P s) : Held q P (closeOwn s) :=
  held_schedDrop (held_clearQueues (held_candDrop (held_forL (held_ev (held_announceAll h)) (fun _ _ h1 => held_ite (held_stopAxis h1)
      h1))))

theorem held_sparesCheck {s : State} (h : Held q P s) : Held q P (sparesCheck s) := held_ite (held_ite h (held_closeOwn h)) h

theorem held_releaseRecords {s : State} (h : Held q P s) : Held q P (releaseRecords s) :=
  held_ite (held_forL h (fun _ _ h1 => held_ite h1 (held_modCar (held_keepRes h1)))) h

theorem held_seenCar {id : Nat} {pos vel : Int} {owner : Nat} {s : State} (h : Held q P s) : Held q P (seenCar id pos vel owner s) := by
  unfold seenCar
  split
  · exact held_ite h (held_modCar h)
  · dsimp only
    split
    · exact held_ite (held_newCar (held_draw h)) h
    · exact h

/-! ### Machine/Jtag.lean -/

theorem held_tapSet {ir dr : Nat} {s : State} (h : Held q P s) : Held q P (tapSet ir dr s) := h

theorem held_tapToBypass {s : State} (h : Held q P s) : Held q P (tapToBypass s) := held_tapSet h

theorem held_tapChain {ir : Nat} {lands pattern : BitVec 91} {s : State} (h : Held q P s) : Held q P (tapChain ir lands pattern s) :=
  held_ite (held_tapToBypass h) (held_with (held_tapSet h))

/-! ### Machine/SafTel.lean -/

theorem held_telDiscard {s : State} (h : Held q P s) : Held q P (telDiscard s) := held_incSat h

theorem held_rocheCheck {s : State} (h : Held q P s) : Held q P (rocheCheck s) := by
  unfold rocheCheck
  split
  · exact held_carFault h
  · exact h

theorem held_silentCheck {s : State} (h : Held q P s) : Held q P (silentCheck s) :=
  held_forL h (fun _ _ h1 => by
  split
  · exact held_carFault h1
  · exact h1)

theorem held_takeCarState {b : List Byte} {s : State} (h : Held q P s) : Held q P (takeCarState b s) := h

theorem held_takeSecState {b : List Byte} {s : State} (h : Held q P s) : Held q P (takeSecState b s) := h

theorem held_coreHeard {e : SecEntry} {s : State} (h : Held q P s) : Held q P (coreHeard e s) := by
  unfold coreHeard
  split
  · exact held_ite h (held_coreSeed h)
  · exact h

theorem held_takeSeen {b : List Byte} {s : State} (h : Held q P s) : Held q P (takeSeen b s) :=
  held_ite (held_forL h (fun _ _ h1 => held_coreHeard (held_seenCar h1))) h

theorem held_takePermit {b : List Byte} {s : State} (h : Held q P s) : Held q P (takePermit b s) := held_ite (held_with h) h

theorem held_telOp {kind : Nat} {b : List Byte} {s : State} (h : Held q P s) : Held q P (telOp kind b s) :=
  held_ite h (held_ite (held_safRefresh (by
  split
  · exact held_takeCarState h
  · exact held_rocheCheck (held_takeSeen (held_takeSecState h))
  · exact held_takePermit h)) (held_telDiscard h))

theorem held_ilkTake {path port : Nat} {b : List Byte} {s : State} (h : Held q P s) : Held q P (ilkTake path port b s) :=
  held_ite (held_modNode h) (held_ite (held_telDiscard h) h)

theorem held_ilkOp {port : Nat} {b : List Byte} {s : State} (h : Held q P s) : Held q P (ilkOp port b s) :=
  held_ite (held_safRefresh (held_ilkTake (held_ite h (held_ilkTake h)))) h

theorem held_wdCount {s : State} (h : Held q P s) : Held q P (wdCount s) := held_incSat h

theorem held_wdExpire {kind src : Nat} {s : State} (h : Held q P s) : Held q P (wdExpire kind src s) := by
  unfold wdExpire
  dsimp only
  split
  · exact held_ite (held_safRefresh (held_wdCount h)) h
  · exact held_ite (held_safRefresh (held_silentCheck (held_wdCount h))) h
  · exact held_ite (held_safRefresh (held_wdCount h)) h
  · exact held_ite (held_safRefresh (held_wdCount (held_forN h (fun _ _ h1 => held_ite (held_modNode h1) h1)))) h

theorem held_bumpSeq {kind : Nat} {s : State} (h : Held q P s) : Held q P (bumpSeq kind s) := h

theorem held_sendTel {kind dst : Nat} {body : List Byte} {s : State} (h : Held q P s) : Held q P (sendTel kind dst body s) :=
  held_send (held_bumpSeq h)

theorem held_sendPermit {e : Nat × Grant} {s : State} (h : Held q P s) : Held q P (sendPermit e s) :=
  held_ite (held_forL h (fun _ _ h1 => held_sendTel h1)) (held_with (held_forL h (fun _ _ h1 => held_sendTel h1)))

theorem held_sendTelegrams {s : State} (h : Held q P s) : Held q P (sendTelegrams s) :=
  held_ite (held_ite (held_forL h (fun _ _ h1 => held_sendTel h1)) (held_ite (held_forL (held_forL h (fun _ _ h1 => held_sendTel h1)) (fun
      _ _ h1 => held_sendPermit h1)) h)) h

theorem held_tapeTake {word t : Nat} {s : State} (h : Held q P s) : Held q P (tapeTake word t s) :=
  held_safRefresh (held_pathFault (held_pathFault h))

theorem held_tapeSeen {p : Nat} {good : Bool} {word t : Nat} {s : State} (h : Held q P s) : Held q P (tapeSeen p good word t s) :=
  held_ite (held_ite (held_tapeTake h) (held_safRefresh h)) h

/-! ### Machine/SafLink.lean -/

theorem held_eclTake {n : Nat} {s : State} (h : Held q P s) : Held q P (eclTake n s) := h

theorem held_eclChecks {s : State} (h : Held q P s) : Held q P (eclChecks s) :=
  held_ite (by
  dsimp only
  split
  · exact held_carFault (by
      split
      · exact held_carFault h
      · exact h)
  · split
    · exact held_carFault h
    · exact h) h

theorem held_nodeLines {p : Nat} {s : State} (h : Held q P s) : Held q P (nodeLines p s) :=
  held_forN h (fun _ _ h1 => held_ite (held_ite h1 h1) h1)

theorem held_corePairTake {x : SegX} {k : Nat} {s : State} (h : Held q P s) : Held q P (corePairTake x k s) := h

theorem held_corePairsTake {s : State} (h : Held q P s) : Held q P (corePairsTake s) :=
  held_forL h (fun _ _ h1 => held_forL h1 (fun _ _ h2 => held_corePairTake h2))

theorem held_coreTake {c : Nat} {s : State} (h : Held q P s) : Held q P (coreTake c s) := h

theorem held_coreCar {c : Nat} {s : State} (h : Held q P s) : Held q P (coreCar c s) :=
  held_ite (held_carFault (held_ite (held_carFault (held_ite (held_carFault h) h)) (held_ite (held_carFault h) h))) (held_ite
      (held_carFault (held_ite (held_carFault h) h)) (held_ite (held_carFault h) h))

theorem held_grantCar {c : Nat} {s : State} (h : Held q P s) : Held q P (grantCar c s) := by
  unfold grantCar
  dsimp only
  split
  · exact held_ite h h
  · exact h
  · exact held_ite h h
  · exact h

theorem held_coreChecks {s : State} (h : Held q P s) : Held q P (coreChecks s) :=
  held_ite (held_forL (held_silentCheck (held_rocheCheck (held_forL (held_forL (held_corePairsTake h) (fun _ _ h1 => held_coreTake h1))
      (fun _ _ h1 => held_coreCar h1)))) (fun _ _ h1 => held_grantCar h1)) h

theorem held_linkTaps {p : Nat} {s : State} (h : Held q P s) : Held q P (linkTaps p s) :=
  held_ite (held_safRefresh (held_coreChecks (held_eclChecks (held_sparesCheck (held_nodeLines (held_forL h (fun _ _ h1 => held_eclTake
      h1))))))) (held_sparesCheck (held_nodeLines (held_forL h (fun _ _ h1 => held_eclTake h1))))

/-! ### Machine/FabLinks.lean -/

theorem held_modSpine {p : Nat} {f : SpinePort → SpinePort} {s : State} (h : Held q P s) : Held q P (modSpine p f s) := h

theorem held_spineEnable {p : Nat} {s : State} (h : Held q P s) : Held q P (spineEnable p s) :=
  held_ite (held_ite (held_put h) h) (held_put (held_put h))

theorem held_linkUp {p m sqi : Nat} {s : State} (h : Held q P s) : Held q P (linkUp p m sqi s) :=
  held_ite (held_announceOn (held_evBit (held_put (held_put (held_put h))))) h

theorem held_downshift {p m : Nat} {s : State} (h : Held q P s) : Held q P (downshift p m s) :=
  held_ite (held_record (held_ev (held_put (held_modSpine (held_modSpine h))))) (held_modSpine h)

theorem held_linkDown {p : Nat} {s : State} (h : Held q P s) : Held q P (linkDown p s) :=
  held_ite (held_put (held_downshift (held_evBit (held_incSat (held_put (held_put (held_forgetAnn h))))))) h

theorem held_pulseOut {p : Nat} {s : State} (h : Held q P s) : Held q P (pulseOut p s) := h

theorem held_spCmdOp {p : Nat} {v : Word} {s : State} (h : Held q P s) : Held q P (spCmdOp p v s) := by
  unfold spCmdOp
  split
  · exact held_ite (held_ev h) (held_ite (held_modSpine h) (held_pulseOut h))
  · exact held_ite (held_ev h) (held_modSpine h)
  · exact held_modSpine (held_put h)
  · exact h

theorem held_spRow {core : Sender} {p op : Nat} {v : Word} {s : State} (h : Held q P s) : Held q P (spRow core p op v s) :=
  held_writeCmd (fun _ h1 => held_ite (held_spCmdOp h1) h1) h

theorem held_testDone {p result dist : Nat} {s : State} (h : Held q P s) : Held q P (testDone p result dist s) :=
  held_ite (held_forN (held_modSpine (held_ev (held_result h))) (fun _ _ h1 => held_pulseOut h1)) h

theorem held_keyLoadOp {v : Word} {s : State} (h : Held q P s) : Held q P (keyLoadOp v s) :=
  held_ite (held_mramPut (held_keepVal h)) (held_keepVal h)

theorem held_modLb {qx : Nat} {f : LbPort → LbPort} {s : State} (h : Held q P s) : Held q P (modLb qx f s) := h

theorem held_lbEnable {qx : Nat} {s : State} (h : Held q P s) : Held q P (lbEnable qx s) :=
  held_ite (held_modLb (held_put (held_ite (held_modLb (held_put h)) h))) (held_modLb (held_put (held_put h)))

theorem held_strangerSeen {qx id mac : Nat} {s : State} (h : Held q P s) : Held q P (strangerSeen qx id mac s) :=
  held_ite (held_record (held_modLb (held_resultPair (held_evBit (held_incSat h))))) (held_resultPair (held_evBit (held_incSat h)))

theorem held_lbFrame {qx : Nat} {f : LbFrame} {s : State} (h : Held q P s) : Held q P (lbFrame qx f s) :=
  held_ite (by
  split
  · exact held_strangerSeen h
  · exact held_ite (held_ilkOp (held_toApp h)) (held_toApp h)) h

theorem held_plcaLost {qx cause : Nat} {s : State} (h : Held q P s) : Held q P (plcaLost qx cause s) :=
  held_record (held_modLb (held_evBit (held_put h)))

theorem held_collision {qx cycle : Nat} {s : State} (h : Held q P s) : Held q P (collision qx cycle s) :=
  held_ite (held_ite (held_ite (held_plcaLost (held_modLb (held_incSat h))) (held_modLb (held_incSat h))) (held_incSat h)) h

theorem held_foreignBeacon {qx : Nat} {s : State} (h : Held q P s) : Held q P (foreignBeacon qx s) :=
  held_ite (held_plcaLost h) (held_ite (held_modLb h) h)

theorem held_plcaResume {qx : Nat} {s : State} (h : Held q P s) : Held q P (plcaResume qx s) := by
  unfold plcaResume
  split
  · exact held_ite (held_modLb (held_evBit (held_put h))) h
  · exact h

/-! ### Machine/FabNet.lean -/

theorem held_reopenFor {id : Nat} {s : State} (h : Held q P s) : Held q P (reopenFor id s) := held_ite (held_ev h) h

theorem held_closedChange {id : Nat} {was now : Bool} {s : State} (h : Held q P s) : Held q P (closedChange id was now s) :=
  held_ite h (held_ite (held_sectionClosed (held_ev h)) (held_ev h))

theorem held_duplicate {hx : Hdr} {p : AnnouncePl} {s : State} (h : Held q P s) : Held q P (duplicate hx p s) :=
  held_fence (held_ev (held_resultPair h))

theorem held_announceOp {moved : Bool} {hx : Hdr} {p : AnnouncePl} {s : State} (h : Held q P s) : Held q P (announceOp moved hx p s) :=
  held_ite (held_duplicate h) (held_closedChange (held_reopenFor h))

theorem held_modPeer {i : Nat} {f : PeerSt → PeerSt} {s : State} (h : Held q P s) : Held q P (modPeer i f s) := h

theorem held_peerBeat {i id : Nat} {s : State} (h : Held q P s) : Held q P (peerBeat i id s) :=
  held_ite (held_ite (held_reopenFor (held_ev (held_modPeer h))) (held_modPeer h)) h

theorem held_heartbeatOp {hx : Hdr} {p : HeartbeatPl} {s : State} (h : Held q P s) : Held q P (heartbeatOp hx p s) := by
  unfold heartbeatOp
  dsimp only
  split
  · exact held_forN h (fun _ _ h1 => held_peerBeat h1)
  · exact held_closedChange (held_with (held_forN h (fun _ _ h1 => held_peerBeat h1)))

theorem held_peerDead {i : Nat} {s : State} (h : Held q P s) : Held q P (peerDead i s) :=
  held_ite (held_record (held_ev (held_mapRes (held_modPeer h)))) h

theorem held_takeMax {i : Nat} {s : State} (h : Held q P s) : Held q P (takeMax i s) := held_ite (held_sectionClosed (held_ev h)) h

theorem held_netOutcome {cmd code : Nat} {s : State} (h : Held q P s) : Held q P (netOutcome cmd code s) :=
  held_ite (held_put (held_put h)) (held_ev (held_put (held_put h)))

theorem held_secCmdOp {v : Word} {s : State} (h : Held q P s) : Held q P (secCmdOp v s) := by
  unfold secCmdOp
  dsimp only
  split
  · exact held_ite (held_netOutcome (held_ite (held_with (held_keepVal h)) (held_closeOwn (held_with (held_keepVal h))))) (held_netOutcome
      (held_keepVal h))
  · exact held_ite (held_netOutcome (held_keepVal h)) (held_ite (held_netOutcome (held_ite (held_announceAll (held_ev (held_with
      (held_keepVal h)))) (held_with (held_keepVal h)))) (held_netOutcome (held_keepVal h)))
  · exact held_netOutcome (held_keepVal h)

theorem held_fenceCmdOp {core : Sender} {v : Word} {s : State} (h : Held q P s) : Held q P (fenceCmdOp core v s) :=
  held_ite (held_netOutcome (held_keepVal h)) (held_ite (held_netOutcome (held_keepVal h)) (held_ite (held_netOutcome (held_keepVal h))
      (held_ite (held_netOutcome (held_keepVal h)) (held_ite (held_netOutcome (held_keepVal h)) (held_netOutcome (held_announceAll
      (held_withNv (held_keepVal h))))))))

theorem held_abandonTake {s : State} (h : Held q P s) : Held q P (abandonTake s) := by
  unfold abandonTake
  split
  · exact h
  · exact held_announceAll h

theorem held_takeoverOp {p : TakeoverPl} {s : State} (h : Held q P s) : Held q P (takeoverOp p s) := by
  unfold takeoverOp
  dsimp only
  split
  · exact held_ite (held_abandonTake (held_noteSeen (held_ev h))) (held_noteSeen (held_ev h))
  · exact held_noteSeen (held_ev h)

/-! ### Machine/Messages.lean -/

theorem held_hoOutOp {src : Nat} {p : HoOutPl} {s : State} (h : Held q P s) : Held q P (hoOutOp src p s) :=
  held_ite h (by
  split
  · exact h
  · exact held_modCar h)

theorem held_offerTake {src c g : Nat} {p : OfferPl} {s : State} (h : Held q P s) : Held q P (offerTake src c g p s) :=
  held_ite (held_modAxis (held_putCtx (held_modCar h))) (held_coreSeed (held_modAxis (held_putCtx (held_modCar h))))

theorem held_offerOp {src : Nat} {p : OfferPl} {s : State} (h : Held q P s) : Held q P (offerOp src p s) :=
  held_ite (by
  split
  · exact h
  · split
    · exact h
    · exact held_ite h (held_idleRestart (held_offerTake h))) h

theorem held_claimOp {src : Nat} {p : ClaimPl} {s : State} (h : Held q P s) : Held q P (claimOp src p s) := by
  unfold claimOp
  split
  · exact h
  · split
    · exact h
    · exact held_ite (held_sendStopq (held_claimEntry (held_forL (held_modCar h) (fun _ _ h1 => held_keepShare h1)))) h

theorem held_hoFailOp {src : Nat} {s : State} {p : HoFailPl} (h : Held q P s) : Held q P (hoFailOp src s p) := by
  unfold hoFailOp
  split
  · exact h
  · split
    · exact held_ite (held_modCar h) h
    · exact held_ite (held_ite (held_modCar h) (held_hoFailCar h)) h

/-! ### Machine/SafCmd.lean -/

theorem held_lockstepError {s : State} (h : Held q P s) : Held q P (lockstepError s) := held_ite (held_safRefresh (held_safFault h)) h

theorem held_eclipseTest {pass : Bool} {s : State} (h : Held q P s) : Held q P (eclipseTest pass s) :=
  held_ite (held_ite h (held_safRefresh (held_safFault h))) h

theorem held_clockFault {clock : Nat} {s : State} (h : Held q P s) : Held q P (clockFault clock s) :=
  held_ite (held_safFault (held_with (held_ev h))) h

theorem held_clearSafeOut {n : Nat} {s : State} (h : Held q P s) : Held q P (clearSafeOut n s) := held_ite (held_modOut h) h

theorem held_resetAccepted {s0 : State} (h : Held q P s0) : Held q P (resetAccepted s0) :=
  held_pairsFollow (held_recordSafety (held_ev (held_forN (held_with (held_setReg (held_withNv (held_reqDrop h)))) (fun _ _ h1 =>
      held_clearSafeOut h1))))

theorem held_resetRequest {src : Nat} {key : Bool} {early : Option Nat} {s : State} (h : Held q P s) : Held q P (resetRequest src key early
    s) := by
  unfold resetRequest
  dsimp only
  split
  · exact held_resetRefused (held_put h)
  · split
    · exact held_resetRefused (held_put h)
    · exact held_safRefresh (held_resetAccepted (held_put h))

theorem held_resetPair {s : State} (h : Held q P s) : Held q P (resetPair s) := by
  unfold resetPair
  split
  · exact h
  · exact held_ite (held_resetRequest h) h

theorem held_resetCmdOp {core : Sender} {v : Word} {s : State} (h : Held q P s) : Held q P (resetCmdOp core v s) :=
  held_resetRequest (held_keepVal h)

theorem held_proofSet {sec : Nat} {s : State} (h : Held q P s) : Held q P (proofSet sec s) := held_setReg (held_setReg h)

theorem held_diagOp {core : Sender} {v : Word} {s : State} (h : Held q P s) : Held q P (diagOp core v s) := by
  unfold diagOp
  dsimp only
  split
  · exact held_ite (held_ev (held_keepVal h)) (held_keepVal h)
  · exact held_put (held_keepVal h)
  · exact held_put (held_proofSet (held_withNv (held_keepVal h)))
  · exact h

theorem held_diagRow {core : Sender} {op : Nat} {cpl : Word} {s : State} (h : Held q P s) : Held q P (diagRow core op cpl s) :=
  held_ite (held_cplWrite (fun _ _ h1 => held_diagOp h1) h) h

theorem held_sramDouble {s : State} (h : Held q P s) : Held q P (sramDouble s) := held_safRefresh (held_safFault h)

theorem held_mramDouble {off : Nat} {s : State} (h : Held q P s) : Held q P (mramDouble off s) :=
  held_ite (held_safRefresh (held_safFault h)) (held_record h)

theorem held_eccAccess {core : Sender} {addr : Nat} {s : State} (h : Held q P s) : Held q P (eccAccess core addr s) :=
  held_ite (held_ite (held_mramDouble (held_setRdata (held_draw h))) (held_ite (held_sramDouble (held_setRdata (held_draw h))) h)) h

/-! ### Machine/Update.lean -/

theorem held_withGroups {mask : Nat} {s : State} (h : Held q P s) : Held q P (withGroups mask s) := h

theorem held_updateOp {v : Word} {s : State} (h : Held q P s) : Held q P (updateOp v s) := h

theorem held_headersRead {t s : State} (hs1 : Held q P s) : Held q P (headersRead t s) := held_forL hs1 (fun _ _ h1 => held_modSlot h1)

theorem held_updateCutoff {s : State} (h : Held q P s) : Held q P (updateCutoff s) :=
  held_ite (by
  split
  · exact held_ev (held_put (held_put h))
  · exact held_ite (held_headersRead h) h) h

theorem held_controlSlots {s t u : State} (hs2 : Held q P u) : Held q P (controlSlots s t u) :=
  held_forL hs2 (fun _ _ h1 => held_modSlot h1)

theorem held_applyUg0 {s t : State} (hs1 : Held q P t) : Held q P (applyUg0 s t) :=
  held_controlSlots (held_forN hs1 (fun _ _ h1 => held_ite (held_modSlot h1) (held_modSlot h1)))

theorem held_applyAxis {s t : State} {n : Nat} {u : State} (hs2 : Held q P u) : Held q P (applyAxis s t n u) :=
  held_ite (held_modAxis hs2) (held_ite (held_modAxis hs2) hs2)

theorem held_applyDoor {s t : State} {d : Nat} {u : State} (hs2 : Held q P u) : Held q P (applyDoor s t d u) :=
  held_ite hs2 (held_modDoor hs2)

theorem held_applyUg1 {s t : State} (hs1 : Held q P t) : Held q P (applyUg1 s t) :=
  held_forN (held_forN hs1 (fun _ _ h1 => held_applyAxis h1)) (fun _ _ h1 => held_applyDoor h1)

theorem held_applyChan {s t : State} {n : Nat} {u : State} (hs2 : Held q P u) : Held q P (applyChan s t n u) :=
  held_ite hs2 (held_ite (held_cmmFresh hs2) (held_with (held_modCmm (held_modChan hs2))))

theorem held_applyPort {s t : State} {p : Nat} {u : State} (hs2 : Held q P u) : Held q P (applyPort s t p u) :=
  held_ite hs2 (held_ite (held_ite (held_portStart hs2) hs2) (held_portStop hs2))

theorem held_applyUg3 {s t : State} (hs1 : Held q P t) : Held q P (applyUg3 s t) :=
  held_forN (held_forN hs1 (fun _ _ h1 => held_applyChan h1)) (fun _ _ h1 => held_applyPort h1)

theorem held_applyEmu {s t : State} {e : Nat} {u : State} (hs2 : Held q P u) : Held q P (applyEmu s t e u) := held_ite hs2 (held_modEmu hs2)

theorem held_applyUg4 {s t : State} (hs1 : Held q P t) : Held q P (applyUg4 s t) := held_forN hs1 (fun _ _ h1 => held_applyEmu h1)

theorem held_applyPeer {s t : State} {i : Nat} {u : State} (hs2 : Held q P u) : Held q P (applyPeer s t i u) :=
  held_ite hs2 (held_modPeer hs2)

theorem held_applySa {s t : State} {p : Nat} {u : State} (hs2 : Held q P u) : Held q P (applySa s t p u) := held_ite hs2 (held_setReg hs2)

theorem held_applyUg6 {s t : State} (hs1 : Held q P t) : Held q P (applyUg6 s t) :=
  held_forN (held_forN (held_forN (held_forN hs1 (fun _ _ h1 => held_applyPeer h1)) (fun _ _ h1 => held_applySa h1)) (fun _ _ h1 =>
      held_spineEnable h1)) (fun _ _ h1 => held_lbEnable h1)

theorem held_applyUg7 {s t : State} (hs1 : Held q P t) : Held q P (applyUg7 s t) :=
  held_ite (held_ite hs1 (held_thermalStart hs1)) (held_ite (held_schedDrop (held_candDrop hs1)) hs1)

theorem held_applyGroup {s : State} {g : Nat} {t : State} (hs1 : Held q P t) : Held q P (applyGroup s g t) := by
  unfold applyGroup
  split
  · exact held_applyUg0 hs1
  · exact held_applyUg1 hs1
  · exact held_applyUg3 hs1
  · exact held_applyUg4 hs1
  · exact held_applyUg6 hs1
  · exact held_applyUg7 hs1
  · exact hs1

theorem held_releaseLate {s : State} (h : Held q P s) : Held q P (releaseLate s) :=
  held_forL h (fun _ _ h1 => by
  split
  · exact held_storePend h1
  · exact h1)

theorem held_updateApply {s : State} (h : Held q P s) : Held q P (updateApply s) :=
  held_ite h (by
  split
  · exact held_releaseLate (held_ev (held_put (held_put h)))
  · exact held_releaseLate (held_ev (held_with (held_foldl (fun _ _ h1 => held_applyGroup h1) (held_withGroups h)))))

/-! ### Machine/SetCheck.lean -/

theorem held_breakSeal {off : Nat} {s : State} (h : Held q P s) : Held q P (breakSeal off s) := held_mramPut h

/-! ### Machine/SafSps.lean -/

theorem held_spsDiscard {rej : Nat} {s : State} (h : Held q P s) : Held q P (spsDiscard rej s) :=
  held_with (held_setReg (held_put (held_put (held_put h))))

theorem held_commitStart {c : Commit} {s : State} (h : Held q P s) : Held q P (commitStart c s) := held_ev h

theorem held_commitEnd {s : State} (h : Held q P s) : Held q P (commitEnd s) := held_put h

theorem held_spsPresent {shadow : Option Nat} {gen : Nat} {pay : List Byte} {s : State} (h : Held q P s) : Held q P (spsPresent shadow gen
    pay s) :=
  held_with (held_setReg (held_put (held_put h)))

theorem held_spsTransfer {shadow : Option Nat} {len gen : Nat} {pay : List Byte} {s : State} (h : Held q P s) : Held q P (spsTransfer
    shadow len gen pay s) :=
  held_ite h (held_ite (held_spsDiscard (held_spsDiscard h)) (by
  split
  · exact held_spsDiscard (held_spsDiscard h)
  · exact held_spsPresent (held_spsDiscard h)))

theorem held_spsDiffers {s : State} (h : Held q P s) : Held q P (spsDiffers s) := held_ite (held_spsDiscard h) (held_put (held_put h))

theorem held_spsConfirmOp {core : Sender} {v : Word} {s : State} (h : Held q P s) : Held q P (spsConfirmOp core v s) :=
  held_ite (held_put (held_keepVal h)) (held_ite (held_put (held_keepVal h)) (by
  split
  · exact held_keepVal h
  · exact held_ite (held_keepVal h) (held_ite (held_put (held_put (held_with (held_keepVal h)))) (held_spsDiffers (held_keepVal h)))))

theorem held_spsAccept {x : SpsXfer} {s : State} (h : Held q P s) : Held q P (spsAccept x s) :=
  held_ite (held_ev (held_spsDiscard h)) (by
  dsimp only
  split
  · exact held_commitStart (held_breakSeal (held_put h))
  · exact held_commitStart (held_breakSeal (held_put h)))

theorem held_keyCfRelease {s : State} (h : Held q P s) : Held q P (keyCfRelease s) :=
  held_ite (by
  split
  · exact h
  · split
    · exact held_ite (held_spsAccept h) h
    · exact h) h

theorem held_spsTimeout {s : State} (h : Held q P s) : Held q P (spsTimeout s) := by
  unfold spsTimeout
  split
  · exact h
  · split
    · exact h
    · exact held_ite (held_spsDiscard h) h

theorem held_spsAbandon {s : State} (h : Held q P s) : Held q P (spsAbandon s) := held_lockoutEnter (held_put (held_put (held_commitEnd h)))

theorem held_spsLoad {img : List Byte} {toB : Bool} {s : State} (h : Held q P s) : Held q P (spsLoad img toB s) :=
  held_with (held_put (held_putB (held_setReg (held_putB (held_put h)))))

theorem held_spsIdle {s : State} (h : Held q P s) : Held q P (spsIdle s) := held_setReg (held_put (held_put h))

theorem held_spsCommitDone {agree : Bool} {s : State} (h : Held q P s) : Held q P (spsCommitDone agree s) := by
  unfold spsCommitDone
  split
  · exact held_ite (held_ite (held_record (held_ev (held_spsIdle (held_spsLoad (held_commitEnd (held_mramPut (held_mramPut h)))))))
      (held_spsAbandon h)) h
  · exact held_ite (held_ite (held_ev (held_spsIdle (held_commitEnd (held_mramPut h)))) (held_spsAbandon h)) h
  · exact h

theorem held_spsGovern {s : State} (h : Held q P s) : Held q P (spsGovern s) := by
  unfold spsGovern
  split
  · exact held_put h
  · exact h

theorem held_cfgRefuse {s : State} (h : Held q P s) : Held q P (cfgRefuse s) := held_ev h

theorem held_opsCommitOp {v : Word} {s : State} (h : Held q P s) : Held q P (opsCommitOp v s) := by
  unfold opsCommitOp
  exact held_ite (held_cfgRefuse (held_keepVal h)) (by
  dsimp only
  split
  · exact held_ite (held_commitStart (held_breakSeal (held_keepVal h))) (held_cfgRefuse (held_keepVal h))
  · exact held_cfgRefuse (held_keepVal h))

theorem held_opsCommitDone {agree : Bool} {s : State} (h : Held q P s) : Held q P (opsCommitDone agree s) := by
  unfold opsCommitDone
  split
  · exact held_ite (held_ite (held_ev (held_commitEnd (held_mramPut (held_mramPut h)))) (held_cfgRefuse (held_commitEnd h))) h
  · exact h

/-! ### Machine/Doors.lean -/

theorem held_doorEv {d i : Nat} {s : State} (h : Held q P s) : Held q P (doorEv d i s) := held_evBit h

theorem held_genRows {d dist v : Nat} {s : State} (h : Held q P s) : Held q P (genRows d dist v s) := held_putRow (held_putRow h)

theorem held_doorMove {d : Nat} {opening nudge : Bool} {s : State} (h : Held q P s) : Held q P ((doorMove d opening nudge s).2) :=
  held_snd_ite h (held_genRows h)

theorem held_doorReject {d code : Nat} {s : State} (h : Held q P s) : Held q P (doorReject d code s) := held_doorEv (held_modDoor h)

theorem held_doorReached {d : Nat} {re : Bool} {s : State} (h : Held q P s) : Held q P (doorReached d re s) :=
  held_ite (held_doorEv (held_doorEv (held_modDoor h))) (held_doorEv (held_modDoor h))

theorem held_doorShutReached {d : Nat} {s : State} (h : Held q P s) : Held q P (doorShutReached d s) := held_doorEv (held_modDoor h)

theorem held_doorQueue {d : Nat} {opening nudge re : Bool} {back : State → State} {s : State} (hback : ∀ t', Held q P t' → Held q P (back
    t')) (h : Held q P s) : Held q P (doorQueue d opening nudge re back s) :=
  held_ite (held_ite (held_doorReached (held_modDoor (held_modDoor h))) (held_doorShutReached (held_modDoor (held_modDoor h)))) (held_ite
      (held_modDoor (held_modAxis (held_doorMove (held_modDoor h)))) (held_doorReject (hback _ h)))

theorem held_doorGivesUp {d : Nat} {s : State} (h : Held q P s) : Held q P (doorGivesUp d s) := held_modDoor h

theorem held_beginClose {d : Nat} {back : State → State} {s : State} (hback : ∀ t', Held q P t' → Held q P (back t')) (h : Held q P s) :
    Held q P (beginClose d back s) :=
  held_ite (held_modDoor h) (held_doorQueue hback h)

theorem held_doorAbort {d : Nat} {s : State} (h : Held q P s) : Held q P (doorAbort d s) := held_ite (held_axisEvent (held_axisEvent h)) h

theorem held_doorSettle {d : Nat} {s : State} (h : Held q P s) : Held q P (doorSettle d s) :=
  held_ite (held_ite h (held_ite (held_doorQueue (fun _ h1 => held_doorGivesUp h1) (held_modDoor h)) (held_modDoor h))) h

theorem held_doorStopped {d : Nat} {s : State} (h : Held q P s) : Held q P (doorStopped d s) := held_modDoor (held_doorAbort h)

theorem held_doorFaulted {d : Nat} {s : State} (h : Held q P s) : Held q P (doorFaulted d s) := held_modDoor (held_doorAbort h)

theorem held_doorObstruct {d sources : Nat} {counted : Bool} {s : State} (h : Held q P s) : Held q P (doorObstruct d sources counted s) :=
  held_doorSettle (held_modDoor (held_doorEv (held_doorAbort h)))

theorem held_openOp {d : Nat} {s : State} (h : Held q P s) : Held q P (openOp d s) := by
  unfold openOp
  dsimp only
  split
  · exact held_doorQueue (fun _ h1 => h) (held_modDoor h)
  · exact held_doorQueue (fun _ h1 => h) (held_modDoor h)
  · exact held_doorObstruct (held_modDoor h)
  · exact held_doorObstruct (held_modDoor h)
  · exact held_modDoor (held_modDoor h)
  · exact held_modDoor (held_modDoor h)
  · exact held_modDoor (held_modDoor h)
  · exact held_modDoor h

theorem held_closeOp {d : Nat} {nudge : Bool} {s : State} (h : Held q P s) : Held q P (closeOp d nudge s) := by
  unfold closeOp
  dsimp only
  split
  · exact held_beginClose (fun _ h1 => h) (held_modDoor (held_modDoor h))
  · exact held_beginClose (fun _ h1 => h) (held_modDoor (held_modDoor h))
  · exact held_modDoor (held_modDoor (held_modDoor h))
  · exact held_modDoor (held_modDoor (held_modDoor h))
  · exact held_modDoor h

theorem held_doorCommand {d op : Nat} {s : State} (h : Held q P s) : Held q P (doorCommand d op s) := by
  unfold doorCommand
  split
  · exact held_ite (held_openOp h) (held_closeOp h)
  · exact held_doorReject h

theorem held_doorForce {d : Nat} {s : State} (h : Held q P s) : Held q P (doorForce d s) := held_ite (held_setReg (held_modDoor h)) h

theorem held_doorCounts {d : Nat} {s : State} (h : Held q P s) : Held q P (doorCounts d s) := held_modDoor h

theorem held_doorAxisResult {d : Nat} {s : State} (h : Held q P s) : Held q P (doorAxisResult d s) :=
  held_ite (by
  split
  · exact held_doorReached h
  · exact held_doorReached h
  · exact held_doorShutReached h
  · exact held_doorShutReached h
  · exact h) (held_doorSettle h)

theorem held_pendingClose {d : Nat} {s : State} (h : Held q P s) : Held q P (pendingClose d s) :=
  held_ite (held_beginClose (fun _ h1 => held_doorGivesUp h1) h) h

theorem held_doorAct {d : Nat} {s : State} (h : Held q P s) : Held q P (doorAct d s) :=
  held_ite (held_doorStopped (held_modDoor h)) (held_ite (held_doorStopped (held_modDoor h)) (held_ite (held_doorFaulted (held_modDoor h))
      (by
  split
  · split
    · exact held_doorCommand (held_modDoor h)
    · exact held_pendingClose (held_ite (held_modDoor (held_modDoor h)) (held_modDoor h))
  · exact held_modDoor (held_modDoor h))))

theorem held_doorFollow {d : Nat} {s : State} (h : Held q P s) : Held q P (doorFollow d s) := held_modDoor h

theorem held_doorStage4 {d : Nat} {s : State} (h : Held q P s) : Held q P (doorStage4 d s) :=
  held_ite (held_doorAct (held_doorCounts (held_doorForce (held_doorAxisResult (held_doorFollow h))))) h

theorem held_doorCmdOp {v : Word} {s : State} (h : Held q P s) : Held q P (doorCmdOp v s) :=
  held_ite h (held_ite (held_ite h (held_doorReject h)) (held_modDoor (held_ite (held_ev h) h)))

theorem held_doorRow {core : Sender} {op : Nat} {v : Word} {s : State} (h : Held q P s) : Held q P (doorRow core op v s) :=
  held_writeCmd (fun _ h1 => held_ite (held_doorCmdOp h1) h1) h

theorem held_doorDueIs {d : Nat} {p : DoorDue → Bool} {act : State → State} {s : State} (hact : ∀ t', Held q P t' → Held q P (act t')) (h :
    Held q P s) : Held q P (doorDueIs d p act s) :=
  held_ite (hact _ (held_modDoor h)) h

theorem held_obstruction {d : Nat} {s : State} (h : Held q P s) : Held q P (obstruction d s) := by
  unfold obstruction
  split
  · exact held_doorDueIs (fun _ h1 => held_doorObstruct h1) h
  · exact h

theorem held_doorStall {d : Nat} {s : State} (h : Held q P s) : Held q P (doorStall d s) := held_doorSettle (held_doorEv (held_doorAbort h))

theorem held_doorKe {d : Nat} {s : State} (h : Held q P s) : Held q P (doorKe d s) := held_doorSettle (held_doorEv (held_doorAbort h))

theorem held_dwellEnd {d : Nat} {s : State} (h : Held q P s) : Held q P (dwellEnd d s) := by
  unfold dwellEnd
  split
  · exact h
  · exact held_ite (held_modDoor h) h

theorem held_nudgeEnd {d : Nat} {s : State} (h : Held q P s) : Held q P (nudgeEnd d s) := by
  unfold nudgeEnd
  split
  · exact h
  · exact held_ite (held_modDoor h) h

theorem held_lockFail {d : Nat} {s : State} (h : Held q P s) : Held q P (lockFail d s) := by
  unfold lockFail
  split
  · exact h
  · exact held_ite (held_ite (held_doorQueue (fun _ h1 => held_doorGivesUp h1) (held_modDoor (held_doorEv (held_modDoor h)))) (held_doorEv
      (held_modDoor h))) h

/-! ### Machine/Load.lean -/

theorem held_loadCar {k : OpsCar} {s : State} (h : Held q P s) : Held q P (loadCar k s) := held_coreSeed (held_modCar h)

theorem held_slotsChecked {s : State} (h : Held q P s) : Held q P (slotsChecked s) := held_forL h (fun _ _ h1 => held_modSlot h1)

theorem held_loadSet {cars : Bool} {s : State} (h : Held q P s) : Held q P (loadSet cars s) :=
  held_slotsChecked (held_foldl (fun _ _ h1 => held_applyGroup h1) (held_headersRead (held_ite (held_forL (held_loadTide h) (fun _ _ h1 =>
      held_loadCar h1)) (held_loadTide h))))

theorem held_loadOps {s : State} (h : Held q P s) : Held q P (loadOps s) := held_loadSet h

theorem held_loadWake {s : State} (h : Held q P s) : Held q P (loadWake s) := held_loadSet h

/-! ### Machine/Modes.lean -/

theorem held_modeReqOp {m : Mode} {s : State} (h : Held q P s) : Held q P (modeReqOp m s) := by
  unfold modeReqOp
  split
  · exact held_refuseNote h
  · exact held_ite h h

theorem held_modeReqWrite {v : Word} {s : State} (h : Held q P s) : Held q P (modeReqWrite v s) := held_modeReqOp (held_keepVal h)

theorem held_modeRow {core : Sender} {m : Mode} {cpl : Word} {s : State} (h : Held q P s) : Held q P (modeRow core m cpl s) :=
  held_ite (held_cplWrite (fun _ _ h1 => held_modeReqWrite h1) h) h

theorem held_takeTrans {m : Mode} {trig : Nat} {s : State} (h : Held q P s) : Held q P (takeTrans m trig s) :=
  held_ite (held_lockoutEnter h) h

theorem held_reqLost {m : Mode} {trig : Nat} {s : State} (h : Held q P s) : Held q P (reqLost m trig s) := held_ite h (held_reqDrop h)

theorem held_evalRest {s : State} (h : Held q P s) : Held q P (evalRest s) := by
  unfold evalRest
  split
  · split
    · exact held_takeTrans h
    · dsimp only
      split
      · exact held_takeTrans (held_refuseReq h)
      · exact held_refuseReq h
  · split
    · exact held_takeTrans h
    · exact h

theorem held_evaluateModes {s : State} (h : Held q P s) : Held q P (evaluateModes s) :=
  held_ite h (held_with (by
  split
  · exact held_takeTrans (held_reqLost h)
  · exact held_evalRest h))

theorem held_keyStop {s : State} (h : Held q P s) : Held q P (keyStop s) :=
  held_ite (held_forN h (fun _ _ h1 => held_ite (held_stopAxis h1) h1)) h

theorem held_idleHold {s : State} (h : Held q P s) : Held q P (idleHold s) := held_ite (held_idleRestart h) h

theorem held_msInstant {s : State} (h : Held q P s) : Held q P (msInstant s) := held_ite (held_evaluateModes h) h

theorem held_portsFollow {mask : Nat} {s : State} (h : Held q P s) : Held q P (portsFollow mask s) :=
  held_ite (held_forN (held_forN h (fun _ _ h1 => held_ite (held_ite h1 (held_portStart h1)) (held_ite (held_portStop h1) h1))) (fun _ _ h1
      => held_cmmFresh h1)) (held_forN h (fun _ _ h1 => held_ite (held_ite h1 (held_portStart h1)) (held_ite (held_portStop h1) h1)))

theorem held_rescuePower {s : State} (h : Held q P s) : Held q P (rescuePower s) := held_ite (held_portsFollow h) h

theorem held_rescueEnd {s : State} (h : Held q P s) : Held q P (rescueEnd s) := held_ite (held_portsFollow h) h

theorem held_rescueTell {reason : Nat} {s : State} (h : Held q P s) : Held q P (rescueTell reason s) :=
  held_ite (held_forL h (fun _ _ h1 => held_send h1)) h

theorem held_schedEnter {m : Mode} {s : State} (h : Held q P s) : Held q P (schedEnter m s) :=
  held_ite (held_candDrop h) (held_schedDrop (held_candDrop h))

theorem held_enterNow {m : Mode} {s : State} (h : Held q P s) : Held q P (enterNow m s) :=
  held_ite (held_rescueTell (held_rescuePower (held_clearQueues (held_ite (held_forN (held_forN (held_schedEnter (held_enterMode (held_ite
      (held_forN (held_loadWake h) (fun _ _ h1 => held_portHeld h1)) h))) (fun _ _ h1 => held_spineEnable h1)) (fun _ _ h1 => held_lbEnable
      h1)) (held_schedEnter (held_enterMode (held_ite (held_forN (held_loadWake h) (fun _ _ h1 => held_portHeld h1)) h))))))) (held_ite
      (held_rescueEnd (held_rescueLeft (held_ite (held_forN (held_forN (held_schedEnter (held_enterMode (held_ite (held_forN (held_loadWake
      h) (fun _ _ h1 => held_portHeld h1)) h))) (fun _ _ h1 => held_spineEnable h1)) (fun _ _ h1 => held_lbEnable h1)) (held_schedEnter
      (held_enterMode (held_ite (held_forN (held_loadWake h) (fun _ _ h1 => held_portHeld h1)) h)))))) (held_ite (held_forN (held_forN
      (held_schedEnter (held_enterMode (held_ite (held_forN (held_loadWake h) (fun _ _ h1 => held_portHeld h1)) h))) (fun _ _ h1 =>
      held_spineEnable h1)) (fun _ _ h1 => held_lbEnable h1)) (held_schedEnter (held_enterMode (held_ite (held_forN (held_loadWake h) (fun
      _ _ h1 => held_portHeld h1)) h)))))

theorem held_transDone {s : State} (h : Held q P s) : Held q P (transDone s) := by
  unfold transDone
  split
  · exact h
  · exact held_ite (held_ite (held_with (held_ite h (held_portsOn h))) (held_enterNow h)) h

theorem held_transBoundary {s : State} (h : Held q P s) : Held q P (transBoundary s) := by
  unfold transBoundary
  split
  · exact held_ite (held_enterNow h) h
  · exact h

theorem held_wakeBy {cause : Nat} {enabled : Bool} {s : State} (h : Held q P s) : Held q P (wakeBy cause enabled s) := held_ite h h

theorem held_spineWake {p : Nat} {s : State} (h : Held q P s) : Held q P (spineWake p s) := held_ite (held_ev h) (held_wakeBy h)

theorem held_timeAlarm {s : State} (h : Held q P s) : Held q P (timeAlarm s) := held_wakeBy h

theorem held_wakeNotice {s : State} (h : Held q P s) : Held q P (wakeNotice s) := held_ite (held_idleRestart h) h

theorem held_rescueNotice {src reason : Nat} {s : State} (h : Held q P s) : Held q P (rescueNotice src reason s) := held_ite h h

/-! ### Machine/Period.lean -/

theorem held_boundaryFires {s : State} (h : Held q P s) : Held q P (boundaryFires s) := h

theorem held_slotShort {g : Nat} {s : State} (h : Held q P s) : Held q P (slotShort g s) := by
  unfold slotShort
  split
  · exact h
  · exact h
  · exact held_countOverrun (held_markRun h)
  · split
    · exact held_stopRun h
    · exact held_countOverrun (held_markRun h)

theorem held_slotsAtLimit {p : Nat → Bool} {s : State} (h : Held q P s) : Held q P (slotsAtLimit p s) :=
  held_forL h (fun _ _ h1 => held_slotShort h1)

theorem held_latchDemands {s : State} (h : Held q P s) : Held q P (latchDemands s) := h

theorem held_freshRuns {s : State} (h : Held q P s) : Held q P (freshRuns s) := held_forL h (fun _ _ h1 => held_markRun h1)

theorem held_servoBoundary {s : State} (h : Held q P s) : Held q P (servoBoundary s) :=
  held_freshRuns (held_bssStart (held_standAnalog (held_forN (held_slkBoundary (held_retryGrants (held_noteSto (held_convertAll (held_forN
      (held_forN (held_haltBoundary (held_updateApply (held_latchDemands (held_slotsAtLimit h)))) (fun _ _ h1 => held_hoBoundary h1)) (fun
      _ _ h1 => held_modeHoLatch h1)))))) (fun _ _ h1 => held_serBoundary h1))))

theorem held_servoTriggers {s : State} (h : Held q P s) : Held q P (servoTriggers s) :=
  held_ite (held_rescuePower (held_evaluateModes (held_idleHold (held_keyStop h)))) h

theorem held_boundary {s : State} (h : Held q P s) : Held q P (boundary s) :=
  held_ite (held_servoTriggers (held_ite (held_servoBoundary (held_transBoundary (held_ev (held_spsGovern (held_boundaryFires h)))))
      (held_sendTelegrams (held_haltBoundary (held_updateApply (held_transBoundary (held_ev (held_spsGovern (held_boundaryFires h))))))))) h

theorem held_feedbackStage {s : State} (h : Held q P s) : Held q P (feedbackStage s) :=
  held_forN (held_forN (held_stage3 h) (fun _ _ h1 => held_ownerHoStart h1)) (fun _ _ h1 => held_ownerHoCompare h1)

theorem held_trajectoryStage {s : State} (h : Held q P s) : Held q P (trajectoryStage s) :=
  held_bssArrivals (held_forN (held_compareStage (held_forN h (fun _ _ h1 => held_axisStage4 h1))) (fun _ _ h1 => held_doorStage4 h1))

theorem held_windowOpen {s : State} (h : Held q P s) : Held q P (windowOpen s) :=
  held_ite (held_sendTelegrams (held_withTide (held_releaseRecords (held_powerSample (held_trajectoryStage (held_feedbackStage
      (held_retryGrants h))))))) h

theorem held_shareStage {s : State} (h : Held q P s) : Held q P (shareStage s) :=
  held_forL (held_forL (held_forL (held_forL (held_forN h (fun _ _ h1 => held_ownerHoTurn h1)) (fun _ _ h1 => held_noShare h1)) (fun _ _ h1
      => held_splitOwned h1)) (fun _ _ h1 => held_splitDue h1)) (fun _ _ h1 => held_segstatSend h1)

theorem held_separationCheck {s : State} (h : Held q P s) : Held q P (separationCheck s) := by
  unfold separationCheck
  split
  · exact held_safRefresh (held_carFault h)
  · exact h

theorem held_entriesTurn {s : State} (h : Held q P s) : Held q P (entriesTurn s) :=
  held_forN h (fun _ _ h1 => by
  split
  · exact held_ite (held_claimEntry h1) (held_ite (held_claimEntry h1) h1)
  · split
    · exact held_claimEntry h1
    · exact h1)

theorem held_split {s : State} (h : Held q P s) : Held q P (split s) :=
  held_ite (held_ite (held_separationCheck (held_withTide (held_sparesCheck (held_shareStage (held_entriesTurn (held_slotsAtLimit h))))))
      (held_withTide (held_slotsAtLimit h))) h

/-! ### Machine/Startup.lean -/

theorem held_powerOn {s : State} (h : Held q P s) : Held q P (powerOn s) := held_withTb (held_resetNow h)

theorem held_railCross {r : Nat} {low beyond : Bool} {s : State} (h : Held q P s) : Held q P (railCross r low beyond s) :=
  held_ite (held_ite (held_ev h) h) h

theorem held_supplyReset {r : Nat} {s : State} (h : Held q P s) : Held q P (supplyReset r s) := by
  unfold supplyReset
  split
  · exact held_ite (held_with (held_resetNow h)) h
  · exact h

theorem held_nrstLow {ns : Nat} {s : State} (h : Held q P s) : Held q P (nrstLow ns s) :=
  held_ite h (held_ite (held_ite (held_resetNow (held_draw h)) (held_draw h)) (held_with (held_resetNow h)))

theorem held_resetReqOp {v : Word} {s : State} (h : Held q P s) : Held q P (resetReqOp v s) :=
  held_ite (held_ite (held_resetNow h) (held_record h)) (held_keepVal h)

theorem held_chooseSps {s : State} (h : Held q P s) : Held q P (chooseSps s) := by
  unfold chooseSps
  split
  · exact held_ite (held_ev (held_with (held_putB (held_putB (held_setReg (held_putB (held_put h))))))) (held_with (held_putB (held_putB
      (held_setReg (held_putB (held_put h))))))
  · exact held_ev (held_ev h)

theorem held_chooseOps {s : State} (h : Held q P s) : Held q P (chooseOps s) := by
  unfold chooseOps
  split
  · exact held_ite (held_ev (held_with (held_putB (held_putB h)))) (held_with (held_putB (held_putB h)))
  · exact held_ev (held_ev h)

theorem held_chooseSets {s : State} (h : Held q P s) : Held q P (chooseSets s) :=
  held_ite (held_ev (held_ev (held_ev h))) (held_chooseOps (held_chooseSps h))

theorem held_imageStep {s : State} (h : Held q P s) : Held q P (imageStep s) := held_ite (held_with (held_put h)) (held_with (held_put h))

theorem held_selfTestFailed {path : Nat} {test : Option (Fin 256)} {s : State} (h : Held q P s) : Held q P (selfTestFailed path test s) :=
    by
  unfold selfTestFailed
  split
  · exact h
  · exact held_ite (held_recordSafety h) (held_firstFault (held_recordSafety h))

theorem held_releaseRegs {s : State} (h : Held q P s) : Held q P (releaseRegs s) :=
  held_proofSet (held_with (held_putB (held_put (held_put (held_putB (held_setReg h))))))

theorem held_clockStart {s : State} (h : Held q P s) : Held q P (clockStart s) := held_ite (held_clockFromZero h) (held_clockFromHoldover h)

theorem held_startLockout {s : State} (h : Held q P s) : Held q P (startLockout s) := held_ite h (held_recordSafety (held_ev h))

theorem held_firstMode {m : Mode} {s : State} (h : Held q P s) : Held q P (firstMode m s) :=
  held_queueStart (held_announceAll (held_armNext (held_forN (held_loadOps h) (fun _ _ h1 => held_portHeld h1))))

theorem held_startSteps {core ecl : Option (Fin 256)} {xtal : Bool} {s : State} (h : Held q P s) : Held q P (startSteps core ecl xtal s) :=
  held_firstMode (held_ite (held_startLockout (held_with (held_imageStep (held_chooseSets (held_selfTestFailed (held_selfTestFailed
      (held_ite (held_with (held_bootScan (held_clockStart h))) (held_ev (held_with (held_bootScan (held_clockStart h))))))))))) (held_with
      (held_imageStep (held_chooseSets (held_selfTestFailed (held_selfTestFailed (held_ite (held_with (held_bootScan (held_clockStart h)))
      (held_ev (held_with (held_bootScan (held_clockStart h)))))))))))

theorem held_release {boot : Fin 4} {core ecl : Option (Fin 256)} {xtal : Bool} {s : State} (h : Held q P s) : Held q P (release boot core
    ecl xtal s) :=
  held_ite (held_ite (held_with (held_releaseRegs h)) (held_ite (held_releaseRegs h) (held_startSteps (held_releaseRegs h)))) h

theorem held_loaderImage {usb : Bool} {img : List Byte} {s : State} (h : Held q P s) : Held q P (loaderImage usb img s) :=
  held_ite (held_resetNow (held_mramPut h)) h

theorem held_lcStart {target : LifeCycle} {img : Bool} {s : State} (h : Held q P s) : Held q P (lcStart target img s) := h

theorem held_lcCmdOp {v : Word} {s : State} (h : Held q P s) : Held q P (lcCmdOp v s) :=
  held_ite (held_lcStart (held_keepVal h)) (held_cfgRefuse (held_keepVal h))

theorem held_loaderChange {retire : Bool} {id : Nat} {key : List Byte} {s : State} (h : Held q P s) : Held q P (loaderChange retire id key
    s) :=
  held_ite (held_ite (held_lcStart h) (held_lcStart h)) h

theorem held_wipeDone {s : State} (h : Held q P s) : Held q P (wipeDone s) := by
  unfold wipeDone
  split
  · exact held_ite (held_resetNow (held_withNv (held_mramZero h))) h
  · exact h

/-! ### Machine/Standby.lean -/

theorem held_appWrite {off : Nat} {bs : List Byte} {s : State} (h : Held q P s) : Held q P (appWrite off bs s) := held_mramPut h

theorem held_takeStart {j : Nat} {s : State} (h : Held q P s) : Held q P (takeStart j s) :=
  held_ite (held_announceAll (held_record (held_ev (held_sendGroup h)))) h

theorem held_copyBank {src room dst : Nat} {s : State} (h : Held q P s) : Held q P (copyBank src room dst s) := by
  unfold copyBank
  split
  · exact held_mramPut h
  · exact held_breakSeal h

theorem held_copyOps {j : Nat} {s : State} (h : Held q P s) : Held q P (copyOps j s) := held_mramPut (held_copyBank h)

theorem held_copySps {j : Nat} {s : State} (h : Held q P s) : Held q P (copySps j s) := held_mramPut (held_copyBank h)

theorem held_takeCopied {s : State} (h : Held q P s) : Held q P (takeCopied s) := by
  unfold takeCopied
  split
  · exact held_ite h (held_resetNow (held_withNv (held_copySps (held_copyOps h))))
  · exact h

theorem held_dropSets {s : State} (h : Held q P s) : Held q P (dropSets s) :=
  held_breakSeal (held_breakSeal (held_breakSeal (held_breakSeal (held_mramPut (held_mramPut h)))))

theorem held_stbyCmdOp {core : Sender} {v : Word} {s : State} (h : Held q P s) : Held q P (stbyCmdOp core v s) :=
  held_ite (held_netOutcome (held_keepVal h)) (held_ite (held_netOutcome (held_keepVal h)) (held_ite (held_netOutcome (held_keepVal h))
      (held_ite (held_netOutcome (held_keepVal h)) (held_ite (held_netOutcome (held_keepVal h)) (held_resetNow (held_dropSets (held_withNv
      (held_keepVal h))))))))

/-! ### Machine/Bus.lean -/

theorem held_refused {core : Sender} {wr : Bool} {a : Nat} {s : State} (h : Held q P s) : Held q P (refused core wr a s) :=
  held_ite (held_touch h) (held_setRdata h)

theorem held_narrowOp {core : Sender} {wr : Bool} {a : Nat} {s : State} (h : Held q P s) : Held q P (narrowOp core wr a s) :=
  held_when (held_narrowErr (held_refused h)) (fun _ h1 => held_unmappedErr h1)

theorem held_unmappedOp {core : Sender} {wr : Bool} {a : Nat} {s : State} (h : Held q P s) : Held q P (unmappedOp core wr a s) :=
  held_unmappedErr (held_refused h)

theorem held_access32 {core : Sender} {wr : Bool} {a : Nat} {act : State → State} {s : State} (hact : ∀ t', Held q P t' → Held q P (act
    t')) (h : Held q P s) : Held q P (access32 core wr a act s) :=
  held_ite (held_ite (held_narrowOp h) (held_ite (held_unmappedOp h) (hact _ h))) h

theorem held_loReadOp {core : Sender} {a : Nat} {s : State} (h : Held q P s) : Held q P (loReadOp core a s) :=
  held_setShadow (held_setRdata h)

theorem held_wordReadOp {core : Sender} {a : Nat} {s : State} (h : Held q P s) : Held q P (wordReadOp core a s) :=
  held_ite (held_setRdata h) (held_setReg (held_setRdata h))

theorem held_readOp {core : Sender} {a : Nat} {s : State} (h : Held q P s) : Held q P (readOp core a s) :=
  held_ite (held_nowNsOp h) (by
  split
  · exact held_txqNsOp h
  · exact held_ite (held_loReadOp h) (held_wordReadOp h))

theorem held_memReadOp {core : Sender} {a : Nat} {s : State} (h : Held q P s) : Held q P (memReadOp core a s) := by
  unfold memReadOp
  split
  · exact held_setRdata h
  · exact held_setRdata (held_draw h)

theorem held_gwAct {core : Sender} {va : Nat} {v : Word} {s : State} (h : Held q P s) : Held q P (gwAct core va v s) :=
  held_fn_ite (held_resetReqOp h) <| held_fn_ite (held_modeReqWrite h) <| held_fn_ite (held_engHaltOp h) <|
    held_fn_ite (held_faultClrOp h) <| held_fn_ite (held_hoCmdOp h) <| held_fn_ite (held_nodeClrOp h) <|
    held_fn_ite (held_outClrOp h) <| held_fn_ite (held_resetCmdOp h) <| held_fn_ite (held_diagOp h) <|
    held_fn_ite (held_spsConfirmOp h) <| held_fn_ite (held_keyLoadOp h) <| held_fn_ite (held_secCmdOp h) <|
    held_fn_ite (held_stbyCmdOp h) <| held_fn_ite (held_fenceCmdOp h) <| held_fn_ite (held_recClearOp h) <|
    held_fn_ite (held_lcCmdOp h) <| held_fn_ite (held_opsCommitOp h) h

theorem held_commandWrite {core : Sender} {a : Nat} {v : Word} {s : State} (h : Held q P s) :
    ∀ t ∈ commandWrite core a v s, Held q P t := by
  unfold commandWrite
  refine held_some_ite (held_updateOp h) <| held_some_ite (held_ite (held_snapAll h) h) <| held_some_ite (held_ite (held_snapTrj h) h) <|
    held_some_ite (held_ite (held_snapCmm h) h) <| held_some_ite (held_ite (held_snapFbk h) h) <|
    held_some_ite (held_ite (held_snapFio h) h) <| held_some_ite (held_trjCmdOp h) <| held_some_ite (held_latCmdOp h) <|
    held_some_ite (held_cmpDisarmOp h) <| held_some_ite (held_doorCmdOp h) <| held_some_ite (held_slkCapOp h) <|
    held_some_ite (held_fbkCmdOp h) <| held_some_ite (held_timCmdOp h) <| held_some_ite (held_addendOp h) <|
    held_some_ite (held_snapArmOp h) <| held_some_ite (held_recAppOp h) <| held_some_ite (held_stopCmdOp h) ?_
  split
  · exact fun t ht => Option.some.inj ht ▸ held_spCmdOp h
  · split
    · exact fun t ht => Option.some.inj ht ▸ held_txqPopOp h
    · simp

theorem held_rwWrite {a : Nat} {v : Word} {s : State} (h : Held q P s) : Held q P (rwWrite a v s) := held_ite h (held_storeReg h)

theorem held_loWrite {core : Sender} {a : Nat} {v : Word} {s : State} (h : Held q P s) : Held q P (loWrite core a v s) :=
  held_ite h (held_setHold h)

theorem held_hiWrite {core : Sender} {a : Nat} {v : Word} {s : State} (h : Held q P s) : Held q P (hiWrite core a v s) :=
  held_ite h (held_ite (held_clockStepOp h) (by
  split
  · exact held_compareArm h
  · exact held_storeReg (held_storeReg (held_setHold h))))

theorem held_regWrite {core : Sender} {a : Nat} {v : Word} {s : State} (h : Held q P s) : Held q P (regWrite core a v s) := by
  unfold regWrite
  refine held_ite ?_ h
  split
  next t ht => exact held_commandWrite h t ht
  · split
    · exact held_loWrite h
    · exact held_hiWrite h
    · exact held_rwWrite h

theorem held_mramWrite {a n v : Nat} {s : State} (h : Held q P s) : Held q P (mramWrite a n v s) := by
  unfold mramWrite
  exact held_ite (held_appWrite h) (held_unmappedErr h)

theorem held_memWrite {a : Nat} {v : Word} {s : State} (h : Held q P s) : Held q P (memWrite a v s) :=
  held_ite (held_sramWrite h) (held_ite (held_mramWrite h) (held_ite (held_tideWrite h) (held_ite (held_tstWrite h) h)))

/-! ### Machine/OmgilRun.lean -/

theorem held_omgil {e : Fin 8} {i : Instr} {cost : Run → Nat} {act : Run → State → State} {s : State} (hact : ∀ a0 t', Held q P t' → Held q
    P (act a0 t')) (h : Held q P s) : Held q P (omgil e i cost act s) := by
  unfold omgil
  split
  · exact h
  · exact held_ite (hact _ _ h) h

theorem held_plain {e : Fin 8} {i : Instr} {f : Run → Run} {s : State} (h : Held q P s) : Held q P (plain e i f s) :=
  held_omgil (fun _ _ h1 => held_setRun h1) h

theorem held_goOn {e : Fin 8} {r' : Run} {s : State} (h : Held q P s) : Held q P (goOn e r' s) := held_setRun h

theorem held_alu {e : Fin 8} {i : Instr} {rd ra rb : Fin 32} {f : Word → Word → Word} {g : Word → Word → Run → Run} {s : State} (h : Held q
    P s) : Held q P (alu e i rd ra rb f g s) :=
  held_plain h

theorem held_accOp {e : Fin 8} {i : Instr} {acc : Fin 4} {f : Run → DWord × Bool} {s : State} (h : Held q P s) : Held q P (accOp e i acc f
    s) :=
  held_plain h

theorem held_budgetOut {e : Fin 8} {s : State} (h : Held q P s) : Held q P (budgetOut e s) := by
  unfold budgetOut
  split
  · exact h
  · exact held_ite (held_trapRun h) h

theorem held_illegalAt {e : Fin 8} {s : State} (h : Held q P s) : Held q P (illegalAt e s) := by
  unfold illegalAt
  split
  · exact h
  · exact held_ite (held_trapRun h) h

/-! ### Machine/OmgilMem.lean -/

theorem held_memOp {e : Fin 8} {i : Instr} {act : Run → State → State} {s : State} (hact : ∀ a0 t', Held q P t' → Held q P (act a0 t')) (h
    : Held q P s) : Held q P (memOp e i act s) :=
  held_omgil hact h

theorem held_startLoop {e : Fin 8} {n last : Nat} {r : Run} {s : State} (h : Held q P s) : Held q P (startLoop e n last r s) :=
  held_ite (held_trapRun h) (held_ite (held_setRun h) (held_setRun h))

theorem held_endRun {e : Fin 8} {r : Run} {s : State} (h : Held q P s) : Held q P (endRun e r s) :=
  held_reachedEnd (held_markRun (held_saveCtx (held_commitOuts (held_dropRun h))))
/-! ### Commands and steps -/

theorem heldNext_exec {s : State} (h : Held q P s) (i : Instr) : HeldNext q P (exec i s) := by
  cases i with
  | servoPeriodBoundary => exact heldNext_next (held_boundary h)
  | returnFrameReceived => exact heldNext_next (held_ite (held_linkTaps (held_frameReturn h)) h)
  | returnDeadline => exact heldNext_next (held_ite (held_linkTaps (held_frameDeadline h)) h)
  | retryAnalysisDone => exact heldNext_next (held_retryDone h)
  | computeWindowOpen => exact heldNext_next (held_windowOpen h)
  | speedTZeroExpiry => exact heldNext_next (held_speedZero h)
  | forceSplit => exact heldNext_next (held_split h)
  | shareMissed => exact heldNext_next (held_shareMissedOp h)
  | slotRunStart => exact heldNext_next (held_slotStart h)
  | budgetExhausted => exact heldNext_next (held_budgetOut h)
  | illegalWord => exact heldNext_next (held_illegalAt h)
  | opAdd => exact heldNext_next (held_alu h)
  | opSub => exact heldNext_next (held_alu h)
  | opAnd => exact heldNext_next (held_alu h)
  | opOr => exact heldNext_next (held_alu h)
  | opXor => exact heldNext_next (held_alu h)
  | opSll => exact heldNext_next (held_alu h)
  | opSrl => exact heldNext_next (held_alu h)
  | opSra => exact heldNext_next (held_alu h)
  | opMin => exact heldNext_next (held_alu h)
  | opMax => exact heldNext_next (held_alu h)
  | opMinu => exact heldNext_next (held_alu h)
  | opMaxu => exact heldNext_next (held_alu h)
  | opMul => exact heldNext_next (held_alu h)
  | opMulh => exact heldNext_next (held_alu h)
  | opMulq31 => exact heldNext_next (held_alu h)
  | opMulq15 => exact heldNext_next (held_alu h)
  | opAddi => exact heldNext_next (held_plain h)
  | opAndi => exact heldNext_next (held_plain h)
  | opOri => exact heldNext_next (held_plain h)
  | opXori => exact heldNext_next (held_plain h)
  | opLui => exact heldNext_next (held_plain h)
  | opSlli => exact heldNext_next (held_plain h)
  | opSrli => exact heldNext_next (held_plain h)
  | opSrai => exact heldNext_next (held_plain h)
  | opMac => exact heldNext_next (held_accOp h)
  | opMsu => exact heldNext_next (held_accOp h)
  | opMula => exact heldNext_next (held_accOp h)
  | opAccset => exact heldNext_next (held_accOp h)
  | opAccadd => exact heldNext_next (held_accOp h)
  | opAccclr => exact heldNext_next (held_accOp h)
  | opAcclo => exact heldNext_next (held_plain h)
  | opAcchi => exact heldNext_next (held_plain h)
  | opAccrd => exact heldNext_next (held_plain h)
  | opLd => exact heldNext_next (held_memOp (fun _ _ h1 => by
  split
  · exact held_goOn h1
  · exact held_trapRun h1) h)
  | opSt => exact heldNext_next (held_memOp (fun _ _ h1 => held_ite (held_trapRun h1) (by
  split
  · exact held_goOn (held_setData h1)
  · exact held_trapRun h1)) h)
  | opLds => exact heldNext_next (held_memOp (fun _ _ h1 => by
  split
  · exact held_goOn h1
  · exact held_trapRun h1) h)
  | opSts => exact heldNext_next (held_memOp (fun _ _ h1 => by
  split
  · exact held_goOn (held_setData h1)
  · exact held_trapRun h1) h)
  | opIn => exact heldNext_next (held_memOp (fun _ _ h1 => by
  split
  · exact held_goOn h1
  · exact held_trapRun h1) h)
  | opOut => exact heldNext_next (held_memOp (fun _ _ h1 => by
  split
  · exact held_goOn h1
  · exact held_trapRun h1) h)
  | opB => exact heldNext_next (held_omgil (fun _ _ h1 => held_ite (held_setRun h1) (held_setRun h1)) h)
  | opBl => exact heldNext_next (held_omgil (fun _ _ h1 => held_setRun h1) h)
  | opBr => exact heldNext_next (held_omgil (fun _ _ h1 => held_setRun h1) h)
  | opLoop => exact heldNext_next (held_omgil (fun _ _ h1 => held_startLoop h1) h)
  | opLoopi => exact heldNext_next (held_omgil (fun _ _ h1 => held_startLoop h1) h)
  | opEnd => exact heldNext_next (held_omgil (fun _ _ h1 => held_endRun h1) h)
  | tideMemoryWrite => exact heldNext_next (held_ite (held_tideWrite h) h)
  | engineHalt => exact heldNext_next (held_cplWrite (fun _ _ h1 => held_engHaltOp h1) h)
  | engineRelease => exact heldNext_next (held_cplWrite (fun _ _ h1 => held_engHaltOp h1) h)
  | tacFaultClr => exact heldNext_next (held_cplWrite (fun _ _ h1 => held_faultClrOp h1) h)
  | controlModeHandover => exact heldNext_next (held_ite (held_cplWrite (fun _ _ h1 => held_hoCmdOp h1) h) h)
  | permitOwnerHandover => exact heldNext_next (held_ite (held_cplWrite (fun _ _ h1 => held_hoCmdOp h1) h) h)
  | share => exact heldNext_next (held_receive (fun _ h1 => held_shareOp h1) h)
  | offer => exact heldNext_next (held_receive (fun _ h1 => held_offerOp h1) h)
  | hoOut => exact heldNext_next (held_receive (fun _ h1 => held_hoOutOp h1) h)
  | claim => exact heldNext_next (held_receive (fun _ h1 => held_claimOp h1) h)
  | hoFail => exact heldNext_next (held_receive (fun _ h1 => held_hoFailOp h1) h)
  | claimTimeout => exact heldNext_next (held_claimTimeoutOp h)
  | segstat => exact heldNext_next (held_receive (fun _ h1 => held_segstatOp h1) h)
  | updateRequest => exact heldNext_next (held_writeCmd (fun _ h1 => held_updateOp h1) h)
  | updateCutoff => exact heldNext_next (held_updateCutoff h)
  | registerWrite => exact heldNext_next (held_access32 (fun _ h1 => held_ite (by
  split
  · exact held_cplWrite (fun _ _ h2 => held_gwAct h2) h1
  · exact held_writeCmd (fun _ h2 => held_armGuard h2) h1
  · exact held_writeCmd (fun _ h2 => held_regWrite h2) h1) (held_memWrite h1)) h)
  | rcRead => exact heldNext_next (held_access32 (fun _ h1 => held_ite (held_ite h1 (held_readOp h1)) (held_memReadOp h1)) h)
  | pairLoRead => exact heldNext_next (held_ite (held_loReadOp h) h)
  | pairLoWrite => exact heldNext_next (held_ite (held_writeCmd (fun _ h1 => held_ite (held_loWrite h1) h1) h) h)
  | pairHiWrite => exact heldNext_next (held_ite (held_writeCmd (fun _ h1 => held_ite (held_hiWrite h1) h1) h) h)
  | narrowAccess => exact heldNext_next (held_ite (held_narrowOp h) h)
  | unmappedAccess => exact heldNext_next (held_ite (held_unmappedOp h) h)
  | guardedValWrite => exact heldNext_next (held_ite (held_writeCmd (fun _ h1 => held_armGuard h1) h) h)
  | mramWindowWrite => exact heldNext_next (held_ite (held_mramWrite h) h)
  | systemSnapshot => exact heldNext_next (held_snapCmd (fun _ h1 => held_snapAll h1) h)
  | trjSnap => exact heldNext_next (held_snapCmd (fun _ h1 => held_snapTrj h1) h)
  | cmmSnap => exact heldNext_next (held_snapCmd (fun _ h1 => held_snapCmm h1) h)
  | fbkSnap => exact heldNext_next (held_snapCmd (fun _ h1 => held_snapFbk h1) h)
  | fioSnap => exact heldNext_next (held_snapCmd (fun _ h1 => held_snapFio h1) h)
  | modeReqDormant => exact heldNext_next (held_modeRow h)
  | modeReqWatch => exact heldNext_next (held_modeRow h)
  | modeReqStandby => exact heldNext_next (held_modeRow h)
  | modeReqService => exact heldNext_next (held_modeRow h)
  | modeReqInspection => exact heldNext_next (held_modeRow h)
  | modeReqRescue => exact heldNext_next (held_modeRow h)
  | modeReqCommissioning => exact heldNext_next (held_modeRow h)
  | modeReqLockout => exact heldNext_next (held_modeRow h)
  | millisecondInstant => exact heldNext_next (held_msInstant h)
  | modeTransitionDone => exact heldNext_next (held_transDone h)
  | standbyIdleExpiry => exact heldNext_next (held_ite h h)
  | serviceIdleExpiry => exact heldNext_next (held_ite h h)
  | spineWakeDetect => exact heldNext_next (held_spineWake h)
  | lbEnergyDetect => exact heldNext_next (held_wakeBy h)
  | fieldWakeEdge => exact heldNext_next (held_wakeBy h)
  | timeAlarm => exact heldNext_next (held_timeAlarm h)
  | clockStopDetect => exact heldNext_next (held_wakeBy h)
  | clockCrossMonitorFault => exact heldNext_next (held_clockFault h)
  | wakeNotice => exact heldNext_next (held_receive (fun _ h1 => held_wakeNotice h1) h)
  | rescue => exact heldNext_next (held_receive (fun _ h1 => held_rescueNotice h1) h)
  | supplyThresholdCross => exact heldNext_next (held_railCross h)
  | supplyMonitorReset => exact heldNext_next (held_supplyReset h)
  | powerOnReset => exact heldNext_next (held_powerOn h)
  | nrstReset => exact heldNext_next (held_nrstLow h)
  | softwareReset => exact heldNext_next (held_cplWrite (fun _ _ h1 => held_resetReqOp h1) h)
  | resetRelease => exact heldNext_next (held_release h)
  | loaderImageReceive => exact heldNext_next (held_loaderImage h)
  | spsImageTransfer => exact heldNext_next (held_spsTransfer h)
  | spsConfirm => exact heldNext_next (held_cplWrite (fun _ _ h1 => held_spsConfirmOp h1) h)
  | keyCfRelease => exact heldNext_next (held_keyCfRelease h)
  | spsConfirmTimeout => exact heldNext_next (held_spsTimeout h)
  | spsCommit => exact heldNext_next (held_spsCommitDone h)
  | cfgOpsCommit => exact heldNext_next (held_cplWrite (fun _ _ h1 => held_opsCommitOp h1) h)
  | opsCommitDone => exact heldNext_next (held_opsCommitDone h)
  | cfgLcCmd => exact heldNext_next (held_cplWrite (fun _ _ h1 => held_lcCmdOp h1) h)
  | lifeCycleWipeDone => exact heldNext_next (held_wipeDone h)
  | trjQueue => exact heldNext_next (held_trjRow h)
  | trjStop => exact heldNext_next (held_trjRow h)
  | trjResume => exact heldNext_next (held_trjRow h)
  | trjAbort => exact heldNext_next (held_trjRow h)
  | trjHome => exact heldNext_next (held_trjRow h)
  | trjFlush => exact heldNext_next (held_trjRow h)
  | spanCheckDone => exact heldNext_next (held_spanCheckDone h)
  | tstWrite => exact heldNext_next (held_ite (held_tstWrite h) h)
  | latchArm => exact heldNext_next (held_writeCmd (fun _ h1 => held_ite h1 (held_latCmdOp h1)) h)
  | latchDisarm => exact heldNext_next (held_writeCmd (fun _ h1 => held_ite h1 (held_latCmdOp h1)) h)
  | latchHoldoffExpiry => exact heldNext_next (held_holdoffEnd h)
  | homeDecision => exact heldNext_next (held_homeDecide h)
  | compareArm => exact heldNext_next (held_writeCmd (fun _ h1 => held_compareArm h1) h)
  | compareDisarm => exact heldNext_next (held_writeCmd (fun _ h1 => held_cmpDisarmOp h1) h)
  | fbkArmOnceIndex => exact heldNext_next (held_fbkCmdRow (fun _ _ _ h1 => held_armOnce h1) h)
  | fbkClearSignalFault => exact heldNext_next (held_fbkCmdRow (fun _ _ _ h1 => held_clearSigf h1) h)
  | fbkRenegotiatePort => exact heldNext_next (held_fbkCmdRow (fun _ _ _ h1 => held_renegotiate h1) h)
  | analogSample => exact heldNext_next (held_analogSample h)
  | kspClockHoldExpiry => exact heldNext_next (held_kspHoldExpiry h)
  | kspTransactionDone => exact heldNext_next (held_ite (held_tapeSeen (held_kspDone h)) (held_kspDone h))
  | kspFaultPauseExpiry => exact heldNext_next (held_kspPauseExpiry h)
  | ssiTransferDone => exact heldNext_next (held_ite (held_tapeSeen (held_ssiDone h)) (held_ssiDone h))
  | doorOpen => exact heldNext_next (held_doorRow h)
  | doorClose => exact heldNext_next (held_doorRow h)
  | doorNudge => exact heldNext_next (held_doorRow h)
  | doorStop => exact heldNext_next (held_doorRow h)
  | obstruction => exact heldNext_next (held_obstruction h)
  | stall => exact heldNext_next (held_doorDueIs (fun _ h1 => held_doorStall h1) h)
  | keExc => exact heldNext_next (held_doorDueIs (fun _ h1 => held_doorKe h1) h)
  | dwellExpiry => exact heldNext_next (held_dwellEnd h)
  | nudgeTimerExpiry => exact heldNext_next (held_nudgeEnd h)
  | lockFail => exact heldNext_next (held_lockFail h)
  | bssAdd => exact heldNext_next (held_stopRow h)
  | bssRemove => exact heldNext_next (held_stopRow h)
  | bssClear => exact heldNext_next (held_stopRow h)
  | depart => exact heldNext_next (held_stopRow h)
  | bssEvaluation => exact heldNext_next (held_ite (held_evaluate h) h)
  | resAnswerTimeout => exact heldNext_next (held_answerTimeout h)
  | thermalUpdate => exact heldNext_next (held_ite (held_forL h (fun _ _ h1 => held_thermalSeg h1)) h)
  | resReq => exact heldNext_next (held_receive (fun _ h1 => held_resReqOp h1) h)
  | resAns => exact heldNext_next (held_receive (fun _ h1 => held_resAnsOp h1) h)
  | resRel => exact heldNext_next (held_receive (fun _ h1 => held_whenBss (fun _ h2 => held_resRelOp h2) h1) h)
  | resTrim => exact heldNext_next (held_receive (fun _ h1 => held_whenBss (fun _ h2 => held_resTrimOp h2) h1) h)
  | stopq => exact heldNext_next (held_receive (fun _ h1 => held_whenBss (fun _ h2 => held_stopqOp h2) h1) h)
  | heldReservationRelease => exact heldNext_next (held_heldRelease h)
  | slkNodeClr => exact heldNext_next (held_cplWrite (fun _ _ h1 => held_nodeClrOp h1) h)
  | captureReceiveBuffer => exact heldNext_next (held_slkCapRow h)
  | captureTransmitBuffer => exact heldNext_next (held_slkCapRow h)
  | captureRelease => exact heldNext_next (held_slkCapRow h)
  | portIdleEnd => exact heldNext_next (held_portIdleEnd h)
  | fieldRefresh => exact heldNext_next (held_fieldRefresh h)
  | dieFrameReceived => exact heldNext_next (held_ite (held_groupFrameIn h) (held_lineFrameIn h))
  | fieldReply => exact heldNext_next (held_fieldReply h)
  | fieldReplyMissing => exact heldNext_next (held_replyMissing h)
  | dieSilenceTimeout => exact heldNext_next (held_dieSilence h)
  | inputFilterAccept => exact heldNext_next (held_filterAccept h)
  | fastInputEdge => exact heldNext_next (held_fastEdge h)
  | frequencyGate => exact heldNext_next (held_ite (held_freqGate h) h)
  | frequencyZeroTimeout => exact heldNext_next (held_ite (held_freqZero h) h)
  | comparePulseEnd => exact heldNext_next (held_pulseEnd h)
  | outputThermalShutdown => exact heldNext_next (held_thermalOff h)
  | outputCooled => exact heldNext_next (held_cooled h)
  | fioOutClr => exact heldNext_next (held_cplWrite (fun _ _ h1 => held_outClrOp h1) h)
  | offPulseStart => exact heldNext_next (held_ite (held_offPulse h) h)
  | offPulseEnd => exact heldNext_next (held_safRefresh (held_offPulseEnd h))
  | lplusMeasure => exact heldNext_next (held_lplusMeasure h)
  | uv => exact heldNext_next (held_uvSet h)
  | uvClear => exact heldNext_next (held_uvClear h)
  | stoLinkTimeout => exact heldNext_next (held_stoTimeout h)
  | stobEnergise => exact heldNext_next (held_stobEnergise h)
  | safetyCoreLockstepError => exact heldNext_next (held_lockstepError h)
  | eclipseSelftest => exact heldNext_next (held_eclipseTest h)
  | resetPair => exact heldNext_next (held_resetPair h)
  | safResetCmd => exact heldNext_next (held_cplWrite (fun _ _ h1 => held_resetCmdOp h1) h)
  | diagSuspend => exact heldNext_next (held_diagRow h)
  | diagResume => exact heldNext_next (held_diagRow h)
  | proofTestConfirm => exact heldNext_next (held_diagRow h)
  | proofDue => exact heldNext_next (held_ite (held_ev h) h)
  | sramScrub => exact heldNext_next (held_ite (held_sramDouble h) h)
  | mramScrub => exact heldNext_next (by
  split
  · exact held_ite (held_mramDouble h) h
  · exact h)
  | discrepancyTick => exact heldNext_next (held_discrepancyTick h)
  | carState => exact heldNext_next (held_receive (fun _ h1 => held_telOp h1) h)
  | secState => exact heldNext_next (held_receive (fun _ h1 => held_telOp h1) h)
  | permit => exact heldNext_next (held_receive (fun _ h1 => held_telOp h1) h)
  | telegramWatchdogExpiry => exact heldNext_next (held_wdExpire h)
  | interlockTelegram => exact heldNext_next (held_ilkOp h)
  | brakeFeedbackTimeout => exact heldNext_next (held_brakeTimeout h)
  | spineLinkUp => exact heldNext_next (held_linkUp h)
  | spineLinkDown => exact heldNext_next (held_linkDown h)
  | wakePulse => exact heldNext_next (held_spRow h)
  | cableTest => exact heldNext_next (held_spRow h)
  | cableTestDone => exact heldNext_next (held_testDone h)
  | restoreDownshiftedModes => exact heldNext_next (held_spRow h)
  | fabKeyLoad => exact heldNext_next (held_cplWrite (fun _ _ h1 => held_keyLoadOp h1) h)
  | lbFrameReceived => exact heldNext_next (held_lbFrame h)
  | lbCollision => exact heldNext_next (held_collision h)
  | foreignBeacon => exact heldNext_next (held_foreignBeacon h)
  | plcaResume => exact heldNext_next (held_plcaResume h)
  | announce => exact heldNext_next (held_receive (fun _ h1 => held_announceOp h1) h)
  | heartbeat => exact heldNext_next (held_receive (fun _ h1 => held_heartbeatOp h1) h)
  | peerDead => exact heldNext_next (held_peerDead h)
  | frameForward => exact heldNext_next (held_receive (fun _ h1 => h1) h)
  | takeover => exact heldNext_next (held_receive (fun _ h1 => held_takeoverOp h1) h)
  | fenced => exact heldNext_next (held_receive (fun _ h1 => held_ev h1) h)
  | stale => exact heldNext_next (held_receive (fun _ h1 => held_staleOp h1) h)
  | app => exact heldNext_next (held_receive (fun _ h1 => held_toApp h1) h)
  | ptpSecond => exact heldNext_next (held_ptpSecond h)
  | heartbeatSend => exact heldNext_next (held_heartbeatSend h)
  | settlingEnd => exact heldNext_next (held_settlingEnd h)
  | takeoverStart => exact heldNext_next (held_takeStart h)
  | takeoverCopyDone => exact heldNext_next (held_takeCopied h)
  | takeMaxExpiry => exact heldNext_next (held_takeMax h)
  | sectionClose => exact heldNext_next (held_ite (held_cplWrite (fun _ _ h1 => held_secCmdOp h1) h) h)
  | sectionReopen => exact heldNext_next (held_ite (held_cplWrite (fun _ _ h1 => held_secCmdOp h1) h) h)
  | standbyGiveUpId => exact heldNext_next (held_cplWrite (fun _ _ h1 => held_stbyCmdOp h1) h)
  | fenceRelease => exact heldNext_next (held_cplWrite (fun _ _ h1 => held_fenceCmdOp h1) h)
  | addendWrite => exact heldNext_next (held_writeCmd (fun _ h1 => held_addendOp h1) h)
  | clockStep => exact heldNext_next (held_writeCmd (fun _ h1 => held_clockStepOp h1) h)
  | setSync => exact heldNext_next (held_writeCmd (fun _ h1 => held_ite (held_timCmdOp h1) h1) h)
  | clearSync => exact heldNext_next (held_writeCmd (fun _ h1 => held_ite (held_timCmdOp h1) h1) h)
  | ptpEventMessage => exact heldNext_next (held_ptpEventOp h)
  | syncReceiptTimeout => exact heldNext_next (held_syncTimeout h)
  | txTimestampEnqueue => exact heldNext_next (held_txStampOp h)
  | txqPop => exact heldNext_next (held_writeCmd (fun _ h1 => held_txqPopOp h1) h)
  | txqNsRead => exact heldNext_next (held_ite (held_txqNsOp h) h)
  | nowNsRead => exact heldNext_next (held_ite (held_nowNsOp h) h)
  | snapArm => exact heldNext_next (held_writeCmd (fun _ h1 => held_ite (held_snapArmOp h1) h1) h)
  | snapDisarm => exact heldNext_next (held_writeCmd (fun _ h1 => held_ite h1 (held_snapArmOp h1)) h)
  | timedSnapshotFire => exact heldNext_next (held_snapFire h)
  | recordWrite => exact heldNext_next (held_recordStep h)
  | recClear => exact heldNext_next (held_cplWrite (fun _ _ h1 => held_recClearOp h1) h)
  | cleared => exact heldNext_next (held_clearDone h)
  | recAppCmd => exact heldNext_next (held_writeCmd (fun _ h1 => held_recAppOp h1) h)
  | extest => exact heldNext_next (held_tapChain h)
  | idcode => exact heldNext_next (held_tapSet h)
  | samplePreload => exact heldNext_next (held_tapChain h)
  | bypass => exact heldNext_next (held_ite h (held_tapToBypass h))
  | ptpGeneralMessage => exact heldNext_next (held_ptpGeneralOp h)
  | frameDiscarded => exact heldNext_next (held_ite (held_ite (held_ev (held_incSat h)) (held_discardFrame h)) h)
  | eccDoubleOnAccess => exact heldNext_next (held_eccAccess h)
  | loaderLifeCycleChange => exact heldNext_next (held_loaderChange h)

end Sys2Proof.Machine
end

section
/-!
PROOF. The queue and the invariant (95, 19 R576): what every operation keeps, commands and steps keep.
-/

namespace Sys2Proof.Machine

open Sys2Proof

/-- Settles O60: a command has its effect on everything but the queue. -/
theorem commandsLeaveTheQueue : Obligations.CommandsLeaveTheQueue := fun i s t ht => by
  have hs : Held s.pending False s := ⟨rfl, False.elim⟩
  obtain ⟨hq, -⟩ := heldNext_exec hs i t ht
  exact hq

/-- Settles O58: a tick and every command keep the invariant, by the rule of each operation they are made of. -/
theorem everyStepKeepsTheInvariant : Obligations.EveryStepKeepsTheInvariant := fun s t hinv ht => by
  cases hqueue : s.pending with
  | nil =>
    have hs : Held s.pending True s := ⟨rfl, fun _ => hinv⟩
    rw [step, hqueue] at ht
    obtain ⟨-, hkept⟩ := Host.Outcome.next.inj ht ▸ held_idleTick hs
    exact hkept trivial
  | cons c q =>
    have hs : Held q True (s.withQueue q) := ⟨rfl, fun _ => hinv⟩
    rw [step, hqueue] at ht
    obtain ⟨-, hkept⟩ := heldNext_exec hs c t ht
    exact hkept trivial

end Sys2Proof.Machine
end

section
/-!
PROOF. Writes of registers (05 R132, R133, R148, R152, R341): the way of a word write to its store, and what a store leaves.
-/

namespace Sys2Proof.Machine

open Sys2Proof

/-! ### Where a register stands -/

theorem isSome_findRow_of_acc {a : Nat} {x : Acc} (h : accTypeOf a = some x) : (findRow a).isSome = true := by
  unfold accTypeOf at h
  split at h
  next r hr => rw [hr]; rfl
  · exact absurd h (by simp)

theorem isSome_blockOf_of_acc {a : Nat} {x : Acc} (h : accTypeOf a = some x) : ∃ b, blockOf a = some b := by
  have hrow := isSome_findRow_of_acc h
  unfold findRow at hrow
  split at hrow
  · exact absurd hrow (by simp)
  next b hb => exact ⟨b, hb⟩

theorem occupied_of_acc {a : Nat} {x : Acc} (h : accTypeOf a = some x) : occupied a = true := by
  rw [occupied, isSome_findRow_of_acc h, Bool.or_true]

theorem not_isNarrow_of_acc {a : Nat} {x : Acc} (h : accTypeOf a = some x) (hal : a % 4 = 0) : isNarrow a 4 = false := by
  obtain ⟨b, hb⟩ := isSome_blockOf_of_acc h
  simp [isNarrow, hb, hal]

theorem not_isUnmapped_of_acc {a : Nat} {x : Acc} (h : accTypeOf a = some x) (hal : a % 4 = 0) : isUnmapped a = false := by
  obtain ⟨b, hb⟩ := isSome_blockOf_of_acc h
  have hword : a / 4 * 4 = a := by omega
  simp [isUnmapped, hb, hword, occupied_of_acc h]

theorem idxOf_eq_some {a base n stride i : Nat} (h : idxOf a base n stride = some i) : a = base + stride * i ∧ i < n := by
  unfold idxOf at h
  split at h
  next hc =>
    obtain ⟨hge, hmod, hlt⟩ := hc
    obtain rfl := Option.some.inj h
    have := Nat.div_add_mod (a - base) stride
    exact ⟨by omega, hlt⟩
  · exact absurd h (by simp)

theorem idxOf_self {n stride i : Nat} (base : Nat) (hi : i < n) (hs : 0 < stride) : idxOf (base + stride * i) base n stride = some i := by
  have hdiv : stride * i / stride = i := Nat.mul_div_cancel_left i hs
  simp [idxOf, hdiv, hi]

/-! ### A word write of a register -/

theorem exec_registerWrite_plain {s : State} {core : Sender} {a : Nat} {x : Acc} (v : Word) (hacc : canAccess s core = true)
    (hfree : Unguarded s a) (hal : a % 4 = 0) (hx : accTypeOf a = some x) (hval : x ≠ .gwVal) (hcpl : x ≠ .gwCpl) :
    exec (.registerWrite core a v) s = .next (regWrite core a v s) := by
  change execRegisterWrite core a v s = _
  rw [execRegisterWrite, access32_eq_act true _ hacc (not_isNarrow_of_acc hx hal) (not_isUnmapped_of_acc hx hal)]
  simp only [occupied_of_acc hx, if_true, hx]
  split
  next heq => exact absurd (Option.some.inj heq) hcpl
  next heq => exact absurd (Option.some.inj heq) hval
  · rw [writeCmd_of_unguarded _ hacc hfree]

theorem commandWrite_of_stored {a : Nat} (core : Sender) (v : Word) (s : State) (h : StoredSingle a) : commandWrite core a v s = none := by
  obtain ⟨hrw, hsingle, hal, hadd, hsnap⟩ := h
  have hne : ∀ b, accTypeOf b = some Acc.wo → a ≠ b := fun b hb hab => by simp [hab, hb] at hrw
  have hsp : ∀ p < 4, accTypeOf (Reg.FAB_SP_CMD 0 + 0x20 * p) = some Acc.wo := by decide +kernel
  have htxq : ∀ p < 4, accTypeOf (Reg.TIM_TXQ_POP 0 + 0x20 * p) = some Acc.wo := by decide +kernel
  have hport : ∀ {base : Nat}, (∀ p < 4, accTypeOf (base + 0x20 * p) = some Acc.wo) → idxOf a base 4 0x20 = none := fun hwo => by
    rw [Option.eq_none_iff_forall_ne_some]
    intro p hp
    obtain ⟨hpa, hp4⟩ := idxOf_eq_some hp
    exact hne _ (hwo p hp4) hpa
  unfold commandWrite
  rw [if_neg (hne _ (by decide +kernel)), if_neg (hne _ (by decide +kernel)), if_neg (hne _ (by decide +kernel)),
    if_neg (hne _ (by decide +kernel)), if_neg (hne _ (by decide +kernel)), if_neg (hne _ (by decide +kernel)),
    if_neg (hne _ (by decide +kernel)), if_neg (hne _ (by decide +kernel)), if_neg (hne _ (by decide +kernel)),
    if_neg (hne _ (by decide +kernel)), if_neg (hne _ (by decide +kernel)), if_neg (hne _ (by decide +kernel)),
    if_neg (hne _ (by decide +kernel)), if_neg hadd, if_neg hsnap, if_neg (hne _ (by decide +kernel)),
    if_neg (hne _ (by decide +kernel)), hport hsp, hport htxq]

/-- An RW register of its own that no row of another kind takes: the write is a store. -/
theorem exec_registerWrite_stored {s : State} {core : Sender} {a : Nat} (v : Word) (hacc : canAccess s core = true)
    (hfree : Unguarded s a) (h : StoredSingle a) : exec (.registerWrite core a v) s = .next (rwWrite a v s) := by
  have hcmd := commandWrite_of_stored core v s h
  obtain ⟨hrw, hsingle, hal, -, -⟩ := h
  have hplain : plainAcc a = true := by simp [plainAcc, hrw]
  rw [exec_registerWrite_plain v hacc hfree hal hrw (by decide) (by decide), regWrite, if_pos hplain, hcmd]
  simp only [hsingle]

/-! ### What a store leaves -/

theorem testBit_dirty_storePend {g a : Nat} {w : Word} {s : State} (h : s.bus.frozen.testBit g = false) :
    (storePend g a w s).bus.dirty.testBit g = true := by
  have hset : (setBitN (s.setPend a w).bus.dirty g true).testBit g = true := by rw [testBit_setBitN, if_pos rfl]
  simpa [storePend, h] using hset

theorem storePend_of_thawed {g a : Nat} (w : Word) {s : State} (h : s.bus.frozen.testBit g = false) :
    (storePend g a w s).pendReg a = w ∧ (∀ b, b ≠ a → (storePend g a w s).pendReg b = s.pendReg b) ∧
      (∀ b, (storePend g a w s).reg b = s.reg b) ∧ (storePend g a w s).bus.late = s.bus.late ∧
      storePend g a w s = { s with bus := (storePend g a w s).bus } := by
  rw [storePend, if_neg (by simp [h])]
  exact ⟨State.pendReg_setPend_same s a w, fun b hb => State.pendReg_setPend_ne s a b w hb, fun _ => rfl, rfl, rfl⟩

theorem storePend_of_frozen {g a : Nat} (w : Word) {s : State} (h : s.bus.frozen.testBit g = true) :
    (storePend g a w s).bus.late = s.bus.late ++ [(a, w)] ∧ (∀ b, (storePend g a w s).pendReg b = s.pendReg b) ∧
      (∀ b, (storePend g a w s).reg b = s.reg b) ∧ storePend g a w s = { s with bus := (storePend g a w s).bus } := by
  rw [storePend, if_pos h]
  exact ⟨rfl, fun _ => rfl, fun _ => rfl, rfl⟩

theorem storeReg_of_group {g a : Nat} (w : Word) (s : State) (h : regGroup a = some g) :
    storeReg a w s = storePend g a (w &&& wd (regWmask a)) s := by
  rw [storeReg, h]

theorem storeReg_of_no_group {a : Nat} (w : Word) (s : State) (h : regGroup a = none) :
    storeReg a w s = s.setReg a (w &&& wd (regWmask a)) := by
  rw [storeReg, h]

theorem setReg_frame (a : Nat) (w : Word) (s : State) :
    (s.setReg a w).reg a = w ∧ RegsBut [a] s (s.setReg a w) ∧ (∀ b, (s.setReg a w).pendReg b = s.pendReg b) ∧
      s.setReg a w = { s with bus := (s.setReg a w).bus } :=
  ⟨State.reg_setReg_same s a w, regsBut_setReg (by simp) s w, fun _ => rfl, rfl⟩

/-! ### The two registers whose writes change the value (08, TRJ_AXISn_OVR; 18, FAB_MRTm) -/

theorem overrideRow : ∀ n < 8, accTypeOf (Reg.TRJ_AXIS_OVR n) = some Acc.rw ∧ pairRole (Reg.TRJ_AXIS_OVR n) = .single ∧
    regGroup (Reg.TRJ_AXIS_OVR n) = none ∧ regWmask (Reg.TRJ_AXIS_OVR n) = 0x1ffff ∧ sectOnly (Reg.TRJ_AXIS_OVR n) = false := by
  decide +kernel

theorem memberRow : ∀ m < 256, accTypeOf (Reg.FAB_MRT m) = some Acc.rw ∧ pairRole (Reg.FAB_MRT m) = .single ∧
    regGroup (Reg.FAB_MRT m) = some 6 ∧ regWmask (Reg.FAB_MRT m) = 0xc0000003 ∧ sectOnly (Reg.FAB_MRT m) = false := by
  decide +kernel

theorem roleIdle_eq_false {s : State} {a : Nat} (hdoor : a < 0x40030c00 ∨ 0x40030c88 ≤ a) (hsect : sectOnly a = false) :
    roleIdle s a = false := by
  have hrange : ¬ (0x40030c00 ≤ a ∧ a < 0x40030c88) := by omega
  have habsent : doorAbsent s a = false := by
    rw [doorAbsent, Bool.and_assoc, ← Bool.decide_and, decide_eq_false hrange, Bool.and_false]
  rw [roleIdle, habsent, hsect, Bool.and_false, Bool.or_false]

theorem storedWord_of_override {s : State} {n : Nat} (v : Word) (hn : n < 8) :
    storedWord s (Reg.TRJ_AXIS_OVR n) v = if 65536 < (v &&& 0x1ffff).toNat then 65536 else v := by
  have hidx : idxOf (Reg.TRJ_AXIS_OVR n) (Reg.TRJ_AXIS_OVR 0) 8 0x40 = some n := idxOf_self (Reg.TRJ_AXIS_OVR 0) hn (by decide)
  rw [storedWord, hidx]
  rfl

/-- The low 17 bits of a word, as the mask reads them. -/
theorem toNat_and_override (v : Word) : (v &&& 0x1ffff).toNat = v.toNat % 2 ^ 17 := by
  rw [BitVec.toNat_and]
  exact Nat.and_two_pow_sub_one_eq_mod v.toNat 17

theorem override_stored (v : Word) :
    (if 65536 < (v &&& 0x1ffff).toNat then (65536 : Word) else v) &&& wd 0x1ffff = wd (min (v.toNat % 2 ^ 17) 65536) := by
  apply BitVec.eq_of_toNat_eq
  have hmask : ∀ w : Word, (w &&& wd 0x1ffff).toNat = w.toNat % 2 ^ 17 := toNat_and_override
  have hlt := Nat.mod_lt v.toNat (by decide : 0 < 2 ^ 17)
  rw [hmask, toNat_and_override]
  have hmin : (wd (min (v.toNat % 2 ^ 17) 65536)).toNat = min (v.toNat % 2 ^ 17) 65536 := by
    rw [wd, BitVec.toNat_ofNat, Nat.mod_eq_of_lt (by omega)]
  rw [hmin]
  split
  next h => rw [min_eq_right (le_of_lt h)]; rfl
  next h => omega

theorem storedWord_of_member {s : State} {m : Nat} {v : Word} (hm : m < 256) (hlearned : v.getLsbD 30 = true) :
    storedWord s (Reg.FAB_MRT m) v = (s.pendReg (Reg.FAB_MRT m) &&& 0x80000003) ||| 0x40000000 := by
  have hother : idxOf (Reg.FAB_MRT m) (Reg.TRJ_AXIS_OVR 0) 8 0x40 = none := by
    rw [Option.eq_none_iff_forall_ne_some]
    intro n hn
    obtain ⟨heq, hn8⟩ := idxOf_eq_some hn
    have : 0x40090b00 + 0x4 * m = 0x4003001c + 0x40 * 0 + 0x40 * n := heq
    omega
  have hidx : idxOf (Reg.FAB_MRT m) (Reg.FAB_MRT 0) 256 4 = some m := idxOf_self (Reg.FAB_MRT 0) hm (by decide)
  have hbit : bitOf v 30 = true := hlearned
  rw [storedWord, hother, hidx]
  simp [hbit]

theorem member_stored (p : Word) : ((p &&& 0x80000003) ||| 0x40000000) &&& wd 0xc0000003 = (p &&& 0x80000003) ||| 0x40000000 := by
  rw [BitVec.and_or_distrib_right, BitVec.and_assoc]
  rfl

/-- Any other register takes the word written. -/
theorem storedWord_of_other {s : State} {a : Nat} (v : Word) (hovr : idxOf a (Reg.TRJ_AXIS_OVR 0) 8 0x40 = none)
    (hmrt : idxOf a (Reg.FAB_MRT 0) 256 4 = none) : storedWord s a v = v := by
  rw [storedWord, hovr, hmrt]
  rfl

theorem idxOf_override_of_group {a g : Nat} (h : regGroup a = some g) : idxOf a (Reg.TRJ_AXIS_OVR 0) 8 0x40 = none := by
  rw [Option.eq_none_iff_forall_ne_some]
  intro n hn
  obtain ⟨rfl, hn8⟩ := idxOf_eq_some hn
  obtain ⟨-, -, hnone, -, -⟩ := overrideRow n hn8
  exact absurd (hnone.symm.trans h) (by simp)

theorem idxOf_member_of_no_group {a : Nat} (h : regGroup a = none) : idxOf a (Reg.FAB_MRT 0) 256 4 = none := by
  rw [Option.eq_none_iff_forall_ne_some]
  intro m hm
  obtain ⟨rfl, hm256⟩ := idxOf_eq_some hm
  obtain ⟨-, -, hsome, -, -⟩ := memberRow m hm256
  exact absurd (h.symm.trans hsome) (by simp)

theorem rwWrite_of_active {s : State} {a : Nat} (v : Word) (h : roleIdle s a = false) : rwWrite a v s = storeReg a (storedWord s a v) s := by
  rw [rwWrite, h]
  rfl

/-- A word of INT_ROUTE has no row of the map. -/
theorem not_isRoute_of_acc {a : Nat} {x : Acc} (h : accTypeOf a = some x) : isRoute a = false := by
  by_contra hroute
  simp only [isRoute, Bool.not_eq_false, Bool.and_eq_true, decide_eq_true_eq] at hroute
  obtain ⟨⟨hlo, hhi⟩, -⟩ := hroute
  have hblock : blockOf a = some 13 := by
    rw [blockOf, regBase, if_pos (by omega)]
    congr 1
    omega
  have hrow := isSome_findRow_of_acc h
  simp only [findRow, hblock, rowsOf, rowsINT, RegRow.arr, RegRow.holds, List.find?_cons, List.find?_nil] at hrow
  simp [show ¬ (0x400d2000 ≤ a) by omega] at hrow

/-- Settles O2: a word write of an RW register is a store into its pending copy, held back, or taken at once, as its row says. -/
theorem registerWriteStores : Obligations.RegisterWriteStores := by
  intro s core a v hacc hfree hal
  refine ⟨?thawed, ?frozen, ?atOnce, ?override, ?member, ?idle, ?readOnly⟩
  case thawed =>
    intro g hstored hgroup hactive hmrt hthawed
    have hstore : rwWrite a v s = storePend g a (v &&& wd (regWmask a)) s := by
      rw [rwWrite_of_active v hactive, storedWord_of_other v (idxOf_override_of_group hgroup) hmrt, storeReg_of_group v s hgroup]
    obtain ⟨hpend, hothers, hregs, hlate, hbus⟩ := storePend_of_thawed (a := a) (v &&& wd (regWmask a)) hthawed
    exact ⟨_, (exec_registerWrite_stored v hacc hfree hstored).trans (congrArg _ hstore), hpend, hothers, hregs,
      testBit_dirty_storePend hthawed, hlate, hbus⟩
  case frozen =>
    intro g hstored hgroup hactive hmrt hfrozen
    have hstore : rwWrite a v s = storePend g a (v &&& wd (regWmask a)) s := by
      rw [rwWrite_of_active v hactive, storedWord_of_other v (idxOf_override_of_group hgroup) hmrt, storeReg_of_group v s hgroup]
    exact ⟨_, (exec_registerWrite_stored v hacc hfree hstored).trans (congrArg _ hstore),
      storePend_of_frozen (a := a) (v &&& wd (regWmask a)) hfrozen⟩
  case atOnce =>
    intro hstored hgroup hactive hovr
    have hstore : rwWrite a v s = s.setReg a (v &&& wd (regWmask a)) := by
      rw [rwWrite_of_active v hactive, storedWord_of_other v hovr (idxOf_member_of_no_group hgroup), storeReg_of_no_group v s hgroup]
    exact ⟨_, (exec_registerWrite_stored v hacc hfree hstored).trans (congrArg _ hstore), setReg_frame a _ s⟩
  case override =>
    rintro n hn rfl
    obtain ⟨hrw, hsingle, hgroup, hmask, hsect⟩ := overrideRow n hn
    have hne : 0x4003001c + 0x40 * n ≠ 0x400a0004 ∧ 0x4003001c + 0x40 * n ≠ 0x400a0030 := by omega
    have hstored : StoredSingle (Reg.TRJ_AXIS_OVR n) := ⟨hrw, hsingle, hal, hne.1, hne.2⟩
    have hrange : 0x4003001c + 0x40 * n < 0x40030c00 := by omega
    have hactive : roleIdle s (Reg.TRJ_AXIS_OVR n) = false := roleIdle_eq_false (.inl hrange) hsect
    have hstore : rwWrite (Reg.TRJ_AXIS_OVR n) v s = s.setReg (Reg.TRJ_AXIS_OVR n) (wd (min (v.toNat % 2 ^ 17) 65536)) := by
      rw [rwWrite_of_active v hactive, storedWord_of_override v hn, storeReg_of_no_group _ s hgroup, hmask, override_stored]
    exact ⟨_, (exec_registerWrite_stored v hacc hfree hstored).trans (congrArg _ hstore), setReg_frame _ _ s⟩
  case member =>
    rintro m hm rfl hthawed hlearned
    obtain ⟨hrw, hsingle, hgroup, hmask, hsect⟩ := memberRow m hm
    have hne : 0x40090b00 + 0x4 * m ≠ 0x400a0004 ∧ 0x40090b00 + 0x4 * m ≠ 0x400a0030 := by omega
    have hstored : StoredSingle (Reg.FAB_MRT m) := ⟨hrw, hsingle, hal, hne.1, hne.2⟩
    have hrange : 0x40030c88 ≤ 0x40090b00 + 0x4 * m := by omega
    have hactive : roleIdle s (Reg.FAB_MRT m) = false := roleIdle_eq_false (.inr hrange) hsect
    have hstore : rwWrite (Reg.FAB_MRT m) v s =
        storePend 6 (Reg.FAB_MRT m) ((s.pendReg (Reg.FAB_MRT m) &&& 0x80000003) ||| 0x40000000) s := by
      rw [rwWrite_of_active v hactive, storedWord_of_member hm hlearned, storeReg_of_group _ s hgroup, hmask, member_stored]
    obtain ⟨hpend, hothers, hregs, -, hbus⟩ := storePend_of_thawed (a := Reg.FAB_MRT m)
      ((s.pendReg (Reg.FAB_MRT m) &&& 0x80000003) ||| 0x40000000) hthawed
    exact ⟨_, (exec_registerWrite_stored v hacc hfree hstored).trans (congrArg _ hstore), hpend, hothers, hregs, hbus⟩
  case idle =>
    intro hstored hidle
    have hstore : rwWrite a v s = s := by rw [rwWrite, if_pos hidle]
    exact ⟨_, (exec_registerWrite_stored v hacc hfree hstored).trans (congrArg _ hstore), rfl⟩
  case readOnly =>
    intro hro
    have hplain : plainAcc a = false := by simp [plainAcc, hro, not_isRoute_of_acc hro]
    refine ⟨_, exec_registerWrite_plain v hacc hfree hal hro (by decide) (by decide), ?_⟩
    rw [regWrite, if_neg (by simp [hplain])]

end Sys2Proof.Machine
end

section
/-!
PROOF. 64-bit pairs (05 R138 to R141): one instant's value for each reader, one value from each writer.
-/

namespace Sys2Proof.Machine

open Sys2Proof

/-! ### What one sender keeps is none of another's -/

theorem perSender_ne {lo : Nat} {c core : Sender} (h : c ≠ core) : perSender lo c ≠ perSender lo core := by
  have hval : c.val ≠ core.val := fun hv => h (Fin.ext hv)
  unfold perSender
  omega

theorem holdOf_setHold_ne {lo : Nat} {c core : Sender} (h : c ≠ core) (w : Word) (s : State) :
    holdOf (setHold lo core w s) lo c = holdOf s lo c := smGet_smSet_ne _ _ _ _ _ _ (perSender_ne h)

/-! ### Reads -/

theorem readReg_of_lo {s : State} {core : Sender} {a : Nat} (hread : readable a = true) (hlo : pairRole a = .lo) :
    readReg s core a = instantWord s core a := by
  simp [readReg, hread, hlo]

theorem readReg_of_hi {s : State} {core : Sender} {a : Nat} (hread : readable (a + 4) = true) (hhi : pairRole (a + 4) = .hi) :
    readReg s core (a + 4) = shadowOf s a core := by
  simp [readReg, hread, hhi]

theorem loReadOp_spec (s : State) (core : Sender) {a : Nat} (hlo : pairRole a = .lo) (hhi : pairRole (a + 4) = .hi)
    (hread : readable a = true) (hread' : readable (a + 4) = true) :
    smGet 0 (loReadOp core a s).bus.rdata core.val = instantWord s core a ∧
      readReg (loReadOp core a s) core (a + 4) = instantWord s core (a + 4) ∧
      (∀ c : Sender, c ≠ core → readReg (loReadOp core a s) c (a + 4) = readReg s c (a + 4)) ∧
      RegsBut [] s (loReadOp core a s) ∧ (∀ c, (loReadOp core a s).pendReg c = s.pendReg c) ∧
      loReadOp core a s = { s with bus := (loReadOp core a s).bus } := by
  have heq : loReadOp core a s = setShadow a core (instantWord s core (a + 4)) (setRdata core (instantWord s core a) s) := by
    rw [loReadOp, hread', readReg_of_lo hread hlo]
    rfl
  rw [heq]
  refine ⟨setRdata_rdata_same core _ s, ?_, fun c hc => ?_, fun _ _ => rfl, fun _ => rfl, rfl⟩
  · rw [readReg_of_hi hread' hhi, shadowOf_setShadow_same]
  · rw [readReg_of_hi hread' hhi, shadowOf_setShadow_ne _ _ (.inr hc), shadowOf_setRdata, readReg_of_hi hread' hhi]

theorem exec_pairLoRead {s : State} {core : Sender} {a : Nat} (hacc : canAccess s core = true) (hlo : pairRole a = .lo) :
    exec (.pairLoRead core a) s = .next (loReadOp core a s) := by
  change Host.Outcome.next (if canAccess s core && pairRole a == .lo then _ else _) = _
  simp [hacc, hlo]

/-! ### Writes -/

/-- A pair lies in one block: no block begins with a HI register. -/
theorem blockOf_hi {lo : Nat} {x : Acc} (hx : accTypeOf lo = some x) (hal : lo % 4 = 0) (hhi : pairRole (lo + 4) = .hi) :
    blockOf (lo + 4) = blockOf lo := by
  have hfirst : ∀ b < 15, pairRole (0x40000000 + 0x10000 * b) ≠ .hi := by decide +kernel
  have hend : pairRole 0x400f0000 ≠ .hi := by decide +kernel
  obtain ⟨b, hb⟩ := isSome_blockOf_of_acc hx
  have hrange : 0x40000000 ≤ lo ∧ lo < 0x400f0000 := by
    rw [blockOf, regBase] at hb
    split at hb
    next h => omega
    · exact absurd hb (by simp)
  have hinside : (lo + 4 - 0x40000000) % 0x10000 ≠ 0 := fun hzero => by
    obtain hlt | heq : (lo + 4 - 0x40000000) / 0x10000 < 15 ∨ lo + 4 = 0x400f0000 := by omega
    · have hbase : 0x40000000 + 0x10000 * ((lo + 4 - 0x40000000) / 0x10000) = lo + 4 := by omega
      refine hfirst _ hlt ?_
      rw [hbase]
      exact hhi
    · exact hend (heq ▸ hhi)
  have hsame : (lo + 4 - 0x40000000) / 0x10000 = (lo - 0x40000000) / 0x10000 := by omega
  have hlo4 : 0x40000000 ≤ lo + 4 ∧ lo + 4 < 0x40000000 + 0xf0000 := by omega
  have hlo0 : 0x40000000 ≤ lo ∧ lo < 0x40000000 + 0xf0000 := by omega
  have h4 : blockOf (lo + 4) = some ((lo + 4 - 0x40000000) / 0x10000) := if_pos hlo4
  have h0 : blockOf lo = some ((lo - 0x40000000) / 0x10000) := if_pos hlo0
  rw [h4, h0, hsame]

theorem exec_pairLoWrite {s : State} {core : Sender} {lo : Nat} (w : Word) (hacc : canAccess s core = true) (hfree : Unguarded s lo)
    (hrw : accTypeOf lo = some .rw) (hlo : pairRole lo = .lo) (hactive : roleIdle s lo = false) :
    exec (.pairLoWrite core lo w) s = .next (setHold lo core w s) := by
  have hplain : plainAcc lo = true := by simp [plainAcc, hrw]
  change Host.Outcome.next (if pairRole lo == .lo then _ else _) = _
  rw [if_pos (by simp [hlo]), writeCmd_of_unguarded _ hacc hfree, if_pos hplain, loWrite, hactive]
  rfl

theorem exec_pairHiWrite {s : State} {core : Sender} {lo : Nat} (v : Word) (hacc : canAccess s core = true) (hfree : Unguarded s lo)
    (hpair : StoredPair lo) (hactive : roleIdle s (lo + 4) = false) :
    exec (.pairHiWrite core (lo + 4) v) s = .next (storeReg (lo + 4) v (storeReg lo (holdOf s lo core) (setHold lo core 0 s))) := by
  obtain ⟨hrw, hrw', hlo, hhi, hgroup, hal, hcmp⟩ := hpair
  have hplain : plainAcc (lo + 4) = true := by simp [plainAcc, hrw']
  have hfree' : Unguarded s (lo + 4) := by rw [Unguarded, blockOf_hi hrw hal hhi]; exact hfree
  have hstep : lo + 4 ≠ Reg.TIM_STEP_HI := fun heq => by
    have hwo : accTypeOf Reg.TIM_STEP_HI = some .wo := by decide +kernel
    rw [heq, hwo] at hrw'
    exact absurd hrw' (by decide)
  change Host.Outcome.next (if pairRole (lo + 4) == .hi then _ else _) = _
  rw [if_pos (by simp [hhi]), writeCmd_of_unguarded _ hacc hfree', if_pos hplain, hiWrite, hactive, if_neg (by simp), if_neg hstep, hcmp]
  rfl

theorem storeReg_keeps (a : Nat) (w : Word) (s : State) :
    (storeReg a w s).bus.hold = s.bus.hold ∧ (storeReg a w s).bus.frozen = s.bus.frozen ∧ storeReg a w s = { s with bus := (storeReg a w s).bus } := by
  unfold storeReg
  dsimp only
  split
  · unfold storePend
    split <;> exact ⟨rfl, rfl, rfl⟩
  · exact ⟨rfl, rfl, rfl⟩

/-- Both words of a pair stored. -/
theorem storePair_spec {lo : Nat} (w v : Word) (s : State) (hgroup : regGroup (lo + 4) = regGroup lo) :
    (regGroup lo = none → (storeReg (lo + 4) v (storeReg lo w s)).reg lo = w &&& wd (regWmask lo) ∧
        (storeReg (lo + 4) v (storeReg lo w s)).reg (lo + 4) = v &&& wd (regWmask (lo + 4)) ∧
        RegsBut [lo, lo + 4] s (storeReg (lo + 4) v (storeReg lo w s)) ∧
        ∀ b, (storeReg (lo + 4) v (storeReg lo w s)).pendReg b = s.pendReg b) ∧
      (∀ g, regGroup lo = some g → s.bus.frozen.testBit g = false →
        (storeReg (lo + 4) v (storeReg lo w s)).pendReg lo = w &&& wd (regWmask lo) ∧
        (storeReg (lo + 4) v (storeReg lo w s)).pendReg (lo + 4) = v &&& wd (regWmask (lo + 4)) ∧
        RegsBut [] s (storeReg (lo + 4) v (storeReg lo w s)) ∧
        ∀ b, b ≠ lo → b ≠ lo + 4 → (storeReg (lo + 4) v (storeReg lo w s)).pendReg b = s.pendReg b) ∧
      ∀ g, regGroup lo = some g → s.bus.frozen.testBit g = true → RegsBut [] s (storeReg (lo + 4) v (storeReg lo w s)) ∧
        ∀ b, (storeReg (lo + 4) v (storeReg lo w s)).pendReg b = s.pendReg b := by
  obtain ⟨-, hfrozen, -⟩ := storeReg_keeps lo w s
  refine ⟨fun hnone => ?_, fun g hg hthawed => ?_, fun g hg hfz => ?_⟩
  · obtain ⟨hreg, hother, hpend, -⟩ := setReg_frame lo (w &&& wd (regWmask lo)) s
    obtain ⟨hreg', hother', hpend', -⟩ := setReg_frame (lo + 4) (v &&& wd (regWmask (lo + 4))) (s.setReg lo (w &&& wd (regWmask lo)))
    rw [storeReg_of_no_group w s hnone, storeReg_of_no_group v _ (hgroup.trans hnone)]
    exact ⟨(hother' lo (by simp)).trans hreg, hreg', (hother.mono (by simp)).trans (hother'.mono (by simp)),
      fun b => (hpend' b).trans (hpend b)⟩
  · rw [storeReg_of_group v _ (hgroup.trans hg)]
    rw [storeReg_of_group w s hg] at hfrozen ⊢
    obtain ⟨hpend, hother, hregs, -, -⟩ := storePend_of_thawed (a := lo) (w &&& wd (regWmask lo)) hthawed
    obtain ⟨hpend', hother', hregs', -, -⟩ := storePend_of_thawed (a := lo + 4) (v &&& wd (regWmask (lo + 4)))
      ((congrArg (Nat.testBit · g) hfrozen).trans hthawed)
    exact ⟨(hother' lo (by simp)).trans hpend, hpend', fun b _ => (hregs' b).trans (hregs b),
      fun b hb hb' => (hother' b hb').trans (hother b hb)⟩
  · rw [storeReg_of_group v _ (hgroup.trans hg)]
    rw [storeReg_of_group w s hg] at hfrozen ⊢
    obtain ⟨-, hpend, hregs, -⟩ := storePend_of_frozen (a := lo) (w &&& wd (regWmask lo)) hfz
    obtain ⟨-, hpend', hregs', -⟩ := storePend_of_frozen (a := lo + 4) (v &&& wd (regWmask (lo + 4)))
      ((congrArg (Nat.testBit · g) hfrozen).trans hfz)
    exact ⟨fun b _ => (hregs' b).trans (hregs b), fun b => (hpend' b).trans (hpend b)⟩

theorem setHold_frame (lo : Nat) (core : Sender) (w : Word) (s : State) :
    RegsBut [] s (setHold lo core w s) ∧ (∀ b, (setHold lo core w s).pendReg b = s.pendReg b) ∧
      (setHold lo core w s).bus.frozen = s.bus.frozen ∧ setHold lo core w s = { s with bus := (setHold lo core w s).bus } :=
  ⟨fun _ _ => rfl, fun _ => rfl, rfl, rfl⟩

/-- Settles O4: a LO read keeps HI of its instant for its reader, and a HI write writes what the writer's LO write left. -/
theorem pairAccessesAreWhole : Obligations.PairAccessesAreWhole := by
  refine ⟨fun s core a hacc hlo hhi hread hread' =>
    ⟨_, exec_pairLoRead hacc hlo, loReadOp_spec s core hlo hhi hread hread'⟩, fun s core lo w v hacc hfree hpair hactive hactive' => ?_⟩
  obtain ⟨hrw, hrw', hlo, hhi, hgroup, hal, hcmp⟩ := hpair
  refine ⟨⟨_, exec_pairLoWrite w hacc hfree hrw hlo hactive, holdOf_setHold_same lo core w s, fun c hc => holdOf_setHold_ne hc w s,
    fun _ _ => rfl, fun _ => rfl, rfl⟩, _, exec_pairHiWrite v hacc hfree ⟨hrw, hrw', hlo, hhi, hgroup, hal, hcmp⟩ hactive', ?_⟩
  obtain ⟨hregs, hpend, hfrozen, hbus⟩ := setHold_frame lo core 0 s
  obtain ⟨hnone, hthawed, hheld⟩ := storePair_spec (holdOf s lo core) v (setHold lo core 0 s) hgroup
  obtain ⟨hhold, -, hbus'⟩ := storeReg_keeps lo (holdOf s lo core) (setHold lo core 0 s)
  obtain ⟨hhold', -, hbus''⟩ := storeReg_keeps (lo + 4) v (storeReg lo (holdOf s lo core) (setHold lo core 0 s))
  refine ⟨?_, fun h => ?_, fun g hg hz => ?_, fun g hg hz => ?_, ?_⟩
  · rw [holdOf, hhold', hhold]
    exact holdOf_setHold_same lo core 0 s
  · exact hnone h
  · exact hthawed g hg hz
  · exact hheld g hg hz
  · rw [hbus'', hbus']
    rfl

end Sys2Proof.Machine
end

section
/-!
PROOF. Guarded writes and refused accesses (05 R129, R130, R153, R154; 23 R640 to R642).
-/

namespace Sys2Proof.Machine

open Sys2Proof

/-! ### An error told of: an event and the address -/

/-- Event `f` of SYS_EVENT raised, with the address `a` of the access. -/
def TellsOf (f : FRef) (a : Nat) (s t : State) : Prop :=
  t.flag f = true ∧ t.reg Reg.SYS_ERR_ADDR = wd a ∧ RegsBut [Reg.SYS_EVENT, Reg.SYS_ERR_ADDR] s t ∧ (∀ b, t.pendReg b = s.pendReg b) ∧
    t.bus.guards = s.bus.guards ∧ t.bus.rdata = s.bus.rdata ∧ t = { s with bus := t.bus }

theorem tellsOf_errAddr_ev {f : FRef} (a : Nat) (s : State) (hf : f.addr = Reg.SYS_EVENT) (hb : f.bits.lo ≤ f.bits.hi)
    (h31 : f.bits.hi < 32) : TellsOf f a s (errAddr a (s.ev f)) := by
  refine ⟨?_, State.reg_setReg_same _ _ _, fun b hb => ?_, fun _ => rfl, rfl, rfl, rfl⟩
  · exact (flag_of_reg_eq (State.reg_setReg_ne (s.ev f) Reg.SYS_ERR_ADDR f.addr (wd a) (by rw [hf]; decide))).trans
      (State.flag_ev s f hb h31)
  · simp only [List.mem_cons, List.not_mem_nil, or_false, not_or] at hb
    obtain ⟨hevent, herr⟩ := hb
    exact (State.reg_setReg_ne _ _ _ _ herr).trans (State.reg_ev_ne s f b (hf ▸ hevent))

theorem tellsOf_guardErr (a : Nat) (s : State) : TellsOf F.SYS_EVENT.GUARD_ERR a s (guardErr a s) :=
  tellsOf_errAddr_ev a s rfl (by decide) (by decide)

theorem tellsOf_narrowErr (a : Nat) (s : State) : TellsOf F.SYS_EVENT.NARROW a s (narrowErr a s) :=
  tellsOf_errAddr_ev a s rfl (by decide) (by decide)

theorem tellsOf_unmappedErr (a : Nat) (s : State) : TellsOf F.SYS_EVENT.UNMAPPED a s (unmappedErr a s) :=
  tellsOf_errAddr_ev a s rfl (by decide) (by decide)

/-! ### Arming -/

theorem armGuard_spec {a b : Nat} (v : Word) (s : State) (hb : blockOf a = some b) :
    Armed (armGuard a v s) a v ∧ (∀ c, (armGuard a v s).reg c = s.reg c) ∧ (∀ c, (armGuard a v s).pendReg c = s.pendReg c) ∧
      armGuard a v s = { s with bus := (armGuard a v s).bus } := by
  have harm : armGuard a v s = { s with bus := { s.bus with guards := smPut s.bus.guards b ⟨a, v, s.tb.tick⟩ } } := by rw [armGuard, hb]
  rw [harm]
  refine ⟨?_, fun _ => rfl, fun _ => rfl, rfl⟩
  simp [Armed, hb, smFind_smPut_same]

theorem touch_of_guarded {s : State} {a : Nat} (h : ¬ Unguarded s a) : ∃ b, touch a s = guardErr a (dropGuard b s) := by
  unfold Unguarded at h
  unfold touch
  split
  next hnone => exact absurd (by rw [hnone]; rfl) h
  next b hb =>
    rw [hb, Option.bind_some] at h
    split
    next hnone => exact absurd hnone h
    · exact ⟨b, rfl⟩

/-! ### Completing -/

theorem exec_registerWrite_cpl {s : State} {core : Sender} {va : Nat} (c : Word) (hacc : canAccess s core = true)
    (hcpl : accTypeOf (va + 4) = some .gwCpl) (hal : (va + 4) % 4 = 0) :
    exec (.registerWrite core (va + 4) c) s = .next (cplWrite core va c (gwAct core va) s) := by
  change execRegisterWrite core (va + 4) c s = _
  rw [execRegisterWrite, access32_eq_act true _ hacc (not_isNarrow_of_acc hcpl hal) (not_isUnmapped_of_acc hcpl hal)]
  simp only [occupied_of_acc hcpl, if_true, hcpl, Nat.add_sub_cancel]

/-- A completion that answers no armed value is told of, and no guarded write of the block stays armed. -/
theorem cplWrite_of_not_armed {s : State} {core : Sender} {va b : Nat} {c : Word} (act : Word → State → State)
    (hacc : canAccess s core = true) (hb : blockOf va = some b) (hnot : ¬ Armed s va (~~~ c)) :
    ∃ u, cplWrite core va c act s = guardErr (va + 4) u ∧ Unguarded u va ∧ (∀ a, u.reg a = s.reg a) ∧ (∀ a, u.pendReg a = s.pendReg a) ∧
      u = { s with bus := u.bus } := by
  rw [cplWrite, if_pos hacc]
  simp only [hb]
  split
  next hnone => exact ⟨s, rfl, by rw [Unguarded, hb]; exact hnone, fun _ => rfl, fun _ => rfl, rfl⟩
  next g hg =>
    have hfail : ¬ (g.addr = va ∧ c = ~~~ g.val ∧ s.tb.tick ≤ g.tick + guardTicks) := fun ⟨haddr, hval, htime⟩ =>
      hnot (by simp [Armed, hb, hg, haddr, hval, htime])
    rw [if_neg hfail]
    exact ⟨dropGuard b s, rfl, unguarded_of_guards_eq_dropGuard hb rfl, fun _ => rfl, fun _ => rfl, rfl⟩

theorem unguarded_of_guards_eq {s t : State} {a : Nat} (h : t.bus.guards = s.bus.guards) (hfree : Unguarded s a) : Unguarded t a := by
  rw [Unguarded, h]
  exact hfree

/-- Settles O5: a VAL write arms, and a completion that does not answer it is an error that discards it. -/
theorem guardedWritesArmAndBreak : Obligations.GuardedWritesArmAndBreak := by
  refine ⟨fun s core a v hacc hval => ?arms, fun s core va c hacc hcpl hal hblock hnot => ?breaks⟩
  case arms =>
    obtain ⟨b, hb⟩ := isSome_blockOf_of_acc hval
    obtain ⟨harmed, hregs, hpend, hbus⟩ := armGuard_spec v (touch a s) hb
    have hexec : exec (.guardedValWrite core a v) s = .next (armGuard a v (touch a s)) := by
      change Host.Outcome.next (if accTypeOf a = some .gwVal then writeCmd core a (armGuard a v) s else s) = _
      rw [if_pos hval, writeCmd, if_pos hacc]
    by_cases hfree : Unguarded s a
    · rw [touch_of_unguarded hfree] at hexec harmed hregs hpend hbus
      exact ⟨_, hexec, harmed, hbus, hpend, fun _ b _ => hregs b, fun h => absurd hfree h⟩
    · obtain ⟨b', htouch⟩ := touch_of_guarded hfree
      obtain ⟨hflag, haddr, hkept, hpend', -, -, hbus'⟩ := tellsOf_guardErr a (dropGuard b' s)
      rw [htouch] at hexec harmed hregs hpend hbus
      refine ⟨_, hexec, harmed, hbus.trans (by rw [hbus']; rfl), fun c => (hpend c).trans (hpend' c), fun h => absurd h hfree,
        fun _ => ⟨fun c hc => (hregs c).trans (hkept c hc), (flag_of_reg_eq (hregs _)).trans hflag, (hregs _).trans haddr⟩⟩
  case breaks =>
    obtain ⟨b, hb⟩ := isSome_blockOf_of_acc hcpl
    obtain ⟨u, hu, hfree, hregs, hpend, hbus⟩ := cplWrite_of_not_armed (gwAct core va) hacc (hblock.trans hb) hnot
    obtain ⟨hflag, haddr, hkept, hpend', hguards, -, hbus'⟩ := tellsOf_guardErr (va + 4) u
    refine ⟨_, (exec_registerWrite_cpl c hacc hcpl hal).trans (congrArg _ hu), hflag, haddr, unguarded_of_guards_eq hguards hfree,
      fun a ha => (hkept a ha).trans (hregs a), fun a => (hpend' a).trans (hpend a), ?_⟩
    rw [hbus', hbus]

/-! ### Refused accesses -/

theorem refused_of_unguarded {s : State} {a : Nat} (core : Sender) (wr : Bool) (hfree : Unguarded s a) :
    (wr = false → smGet 0 (refused core wr a s).bus.rdata core.val = 0) ∧ (∀ b, (refused core wr a s).reg b = s.reg b) ∧
      (∀ b, (refused core wr a s).pendReg b = s.pendReg b) ∧ refused core wr a s = { s with bus := (refused core wr a s).bus } := by
  cases wr with
  | true =>
    rw [refused, if_pos rfl, touch_of_unguarded hfree]
    exact ⟨fun h => absurd h (by simp), fun _ => rfl, fun _ => rfl, rfl⟩
  | false => exact ⟨fun _ => setRdata_rdata_same core 0 s, fun _ => rfl, fun _ => rfl, rfl⟩

theorem exec_narrowAccess {s : State} {core : Sender} {wr : Bool} {a w : Nat} (hacc : canAccess s core = true) (h : isNarrow a w = true) :
    exec (.narrowAccess core wr a w) s = .next (narrowOp core wr a s) := by
  change Host.Outcome.next (if canAccess s core && isNarrow a w then _ else _) = _
  simp [hacc, h]

theorem exec_unmappedAccess {s : State} {core : Sender} {wr : Bool} {a : Nat} (hacc : canAccess s core = true) (h : isUnmapped a = true) :
    exec (.unmappedAccess core wr a) s = .next (unmappedErr a (refused core wr a s)) := by
  change Host.Outcome.next (if canAccess s core && isUnmapped a then _ else _) = _
  simp only [hacc, h, Bool.and_self, if_true, unmappedOp]

/-- The flags of SYS_EVENT that an error of another kind leaves. -/
theorem flag_unmapped_narrowErr (a : Nat) (s : State) : (narrowErr a s).flag F.SYS_EVENT.UNMAPPED = s.flag F.SYS_EVENT.UNMAPPED :=
  (flag_of_reg_eq (State.reg_setReg_ne _ _ _ _ (by decide))).trans
    (State.flag_put_bits s F.SYS_EVENT.NARROW F.SYS_EVENT.UNMAPPED 1 rfl (by decide) (by decide) (by decide))

theorem flag_narrow_unmappedErr (a : Nat) (s : State) : (unmappedErr a s).flag F.SYS_EVENT.NARROW = s.flag F.SYS_EVENT.NARROW :=
  (flag_of_reg_eq (State.reg_setReg_ne _ _ _ _ (by decide))).trans
    (State.flag_put_bits s F.SYS_EVENT.UNMAPPED F.SYS_EVENT.NARROW 1 rfl (by decide) (by decide) (by decide))

theorem TellsOf.mono {f : FRef} {a : Nat} {s t u : State} (h : TellsOf f a t u) (hregs : ∀ b, t.reg b = s.reg b)
    (hpend : ∀ b, t.pendReg b = s.pendReg b) (hbus : t = { s with bus := t.bus }) :
    RegsBut [Reg.SYS_EVENT, Reg.SYS_ERR_ADDR] s u ∧ (∀ b, u.pendReg b = s.pendReg b) ∧ u = { s with bus := u.bus } := by
  obtain ⟨-, -, hkept, hpend', -, -, hbus'⟩ := h
  exact ⟨fun b hb => (hkept b hb).trans (hregs b), fun b => (hpend' b).trans (hpend b), hbus'.trans (by rw [hbus])⟩

/-- A narrow access, where something stands and where nothing does. -/
theorem narrowOp_spec {s : State} {a : Nat} (core : Sender) (wr : Bool) (hfree : Unguarded s a) :
    (narrowOp core wr a s).flag F.SYS_EVENT.NARROW = true ∧ (narrowOp core wr a s).reg Reg.SYS_ERR_ADDR = wd a ∧
      (wr = false → smGet 0 (narrowOp core wr a s).bus.rdata core.val = 0) ∧
      ((narrowOp core wr a s).flag F.SYS_EVENT.UNMAPPED = true ↔ isUnmapped a = true ∨ s.flag F.SYS_EVENT.UNMAPPED = true) ∧
      RegsBut [Reg.SYS_EVENT, Reg.SYS_ERR_ADDR] s (narrowOp core wr a s) ∧ (∀ b, (narrowOp core wr a s).pendReg b = s.pendReg b) ∧
      narrowOp core wr a s = { s with bus := (narrowOp core wr a s).bus } := by
  obtain ⟨hzero, hregs, hpend, hbus⟩ := refused_of_unguarded core wr hfree
  have htells := tellsOf_narrowErr a (refused core wr a s)
  obtain ⟨hkept, hpend', hbus'⟩ := htells.mono hregs hpend hbus
  obtain ⟨hflag, haddr, -, -, -, hdata, -⟩ := htells
  have hunmapped := (flag_unmapped_narrowErr a (refused core wr a s)).trans (flag_of_reg_eq (hregs _))
  cases hmap : isUnmapped a with
  | false =>
    have hop : narrowOp core wr a s = narrowErr a (refused core wr a s) := by rw [narrowOp, hmap]; rfl
    rw [hop]
    exact ⟨hflag, haddr, fun h => hdata ▸ hzero h, by simp [hunmapped], hkept, hpend', hbus'⟩
  | true =>
    have hop : narrowOp core wr a s = unmappedErr a (narrowErr a (refused core wr a s)) := by rw [narrowOp, hmap]; rfl
    obtain ⟨hflag', haddr', hkept', hpend'', -, hdata', hbus''⟩ := tellsOf_unmappedErr a (narrowErr a (refused core wr a s))
    rw [hop]
    refine ⟨(flag_narrow_unmappedErr a _).trans hflag, haddr', fun h => ?_, by simp [hflag'], hkept.trans hkept',
      fun b => (hpend'' b).trans (hpend' b), hbus''.trans (by rw [hbus'])⟩
    rw [hdata', hdata]
    exact hzero h

/-! ### The MRAM window (R642) -/

theorem inRegion_mram {a : Nat} (hlo : mramBase ≤ a) (hhi : a < mramBase + 0x2000000) : inRegion a mramBase = true := by
  rw [mramBase] at hlo hhi
  have hboot : ¬ a < 0x10000 := by omega
  simp [inRegion, regionOf, regions, mramBase, hlo, hhi, hboot]

theorem exec_mramWindowWrite {s : State} {core : Sender} {a w : Nat} (v : DWord) (hacc : canAccess s core = true) (hlo : mramBase ≤ a)
    (hhi : a < mramBase + 0x2000000) (hw : w = 1 ∨ w = 2 ∨ w = 4 ∨ w = 8) (hal : a % w = 0) :
    exec (.mramWindowWrite core a w v) s = .next (mramWrite a w v.toNat s) := by
  change Host.Outcome.next (if canAccess s core && inRegion a mramBase && [1, 2, 4, 8].contains w && a % w == 0 then _ else _) = _
  have hwidth : [1, 2, 4, 8].contains w = true := by simpa using hw
  simp only [hacc, inRegion_mram hlo hhi, hwidth, hal, Bool.and_self, beq_self_eq_true, if_true]

theorem getElem_leBytes (n v i : Nat) (h : i < (leBytes n v).length) : (leBytes n v)[i] = BitVec.ofNat 8 (v / 2 ^ (8 * i)) := by
  induction n generalizing v i with
  | zero => exact absurd h (by simp [leBytes])
  | succ n ih =>
    cases i with
    | zero => simp [leBytes]
    | succ i =>
      have hdiv : v / 256 / 2 ^ (8 * i) = v / 2 ^ (8 * (i + 1)) := by
        rw [Nat.div_div_eq_div_mul, Nat.mul_succ, pow_add, mul_comm]
        rfl
      simp only [leBytes, List.getElem_cons_succ, ih, hdiv]

theorem mramPut_leBytes (off n v : Nat) (s : State) :
    (∀ i, i < n → smGet 0 (mramPut off (leBytes n v) s).nv.mram (off + i) = BitVec.ofNat 8 (v / 2 ^ (8 * i))) ∧
      ∀ j, j < off ∨ off + n ≤ j → smGet 0 (mramPut off (leBytes n v) s).nv.mram j = smGet 0 s.nv.mram j := by
  have hlen := leBytes_length n v
  refine ⟨fun i hi => ?_, fun j hj => smGet_putBytes_ne _ _ _ _ (by rwa [hlen])⟩
  exact (smGet_putBytes _ _ _ i (by rwa [hlen])).trans (getElem_leBytes n v i (by rwa [hlen]))

/-- An aligned access inside the application-data area ends inside it. -/
theorem end_le_appEnd {a w : Nat} (hlo : mramBase ≤ a) (hw : w = 1 ∨ w = 2 ∨ w = 4 ∨ w = 8) (hal : a % w = 0) (hin : a - mramBase < appEnd) :
    a - mramBase + w ≤ appEnd := by
  rw [mramBase] at *
  rw [appEnd] at *
  obtain rfl | rfl | rfl | rfl := hw <;> omega

/-- Settles O6: a refused access tells of itself and does nothing else, and the window writes the application data alone. -/
theorem refusedAccessesAndTheMramWindow : Obligations.RefusedAccessesAndTheMramWindow := by
  refine ⟨fun s core wr a w hacc hfree => ⟨fun hnarrow => ?narrow, fun hmap => ?unmapped⟩,
    fun s core a w v hacc hlo hhi hw hal => ⟨fun hbase hend => ?inside, fun hout => ?outside⟩⟩
  case narrow => exact ⟨_, exec_narrowAccess hacc hnarrow, narrowOp_spec core wr hfree⟩
  case unmapped =>
    obtain ⟨hzero, hregs, hpend, hbus⟩ := refused_of_unguarded core wr hfree
    have hkept := (tellsOf_unmappedErr a (refused core wr a s)).mono hregs hpend hbus
    obtain ⟨hflag, haddr, -, -, -, hdata, -⟩ := tellsOf_unmappedErr a (refused core wr a s)
    exact ⟨_, exec_unmappedAccess hacc hmap, hflag, haddr, fun h => hdata ▸ hzero h, hkept⟩
  case inside =>
    obtain ⟨hbytes, hother⟩ := mramPut_leBytes (a - mramBase) w v.toNat s
    have hwrite : mramWrite a w v.toNat s = mramPut (a - mramBase) (leBytes w v.toNat) s := by
      rw [mramWrite, if_pos ⟨hbase, end_le_appEnd hlo hw hal hend⟩, appWrite]
    exact ⟨_, (exec_mramWindowWrite v hacc hlo hhi hw hal).trans (congrArg _ hwrite), hbytes, hother, rfl⟩
  case outside =>
    obtain ⟨hflag, haddr, hkept, hpend, -, -, hbus⟩ := tellsOf_unmappedErr a s
    have hpos : 0 < w := by omega
    have hwrite : mramWrite a w v.toNat s = unmappedErr a s := by
      rw [mramWrite]
      exact if_neg fun ⟨hin, hend⟩ => by omega
    exact ⟨_, (exec_mramWindowWrite v hacc hlo hhi hw hal).trans (congrArg _ hwrite), hflag, haddr, hkept, hpend, hbus⟩

end Sys2Proof.Machine
end

section
/-!
PROOF. Snapshots (05 R146, R147; 23): each block's live values in its holding registers, once in a clock.
-/

namespace Sys2Proof.Machine

open Sys2Proof

/-! ### One turn of a fold -/

/-- What turn `i` of a fold reads and leaves, where every other turn leaves it alone. -/
theorem State.forN_turn {β : Type} {read : State → β} {n i : Nat} {f : Nat → State → State} (hi : i < n)
    (hkeep : ∀ j, j < n → j ≠ i → ∀ t, read (f j t) = read t) (s : State) :
    ∃ u, read u = read s ∧ read (s.forN n f) = read (f i u) := by
  induction n with
  | zero => omega
  | succ n ih =>
    rw [State.forN_succ]
    by_cases hin : i = n
    · subst hin
      exact ⟨s.forN i f, State.read_forN (fun j hj => hkeep j (by omega) (by omega)) s, rfl⟩
    · obtain ⟨u, hu, hturn⟩ := ih (by omega) fun j hj => hkeep j (by omega)
      exact ⟨u, hu, (hkeep n (by omega) (Ne.symm hin) _).trans hturn⟩

/-! ### Results written in a fold, entry by entry -/

theorem reg_resultPair_ne {lo a : Nat} (s : State) (v : Int) (hlo : a ≠ lo) (hhi : a ≠ lo + 4) : (s.resultPair lo v).reg a = s.reg a :=
  (State.reg_setReg_ne _ _ _ _ hhi).trans (State.reg_setReg_ne _ _ _ _ hlo)

theorem reg_result_ne {a b : Nat} (s : State) (v : Nat) (h : a ≠ b) : (s.result b v).reg a = s.reg a := State.reg_setReg_ne _ _ _ _ h

theorem snapped30_result (s : State) (a v : Nat) : Snapped30 s (s.result a v) a v := State.reg_setReg_same _ _ _

theorem Snapped30.congr {s s' t t' : State} {a v : Nat} (h : Snapped30 s t a v) (htag : s.reg a = s'.reg a) (ha : t'.reg a = t.reg a) :
    Snapped30 s' t' a v := by
  rw [Snapped30] at *
  rw [ha, h, htag]

/-- A pair per entry, every entry's words its own. -/
theorem snapped_forN_pair {n i : Nat} {lo : Nat → Nat} {v : Nat → Int} {g : Nat → State → State} (hi : i < n)
    (hg : ∀ j, j < n → ∀ t, (g j t).reg (lo i) = t.reg (lo i) ∧ (g j t).reg (lo i + 4) = t.reg (lo i + 4))
    (hne : ∀ j, j < n → j ≠ i → lo i ≠ lo j ∧ lo i ≠ lo j + 4 ∧ lo i + 4 ≠ lo j) (s : State) :
    Snapped s (s.forN n (fun j t => g j (t.resultPair (lo j) (v j)))) (lo i) (v i) := by
  obtain ⟨u, hu, hturn⟩ := State.forN_turn (read := fun t => (t.reg (lo i), t.reg (lo i + 4))) (s := s)
    (f := fun j t => g j (t.resultPair (lo j) (v j))) hi fun j hj hji t => by
      obtain ⟨hlo, hhi, hcross⟩ := hne j hj hji
      obtain ⟨hkeep, hkeep'⟩ := hg j hj (t.resultPair (lo j) (v j))
      rw [hkeep, hkeep', reg_resultPair_ne t _ hlo hhi, reg_resultPair_ne t _ hcross (by omega)]
  simp only [Prod.mk.injEq] at hu hturn
  obtain ⟨hkeep, hkeep'⟩ := hg i hi (u.resultPair (lo i) (v i))
  exact (snapped_resultPair u (lo i) (v i)).congr hu.2 (hturn.1.trans hkeep) (hturn.2.trans hkeep')

/-- A result per entry, written after `g`, which leaves it alone. -/
theorem snapped30_forN {n i : Nat} {a : Nat → Nat} {v : Nat → Nat} {g : Nat → State → State} (hi : i < n)
    (hg : ∀ j, j < n → ∀ t, (g j t).reg (a i) = t.reg (a i)) (hne : ∀ j, j < n → j ≠ i → a i ≠ a j) (s : State) :
    Snapped30 s (s.forN n (fun j t => (g j t).result (a j) (v j))) (a i) (v i) := by
  obtain ⟨u, hu, hturn⟩ := State.forN_turn (read := fun t => t.reg (a i)) (s := s) (f := fun j t => (g j t).result (a j) (v j)) hi
    fun j hj hji t => by rw [reg_result_ne _ _ (hne j hj hji), hg j hj]
  exact (snapped30_result (g i u) (a i) (v i)).congr ((hg i hi u).trans hu) hturn

/-- A result per entry, with `g` after it, which leaves it alone. -/
theorem snapped30_forN_before {n i : Nat} {a : Nat → Nat} {v : Nat → Nat} {g : Nat → State → State} (hi : i < n)
    (hg : ∀ j, j < n → ∀ t, (g j t).reg (a i) = t.reg (a i)) (hne : ∀ j, j < n → j ≠ i → a i ≠ a j) (s : State) :
    Snapped30 s (s.forN n (fun j t => g j (t.result (a j) (v j)))) (a i) (v i) := by
  obtain ⟨u, hu, hturn⟩ := State.forN_turn (read := fun t => t.reg (a i)) (s := s) (f := fun j t => g j (t.result (a j) (v j))) hi
    fun j hj hji t => by rw [hg j hj, reg_result_ne _ _ (hne j hj hji)]
  exact (snapped30_result u (a i) (v i)).congr hu (hturn.trans (hg i hi _))

/-! ### What a snapshot leaves alone -/

/-- The registers of block `b`. -/
abbrev InBlock (b a : Nat) : Prop := 0x40000000 + 0x10000 * b ≤ a ∧ a < 0x40000000 + 0x10000 * (b + 1)

/-- Registers of `P` changed, and no mark of a snapshot taken. -/
def HoldingOnly (P : Nat → Prop) (s t : State) : Prop := ChangesOnly P s t ∧ t.bus.snapAt = s.bus.snapAt

theorem HoldingOnly.refl (P : Nat → Prop) (s : State) : HoldingOnly P s s := ⟨.refl P s, rfl⟩

theorem HoldingOnly.trans {P : Nat → Prop} {s t u : State} (hst : HoldingOnly P s t) (htu : HoldingOnly P t u) : HoldingOnly P s u :=
  ⟨hst.1.trans htu.1, htu.2.trans hst.2⟩

theorem holdingOnly_forN {P : Nat → Prop} {n : Nat} {f : Nat → State → State} (hf : ∀ i, i < n → ∀ t, HoldingOnly P t (f i t)) (s : State) :
    HoldingOnly P s (s.forN n f) := State.forN_rel (HoldingOnly.refl P) (fun _ _ _ => HoldingOnly.trans) hf s

theorem snapAt_setReg (s : State) (a : Nat) (w : Word) : (s.setReg a w).bus.snapAt = s.bus.snapAt := rfl

theorem holdingOnly_resultPair {P : Nat → Prop} {lo : Nat} (hlo : P lo) (hhi : P (lo + 4)) (s : State) (v : Int) :
    HoldingOnly P s (s.resultPair lo v) := ⟨changesOnly_resultPair hlo hhi s v, by rw [State.resultPair, snapAt_setReg, snapAt_setReg]⟩

theorem holdingOnly_result {P : Nat → Prop} {a : Nat} (ha : P a) (s : State) (v : Nat) : HoldingOnly P s (s.result a v) :=
  ⟨changesOnly_result ha s v, snapAt_setReg s a _⟩

theorem holdingOnly_ev {P : Nat → Prop} {f : FRef} (hf : P f.addr) (s : State) : HoldingOnly P s (s.ev f) :=
  ⟨changesOnly_ev hf s, snapAt_setReg s f.addr _⟩

/-! ### The blocks -/

theorem takeTrj_snapped (s : State) {n : Nat} (hn : n < 8) :
    Snapped s (takeTrj s) (Reg.TRJ_AXIS_SNP_LO n) (if s.servoOn then (s.axis n).spPos else 0) ∧
      Snapped30 s (takeTrj s) (Reg.TRJ_AXIS_SNV n) (uns 30 (if s.servoOn then (s.axis n).spVel else 0)) := by
  constructor
  · refine snapped_forN_pair (lo := fun n => 0x4003002c + 0x40 * n) (v := fun n => capI s.servoOn (s.axis n).spPos)
      (g := fun n t => t.result (0x40030034 + 0x40 * n) (uns 30 (capI s.servoOn (s.axis n).spVel))) hn (fun j hj t => ?_)
      (fun j hj hjn => ?_) s
    · exact ⟨reg_result_ne _ _ (by omega), reg_result_ne _ _ (by omega)⟩
    · omega
  · refine snapped30_forN (a := fun n => 0x40030034 + 0x40 * n) (v := fun n => uns 30 (capI s.servoOn (s.axis n).spVel))
      (g := fun n t => t.resultPair (0x4003002c + 0x40 * n) (capI s.servoOn (s.axis n).spPos)) hn (fun j hj t => ?_)
      (fun j hj hjn => ?_) s
    · exact reg_resultPair_ne _ _ (by omega) (by omega)
    · omega

theorem takeTrj_only (s : State) : HoldingOnly (InBlock 3) s (takeTrj s) := by
  refine holdingOnly_forN (fun n hn t => ?_) s
  have hpos : InBlock 3 (0x4003002c + 0x40 * n) ∧ InBlock 3 (0x4003002c + 0x40 * n + 4) := by unfold InBlock; omega
  have hvel : InBlock 3 (0x40030034 + 0x40 * n) := by unfold InBlock; omega
  exact (holdingOnly_resultPair hpos.1 hpos.2 t _).trans (holdingOnly_result hvel _ _)

/-- An event outside the pair leaves what a snapshot put there. -/
theorem Snapped.ev {s t : State} {lo : Nat} {v : Int} (h : Snapped s t lo v) {f : FRef} (hlo : lo ≠ f.addr) (hhi : lo + 4 ≠ f.addr) :
    Snapped s (t.ev f) lo v := h.congr rfl (State.reg_ev_ne _ _ _ hlo) (State.reg_ev_ne _ _ _ hhi)

theorem Snapped30.ev {s t : State} {a v : Nat} (h : Snapped30 s t a v) {f : FRef} (ha : a ≠ f.addr) : Snapped30 s (t.ev f) a v :=
  h.congr rfl (State.reg_ev_ne _ _ _ ha)

theorem takeCmm_snapped (s : State) {n : Nat} (hn : n < 128) :
    Snapped30 s (takeCmm s) (Reg.CMM_CH_SNPV n)
        (if s.servoOn then s.get (F.CMM_CH_VEC.M n) * 2 ^ 14 + s.get (F.CMM_CH_VEC.PHI n) / 4 else 0) ∧
      Snapped30 s (takeCmm s) (Reg.CMM_CH_SNPC n)
        (if s.servoOn then s.get (F.CMM_CH_STAT.BAND n) * 2 ^ 28 + s.get (F.CMM_CH_STAT.VSAT_CNT n) else 0) := by
  have hvec : 0x40041100 + 0x8 * n ≠ 0x40041044 ∧ 0x40041104 + 0x8 * n ≠ 0x40041044 := by omega
  constructor
  · refine Snapped30.ev (snapped30_forN_before (a := fun n => 0x40041100 + 0x8 * n)
      (v := fun n => capN s.servoOn (s.get (F.CMM_CH_VEC.M n) * 2 ^ 14 + s.get (F.CMM_CH_VEC.PHI n) / 4))
      (g := fun n t => t.result (0x40041104 + 0x8 * n)
        (capN s.servoOn (s.get (F.CMM_CH_STAT.BAND n) * 2 ^ 28 + s.get (F.CMM_CH_STAT.VSAT_CNT n)))) hn (fun j hj t => ?_)
      (fun j hj hjn => ?_) s) hvec.1
    · exact reg_result_ne _ _ (by omega)
    · omega
  · refine Snapped30.ev (snapped30_forN (a := fun n => 0x40041104 + 0x8 * n)
      (v := fun n => capN s.servoOn (s.get (F.CMM_CH_STAT.BAND n) * 2 ^ 28 + s.get (F.CMM_CH_STAT.VSAT_CNT n)))
      (g := fun n t => t.result (0x40041100 + 0x8 * n)
        (capN s.servoOn (s.get (F.CMM_CH_VEC.M n) * 2 ^ 14 + s.get (F.CMM_CH_VEC.PHI n) / 4))) hn (fun j hj t => ?_)
      (fun j hj hjn => ?_) s) hvec.2
    · exact reg_result_ne _ _ (by omega)
    · omega

theorem takeCmm_only (s : State) : HoldingOnly (InBlock 4) s (takeCmm s) := by
  refine (holdingOnly_forN (fun n hn t => ?_) s).trans (holdingOnly_ev (by decide) _)
  have hvec : InBlock 4 (0x40041100 + 0x8 * n) ∧ InBlock 4 (0x40041104 + 0x8 * n) := by unfold InBlock; omega
  exact (holdingOnly_result hvec.1 t _).trans (holdingOnly_result hvec.2 _ _)

theorem takeFbk_snapped (s : State) {n : Nat} (hn : n < 144) :
    Snapped s (takeFbk s) (Reg.FBK_CH_SNP_LO n) (if s.servoOn then s.pairS (Reg.FBK_CH_POS_LO n) else 0) ∧
      Snapped30 s (takeFbk s) (Reg.FBK_CH_SNV n) (uns 30 (if s.servoOn then s.regS (Reg.FBK_CH_VEL n) else 0)) := by
  have hev : 0x40060034 + 0x40 * n ≠ 0x40062450 ∧ 0x40060034 + 0x40 * n + 4 ≠ 0x40062450 ∧ 0x4006003c + 0x40 * n ≠ 0x40062450 := by omega
  constructor
  · refine Snapped.ev (snapped_forN_pair (lo := fun n => 0x40060034 + 0x40 * n)
      (v := fun n => capI s.servoOn (s.pairS (Reg.FBK_CH_POS_LO n)))
      (g := fun n t => t.result (0x4006003c + 0x40 * n) (uns 30 (capI s.servoOn (s.regS (Reg.FBK_CH_VEL n))))) hn (fun j hj t => ?_)
      (fun j hj hjn => ?_) s) hev.1 hev.2.1
    · exact ⟨reg_result_ne _ _ (by omega), reg_result_ne _ _ (by omega)⟩
    · omega
  · refine Snapped30.ev (snapped30_forN (a := fun n => 0x4006003c + 0x40 * n)
      (v := fun n => uns 30 (capI s.servoOn (s.regS (Reg.FBK_CH_VEL n))))
      (g := fun n t => t.resultPair (0x40060034 + 0x40 * n) (capI s.servoOn (s.pairS (Reg.FBK_CH_POS_LO n)))) hn (fun j hj t => ?_)
      (fun j hj hjn => ?_) s) hev.2.2
    · exact reg_resultPair_ne _ _ (by omega) (by omega)
    · omega

theorem takeFbk_only (s : State) : HoldingOnly (InBlock 6) s (takeFbk s) := by
  refine (holdingOnly_forN (fun n hn t => ?_) s).trans (holdingOnly_ev (by decide) _)
  have hpos : InBlock 6 (0x40060034 + 0x40 * n) ∧ InBlock 6 (0x40060034 + 0x40 * n + 4) ∧ InBlock 6 (0x4006003c + 0x40 * n) := by
    unfold InBlock
    omega
  exact (holdingOnly_resultPair hpos.1 hpos.2.1 t _).trans (holdingOnly_result hpos.2.2 _ _)

theorem takeFio_snapped (s : State) {f : Nat} (hf : f < 16) :
    Snapped s (takeFio s) (Reg.FIO_FIN_SNC_LO f) (s.reg (Reg.FIO_FIN_CNT_LO f)).toNat := by
  have hev : 0x40070110 + 0x20 * f ≠ 0x40070420 ∧ 0x40070110 + 0x20 * f + 4 ≠ 0x40070420 := by omega
  refine Snapped.ev (snapped_forN_pair (lo := fun n => 0x40070110 + 0x20 * n)
    (v := fun n => ((s.reg (Reg.FIO_FIN_CNT_LO n)).toNat : Int)) (g := fun _ t => t) hf (fun j hj t => ⟨rfl, rfl⟩)
    (fun j hj hjn => ?_) s) hev.1 hev.2
  omega

theorem takeFio_only (s : State) : HoldingOnly (InBlock 7) s (takeFio s) := by
  refine (holdingOnly_forN (fun n hn t => ?_) s).trans (holdingOnly_ev (by decide) _)
  have hcnt : InBlock 7 (0x40070110 + 0x20 * n) ∧ InBlock 7 (0x40070110 + 0x20 * n + 4) := by unfold InBlock; omega
  exact holdingOnly_resultPair hcnt.1 hcnt.2 t _

/-! ### Once in a clock (R147) -/

/-- Block b marked as having taken its snapshot in this clock. -/
def markSnap (b : Nat) (s : State) : State := { s with bus := { s.bus with snapAt := smPut s.bus.snapAt b s.tb.tick } }

theorem snapOnce_of_not_taken {b : Nat} {f : State → State} {s : State} (h : ¬ SnapTaken s b) : snapOnce b f s = f (markSnap b s) := if_neg h

theorem snapOnce_of_taken {b : Nat} {f : State → State} {s : State} (h : SnapTaken s b) : snapOnce b f s = s := if_pos h

theorem snapTaken_markSnap (b : Nat) (s : State) : SnapTaken (markSnap b s) b := smFind_smPut_same _ _ _

theorem snapTaken_markSnap_ne {b c : Nat} (s : State) (h : c ≠ b) : SnapTaken (markSnap b s) c ↔ SnapTaken s c := by
  unfold SnapTaken
  exact Eq.to_iff (congrArg (· = some s.tb.tick) (smFind_smPut_ne _ _ _ _ h))

/-- A snapshot once taken keeps every mark. -/
theorem HoldingOnly.snapTaken {P : Nat → Prop} {s t : State} (h : HoldingOnly P s t) (b : Nat) : SnapTaken t b ↔ SnapTaken s b := by
  obtain ⟨⟨-, -, hbus⟩, hmarks⟩ := h
  have htick : t.tb.tick = s.tb.tick := by rw [hbus]
  rw [SnapTaken, hmarks, htick]

theorem HoldingOnly.snapOnly {P : Nat → Prop} {b : Nat} {s t : State} (h : HoldingOnly P (markSnap b s) t) : SnapOnly s t := by
  obtain ⟨⟨-, hpend, hbus⟩, -⟩ := h
  exact ⟨hbus, hpend⟩

/-- A SNAP command with its bit clear, or after the first of its clock, changes nothing. -/
theorem snapCmd_of_nothing {core : Sender} {a b : Nat} {v : Word} {f : State → State} {s : State} (hacc : canAccess s core = true)
    (hfree : Unguarded s a) (h : v.getLsbD 0 = false ∨ SnapTaken s b) : snapCmd core a v (snapOnce b f) s = s := by
  rw [snapCmd, writeCmd_of_unguarded _ hacc hfree]
  obtain h | h := h
  · exact if_neg (ne_true_of_eq_false h)
  · rw [snapOnce_of_taken h, ite_self]

theorem snapCmd_of_taken {core : Sender} {a b : Nat} {v : Word} {f : State → State} {s : State} (hacc : canAccess s core = true)
    (hfree : Unguarded s a) (hv : v.getLsbD 0 = true) (h : ¬ SnapTaken s b) :
    snapCmd core a v (snapOnce b f) s = f (markSnap b s) := by
  rw [snapCmd, writeCmd_of_unguarded _ hacc hfree]
  exact (if_pos hv).trans (snapOnce_of_not_taken h)

/-! ### The system snapshot: every block's at once -/

/-- Registers outside block `b`. -/
abbrev Outside (b a : Nat) : Prop := ¬ InBlock b a

theorem outside_of_inBlock {b c a : Nat} (hbc : b ≠ c) (h : InBlock c a) : Outside b a := by
  unfold Outside InBlock at *
  omega

theorem outside_tim {b a : Nat} (hb : b < 10) (h : 0x400a0000 ≤ a) : Outside b a := by
  unfold Outside InBlock
  omega

theorem changesOnly_snapOutside {b c : Nat} {f : State → State} (hf : ∀ t, HoldingOnly (InBlock c) t (f t)) (hbc : b ≠ c) (s : State) :
    ChangesOnly (Outside b) s (snapOnce c f s) :=
  changesOnly_snapOnce (fun t => (hf t).1.mono fun _ => outside_of_inBlock hbc) c s

theorem changesOnly_markSnap (P : Nat → Prop) (b : Nat) (s : State) : ChangesOnly P s (markSnap b s) := ⟨fun _ _ => rfl, fun _ => rfl, rfl⟩

theorem snapTaken_snapOnce_ne {b c : Nat} {P : Nat → Prop} {f : State → State} (hf : ∀ t, HoldingOnly P t (f t)) (hbc : b ≠ c) (s : State) :
    SnapTaken (snapOnce c f s) b ↔ SnapTaken s b := by
  by_cases h : SnapTaken s c
  · rw [snapOnce_of_taken h]
  · rw [snapOnce_of_not_taken h]
    exact ((hf _).snapTaken b).trans (snapTaken_markSnap_ne s hbc)

/-- What a block's snapshot put in its own registers, with other blocks' before and after it. -/
theorem Snapped.between {b : Nat} {s e u t : State} {lo : Nat} {v : Int} (h : Snapped e u lo v) (he : ChangesOnly (Outside b) s e)
    (hu : ChangesOnly (Outside b) u t) (hin : InBlock b lo ∧ InBlock b (lo + 4)) : Snapped s t lo v :=
  h.congr (he.1 _ (not_not_intro hin.2)) (hu.1 _ (not_not_intro hin.1)) (hu.1 _ (not_not_intro hin.2))

theorem Snapped30.between {b : Nat} {s e u t : State} {a v : Nat} (h : Snapped30 e u a v) (he : ChangesOnly (Outside b) s e)
    (hu : ChangesOnly (Outside b) u t) (hin : InBlock b a) : Snapped30 s t a v :=
  h.congr (he.1 _ (not_not_intro hin)) (hu.1 _ (not_not_intro hin))

theorem ChangesOnly.servoOn {P : Nat → Prop} {s t : State} (h : ChangesOnly P s t) : t.servoOn = s.servoOn ∧ ∀ n, t.axis n = s.axis n := by
  obtain ⟨-, -, hbus⟩ := h
  rw [hbus]
  exact ⟨rfl, fun _ => rfl⟩

theorem ChangesOnly.reg_inBlock {b a : Nat} {s t : State} (h : ChangesOnly (Outside b) s t) (ha : InBlock b a) : t.reg a = s.reg a :=
  h.1 a (not_not_intro ha)

/-- The time and the events of a system snapshot lie outside the blocks. -/
theorem changesOnly_takeAll_tail {b : Nat} (hb : b < 10) (hsys : b ≠ 0) (s : State) (v : Int) :
    ChangesOnly (Outside b) s (((s.resultPair Reg.TIM_SNAPT_LO v).ev F.TIM_EVENT.NEW).ev F.SYS_EVENT.SNAP_DONE) :=
  ((changesOnly_resultPair (outside_tim hb (by decide)) (outside_tim hb (by decide)) s v).trans
    (changesOnly_ev (outside_tim hb (by decide)) _)).trans (changesOnly_ev (outside_of_inBlock hsys (by decide)) _)

/-- Every block's snapshot in a system snapshot of a clock in which none was taken. -/
theorem takeAll_snapped {s : State} (h3 : ¬ SnapTaken s 3) (h4 : ¬ SnapTaken s 4) (h6 : ¬ SnapTaken s 6) (h7 : ¬ SnapTaken s 7) :
    (∀ n, n < 8 → Snapped s (takeAll s) (Reg.TRJ_AXIS_SNP_LO n) (if s.servoOn then (s.axis n).spPos else 0)) ∧
      (∀ n, n < 144 → Snapped s (takeAll s) (Reg.FBK_CH_SNP_LO n) (if s.servoOn then s.pairS (Reg.FBK_CH_POS_LO n) else 0)) ∧
      (∀ n, n < 128 → Snapped30 s (takeAll s) (Reg.CMM_CH_SNPV n)
        (if s.servoOn then s.get (F.CMM_CH_VEC.M n) * 2 ^ 14 + s.get (F.CMM_CH_VEC.PHI n) / 4 else 0)) ∧
      (∀ f, f < 16 → Snapped s (takeAll s) (Reg.FIO_FIN_SNC_LO f) (s.reg (Reg.FIO_FIN_CNT_LO f)).toNat) := by
  have htrj {b : Nat} (hb : b ≠ 3) (u : State) : ChangesOnly (Outside b) u (snapTrj u) := changesOnly_snapOutside takeTrj_only hb u
  have hcmm {b : Nat} (hb : b ≠ 4) (u : State) : ChangesOnly (Outside b) u (snapCmm u) := changesOnly_snapOutside takeCmm_only hb u
  have hfbk {b : Nat} (hb : b ≠ 6) (u : State) : ChangesOnly (Outside b) u (snapFbk u) := changesOnly_snapOutside takeFbk_only hb u
  have hfio {b : Nat} (hb : b ≠ 7) (u : State) : ChangesOnly (Outside b) u (snapFio u) := changesOnly_snapOutside takeFio_only hb u
  have h4' : ¬ SnapTaken (snapTrj s) 4 := mt (snapTaken_snapOnce_ne takeTrj_only (by decide) s).mp h4
  have h6' : ¬ SnapTaken (snapCmm (snapTrj s)) 6 := mt (fun h => (snapTaken_snapOnce_ne takeTrj_only (by decide) s).mp
    ((snapTaken_snapOnce_ne takeCmm_only (by decide) _).mp h)) h6
  have h7' : ¬ SnapTaken (snapFbk (snapCmm (snapTrj s))) 7 := mt (fun h => (snapTaken_snapOnce_ne takeTrj_only (by decide) s).mp
    ((snapTaken_snapOnce_ne takeCmm_only (by decide) _).mp ((snapTaken_snapOnce_ne takeFbk_only (by decide) _).mp h))) h7
  refine ⟨fun n hn => ?_, fun n hn => ?_, fun n hn => ?_, fun n hn => ?_⟩
  · obtain ⟨hsnap, -⟩ := takeTrj_snapped (markSnap 3 s) hn
    have hin : InBlock 3 (0x4003002c + 0x40 * n) ∧ InBlock 3 (0x4003002c + 0x40 * n + 4) := by unfold InBlock; omega
    have hafter := (((hcmm (by decide) (snapTrj s)).trans (hfbk (by decide) _)).trans (hfio (by decide) _)).trans
      (changesOnly_takeAll_tail (b := 3) (by decide) (by decide) _ (stamp62 s.now))
    rw [← snapOnce_of_not_taken (f := takeTrj) h3] at hsnap
    exact hsnap.between (changesOnly_markSnap _ 3 s) hafter hin
  · obtain ⟨hsnap, -⟩ := takeFbk_snapped (markSnap 6 (snapCmm (snapTrj s))) hn
    have hin : InBlock 6 (0x40060034 + 0x40 * n) ∧ InBlock 6 (0x40060034 + 0x40 * n + 4) := by unfold InBlock; omega
    have hpos : InBlock 6 (0x4006001c + 0x40 * n) ∧ InBlock 6 (0x4006001c + 0x40 * n + 4) := by unfold InBlock; omega
    have hbefore := (htrj (by decide : 6 ≠ 3) s).trans ((hcmm (by decide) (snapTrj s)).trans (changesOnly_markSnap _ 6 _))
    have hafter := (hfio (by decide : 6 ≠ 7) (snapFbk (snapCmm (snapTrj s)))).trans
      (changesOnly_takeAll_tail (b := 6) (by decide) (by decide) _ (stamp62 s.now))
    rw [← snapOnce_of_not_taken (f := takeFbk) h6', hbefore.servoOn.1, State.pairS, State.pair, hbefore.reg_inBlock hpos.1, hbefore.reg_inBlock hpos.2]
      at hsnap
    exact hsnap.between hbefore hafter hin
  · obtain ⟨hsnap, -⟩ := takeCmm_snapped (markSnap 4 (snapTrj s)) hn
    have hin : InBlock 4 (0x40041100 + 0x8 * n) := by unfold InBlock; omega
    have hvec : InBlock 4 (0x4004001c + 0x20 * n) := by unfold InBlock; omega
    have hbefore := (htrj (by decide : 4 ≠ 3) s).trans (changesOnly_markSnap _ 4 (snapTrj s))
    have hafter := ((hfbk (by decide : 4 ≠ 6) (snapCmm (snapTrj s))).trans (hfio (by decide) _)).trans
      (changesOnly_takeAll_tail (b := 4) (by decide) (by decide) _ (stamp62 s.now))
    rw [← snapOnce_of_not_taken (f := takeCmm) h4', hbefore.servoOn.1, State.get, State.get, hbefore.reg_inBlock hvec] at hsnap
    exact hsnap.between hbefore hafter hin
  · have hsnap := takeFio_snapped (markSnap 7 (snapFbk (snapCmm (snapTrj s)))) hn
    have hin : InBlock 7 (0x40070110 + 0x20 * n) ∧ InBlock 7 (0x40070110 + 0x20 * n + 4) := by unfold InBlock; omega
    have hcnt : InBlock 7 (0x40070104 + 0x20 * n) := by unfold InBlock; omega
    have hbefore := (htrj (by decide : 7 ≠ 3) s).trans ((hcmm (by decide) (snapTrj s)).trans ((hfbk (by decide) _).trans
      (changesOnly_markSnap _ 7 _)))
    rw [← snapOnce_of_not_taken (f := takeFio) h7', hbefore.reg_inBlock hcnt] at hsnap
    exact hsnap.between hbefore (changesOnly_takeAll_tail (by decide) (by decide) _ (stamp62 s.now)) hin

/-- A system snapshot keeps its own mark. -/
theorem takeAll_snapTaken {s : State} (h : SnapTaken s 10) : SnapTaken (takeAll s) 10 := by
  have hblocks : SnapTaken (snapFio (snapFbk (snapCmm (snapTrj s)))) 10 :=
    (snapTaken_snapOnce_ne takeFio_only (by decide) _).mpr ((snapTaken_snapOnce_ne takeFbk_only (by decide) _).mpr
      ((snapTaken_snapOnce_ne takeCmm_only (by decide) _).mpr ((snapTaken_snapOnce_ne takeTrj_only (by decide) s).mpr h)))
  have htail := ((holdingOnly_resultPair (P := fun _ => True) (lo := Reg.TIM_SNAPT_LO) trivial trivial
    (snapFio (snapFbk (snapCmm (snapTrj s)))) (stamp62 s.now)).trans (holdingOnly_ev (f := F.TIM_EVENT.NEW) trivial _)).trans
    (holdingOnly_ev (f := F.SYS_EVENT.SNAP_DONE) trivial _)
  exact (htail.snapTaken 10).mpr hblocks

/-- Settles O7: each SNAP command is its block's snapshot, once in a clock, and the system's is every block's with its time. -/
theorem snapshotsFillTheHoldingRegisters : Obligations.SnapshotsFillTheHoldingRegisters := by
  intro s core v hacc
  refine ⟨fun hfree => ⟨fun h => congrArg Host.Outcome.next (snapCmd_of_nothing hacc hfree h), fun hv h => ?trj⟩,
    fun hfree => ⟨fun h => congrArg Host.Outcome.next (snapCmd_of_nothing hacc hfree h), fun hv h => ?cmm⟩,
    fun hfree => ⟨fun h => congrArg Host.Outcome.next (snapCmd_of_nothing hacc hfree h), fun hv h => ?fbk⟩,
    fun hfree => ⟨fun h => congrArg Host.Outcome.next (snapCmd_of_nothing hacc hfree h), fun hv h => ?fio⟩,
    fun hfree => ⟨fun h => congrArg Host.Outcome.next (snapCmd_of_nothing hacc hfree h), fun hv h => ?system⟩⟩
  case trj =>
    have honly := takeTrj_only (markSnap 3 s)
    exact ⟨_, congrArg Host.Outcome.next (snapCmd_of_taken hacc hfree hv h), honly.snapOnly, (honly.snapTaken 3).mpr (snapTaken_markSnap 3 s),
      fun n hn => takeTrj_snapped (markSnap 3 s) hn⟩
  case cmm =>
    have honly := takeCmm_only (markSnap 4 s)
    exact ⟨_, congrArg Host.Outcome.next (snapCmd_of_taken hacc hfree hv h), honly.snapOnly, (honly.snapTaken 4).mpr (snapTaken_markSnap 4 s),
      State.flag_ev _ _ (by decide) (by decide), fun n hn => takeCmm_snapped (markSnap 4 s) hn⟩
  case fbk =>
    have honly := takeFbk_only (markSnap 6 s)
    exact ⟨_, congrArg Host.Outcome.next (snapCmd_of_taken hacc hfree hv h), honly.snapOnly, (honly.snapTaken 6).mpr (snapTaken_markSnap 6 s),
      State.flag_ev _ _ (by decide) (by decide), fun n hn => takeFbk_snapped (markSnap 6 s) hn⟩
  case fio =>
    have honly := takeFio_only (markSnap 7 s)
    exact ⟨_, congrArg Host.Outcome.next (snapCmd_of_taken hacc hfree hv h), honly.snapOnly, (honly.snapTaken 7).mpr (snapTaken_markSnap 7 s),
      State.flag_ev _ _ (by decide) (by decide), fun n hn => takeFio_snapped (markSnap 7 s) hn⟩
  case system =>
    have hfresh {b : Nat} (hb : b ≠ 10) : ¬ SnapTaken (markSnap 10 s) b := mt (snapTaken_markSnap_ne s hb).mp (h b)
    obtain ⟨htime, hdone, -, hpend, hbus⟩ := takeAll_spec (markSnap 10 s)
    obtain ⟨htrj, hfbk, hcmm, hfio⟩ := takeAll_snapped (hfresh (b := 3) (by decide)) (hfresh (b := 4) (by decide))
      (hfresh (b := 6) (by decide)) (hfresh (b := 7) (by decide))
    exact ⟨_, congrArg Host.Outcome.next (snapCmd_of_taken hacc hfree hv (h 10)), ⟨hbus, hpend⟩, takeAll_snapTaken (snapTaken_markSnap 10 s),
      htrj, hfbk, hcmm, hfio, htime, hdone⟩

end Sys2Proof.Machine
end

section
/-!
PROOF. Update groups (05 R149 to R151; 06 R172): a request joins the mask, and the cutoff freezes it or tells of the first group that fails.
-/

namespace Sys2Proof.Machine

open Sys2Proof

theorem testBit_armed_updateOp (v : Word) (s : State) (g : Nat) :
    (updateOp v s).bus.armed.testBit g = (s.bus.armed.testBit g || decide (g < 8) && v.getLsbD g) := by
  have hlow : (v.toNat % 2 ^ 8).testBit g = (decide (g < 8) && v.getLsbD g) := by rw [Nat.testBit_mod_two_pow, BitVec.getLsbD]
  exact (Nat.testBit_or s.bus.armed (v.toNat % 256) g).trans (congrArg (s.bus.armed.testBit g || ·) hlow)

/-! ### Headers read at the cutoff -/

/-- Slots changed one by one, each by a change that is the same twice. -/
theorem slot_forL_modSlot {f : Nat → SlotSt → SlotSt} (hidem : ∀ g x, f g (f g x) = f g x) (l : List Nat) (s : State) (g : Nat) :
    (s.forL l (fun g u => u.modSlot g (f g))).slot g = if g ∈ l then f g (s.slot g) else s.slot g := by
  induction l generalizing s with
  | nil => rfl
  | cons k l ih =>
    have hcons : s.forL (k :: l) (fun g u => u.modSlot g (f g)) = (s.modSlot k (f k)).forL l (fun g u => u.modSlot g (f g)) := rfl
    rw [hcons, ih]
    by_cases hk : g = k
    · subst hk
      simp [State.slot_modSlot_same, hidem]
    · have hother : (s.modSlot k (f k)).slot g = s.slot g := smGet_smMod_ne _ _ _ _ _ hk
      simp [hother, hk]

theorem slot_headersRead (t s : State) {g : Nat} (hg : g < 192) :
    (slotEn t g = true → (headersRead t s).slot g = { s.slot g with nextBudget := hdrBudget t g, nextPriv := hdrPriv t g }) ∧
      (slotEn t g = false → (headersRead t s).slot g = s.slot g) := by
  have hread := slot_forL_modSlot (f := fun g x => { x with nextBudget := hdrBudget t g, nextPriv := hdrPriv t g }) (fun _ _ => rfl)
    (enabledSlots t) s g
  have hmem : g ∈ enabledSlots t ↔ slotEn t g = true := by simp [enabledSlots, numSlots, hg]
  exact ⟨fun hen => hread.trans (if_pos (hmem.mpr hen)), fun hdis => hread.trans (if_neg (mt hmem.mp (ne_true_of_eq_false hdis)))⟩

theorem headersRead_frame (t s : State) : (headersRead t s).bus = s.bus ∧
    headersRead t s = { s with tide := { s.tide with slots := (headersRead t s).tide.slots } } :=
  State.forL_rel (R := fun s u => u.bus = s.bus ∧ u = { s with tide := { s.tide with slots := u.tide.slots } }) (fun _ => ⟨rfl, rfl⟩)
    (fun s u w ⟨hsu, hsu'⟩ ⟨huw, huw'⟩ => ⟨huw.trans hsu, by rw [huw', hsu']⟩) (l := enabledSlots t)
    (f := fun g u => u.modSlot g (fun x => { x with nextBudget := hdrBudget t g, nextPriv := hdrPriv t g })) (fun _ _ _ => ⟨rfl, rfl⟩) s

/-! ### The cutoff -/

/-- The requested groups frozen. -/
def frozenAll (s : State) : State := { s with bus := { s.bus with frozen := s.bus.armed, armed := 0 } }

/-- The request rejected. -/
def updateRejected (g c : Nat) (s : State) : State :=
  ((({ s with bus := { s.bus with armed := 0 } }).put F.SYS_UPD_STAT.REJ_CODE c).put F.SYS_UPD_STAT.REJ_GROUP g).ev F.SYS_EVENT.UPD_REJECT

theorem updateCutoff_of_ok {s : State} (hawake : s.awake = true) (harmed : s.bus.armed ≠ 0) (h : firstFail s s.bus.armed = none) :
    updateCutoff s = if s.bus.armed.testBit 0 then headersRead (withGroups s.bus.armed s) (frozenAll s) else frozenAll s := by
  rw [updateCutoff, if_pos (by simp [hawake, harmed]), h]
  rfl

theorem updateCutoff_of_fail {s : State} {g c : Nat} (hawake : s.awake = true) (harmed : s.bus.armed ≠ 0)
    (h : firstFail s s.bus.armed = some (g, c)) : updateCutoff s = updateRejected g c s := by
  rw [updateCutoff, if_pos (by simp [hawake, harmed]), h]
  rfl

theorem firstFail_bounds {s : State} {mask g c : Nat} (h : firstFail s mask = some (g, c)) : g < 8 ∧ (c = 1 ∨ c = 2) := by
  obtain ⟨k, hk, hfail⟩ := List.exists_of_findSome?_eq_some h
  have hlt : k < 8 := by
    simp only [groupsOf, List.mem_filter, List.mem_range] at hk
    exact hk.1
  split at hfail
  · simp only [Option.some.injEq, Prod.mk.injEq] at hfail
    omega
  · split at hfail
    · simp only [Option.some.injEq, Prod.mk.injEq] at hfail
      omega
    · exact absurd hfail (by simp)

/-- A group that the mode does not permit, with none requested below it, is the first to fail. -/
theorem firstFail_of_not_allowed {s : State} {mask g : Nat} (hg : g < 8) (hin : mask.testBit g = true) (hno : groupAllowed s g = false)
    (hfirst : ∀ h, h < g → mask.testBit h = false) : firstFail s mask = some (g, 2) := by
  have hsplit : groupsOf mask = g :: (List.range' (g + 1) (7 - g)).filter (fun h => mask.testBit h) := by
    have hlow : (List.range' 0 g).filter (fun h => mask.testBit h) = [] := by
      rw [List.filter_eq_nil_iff]
      intro h hh
      simp only [List.mem_range'_1] at hh
      simp [hfirst h (by omega)]
    have hrange : List.range 8 = List.range' 0 g ++ g :: List.range' (g + 1) (7 - g) := by
      have happend := List.range'_append_1 (s := 0) (m := g) (n := 8 - g)
      rw [Nat.zero_add, Nat.add_sub_cancel' (by omega)] at happend
      rw [List.range_eq_range', ← happend, show 8 - g = 7 - g + 1 by omega, List.range'_succ]
    rw [groupsOf, hrange, List.filter_append, hlow, List.nil_append, List.filter_cons, if_pos hin]
  simp [firstFail, hsplit, hno]

theorem bus_put (s : State) (f : FRef) (v : Nat) : (s.put f v).bus.frozen = s.bus.frozen ∧ (s.put f v).bus.armed = s.bus.armed := ⟨rfl, rfl⟩

theorem updateRejected_spec {s : State} {g c : Nat} (hg : g < 8) (hc : c < 16) :
    (updateRejected g c s).bus.frozen = s.bus.frozen ∧ (updateRejected g c s).bus.armed = 0 ∧
      (updateRejected g c s).get F.SYS_UPD_STAT.REJ_CODE = c ∧ (updateRejected g c s).get F.SYS_UPD_STAT.REJ_GROUP = g ∧
      (updateRejected g c s).flag F.SYS_EVENT.UPD_REJECT = true ∧
      OnlyRegs [Reg.SYS_UPD_STAT, Reg.SYS_EVENT] { s with bus := { s.bus with armed := 0 } } (updateRejected g c s) := by
  refine ⟨?_, ?_, ?_, ?_, State.flag_ev _ _ (by decide) (by decide), ?_⟩
  · rw [updateRejected, State.ev, (bus_put _ _ _).1, (bus_put _ _ _).1, (bus_put _ _ _).1]
  · rw [updateRejected, State.ev, (bus_put _ _ _).2, (bus_put _ _ _).2, (bus_put _ _ _).2]
  · rw [updateRejected, State.ev, State.get_put_other (by decide), State.get_put_disjoint (by decide) (by decide) (by decide),
      State.get_put_self (by decide) (by decide)]
    exact Nat.mod_eq_of_lt hc
  · rw [updateRejected, State.ev, State.get_put_other (by decide), State.get_put_self (by decide) (by decide)]
    exact Nat.mod_eq_of_lt hg
  · exact onlyRegs_of_changesOnly (((changesOnly_put (by simp) _ _).trans (changesOnly_put (by simp) _ _)).trans
      (changesOnly_ev (by simp) _))

theorem exec_updateRequest {s : State} {core : Sender} (v : Word) (hacc : canAccess s core = true) (hfree : Unguarded s Reg.SYS_UPDATE) :
    exec (.updateRequest core v) s = .next (updateOp v s) :=
  congrArg Host.Outcome.next (writeCmd_of_unguarded (updateOp v) hacc hfree)

/-- Settles O8: a request is an OR of masks, and the cutoff checks them in the order of the groups. -/
theorem updateRequestAndCutoff : Obligations.UpdateRequestAndCutoff := by
  refine ⟨fun s core v hacc hfree =>
    ⟨_, exec_updateRequest v hacc hfree, testBit_armed_updateOp v s, fun _ _ => rfl, fun _ => rfl, rfl⟩, fun s hawake harmed => ?_⟩
  refine ⟨fun hok => ?ok, fun g c hfail => ?fail, fun g hg hin hno hfirst => firstFail_of_not_allowed hg hin hno hfirst⟩
  case ok =>
    have hop := updateCutoff_of_ok hawake harmed hok
    cases h0 : s.bus.armed.testBit 0 with
    | false =>
      rw [h0, if_neg (by simp)] at hop
      refine ⟨_, congrArg Host.Outcome.next hop, ?_⟩
      exact ⟨rfl, rfl, fun _ _ => rfl, fun _ => rfl, fun _ => rfl, fun _ _ h => absurd h (by simp), fun _ _ _ => rfl, rfl⟩
    | true =>
      rw [h0, if_pos rfl] at hop
      obtain ⟨hbus, hrest⟩ := headersRead_frame (withGroups s.bus.armed s) (frozenAll s)
      obtain ⟨hregs, hpend, -⟩ := reads_of_bus_eq hbus
      refine ⟨_, congrArg Host.Outcome.next hop, ?_⟩
      refine ⟨congrArg Bus.frozen hbus, congrArg Bus.armed hbus, fun a _ => hregs a, hpend, fun h => absurd h (by simp),
        fun g hg _ hen => (slot_headersRead _ (frozenAll s) hg).1 hen, fun g hg hdis => (slot_headersRead _ (frozenAll s) hg).2 hdis, ?_⟩
      exact hrest.trans (by rw [hbus]; rfl)
  case fail =>
    obtain ⟨hg, hc⟩ := firstFail_bounds hfail
    obtain ⟨hfrozen, harmed', hcode, hgroup, hflag, hregs, hpend, hbus⟩ := updateRejected_spec (s := s) hg (show c < 16 by omega)
    exact ⟨_, congrArg Host.Outcome.next (updateCutoff_of_fail hawake harmed hfail), hfrozen, harmed', hcode, hgroup, hflag, hregs, hpend, hbus⟩

end Sys2Proof.Machine
end

section
/-!
PROOF. The event recorder (20): the bytes of a record and its seal, the order of writing, clearing and firmware records.
-/

namespace Sys2Proof.Machine

open Sys2Proof

/-! ### Bytes that stand in the MRAM -/

theorem leVal_leBytes (n v : Nat) : leVal (leBytes n v) = v % 256 ^ n := by
  induction n generalizing v with
  | zero => simp [leVal, leBytes, Nat.mod_one]
  | succ n ih =>
    have hhead : (BitVec.ofNat 8 v).toNat = v % 256 := BitVec.toNat_ofNat v 8
    rw [leBytes, leVal, ih, hhead, pow_succ', Nat.mod_mul]

theorem leVal_wordBytes (w : Word) : leVal (wordBytes w) = w.toNat := by
  rw [wordBytes, leVal_leBytes]
  exact Nat.mod_eq_of_lt w.isLt

theorem mramHolds_append {t : State} {off : Nat} {a b : List Byte} :
    MramHolds t off (a ++ b) ↔ MramHolds t off a ∧ MramHolds t (off + a.length) b := by
  constructor
  · intro h
    refine ⟨fun i hi => ?_, fun i hi => ?_⟩
    · rw [h i (by rw [List.length_append]; omega), List.getD_append _ _ _ _ hi]
    · rw [Nat.add_assoc, h (a.length + i) (by rw [List.length_append]; omega), List.getD_append_right _ _ _ _ (by omega),
        Nat.add_sub_cancel_left]
  · rintro ⟨ha, hb⟩ i hi
    rw [List.length_append] at hi
    by_cases hlt : i < a.length
    · rw [ha i hlt, List.getD_append _ _ _ _ hlt]
    · have hright := hb (i - a.length) (by omega)
      rw [List.getD_append_right _ _ _ _ (by omega), ← hright]
      congr 1
      omega

theorem mramHolds_mramPut (off : Nat) (bs : List Byte) (s : State) : MramHolds (mramPut off bs s) off bs := fun i hi => by
  rw [List.getD_eq_getElem _ _ hi]
  exact smGet_putBytes _ _ _ i hi

theorem smGet_mramPut_ne {off j : Nat} {bs : List Byte} (s : State) (h : j < off ∨ off + bs.length ≤ j) :
    smGet 0 (mramPut off bs s).nv.mram j = smGet 0 s.nv.mram j := smGet_putBytes_ne _ _ _ _ h

theorem MramHolds.mramPut {t : State} {off o : Nat} {bs cs : List Byte} (h : MramHolds t off bs) (hd : off + bs.length ≤ o ∨ o + cs.length ≤ off) :
    MramHolds (mramPut o cs t) off bs := fun i hi => (smGet_mramPut_ne t (by omega)).trans (h i hi)

theorem MramHolds.congr {s t : State} {off : Nat} {bs : List Byte} (h : MramHolds s off bs) (hm : t.nv.mram = s.nv.mram) : MramHolds t off bs :=
  fun i hi => by rw [hm, h i hi]

theorem bytesAt_of_holds {t : State} {off : Nat} {bs : List Byte} (h : MramHolds t off bs) : bytesAt t.nv.mram off bs.length = bs := by
  induction bs generalizing off with
  | nil => rfl
  | cons b bs ih =>
    have hhead : smGet 0 t.nv.mram off = b := h 0 (by simp)
    have htail : MramHolds t (off + 1) bs := fun i hi => by
      rw [Nat.add_assoc, Nat.add_comm 1 i, h (i + 1) (by simpa using hi), List.getD_cons_succ]
    rw [List.length_cons, bytesAt, hhead, ih htail]

theorem mramWord_of_holds {t : State} {off : Nat} {w : Word} (h : MramHolds t off (wordBytes w)) : mramWord t off = w := by
  have hbytes : bytesAt t.nv.mram off 4 = wordBytes w := bytesAt_of_holds h
  rw [mramWord, leAt, hbytes, leVal_wordBytes]
  exact BitVec.ofNat_toNat 32 w |>.trans (BitVec.setWidth_eq w)

theorem bytesAt_congr {m m' : List (Nat × Byte)} {a n : Nat} (h : ∀ j, a ≤ j → j < a + n → smGet 0 m' j = smGet 0 m j) :
    bytesAt m' a n = bytesAt m a n := by
  induction n generalizing a with
  | zero => rfl
  | succ n ih => rw [bytesAt, bytesAt, h a (by omega) (by omega), ih fun j hlo hhi => h j (by omega) (by omega)]

theorem mramWord_congr {s t : State} {a : Nat} (h : ∀ j, a ≤ j → j < a + 4 → smGet 0 t.nv.mram j = smGet 0 s.nv.mram j) :
    mramWord t a = mramWord s a := by
  rw [mramWord, leAt, bytesAt_congr h, mramWord, leAt]

theorem leAt_of_holds {t : State} {off n v : Nat} (h : MramHolds t off (leBytes n v)) (hv : v < 256 ^ n) : leAt t.nv.mram off n = v := by
  have hbytes := bytesAt_of_holds h
  rw [leBytes_length] at hbytes
  rw [leAt, hbytes, leVal_leBytes, Nat.mod_eq_of_lt hv]

theorem mramHolds_leBytes {t : State} {off n v : Nat} (h : MramHolds t off (leBytes n v)) (i : Nat) (hi : i < n) :
    smGet 0 t.nv.mram (off + i) = BitVec.ofNat 8 (v / 2 ^ (8 * i)) := by
  have hlen : i < (leBytes n v).length := by rwa [leBytes_length]
  rw [h i hlen, List.getD_eq_getElem _ _ hlen, getElem_leBytes]

/-! ### One record -/

theorem recordBody_length (e : RecEv) (n : Nat) : (recordBody e n).length = 60 := by simp [recordBody]

/-- The parts of a record that stands in a slot (Table 20.1). -/
theorem recordBody_parts {t : State} {off : Nat} {e : RecEv} {n : Nat} (h : MramHolds t off (recordBody e n)) :
    MramHolds t off (leBytes 6 e.sec) ∧ MramHolds t (off + 6) (leBytes 4 e.ns) ∧ MramHolds t (off + 10) (leBytes 2 (e.src * 256 + e.unit)) ∧
      MramHolds t (off + 12) (leBytes 2 e.code) ∧ MramHolds t (off + 14) (leBytes 2 n) ∧
      MramHolds t (off + 16) ((e.data ++ List.replicate 44 0).take 44) := by
  simp only [recordBody, mramHolds_append, List.length_append, leBytes_length] at h
  obtain ⟨⟨⟨⟨⟨hsec, hns⟩, hsrc⟩, hcode⟩, hslot⟩, hdata⟩ := h
  exact ⟨hsec, hns, hsrc, hcode, hslot, hdata⟩

theorem getD_padded (l : List Byte) {i : Nat} (hi : i < 44) : ((l ++ List.replicate 44 0).take 44).getD i 0 = l.getD i 0 := by
  rw [List.getD_eq_getElem?_getD, List.getElem?_take_of_lt hi, ← List.getD_eq_getElem?_getD]
  by_cases h : i < l.length
  · exact List.getD_append _ _ _ _ h
  · rw [List.getD_append_right _ _ _ _ (by omega), List.getD_eq_getElem?_getD, List.getD_eq_default _ _ (by omega),
      List.getElem?_replicate]
    split <;> rfl

/-- The state once the bytes of a record and its seal stand in slot `n`. -/
def withRecord (e : RecEv) (n : Nat) (s : State) : State :=
  mramPut (recBase + 64 * n + 60) (wordBytes (crc32c (recordBody e n))) (mramPut (recBase + 64 * n) (recordBody e n) s)

theorem withRecord_spec (e : RecEv) (n : Nat) (s : State) :
    MramHolds (withRecord e n s) (recBase + 64 * n) (recordBody e n) ∧
      MramHolds (withRecord e n s) (recBase + 64 * n + 60) (wordBytes (crc32c (bytesAt (withRecord e n s).nv.mram (recBase + 64 * n) 60))) ∧
      ∀ j, j < recBase + 64 * n ∨ recBase + 64 * n + 64 ≤ j → smGet 0 (withRecord e n s).nv.mram j = smGet 0 s.nv.mram j := by
  have hlen := recordBody_length e n
  have hbody : MramHolds (withRecord e n s) (recBase + 64 * n) (recordBody e n) :=
    (mramHolds_mramPut _ _ s).mramPut (by omega)
  have hbytes := bytesAt_of_holds hbody
  rw [hlen] at hbytes
  refine ⟨hbody, ?_, fun j hj => ?_⟩
  · rw [hbytes]
    exact mramHolds_mramPut _ _ _
  · exact (smGet_mramPut_ne _ (by rw [wordBytes_length]; omega)).trans (smGet_mramPut_ne _ (by omega))

theorem writeRecord_of_more {e : RecEv} {s : State} {n : Nat} (hn : s.get F.REC_STAT.NEXT = n) (hlt : n < 65535) :
    writeRecord e s = (withRecord e n s).put F.REC_STAT.NEXT (n + 1) := by
  subst hn
  exact if_neg (by rw [recSlots]; omega)

theorem writeRecord_of_last {e : RecEv} {s : State} {n : Nat} (hn : s.get F.REC_STAT.NEXT = n) (hlast : n = 65535) :
    writeRecord e s = (((withRecord e n s).put F.REC_STAT.NEXT (n + 1)).ev F.REC_STAT.FULL).ev F.REC_EVENT.FULL := by
  subst hn
  exact if_pos (by rw [hlast, recSlots])

theorem changesOnly_writeRecord (e : RecEv) {s : State} {n : Nat} (hn : s.get F.REC_STAT.NEXT = n) (hlt : n < 65536) :
    ChangesOnly (· ∈ [Reg.REC_STAT, Reg.REC_EVENT]) (withRecord e n s) (writeRecord e s) := by
  have hput := changesOnly_put (P := (· ∈ [Reg.REC_STAT, Reg.REC_EVENT])) (f := F.REC_STAT.NEXT) (by simp) (withRecord e n s) (n + 1)
  by_cases hlast : n = 65535
  · rw [writeRecord_of_last hn hlast]
    exact (hput.trans (changesOnly_ev (by simp) _)).trans (changesOnly_ev (by simp) _)
  · rw [writeRecord_of_more hn (by omega)]
    exact hput

/-- What a change of registers after the record's bytes leaves of the rest. -/
theorem recordOnly_of_changesOnly {P : Nat → Prop} {e : RecEv} {n : Nat} {s t : State} (h : ChangesOnly P (withRecord e n s) t) :
    t.nv.mram = (withRecord e n s).nv.mram ∧ (∀ b, t.pendReg b = s.pendReg b) ∧
      t = { s with bus := t.bus, nv := { s.nv with mram := t.nv.mram } } := by
  obtain ⟨-, hpend, hbus⟩ := h
  exact ⟨by rw [hbus], hpend, by rw [hbus]; rfl⟩

/-- A record in slot `n`: where the recorder stands after it, and the registers that stay. -/
theorem writeRecord_stat (e : RecEv) {s : State} {n : Nat} (hn : s.get F.REC_STAT.NEXT = n) (hlt : n < 65536) :
    (writeRecord e s).get F.REC_STAT.NEXT = n + 1 ∧
      (n < 65535 → RegsBut [Reg.REC_STAT] s (writeRecord e s) ∧ (writeRecord e s).flag F.REC_STAT.FULL = s.flag F.REC_STAT.FULL) ∧
      (n = 65535 → (writeRecord e s).flag F.REC_STAT.FULL = true ∧ (writeRecord e s).flag F.REC_EVENT.FULL = true ∧
        RegsBut [Reg.REC_STAT, Reg.REC_EVENT] s (writeRecord e s)) := by
  have hfits : (n + 1) % 2 ^ (16 + 1 - 0) = n + 1 := Nat.mod_eq_of_lt (by norm_num; omega)
  by_cases hlast : n = 65535
  · rw [writeRecord_of_last hn hlast]
    refine ⟨?_, fun h => absurd h (by omega), fun _ => ⟨?_, State.flag_ev _ _ (by decide) (by decide), ?_⟩⟩
    · rw [State.ev, State.get_put_other (by decide), State.ev, State.get_put_disjoint (by decide) (by decide) (by decide),
        State.get_put_self (by decide) (by decide), hfits]
    · rw [State.flag_ev_reg _ _ _ (by decide)]
      exact State.flag_ev _ _ (by decide) (by decide)
    · exact ((regsBut_put (by simp) (withRecord e n s) _).trans (regsBut_put (by simp) _ _)).trans (regsBut_put (by simp) _ _)
  · rw [writeRecord_of_more hn (by omega)]
    refine ⟨?_, fun _ => ⟨regsBut_put (by simp) (withRecord e n s) _, ?_⟩, fun h => absurd h hlast⟩
    · rw [State.get_put_self (by decide) (by decide), hfits]
    · exact State.flag_put_bits (withRecord e n s) F.REC_STAT.NEXT F.REC_STAT.FULL (n + 1) rfl (by decide) (by decide) (by decide)

theorem writeRecord_clearing (e : RecEv) {s : State} {n : Nat} (hn : s.get F.REC_STAT.NEXT = n) (hlt : n < 65535) :
    (writeRecord e s).flag F.REC_STAT.CLEARING = s.flag F.REC_STAT.CLEARING := by
  rw [writeRecord_of_more hn hlt]
  exact State.flag_put_bits (withRecord e n s) F.REC_STAT.NEXT F.REC_STAT.CLEARING (n + 1) rfl (by decide) (by decide) (by decide)

/-- A record in slot `n`: its bytes, its seal, and every other byte. -/
theorem writeRecord_holds (e : RecEv) {s : State} {n : Nat} (hn : s.get F.REC_STAT.NEXT = n) (hlt : n < 65536) :
    MramHolds (writeRecord e s) (0x430000 + 64 * n) (recordBody e n) ∧
      mramWord (writeRecord e s) (0x430000 + 64 * n + 60) = crc32c (bytesAt (writeRecord e s).nv.mram (0x430000 + 64 * n) 60) ∧
      ∀ j, j < 0x430000 + 64 * n ∨ 0x430000 + 64 * n + 64 ≤ j → smGet 0 (writeRecord e s).nv.mram j = smGet 0 s.nv.mram j := by
  obtain ⟨hmram, -, -⟩ := recordOnly_of_changesOnly (changesOnly_writeRecord e hn hlt)
  obtain ⟨hbody, hseal, hother⟩ := withRecord_spec e n s
  rw [mramWord, hmram]
  exact ⟨hbody.congr hmram, mramWord_of_holds hseal, hother⟩

/-! ### The lost-event count -/

theorem setLost_spec {v : Nat} (hv : v < 2 ^ 32) (s : State) :
    (setLost v s).reg Reg.REC_LOST = wd v ∧ mramWord (setLost v s) 0x3000 = wd v ∧ mramWord (setLost v s) 0x3004 = wd v ∧
      ∀ j, j < 0x3000 ∨ 0x3008 ≤ j → smGet 0 (setLost v s).nv.mram j = smGet 0 s.nv.mram j := by
  have hbytes : wordBytes (wd v) = leBytes 4 v := congrArg (leBytes 4) (Nat.mod_eq_of_lt hv)
  refine ⟨State.reg_setReg_same _ _ _, mramWord_of_holds ?_, mramWord_of_holds ?_, fun j hj => ?_⟩
  · rw [hbytes]
    exact ((mramHolds_mramPut recHeader _ s).mramPut (.inl (by rw [leBytes_length]))).congr rfl
  · rw [hbytes]
    exact (mramHolds_mramPut (recHeader + 4) _ _).congr rfl
  · have hheader : recHeader = 0x3000 := rfl
    exact (smGet_mramPut_ne (off := recHeader + 4) _ (by rw [leBytes_length]; omega)).trans (smGet_mramPut_ne _ (by rw [leBytes_length]; omega))


theorem reg_setLost_ne {a : Nat} (v : Nat) (s : State) (h : a ≠ Reg.REC_LOST) : (setLost v s).reg a = s.reg a :=
  State.reg_setReg_ne _ _ _ _ h

theorem satN_lost_lt (v : Nat) : satN 0xFFFFFFFF v < 2 ^ 32 := by
  rw [satN]
  omega

/-! ### RECORD_WRITE -/

/-- The next event and the queues without it. -/
theorem nextEvent_eq {s : State} {e : RecEv}
    (h : s.rcd.start = some e ∨ s.rcd.start = none ∧ s.rcd.safety.head? = some e ∨
      s.rcd.start = none ∧ s.rcd.safety = [] ∧ s.rcd.general.head? = some e) :
    ∃ r, nextEvent s = some (e, r) ∧ r.start = none ∧ r.recording = s.rcd.recording ∧
      (s.rcd.start ≠ none → r.safety = s.rcd.safety ∧ r.general = s.rcd.general) ∧
      (s.rcd.start = none → s.rcd.safety ≠ [] → r.safety = s.rcd.safety.tail ∧ r.general = s.rcd.general) ∧
      (s.rcd.start = none → s.rcd.safety = [] → r.safety = [] ∧ r.general = s.rcd.general.tail) := by
  obtain hstart | ⟨hstart, hsafe⟩ | ⟨hstart, hsafe, hgen⟩ := h
  case inl => exact ⟨{ s.rcd with start := none }, by simp [nextEvent, hstart], rfl, rfl, by simp [hstart]⟩
  case inr.inl =>
    obtain ⟨l, hl⟩ := List.head?_eq_some_iff.mp hsafe
    exact ⟨{ s.rcd with safety := l }, by simp [nextEvent, hstart, hl], hstart, rfl, by simp [hstart, hl]⟩
  case inr.inr =>
    obtain ⟨l, hl⟩ := List.head?_eq_some_iff.mp hgen
    exact ⟨{ s.rcd with general := l }, by simp [nextEvent, hstart, hsafe, hl], hstart, rfl, by simp [hstart, hsafe, hl]⟩

theorem recordStep_of_next {s : State} {e : RecEv} {r : Rec} (hawake : s.awake = true) (hrec : s.rcd.recording = true)
    (hclear : s.rcd.clear = none) (hroom : s.get F.REC_STAT.NEXT < 65536) (hnext : nextEvent s = some (e, r)) :
    recordStep s = writeRecord e { s with rcd := r } := by
  rw [recordStep, if_pos (by simp [hawake, hrec, hclear]), hnext]
  exact if_pos hroom

/-! ### REC_CLEAR -/

theorem clearCode_eq (v : Word) : getF F.REC_CLEAR.CODE.bits v = v.toNat % 2 ^ 16 := by simp [getF, bitsLen]

theorem recClearOp_of_ok {core : Sender} {v : Word} {s : State} (hcode : v.toNat % 2 ^ 16 = 0xC1EA) (hmode : s.mode = .commissioning)
    (hidle : s.rcd.clear = none) :
    recClearOp core v s =
      { keepVal Reg.REC_CLEAR v s with
        rcd := { s.rcd with clear := some (core.val, 0), clearTo := 64 * recSlots, clearAt := s.tb.tick } }.ev F.REC_STAT.CLEARING :=
  if_pos ⟨(clearCode_eq v).trans hcode, hmode, by rw [hidle]; rfl⟩

theorem recClearOp_of_bad {core : Sender} {v : Word} {s : State}
    (h : v.toNat % 2 ^ 16 ≠ 0xC1EA ∨ s.mode ≠ .commissioning ∨ s.rcd.clear ≠ none) :
    recClearOp core v s = s.ev F.REC_EVENT.CLR_REJ := by
  refine if_neg ?_
  rintro ⟨hcode, hmode, hidle⟩
  obtain h | h | h := h
  · exact h ((clearCode_eq v).symm.trans hcode)
  · exact h hmode
  · exact h (Option.isNone_iff_eq_none.mp hidle)

/-! ### CLEARED -/

/-- The record area and the header zero, and no clear running. -/
def zeroed (s : State) : State :=
  { mramZero recHeader 8 (mramZero recBase (64 * recSlots) s) with rcd := { s.rcd with clear := none } }

/-- The clear at its end: the record area and the header zero, the flags and NEXT 0, LOST the events lost meanwhile. -/
def emptied (n : Nat) (s : State) : State :=
  setLost (satN 0xFFFFFFFF n) ((((zeroed s).put F.REC_STAT.CLEARING 0).put F.REC_STAT.FULL 0).put F.REC_STAT.NEXT 0)

theorem clearDone_of_running {s : State} {c n : Nat} (h : s.rcd.clear = some (c, n)) :
    clearDone s =
      (writeRecord ⟨0x0B, 0, 2, s.tb.sec, s.tb.ns, items [(s.reg Reg.REC_LOST).toNat, c]⟩ (emptied n s)).ev F.REC_EVENT.CLEARED := by
  rw [clearDone, h]
  rfl

theorem emptied_spec {n : Nat} (hn : n < 2 ^ 32) (s : State) :
    (emptied n s).get F.REC_STAT.NEXT = 0 ∧ (emptied n s).flag F.REC_STAT.CLEARING = false ∧ (emptied n s).flag F.REC_STAT.FULL = false ∧
      (emptied n s).reg Reg.REC_LOST = wd n ∧ mramWord (emptied n s) 0x3000 = wd n ∧ mramWord (emptied n s) 0x3004 = wd n ∧
      (∀ j, 0x430000 ≤ j → j < 0x830000 → smGet 0 (emptied n s).nv.mram j = 0) ∧
      (∀ j, (j < 0x430000 ∧ (j < 0x3000 ∨ 0x3008 ≤ j) ∨ 0x830000 ≤ j) → smGet 0 (emptied n s).nv.mram j = smGet 0 s.nv.mram j) ∧
      RegsBut [Reg.REC_STAT, Reg.REC_LOST] s (emptied n s) := by
  have hsat : satN 0xFFFFFFFF n = n := Nat.min_eq_right (by omega)
  generalize hv : (((zeroed s).put F.REC_STAT.CLEARING 0).put F.REC_STAT.FULL 0).put F.REC_STAT.NEXT 0 = v
  have hm : emptied n s = setLost n v := by rw [← hv, emptied, hsat]
  have hmram : ∀ j, smGet 0 v.nv.mram j = if 0x3000 ≤ j ∧ j < 0x3000 + 8 then 0 else if 0x430000 ≤ j ∧ j < 0x430000 + 0x400000 then 0
      else smGet 0 s.nv.mram j := fun j => by
    rw [← hv]
    exact (smGet_mramZero recHeader 8 j _).trans (by rw [smGet_mramZero]; rfl)
  obtain ⟨hreg, hword0, hword1, hother⟩ := setLost_spec hn v
  have hstat : ∀ f : FRef, f.addr = Reg.REC_STAT → (setLost n v).get f = v.get f := fun f hf =>
    State.get_of_reg_eq (reg_setLost_ne _ _ (by rw [hf]; decide))
  rw [hm]
  refine ⟨?_, ?_, ?_, hreg, hword0, hword1, fun j hlo hhi => ?_, fun j hj => ?_, fun a ha => ?_⟩
  · rw [hstat _ rfl, ← hv, State.get_put_self (by decide) (by decide)]
    rfl
  · rw [State.flag, hstat _ rfl, ← hv, State.get_put_disjoint (by decide) (by decide) (by decide),
      State.get_put_disjoint (by decide) (by decide) (by decide), State.get_put_self (by decide) (by decide)]
    rfl
  · rw [State.flag, hstat _ rfl, ← hv, State.get_put_disjoint (by decide) (by decide) (by decide),
      State.get_put_self (by decide) (by decide)]
    rfl
  · rw [hother j (by omega), hmram, if_neg (by omega), if_pos (by omega)]
  · rw [hother j (by omega), hmram, if_neg (by omega), if_neg (by omega)]
  · rw [reg_setLost_ne _ _ fun h => ha (by simp [h]), ← hv]
    exact ((regsBut_put (by simp) (zeroed s) _).trans (regsBut_put (by simp) _ _)).trans (regsBut_put (by simp) _ _) a ha

theorem setLost_frame (v : Nat) (s : State) : (∀ b, (setLost v s).pendReg b = s.pendReg b) ∧
    setLost v s = { s with bus := (setLost v s).bus, nv := { s.nv with mram := (setLost v s).nv.mram } } := ⟨fun _ => rfl, rfl⟩

theorem emptied_frame (n : Nat) (s : State) : (∀ b, (emptied n s).pendReg b = s.pendReg b) ∧
    emptied n s = { s with bus := (emptied n s).bus, rcd := { s.rcd with clear := none }, nv := { s.nv with mram := (emptied n s).nv.mram } } := by
  have hput : ChangesOnly (fun _ => True) (zeroed s) ((((zeroed s).put F.REC_STAT.CLEARING 0).put F.REC_STAT.FULL 0).put F.REC_STAT.NEXT 0) :=
    ((changesOnly_put trivial _ _).trans (changesOnly_put trivial _ _)).trans (changesOnly_put trivial _ _)
  obtain ⟨-, hpend, hframe⟩ := hput
  rw [emptied]
  generalize (((zeroed s).put F.REC_STAT.CLEARING 0).put F.REC_STAT.FULL 0).put F.REC_STAT.NEXT 0 = v at *
  obtain ⟨hpend', hframe'⟩ := setLost_frame (satN 0xFFFFFFFF n) v
  refine ⟨fun b => (hpend' b).trans (hpend b), hframe'.trans ?_⟩
  rw [hframe]
  rfl

/-- The frames of the parts of a clear's end, in one. -/
theorem clearedFrame {s m u t : State} {r : Rec} (ht : t = { u with bus := t.bus })
    (hu : u = { m with bus := u.bus, nv := { m.nv with mram := u.nv.mram } })
    (hm : m = { s with bus := m.bus, rcd := r, nv := { s.nv with mram := m.nv.mram } }) :
    t = { s with bus := t.bus, rcd := r, nv := { s.nv with mram := t.nv.mram } } := by
  rw [ht, hu, hm]

/-! ### REC_APP_CMD -/

theorem appCode_eq (v : Word) : getF F.REC_APP_CMD.CODE.bits v = v.toNat / 2 ^ 16 := by
  simp only [getF, bitsLen]
  exact Nat.mod_eq_of_lt (by have := v.isLt; omega)

theorem exec_recAppCmd {s : State} {core : Sender} (v : Word) (hacc : canAccess s core = true) (hfree : Unguarded s Reg.REC_APP_CMD) :
    exec (.recAppCmd core v) s = .next (recAppOp core v s) :=
  congrArg Host.Outcome.next (writeCmd_of_unguarded (recAppOp core v) hacc hfree)

theorem recAppOp_of_app {core : Sender} {v : Word} {s : State} (h : 0x8000 ≤ v.toNat / 2 ^ 16) :
    recAppOp core v s = record 0x20 core.val (v.toNat / 2 ^ 16) (appData s) s := by
  rw [recAppOp, appCode_eq]
  exact if_pos h

theorem recAppOp_of_low {core : Sender} {v : Word} {s : State} (h : v.toNat / 2 ^ 16 < 0x8000) :
    recAppOp core v s = s.ev F.REC_EVENT.APP_REJ := by
  rw [recAppOp, appCode_eq]
  exact if_neg (by omega)

/-- A byte of words laid end to end. -/
theorem getD_flatten_words (l : List (List Byte)) (hl : ∀ w, w ∈ l → w.length = 4) (i : Nat) :
    l.flatten.getD i 0 = (l.getD (i / 4) []).getD (i % 4) 0 := by
  induction l generalizing i with
  | nil => simp
  | cons w l ih =>
    have hw : w.length = 4 := hl w (by simp)
    rw [List.flatten_cons]
    by_cases hi : i < 4
    · rw [List.getD_append _ _ _ _ (by omega), Nat.div_eq_of_lt hi, Nat.mod_eq_of_lt hi, List.getD_cons_zero]
    · obtain ⟨k, rfl⟩ := Nat.exists_eq_add_of_le (Nat.le_of_not_lt hi)
      rw [List.getD_append_right _ _ _ _ (by omega), hw, Nat.add_sub_cancel_left, ih (fun w h => hl w (List.mem_cons_of_mem _ h)),
        Nat.add_div_left _ (by decide), Nat.add_mod_left, List.getD_cons_succ]

theorem record_enters {s : State} (src unit code : Nat) (data : List Byte) (hopen : s.flag F.REC_STAT.FULL = false ∨ s.rcd.clear ≠ none)
    (hroom : s.rcd.general.length < 32) :
    record src unit code data s =
      { s with rcd := { s.rcd with general := enter ⟨src, unit, code, s.tb.sec, s.tb.ns, data⟩ s.rcd.general } } := by
  have hnot : ¬ (s.flag F.REC_STAT.FULL && s.rcd.clear.isNone) = true := by
    simpa [Option.isNone_iff_eq_none, imp_iff_not_or] using hopen
  rw [record, enqueue, if_neg hnot, if_neg (by decide)]
  exact if_pos hroom

theorem record_drops {s : State} (src unit code : Nat) (data : List Byte)
    (hfull : (s.flag F.REC_STAT.FULL = true ∧ s.rcd.clear = none) ∨ 32 ≤ s.rcd.general.length) : record src unit code data s = dropEvent s := by
  rw [record, enqueue]
  split
  · rfl
  next hopen =>
    obtain ⟨h, hidle⟩ | hlen := hfull
    · exact absurd (by rw [h, hidle]; rfl) hopen
    · rw [if_neg (by decide)]
      exact if_neg (by omega)

theorem dropEvent_of_idle {s : State} (h : s.rcd.clear = none) :
    dropEvent s = setLost (satN 0xFFFFFFFF ((s.reg Reg.REC_LOST).toNat + 1)) (s.ev F.REC_EVENT.DROP) := by
  have hlost : (s.ev F.REC_EVENT.DROP).reg Reg.REC_LOST = s.reg Reg.REC_LOST := State.reg_ev_ne _ _ _ (by decide)
  have hsame : (s.ev F.REC_EVENT.DROP).rcd.clear = none := h
  rw [dropEvent]
  simp only [hsame, hlost]

theorem dropEvent_of_clear {s : State} {c n : Nat} (h : s.rcd.clear = some (c, n)) :
    dropEvent s = { s.ev F.REC_EVENT.DROP with rcd := { s.rcd with clear := some (c, n + 1) } } := by
  have hsame : (s.ev F.REC_EVENT.DROP).rcd.clear = some (c, n) := h
  rw [dropEvent]
  simp only [hsame]
  rfl

theorem appData_length (s : State) : (appData s).length = 44 := by
  simp [appData, Function.comp_def]

theorem appData_getD (s : State) {i : Nat} (hi : i < 44) :
    (appData s).getD i 0 = BitVec.ofNat 8 ((s.reg (Reg.REC_APP_DATA (i / 4))).toNat / 2 ^ (8 * (i % 4))) := by
  have hword : i / 4 < 11 := by omega
  have hbyte : i % 4 < (wordBytes (s.reg (Reg.REC_APP_DATA (i / 4)))).length := by
    rw [wordBytes_length]
    exact Nat.mod_lt _ (by decide)
  have hchunk : ((List.range 11).map (fun w => wordBytes (s.reg (Reg.REC_APP_DATA w)))).getD (i / 4) [] =
      wordBytes (s.reg (Reg.REC_APP_DATA (i / 4))) := by
    rw [List.getD_eq_getElem _ _ (by simpa using hword), List.getElem_map, List.getElem_range]
  rw [appData, getD_flatten_words _ (by simp), hchunk, List.getD_eq_getElem _ _ hbyte]
  exact getElem_leBytes 4 _ _ hbyte

/-- The low byte of a source word is the unit's. -/
theorem ofNat_source_low (src unit : Nat) : BitVec.ofNat 8 ((src * 256 + unit) / 2 ^ (8 * 0)) = BitVec.ofNat 8 unit := by
  refine BitVec.eq_of_toNat_eq ?_
  simp only [BitVec.toNat_ofNat, Nat.mul_zero, pow_zero, Nat.div_one]
  omega

/-- Settles O57: what RECORD_WRITE seals, what a clear leaves, and what enters the general queue. -/
theorem recordsAreSealedInOrder : Obligations.RecordsAreSealedInOrder := by
  refine ⟨fun s e n hawake hrec hclear hn hlt hnext => ?write, fun s core v hguard => ⟨fun hcode hmode hidle => ?clear, fun hbad => ?clearBad⟩,
    fun s c n hclear hn => ?cleared, fun s core v hacc hfree =>
      ⟨fun happ hroom hlen => ?queued, fun happ hidle hfull => ?dropped, fun c n happ hclear hlen => ?droppedInClear, fun hlow => ?low⟩⟩
  case write =>
    obtain ⟨r, hr, hstart, -, hfirst, hsafe, hgen⟩ := nextEvent_eq hnext
    have hget : State.get { s with rcd := r } F.REC_STAT.NEXT = n := hn.symm
    have hstep := recordStep_of_next hawake hrec hclear (hn ▸ hlt) hr
    obtain ⟨hmram, hpend, hframe⟩ := recordOnly_of_changesOnly (changesOnly_writeRecord e hget hlt)
    obtain ⟨hnum, hmore, hlast⟩ := writeRecord_stat e hget hlt
    obtain ⟨hbody, hseal, hother⟩ := writeRecord_holds e hget hlt
    obtain ⟨hsec, hns, hsrc, hcode, hslot, hdata⟩ := recordBody_parts hbody
    have hrcd : (writeRecord e { s with rcd := r }).rcd = r := by rw [hframe]
    refine ⟨writeRecord e { s with rcd := r }, congrArg Host.Outcome.next hstep, mramHolds_leBytes hsec, mramHolds_leBytes hns,
      (mramHolds_leBytes hsrc 0 (by decide)).trans (ofNat_source_low _ _), fun hunit => ?_, mramHolds_leBytes hcode, mramHolds_leBytes hslot,
      fun i hi => ?_, hseal, hother, hnum, hmore, hlast, hpend, ?_⟩
    · refine (mramHolds_leBytes hsrc 1 (by decide)).trans (congrArg (BitVec.ofNat 8) ?_)
      omega
    · exact (hdata i (by simpa using hi)).trans (getD_padded e.data hi)
    · rw [hrcd]
      exact ⟨hstart, hfirst, hsafe, hgen, hframe⟩
  case clear =>
    refine ⟨recClearOp core v (dropGuard 11 s), congrArg Host.Outcome.next (cplWrite_of_armed (recClearOp core) hguard.1 (by decide) hguard.2), ?_⟩
    rw [recClearOp_of_ok (s := dropGuard 11 s) hcode hmode hidle]
    refine ⟨rfl, State.flag_ev _ _ (by decide) (by decide), ?_, fun b => State.pendReg_setReg _ _ b _, rfl⟩
    exact (regsBut_setReg (by simp) s _).trans (regsBut_put (by simp) _ _)
  case clearBad =>
    refine ⟨recClearOp core v (dropGuard 11 s), congrArg Host.Outcome.next (cplWrite_of_armed (recClearOp core) hguard.1 (by decide) hguard.2), ?_⟩
    rw [recClearOp_of_bad (s := dropGuard 11 s) hbad]
    exact ⟨State.flag_ev _ _ (by decide) (by decide), regsBut_put (by simp) s _, fun _ => rfl, rfl⟩
  case cleared =>
    refine ⟨_, congrArg Host.Outcome.next (clearDone_of_running hclear), ?_⟩
    obtain ⟨hnext, hclearing, hfull, hlost, hword0, hword1, hzero, hrest, hregs⟩ := emptied_spec hn s
    obtain ⟨hpendE, hframeE⟩ := emptied_frame n s
    generalize hm : emptied n s = m at *
    generalize he : RecEv.mk 0x0B 0 2 s.tb.sec s.tb.ns (items [(s.reg Reg.REC_LOST).toNat, c]) = e
    have hroom : 0 < 65536 := Nat.two_pow_pos 16
    obtain ⟨hbody, hseal, hother⟩ := writeRecord_holds e hnext hroom
    obtain ⟨hnum, hmore, -⟩ := writeRecord_stat e hnext hroom
    obtain ⟨hregs', hfull'⟩ := hmore (by omega)
    obtain ⟨-, hpend, hframe⟩ := recordOnly_of_changesOnly (changesOnly_writeRecord e hnext hroom)
    obtain ⟨-, -, -, hcode, -, hdata⟩ := recordBody_parts hbody
    have hclearing' := writeRecord_clearing e hnext (by omega)
    generalize writeRecord e m = u at *
    simp only [Nat.mul_zero, Nat.add_zero] at hseal hother hcode hdata
    have hcode2 : e.code = 2 := by rw [← he]
    have hold : MramHolds u (0x430000 + 16) (wordBytes (s.reg Reg.REC_LOST)) := fun i hi => by
      rw [wordBytes_length] at hi
      refine (hdata i (by simp; omega)).trans ((getD_padded e.data (by omega)).trans ?_)
      rw [← he]
      exact List.getD_append _ _ _ _ (by simpa using hi)
    have hreg : ∀ a, a ≠ Reg.REC_EVENT → (u.ev F.REC_EVENT.CLEARED).reg a = u.reg a := fun a ha => State.reg_ev_ne _ _ _ ha
    obtain ⟨hevent, -, hlast⟩ := State.ev_frame u F.REC_EVENT.CLEARED (by decide) (by decide)
    have hpend' : ∀ b, (u.ev F.REC_EVENT.CLEARED).pendReg b = u.pendReg b := fun b => State.pendReg_setReg _ _ b _
    generalize u.ev F.REC_EVENT.CLEARED = t at *
    have hnv : t.nv = u.nv := by rw [hlast]
    have hrcd : t.rcd.clear = none := by rw [hlast, hframe, hframeE]
    have hword : ∀ o, o + 4 ≤ 0x430000 → mramWord t o = mramWord m o := fun o ho =>
      mramWord_congr fun j _ hj => by rw [hnv, hother j (by omega)]
    have hslot0 : mramWord t (0x430000 + 16) = s.reg Reg.REC_LOST := mramWord_of_holds (hold.congr (by rw [hnv]))
    have hseal' : mramWord t (0x430000 + 60) = crc32c (bytesAt t.nv.mram 0x430000 60) := by
      rw [mramWord, hnv, ← hseal, mramWord]
    have hcode' : leAt t.nv.mram (0x430000 + 12) 2 = 2 := by
      rw [hnv]
      exact leAt_of_holds (hcode2 ▸ hcode) (by decide)
    refine ⟨hrcd, ?next, ?clearing, ?full, ?lost, (hword 0x3000 (by omega)).trans hword0, (hword 0x3004 (by omega)).trans hword1,
      hevent, hseal', hcode', hslot0, fun j hlo hhi => ?_, fun j hj => ?_, fun a ha => ?regs, fun b => ?pend, clearedFrame hlast hframe hframeE⟩
    case next => exact (State.get_of_reg_eq (hreg _ (by decide))).trans hnum
    case clearing => exact (flag_of_reg_eq (hreg _ (by decide))).trans (hclearing'.trans hclearing)
    case full => exact (flag_of_reg_eq (hreg _ (by decide))).trans (hfull'.trans hfull)
    case lost => exact (hreg _ (by decide)).trans ((hregs' _ (by simp)).trans hlost)
    case regs =>
      refine (hreg a fun h => ha (by simp [h])).trans ((hregs' a fun h => ha ?_).trans (hregs a fun h => ha ?_))
      · simp only [List.mem_cons, List.not_mem_nil, or_false] at h ⊢
        exact .inl h
      · simp only [List.mem_cons, List.not_mem_nil, or_false] at h ⊢
        exact h.imp_right .inl
    case pend => exact (hpend' b).trans ((hpend b).trans (hpendE b))
    · rw [hnv, hother j (.inr (by omega)), hzero j (by omega) hhi]
    · rw [hnv, hother j (by omega), hrest j hj]
  case queued => 
    refine ⟨_, exec_recAppCmd v hacc hfree, ?_⟩
    rw [recAppOp_of_app happ, record_enters _ _ _ _ hroom hlen]
    exact ⟨⟨appData s, entered_enter _ _, appData_length s, fun i hi => appData_getD s hi⟩, rfl⟩
  case dropped => 
    refine ⟨_, exec_recAppCmd v hacc hfree, ?_⟩
    rw [recAppOp_of_app happ, record_drops _ _ _ _ (hfull.imp_left fun h => ⟨h, hidle⟩), dropEvent_of_idle hidle]
    obtain ⟨hreg, hword0, hword1, hother⟩ := setLost_spec (satN_lost_lt ((s.reg Reg.REC_LOST).toNat + 1)) (s.ev F.REC_EVENT.DROP)
    refine ⟨?_, hreg, hword0.trans hreg.symm, hword1.trans hreg.symm, hother, ?_, fun _ => rfl, rfl⟩
    · exact (flag_of_reg_eq (reg_setLost_ne _ _ (by decide))).trans (State.flag_ev s _ (by decide) (by decide))
    · exact fun a ha => (reg_setLost_ne _ _ fun h => ha (by simp [h])).trans (regsBut_put (by simp) s _ a ha)
  case droppedInClear => 
    refine ⟨_, exec_recAppCmd v hacc hfree, ?_⟩
    rw [recAppOp_of_app happ, record_drops _ _ _ _ (.inr hlen), dropEvent_of_clear hclear]
    exact ⟨rfl, State.flag_ev s _ (by decide) (by decide), regsBut_put (by simp) s _, fun _ => rfl, rfl⟩
  case low =>
    refine ⟨_, exec_recAppCmd v hacc hfree, ?_⟩
    rw [recAppOp_of_low hlow]
    exact ⟨State.flag_ev _ _ (by decide) (by decide), regsBut_put (by simp) s _, fun _ => rfl, rfl⟩

end Sys2Proof.Machine
end

section
/-!
PROOF. Scheduling commands (07 R212, R224, R233): the fault clear, the control-mode hand-over and the permission of an owner hand-over.
-/

namespace Sys2Proof.Machine

open Sys2Proof

/-! ### What the scheduling table is read from -/

/-- The bindings of the slots and the slots' states stand as before. -/
def SameSlots (s t : State) : Prop :=
  (∀ g, g < 256 → smFind t.bus.regs (Reg.TAC_SLOT_BIND g) = smFind s.bus.regs (Reg.TAC_SLOT_BIND g)) ∧ t.tide.slots = s.tide.slots

namespace SameSlots

theorem refl (s : State) : SameSlots s s := ⟨fun _ _ => rfl, rfl⟩

theorem trans {s t u : State} (hst : SameSlots s t) (htu : SameSlots t u) : SameSlots s u :=
  ⟨fun g hg => (htu.1 g hg).trans (hst.1 g hg), htu.2.trans hst.2⟩

theorem slot {s t : State} (h : SameSlots s t) (g : Nat) : t.slot g = s.slot g := by rw [State.slot, h.2, State.slot]

theorem en {s t : State} (h : SameSlots s t) {g : Nat} (hg : g < 256) : slotEn t g = slotEn s g := by
  rw [slotEn, h.1 g hg, slotEn]

theorem bindWord {s t : State} (h : SameSlots s t) {g : Nat} (hg : g < 256) : t.reg (Reg.TAC_SLOT_BIND g) = s.reg (Reg.TAC_SLOT_BIND g) := by
  rw [State.reg, smGet, h.1 g hg, State.reg, smGet]

theorem kind {s t : State} (h : SameSlots s t) {g : Nat} (hg : g < 256) : slotKind t g = slotKind s g := State.get_of_reg_eq (h.bindWord hg)

theorem bind {s t : State} (h : SameSlots s t) {g : Nat} (hg : g < 256) : slotBind t g = slotBind s g := State.get_of_reg_eq (h.bindWord hg)

theorem live {s t : State} (h : SameSlots s t) (k b : Nat) : liveSlotsOf t k b = liveSlotsOf s k b := by
  have hen : enabledSlots t = enabledSlots s := List.filter_congr fun g hg => h.en (by have := List.mem_range.mp hg; rw [numSlots] at this; omega)
  have hlt : ∀ g, g ∈ enabledSlots s → g < 256 := fun g hg => by
    have := List.mem_range.mp (List.mem_filter.mp hg).1
    rw [numSlots] at this
    omega
  have hof : slotsOf t k b = slotsOf s k b := by
    rw [slotsOf, slotsOf, hen]
    exact List.filter_congr fun g hg => by rw [h.kind (hlt g hg), h.bind (hlt g hg)]
  rw [liveSlotsOf, liveSlotsOf, hof]
  exact List.filter_congr fun g _ => by rw [h.slot]

theorem ctrl {s t : State} (h : SameSlots s t) (k b : Nat) : ctrlSlot t k b = ctrlSlot s k b := by
  rw [ctrlSlot, ctrlSlot, h.live]
  exact congrArg (fun p => (liveSlotsOf s k b).find? p) (funext fun g => by rw [h.slot])

end SameSlots

theorem smFind_smSet_ne {α : Type} [DecidableEq α] (d : α) (m : List (Nat × α)) {k j : Nat} (v : α) (h : j ≠ k) :
    smFind (smSet d m k v) j = smFind m j := by
  rw [smSet]
  split
  · exact smFind_smErase_ne m k j h
  · exact smFind_smPut_ne m k j v h

/-- A register behind the scheduling table is none of its bindings. -/
theorem sameSlots_setReg {a : Nat} (ha : 0x40021000 ≤ a) (s : State) (w : Word) : SameSlots s (s.setReg a w) :=
  ⟨fun g hg => smFind_smSet_ne _ _ _ (by
    have : Reg.TAC_SLOT_BIND g = 0x40020000 + 0x10 * g := rfl
    omega), rfl⟩

theorem sameSlots_dropGuard (b : Nat) (s : State) : SameSlots s (dropGuard b s) := ⟨fun _ _ => rfl, rfl⟩

/-! ### TAC_FAULT_CLR -/

theorem exec_tacFaultClr {s : State} {core : Sender} {v : Word} (hguard : Guarded s core Reg.TAC_FAULT_CLR v) :
    exec (.tacFaultClr core (~~~ v)) s = .next (faultClrOp v (dropGuard 2 s)) :=
  congrArg Host.Outcome.next (cplWrite_of_armed faultClrOp hguard.1 (by decide) hguard.2)

theorem faultSlot_eq (v : Word) : getF F.TAC_FAULT_CLR.SLOT.bits v = v.toNat % 256 := by simp [getF, bitsLen]

theorem faultClrOp_of_ok {s : State} {v : Word} {g : Nat} (hg : g = v.toNat % 256) (hlt : g < 192)
    (hcar : slotKind s g = 1 → recMoves s (slotBind s g) = false) (hchan : slotKind s g = 2 → chanUnderCar s (slotBind s g) = false) :
    faultClrOp v s = ((keepVal Reg.TAC_FAULT_CLR v s).put (F.TAC_OVR.FAULT g) 0).put (F.TAC_OVR.CONSEC g) 0 := by
  rw [faultClrOp, faultSlot_eq, ← hg]
  refine if_pos (Bool.and_eq_true_iff.mpr ⟨decide_eq_true hlt, ?_⟩)
  split
  next h => rw [hcar h]; rfl
  next h => rw [hchan h]; rfl
  next => rfl

theorem faultClrOp_of_bad {s : State} {v : Word} {g : Nat} (hg : g = v.toNat % 256)
    (h : 192 ≤ g ∨ slotKind s g = 1 ∧ recMoves s (slotBind s g) = true ∨ slotKind s g = 2 ∧ chanUnderCar s (slotBind s g) = true) :
    faultClrOp v s = (keepVal Reg.TAC_FAULT_CLR v s).ev F.TAC_SCHED_EVENT.REFUSED := by
  rw [faultClrOp, faultSlot_eq, ← hg]
  refine if_neg ?_
  obtain h | ⟨hkind, hmove⟩ | ⟨hkind, hunder⟩ := h
  · simp [numSlots, Nat.not_lt.mpr h]
  · simp [hkind, hmove]
  · simp [hkind, hunder]

/-! ### TAC_HO_CMD -/

theorem hoSlot_eq (v : Word) : getF F.TAC_HO_CMD.SLOT.bits v = v.toNat % 256 := by simp [getF, bitsLen]

theorem hoOp_eq (v : Word) : getF F.TAC_HO_CMD.OP.bits v = v.toNat / 256 % 4 := by simp [getF, bitsLen]

/-- The command register kept, and the guard of its block gone. -/
def hoTaken (v : Word) (s : State) : State := keepVal Reg.TAC_HO_CMD v (dropGuard 2 s)

theorem exec_controlModeHandover {s : State} {core : Sender} {v : Word} (hguard : Guarded s core Reg.TAC_HO_CMD v) (hop : v.toNat / 256 % 4 = 1) :
    exec (.controlModeHandover core (~~~ v)) s = .next (startModeHo (v.toNat % 256) (hoTaken v s)) := by
  have hcpl : cplIs F.TAC_HO_CMD.OP 1 (~~~ v) = true := by rw [cplIs, BitVec.not_not, hoOp_eq, hop]; rfl
  change Host.Outcome.next (if cplIs F.TAC_HO_CMD.OP 1 (~~~ v) then cplWrite core Reg.TAC_HO_CMD (~~~ v) hoCmdOp s else s) = _
  rw [if_pos hcpl, cplWrite_of_armed (b := 2) hoCmdOp hguard.1 (by decide) hguard.2, hoCmdOp, hoOp_eq, hop, hoSlot_eq]
  rfl

theorem exec_permitOwnerHandover {s : State} {core : Sender} {v : Word} (hguard : Guarded s core Reg.TAC_HO_CMD v)
    (hop : v.toNat / 256 % 4 = 2) :
    exec (.permitOwnerHandover core (~~~ v)) s = .next (permitOwnerHo (v.toNat % 256) (hoTaken v s)) := by
  have hcpl : cplIs F.TAC_HO_CMD.OP 2 (~~~ v) = true := by rw [cplIs, BitVec.not_not, hoOp_eq, hop]; rfl
  change Host.Outcome.next (if cplIs F.TAC_HO_CMD.OP 2 (~~~ v) then cplWrite core Reg.TAC_HO_CMD (~~~ v) hoCmdOp s else s) = _
  rw [if_pos hcpl, cplWrite_of_armed (b := 2) hoCmdOp hguard.1 (by decide) hguard.2, hoCmdOp, hoOp_eq, hop, hoSlot_eq]
  rfl

theorem sameSlots_hoTaken (v : Word) (s : State) : SameSlots s (hoTaken v s) :=
  (sameSlots_dropGuard 2 s).trans (sameSlots_setReg (by decide) _ _)

theorem regsBut_hoTaken (v : Word) (s : State) : RegsBut [Reg.TAC_HO_CMD] s (hoTaken v s) :=
  regsBut_setReg (by simp) (dropGuard 2 s) _

theorem hoTaken_frame (v : Word) (s : State) :
    (∀ b, (hoTaken v s).pendReg b = s.pendReg b) ∧ hoTaken v s = { s with bus := (hoTaken v s).bus } := ⟨fun _ => rfl, rfl⟩

/-- The comparison a control-mode hand-over starts with. -/
def startedHo (kind : HoKind) (s : State) (o g l : Nat) : HandOver := ⟨kind, .comparing, 0, s.tb.k, o, g, 0, 0, l, [], false, false⟩

theorem startModeHo_of_car {s : State} {g o : Nat} (hg : g < 192) (hen : slotEn s g = true) (hlive : (s.slot g).bad = false)
    (hkind : slotKind s g = 1) (hctrl : ctrlSlot s 1 (slotBind s g) = some o) (hne : o ≠ g) (hidle : (s.car (slotBind s g)).ho = none) :
    startModeHo g s = setHoCar (slotBind s g) (startedHo .carMode s o g (hoL s false)) s := by
  simp only [startModeHo, hkind, hctrl, hen, hlive, hidle, numSlots, hne, Nat.not_le.mpr hg]
  rfl

theorem startModeHo_of_chan {s : State} {g o : Nat} (hg : g < 192) (hen : slotEn s g = true) (hlive : (s.slot g).bad = false)
    (hkind : slotKind s g = 2) (hctrl : ctrlSlot s 2 (slotBind s g) = some o) (hne : o ≠ g) (hidle : (s.chan (slotBind s g)).ho = none) :
    startModeHo g s = setHoChan (slotBind s g) (startedHo .chanMode s o g (hoL s true)) s := by
  simp only [startModeHo, hkind, hctrl, hen, hlive, hidle, numSlots, hne, Nat.not_le.mpr hg]
  rfl

theorem startModeHo_of_refused {s : State} {g : Nat}
    (h : slotEn s g = false ∨ (s.slot g).bad = true ∨ ctrlSlot s (slotKind s g) (slotBind s g) = none ∨
      ctrlSlot s (slotKind s g) (slotBind s g) = some g ∨ slotKind s g = 1 ∧ (s.car (slotBind s g)).ho ≠ none ∨
      slotKind s g = 2 ∧ (s.chan (slotBind s g)).ho ≠ none) :
    startModeHo g s = s.ev F.TAC_SCHED_EVENT.REFUSED := by
  rw [startModeHo]
  dsimp only
  split
  · rfl
  next o ho =>
    refine if_pos ?_
    rw [ho] at h
    obtain h | h | h | h | ⟨hk, h⟩ | ⟨hk, h⟩ := h
    · exact .inr (.inl h)
    · exact .inr (.inr (.inl h))
    · exact absurd h (by simp)
    · exact .inr (.inr (.inr (.inr (.inl (Option.some.inj h)))))
    · simp [hk, Option.isSome_iff_ne_none, h]
    · simp [hk, Option.isSome_iff_ne_none, h]

theorem permitOwnerHo_of_ok {s : State} {g : Nat} (hg : g < 192) (hen : slotEn s g = true) (hkind : slotKind s g = 1)
    (hrest : recMoves s (slotBind s g) = false) :
    permitOwnerHo g s = s.modCar (slotBind s g) (fun r => { r with hoFailed := false }) := if_pos ⟨hg, hen, hkind, hrest⟩

theorem permitOwnerHo_of_refused {s : State} {g : Nat} (h : slotEn s g = false ∨ slotKind s g ≠ 1 ∨ recMoves s (slotBind s g) = true) :
    permitOwnerHo g s = s.ev F.TAC_SCHED_EVENT.REFUSED := by
  refine if_neg ?_
  rintro ⟨-, hen, hkind, hrest⟩
  simp [hen, hkind, hrest] at h

/-- A refusal after the command register has taken its value. -/
theorem refused_after {s t : State} {a : Nat} (hregs : RegsBut [a] s t) (hpend : ∀ b, t.pendReg b = s.pendReg b)
    (hframe : t = { s with bus := t.bus }) :
    (t.ev F.TAC_SCHED_EVENT.REFUSED).flag F.TAC_SCHED_EVENT.REFUSED = true ∧
      OnlyRegs [Reg.TAC_SCHED_EVENT, a] s (t.ev F.TAC_SCHED_EVENT.REFUSED) :=
  ⟨State.flag_ev _ _ (by decide) (by decide), onlyRegs_of_changesOnly ((ChangesOnly.mono ⟨hregs, hpend, hframe⟩ (by simp)).trans
    (changesOnly_ev (by simp) t))⟩

theorem fault_cleared {s t : State} {g : Nat} (hg : g < 192) (hregs : RegsBut [Reg.TAC_FAULT_CLR] s t)
    (hpend : ∀ b, t.pendReg b = s.pendReg b) (hframe : t = { s with bus := t.bus }) :
    let u := (t.put (F.TAC_OVR.FAULT g) 0).put (F.TAC_OVR.CONSEC g) 0
    u.get (F.TAC_OVR.FAULT g) = 0 ∧ u.get (F.TAC_OVR.CONSEC g) = 0 ∧ u.get (F.TAC_OVR.TOTAL g) = s.get (F.TAC_OVR.TOTAL g) ∧
      OnlyRegs [Reg.TAC_OVR g, Reg.TAC_FAULT_CLR] s u := by
  have hother : 0x40021000 + 0x4 * g ≠ 0x40021340 := by omega
  have htotal : t.get (F.TAC_OVR.TOTAL g) = s.get (F.TAC_OVR.TOTAL g) := State.get_of_reg_eq (hregs _ (by simpa using hother))
  refine ⟨?_, ?_, ?_, onlyRegs_of_changesOnly (((ChangesOnly.mono ⟨hregs, hpend, hframe⟩ (by simp)).trans
    (changesOnly_put (by simp) t 0)).trans (changesOnly_put (by simp) _ 0))⟩
  · rw [State.get_put_disjoint (by decide) (by decide) (by decide), State.get_put_self (by decide) (by decide), Nat.zero_mod]
  · rw [State.get_put_self (by decide) (by decide), Nat.zero_mod]
  · rw [State.get_put_disjoint (by decide) (by decide) (by decide), State.get_put_disjoint (by decide) (by decide) (by decide), htotal]

theorem recMoves_of_frame {s t : State} (h : t = { s with bus := t.bus }) (c : Nat) : recMoves t c = recMoves s c := by rw [h]; rfl

/-- Settles O29: who is accepted, what changes then, and that every other request is refused and told of. -/
theorem schedulingCommands : Obligations.SchedulingCommands := by
  refine ⟨fun s core v g hguard hg => ⟨fun hlt hcar hchan => ?cleared, fun hbad => ?notCleared⟩, fun s core v g b hguard hg hb =>
    ⟨fun hop => ⟨fun o hlt hen hlive hkind hctrl hne hidle => ?carHo, fun o hlt hen hlive hkind hctrl hne hidle => ?chanHo, fun hbad => ?noHo⟩,
      fun hop => ⟨fun hlt hen hkind hrest => ?permit, fun hbad => ?noPermit⟩⟩⟩
  case cleared =>
    refine ⟨_, exec_tacFaultClr hguard, ?_⟩
    rw [faultClrOp_of_ok (s := dropGuard 2 s) hg hlt hcar hchan]
    exact fault_cleared hlt (regsBut_setReg (by simp) (dropGuard 2 s) _) (fun _ => rfl) rfl
  case notCleared =>
    refine ⟨_, exec_tacFaultClr hguard, ?_⟩
    rw [faultClrOp_of_bad (s := dropGuard 2 s) hg hbad]
    exact refused_after (regsBut_setReg (by simp) (dropGuard 2 s) _) (fun _ => rfl) rfl
  all_goals
    have hsame := sameSlots_hoTaken v s
    have hregs := regsBut_hoTaken v s
    obtain ⟨hpend, hframe⟩ := hoTaken_frame v s
    have hg256 : g < 256 := by rw [hg]; exact Nat.mod_lt _ (by decide)
    have hbind : slotBind (hoTaken v s) g = b := (hsame.bind hg256).trans hb.symm
  case carHo =>
    refine ⟨_, exec_controlModeHandover hguard hop, ?_⟩
    generalize hoTaken v s = t at *
    rw [← hg, startModeHo_of_car hlt ((hsame.en hg256).trans hen) (by rw [hsame.slot, hlive]) ((hsame.kind hg256).trans hkind)
      (by rw [hsame.ctrl, hbind, hctrl]) hne (by rw [hbind, hframe]; exact hidle), hbind]
    refine ⟨startedHo .carMode t o g (hoL t false), congrArg CarRec.ho (State.car_modCar_same _ _ _), rfl, rfl, rfl, rfl, by rw [hframe]; rfl, rfl,
      State.get_of_reg_eq (hregs _ (by decide)), fun d hd => (State.car_modCar_ne _ _ _ _ hd).trans (by rw [hframe]; rfl), hregs, ?_⟩
    rw [hframe]
    rfl
  case chanHo =>
    refine ⟨_, exec_controlModeHandover hguard hop, ?_⟩
    generalize hoTaken v s = t at *
    rw [← hg, startModeHo_of_chan hlt ((hsame.en hg256).trans hen) (by rw [hsame.slot, hlive]) ((hsame.kind hg256).trans hkind)
      (by rw [hsame.ctrl, hbind, hctrl]) hne (by rw [hbind, hframe]; exact hidle), hbind]
    refine ⟨startedHo .chanMode t o g (hoL t true), congrArg ChanView.ho (State.chan_modChan_same _ _ _), rfl, rfl, rfl, rfl, by rw [hframe]; rfl,
      rfl, State.get_of_reg_eq (hregs _ (by decide)), fun d hd => (State.chan_modChan_ne _ _ _ _ hd).trans (by rw [hframe]; rfl), hregs, ?_⟩
    rw [hframe]
    rfl
  case noHo =>
    refine ⟨_, exec_controlModeHandover hguard hop, ?_⟩
    generalize hoTaken v s = t at *
    have hcar : t.car b = s.car b := by rw [hframe]; rfl
    have hchan : t.chan b = s.chan b := by rw [hframe]; rfl
    rw [← hg, startModeHo_of_refused (by rwa [hsame.en hg256, hsame.slot, hsame.kind hg256, hbind, hsame.ctrl, hcar, hchan])]
    exact refused_after hregs hpend hframe
  case permit =>
    refine ⟨_, exec_permitOwnerHandover hguard hop, ?_⟩
    generalize hoTaken v s = t at *
    have hcar : ∀ d, t.car d = s.car d := fun d => by rw [hframe]; rfl
    rw [← hg, permitOwnerHo_of_ok hlt ((hsame.en hg256).trans hen) ((hsame.kind hg256).trans hkind)
      (by rw [hbind, recMoves_of_frame hframe, hrest]), hbind]
    refine ⟨(State.car_modCar_same _ _ _).trans (by rw [hcar]), fun d hd => (State.car_modCar_ne _ _ _ _ hd).trans (hcar d), hregs, ?_⟩
    rw [hframe]
    rfl
  case noPermit =>
    refine ⟨_, exec_permitOwnerHandover hguard hop, ?_⟩
    generalize hoTaken v s = t at *
    rw [← hg, permitOwnerHo_of_refused (by rwa [hsame.en hg256, hsame.kind hg256, hbind, recMoves_of_frame hframe])]
    exact refused_after hregs hpend hframe

end Sys2Proof.Machine
end

section
/-!
SUPPORT. A flag read after an event, a field or a register was written, with the addresses and bits of both named.
-/

namespace Sys2Proof.Machine

open Sys2Proof

theorem State.flag_ev_self {a hi lo : Nat} (hb : lo ≤ hi) (h31 : hi < 32) (s : State) : (s.ev ⟨a, ⟨hi, lo⟩⟩).flag ⟨a, ⟨hi, lo⟩⟩ = true :=
  State.flag_ev s ⟨a, ⟨hi, lo⟩⟩ hb h31

theorem State.flag_put_other {a b : Nat} (h : b ≠ a) (s : State) (x y : Bits) (v : Nat) : (s.put ⟨a, x⟩ v).flag ⟨b, y⟩ = s.flag ⟨b, y⟩ := by
  rw [State.flag, State.get_put_other h, State.flag]

theorem State.flag_put_disjoint {a hi lo hi' lo' : Nat} (hb : lo ≤ hi) (h31 : hi < 32) (hd : hi' < lo ∨ hi < lo') (s : State) (v : Nat) :
    (s.put ⟨a, ⟨hi, lo⟩⟩ v).flag ⟨a, ⟨hi', lo'⟩⟩ = s.flag ⟨a, ⟨hi', lo'⟩⟩ := by
  rw [State.flag, State.get_put_disjoint hb h31 hd, State.flag]

theorem State.flag_ev_other {a b : Nat} (h : b ≠ a) (s : State) (x y : Bits) : (s.ev ⟨a, x⟩).flag ⟨b, y⟩ = s.flag ⟨b, y⟩ :=
  State.flag_put_other h s x y 1

theorem State.flag_ev_disjoint {a hi lo hi' lo' : Nat} (hb : lo ≤ hi) (h31 : hi < 32) (hd : hi' < lo ∨ hi < lo') (s : State) :
    (s.ev ⟨a, ⟨hi, lo⟩⟩).flag ⟨a, ⟨hi', lo'⟩⟩ = s.flag ⟨a, ⟨hi', lo'⟩⟩ := State.flag_put_disjoint hb h31 hd s 1

theorem State.flag_setReg_other {a b : Nat} (h : b ≠ a) (s : State) (y : Bits) (w : Word) : (s.setReg a w).flag ⟨b, y⟩ = s.flag ⟨b, y⟩ :=
  flag_of_reg_eq (State.reg_setReg_ne _ _ _ _ h)

theorem State.flag_result_other {a b : Nat} (h : b ≠ a) (s : State) (y : Bits) (v : Nat) : (s.result a v).flag ⟨b, y⟩ = s.flag ⟨b, y⟩ :=
  State.flag_setReg_other h s y _

theorem State.get_setReg_other {a b : Nat} (h : b ≠ a) (s : State) (y : Bits) (w : Word) : (s.setReg a w).get ⟨b, y⟩ = s.get ⟨b, y⟩ :=
  State.get_of_reg_eq (State.reg_setReg_ne _ _ _ _ h)

theorem State.get_ev_other {a b : Nat} (h : b ≠ a) (s : State) (x y : Bits) : (s.ev ⟨a, x⟩).get ⟨b, y⟩ = s.get ⟨b, y⟩ :=
  State.get_put_other h s x y 1

theorem State.get_ev_disjoint {a hi lo hi' lo' : Nat} (hb : lo ≤ hi) (h31 : hi < 32) (hd : hi' < lo ∨ hi < lo') (s : State) :
    (s.ev ⟨a, ⟨hi, lo⟩⟩).get ⟨a, ⟨hi', lo'⟩⟩ = s.get ⟨a, ⟨hi', lo'⟩⟩ := State.get_put_disjoint hb h31 hd s a 1

/-! ### Changes outside the registers -/

theorem State.reg_of_bus_eq {s t : State} (h : t.bus = s.bus) (a : Nat) : t.reg a = s.reg a := by rw [State.reg, h, State.reg]

theorem State.get_of_bus_eq {s t : State} (h : t.bus = s.bus) (f : FRef) : t.get f = s.get f := State.get_of_reg_eq (State.reg_of_bus_eq h _)

theorem State.flag_of_bus_eq {s t : State} (h : t.bus = s.bus) (f : FRef) : t.flag f = s.flag f := flag_of_reg_eq (State.reg_of_bus_eq h _)

theorem State.pendReg_of_bus_eq {s t : State} (h : t.bus = s.bus) (a : Nat) : t.pendReg a = s.pendReg a := by
  rw [State.pendReg, h, State.pendReg]

/-! ### One part of the state read after another was changed -/

@[simp] theorem State.axis_modCar (s : State) (c n : Nat) (f : CarRec → CarRec) : (s.modCar c f).axis n = s.axis n := rfl
@[simp] theorem State.axis_modChan (s : State) (c n : Nat) (f : ChanView → ChanView) : (s.modChan c f).axis n = s.axis n := rfl
@[simp] theorem State.car_modAxis (s : State) (c n : Nat) (f : Axis → Axis) : (s.modAxis n f).car c = s.car c := rfl
@[simp] theorem State.car_modChan (s : State) (c n : Nat) (f : ChanView → ChanView) : (s.modChan n f).car c = s.car c := rfl
@[simp] theorem State.chan_modCar (s : State) (c n : Nat) (f : CarRec → CarRec) : (s.modCar c f).chan n = s.chan n := rfl
@[simp] theorem State.chan_modAxis (s : State) (c n : Nat) (f : Axis → Axis) : (s.modAxis c f).chan n = s.chan n := rfl

end Sys2Proof.Machine
end

section
/-!
PROOF. A control-mode hand-over at the split (07 R219 to R223): the comparison, its failure and the blend.
-/

namespace Sys2Proof.Machine

open Sys2Proof

theorem preloadVal_eq (u w : Int) : preloadVal u w = (BitVec.ofInt 32 (w - u)).toInt := by
  rw [preloadVal, sgn_eq_toInt (by decide), ofNat_uns]

/-! ### The end of a hand-over with HO_FAIL -/

/-- The report of a failed hand-over. -/
def hoFailed (kind : HoKind) (n b : Nat) (s : State) : State := hoResult kind true n b (hoFailFlags s)

/-- What the report of a failed hand-over sets and leaves. -/
theorem hoFailed_spec (kind : HoKind) (n b : Nat) (s : State) :
    (hoFailed kind n b s).flag F.TAC_SCHED_EVENT.HO_FAIL = true ∧ (hoFailed kind n b s).flag F.SAF_EVENT.HO_FAIL = true ∧
      ChangesOnly (· ∈ [Reg.TAC_HO_LAST, Reg.TAC_SCHED_EVENT, Reg.SAF_EVENT]) s (hoFailed kind n b s) := by
  refine ⟨?_, ?_, ?_⟩
  · rw [hoFailed, hoResult, State.flag_ev_disjoint (by decide) (by decide) (by decide), State.flag_result_other (by decide), hoFailFlags,
      State.flag_ev_other (by decide), State.flag_ev_self (by decide) (by decide)]
  · rw [hoFailed, hoResult, State.flag_ev_other (by decide), State.flag_result_other (by decide), hoFailFlags,
      State.flag_ev_self (by decide) (by decide)]
  · exact (((changesOnly_ev (by simp) s).trans (changesOnly_ev (by simp) _)).trans (changesOnly_result (by simp) _ _)).trans
      (changesOnly_ev (by simp) _)

theorem car_stopAxis (c n : Nat) (s : State) : (stopAxis c n s).car = s.car := rfl

theorem bus_stopAxis (c n : Nat) (s : State) : (stopAxis c n s).bus = s.bus := rfl

theorem evs_stopAxis (c n : Nat) (s : State) : ((stopAxis c n s).axis c).evs = (s.axis c).evs ++ [.stop n] :=
  congrArg Axis.evs (State.axis_modAxis_same s c _)

/-- A failed control-mode hand-over of a car: the report, no hand-over left, a stop of cause 4. -/
theorem hoFailCar_of_carMode {c : Nat} {s : State} {x : HandOver} (hho : (s.car c).ho = some x) (hkind : x.kind = .carMode) :
    hoFailCar c s = stopAxis c 4 ((hoFailed x.kind x.fails c s).modCar c
      (fun r => { r with ho := none, hoFailed := r.hoFailed || x.kind == .ownerOut })) := by
  rw [hoFailCar, hho]
  simp only [hkind]
  rfl

theorem hoFailCar_carMode_spec {c : Nat} {s : State} {x : HandOver} (hho : (s.car c).ho = some x) (hkind : x.kind = .carMode) :
    ((hoFailCar c s).car c).ho = none ∧ (hoFailCar c s).flag F.TAC_SCHED_EVENT.HO_FAIL = true ∧
      (hoFailCar c s).flag F.SAF_EVENT.HO_FAIL = true ∧ ((hoFailCar c s).axis c).evs = (s.axis c).evs ++ [AxisEv.stop 4] ∧
      (hoFailCar c s).tide = s.tide := by
  obtain ⟨hsched, hsaf, -, -, hframe⟩ := hoFailed_spec x.kind x.fails c s
  rw [hoFailCar_of_carMode hho hkind]
  generalize hoFailed x.kind x.fails c s = t at *
  have hbus : ∀ f, (stopAxis c 4 (t.modCar c f)).bus = t.bus := fun f => bus_stopAxis c 4 _
  have htide : ∀ f, (stopAxis c 4 (t.modCar c f)).tide = t.tide := fun f => by rw [stopAxis, State.modAxis_tide, State.modCar_tide]
  have haxis : t.axis c = s.axis c := by rw [State.axis, hframe, State.axis]
  refine ⟨?_, (State.flag_of_bus_eq (hbus _) _).trans hsched, (State.flag_of_bus_eq (hbus _) _).trans hsaf, ?_, ?_⟩
  · rw [car_stopAxis, State.car_modCar_same]
  · rw [evs_stopAxis, State.axis_modCar, haxis]
  · rw [htide, hframe]

/-! ### The split -/

theorem modeHoSplit_of_pass {c : Nat} {s : State} {x : HandOver} (hho : (s.car c).ho = some x) (hkind : x.kind = .carMode)
    (hstage : x.stage = .comparing) (hk : x.k0 < s.tb.k) (hpass : hoPass (hoMax s false) (outS s x.inSlot 0) (outS s x.outSlot 0) = true) :
    modeHoSplit c s = (setHoCar c { x with stage := .blending, h := s.tb.k + 1 } s).modCar c
      (fun r => { r with preload := some ⟨x.inSlot, s.tb.k + 1, preloadVal (outS s x.inSlot 0) (outS s x.outSlot 0)⟩ }) := by
  simp only [modeHoSplit, hho, hkind, hstage, hk, hpass, beq_self_eq_true, decide_true, Bool.and_self, if_true]

theorem modeHoSplit_of_miss {c : Nat} {s : State} {x : HandOver} (hho : (s.car c).ho = some x) (hkind : x.kind = .carMode)
    (hstage : x.stage = .comparing) (hk : x.k0 < s.tb.k) (hmiss : hoPass (hoMax s false) (outS s x.inSlot 0) (outS s x.outSlot 0) = false) :
    modeHoSplit c s = if s.get F.TAC_HO_CFG_CAR.N_HO ≤ x.fails + 1 then hoFailCar c (setHoCar c { x with fails := x.fails + 1 } s)
      else setHoCar c { x with fails := x.fails + 1 } s := by
  simp only [modeHoSplit, hho, hkind, hstage, hk, hmiss, beq_self_eq_true, decide_true, Bool.and_self, if_true, Bool.false_eq_true, if_false]
  rfl

/-! ### The blend -/

theorem blendOut_end (u w : Int) (l : Nat) : blendOut u w l l = u := by
  have hne : (l : Int) + 1 ≠ 0 := by omega
  rw [blendOut, truncDiv, Int.mul_tdiv_cancel _ hne]
  omega

theorem blendOut_between {u w : Int} {j l : Nat} (hwu : w ≤ u) (hjl : j ≤ l) : w ≤ blendOut u w j l ∧ blendOut u w j l ≤ u := by
  have hstep : 0 ≤ (u - w) * ((j : Int) + 1) := mul_nonneg (by omega) (by omega)
  have hlow : 0 ≤ truncDiv ((u - w) * ((j : Int) + 1)) ((l : Int) + 1) := Int.tdiv_nonneg hstep (by omega)
  have hhigh : truncDiv ((u - w) * ((j : Int) + 1)) ((l : Int) + 1) ≤ u - w := by
    rw [truncDiv, Int.tdiv_eq_ediv_of_nonneg hstep]
    exact Int.ediv_le_of_le_mul (by omega) (mul_le_mul_of_nonneg_left (by omega) (by omega))
  rw [blendOut]
  omega

/-- Settles O30: within DU_MAX the hand-over is set for the next period, beyond it the failures rise up to N_HO. -/
theorem comparisonDecidesTheHandOver : Obligations.ComparisonDecidesTheHandOver := by
  refine ⟨fun s c x u w hho hkind hstage hk hu hw => ⟨fun hin t ht => ?pass, fun hout t ht => ⟨fun hfew => ?more, fun hmany => ?failed⟩⟩,
    blendOut_end, fun u w j l => blendOut_between⟩
  case pass =>
    have hpass : hoPass (hoMax s false) (outS s x.inSlot 0) (outS s x.outSlot 0) = true := decide_eq_true (by rw [outS, outS, ← hu, ← hw]; exact hin)
    rw [ht, modeHoSplit_of_pass hho hkind hstage hk hpass, State.car_modCar_same, setHoCar, State.car_modCar_same, preloadVal_eq, outS, outS, ← hu, ← hw]
    exact ⟨rfl, rfl, rfl⟩
  all_goals
    have hmiss : hoPass (hoMax s false) (outS s x.inSlot 0) (outS s x.outSlot 0) = false :=
      decide_eq_false (by rw [outS, outS, ← hu, ← hw]; exact Nat.not_le.mpr hout)
    rw [ht, modeHoSplit_of_miss hho hkind hstage hk hmiss]
  case more =>
    rw [if_neg (Nat.not_le.mpr hfew)]
    exact ⟨congrArg CarRec.ho (State.car_modCar_same s c _), rfl⟩
  case failed =>
    rw [if_pos hmany]
    exact hoFailCar_carMode_spec (x := { x with fails := x.fails + 1 }) (congrArg CarRec.ho (State.car_modCar_same s c _)) hkind

end Sys2Proof.Machine
end

section
/-!
PROOF. Reception of a fabric frame (18 R548 to R554): a unicast frame that nothing discards is heard and acted on.
-/

namespace Sys2Proof.Machine

open Sys2Proof

theorem newerEpoch_self (e : Nat) : newerEpoch e e = false := by
  simp [newerEpoch, uns, sgn]

/-- Hearing of a source changes the peers seen alone. -/
theorem noteSeen_frame (id : Nat) (s : State) : (noteSeen id s).fab = { s.fab with peers := (noteSeen id s).fab.peers } ∧
    noteSeen id s = { s with fab := (noteSeen id s).fab } := by
  refine State.forN_rel (R := fun s t => t.fab = { s.fab with peers := t.fab.peers } ∧ t = { s with fab := t.fab }) (fun _ => ⟨rfl, rfl⟩)
    (fun s t u ⟨hst, hst'⟩ ⟨htu, htu'⟩ => ⟨by rw [htu, hst], by rw [htu', hst']⟩) (fun i _ t => ?_) s
  split
  · exact ⟨rfl, rfl⟩
  · exact ⟨rfl, rfl⟩

/-- A frame that is heard: what is before it is acted on. -/
theorem accept_of_delivers {type : Nat} {s : State} {h : Hdr} (hd : Delivers s h) (h0 : type ≠ 0) (h16 : type ≤ 16) :
    accept type h s = (noteSeen h.src s, true) := by
  obtain ⟨hawake, hup, hsettle, hsrc, -, -, x, hx, hepoch, hsince⟩ := hd
  have hown : noteOwn h.src h.epoch s = s := if_neg hsrc
  have hfor : epochFor s h.src = some x.epoch := by rw [epochFor, hx]; exact if_neg hsrc
  have hex : excluded s type h.src = false := by
    have : ¬ s.tb.tick < x.since + settleTicks := by rw [settleTicks]; omega
    simp [excluded, hsettle, hx, this]
  have hnote : noteEpoch h.src h.epoch s = s := by
    rw [noteEpoch, hx]
    simp only [hepoch, newerEpoch_self]
    rfl
  have hheard : frameAccepted h s = noteSeen h.src s := by
    rw [frameAccepted, hnote]
    exact if_neg fun hfence => hsrc hfence.1
  rw [accept, hawake, hup, hown]
  simp only [Bool.and_self, if_true, hfor, hepoch, newerEpoch_self, Bool.false_eq_true, if_false, hex, beq_eq_false_iff_ne.mpr h0,
    Nat.not_lt.mpr h16, decide_false, Bool.or_self, hheard]

theorem forward_of_own {type : Nat} {s : State} {h : Hdr} {b : FrameBody} (hbcast : h.bcast = false) (hdst : h.dst = s.myId) :
    forward type h b s = s := by
  rw [forward]
  split
  · rfl
  · rw [if_neg (by simp [hbcast])]

/-- A unicast frame for this device is acted on once its source has been noted as seen. -/
theorem receive_of_delivers {type : Nat} {s : State} {h : Hdr} {b : FrameBody} {act : State → State} (hd : Delivers s h) (h0 : type ≠ 0)
    (h16 : type ≤ 16) : receive type h b act s = act (noteSeen h.src s) := by
  have hdst : h.dst = (noteSeen h.src s).myId := by
    obtain ⟨-, -, -, -, -, hdst, -⟩ := hd
    rw [State.myId, (noteSeen_frame h.src s).2]
    exact hdst
  have hbcast : h.bcast = false := hd.2.2.2.2.1
  rw [receive, accept_of_delivers hd h0 h16]
  simp only [if_true, forward_of_own hbcast hdst, delivered, hbcast, Bool.false_eq_true, if_false, hdst, beq_self_eq_true]

/-- What is heard before a frame acts: the state apart from the peers seen. -/
theorem heard_frame (id : Nat) (s : State) : HeardBut s (noteSeen id s) ∧ noteSeen id s = { s with fab := (noteSeen id s).fab } := by
  obtain ⟨hfab, hframe⟩ := noteSeen_frame id s
  refine ⟨?_, hframe⟩
  rw [HeardBut, hfab]

theorem carById_of_cars_eq {s t : State} (h : t.cars = s.cars) (id : Nat) : carById t id = carById s id := by
  simp only [carById, heldCars, State.car, h]

end Sys2Proof.Machine
end

section
/-!
PROOF. Frames from the neighbours that the servo period keeps (02 R33, R49, R647; 07 R228, R230): SHARE, HO_OUT and SEGSTAT.
-/

namespace Sys2Proof.Machine

open Sys2Proof

/-! ### SHARE -/

theorem segChan_of_conf_eq {s t : State} (h : t.conf = s.conf) (seg : Nat) : segChan t seg = segChan s seg := by rw [segChan, h, segChan]

theorem keepShare_of_none {src car stamp : Nat} {e : ShareEntry} {s : State} (h : segChan s e.seg = none) :
    keepShare src car stamp e s = s := by
  rw [segChan, Option.map_eq_none_iff] at h
  rw [keepShare, h]

theorem keepShare_of_some {src car stamp n : Nat} {e : ShareEntry} {s : State} (h : segChan s e.seg = some n) :
    keepShare src car stamp e s =
      s.modChan n (fun v => { v with shareIn := some (addShare src car stamp e (v.shareIn.getD (ShareIn.none src car))) }) := by
  rw [segChan, Option.map_eq_some_iff] at h
  obtain ⟨x, hx, rfl⟩ := h
  rw [keepShare, hx]

theorem keepShare_frame (src car stamp : Nat) (e : ShareEntry) (s : State) :
    keepShare src car stamp e s = { s with chans := (keepShare src car stamp e s).chans } := by
  cases h : segChan s e.seg with
  | none => rw [keepShare_of_none h]
  | some n => rw [keepShare_of_some h]; rfl

theorem keepShares_frame (src car stamp : Nat) (l : List ShareEntry) (s : State) :
    s.forL l (keepShare src car stamp) = { s with chans := (s.forL l (keepShare src car stamp)).chans } :=
  State.forL_rel (R := fun s t => t = { s with chans := t.chans }) (fun _ => rfl) (fun s t u hst htu => by rw [htu, hst])
    (fun e _ t => keepShare_frame src car stamp e t) s

/-- A channel's shares hold the share of an entry, and no other, for a boundary. -/
def ShareKept (src car stamp : Nat) (v : Int) (x : ChanView) : Prop :=
  ∃ y, x.shareIn = some y ∧ y.owner = src ∧ y.car = car ∧ (stamp, v) ∈ y.recv ∧ ∀ q, q ∈ y.recv → q.1 = stamp → q.2 = v

theorem shareKept_addShare (src car stamp : Nat) (e : ShareEntry) (y : ShareIn) (x : ChanView) :
    ShareKept src car stamp (sgn 32 (uns 32 e.share)) { x with shareIn := some (addShare src car stamp e y) } := by
  refine ⟨_, rfl, rfl, rfl, by simp [addShare], fun q hq hstamp => ?_⟩
  simp only [addShare, List.mem_append, List.mem_filter, bne_iff_ne, List.mem_singleton] at hq
  obtain ⟨-, hne⟩ | rfl := hq
  · exact absurd hstamp hne
  · rfl

/-- A channel that no entry names is as before. -/
theorem chan_keepShares_ne {src car stamp n : Nat} {l : List ShareEntry} {s : State} (h : ∀ e, e ∈ l → segChan s e.seg ≠ some n) :
    (s.forL l (keepShare src car stamp)).chan n = s.chan n := by
  induction l generalizing s with
  | nil => rfl
  | cons e l ih =>
    have hconf : (keepShare src car stamp e s).conf = s.conf := by rw [keepShare_frame]
    have hrest : ((keepShare src car stamp e s).forL l (keepShare src car stamp)).chan n = (keepShare src car stamp e s).chan n :=
      ih fun k hk => by rw [segChan_of_conf_eq hconf]; exact h k (by simp [hk])
    have hfirst : (keepShare src car stamp e s).chan n = s.chan n := by
      cases hseg : segChan s e.seg with
      | none => rw [keepShare_of_none hseg]
      | some m =>
        rw [keepShare_of_some hseg]
        exact State.chan_modChan_ne _ _ _ _ fun hm => h e (by simp) (by rw [hseg, hm])
    exact hrest.trans hfirst

/-- An entry keeps its share in its channel. -/
theorem shareKept_keepShare {src car stamp n : Nat} {e : ShareEntry} {s : State} (h : segChan s e.seg = some n) :
    ShareKept src car stamp (sgn 32 (uns 32 e.share)) ((keepShare src car stamp e s).chan n) := by
  rw [keepShare_of_some h, State.chan_modChan_same]
  exact shareKept_addShare src car stamp e _ _

/-- A share that is kept stays with entries of other channels, and with the same entry again. -/
theorem shareKept_keepShares {src car stamp n : Nat} {e : ShareEntry} {l : List ShareEntry} {s : State}
    (hone : ∀ k, k ∈ l → segChan s k.seg = some n → k = e)
    (hs : ShareKept src car stamp (sgn 32 (uns 32 e.share)) (s.chan n)) :
    ShareKept src car stamp (sgn 32 (uns 32 e.share)) ((s.forL l (keepShare src car stamp)).chan n) := by
  induction l generalizing s with
  | nil => exact hs
  | cons k l ih =>
    have hconf : (keepShare src car stamp k s).conf = s.conf := by rw [keepShare_frame]
    refine ih (s := keepShare src car stamp k s) (fun j hj hseg => hone j (by simp [hj]) (by rwa [segChan_of_conf_eq hconf] at hseg)) ?_
    by_cases hk : segChan s k.seg = some n
    · rw [← hone k (by simp) hk]
      exact shareKept_keepShare hk
    · have hsame : (keepShare src car stamp k s).chan n = s.chan n :=
        chan_keepShares_ne (l := [k]) fun j hj => by rw [List.mem_singleton.mp hj]; exact hk
      rwa [hsame]

theorem shareKept_of_mem {src car stamp n : Nat} {e : ShareEntry} {l : List ShareEntry} {s : State} (he : e ∈ l)
    (hseg : segChan s e.seg = some n) (hone : ∀ k, k ∈ l → segChan s k.seg = some n → k = e) :
    ShareKept src car stamp (sgn 32 (uns 32 e.share)) ((s.forL l (keepShare src car stamp)).chan n) := by
  obtain ⟨a, b, rfl⟩ := List.append_of_mem he
  have hsplit : s.forL (a ++ e :: b) (keepShare src car stamp) =
      (keepShare src car stamp e (s.forL a (keepShare src car stamp))).forL b (keepShare src car stamp) := List.foldl_append
  have hconf : (s.forL a (keepShare src car stamp)).conf = s.conf := by rw [keepShares_frame]
  have hconf' : (keepShare src car stamp e (s.forL a (keepShare src car stamp))).conf = s.conf := by rw [keepShare_frame, hconf]
  rw [hsplit]
  refine shareKept_keepShares (fun k hk hk' => hone k (by simp [hk]) (by rwa [segChan_of_conf_eq hconf'] at hk')) ?_
  exact shareKept_keepShare (by rwa [segChan_of_conf_eq hconf])

theorem shareDiscarded_of_idle {s : State} {c stamp : Nat} (h : (s.car c).ho = none) : shareDiscarded s c stamp = (s.car c).owner := by
  rw [shareDiscarded]
  simp only [h]

/-- A SHARE that is not discarded: its shares are kept, and the car's record, if one is held, takes the sender as the owner. -/
theorem shareOp_of_kept {src : Nat} {p : SharePl} {s : State}
    (h : carById s p.car = none ∨ ∃ c, carById s p.car = some c ∧ (s.car c).owner = false ∧ (s.car c).ho = none) :
    ∃ cars, shareOp src p s = { s.forL p.entries (keepShare src p.car p.stamp) with cars := cars } ∧
      ∀ c, carById s p.car = some c → ((shareOp src p s).car c).ownerId = src := by
  obtain hnone | ⟨c, hc, hown, hidle⟩ := h
  · refine ⟨(s.forL p.entries (keepShare src p.car p.stamp)).cars, ?_, fun c hc => absurd hc (by simp [hnone])⟩
    rw [shareOp, hnone]
  · have hop : shareOp src p s = (s.forL p.entries (keepShare src p.car p.stamp)).modCar c
        (fun r => { r with ownerId := if r.owner then r.ownerId else src }) := by
      rw [shareOp, hc]
      exact if_neg (by simp [shareDiscarded_of_idle hidle, hown])
    refine ⟨_, hop, fun d hd => ?_⟩
    rw [hc, Option.some.injEq] at hd
    have hcar : (s.forL p.entries (keepShare src p.car p.stamp)).car c = s.car c := by rw [keepShares_frame, State.car, State.car]
    rw [← hd, hop, State.car_modCar_same, hcar]
    exact if_neg (by simp [hown])

/-! ### HO_OUT -/

/-- The value of a period among those received, in place of any earlier one. -/
theorem hoRecv_takes (x : HandOver) (p : Nat) (v : Int) (keep : Nat × Int → Bool) (hout : ∀ e, keep e = true → e.1 ≠ p) :
    hoRecv { x with recv := x.recv.filter keep ++ [(p, v)] } p = some v := by
  have hnone : (x.recv.filter keep).find? (fun e => e.1 == p) = none := by
    rw [List.find?_eq_none]
    intro e he
    simpa using hout e (List.mem_filter.mp he).2
  simp [hoRecv, List.find?_append, hnone]

theorem hoOutOp_of_inTime {src : Nat} {p : HoOutPl} {s : State} {c : Nat} (hin : s.tide.stage = .link ∨ s.tb.k ≤ p.period)
    (hc : carById s p.car = some c) :
    hoOutOp src p s = s.modCar c (fun r => { r with ho := r.ho.map (fun x =>
      if x.nb = src then
        { x with recv := (x.recv.filter (fun e => decide (p.period < e.1 + 4) && e.1 != p.period)) ++ [(p.period, sgn 32 (uns 32 p.u))] }
      else x) }) := by
  have hlate : hoOutLate s p.period = false := by
    rw [hoOutLate]
    obtain h | h := hin
    · simp [h]
    · simp [Nat.not_lt.mpr h]
  rw [hoOutOp, hlate, hc]
  rfl

theorem hoOutOp_of_late {src : Nat} {p : HoOutPl} {s : State} (hstage : s.tide.stage ≠ .link) (hk : p.period < s.tb.k) :
    hoOutOp src p s = s := if_pos (by simp [hoOutLate, hstage, hk])

/-- Settles O27: a share is kept channel by channel, an output in the hand-over it belongs to, an exclusion with its sender. -/
theorem neighbourFramesAreKept : Obligations.NeighbourFramesAreKept := by
  intro s h hd
  obtain ⟨hheard, hframe⟩ := heard_frame h.src s
  have hid : ∀ id, carById (noteSeen h.src s) id = carById s id := carById_of_cars_eq (by rw [hframe])
  have hcar : ∀ c, (noteSeen h.src s).car c = s.car c := fun c => by rw [State.car, hframe, State.car]
  have hchan : ∀ n, (noteSeen h.src s).chan n = s.chan n := fun n => by rw [State.chan, hframe, State.chan]
  have hseg : ∀ seg, segChan (noteSeen h.src s) seg = segChan s seg := segChan_of_conf_eq (by rw [hframe])
  have hstage : (noteSeen h.src s).tide.stage = s.tide.stage := by rw [hframe]
  have hk : (noteSeen h.src s).tb.k = s.tb.k := by rw [hframe]
  refine ⟨fun p hown => ?share, fun p c hc hown hidle => ?discarded, fun p c x hc hho hnb hin => ?hoOut, fun p hlink hlate => ?late,
    fun p c hc => ?segstat⟩
  case share =>
    refine ⟨_, congrArg Host.Outcome.next (receive_of_delivers hd (by decide) (by decide)), ?_⟩
    generalize noteSeen h.src s = u at *
    obtain ⟨f, hop, hid'⟩ := shareOp_of_kept (src := h.src) (p := p) (s := u) (by simpa only [hid, hcar] using hown)
    have hshares := keepShares_frame h.src p.car p.stamp p.entries u
    have hkept : ∀ n, (shareOp h.src p u).chan n = (u.forL p.entries (keepShare h.src p.car p.stamp)).chan n := fun n => by rw [hop, State.chan]; rfl
    refine ⟨fun e n he hn hone => ?_, fun n hn => ?_, fun c hc => hid' c (by rwa [hid]), ?_, ?_⟩
    · rw [hkept]
      exact shareKept_of_mem he (by rwa [hseg]) fun k hk hk' => hone k hk (by rwa [hseg] at hk')
    · rw [hkept, chan_keepShares_ne fun e he => by rw [hseg]; exact hn e he, hchan]
    · rw [hop, hshares]
      exact hheard
    · rw [hop, hshares, hframe]
  case discarded =>
    refine ⟨_, congrArg Host.Outcome.next (receive_of_delivers hd (by decide) (by decide)), ?_⟩
    generalize noteSeen h.src s = u at *
    have hskip : shareOp h.src p u = u := by
      rw [shareOp, hid, hc]
      exact if_pos (by rw [shareDiscarded_of_idle (by rwa [hcar]), hcar, hown])
    rw [hskip]
    exact ⟨hheard, hframe⟩
  case hoOut => 
    refine ⟨_, congrArg Host.Outcome.next (receive_of_delivers hd (by decide) (by decide)), ?_⟩
    generalize noteSeen h.src s = u at *
    rw [hoOutOp_of_inTime (by rwa [hstage, hk]) (by rwa [hid])]
    refine ⟨{ x with recv := (x.recv.filter (fun e => decide (p.period < e.1 + 4) && e.1 != p.period)) ++ [(p.period, sgn 32 (uns 32 p.u))] },
      ?_, hoRecv_takes x _ _ _ (by simp), rfl, fun d hd => ?_, hheard, ?_⟩
    · rw [State.car_modCar_same, hcar, hho]
      simp only [Option.map_some, if_pos hnb]
    · rw [State.car_modCar_ne _ _ _ _ hd, hcar]
    · rw [hframe]
      rfl
  case late =>
    refine ⟨_, congrArg Host.Outcome.next (receive_of_delivers hd (by decide) (by decide)), ?_⟩
    generalize noteSeen h.src s = u at *
    rw [hoOutOp_of_late (by rwa [hstage]) (by rwa [hk])]
    exact ⟨hheard, hframe⟩
  case segstat =>
    refine ⟨_, congrArg Host.Outcome.next (receive_of_delivers hd (by decide) (by decide)), ?_⟩
    generalize noteSeen h.src s = u at *
    have hop : segstatOp h.src p u = u.modCar c (fun r =>
        { r with excl := r.excl.filter (fun e => e.1 != h.src) ++ p.segs.map (fun e => (h.src, e.1)) }) := by
      rw [segstatOp, hid, hc]
    have hexcl : ((segstatOp h.src p u).car c).excl =
        (s.car c).excl.filter (fun e => e.1 != h.src) ++ p.segs.map (fun e => (h.src, e.1)) := by
      rw [hop, State.car_modCar_same, hcar]
    refine ⟨fun seg => ?_, fun e he => ?_, fun d hd => ?_, ?_, ?_⟩
    · rw [hexcl]
      simp
    · rw [hexcl]
      simp only [List.mem_append, List.mem_filter, bne_iff_ne, List.mem_map]
      exact ⟨fun h => h.elim And.left fun ⟨_, _, hseg⟩ => absurd (by rw [← hseg]) he, fun h => .inl ⟨h, he⟩⟩
    · rw [hop, State.car_modCar_ne _ _ _ _ hd, hcar]
    · rw [hop]
      exact hheard
    · rw [hop, hframe]
      rfl

end Sys2Proof.Machine
end

section
/-!
SUPPORT. What sending a fabric frame changes (18 R549 to R554; 17 R536): the frames sent, the sequence number and four registers.
-/

namespace Sys2Proof.Machine

open Sys2Proof

theorem State.car_of_cars_eq {s t : State} (h : t.cars = s.cars) (c : Nat) : t.car c = s.car c := by rw [State.car, h, State.car]

theorem State.axis_of_trj_eq {s t : State} (h : t.trj = s.trj) (n : Nat) : t.axis n = s.axis n := by rw [State.axis, h, State.axis]

theorem State.chan_of_chans_eq {s t : State} (h : t.chans = s.chans) (n : Nat) : t.chan n = s.chan n := by rw [State.chan, h, State.chan]

/-- The registers that sending a frame may change. -/
def SendReg (a : Nat) : Prop :=
  (∃ p, p < 4 ∧ a = Reg.FAB_SP_TXPN p) ∨ a = Reg.FAB_LINK_EVENT ∨ a = Reg.FAB_NET_EVENT ∨ a = Reg.FAB_NET_CNT

theorem SendReg.bounds {a : Nat} (h : SendReg a) : 0x40090080 ≤ a ∧ a ≤ 0x40090814 := by
  obtain ⟨p, hp, rfl⟩ | rfl | rfl | rfl := h
  · have : Reg.FAB_SP_TXPN p = 0x40090080 + 0x4 * p := rfl
    omega
  · decide
  · decide
  · decide

/-- From `s` to `t` frames were sent, and nothing changed that sending does not. -/
def SendOnly (s t : State) : Prop :=
  (∀ a, ¬ SendReg a → t.reg a = s.reg a) ∧ (∀ b, t.pendReg b = s.pendReg b) ∧ t.fab = { s.fab with seq := t.fab.seq } ∧
    t = { s with bus := t.bus, tx := t.tx, fab := t.fab }

namespace SendOnly

theorem refl (s : State) : SendOnly s s := ⟨fun _ _ => rfl, fun _ => rfl, rfl, rfl⟩

theorem trans {s t u : State} (hst : SendOnly s t) (htu : SendOnly t u) : SendOnly s u := by
  obtain ⟨hreg, hpend, hfab, hrest⟩ := hst
  obtain ⟨hreg', hpend', hfab', hrest'⟩ := htu
  exact ⟨fun a ha => (hreg' a ha).trans (hreg a ha), fun b => (hpend' b).trans (hpend b), by rw [hfab', hfab], by rw [hrest', hrest]⟩

theorem of_changesOnly {P : Nat → Prop} {s t : State} (h : ChangesOnly P s t) (hP : ∀ a, P a → SendReg a) : SendOnly s t := by
  obtain ⟨hreg, hpend, hrest⟩ := h
  exact ⟨fun a ha => hreg a (mt (hP a) ha), hpend, by rw [hrest], by rw [hrest]⟩

theorem reg_of_lt {s t : State} (h : SendOnly s t) {a : Nat} (ha : a < 0x40090080 ∨ 0x40090814 < a) : t.reg a = s.reg a :=
  h.1 a fun hs => by have := hs.bounds; omega

theorem frame {s t : State} (h : SendOnly s t) : t = { s with bus := t.bus, tx := t.tx, fab := t.fab } := h.2.2.2

theorem car {s t : State} (h : SendOnly s t) (c : Nat) : t.car c = s.car c := State.car_of_cars_eq (by rw [h.frame]) c

theorem axis {s t : State} (h : SendOnly s t) (n : Nat) : t.axis n = s.axis n := State.axis_of_trj_eq (by rw [h.frame]) n

theorem chan {s t : State} (h : SendOnly s t) (n : Nat) : t.chan n = s.chan n := State.chan_of_chans_eq (by rw [h.frame]) n

end SendOnly

theorem changesOnly_nextPn {p : Nat} (hp : p < 4) (s : State) : ChangesOnly SendReg s (nextPn p s) := by
  have hpn : ∀ w, ChangesOnly SendReg s (s.setReg (Reg.FAB_SP_TXPN p) w) := changesOnly_setReg (.inl ⟨p, hp, rfl⟩) s
  have hev : ∀ (f : FRef) (t : State), f.addr = Reg.FAB_LINK_EVENT → ChangesOnly SendReg t (t.ev f) := fun f t hf =>
    changesOnly_ev (.inr (.inl hf)) t
  rw [nextPn]
  split_ifs
  · exact ((hpn _).trans (hev _ _ rfl)).trans (hev _ _ rfl)
  · exact (hpn _).trans (hev _ _ rfl)
  · exact (hpn _).trans (hev _ _ rfl)
  · exact hpn _

theorem sendOnly_emit {f : TxFrame} (hf : f.port < 4) (s : State) : SendOnly s (emit f s) := by
  have htx : SendOnly s { s with tx := s.tx ++ [onWire s f] } := ⟨fun _ _ => rfl, fun _ => rfl, rfl, rfl⟩
  rw [emit]
  split_ifs
  · exact .refl s
  · exact htx.trans (.of_changesOnly (changesOnly_nextPn hf _) fun _ => id)
  · exact htx
  · exact .refl s

theorem sendOnly_nextSeq (s : State) : SendOnly s (nextSeq s) := ⟨fun _ _ => rfl, fun _ => rfl, rfl, rfl⟩

theorem sendOnly_noRoute (s : State) : SendOnly s (noRoute s) :=
  .of_changesOnly ((changesOnly_put (P := SendReg) (.inr (.inr (.inr rfl))) s _).trans (changesOnly_ev (.inr (.inr (.inl rfl))) _)) fun _ => id

theorem routeOf_lt {s : State} {dst p : Nat} (h : routeOf s dst = some p) : p < 4 := by
  have hfield : ∀ f : FRef, bitsLen f.bits = 2 → s.get f < 4 := fun f hf => by
    have hlt : s.get f < 2 ^ bitsLen f.bits := Nat.mod_lt _ (Nat.two_pow_pos _)
    rwa [hf] at hlt
  have hlearned : ∀ m, learnedPort s m = some p → p < 4 := fun m hm => by
    rw [learnedPort] at hm
    split at hm
    · exact absurd hm (by simp)
    · exact List.mem_range.mp (List.mem_of_find?_eq_some hm)
  rw [routeOf] at h
  dsimp only at h
  split_ifs at h
  · exact hlearned _ h
  · exact Option.some.inj h ▸ hfield _ rfl
  · exact Option.some.inj h ▸ hfield _ rfl

theorem sendOnly_send (s : State) (dst : Nat) (b : FrameBody) : SendOnly s (s.send dst b) := by
  rw [State.send]
  split
  · dsimp only
    split
    · exact (sendOnly_nextSeq s).trans (sendOnly_noRoute _)
    next p hp => exact (sendOnly_nextSeq s).trans (sendOnly_emit (f := ownFrame (nextSeq s) p dst 8 false b) (routeOf_lt hp) _)
  · exact .refl s

theorem sendOnly_sendPort {p : Nat} (hp : p < 4) (s : State) (dst : Nat) (bcast : Bool) (b : FrameBody) :
    SendOnly s (s.sendPort p dst bcast b) := by
  rw [State.sendPort]
  split
  · exact (sendOnly_nextSeq s).trans (sendOnly_emit (f := ownFrame (nextSeq s) p dst 1 bcast b) hp _)
  · exact .refl s

theorem sendOnly_sendGroup (s : State) (hops : Nat) (b : FrameBody) : SendOnly s (s.sendGroup hops b) := by
  rw [State.sendGroup]
  split
  · exact (sendOnly_nextSeq s).trans (State.forN_rel (n := 4) (f := fun p t => emit (ownFrame t p (s.myId / 256 * 256) hops true b) t)
      SendOnly.refl (fun _ _ _ => SendOnly.trans) (fun p hp t => sendOnly_emit (f := ownFrame t p _ hops true b) hp t) _)
  · exact .refl s

end Sys2Proof.Machine
end

section
/-!
PROOF. Owner hand-over (07 R226 to R235): the offer, the claim, the notice of a failure and the missing claim.
-/

namespace Sys2Proof.Machine

open Sys2Proof

/-! ### The ends with HO_FAIL -/

theorem hoFailCar_of_ownerOut {c : Nat} {s : State} {x : HandOver} (hho : (s.car c).ho = some x) (hkind : x.kind = .ownerOut) :
    hoFailCar c s = (stopAxis c 4 ((hoFailed x.kind x.fails c s).modCar c
      (fun r => { r with ho := none, hoFailed := r.hoFailed || x.kind == .ownerOut }))).send x.nb (.hoFail ⟨(s.car c).id, s.tb.k⟩) := by
  rw [hoFailCar, hho]
  simp only [hkind]
  rfl

theorem hoFailCar_of_ownerIn {c : Nat} {s : State} {x : HandOver} (hho : (s.car c).ho = some x) (hkind : x.kind = .ownerIn) :
    hoFailCar c s = axisLost c (((hoFailed x.kind x.fails c s).modCar c
      (fun r => { r with ho := none, hoFailed := r.hoFailed || x.kind == .ownerOut })).modCar c
        (fun r => { r with owner := false, ownerId := x.nb })) := by
  rw [hoFailCar, hho]
  simp only [hkind]
  rfl

/-- A failed hand-over of an outgoing owner: none is left, no new one may start, and the car stops with cause 4. -/
theorem hoFailCar_ownerOut_spec {c : Nat} {s : State} {x : HandOver} (hho : (s.car c).ho = some x) (hkind : x.kind = .ownerOut) :
    ((hoFailCar c s).car c).ho = none ∧ ((hoFailCar c s).car c).hoFailed = true ∧
      ((hoFailCar c s).axis c).evs = (s.axis c).evs ++ [AxisEv.stop 4] ∧
      (∀ d, d ≠ c → (hoFailCar c s).car d = s.car d ∧ (hoFailCar c s).axis d = s.axis d) ∧ (hoFailCar c s).tide = s.tide ∧
      (hoFailCar c s).tb = s.tb := by
  obtain ⟨-, -, -, -, hframe⟩ := hoFailed_spec x.kind x.fails c s
  rw [hoFailCar_of_ownerOut hho hkind]
  generalize hoFailed x.kind x.fails c s = t at *
  generalize hu : stopAxis c 4 (t.modCar c (fun r => { r with ho := none, hoFailed := r.hoFailed || x.kind == .ownerOut })) = u
  have hcarT : ∀ d, t.car d = s.car d := State.car_of_cars_eq (by rw [hframe])
  have haxisT : ∀ d, t.axis d = s.axis d := State.axis_of_trj_eq (by rw [hframe])
  have hsent := sendOnly_send u x.nb (.hoFail ⟨(s.car c).id, s.tb.k⟩)
  have htide : u.tide = s.tide := by rw [← hu, stopAxis, State.modAxis_tide, State.modCar_tide, hframe]
  have htb : u.tb = s.tb := by rw [← hu, stopAxis, State.modAxis_tb, State.modCar_tb, hframe]
  refine ⟨?_, ?_, ?_, fun d hd => ⟨?_, ?_⟩, by rw [hsent.frame, htide], by rw [hsent.frame, htb]⟩
  · rw [hsent.car, ← hu, car_stopAxis, State.car_modCar_same]
  · rw [hsent.car, ← hu, car_stopAxis, State.car_modCar_same]
    simp [hkind]
  · rw [hsent.axis, ← hu, evs_stopAxis, State.axis_modCar, haxisT]
  · rw [hsent.car, ← hu, car_stopAxis, State.car_modCar_ne _ _ _ _ hd, hcarT]
  · rw [hsent.axis, ← hu, stopAxis, State.axis_modAxis_ne _ _ _ _ hd, State.axis_modCar, haxisT]

theorem car_axisLost (c : Nat) (s : State) : (axisLost c s).car = s.car := rfl

theorem bus_axisLost (c : Nat) (s : State) : (axisLost c s).bus = s.bus := rfl

/-- A failed hand-over of an incoming owner that compares: the report, and none is left. -/
theorem hoFailCar_ownerIn_spec {c : Nat} {s : State} {x : HandOver} (hho : (s.car c).ho = some x) (hkind : x.kind = .ownerIn) :
    ((hoFailCar c s).car c).ho = none ∧ (hoFailCar c s).flag F.TAC_SCHED_EVENT.HO_FAIL = true ∧
      (hoFailCar c s).flag F.SAF_EVENT.HO_FAIL = true ∧ ∀ d, d ≠ c → (hoFailCar c s).car d = s.car d := by
  obtain ⟨hsched, hsaf, -, -, hframe⟩ := hoFailed_spec x.kind x.fails c s
  rw [hoFailCar_of_ownerIn hho hkind]
  generalize hoFailed x.kind x.fails c s = t at *
  have hcarT : ∀ d, t.car d = s.car d := State.car_of_cars_eq (by rw [hframe])
  have hbus : ∀ f g, (axisLost c ((t.modCar c f).modCar c g)).bus = t.bus := fun f g => by rw [bus_axisLost, State.modCar_bus, State.modCar_bus]
  refine ⟨?_, (State.flag_of_bus_eq (hbus _ _) _).trans hsched, (State.flag_of_bus_eq (hbus _ _) _).trans hsaf, fun d hd => ?_⟩
  · rw [car_axisLost, State.car_modCar_same, State.car_modCar_same]
  · rw [car_axisLost, State.car_modCar_ne _ _ _ _ hd, State.car_modCar_ne _ _ _ _ hd, hcarT]

/-! ### OFFER -/

theorem putCtx_frame (g : Nat) (ws : List Word) (s : State) :
    putCtx g ws s = { s with tide := { s.tide with data := (putCtx g ws s).tide.data } } :=
  State.forN_rel (R := fun s t => t = { s with tide := { s.tide with data := t.tide.data } }) (fun _ => rfl)
    (fun s t u hst htu => by rw [htu, hst]) (fun _ _ _ => rfl) s

theorem data_putCtx_of_ne (g : Nat) (ws : List Word) (s : State) {j : Nat} (h : ∀ i, i < 64 → j ≠ g / 24 * 16384 + (64 * (g % 24) + i)) :
    smGet 0 (putCtx g ws s).tide.data j = smGet 0 s.tide.data j :=
  State.read_forN (read := fun t => smGet 0 t.tide.data j) (fun i hi t => by
    rw [data_setData, if_neg fun hj => h i hi (by rw [hj, ctxBase, Nat.mul_comm])]) s

theorem dataWord_putCtx (g : Nat) (ws : List Word) (s : State) {i : Nat} (hi : i < 64) :
    dataWord (putCtx g ws s) (g / 24) (64 * (g % 24) + i) = ws.getD i 0 := by
  rw [dataWord_eq]
  refine State.read_forN_of_writes (read := fun t => smGet 0 t.tide.data (16384 * (g / 24) + (64 * (g % 24) + i))) hi (fun t => ?_)
    (fun j _ hji t => ?_) s
  · exact (data_setData _ _ _ _ _).trans (if_pos (by rw [ctxBase]))
  · rw [data_setData, if_neg (by rw [ctxBase]; omega)]

/-- The record an accepted offer makes. -/
def offeredCar (src g : Nat) (p : OfferPl) (s : State) (r : CarRec) : CarRec :=
  { r with held := true, id := p.car, mass := p.mass, arrOfs := p.arrOfs, arrLen := p.arrLen, ownerId := src,
           ho := some ⟨.ownerIn, .comparing, src, offerPeriod s, g, g, 0, 0, hoL s false, [], false, false⟩,
           hoFailed := false, relK := none, cameFrom := none, retTo := none }

/-- An accepted offer: what it makes of the parts of the state. -/
theorem offerTake_spec (src c g : Nat) (p : OfferPl) (s : State) :
    (∀ d, (offerTake src c g p s).car d = (s.modCar c (offeredCar src g p s)).car d) ∧
      (∀ d, d ≠ c → (offerTake src c g p s).axis d = s.axis d) ∧ (offerTake src c g p s).bus = s.bus ∧
      (offerTake src c g p s).tide.data = (putCtx g p.ctx (s.modCar c (offeredCar src g p s))).tide.data := by
  have hctx := putCtx_frame g p.ctx (s.modCar c (offeredCar src g p s))
  have htake : ∃ saf, offerTake src c g p s =
      { (putCtx g p.ctx (s.modCar c (offeredCar src g p s))).modAxis c (takeMove s p.move) with saf := saf } := by
    rw [offerTake]
    dsimp only
    split
    · exact ⟨_, rfl⟩
    · exact ⟨_, rfl⟩
  obtain ⟨saf, htake⟩ := htake
  rw [htake]
  generalize hm : s.modCar c (offeredCar src g p s) = m at *
  generalize putCtx g p.ctx m = w at *
  have hcars : w.cars = m.cars := by rw [hctx]
  have htrj : w.trj = s.trj := by rw [hctx, ← hm, State.modCar_trj]
  have hbus : w.bus = s.bus := by rw [hctx, ← hm, State.modCar_bus]
  exact ⟨State.car_of_cars_eq hcars, fun d hd => (State.axis_modAxis_ne w c d _ hd).trans (State.axis_of_trj_eq htrj d), hbus, rfl⟩

theorem offerOp_of_accepted {src c g : Nat} {p : OfferPl} {s : State} (hsec : isSection s = true) (hservo : s.servoOn = true)
    (hsync : s.flag F.TIM_STAT.SYNC = true) (hstage : s.tide.stage ≠ .phaseA) (hspan : offerSpanOk s p = true) (hlo : 1 ≤ p.mass)
    (hhi : p.mass ≤ 65535) (hrec : offerRecord s p.car = some c) (hctrl : ctrlSlot s 1 c = some g) (hown : (s.car c).owner = false)
    (hidle : (s.car c).ho = none) : offerOp src p s = idleRestart (offerTake src c g p s) := by
  have hmass : inR 1 65535 p.mass = true := by simp [inR, hlo, hhi]
  have hstage' : (s.tide.stage != .phaseA) = true := by simpa using hstage
  rw [offerOp, hsec, hservo, hsync, hstage', hspan, hmass, hrec]
  simp only [Bool.and_self, if_true, hctrl, hown, hidle, Option.isSome_none, Bool.or_self, Bool.false_eq_true, if_false]

/-! ### CLAIM -/

theorem claimInTime_iff (s : State) (x : HandOver) :
    claimInTime s x = true ↔ s.tb.k < x.k0 + s.get F.TAC_HO_CFG_CAR.N_HO + 2 ∨
      s.tb.k = x.k0 + s.get F.TAC_HO_CFG_CAR.N_HO + 2 ∧ s.tide.stage ≠ .phaseB := by
  simp [claimInTime, hoN]

theorem claimOp_of_late {src c : Nat} {p : ClaimPl} {s : State} {x : HandOver} (hc : carById s p.car = some c) (hho : (s.car c).ho = some x)
    (hlate : claimInTime s x = false) : claimOp src p s = s := by
  rw [claimOp, hc]
  simp only [hho, hlate, Bool.and_false, Bool.false_eq_true, if_false]

/-- A claim in time changes the record of its car alone among the records. -/
theorem car_claimOp {src c : Nat} {p : ClaimPl} {s : State} {x : HandOver} (hc : carById s p.car = some c) (hho : (s.car c).ho = some x)
    (hkind : x.kind = .ownerOut) (hnb : x.nb = src) (hnew : x.claimed = false) (hin : claimInTime s x = true) (d : Nat) :
    (claimOp src p s).car d =
      (s.modCar c (fun r => { r with ho := some { x with claimed := true, h := p.period, stage := .blending } })).car d := by
  rw [claimOp, hc]
  simp only [hho, hkind, hnb, hnew, hin, beq_self_eq_true, Bool.not_false, Bool.and_self, if_true]
  generalize s.modCar c _ = m
  have hshares := keepShares_frame src p.car (p.period + 2) p.entries m
  generalize m.forL p.entries (keepShare src p.car (p.period + 2)) = u at *
  have hbss : ∀ f (t : State), (modBss c f t).cars = t.cars := fun _ _ => rfl
  have hentry : (claimEntry c false src u).cars = u.cars := rfl
  refine State.car_of_cars_eq ?_ d
  rw [sendStopq, hbss, (sendOnly_send _ _ _).frame]
  exact hentry.trans (by rw [hshares])

/-! ### HO_FAIL -/

theorem hoFailOp_of_ownerIn {src c : Nat} {p : HoFailPl} {s : State} {x : HandOver} (hc : carById s p.car = some c)
    (hho : (s.car c).ho = some x) (hkind : x.kind = .ownerIn) (hnb : x.nb = src) :
    hoFailOp src s p = if x.stage == .blending then s.modCar c (fun r => { r with ho := some { x with back := true } }) else hoFailCar c s := by
  rw [hoFailOp, hc]
  simp only [hho, hkind, hnb, beq_self_eq_true, Bool.and_self, if_true]

theorem hoFailOp_of_ended {src c : Nat} {p : HoFailPl} {s : State} (hc : carById s p.car = some c) (hho : (s.car c).ho = none)
    (hown : (s.car c).owner = true) (hfrom : (s.car c).cameFrom = some src) :
    hoFailOp src s p = s.modCar c (fun r => { r with retTo := some src }) := by
  rw [hoFailOp, hc]
  simp only [hho, hown, hfrom, beq_self_eq_true, Bool.and_self, if_true]

/-- Settles O28: the offer's record, the claim's instant, the failure before and after the blend, and the missing claim. -/
theorem ownerHandOverRuns : Obligations.OwnerHandOverRuns := by
  refine ⟨fun s h hd => ?_, fun s c x hho hkind hnew hdue => ?timeout⟩
  case timeout =>
    have hop : claimTimeoutOp c.val s = hoFailCar c.val s := by
      rw [claimTimeoutOp, hho]
      exact if_pos (by simpa [hkind, hnew, hoN] using hdue)
    exact ⟨_, congrArg Host.Outcome.next hop, hoFailCar_ownerOut_spec hho hkind⟩
  obtain ⟨hheard, hframe⟩ := heard_frame h.src s
  have hid : ∀ id, carById (noteSeen h.src s) id = carById s id := carById_of_cars_eq (by rw [hframe])
  have hcar : ∀ c, (noteSeen h.src s).car c = s.car c := State.car_of_cars_eq (by rw [hframe])
  have haxis : ∀ c, (noteSeen h.src s).axis c = s.axis c := State.axis_of_trj_eq (by rw [hframe])
  have hbus : (noteSeen h.src s).bus = s.bus := by rw [hframe]
  have htide : (noteSeen h.src s).tide = s.tide := by rw [hframe]
  have hk : (noteSeen h.src s).tb = s.tb := by rw [hframe]
  have hslots : SameSlots s (noteSeen h.src s) := ⟨fun _ _ => by rw [hbus], by rw [htide]⟩
  refine ⟨fun p c g hsec hservo hsync hstage hspan hlo hhi hrec hctrl hown hidle => ?offer,
    fun p c x hc hho hkind hnb hnew => ⟨fun hin => ?claim, fun hlate => ?lateClaim⟩,
    fun p c x hc hho hkind hnb => ⟨fun hstage => ?back, fun hstage => ?fail⟩, fun p c hc hho hown hfrom => ?ended⟩
  case offer =>
    have hsec' : isSection (noteSeen h.src s) = true := by rw [hframe]; exact hsec
    have hservo' : (noteSeen h.src s).servoOn = true := by rw [hframe]; exact hservo
    have hspan' : offerSpanOk (noteSeen h.src s) p = true := by rw [hframe]; exact hspan
    have hrec' : offerRecord (noteSeen h.src s) p.car = some c := by
      rw [offerRecord, hid]
      simp only [hcar, hk, hslots.ctrl]
      exact hrec
    have hop := offerOp_of_accepted (src := h.src) hsec' hservo' ((State.flag_of_bus_eq hbus _).trans hsync) (by rwa [htide]) hspan' hlo hhi hrec'
      ((hslots.ctrl _ _).trans hctrl) (by rw [hcar]; exact hown) (by rw [hcar]; exact hidle)
    refine ⟨_, congrArg Host.Outcome.next ((receive_of_delivers hd (by decide) (by decide)).trans hop), ?_⟩
    generalize noteSeen h.src s = u at *
    obtain ⟨hcars, haxes, hbus', hdata⟩ := offerTake_spec h.src c g p u
    generalize offerTake h.src c g p u = w at *
    have hcarW : ∀ d, (idleRestart w).car d = (u.modCar c (offeredCar h.src g p u)).car d := hcars
    have hdataW : ∀ e i, dataWord (idleRestart w) e i = dataWord (putCtx g p.ctx (u.modCar c (offeredCar h.src g p u))) e i := fun e i => by
      rw [dataWord, dataWord, ← hdata]
      rfl
    have hmod : (u.modCar c (offeredCar h.src g p u)).tide = s.tide := by rw [State.modCar_tide, htide]
    have hregW : ∀ a, (idleRestart w).reg a = w.reg a := fun _ => rfl
    refine ⟨⟨.ownerIn, .comparing, h.src, offerPeriod u, g, g, 0, 0, hoL u false, [], false, false⟩, ?_⟩
    rw [hcarW, State.car_modCar_same]
    refine ⟨rfl, rfl, rfl, rfl, rfl, rfl, rfl, rfl, rfl, rfl, rfl, rfl, fun i hi => ?_, fun j hj => ?_, fun d hd => ⟨?_, ?_⟩, fun a => ?_⟩
    · rw [hdataW, dataWord_putCtx g p.ctx _ hi]
    · exact (congrArg (fun m => smGet 0 m j) hdata).trans ((data_putCtx_of_ne g p.ctx _ hj).trans (by rw [hmod]))
    · rw [hcarW, State.car_modCar_ne _ _ _ _ hd, hcar]
    · exact (haxes d hd).trans (haxis d)
    · rw [hregW, State.reg_of_bus_eq hbus', State.reg_of_bus_eq hbus]
  all_goals
    refine ⟨_, congrArg Host.Outcome.next (receive_of_delivers hd (by decide) (by decide)), ?_⟩
    generalize noteSeen h.src s = u at *
  case claim =>
    have hcars := car_claimOp (src := h.src) (p := p) (s := u) (by rwa [hid]) (by rwa [hcar]) hkind hnb hnew ((claimInTime_iff u x).mpr (by
      rwa [hk, htide, State.get_of_bus_eq hbus]))
    refine ⟨?_, ?_, fun d hd => ?_⟩
    · rw [hcars, State.car_modCar_same]
    · rw [hcars, State.car_modCar_same, hcar]
    · rw [hcars, State.car_modCar_ne _ _ _ _ hd, hcar]
  case lateClaim =>
    rw [claimOp_of_late (by rwa [hid]) (by rwa [hcar]) (Bool.eq_false_iff.mpr fun hin => by
      rw [claimInTime_iff, hk, State.get_of_bus_eq hbus] at hin
      omega)]
    exact ⟨hheard, hframe⟩
  case back =>
    rw [hoFailOp_of_ownerIn (by rwa [hid]) (by rwa [hcar]) hkind hnb, if_pos (by rw [hstage]; rfl)]
    refine ⟨congrArg CarRec.ho (State.car_modCar_same _ _ _), hheard, fun d hd => (State.car_modCar_ne _ _ _ _ hd).trans (hcar d), ?_⟩
    rw [hframe]
    rfl
  case fail =>
    rw [hoFailOp_of_ownerIn (by rwa [hid]) (by rwa [hcar]) hkind hnb, if_neg (by simpa using hstage)]
    obtain ⟨hnone, hsched, hsaf, hother⟩ := hoFailCar_ownerIn_spec (s := u) (by rw [hcar]; exact hho) hkind
    exact ⟨hnone, hsched, hsaf, fun d hd => (hother d hd).trans (hcar d)⟩
  case ended =>
    rw [hoFailOp_of_ended (by rwa [hid]) (by rwa [hcar]) (by rwa [hcar]) (by rwa [hcar])]
    refine ⟨(State.car_modCar_same _ _ _).trans (by rw [hcar]), fun d hd => (State.car_modCar_ne _ _ _ _ hd).trans (hcar d), hheard, ?_⟩
    rw [hframe]
    rfl

end Sys2Proof.Machine
end

section
/-!
PROOF. Sharing the car force (07 R213 to R215; 02 R33, R49): the shares' sum and limit, the split of one owned car, and what a neighbour's
share or its absence makes of a channel.
-/

namespace Sys2Proof.Machine

open Sys2Proof

/-! ### The sum of the shares -/

theorem foldl_max_mem (a : Nat) (l : List Nat) : l.foldl max a = a ∨ l.foldl max a ∈ l := by
  induction l generalizing a with
  | nil => exact .inl rfl
  | cons x l ih =>
    rw [List.foldl_cons]
    obtain h | h := ih (max a x)
    · rw [h]
      obtain hm | hm := max_choice a x
      · exact .inl hm
      · exact .inr (by simp [hm])
    · exact .inr (List.mem_cons_of_mem _ h)

theorem le_foldl_max (a : Nat) (l : List Nat) : a ≤ l.foldl max a ∧ ∀ x, x ∈ l → x ≤ l.foldl max a := by
  induction l generalizing a with
  | nil => simp
  | cons y l ih =>
    obtain ⟨hlow, hall⟩ := ih (max a y)
    rw [List.foldl_cons]
    refine ⟨le_trans (le_max_left a y) hlow, fun x hx => ?_⟩
    obtain rfl | hx := List.mem_cons.mp hx
    · exact le_trans (le_max_right a x) hlow
    · exact hall x hx

/-- The largest overlap has a place. -/
theorem argMax_lt {l : List Nat} (h : 0 < l.sum) : argMax l < l.length := by
  have hpos : ∃ x, x ∈ l ∧ 0 < x := by
    by_contra hnone
    push Not at hnone
    have hzero : l.sum = 0 := List.sum_eq_zero fun x hx => Nat.le_zero.mp (hnone x hx)
    omega
  obtain ⟨x, hx, hx0⟩ := hpos
  have hmax : l.foldl max 0 ∈ l := (foldl_max_mem 0 l).resolve_left fun h0 => by
    have := (le_foldl_max 0 l).2 x hx
    omega
  cases l with
  | nil => exact absurd hx (by simp)
  | cons y l => exact List.findIdx_lt_length_of_exists ⟨_, hmax, by simp⟩

/-- One element of a list raised: the sum rises by as much. -/
theorem sum_raise_one (l : List Int) (d : Int) (i k : Nat) (hlo : k ≤ i) (hhi : i < k + l.length) :
    ((l.zipIdx k).map (fun p => if p.2 = i then p.1 + d else p.1)).sum = l.sum + d := by
  induction l generalizing k with
  | nil => simp at hhi; omega
  | cons x l ih =>
    rw [List.length_cons] at hhi
    rw [List.zipIdx_cons, List.map_cons, List.sum_cons, List.sum_cons]
    by_cases hk : k = i
    · have hrest : (l.zipIdx (k + 1)).map (fun p => if p.2 = i then p.1 + d else p.1) = l := by
        refine (List.map_congr_left fun p hp => if_neg ?_).trans (List.zipIdx_map_fst _ _)
        have := List.le_snd_of_mem_zipIdx hp
        omega
      rw [hrest, if_pos hk]
      ring
    · rw [ih (k + 1) (by omega) (by omega), if_neg hk]
      ring

theorem rawShares_length (f : Int) (ov : List Nat) : (rawShares f ov).length = ov.length := by simp [rawShares]

theorem rawShares_sum (f : Int) {ov : List Nat} (h : 0 < ov.sum) : (rawShares f ov).sum = f := by
  rw [rawShares, sum_raise_one _ _ _ 0 (Nat.zero_le _) (by simpa using argMax_lt h)]
  omega

theorem clampI_bounds {m v : Int} (hm : 0 ≤ m) : -m ≤ clampI (-m) m v ∧ clampI (-m) m v ≤ m := by
  rw [clampI]
  omega

/-! ### A neighbour's split (02 R33, R49) -/

theorem doubleShare_congr {s t : State} {x : SegX} (hcars : t.cars = s.cars) (hact : (t.chan x.chan).active = (s.chan x.chan).active)
    (hcar : (t.chan x.chan).car = (s.chan x.chan).car) : doubleShare t x = doubleShare s x := by
  have hcarEq := State.car_of_cars_eq hcars
  have hheld : heldCars t = heldCars s := by simp only [heldCars, hcarEq]
  have hdue : dueCar t x = dueCar s x := by simp only [dueCar, hheld, hcarEq]
  have hshared : sharedSeg t x = sharedSeg s x := by simp only [sharedSeg, hheld, hcarEq]
  rw [doubleShare, doubleShare, hdue, hshared, hact, hcar]

theorem exclReason_of_inUse {s : State} {n : Nat} (h : outOfUse s n = false) :
    exclReason s n = if missedShare s n then some 4 else none := by
  simp only [outOfUse, Bool.or_eq_false_iff] at h
  obtain ⟨⟨hfault, hsto⟩, hsig⟩ := h
  rw [exclReason, hfault, hsto, hsig]
  rfl

/-- What is known of shares on channel `n` replaced. -/
def withShareIn (n : Nat) (y : ShareIn) (s : State) : State := s.modChan n (fun v => { v with shareIn := some y })

theorem chan_withShareIn (n : Nat) (y : ShareIn) (s : State) : (withShareIn n y s).chan n = { s.chan n with shareIn := some y } :=
  State.chan_modChan_same _ _ _

theorem outOfUse_withShareIn (n m : Nat) (y : ShareIn) (s : State) : outOfUse (withShareIn n y s) m = outOfUse s m := rfl

theorem splitDue_of_share {s : State} {x : SegX} {c : Nat} {sh : Int} (hdue : dueCar s x = some c) (huse : outOfUse s x.chan = false)
    (hone : doubleShare s x = false) (hsh : shareFor s x.chan = some sh) :
    splitDue x s = giveShare x.chan c (segOverlap x (s.car c)) sh (withShareIn x.chan (takeShare s.tb.k sh (shareInOf s x.chan c)) s) := by
  have hplace : ∀ y, y.misses = 0 → placeDue x c sh (withShareIn x.chan y s) =
      giveShare x.chan c (segOverlap x (s.car c)) sh (withShareIn x.chan y s) := fun y hy => by
    have hchan := chan_withShareIn x.chan y s
    have hdouble : doubleShare (withShareIn x.chan y s) x = false :=
      (doubleShare_congr (s := s) (t := withShareIn x.chan y s) rfl (by rw [hchan]) (by rw [hchan])).trans hone
    have hmiss : missedShare (withShareIn x.chan y s) x.chan = false := by
      rw [missedShare, hchan]
      simp [hy]
    rw [placeDue, exclReason_of_inUse ((outOfUse_withShareIn _ _ _ _).trans huse), hmiss, hdouble]
    rfl
  rw [splitDue, hdue]
  simp only [hsh]
  exact hplace _ rfl

theorem splitDue_of_miss {s : State} {x : SegX} {c : Nat} {y : ShareIn} (hdue : dueCar s x = some c) (huse : outOfUse s x.chan = false)
    (hone : doubleShare s x = false) (hsh : shareFor s x.chan = none) (hy : (s.chan x.chan).shareIn = some y) :
    splitDue x s = (noShare x.chan (withShareIn x.chan (missShare s.tb.k y) s)).modChan x.chan
      (fun v => { v with share := if y.misses = 0 then y.last else 0 }) := by
  have hchan := chan_withShareIn x.chan (missShare s.tb.k y) s
  have hplace : placeDue x c 0 (withShareIn x.chan (missShare s.tb.k y) s) = noShare x.chan (withShareIn x.chan (missShare s.tb.k y) s) := by
    have hmiss : missedShare (withShareIn x.chan (missShare s.tb.k y) s) x.chan = true := by
      rw [missedShare, hchan]
      simp [missShare]
    rw [placeDue, exclReason_of_inUse ((outOfUse_withShareIn _ _ _ _).trans huse), hmiss]
    rfl
  have hin : shareInOf s x.chan c = y := by rw [shareInOf, hy, Option.getD_some]
  have hval : missedVal s x (missShare s.tb.k y) = if y.misses = 0 then y.last else 0 := by
    simp [missedVal, missShare, huse, hone]
  rw [splitDue, hdue]
  simp only [hsh, hin, hval]
  exact congrArg (fun t => t.modChan x.chan (fun v => { v with share := if y.misses = 0 then y.last else 0 })) hplace

/-! ### SHARE_MISSED -/

theorem shareMissedOp_of_due {s : State} {x : SegX} {y : ShareIn} (hservo : s.servoOn = true)
    (hseg : (ownSegs s.conf.geom).find? (fun z => z.seg == x.seg) = some x) (hy : (s.chan x.chan).shareIn = some y)
    (hmiss : y.missAt = some s.tb.k) (hcnt : y.cntAt ≠ some s.tb.k) :
    shareMissedOp x.seg s =
      ((withShareIn x.chan { y with cntAt := some s.tb.k } s).incSat (F.SLK_CH_CNT.SHARE_MISS x.chan)).ev F.SLK_EVENT.SHARE_MISS := by
  rw [shareMissedOp, hseg]
  simp only [hy]
  exact if_pos ⟨hservo, hmiss, hcnt⟩

/-! ### Folds over channels and cars -/

theorem State.forL_eq_self {α : Type} {l : List α} {f : α → State → State} {s : State} (h : ∀ x, x ∈ l → f x s = s) : s.forL l f = s := by
  induction l with
  | nil => rfl
  | cons x l ih =>
    have hcons : s.forL (x :: l) f = (f x s).forL l f := rfl
    rw [hcons, h x (by simp), ih fun y hy => h y (by simp [hy])]

theorem State.forN_eq_self {n : Nat} {f : Nat → State → State} {s : State} (h : ∀ i, i < n → f i s = s) : s.forN n f = s :=
  State.forL_eq_self (l := List.range n) fun i hi => h i (List.mem_range.mp hi)

section
variable {α : Type} {k : α → Nat} {g : α → ChanView → ChanView}

theorem chan_forL_modChan_ne {l : List α} {n : Nat} (h : ∀ x, x ∈ l → k x ≠ n) (s : State) :
    (s.forL l (fun x u => u.modChan (k x) (g x))).chan n = s.chan n :=
  State.read_forL (read := fun t => t.chan n) (fun x hx t => State.chan_modChan_ne t (k x) n _ (Ne.symm (h x hx))) s

theorem chan_forL_modChan_mem {l : List α} (hnodup : (l.map k).Nodup) {x : α} (hx : x ∈ l) (s : State) :
    (s.forL l (fun x u => u.modChan (k x) (g x))).chan (k x) = g x (s.chan (k x)) := by
  induction l generalizing s with
  | nil => exact absurd hx (by simp)
  | cons y l ih =>
    rw [List.map_cons, List.nodup_cons] at hnodup
    obtain ⟨hy, hnodup⟩ := hnodup
    have hcons : s.forL (y :: l) (fun x u => u.modChan (k x) (g x)) = (s.modChan (k y) (g y)).forL l (fun x u => u.modChan (k x) (g x)) := rfl
    rw [hcons]
    obtain rfl | hx := List.mem_cons.mp hx
    · rw [chan_forL_modChan_ne (fun z hz hzx => hy (by rw [← hzx]; exact List.mem_map_of_mem hz)), State.chan_modChan_same]
    · rw [ih hnodup hx, State.chan_modChan_ne _ _ _ _ fun h => hy (by rw [← h]; exact List.mem_map_of_mem hx)]

theorem forL_modChan_frame (l : List α) (s : State) : s.forL l (fun x u => u.modChan (k x) (g x)) =
    { s with chans := (s.forL l (fun x u => u.modChan (k x) (g x))).chans } :=
  State.forL_rel (R := fun s t => t = { s with chans := t.chans }) (fun _ => rfl) (fun s t u hst htu => by rw [htu, hst]) (fun _ _ _ => rfl) s

end

/-! ### What closing the section leaves of the motion -/

/-- Car records, channels and engines stand as before. -/
def MotionKept (s t : State) : Prop := t.cars = s.cars ∧ t.chans = s.chans ∧ t.tide = s.tide

namespace MotionKept

theorem refl (s : State) : MotionKept s s := ⟨rfl, rfl, rfl⟩

theorem trans {s t u : State} (hst : MotionKept s t) (htu : MotionKept t u) : MotionKept s u :=
  ⟨htu.1.trans hst.1, htu.2.1.trans hst.2.1, htu.2.2.trans hst.2.2⟩

theorem of_sendOnly {s t : State} (h : SendOnly s t) : MotionKept s t := by
  rw [h.frame]
  exact ⟨rfl, rfl, rfl⟩

theorem forL {α : Type} {f : α → State → State} (hf : ∀ x t, MotionKept t (f x t)) (l : List α) (s : State) : MotionKept s (s.forL l f) :=
  State.forL_rel refl (fun _ _ _ => trans) (fun x _ t => hf x t) s

theorem modBss (c : Nat) (f : BssCar → BssCar) (s : State) : MotionKept s (modBss c f s) := ⟨rfl, rfl, rfl⟩

theorem modAxis (n : Nat) (f : Axis → Axis) (s : State) : MotionKept s (s.modAxis n f) := ⟨rfl, rfl, rfl⟩

theorem ev (f : FRef) (s : State) : MotionKept s (s.ev f) := ⟨rfl, rfl, rfl⟩

theorem announceAll (s : State) : MotionKept s (announceAll s) := by
  refine State.forN_rel refl (fun _ _ _ => trans) (fun p hp t => ?_) s
  rw [announceOn]
  split
  · exact of_sendOnly (sendOnly_sendPort hp ..)
  · exact refl t

theorem candDrop (s : State) : MotionKept s (candDrop s) := by
  rw [Machine.candDrop]
  split
  · exact refl s
  next x hx =>
    have hkeep : ∀ p, MotionKept s (keepRes p { s with bss := { s.bss with cand := none, todo := none } }) := fun _ => ⟨rfl, rfl, rfl⟩
    exact ((hkeep _).trans (forL (fun d t => of_sendOnly (sendOnly_send t d (.resRel ⟨x.id⟩))) _ _)).trans (modBss _ _ _)

theorem schedDrop (s : State) : MotionKept s (schedDrop s) := by
  refine State.forN_rel refl (fun _ _ _ => trans) (fun c _ t => ?_) s
  split
  · exact (modAxis _ _ t).trans (modBss _ _ _)
  · exact refl t

theorem closeOwn (s : State) : MotionKept s (closeOwn s) := by
  have hstop : ∀ c t, MotionKept t (if inMove (t.axis c) then stopAxis c 8 t else t) := fun c t => by
    split
    · exact modAxis _ _ t
    · exact refl t
  exact (((((announceAll s).trans (ev _ _)).trans (forL hstop _ _)).trans (candDrop _)).trans (forL (fun _ t => modBss _ _ t) _ _)).trans
    (schedDrop _)

theorem sparesCheck (s : State) : MotionKept s (sparesCheck s) := by
  have hset : MotionKept s { s with fab := { s.fab with spares := true } } := ⟨rfl, rfl, rfl⟩
  rw [Machine.sparesCheck]
  split
  · dsimp only
    split
    · exact hset
    · exact hset.trans (closeOwn _)
  · exact refl s

end MotionKept

end Sys2Proof.Machine
end

section
/-!
PROOF. FORCE_SPLIT with one owned car and every phase A run ended (07 R213 to R215), and what a missed share counts (02 R49).
-/

namespace Sys2Proof.Machine

open Sys2Proof

/-! ### The own segments of an active set -/

theorem nb_ownFrom (k : Nat) (lo : Int) (l : List SegRec) : ∀ x, x ∈ ownFrom k lo l → x.nb = none := by
  induction l generalizing k lo with
  | nil => simp [ownFrom]
  | cons r l ih =>
    intro x hx
    rw [ownFrom] at hx
    obtain rfl | hx := List.mem_cons.mp hx
    · rfl
    · exact ih _ _ x hx

theorem nb_aboveFrom (id k : Nat) (lo : Int) (l : List Nat) : ∀ x, x ∈ aboveFrom id k lo l → x.nb = some id := by
  induction l generalizing k lo with
  | nil => simp [aboveFrom]
  | cons r l ih =>
    intro x hx
    rw [aboveFrom] at hx
    obtain rfl | hx := List.mem_cons.mp hx
    · rfl
    · exact ih _ _ x hx

theorem nb_belowFrom (id k : Nat) (hi : Int) (l : List Nat) : ∀ x, x ∈ belowFrom id k hi l → x.nb = some id := by
  induction l generalizing k hi with
  | nil => simp [belowFrom]
  | cons r l ih =>
    intro x hx
    rw [belowFrom] at hx
    obtain rfl | hx := List.mem_cons.mp hx
    · rfl
    · exact ih _ _ x hx

/-- The listed segments that are no neighbour's are the section's own. -/
theorem filter_allSegs (g : SectionGeom) : (allSegs g).filter (fun x => x.nb.isNone) = ownSegs g := by
  have hown : (ownSegs g).filter (fun x => x.nb.isNone) = ownSegs g := List.filter_eq_self.mpr fun x hx => by
    rw [nb_ownFrom _ _ _ x hx]
    rfl
  have hnone : ∀ l : List SegX, (∀ x, x ∈ l → x.nb.isSome = true) → l.filter (fun x => x.nb.isNone) = [] := fun l hl =>
    List.filter_eq_nil_iff.mpr fun x hx => by simpa [Option.isSome_iff_ne_none] using hl x hx
  rw [allSegs, List.filter_append, List.filter_append, hown, hnone, hnone, List.nil_append, List.append_nil]
  · intro x hx
    split at hx
    · exact absurd hx (by simp)
    · rw [nb_aboveFrom _ _ _ _ x hx]
      rfl
  · intro x hx
    split at hx
    · exact absurd hx (by simp)
    · rw [nb_belowFrom _ _ _ _ x (List.mem_reverse.mp hx)]
      rfl

theorem activeSet_sublist (s : State) (c : Nat) : ((activeSet s c).map (fun p => p.1)).Sublist (allSegs s.conf.geom) := by
  have h := (List.filter_sublist (l := (allSegs s.conf.geom).map (fun x => (x, segOverlap x (s.car c))))
    (p := fun p => decide (0 < p.2) && !segExcluded s (s.car c) p.1 && !sharedSeg s p.1)).map (fun p => p.1)
  rw [List.map_map] at h
  have hid : ((fun p : SegX × Nat => p.1) ∘ fun x => (x, segOverlap x (s.car c))) = id := rfl
  rw [hid, List.map_id] at h
  exact h

/-- The own segments of an active set with their shares. -/
def ownShares (act : List (SegX × Nat)) (lim : List Int) : List ((SegX × Nat) × Int) := (act.zip lim).filter (fun p => p.1.1.nb.isNone)

theorem ownShares_segs {act : List (SegX × Nat)} {lim : List Int} (h : lim.length = act.length) :
    (ownShares act lim).map (fun p => p.1.1) = (act.map (fun p => p.1)).filter (fun x => x.nb.isNone) := by
  have hzip : act.map (fun p => p.1) = (act.zip lim).map (fun p => p.1.1) := by
    have hfst : (act.zip lim).map Prod.fst = act := List.map_fst_zip (by omega)
    conv_lhs => rw [← hfst, List.map_map]
    rfl
  rw [hzip, ownShares, List.filter_map]
  rfl

/-- The channels of an active set's own segments are as distinct as the section's. -/
theorem ownShares_nodup {s : State} {c : Nat} {lim : List Int} (h : lim.length = (activeSet s c).length)
    (hnodup : ((ownSegs s.conf.geom).map (fun x => x.chan)).Nodup) :
    ((ownShares (activeSet s c) lim).map (fun p => p.1.1.chan)).Nodup := by
  have hsub : ((ownShares (activeSet s c) lim).map (fun p => p.1.1)).Sublist (ownSegs s.conf.geom) := by
    rw [ownShares_segs h, ← filter_allSegs]
    exact (activeSet_sublist s c).filter _
  have hmap := hsub.map (fun x => x.chan)
  rw [List.map_map] at hmap
  exact hmap.nodup hnodup

/-! ### The parts of the split with one owned car -/

section
variable {s : State} {c : Nat}

theorem slotsAtLimit_of_ended {p : Nat → Bool} (h : ∀ g, g ∈ liveSlots s p → (s.slot g).run = .done ∨ (s.slot g).run = .overran) :
    slotsAtLimit p s = s := State.forL_eq_self fun g hg => by
  rw [slotShort]
  obtain hrun | hrun := h g hg
  · rw [hrun]
  · rw [hrun]

theorem entriesTurn_of_idle (h : ∀ d, d < 8 → (s.car d).ho = none ∧ (s.car d).retTo = none) : entriesTurn s = s :=
  State.forN_eq_self fun d hd => by
    obtain ⟨hho, hret⟩ := h d hd
    simp only [hho, hret]

theorem ownerHoTurn_of_idle (h : ∀ d, d < 8 → (s.car d).ho = none ∧ (s.car d).retTo = none) : s.forN 8 ownerHoTurn = s :=
  State.forN_eq_self fun d hd => by
    obtain ⟨hho, hret⟩ := h d hd
    rw [ownerHoTurn, hho]
    simp only [hret]

/-- No share of the last period stands. -/
def cleared (s : State) : State := s.forL (ownSegs s.conf.geom) (fun x t => noShare x.chan t)

theorem cleared_frame (s : State) : cleared s = { s with chans := (cleared s).chans } := forL_modChan_frame _ s

theorem chan_cleared {x : SegX} (hx : x ∈ ownSegs s.conf.geom) (hnodup : ((ownSegs s.conf.geom).map (fun x => x.chan)).Nodup) :
    (cleared s).chan x.chan = { s.chan x.chan with share := 0, active := false, overlap := 0, car := none } :=
  chan_forL_modChan_mem (k := fun x : SegX => x.chan) hnodup hx s

theorem shareIn_cleared (s : State) (n : Nat) : ((cleared s).chan n).shareIn = (s.chan n).shareIn :=
  State.read_forL (read := fun t => (t.chan n).shareIn) (fun x _ t => by
    by_cases h : n = x.chan
    · rw [h, noShare, State.chan_modChan_same]
    · rw [noShare, State.chan_modChan_ne _ _ _ _ h]) s

theorem slotsOf_of_bus_eq {s t : State} (hbus : t.bus = s.bus) (k b : Nat) : slotsOf t k b = slotsOf s k b := by
  have hen : slotEn t = slotEn s := funext fun g => by rw [slotEn, hbus, slotEn]
  have hkind : slotKind t = slotKind s := funext fun _ => State.get_of_bus_eq hbus _
  have hbind : slotBind t = slotBind s := funext fun _ => State.get_of_bus_eq hbus _
  rw [slotsOf, enabledSlots, hen, hkind, hbind, slotsOf, enabledSlots]

theorem activeSet_congr {s t : State} (hbus : t.bus = s.bus) (hcars : t.cars = s.cars) (hconf : t.conf = s.conf)
    (hin : ∀ n, (t.chan n).shareIn = (s.chan n).shareIn) (c : Nat) : activeSet t c = activeSet s c := by
  have hcar := State.car_of_cars_eq hcars
  have hheld : heldCars t = heldCars s := by simp only [heldCars, hcar]
  have hfault : slotFault t = slotFault s := funext fun _ => State.flag_of_bus_eq hbus _
  have hmiss : ∀ n, missedShare t n = missedShare s n := fun n => by rw [missedShare, hin, missedShare]
  have hexcl : ∀ n, exclReason t n = exclReason s n := fun n => by
    simp only [exclReason, chanFault, chanSlotFault, slotsOf_of_bus_eq hbus, hfault, nodeFault, chanSto, sigFault, hmiss,
      State.flag_of_bus_eq hbus, State.reg_of_bus_eq hbus]
    rfl
  have hshared : ∀ x, sharedSeg t x = sharedSeg s x := fun x => by simp only [sharedSeg, hheld, hcar]
  simp only [activeSet, hcar, hconf, hshared, segExcluded, hexcl]

theorem appliedForce_of_no_ho (hho : (s.car c).ho = none) :
    appliedForce s c = (if carFaulted s c then fallback s c else carOut s c, false) := by
  rw [appliedForce]
  split
  · rfl
  · rw [hho]

/-- The shares of car c at its split. -/
def sharesOf (s : State) (c : Nat) : List Int :=
  limitShares (s.get F.TAC_SEG_FMAX.FMAX) (rawShares (appliedForce s c).1 ((activeSet s c).map (fun p => p.2)))

theorem sharesOf_length (s : State) (c : Nat) : (sharesOf s c).length = (activeSet s c).length := by
  simp [sharesOf, limitShares, rawShares_length]

/-- The car's record at its split. -/
def splitCar (s : State) (c : Nat) (r : CarRec) : CarRec :=
  { r with force := (appliedForce s c).1, activeN := (activeSet s c).length, ovSum := ((activeSet s c).map (fun p => p.2)).sum }

/-- The own segments' shares given. -/
def givenShares (c : Nat) (l : List ((SegX × Nat) × Int)) (s : State) : State :=
  s.forL l (fun p t => giveShare p.1.1.chan c p.1.2 p.2 t)

theorem sendShares_of_no_ho (hho : (s.car c).ho = none) (l : List (SegX × Int)) : SendOnly s (sendShares c l s) :=
  State.forL_rel (R := SendOnly) SendOnly.refl (fun _ _ _ => SendOnly.trans) (fun id _ t => by
    have hclaim : claimDue s c id = false := by rw [claimDue, hho]
    dsimp only
    rw [hclaim]
    simp only [Bool.false_eq_true, if_false]
    split
    · exact .refl t
    · exact sendOnly_send _ _ _) s

/-- The record after the split, and whether a share was capped. -/
def splitCapped (s : State) (c : Nat) : State :=
  if rawShares (appliedForce s c).1 ((activeSet s c).map (fun p => p.2)) == sharesOf s c then s.modCar c (splitCar s c)
  else (s.modCar c (splitCar s c)).ev F.TAC_SCHED_EVENT.SHARE_CAP

/-- The split before the hand-overs of the car take their turn. -/
def splitSent (s : State) (c : Nat) : State :=
  hoOutSend c (offerSend c (sendShares c (((activeSet s c).map (fun p => p.1)).zip (sharesOf s c))
    (givenShares c (ownShares (activeSet s c) (sharesOf s c)) (splitCapped s c))))

theorem splitOwned_eq (s : State) (c : Nat) :
    splitOwned c s = if (appliedForce s c).2 then hoDoneCar c (splitSent s c) else modeHoSplit c (splitSent s c) := rfl

theorem splitCapped_parts (s : State) (c : Nat) : (splitCapped s c).cars = (s.modCar c (splitCar s c)).cars ∧ (splitCapped s c).chans = s.chans ∧
    (splitCapped s c).tide = s.tide ∧ (splitCapped s c).conf = s.conf := by
  have hev : ∀ t f, (State.ev t f).cars = t.cars ∧ (State.ev t f).chans = t.chans ∧ (State.ev t f).tide = t.tide ∧ (State.ev t f).conf = t.conf :=
    fun _ _ => ⟨rfl, rfl, rfl, rfl⟩
  rw [splitCapped]
  split
  · exact ⟨rfl, rfl, rfl, rfl⟩
  · exact hev (s.modCar c (splitCar s c)) F.TAC_SCHED_EVENT.SHARE_CAP

/-- The split of a car without a hand-over: its record, the shares of its own segments, and nothing else of the motion. -/
theorem splitOwned_of_no_ho (hho : (s.car c).ho = none) :
    (splitOwned c s).cars = (s.modCar c (splitCar s c)).cars ∧
      (splitOwned c s).chans = (givenShares c (ownShares (activeSet s c) (sharesOf s c)) (splitCapped s c)).chans ∧
      (splitOwned c s).tide = s.tide ∧ (splitOwned c s).conf = s.conf := by
  have hlost : (appliedForce s c).2 = false := by rw [appliedForce_of_no_ho hho]
  obtain ⟨hcars, hchans, htide, hconf⟩ := splitCapped_parts s c
  have hgiven : givenShares c (ownShares (activeSet s c) (sharesOf s c)) (splitCapped s c) =
      { splitCapped s c with chans := (givenShares c (ownShares (activeSet s c) (sharesOf s c)) (splitCapped s c)).chans } := forL_modChan_frame _ _
  rw [splitOwned_eq, hlost, splitSent]
  generalize givenShares c (ownShares (activeSet s c) (sharesOf s c)) (splitCapped s c) = v at *
  have hcarsV : v.cars = (s.modCar c (splitCar s c)).cars := by rw [hgiven, hcars]
  have hhoV : (v.car c).ho = none := by rw [State.car_of_cars_eq hcarsV, State.car_modCar_same]; exact hho
  have hsent := sendShares_of_no_ho hhoV (((activeSet s c).map (fun p => p.1)).zip (sharesOf s c))
  generalize sendShares c (((activeSet s c).map (fun p => p.1)).zip (sharesOf s c)) v = w at *
  have hhoW : (w.car c).ho = none := by rw [hsent.car, hhoV]
  have hoffer : offerSend c w = w := by rw [offerSend]; simp only [hhoW]
  have hout : hoOutSend c w = w := by rw [hoOutSend]; simp only [hhoW]
  have hmode : modeHoSplit c w = w := by rw [modeHoSplit]; simp only [hhoW]
  rw [hoffer, hout, hmode, hsent.frame, hgiven, hcars, htide, hconf]
  exact ⟨rfl, rfl, rfl, rfl⟩

/-! ### The other parts of the shares' stage -/

theorem dueCar_of_owned {t : State} (hheld : heldCars t = [c]) (hown : (t.car c).owner = true) (x : SegX) : dueCar t x = none := by
  simp [dueCar, hheld, hown]

/-- A channel's place in an active set stands as before. -/
def PlaceKept (v w : ChanView) : Prop := w.share = v.share ∧ w.active = v.active ∧ w.overlap = v.overlap ∧ w.car = v.car

/-- Where every held car is owned, the neighbours' split changes what is known of shares alone. -/
theorem splitDues_of_owned (hheld : heldCars s = [c]) (hown : (s.car c).owner = true) (l : List SegX) :
    s.forL l splitDue = { s with chans := (s.forL l splitDue).chans } ∧ ∀ n, PlaceKept (s.chan n) ((s.forL l splitDue).chan n) := by
  let R : State → State → Prop := fun s t => heldCars s = [c] → (s.car c).owner = true →
    t = { s with chans := t.chans } ∧ ∀ n, PlaceKept (s.chan n) (t.chan n)
  refine State.forL_rel (R := R) (fun _ _ _ => ⟨rfl, fun _ => ⟨rfl, rfl, rfl, rfl⟩⟩) (fun s t u hst htu hheld hown => ?_) (fun x _ t hheld hown => ?_) s
    hheld hown
  · obtain ⟨hframe, hplace⟩ := hst hheld hown
    have hcar : ∀ d, t.car d = s.car d := State.car_of_cars_eq (by rw [hframe])
    have hheldT : heldCars t = [c] := by rw [← hheld]; simp only [heldCars, hcar]
    obtain ⟨hframe', hplace'⟩ := htu hheldT (by rw [hcar, hown])
    refine ⟨by rw [hframe', hframe], fun n => ?_⟩
    obtain ⟨hshare, hactive, hoverlap, hcarn⟩ := hplace n
    obtain ⟨hshare', hactive', hoverlap', hcarn'⟩ := hplace' n
    exact ⟨hshare'.trans hshare, hactive'.trans hactive, hoverlap'.trans hoverlap, hcarn'.trans hcarn⟩
  · rw [splitDue, dueCar_of_owned hheld hown]
    refine ⟨rfl, fun n => ?_⟩
    by_cases hn : n = x.chan
    · rw [hn, State.chan_modChan_same]
      exact ⟨rfl, rfl, rfl, rfl⟩
    · rw [State.chan_modChan_ne _ _ _ _ hn]
      exact ⟨rfl, rfl, rfl, rfl⟩

theorem segstatSend_of_owned (hown : (s.car c).owner = true) : segstatSend c s = s := by
  rw [segstatSend]
  simp [hown]

/-- The state after the owned car's split, before the neighbours'. -/
def ownedSplit (c : Nat) (s : State) : State := splitOwned c (cleared s)

/-- The shares' stage with one held car, an owned one without a hand-over. -/
theorem shareStage_of_owned (hheld : heldCars s = [c]) (hown : (s.car c).owner = true)
    (hidle : ∀ d, d < 8 → (s.car d).ho = none ∧ (s.car d).retTo = none) :
    (shareStage s).cars = (ownedSplit c s).cars ∧ (∀ d, ((shareStage s).car d).held = (s.car d).held) ∧
      ∀ n, PlaceKept ((ownedSplit c s).chan n) ((shareStage s).chan n) := by
  have hc8 : c < 8 := by
    have hmem : c ∈ heldCars s := by simp [hheld]
    exact List.mem_range.mp (List.mem_filter.mp hmem).1
  have hcarA : ∀ d, (cleared s).car d = s.car d := State.car_of_cars_eq (by rw [cleared_frame])
  have howned : ownedCars (cleared s) = [c] := by
    have hheldA : heldCars (cleared s) = [c] := by rw [← hheld]; simp only [heldCars, hcarA]
    simp [ownedCars, hheldA, hcarA, hown]
  have hhoA : ((cleared s).car c).ho = none := by rw [hcarA]; exact (hidle c hc8).1
  obtain ⟨hcarsB, -, -, -⟩ := splitOwned_of_no_ho hhoA
  have hstage : shareStage s = ((ownedSplit c s).forL (ownSegs s.conf.geom) splitDue).forL
      (heldCars ((ownedSplit c s).forL (ownSegs s.conf.geom) splitDue)) segstatSend := by
    rw [shareStage, ownerHoTurn_of_idle hidle]
    have hsplit : (cleared s).forL (ownedCars (cleared s)) splitOwned = ownedSplit c s := by rw [howned]; rfl
    change (let b := (cleared s).forL (ownedCars (cleared s)) splitOwned
      let d := b.forL (ownSegs s.conf.geom) splitDue
      d.forL (heldCars d) segstatSend) = _
    rw [hsplit]
  have hcarB : ∀ d, ((ownedSplit c s).car d).held = (s.car d).held ∧ ((ownedSplit c s).car d).owner = (s.car d).owner := fun d => by
    rw [ownedSplit, State.car_of_cars_eq hcarsB]
    by_cases hd : d = c
    · rw [hd, State.car_modCar_same, splitCar, hcarA]
      exact ⟨rfl, rfl⟩
    · rw [State.car_modCar_ne _ _ _ _ hd, hcarA]
      exact ⟨rfl, rfl⟩
  have hheldB : heldCars (ownedSplit c s) = [c] := by
    rw [← hheld]
    simp only [heldCars, (hcarB _).1]
  obtain ⟨hframe, hplace⟩ := splitDues_of_owned hheldB ((hcarB c).2.trans hown) (ownSegs s.conf.geom)
  have hcarC : ∀ d, ((ownedSplit c s).forL (ownSegs s.conf.geom) splitDue).car d = (ownedSplit c s).car d := State.car_of_cars_eq (by rw [hframe])
  have hheldC : heldCars ((ownedSplit c s).forL (ownSegs s.conf.geom) splitDue) = [c] := by
    rw [← hheldB]
    simp only [heldCars, hcarC]
  rw [hstage, hheldC, State.forL_eq_self fun d hd => segstatSend_of_owned (by rw [List.mem_singleton.mp hd, hcarC, (hcarB c).2, hown])]
  exact ⟨by rw [hframe], fun d => by rw [hcarC, (hcarB d).1], hplace⟩

theorem doubledCars_of_one (hheld : heldCars s = [c]) : doubledCars s = [] := by
  have hnone : (allSegs s.conf.geom).find? (sharedSeg s) = none := List.find?_eq_none.mpr fun x _ => by
    have hlen := List.length_filter_le (fun d => decide (0 < segOverlap x (s.car d))) (heldCars s)
    rw [hheld, List.length_singleton] at hlen
    simpa [sharedSeg, hheld] using hlen
  rw [doubledCars, hnone]

/-- FORCE_SPLIT of one held car, an owned one: phase B begins, and the motion is that of its split. -/
theorem split_of_owned (hservo : s.servoOn = true) (hstage : s.tide.stage = .phaseA) (hsec : isSection s = true) (hheld : heldCars s = [c])
    (hown : (s.car c).owner = true) (hidle : ∀ d, d < 8 → (s.car d).ho = none ∧ (s.car d).retTo = none)
    (hrun : ∀ g, g ∈ liveSlots s (fun g => slotPhase s g == 0) → (s.slot g).run = .done ∨ (s.slot g).run = .overran) :
    (split s).tide.stage = .phaseB ∧ (split s).cars = (ownedSplit c s).cars ∧
      ∀ n, PlaceKept ((ownedSplit c s).chan n) ((split s).chan n) := by
  obtain ⟨hcars, hheldU, hplace⟩ := shareStage_of_owned hheld hown hidle
  obtain ⟨hcarsW, hchansW, -⟩ := MotionKept.sparesCheck (shareStage s)
  have hsplit : split s = separationCheck { sparesCheck (shareStage s) with tide := { (sparesCheck (shareStage s)).tide with stage := .phaseB } } := by
    rw [split, if_pos (by simp [hservo, hstage]), slotsAtLimit_of_ended hrun]
    dsimp only
    rw [if_pos hsec, entriesTurn_of_idle hidle]
  generalize sparesCheck (shareStage s) = w at *
  have hheldW : heldCars { w with tide := { w.tide with stage := .phaseB } } = [c] := by
    have hcarW : ∀ d, (State.car { w with tide := { w.tide with stage := .phaseB } } d).held = (s.car d).held := fun d =>
      (congrArg CarRec.held (State.car_of_cars_eq hcarsW d)).trans (hheldU d)
    rw [← hheld]
    simp only [heldCars, hcarW]
  rw [hsplit, separationCheck, doubledCars_of_one hheldW]
  exact ⟨rfl, hcarsW.trans hcars, fun n => by have h := hplace n; rw [← State.chan_of_chans_eq hchansW n] at h; exact h⟩

/-- Clearing the shares changes neither the active set nor the force nor the shares. -/
theorem cleared_reads (s : State) (c : Nat) : activeSet (cleared s) c = activeSet s c ∧ appliedForce (cleared s) c = appliedForce s c ∧
    sharesOf (cleared s) c = sharesOf s c := by
  have hact : activeSet (cleared s) c = activeSet s c :=
    activeSet_congr (by rw [cleared_frame]) (by rw [cleared_frame]) (by rw [cleared_frame]) (shareIn_cleared s) c
  have hforce : appliedForce (cleared s) c = appliedForce s c := by
    rw [cleared_frame]
    rfl
  have hfmax : (cleared s).get F.TAC_SEG_FMAX.FMAX = s.get F.TAC_SEG_FMAX.FMAX := State.get_of_bus_eq (by rw [cleared_frame]) _
  exact ⟨hact, hforce, by rw [sharesOf, hact, hforce, hfmax, sharesOf]⟩

/-- The record and the channels after the owned car's split. -/
theorem ownedSplit_spec (hho : (s.car c).ho = none) (hnodup : ((ownSegs s.conf.geom).map (fun x => x.chan)).Nodup) :
    ((ownedSplit c s).car c).force = (appliedForce s c).1 ∧ ((ownedSplit c s).car c).activeN = (activeSet s c).length ∧
      (∀ p, p ∈ ownShares (activeSet s c) (sharesOf s c) → ((ownedSplit c s).chan p.1.1.chan).car = some c ∧
        ((ownedSplit c s).chan p.1.1.chan).overlap = p.1.2 ∧ ((ownedSplit c s).chan p.1.1.chan).share = p.2) ∧
      ∀ n, (∀ p, p ∈ ownShares (activeSet s c) (sharesOf s c) → p.1.1.chan ≠ n) → (ownedSplit c s).chan n = (cleared s).chan n := by
  obtain ⟨hact, hforce, hshares⟩ := cleared_reads s c
  have hhoA : ((cleared s).car c).ho = none := by rw [State.car_of_cars_eq (s := s) (by rw [cleared_frame]), hho]
  obtain ⟨hcars, hchans, -, -⟩ := splitOwned_of_no_ho hhoA
  have hcap : (splitCapped (cleared s) c).chans = (cleared s).chans := (splitCapped_parts (cleared s) c).2.1
  have hcar : (ownedSplit c s).car c = splitCar (cleared s) c ((cleared s).car c) := by
    rw [ownedSplit, State.car_of_cars_eq hcars, State.car_modCar_same]
  have hchan : ∀ n, (ownedSplit c s).chan n = (givenShares c (ownShares (activeSet s c) (sharesOf s c)) (splitCapped (cleared s) c)).chan n := fun n => by
    rw [ownedSplit, State.chan_of_chans_eq hchans, hact, hshares]
  refine ⟨?_, ?_, fun p hp => ?_, fun n hn => ?_⟩
  · rw [hcar, splitCar, hforce]
  · rw [hcar, splitCar, hact]
  · rw [hchan, givenShares]
    have hgiven := chan_forL_modChan_mem (k := fun p : (SegX × Nat) × Int => p.1.1.chan)
      (g := fun p v => { v with share := p.2, active := true, overlap := p.1.2, car := some c })
      (ownShares_nodup (sharesOf_length s c) hnodup) hp (splitCapped (cleared s) c)
    exact ⟨congrArg ChanView.car hgiven, congrArg ChanView.overlap hgiven, congrArg ChanView.share hgiven⟩
  · rw [hchan, givenShares]
    exact (chan_forL_modChan_ne (k := fun p : (SegX × Nat) × Int => p.1.1.chan)
      (g := fun p v => { v with share := p.2, active := true, overlap := p.1.2, car := some c }) hn _).trans (State.chan_of_chans_eq hcap n)

theorem mem_ownSegs_of_active {p : SegX × Nat} (hp : p ∈ activeSet s c) (hnb : p.1.nb = none) : p.1 ∈ ownSegs s.conf.geom := by
  rw [← filter_allSegs, List.mem_filter]
  exact ⟨(activeSet_sublist s c).subset (List.mem_map_of_mem hp), by rw [hnb]; rfl⟩

end

/-- A missed share counted: the counter, the event, and the registers that stay. -/
theorem shareMiss_counted (n : Nat) (s : State) :
    let t := (s.incSat (F.SLK_CH_CNT.SHARE_MISS n)).ev F.SLK_EVENT.SHARE_MISS
    t.get (F.SLK_CH_CNT.SHARE_MISS n) = min 255 (s.get (F.SLK_CH_CNT.SHARE_MISS n) + 1) ∧ t.flag F.SLK_EVENT.SHARE_MISS = true ∧
      RegsBut [Reg.SLK_CH_CNT n, Reg.SLK_EVENT] s t ∧ t = { s with bus := t.bus } := by
  have hne : 0x4005040c + 0x10 * n ≠ 0x40050c14 := by omega
  refine ⟨?_, State.flag_ev _ _ (by decide) (by decide), (regsBut_put (by simp) s _).trans (regsBut_put (by simp) _ _), rfl⟩
  have hcount : satN (2 ^ 8 - 1) (s.get (F.SLK_CH_CNT.SHARE_MISS n) + 1) < 2 ^ 8 := by
    rw [satN]
    omega
  rw [State.get_ev_other hne, State.incSat, State.get_put_self (by decide) (by decide)]
  exact Nat.mod_eq_of_lt hcount

/-- Settles O31: the shares sum to the force within the limit, and each way a share comes, or does not come, to a segment. -/
theorem forceIsShared : Obligations.ForceIsShared := by
  refine ⟨fun f ov h => ⟨rawShares_sum f h, rawShares_length f ov⟩, fun m l x hm hx => ?limit,
    fun s c hservo hstage hsec hheld hown hidle hnodup _ hrun => ?split,
    fun s x c hdue huse hone => ⟨fun sh hsh t ht => ?share, fun y hsh hy t ht => ?missed⟩,
    fun s x y hservo hseg hy hmiss hcnt => ?counted⟩
  case limit =>
    obtain ⟨v, -, rfl⟩ := List.mem_map.mp hx
    exact clampI_bounds hm
  case split =>
    obtain ⟨hB, hcars, hplace⟩ := split_of_owned hservo hstage hsec hheld hown hidle hrun
    have hc8 : c < 8 := List.mem_range.mp (List.mem_filter.mp (show c ∈ heldCars s by simp [hheld])).1
    obtain ⟨hforce, hactive, hgiven, hother⟩ := ownedSplit_spec (hidle c hc8).1 hnodup
    refine ⟨_, rfl, hB, ?_, ?_, fun i x o hi hnb => ?_, fun x hx hout => ?_⟩
    · rw [State.car_of_cars_eq hcars, hforce]
    · rw [State.car_of_cars_eq hcars, hactive]
    · obtain ⟨hshare, -, hoverlap, hcar⟩ := hplace x.chan
      have hlen : i < (activeSet s c).length := (List.getElem?_eq_some_iff.mp hi).1
      have hlen' : i < (sharesOf s c).length := by rwa [sharesOf_length]
      have hmem : ((x, o), (sharesOf s c)[i]) ∈ ownShares (activeSet s c) (sharesOf s c) := by
        refine List.mem_filter.mpr ⟨List.mem_of_getElem? (i := i) ?_, by rw [hnb]; rfl⟩
        rw [List.getElem?_zip_eq_some]
        exact ⟨hi, List.getElem?_eq_getElem hlen'⟩
      obtain ⟨hcar', hoverlap', hshare'⟩ := hgiven _ hmem
      exact ⟨hcar.trans hcar', hoverlap.trans hoverlap', (List.getElem?_eq_getElem hlen').trans (congrArg some (hshare.trans hshare').symm)⟩
    · obtain ⟨hshare, hact, -, -⟩ := hplace x.chan
      have hnone : ∀ p, p ∈ ownShares (activeSet s c) (sharesOf s c) → p.1.1.chan ≠ x.chan := fun p hp hchan => by
        obtain ⟨hzip, hnb⟩ := List.mem_filter.mp hp
        have hmem : p.1 ∈ activeSet s c := (List.of_mem_zip (show (p.1, p.2) ∈ _ from hzip)).1
        have hown := mem_ownSegs_of_active hmem (Option.isNone_iff_eq_none.mp hnb)
        have hsame := List.inj_on_of_nodup_map hnodup hown hx hchan
        exact hout p.1.2 (hsame ▸ hmem)
      have hchan := chan_cleared hx hnodup
      rw [hother _ hnone, hchan] at hshare hact
      exact ⟨hshare, hact⟩
  case share =>
    rw [ht, splitDue_of_share hdue huse hone hsh, giveShare, State.chan_modChan_same, chan_withShareIn]
    refine ⟨rfl, rfl, rfl, ⟨_, rfl, rfl, rfl⟩, fun n hn => ?_, rfl⟩
    rw [State.chan_modChan_ne _ _ _ _ hn, withShareIn, State.chan_modChan_ne _ _ _ _ hn]
  case missed =>
    rw [ht, splitDue_of_miss hdue huse hone hsh hy, noShare, State.chan_modChan_same, State.chan_modChan_same, chan_withShareIn]
    refine ⟨rfl, ⟨_, rfl, rfl, rfl, rfl⟩, fun n hn => ?_, rfl⟩
    rw [State.chan_modChan_ne _ _ _ _ hn, State.chan_modChan_ne _ _ _ _ hn, withShareIn, State.chan_modChan_ne _ _ _ _ hn]
  case counted =>
    refine ⟨_, congrArg Host.Outcome.next (shareMissedOp_of_due hservo hseg hy hmiss hcnt), ?_⟩
    obtain ⟨hget, hflag, hregs, hframe⟩ := shareMiss_counted x.chan (withShareIn x.chan { y with cntAt := some s.tb.k } s)
    generalize ((withShareIn x.chan { y with cntAt := some s.tb.k } s).incSat (F.SLK_CH_CNT.SHARE_MISS x.chan)).ev F.SLK_EVENT.SHARE_MISS = t at *
    have hbus : (withShareIn x.chan { y with cntAt := some s.tb.k } s).bus = s.bus := State.modChan_bus _ _ _
    have hchan := State.chan_of_chans_eq (s := withShareIn x.chan { y with cntAt := some s.tb.k } s) (t := t) (by rw [hframe])
    refine ⟨by rw [hchan, chan_withShareIn], by rw [hget, State.get_of_bus_eq hbus], hflag, fun n hn => ?_, fun a ha => ?_, ?_⟩
    · rw [hchan, withShareIn, State.chan_modChan_ne _ _ _ _ hn]
    · rw [hregs a ha, State.reg_of_bus_eq hbus]
    · rw [hframe]
      rfl

end Sys2Proof.Machine
end

section
/-!
PROOF. Captures of link buffers and the clearing of node faults (02 R52, R54; 13 R426).
-/

namespace Sys2Proof.Machine

open Sys2Proof

/-- A guarded command keeps its value, with its guard used up: nothing else changes. -/
theorem changesOnly_keepVal_dropGuard {P : Nat → Prop} {a : Nat} (ha : P a) (b : Nat) (v : Word) (s : State) :
    ChangesOnly P s (keepVal a v (dropGuard b s)) :=
  changesOnly_setReg (s := dropGuard b s) ha _

theorem State.get_put_zero {hi lo : Nat} (hb : lo ≤ hi) (h31 : hi < 32) (s : State) (a : Nat) :
    (s.put ⟨a, ⟨hi, lo⟩⟩ 0).get ⟨a, ⟨hi, lo⟩⟩ = 0 := (State.get_put_self hb h31 s a 0).trans (Nat.zero_mod _)

/-! ### SLK_CAP -/

theorem capChannel_eq (v : Word) : getF F.SLK_CAP.CH.bits v = v.toNat % 128 := by simp [getF, bitsLen]

theorem slkCapRow_of_op {s : State} {core : Sender} {op : Nat} {v : Word} (hacc : canAccess s core = true) (hfree : Unguarded s Reg.SLK_CAP)
    (hop : getF F.SLK_CAP.OP.bits v = op) : slkCapRow core op v s = slkCapOp v s := by
  rw [slkCapRow, writeCmd_of_unguarded _ hacc hfree, if_pos hop]

theorem exec_capture {s : State} {core : Sender} {v : Word} {i : Instr} {tx : Bool} (hacc : canAccess s core = true)
    (hfree : Unguarded s Reg.SLK_CAP)
    (hi : i = .captureReceiveBuffer core v ∧ tx = false ∧ getF F.SLK_CAP.OP.bits v = 1 ∨
      i = .captureTransmitBuffer core v ∧ tx = true ∧ getF F.SLK_CAP.OP.bits v = 2) :
    exec i s = .next (captureOp (v.toNat % 128) tx s) := by
  obtain ⟨rfl, rfl, hop⟩ | ⟨rfl, rfl, hop⟩ := hi
  all_goals
    refine congrArg Host.Outcome.next ((slkCapRow_of_op hacc hfree hop).trans ?_)
    rw [slkCapOp, hop, capChannel_eq]
    rfl

theorem exec_captureRelease {s : State} {core : Sender} {v : Word} (hacc : canAccess s core = true) (hfree : Unguarded s Reg.SLK_CAP)
    (hop : getF F.SLK_CAP.OP.bits v = 3) : exec (.captureRelease core v) s = .next (captureRelease s) := by
  refine congrArg Host.Outcome.next ((slkCapRow_of_op hacc hfree hop).trans ?_)
  rw [slkCapOp, hop]
  rfl

theorem captureOp_of_ok {s : State} {n : Nat} (tx : Bool) (hroom : 0 < reserveFree s) (hnone : s.slk.cap = none) (hen : chanEn s n = true) :
    captureOp n tx s = notePool { s with slk := { s.slk with cap := some (n, tx, if tx then (s.slkCh n).tx else (s.slkCh n).rx) } } :=
  if_pos ⟨hroom, hnone, hen⟩

theorem captureOp_of_refused {s : State} {n : Nat} (tx : Bool) (h : reserveFree s = 0 ∨ s.slk.cap ≠ none ∨ chanEn s n = false) :
    captureOp n tx s = s.ev F.SLK_EVENT.CAP_REJ := by
  refine if_neg ?_
  rintro ⟨hroom, hnone, hen⟩
  obtain h | h | h := h
  · omega
  · exact h hnone
  · simp [hen] at h

/-- A frozen buffer is one the reserve has no more. -/
theorem reserveFree_capture {s : State} (hnone : s.slk.cap = none) (c : Nat × Bool × List Byte) (m : Option Nat) :
    reserveFree { s with slk := { s.slk with cap := some c, poolMin := m } } = reserveFree s - 1 := by
  rw [reserveFree, reserveFree, hnone]
  simp only [Option.isSome_some, Option.isSome_none, b2n]
  change 512 - 2 * ((List.range 128).filter (chanEn s)).length - 1 - s.slk.retry.length = _
  simp only [Bool.false_eq_true, if_false]
  omega

/-! ### SLK_NODE_CLR -/

theorem exec_slkNodeClr {s : State} {core : Sender} {v : Word} (hacc : canAccess s core = true) (harmed : Armed s Reg.SLK_NODE_CLR v) :
    exec (.slkNodeClr core (~~~ v)) s = .next (nodeClrOp v (dropGuard 5 s)) :=
  congrArg Host.Outcome.next (cplWrite_of_armed nodeClrOp hacc (by decide) harmed)

theorem nodeClr_channel (v : Word) : getF F.SLK_NODE_CLR.CH.bits v = v.toNat % 128 := by simp [getF, bitsLen]

theorem nodeClrOp_eq (v : Word) (s : State) : nodeClrOp v s =
    if chanUnderCar s (v.toNat % 128) then (keepVal Reg.SLK_NODE_CLR v s).ev F.SLK_EVENT.CAP_REJ
    else (keepVal Reg.SLK_NODE_CLR v s).put (F.SLK_CH_STAT.FAULT (v.toNat % 128)) 0 := by
  rw [nodeClrOp, nodeClr_channel]

/-- Settles O43: a capture freezes its buffer or is refused; a release gives it back; a node fault clears unless a car's array overlaps. -/
theorem capturesAndNodeFaults : Obligations.CapturesAndNodeFaults := by
  rintro s core v n hacc rfl
  refine ⟨fun hfree i tx hi => ⟨fun hroom hnone hen => ?capture, fun hbad => ?refused⟩, fun hfree hop => ?release,
    fun harmed => ⟨fun hunder => ?clear, fun hunder => ?notClear⟩⟩
  case capture =>
    refine ⟨_, exec_capture hacc hfree hi, ?_⟩
    rw [captureOp_of_ok tx hroom hnone hen]
    exact ⟨rfl, reserveFree_capture hnone _ _, rfl⟩
  case refused =>
    refine ⟨_, exec_capture hacc hfree hi, ?_⟩
    rw [captureOp_of_refused tx hbad]
    exact ⟨State.flag_ev _ _ (by decide) (by decide), onlyRegs_of_changesOnly (changesOnly_ev (by simp) s)⟩
  case release => exact ⟨_, exec_captureRelease hacc hfree hop, rfl, rfl⟩
  all_goals
    refine ⟨_, exec_slkNodeClr hacc harmed, ?_⟩
    rw [nodeClrOp_eq, show chanUnderCar (dropGuard 5 s) = chanUnderCar s from rfl, hunder]
  case clear =>
    refine ⟨State.get_put_zero (by decide) (by decide) _ _, onlyRegs_of_changesOnly ?_⟩
    exact (changesOnly_keepVal_dropGuard (by simp) 5 v s).trans (changesOnly_put (by simp) _ 0)
  case notClear =>
    refine ⟨State.flag_ev _ _ (by decide) (by decide), onlyRegs_of_changesOnly ?_⟩
    exact (changesOnly_keepVal_dropGuard (by simp) 5 v s).trans (changesOnly_ev (by simp) _)

end Sys2Proof.Machine
end

section
/-!
PROOF. Trajectory commands, the span check and the Trajectory Segment Table (08 R242, R252 to R262, R271).
-/

namespace Sys2Proof.Machine

open Sys2Proof

theorem State.nowNs_of_tb_eq {s t : State} (h : t.tb = s.tb) : t.nowNs = s.nowNs := by
  rw [State.nowNs, State.now, h, State.nowNs, State.now]

/-! ### The outcome of a command (R257) -/

theorem cmdOutcome_of_zero (n : Nat) (s : State) :
    cmdOutcome n 0 s = ((s.put F.TRJ_CMD_STAT.CODE 0).put F.TRJ_CMD_STAT.AXIS n).ev F.TRJ_EVENT.CMD_DONE := by
  rw [cmdOutcome, if_pos rfl]

theorem cmdOutcome_of_code {code : Nat} (hcode : code ≠ 0) (n : Nat) (s : State) :
    cmdOutcome n code s = ((s.put F.TRJ_CMD_STAT.CODE code).put F.TRJ_CMD_STAT.AXIS n).ev F.TRJ_EVENT.CMD_REJ := by
  rw [cmdOutcome, if_neg hcode]

theorem changesOnly_cmdOutcome (n code : Nat) (s : State) :
    ChangesOnly (· ∈ [Reg.TRJ_CMD_STAT, Reg.TRJ_EVENT]) s (cmdOutcome n code s) := by
  have hstat := (changesOnly_put (P := (· ∈ [Reg.TRJ_CMD_STAT, Reg.TRJ_EVENT])) (f := F.TRJ_CMD_STAT.CODE) (by simp) s code).trans
    (changesOnly_put (f := F.TRJ_CMD_STAT.AXIS) (by simp) _ n)
  rw [cmdOutcome]
  split
  · exact hstat.trans (changesOnly_ev (by simp) _)
  · exact hstat.trans (changesOnly_ev (by simp) _)

theorem cmdOutcome_trj (n code : Nat) (s : State) : (cmdOutcome n code s).trj = s.trj := by
  obtain ⟨-, -, hframe⟩ := changesOnly_cmdOutcome n code s
  rw [hframe]

/-- What the event leaves of a field of the status register. -/
theorem cmdOutcome_get (n code : Nat) (s : State) (b : Bits) : (cmdOutcome n code s).get ⟨Reg.TRJ_CMD_STAT, b⟩ =
    ((s.put F.TRJ_CMD_STAT.CODE code).put F.TRJ_CMD_STAT.AXIS n).get ⟨Reg.TRJ_CMD_STAT, b⟩ := by
  rw [cmdOutcome]
  split
  · exact State.get_ev_other (by decide) _ _ _
  · exact State.get_ev_other (by decide) _ _ _

theorem cmdOutcome_code (n code : Nat) (s : State) : (cmdOutcome n code s).get F.TRJ_CMD_STAT.CODE = code % 16 := by
  rw [cmdOutcome_get, State.get_put_disjoint (by decide) (by decide) (by decide), State.get_put_self (by decide) (by decide)]
  rfl

theorem cmdOutcome_axis (n code : Nat) (s : State) : (cmdOutcome n code s).get F.TRJ_CMD_STAT.AXIS = n % 8 := by
  rw [cmdOutcome_get, State.get_put_self (by decide) (by decide)]
  rfl

theorem cmdOutcome_busy (n code : Nat) (s : State) :
    (cmdOutcome n code s).flag F.TRJ_CMD_STAT.BUSY = s.flag F.TRJ_CMD_STAT.BUSY := by
  rw [State.flag, cmdOutcome_get, State.get_put_disjoint (by decide) (by decide) (by decide),
    State.get_put_disjoint (by decide) (by decide) (by decide), State.flag]

theorem cmdOutcome_done (n : Nat) (s : State) : (cmdOutcome n 0 s).flag F.TRJ_EVENT.CMD_DONE = true := by
  rw [cmdOutcome_of_zero, State.flag_ev_self (by decide) (by decide)]

theorem cmdOutcome_rejected {code : Nat} (hcode : code ≠ 0) (n : Nat) (s : State) :
    (cmdOutcome n code s).flag F.TRJ_EVENT.CMD_REJ = true := by
  rw [cmdOutcome_of_code hcode, State.flag_ev_self (by decide) (by decide)]

/-! ### The command register (R256) -/

theorem trjOp_eq (v : Word) : getF F.TRJ_CMD.OP.bits v = v.toNat / 16 % 16 := by simp [getF, bitsLen]

theorem trjAxis_eq (v : Word) : getF F.TRJ_CMD.AXIS.bits v = v.toNat % 8 := by simp [getF, bitsLen]

theorem exec_trjCommand {s : State} {core : Sender} {v : Word} {i : Instr} {op : Nat} (hacc : canAccess s core = true)
    (hfree : Unguarded s Reg.TRJ_CMD) (hop : v.toNat / 16 % 16 = op)
    (hi : op = 1 ∧ i = .trjQueue core v ∨ op = 2 ∧ i = .trjStop core v ∨ op = 3 ∧ i = .trjResume core v ∨ op = 4 ∧ i = .trjAbort core v ∨
      op = 5 ∧ i = .trjHome core v ∨ op = 6 ∧ i = .trjFlush core v) : exec i s = .next (trjCmdOp v s) := by
  have hrow : trjRow core op v s = trjCmdOp v s := by
    rw [trjRow, writeCmd_of_unguarded _ hacc hfree, if_pos ((trjOp_eq v).trans hop)]
  rw [← hrow]
  obtain ⟨rfl, rfl⟩ | ⟨rfl, rfl⟩ | ⟨rfl, rfl⟩ | ⟨rfl, rfl⟩ | ⟨rfl, rfl⟩ | ⟨rfl, rfl⟩ := hi <;> rfl

/-- A move argument as a command takes it: that of a HOME is of kind HOMING. -/
def argOf (s : State) (op : Nat) : MoveArg := { argNow s with kind := if op = 5 then 1 else (argNow s).kind }

theorem trjCmdOp_of_busy {s : State} {v : Word} {op n : Nat} (hop : v.toNat / 16 % 16 = op) (hn : v.toNat % 8 = n) (hlo : op ≠ 0) (hhi : op ≤ 6)
    (hbusy : s.trj.chk ≠ none) : trjCmdOp v s = cmdOutcome n 10 s := by
  rw [trjCmdOp, trjOp_eq v, trjAxis_eq v, hop, hn]
  dsimp only
  rw [if_neg (by omega), if_pos (Option.isSome_iff_ne_none.mpr hbusy)]

theorem trjCmdOp_of_span {s : State} {v : Word} {op n : Nat} (hop : v.toNat / 16 % 16 = op) (hn : v.toNat % 8 = n)
    (hspan : op = 1 ∨ op = 3 ∨ op = 5) (hidle : s.trj.chk = none) :
    trjCmdOp v s = { s with trj := { s.trj with chk := some ⟨n, op, argOf s op⟩ } }.put F.TRJ_CMD_STAT.BUSY 1 := by
  have harg : (if op = 5 then { argNow s with kind := 1 } else argNow s) = argOf s op := by
    rw [argOf]
    split <;> rfl
  rw [trjCmdOp, trjOp_eq v, trjAxis_eq v, hop, hn]
  dsimp only
  rw [if_neg (by omega), if_neg (by simp [hidle]), if_pos hspan, harg]

/-- What STOP, ABORT or FLUSH puts to the axis for its next stage 4. -/
def orderOf (op : Nat) : AxisEv := if op = 2 then .stop 1 else if op = 4 then .stop 2 else .flush

theorem trjCmdOp_of_order {s : State} {v : Word} {op n : Nat} (hop : v.toNat / 16 % 16 = op) (hn : v.toNat % 8 = n)
    (horder : op = 2 ∨ op = 4 ∨ op = 6) (hidle : s.trj.chk = none) (hok : cmdCode s n op (argNow s) = 0) :
    trjCmdOp v s = cmdOutcome n 0 (s.modAxis n (fun a => { a with evs := a.evs ++ [orderOf op] })) := by
  rw [trjCmdOp, trjOp_eq v, trjAxis_eq v, hop, hn]
  dsimp only
  rw [hok]
  rw [if_neg (by omega), if_neg (by simp [hidle]), if_neg (by omega), if_pos rfl]
  obtain rfl | rfl | rfl := horder <;> rfl

theorem trjCmdOp_of_failed {s : State} {v : Word} {op n : Nat} (hop : v.toNat / 16 % 16 = op) (hn : v.toNat % 8 = n)
    (horder : op = 2 ∨ op = 4 ∨ op = 6) (hidle : s.trj.chk = none) (hbad : cmdCode s n op (argNow s) ≠ 0) :
    trjCmdOp v s = cmdOutcome n (cmdCode s n op (argNow s)) s := by
  rw [trjCmdOp, trjOp_eq v, trjAxis_eq v, hop, hn]
  dsimp only
  rw [if_neg (by omega), if_neg (by simp [hidle]), if_neg (by omega), if_neg hbad]

/-! ### The span check (R256) -/

/-- The check ends: nothing is busy. -/
def checkEnded (s : State) : State := { s with trj := { s.trj with chk := none } }.put F.TRJ_CMD_STAT.BUSY 0

theorem checkEnded_trj (s : State) : (checkEnded s).trj = { s.trj with chk := none } := State.put_trj _ _ _

theorem checkEnded_axis (s : State) (n : Nat) : (checkEnded s).axis n = s.axis n := by
  rw [State.axis, checkEnded_trj, State.axis]

theorem checkEnded_nowNs (s : State) : (checkEnded s).nowNs = s.nowNs := State.nowNs_of_tb_eq (State.put_tb _ _ _)

theorem checkEnded_busy (s : State) : (checkEnded s).flag F.TRJ_CMD_STAT.BUSY = false := State.flag_put_zero _ _ (by decide) (by decide)

theorem regsBut_checkEnded (s : State) : RegsBut [Reg.TRJ_CMD_STAT] s (checkEnded s) :=
  regsBut_put (f := F.TRJ_CMD_STAT.BUSY) (by simp) { s with trj := { s.trj with chk := none } } 0

theorem spanCheckDone_of_refused {s : State} {c : SpanCheck} (hchk : s.trj.chk = some c) (hbad : cmdCode s c.axis c.op c.arg ≠ 0) :
    spanCheckDone s = cmdOutcome c.axis (cmdCode s c.axis c.op c.arg) (checkEnded s) := by
  rw [spanCheckDone, hchk]
  dsimp only
  rw [if_neg hbad]
  rfl

theorem spanCheckDone_of_accepted {s : State} {c : SpanCheck} (hchk : s.trj.chk = some c) (hok : cmdCode s c.axis c.op c.arg = 0) :
    spanCheckDone s = cmdOutcome c.axis 0 (acceptCmd c.axis c.op c.arg (checkEnded s)) := by
  rw [spanCheckDone, hchk]
  dsimp only
  rw [hok]
  rfl

/-! ### An accepted command -/

theorem acceptCmd_bus (n op : Nat) (arg : MoveArg) (s : State) : (acceptCmd n op arg s).bus = s.bus := by
  unfold acceptCmd
  split
  · rfl
  · split <;> rfl
  · rfl
  · rfl

theorem acceptCmd_chk (n op : Nat) (arg : MoveArg) (s : State) : (acceptCmd n op arg s).trj.chk = s.trj.chk := by
  unfold acceptCmd
  split
  · rfl
  · split <;> rfl
  · rfl
  · rfl

theorem axis_acceptCmd_ne (n op : Nat) (arg : MoveArg) (s : State) {m : Nat} (h : m ≠ n) : (acceptCmd n op arg s).axis m = s.axis m := by
  unfold acceptCmd
  split
  · exact State.axis_modAxis_ne _ _ _ _ h
  · split
    · rfl
    · exact State.axis_modAxis_ne _ _ _ _ h
  · exact State.axis_modAxis_ne _ _ _ _ h
  · rfl

theorem axis_acceptCmd_queue (n : Nat) (arg : MoveArg) (s : State) :
    (acceptCmd n 1 arg s).axis n = { s.axis n with queue := (s.axis n).queue ++ [checkedArg s n arg] } :=
  State.axis_modAxis_same _ _ _

/-- The argument a resumed move goes on with. -/
def resumedArg (s : State) (n : Nat) (arg : MoveArg) (m : Move) : MoveArg :=
  { checkedArg s n arg with id := m.arg.id, kind := if m.arg.kind = 2 then 2 else 0 }

theorem axis_acceptCmd_resume {s : State} {n : Nat} {m : Move} (arg : MoveArg) (hmv : (s.axis n).mv = some m) :
    (acceptCmd n 3 arg s).axis n =
      { s.axis n with st := .running, mv := some { newMove s n (resumedArg s n arg m) with target := m.target } } := by
  have haccept : acceptCmd n 3 arg s =
      s.modAxis n (fun a => { a with st := .running, mv := some { newMove s n (resumedArg s n arg m) with target := m.target } }) := by
    rw [acceptCmd]
    simp only [hmv]
    rfl
  rw [haccept, State.axis_modAxis_same]

theorem State.modAxis_lat (s : State) (n : Nat) (f : Axis → Axis) : (s.modAxis n f).trj.lat = s.trj.lat := rfl

theorem axis_acceptCmd_home (n : Nat) (arg : MoveArg) (s : State) :
    ((acceptCmd n 5 arg s).axis n).st = AxisSt.running ∧ ((acceptCmd n 5 arg s).axis n).homing = 1 ∧
      (latch (acceptCmd n 5 arg s) (s.get (F.TRJ_AXIS_HOME.LATCH n))).armedAt = some s.nowNs := by
  refine ⟨congrArg Axis.st (State.axis_modAxis_same _ _ _), congrArg Axis.homing (State.axis_modAxis_same _ _ _), ?_⟩
  rw [latch, acceptCmd, State.modAxis_lat, modLatch, smGet_smMod_same]

/-! ### The Trajectory Segment Table (R242) -/

theorem exec_tstWrite {s : State} {core : Sender} {r w : Nat} (v : Word) (hacc : canAccess s core = true) (hr : r < 8192) (hw : w < 4) :
    exec (.tstWrite core (0x31000000 + 16 * r + 4 * w) v) s =
      .next (if rowLocked s r then s.ev F.TRJ_EVENT.TST_WR_REJ else setTst (4 * r + w) v s) := by
  refine congrArg Host.Outcome.next ((if_pos hacc).trans ?_)
  have hindex : (0x31000000 + 16 * r + 4 * w - 0x31000000) / 4 = 4 * r + w := by omega
  have hrow : (4 * r + w) / 4 = r := by omega
  rw [tstWrite, tstBase, if_pos (by omega)]
  dsimp only
  rw [hindex, hrow]

theorem tstWord_setTst_ne (s : State) (v : Word) {i j : Nat} (h : j ≠ i) : tstWord (setTst i v s) j = tstWord s j :=
  smGet_smSet_ne _ _ _ _ _ _ h

/-- Settles O33: busy, started, ordered and refused commands; the end of a span check; writes of the table. -/
theorem trajectoryCommands : Obligations.TrajectoryCommands := by
  refine ⟨?commands, ?checks, ?table⟩
  case commands =>
    intro s core v i op n hacc hfree hop hn hi
    have hexec := exec_trjCommand hacc hfree hop hi
    have hn8 : n % 8 = n := by omega
    refine ⟨fun hbusy => ⟨_, hexec, ?_⟩, fun hidle hspan => ⟨_, hexec, ?_⟩, fun hidle horder => ⟨fun hok => ⟨_, hexec, ?_⟩, fun hbad => ⟨_, hexec, ?_⟩⟩⟩
    · rw [trjCmdOp_of_busy hop hn (by omega) (by omega) hbusy]
      exact ⟨cmdOutcome_code n 10 s, (cmdOutcome_axis n 10 s).trans hn8, cmdOutcome_rejected (by decide) n s,
        onlyRegs_of_changesOnly (changesOnly_cmdOutcome n 10 s)⟩
    · rw [trjCmdOp_of_span hop hn hspan hidle]
      exact ⟨State.flag_putB _ _ true (by decide) (by decide), ⟨_, rfl, rfl, rfl, rfl⟩,
        regsBut_put (f := F.TRJ_CMD_STAT.BUSY) (by simp) { s with trj := { s.trj with chk := some ⟨n, op, argOf s op⟩ } } 1, rfl⟩
    · rw [trjCmdOp_of_order hop hn horder hidle hok]
      have htrj := cmdOutcome_trj n 0 (s.modAxis n (fun a => { a with evs := a.evs ++ [orderOf op] }))
      obtain ⟨hregs, -, hframe⟩ := changesOnly_cmdOutcome n 0 (s.modAxis n (fun a => { a with evs := a.evs ++ [orderOf op] }))
      refine ⟨cmdOutcome_code n 0 _, (cmdOutcome_axis n 0 _).trans hn8, cmdOutcome_done n _, (State.axis_of_trj_eq htrj n).trans ?_,
        fun m hm => (State.axis_of_trj_eq htrj m).trans (State.axis_modAxis_ne _ _ _ _ hm), hregs, ?_⟩
      · exact State.axis_modAxis_same _ _ _
      · rw [hframe]
        rfl
    · rw [trjCmdOp_of_failed hop hn horder hidle hbad]
      exact ⟨cmdOutcome_code n _ s, cmdOutcome_rejected hbad n s, onlyRegs_of_changesOnly (changesOnly_cmdOutcome n _ s)⟩
  case checks =>
    intro s c hchk hlt
    refine ⟨fun hbad => ⟨_, congrArg Host.Outcome.next (spanCheckDone_of_refused hchk hbad), ?_⟩,
      fun hok => ⟨_, congrArg Host.Outcome.next (spanCheckDone_of_accepted hchk hok), ?_⟩⟩
    · refine ⟨(cmdOutcome_trj _ _ _).trans (checkEnded_trj s), cmdOutcome_code _ _ _, (cmdOutcome_busy _ _ _).trans (checkEnded_busy s), cmdOutcome_rejected hbad _ _, ?_⟩
      exact ((regsBut_checkEnded s).mono (by simp)).trans (changesOnly_cmdOutcome _ _ _).1
    · have htrj := cmdOutcome_trj c.axis 0 (acceptCmd c.axis c.op c.arg (checkEnded s))
      have haxis := State.axis_of_trj_eq htrj
      have hbus := acceptCmd_bus c.axis c.op c.arg (checkEnded s)
      refine ⟨(congrArg Trj.chk htrj).trans ((acceptCmd_chk _ _ _ _).trans (congrArg Trj.chk (checkEnded_trj s))), cmdOutcome_code _ 0 _,
        (cmdOutcome_busy _ _ _).trans ((State.flag_of_bus_eq hbus _).trans (checkEnded_busy s)), cmdOutcome_done _ _,
        fun m hm => (haxis m).trans ((axis_acceptCmd_ne _ _ _ _ hm).trans (checkEnded_axis s m)), fun hop => ?_, fun hop m hmv => ?_, fun hop => ?_⟩
      · rw [haxis, hop, axis_acceptCmd_queue, checkEnded_axis]
        exact ⟨_, rfl, rfl, rfl, rfl, rfl, rfl, rfl⟩
      · rw [haxis, hop, axis_acceptCmd_resume (s := checkEnded s) c.arg ((congrArg Axis.mv (checkEnded_axis s _)).trans hmv)]
        exact ⟨rfl, _, rfl, rfl, rfl, rfl, rfl, rfl⟩
      · obtain ⟨hst, hhoming, harmed⟩ := axis_acceptCmd_home c.axis c.arg (checkEnded s)
        have hunit : (checkEnded s).get (F.TRJ_AXIS_HOME.LATCH c.axis) = s.get (F.TRJ_AXIS_HOME.LATCH c.axis) := by
          refine State.get_of_reg_eq (regsBut_checkEnded s _ ?_)
          have haddr : 0x40030010 + 0x40 * c.axis ≠ 0x4003020c := by omega
          simpa using haddr
        rw [haxis, latch, htrj, hop]
        rw [hunit, checkEnded_nowNs] at harmed
        exact ⟨hst, hhoming, harmed⟩
  case table =>
    intro s core r w v hacc hr hw
    refine ⟨fun hfree => ⟨_, exec_tstWrite v hacc hr hw, ?_⟩, fun hlocked => ⟨_, exec_tstWrite v hacc hr hw, ?_⟩⟩
    · rw [if_neg (by simp [hfree])]
      exact ⟨smGet_smSet_same _ _ _ _, fun j hj => tstWord_setTst_ne s v hj, rfl⟩
    · rw [if_pos hlocked]
      exact ⟨State.flag_ev_self (by decide) (by decide) s, onlyRegs_of_changesOnly (changesOnly_ev (by simp) s)⟩

end Sys2Proof.Machine
end

section
/-!
PROOF. Position latches, the homing decision and position compares (08 R268 to R273).
-/

namespace Sys2Proof.Machine

open Sys2Proof

/-- One turn of a fold: what it reads is what the start had, where no other turn writes it. -/
theorem State.forN_turn_rel {R : State → State → Prop} (hrefl : ∀ s, R s s) (htrans : ∀ s t u, R s t → R t u → R s u) {β : Type}
    {read : State → β} {n i : Nat} {f : Nat → State → State} (hi : i < n) (hf : ∀ j, j < n → ∀ t, R t (f j t))
    (hkeep : ∀ j, j < n → j ≠ i → ∀ t, read (f j t) = read t) (s : State) :
    ∃ t, R s t ∧ read t = read s ∧ read (s.forN n f) = read (f i t) ∧ R (f i t) (s.forN n f) := by
  induction n with
  | zero => omega
  | succ n ih =>
    rw [State.forN_succ]
    obtain rfl | hlt := Nat.eq_or_lt_of_le (Nat.le_of_lt_succ hi)
    · exact ⟨s.forN i f, State.forN_rel hrefl htrans (fun j hj => hf j (by omega)) s,
        State.read_forN (fun j hj => hkeep j (by omega) (by omega)) s, rfl, hrefl _⟩
    · obtain ⟨t, hst, hread, hturn, hend⟩ := ih hlt (fun j hj => hf j (by omega)) (fun j hj => hkeep j (by omega))
      exact ⟨t, hst, hread, (hkeep n (by omega) (by omega) _).trans hturn, htrans _ _ _ hend (hf n (by omega) _)⟩

theorem State.bit_of_bus_eq {s t : State} (h : t.bus = s.bus) (f : FRef) (n : Nat) : t.bit f n = s.bit f n := by
  rw [State.bit, State.get_of_bus_eq h, State.bit]

theorem RegsBut.of_bus_eq {l : List Nat} {s t u : State} (h : RegsBut l s t) (hbus : u.bus = t.bus) : RegsBut l s u := fun a ha =>
  (State.reg_of_bus_eq hbus a).trans (h a ha)

/-! ### A latch unit -/

theorem latch_modLatch_same (s : State) (m : Nat) (f : LatchU → LatchU) : latch (modLatch m f s) m = f (latch s m) :=
  smGet_smMod_same _ _ _ _

theorem latch_modLatch_ne (s : State) {m k : Nat} (f : LatchU → LatchU) (h : k ≠ m) : latch (modLatch m f s) k = latch s k :=
  smGet_smMod_ne _ _ _ _ _ h

theorem latch_of_trj_eq {s t : State} (h : t.trj = s.trj) (m : Nat) : latch t m = latch s m := by rw [latch, h, latch]

/-- What commands to the latch units change: the units, and the trajectory events. -/
def LatchTurn (s t : State) : Prop :=
  (∀ a, a ≠ 0x40030210 → smFind t.bus.regs a = smFind s.bus.regs a) ∧ t = { s with bus := t.bus, trj := { s.trj with lat := t.trj.lat } } ∧
    (s.flag F.TRJ_EVENT.CMD_REJ = true → t.flag F.TRJ_EVENT.CMD_REJ = true)

namespace LatchTurn

theorem refl (s : State) : LatchTurn s s := ⟨fun _ _ => rfl, rfl, id⟩

theorem trans (s t u : State) (hst : LatchTurn s t) (htu : LatchTurn t u) : LatchTurn s u := by
  obtain ⟨hregs, hframe, hflag⟩ := hst
  obtain ⟨hregs', hframe', hflag'⟩ := htu
  exact ⟨fun a ha => (hregs' a ha).trans (hregs a ha), by rw [hframe', hframe], hflag' ∘ hflag⟩

theorem reg {s t : State} (h : LatchTurn s t) {a : Nat} (ha : a ≠ 0x40030210) : t.reg a = s.reg a := by
  rw [State.reg, smGet, h.1 a ha, State.reg, smGet]

theorem tb {s t : State} (h : LatchTurn s t) : t.tb = s.tb := by
  obtain ⟨-, hframe, -⟩ := h
  rw [hframe]

theorem fbEn {s t : State} (h : LatchTurn s t) (c : Nat) : Machine.fbEn t c = Machine.fbEn s c := by
  have hslk : 0x40050400 + 0x10 * c ≠ 0x40030210 := by omega
  have hfbk : 0x40060000 + 0x40 * c ≠ 0x40030210 := by omega
  have hen : chanEn t c = chanEn s c := by rw [chanEn, h.1 _ hslk, chanEn]
  have htype : chanType t c = chanType s c := State.get_of_reg_eq (h.reg hslk)
  have hflag : t.flag (F.FBK_CH_CFG.EN c) = s.flag (F.FBK_CH_CFG.EN c) := flag_of_reg_eq (h.reg hfbk)
  rw [Machine.fbEn, hen, htype, hflag, Machine.fbEn]

theorem get {s t : State} (h : LatchTurn s t) (m : Nat) (b : Bits) :
    t.get ⟨Reg.TRJ_LAT_CFG m, b⟩ = s.get ⟨Reg.TRJ_LAT_CFG m, b⟩ := by
  have haddr : 0x40030400 + 0x20 * m ≠ 0x40030210 := by omega
  exact State.get_of_reg_eq (h.reg haddr)

end LatchTurn

theorem latchTurn_modLatch (m : Nat) (f : LatchU → LatchU) (s : State) : LatchTurn s (modLatch m f s) := ⟨fun _ _ => rfl, rfl, id⟩

theorem latchTurn_reject (s : State) : LatchTurn s (s.ev F.TRJ_EVENT.CMD_REJ) :=
  ⟨fun _ ha => smFind_smSet_ne _ _ _ ha, rfl, fun _ => State.flag_ev_self (by decide) (by decide) s⟩

/-! ### Arming and disarming (R270) -/

/-- Unit m armed now. -/
def armNow (m : Nat) (s : State) : State := modLatch m (fun x => { x with armedAt := some s.nowNs, upTo := none, waitUntil := none }) s

/-- Unit m waits until f. -/
def armWaits (m f : Nat) (s : State) : State := modLatch m (fun x => { x with armedAt := none, upTo := none, waitUntil := some f }) s

/-- The time from which unit m may be armed: its hold-off after the last capture is over. -/
def holdoffOver (s : State) (m : Nat) : Nat :=
  match (latch s m).lastCap with
  | none => 0
  | some t => t + s.get (F.TRJ_LAT_CFG.HOLDOFF m) * 1000000

theorem armLatch_eq (m : Nat) (s : State) : armLatch m s =
    if s.get (F.TRJ_LAT_CFG.EDGE m) = 0 ∨ fbEn s (s.get (F.TRJ_LAT_CFG.SOURCE m)) = false then s.ev F.TRJ_EVENT.CMD_REJ
    else if holdoffOver s m ≤ s.nowNs then armNow m s else armWaits m (holdoffOver s m) s := rfl

theorem armLatch_of_refused {s : State} {m : Nat}
    (h : s.get (F.TRJ_LAT_CFG.EDGE m) = 0 ∨ fbEn s (s.get (F.TRJ_LAT_CFG.SOURCE m)) = false) : armLatch m s = s.ev F.TRJ_EVENT.CMD_REJ :=
  if_pos h

theorem armLatch_of_source {s : State} {m : Nat} (hedge : s.get (F.TRJ_LAT_CFG.EDGE m) ≠ 0)
    (hsrc : fbEn s (s.get (F.TRJ_LAT_CFG.SOURCE m)) = true) :
    armLatch m s = if holdoffOver s m ≤ s.nowNs then armNow m s else armWaits m (holdoffOver s m) s := by
  rw [armLatch_eq, if_neg (by simp [hedge, hsrc])]

theorem latchTurn_armLatch (m : Nat) (s : State) : LatchTurn s (armLatch m s) := by
  rw [armLatch_eq]
  split
  · exact latchTurn_reject s
  · split
    · exact latchTurn_modLatch _ _ s
    · exact latchTurn_modLatch _ _ s

theorem latch_armLatch_ne (s : State) {m k : Nat} (h : k ≠ m) : latch (armLatch m s) k = latch s k := by
  rw [armLatch_eq]
  split
  · exact latch_of_trj_eq (State.ev_trj _ _) k
  · split
    · exact latch_modLatch_ne _ _ h
    · exact latch_modLatch_ne _ _ h

/-- What a command does with unit m. -/
def latTurn (v : Word) (m : Nat) (t : State) : State :=
  if v.getLsbD (16 + m) then disarmLatch m t else if v.getLsbD m then armLatch m t else t

theorem latCmdOp_eq (v : Word) (s : State) : latCmdOp v s = s.forN 16 (latTurn v) := rfl

theorem latchTurn_latTurn (v : Word) (m : Nat) (t : State) : LatchTurn t (latTurn v m t) := by
  rw [latTurn]
  split
  · exact latchTurn_modLatch _ _ t
  · split
    · exact latchTurn_armLatch m t
    · exact .refl t

theorem latch_latTurn_ne (v : Word) (t : State) {m k : Nat} (h : k ≠ m) : latch (latTurn v m t) k = latch t k := by
  rw [latTurn]
  split
  · exact latch_modLatch_ne _ _ h
  · split
    · exact latch_armLatch_ne t h
    · rfl

/-- The turn of unit m finds its unit, its configuration, the sources and the time as they were. -/
theorem latCmdOp_turn (v : Word) (s : State) {m : Nat} (hm : m < 16) :
    ∃ t, LatchTurn s t ∧ latch t m = latch s m ∧ latch (latCmdOp v s) m = latch (latTurn v m t) m ∧ LatchTurn (latTurn v m t) (latCmdOp v s) :=
  State.forN_turn_rel (read := fun u => latch u m) LatchTurn.refl LatchTurn.trans hm (fun j _ t => latchTurn_latTurn v j t)
    (fun _ _ hj t => latch_latTurn_ne v t (Ne.symm hj)) s

theorem latchTurn_latCmdOp (v : Word) (s : State) : LatchTurn s (latCmdOp v s) :=
  State.forN_rel LatchTurn.refl LatchTurn.trans (fun j _ t => latchTurn_latTurn v j t) s

theorem exec_latchCommand {s : State} {core : Sender} {v : Word} {i : Instr} (hacc : canAccess s core = true)
    (hfree : Unguarded s Reg.TRJ_LAT_CMD)
    (hi : i = .latchArm core v ∧ v.toNat % 65536 ≠ 0 ∨ i = .latchDisarm core v ∧ v.toNat / 65536 ≠ 0) :
    exec i s = .next (latCmdOp v s) := by
  obtain ⟨rfl, hbits⟩ | ⟨rfl, hbits⟩ := hi
  · have harm : getF F.TRJ_LAT_CMD.ARM.bits v = v.toNat % 65536 := by simp [getF, bitsLen]
    refine congrArg Host.Outcome.next ((writeCmd_of_unguarded _ hacc hfree).trans (if_neg ?_))
    rw [harm]
    exact hbits
  · have hdisarm : getF F.TRJ_LAT_CMD.DISARM.bits v = v.toNat / 65536 := by
      have hlt := v.isLt
      simp only [getF, bitsLen]
      omega
    refine congrArg Host.Outcome.next ((writeCmd_of_unguarded _ hacc hfree).trans (if_neg ?_))
    rw [hdisarm]
    exact hbits

theorem latCmdOp_disarms {v : Word} {m : Nat} (hm : m < 16) (hbit : v.getLsbD (16 + m) = true) (s : State) :
    (latch (latCmdOp v s) m).armedAt = none ∧ (latch (latCmdOp v s) m).waitUntil = none := by
  obtain ⟨t, -, -, hturn, -⟩ := latCmdOp_turn v s hm
  rw [hturn, latTurn, if_pos hbit, disarmLatch, latch_modLatch_same]
  exact ⟨rfl, rfl⟩

theorem latCmdOp_keeps {v : Word} {m : Nat} (hm : m < 16) (hdis : v.getLsbD (16 + m) = false) (harm : v.getLsbD m = false) (s : State) :
    latch (latCmdOp v s) m = latch s m := by
  obtain ⟨t, -, hlatch, hturn, -⟩ := latCmdOp_turn v s hm
  rw [hturn, latTurn, if_neg (by simp [hdis]), if_neg (by simp [harm]), hlatch]

theorem latCmdOp_refuses {s : State} {v : Word} {m : Nat} (hm : m < 16) (hdis : v.getLsbD (16 + m) = false) (harm : v.getLsbD m = true)
    (hbad : s.get (F.TRJ_LAT_CFG.EDGE m) = 0 ∨ fbEn s (s.get (F.TRJ_LAT_CFG.SOURCE m)) = false) :
    (latCmdOp v s).flag F.TRJ_EVENT.CMD_REJ = true ∧ latch (latCmdOp v s) m = latch s m := by
  obtain ⟨t, hst, hlatch, hturn, hend⟩ := latCmdOp_turn v s hm
  have hrefused : latTurn v m t = t.ev F.TRJ_EVENT.CMD_REJ := by
    rw [latTurn, if_neg (by simp [hdis]), if_pos harm]
    exact armLatch_of_refused (by rw [hst.get, hst.get, hst.fbEn]; exact hbad)
  rw [hrefused] at hturn hend
  exact ⟨hend.2.2 (State.flag_ev_self (by decide) (by decide) t), hturn.trans ((latch_of_trj_eq (State.ev_trj _ _) m).trans hlatch)⟩

theorem latCmdOp_arms {s : State} {v : Word} {m : Nat} (hm : m < 16) (hdis : v.getLsbD (16 + m) = false) (harm : v.getLsbD m = true)
    (hedge : s.get (F.TRJ_LAT_CFG.EDGE m) ≠ 0) (hsrc : fbEn s (s.get (F.TRJ_LAT_CFG.SOURCE m)) = true) :
    ((latch s m).lastCap = none → (latch (latCmdOp v s) m).armedAt = some s.nowNs) ∧
      ∀ c f, (latch s m).lastCap = some c → f = c + s.get (F.TRJ_LAT_CFG.HOLDOFF m) * 1000000 →
        (f ≤ s.nowNs → (latch (latCmdOp v s) m).armedAt = some s.nowNs) ∧
        (s.nowNs < f → (latch (latCmdOp v s) m).armedAt = none ∧ (latch (latCmdOp v s) m).waitUntil = some f) := by
  obtain ⟨t, hst, hlatch, hturn, -⟩ := latCmdOp_turn v s hm
  have hedge' : t.get (F.TRJ_LAT_CFG.EDGE m) ≠ 0 := by rw [hst.get]; exact hedge
  have hsrc' : fbEn t (t.get (F.TRJ_LAT_CFG.SOURCE m)) = true := by rw [hst.get, hst.fbEn]; exact hsrc
  have hnow := State.nowNs_of_tb_eq hst.tb
  have harmed : (latch (armNow m t) m).armedAt = some s.nowNs := by rw [armNow, latch_modLatch_same, hnow]
  rw [hturn, latTurn, if_neg (by simp [hdis]), if_pos harm]
  rw [armLatch_of_source hedge' hsrc', hnow]
  refine ⟨fun hcap => ?_, fun c f hcap hf => ?_⟩
  · have hover : holdoffOver t m = 0 := by rw [holdoffOver, hlatch, hcap]
    rw [hover, if_pos (Nat.zero_le _), harmed]
  · have hover : holdoffOver t m = f := by rw [holdoffOver, hlatch, hcap, hst.get, hf]
    rw [hover]
    refine ⟨fun hdue => by rw [if_pos hdue, harmed], fun hwait => ?_⟩
    rw [if_neg (by omega), armWaits, latch_modLatch_same]
    exact ⟨rfl, rfl⟩

theorem holdoffEnd_of_due {s : State} {m f : Nat} (hwait : (latch s m).waitUntil = some f) (hdue : f ≤ s.nowNs) :
    holdoffEnd m s = modLatch m (fun x => { x with armedAt := some f, upTo := none, waitUntil := none }) s := by
  rw [holdoffEnd, hwait]
  exact if_pos hdue

/-! ### The homing decision (R271) -/

theorem homeDecide_of_limit {s : State} {n tl : Nat} (hlimit : (s.axis n).homeLimit = some tl) (hhoming : (s.axis n).homing = 1)
    (hdue : tl + 300000 ≤ s.nowNs) (hfirst : limitFirst (s.axis n) tl = true) (hcaps : ∀ c, c ∈ homeCaps s n → tl ≤ c) :
    homeDecide n s = homeAborted n s := by
  rw [homeDecide, if_pos hhoming, hlimit, Option.filter_some, if_pos hfirst]
  refine if_pos ⟨hdue, List.all_eq_true.mpr fun c hc => decide_eq_true (hcaps c hc)⟩

theorem homeDecide_of_end {s : State} {n te : Nat} (hlimit : (s.axis n).homeLimit = none) (hend : (s.axis n).homeEnd = some te)
    (hhoming : (s.axis n).homing = 1) (hdue : te + 300000 ≤ s.nowNs) (hcaps : homeCaps s n = []) : homeDecide n s = homeFailed n s := by
  rw [homeDecide, if_pos hhoming, hlimit, Option.filter_none, hend]
  exact if_pos ⟨hdue, hcaps⟩

/-! ### Compares (R273) -/

/-- The position of a compare unit taken: both words, with the writer's low word used up. -/
def posTaken (core : Sender) (u : Nat) (v : Word) (s : State) : State :=
  setHold (Reg.TRJ_CMP_POS_LO u) core 0
    ((s.setReg (Reg.TRJ_CMP_POS_LO u) (holdOf s (Reg.TRJ_CMP_POS_LO u) core)).setReg (Reg.TRJ_CMP_POS_LO u + 4) v)

theorem changesOnly_setHold {P : Nat → Prop} (lo : Nat) (core : Sender) (w : Word) (s : State) : ChangesOnly P s (setHold lo core w s) :=
  ⟨fun _ _ => rfl, fun _ => rfl, rfl⟩

theorem cmpPosHi_eq (u : Nat) : Reg.TRJ_CMP_POS_LO u + 4 = Reg.TRJ_CMP_POS_HI u := by
  have h : 0x40030804 + 0x10 * u + 4 = 0x40030808 + 0x10 * u := by omega
  exact h

theorem posTaken_hi (core : Sender) (u : Nat) (v : Word) (s : State) : (posTaken core u v s).reg (Reg.TRJ_CMP_POS_HI u) = v := by
  rw [← cmpPosHi_eq]
  exact State.reg_setReg_same _ _ _

theorem posTaken_lo (core : Sender) (u : Nat) (v : Word) (s : State) :
    (posTaken core u v s).reg (Reg.TRJ_CMP_POS_LO u) = holdOf s (Reg.TRJ_CMP_POS_LO u) core :=
  (State.reg_setReg_ne _ _ _ _ (by omega)).trans (State.reg_setReg_same _ _ _)

theorem changesOnly_posTaken (core : Sender) (u : Nat) (v : Word) (s : State) :
    ChangesOnly (· ∈ [Reg.TRJ_CMP_POS_LO u, Reg.TRJ_CMP_POS_HI u]) s (posTaken core u v s) := by
  rw [posTaken, cmpPosHi_eq]
  generalize holdOf s (Reg.TRJ_CMP_POS_LO u) core = w
  have hlo := changesOnly_setReg (P := (· ∈ [Reg.TRJ_CMP_POS_LO u, Reg.TRJ_CMP_POS_HI u])) (a := Reg.TRJ_CMP_POS_LO u) (by simp) s w
  have hhi := changesOnly_setReg (P := (· ∈ [Reg.TRJ_CMP_POS_LO u, Reg.TRJ_CMP_POS_HI u])) (a := Reg.TRJ_CMP_POS_HI u) (by simp)
    (s.setReg (Reg.TRJ_CMP_POS_LO u) w) v
  exact hlo.trans (hhi.trans (changesOnly_setHold _ core 0 _))

theorem pairS_posTaken (core : Sender) (u : Nat) (v : Word) (s : State) :
    (posTaken core u v s).pairS (Reg.TRJ_CMP_POS_LO u) = sgn 64 (join64 (holdOf s (Reg.TRJ_CMP_POS_LO u) core) v) := by
  rw [State.pairS, State.pair, posTaken_lo, cmpPosHi_eq, posTaken_hi]

theorem posTaken_reg {core : Sender} {u : Nat} {v : Word} {s : State} {a : Nat} (hlo : a ≠ 0x40030804 + 0x10 * u) (hhi : a ≠ 0x40030808 + 0x10 * u) :
    (posTaken core u v s).reg a = s.reg a := (changesOnly_posTaken core u v s).1 a (by simpa using ⟨hlo, hhi⟩)

theorem posTaken_trj (core : Sender) (u : Nat) (v : Word) (s : State) : (posTaken core u v s).trj = s.trj := by
  obtain ⟨-, -, hframe⟩ := changesOnly_posTaken core u v s
  rw [hframe]

/-- The source of a compare unit is none of what arming writes. -/
theorem cmpSource_posTaken (core : Sender) {u : Nat} (hu : u < 32) (v : Word) (s : State) :
    cmpSource (posTaken core u v s) u = cmpSource s u := by
  have hcfg : (posTaken core u v s).reg (Reg.TRJ_CMP_CFG u) = s.reg (Reg.TRJ_CMP_CFG u) :=
    posTaken_reg (show 0x40030800 + 0x10 * u ≠ _ by omega) (show 0x40030800 + 0x10 * u ≠ _ by omega)
  have hsrc : (posTaken core u v s).get (F.TRJ_CMP_CFG.SOURCE u) = s.get (F.TRJ_CMP_CFG.SOURCE u) := State.get_of_reg_eq hcfg
  have haxis : (posTaken core u v s).flag (F.TRJ_CMP_CFG.SRC_AXIS u) = s.flag (F.TRJ_CMP_CFG.SRC_AXIS u) := flag_of_reg_eq hcfg
  have hpos : ∀ c, (posTaken core u v s).pairS (Reg.FBK_CH_POS_LO c) = s.pairS (Reg.FBK_CH_POS_LO c) := fun c => by
    rw [State.pairS, State.pair, posTaken_reg (show 0x4006001c + 0x40 * c ≠ _ by omega) (show 0x4006001c + 0x40 * c ≠ _ by omega),
      posTaken_reg (show 0x4006001c + 0x40 * c + 4 ≠ _ by omega) (show 0x4006001c + 0x40 * c + 4 ≠ _ by omega), State.pairS, State.pair]
  have hvel : ∀ c, (posTaken core u v s).regS (Reg.FBK_CH_VEL c) = s.regS (Reg.FBK_CH_VEL c) := fun c => by
    rw [State.regS, posTaken_reg (show 0x40060024 + 0x40 * c ≠ _ by omega) (show 0x40060024 + 0x40 * c ≠ _ by omega), State.regS]
  rw [cmpSource, hsrc, haxis, hpos, hvel, State.axis_of_trj_eq (posTaken_trj core u v s), cmpSource]

/-- The unit armed with a source value, where it has a mode. -/
def cmpArmed (u : Nat) (x : Int) (t : State) : State :=
  if t.get (F.TRJ_CMP_CFG.MODE u) = 0 then t
  else { t with trj := { t.trj with cmpPrev := smSet 0 t.trj.cmpPrev u x } }.evBit F.TRJ_CMP_ARMED.ARMED u

/-- The commanded position lies behind the source. -/
def cmpBehind (c x vel : Int) : Bool := (decide (0 < vel) && decide (c ≤ x)) || (decide (vel < 0) && decide (x ≤ c))

theorem cmpBehind_iff (c x vel : Int) : cmpBehind c x vel = true ↔ 0 < vel ∧ c ≤ x ∨ vel < 0 ∧ x ≤ c := by simp [cmpBehind]

/-- BEHIND of unit u is `b`. -/
def judgeBehind (u : Nat) (b : Bool) (s : State) : State :=
  if b then s.evBit F.TRJ_CMP_BEHIND.BEHIND u else s.clrBit F.TRJ_CMP_BEHIND.BEHIND u

theorem compareArm_eq (core : Sender) {u : Nat} (hu : u < 32) (v : Word) (s : State) {c x vel : Int}
    (hc : c = sgn 64 (join64 (holdOf s (Reg.TRJ_CMP_POS_LO u) core) v)) (hsrc : cmpSource s u = (x, vel)) :
    compareArm core u v s = judgeBehind u (cmpBehind c x vel) (cmpArmed u x (posTaken core u v s)) := by
  have hpos := pairS_posTaken core u v s
  have hsource := cmpSource_posTaken core hu v s
  rw [← hc] at hpos
  rw [hsrc] at hsource
  rw [cmpArmed, judgeBehind, cmpBehind, compareArm]
  rw [posTaken] at *
  dsimp only
  rw [hpos, hsource]

theorem judgeBehind_spec {u : Nat} (hu : u < 32) (b : Bool) (s : State) :
    (judgeBehind u b s).bit F.TRJ_CMP_BEHIND.BEHIND u = b ∧ OnlyRegs [Reg.TRJ_CMP_BEHIND] s (judgeBehind u b s) := by
  rw [judgeBehind]
  split
  next h =>
    rw [h]
    exact ⟨State.bit_evBit_self (by decide) (by decide) hu s _, onlyRegs_of_changesOnly (changesOnly_put (by simp) s _)⟩
  next h =>
    rw [Bool.not_eq_true] at h
    rw [h]
    refine ⟨?_, onlyRegs_of_changesOnly (changesOnly_put (by simp) s _)⟩
    rw [State.bit_clrBit _ _ _ _ (by decide) (by decide) hu, if_pos rfl]

theorem cmpArmed_spec {u : Nat} (hu : u < 32) (x : Int) (t : State) :
    (t.get (F.TRJ_CMP_CFG.MODE u) ≠ 0 →
      (cmpArmed u x t).bit F.TRJ_CMP_ARMED.ARMED u = true ∧ smGet 0 (cmpArmed u x t).trj.cmpPrev u = x) ∧
    (t.get (F.TRJ_CMP_CFG.MODE u) = 0 → cmpArmed u x t = t) ∧
    (∀ k, k ≠ u → (cmpArmed u x t).bit F.TRJ_CMP_ARMED.ARMED k = t.bit F.TRJ_CMP_ARMED.ARMED k) ∧
    RegsBut [Reg.TRJ_CMP_ARMED] t (cmpArmed u x t) ∧
    cmpArmed u x t = { t with bus := (cmpArmed u x t).bus, trj := { t.trj with cmpPrev := (cmpArmed u x t).trj.cmpPrev } } := by
  rw [cmpArmed]
  split
  next h => exact ⟨fun hne => absurd h hne, fun _ => rfl, fun _ _ => rfl, .refl _ t, rfl⟩
  next h =>
    generalize hprev : smSet 0 t.trj.cmpPrev u x = prev
    refine ⟨fun _ => ⟨State.bit_evBit_self (by decide) (by decide) hu _ _, ?_⟩, fun he => absurd he h, fun k hk => ?_,
      regsBut_put (f := F.TRJ_CMP_ARMED.ARMED) (by simp) { t with trj := { t.trj with cmpPrev := prev } } _, rfl⟩
    · rw [State.evBit, State.put_trj, ← hprev, smGet_smSet_same]
    · rw [State.bit_evBit _ _ _ _ (by decide) (by decide) hu, if_neg hk]
      rfl

theorem compareArmed {s : State} {core : Sender} {u : Nat} (hu : u < 32) {v : Word} {c x vel : Int} {t : State}
    (ht : t = judgeBehind u (cmpBehind c x vel) (cmpArmed u x (posTaken core u v s))) :
    t.reg (Reg.TRJ_CMP_POS_LO u) = holdOf s (Reg.TRJ_CMP_POS_LO u) core ∧ t.reg (Reg.TRJ_CMP_POS_HI u) = v ∧
      (t.bit F.TRJ_CMP_BEHIND.BEHIND u = true ↔ 0 < vel ∧ c ≤ x ∨ vel < 0 ∧ x ≤ c) ∧
      (s.get (F.TRJ_CMP_CFG.MODE u) ≠ 0 → t.bit F.TRJ_CMP_ARMED.ARMED u = true ∧ smGet 0 t.trj.cmpPrev u = x) ∧
      (s.get (F.TRJ_CMP_CFG.MODE u) = 0 → t.reg Reg.TRJ_CMP_ARMED = s.reg Reg.TRJ_CMP_ARMED ∧ t.trj = s.trj) ∧
      (∀ k, k < 32 → k ≠ u → t.bit F.TRJ_CMP_ARMED.ARMED k = s.bit F.TRJ_CMP_ARMED.ARMED k) ∧
      RegsBut [Reg.TRJ_CMP_POS_LO u, Reg.TRJ_CMP_POS_HI u, Reg.TRJ_CMP_ARMED, Reg.TRJ_CMP_BEHIND] s t ∧
      t = { s with bus := t.bus, trj := { s.trj with cmpPrev := t.trj.cmpPrev } } := by
  obtain ⟨hbehind, hregs3, -, hframe3⟩ := judgeBehind_spec hu (cmpBehind c x vel) (cmpArmed u x (posTaken core u v s))
  obtain ⟨hmode, hnone, hothers, hregs2, hframe2⟩ := cmpArmed_spec hu x (posTaken core u v s)
  obtain ⟨hregs1, -, hframe1⟩ := onlyRegs_of_changesOnly (changesOnly_posTaken core u v s)
  have hcfg : (posTaken core u v s).get (F.TRJ_CMP_CFG.MODE u) = s.get (F.TRJ_CMP_CFG.MODE u) :=
    State.get_of_reg_eq (posTaken_reg (show 0x40030800 + 0x10 * u ≠ _ by omega) (show 0x40030800 + 0x10 * u ≠ _ by omega))
  have hlo := posTaken_lo core u v s
  have hhi := posTaken_hi core u v s
  have harmed1 : (posTaken core u v s).reg Reg.TRJ_CMP_ARMED = s.reg Reg.TRJ_CMP_ARMED :=
    posTaken_reg (show 0x40030a04 ≠ _ by omega) (show 0x40030a04 ≠ _ by omega)
  have hlo2 : 0x40030804 + 0x10 * u ≠ 0x40030a04 := by omega
  have hlo3 : 0x40030804 + 0x10 * u ≠ 0x40030a08 := by omega
  have hhi2 : 0x40030808 + 0x10 * u ≠ 0x40030a04 := by omega
  have hhi3 : 0x40030808 + 0x10 * u ≠ 0x40030a08 := by omega
  rw [← ht] at hbehind hregs3 hframe3
  generalize posTaken core u v s = p at *
  generalize cmpArmed u x p = q at *
  have htrj : t.trj = q.trj := by rw [hframe3]
  have hbit : ∀ k, t.bit F.TRJ_CMP_ARMED.ARMED k = q.bit F.TRJ_CMP_ARMED.ARMED k := fun k =>
    congrArg (fun w => Nat.testBit w k) (State.get_of_reg_eq (hregs3 _ (by decide)))
  refine ⟨?_, ?_, by rw [hbehind, cmpBehind_iff], fun h => ?_, fun h => ?_, fun k _ hk => ?_, ?_, ?_⟩
  · rw [hregs3 _ (by simpa using hlo3), hregs2 _ (by simpa using hlo2), hlo]
  · rw [hregs3 _ (by simpa using hhi3), hregs2 _ (by simpa using hhi2), hhi]
  · rw [hbit, htrj]
    exact hmode (by rw [hcfg]; exact h)
  · rw [htrj, hregs3 _ (by decide), hnone (by rw [hcfg]; exact h), harmed1, hframe1]
    exact ⟨rfl, rfl⟩
  · rw [hbit, hothers k hk]
    exact congrArg (fun w => Nat.testBit w k) (State.get_of_reg_eq harmed1)
  · exact (hregs1.mono (by simp)).trans ((hregs2.mono (by simp)).trans (hregs3.mono (by simp)))
  · rw [hframe3, hframe2, hframe1]

theorem cmpDisarmOp_spec (v : Word) (s : State) :
    (cmpDisarmOp v s).reg Reg.TRJ_CMP_ARMED = s.reg Reg.TRJ_CMP_ARMED &&& ~~~ v ∧
      (cmpDisarmOp v s).reg Reg.TRJ_CMP_BEHIND = s.reg Reg.TRJ_CMP_BEHIND &&& ~~~ v ∧
      OnlyRegs [Reg.TRJ_CMP_ARMED, Reg.TRJ_CMP_BEHIND] s (cmpDisarmOp v s) := by
  refine ⟨?_, State.reg_setReg_same _ _ _, onlyRegs_of_changesOnly ((changesOnly_setReg (by simp) s _).trans (changesOnly_setReg (by simp) _ _))⟩
  rw [cmpDisarmOp, State.reg_setReg_ne _ _ _ _ (by decide), State.reg_setReg_same]

/-- Settles O34: each latch unit's turn, the end of a hold-off, the two outcomes of a homing span, and the compare units. -/
theorem latchesAndCompares : Obligations.LatchesAndCompares := by
  refine ⟨?units, ?holdoff, ?limit, ?failed, ?arm, ?disarm⟩
  case units =>
    intro s core v i hacc hfree hi
    obtain ⟨hregs, hframe, -⟩ := latchTurn_latCmdOp v s
    exact ⟨_, exec_latchCommand hacc hfree hi, fun m hm hdis => latCmdOp_disarms hm hdis s,
      fun m hm hdis harm => ⟨latCmdOp_refuses hm hdis harm, latCmdOp_arms hm hdis harm⟩, fun m hm hdis harm => latCmdOp_keeps hm hdis harm s,
      fun a ha => (latchTurn_latCmdOp v s).reg (by simpa using ha), hframe⟩
  case holdoff =>
    intro s m f hwait hdue
    refine ⟨_, congrArg Host.Outcome.next (holdoffEnd_of_due hwait hdue), latch_modLatch_same _ _ _, fun k hk => latch_modLatch_ne _ _ hk, rfl⟩
  case limit =>
    intro s n tl hlimit hhoming hdue hfirst hcaps
    refine ⟨_, congrArg Host.Outcome.next (homeDecide_of_limit hlimit hhoming hdue hfirst hcaps), ?_⟩
    have hset : ((s.evBit F.TRJ_AXIS_EVENT.HOME n.val).ev F.TRJ_EVENT.LIMIT).bit F.TRJ_AXIS_EVENT.HOME n.val = true := by
      rw [State.bit, State.get_ev_other (by decide)]
      exact State.bit_evBit_self (by decide) (by decide) n.isLt s _
    have hregs : RegsBut [Reg.TRJ_AXIS_EVENT, Reg.TRJ_EVENT] s ((s.evBit F.TRJ_AXIS_EVENT.HOME n.val).ev F.TRJ_EVENT.LIMIT) :=
      (regsBut_put (by simp) s _).trans (regsBut_put (by simp) _ 1)
    have haxis : ∀ k, ((s.evBit F.TRJ_AXIS_EVENT.HOME n.val).ev F.TRJ_EVENT.LIMIT).axis k = s.axis k :=
      State.axis_of_trj_eq ((State.ev_trj _ _).trans (State.put_trj _ _ _))
    have hlim : ((s.evBit F.TRJ_AXIS_EVENT.HOME n.val).ev F.TRJ_EVENT.LIMIT).flag F.TRJ_EVENT.LIMIT = true :=
      State.flag_ev_self (by decide) (by decide) _
    rw [homeAborted]
    generalize (s.evBit F.TRJ_AXIS_EVENT.HOME n.val).ev F.TRJ_EVENT.LIMIT = t at *
    refine ⟨?_, (State.flag_of_bus_eq (State.modAxis_bus _ _ _) _).trans hlim, (State.bit_of_bus_eq (State.modAxis_bus _ _ _) _ _).trans hset,
      fun m hmv hkind => ?_, fun k hk => (State.axis_modAxis_ne _ _ _ _ hk).trans (haxis k), hregs.of_bus_eq (State.modAxis_bus _ _ _)⟩
    · rw [State.axis_modAxis_same]
    · rw [State.axis_modAxis_same, haxis, homingMove, hmv]
      simp [hkind]
  case failed =>
    intro s n te hlimit hend hhoming hdue hcaps
    refine ⟨_, congrArg Host.Outcome.next (homeDecide_of_end hlimit hend hhoming hdue hcaps), ?_⟩
    rw [homeFailed]
    generalize hunit : s.get (F.TRJ_AXIS_HOME.LATCH n.val) = m
    have hlat := latch_modLatch_same s m (fun u => { u with armedAt := none, upTo := none, waitUntil := none })
    have haxis : ∀ k, (modLatch m (fun u => { u with armedAt := none, upTo := none, waitUntil := none }) s).axis k = s.axis k := fun _ => rfl
    have hregs := regsBut_of_regs_eq (s := s) (t := modLatch m (fun u => { u with armedAt := none, upTo := none, waitUntil := none }) s)
      [Reg.TRJ_AXIS_EVENT] rfl
    generalize modLatch m (fun u => { u with armedAt := none, upTo := none, waitUntil := none }) s = t at *
    have haxis' : ∀ k, (t.evBit F.TRJ_AXIS_EVENT.HOME n.val).axis k = s.axis k := fun k =>
      (State.axis_of_trj_eq (State.put_trj _ _ _) k).trans (haxis k)
    refine ⟨?_, ?_, ?_, ?_, ?_, fun k hk => ?_, (hregs.trans (regsBut_put (by simp) t _)).of_bus_eq (State.modAxis_bus _ _ _)⟩
    · rw [State.axis_modAxis_same]
    · rw [State.axis_modAxis_same, haxis']
    · rw [State.axis_modAxis_same, haxis']
    · rw [State.bit_of_bus_eq (State.modAxis_bus _ _ _)]
      exact State.bit_evBit_self (by decide) (by decide) n.isLt t _
    · rw [latch, State.modAxis_lat, State.evBit, State.put_trj, ← latch, hlat]
    · exact (State.axis_modAxis_ne _ _ _ _ hk).trans (haxis' k)
  case arm =>
    intro s core u v c x vel hacc hfree hc hsrc
    refine ⟨_, congrArg Host.Outcome.next (writeCmd_of_unguarded _ hacc hfree), ?_⟩
    exact compareArmed u.isLt (compareArm_eq core u.isLt v s hc hsrc)
  case disarm =>
    intro s core v hacc hfree
    exact ⟨_, congrArg Host.Outcome.next (writeCmd_of_unguarded _ hacc hfree), cmpDisarmOp_spec v s⟩

end Sys2Proof.Machine
end

section
/-!
PROOF. Feedback commands and analog samples (10 R301, R307 to R313, R337), with the rules of what feedback changes.
-/

namespace Sys2Proof.Machine

open Sys2Proof

/-! ### What a change of one feedback channel leaves alone -/

theorem State.fb_of_fbk_eq {s t : State} (h : t.fbk = s.fbk) (n : Nat) : t.fb n = s.fb n := by rw [State.fb, h, State.fb]

theorem State.ser_of_fbk_eq {s t : State} (h : t.fbk = s.fbk) (n : Nat) : t.ser n = s.ser n := by rw [State.ser, h, State.ser]

theorem State.ser_modSer_ne (s : State) (n m : Nat) (f : SerPort → SerPort) (h : m ≠ n) : (s.modSer n f).ser m = s.ser m :=
  smGet_smMod_ne _ _ _ _ _ h

@[simp] theorem State.fb_put (s : State) (f : FRef) (v n : Nat) : (s.put f v).fb n = s.fb n := State.fb_of_fbk_eq (State.put_fbk _ _ _) n

@[simp] theorem State.ser_put (s : State) (f : FRef) (v n : Nat) : (s.put f v).ser n = s.ser n := State.ser_of_fbk_eq (State.put_fbk _ _ _) n

@[simp] theorem State.fb_ev (s : State) (f : FRef) (n : Nat) : (s.ev f).fb n = s.fb n := State.fb_put s f 1 n

@[simp] theorem State.ser_ev (s : State) (f : FRef) (n : Nat) : (s.ev f).ser n = s.ser n := State.ser_put s f 1 n

@[simp] theorem State.fb_evBit (s : State) (f : FRef) (i n : Nat) : (s.evBit f i).fb n = s.fb n := State.fb_put s f _ n

@[simp] theorem State.fb_modSer (s : State) (p n : Nat) (f : SerPort → SerPort) : (s.modSer p f).fb n = s.fb n := rfl

@[simp] theorem State.ser_modFb (s : State) (p n : Nat) (f : FbCh → FbCh) : (s.modFb p f).ser n = s.ser n := rfl

/-- Of the feedback channels only n changed, and of the registers only those of `l`. -/
def FbTurn (n : Nat) (l : List Nat) (s t : State) : Prop :=
  (∀ m, m ≠ n → t.fb m = s.fb m) ∧ RegsBut l s t ∧ t = { s with bus := t.bus, fbk := { s.fbk with chans := t.fbk.chans } }

namespace FbTurn

variable {n : Nat} {l : List Nat}

theorem refl (s : State) : FbTurn n l s s := ⟨fun _ _ => rfl, .refl l s, rfl⟩

theorem trans {s t u : State} (hst : FbTurn n l s t) (htu : FbTurn n l t u) : FbTurn n l s u := by
  obtain ⟨hfb, hregs, hframe⟩ := hst
  obtain ⟨hfb', hregs', hframe'⟩ := htu
  exact ⟨fun m hm => (hfb' m hm).trans (hfb m hm), hregs.trans hregs', by rw [hframe', hframe]⟩

theorem mono {k : List Nat} {s t : State} (h : FbTurn n l s t) (hlk : ∀ a, a ∈ l → a ∈ k) : FbTurn n k s t :=
  ⟨h.1, h.2.1.mono hlk, h.2.2⟩

theorem put {f : FRef} (hf : f.addr ∈ l) (s : State) (v : Nat) : FbTurn n l s (s.put f v) :=
  ⟨fun m _ => State.fb_put s f v m, regsBut_put hf s v, rfl⟩

theorem modFb (f : FbCh → FbCh) (s : State) : FbTurn n l s (s.modFb n f) :=
  ⟨fun m hm => State.fb_modFb_ne s n m f hm, regsBut_of_regs_eq l rfl, rfl⟩

theorem servoOn {s t : State} (h : FbTurn n l s t) : t.servoOn = s.servoOn := by rw [h.2.2]; rfl

end FbTurn

/-! ### Results of a channel (R301, R310, R320) -/

theorem fbTurn_dirResult (n : Nat) (s : State) : FbTurn n [Reg.FBK_DIR_MAP (n / 32), Reg.FBK_EVENT] s (dirResult n s) :=
  (FbTurn.put (f := F.FBK_DIR_MAP.MAP (n / 32)) (by simp) s _).trans (.put (f := F.FBK_EVENT.DIR) (by simp) _ 1)

theorem dirResult_sigf (n : Nat) (s : State) : (dirResult n s).flag F.FBK_EVENT.SIGF = s.flag F.FBK_EVENT.SIGF := by
  have haddr : (0x40062450 : Nat) ≠ 0x40062460 + 0x4 * (n / 32) := by omega
  rw [dirResult, State.flag_ev_disjoint (by decide) (by decide) (by decide)]
  exact State.flag_put_other haddr s _ _ _

theorem dirResult_fb (n m : Nat) (s : State) : (dirResult n s).fb m = s.fb m := by rw [dirResult, State.fb_ev, State.fb_evBit]

/-- What an edge changes of its channel is the period method's. -/
theorem perEdge_spec (n t : Nat) (c : Int) (down : Bool) (s : State) :
    FbTurn n [Reg.FBK_DIR_MAP (n / 32), Reg.FBK_EVENT] s (perEdge n t c down s) ∧
      (perEdge n t c down s).flag F.FBK_EVENT.SIGF = s.flag F.FBK_EVENT.SIGF ∧
      ((perEdge n t c down s).fb n).p0 = (s.fb n).p0 ∧ ((perEdge n t c down s).fb n).moved = (s.fb n).moved ∧
      ((perEdge n t c down s).fb n).lost = (s.fb n).lost ∧ ((perEdge n t c down s).fb n).sampleT = (s.fb n).sampleT := by
  rw [perEdge]
  dsimp only
  split
  · refine ⟨(FbTurn.modFb _ s).trans (fbTurn_dirResult n _), ?_, ?_⟩
    · rw [dirResult_sigf, State.flag_of_bus_eq (State.modFb_bus _ _ _)]
    · rw [dirResult_fb, State.fb_modFb_same]
      exact ⟨rfl, rfl, rfl, rfl⟩
  · split
    all_goals
      refine ⟨.modFb _ s, State.flag_of_bus_eq (State.modFb_bus _ _ _) _, ?_⟩
      rw [State.fb_modFb_same]
      exact ⟨rfl, rfl, rfl, rfl⟩

/-- A signal fault is shown in the channel's status, in the map and as an event. -/
theorem sigfRaise_spec {n : Nat} (hn : n < 144) (s : State) :
    FbTurn n [Reg.FBK_CH_STAT n, Reg.FBK_SIGF_MAP (n / 32), Reg.FBK_EVENT] s (sigfRaise n s) ∧
      (∀ m, (sigfRaise n s).fb m = s.fb m) ∧ (sigfRaise n s).flag (F.FBK_CH_STAT.SIGF n) = true ∧
      (sigfRaise n s).flag F.FBK_EVENT.SIGF = true ∧ (sigfRaise n s).bit (F.FBK_SIGF_MAP.MAP (n / 32)) (n % 32) = true := by
  have hstat : 0x40060018 + 0x40 * n ≠ 0x40062450 := by omega
  have hstat' : 0x40060018 + 0x40 * n ≠ 0x40062480 + 0x4 * (n / 32) := by omega
  have hmap : 0x40062480 + 0x4 * (n / 32) ≠ 0x40062450 := by omega
  rw [sigfRaise]
  refine ⟨?_, fun m => ?_, ?_, State.flag_ev_self (by decide) (by decide) _, ?_⟩
  · exact ((FbTurn.put (f := F.FBK_CH_STAT.SIGF n) (by simp) s 1).trans (.put (f := F.FBK_SIGF_MAP.MAP (n / 32)) (by simp) _ _)).trans
      (.put (f := F.FBK_EVENT.SIGF) (by simp) _ 1)
  · rw [State.fb_ev, State.fb_evBit, State.fb_put]
  · rw [State.flag_ev_other hstat]
    exact (State.flag_put_other hstat' _ _ _ _).trans (State.flag_ev_self (by decide) (by decide) s)
  · rw [State.bit, State.get_ev_other hmap]
    exact State.bit_evBit_self (by decide) (by decide) (Nat.mod_lt _ (by decide)) _ _

/-- An index result stands in the pair with its tag advanced, in the map and as an event. -/
theorem idxResult_spec {n : Nat} (hn : n < 144) (c : Int) (s : State) :
    let t := idxResult n ((wdi c).toNat : Int) s
    FbTurn n [Reg.FBK_CH_IDX_LO n, Reg.FBK_CH_IDX_LO n + 4, Reg.FBK_IDX_MAP (n / 32), Reg.FBK_EVENT] s t ∧ (∀ m, t.fb m = s.fb m) ∧
      t.reg (Reg.FBK_CH_IDX_LO n) = wdi c ∧ t.get (F.FBK_CH_IDX_HI.TAG n) = (s.get (F.FBK_CH_IDX_HI.TAG n) + 1) % 4 ∧
      t.flag F.FBK_EVENT.IDX = true ∧ t.flag F.FBK_EVENT.SIGF = s.flag F.FBK_EVENT.SIGF := by
  have hw : (wdi c).toNat < 2 ^ 32 := (wdi c).isLt
  have huns : uns 62 ((wdi c).toNat : Int) = (wdi c).toNat := by
    simp only [uns]
    omega
  have hlow : lo32 (wdi c).toNat = wdi c := by
    rw [lo32, wd]
    exact BitVec.eq_of_toNat_eq (by rw [BitVec.toNat_ofNat, Nat.mod_eq_of_lt hw])
  have hpair : s.resultPair (Reg.FBK_CH_IDX_LO n) ((wdi c).toNat : Int) = (s.setReg (Reg.FBK_CH_IDX_LO n) (wdi c)).setReg
      (Reg.FBK_CH_IDX_LO n + 4) (wd (((s.reg (Reg.FBK_CH_IDX_LO n + 4)).toNat / 2 ^ 30 + 1) % 4 * 2 ^ 30)) := by
    rw [State.resultPair, huns, hlow, Nat.div_eq_of_lt hw, Nat.zero_add]
  have hhi : 0x4006002c + 0x40 * n + 4 = 0x40060030 + 0x40 * n := by omega
  have haddr : Reg.FBK_CH_IDX_LO n + 4 = Reg.FBK_CH_IDX_HI n := hhi
  have hlo1 : 0x4006002c + 0x40 * n ≠ 0x40062450 := by omega
  have hlo2 : 0x4006002c + 0x40 * n ≠ 0x400624a0 + 0x4 * (n / 32) := by omega
  have hhi1 : 0x40060030 + 0x40 * n ≠ 0x40062450 := by omega
  have hhi2 : 0x40060030 + 0x40 * n ≠ 0x400624a0 + 0x4 * (n / 32) := by omega
  have hev1 : (0x40062450 : Nat) ≠ 0x400624a0 + 0x4 * (n / 32) := by omega
  have hev2 : (0x40062450 : Nat) ≠ 0x4006002c + 0x40 * n := by omega
  have hev3 : (0x40062450 : Nat) ≠ 0x40060030 + 0x40 * n := by omega
  have htag : ∀ w : Word, getF (F.FBK_CH_IDX_HI.TAG n).bits w = w.toNat / 2 ^ 30 % 4 := fun w => by simp [getF, bitsLen]
  dsimp only
  rw [idxResult, hpair, haddr]
  generalize hnew : wd (((s.reg (Reg.FBK_CH_IDX_HI n)).toNat / 2 ^ 30 + 1) % 4 * 2 ^ 30) = new
  have hfb : ∀ m, ((s.setReg (Reg.FBK_CH_IDX_LO n) (wdi c)).setReg (Reg.FBK_CH_IDX_HI n) new).fb m = s.fb m := fun m =>
    State.fb_of_fbk_eq (by rw [State.setReg_fbk, State.setReg_fbk]) m
  have hregs : RegsBut [Reg.FBK_CH_IDX_LO n, Reg.FBK_CH_IDX_HI n, Reg.FBK_IDX_MAP (n / 32), Reg.FBK_EVENT] s
      ((s.setReg (Reg.FBK_CH_IDX_LO n) (wdi c)).setReg (Reg.FBK_CH_IDX_HI n) new) :=
    (regsBut_setReg (by simp) s _).trans (regsBut_setReg (by simp) _ _)
  have hlo : ((s.setReg (Reg.FBK_CH_IDX_LO n) (wdi c)).setReg (Reg.FBK_CH_IDX_HI n) new).reg (Reg.FBK_CH_IDX_LO n) = wdi c := by
    rw [State.reg_setReg_ne _ _ _ _ (show 0x4006002c + 0x40 * n ≠ 0x40060030 + 0x40 * n by omega), State.reg_setReg_same]
  have hhireg : ((s.setReg (Reg.FBK_CH_IDX_LO n) (wdi c)).setReg (Reg.FBK_CH_IDX_HI n) new).reg (Reg.FBK_CH_IDX_HI n) = new :=
    State.reg_setReg_same _ _ _
  have hflag : ((s.setReg (Reg.FBK_CH_IDX_LO n) (wdi c)).setReg (Reg.FBK_CH_IDX_HI n) new).flag F.FBK_EVENT.SIGF = s.flag F.FBK_EVENT.SIGF := by
    rw [State.flag_setReg_other hev3, State.flag_setReg_other hev2]
  have hframe : (s.setReg (Reg.FBK_CH_IDX_LO n) (wdi c)).setReg (Reg.FBK_CH_IDX_HI n) new =
      { s with bus := ((s.setReg (Reg.FBK_CH_IDX_LO n) (wdi c)).setReg (Reg.FBK_CH_IDX_HI n) new).bus } := rfl
  generalize (s.setReg (Reg.FBK_CH_IDX_LO n) (wdi c)).setReg (Reg.FBK_CH_IDX_HI n) new = t at *
  have hturn : FbTurn n [Reg.FBK_CH_IDX_LO n, Reg.FBK_CH_IDX_HI n, Reg.FBK_IDX_MAP (n / 32), Reg.FBK_EVENT] s t :=
    ⟨fun m _ => hfb m, hregs, by rw [hframe]⟩
  refine ⟨(hturn.trans (.put (f := F.FBK_IDX_MAP.MAP (n / 32)) (by simp) t _)).trans (.put (f := F.FBK_EVENT.IDX) (by simp) _ 1),
    fun m => ?_, ?_, ?_, State.flag_ev_self (by decide) (by decide) _, ?_⟩
  · rw [State.fb_ev, State.fb_evBit, hfb]
  · exact (State.reg_put_ne _ _ _ _ hlo1).trans ((State.reg_put_ne _ _ _ _ hlo2).trans hlo)
  · rw [State.get_of_reg_eq (((State.reg_put_ne _ _ _ _ hhi1).trans (State.reg_put_ne _ _ _ _ hhi2)) : _ = t.reg (Reg.FBK_CH_IDX_HI n)),
      State.get, hhireg, htag, State.get, htag, ← hnew, wd]
    simp only [BitVec.toNat_ofNat]
    omega
  · rw [State.flag_ev_disjoint (by decide) (by decide) (by decide)]
    exact (State.flag_put_other hev1 t _ _ _).trans hflag

end Sys2Proof.Machine
end

section
/-!
PROOF. Feedback commands and analog samples (10 R301, R307 to R313, R337): the statement.
-/

namespace Sys2Proof.Machine

open Sys2Proof

/-! ### The command register -/

theorem fbkOp_eq (v : Word) : getF F.FBK_CMD.OP.bits v = v.toNat / 2 ^ 28 := by
  have hlt := v.isLt
  simp only [getF, bitsLen]
  omega

theorem fbkChannel_eq (v : Word) : getF F.FBK_CMD.CH.bits v = v.toNat % 256 := by simp [getF, bitsLen]

theorem fbkPair_eq (v : Word) : getF F.FBK_CMD.PAIR.bits v = v.toNat / 256 % 4 := by simp [getF, bitsLen]

theorem fbkCmdRow_of_op {s : State} {core : Sender} {op : Nat} {v : Word} (act : Nat → Nat → State → State) (hacc : canAccess s core = true)
    (hfree : Unguarded s Reg.FBK_CMD) (hop : v.toNat / 2 ^ 28 = op) :
    fbkCmdRow core op v act s = act (v.toNat % 256) (v.toNat / 256 % 4) s := by
  rw [fbkCmdRow, writeCmd_of_unguarded _ hacc hfree, if_pos ((fbkOp_eq v).trans hop), fbkChannel_eq, fbkPair_eq]

theorem exec_fbkArmOnceIndex {s : State} {core : Sender} {v : Word} (hacc : canAccess s core = true) (hfree : Unguarded s Reg.FBK_CMD)
    (hop : v.toNat / 2 ^ 28 = 1) :
    exec (.fbkArmOnceIndex core v) s = .next (armOnce (v.toNat % 256) (v.toNat / 256 % 4) s) :=
  congrArg Host.Outcome.next (fbkCmdRow_of_op armOnce hacc hfree hop)

theorem exec_fbkClearSignalFault {s : State} {core : Sender} {v : Word} (hacc : canAccess s core = true) (hfree : Unguarded s Reg.FBK_CMD)
    (hop : v.toNat / 2 ^ 28 = 2) :
    exec (.fbkClearSignalFault core v) s = .next (clearSigf (v.toNat % 256) (v.toNat / 256 % 4) s) :=
  congrArg Host.Outcome.next (fbkCmdRow_of_op clearSigf hacc hfree hop)

theorem exec_fbkRenegotiatePort {s : State} {core : Sender} {v : Word} (hacc : canAccess s core = true) (hfree : Unguarded s Reg.FBK_CMD)
    (hop : v.toNat / 2 ^ 28 = 3) :
    exec (.fbkRenegotiatePort core v) s = .next (renegotiate (v.toNat % 256) (v.toNat / 256 % 4) s) :=
  congrArg Host.Outcome.next (fbkCmdRow_of_op renegotiate hacc hfree hop)

/-! ### The pairs a command names -/

/-- A command that is not refused names pair 0, pair 1 or both. -/
theorem cmdPairs_cases {s : State} {n pair : Nat} {ks : List Nat} (h : cmdPairs s n pair = some ks) :
    ks = [0] ∨ ks = [1] ∨ ks = [0, 1] := by
  rw [cmdPairs] at h
  split at h
  · exact absurd h (by simp)
  · split at h
    · exact .inl (Option.some.inj h).symm
    · cases h0 : pair.testBit 0 <;> cases h1 : pair.testBit 1 <;>
        simp only [List.filter_cons, List.filter_nil, h0, h1] at h <;>
        simp at h
      · exact .inr (.inl h.2.symm)
      · exact .inl h.2.symm
      · exact .inr (.inr h.2.symm)

/-- A change of each named pair of channel n. -/
def pairsMod (n : Nat) (g : FbPair → FbPair) (ks : List Nat) (s : State) : State :=
  s.forL ks (fun k t => t.modFb n (fun f => setPairK k (g (pairOf f k)) f))

theorem fbTurn_pairsMod (n : Nat) (g : FbPair → FbPair) (ks : List Nat) (s : State) : FbTurn n [] s (pairsMod n g ks s) :=
  State.forL_rel FbTurn.refl (fun _ _ _ => FbTurn.trans) (fun _ _ t => FbTurn.modFb _ t) s

theorem pairOf_pairsMod (n : Nat) (g : FbPair → FbPair) {ks : List Nat} (hks : ks = [0] ∨ ks = [1] ∨ ks = [0, 1]) (s : State) {k : Nat}
    (hk : k < 2) : pairOf ((pairsMod n g ks s).fb n) k = if ks.contains k then g (pairOf (s.fb n) k) else pairOf (s.fb n) k := by
  obtain rfl | rfl : k = 0 ∨ k = 1 := by omega
  all_goals
    obtain rfl | rfl | rfl := hks
    all_goals simp [pairsMod, State.forL, State.fb_modFb_same, setPairK, pairOf]

theorem armOnce_of_none {s : State} {n pair : Nat} (h : cmdPairs s n pair = none) : armOnce n pair s = fbkReject s := by
  rw [armOnce, h]

theorem armOnce_of_some {s : State} {n pair : Nat} {ks : List Nat} (h : cmdPairs s n pair = some ks) :
    armOnce n pair s = pairsMod n (fun p => { p with once := true }) ks s := by
  rw [armOnce, h]
  rfl

theorem fbkReject_spec (s : State) : (fbkReject s).flag F.FBK_EVENT.CMD_REJ = true ∧ OnlyRegs [Reg.FBK_EVENT] s (fbkReject s) :=
  ⟨State.flag_ev_self (by decide) (by decide) s, onlyRegs_of_changesOnly (changesOnly_ev (by simp) s)⟩

/-! ### Clearing a signal fault (R307, R310) -/

/-- A pair without its signal fault. -/
def pairCleared (p : FbPair) : FbPair := { p with sigf := false, viol := 0, started := p.started && !p.sigf }

/-- Named pairs of channel n cleared, the period method restarted. -/
def sigfCleared (n : Nat) (ks : List Nat) (s : State) : State :=
  perRestart n s.nowNs ((pairsMod n pairCleared ks s).put (F.FBK_CH_STAT.SIGF n) 0)

theorem fbTurn_sigfCleared (n : Nat) (ks : List Nat) (s : State) : FbTurn n [Reg.FBK_CH_STAT n] s (sigfCleared n ks s) :=
  (((fbTurn_pairsMod n pairCleared ks s).mono (by simp)).trans (.put (f := F.FBK_CH_STAT.SIGF n) (by simp) _ 0)).trans (.modFb _ _)

theorem fb_sigfCleared (n : Nat) (ks : List Nat) (s : State) :
    ((sigfCleared n ks s).fb n).pv = none ∧ ((sigfCleared n ks s).fb n).eT = s.nowNs ∧
      ∀ k, pairOf ((sigfCleared n ks s).fb n) k = pairOf ((pairsMod n pairCleared ks s).fb n) k := by
  rw [sigfCleared, perRestart, State.fb_modFb_same, State.fb_put]
  exact ⟨rfl, rfl, fun _ => rfl⟩

theorem sigf_sigfCleared (n : Nat) (ks : List Nat) (s : State) : (sigfCleared n ks s).get (F.FBK_CH_STAT.SIGF n) = 0 := by
  rw [sigfCleared, perRestart, State.get_of_bus_eq (State.modFb_bus _ _ _)]
  exact State.get_put_zero (by decide) (by decide) _ _

theorem doorUnref_frame (n : Nat) (s : State) : doorUnref n s = { s with doors := (doorUnref n s).doors } := by
  refine State.forN_rel (R := fun s t => t = { s with doors := t.doors }) (fun _ => rfl) (fun s t u hst htu => by rw [htu, hst])
    (fun d _ t => ?_) s
  split
  · rfl
  · rfl

theorem doorUnref_of_section (n : Nat) {s : State} (h : isCar s = false) : doorUnref n s = s :=
  State.forN_eq_self fun d _ => if_neg (by simp [h])

theorem clearSigf_of_none {s : State} {n pair : Nat} (h : cmdPairs s n pair = none) : clearSigf n pair s = fbkReject s := by
  rw [clearSigf, h]

theorem clearSigf_of_refused {s : State} {n pair : Nat} {ks : List Nat} (h : cmdPairs s n pair = some ks) (hlink : n < 128)
    (hsection : isSection s = true) (hpair : ∃ k, k ∈ ks ∧ ((pairOf (s.fb n) k).present = true ∨ (pairOf (s.fb n) k).cover ≠ none)) :
    clearSigf n pair s = fbkReject s := by
  obtain ⟨k, hk, hcov⟩ := hpair
  have hany : (ks.any fun k => (pairOf (s.fb n) k).present || (pairOf (s.fb n) k).cover.isSome) = true := by
    refine List.any_eq_true.mpr ⟨k, hk, ?_⟩
    rw [Bool.or_eq_true, Option.isSome_iff_ne_none]
    exact hcov
  rw [clearSigf, h]
  dsimp only
  rw [hany, hsection, decide_eq_true hlink]
  rfl

/-- A signal fault that may be cleared is, and a door on a link channel that had one is unreferenced. -/
theorem clearSigf_of_ok {s : State} {n pair : Nat} {ks : List Nat} (h : cmdPairs s n pair = some ks)
    (hok : 128 ≤ n ∨ isSection s = false ∨ ∀ k, k ∈ ks → (pairOf (s.fb n) k).present = false ∧ (pairOf (s.fb n) k).cover = none) :
    clearSigf n pair s = (if (ks.any fun k => (pairOf (s.fb n) k).sigf) && decide (n < 128) then doorUnref n (sigfCleared n ks s)
      else sigfCleared n ks s) := by
  have hno : (decide (n < 128) && isSection s && ks.any fun k => (pairOf (s.fb n) k).present || (pairOf (s.fb n) k).cover.isSome) = false := by
    obtain hlink | hsec | hfree := hok
    · rw [decide_eq_false (by omega), Bool.false_and, Bool.false_and]
    · rw [hsec, Bool.and_false, Bool.false_and]
    · have hnone : (ks.any fun k => (pairOf (s.fb n) k).present || (pairOf (s.fb n) k).cover.isSome) = false := by
        refine List.any_eq_false.mpr fun k hk => ?_
        obtain ⟨hpresent, hcover⟩ := hfree k hk
        rw [hpresent, hcover]
        simp
      rw [hnone, Bool.and_false]
  rw [clearSigf, h]
  dsimp only
  rw [hno]
  rfl

/-- What holds of a cleared channel holds with its doors unreferenced too. -/
theorem sigfCleared_spec (n : Nat) {ks : List Nat} (hks : ks = [0] ∨ ks = [1] ∨ ks = [0, 1]) (s : State) {t : State}
    (ht : t = { sigfCleared n ks s with doors := t.doors }) (hdoors : (128 ≤ n ∨ isCar s = false) → t.doors = s.doors) :
    t.get (F.FBK_CH_STAT.SIGF n) = 0 ∧ (t.fb n).pv = none ∧ (t.fb n).eT = s.nowNs ∧
      (∀ k, k ∈ ks → (pairOf (t.fb n) k).sigf = false ∧ (pairOf (t.fb n) k).viol = 0 ∧ (pairOf (t.fb n) k).cnt = (pairOf (s.fb n) k).cnt) ∧
      (∀ k, k < 2 → k ∉ ks → pairOf (t.fb n) k = pairOf (s.fb n) k) ∧ (∀ m, m ≠ n → t.fb m = s.fb m) ∧
      ((128 ≤ n ∨ isCar s = false) → t.doors = s.doors) ∧ RegsBut [Reg.FBK_CH_STAT n] s t ∧
      t = { s with bus := t.bus, doors := t.doors, fbk := { s.fbk with chans := t.fbk.chans } } := by
  have hlt : ∀ k, k ∈ ks → k < 2 := by
    intro k hk
    obtain rfl | rfl | rfl := hks
    all_goals simp at hk; omega
  obtain ⟨hothers, hregs, hframe⟩ := fbTurn_sigfCleared n ks s
  obtain ⟨hpv, hedge, hpairs⟩ := fb_sigfCleared n ks s
  have hzero := sigf_sigfCleared n ks s
  have hmod := fun k (hk : k < 2) => (hpairs k).trans (pairOf_pairsMod n pairCleared hks s hk)
  generalize sigfCleared n ks s = u at *
  have hbus : t.bus = u.bus := by rw [ht]
  have hfb : ∀ m, t.fb m = u.fb m := State.fb_of_fbk_eq (by rw [ht])
  refine ⟨(State.get_of_bus_eq hbus _).trans hzero, by rw [hfb, hpv], by rw [hfb, hedge], fun k hk => ?_, fun k hk hmem => ?_,
    fun m hm => (hfb m).trans (hothers m hm), hdoors, hregs.of_bus_eq hbus, ?_⟩
  · rw [hfb, hmod k (hlt k hk), if_pos (List.contains_iff_mem.mpr hk)]
    exact ⟨rfl, rfl, rfl⟩
  · rw [hfb, hmod k hk, if_neg (fun h => hmem (List.contains_iff_mem.mp h))]
  · rw [ht, hframe]

/-! ### Serial ports: STATE and a new negotiation (R331, R332) -/

theorem serState_put_rate (p v : Nat) (s : State) : serState (s.put (F.FBK_PORT_STAT.RATE p) v) p = serState s p :=
  State.get_put_disjoint (by decide) (by decide) (by decide) s _ v

/-- What a change of STATE does. -/
theorem setSerState_spec {p v : Nat} (hv : v < 8) (s : State) :
    (setSerState p v s).get (F.FBK_PORT_STAT.STATE p) = v ∧
      (setSerState p v s).get (F.FBK_PORT_STAT.RATE p) = s.get (F.FBK_PORT_STAT.RATE p) ∧
      (setSerState p v s).get (F.FBK_PORT_STAT.LOSS p) = s.get (F.FBK_PORT_STAT.LOSS p) ∧
      OnlyRegs [Reg.FBK_PORT_STAT p, Reg.FBK_EVENT] s (setSerState p v s) := by
  have haddr : 0x40062608 + 0x20 * p ≠ 0x40062450 := by omega
  rw [setSerState]
  split
  next h => exact ⟨h, rfl, rfl, onlyRegs_of_changesOnly (.refl _ s)⟩
  next h =>
    refine ⟨?_, ?_, ?_, onlyRegs_of_changesOnly ((changesOnly_put (by simp) s v).trans (changesOnly_ev (by simp) _))⟩
    · rw [State.get_ev_other haddr, State.get_put_self (by decide) (by decide)]
      exact Nat.mod_eq_of_lt hv
    · rw [State.get_ev_other haddr, State.get_put_disjoint (by decide) (by decide) (by decide)]
    · rw [State.get_ev_other haddr, State.get_put_disjoint (by decide) (by decide) (by decide)]

/-- Only serial port p changed, and of the registers only those of `l`. -/
def SerTurn (p : Nat) (l : List Nat) (s t : State) : Prop :=
  (∀ q, q ≠ p → t.ser q = s.ser q) ∧ (∀ n, t.fb n = s.fb n) ∧ RegsBut l s t ∧
    t = { s with bus := t.bus, fbk := { s.fbk with ports := t.fbk.ports } }

namespace SerTurn

variable {p : Nat} {l : List Nat}

theorem trans {s t u : State} (hst : SerTurn p l s t) (htu : SerTurn p l t u) : SerTurn p l s u := by
  obtain ⟨hser, hfb, hregs, hframe⟩ := hst
  obtain ⟨hser', hfb', hregs', hframe'⟩ := htu
  exact ⟨fun q hq => (hser' q hq).trans (hser q hq), fun n => (hfb' n).trans (hfb n), hregs.trans hregs', by rw [hframe', hframe]⟩

theorem put {f : FRef} (hf : f.addr ∈ l) (s : State) (v : Nat) : SerTurn p l s (s.put f v) :=
  ⟨fun q _ => State.ser_put s f v q, fun n => State.fb_put s f v n, regsBut_put hf s v, rfl⟩

theorem modSer (f : SerPort → SerPort) (s : State) : SerTurn p l s (s.modSer p f) :=
  ⟨fun q hq => State.ser_modSer_ne s p q f hq, fun n => State.fb_modSer s p n f, regsBut_of_regs_eq l rfl, rfl⟩

theorem of_onlyRegs {s t : State} (h : OnlyRegs l s t) : SerTurn p l s t := by
  obtain ⟨hregs, -, hframe⟩ := h
  have hfbk : t.fbk = s.fbk := by rw [hframe]
  exact ⟨fun q _ => State.ser_of_fbk_eq hfbk q, State.fb_of_fbk_eq hfbk, hregs, by rw [hframe]⟩

end SerTurn

theorem ser_setSerState (p v q : Nat) (s : State) : (setSerState p v s).ser q = s.ser q := by
  rw [setSerState]
  split
  · rfl
  · rw [State.ser_ev, State.ser_put]

/-- A new negotiation of a port (R332, R338). -/
theorem negotiate_spec (p : Nat) (s : State) :
    (negotiate p s).get (F.FBK_PORT_STAT.RATE p) = 0 ∧ ((negotiate p s).ser p).busy = false ∧
      (s.get (F.FBK_PORT_CFG.MODE p) = 2 → (negotiate p s).get (F.FBK_PORT_STAT.STATE p) = 3 ∧ ((negotiate p s).ser p).nego = none) ∧
      (s.get (F.FBK_PORT_CFG.MODE p) ≠ 2 → (negotiate p s).get (F.FBK_PORT_STAT.STATE p) = 1 ∧
        ((negotiate p s).ser p).nego = some (.hold s.tb.tick) ∧ ((negotiate p s).ser p).code = s.get (F.FBK_PORT_CFG.RATE_MAX p)) ∧
      SerTurn p [Reg.FBK_PORT_STAT p, Reg.FBK_EVENT] s (negotiate p s) := by
  have hrate : ∀ f, ((s.put (F.FBK_PORT_STAT.RATE p) 0).modSer p f).get (F.FBK_PORT_STAT.RATE p) = 0 := fun f =>
    (State.get_of_bus_eq (State.modSer_bus _ _ _) _).trans (State.get_put_zero (by decide) (by decide) _ _)
  have hturn : ∀ f, SerTurn p [Reg.FBK_PORT_STAT p, Reg.FBK_EVENT] s ((s.put (F.FBK_PORT_STAT.RATE p) 0).modSer p f) := fun f =>
    (SerTurn.put (f := F.FBK_PORT_STAT.RATE p) (by simp) s 0).trans (.modSer f _)
  rw [negotiate]
  split
  next hmode =>
    obtain ⟨hstate, hrate', -, hregs⟩ := setSerState_spec (p := p) (v := 3) (by decide) ((s.put (F.FBK_PORT_STAT.RATE p) 0).modSer p
      (fun x => { x with nego := none, busy := false, idle := if x.busy then clockWait s p else x.idle }))
    refine ⟨hrate'.trans (hrate _), ?_, fun _ => ⟨hstate, ?_⟩, fun hne => absurd hmode hne, (hturn _).trans (.of_onlyRegs hregs)⟩
    · rw [ser_setSerState, State.ser_modSer_same]
    · rw [ser_setSerState, State.ser_modSer_same]
  next hmode =>
    obtain ⟨hstate, hrate', -, hregs⟩ := setSerState_spec (p := p) (v := 1) (by decide) ((s.put (F.FBK_PORT_STAT.RATE p) 0).modSer p
      (fun x => { x with nego := some (.hold s.tb.tick), code := s.get (F.FBK_PORT_CFG.RATE_MAX p), busy := false }))
    refine ⟨hrate'.trans (hrate _), ?_, fun he => absurd he hmode, fun _ => ⟨hstate, ?_, ?_⟩, (hturn _).trans (.of_onlyRegs hregs)⟩
    all_goals rw [ser_setSerState, State.ser_modSer_same]

theorem renegotiate_of_clocking {s : State} {n pair p : Nat} (hp : p < 8) (hn : n = 136 + p) (hclocks : portClocks s p = true) :
    renegotiate n pair s = negotiate p s := by
  subst hn
  rw [renegotiate, if_pos (by omega), Nat.add_sub_cancel_left, if_pos hclocks]

/-! ### Analog samples (R308, R313, R317) -/

/-- Violations of a pair after a sample. -/
def violOf (s : State) (n : Nat) (amp d : Int) : Nat :=
  if (s.fb n).p0.sigf then (s.fb n).p0.viol else if ampViolation s n amp d then (s.fb n).p0.viol + 1 else 0

/-- The sample raises the signal fault. -/
def faultOf (s : State) (n : Nat) (amp d : Int) : Bool := !(s.fb n).p0.sigf && decide (3 ≤ violOf s n amp d)

/-- The sample counted. -/
def sampleCounted (n : Nat) (amp d : Int) (s : State) : State :=
  (s.modFb n (fun x => { x with moved := x.moved + d, p0 := { x.p0 with
    cnt := (s.fb n).p0.cnt + d, viol := violOf s n amp d, sigf := x.p0.sigf || faultOf s n amp d } })).putB
      (F.FBK_CH_STAT.ALIAS n) (decide (6144 ≤ d.natAbs))

/-- A fault of the sample told. -/
def faultTold (n : Nat) (fault : Bool) (s : State) : State := if fault then sigfRaise n s else s

/-- An edge of the sample taken. -/
def edgeTaken (n t : Nat) (c d : Int) (s : State) : State := if d = 0 then s else perEdge n t c (decide (d < 0)) s

theorem analogSample_eq {s : State} {a : Nat} {x y : Int} (ref : Bool) {d : Int} (hon : s.servoOn = true) (hen : fbEn s (128 + a) = true)
    (hd : d = if (s.fb (128 + a)).p0.sigf then 0 else phaseDelta (s.fb (128 + a)).p0.cnt x y) :
    let c := (s.fb (128 + a)).p0.cnt + d
    let u := faultTold (128 + a) (faultOf s (128 + a) (x * x + y * y) d) (sampleCounted (128 + a) (x * x + y * y) d s)
    let w := edgeTaken (128 + a) s.nowNs c d u
    analogSample a x y ref s = if ref then idxResult (128 + a) ((wdi c).toNat : Int) w else w := by
  subst hd
  dsimp only
  rw [analogSample, hon, hen]
  rfl

theorem fb_sampleCounted (n : Nat) (amp d : Int) (s : State) :
    ((sampleCounted n amp d s).fb n).moved = (s.fb n).moved + d ∧ ((sampleCounted n amp d s).fb n).p0 = { (s.fb n).p0 with
      cnt := (s.fb n).p0.cnt + d, viol := violOf s n amp d, sigf := (s.fb n).p0.sigf || faultOf s n amp d } := by
  rw [sampleCounted, State.putB, State.fb_put, State.fb_modFb_same]
  exact ⟨rfl, rfl⟩

/-- The registers a sample may change before its index result. -/
abbrev sampleRegs (n : Nat) : List Nat :=
  [Reg.FBK_CH_STAT n, Reg.FBK_SIGF_MAP (n / 32), Reg.FBK_DIR_MAP (n / 32), Reg.FBK_EVENT]

theorem fbTurn_sampleCounted (n : Nat) (amp d : Int) (s : State) : FbTurn n (sampleRegs n) s (sampleCounted n amp d s) :=
  (FbTurn.modFb _ s).trans (.put (f := F.FBK_CH_STAT.ALIAS n) (by simp) _ _)

theorem faultTold_spec {n : Nat} (hn : n < 144) (fault : Bool) (s : State) :
    FbTurn n (sampleRegs n) s (faultTold n fault s) ∧ (faultTold n fault s).fb n = s.fb n ∧
      (fault = true → (faultTold n fault s).flag (F.FBK_CH_STAT.SIGF n) = true ∧ (faultTold n fault s).flag F.FBK_EVENT.SIGF = true ∧
        (faultTold n fault s).bit (F.FBK_SIGF_MAP.MAP (n / 32)) (n % 32) = true) := by
  rw [faultTold]
  split
  next =>
    obtain ⟨hturn, hfb, hstat, hevent, hmap⟩ := sigfRaise_spec hn s
    refine ⟨hturn.mono fun a ha => ?_, hfb n, fun _ => ⟨hstat, hevent, hmap⟩⟩
    simp only [List.mem_cons, List.not_mem_nil, or_false] at ha ⊢
    tauto
  next h => exact ⟨.refl s, rfl, fun ht => absurd ht h⟩

theorem edgeTaken_spec (n t : Nat) (c d : Int) (s : State) :
    FbTurn n [Reg.FBK_DIR_MAP (n / 32), Reg.FBK_EVENT] s (edgeTaken n t c d s) ∧
      (edgeTaken n t c d s).flag F.FBK_EVENT.SIGF = s.flag F.FBK_EVENT.SIGF ∧
      ((edgeTaken n t c d s).fb n).p0 = (s.fb n).p0 ∧ ((edgeTaken n t c d s).fb n).moved = (s.fb n).moved := by
  rw [edgeTaken]
  split
  · exact ⟨.refl s, rfl, rfl, rfl⟩
  · obtain ⟨hturn, hsigf, hp0, hmoved, -⟩ := perEdge_spec n t c (decide (d < 0)) s
    exact ⟨hturn, hsigf, hp0, hmoved⟩

/-- What a sample leaves before its index result: the count, the fault it raised, and the index pair as it stood. -/
theorem sampleTaken_spec {n : Nat} (hn : n < 144) (amp c d : Int) (t : Nat) (s : State) :
    let u := faultTold n (faultOf s n amp d) (sampleCounted n amp d s)
    let w := edgeTaken n t c d u
    (w.fb n).moved = (s.fb n).moved + d ∧ (w.fb n).p0 = { (s.fb n).p0 with
        cnt := (s.fb n).p0.cnt + d, viol := violOf s n amp d, sigf := (s.fb n).p0.sigf || faultOf s n amp d } ∧
      (faultOf s n amp d = true → w.flag (F.FBK_CH_STAT.SIGF n) = true ∧ w.flag F.FBK_EVENT.SIGF = true ∧
        w.bit (F.FBK_SIGF_MAP.MAP (n / 32)) (n % 32) = true) ∧
      FbTurn n (sampleRegs n) s w := by
  obtain ⟨hmoved1, hp1⟩ := fb_sampleCounted n amp d s
  have hturn1 := fbTurn_sampleCounted n amp d s
  obtain ⟨hturn2, hfb2, hfault⟩ := faultTold_spec hn (faultOf s n amp d) (sampleCounted n amp d s)
  obtain ⟨hturn3, hsigf3, hp3, hmoved3⟩ := edgeTaken_spec n t c d (faultTold n (faultOf s n amp d) (sampleCounted n amp d s))
  have hstat1 : 0x40060018 + 0x40 * n ≠ 0x40062460 + 0x4 * (n / 32) := by omega
  have hstat2 : 0x40060018 + 0x40 * n ≠ 0x40062450 := by omega
  have hmap2 : 0x40062480 + 0x4 * (n / 32) ≠ 0x40062450 := by omega
  dsimp only
  generalize sampleCounted n amp d s = x at *
  generalize faultTold n (faultOf s n amp d) x = u at *
  refine ⟨by rw [hmoved3, hfb2, hmoved1], by rw [hp3, hfb2, hp1], fun hf => ?_, hturn1.trans (hturn2.trans (hturn3.mono (by simp)))⟩
  obtain ⟨hstat, hevent, hmap⟩ := hfault hf
  refine ⟨(flag_of_reg_eq (hturn3.2.1 _ (by simpa using ⟨hstat1, hstat2⟩))).trans hstat, hsigf3.trans hevent, ?_⟩
  rw [State.bit, State.get_of_reg_eq (hturn3.2.1 _ (by simpa using hmap2))]
  exact hmap

theorem faultOf_iff {s : State} {n : Nat} {amp d : Int} (hsigf : (s.fb n).p0.sigf = false) (hviol : ampViolation s n amp d = true) :
    faultOf s n amp d = true ↔ 2 ≤ (s.fb n).p0.viol := by
  simp [faultOf, violOf, hsigf, hviol]

/-- A sample told in the words of the claim. -/
theorem analogSample_spec {s : State} {a : Fin 8} {x y : Int} (ref : Bool) {n : Nat} {d : Int} (hn : n = 128 + a.val)
    (hon : s.servoOn = true) (hen : fbEn s n = true) (hd : d = if (s.fb n).p0.sigf then 0 else phaseDelta (s.fb n).p0.cnt x y) :
    let t := analogSample a.val x y ref s
    (t.fb n).p0.cnt = (s.fb n).p0.cnt + d ∧ (t.fb n).moved = (s.fb n).moved + d ∧ ((s.fb n).p0.sigf = true → (t.fb n).p0 = (s.fb n).p0) ∧
      ((s.fb n).p0.sigf = false → ampViolation s n (x * x + y * y) d = false → (t.fb n).p0.viol = 0 ∧ (t.fb n).p0.sigf = false) ∧
      ((s.fb n).p0.sigf = false → ampViolation s n (x * x + y * y) d = true → (t.fb n).p0.viol = (s.fb n).p0.viol + 1 ∧
        ((t.fb n).p0.sigf = true ↔ 2 ≤ (s.fb n).p0.viol) ∧ (2 ≤ (s.fb n).p0.viol → t.flag (F.FBK_CH_STAT.SIGF n) = true ∧
          t.flag F.FBK_EVENT.SIGF = true ∧ t.bit (F.FBK_SIGF_MAP.MAP (n / 32)) (n % 32) = true)) ∧
      (ref = true → t.reg (Reg.FBK_CH_IDX_LO n) = wdi ((s.fb n).p0.cnt + d) ∧
        t.get (F.FBK_CH_IDX_HI.TAG n) = (s.get (F.FBK_CH_IDX_HI.TAG n) + 1) % 4 ∧ t.flag F.FBK_EVENT.IDX = true) ∧
      (ref = false → t.pair (Reg.FBK_CH_IDX_LO n) = s.pair (Reg.FBK_CH_IDX_LO n)) ∧ (∀ m, m ≠ n → t.fb m = s.fb m) ∧
      t = { s with bus := t.bus, fbk := { s.fbk with chans := t.fbk.chans } } := by
  have hlt : n < 144 := by omega
  have hsample := analogSample_eq (x := x) (y := y) (d := d) ref hon (hn ▸ hen) (hn ▸ hd)
  rw [← hn] at hsample
  obtain ⟨hmoved, hp0, hfault, hturn⟩ := sampleTaken_spec hlt (x * x + y * y) ((s.fb n).p0.cnt + d) d s.nowNs s
  dsimp only at hsample hmoved hp0 hfault hturn ⊢
  rw [hsample]
  generalize edgeTaken n s.nowNs ((s.fb n).p0.cnt + d) d (faultTold n (faultOf s n (x * x + y * y) d)
    (sampleCounted n (x * x + y * y) d s)) = w at *
  obtain ⟨hidxTurn, hidxFb, hidxLo, hidxTag, hidxEvent, hidxSigf⟩ := idxResult_spec hlt ((s.fb n).p0.cnt + d) w
  have hidx : ∀ b, b = 0x4006002c + 0x40 * n ∨ b = 0x40060030 + 0x40 * n → w.reg b = s.reg b := by
    intro b hb
    have h1 : b ≠ 0x40060018 + 0x40 * n := by omega
    have h2 : b ≠ 0x40062480 + 0x4 * (n / 32) := by omega
    have h3 : b ≠ 0x40062460 + 0x4 * (n / 32) := by omega
    have h4 : b ≠ 0x40062450 := by omega
    exact hturn.2.1 b (by simpa using ⟨h1, h2, h3, h4⟩)
  have hfb : ((if ref then idxResult n ((wdi ((s.fb n).p0.cnt + d)).toNat : Int) w else w).fb n) = w.fb n := by
    split
    · exact hidxFb n
    · rfl
  have hmark : faultOf s n (x * x + y * y) d = true →
      (if ref then idxResult n ((wdi ((s.fb n).p0.cnt + d)).toNat : Int) w else w).flag (F.FBK_CH_STAT.SIGF n) = true ∧
      (if ref then idxResult n ((wdi ((s.fb n).p0.cnt + d)).toNat : Int) w else w).flag F.FBK_EVENT.SIGF = true ∧
      (if ref then idxResult n ((wdi ((s.fb n).p0.cnt + d)).toNat : Int) w else w).bit (F.FBK_SIGF_MAP.MAP (n / 32)) (n % 32) = true := by
    intro hf
    obtain ⟨hstat, hevent, hmap⟩ := hfault hf
    split
    · have hs1 : 0x40060018 + 0x40 * n ≠ 0x400624a0 + 0x4 * (n / 32) := by omega
      have hs2 : 0x40060018 + 0x40 * n ≠ 0x40062450 := by omega
      have hs3 : 0x40060018 + 0x40 * n ≠ 0x4006002c + 0x40 * n := by omega
      have hs4 : 0x40060018 + 0x40 * n ≠ 0x4006002c + 0x40 * n + 4 := by omega
      have hm2 : 0x40062480 + 0x4 * (n / 32) ≠ 0x40062450 := by omega
      have hm3 : 0x40062480 + 0x4 * (n / 32) ≠ 0x4006002c + 0x40 * n := by omega
      have hm4 : 0x40062480 + 0x4 * (n / 32) ≠ 0x4006002c + 0x40 * n + 4 := by omega
      have hm1 : 0x40062480 + 0x4 * (n / 32) ≠ 0x400624a0 + 0x4 * (n / 32) := by omega
      refine ⟨(flag_of_reg_eq (hidxTurn.2.1 _ fun h => ?_)).trans hstat, hidxSigf.trans hevent, ?_⟩
      · simp only [List.mem_cons, List.not_mem_nil, or_false] at h
        exact h.elim hs3 fun h => h.elim hs4 fun h => h.elim hs1 hs2
      · rw [State.bit, State.get_of_reg_eq (hidxTurn.2.1 _ fun h => ?_)]
        · exact hmap
        · simp only [List.mem_cons, List.not_mem_nil, or_false] at h
          exact h.elim hm3 fun h => h.elim hm4 fun h => h.elim hm1 hm2
    · exact ⟨hstat, hevent, hmap⟩
  refine ⟨by rw [hfb, hp0], by rw [hfb, hmoved], fun hs => ?_, fun hs hv => ?_, fun hs hv => ⟨?_, ?_, fun h2 => hmark ((faultOf_iff hs hv).mpr h2)⟩,
    fun hr => ?_, fun hr => ?_, fun m hm => ?_, ?_⟩
  · have hviol : violOf s n (x * x + y * y) d = (s.fb n).p0.viol := if_pos hs
    have hno : faultOf s n (x * x + y * y) d = false := by rw [faultOf, hs]; rfl
    rw [if_pos hs] at hd
    rw [hfb, hp0, hviol, hno, hd, Bool.or_false, Int.add_zero]
  · rw [hfb, hp0]
    simp [violOf, faultOf, hs, hv]
  · rw [hfb, hp0]
    simp [violOf, hs, hv]
  · rw [hfb, hp0, hs, Bool.false_or]
    exact faultOf_iff hs hv
  · rw [if_pos hr]
    exact ⟨hidxLo, hidxTag.trans (by rw [State.get_of_reg_eq (hidx _ (.inr rfl))]), hidxEvent⟩
  · rw [if_neg (by simp [hr]), State.pair, State.pair]
    have hlo : w.reg (Reg.FBK_CH_IDX_LO n) = s.reg (Reg.FBK_CH_IDX_LO n) := hidx _ (.inl rfl)
    have hhi : w.reg (Reg.FBK_CH_IDX_LO n + 4) = s.reg (Reg.FBK_CH_IDX_LO n + 4) :=
      hidx (0x4006002c + 0x40 * n + 4) (.inr (by omega))
    rw [hlo, hhi]
  · split
    · exact (hidxFb m).trans (hturn.1 m hm)
    · exact hturn.1 m hm
  · obtain ⟨-, -, hframe⟩ := hturn
    obtain ⟨-, -, hframe'⟩ := hidxTurn
    split
    · rw [hframe', hframe]
    · rw [hframe]

/-- Settles O35: arming and clearing by pairs, a new negotiation, and one analog sample. -/
theorem feedbackCommandsAndAnalogSamples : Obligations.FeedbackCommandsAndAnalogSamples := by
  refine ⟨?commands, ?ports, ?samples⟩
  case commands =>
    rintro s core v n i hacc hfree rfl hi
    refine ⟨fun hnone => ?refused, fun ks hks => ⟨fun hop => ?arm, fun hop => ⟨fun hlink hsec hpair => ?kept, fun hok => ?cleared⟩⟩⟩
    case refused =>
      obtain ⟨rfl, hop⟩ | ⟨rfl, hop⟩ := hi
      · exact ⟨_, exec_fbkArmOnceIndex hacc hfree hop, by rw [armOnce_of_none hnone]; exact fbkReject_spec s⟩
      · exact ⟨_, exec_fbkClearSignalFault hacc hfree hop, by rw [clearSigf_of_none hnone]; exact fbkReject_spec s⟩
    case arm =>
      obtain ⟨rfl, -⟩ | ⟨-, hop'⟩ := hi
      · refine ⟨_, exec_fbkArmOnceIndex hacc hfree hop, ?_⟩
        rw [armOnce_of_some hks]
        obtain ⟨hothers, hregs, hframe⟩ := fbTurn_pairsMod (v.toNat % 256) (fun p => { p with once := true }) ks s
        refine ⟨fun k hk => ?_, hothers, hregs, hframe⟩
        rw [pairOf_pairsMod _ _ (cmdPairs_cases hks) s hk]
        cases ks.contains k <;> simp
      · omega
    all_goals obtain ⟨-, hop'⟩ | ⟨rfl, -⟩ := hi
    case kept.inl => omega
    case cleared.inl => omega
    case kept.inr =>
      exact ⟨_, exec_fbkClearSignalFault hacc hfree hop, by rw [clearSigf_of_refused hks hlink hsec hpair]; exact fbkReject_spec s⟩
    case cleared.inr =>
      refine ⟨_, exec_fbkClearSignalFault hacc hfree hop, ?_⟩
      rw [clearSigf_of_ok hks hok]
      have hdoors : (sigfCleared (v.toNat % 256) ks s).doors = s.doors := by rw [(fbTurn_sigfCleared (v.toNat % 256) ks s).2.2]
      have hcar : isCar (sigfCleared (v.toNat % 256) ks s) = isCar s := by rw [(fbTurn_sigfCleared (v.toNat % 256) ks s).2.2]; rfl
      split
      next h =>
        have hlink : v.toNat % 256 < 128 := of_decide_eq_true (Bool.and_eq_true_iff.mp h).2
        refine sigfCleared_spec (v.toNat % 256) (cmdPairs_cases hks) s (doorUnref_frame _ _) fun hcase => ?_
        obtain hge | hsec := hcase
        · omega
        · rw [doorUnref_of_section _ (hcar.trans hsec), hdoors]
      next => exact sigfCleared_spec (v.toNat % 256) (cmdPairs_cases hks) s rfl fun _ => hdoors
  case ports =>
    intro s core v p hacc hfree hop hp hn hclocks
    refine ⟨_, exec_fbkRenegotiatePort hacc hfree hop, ?_⟩
    rw [renegotiate_of_clocking hp hn hclocks]
    obtain ⟨hrate, hbusy, hssi, hksp, hothers, -, hregs, -⟩ := negotiate_spec p s
    exact ⟨hrate, hbusy, hssi, hksp, hothers, hregs⟩
  case samples =>
    rintro s a x y ref n f d hn rfl hon hen hd
    exact ⟨_, rfl, analogSample_spec ref hn hon hen hd⟩

end Sys2Proof.Machine
end

section
/-!
PROOF. Serial ports: KSP negotiation, POS transactions and SSI transfers (10 R327 to R339).
-/

namespace Sys2Proof.Machine

open Sys2Proof

theorem State.get_incSat_self {hi lo : Nat} (hb : lo ≤ hi) (h31 : hi < 32) (s : State) (a : Nat) :
    (s.incSat ⟨a, ⟨hi, lo⟩⟩).get ⟨a, ⟨hi, lo⟩⟩ = min (2 ^ (hi + 1 - lo) - 1) (s.get ⟨a, ⟨hi, lo⟩⟩ + 1) := by
  rw [State.incSat, State.get_put_self hb h31, satN]
  have hpos : 0 < 2 ^ (hi + 1 - lo) := Nat.two_pow_pos _
  exact Nat.mod_eq_of_lt (Nat.lt_of_le_of_lt (Nat.min_le_left _ _) (Nat.sub_lt hpos Nat.one_pos))

theorem FbTurn.conf {n : Nat} {l : List Nat} {s t : State} (h : FbTurn n l s t) : t.conf = s.conf := by rw [h.2.2]

theorem FbTurn.ports {n : Nat} {l : List Nat} {s t : State} (h : FbTurn n l s t) : t.fbk.ports = s.fbk.ports := by rw [h.2.2]

namespace SerTurn

variable {p : Nat} {l : List Nat} {s t : State}

theorem refl (s : State) : SerTurn p l s s := ⟨fun _ _ => rfl, fun _ => rfl, .refl l s, rfl⟩

theorem mono {k : List Nat} (h : SerTurn p l s t) (hlk : ∀ a, a ∈ l → a ∈ k) : SerTurn p k s t := ⟨h.1, h.2.1, h.2.2.1.mono hlk, h.2.2.2⟩

theorem setReg {a : Nat} (ha : a ∈ l) (s : State) (w : Word) : SerTurn p l s (s.setReg a w) :=
  ⟨fun q _ => State.ser_of_fbk_eq (State.setReg_fbk _ _ _) q, State.fb_of_fbk_eq (State.setReg_fbk _ _ _), regsBut_setReg ha s w, rfl⟩

theorem tb (h : SerTurn p l s t) : t.tb = s.tb := by rw [h.2.2.2]

theorem reg (h : SerTurn p l s t) {a : Nat} (ha : a ∉ l) : t.reg a = s.reg a := h.2.2.1 a ha

end SerTurn

/-! ### A transaction ends (R327, R336) -/

/-- The clock stays high, and the response's WARN is taken. -/
def kspTaken (p : Nat) (r : KspResp) (s : State) : State := kspWarn p r (s.modSer p (fun x => { x with idle := s.tb.tick + 250 }))

theorem kspTaken_eq (p : Nat) (r : KspResp) (s : State) : kspTaken p r s =
    if kspCame r then (s.modSer p (fun x => { x with idle := s.tb.tick + 250 })).putB (F.FBK_CH_STAT.WARN (serChan p)) r.warn
    else s.modSer p (fun x => { x with idle := s.tb.tick + 250 }) := rfl

theorem serTurn_kspTaken (p : Nat) (r : KspResp) (s : State) : SerTurn p [Reg.FBK_CH_STAT (136 + p)] s (kspTaken p r s) := by
  rw [kspTaken_eq]
  split
  · exact (SerTurn.modSer _ s).trans (.put (f := F.FBK_CH_STAT.WARN (serChan p)) (by simp [serChan]) _ _)
  · exact .modSer _ s

theorem ser_kspTaken (p : Nat) (r : KspResp) (s : State) : (kspTaken p r s).ser p = { s.ser p with idle := s.tb.tick + 250 } := by
  rw [kspTaken_eq]
  split
  · rw [State.putB, State.ser_put, State.ser_modSer_same]
  · rw [State.ser_modSer_same]

theorem warn_kspTaken {p : Nat} {r : KspResp} (hvalid : kspValid r = true) (s : State) :
    (kspTaken p r s).flag (F.FBK_CH_STAT.WARN (136 + p)) = r.warn := by
  rw [kspTaken_eq, if_pos (Bool.and_eq_true_iff.mp hvalid).1]
  have hbit : b2n r.warn < 2 := by cases r.warn <;> decide
  rw [State.putB, serChan, State.flag, State.get_put_self (by decide) (by decide)]
  cases r.warn <;> rfl

theorem portStat_kspTaken {p : Nat} (hp : p < 8) (r : KspResp) (s : State) (b : Bits) :
    (kspTaken p r s).get ⟨Reg.FBK_PORT_STAT p, b⟩ = s.get ⟨Reg.FBK_PORT_STAT p, b⟩ := by
  have haddr : 0x40062608 + 0x20 * p ≠ 0x40060018 + 0x40 * (136 + p) := by omega
  exact State.get_of_reg_eq ((serTurn_kspTaken p r s).reg (by simpa using haddr))

theorem roped_kspTaken (p : Nat) (r : KspResp) (s : State) :
    (kspTaken p r s).flag F.FBK_ROPED.EN = s.flag F.FBK_ROPED.EN := by
  have haddr : (0x40062408 : Nat) ≠ 0x40060018 + 0x40 * (136 + p) := by omega
  exact flag_of_reg_eq ((serTurn_kspTaken p r s).reg (by simpa using haddr))

theorem kspDone_of_ident {s : State} {p tries : Nat} (r : KspResp) (h : (s.ser p).nego = some (.ident tries)) :
    kspDone p r s = identDone p tries r (kspTaken p r s) := by
  rw [kspDone, if_pos (by rw [kspRuns, h]), h]
  rfl

theorem kspDone_of_rate {s : State} {p : Nat} (r : KspResp) (h : (s.ser p).nego = some .rate) :
    kspDone p r s = rateDone p r (kspTaken p r s) := by
  rw [kspDone, if_pos (by rw [kspRuns, h]), h]
  rfl

theorem kspDone_of_verify {s : State} {p good : Nat} (r : KspResp) (h : (s.ser p).nego = some (.verify good)) :
    kspDone p r s = verifyDone p good r (kspTaken p r s) := by
  rw [kspDone, if_pos (by rw [kspRuns, h]), h]
  rfl

theorem kspDone_of_pos {s : State} {p : Nat} (r : KspResp) (h : (s.ser p).nego = none) (hstate : serState s p = 2)
    (hbusy : (s.ser p).busy = true) : kspDone p r s = posDone p r (kspTaken p r s) := by
  rw [kspDone, if_pos (by rw [kspRuns, h, hstate, hbusy]; rfl), h]
  rfl

/-- A transaction of a negotiation is no tape transfer. -/
theorem exec_kspTransactionDone_nego {s : State} {p : Fin 8} (r : KspResp) (h : (s.ser p.val).nego ≠ none) :
    exec (.kspTransactionDone p r) s = .next (kspDone p.val r s) := by
  refine congrArg Host.Outcome.next (if_neg ?_)
  simp [posBusy, Option.isNone_iff_eq_none, h]

/-! ### IDENT (R332, R333) -/

/-- What a valid IDENT leaves of a port whose roped source it is not. -/
def identKept (p : Nat) (r : KspResp) (s : State) : State :=
  ((s.setPair (Reg.FBK_PORT_ID_LO p) (r.data % 2 ^ 40)).modSer p (fun x => { x with lsb := r.data % 2 ^ 40 % 2 ^ 16 })).put
    (F.FBK_PORT_STAT.DELAY p) (satN 1023 (r.delay / 4))

theorem identTaken_eq {s : State} {p : Nat} (r : KspResp) (h : s.flag F.FBK_ROPED.EN = false) : identTaken p r s = identKept p r s :=
  if_neg (by simp [h])

theorem idHi_eq (p : Nat) : Reg.FBK_PORT_ID_LO p + 4 = Reg.FBK_PORT_ID_HI p := by
  have h : 0x4006260c + 0x20 * p + 4 = 0x40062610 + 0x20 * p := by omega
  exact h

theorem serTurn_identKept (p : Nat) (r : KspResp) (s : State) :
    SerTurn p [Reg.FBK_PORT_ID_LO p, Reg.FBK_PORT_ID_HI p, Reg.FBK_PORT_STAT p] s (identKept p r s) := by
  rw [identKept, State.setPair, idHi_eq]
  exact (((SerTurn.setReg (a := Reg.FBK_PORT_ID_LO p) (by simp) s _).trans (.setReg (a := Reg.FBK_PORT_ID_HI p) (by simp) _ _)).trans
    (.modSer _ _)).trans (.put (f := F.FBK_PORT_STAT.DELAY p) (by simp) _ _)

theorem ser_identKept (p : Nat) (r : KspResp) (s : State) : (identKept p r s).ser p = { s.ser p with lsb := r.data % 2 ^ 16 } := by
  have hlsb : r.data % 2 ^ 40 % 2 ^ 16 = r.data % 2 ^ 16 := by omega
  rw [identKept, State.ser_put, State.ser_modSer_same, hlsb, State.setPair,
    State.ser_of_fbk_eq ((State.setReg_fbk _ _ _).trans (State.setReg_fbk _ _ _))]

theorem delay_identKept (p : Nat) {r : KspResp} (h : r.delay ≤ 500) (s : State) :
    (identKept p r s).get (F.FBK_PORT_STAT.DELAY p) = r.delay / 4 := by
  rw [identKept, State.get_put_self (by decide) (by decide), satN]
  simp only [Nat.reduceAdd, Nat.reduceSub, Nat.reducePow]
  omega

theorem pair_identKept (p : Nat) (r : KspResp) (s : State) : (identKept p r s).pair (Reg.FBK_PORT_ID_LO p) = r.data % 2 ^ 40 := by
  have hlo : 0x4006260c + 0x20 * p ≠ 0x40062608 + 0x20 * p := by omega
  have hhi : 0x4006260c + 0x20 * p + 4 ≠ 0x40062608 + 0x20 * p := by omega
  have hne : 0x4006260c + 0x20 * p ≠ 0x4006260c + 0x20 * p + 4 := by omega
  have hregLo : (identKept p r s).reg (Reg.FBK_PORT_ID_LO p) = lo32 (r.data % 2 ^ 40) :=
    (State.reg_put_ne _ _ _ _ hlo).trans ((State.reg_of_bus_eq (State.modSer_bus _ _ _) _).trans
      ((State.reg_setReg_ne _ _ _ _ hne).trans (State.reg_setReg_same _ _ _)))
  have hregHi : (identKept p r s).reg (Reg.FBK_PORT_ID_LO p + 4) = hi32 (r.data % 2 ^ 40) :=
    (State.reg_put_ne _ _ _ _ hhi).trans ((State.reg_of_bus_eq (State.modSer_bus _ _ _) _).trans (State.reg_setReg_same _ _ _))
  rw [State.pair, hregLo, hregHi, join64, lo32, hi32, wd, wd, BitVec.toNat_ofNat, BitVec.toNat_ofNat]
  omega

theorem identDone_of_valid {s : State} {p tries : Nat} {r : KspResp} (hnego : (s.ser p).nego = some (.ident tries))
    (hroped : s.flag F.FBK_ROPED.EN = false) (hvalid : kspValid r = true) :
    identDone p tries r s =
      if delayBad (min (s.ser p).code (identRate r)) r then negoRetry p (min (s.ser p).code (identRate r)) (identKept p r s)
      else kspSend p kspRate (min (s.ser p).code (identRate r))
        ((identKept p r s).modSer p (fun x => { x with nego := some .rate, code := min (s.ser p).code (identRate r) })) := by
  have hpausing : pausing (identKept p r s) p = false := by rw [pausing, ser_identKept, hnego]
  rw [identDone, if_pos hvalid, identTaken_eq r hroped]
  dsimp only
  rw [hpausing]
  rfl

/-! ### A failed attempt (R332) -/

theorem ser_negoRetry (p c : Nat) (s : State) :
    (negoRetry p c s).ser p = { s.ser p with nego := some (.hold s.tb.tick), code := c - 1 } := by
  rw [negoRetry, State.ser_modSer_same, State.ser_put]

theorem rate_negoRetry (p c : Nat) (s : State) : (negoRetry p c s).get (F.FBK_PORT_STAT.RATE p) = 0 :=
  (State.get_of_bus_eq (State.modSer_bus _ _ _) _).trans (State.get_put_zero (by decide) (by decide) _ _)

theorem loss_negoRetry (p c : Nat) (s : State) :
    (negoRetry p c s).get (F.FBK_PORT_STAT.LOSS p) = s.get (F.FBK_PORT_STAT.LOSS p) :=
  (State.get_of_bus_eq (State.modSer_bus _ _ _) _).trans (State.get_put_disjoint (by decide) (by decide) (by decide) _ _ _)

theorem serTurn_negoRetry (p c : Nat) (s : State) : SerTurn p [Reg.FBK_PORT_STAT p] s (negoRetry p c s) :=
  (SerTurn.put (f := F.FBK_PORT_STAT.RATE p) (by simp) s 0).trans (.modSer _ _)

/-- A transaction lost in a negotiation: counted, and a failed attempt. -/
theorem lostAttempt_spec {p : Nat} (hp : p < 8) {r : KspResp} {s : State} :
    let t := negoRetry p ((kspTaken p r s).ser p).code ((kspTaken p r s).incSat (F.FBK_PORT_STAT.LOSS p))
    t.ser p = { s.ser p with nego := some (.hold s.tb.tick), code := (s.ser p).code - 1, idle := s.tb.tick + 250 } ∧
      t.get (F.FBK_PORT_STAT.RATE p) = 0 ∧
      t.get (F.FBK_PORT_STAT.LOSS p) = min (2 ^ bitsLen (F.FBK_PORT_STAT.LOSS p).bits - 1) (s.get (F.FBK_PORT_STAT.LOSS p) + 1) ∧
      RegsBut [Reg.FBK_PORT_STAT p, Reg.FBK_CH_STAT (136 + p)] s t := by
  have htaken := serTurn_kspTaken p r s
  have hser := ser_kspTaken p r s
  have hstat := portStat_kspTaken hp r s ⟨15, 0⟩
  dsimp only
  generalize kspTaken p r s = u at *
  refine ⟨?_, rate_negoRetry _ _ _, ?_, ?_⟩
  · rw [ser_negoRetry, State.incSat, State.ser_put, State.put_tb, htaken.tb, hser]
  · rw [loss_negoRetry, State.get_incSat_self (by decide) (by decide), hstat]
    rfl
  · exact (htaken.2.2.1.mono (by simp)).trans ((regsBut_put (f := F.FBK_PORT_STAT.LOSS p) (by simp) u _).trans
      ((serTurn_negoRetry p _ _).2.2.1.mono (by simp)))

/-! ### RATE and the IDENTs that follow -/

theorem rateDone_of_valid {s : State} {p : Nat} {r : KspResp} (hvalid : kspValid r = true) :
    rateDone p r s = kspSend p kspIdent 0
      ((s.modSer p (fun x => { x with nego := some (.verify 0) })).put (F.FBK_PORT_STAT.RATE p) (r.data % 8)) := if_pos hvalid

theorem rateDone_of_lost {s : State} {p : Nat} {r : KspResp} (hlost : kspValid r = false) :
    rateDone p r s = negoRetry p (s.ser p).code (s.incSat (F.FBK_PORT_STAT.LOSS p)) := if_neg (by simp [hlost])

theorem verifyDone_of_lost {s : State} {p good : Nat} {r : KspResp} (hlost : kspValid r = false) :
    verifyDone p good r s = negoRetry p (s.ser p).code (s.incSat (F.FBK_PORT_STAT.LOSS p)) := if_neg (by simp [hlost])

theorem verifyDone_of_valid {s : State} {p good : Nat} {r : KspResp} (hnego : (s.ser p).nego = some (.verify good))
    (hroped : s.flag F.FBK_ROPED.EN = false) (hvalid : kspValid r = true) :
    verifyDone p good r s =
      if delayBad (s.ser p).code r then negoRetry p (s.ser p).code (identKept p r s)
      else if good + 1 < 3 then (identKept p r s).modSer p (fun x => { x with nego := some (.verify (good + 1)) })
      else setSerState p 2 ((identKept p r s).modSer p (fun x => { x with nego := none, busy := false })) := by
  have hpausing : pausing (identKept p r s) p = false := by rw [pausing, ser_identKept, hnego]
  rw [verifyDone, if_pos hvalid, identTaken_eq r hroped]
  dsimp only
  rw [hpausing]
  rfl

theorem delayBad_of_le {c : Nat} {r : KspResp} (h : r.delay ≤ 500 ∨ c = 0) : delayBad c r = false := by
  obtain h | rfl := h
  · simp [delayBad, Nat.not_lt.mpr h]
  · simp [delayBad]

theorem delayBad_of_lt {c : Nat} {r : KspResp} (hdelay : 500 < r.delay) (hc : 0 < c) : delayBad c r = true := by simp [delayBad, hdelay, hc]

theorem ser_kspSend (p cmd arg : Nat) (s : State) : (kspSend p cmd arg s).ser p = { s.ser p with cmd := kspCommand cmd arg } := by
  rw [kspSend, State.ser_modSer_same]

/-! ### Samples and losses of the transfers (R295, R308, R312, R336) -/

theorem latchSample_frame (c t : Nat) (pos : Int) (s : State) : latchSample c t pos s = { s with trj := (latchSample c t pos s).trj } := by
  refine State.forN_rel (R := fun s t => t = { s with trj := t.trj }) (fun _ => rfl) (fun s t u hst htu => by rw [htu, hst])
    (fun m _ t => ?_) s
  split
  · rfl
  · rfl

/-- What stands after a sample was taken: its channel's count and time. -/
theorem serSample_spec {p : Nat} (word t : Nat) {s : State} (hsigf : (s.fb (136 + p)).p0.sigf = false) :
    let n := 136 + p
    let u := serSample p word t s
    (u.fb n).lost = false ∧ (u.fb n).sampleT = t ∧ (u.fb n).p0.viol = 0 ∧ (u.fb n).p0.cnt % 2 ^ 32 = (word : Int) % 2 ^ 32 ∧
      (∀ m, m ≠ n → u.fb m = s.fb m) ∧ (∀ q, u.ser q = s.ser q) ∧ RegsBut [Reg.FBK_DIR_MAP (n / 32), Reg.FBK_EVENT] s u ∧
      u.conf = s.conf := by
  dsimp only
  rw [serSample, serChan, hsigf]
  simp only [Bool.false_eq_true, if_false]
  generalize hd : (if (s.fb (136 + p)).p0.started = true then sgn 32 (uns 32 (sgn 32 word - (s.fb (136 + p)).p0.cnt))
    else sgn 32 word - (s.fb (136 + p)).p0.cnt) = d
  have hcnt : ((s.fb (136 + p)).p0.cnt + d) % 2 ^ 32 = (word : Int) % 2 ^ 32 := by
    rw [← hd]
    split
    · simp only [sgn, uns]
      split <;> omega
    · simp only [sgn]
      split <;> omega
  generalize hx : (s.modFb (136 + p) fun x => { x with
    p0 := { x.p0 with cnt := (s.fb (136 + p)).p0.cnt + d, viol := 0, started := true }, sampleT := t,
    moved := if (s.fb (136 + p)).p0.started = true then x.moved + d else x.moved, lost := false }) = x
  have hfbx : (x.fb (136 + p)).lost = false ∧ (x.fb (136 + p)).sampleT = t ∧ (x.fb (136 + p)).p0.viol = 0 ∧
      (x.fb (136 + p)).p0.cnt = (s.fb (136 + p)).p0.cnt + d := by
    rw [← hx, State.fb_modFb_same]
    exact ⟨rfl, rfl, rfl, rfl⟩
  have hturnx : FbTurn (136 + p) [Reg.FBK_DIR_MAP ((136 + p) / 32), Reg.FBK_EVENT] s x := hx ▸ FbTurn.modFb _ s
  have hserx : ∀ q, x.ser q = s.ser q := fun q => by rw [← hx, State.ser_modFb]
  clear hx
  have hy : ∀ y, y = (if ((s.fb (136 + p)).p0.started && d != 0) = true then
        perEdge (136 + p) t ((s.fb (136 + p)).p0.cnt + d) (decide (d < 0)) x else x) →
      (y.fb (136 + p)).lost = false ∧ (y.fb (136 + p)).sampleT = t ∧ (y.fb (136 + p)).p0.viol = 0 ∧
      (y.fb (136 + p)).p0.cnt = (s.fb (136 + p)).p0.cnt + d ∧ FbTurn (136 + p) [Reg.FBK_DIR_MAP ((136 + p) / 32), Reg.FBK_EVENT] s y := by
    rintro y rfl
    obtain ⟨hlost, htime, hviol, hcount⟩ := hfbx
    split
    · obtain ⟨hturn, -, hp0, -, hlost', htime'⟩ := perEdge_spec (136 + p) t ((s.fb (136 + p)).p0.cnt + d) (decide (d < 0)) x
      exact ⟨hlost'.trans hlost, htime'.trans htime, by rw [hp0, hviol], by rw [hp0, hcount], hturnx.trans hturn⟩
    · exact ⟨hlost, htime, hviol, hcount, hturnx⟩
  obtain ⟨hlost, htime, hviol, hcount, hothers, hregs, hframe⟩ := hy _ rfl
  generalize (if ((s.fb (136 + p)).p0.started && d != 0) = true then
    perEdge (136 + p) t ((s.fb (136 + p)).p0.cnt + d) (decide (d < 0)) x else x) = y at *
  have hlatch := latchSample_frame (136 + p) t (sgn 32 (uns 32 ((s.fb (136 + p)).p0.cnt + d))) y
  generalize latchSample (136 + p) t (sgn 32 (uns 32 ((s.fb (136 + p)).p0.cnt + d))) y = z at *
  have hfbk : z.fbk = y.fbk := by rw [hlatch]
  have hfb := State.fb_of_fbk_eq hfbk
  refine ⟨by rw [hfb, hlost], by rw [hfb, htime], by rw [hfb, hviol], by rw [hfb, hcount, hcnt], fun m hm => (hfb m).trans (hothers m hm),
    fun q => ?_, hregs.of_bus_eq (by rw [hlatch]), by rw [hlatch, hframe]⟩
  rw [State.ser, hfbk, hframe]
  rfl

/-- The signal fault of a serial channel (R309, R337). -/
theorem serFault_spec {p : Nat} (hp : p < 8) {s : State} (hsigf : (s.fb (136 + p)).p0.sigf = false) :
    let n := 136 + p
    let t := serFault p s
    (t.fb n).p0 = { (s.fb n).p0 with sigf := true, viol := 0, started := false } ∧ (t.fb n).lost = (s.fb n).lost ∧
      (∀ m, m ≠ n → t.fb m = s.fb m) ∧ (t.ser p).nego = some (.pause s.tb.tick) ∧ t.flag F.FBK_EVENT.SIGF = true ∧
      t.flag (F.FBK_CH_STAT.SIGF n) = true ∧ t.get (F.FBK_PORT_STAT.STATE p) = 1 ∧
      t.get (F.FBK_PORT_STAT.LOSS p) = s.get (F.FBK_PORT_STAT.LOSS p) ∧ t.conf = s.conf := by
  dsimp only
  rw [serFault, serChan, if_neg (by simp [hsigf])]
  generalize hq : s.modSer p (fun x => { x with nego := some (.pause s.tb.tick), busy := false }) = q
  have hqser : (q.ser p).nego = some (.pause s.tb.tick) := by rw [← hq, State.ser_modSer_same]
  have hqfb : ∀ m, q.fb m = s.fb m := fun m => by rw [← hq, State.fb_modSer]
  have hqbus : q.bus = s.bus := by rw [← hq, State.modSer_bus]
  have hqconf : q.conf = s.conf := by rw [← hq, State.modSer_conf]
  clear hq
  obtain ⟨hstate, -, hloss, -, -, hframe⟩ := setSerState_spec (p := p) (v := 1) (by decide) (q.put (F.FBK_PORT_STAT.RATE p) 0)
  have hser : ∀ x, (setSerState p 1 (q.put (F.FBK_PORT_STAT.RATE p) 0)).ser x = q.ser x := fun x => by rw [ser_setSerState, State.ser_put]
  rw [State.get_put_disjoint (by decide) (by decide) (by decide)] at hloss
  generalize setSerState p 1 (q.put (F.FBK_PORT_STAT.RATE p) 0) = w at *
  have hwfb : ∀ m, w.fb m = s.fb m := fun m => (State.fb_of_fbk_eq (by rw [hframe, State.put_fbk]) m).trans (hqfb m)
  have hwconf : w.conf = s.conf := by rw [hframe, State.put_conf, hqconf]
  generalize hx : w.modFb (136 + p) (fun f => { f with p0 := { f.p0 with sigf := true, viol := 0, started := false } }) = x
  have hxfb : x.fb (136 + p) = { s.fb (136 + p) with p0 := { (s.fb (136 + p)).p0 with sigf := true, viol := 0, started := false } } := by
    rw [← hx, State.fb_modFb_same, hwfb]
  have hxothers : ∀ m, m ≠ 136 + p → x.fb m = s.fb m := fun m hm => by rw [← hx, State.fb_modFb_ne _ _ _ _ hm, hwfb]
  have hxbus : x.bus = w.bus := by rw [← hx, State.modFb_bus]
  have hxser : x.ser p = q.ser p := by rw [← hx, State.ser_modFb, hser]
  have hxconf : x.conf = s.conf := by rw [← hx, State.modFb_conf, hwconf]
  clear hx
  obtain ⟨hraise, hfb, hstat, hevent, -⟩ := sigfRaise_spec (n := 136 + p) (by omega) x
  have haddr1 : 0x40062608 + 0x20 * p ≠ 0x40060018 + 0x40 * (136 + p) := by omega
  have haddr2 : 0x40062608 + 0x20 * p ≠ 0x40062480 + 0x4 * ((136 + p) / 32) := by omega
  have haddr3 : 0x40062608 + 0x20 * p ≠ 0x40062450 := by omega
  have hport : ∀ b, (sigfRaise (136 + p) x).get ⟨Reg.FBK_PORT_STAT p, b⟩ = w.get ⟨Reg.FBK_PORT_STAT p, b⟩ := fun b =>
    (State.get_of_reg_eq (hraise.2.1 _ (by simpa using ⟨haddr1, haddr2, haddr3⟩))).trans (State.get_of_bus_eq hxbus _)
  refine ⟨by rw [hfb, hxfb], by rw [hfb, hxfb], fun m hm => (hfb m).trans (hxothers m hm), ?_, hevent, hstat, (hport _).trans hstate,
    (hport _).trans (hloss.trans (State.get_of_bus_eq hqbus _)), hraise.conf.trans hxconf⟩
  have hkept : (sigfRaise (136 + p) x).ser p = x.ser p := by
    rw [State.ser, hraise.ports, State.ser]
  rw [hkept, hxser, hqser]

/-- A transfer lost in KSP or SSI (R336). -/
theorem serLost_spec {p : Nat} (hp : p < 8) {s : State} (hstate : serState s p = 2 ∨ serState s p = 3)
    (hsigf : (s.fb (136 + p)).p0.sigf = false) :
    let n := 136 + p
    let t := serLost p s
    (t.fb n).lost = true ∧ (t.fb n).p0.cnt = (s.fb n).p0.cnt ∧
      t.get (F.FBK_PORT_STAT.LOSS p) = min (2 ^ bitsLen (F.FBK_PORT_STAT.LOSS p).bits - 1) (s.get (F.FBK_PORT_STAT.LOSS p) + 1) ∧
      ((s.fb n).p0.viol < 2 → (t.fb n).p0.viol = (s.fb n).p0.viol + 1 ∧ (t.fb n).p0.sigf = false) ∧
      (2 ≤ (s.fb n).p0.viol → (t.fb n).p0.sigf = true ∧ (t.ser p).nego = some (.pause s.tb.tick) ∧
        t.flag F.FBK_EVENT.SIGF = true ∧ t.flag (F.FBK_CH_STAT.SIGF n) = true ∧ t.get (F.FBK_PORT_STAT.STATE p) = 1) ∧
      (∀ m, m ≠ n → t.fb m = s.fb m) ∧ t.conf = s.conf := by
  dsimp only
  generalize hu : (s.incSat (F.FBK_PORT_STAT.LOSS p)).modFb (136 + p) (fun f =>
    { f with lost := true, p0 := { f.p0 with viol := (s.fb (136 + p)).p0.viol + 1 } }) = u
  have hlost : serLost p s = if 3 ≤ (s.fb (136 + p)).p0.viol + 1 ∧ !(s.fb (136 + p)).p0.sigf then serFault p u else u := by
    rw [← hu]
    exact if_pos hstate
  have hufb : u.fb (136 + p) =
      { s.fb (136 + p) with lost := true, p0 := { (s.fb (136 + p)).p0 with viol := (s.fb (136 + p)).p0.viol + 1 } } := by
    rw [← hu, State.fb_modFb_same, State.incSat, State.fb_put]
  have huothers : ∀ m, m ≠ 136 + p → u.fb m = s.fb m := fun m hm => by
    rw [← hu, State.fb_modFb_ne _ _ _ _ hm, State.incSat, State.fb_put]
  have huloss : u.get (F.FBK_PORT_STAT.LOSS p) = min (2 ^ bitsLen (F.FBK_PORT_STAT.LOSS p).bits - 1) (s.get (F.FBK_PORT_STAT.LOSS p) + 1) := by
    rw [← hu, State.get_of_bus_eq (State.modFb_bus _ _ _), State.get_incSat_self (by decide) (by decide)]
    rfl
  have hutick : u.tb = s.tb := by rw [← hu, State.modFb_tb, State.incSat_tb]
  have huconf : u.conf = s.conf := by rw [← hu, State.modFb_conf, State.incSat_conf]
  clear hu
  rw [hlost, hsigf]
  by_cases hviol : 2 ≤ (s.fb (136 + p)).p0.viol
  · obtain ⟨hp0, hl, hothers, hnego, hevent, hstat, hst, hls, hconf⟩ := serFault_spec hp (s := u) (by rw [hufb, hsigf])
    rw [if_pos ⟨by omega, rfl⟩]
    rw [hufb] at hp0 hl
    refine ⟨hl, by rw [hp0], hls.trans huloss, fun h => absurd hviol (by omega), fun _ => ⟨by rw [hp0], ?_, hevent, hstat, hst⟩,
      fun m hm => (hothers m hm).trans (huothers m hm), hconf.trans huconf⟩
    rw [hnego, hutick]
  · rw [if_neg (by omega), hufb]
    exact ⟨rfl, rfl, huloss, fun _ => ⟨rfl, hsigf⟩, fun h => absurd h hviol, huothers, huconf⟩

/-! ### The end of a transfer -/

/-- A port whose transfer has ended and is still to be taken. -/
def TransferEnded (p : Nat) (s u : State) : Prop :=
  (∀ n, u.fb n = s.fb n) ∧ (u.ser p).busy = false ∧ (∀ b, u.get ⟨Reg.FBK_PORT_STAT p, b⟩ = s.get ⟨Reg.FBK_PORT_STAT p, b⟩) ∧
    u.tb = s.tb ∧ u.conf = s.conf

theorem transferEnded_pos {p : Nat} (hp : p < 8) (r : KspResp) (s : State) :
    TransferEnded p s ((kspTaken p r s).modSer p (fun x => { x with busy := false })) := by
  obtain ⟨-, hfb, -, hframe⟩ := serTurn_kspTaken p r s
  refine ⟨fun n => (State.fb_modSer _ _ _ _).trans (hfb n), by rw [State.ser_modSer_same], fun b => ?_, ?_, ?_⟩
  · exact (State.get_of_bus_eq (State.modSer_bus _ _ _) _).trans (portStat_kspTaken hp r s b)
  · rw [State.modSer_tb, hframe]
  · rw [State.modSer_conf, hframe]

theorem transferEnded_ssi (p : Nat) (s : State) :
    TransferEnded p s (s.modSer p (fun x => { x with busy := false, idle := clockWait s p })) :=
  ⟨fun n => State.fb_modSer _ _ _ _, by rw [State.ser_modSer_same], fun _ => State.get_of_bus_eq (State.modSer_bus _ _ _) _,
    State.modSer_tb _ _ _, State.modSer_conf _ _ _⟩

/-- A transfer taken or lost. -/
def transferTaken (p : Nat) (ok : Bool) (word t : Nat) (u : State) : State := if ok then serSample p word t u else serLost p u

theorem tapeSeen_of_other {p : Nat} {s : State} (h : isCar s = false ∨ p ≠ 0) (good : Bool) (word t : Nat) : tapeSeen p good word t s = s := by
  refine if_neg ?_
  obtain h | h := h
  · simp [h]
  · simp [h]

theorem conf_transferTaken {p : Nat} (hp : p < 8) {s u : State} (h : TransferEnded p s u) (hsigf : (s.fb (136 + p)).p0.sigf = false)
    (hstate : serState s p = 2 ∨ serState s p = 3) (ok : Bool) (word t : Nat) : (transferTaken p ok word t u).conf = s.conf := by
  obtain ⟨hfb, -, hport, -, hconf⟩ := h
  have hstate' : serState u p = 2 ∨ serState u p = 3 := by rw [serState, hport]; exact hstate
  have hsigf' : (u.fb (136 + p)).p0.sigf = false := by rw [hfb, hsigf]
  rw [transferTaken]
  split
  · exact (serSample_spec word t hsigf').2.2.2.2.2.2.2.trans hconf
  · exact (serLost_spec hp hstate' hsigf').2.2.2.2.2.2.trans hconf

/-- What either transfer's end comes to. -/
theorem exec_transferDone {s : State} {p : Fin 8} {i : Instr} {ok : Bool} {word t : Nat} (hsigf : (s.fb (136 + p.val)).p0.sigf = false)
    (hbusy : (s.ser p.val).busy = true) (htape : isCar s = false ∨ p.val ≠ 0)
    (hi : (∃ r : KspResp, i = .kspTransactionDone p r ∧ (s.ser p.val).nego = none ∧ s.get (F.FBK_PORT_STAT.STATE p.val) = 2 ∧
        ok = kspValid r ∧ word = r.data ∧ t = r.t) ∨
      (∃ r : SsiResp, i = .ssiTransferDone p r ∧ s.get (F.FBK_PORT_STAT.STATE p.val) = 3 ∧ ok = ssiValid s p.val r ∧
        t = (s.ser p.val).began ∧ word = ssiWord s p.val r)) :
    ∃ u, TransferEnded p.val s u ∧ (serState s p.val = 2 ∨ serState s p.val = 3) ∧
      exec i s = .next (transferTaken p.val ok word t u) := by
  obtain ⟨r, rfl, hnego, hstate, rfl, rfl, rfl⟩ | ⟨r, rfl, hstate, rfl, rfl, rfl⟩ := hi
  · have hended := transferEnded_pos p.isLt r s
    have hdone : kspDone p.val r s = transferTaken p.val (kspValid r) r.data r.t ((kspTaken p.val r s).modSer p.val (fun x => { x with busy := false })) :=
      kspDone_of_pos r hnego hstate hbusy
    refine ⟨_, hended, .inl hstate, congrArg Host.Outcome.next ?_⟩
    dsimp only
    rw [hdone]
    split
    · refine tapeSeen_of_other (htape.imp_left fun hcar => ?_) _ _ _
      rw [isCar, conf_transferTaken p.isLt hended hsigf (.inl hstate)]
      exact hcar
    · rfl
  · have hended := transferEnded_ssi p.val s
    have hdone : ssiDone p.val r s = transferTaken p.val (ssiValid s p.val r) (ssiWord s p.val r) (s.ser p.val).began
        (s.modSer p.val (fun x => { x with busy := false, idle := clockWait s p.val })) := if_pos ⟨hstate, hbusy⟩
    refine ⟨_, hended, .inr hstate, congrArg Host.Outcome.next ?_⟩
    dsimp only
    rw [hdone]
    split
    · refine tapeSeen_of_other (htape.imp_left fun hcar => ?_) _ _ _
      rw [isCar, conf_transferTaken p.isLt hended hsigf (.inr hstate)]
      exact hcar
    · rfl

/-! ### The two waits -/

theorem kspHoldExpiry_of_due {s : State} {p t0 : Nat} (hclocks : portClocks s p = true) (hnego : (s.ser p).nego = some (.hold t0))
    (hdue : t0 + 125000 ≤ s.tb.tick) :
    kspHoldExpiry p s = kspSend p kspIdent 0 (s.modSer p (fun x => { x with nego := some (.ident 0) })) := by
  rw [kspHoldExpiry, hnego]
  exact if_pos ⟨hclocks, hdue⟩

theorem kspPauseExpiry_of_due {s : State} {p t0 : Nat} (hclocks : portClocks s p = true) (hnego : (s.ser p).nego = some (.pause t0))
    (hdue : t0 + 250000 ≤ s.tb.tick) : kspPauseExpiry p s = negotiate p s := by
  rw [kspPauseExpiry, hnego]
  exact if_pos ⟨hclocks, hdue⟩

/-- Settles O36: the waits, each answer of a negotiation, and the end of a POS transaction or an SSI transfer. -/
theorem serialPortsNegotiateAndTransfer : Obligations.SerialPortsNegotiateAndTransfer := by
  refine ⟨?waits, ?negotiation, ?transfers⟩
  case waits =>
    intro s p t0 hclocks
    refine ⟨fun hnego hdue => ⟨_, congrArg Host.Outcome.next (kspHoldExpiry_of_due hclocks hnego hdue), ?_, fun q hq => ?_, rfl⟩,
      fun hnego hdue hmode => ⟨_, congrArg Host.Outcome.next (kspPauseExpiry_of_due hclocks hnego hdue), ?_⟩⟩
    · rw [ser_kspSend, State.ser_modSer_same]
      rfl
    · exact (State.ser_modSer_ne _ _ _ _ hq).trans (State.ser_modSer_ne _ _ _ _ hq)
    · obtain ⟨-, -, -, hksp, -, hfb, hregs, -⟩ := negotiate_spec p.val s
      obtain ⟨hstate, hhold, hcode⟩ := hksp hmode
      exact ⟨hhold, hcode, hstate, hfb, hregs⟩
  case negotiation =>
    rintro s p r q rfl hroped
    have hexec : ∀ {t : State}, (s.ser p.val).nego ≠ none → kspDone p.val r s = t → exec (.kspTransactionDone p r) s = .next t :=
      fun hne hdone => hdone ▸ exec_kspTransactionDone_nego r hne
    have hser := ser_kspTaken p.val r s
    have htaken := serTurn_kspTaken p.val r s
    have hroped' := (roped_kspTaken p.val r s).trans hroped
    refine ⟨fun k hnego hvalid hdelay => ?ident, fun k hnego hvalid hdelay hcode => ?slow, fun hnego hvalid => ?rate,
      fun hnego hvalid => ?lost, fun g hnego hvalid => ?verify⟩
    case ident =>
      refine ⟨_, hexec (by simp [hnego]) (kspDone_of_ident r hnego), ?_⟩
      have hwarn := warn_kspTaken (p := p.val) hvalid s
      generalize kspTaken p.val r s = t at *
      rw [identDone_of_valid (by rw [hser, hnego]) hroped' hvalid, delayBad_of_le (.inl hdelay), hser, if_neg (by simp)]
      have hkept := serTurn_identKept p.val r t
      have hpair := pair_identKept p.val r t
      have hdel := delay_identKept p.val hdelay t
      have hkser := ser_identKept p.val r t
      rw [hser] at hkser
      have hne1 : 0x40060018 + 0x40 * (136 + p.val) ≠ 0x4006260c + 0x20 * p.val := by omega
      have hne2 : 0x40060018 + 0x40 * (136 + p.val) ≠ 0x40062610 + 0x20 * p.val := by omega
      have hne3 : 0x40060018 + 0x40 * (136 + p.val) ≠ 0x40062608 + 0x20 * p.val := by omega
      have hkwarn : (identKept p.val r t).flag (F.FBK_CH_STAT.WARN (136 + p.val)) = r.warn :=
        (flag_of_reg_eq (hkept.reg (by simpa using ⟨hne1, hne2, hne3⟩))).trans hwarn
      have hregs : RegsBut [Reg.FBK_PORT_ID_LO p.val, Reg.FBK_PORT_ID_HI p.val, Reg.FBK_PORT_STAT p.val, Reg.FBK_CH_STAT (136 + p.val)] s
          (identKept p.val r t) := (htaken.2.2.1.mono (by simp)).trans (hkept.2.2.1.mono fun a ha => by
        simp only [List.mem_cons, List.not_mem_nil, or_false] at ha ⊢
        tauto)
      generalize identKept p.val r t = u at *
      have hbus : ∀ f, (kspSend p.val kspRate (min (s.ser p.val).code (identRate r)) (u.modSer p.val f)).bus = u.bus := fun f => by
        rw [kspSend, State.modSer_bus, State.modSer_bus]
      refine ⟨?_, ?_, ?_, ?_, ?_, ?_, (State.get_of_bus_eq (hbus _) _).trans hdel, (State.flag_of_bus_eq (hbus _) _).trans hkwarn,
        hregs.of_bus_eq (hbus _)⟩
      · rw [ser_kspSend, State.ser_modSer_same]
      · rw [ser_kspSend, State.ser_modSer_same]
      · rw [ser_kspSend, State.ser_modSer_same, hkser]
      · rw [ser_kspSend]
        rfl
      · rw [ser_kspSend, State.ser_modSer_same, hkser]
      · rw [State.pair, State.reg_of_bus_eq (hbus _), State.reg_of_bus_eq (hbus _), ← State.pair, hpair]
    case slow =>
      refine ⟨_, hexec (by simp [hnego]) (kspDone_of_ident r hnego), ?_⟩
      have htb := htaken.tb
      generalize kspTaken p.val r s = t at *
      have hktb := (serTurn_identKept p.val r t).tb
      rw [identDone_of_valid (by rw [hser, hnego]) hroped' hvalid, hser]
      dsimp only
      rw [delayBad_of_lt hdelay hcode, if_pos rfl, ser_negoRetry, hktb, htb]
      exact ⟨rfl, rfl⟩
    case rate =>
      refine ⟨_, hexec (by simp [hnego]) (kspDone_of_rate r hnego), ?_⟩
      generalize kspTaken p.val r s = t at *
      rw [rateDone_of_valid hvalid]
      refine ⟨?_, ?_, ?_⟩
      · rw [ser_kspSend, State.ser_put, State.ser_modSer_same, hser]
        rfl
      · rw [kspSend, State.get_of_bus_eq (State.modSer_bus _ _ _), State.get_put_self (by decide) (by decide)]
        exact Nat.mod_mod _ _
      · refine RegsBut.of_bus_eq (htaken.2.2.1.mono (by simp) |>.trans ?_) (State.modSer_bus _ _ _)
        exact (SerTurn.modSer _ t).2.2.1.trans (regsBut_put (f := F.FBK_PORT_STAT.RATE p.val) (by simp) _ _)
    case lost =>
      have hattempt := lostAttempt_spec p.isLt (r := r) (s := s)
      obtain hnego | ⟨g, hnego⟩ := hnego
      · exact ⟨_, hexec (by simp [hnego]) ((kspDone_of_rate r hnego).trans (rateDone_of_lost hvalid)), hattempt⟩
      · exact ⟨_, hexec (by simp [hnego]) ((kspDone_of_verify r hnego).trans (verifyDone_of_lost hvalid)), hattempt⟩
    case verify =>
      have hdone := kspDone_of_verify r hnego
      have htb := htaken.tb
      generalize kspTaken p.val r s = t at *
      have hktb := (serTurn_identKept p.val r t).tb
      rw [verifyDone_of_valid (by rw [hser, hnego]) hroped' hvalid, hser] at hdone
      refine ⟨fun hg hdelay => ?_, fun hg hdelay => ?_, fun hdelay hcode => ?_⟩
      · rw [delayBad_of_le hdelay, if_neg (by simp), if_pos (by omega)] at hdone
        refine ⟨_, hexec (by simp [hnego]) hdone, ?_⟩
        dsimp only
        rw [State.ser_modSer_same]
      · rw [delayBad_of_le hdelay, if_neg (by simp), if_neg (by omega)] at hdone
        refine ⟨_, hexec (by simp [hnego]) hdone, ?_, (setSerState_spec (by decide) _).1⟩
        rw [ser_setSerState, State.ser_modSer_same]
      · rw [delayBad_of_lt hdelay hcode, if_pos rfl] at hdone
        refine ⟨_, hexec (by simp [hnego]) hdone, ?_⟩
        dsimp only
        rw [ser_negoRetry, hktb, htb]
        exact ⟨rfl, rfl⟩
  case transfers =>
    rintro s p i ok word t n f rfl rfl hsigf hbusy htape hi
    obtain ⟨u, ⟨hfb, hidle, hport, htb, -⟩, hstate, hexec⟩ := exec_transferDone hsigf hbusy htape hi
    have hsigf' : (u.fb (136 + p.val)).p0.sigf = false := by rw [hfb, hsigf]
    have hstate' : serState u p.val = 2 ∨ serState u p.val = 3 := by rw [serState, hport]; exact hstate
    refine ⟨fun hok => ⟨_, hexec, ?_⟩, fun hok => ⟨_, hexec, ?_⟩⟩
    · obtain ⟨hlost, htime, hviol, hcnt, hothers, hser, hregs, -⟩ := serSample_spec word t hsigf'
      have hne1 : 0x40062608 + 0x20 * p.val ≠ 0x40062460 + 0x4 * ((136 + p.val) / 32) := by omega
      have hne2 : 0x40062608 + 0x20 * p.val ≠ 0x40062450 := by omega
      rw [transferTaken, if_pos hok]
      refine ⟨by rw [hser, hidle], hlost, htime, hviol, hcnt, ?_, fun m hm => (hothers m hm).trans (hfb m)⟩
      exact (State.get_of_reg_eq (hregs _ (by simpa using ⟨hne1, hne2⟩))).trans (hport _)
    · obtain ⟨hlost, hcnt, hloss, hfew, hmany, hothers, -⟩ := serLost_spec p.isLt hstate' hsigf'
      rw [transferTaken, if_neg (by simp [hok])]
      rw [hfb] at hcnt hfew hmany
      rw [htb] at hmany
      exact ⟨hlost, hcnt, hloss.trans (by rw [hport]), hfew, hmany, fun m hm => (hothers m hm).trans (hfb m)⟩

end Sys2Proof.Machine
end

section
/-!
PROOF. Door units: commands, supervision, timers and the pending close (11 R345 to R365).
-/

namespace Sys2Proof.Machine

open Sys2Proof

/-! ### A door's events and its axis -/

theorem State.door_of_doors_eq {s t : State} (h : t.doors = s.doors) (d : Nat) : t.door d = s.door d := by rw [State.door, h, State.door]

theorem doorAxis_of_bus_eq {s t : State} (h : t.bus = s.bus) (d : Nat) : doorAxis t d = doorAxis s d := State.get_of_bus_eq h _

theorem doorAxis_of_regsBut {s t : State} (h : RegsBut [Reg.TRJ_DOOR_EVENT] s t) (d : Nat) : doorAxis t d = doorAxis s d := by
  have haddr : 0x40030c00 + 0x40 * d ≠ 0x40030c84 := by omega
  exact State.get_of_reg_eq (h _ (by simpa using haddr))

theorem reopenFlag_of_regsBut {s t : State} (h : RegsBut [Reg.TRJ_DOOR_EVENT] s t) (d : Nat) :
    t.flag (F.TRJ_DOOR_CFG.REOPEN d) = s.flag (F.TRJ_DOOR_CFG.REOPEN d) := by
  have haddr : 0x40030c00 + 0x40 * d ≠ 0x40030c84 := by omega
  exact flag_of_reg_eq (h _ (by simpa using haddr))

theorem doorEvent_of_bus_eq {s t : State} (h : t.bus = s.bus) (d i : Nat) : DoorEvent t d i = DoorEvent s d i := State.bit_of_bus_eq h _ _

/-- An event of a door. -/
theorem doorEv_spec (d : Nat) {i : Nat} (hi : i < 8) (s : State) :
    DoorEvent (doorEv d i s) d i = true ∧ OnlyRegs [Reg.TRJ_DOOR_EVENT] s (doorEv d i s) := by
  rw [DoorEvent, doorEv]
  split
  · exact ⟨State.bit_evBit_self (by decide) (by decide) hi s _, onlyRegs_of_changesOnly (changesOnly_put (by simp) s _)⟩
  · exact ⟨State.bit_evBit_self (by decide) (by decide) hi s _, onlyRegs_of_changesOnly (changesOnly_put (by simp) s _)⟩

theorem OnlyRegs.doors {l : List Nat} {s t : State} (h : OnlyRegs l s t) : t.doors = s.doors := by rw [h.2.2]

theorem OnlyRegs.trj {l : List Nat} {s t : State} (h : OnlyRegs l s t) : t.trj = s.trj := by rw [h.2.2]

theorem doorEv_door (d i e : Nat) (s : State) : (doorEv d i s).door e = s.door e := State.door_of_doors_eq (State.put_doors _ _ _) e

theorem doorEv_axis (d i n : Nat) (s : State) : (doorEv d i s).axis n = s.axis n := State.axis_of_trj_eq (State.put_trj _ _ _) n

namespace OnlyDoor

variable {d : Nat} {s t : State}

theorem refl (s : State) : OnlyDoor d s s := ⟨fun _ _ => rfl, .refl _ s, rfl⟩

theorem trans {u : State} (hst : OnlyDoor d s t) (htu : OnlyDoor d t u) : OnlyDoor d s u := by
  obtain ⟨hdoors, hregs, hframe⟩ := hst
  obtain ⟨hdoors', hregs', hframe'⟩ := htu
  exact ⟨fun e he => (hdoors' e he).trans (hdoors e he), hregs.trans hregs', by rw [hframe', hframe]⟩

theorem modDoor (f : Door → Door) (s : State) : OnlyDoor d s (s.modDoor d f) :=
  ⟨fun e he => State.door_modDoor_ne s d e f he, regsBut_of_regs_eq _ rfl, rfl⟩

theorem of_onlyRegs (h : OnlyRegs [Reg.TRJ_DOOR_EVENT] s t) : OnlyDoor d s t :=
  ⟨fun e _ => State.door_of_doors_eq h.doors e, h.1, by rw [h.2.2]⟩

theorem trj (h : OnlyDoor d s t) : t.trj = s.trj := by rw [h.2.2]

end OnlyDoor

theorem doorReject_spec (d code : Nat) (s : State) :
    (doorReject d code s).door d = { s.door d with rej := code } ∧ DoorEvent (doorReject d code s) d 4 = true ∧
      OnlyDoor d s (doorReject d code s) := by
  obtain ⟨hevent, hregs⟩ := doorEv_spec d (i := 4) (by decide) (s.modDoor d (fun x => { x with rej := code }))
  refine ⟨?_, hevent, (OnlyDoor.modDoor _ s).trans (.of_onlyRegs hregs)⟩
  rw [doorReject, doorEv_door, State.door_modDoor_same]

/-! ### An aborted move (R346, R354, R358) -/

/-- The move of door d's axis is being aborted, and nothing else changed. -/
def DoorAborts (d : Nat) (s t : State) : Prop :=
  (t.axis (doorAxis s d)).st = .aborting ∧ (t.axis (doorAxis s d)).cause = 2 ∧ (t.axis (doorAxis s d)).queue = [] ∧
    (t.axis (doorAxis s d)).restNow = false ∧ (∀ n, n ≠ doorAxis s d → t.axis n = s.axis n) ∧
    t = { s with trj := { s.trj with axes := t.trj.axes } }

theorem beginStop_of_moving {s : State} {n : Nat} {m : Move} (hmv : (s.axis n).mv = some m) (hvel : (s.axis n).spVel ≠ 0) :
    beginStop n 2 s = s.modAxis n (fun x => { x with st := .aborting, cause := 2, mv := some { m with
      rampP := ((s.axis n).spPos - m.start) * 1024, rampV := (s.axis n).spVel * 1024, rampA := (s.axis n).spAcc,
      sg := if (s.axis n).spVel < 0 then -1 else 1 } }) := by
  rw [beginStop, hmv]
  exact if_neg hvel

theorem doorAborts_of_runs {s : State} {d : Nat} (h : DoorRuns s d) : DoorAborts d s (doorAbort d s) := by
  obtain ⟨hst, hmv, hvel, hrest⟩ := h
  obtain ⟨m, hm⟩ := Option.ne_none_iff_exists'.mp hmv
  have hmoving : doorMoving s d = true := by
    rw [doorMoving, inMove, hst]
    rfl
  generalize hn : doorAxis s d = n at *
  generalize ht : s.modAxis n (fun x => { x with queue := [] }) = t
  have haxis : t.axis n = { s.axis n with queue := [] } := by rw [← ht, State.axis_modAxis_same]
  have hothers : ∀ k, k ≠ n → t.axis k = s.axis k := fun k hk => by rw [← ht, State.axis_modAxis_ne _ _ _ _ hk]
  have hframe : t = { s with trj := { s.trj with axes := t.trj.axes } } := by rw [← ht]; rfl
  have habort : doorAbort d s = beginStop n 2 t := by
    have hstop : axisEvent n (.stop 2) (t, false) = (beginStop n 2 t, false) := by
      rw [axisEvent]
      dsimp only
      rw [haxis]
      dsimp only
      rw [hst]
    rw [doorAbort, hn, if_pos hmoving, axisEvent]
    dsimp only
    rw [ht, hstop]
  have hbegin := beginStop_of_moving (s := t) (n := n) (m := m) (by rw [haxis]; exact hm) (by rw [haxis]; exact hvel)
  rw [DoorAborts, hn, habort, hbegin]
  refine ⟨?_, ?_, ?_, ?_, fun k hk => (State.axis_modAxis_ne _ _ _ _ hk).trans (hothers k hk), ?_⟩
  · rw [State.axis_modAxis_same]
  · rw [State.axis_modAxis_same]
  · rw [State.axis_modAxis_same, haxis]
  · rw [State.axis_modAxis_same, haxis]
    exact hrest
  · rw [hframe]
    rfl

theorem doorRuns_of_trj_eq {s t : State} (htrj : t.trj = s.trj) (hbus : t.bus = s.bus) {d : Nat} (h : DoorRuns s d) : DoorRuns t d := by
  rw [DoorRuns, doorAxis_of_bus_eq hbus, State.axis_of_trj_eq htrj]
  exact h

/-- A door whose axis still moves waits for its rest. -/
theorem doorSettle_of_moving {s : State} {d : Nat} (hst : (s.axis (doorAxis s d)).st = .aborting)
    (hrest : (s.axis (doorAxis s d)).restNow = false) : doorSettle d s = s := by
  have hmoving : doorMoving s d = true := by
    rw [doorMoving, inMove, hst]
    rfl
  rw [doorSettle]
  split
  · rw [hmoving, hrest]
    rfl
  · rfl

namespace DoorAborts

variable {d : Nat} {s t : State}

theorem bus (h : DoorAborts d s t) : t.bus = s.bus := by rw [h.2.2.2.2.2]

theorem doors (h : DoorAborts d s t) : t.doors = s.doors := by rw [h.2.2.2.2.2]

/-- What follows the abort of a move, and leaves its axis alone, does not end it. -/
theorem settle (h : DoorAborts d s t) {u : State} (htrj : u.trj = t.trj) (hregs : RegsBut [Reg.TRJ_DOOR_EVENT] t u) : doorSettle d u = u := by
  obtain ⟨hst, -, -, hrest, -, -⟩ := id h
  have haxis : doorAxis u d = doorAxis s d := (doorAxis_of_regsBut hregs d).trans (doorAxis_of_bus_eq h.bus d)
  exact doorSettle_of_moving (by rw [haxis, State.axis_of_trj_eq htrj, hst]) (by rw [haxis, State.axis_of_trj_eq htrj, hrest])

end DoorAborts

/-- What an obstruction leaves: the move aborting, the door reopening. -/
theorem doorObstruct_spec {s : State} {d : Nat} (h : DoorRuns s d) (o : Nat) (counted : Bool) :
    let t := doorObstruct d o counted s
    t.door d = { s.door d with
      st := .reopening, lastObs := o, obsCnt := if counted then satN 65535 ((s.door d).obsCnt + 1) else (s.door d).obsCnt
      toOpen := s.flag (F.TRJ_DOOR_CFG.REOPEN d) } ∧ DoorEvent t d 0 = true ∧
      (t.axis (doorAxis s d)).st = .aborting ∧ (t.axis (doorAxis s d)).cause = 2 ∧ (t.axis (doorAxis s d)).queue = [] ∧
      (∀ n, n ≠ doorAxis s d → t.axis n = s.axis n) ∧ RegsBut [Reg.TRJ_DOOR_EVENT] s t := by
  have habort := doorAborts_of_runs h
  dsimp only
  rw [doorObstruct]
  generalize doorAbort d s = a at *
  obtain ⟨hevent, hregs⟩ := doorEv_spec d (i := 0) (by decide) a
  have hdoor := doorEv_door d 0 d a
  generalize doorEv d 0 a = b at *
  generalize hf : (fun x : Door => { x with
    st := .reopening, lastObs := o, obsCnt := if counted then satN 65535 (x.obsCnt + 1) else x.obsCnt
    toOpen := s.flag (F.TRJ_DOOR_CFG.REOPEN d) }) = f
  have htrj : (b.modDoor d f).trj = a.trj := (State.modDoor_trj _ _ _).trans hregs.trj
  have hbut : RegsBut [Reg.TRJ_DOOR_EVENT] a (b.modDoor d f) := RegsBut.of_bus_eq hregs.1 (State.modDoor_bus _ _ _)
  rw [habort.settle htrj hbut]
  have haxis := State.axis_of_trj_eq htrj
  have hkept : RegsBut [Reg.TRJ_DOOR_EVENT] s (b.modDoor d f) := RegsBut.trans (regsBut_of_regs_eq _ (by rw [habort.bus])) hbut
  obtain ⟨hst, hcause, hqueue, -, hothers, -⟩ := id habort
  refine ⟨?_, (doorEvent_of_bus_eq (State.modDoor_bus _ _ _) _ _).trans hevent, by rw [haxis, hst], by rw [haxis, hcause],
    by rw [haxis, hqueue], fun n hn => (haxis n).trans (hothers n hn), hkept⟩
  rw [State.door_modDoor_same, hdoor, State.door_of_doors_eq habort.doors, ← hf]

/-- What a stall or an energy excess leaves: the move aborting, its event set. -/
theorem doorFound_spec {s : State} {d b : Nat} (h : DoorRuns s d) (hb : b < 8) :
    let t := doorSettle d (doorEv d b (doorAbort d s))
    t.door d = s.door d ∧ DoorEvent t d b = true ∧
      (t.axis (doorAxis s d)).st = .aborting ∧ (t.axis (doorAxis s d)).cause = 2 ∧ (t.axis (doorAxis s d)).queue = [] ∧
      (∀ n, n ≠ doorAxis s d → t.axis n = s.axis n) ∧ RegsBut [Reg.TRJ_DOOR_EVENT] s t := by
  have habort := doorAborts_of_runs h
  dsimp only
  generalize doorAbort d s = a at *
  obtain ⟨hevent, hregs⟩ := doorEv_spec d hb a
  have hdoor := doorEv_door d b d a
  generalize doorEv d b a = t at *
  rw [habort.settle hregs.trj hregs.1]
  have haxis := State.axis_of_trj_eq hregs.trj
  obtain ⟨hst, hcause, hqueue, -, hothers, -⟩ := id habort
  exact ⟨hdoor.trans (State.door_of_doors_eq habort.doors d), hevent, by rw [haxis, hst], by rw [haxis, hcause], by rw [haxis, hqueue],
    fun n hn => (haxis n).trans (hothers n hn), RegsBut.trans (regsBut_of_regs_eq _ (by rw [habort.bus])) hregs.1⟩

end Sys2Proof.Machine
end

section
/-!
PROOF. Door commands, supervision and timers (11 R345 to R365): the two statements.
-/

namespace Sys2Proof.Machine

open Sys2Proof

/-! ### The command register (R346) -/

theorem doorOp_eq (v : Word) : getF F.TRJ_DOOR_CMD.OP.bits v = v.toNat / 16 % 16 := by simp [getF, bitsLen]

theorem doorNumber_eq (v : Word) : getF F.TRJ_DOOR_CMD.DOOR.bits v = v.toNat % 2 := by simp [getF, bitsLen]

theorem exec_doorCommand {s : State} {core : Sender} {v : Word} {i : Instr} {op : Nat} (hacc : canAccess s core = true)
    (hfree : Unguarded s Reg.TRJ_DOOR_CMD) (hop : v.toNat / 16 % 16 = op)
    (hi : op = 1 ∧ i = .doorOpen core v ∨ op = 2 ∧ i = .doorClose core v ∨ op = 3 ∧ i = .doorNudge core v ∨ op = 4 ∧ i = .doorStop core v) :
    exec i s = .next (doorCmdOp v s) := by
  have hrow : doorRow core op v s = doorCmdOp v s := by
    rw [doorRow, writeCmd_of_unguarded _ hacc hfree, if_pos ((doorOp_eq v).trans hop)]
  rw [← hrow]
  obtain ⟨rfl, rfl⟩ | ⟨rfl, rfl⟩ | ⟨rfl, rfl⟩ | ⟨rfl, rfl⟩ := hi <;> rfl

/-- CMD_OVR where a command waited. -/
def overrunTold (d : Nat) (s : State) : State := if (s.door d).cmd.isSome then s.ev F.TRJ_DOOR_EVENT.CMD_OVR else s

theorem doorCmdOp_of_taken {s : State} {v : Word} {op d : Nat} (hop : v.toNat / 16 % 16 = op) (hd : v.toNat % 2 = d) (hlo : op ≠ 0) (hhi : op ≤ 4)
    (hcar : isCar s = true) (hen : doorEn s d = true) (hon : s.servoOn = true) :
    doorCmdOp v s = (overrunTold d s).modDoor d (fun x => { x with cmd := some op }) := by
  rw [doorCmdOp, doorOp_eq v, doorNumber_eq v, hop, hd]
  dsimp only
  rw [if_neg (by simp [hcar, hlo, Nat.not_lt.mpr hhi]), if_neg (by simp [hen, hon])]
  rfl

theorem doorCmdOp_of_disabled {s : State} {v : Word} {op d : Nat} (hop : v.toNat / 16 % 16 = op) (hd : v.toNat % 2 = d) (hlo : op ≠ 0) (hhi : op ≤ 4)
    (hcar : isCar s = true) (hen : doorEn s d = false) : doorCmdOp v s = doorReject d 1 s := by
  have hcode : doorCode s d op = 1 := by rw [doorCode, hen]; rfl
  rw [doorCmdOp, doorOp_eq v, doorNumber_eq v, hop, hd]
  dsimp only
  rw [if_neg (by simp [hcar, hlo, Nat.not_lt.mpr hhi]), if_pos (by simp [hen]), if_neg (by simp [hen]), hcode]

theorem overrunTold_spec (d : Nat) (s : State) :
    ((overrunTold d s).flag F.TRJ_DOOR_EVENT.CMD_OVR = true ↔ (s.door d).cmd ≠ none ∨ s.flag F.TRJ_DOOR_EVENT.CMD_OVR = true) ∧
      (∀ e j, e < 2 → j < 8 → DoorEvent (overrunTold d s) e j = DoorEvent s e j) ∧ OnlyRegs [Reg.TRJ_DOOR_EVENT] s (overrunTold d s) := by
  rw [overrunTold]
  cases hcmd : (s.door d).cmd with
  | none =>
    rw [if_neg (by simp)]
    exact ⟨by simp, fun _ _ _ _ => rfl, onlyRegs_of_changesOnly (.refl _ s)⟩
  | some op =>
    rw [if_pos Option.isSome_some]
    refine ⟨⟨fun _ => .inl (by simp), fun _ => State.flag_ev_self (by decide) (by decide) s⟩, fun e j _ _ => ?_,
      onlyRegs_of_changesOnly (changesOnly_ev (by simp) s)⟩
    rw [DoorEvent, DoorEvent, State.bit, State.bit]
    split
    · rw [State.get_ev_disjoint (by decide) (by decide) (by decide)]
    · rw [State.get_ev_disjoint (by decide) (by decide) (by decide)]

/-! ### A command in its stage 4 (Tables 11.2 and 11.3) -/

theorem doorCommand_of_refused {s : State} {d op : Nat} (h : doorCode s d op ≠ 0) :
    doorCommand d op s = doorReject d (doorCode s d op) s := by
  rw [doorCommand]
  split
  next h0 => exact absurd h0 h
  next => rfl

theorem doorCommand_of_open {s : State} {d : Nat} (h : doorCode s d 1 = 0) : doorCommand d 1 s = openOp d s := by
  rw [doorCommand, h]
  rfl

theorem doorCommand_of_close {s : State} {d op : Nat} (h : doorCode s d op = 0) (hop : 2 ≤ op) :
    doorCommand d op s = closeOp d (op == 3) s := by
  rw [doorCommand, h]
  exact if_neg (by omega)

/-- The one reopening a lock failure is owed is forgotten. -/
def lockForgotten (d : Nat) (s : State) : State := s.modDoor d (fun x => { x with lockTried := false })

theorem door_lockForgotten (d : Nat) (s : State) : (lockForgotten d s).door d = { s.door d with lockTried := false } :=
  State.door_modDoor_same _ _ _

theorem openOp_of_closing {s : State} {d : Nat} (h : (s.door d).st = .closing ∨ (s.door d).st = .nudging) :
    openOp d s = doorObstruct d 0 false (lockForgotten d s) := by
  have hst : ((lockForgotten d s).door d).st = (s.door d).st := by rw [door_lockForgotten]
  rw [openOp, ← lockForgotten]
  obtain h | h := h
  · rw [hst, h]
  · rw [hst, h]

theorem openOp_of_open {s : State} {d : Nat} (h : (s.door d).st = .opening ∨ (s.door d).st = .opened ∨ (s.door d).st = .reopening) :
    openOp d s = (lockForgotten d s).modDoor d
      (fun x => { x with pending := false, dwellFrom := none, nudgeFrom := none, noDwell := false }) := by
  have hst : ((lockForgotten d s).door d).st = (s.door d).st := by rw [door_lockForgotten]
  rw [openOp, ← lockForgotten]
  obtain h | h | h := h
  · rw [hst, h]
  · rw [hst, h]
  · rw [hst, h]

theorem closeOp_of_opening {s : State} {d : Nat} (nudge : Bool) (h : (s.door d).st = .opening) :
    closeOp d nudge s = ((lockForgotten d s).modDoor d (fun x => { x with nudge := x.nudge || nudge })).modDoor d
      (fun x => { x with pending := true }) := by
  have hst : ((lockForgotten d s).door d).st = (s.door d).st := by rw [door_lockForgotten]
  rw [closeOp, ← lockForgotten]
  rw [hst, h]

/-- Settles O37: a write that waits or is refused, and what a command comes to in its stage 4. -/
theorem doorCommandsWaitForStageFour : Obligations.DoorCommandsWaitForStageFour := by
  refine ⟨?writes, ?stage⟩
  case writes =>
    intro s core v i op d hacc hfree hcar hop hd hi
    have hexec := exec_doorCommand hacc hfree hop hi
    refine ⟨fun hen hon => ⟨_, hexec, ?_⟩, fun hen => ⟨_, hexec, ?_⟩⟩
    · rw [doorCmdOp_of_taken hop hd (by omega) (by omega) hcar hen hon]
      obtain ⟨hflag, hevents, hregs⟩ := overrunTold_spec d s
      have hdoor := State.door_of_doors_eq hregs.doors d
      generalize overrunTold d s = t at *
      refine ⟨?_, by rw [State.flag_of_bus_eq (State.modDoor_bus _ _ _)]; exact hflag,
        fun e j he hj => (doorEvent_of_bus_eq (State.modDoor_bus _ _ _) e j).trans (hevents e j he hj),
        (OnlyDoor.of_onlyRegs hregs).trans (.modDoor _ t)⟩
      rw [State.door_modDoor_same, hdoor]
    · rw [doorCmdOp_of_disabled hop hd (by omega) (by omega) hcar hen]
      exact doorReject_spec d 1 s
  case stage =>
    intro s d op _ hlo hhi
    refine ⟨fun hbad => ?_, fun hok => ⟨fun hop hst hruns => ?_, fun hop hst => ?_, fun hop hst => ?_⟩⟩
    · rw [doorCommand_of_refused hbad]
      exact doorReject_spec d _ s
    · subst hop
      rw [doorCommand_of_open hok, openOp_of_closing hst]
      have hruns' : DoorRuns (lockForgotten d s) d := doorRuns_of_trj_eq (State.modDoor_trj _ _ _) (State.modDoor_bus _ _ _) hruns
      obtain ⟨hdoor, -⟩ := doorObstruct_spec hruns' 0 false
      rw [hdoor, door_lockForgotten]
      exact ⟨rfl, rfl, rfl, State.flag_of_bus_eq (State.modDoor_bus _ _ _) _⟩
    · subst hop
      rw [doorCommand_of_open hok, openOp_of_open hst]
      refine ⟨?_, ?_, (State.modDoor_trj _ _ _).trans (State.modDoor_trj _ _ _)⟩
      · rw [State.door_modDoor_same, door_lockForgotten]
      · rw [State.door_modDoor_same]
    · rw [doorCommand_of_close hok hop, closeOp_of_opening _ hst]
      refine ⟨?_, ?_, ?_, (State.modDoor_trj _ _ _).trans ((State.modDoor_trj _ _ _).trans (State.modDoor_trj _ _ _))⟩
      · rw [State.door_modDoor_same]
      · rw [State.door_modDoor_same, State.door_modDoor_same, door_lockForgotten]
      · rw [State.door_modDoor_same, State.door_modDoor_same, door_lockForgotten]
        exact hst

/-! ### What stage 4 found (R357, R358, R361) -/

/-- The finding taken. -/
def dueTaken (d : Nat) (s : State) : State := s.modDoor d (fun x => { x with due := .none })

theorem doorDueIs_of_due {s : State} {d : Nat} {p : DoorDue → Bool} (act : State → State) (hon : s.servoOn = true) (hen : doorEn s d = true)
    (hp : p (s.door d).due = true) : doorDueIs d p act s = act (dueTaken d s) := if_pos (by simp [hon, hen, hp])

theorem obstruction_of_due {s : State} {d o : Nat} (hon : s.servoOn = true) (hen : doorEn s d = true) (hdue : (s.door d).due = .obstruction o) :
    obstruction d s = doorObstruct d o true (dueTaken d s) := by
  rw [obstruction, hdue]
  exact doorDueIs_of_due _ hon hen rfl

theorem exec_found {s : State} {d : Fin 2} {i : Instr} {b : Nat} (hon : s.servoOn = true) (hen : doorEn s d.val = true)
    (h : (s.door d.val).due = .stall ∧ i = .stall d ∧ b = 6 ∨ (s.door d.val).due = .keExc ∧ i = .keExc d ∧ b = 5) :
    b < 8 ∧ exec i s = .next (doorSettle d.val (doorEv d.val b (doorAbort d.val (dueTaken d.val s)))) := by
  obtain ⟨hdue, rfl, rfl⟩ | ⟨hdue, rfl, rfl⟩ := h
  · exact ⟨by decide, congrArg Host.Outcome.next (doorDueIs_of_due _ hon hen (by rw [hdue]; rfl))⟩
  · exact ⟨by decide, congrArg Host.Outcome.next (doorDueIs_of_due _ hon hen (by rw [hdue]; rfl))⟩

/-! ### Timers (R362, R363, R365) -/

theorem dwellEnd_of_due {s : State} {d t0 : Nat} (hon : s.servoOn = true) (hen : doorEn s d = true) (hfrom : (s.door d).dwellFrom = some t0)
    (hdue : t0 + 125000 * s.get (F.TRJ_DOOR_TIME.DWELL_RE d) ≤ s.tb.tick) :
    dwellEnd d s = s.modDoor d (fun x => { x with dwellFrom := none }) := by
  rw [dwellEnd, hfrom]
  exact if_pos (by simp [hon, hen, passed]; omega)

theorem nudgeEnd_of_due {s : State} {d t0 : Nat} (hon : s.servoOn = true) (hen : doorEn s d = true) (hfrom : (s.door d).nudgeFrom = some t0)
    (hpend : (s.door d).pending = true) (htime : s.get (F.TRJ_DOOR_CFG.NUDGE_T d) ≠ 0)
    (hdue : t0 + 125000000 * s.get (F.TRJ_DOOR_CFG.NUDGE_T d) ≤ s.tb.tick) :
    nudgeEnd d s = s.modDoor d (fun x => { x with nudgeDue := true }) := by
  rw [nudgeEnd, hfrom]
  exact if_pos (by simp [hon, hen, passed, hpend, htime]; omega)

theorem lockFail_of_due {s : State} {d t0 : Nat} (hon : s.servoOn = true) (hen : doorEn s d = true) (hfrom : (s.door d).lockFrom = some t0)
    (hdue : t0 + 125000 * s.get (F.TRJ_DOOR_TIME.T_LOCK d) ≤ s.tb.tick) (hshut : doorShut s d = false)
    (hreopen : s.flag (F.TRJ_DOOR_CFG.REOPEN d) = false) :
    lockFail d s = doorEv d 7 (s.modDoor d (fun x => { x with lockFrom := none })) := by
  rw [lockFail, hfrom]
  refine (if_pos (by simp [hon, hen, passed, hshut]; omega)).trans ?_
  dsimp only
  rw [hreopen]
  rfl

/-! ### The pending close (R347, R349, R363) -/

theorem pendingClose_of_due {s : State} {d : Nat} (hpend : (s.door d).pending = true) (hdwell : (s.door d).dwellFrom = none)
    (hmode : doorMode s.mode = true) (hst : (s.door d).st = .opened ∨ (s.door d).st = .stopped ∧ (s.door d).nudgeFrom ≠ none)
    (hfault : doorFault s d = false) : pendingClose d s = beginClose d (doorGivesUp d) s := by
  refine if_pos ?_
  obtain hst | ⟨hst, hfrom⟩ := hst
  · simp [hpend, hdwell, hmode, hst, hfault]
  · simp [hpend, hdwell, hmode, hst, hfault, Option.isSome_iff_ne_none, hfrom]

theorem beginClose_of_cut {s : State} {d : Nat} (back : State → State) (hcut : curtainCut s d = true) (hnudge : (s.door d).nudge = false) :
    beginClose d back s = s.modDoor d
      (fun x => { x with pending := true, dwellFrom := none, nudgeFrom := some (x.nudgeFrom.getD s.tb.tick) }) :=
  if_pos (by simp [hcut, hnudge])

theorem beginClose_of_clear {s : State} {d : Nat} (back : State → State) (h : curtainCut s d = false ∨ (s.door d).nudge = true) :
    beginClose d back s = doorQueue d false (s.door d).nudge false back s := by
  refine if_neg ?_
  obtain h | h := h
  · simp [h]
  · simp [h]

/-- The unit made ready for a close. -/
def closeReady (d : Nat) (s : State) : State :=
  s.modDoor d (fun x => { x with toOpen := false, dwellFrom := none, nudgeFrom := none, lockFrom := none, pending := x.pending && false })

theorem setTst_modDoor (i : Nat) (w : Word) (e : Nat) (f : Door → Door) (s : State) :
    setTst i w (s.modDoor e f) = (setTst i w s).modDoor e f := rfl

theorem putRow_modDoor (r : Nat) (x : TstRow) (e : Nat) (f : Door → Door) (s : State) :
    putRow r x (s.modDoor e f) = (putRow r x s).modDoor e f := by simp only [putRow, setTst_modDoor]

theorem ite_pair_map {α β γ : Type} (g : β → γ) (c : Prop) [Decidable c] (p q : α × β) :
    (if c then (p.1, g p.2) else (q.1, g q.2)) = ((if c then p else q).1, g (if c then p else q).2) := by
  split <;> rfl

/-- What a move is formed from does not lie in the door units. -/
theorem doorMove_modDoor (d e : Nat) (opening nudge : Bool) (f : Door → Door) (s : State) :
    doorMove d opening nudge (s.modDoor e f) = ((doorMove d opening nudge s).1, (doorMove d opening nudge s).2.modDoor e f) := by
  have haxis : (s.modDoor e f).axis (doorAxis s d) = s.axis (doorAxis s d) := State.axis_of_trj_eq (State.modDoor_trj _ _ _) _
  have hget : ∀ r, (s.modDoor e f).get r = s.get r := State.get_of_bus_eq (State.modDoor_bus _ _ _)
  have hdoor : doorAxis (s.modDoor e f) d = doorAxis s d := hget _
  have hwidth : doorWidth (s.modDoor e f) d = doorWidth s d := by rw [doorWidth, hget, doorWidth]
  have hprof : profileSpan (s.modDoor e f) d opening nudge = profileSpan s d opening nudge := by simp only [profileSpan, hget]
  have hspeed : vE (s.modDoor e f) d nudge = vE s d nudge := by simp only [vE, energySpeed, hget]
  have hrows : ∀ x v, genRows d x v (s.modDoor e f) = (genRows d x v s).modDoor e f := fun x v => by
    simp only [genRows, genTime, hget, putRow_modDoor]
  rw [doorMove, doorMove]
  simp only [hdoor, haxis, hwidth, hprof, hspeed, hget, hrows]
  exact ite_pair_map (fun t : State => t.modDoor e f) _ (_, s) (_, genRows _ _ _ s)

/-- Only words of the Trajectory Segment Table changed. -/
def TstOnly (s t : State) : Prop := t = { s with trj := { s.trj with tst := t.trj.tst } }

theorem TstOnly.trans {s t u : State} (hst : TstOnly s t) (htu : TstOnly t u) : TstOnly s u := by
  rw [TstOnly] at *
  rw [htu, hst]

theorem tstOnly_setTst (i : Nat) (w : Word) (s : State) : TstOnly s (setTst i w s) := rfl

theorem tstOnly_putRow (r : Nat) (x : TstRow) (s : State) : TstOnly s (putRow r x s) :=
  (((tstOnly_setTst _ _ s).trans (tstOnly_setTst _ _ _)).trans (tstOnly_setTst _ _ _)).trans (tstOnly_setTst _ _ _)

theorem tstOnly_genRows (d dist v : Nat) (s : State) : TstOnly s (genRows d dist v s) := (tstOnly_putRow _ _ s).trans (tstOnly_putRow _ _ _)

/-- A move's rows are those of a profile, or are written now. -/
theorem doorMove_rows (d : Nat) (opening nudge : Bool) (s : State) :
    (doorMove d opening nudge s).2 = s ∨ ∃ dist v, (doorMove d opening nudge s).2 = genRows d dist v s := by
  rw [doorMove]
  exact iteInduction (motive := fun p : MoveArg × State => p.2 = s ∨ ∃ dist v, p.2 = genRows d dist v s) (fun _ => .inl rfl)
    (fun _ => .inr ⟨_, _, rfl⟩)

/-- The axes and the registers stay. -/
theorem doorMove_frame (d : Nat) (opening nudge : Bool) (s : State) :
    (doorMove d opening nudge s).2 = { s with trj := { s.trj with tst := (doorMove d opening nudge s).2.trj.tst } } := by
  obtain h | ⟨dist, v, h⟩ := doorMove_rows d opening nudge s
  · rw [h]
  · rw [h]
    exact tstOnly_genRows d dist v s

theorem doorSpanOk_modDoor (s : State) (d e : Nat) (opening nudge : Bool) (g : MoveArg) (f : Door → Door) :
    doorSpanOk (s.modDoor e f) d opening nudge g = doorSpanOk s d opening nudge g := by
  have hget : ∀ r, (s.modDoor e f).get r = s.get r := State.get_of_bus_eq (State.modDoor_bus _ _ _)
  have hrows : ∀ first count, spanRows (s.modDoor e f) first count = spanRows s first count := fun first count => by
    simp only [spanRows, tstRow, tstWord, State.modDoor_trj]
  simp only [doorSpanOk, doorAxis, checkSpan, vE, energySpeed, hget, hrows]
  rfl

/-- A close that is queued. -/
theorem doorQueue_close {s : State} {d : Nat} {nudge : Bool} (back : State → State) (hpos : (s.axis (doorAxis s d)).spPos ≠ 0) {m : MoveArg} {u : State}
    (hmove : doorMove d false nudge s = (m, u)) (hok : doorSpanOk u d false nudge m = true) :
    ∃ g : MoveArg, g.first = m.first ∧ g.count = m.count ∧ g.dir = m.dir ∧
      doorQueue d false nudge false back s = ((closeReady d u).modAxis (doorAxis s d) (fun a => { a with queue := a.queue ++ [g] })).modDoor d
        (fun x => { x with st := if nudge then .nudging else .closing }) := by
  have hdoor : doorAxis (closeReady d s) d = doorAxis s d := doorAxis_of_bus_eq (State.modDoor_bus _ _ _) d
  have haxis : (closeReady d s).axis (doorAxis (closeReady d s) d) = s.axis (doorAxis s d) := by
    rw [hdoor]
    exact State.axis_of_trj_eq (State.modDoor_trj _ _ _) _
  have hmove' : doorMove d false nudge (closeReady d s) = (m, closeReady d u) := by
    rw [closeReady, doorMove_modDoor, hmove]
    rfl
  have hok' : doorSpanOk (closeReady d u) d false nudge m = true := (doorSpanOk_modDoor _ _ _ _ _ _ _).trans hok
  refine ⟨checkedArg (closeReady d u) (doorAxis s d) m, rfl, rfl, rfl, ?_⟩
  rw [doorQueue, ← closeReady]
  dsimp only
  rw [haxis, if_neg (by simpa using hpos), hmove']
  dsimp only
  rw [if_pos hok', hdoor]
  rfl

theorem closeQueued_spec {s : State} {d : Nat} {nudge : Bool} {m : MoveArg} {u t : State} {back : State → State}
    (hnudge : nudge = (s.door d).nudge) (hpos : (s.axis (doorAxis s d)).spPos ≠ 0)
    (hmove : doorMove d false nudge s = (m, u)) (hok : doorSpanOk u d false nudge m = true) (ht : t = doorQueue d false nudge false back s) :
    (t.door d).st = (if nudge then .nudging else .closing) ∧ (t.door d).pending = false ∧ (t.door d).nudge = nudge ∧
      (t.door d).nudgeFrom = none ∧ t.bus = s.bus ∧
      (∃ g, (t.axis (doorAxis s d)).queue = (s.axis (doorAxis s d)).queue ++ [g] ∧ g.first = m.first ∧ g.count = m.count ∧ g.dir = m.dir) ∧
      ∀ n, n ≠ doorAxis s d → t.axis n = s.axis n := by
  obtain ⟨g, hfirst, hcount, hdir, hqueue⟩ := doorQueue_close back hpos hmove hok
  have hframe : u = { s with trj := { s.trj with tst := u.trj.tst } } := by
    have h := doorMove_frame d false nudge s
    rw [hmove] at h
    exact h
  have hdoors : u.doors = s.doors := by rw [hframe]
  have hbus : u.bus = s.bus := by rw [hframe]
  have haxes : u.trj.axes = s.trj.axes := by rw [hframe]
  have haxis : ∀ n, (closeReady d u).axis n = s.axis n := fun n =>
    (State.axis_of_trj_eq (State.modDoor_trj _ _ _) n).trans (by rw [State.axis, haxes, State.axis])
  have hready : (closeReady d u).door d =
      { s.door d with toOpen := false, dwellFrom := none, nudgeFrom := none, lockFrom := none, pending := (s.door d).pending && false } := by
    rw [closeReady, State.door_modDoor_same, State.door_of_doors_eq hdoors]
  have hreadyBus : (closeReady d u).bus = s.bus := (State.modDoor_bus _ _ _).trans hbus
  rw [ht, hqueue]
  generalize closeReady d u = v at *
  have hdoor : ∀ f, (v.modAxis (doorAxis s d) f).door d = v.door d := fun f => State.door_of_doors_eq (State.modAxis_doors _ _ _) d
  have haxis' : ∀ f h n, ((v.modAxis (doorAxis s d) f).modDoor d h).axis n = (v.modAxis (doorAxis s d) f).axis n := fun f h n =>
    State.axis_of_trj_eq (State.modDoor_trj _ _ _) n
  refine ⟨?_, ?_, ?_, ?_, (State.modDoor_bus _ _ _).trans ((State.modAxis_bus _ _ _).trans hreadyBus), ⟨g, ?_, hfirst, hcount, hdir⟩,
    fun n hn => (haxis' _ _ n).trans ((State.axis_modAxis_ne _ _ _ _ hn).trans (haxis n))⟩
  · rw [State.door_modDoor_same]
  · rw [State.door_modDoor_same, hdoor, hready]
    exact Bool.and_false _
  · rw [State.door_modDoor_same, hdoor, hready]
    exact hnudge.symm
  · rw [State.door_modDoor_same, hdoor, hready]
  · rw [haxis', State.axis_modAxis_same, haxis]

/-- Settles O38: findings, timers, the pending close and the lock confirmation. -/
theorem doorSupervisionAndTimers : Obligations.DoorSupervisionAndTimers := by
  refine ⟨?found, ?timers, ?close, ?lock⟩
  case found =>
    intro s d hon hen hruns
    have hruns' : DoorRuns (dueTaken d.val s) d.val := doorRuns_of_trj_eq (State.modDoor_trj _ _ _) (State.modDoor_bus _ _ _) hruns
    have hdoor : (dueTaken d.val s).door d.val = { s.door d.val with due := .none } := State.door_modDoor_same _ _ _
    have haxis : doorAxis (dueTaken d.val s) d.val = doorAxis s d.val := doorAxis_of_bus_eq (State.modDoor_bus _ _ _) _
    have haxes : ∀ n, (dueTaken d.val s).axis n = s.axis n := State.axis_of_trj_eq (State.modDoor_trj _ _ _)
    have hregs : RegsBut [Reg.TRJ_DOOR_EVENT] s (dueTaken d.val s) := RegsBut.of_bus_eq (.refl _ s) (State.modDoor_bus _ _ _)
    have hreopen : (dueTaken d.val s).flag (F.TRJ_DOOR_CFG.REOPEN d.val) = s.flag (F.TRJ_DOOR_CFG.REOPEN d.val) :=
      State.flag_of_bus_eq (State.modDoor_bus _ _ _) _
    refine ⟨fun o hdue => ⟨_, congrArg Host.Outcome.next (obstruction_of_due hon hen hdue), ?_⟩, fun i b hi => ?_⟩
    · obtain ⟨hafter, hevent, hst, hcause, hqueue, hothers, hbut⟩ := doorObstruct_spec hruns' o true
      rw [hdoor, hreopen] at hafter
      rw [haxis] at hst hcause hqueue hothers
      rw [hafter]
      exact ⟨rfl, rfl, rfl, rfl, rfl, hevent, hst, hcause, hqueue, fun n hn => (hothers n hn).trans (haxes n), hregs.trans hbut⟩
    · obtain ⟨hb, hexec⟩ := exec_found hon hen hi
      refine ⟨_, hexec, ?_⟩
      obtain ⟨hafter, hevent, hst, hcause, hqueue, hothers, hbut⟩ := doorFound_spec hruns' hb
      rw [hdoor] at hafter
      rw [haxis] at hst hcause hqueue hothers
      exact ⟨hevent, hafter, hst, hcause, hqueue, fun n hn => (hothers n hn).trans (haxes n), hregs.trans hbut⟩
  case timers =>
    intro s d t0 hon hen
    refine ⟨fun hfrom hdue => ⟨_, congrArg Host.Outcome.next (dwellEnd_of_due hon hen hfrom hdue), ?_⟩,
      fun hfrom hpend htime hdue => ⟨_, congrArg Host.Outcome.next (nudgeEnd_of_due hon hen hfrom hpend htime hdue), ?_⟩⟩
    · exact ⟨State.door_modDoor_same _ _ _, fun e he => State.door_modDoor_ne _ _ _ _ he, rfl⟩
    · exact ⟨State.door_modDoor_same _ _ _, fun e he => State.door_modDoor_ne _ _ _ _ he, rfl⟩
  case close =>
    intro s d nudge _ hpend hdwell hmode hst hfault hnudge
    have hclose := pendingClose_of_due hpend hdwell hmode hst hfault
    refine ⟨fun hcut hno t ht => ?_, fun hclear hpos m u hmove hok t ht => ?_⟩
    · rw [hclose, beginClose_of_cut _ hcut (hnudge.symm.trans hno)] at ht
      subst ht
      refine ⟨?_, ?_, ?_, State.modDoor_trj _ _ _, .modDoor _ s⟩
      · rw [State.door_modDoor_same]
      · rw [State.door_modDoor_same]
      · rw [State.door_modDoor_same]
        exact Option.some_ne_none _
    · rw [hclose, beginClose_of_clear _ (hclear.imp_right fun h => hnudge.symm.trans h), ← hnudge] at ht
      exact closeQueued_spec hnudge hpos hmove hok ht
  case lock =>
    intro s d t0 hon hen hfrom hdue hshut hreopen
    refine ⟨_, congrArg Host.Outcome.next (lockFail_of_due hon hen hfrom hdue hshut hreopen), ?_⟩
    obtain ⟨hevent, hregs⟩ := doorEv_spec d.val (i := 7) (by decide) (s.modDoor d.val (fun x => { x with lockFrom := none }))
    refine ⟨?_, hevent, (OnlyDoor.modDoor _ s).trans (.of_onlyRegs hregs)⟩
    rw [doorEv_door, State.door_modDoor_same]

end Sys2Proof.Machine
end

section
/-!
PROOF. Stop commands and the stop queues (12 R375 to R380).
-/

namespace Sys2Proof.Machine

open Sys2Proof

/-! ### A car's part of the stop scheduler -/

theorem bssCar_modBss_same (c : Nat) (f : BssCar → BssCar) (s : State) : bssCar (modBss c f s) c = f (bssCar s c) := smGet_smMod_same _ _ _ _

theorem bssCar_modBss_ne {c d : Nat} (h : d ≠ c) (f : BssCar → BssCar) (s : State) : bssCar (modBss c f s) d = bssCar s d :=
  smGet_smMod_ne _ _ _ _ _ h

theorem bssCar_of_bss_eq {s t : State} (h : t.bss = s.bss) (c : Nat) : bssCar t c = bssCar s c := by rw [bssCar, h, bssCar]

theorem modBss_bus (c : Nat) (f : BssCar → BssCar) (s : State) : (modBss c f s).bus = s.bus := rfl

/-- Of the stop scheduler only what it keeps of cars changed, and of the registers only those of `l`. -/
def BssTurn (l : List Nat) (s t : State) : Prop :=
  RegsBut l s t ∧ t = { s with bus := t.bus, bss := { s.bss with cars := t.bss.cars } }

namespace BssTurn

variable {l : List Nat} {s t u : State}

theorem trans (hst : BssTurn l s t) (htu : BssTurn l t u) : BssTurn l s u := by
  obtain ⟨hregs, hframe⟩ := hst
  obtain ⟨hregs', hframe'⟩ := htu
  exact ⟨hregs.trans hregs', by rw [hframe', hframe]⟩

theorem modBss (c : Nat) (f : BssCar → BssCar) (s : State) : BssTurn l s (modBss c f s) := ⟨regsBut_of_regs_eq l rfl, rfl⟩

theorem of_onlyRegs (h : OnlyRegs l s t) : BssTurn l s t := ⟨h.1, by rw [h.2.2]⟩

end BssTurn

/-! ### The outcome of a command -/

/-- The status an outcome leaves before its event. -/
def stopStatus (c code : Nat) (s : State) : State := (s.put F.BSS_CMD_STAT.CODE code).put F.BSS_CMD_STAT.CAR c

theorem stopOutcome_of_zero (c : Nat) (s : State) : stopOutcome c 0 s = stopStatus c 0 s := by rw [stopOutcome, if_pos rfl]; rfl

theorem stopOutcome_of_code {code : Nat} (h : code ≠ 0) (c : Nat) (s : State) :
    stopOutcome c code s = (stopStatus c code s).ev F.BSS_EVENT.CMD_REJ := by rw [stopOutcome, if_neg h]; rfl

theorem onlyRegs_stopStatus (c code : Nat) (s : State) : OnlyRegs [Reg.BSS_CMD_STAT] s (stopStatus c code s) :=
  onlyRegs_of_changesOnly ((changesOnly_put (f := F.BSS_CMD_STAT.CODE) (by simp) s code).trans
    (changesOnly_put (f := F.BSS_CMD_STAT.CAR) (by simp) _ c))

theorem code_stopStatus (c code : Nat) (s : State) : (stopStatus c code s).get F.BSS_CMD_STAT.CODE = code % 16 := by
  rw [stopStatus, State.get_put_disjoint (by decide) (by decide) (by decide), State.get_put_self (by decide) (by decide)]
  rfl

theorem car_stopStatus (c code : Nat) (s : State) : (stopStatus c code s).get F.BSS_CMD_STAT.CAR = c % 8 := by
  rw [stopStatus, State.get_put_self (by decide) (by decide)]
  rfl

theorem bss_stopStatus (c code : Nat) (s : State) : (stopStatus c code s).bss = s.bss := by
  rw [stopStatus, State.put_bss, State.put_bss]

theorem bssCar_stopOutcome (c code d : Nat) (s : State) : bssCar (stopOutcome c code s) d = bssCar s d := by
  rw [stopOutcome]
  split
  · exact bssCar_of_bss_eq (bss_stopStatus c code s) d
  · exact bssCar_of_bss_eq ((State.ev_bss _ _).trans (bss_stopStatus c code s)) d

theorem code_stopOutcome (c code : Nat) (s : State) : (stopOutcome c code s).get F.BSS_CMD_STAT.CODE = code % 16 := by
  by_cases h : code = 0
  · subst h
    rw [stopOutcome_of_zero, code_stopStatus]
  · rw [stopOutcome_of_code h, State.get_ev_other (by decide), code_stopStatus]

theorem onlyRegs_stopOutcome (c code : Nat) (s : State) : OnlyRegs [Reg.BSS_CMD_STAT, Reg.BSS_EVENT] s (stopOutcome c code s) := by
  obtain ⟨hregs, hpend, hframe⟩ := onlyRegs_stopStatus c code s
  have hstatus : ChangesOnly (· ∈ [Reg.BSS_CMD_STAT, Reg.BSS_EVENT]) s (stopStatus c code s) := ⟨hregs.mono (by simp), hpend, hframe⟩
  by_cases h : code = 0
  · subst h
    rw [stopOutcome_of_zero]
    exact onlyRegs_of_changesOnly hstatus
  · rw [stopOutcome_of_code h]
    exact onlyRegs_of_changesOnly (hstatus.trans (changesOnly_ev (by simp) _))

/-- The codes of Table 12.1 fit their field and are not 0. -/
theorem stopCodes_range {s : State} {op c : Nat} {e : StopEntry} {code : Nat} (h : code ∈ stopCodes s op c e) : code ≠ 0 ∧ code < 16 := by
  have hone : ∀ (p : Prop) [Decidable p] (k : Nat), code ∈ (if p then [] else [k]) → code = k := fun p _ k hk => by
    split at hk <;> simp at hk
    exact hk
  have hpos : ∀ (p : Prop) [Decidable p] (k : Nat), code ∈ (if p then [k] else []) → code = k := fun p _ k hk => by
    split at hk <;> simp at hk
    exact hk
  rw [stopCodes] at h
  simp only [List.mem_append] at h
  obtain ((((((h | h) | h) | h) | h) | h) | h) | h := h
  · have := hone _ _ h; omega
  · have := hone _ _ h; omega
  · have := hpos _ _ h; omega
  · have := hpos _ _ h; omega
  · have := hpos _ _ h; omega
  · have := hpos _ _ h; omega
  · have := hone _ _ h; omega
  · have := hpos _ _ h; omega

theorem refused_stop {s : State} {c code : Nat} (hc : c < 8) (hcode : code ≠ 0 ∧ code < 16) :
    (stopOutcome c code s).get F.BSS_CMD_STAT.CODE = code ∧ (stopOutcome c code s).get F.BSS_CMD_STAT.CAR = c ∧
      (stopOutcome c code s).flag F.BSS_EVENT.CMD_REJ = true ∧ OnlyRegs [Reg.BSS_CMD_STAT, Reg.BSS_EVENT] s (stopOutcome c code s) := by
  refine ⟨(code_stopOutcome c code s).trans (Nat.mod_eq_of_lt hcode.2), ?_, ?_, onlyRegs_stopOutcome c code s⟩
  · rw [stopOutcome_of_code hcode.1, State.get_ev_other (by decide), car_stopStatus, Nat.mod_eq_of_lt hc]
  · rw [stopOutcome_of_code hcode.1]
    exact State.flag_ev_self (by decide) (by decide) _

/-! ### The queue -/

theorem sameStop_iff (a b : StopEntry) : sameStop a b = true ↔ a.member = b.member ∧ a.landing = b.landing := by simp [sameStop]

theorem sameStop_congr {a b : StopEntry} (h : sameStop a b = true) (y : StopEntry) : sameStop b y = sameStop a y := by
  obtain ⟨hmember, hlanding⟩ := (sameStop_iff a b).mp h
  rw [sameStop, sameStop, hmember, hlanding]

theorem mem_insertStop {e y : StopEntry} {q : List StopEntry} : y ∈ insertStop e q ↔ y = e ∨ y ∈ q := by
  induction q with
  | nil => simp [insertStop]
  | cons x q ih =>
    rw [insertStop]
    split
    · simp
    · simp only [List.mem_cons, ih]
      tauto

theorem pairwise_insertStop (e : StopEntry) {q : List StopEntry} (h : q.Pairwise (fun a b => a.target ≤ b.target)) :
    (insertStop e q).Pairwise (fun a b => a.target ≤ b.target) := by
  induction q with
  | nil => simp [insertStop]
  | cons x q ih =>
    obtain ⟨hx, hq⟩ := List.pairwise_cons.mp h
    rw [insertStop]
    split
    next hlt =>
      refine List.pairwise_cons.mpr ⟨fun y hy => ?_, h⟩
      obtain rfl | hy := List.mem_cons.mp hy
      · omega
      · exact Int.le_trans (Int.le_of_lt hlt) (hx y hy)
    next hge =>
      refine List.pairwise_cons.mpr ⟨fun y hy => ?_, ih hq⟩
      obtain rfl | hy := mem_insertStop.mp hy
      · omega
      · exact hx y hy

/-- The entry an ADD leaves at its landing. -/
def mergedStop (e : StopEntry) (q : List StopEntry) : StopEntry :=
  match q.find? (sameStop e) with
  | some y => { y with flags := Nat.lor y.flags e.flags, sides := Nat.lor y.sides e.sides }
  | none => e

theorem sameStop_mergedStop (e : StopEntry) (q : List StopEntry) : sameStop e (mergedStop e q) = true := by
  rw [mergedStop]
  split
  next y hy =>
    have hs : sameStop e y = true := List.find?_some hy
    exact (sameStop_iff _ _).mpr ((sameStop_iff e y).mp hs)
  next => exact (sameStop_iff e e).mpr ⟨rfl, rfl⟩

/-- The queue after an ADD. -/
def queueAdded (e : StopEntry) (q : List StopEntry) : List StopEntry := insertStop (mergedStop e q) (q.filter (fun z => !sameStop e z))

theorem queueAdded_spec (e : StopEntry) (q : List StopEntry) :
    (∃ x, x ∈ queueAdded e q ∧ sameStop e x = true ∧ (∀ y, q.find? (sameStop e) = some y →
      x.flags = Nat.lor y.flags e.flags ∧ x.sides = Nat.lor y.sides e.sides ∧ x.target = y.target) ∧
      (q.find? (sameStop e) = none → x = e)) ∧
    (∀ y, sameStop e y = false → (y ∈ queueAdded e q ↔ y ∈ q)) ∧
    (q.Pairwise (fun a b => a.target ≤ b.target) → (queueAdded e q).Pairwise (fun a b => a.target ≤ b.target)) := by
  refine ⟨⟨mergedStop e q, mem_insertStop.mpr (.inl rfl), sameStop_mergedStop e q, fun y hy => ?_, fun hnone => ?_⟩, fun y hy => ?_,
    fun h => pairwise_insertStop _ (h.filter _)⟩
  · rw [mergedStop, hy]
    exact ⟨rfl, rfl, rfl⟩
  · rw [mergedStop, hnone]
  · rw [queueAdded, mem_insertStop]
    have hne : y ≠ mergedStop e q := fun h => by rw [h, sameStop_mergedStop] at hy; exact Bool.noConfusion hy
    simp [hne, hy]

/-- The entry of an ADD in the car's queue. -/
def addedAt (c : Nat) (e : StopEntry) (s : State) : State :=
  modBss c (fun y => { y with queue := insertStop (mergedStop e (bssCar s c).queue) (y.queue.filter (fun z => !sameStop e z)) }) s

theorem bssCar_addedAt (c : Nat) (e : StopEntry) (s : State) :
    (bssCar (addedAt c e s) c).queue = queueAdded e (bssCar s c).queue := by rw [addedAt, bssCar_modBss_same, queueAdded]

theorem stopAdd_eq (c : Nat) (e : StopEntry) (s : State) : stopAdd c e s =
    if e.member = myMember s ∧ levelAt s c = some e.landing ∧ bssBusy s c = false then
      arrive c (mergedStop e (bssCar s c).queue) (addedAt c e s) else addedAt c e s := rfl

/-! ### Arriving at a stop (R379) -/

/-- The queue an arrival serves: what it leaves with no direction names the stop no more. -/
theorem arrive_spec (c : Nat) (e : StopEntry) (s : State) :
    (arrive c e s).flag F.BSS_EVENT.ARRIVE = true ∧ (bssCar (arrive c e s) c).level = true ∧ (bssCar (arrive c e s) c).depart = false ∧
      ((bssCar (arrive c e s) c).dir = 0 → ∀ y, y ∈ (bssCar (arrive c e s) c).queue → sameStop e y = false) := by
  rw [arrive]
  generalize hat : ((bssCar s c).queue.find? (sameStop e)).getD { e with flags := 0 } = x
  have hsame : sameStop e x = true := by
    rw [← hat]
    cases hfind : (bssCar s c).queue.find? (sameStop e) with
    | none => exact (sameStop_iff _ _).mpr ⟨rfl, rfl⟩
    | some y => exact List.find?_some (p := sameStop e) hfind
  generalize nextDir (bssCar s c).dir x (bssCar s c).queue = d
  generalize hm : modBss c (fun y => { y with
    dir := d
    queue := if x.flags - servedFlags d x.flags = 0 then (bssCar s c).queue.filter (fun y => !sameStop x y)
      else insertStop { x with flags := x.flags - servedFlags d x.flags } ((bssCar s c).queue.filter (fun y => !sameStop x y))
    depart := false, level := true, eval := 0, deferCnt := 0, start := none
    goal := if (s.axis c).mv.isSome then y.goal else none, woke := [], redo := none }) s = t
  have hcar : (bssCar t c).level = true ∧ (bssCar t c).depart = false ∧ (bssCar t c).dir = d ∧ (bssCar t c).queue =
      (if x.flags - servedFlags d x.flags = 0 then (bssCar s c).queue.filter (fun y => !sameStop x y)
        else insertStop { x with flags := x.flags - servedFlags d x.flags } ((bssCar s c).queue.filter (fun y => !sameStop x y))) := by
    rw [← hm, bssCar_modBss_same]
    exact ⟨rfl, rfl, rfl, rfl⟩
  obtain ⟨hlevel, hdepart, hdir, hqueue⟩ := hcar
  generalize d * 2 ^ 28 + x.sides % 4 * 2 ^ 26 + servedFlags d x.flags % 8 * 2 ^ 23 + x.landing % 64 * 2 ^ 8 + x.member % 256 = w
  have hafter : ∀ n, bssCar (((t.result (Reg.BSS_CAR_ARRIVE c) w).ev F.BSS_EVENT.ARRIVE).ev F.BSS_EVENT.NEW) n = bssCar t n :=
    bssCar_of_bss_eq (by rw [State.ev_bss, State.ev_bss, State.result_bss])
  refine ⟨?_, by rw [hafter, hlevel], by rw [hafter, hdepart], fun hd y hy => ?_⟩
  · rw [State.flag_ev_disjoint (by decide) (by decide) (by decide)]
    exact State.flag_ev_self (by decide) (by decide) _
  · rw [hafter] at hd hy
    have hd0 : d = 0 := hdir.symm.trans hd
    rw [hqueue, hd0, servedFlags, if_pos rfl, Nat.sub_self, if_pos rfl] at hy
    have hno := (List.mem_filter.mp hy).2
    rw [← sameStop_congr hsame]
    simpa using hno

/-! ### The commands -/

theorem stopOp_lt (v : Word) : getF F.BSS_STOP_CMD.CAR.bits v < 8 := getF_lt _ _

theorem exec_stopCommand {s : State} {core : Sender} {v : Word} {i : Instr} {op : Nat} (hacc : canAccess s core = true)
    (hfree : Unguarded s Reg.BSS_STOP_CMD) (hop : op = getF F.BSS_STOP_CMD.OP.bits v)
    (hi : op = 1 ∧ i = .bssAdd core v ∨ op = 2 ∧ i = .bssRemove core v ∨ op = 3 ∧ i = .bssClear core v ∨ op = 4 ∧ i = .depart core v) :
    exec i s = .next (stopCmdOp v s) := by
  have hrow : stopRow core op v s = stopCmdOp v s := by rw [stopRow, writeCmd_of_unguarded _ hacc hfree, if_pos hop.symm]
  rw [← hrow]
  obtain ⟨rfl, rfl⟩ | ⟨rfl, rfl⟩ | ⟨rfl, rfl⟩ | ⟨rfl, rfl⟩ := hi <;> rfl

theorem stopCmdOp_of_refused {s : State} {v : Word} {op c code : Nat} {e : StopEntry} {l : List Nat} (hop : op = getF F.BSS_STOP_CMD.OP.bits v)
    (hc : c = getF F.BSS_STOP_CMD.CAR.bits v) (he : e = cmdStop v s) (h : stopCodes s op c e = code :: l) :
    stopCmdOp v s = stopOutcome c code s := by
  subst hop hc he
  rw [stopCmdOp, h]

/-- A command that passes every check. -/
def stopTaken (op c : Nat) (e : StopEntry) (s : State) : State :=
  if op = 1 then stopOutcome c 0 (stopAdd c e s)
  else if op = 2 then stopOutcome c 0 (stopRemove c e s)
  else if op = 3 then stopClear c s
  else stopOutcome c 0 (modBss c (fun x => { x with depart := true, level := false }) s)

theorem stopCmdOp_of_ok {s : State} {v : Word} {op c : Nat} {e : StopEntry} (hop : op = getF F.BSS_STOP_CMD.OP.bits v)
    (hc : c = getF F.BSS_STOP_CMD.CAR.bits v) (he : e = cmdStop v s) (hrange : 1 ≤ op ∧ op ≤ 4) (h : stopCodes s op c e = []) :
    stopCmdOp v s = stopTaken op c e s := by
  subst hc he
  rw [stopCmdOp, ← hop, h]
  obtain ⟨hlo, hhi⟩ := hrange
  obtain rfl | rfl | rfl | rfl : op = 1 ∨ op = 2 ∨ op = 3 ∨ op = 4 := by omega
  all_goals rfl

/-- What an accepted command leaves of the registers and of the car. -/
theorem stopOutcome_zero_spec (c : Nat) {s t : State} (h : BssTurn [Reg.BSS_CMD_STAT] s t) :
    (∀ d, bssCar (stopOutcome c 0 t) d = bssCar t d) ∧ (stopOutcome c 0 t).get F.BSS_CMD_STAT.CODE = 0 ∧
      RegsBut [Reg.BSS_CMD_STAT] s (stopOutcome c 0 t) ∧
      stopOutcome c 0 t = { s with bus := (stopOutcome c 0 t).bus, bss := { s.bss with cars := (stopOutcome c 0 t).bss.cars } } := by
  have hturn : BssTurn [Reg.BSS_CMD_STAT] s (stopOutcome c 0 t) := h.trans (by rw [stopOutcome_of_zero]; exact .of_onlyRegs (onlyRegs_stopStatus c 0 t))
  exact ⟨fun d => bssCar_stopOutcome c 0 d t, code_stopOutcome c 0 t, hturn.1, hturn.2⟩

theorem mem_stopRemoved (e y : StopEntry) (q : List StopEntry) :
    y ∈ (q.map (fun y => if sameStop e y then { y with flags := y.flags - Nat.land y.flags e.flags } else y)).filter
        (fun y => !(sameStop e y) || y.flags != 0) ↔
      ∃ x, x ∈ q ∧ (sameStop e x = false ∧ y = x ∨
        sameStop e x = true ∧ y = { x with flags := x.flags - Nat.land x.flags e.flags } ∧ y.flags ≠ 0) := by
  rw [List.mem_filter, List.mem_map]
  constructor
  · rintro ⟨⟨x, hx, rfl⟩, hkeep⟩
    refine ⟨x, hx, ?_⟩
    cases hs : sameStop e x with
    | false => exact .inl ⟨rfl, if_neg (by simp)⟩
    | true =>
      rw [hs, if_pos rfl] at hkeep
      have hs' : sameStop e { x with flags := x.flags - Nat.land x.flags e.flags } = true := hs
      rw [hs'] at hkeep
      refine .inr ⟨rfl, if_pos rfl, ?_⟩
      rw [if_pos rfl]
      simpa using hkeep
  · rintro ⟨x, hx, ⟨hs, rfl⟩ | ⟨hs, hy, hflags⟩⟩
    · exact ⟨⟨y, hx, if_neg (by simp [hs])⟩, by simp [hs]⟩
    · exact ⟨⟨x, hx, (if_pos hs).trans hy.symm⟩, by simp [hflags]⟩

/-- Settles O39: each code refuses; ADD, REMOVE, CLEAR and DEPART entry by entry. -/
theorem stopCommandsChangeTheQueue : Obligations.StopCommandsChangeTheQueue := by
  intro s core v i op c e hacc hfree hop hc he hi
  have hexec := exec_stopCommand hacc hfree hop hi
  have hlt : c < 8 := hc ▸ stopOp_lt v
  refine ⟨fun code l hcodes => ⟨_, hexec, ?refused⟩, fun hok => ⟨fun h1 haway => ⟨_, hexec, ?add⟩,
    fun h1 hmember hlevel hbusy => ⟨_, hexec, ?served⟩, fun h2 => ⟨_, hexec, ?remove⟩, fun h3 => ⟨_, hexec, ?clear⟩, fun h4 => ⟨_, hexec, ?depart⟩⟩⟩
  case refused =>
    rw [stopCmdOp_of_refused hop hc he hcodes]
    exact refused_stop hlt (stopCodes_range (hcodes ▸ List.mem_cons_self))
  all_goals rw [stopCmdOp_of_ok hop hc he (by omega) hok]
  case add =>
    subst h1
    rw [stopTaken, if_pos rfl, stopAdd_eq, if_neg haway]
    obtain ⟨hcars, hcode, hregs, hframe⟩ := stopOutcome_zero_spec c (s := s) (t := addedAt c e s) (.modBss c _ s)
    obtain ⟨hentry, hothers, hsorted⟩ := queueAdded_spec e (bssCar s c).queue
    refine ⟨?_, ?_, ?_, hcode, hregs, hframe⟩
    all_goals rw [hcars, bssCar_addedAt]
    · exact hentry
    · exact hothers
    · exact hsorted
  case served =>
    subst h1
    rw [stopTaken, if_pos rfl, stopAdd_eq, if_pos ⟨hmember, hlevel, hbusy⟩]
    generalize addedAt c e s = t
    obtain ⟨harrive, hlev, hdep, hserved⟩ := arrive_spec c (mergedStop e (bssCar s c).queue) t
    have hsame := sameStop_mergedStop e (bssCar s c).queue
    generalize arrive c (mergedStop e (bssCar s c).queue) t = u at *
    refine ⟨?_, by rw [bssCar_stopOutcome, hlev], by rw [bssCar_stopOutcome, hdep], fun hdir y hy => ?_, code_stopOutcome c 0 u⟩
    · rw [stopOutcome_of_zero, flag_of_reg_eq ((onlyRegs_stopStatus c 0 u).1 _ (by decide))]
      exact harrive
    · rw [bssCar_stopOutcome] at hdir hy
      rw [← sameStop_congr hsame]
      exact hserved hdir y hy
  case remove =>
    subst h2
    rw [stopTaken, if_neg (by decide), if_pos rfl, stopRemove]
    obtain ⟨hcars, hcode, hregs, hframe⟩ := stopOutcome_zero_spec c (BssTurn.modBss (l := [Reg.BSS_CMD_STAT]) c (fun x => { x with
      queue := (x.queue.map (fun y => if sameStop e y then { y with flags := y.flags - Nat.land y.flags e.flags } else y)).filter
        (fun y => !(sameStop e y) || y.flags != 0) }) s)
    refine ⟨fun y => ?_, hcode, hregs, hframe⟩
    rw [hcars, bssCar_modBss_same]
    exact mem_stopRemoved e y _
  case clear =>
    subst h3
    rw [stopTaken, if_neg (by decide), if_neg (by decide), if_pos rfl, stopClear]
    dsimp only
    have hqueue : (bssCar (modBss c (fun x => { x with queue := (bssCar s c).queue.filter (isTarget s c) }) s) c).queue =
        (bssCar s c).queue.filter (isTarget s c) := by rw [bssCar_modBss_same]
    have hturn := BssTurn.modBss (l := [Reg.BSS_CMD_STAT, Reg.BSS_EVENT]) c
      (fun x => { x with queue := (bssCar s c).queue.filter (isTarget s c) }) s
    generalize modBss c (fun x => { x with queue := (bssCar s c).queue.filter (isTarget s c) }) s = t at *
    generalize hkeep : (bssCar s c).queue.filter (isTarget s c) = keep at *
    refine ⟨by rw [bssCar_stopOutcome, hqueue], ?_, (hturn.trans (.of_onlyRegs (onlyRegs_stopOutcome c _ t))).2⟩
    rw [code_stopOutcome, bssCar_stopOutcome, hqueue]
    cases keep with
    | nil => rfl
    | cons x q => rfl
  case depart =>
    subst h4
    rw [stopTaken, if_neg (by decide), if_neg (by decide), if_neg (by decide)]
    obtain ⟨hcars, hcode, hregs, -⟩ := stopOutcome_zero_spec c (BssTurn.modBss (l := [Reg.BSS_CMD_STAT]) c
      (fun x => { x with depart := true, level := false }) s)
    refine ⟨?_, fun d hd => (hcars d).trans (bssCar_modBss_ne hd _ s), hcode, hregs⟩
    rw [hcars, bssCar_modBss_same]

end Sys2Proof.Machine
end

section
/-!
PROOF. The evaluations of the stop scheduler, the energy bucket and the thermal model (12 R381 to R402).
-/

namespace Sys2Proof.Machine

open Sys2Proof

/-! ### What an evaluation leaves: the mode, the bucket and the temperatures -/

/-- The mode, with what the bucket and the thermal model hold. -/
def State.budget (s : State) : Mode × Rat × Rat × Nat × List (Nat × Rat) := (s.mode, s.bss.level, s.bss.pmSum, s.bss.pmN, s.bss.theta)

theorem State.budget_of_eq {s t : State} (hbss : t.bss = s.bss) (hpw : t.pw = s.pw) : t.budget = s.budget := by
  rw [State.budget, State.mode, hbss, hpw, State.budget, State.mode]

theorem SendOnly.budget {s t : State} (h : SendOnly s t) : t.budget = s.budget :=
  State.budget_of_eq (by rw [h.frame]) (by rw [h.frame])

theorem OnlyRegs.budget {l : List Nat} {s t : State} (h : OnlyRegs l s t) : t.budget = s.budget :=
  State.budget_of_eq (by rw [h.2.2]) (by rw [h.2.2])

@[simp] theorem budget_send (s : State) (dst : Nat) (b : FrameBody) : (s.send dst b).budget = s.budget := (sendOnly_send s dst b).budget

@[simp] theorem budget_ev (e : FRef) (s : State) : (s.ev e).budget = s.budget :=
  State.budget_of_eq (by rw [State.ev_bss]) (by rw [State.ev_pw])

@[simp] theorem budget_result (a v : Nat) (s : State) : (s.result a v).budget = s.budget :=
  State.budget_of_eq (by rw [State.result_bss]) (by rw [State.result_pw])

@[simp] theorem budget_modBss (c : Nat) (f : BssCar → BssCar) (s : State) : (modBss c f s).budget = s.budget := rfl

@[simp] theorem budget_keepRes (p : ResEntry → Bool) (s : State) : (keepRes p s).budget = s.budget := rfl

@[simp] theorem budget_mapRes (f : ResEntry → ResEntry) (s : State) : (mapRes f s).budget = s.budget := rfl

@[simp] theorem budget_addRes (e : ResEntry) (s : State) : (addRes e s).budget = s.budget := rfl

@[simp] theorem budget_idleRestart (s : State) : (idleRestart s).budget = s.budget := rfl

@[simp] theorem budget_modAxis (n : Nat) (f : Axis → Axis) (s : State) : (s.modAxis n f).budget = s.budget := rfl

@[simp] theorem budget_setTst (i : Nat) (w : Word) (s : State) : (setTst i w s).budget = s.budget := rfl

@[simp] theorem budget_putRows (r : Nat) (l : List TstRow) (s : State) : (putRows r l s).budget = s.budget := by
  induction l generalizing r s with
  | nil => rfl
  | cons x l ih => rw [putRows, ih, putRow, budget_setTst, budget_setTst, budget_setTst, budget_setTst]

@[simp] theorem budget_arrive (c : Nat) (e : StopEntry) (s : State) : (arrive c e s).budget = s.budget := by
  rw [arrive, budget_ev, budget_ev, budget_result, budget_modBss]

@[simp] theorem budget_lastResult (c out reason : Nat) (e : StopEntry) (s : State) : (lastResult c out reason e s).budget = s.budget := by
  rw [lastResult, budget_ev, budget_result]

@[simp] theorem budget_deferCar (c reason : Nat) (s : State) : (deferCar c reason s).budget = s.budget := by
  rw [deferCar, budget_ev, budget_modBss]

@[simp] theorem budget_refuseCar (c reason : Nat) (e : StopEntry) (s : State) : (refuseCar c reason e s).budget = s.budget := by
  rw [refuseCar, budget_ev, budget_lastResult, budget_modBss]

@[simp] theorem budget_admitCar (t : Nat) (x : Cand) (s : State) : (admitCar t x s).budget = s.budget := by
  rw [admitCar, budget_ev, budget_lastResult, budget_modBss, budget_addRes, budget_keepRes]

@[simp] theorem budget_askDev (t : Nat) (x : Cand) (start : Int) (rows : List TstRow) (s : State) (id : Nat) :
    (askDev t x start rows s id).budget = s.budget := by
  rw [askDev, budget_send]
  split
  · rfl
  · rw [budget_modBss, budget_send]

@[simp] theorem budget_askDevs (t : Nat) (x : Cand) (start : Int) (rows : List TstRow) (l : List Nat) (s : State) :
    (l.foldl (askDev t x start rows) s).budget = s.budget := by
  induction l generalizing s with
  | nil => rfl
  | cons d l ih => rw [List.foldl_cons, ih, budget_askDev]

@[simp] theorem budget_tryCand (t c : Nat) (w : Want) (others : List StopEntry) (s : State) : (tryCand t c w others s).budget = s.budget := by
  rw [tryCand]
  split
  · exact budget_arrive c w.stop s
  · dsimp only
    split
    · rw [budget_refuseCar, budget_putRows]
    · rw [budget_deferCar, budget_putRows]
    · split
      · rw [budget_admitCar]
        exact budget_putRows _ _ s
      · rw [budget_idleRestart, budget_askDevs, budget_addRes]
        exact budget_putRows _ _ s

@[simp] theorem budget_tryWants (t c : Nat) (l : List Want) (s : State) : (tryWants t c l s).budget = s.budget := by
  induction l generalizing s with
  | nil => rfl
  | cons w l ih =>
    rw [tryWants]
    split
    · rw [ih, budget_tryCand]
    · exact budget_tryCand _ _ _ _ s

@[simp] theorem budget_evalCar (t c : Nat) (s : State) : (evalCar t c s).budget = s.budget := by
  rw [evalCar]
  split
  · rfl
  · split
    · rw [stopAxis, budget_modAxis, budget_modBss]
    · rw [budget_tryWants, budget_modBss]

theorem budget_evalCars (t : Nat) (l : List Nat) (s : State) : (evalCars t l s).budget = s.budget := by
  induction l generalizing s with
  | nil => rfl
  | cons c l ih =>
    rw [evalCars]
    dsimp only
    split
    · exact budget_evalCar t c s
    · rw [ih, budget_evalCar]

/-- An evaluation has more to do exactly while a candidate waits (R386). -/
theorem evalCars_waits (t : Nat) (l : List Nat) {s : State} (h : s.bss.cand = none) :
    (evalCars t l s).bss.cand = none ↔ (evalCars t l s).bss.todo = none := by
  induction l generalizing s with
  | nil => simp [evalCars, h]
  | cons c l ih =>
    rw [evalCars]
    dsimp only
    split
    next hsome => simp [Option.isSome_iff_ne_none.mp hsome]
    next hnone => exact ih (by simpa using hnone)

/-! ### What comes before the cars: the entries of the table alone -/

/-- The stop scheduler without the entries of its table, and the mode. -/
def State.schedule (s : State) : Bss × Mode := ({ s.bss with res := [] }, s.mode)

theorem SendOnly.schedule {s t : State} (h : SendOnly s t) : t.schedule = s.schedule := by
  have hbss : t.bss = s.bss := by rw [h.frame]
  have hpw : t.pw = s.pw := by rw [h.frame]
  rw [State.schedule, State.mode, hbss, hpw, State.schedule, State.mode]

theorem schedule_addRes (e : ResEntry) (s : State) : (addRes e s).schedule = s.schedule := rfl

theorem schedule_mapRes (f : ResEntry → ResEntry) (s : State) : (mapRes f s).schedule = s.schedule := rfl

theorem schedule_sendTrim (e : ResEntry) (lo hi : Int) (t : Nat) (s : State) : (sendTrim e lo hi t s).schedule = s.schedule :=
  State.read_forL (fun d _ u => (sendOnly_send u d _).schedule) s

theorem schedule_ensureEntry (t c : Nat) (s : State) : (ensureEntry t c s).schedule = s.schedule := by
  rw [ensureEntry]
  dsimp only
  split
  · rfl
  · rw [schedule_sendTrim, schedule_addRes]

theorem schedule_trimCar (t c : Nat) (s : State) : (trimCar t c s).schedule = s.schedule := by
  rw [trimCar]
  dsimp only
  split
  · rfl
  · split
    · rfl
    · rw [schedule_sendTrim, schedule_mapRes]

/-- The state an evaluation gives its cars: bucket refilled, trims applied, every owned car with its entry. -/
def evalStart (t : Nat) (s : State) : State :=
  let a := applyTrims t (bucketUpdate (dropEval s))
  let b := a.forL (ownedCars a) (ensureEntry t)
  b.forL (ownedCars b) (trimCar t)

theorem evaluate_eq (t : Nat) (s : State) : evaluate t s =
    if bssForms (evalStart t s) then evalCars t (ownedCars (evalStart t s)) (evalStart t s) else evalStart t s := rfl

/-- The bucket at an evaluation with no candidate left over. -/
theorem schedule_evalStart {s : State} (h : s.bss.cand = none) (t : Nat) : (evalStart t s).schedule =
    ({ s.bss with
      res := [], cand := none, todo := none, pmSum := 0, pmN := 0
      level := bucketStep s s.bss.level (if s.bss.pmN = 0 then 0 else s.bss.pmSum / s.bss.pmN) }, s.mode) := by
  have hdrop : dropEval s = { s with bss := { s.bss with cand := none, todo := none } } := by rw [dropEval, h]
  rw [evalStart]
  dsimp only
  rw [State.read_forL (fun c _ u => schedule_trimCar t c u), State.read_forL (fun c _ u => schedule_ensureEntry t c u), applyTrims,
    schedule_mapRes, hdrop]
  rfl

theorem budget_of_schedule {s : State} {b : Bss} {m : Mode} (h : s.schedule = (b, m)) :
    s.budget = (m, b.level, b.pmSum, b.pmN, b.theta) := by
  obtain ⟨rfl, rfl⟩ := Prod.mk.inj h
  rfl

/-- What an evaluation does, whether it forms moves or not. -/
theorem evaluate_spec {s : State} (h : s.bss.cand = none) (t : Nat) :
    (evaluate t s).budget = (s.mode, bucketStep s s.bss.level (if s.bss.pmN = 0 then 0 else s.bss.pmSum / s.bss.pmN), 0, 0, s.bss.theta) ∧
      ((evaluate t s).bss.cand = none ↔ (evaluate t s).bss.todo = none) ∧
      (bssForms s = false → (evaluate t s).bss.cand = none ∧ (evaluate t s).bss.cars = s.bss.cars) := by
  have hsched := schedule_evalStart h t
  rw [evaluate_eq]
  generalize evalStart t s = u at *
  obtain ⟨hbss, hmode⟩ := Prod.mk.inj hsched
  have hbudget := budget_of_schedule hsched
  have hcand : u.bss.cand = none := congrArg (fun b : Bss => b.cand) hbss
  have htodo : u.bss.todo = none := congrArg (fun b : Bss => b.todo) hbss
  have hcars := congrArg Bss.cars hbss
  have hforms : bssForms u = bssForms s := by rw [bssForms, hmode, bssForms]
  rw [hforms]
  split
  next hyes => exact ⟨(budget_evalCars t _ u).trans hbudget, evalCars_waits t _ hcand, fun hno => absurd (hyes.symm.trans hno) (by decide)⟩
  next => exact ⟨hbudget, by rw [hcand, htodo]; simp, fun _ => ⟨hcand, hcars⟩⟩

/-! ### A candidate without answers (R398) -/

theorem answerTimeout_of_due {s : State} {x : Cand} (hcand : s.bss.cand = some x) (hdue : x.sent + 625000 ≤ s.tb.tick) :
    answerTimeout s = if bssActs s then endCand 2 s else candDrop s := by
  rw [answerTimeout, hcand]
  exact if_pos hdue

/-- The entries of the table that are not the pending one of a candidate. -/
theorem mem_withoutPending {m : List (Nat × ResEntry)} {id : Nat} (p : Nat × ResEntry) :
    p ∈ m.filter (fun e => !(e.2.st == 1 && e.2.id == id && e.2.loc)) ↔ p ∈ m ∧ ¬(p.2.st = 1 ∧ p.2.id = id ∧ p.2.loc = true) := by
  rw [List.mem_filter]
  refine and_congr_right fun _ => ?_
  simp only [Bool.not_eq_true', ← Bool.not_eq_true, Bool.and_eq_true, beq_iff_eq, and_assoc]

theorem candDrop_of_alone {s : State} {x : Cand} (hcand : s.bss.cand = some x) (halone : x.granted = []) :
    candDrop s = modBss x.car (fun y => { y with eval := 0 })
      (keepRes (fun e => !(e.st == 1 && e.id == x.id && e.loc)) { s with bss := { s.bss with cand := none, todo := none } }) := by
  rw [candDrop, hcand]
  dsimp only
  rw [halone]
  rfl

/-- Missing answers alone, with no grant to release and no car after it: the candidate is deferred with reason 2. -/
theorem endCand_of_unanswered {s : State} {x : Cand} {T : Nat} (hcand : s.bss.cand = some x) (htodo : s.bss.todo = some (T, []))
    (hreasons : x.reasons = []) (halone : x.granted = []) :
    endCand 2 s = evalCars T [] (deferCar x.car 2
      (keepRes (fun e => !(e.st == 1 && e.id == x.id && e.loc)) { s with bss := { s.bss with cand := none } })) := by
  rw [endCand, hcand]
  dsimp only
  rw [concludeCand]
  dsimp only
  rw [htodo, hreasons, halone]
  rfl

theorem deferCar_spec (c reason : Nat) (s : State) :
    (∀ d, bssCar (deferCar c reason s) d =
      bssCar (modBss c (fun x => { x with eval := 1, reason := reason, deferCnt := satN 65535 (x.deferCnt + 1) }) s) d) ∧
      (deferCar c reason s).flag F.BSS_EVENT.DEFER = true ∧ BssTurn [Reg.BSS_EVENT] s (deferCar c reason s) :=
  ⟨bssCar_of_bss_eq (State.ev_bss _ _), State.flag_ev_self (by decide) (by decide) _,
    (BssTurn.modBss c _ s).trans (.of_onlyRegs (onlyRegs_of_changesOnly (changesOnly_ev (by decide) _)))⟩

/-! ### The thermal model (R400) -/

/-- A segment's temperature after one millisecond. -/
def thermalNext (s : State) (x : SegX) (th : Rat) : Rat :=
  let v := (s.chan x.chan).heat
  let a := heat s (1 / 1000) (rtOf s x.chan th * ((v.iA * v.iA + v.iB * v.iB + v.iC * v.iC : Int) : Rat) / 1000000) th
  a + ((v.temp : Rat) / 10 - a) * (s.get F.BSS_CORR.CORR : Rat) / 65536

theorem thetaOf_thermalSeg_same (x : SegX) (s : State) : thetaOf (thermalSeg x s) x.seg = thermalNext s x (thetaOf s x.seg) :=
  smGet_smSet_same _ _ _ _

theorem thetaOf_thermalSeg_ne {x : SegX} {k : Nat} (h : k ≠ x.seg) (s : State) : thetaOf (thermalSeg x s) k = thetaOf s k :=
  smGet_smSet_ne _ _ _ _ _ _ h

theorem thermalNext_thermalSeg (x y : SegX) (s : State) : thermalNext (thermalSeg y s) x = thermalNext s x := rfl

theorem thermalSeg_frame (x : SegX) (s : State) : thermalSeg x s = { s with bss := { s.bss with theta := (thermalSeg x s).bss.theta } } := rfl

theorem thetaOf_thermal_ne {l : List SegX} {k : Nat} (h : k ∉ l.map (fun x => x.seg)) (s : State) :
    thetaOf (s.forL l thermalSeg) k = thetaOf s k :=
  State.read_forL (read := fun t => thetaOf t k)
    (fun x hx t => thetaOf_thermalSeg_ne (fun hk => h (by rw [hk]; exact List.mem_map_of_mem hx)) t) s

theorem thetaOf_thermal_mem {l : List SegX} (hnodup : (l.map (fun x => x.seg)).Nodup) {x : SegX} (hx : x ∈ l) (s : State) :
    thetaOf (s.forL l thermalSeg) x.seg = thermalNext s x (thetaOf s x.seg) := by
  induction l generalizing s with
  | nil => exact absurd hx (by simp)
  | cons y l ih =>
    rw [List.map_cons, List.nodup_cons] at hnodup
    obtain ⟨hy, hnodup⟩ := hnodup
    have hcons : s.forL (y :: l) thermalSeg = (thermalSeg y s).forL l thermalSeg := rfl
    rw [hcons]
    obtain rfl | hx := List.mem_cons.mp hx
    · rw [thetaOf_thermal_ne hy, thetaOf_thermalSeg_same]
    · rw [ih hnodup hx, thermalNext_thermalSeg, thetaOf_thermalSeg_ne fun h => hy (by rw [← h]; exact List.mem_map_of_mem hx)]

theorem thermal_frame (l : List SegX) (s : State) :
    s.forL l thermalSeg = { s with bss := { s.bss with theta := (s.forL l thermalSeg).bss.theta } } :=
  State.forL_rel (R := fun s t => t = { s with bss := { s.bss with theta := t.bss.theta } }) (fun _ => rfl)
    (fun _ _ _ h1 h2 => by rw [h2, h1]) (fun x _ t => thermalSeg_frame x t) s

/-- Settles O40: the evaluation, the two ends of a candidate without answers, and the formula of R400. -/
theorem evaluationsBucketsAndTemperatures : Obligations.EvaluationsBucketsAndTemperatures := by
  refine ⟨fun s hon hcand => ⟨_, congrArg Host.Outcome.next (if_pos hon), ?evaluation⟩,
    fun s x hcand halone hdue hacts => ⟨_, congrArg Host.Outcome.next (answerTimeout_of_due hcand hdue), ?dropped⟩,
    fun s x T hcand htodo hreasons halone hdue hacts => ⟨_, congrArg Host.Outcome.next (answerTimeout_of_due hcand hdue), ?deferred⟩,
    fun s hon hnodup => ⟨_, congrArg Host.Outcome.next (if_pos hon), ?thermal⟩⟩
  case evaluation =>
    obtain ⟨hbudget, hwaits, hidle⟩ := evaluate_spec hcand (s.nowNs / 10000000 * 10000000)
    simp only [State.budget, Prod.mk.injEq] at hbudget
    obtain ⟨hmode, hlevel, hsum, hn, htheta⟩ := hbudget
    exact ⟨hlevel, hsum, hn, hwaits, hidle, htheta, hmode⟩
  case dropped =>
    rw [hacts, if_neg (by decide), candDrop_of_alone hcand halone]
    exact ⟨rfl, rfl, bssCar_modBss_same _ _ _, mem_withoutPending, rfl⟩
  case deferred =>
    rw [hacts, if_pos rfl, endCand_of_unanswered hcand htodo hreasons halone, evalCars]
    generalize hkept : keepRes (fun e => !(e.st == 1 && e.id == x.id && e.loc)) { s with bss := { s.bss with cand := none } } = a
    have hbus : a.bus = s.bus := by rw [← hkept]; rfl
    have hframe : a = { s with bss := { s.bss with cand := none, res := a.bss.res } } := by rw [← hkept]; rfl
    have hres : a.bss.res = s.bss.res.filter (fun e => !(e.2.st == 1 && e.2.id == x.id && e.2.loc)) := by rw [← hkept]; rfl
    have hcar : bssCar a x.car = bssCar s x.car := by rw [bssCar, hframe, bssCar]
    clear hkept
    obtain ⟨hcars, hevent, hregs, hturn⟩ := deferCar_spec x.car 2 a
    have hafter := hcars x.car
    rw [bssCar_modBss_same, hcar] at hafter
    generalize deferCar x.car 2 a = u at *
    refine ⟨?_, rfl, ?_, ?_, ?_, ?_, hevent, fun p => ?_, ?_, ?_⟩
    · rw [hturn, hframe]
    · exact congrArg BssCar.eval hafter
    · exact congrArg BssCar.reason hafter
    · exact congrArg BssCar.deferCnt hafter
    · have hqueue := congrArg BssCar.queue hafter
      exact hqueue
    · have hu : u.bss.res = a.bss.res := by rw [hturn]
      rw [hu, hres]
      exact mem_withoutPending p
    · exact (RegsBut.of_bus_eq (.refl _ s) hbus).trans (RegsBut.of_bus_eq hregs rfl)
    · rw [hturn, hframe]
  case thermal =>
    refine ⟨fun x i2 pcu a hx hi2 hpcu ha => ?_, fun k hk => thetaOf_thermal_ne hk s, thermal_frame _ s⟩
    rw [thetaOf_thermal_mem hnodup hx, ha, hpcu, hi2]
    rfl

end Sys2Proof.Machine
end

section
/-!
PROOF. The grant exchange and the reservation table (12 R389 to R399).
-/

namespace Sys2Proof.Machine

open Sys2Proof

/-! ### A message heard -/

/-- A frame delivered leaves a new fabric part behind it: of it only the peers. -/
theorem heard_eq {s : State} {h : Hdr} : ∃ f : Fab, noteSeen h.src s = { s with fab := f } ∧ HeardBut s { s with fab := f } ∧
    f.closeCmd = s.fab.closeCmd ∧ f.spares = s.fab.spares ∧ f.learned = s.fab.learned := by
  obtain ⟨hheard, hframe⟩ := heard_frame h.src s
  generalize noteSeen h.src s = u at *
  have hfab : u.fab = { s.fab with epochs := u.fab.epochs, peers := u.fab.peers } := hheard
  refine ⟨u.fab, hframe, ?_, by rw [hfab], by rw [hfab], by rw [hfab]⟩
  exact hfab

theorem bssOn_heard (f : Fab) (s : State) : bssOn { s with fab := f } = bssOn s := rfl

/-! ### Lists of entries -/

theorem smFind_filter_kept {α : Type} {m : List (Nat × α)} {p : Nat × α → Bool} {r : Nat} {e : α} (h : smFind m r = some e)
    (hp : p (r, e) = true) : smFind (m.filter p) r = some e := by
  induction m with
  | nil => simp [smFind] at h
  | cons x m ih =>
    rw [smFind] at h
    rw [List.filter_cons]
    split at h
    next hx =>
      obtain rfl := Option.some.inj h
      rw [if_pos (by rw [← hx] at hp; exact hp), smFind, if_pos hx]
    next hx =>
      split
      · rw [smFind, if_neg hx, ih h]
      · exact ih h

theorem smFind_filter_none {α : Type} {m : List (Nat × α)} (p : Nat × α → Bool) {r : Nat} (h : smFind m r = none) :
    smFind (m.filter p) r = none := by
  induction m with
  | nil => rfl
  | cons x m ih =>
    rw [smFind] at h
    rw [List.filter_cons]
    split at h
    next => exact absurd h (by simp)
    next hx =>
      split
      · rw [smFind, if_neg hx, ih h]
      · exact ih h

theorem smFind_map_key {α : Type} {m : List (Nat × α)} {g : Nat × α → Nat × α} {r : Nat} {e : α} (hkey : ∀ x, (g x).1 = x.1)
    (h : smFind m r = some e) : smFind (m.map g) r = some (g (r, e)).2 := by
  induction m with
  | nil => simp [smFind] at h
  | cons x m ih =>
    rw [smFind] at h
    rw [List.map_cons, smFind, hkey]
    split at h
    next hx =>
      obtain rfl := Option.some.inj h
      rw [if_pos hx, ← hx]
    next hx => rw [if_neg hx, ih h]

/-- The slot a new entry takes is free where one is. -/
theorem smFind_freeSlot {s : State} (h : ∃ r, r < 32 ∧ smFind s.bss.res r = none) : smFind s.bss.res (freeSlot s) = none := by
  rw [freeSlot]
  cases hfind : (List.range 32).find? (fun r => (smFind s.bss.res r).isNone) with
  | none =>
    obtain ⟨r, hr, hnone⟩ := h
    have := List.find?_eq_none.mp hfind r (List.mem_range.mpr hr)
    simp [hnone] at this
  | some r => simpa using List.find?_some hfind

theorem smFind_addRes (e : ResEntry) (s : State) : smFind (addRes e s).bss.res (freeSlot s) = some e := smFind_smPut_same _ _ _

/-- A new entry leaves those that stand, where a slot is free. -/
theorem smFind_addRes_kept {s : State} {r : Nat} {x : ResEntry} (hfree : ∃ r, r < 32 ∧ smFind s.bss.res r = none) (e : ResEntry)
    (h : smFind s.bss.res r = some x) : smFind (addRes e s).bss.res r = some x := by
  refine (smFind_smPut_ne _ _ _ _ fun hr => ?_).trans h
  rw [hr, smFind_freeSlot hfree] at h
  exact absurd h (by simp)

/-! ### A request and its verdict (R396) -/

/-- The state a request is judged in: it restarts the idle timers, and Watch keeps it for the evaluation. -/
def reqTaken (s : State) : State := idleRestart { s with pw := { s.pw with resPend := s.pw.resPend || s.mode == .watch } }

theorem projStep_reqTaken (f : Fab) (s : State) : projStep (reqTaken { s with fab := f }) = projStep s := rfl

theorem project_reqTaken (f : Fab) (s : State) (c : ProjCar) (pts : List (Rat × Rat × Rat)) (segs : List ProjSeg) (acc : List Rat) :
    project (reqTaken { s with fab := f }) c pts segs acc = project s c pts segs acc := by
  induction pts generalizing segs acc with
  | nil => rfl
  | cons pt pts ih => rw [project, project, projStep_reqTaken, ih]

theorem energyOk_reqTaken (f : Fab) (s : State) : energyOk (reqTaken { s with fab := f }) = energyOk s := rfl

theorem projReasons_reqTaken (f : Fab) (s : State) (c : ProjCar) (id t0 : Nat) (rows : List TstRow) :
    projReasons (reqTaken { s with fab := f }) c id t0 rows = projReasons s c id t0 rows := by
  rw [projReasons, projReasons]
  simp only [project_reqTaken, energyOk_reqTaken]
  rfl

theorem resVerdict_reqTaken {f : Fab} {s : State} (hclose : f.closeCmd = s.fab.closeCmd) (hspares : f.spares = s.fab.spares) (p : ResReqPl) :
    resVerdict (reqTaken { s with fab := f }) p = resVerdict s p := by
  have hown : ownClosed (reqTaken { s with fab := f }) = ownClosed s := by
    rw [ownClosed, ownClosed, ← hclose, ← hspares]
    rfl
  rw [resVerdict, resVerdict]
  simp only [projReasons_reqTaken, hown]
  rfl

/-- The request changed by its verdict, answered. -/
def resAnswered (src : Nat) (p : ResReqPl) (v : (Nat × Nat) × List Rat) (s : State) : State :=
  (if v.1.1 = 1 then grantRes src p v.2 s else s).send src (.resAns ⟨p.id, v.1.1, v.1.2⟩)

theorem endCand_of_none {s : State} (h : s.bss.cand = none) (reason : Nat) : endCand reason s = s := by rw [endCand, h]

theorem withRest_of_none {s : State} (h : s.bss.todo = none) (l : List Nat) : withRest l s = s := by
  rw [withRest, h, Option.map_none, ← h]

theorem resReqOp_of_idle {s : State} {p : ResReqPl} (src : Nat) (hon : bssOn s = true) (hcand : s.bss.cand = none)
    (htodo : s.bss.todo = none) (hlo : 1 ≤ p.mass) (hhi : p.mass ≤ 65535) :
    resReqOp src p s = resAnswered src p (resVerdict (reqTaken s) p) (reqTaken s) := by
  have hc : (reqTaken s).bss.cand = none := hcand
  have ht : (reqTaken s).bss.todo = none := htodo
  have hgate : (bssOn s && inR 1 65535 p.mass) = true := by simp [hon, inR, hlo, hhi]
  rw [reqTaken] at hc ht
  rw [resReqOp, if_pos hgate]
  simp only [ht, withRest_of_none ht, endCand_of_none hc, ite_self]
  rfl

/-- The request names a landing of this device that is there and as it says, or lies outside it. -/
def reqFits (s : State) (p : ResReqPl) : Bool :=
  if p.member = myMember s then (landing s p.landing).en && decide ((landing s p.landing).target = p.target) &&
      decide (Nat.land p.sides (landing s p.landing).sides = p.sides)
    else !(decide (extLo s.conf.geom ≤ p.target) && decide (p.target < extHi s.conf.geom))

theorem reqFits_eq (s : State) (p : ResReqPl) :
    ((p.member == myMember s || decide (extLo s.conf.geom ≤ p.target) && decide (p.target < extHi s.conf.geom)) &&
      !(p.member == myMember s && (landing s p.landing).en && Nat.land p.sides (landing s p.landing).sides == p.sides &&
        (landing s p.landing).target == p.target)) = !reqFits s p := by
  rw [reqFits]
  by_cases hhere : p.member = myMember s
  · simp only [hhere, beq_self_eq_true, Bool.true_or, Bool.true_and, if_true, beq_eq_decide, Bool.and_right_comm]
  · simp [hhere, beq_eq_decide]

theorem resConflict_iff (s : State) (p : ResReqPl) :
    (resConflict s p).1 = true ↔ ∃ e, e ∈ resList s ∧ e.car ≠ p.car ∧ e.lo ≤ p.hi ∧ p.lo ≤ e.hi := by
  simp [resConflict, overlaps, List.filter_eq_nil_iff]

theorem resConflict_of_apart {s : State} {p : ResReqPl} (h : ∀ e, e ∈ resList s → e.car = p.car ∨ e.hi < p.lo ∨ p.hi < e.lo) :
    (resConflict s p).1 = false := by
  refine Bool.eq_false_iff.mpr fun hk => ?_
  obtain ⟨e, he, hcar, hlo, hhi⟩ := (resConflict_iff s p).mp hk
  obtain heq | hlt | hlt := h e he
  · exact hcar heq
  · omega
  · omega

/-- Why a request is refused: the first failing check (R396). -/
theorem resVerdict_refused {s : State} {p : ResReqPl} {o r : Nat}
    (h : ownClosed s = true ∧ o = 3 ∧ r = 12 ∨
        ownClosed s = false ∧ s.mode ≠ .service ∧ s.mode ≠ .inspection ∧ s.mode ≠ .rescue ∧ o = 2 ∧ r = 3 ∨
        ownClosed s = false ∧ (s.mode = .service ∨ s.mode = .inspection ∨ s.mode = .rescue) ∧
          (reqFits s p = false ∧ o = 3 ∧ r = 13 ∨
           reqFits s p = true ∧ (∃ e, e ∈ resList s ∧ e.car ≠ p.car ∧ e.lo ≤ p.hi ∧ p.lo ≤ e.hi) ∧ o = 2 ∧ r = 1 ∨
           reqFits s p = true ∧ (∀ e, e ∈ resList s → e.car = p.car ∨ e.hi < p.lo ∨ p.hi < e.lo) ∧ carById s p.car = none ∧
             freeCar s = none ∧ o = 2 ∧ r = 4)) : (resVerdict s p).1 = (o, r) ∧ o ≠ 1 := by
  rw [resVerdict]
  simp only [reqFits_eq]
  obtain ⟨hown, rfl, rfl⟩ | ⟨hown, hs, hi, hr, rfl, rfl⟩ | ⟨hown, hmode, hwhy⟩ := h
  · exact ⟨if_pos hown, by decide⟩
  · simp [hown, hs, hi, hr]
  · simp only [hown, hmode, Bool.false_eq_true, if_false, decide_true, Bool.not_true]
    obtain ⟨hfit, rfl, rfl⟩ | ⟨hfit, hex, rfl, rfl⟩ | ⟨hfit, hapart, hcar, hfree, rfl, rfl⟩ := hwhy
    · simp [hfit]
    · simp [hfit, (resConflict_iff s p).mpr hex]
    · simp [hfit, resConflict_of_apart hapart, hcar, hfree]

theorem resVerdict_granted {s : State} {p : ResReqPl} {d : List Rat} (hown : ownClosed s = false)
    (hmode : s.mode = .service ∨ s.mode = .inspection ∨ s.mode = .rescue) (hfit : reqFits s p = true)
    (hapart : ∀ e, e ∈ resList s → e.car = p.car ∨ e.hi < p.lo ∨ p.hi < e.lo) (hfree : freeCar s ≠ none)
    (hproj : projReasons s ⟨p.mass, p.arrOfs, p.arrLen, p.start, p.dir⟩ p.car p.t0 p.rows = ([], d)) :
    resVerdict s p = ((1, 0), d) := by
  rw [resVerdict]
  simp only [reqFits_eq]
  simp [hown, hmode, hfit, resConflict_of_apart hapart, hfree, hproj]

/-! ### What a grant makes (R396) -/

/-- The table before the grant's entry: an earlier grant no trim has followed goes. -/
def grantRoom (p : ResReqPl) (s : State) : State := keepRes (fun e => e.car != p.car || e.loc || !e.mv || e.firm) s

theorem newCar_bss_res (c : Nat) (r : CarRec) (s : State) : (newCar c r s).bss.res = s.bss.res := rfl

theorem car_newCar (c : Nat) (r : CarRec) (s : State) (n : Nat) : (newCar c r s).car n = if n = c then r else s.car n := by
  have hcars : (newCar c r s).cars = (s.modCar c (fun _ => r)).cars := rfl
  rw [State.car_of_cars_eq hcars]
  split
  next h => rw [h, State.car_modCar_same]
  next h => rw [State.car_modCar_ne _ _ _ _ h]

theorem tstOnly_putRows (r : Nat) (l : List TstRow) (s : State) : TstOnly s (putRows r l s) := by
  induction l generalizing r s with
  | nil => rfl
  | cons x l ih => exact (tstOnly_putRow r x s).trans (ih _ _)

/-- The record a granted car is taken in, where it has none. -/
def grantedCar (p : ResReqPl) (owner : Nat) : CarRec :=
  { CarRec.init with
    held := true, id := p.car, mass := p.mass, arrOfs := p.arrOfs, arrLen := p.arrLen, ownerId := owner, posValid := true, pos := p.start }

theorem takeCar_of_free {p : ResReqPl} {owner c : Nat} {s : State} (hcar : carById s p.car = none) (hfree : freeCar s = some c) :
    takeCar p owner s = newCar c (grantedCar p owner) s := by
  rw [takeCar, hcar]
  dsimp only
  rw [hfree]
  rfl

theorem freeCar_spec {s : State} {c : Nat} (h : freeCar s = some c) : c < 8 ∧ (s.car c).held = false := by
  obtain ⟨hmem, hp⟩ := And.intro (List.mem_of_find?_eq_some h) (List.find?_some h)
  refine ⟨List.mem_range.mp hmem, ?_⟩
  rw [Bool.and_eq_true] at hp
  simpa using hp.1

/-- The entry of a grant. -/
def grantEntry (src : Nat) (p : ResReqPl) (d : List Rat) (bank : Bool) : ResEntry :=
  { ResEntry.plain p.car 2 false true p.lo p.hi p.id src p.t0 d with plan := some ⟨p.start, p.dir, p.rows, bank⟩ }

theorem grantRes_eq (src : Nat) (p : ResReqPl) (d : List Rat) (s : State) : ∃ bank r, grantRes src p d s =
    (putRows r (p.rows.take 8) (addRes (grantEntry src p d bank) (takeCar p src (grantRoom p s)))).ev F.BSS_EVENT.GRANT_OUT := ⟨_, _, rfl⟩

/-- A grant to a car without a record: the entry in a free slot, the entries that stay, the record and the event. -/
theorem grantRes_spec {s : State} {p : ResReqPl} {c : Nat} (src : Nat) (d : List Rat) (hcar : carById s p.car = none)
    (hfree : freeCar s = some c) (hslot : ∃ r, r < 32 ∧ smFind s.bss.res r = none) :
    (∃ r bank, smFind (grantRes src p d s).bss.res r = some (grantEntry src p d bank)) ∧
    (∀ r e, smFind s.bss.res r = some e → (e.car ≠ p.car ∨ e.loc = true ∨ e.mv = false ∨ e.firm = true) →
      smFind (grantRes src p d s).bss.res r = some e) ∧
    (∀ n, (grantRes src p d s).car n = if n = c then grantedCar p src else s.car n) ∧
    (grantRes src p d s).flag F.BSS_EVENT.GRANT_OUT = true := by
  obtain ⟨bank, r, hgrant⟩ := grantRes_eq src p d s
  have htake : takeCar p src (grantRoom p s) = newCar c (grantedCar p src) (grantRoom p s) := takeCar_of_free hcar hfree
  rw [htake] at hgrant
  have hcars := car_newCar c (grantedCar p src) (grantRoom p s)
  have hroom : (newCar c (grantedCar p src) (grantRoom p s)).bss.res =
    s.bss.res.filter (fun e => e.2.car != p.car || e.2.loc || !e.2.mv || e.2.firm) := newCar_bss_res _ _ _
  generalize newCar c (grantedCar p src) (grantRoom p s) = b at *
  have hrows := tstOnly_putRows r (p.rows.take 8) (addRes (grantEntry src p d bank) b)
  generalize putRows r (p.rows.take 8) (addRes (grantEntry src p d bank) b) = w at *
  rw [TstOnly] at hrows
  have hres : (grantRes src p d s).bss.res = (addRes (grantEntry src p d bank) b).bss.res := by rw [hgrant, State.ev_bss, hrows]
  have hslot' : ∃ r, r < 32 ∧ smFind b.bss.res r = none := by
    obtain ⟨r, hr, hnone⟩ := hslot
    exact ⟨r, hr, by rw [hroom]; exact smFind_filter_none _ hnone⟩
  refine ⟨⟨freeSlot b, bank, by rw [hres]; exact smFind_addRes _ _⟩, fun r e he hkeep => ?_, fun n => ?_, ?_⟩
  · rw [hres]
    refine smFind_addRes_kept hslot' _ ?_
    rw [hroom]
    exact smFind_filter_kept he (by simpa [or_assoc] using hkeep)
  · refine Eq.trans (State.car_of_cars_eq ?_ n) (hcars n)
    rw [hgrant, State.ev_cars, hrows]
    rfl
  · rw [hgrant]
    exact State.flag_ev_self (by decide) (by decide) _

/-! ### Answers (R398) -/

/-- The candidate with an answer taken. -/
def answered (src : Nat) (p : ResAnsPl) (x : Cand) : Cand :=
  { x with
    asked := x.asked.erase src
    granted := if p.outcome = 1 then x.granted ++ [src] else x.granted
    reasons := if p.outcome = 1 then x.reasons else x.reasons ++ [p.reason] }

theorem resAnsOp_of_waiting {s : State} {x : Cand} {src : Nat} {p : ResAnsPl} (hcand : s.bss.cand = some x) (hid : x.id = p.id)
    (hasked : src ∈ x.asked) (hacts : bssActs s = true) :
    resAnsOp src p s = if (x.asked.erase src).isEmpty then concludeCand { s with bss := { s.bss with cand := some (answered src p x) } }
      else { s with bss := { s.bss with cand := some (answered src p x) } } := by
  rw [resAnsOp, hcand]
  dsimp only
  rw [if_pos ⟨hid, List.contains_iff_mem.mpr hasked⟩, hacts, if_neg (by decide)]
  rfl

theorem resAnsOp_of_unwanted {s : State} (h : s.bss.cand = none ∨ bssActs s = false) {p : ResAnsPl} (hgrant : p.outcome = 1) (src : Nat) :
    resAnsOp src p s = s.send src (.resRel ⟨p.id⟩) := by
  rw [resAnsOp]
  split
  next x hx =>
    have hacts : bssActs s = false := h.resolve_left (by rw [hx]; simp)
    rw [hacts]
    simp [hgrant]
  next => exact if_pos hgrant

/-- The entry of an admitted move. -/
def admitEntry (t : Nat) (x : Cand) (s : State) : ResEntry :=
  { ResEntry.plain (s.car x.car).id 2 true true x.lo x.hi x.id s.myId (t + 10000000) x.draw with
    told := ((resOf s (s.car x.car).id).elim [] (holders s) ++ x.granted).eraseDups }

/-- What the scheduler keeps of the car of an admitted candidate. -/
def admittedCar (t : Nat) (x : Cand) (y : BssCar) : BssCar :=
  { y with eval := 2, reason := 0, deferCnt := 0, goal := some x.stop, start := some (t + 10000000, x.arg, x.resume), woke := [],
           redo := none, relev := x.relev }

/-- The admitted move's entry in the table. -/
def admitPlace (t : Nat) (x : Cand) (s : State) : State :=
  addRes (admitEntry t x s) (keepRes (fun e => !(e.car == (s.car x.car).id && e.loc)) s)

theorem smFind_admitPlace (t : Nat) (x : Cand) (s : State) : ∃ r, smFind (admitPlace t x s).bss.res r = some (admitEntry t x s) :=
  ⟨_, smFind_addRes _ _⟩

theorem admitCar_eq (t : Nat) (x : Cand) (s : State) : admitCar t x s =
    (lastResult x.car 1 0 x.stop (modBss x.car (admittedCar t x) (admitPlace t x s))).ev F.BSS_EVENT.ADMIT := rfl

theorem admitCar_spec (t : Nat) (x : Cand) (s : State) :
    (admitCar t x s).flag F.BSS_EVENT.ADMIT = true ∧
      (admitCar t x s).bss = (modBss x.car (admittedCar t x) (admitPlace t x s)).bss ∧ (admitCar t x s).fab = s.fab := by
  rw [admitCar_eq, lastResult]
  refine ⟨State.flag_ev_self (by decide) (by decide) _, ?_, ?_⟩
  · rw [State.ev_bss, State.ev_bss, State.result_bss]
  · rw [State.ev_fab, State.ev_fab, State.result_fab]
    rfl

/-- The last grant admits: the candidate's entry stands, and the evaluation ends with it. -/
theorem concludeCand_of_granted {s : State} {x : Cand} {T : Nat} (hcand : s.bss.cand = some x) (htodo : s.bss.todo = some (T, []))
    (hreasons : x.reasons = []) : concludeCand s = evalCars T [] (admitCar T x
      (keepRes (fun e => !(e.st == 1 && e.id == x.id && e.loc)) { s with bss := { s.bss with cand := none } })) := by
  rw [concludeCand]
  split
  next y T' rest hy hT =>
    obtain rfl := Option.some.inj (hcand.symm.trans hy)
    obtain ⟨rfl, rfl⟩ := Prod.mk.inj (Option.some.inj (htodo.symm.trans hT))
    rw [hreasons]
    rfl
  next hno => exact absurd htodo (hno x T [] hcand)

/-! ### RES_TRIM, STOPQ and the release of what is held -/

/-- What a trim leaves of an entry. -/
def trimmed (src : Nat) (p : ResTrimPl) (s : State) (e : ResEntry) : ResEntry :=
  { e with
    trims := e.trims ++ [(p.t + 10000000, p.lo, p.hi, e.mv && !restTrim s p)]
    owner := src
    orphan := false
    firm := true }

/-- The table after a trim of slot `r`. -/
def trimTable (src : Nat) (p : ResTrimPl) (r : Nat) (s : State) : List (Nat × ResEntry) :=
  (s.bss.res.filter (fun e => e.2.car != p.car || e.2.loc || e.1 == r)).map (fun e => if e.1 = r then (r, trimmed src p s e.2) else e)

theorem resTrimOp_of_slot {s : State} {p : ResTrimPl} {r : Nat} (src : Nat) (h : trimSlot s p.car = some r) :
    resTrimOp src p s = { s with bss := { s.bss with res := trimTable src p r s } } := by
  rw [resTrimOp, h]
  rfl

theorem restTrim_eq (s : State) (p : ResTrimPl) : (!restTrim s p) = decide (envUp s - envDn s + 2 * sepM s < p.hi - p.lo) := by
  rw [restTrim, ← decide_not]
  exact decide_eq_decide.mpr Int.not_le

theorem trimTable_spec {s : State} {r : Nat} {e : ResEntry} (src : Nat) (p : ResTrimPl) (he : smFind s.bss.res r = some e) :
    smFind (trimTable src p r s) r = some (trimmed src p s e) ∧
      ∀ x : Nat × ResEntry, x.1 ≠ r → (x ∈ trimTable src p r s ↔ x ∈ s.bss.res ∧ (x.2.car ≠ p.car ∨ x.2.loc = true)) := by
  constructor
  · rw [trimTable, smFind_map_key (g := fun e => if e.1 = r then (r, trimmed src p s e.2) else e) (fun x => ?_)
      (smFind_filter_kept he (by simp)), if_pos rfl]
    split
    next h => exact h.symm
    next => rfl
  · intro x hx
    rw [trimTable, List.mem_map]
    constructor
    · rintro ⟨y, hy, rfl⟩
      by_cases hyr : y.1 = r
      · rw [if_pos hyr] at hx
        exact absurd rfl hx
      · rw [if_neg hyr]
        obtain ⟨hmem, hkeep⟩ := List.mem_filter.mp hy
        exact ⟨hmem, by simpa [hyr] using hkeep⟩
    · rintro ⟨hmem, hkeep⟩
      refine ⟨x, List.mem_filter.mpr ⟨hmem, ?_⟩, if_neg hx⟩
      simpa [hx] using hkeep

theorem stopqOp_of_car {s : State} {p : StopqPl} {c : Nat} (hcar : carById s p.car = some c) (hlen : p.queue.length ≤ 64) (hd : p.d < 3) :
    stopqOp p s = modBss c (fun x => { x with
      dir := p.d, queue := p.queue, goal := (s.axis c).mv.bind (fun m => p.queue.find? (fun e => e.target == m.target)), redo := none }) s := by
  rw [stopqOp, hcar]
  dsimp only
  rw [List.take_of_length_le hlen, Nat.mod_eq_of_lt hd]

theorem heldRelease_of_due {s : State} {id t0 : Nat} {l : Learned} (hl : learnedOf s id = some l) (ht : l.service = some t0)
    (hdue : t0 + 1250000000 ≤ s.tb.tick) : heldRelease id s = keepRes (fun e => !(e.owner == id && e.orphan)) s := by
  rw [heldRelease, hl]
  dsimp only
  rw [ht]
  exact if_pos hdue

/-! ### The rows -/

theorem exec_message {s : State} {h : Hdr} {b : FrameBody} {act : State → State} (hd : Delivers s h) :
    receive 8 h b act s = act (noteSeen h.src s) := receive_of_delivers hd (by decide) (by decide)

theorem reservationRequests (s : State) (h : Hdr) (p : ResReqPl) (hd : Delivers s h) (hon : bssOn s = true) (hcand : s.bss.cand = none)
    (htodo : s.bss.todo = none) (hlo : 1 ≤ p.mass) (hhi : p.mass ≤ 65535) : ∃ f : Fab,
    exec (.resReq h p) s = .next (resAnswered h.src p (resVerdict s p) (reqTaken { s with fab := f })) := by
  obtain ⟨f, hheard, -, hclose, hspares, -⟩ := heard_eq (s := s) (h := h)
  refine ⟨f, congrArg Host.Outcome.next ((exec_message hd).trans ?_)⟩
  rw [hheard, resReqOp_of_idle h.src (s := { s with fab := f }) hon hcand htodo hlo hhi, resVerdict_reqTaken hclose hspares]

theorem granted_spec {s : State} {h : Hdr} {p : ResReqPl} {d : List Rat} (f : Fab) (hcar : carById s p.car = none) (hfree : freeCar s ≠ none)
    (hslot : ∃ r, r < 32 ∧ smFind s.bss.res r = none) (t : State) (ht : t = resAnswered h.src p ((1, 0), d) (reqTaken { s with fab := f })) :
    (∃ u : State, t = u.send h.src (.resAns ⟨p.id, 1, 0⟩)) ∧
        (∃ r bank, smFind t.bss.res r = some { ResEntry.plain p.car 2 false true p.lo p.hi p.id h.src p.t0 d with
          plan := some ⟨p.start, p.dir, p.rows, bank⟩ }) ∧
        (∀ r e, smFind s.bss.res r = some e → (e.car ≠ p.car ∨ e.loc = true ∨ e.mv = false ∨ e.firm = true) →
          smFind t.bss.res r = some e) ∧
        (∃ c, c < 8 ∧ (s.car c).held = false ∧ (t.car c).held = true ∧ (t.car c).id = p.car ∧ (t.car c).owner = false ∧
          (t.car c).mass = p.mass ∧ ∀ n, n ≠ c → t.car n = s.car n) ∧ t.flag F.BSS_EVENT.GRANT_OUT = true := by
  obtain ⟨c, hc⟩ := Option.ne_none_iff_exists'.mp hfree
  obtain ⟨hc8, hheld⟩ := freeCar_spec hc
  obtain ⟨hentry, hkeep, hcars, hevent⟩ := grantRes_spec (s := reqTaken { s with fab := f }) h.src d hcar hc hslot
  rw [resAnswered, if_pos rfl] at ht
  generalize grantRes h.src p d (reqTaken { s with fab := f }) = g at *
  have hsend := sendOnly_send g h.src (.resAns ⟨p.id, 1, 0⟩)
  rw [← ht] at hsend
  have hres : t.bss.res = g.bss.res := by rw [hsend.frame]
  refine ⟨⟨g, ht⟩, ?_, ?_, ⟨c, hc8, hheld, ?_⟩, ?_⟩
  · rw [hres]
    exact hentry
  · rw [hres]
    exact hkeep
  · have hcar' : ∀ n, t.car n = if n = c then grantedCar p h.src else s.car n := fun n => (hsend.car n).trans (hcars n)
    rw [hcar' c, if_pos rfl]
    exact ⟨rfl, rfl, rfl, rfl, fun n hn => (hcar' n).trans (if_neg hn)⟩
  · rw [flag_of_reg_eq (hsend.reg_of_lt (by decide))]
    exact hevent

/-- The last grant of a candidate: its move is admitted, and the evaluation of which it was the last car ends. -/
theorem answerAdmits {s : State} {x : Cand} {T src : Nat} {p : ResAnsPl} (hcand : s.bss.cand = some x) (htodo : s.bss.todo = some (T, []))
    (hid : x.id = p.id) (hasked : x.asked = [src]) (hreasons : x.reasons = []) (hgrant : p.outcome = 1) (hacts : bssActs s = true) (t : State)
    (ht : t = resAnsOp src p s) : t.bss.cand = none ∧ t.bss.todo = none ∧ (bssCar t x.car).eval = 2 ∧
      (bssCar t x.car).goal = some x.stop ∧ (bssCar t x.car).start = some (T + 10000000, x.arg, x.resume) ∧
      t.flag F.BSS_EVENT.ADMIT = true ∧ (∃ r e, smFind t.bss.res r = some e ∧ e.car = (s.car x.car).id ∧ e.st = 2 ∧ e.loc = true ∧
        e.mv = true ∧ e.lo = x.lo ∧ e.hi = x.hi ∧ src ∈ e.told) ∧ t.fab = s.fab := by
  have hempty : (x.asked.erase src).isEmpty = true := by rw [hasked, List.erase_cons_head]; rfl
  have hyreasons : (answered src p x).reasons = [] := by rw [answered, if_pos hgrant, if_pos hgrant]; exact hreasons
  have hsrc : src ∈ (answered src p x).granted := by rw [answered, if_pos hgrant]; simp
  rw [resAnsOp_of_waiting hcand hid (by rw [hasked]; exact List.mem_singleton_self _) hacts, if_pos hempty] at ht
  generalize hw : ({ s with bss := { s.bss with cand := some (answered src p x) } } : State) = w at ht
  have hwcand : w.bss.cand = some (answered src p x) := by rw [← hw]
  have hwtodo : w.bss.todo = some (T, []) := by rw [← hw]; exact htodo
  rw [concludeCand_of_granted hwcand hwtodo hyreasons, evalCars] at ht
  generalize ha : keepRes (fun e => !(e.st == 1 && e.id == (answered src p x).id && e.loc)) { w with bss := { w.bss with cand := none } } = a at ht
  have hacar : a.car x.car = s.car x.car := by rw [← ha, ← hw]; rfl
  have hacand : a.bss.cand = none := by rw [← ha]; rfl
  have hafab : a.fab = s.fab := by rw [← ha, ← hw]; rfl
  clear ha hw hwcand hwtodo
  obtain ⟨hevent, hbss, hfab⟩ := admitCar_spec T (answered src p x) a
  generalize admitCar T (answered src p x) a = v at *
  obtain ⟨hcars, hres, hgone, hbus, hfabt⟩ : t.bss.cars = v.bss.cars ∧ t.bss.res = v.bss.res ∧ t.bss.cand = v.bss.cand ∧ t.bus = v.bus ∧
      t.fab = v.fab := by
    rw [ht]
    exact ⟨rfl, rfl, rfl, rfl, rfl⟩
  have hcar : bssCar t x.car = admittedCar T (answered src p x) (bssCar (admitPlace T (answered src p x) a) x.car) := by
    rw [bssCar, hcars, ← bssCar, bssCar_of_bss_eq hbss]
    exact bssCar_modBss_same x.car _ _
  refine ⟨?_, by rw [ht], by rw [hcar]; rfl, by rw [hcar]; rfl, by rw [hcar]; rfl, by rw [State.flag_of_bus_eq hbus]; exact hevent, ?_,
    hfabt.trans (hfab.trans hafab)⟩
  · rw [hgone, hbss]
    exact hacand
  · obtain ⟨r, hr⟩ := smFind_admitPlace T (answered src p x) a
    refine ⟨r, _, by rw [hres, hbss]; exact hr, congrArg CarRec.id hacar, rfl, rfl, rfl, rfl, rfl, ?_⟩
    rw [admitEntry, List.mem_eraseDups]
    exact List.mem_append_right _ hsrc

/-- Settles O41: requests, answers, and what is released, trimmed and installed. -/
theorem reservationsAreGrantedAndReleased : Obligations.ReservationsAreGrantedAndReleased := by
  refine ⟨fun s h p good hd hon hcand htodo hlo hhi hgood => ?request, fun s h p hd => ?answer, fun s h hd hon => ?others,
    fun s id t0 l hl ht hdue => ⟨_, congrArg Host.Outcome.next (heldRelease_of_due hl ht hdue), ?held⟩⟩
  case request =>
    obtain ⟨f, hexec⟩ := reservationRequests s h p hd hon hcand htodo hlo hhi
    rw [show good = reqFits s p from hgood]
    refine ⟨fun o r hwhy => ⟨_, hexec, ?_⟩, fun d hown hmode hfit hapart hcar hfree hslot hproj => ⟨_, hexec, ?_⟩⟩
    · obtain ⟨hv, ho⟩ := resVerdict_refused hwhy
      refine ⟨reqTaken { s with fab := f }, ?_, rfl, rfl⟩
      rw [resAnswered, hv, if_neg ho]
    · rw [resVerdict_granted hown hmode hfit hapart hfree hproj]
      exact granted_spec f hcar hfree hslot _ rfl
  case answer =>
    obtain ⟨f, hheard, hbut, -⟩ := heard_eq (s := s) (h := h)
    have hexec : exec (.resAns h p) s = .next (resAnsOp h.src p { s with fab := f }) := by
      rw [← hheard]
      exact congrArg Host.Outcome.next (exec_message hd)
    refine ⟨fun x T hcand htodo hid hasked hreasons hgrant hacts => ⟨_, hexec, ?_⟩,
      fun x hcand hid hasked hrest hno hacts => ⟨_, hexec, ?_⟩, fun hwhy hgrant => ⟨_, hexec, ?_⟩⟩
    · obtain ⟨hnone, htodo', heval, hgoal, hstart, hevent, hentry, hfab⟩ :=
        answerAdmits (s := { s with fab := f }) hcand htodo hid hasked hreasons hgrant hacts _ rfl
      exact ⟨hnone, htodo', heval, hgoal, hstart, hevent, hentry, by rw [HeardBut, hfab]; exact hbut⟩
    · rw [resAnsOp_of_waiting (s := { s with fab := f }) hcand hid hasked hacts, if_neg (by simpa using hrest), answered, if_neg hno, if_neg hno]
      exact ⟨rfl, hbut, rfl⟩
    · exact ⟨{ s with fab := f }, resAnsOp_of_unwanted (s := { s with fab := f }) hwhy hgrant h.src, hbut, rfl⟩
  case others =>
    obtain ⟨f, hheard, hbut, hclose, hspares, hlearned⟩ := heard_eq (s := s) (h := h)
    have hact : ∀ (b : FrameBody) (act : State → State), receive 8 h b (whenBss act) s = act { s with fab := f } := fun b act => by
      rw [exec_message hd, hheard, whenBss, bssOn_heard, if_pos hon]
    refine ⟨fun p => ⟨_, congrArg Host.Outcome.next (hact _ _), ?rel⟩,
      fun p r e hslot he => ⟨_, congrArg Host.Outcome.next (hact _ _), ?trim⟩,
      fun p hslot => ⟨_, congrArg Host.Outcome.next (hact _ _), ?rest⟩,
      fun p c hcar hlen hdir => ⟨_, congrArg Host.Outcome.next (hact _ _), ?stopq⟩⟩
    case rel =>
      refine ⟨fun x => ?_, hbut, rfl⟩
      rw [resRelOp, keepRes, List.mem_filter]
      refine and_congr_right fun _ => ?_
      simp only [Bool.not_eq_true', ← Bool.not_eq_true, Bool.and_eq_true, beq_iff_eq, and_assoc]
    case trim =>
      rw [resTrimOp_of_slot (s := { s with fab := f }) h.src hslot]
      obtain ⟨hat, hothers⟩ := trimTable_spec (s := { s with fab := f }) h.src p he
      rw [trimmed, restTrim_eq] at hat
      exact ⟨hat, hothers, hbut, rfl⟩
    case rest =>
      rw [resTrimOp, show trimSlot { s with fab := f } p.car = none from hslot]
      dsimp only
      split
      next hsome =>
        have hsome' : (carById s p.car).isSome = true := hsome
        exact ⟨fun hnone => absurd hsome' (by rw [hnone]; simp), fun _ => ⟨_, smFind_addRes _ _⟩, hbut, rfl⟩
      next hnone =>
        have hnone' : ¬ (carById s p.car).isSome = true := hnone
        exact ⟨fun _ => rfl, fun hsome => absurd (Option.isSome_iff_ne_none.mpr hsome) hnone', hbut, rfl⟩
    case stopq =>
      rw [stopqOp_of_car (s := { s with fab := f }) hcar hlen hdir]
      refine ⟨⟨_, bssCar_modBss_same _ _ _, fun m hm => ?_, fun hm => ?_⟩, fun d hne => bssCar_modBss_ne hne _ _, hbut, rfl⟩
      · have hm' : (State.axis { s with fab := f } c).mv = some m := hm
        rw [hm']
        rfl
      · have hm' : (State.axis { s with fab := f } c).mv = none := hm
        rw [hm']
        rfl
  case held =>
    refine ⟨fun x => ?_, rfl⟩
    rw [keepRes, List.mem_filter]
    refine and_congr_right fun _ => ?_
    simp only [Bool.not_eq_true', ← Bool.not_eq_true, Bool.and_eq_true, beq_iff_eq]

end Sys2Proof.Machine
end

section
/-!
PROOF. A return deadline reaches the safety paths (13 R420, R422; 16 R499): the statement's frame of RETURN_DEADLINE fails.
-/

namespace Sys2Proof.Machine

open Sys2Proof

/-- A device in Service that awaits the returns of ports 0 and 1: channel 0 is enabled, and the Eclipse logic had an accepted slot of it in
the period before. -/
def deadlineWitness : State :=
  { State.reset with
    bus := { Bus.init with regs := [(Reg.SLK_CH_CFG 0, 0x80000000)] }
    pw := { Power.init with phase := .running, mode := .service }
    tide := { Tide.init with stage := .link }
    slk := { Slk.init with ports := [(0, ⟨none, true, true, false⟩), (1, ⟨none, true, true, false⟩)] }
    saf := { Saf.init with ecl := [(0, ⟨true, false, false, 0, 0, 0, 0⟩)] } }

theorem awaiting_deadlineWitness : awaiting deadlineWitness 0 = true := by decide

/-- The lost slot ends what the Eclipse logic kept of channel 0. -/
theorem ecl_deadlineWitness : (linkTaps 0 (frameDeadline 0 deadlineWitness)).saf.ecl = [] := by decide

/-- Refutes O42: RETURN_DEADLINE also tells the safety paths of the lost slots (R499), which the last clause of its frame excludes; port 0 of
`deadlineWitness` loses channel 0's slot, and the Eclipse logic's sample of the channel goes. -/
theorem not_returnsAreCheckedSlotBySlot : ¬ Obligations.ReturnsAreCheckedSlotBySlot := by
  rintro ⟨hports, -⟩
  obtain ⟨t, hexec, -, -, -, -, -, hframe⟩ := (hports deadlineWitness 0 ⟨false, [], [], false⟩ awaiting_deadlineWitness).2
  have ht : Host.Outcome.next (linkTaps 0 (frameDeadline 0 deadlineWitness)) = Host.Outcome.next t :=
    (congrArg Host.Outcome.next (if_pos awaiting_deadlineWitness)).symm.trans hexec
  have hkept : t.saf.ecl = deadlineWitness.saf.ecl := by rw [hframe]
  rw [← Host.Outcome.next.inj ht, ecl_deadlineWitness] at hkept
  exact absurd hkept (by decide)

end Sys2Proof.Machine
end

section
/-!
PROOF. What the entry of Lock-out leaves (15 R474, R475): the field inputs and outputs, the paths' taps and pairs, and the registers that
tell of the fault.
-/

namespace Sys2Proof.Machine

open Sys2Proof

/-- Registers that entering Lock-out may change: none of the field inputs and outputs, and of the safety paths' those of diagnostics and
of a safety set that is coming. -/
def EntryReg (a : Nat) : Prop :=
  a = Reg.SAF_STAT ∨ a = Reg.SAF_SPS_STAT ∨ a = Reg.SAF_SPS_CHECK ∨ a < 0x40070000 ∨ 0x40090000 ≤ a

/-- The safety paths but for positions, permissions to cars and a safety set that is coming. -/
def EntrySaf (x y : Saf) : Prop :=
  y = { x with grants := y.grants, core := y.core, corePr := y.corePr, ecl := y.ecl, xfer := y.xfer }

/-- What stands while Lock-out is entered. -/
def EntryKept (s t : State) : Prop :=
  (∀ a, ¬ EntryReg a → t.reg a = s.reg a) ∧ EntrySaf s.saf t.saf ∧ t.fio = s.fio ∧ t.conf = s.conf ∧ t.tb = s.tb ∧ t.cars = s.cars ∧
    t.bss = s.bss ∧ t.pw.phase = s.pw.phase

namespace EntryKept

theorem refl (s : State) : EntryKept s s := ⟨fun _ _ => rfl, rfl, rfl, rfl, rfl, rfl, rfl, rfl⟩

theorem trans {s t u : State} (hst : EntryKept s t) (htu : EntryKept t u) : EntryKept s u := by
  obtain ⟨hregs, hsaf, hfio, hconf, htb, hcars, hbss, hphase⟩ := hst
  obtain ⟨hregs', hsaf', hfio', hconf', htb', hcars', hbss', hphase'⟩ := htu
  refine ⟨fun a ha => (hregs' a ha).trans (hregs a ha), ?_, hfio'.trans hfio, hconf'.trans hconf, htb'.trans htb, hcars'.trans hcars,
    hbss'.trans hbss, hphase'.trans hphase⟩
  rw [EntrySaf] at *
  rw [hsaf', hsaf]

theorem of_changesOnly {P : Nat → Prop} {s t : State} (h : ChangesOnly P s t) (hP : ∀ a, P a → EntryReg a) : EntryKept s t := by
  obtain ⟨hregs, -, hframe⟩ := h
  refine ⟨fun a ha => hregs a fun hPa => ha (hP a hPa), ?_⟩
  rw [hframe]
  exact ⟨rfl, rfl, rfl, rfl, rfl, rfl, rfl⟩

theorem setReg {a : Nat} (ha : EntryReg a) (s : State) (w : Word) : EntryKept s (s.setReg a w) :=
  of_changesOnly (P := EntryReg) (changesOnly_setReg ha s w) fun _ h => h

theorem put {f : FRef} (hf : EntryReg f.addr) (s : State) (v : Nat) : EntryKept s (s.put f v) := setReg hf s _

theorem ev {f : FRef} (hf : EntryReg f.addr) (s : State) : EntryKept s (s.ev f) := put hf s 1

theorem of_sendOnly {s t : State} (h : SendOnly s t) : EntryKept s t := by
  obtain ⟨hregs, -, -, hframe⟩ := h
  refine ⟨fun a ha => hregs a fun hs => ha ?_, ?_⟩
  · have := hs.bounds
    exact .inr (.inr (.inr (.inr (by omega))))
  · rw [hframe]
    exact ⟨rfl, rfl, rfl, rfl, rfl, rfl, rfl⟩

theorem forL {α : Type} {l : List α} {f : α → State → State} (hf : ∀ x, x ∈ l → ∀ t, EntryKept t (f x t)) (s : State) :
    EntryKept s (s.forL l f) := State.forL_rel refl (fun _ _ _ => trans) hf s

theorem forN {n : Nat} {f : Nat → State → State} (hf : ∀ i, i < n → ∀ t, EntryKept t (f i t)) (s : State) : EntryKept s (s.forN n f) :=
  State.forN_rel refl (fun _ _ _ => trans) hf s

theorem enqueue (safety : Bool) (e : RecEv) (s : State) : EntryKept s (enqueue safety e s) := by
  obtain ⟨hregs, hframe⟩ := recorderOnly_enqueue safety e s
  refine ⟨fun a ha => hregs a fun hmem => ha ?_, ?_⟩
  · simp only [List.mem_cons, List.not_mem_nil, or_false] at hmem
    obtain rfl | rfl := hmem
    · exact .inr (.inr (.inr (.inr (by decide))))
    · exact .inr (.inr (.inr (.inr (by decide))))
  · rw [hframe]
    exact ⟨rfl, rfl, rfl, rfl, rfl, rfl, rfl⟩

theorem announceAll (s : State) : EntryKept s (announceAll s) := by
  refine forN (fun p hp t => ?_) s
  rw [announceOn]
  split
  · exact of_sendOnly (sendOnly_sendPort hp _ _ _ _)
  · exact refl t

/-! ### The domains and the motion blocks -/

theorem portStop {p : Nat} (hp : p < 8) (s : State) : EntryKept s (portStop p s) := by
  have hport : EntryKept s (s.modPort p fun _ => SlkPort.init) := ⟨fun _ _ => rfl, rfl, rfl, rfl, rfl, rfl, rfl, rfl⟩
  have hstate : ∀ t, EntryKept t (setPortState p 0 t) := fun t => by
    have haddr : Reg.SLK_PORT_STAT p < 0x40070000 := by
      have : Reg.SLK_PORT_STAT p = 0x40050004 + 0x20 * p := rfl
      omega
    rw [setPortState]
    split
    · exact refl t
    · exact (put (.inr (.inr (.inr (.inl haddr)))) t 0).trans (ev (.inr (.inr (.inr (.inl (by decide))))) _)
  refine (hport.trans (hstate _)).trans (forL (fun n hn t => put (.inr (.inr (.inr (.inl ?_)))) t 1) _)
  obtain ⟨i, hi, rfl⟩ := List.mem_map.mp (List.mem_filter.mp hn).1
  have := List.mem_range.mp hi
  have : Reg.SLK_CH_STAT (16 * p + i) = 0x40050408 + 0x10 * (16 * p + i) := rfl
  change Reg.SLK_CH_STAT (16 * p + i) < 0x40070000
  omega

theorem serOff {p : Nat} (hp : p < 8) (s : State) : EntryKept s (serOff p s) := by
  have haddr : EntryReg (Reg.FBK_PORT_STAT p) := by
    have : Reg.FBK_PORT_STAT p = 0x40062608 + 0x20 * p := rfl
    exact .inr (.inr (.inr (.inl (by omega))))
  have hstate : ∀ t, EntryKept t (setSerState p 0 t) := fun t => by
    rw [setSerState]
    split
    · exact refl t
    · exact (put haddr t 0).trans (ev (.inr (.inr (.inr (.inl (by decide))))) _)
  have hport : ∀ t f, EntryKept t (t.modSer p f) := fun _ _ => ⟨fun _ _ => rfl, rfl, rfl, rfl, rfl, rfl, rfl, rfl⟩
  exact ((put haddr s 0).trans (hport _ _)).trans (hstate _)

theorem pathsBlind (s : State) : EntryKept s (pathsBlind s) := ⟨fun _ _ => rfl, rfl, rfl, rfl, rfl, rfl, rfl, rfl⟩

theorem servoStop (s : State) : EntryKept s (servoStop s) := by
  have hfb : ∀ n t, EntryKept t (fbOff n t) := fun _ _ => ⟨fun _ _ => rfl, rfl, rfl, rfl, rfl, rfl, rfl, rfl⟩
  have hchan : ∀ n t, EntryKept t (t.modChan n fun x => { x with got := false }) :=
    fun _ _ => ⟨fun _ _ => rfl, rfl, rfl, rfl, rfl, rfl, rfl, rfl⟩
  have hblocks : ∀ t cmm tide slk fbk, EntryKept t { t with cmm := cmm, tide := tide, slk := slk, fbk := fbk } :=
    fun _ _ _ _ _ => ⟨fun _ _ => rfl, rfl, rfl, rfl, rfl, rfl, rfl, rfl⟩
  have hports := (forN (fun p hp => portStop (p := p) hp) s).trans (forN (n := 8) (fun p hp => serOff (p := p) hp) _)
  have hchans := (hports.trans (forN (n := 144) (fun n _ => hfb n) _)).trans (forN (n := 128) (fun n _ => hchan n) _)
  exact (hchans.trans (pathsBlind _)).trans (hblocks _ _ _ _ _)

theorem domainEnter {m : Mode} (hm : modeServo m = false) (on : Bool) (prev : Mode) (s : State) :
    EntryKept s (domainEnter on prev m s) := by
  rw [Machine.domainEnter, if_neg (by simp [hm])]
  split
  · exact servoStop s
  · exact refl s

theorem cmdOutcome (n code : Nat) (s : State) : EntryKept s (cmdOutcome n code s) := by
  have hstat := (put (f := F.TRJ_CMD_STAT.CODE) (.inr (.inr (.inr (.inl (by decide))))) s code).trans
    (put (f := F.TRJ_CMD_STAT.AXIS) (.inr (.inr (.inr (.inl (by decide))))) _ n)
  rw [Machine.cmdOutcome]
  split
  · exact hstat.trans (ev (.inr (.inr (.inr (.inl (by decide))))) _)
  · exact hstat.trans (ev (.inr (.inr (.inr (.inl (by decide))))) _)

theorem modeDiscard (s : State) : EntryKept s (modeDiscard s) := by
  have haxis : ∀ n u f, EntryKept u (u.modAxis n f) := fun _ _ _ => ⟨fun _ _ => rfl, rfl, rfl, rfl, rfl, rfl, rfl, rfl⟩
  have hcheck : ∀ c, EntryKept s { s with trj := { s.trj with chk := c } } := fun _ => ⟨fun _ _ => rfl, rfl, rfl, rfl, rfl, rfl, rfl, rfl⟩
  have hbusy := fun u => put (f := F.TRJ_CMD_STAT.BUSY) (.inr (.inr (.inr (.inl (by decide))))) u 0
  rw [Machine.modeDiscard]
  refine trans ?_ (forN (n := 8) (fun n _ u => haxis n u _) _)
  split
  · exact refl s
  · exact (hcheck none).trans ((hbusy _).trans (cmdOutcome _ _ _))

theorem motionEnter_lockout (s : State) : EntryKept s (motionEnter .lockout s) := by
  have hdoor : ∀ d t, EntryKept t (t.modDoor d doorHalt) := fun _ _ => ⟨fun _ _ => rfl, rfl, rfl, rfl, rfl, rfl, rfl, rfl⟩
  exact (modeDiscard s).trans (forL (l := doorUnits (Machine.modeDiscard s)) (fun d _ t => hdoor d t) _)

theorem leaveCommissioning (s : State) : EntryKept s (leaveCommissioning s) := by
  have hdiag := put (f := F.SAF_STAT.DIAG_SUSP) (.inl rfl) s 0
  have hxfer : ∀ t : State, EntryKept t { t with saf := { t.saf with xfer := none } } :=
    fun _ => ⟨fun _ _ => rfl, rfl, rfl, rfl, rfl, rfl, rfl, rfl⟩
  rw [Machine.leaveCommissioning]
  split
  · exact hdiag
  · exact ((hdiag.trans (hxfer _)).trans (put (.inr (.inl rfl)) _ 0)).trans (setReg (.inr (.inr (.inl rfl))) _ 0)

theorem cachesFollow (m : Mode) (s : State) : EntryKept s (cachesFollow m s) := by
  rw [Machine.cachesFollow]
  split
  · exact refl s
  · exact ⟨fun _ _ => rfl, rfl, rfl, rfl, rfl, rfl, rfl, rfl⟩

theorem reqDrop (s : State) : EntryKept s (reqDrop s) := by
  have hrefuse : ∀ code, EntryKept s (refuseReq code s) := fun code =>
    trans ⟨fun _ _ => rfl, rfl, rfl, rfl, rfl, rfl, rfl, rfl⟩ (ev (f := F.PCM_EVENT.REQ_REFUSED) (.inr (.inr (.inr (.inl (by decide))))) _)
  rw [Machine.reqDrop]
  split
  · exact hrefuse _
  · exact refl s

theorem modeReport (prev m : Mode) (trig : Nat) (s : State) : EntryKept s (modeReport prev m trig s) := by
  have hchg := fun t => ev (f := F.PCM_EVENT.MODE_CHG) (.inr (.inr (.inr (.inl (by decide))))) t
  have hwake := fun t => ev (f := F.PCM_EVENT.WAKE) (.inr (.inr (.inr (.inl (by decide))))) t
  rw [Machine.modeReport]
  refine trans ?_ (enqueue false _ _)
  split
  · exact trans ⟨fun _ _ => rfl, rfl, rfl, rfl, rfl, rfl, rfl, rfl⟩ ((hchg _).trans (hwake _))
  · exact trans ⟨fun _ _ => rfl, rfl, rfl, rfl, rfl, rfl, rfl, rfl⟩ (hchg _)

theorem enterMode_lockout {s : State} (trig : Nat) (hawake : s.mode ≠ .dormant) : EntryKept s (enterMode .lockout trig s) := by
  have hleft : EntryKept s (if s.mode = .commissioning then Machine.leaveCommissioning s else s) := by
    split
    · exact leaveCommissioning s
    · exact refl s
  rw [enterMode, if_neg hawake, if_neg (by decide)]
  exact ((((hleft.trans (motionEnter_lockout _)).trans (modeReport _ _ _ _)).trans (cachesFollow _ _)).trans
    (domainEnter rfl _ _ _)).trans (announceAll _)

/-! ### What is written on both sides -/

theorem put_put {s t : State} (h : EntryKept s t) {f : FRef} (hf : ¬ EntryReg f.addr) (v : Nat) : EntryKept (s.put f v) (t.put f v) := by
  obtain ⟨hregs, hrest⟩ := h
  refine ⟨fun a ha => ?_, hrest⟩
  rw [State.put, State.put, hregs f.addr hf]
  by_cases haf : a = f.addr
  · rw [haf, State.reg_setReg_same, State.reg_setReg_same]
  · rw [State.reg_setReg_ne _ _ _ _ haf, State.reg_setReg_ne _ _ _ _ haf, hregs a ha]

theorem linesOff {s t : State} (h : EntryKept s t) : EntryKept (linesOff s) (linesOff t) := by
  obtain ⟨hregs, hsaf, hrest⟩ := h
  refine ⟨hregs, ?_, hrest⟩
  rw [EntrySaf] at hsaf
  rw [Machine.linesOff, Machine.linesOff, hsaf]
  rfl

theorem withLockout (s : State) : EntryKept s (withLockout s) := ⟨fun _ _ => rfl, rfl, rfl, rfl, rfl, rfl, rfl, rfl⟩

/-- Entering Lock-out: the event sets and every line command falls. -/
theorem lockoutEnter {s : State} (trig : Nat) (hawake : s.mode ≠ .dormant) :
    EntryKept (Machine.linesOff (s.ev F.SAF_EVENT.LOCKOUT)) (lockoutEnter trig s) := by
  have hmode : ∀ data, (recordSafety 0 0x10 data ((Machine.withLockout (Machine.reqDrop s)).ev F.SAF_EVENT.LOCKOUT)).mode ≠ .dormant :=
    fun data => by
      have hflag := (KeepsClockFault.reqDrop s).withLockout.trans (.ev (f := F.SAF_EVENT.LOCKOUT) (by decide) _)
      rw [recordSafety]
      exact fun hdorm => hawake ((hflag.trans (.enqueue true _ _)).1.symm.trans hdorm)
  have hnot : ¬ EntryReg F.SAF_EVENT.LOCKOUT.addr := by rw [EntryReg]; decide
  exact (((((reqDrop s).trans (withLockout _)).put_put hnot 1).trans (enqueue true _ _)).trans (enterMode_lockout trig (hmode _))).linesOff

end EntryKept

/-! ### A fault (R474, R475) -/

/-- An event register loses no bit by an event. -/
theorem State.flag_ev_mono {s : State} {a b i j : Nat} (hi : i < 32) (hj : j < 32) (h : s.flag ⟨a, ⟨i, i⟩⟩ = true) :
    (s.ev ⟨b, ⟨j, j⟩⟩).flag ⟨a, ⟨i, i⟩⟩ = true := by
  by_cases hab : a = b
  · subst hab
    by_cases hij : i = j
    · subst hij
      exact State.flag_ev_self le_rfl hi s
    · rw [State.flag_ev_disjoint le_rfl hj (by omega), h]
  · rw [State.ev, State.flag_put_other hab, h]

/-- Registers outside the field inputs and outputs. -/
def FaultReg (a : Nat) : Prop := a < 0x40070000 ∨ 0x40080000 ≤ a

/-- The safety paths but for positions, permissions to cars, a set that is coming, the lines and what a fault leaves. -/
def FaultSaf (x y : Saf) : Prop :=
  y = { x with grants := y.grants, core := y.core, corePr := y.corePr, ecl := y.ecl, xfer := y.xfer, aOn := y.aOn, bOn := y.bOn,
               trip := y.trip, latched := y.latched }

/-- What stands through a fault, whether or not it enters Lock-out. -/
structure FaultKept (s t : State) : Prop where
  regs : ∀ a, ¬ FaultReg a → t.reg a = s.reg a
  saf : FaultSaf s.saf t.saf
  fio : t.fio = s.fio
  conf : t.conf = s.conf
  tb : t.tb = s.tb
  cars : t.cars = s.cars
  bss : t.bss = s.bss
  phase : t.pw.phase = s.pw.phase
  lockout : s.mode = .lockout → t.mode = .lockout
  running : s.mode ≠ .dormant → t.mode ≠ .dormant
  events : ∀ i, i < 32 → s.flag ⟨Reg.SAF_EVENT, ⟨i, i⟩⟩ = true → t.flag ⟨Reg.SAF_EVENT, ⟨i, i⟩⟩ = true

namespace FaultKept

theorem refl (s : State) : FaultKept s s := ⟨fun _ _ => rfl, rfl, rfl, rfl, rfl, rfl, rfl, rfl, id, id, fun _ _ h => h⟩

theorem trans {s t u : State} (hst : FaultKept s t) (htu : FaultKept t u) : FaultKept s u where
  regs a ha := (htu.regs a ha).trans (hst.regs a ha)
  saf := by
    have h1 := hst.saf
    have h2 := htu.saf
    rw [FaultSaf] at *
    rw [h2, h1]
  fio := htu.fio.trans hst.fio
  conf := htu.conf.trans hst.conf
  tb := htu.tb.trans hst.tb
  cars := htu.cars.trans hst.cars
  bss := htu.bss.trans hst.bss
  phase := htu.phase.trans hst.phase
  lockout h := htu.lockout (hst.lockout h)
  running h := htu.running (hst.running h)
  events i hi h := htu.events i hi (hst.events i hi h)

theorem awake {s t : State} (h : FaultKept s t) (hawake : s.awake = true) : t.awake = true := by
  rw [State.awake, Bool.and_eq_true, bne_iff_ne] at *
  exact ⟨by rw [h.phase]; exact hawake.1, h.running hawake.2⟩

/-- A change of registers alone that only sets events of SAF_EVENT. -/
theorem of_changesOnly {P : Nat → Prop} {s t : State} (h : ChangesOnly P s t) (hP : ∀ a, P a → FaultReg a)
    (hev : ∀ i, i < 32 → s.flag ⟨Reg.SAF_EVENT, ⟨i, i⟩⟩ = true → t.flag ⟨Reg.SAF_EVENT, ⟨i, i⟩⟩ = true) : FaultKept s t := by
  obtain ⟨hregs, -, hframe⟩ := h
  generalize t.bus = b at hframe
  subst hframe
  exact ⟨fun a ha => hregs a fun hPa => ha (hP a hPa), rfl, rfl, rfl, rfl, rfl, rfl, rfl, id, id, hev⟩

theorem setReg {a : Nat} (ha : FaultReg a) (hne : a ≠ Reg.SAF_EVENT) (s : State) (w : Word) : FaultKept s (s.setReg a w) :=
  of_changesOnly (changesOnly_setReg (P := (· = a)) rfl s w) (fun _ h => h ▸ ha)
    fun _ _ h => by rw [State.flag_setReg_other hne.symm]; exact h

theorem event {i : Nat} (hi : i < 32) (s : State) : FaultKept s (s.ev ⟨Reg.SAF_EVENT, ⟨i, i⟩⟩) :=
  of_changesOnly (changesOnly_ev (P := (· = Reg.SAF_EVENT)) rfl s) (fun _ h => h ▸ .inr (by decide))
    fun _ hj h => State.flag_ev_mono hj hi h

theorem noteTrip (cls : Nat) (s : State) : FaultKept s (noteTrip cls s) := by
  rw [Machine.noteTrip]
  split
  · exact ⟨fun _ _ => rfl, rfl, rfl, rfl, rfl, rfl, rfl, rfl, id, id, fun _ _ h => h⟩
  · exact refl s

theorem firstFault (path cls det : Nat) (s : State) : FaultKept s (firstFault path cls det s) := by
  have hlatch : ∀ t : State, FaultKept t { t with saf := { t.saf with latched := true } } :=
    fun _ => ⟨fun _ _ => rfl, rfl, rfl, rfl, rfl, rfl, rfl, rfl, id, id, fun _ _ h => h⟩
  have hresult : FaultKept s (s.result Reg.SAF_FAULT (path * 2 ^ 28 + cls * 2 ^ 16 + det % 2 ^ 16)) :=
    setReg (.inr (by decide)) (by decide) _ _
  have hev := hresult.trans (event (i := 4) (by decide) _)
  rw [Machine.firstFault, ← State.ev_saf _ F.SAF_EVENT.NEW]
  exact hev.trans (hlatch _)

theorem enqueue (safety : Bool) (e : RecEv) (s : State) : FaultKept s (enqueue safety e s) := by
  obtain ⟨hregs, hframe⟩ := recorderOnly_enqueue safety e s
  have hout : ∀ a, ¬ FaultReg a ∨ a = Reg.SAF_EVENT → a ∉ [Reg.REC_EVENT, Reg.REC_LOST] := fun a ha hmem => by
    simp only [List.mem_cons, List.not_mem_nil, or_false] at hmem
    rw [FaultReg] at ha
    obtain rfl | rfl := hmem
    · revert ha; decide
    · revert ha; decide
  refine ⟨fun a ha => hregs a (hout a (.inl ha)), ?_, ?_, ?_, ?_, ?_, ?_, ?_, ?_, ?_, fun i _ h =>
    (flag_of_reg_eq (f := ⟨Reg.SAF_EVENT, ⟨i, i⟩⟩) (hregs _ (hout _ (.inr rfl)))).trans h⟩
  all_goals rw [hframe]
  · rfl
  · exact id
  · exact id

theorem resetRefused (code : Nat) (s : State) : FaultKept s (resetRefused code s) := by
  have hput : FaultKept s (s.put F.SAF_RESET_STAT.REJ code) := setReg (.inr (by decide)) (by decide) _ _
  exact (hput.trans (event (i := 6) (by decide) _)).trans (enqueue true _ _)

end FaultKept

/-- The fault noted, before Lock-out is entered. -/
def faultNoted (path cls det : Nat) (s : State) : State :=
  if s.saf.latched then noteTrip cls s else firstFault path cls det (noteTrip cls s)

theorem faultKept_faultNoted (path cls det : Nat) (s : State) : FaultKept s (faultNoted path cls det s) := by
  rw [faultNoted]
  split
  · exact .noteTrip cls s
  · exact (FaultKept.noteTrip cls s).trans (.firstFault _ _ _ _)

theorem safFault_of_running {s : State} (path cls det : Nat) (hawake : s.awake = true) (hmode : s.mode ≠ .lockout) :
    safFault path cls det s = lockoutEnter 9 (faultNoted path cls det s) := by
  rw [safFault, if_pos hawake, if_neg hmode]
  rfl

/-- A fault in Lock-out: a record of its own. -/
def faultAgain (path cls det : Nat) (s : State) : State :=
  recordSafety 0 0x11 (items [path * 2 ^ 28 + cls * 2 ^ 16 + det % 2 ^ 16]) (faultNoted path cls det s)

/-- An accepted reset that has not brought Watch yet is undone. -/
def resetLost (s : State) : State :=
  { s with pw := { s.pw with delReset := false, trans := none }, nv := { s.nv with lc := { s.nv.lc with lockout := true } } }

theorem safFault_of_lockout {s : State} (path cls det : Nat) (hawake : s.awake = true) (hmode : s.mode = .lockout) :
    safFault path cls det s = if (faultAgain path cls det s).pw.delReset then resetRefused 1 (resetLost (faultAgain path cls det s))
      else faultAgain path cls det s := by
  rw [safFault, if_pos hawake, if_pos hmode]
  rfl

/-- A fault outside Lock-out enters it, with what it notes. -/
theorem entryKept_safFault {s : State} (path cls det : Nat) (hawake : s.awake = true) (hmode : s.mode ≠ .lockout) :
    EntryKept (linesOff ((faultNoted path cls det s).ev F.SAF_EVENT.LOCKOUT)) (safFault path cls det s) := by
  have hdorm : (faultNoted path cls det s).mode ≠ .dormant :=
    (faultKept_faultNoted path cls det s).running (by simpa using (Bool.and_eq_true_iff.mp hawake).2)
  rw [safFault_of_running path cls det hawake hmode]
  exact .lockoutEnter 9 hdorm

theorem lockedOut_safFault {s : State} (path cls det : Nat) (hawake : s.awake = true) (hmode : s.mode ≠ .lockout) :
    LockedOut (safFault path cls det s) := by
  obtain ⟨hin, -, hlc, -⟩ := keeps_safFault path cls det hawake hmode
  exact ⟨hin, congrArg LcRecord.lockout hlc⟩

theorem faultKept_entry {s t : State} (h : EntryKept s t) (hlock : t.mode = .lockout) : FaultKept s t := by
  obtain ⟨hregs, hsaf, hfio, hconf, htb, hcars, hbss, hphase⟩ := h
  have hevent : ¬ EntryReg Reg.SAF_EVENT := by rw [EntryReg]; decide
  refine ⟨fun a ha => hregs a fun he => ha ?_, ?_, hfio, hconf, htb, hcars, hbss, hphase, fun _ => hlock,
    fun _ => by rw [hlock]; decide, fun i _ hi => (flag_of_reg_eq (f := ⟨Reg.SAF_EVENT, ⟨i, i⟩⟩) (hregs _ hevent)).trans hi⟩
  · obtain rfl | rfl | rfl | hlt | hge := he
    · exact .inr (by decide)
    · exact .inr (by decide)
    · exact .inr (by decide)
    · exact .inl hlt
    · exact .inr (by omega)
  · rw [EntrySaf] at hsaf
    rw [FaultSaf, hsaf]

/-- What a fault leaves, in every mode. -/
theorem faultKept_safFault (path cls det : Nat) (s : State) : FaultKept s (safFault path cls det s) := by
  by_cases hawake : s.awake = true
  · by_cases hmode : s.mode = .lockout
    · have hundo : ∀ t, FaultKept t (resetLost t) :=
        fun _ => ⟨fun _ _ => rfl, rfl, rfl, rfl, rfl, rfl, rfl, rfl, id, id, fun _ _ h => h⟩
      have hagain : FaultKept s (faultAgain path cls det s) := (faultKept_faultNoted path cls det s).trans (.enqueue true _ _)
      rw [safFault_of_lockout path cls det hawake hmode]
      split
      · exact (hagain.trans (hundo _)).trans (.resetRefused 1 _)
      · exact hagain
    · have hlines : ∀ t, FaultKept t (linesOff t) :=
        fun _ => ⟨fun _ _ => rfl, rfl, rfl, rfl, rfl, rfl, rfl, rfl, id, id, fun _ _ h => h⟩
      have hnoted := (faultKept_faultNoted path cls det s).trans ((FaultKept.event (i := 1) (by decide) _).trans (hlines _))
      exact hnoted.trans (faultKept_entry (entryKept_safFault path cls det hawake hmode) (lockedOut_safFault path cls det hawake hmode).1)
  · rw [safFault, if_neg hawake]
    exact .refl s

theorem faultKept_pathFault (core ecl : Bool) (cls det : Nat) (s : State) : FaultKept s (pathFault core ecl cls det s) := by
  rw [pathFault]
  split_ifs
  · exact faultKept_safFault _ _ _ s
  · exact faultKept_safFault _ _ _ s
  · exact faultKept_safFault _ _ _ s
  · exact .refl s

/-- A result register: 30 bits of value under the advanced tag. -/
theorem State.toNat_result (s : State) (a v : Nat) :
    ((s.result a v).reg a).toNat = v % 2 ^ 30 + ((s.reg a).toNat / 2 ^ 30 + 1) % 4 * 2 ^ 30 := by
  rw [State.result, State.reg_setReg_same, wd, BitVec.toNat_ofNat]
  exact Nat.mod_eq_of_lt (by omega)

/-- A field of a result register below its tag. -/
theorem State.get_result {hi lo : Nat} (hb : lo ≤ hi) (h29 : hi < 30) (s : State) (a v : Nat) :
    (s.result a v).get ⟨a, ⟨hi, lo⟩⟩ = v % 2 ^ 30 / 2 ^ lo % 2 ^ (hi + 1 - lo) := by
  have hsplit : (2 : Nat) ^ 30 = 2 ^ lo * (2 ^ (hi + 1 - lo) * 2 ^ (30 - (hi + 1))) := by
    rw [← Nat.pow_add, ← Nat.pow_add]
    congr 1
    omega
  rw [State.get, getF, State.toNat_result]
  generalize ((s.reg a).toNat / 2 ^ 30 + 1) % 4 = t
  change (v % 2 ^ 30 + t * 2 ^ 30) / 2 ^ lo % 2 ^ (hi + 1 - lo) = _
  rw [show t * 2 ^ 30 = 2 ^ lo * (2 ^ (hi + 1 - lo) * (2 ^ (30 - (hi + 1)) * t)) by rw [hsplit]; ring,
    Nat.add_mul_div_left _ _ (Nat.two_pow_pos lo), Nat.add_mul_mod_self_left]

theorem latch_spec (s : State) : ({ s.ev F.SAF_EVENT.NEW with saf := { s.saf with latched := true } } : State).saf.latched = true ∧
    ({ s.ev F.SAF_EVENT.NEW with saf := { s.saf with latched := true } } : State).bus = (s.ev F.SAF_EVENT.NEW).bus := ⟨rfl, rfl⟩

/-- SAF_FAULT of the first fault since the last deliberate reset. -/
theorem faultNoted_first {s : State} {path cls : Nat} (det : Nat) (h : s.saf.latched = false) (hpath : path < 4) (hcls : cls < 256) :
    (faultNoted path cls det s).saf.latched = true ∧ (faultNoted path cls det s).get F.SAF_FAULT.PATH = path ∧
      (faultNoted path cls det s).get F.SAF_FAULT.CLASS = cls ∧ (faultNoted path cls det s).get F.SAF_FAULT.DETAIL = det % 2 ^ 16 := by
  rw [faultNoted, h, if_neg (by decide), firstFault]
  obtain ⟨hlatched, hbus⟩ := latch_spec ((noteTrip cls s).result Reg.SAF_FAULT (path * 2 ^ 28 + cls * 2 ^ 16 + det % 2 ^ 16))
  refine ⟨hlatched, ?_, ?_, ?_⟩
  all_goals rw [State.get_of_bus_eq hbus, State.get_ev_other (by decide), State.get_result (by decide) (by decide)]
  all_goals omega

end Sys2Proof.Machine
end

section
/-!
PROOF. Field inputs: levels, counts and frequency results (14 R443 to R448).
-/

namespace Sys2Proof.Machine

open Sys2Proof

/-! ### Levels and counts at the die -/

/-- A die that takes a new level. -/
def levelTaken (i b : Nat) (level : Bool) (time : Nat) (d : Die) : Die :=
  { d with inputs := setBitN d.inputs b level, edges := d.edges ++ [(i, level, time)] }

/-- A die whose filter has accepted a level at a time. -/
def filterTaken (i time : Nat) (d : Die) : Die := { d with accs := smPut d.accs i time }

theorem inputEdge_of_new {s : State} {i : Nat} {level : Bool} (h : (s.die (i / 24)).inputs.testBit (i % 24) ≠ level) (time : Nat) :
    inputEdge i level time s = s.modDie (i / 24) (levelTaken i (i % 24) level time) := if_neg (by simpa using h)

theorem filterRan_of_time {s : State} {i time : Nat} (h : smFind (s.die (i / 24)).accs i = none ∨
    ∃ u, smFind (s.die (i / 24)).accs i = some u ∧ u + 1000000 * (s.die (i / 24)).filt.getD (i % 24) 3 ≤ time) :
    filterRan s i time = true := by
  rw [filterRan]
  obtain hnone | ⟨u, hu, hle⟩ := h
  · rw [hnone]
  · rw [hu, dieFilt, Nat.mul_comm]
    exact decide_eq_true hle

theorem filterAccept_of_ran {s : State} {i time : Nat} {level : Bool} (hslow : isFast i = false) (hran : filterRan s i time = true)
    (hnew : (s.die (i / 24)).inputs.testBit (i % 24) ≠ level) : filterAccept i level time s =
      (s.modDie (i / 24) (levelTaken i (i % 24) level time)).modDie (i / 24) (filterTaken i time) := by
  rw [filterAccept, hslow, hran, if_neg (by simpa using hnew), inputEdge_of_new hnew]
  rfl

theorem fastInput_div (f : Nat) : fastInput f / 24 = f / 4 := by rw [fastInput]; omega

theorem fastInput_mod (f : Nat) : fastInput f % 24 = f % 4 := by rw [fastInput]; omega

theorem fastEdge_of_new {s : State} {f : Nat} {rising : Bool} (h : (s.die (f / 4)).inputs.testBit (f % 4) ≠ rising) (time : Nat) :
    fastEdge f rising time s = fastCount f rising (s.modDie (f / 4) (levelTaken (fastInput f) (f % 4) rising time)) := by
  have hfast := inputEdge_of_new (i := fastInput f) (s := s) (level := rising) (by rw [fastInput_div, fastInput_mod]; exact h) time
  rw [fastInput_div, fastInput_mod] at hfast
  rw [fastEdge, if_neg (by simpa using h), hfast]

/-- EDGE of an input selects an edge: 2 both, 0 rising ones, 1 falling ones. -/
def edgeCounts (e : Nat) (rising : Bool) : Prop := e = 2 ∨ (e = 0 ∧ rising = true) ∨ (e = 1 ∧ (!rising) = true)

/-- A fast input's edge at its die: counted where EDGE selects it. -/
theorem die_fastCount (f : Nat) (rising : Bool) (s : State) : ∃ l, (∀ g, (fastCount f rising s).die g =
      if g = f / 4 then { s.die (f / 4) with cnt := l } else s.die g) ∧
    (edgeCounts ((s.die (f / 4)).edge / 4 ^ (f % 4) % 4) rising → smGet 0 l f = (smGet 0 (s.die (f / 4)).cnt f + 1) % 2 ^ 32) ∧
    (¬ edgeCounts ((s.die (f / 4)).edge / 4 ^ (f % 4) % 4) rising → smGet 0 l f = smGet 0 (s.die (f / 4)).cnt f) ∧
    (∀ k, k ≠ f → smGet 0 l k = smGet 0 (s.die (f / 4)).cnt k) ∧
    fastCount f rising s = { s with fio := { s.fio with dies := (fastCount f rising s).fio.dies } } := by
  rw [fastCount]
  dsimp only
  split
  next hsel =>
    refine ⟨smSet 0 (s.die (f / 4)).cnt f ((smGet 0 (s.die (f / 4)).cnt f + 1) % 2 ^ 32), fun g => ?_, fun _ => smGet_smSet_same _ _ _ _,
      fun hno => absurd hsel hno, fun k hk => smGet_smSet_ne _ _ _ _ _ _ hk, rfl⟩
    split
    next h => rw [h, State.die_modDie_same]
    next h => rw [State.die_modDie_ne _ _ _ _ h]
  next hsel =>
    refine ⟨(s.die (f / 4)).cnt, fun g => ?_, fun hyes => absurd hyes hsel, fun _ => rfl, fun _ _ => rfl, rfl⟩
    split
    next h => rw [h]
    next h => rfl

/-! ### Frequency results (R448) -/

theorem freqIn_modFreq_same (s : State) (f : Nat) (g : FreqIn → FreqIn) : (s.modFreq f g).freqIn f = g (s.freqIn f) := smGet_smMod_same _ _ _ _

theorem freqIn_modFreq_ne {f k : Nat} (h : k ≠ f) (s : State) (g : FreqIn → FreqIn) : (s.modFreq f g).freqIn k = s.freqIn k :=
  smGet_smMod_ne _ _ _ _ _ h

theorem freqIn_of_fio_eq {s t : State} (h : t.fio = s.fio) (f : Nat) : t.freqIn f = s.freqIn f := by rw [State.freqIn, h, State.freqIn]

/-- The result registers after a frequency result. -/
theorem freqResult_spec {f : Nat} (hf : f < 16) (mhz : Nat) (s : State) :
    (freqResult f mhz s).get (F.FIO_FIN_FREQ.FREQ f) = min mhz 250000000 ∧
      ((freqResult f mhz s).flag (F.FIO_FIN_FREQ.OVR f) = true ↔ 250000000 < mhz) ∧
      (freqResult f mhz s).get (F.FIO_FIN_FREQ.TAG f) = (s.get (F.FIO_FIN_FREQ.TAG f) + 1) % 4 ∧
      (freqResult f mhz s).flag F.FIO_EVENT.NEW = true ∧ OnlyRegs [Reg.FIO_FIN_FREQ f, Reg.FIO_EVENT] s (freqResult f mhz s) := by
  have hne : Reg.FIO_FIN_FREQ f ≠ Reg.FIO_EVENT := by
    have h : 0x4007010c + 0x20 * f ≠ 0x40070420 := by omega
    exact h
  rw [freqResult]
  generalize hv : min mhz 250000000 + (if 250000000 < mhz then 2 ^ 29 else 0) = v
  have hover : v < 2 ^ 30 ∧ v / 2 ^ 29 = (if 250000000 < mhz then 1 else 0) ∧ v % 2 ^ 28 = min mhz 250000000 := by
    split at hv
    · rw [if_pos ‹_›]; omega
    · rw [if_neg ‹_›]; omega
  obtain ⟨hlt, hovr, hlow⟩ := hover
  have honly := (changesOnly_result (P := (· ∈ [Reg.FIO_FIN_FREQ f, Reg.FIO_EVENT])) (a := Reg.FIO_FIN_FREQ f) (by simp) s v).trans
    (changesOnly_ev (f := F.FIO_EVENT.NEW) (by simp) _)
  refine ⟨?_, ?_, ?_, State.flag_ev_self (by decide) (by decide) _, honly⟩
  · rw [State.get_ev_other hne, State.get_result (by decide) (by decide), Nat.mod_eq_of_lt hlt]
    simpa using hlow
  · rw [State.flag_ev_other hne, State.flag, State.get_result (by decide) (by decide), Nat.mod_eq_of_lt hlt, hovr]
    split
    next h => simp [h]
    next h => simp [h]
  · rw [State.get_ev_other hne, State.get, State.get, getF, getF, State.toNat_result]
    dsimp only
    change (v % 2 ^ 30 + _ * 2 ^ 30) / 2 ^ 30 % 4 = (_ / 2 ^ 30 % 4 + 1) % 4
    omega

/-- A reference edge that stands, with the time to the last edge. -/
theorem freqGate_of_due {s : State} {f r : Nat} (href : (s.freqIn f).ref = some r)
    (hdue : (s.freqIn f).done = none ∨ ∃ d, (s.freqIn f).done = some d ∧ d + 125000 * s.get (F.FIO_FIN_CFG.GATE f) ≤ s.tb.tick)
    (hn : 0 < (s.freqIn f).n) (hr : r < (s.freqIn f).last) : freqGate f s =
      freqResult f (((s.freqIn f).n * 1000000000000 + ((s.freqIn f).last - r) / 2) / ((s.freqIn f).last - r))
        (s.modFreq f (fun x => { x with ref := some (s.freqIn f).last, n := 0, done := some s.tb.tick })) := by
  rw [freqGate]
  dsimp only
  rw [href]
  dsimp only
  refine if_pos ⟨?_, hn, by omega⟩
  obtain hnone | ⟨d, hd, hle⟩ := hdue
  · rw [hnone]
  · rw [hd, Nat.mul_comm]
    exact decide_eq_true hle

/-- What a completed result leaves: its registers, and what the input measures. -/
theorem freqDone_frame {f : Nat} {mhz : Nat} {s : State} (g : FreqIn → FreqIn)
    (h : OnlyRegs [Reg.FIO_FIN_FREQ f, Reg.FIO_EVENT] (s.modFreq f g) (freqResult f mhz (s.modFreq f g))) :
    (∀ k, (freqResult f mhz (s.modFreq f g)).freqIn k = (s.modFreq f g).freqIn k) ∧
      RegsBut [Reg.FIO_FIN_FREQ f, Reg.FIO_EVENT] s (freqResult f mhz (s.modFreq f g)) ∧
      freqResult f mhz (s.modFreq f g) = { s with
        bus := (freqResult f mhz (s.modFreq f g)).bus
        fio := { s.fio with freq := (freqResult f mhz (s.modFreq f g)).fio.freq } } := by
  obtain ⟨hregs, -, hframe⟩ := h
  generalize freqResult f mhz (s.modFreq f g) = t at *
  refine ⟨freqIn_of_fio_eq (by rw [hframe]), hregs, ?_⟩
  rw [hframe]
  rfl

/-- Settles O46: levels with their edges, counts by EDGE, and the two ends of a frequency measurement. -/
theorem inputsCountAndMeasure : Obligations.InputsCountAndMeasure := by
  refine ⟨fun s i level time hslow hnew hran => ⟨_, congrArg Host.Outcome.next (filterAccept_of_ran hslow (filterRan_of_time hran) hnew), ?level⟩,
    fun s f rising time hnew => ⟨_, congrArg Host.Outcome.next (fastEdge_of_new hnew time), ?fast⟩,
    fun s f q r dt mhz hawake hq href hdue hn hr hdt hmhz => ?gate, fun s f hawake hzero hseen => ?zero⟩
  case level =>
    have hdie := (State.die_modDie_same (s.modDie (i.val / 24) (levelTaken i.val (i.val % 24) level time)) (i.val / 24)
      (filterTaken i.val time)).trans (congrArg (filterTaken i.val time) (State.die_modDie_same _ _ _))
    refine ⟨?_, fun b hb => ?_, by rw [hdie]; rfl, fun g hg => ?_, rfl⟩
    · rw [hdie]
      exact (testBit_setBitN _ _ _ _).trans (if_pos rfl)
    · rw [hdie]
      exact (testBit_setBitN _ _ _ _).trans (if_neg hb)
    · rw [State.die_modDie_ne _ _ _ _ hg, State.die_modDie_ne _ _ _ _ hg]
  case fast =>
    obtain ⟨l, hdies, hsel, hunsel, hothers, hframe⟩ :=
      die_fastCount f.val rising (s.modDie (f.val / 4) (levelTaken (fastInput f.val) (f.val % 4) rising time))
    rw [State.die_modDie_same] at hdies hsel hunsel hothers
    generalize fastCount f.val rising _ = t at *
    have hdie := (hdies (f.val / 4)).trans (if_pos rfl)
    rw [hdie]
    refine ⟨?_, rfl, fun e c he hc => ⟨fun h => ?_, fun h => ?_⟩, hothers, ?_⟩
    · exact (testBit_setBitN _ _ _ _).trans (if_pos rfl)
    · rw [hc]
      refine hsel ?_
      rw [edgeCounts]
      have he' : (levelTaken (fastInput f.val) (f.val % 4) rising time (s.die (f.val / 4))).edge / 4 ^ (f.val % 4) % 4 = e := he.symm
      rw [he']
      simpa using h
    · rw [hc]
      refine hunsel ?_
      rw [edgeCounts]
      have he' : (levelTaken (fastInput f.val) (f.val % 4) rising time (s.die (f.val / 4))).edge / 4 ^ (f.val % 4) % 4 = e := he.symm
      rw [he']
      obtain rfl | ⟨rfl, hr⟩ | ⟨rfl, hr⟩ := h
      · simp
      · simp [hr]
      · simp [hr]
    · rw [hframe]
      rfl
  case gate =>
    subst hq hdt hmhz
    refine ⟨_, congrArg Host.Outcome.next ((if_pos hawake).trans (freqGate_of_due href hdue hn hr)), ?_⟩
    obtain ⟨hfreq, hovr, htag, hnew, honly⟩ := freqResult_spec f.isLt
      (((s.freqIn f.val).n * 1000000000000 + ((s.freqIn f.val).last - r) / 2) / ((s.freqIn f.val).last - r))
      (s.modFreq f.val (fun x => { x with ref := some (s.freqIn f.val).last, n := 0, done := some s.tb.tick }))
    obtain ⟨hins, hregs, hframe⟩ := freqDone_frame _ honly
    refine ⟨hfreq, hovr, htag, hnew, ?_, fun k hk => ?_, hregs, hframe⟩
    · rw [hins, freqIn_modFreq_same]
    · rw [hins, freqIn_modFreq_ne hk]
  case zero =>
    have hexec : freqZero f.val s = freqResult f.val 0 (s.modFreq f.val (fun x => { x with ref := none, n := 0, done := none, zeroed := true })) :=
      if_pos ⟨by simp [hzero], hseen⟩
    refine ⟨_, congrArg Host.Outcome.next ((if_pos hawake).trans hexec), ?_⟩
    obtain ⟨hfreq, hovr, htag, hnew, honly⟩ := freqResult_spec f.isLt 0
      (s.modFreq f.val (fun x => { x with ref := none, n := 0, done := none, zeroed := true }))
    obtain ⟨hins, hregs, -⟩ := freqDone_frame _ honly
    refine ⟨hfreq, Bool.eq_false_iff.mpr fun h => absurd (hovr.mp h) (by decide), htag, ?_, ?_, hregs⟩
    · rw [hins, freqIn_modFreq_same]
    · rw [hins, freqIn_modFreq_same]

end Sys2Proof.Machine
end

section
/-!
PROOF. Field outputs: pulses, causes, test pulses and the field supply (14 R450 to R460).
-/

namespace Sys2Proof.Machine

open Sys2Proof

/-! ### An output at its die -/

theorem outSt_modOut_same (n : Nat) (f : OutSt → OutSt) (s : State) : outSt (modOut n f s) n = f (outSt s n) := by
  rw [outSt, modOut, State.die_modDie_same]
  exact smGet_smMod_same _ _ _ _

theorem outSt_modOut_ne {n m : Nat} (h : m ≠ n) (f : OutSt → OutSt) (s : State) : outSt (modOut n f s) m = outSt s m := by
  rw [outSt, modOut]
  by_cases hdie : m / 8 = n / 8
  · rw [hdie, State.die_modDie_same, outSt, hdie]
    exact smGet_smMod_ne _ _ _ _ _ fun hmod => h (by omega)
  · rw [State.die_modDie_ne _ _ _ _ hdie, outSt]

theorem die_modOut_ne {n g : Nat} (h : g ≠ n / 8) (f : OutSt → OutSt) (s : State) : (modOut n f s).die g = s.die g :=
  State.die_modDie_ne _ _ _ _ h

/-- An output's state changes nothing else of its die. -/
theorem die_modOut (n g : Nat) (f : OutSt → OutSt) (s : State) : ∃ l, (modOut n f s).die g = { s.die g with outs := l } := by
  by_cases h : g = n / 8
  · rw [h, modOut, State.die_modDie_same]
    exact ⟨_, rfl⟩
  · exact ⟨_, (die_modOut_ne h f s).trans rfl⟩

theorem outSt_of_die_eq {s t : State} {n : Nat} (h : t.die (n / 8) = s.die (n / 8)) : outSt t n = outSt s n := by rw [outSt, h, outSt]

theorem die_of_fio_eq {s t : State} (h : t.fio = s.fio) (g : Nat) : t.die g = s.die g := by rw [State.die, h, State.die]

theorem outDriven_of_forced {s : State} {n : Nat} (h : outForced s n = true) : outDriven s n = false := by simp [outDriven, h]

theorem outOn_of_forced {s : State} {n : Nat} (h : outForced s n = true) : outOn s n = false := by simp [outOn, outDriven_of_forced h]

theorem pulseEnd_of_due {s : State} {n e : Nat} (h : smFind (s.die (n / 8)).pulses n = some e) (hdue : e ≤ s.tb.tick) :
    pulseEnd n s = s.modDie (n / 8) (fun d => { d with pulses := smErase d.pulses n }) := by
  rw [pulseEnd, h]
  exact if_pos hdue

/-- A thermal shutdown at the die. -/
def thermalOut (o : OutSt) : OutSt := { o with hot := true, c1 := true, therm := satN 65535 (o.therm + 1) }

theorem thermalOff_spec (n : Nat) (s : State) :
    outSt (thermalOff n s) n = thermalOut (outSt s n) ∧ ∀ m, m ≠ n → outSt (thermalOff n s) m = outSt s m := by
  have houts : ∀ m, outSt (thermalOff n s) m = outSt (modOut n thermalOut s) m := fun m => by
    rw [outSt, outSt]
    by_cases h : m / 8 = n / 8
    · rw [thermalOff, h, State.die_modDie_same]
      rfl
    · rw [thermalOff, State.die_modDie_ne _ _ _ _ h]
      rfl
  exact ⟨(houts n).trans (outSt_modOut_same _ _ _), fun m hm => (houts m).trans (outSt_modOut_ne hm _ _)⟩

/-! ### FIO_OUT_CLR (R454) -/

theorem exec_fioOutClr {s : State} {core : Sender} {v : Word} (h : Guarded s core Reg.FIO_OUT_CLR v) :
    exec (.fioOutClr core (~~~ v)) s = .next (outClrOp v (dropGuard 7 s)) :=
  congrArg Host.Outcome.next (cplWrite_of_armed outClrOp h.1 (by decide) h.2)

theorem outClrOp_eq (v : Word) (s : State) : outClrOp v (dropGuard 7 s) =
    if (List.range 32).any (fun n => bitOf v n && (safeOut s n || causePersists s n)) then
      (keepVal Reg.FIO_OUT_CLR v (dropGuard 7 s)).ev F.FIO_EVENT.CLR_REJ
    else { keepVal Reg.FIO_OUT_CLR v (dropGuard 7 s) with fio := { s.fio with clr := s.fio.clr ||| v.toNat } } := rfl

theorem clear_names_iff (v : Word) (s : State) :
    (List.range 32).any (fun n => bitOf v n && (safeOut s n || causePersists s n)) = true ↔
      ∃ n, n < 32 ∧ v.getLsbD n = true ∧ (safeOut s n = true ∨ causePersists s n = true) := by
  simp [bitOf, BitVec.getLsbD]

/-! ### Off-pulses (R455 to R457) -/

theorem onlyRegs_safRefresh (s : State) : OnlyRegs [Reg.SAF_FUNC_STAT, Reg.SAF_EVENT] s (safRefresh s) := by
  have hput := fun v => changesOnly_put (P := (· ∈ [Reg.SAF_FUNC_STAT, Reg.SAF_EVENT])) (f := F.SAF_FUNC_STAT.DEMAND) (by simp) s v
  rw [safRefresh]
  split
  · dsimp only
    split
    · exact (hput _).trans (changesOnly_ev (by simp) _)
    · exact hput _
  · exact ChangesOnly.refl _ s

/-- The pulse's end at the die. -/
def pulseEnded (g rb : Nat) (s : State) : State := s.modDie g (fun d => { d with off := none, rb := rb })

/-- With no other output's readback fallen, the pulse's own readback decides. -/
theorem offPulseEnd_of_quiet {s : State} {n rb : Nat} (hawake : s.awake = true) (hoff : (s.die (n / 8)).off = some n)
    (hquiet : ∀ b, b < 8 → 8 * (n / 8) + b ≠ n → (s.die (n / 8)).rb.testBit b = true → rb.testBit b = true) :
    offPulseEnd n rb s = if rb.testBit (n % 8) && (outSt (pulseEnded (n / 8) rb s) n).stuck == 0 then
      outFault n 4 0 (pulseEnded (n / 8) rb s) else pulseEnded (n / 8) rb s := by
  have hsame : ∀ f : Nat → State → State, (∀ b, b < 8 → f b (pulseEnded (n / 8) rb s) = pulseEnded (n / 8) rb s) →
      (pulseEnded (n / 8) rb s).forN 8 f = pulseEnded (n / 8) rb s := fun f hf => State.forN_eq_self hf
  rw [offPulseEnd, if_pos hoff]
  dsimp only
  rw [if_pos hawake, ← pulseEnded, hsame]
  intro b hb
  refine if_neg fun hcross => ?_
  simp only [Bool.and_eq_true, bne_iff_ne, Bool.not_eq_true'] at hcross
  obtain ⟨⟨⟨⟨⟨hne, -⟩, -⟩, -⟩, hwas⟩, hnow⟩ := hcross
  rw [hquiet b hb hne hwas] at hnow
  exact Bool.noConfusion hnow

/-- A safety output found stuck on: its cause latches, with Lock-out. -/
theorem stuckOn_spec {s : State} {n : Nat} (hawake : s.awake = true) (hmode : s.mode ≠ .lockout) :
    (outSt (outFault n 4 0 s) n).stuck = 4 ∧ outDriven (outFault n 4 0 s) n = false ∧ (outFault n 4 0 s).flag F.FIO_EVENT.STUCK = true ∧
      LockedOut (outFault n 4 0 s) := by
  have hev : outFault n 4 0 s = safFault 1 9 n ((modOut n (fun o => { o with stuck := 4, partner := 0 }) s).ev F.FIO_EVENT.STUCK) := rfl
  have hst := outSt_modOut_same n (fun o => { o with stuck := 4, partner := 0 }) s
  have hpw : ((modOut n (fun o => { o with stuck := 4, partner := 0 }) s).ev F.FIO_EVENT.STUCK).pw = s.pw := by rw [State.ev_pw]; rfl
  have hfio : ((modOut n (fun o => { o with stuck := 4, partner := 0 }) s).ev F.FIO_EVENT.STUCK).fio =
      (modOut n (fun o => { o with stuck := 4, partner := 0 }) s).fio := State.ev_fio _ _
  have hflag := State.flag_ev_self (a := Reg.FIO_EVENT) (hi := 4) (lo := 4) (by decide) (by decide)
    (modOut n (fun o => { o with stuck := 4, partner := 0 }) s)
  generalize modOut n (fun o => { o with stuck := 4, partner := 0 }) s = a at *
  rw [hev]
  generalize a.ev F.FIO_EVENT.STUCK = t at *
  have hkept := faultKept_safFault 1 9 n t
  have hdie : (safFault 1 9 n t).die (n / 8) = a.die (n / 8) := die_of_fio_eq (hkept.fio.trans hfio) _
  have hstuck : (outSt (safFault 1 9 n t) n).stuck = 4 := by rw [outSt_of_die_eq hdie, hst]
  refine ⟨hstuck, outDriven_of_forced ?_, ?_, lockedOut_safFault 1 9 n (by rw [State.awake, State.mode, hpw]; exact hawake)
    (by rw [State.mode, hpw]; exact hmode)⟩
  · simp [outForced, hstuck]
  · rw [flag_of_reg_eq (hkept.regs _ (by rw [FaultReg]; decide))]
    exact hflag

/-! ### Under-voltage (R459, R460) -/

/-- The outputs of a group under-voltage takes off. -/
def uvOuts (g : Nat) (s : State) : State := s.forN 8 (fun b t => modOut (8 * g + b) (fun o => { o with c2 := true }) t)

theorem outIndex_div {g b : Nat} (hb : b < 8) : (8 * g + b) / 8 = g := by omega

theorem uvOuts_spec (g : Nat) (s : State) :
    (∀ b, b < 8 → (outSt (uvOuts g s) (8 * g + b)).c2 = true) ∧ (∃ l, (uvOuts g s).die g = { s.die g with outs := l }) ∧
      (∀ h, h ≠ g → (uvOuts g s).die h = s.die h) ∧ uvOuts g s = { s with fio := { s.fio with dies := (uvOuts g s).fio.dies } } := by
  refine ⟨fun b hb => ?_, ?_, fun h hh => ?_, ?_⟩
  · exact State.read_forN_of_writes (read := fun t => (outSt t (8 * g + b)).c2) hb (fun t => by rw [outSt_modOut_same])
      (fun j _ hj t => by rw [outSt_modOut_ne (by omega)]) s
  · exact State.forN_rel (R := fun s t => ∃ l, t.die g = { s.die g with outs := l }) (fun s => ⟨(s.die g).outs, rfl⟩)
      (fun s t u ⟨l, hst⟩ ⟨m, htu⟩ => ⟨m, by rw [htu, hst]⟩) (fun b _ t => die_modOut _ _ _ t) s
  · exact State.read_forN (read := fun t => t.die h) (fun b hb t => die_modOut_ne (by rw [outIndex_div hb]; exact hh) _ t) s
  · exact State.forN_rel (R := fun s t => t = { s with fio := { s.fio with dies := t.fio.dies } }) (fun _ => rfl)
      (fun _ _ _ h1 h2 => by rw [h2, h1]) (fun _ _ _ => rfl) s

/-- The outputs of a group that RESTART returns once under-voltage is over. -/
def uvBack (g : Nat) (s : State) : State :=
  s.forN 8 (fun b u => if restarts u (8 * g + b) then modOut (8 * g + b) (fun o => { o with c2 := false }) u else u)

/-- What an output shows of RESTART and of under-voltage. -/
def backRead (n : Nat) (s : State) : Bool × Bool := (restarts s n, (outSt s n).c2)

theorem restarts_modOut (n m : Nat) (f : OutSt → OutSt) (s : State) : restarts (modOut n f s) m = restarts s m := by
  obtain ⟨l, hdie⟩ := die_modOut n (m / 8) f s
  rw [restarts, hdie, restarts]
  rfl

theorem uvBack_spec (g : Nat) (s : State) :
    (∀ b, b < 8 → (outSt (uvBack g s) (8 * g + b)).c2 = ((outSt s (8 * g + b)).c2 && !restarts s (8 * g + b))) ∧
      ((uvBack g s).die g).uv = (s.die g).uv ∧
      (∀ h, h ≠ g → (uvBack g s).die h = s.die h) ∧ uvBack g s = { s with fio := { s.fio with dies := (uvBack g s).fio.dies } } := by
  refine ⟨fun b hb => ?_, ?_, fun h hh => ?_, ?_⟩
  · obtain ⟨u, hu, hturn⟩ := State.forN_turn (read := backRead (8 * g + b)) (n := 8) (i := b)
      (f := fun b u => if restarts u (8 * g + b) then modOut (8 * g + b) (fun o => { o with c2 := false }) u else u) hb
      (fun j _ hj t => by
        split
        · rw [backRead, restarts_modOut, outSt_modOut_ne (by omega), backRead]
        · rfl) s
    obtain ⟨hrestart, hc2⟩ := Prod.mk.inj hu
    obtain ⟨-, hend⟩ := Prod.mk.inj hturn
    rw [← hrestart, ← hc2]
    refine hend.trans ?_
    split
    next hyes => rw [outSt_modOut_same, hyes]; simp
    next hno => simp [hno]
  · refine State.read_forN (read := fun t => (t.die g).uv) (fun b _ t => ?_) s
    split
    · obtain ⟨l, hdie⟩ := die_modOut (8 * g + b) g (fun o => { o with c2 := false }) t
      rw [hdie]
    · rfl
  · refine State.read_forN (read := fun t => t.die h) (fun b hb t => ?_) s
    split
    · exact die_modOut_ne (by rw [outIndex_div hb]; exact hh) _ t
    · rfl
  · refine State.forN_rel (R := fun s t => t = { s with fio := { s.fio with dies := t.fio.dies } }) (fun _ => rfl)
      (fun _ _ _ h1 h2 => by rw [h2, h1]) (fun _ _ t => ?_) s
    split
    · rfl
    · rfl

/-- Under-voltage of a group's supply at its die. -/
def uvTaken (was : Bool) (d : Die) : Die := { d with uv := true, off := none, uvSafe := was }

theorem uvSet_of_group {s : State} {g t0 : Nat} (hg : g < 4) (hlow : (s.die g).lowFrom = some t0) (hdue : t0 + 37500 ≤ s.tb.tick)
    (hclear : (s.die g).uv = false) : ∃ was, uvSet g s = uvOuts g (s.modDie g (uvTaken was)) := by
  refine ⟨(List.range 8).any (fun b => safeOut s (8 * g + b) && outDriven s (8 * g + b)), ?_⟩
  rw [uvSet]
  dsimp only
  rw [hlow]
  dsimp only
  rw [if_pos ⟨hdue, by simp [hclear]⟩, if_pos hg]
  rfl

theorem uvClear_of_due {s : State} {g t0 : Nat} (hok : (s.die g).okFrom = some t0) (hdue : t0 + 1250000 ≤ s.tb.tick)
    (huv : (s.die g).uv = true) : uvClear g s =
      if g < 4 then uvBack g (s.modDie g (fun x => { x with uv := false })) else s.modDie g (fun x => { x with uv := false }) := by
  rw [uvClear]
  dsimp only
  rw [hok]
  dsimp only
  rw [if_pos ⟨hdue, huv⟩]
  rfl

theorem stoLink_modStoLink_same (l : Nat) (f : StoLink → StoLink) (s : State) : (s.modStoLink l f).stoLink l = f (s.stoLink l) :=
  smGet_smMod_same _ _ _ _

theorem stoLink_modStoLink_ne {l m : Nat} (h : m ≠ l) (f : StoLink → StoLink) (s : State) : (s.modStoLink l f).stoLink m = s.stoLink m :=
  smGet_smMod_ne _ _ _ _ _ h

theorem mode_safRefresh (s : State) : (safRefresh s).mode = s.mode := by rw [State.mode, (onlyRegs_safRefresh s).2.2, State.mode]

theorem die_safRefresh (s : State) (g : Nat) : (safRefresh s).die g = s.die g := die_of_fio_eq (by rw [(onlyRegs_safRefresh s).2.2]) g

theorem LockedOut.of_onlyRegs {l : List Nat} {s t : State} (h : OnlyRegs l s t) (hs : LockedOut s) : LockedOut t := by
  rw [LockedOut, State.mode, h.2.2]
  exact hs

theorem die_modStoLink (l g : Nat) (f : StoLink → StoLink) (s : State) : (s.modStoLink l f).die g = s.die g := by
  rw [State.die, State.die]
  rfl

/-- Under-voltage of FG4: both links' lines fall. -/
def uvLines (s : State) : State :=
  ((s.modDie 4 (fun x => { x with uv := true })).modStoLink 4 (fun x => { x with lines := 0 })).modStoLink 5 (fun x => { x with lines := 0 })

theorem uvSet_of_lines {s : State} {t0 : Nat} (hlow : (s.die 4).lowFrom = some t0) (hdue : t0 + 37500 ≤ s.tb.tick)
    (hclear : (s.die 4).uv = false) : uvSet 4 s = uvLines s := by
  rw [uvSet]
  dsimp only
  rw [hlow]
  dsimp only
  rw [if_pos ⟨hdue, by simp [hclear]⟩, if_neg (by decide), uvLines]

/-- Only the dies and the links of FG4 changed. -/
def DiesLinks (s t : State) : Prop := t = { s with fio := { s.fio with dies := t.fio.dies, links := t.fio.links } }

theorem DiesLinks.trans {s t u : State} (hst : DiesLinks s t) (htu : DiesLinks t u) : DiesLinks s u := by
  rw [DiesLinks] at *
  rw [htu, hst]

theorem uvLines_spec (s : State) : ((uvLines s).die 4).uv = true ∧ ((uvLines s).stoLink 4).lines = 0 ∧ ((uvLines s).stoLink 5).lines = 0 ∧
    (∀ h, h ≠ 4 → (uvLines s).die h = s.die h) ∧
    uvLines s = { s with fio := { s.fio with dies := (uvLines s).fio.dies, links := (uvLines s).fio.links } } := by
  have hdie : ∀ h, (uvLines s).die h = (s.modDie 4 (fun x => { x with uv := true })).die h := fun h => by
    rw [uvLines, die_modStoLink, die_modStoLink]
  refine ⟨?_, ?_, ?_, fun h hh => (hdie h).trans (State.die_modDie_ne _ _ _ _ hh), ?_⟩
  · rw [hdie, State.die_modDie_same]
  · rw [uvLines, stoLink_modStoLink_ne (by decide), stoLink_modStoLink_same]
  · rw [uvLines, stoLink_modStoLink_same]
  · rw [uvLines]
    exact DiesLinks.trans (DiesLinks.trans (rfl : DiesLinks s (s.modDie 4 _)) (rfl : DiesLinks _ (State.modStoLink _ 4 _))) rfl

/-- Settles O47: pulses, thermal causes, FIO_OUT_CLR, off-pulses and the supply. -/
theorem outputsPulsesAndSupply : Obligations.OutputsPulsesAndSupply := by
  refine ⟨fun s n e hpulse hdue => ⟨_, congrArg Host.Outcome.next (pulseEnd_of_due hpulse hdue), ?pulse⟩,
    fun s n => ⟨⟨_, rfl, ?hot⟩, ⟨_, rfl, ?cooled⟩⟩,
    fun s core v hguard => ⟨fun hnames => ⟨_, exec_fioOutClr hguard, ?rejected⟩, fun hfree => ⟨_, exec_fioOutClr hguard, ?clear⟩⟩,
    fun s n rb hawake hsafe => ⟨fun hdriven huv hdiag => ⟨_, congrArg Host.Outcome.next ((if_pos hawake).trans (if_pos ?start)), ?started⟩,
      fun hoff => ⟨fun hrb => ⟨_, rfl, ?quiet⟩, fun hrb hhigh hstuck hmode => ⟨_, rfl, ?stuck⟩⟩⟩,
    fun s g v => ⟨_, rfl, ?lplus⟩,
    fun s g t0 => ⟨fun hlow hdue hclear => ?uv, fun hok hdue huv => ⟨_, congrArg Host.Outcome.next (uvClear_of_due hok hdue huv), ?uvClear⟩⟩⟩
  case pulse =>
    refine ⟨?_, fun m hm => ?_, fun g hg => State.die_modDie_ne _ _ _ _ hg, rfl⟩
    · rw [State.die_modDie_same]
      exact smFind_smErase_same _ _
    · rw [State.die_modDie_same]
      exact smFind_smErase_ne _ _ _ hm
  case hot =>
    obtain ⟨hself, hothers⟩ := thermalOff_spec n.val s
    refine ⟨?_, outDriven_of_forced ?_, ?_, hothers, rfl⟩
    · rw [hself, thermalOut, satN]
    · simp [outForced, hself, thermalOut]
    · simp [outCause, hself, thermalOut]
  case cooled => exact ⟨outSt_modOut_same _ _ _, fun m hm => outSt_modOut_ne hm _ _, rfl⟩
  case rejected =>
    rw [outClrOp_eq, if_pos ((clear_names_iff v s).mpr hnames)]
    refine ⟨State.flag_ev_self (by decide) (by decide) _, onlyRegs_of_changesOnly ?_⟩
    exact (changesOnly_keepVal_dropGuard (by simp) 7 v s).trans (changesOnly_ev (by simp) _)
  case clear =>
    have hnone : ¬ (List.range 32).any (fun n => bitOf v n && (safeOut s n || causePersists s n)) = true := fun h => by
      obtain ⟨n, hn, hbit, hwhy⟩ := (clear_names_iff v s).mp h
      obtain ⟨hsafe, hcause⟩ := hfree n hn hbit
      rw [hsafe, hcause] at hwhy
      simp at hwhy
    rw [outClrOp_eq, if_neg hnone]
    have honly := changesOnly_keepVal_dropGuard (P := (· ∈ [Reg.FIO_OUT_CLR])) (a := Reg.FIO_OUT_CLR) (by simp) 7 v s
    exact ⟨rfl, fun a ha => (State.reg_of_bus_eq rfl a).trans (honly.1 a ha), by rw [honly.2.2]⟩
  case start => simp [hsafe, hdriven, huv, hdiag]
  case started =>
    refine ⟨?_, State.die_modDie_same _ _ _, fun g hg => State.die_modDie_ne _ _ _ _ hg, rfl⟩
    rw [outOn, State.die_modDie_same]
    simp
  case quiet =>
    have hquiet : ∀ b, b < 8 → 8 * (n.val / 8) + b ≠ n.val → (s.die (n.val / 8)).rb.testBit b = true → rb.testBit b = true := fun b hb hne hwas => by
      rw [hrb b hb, hwas, Bool.true_and, Bool.not_eq_true', decide_eq_false_iff_not]
      omega
    have hlow : rb.testBit (n.val % 8) = false := by rw [hrb _ (by omega)]; simp
    rw [offPulseEnd_of_quiet hawake hoff hquiet, hlow, Bool.false_and, if_neg (by decide)]
    have honly := onlyRegs_safRefresh (pulseEnded (n.val / 8) rb s)
    refine ⟨?_, (mode_safRefresh _).trans rfl, (RegsBut.refl _ s).trans honly.1⟩
    rw [die_safRefresh, pulseEnded, State.die_modDie_same]
  case stuck =>
    have hself : (outSt (pulseEnded (n.val / 8) rb s) n.val).stuck = 0 := by
      rw [outSt, pulseEnded, State.die_modDie_same]
      exact hstuck
    rw [offPulseEnd_of_quiet hawake hoff (fun b hb _ hwas => hrb b hb hwas), hhigh, hself, if_pos (by decide)]
    obtain ⟨hst, hdriven, hflag, hlocked⟩ := stuckOn_spec (s := pulseEnded (n.val / 8) rb s) (n := n.val) hawake hmode
    generalize outFault n.val 4 0 (pulseEnded (n.val / 8) rb s) = t at *
    have honly := onlyRegs_safRefresh t
    have hst' : (outSt (safRefresh t) n.val).stuck = 4 := by rw [outSt_of_die_eq (die_safRefresh t _), hst]
    refine ⟨hst', outDriven_of_forced (by simp [outForced, hst']), ?_, hlocked.of_onlyRegs honly⟩
    rw [flag_of_reg_eq (honly.1 _ (by decide))]
    exact hflag
  case lplus =>
    refine ⟨?_, fun h => ?_, fun h => ?_, fun h1 h2 => ?_, fun h => ?_, fun h => ?_, fun h => ?_, fun h => ?_,
      fun h hh => State.die_modDie_ne _ _ _ _ hh, rfl⟩
    all_goals rw [lplusMeasure, State.die_modDie_same]
    · rfl
    · exact if_pos h
    · exact (if_neg (by omega)).trans (if_pos h)
    · exact (if_neg (by omega)).trans (if_neg (by omega))
    · exact if_neg (by omega)
    · exact if_pos h
    · exact if_neg (by omega)
    · exact if_pos h
  case uv =>
    obtain hg | hg := Nat.lt_or_ge g.val 4
    · obtain ⟨was, hset⟩ := uvSet_of_group hg hlow hdue hclear
      obtain ⟨hc2, ⟨l, hdie⟩, hothers, hframe⟩ := uvOuts_spec g.val (s.modDie g.val (uvTaken was))
      refine ⟨_, congrArg Host.Outcome.next hset, ?_, fun _ b hb => ⟨hc2 b hb, outOn_of_forced (by simp [outForced, hc2 b hb])⟩,
        fun h4 => by omega, fun h hh => (hothers h hh).trans (State.die_modDie_ne _ _ _ _ hh), ?_⟩
      · rw [hdie, State.die_modDie_same]
        rfl
      · generalize uvOuts g.val (s.modDie g.val (uvTaken was)) = t at *
        rw [hframe]
        rfl
    · obtain rfl : g = 4 := Fin.ext (by omega)
      obtain ⟨huv, hA, hB, hothers, hframe⟩ := uvLines_spec s
      exact ⟨_, congrArg Host.Outcome.next (uvSet_of_lines hlow hdue hclear), huv, fun hlt => absurd hlt (by decide), fun _ => ⟨hA, hB⟩,
        hothers, hframe⟩
  case uvClear =>
    split
    next hg =>
      obtain ⟨hc2, huv', hothers, hframe⟩ := uvBack_spec g.val (s.modDie g.val (fun x => { x with uv := false }))
      refine ⟨?_, fun _ b hb => ?_, fun h hh => (hothers h hh).trans (State.die_modDie_ne _ _ _ _ hh), ?_⟩
      · rw [huv', State.die_modDie_same]
      · rw [hc2 b hb]
        congr 1
        · rw [outSt, outIndex_div hb, State.die_modDie_same, outSt, outIndex_div hb]
        · rw [restarts, outIndex_div hb, State.die_modDie_same, restarts, outIndex_div hb]
          rfl
      · generalize uvBack g.val (s.modDie g.val (fun x => { x with uv := false })) = t at *
        rw [hframe]
        rfl
    next hg =>
      refine ⟨?_, fun h4 => absurd h4 hg, fun h hh => State.die_modDie_ne _ _ _ _ hh, rfl⟩
      rw [State.die_modDie_same]

end Sys2Proof.Machine
end

section
/-!
PROOF. The refresh of the field dies and the STO lines (14 R435 to R437, R440, R462 to R465).
-/

namespace Sys2Proof.Machine

open Sys2Proof

/-! ### What a grid instant leaves of the permissions (R436, R511)

A grid instant counts the instants since a tap's last reply, takes the line commands and works on the field side: none of it is read by
the demands and permissions. -/

/-- The state with the work of a grid instant in it. -/
def worked (fio : Fio) (taps : List (Nat × Tap)) (a : List (Nat × Nat)) (b : Nat) (s : State) : State :=
  { s with fio := fio, saf := { s.saf with taps := taps, aOn := a, bOn := b } }

section
variable {fio : Fio} {taps : List (Nat × Tap)} {a : List (Nat × Nat)} {b : Nat} {s : State}
  (htaps : ∀ path g, ∃ k, tapOf (worked fio taps a b s) path g = { tapOf s path g with since := k })

include htaps

theorem pathIn_worked : pathIn (worked fio taps a b s) = pathIn s := by
  funext path i
  obtain ⟨k, hk⟩ := htaps path (i / 24)
  rw [pathIn, pathIn, hk]
  rfl

theorem tapOut_worked (path g : Nat) : tapOut (tapOf (worked fio taps a b s) path g) = tapOut (tapOf s path g) := by
  obtain ⟨k, hk⟩ := htaps path g
  rw [hk]
  rfl

theorem pairDemand_worked : pairDemand (worked fio taps a b s) = pairDemand s := by
  funext path j p
  rw [pairDemand, pairDemand, pathIn_worked htaps]
  rfl

theorem funcPair_worked : funcPair (worked fio taps a b s) = funcPair s := by
  funext path n scope
  rw [funcPair, funcPair, pairDemand_worked htaps]
  rfl

theorem ilkClosed_worked : ilkClosed (worked fio taps a b s) = ilkClosed s := by
  funext path w
  rw [ilkClosed, ilkClosed, ilkContacts, ilkContacts, pathIn_worked htaps]
  rfl

theorem landingDemand_worked : landingDemand (worked fio taps a b s) = landingDemand s := by
  funext path
  have hbad : landingBad (worked fio taps a b s) = landingBad s := by
    funext path l tol
    rw [landingBad, landingBad, ilkClosed_worked htaps]
  rw [landingDemand, landingDemand, hbad]
  rfl

theorem silentDemand_worked : silentDemand (worked fio taps a b s) = silentDemand s := by
  funext path
  rw [silentDemand, silentDemand]
  simp only [tapOut_worked htaps]
  rfl

theorem doorDemand_worked : doorDemand (worked fio taps a b s) = doorDemand s := by
  rw [doorDemand, doorDemand, doorLocked, doorLocked, doorLocked, doorLocked, funcPair_worked htaps]
  rfl

theorem funcDemand_worked : funcDemand (worked fio taps a b s) = funcDemand s := by
  funext n
  unfold funcDemand
  rw [landingDemand_worked htaps, silentDemand_worked htaps, doorDemand_worked htaps, funcPair_worked htaps]
  rfl

theorem demandActive_worked : demandActive (worked fio taps a b s) = demandActive s := by
  have huv : ∀ path g, (tapOf (worked fio taps a b s) path g).uv = (tapOf s path g).uv := fun path g => by
    obtain ⟨k, hk⟩ := htaps path g
    rw [hk]
  rw [demandActive, demandActive, funcBits, funcBits, funcDemand_worked htaps, stoSupplyDemand, stoSupplyDemand, huv, huv]

theorem permits_worked : permits (worked fio taps a b s) = permits s := by
  funext n
  have hhold : ∀ path g, (tapOf (worked fio taps a b s) path g).hold = (tapOf s path g).hold := fun path g => by
    obtain ⟨k, hk⟩ := htaps path g
    rw [hk]
  have hbrake : brakePermit (worked fio taps a b s) = brakePermit s := by
    rw [brakePermit, brakePermit, demandActive_worked htaps]
    rfl
  rw [permits, permits, hhold, hhold, hbrake]
  rfl

end

/-- From `s` to `t` a grid instant's work was done, up to the frames. -/
def GridWork (s t : State) : Prop :=
  t = { s with fio := t.fio, saf := { s.saf with taps := t.saf.taps, aOn := t.saf.aOn, bOn := t.saf.bOn } } ∧
    ∀ path g, ∃ k, tapOf t path g = { tapOf s path g with since := k }

theorem GridWork.permits {s t : State} (h : GridWork s t) : permits t = permits s := by
  obtain ⟨hframe, htaps⟩ := h
  have hworked : t = worked t.fio t.saf.taps t.saf.aOn t.saf.bOn s := hframe
  rw [hworked] at htaps ⊢
  exact permits_worked htaps

namespace GridWork

theorem refl (s : State) : GridWork s s := ⟨rfl, fun _ _ => ⟨_, rfl⟩⟩

theorem trans {s t u : State} (hst : GridWork s t) (htu : GridWork t u) : GridWork s u := by
  obtain ⟨hframe, htaps⟩ := hst
  obtain ⟨hframe', htaps'⟩ := htu
  refine ⟨by rw [hframe', hframe], fun path g => ?_⟩
  obtain ⟨k, hk⟩ := htaps path g
  obtain ⟨k', hk'⟩ := htaps' path g
  exact ⟨k', by rw [hk', hk]⟩

/-- Work on the field side alone. -/
theorem of_fio {s : State} (fio : Fio) : GridWork s { s with fio := fio } := ⟨rfl, fun _ _ => ⟨_, rfl⟩⟩

theorem tick (path g : Nat) (s : State) : GridWork s (modTap path g (fun x => { x with since := x.since + 1 }) s) := by
  refine ⟨rfl, fun path' g' => ?_⟩
  have htap : tapOf (modTap path g (fun x => { x with since := x.since + 1 }) s) path' g' =
      if pk path' g' = pk path g then { tapOf s path' g' with since := (tapOf s path' g').since + 1 } else tapOf s path' g' := by
    rw [tapOf, modTap]
    split
    next h => rw [h, smGet_smMod_same Tap.init, tapOf, h]
    next h => exact smGet_smMod_ne Tap.init s.saf.taps (pk path g) (pk path' g') (fun x => { x with since := x.since + 1 }) h
  rw [htap]
  split
  · exact ⟨_, rfl⟩
  · exact ⟨_, rfl⟩

theorem tapsTick (s : State) : GridWork s (tapsTick s) :=
  State.forN_rel refl (fun _ _ _ => trans) (fun path _ t => State.forN_rel refl (fun _ _ _ => trans) (fun g _ u => tick path g u) t) s

theorem lines {s : State} (a : List (Nat × Nat)) (b : Nat) : GridWork s { s with saf := { s.saf with aOn := a, bOn := b } } :=
  ⟨rfl, fun _ _ => ⟨_, rfl⟩⟩

theorem lineCommands (s : State) : GridWork s (lineCommands s) := by
  have hport : ∀ p t, GridWork t (if wantLine t 0 p then
      if (smFind t.saf.aOn p).isSome then t else { t with saf := { t.saf with aOn := smPut t.saf.aOn p t.tb.tick } }
    else { t with saf := { t.saf with aOn := smErase t.saf.aOn p } }) := fun p t => by
    split_ifs
    · exact refl t
    · exact lines _ _
    · exact lines _ _
  exact (State.forN_rel refl (fun _ _ _ => trans) (fun p _ t => hport p t) s).trans (lines _ _)

end GridWork

/-! ### A grid instant up to the frames -/

/-- What a grid instant does before it sends. -/
def gridWork (s : State) : State := lineCommands (tapsTick (noteCommands (s.forN 4 dieLatch)))

/-- A die latched. -/
def latched (d : Die) : Die := { d with lat := d.inputs, latEdges := d.latEdges ++ d.edges, edges := [], latCnt := d.cnt }

theorem die_latchAll {g : Nat} (hg : g < 4) (s : State) : (s.forN 4 dieLatch).die g = latched (s.die g) := by
  obtain ⟨u, hu, hturn⟩ := State.forN_turn (read := fun t => t.die g) (f := dieLatch) hg
    (fun j _ hj t => State.die_modDie_ne _ _ _ _ (Ne.symm hj)) s
  refine hturn.trans ?_
  rw [dieLatch, State.die_modDie_same, hu]
  rfl

/-- What the work before the frames leaves of the field side. -/
def BeforeFrames (s t : State) : Prop := t.fio = { s.fio with dies := t.fio.dies, cmdPrev := t.fio.cmdPrev }

theorem BeforeFrames.trans {s t u : State} (hst : BeforeFrames s t) (htu : BeforeFrames t u) : BeforeFrames s u := by
  rw [BeforeFrames] at *
  rw [htu, hst]

theorem fio_tapsTick (s : State) : (tapsTick s).fio = s.fio :=
  State.read_forN (read := State.fio) (fun path _ t => State.read_forN (read := State.fio)
    (f := fun g => modTap path g (fun x => { x with since := x.since + 1 })) (fun _ _ _ => rfl) t) s

theorem fio_lineCommands (s : State) : (lineCommands s).fio = s.fio := by
  refine State.read_forN (read := State.fio) (fun p _ t => ?_) s
  split_ifs
  · rfl
  · rfl
  · rfl

theorem gridWork_spec (s : State) : GridWork s (gridWork s) ∧ BeforeFrames s (gridWork s) ∧
    ∀ g, g < 4 → (gridWork s).die g = latched (s.die g) := by
  have hlatch : GridWork s (s.forN 4 dieLatch) :=
    State.forN_rel (f := dieLatch) .refl (fun _ _ _ => .trans) (fun _ _ _ => .of_fio _) s
  have hbefore : BeforeFrames s (s.forN 4 dieLatch) :=
    State.forN_rel (R := BeforeFrames) (f := dieLatch) (fun _ => rfl) (fun _ _ _ => .trans) (fun _ _ _ => rfl) s
  have hnote : GridWork (s.forN 4 dieLatch) (noteCommands (s.forN 4 dieLatch)) := .of_fio _
  have hdies : ∀ g, g < 4 → (s.forN 4 dieLatch).die g = latched (s.die g) := fun g hg => die_latchAll hg s
  have hfio : (gridWork s).fio = (noteCommands (s.forN 4 dieLatch)).fio := (fio_lineCommands _).trans (fio_tapsTick _)
  refine ⟨((hlatch.trans hnote).trans (.tapsTick _)).trans (.lineCommands _), ?_, fun g hg => ?_⟩
  · rw [BeforeFrames, hfio]
    exact hbefore.trans rfl
  · rw [die_of_fio_eq hfio, ← hdies g hg]
    rw [State.die, State.die]
    rfl

/-! ### The frames -/

theorem sent_sendFrame_same (l : Nat) (f : FieldFrame) (s : State) : smFind (sendFrame l f s).fio.sent l = some f := smFind_smPut_same _ _ _

theorem sent_sendFrame_ne {l k : Nat} (h : k ≠ l) (f : FieldFrame) (s : State) : smFind (sendFrame l f s).fio.sent k = smFind s.fio.sent k :=
  smFind_smPut_ne _ _ _ _ h

/-- What sending frames leaves. -/
def Framed (s t : State) : Prop := t = { s with fio := { s.fio with sent := t.fio.sent, seq := t.fio.seq } }

theorem Framed.trans {s t u : State} (hst : Framed s t) (htu : Framed t u) : Framed s u := by
  rw [Framed] at *
  rw [htu, hst]

theorem framed_sendFrame (l : Nat) (f : FieldFrame) (s : State) : Framed s (sendFrame l f s) := rfl

/-- The frame last sent on a link, with its count. -/
def sentRead (l : Nat) (s : State) : Option FieldFrame × Nat := (smFind s.fio.sent l, smGet 0 s.fio.seq l)

theorem sentRead_sendFrame_ne {l k : Nat} (h : k ≠ l) (f : FieldFrame) (s : State) : sentRead k (sendFrame l f s) = sentRead k s :=
  Prod.ext (sent_sendFrame_ne h f s) (smGet_smSet_ne _ _ _ _ _ _ h)

/-- The groups' frames, one after another. -/
def groupsSent (s : State) : State := s.forN 4 (fun g w => sendFrame g (refreshFrame w g) w)

theorem groupsSent_spec {g : Nat} (hg : g < 4) (s : State) : ∃ w, Framed s w ∧ smGet 0 w.fio.seq g = smGet 0 s.fio.seq g ∧
    smFind (groupsSent s).fio.sent g = some (refreshFrame w g) := by
  obtain ⟨w, hsw, hread, hturn, -⟩ := State.forN_turn_rel (R := Framed) (fun _ => rfl) (fun _ _ _ => .trans) (read := sentRead g) (n := 4)
    (f := fun g w => sendFrame g (refreshFrame w g) w) hg (fun j _ t => framed_sendFrame j _ t)
    (fun j _ hj t => sentRead_sendFrame_ne (Ne.symm hj) _ t) s
  exact ⟨w, hsw, congrArg Prod.snd hread, (congrArg Prod.fst hturn).trans (sent_sendFrame_same _ _ _)⟩

/-- The links of FG4. -/
def linesSent (v : State) : State :=
  let w := if v.saf.coreDown then v else sendFrame 4 (lineFrame v 4 (linesA v)) v
  sendFrame 5 (lineFrame w 5 w.saf.bOn) w

theorem linesSent_spec (v : State) : Framed v (linesSent v) ∧ ∀ g, g < 4 → smFind (linesSent v).fio.sent g = smFind v.fio.sent g := by
  rw [linesSent]
  split
  · exact ⟨framed_sendFrame _ _ _, fun g hg => sent_sendFrame_ne (by omega) _ _⟩
  · exact ⟨(framed_sendFrame _ _ _).trans (framed_sendFrame _ _ _),
      fun g hg => (sent_sendFrame_ne (by omega) _ _).trans (sent_sendFrame_ne (by omega) _ _)⟩

theorem fieldRefresh_eq {s : State} (hawake : s.awake = true) : fieldRefresh s =
    { linesSent (groupsSent (gridWork s)) with fio := { (linesSent (groupsSent (gridWork s))).fio with pulses := [], clr := 0 } } := by
  rw [fieldRefresh, if_pos hawake]
  rfl

theorem refreshFrame_of_plain {s : State} {g : Nat} (hchg : s.nv.lc.chgOut = none) (hfenced : s.nv.lc.fenced = false) :
    refreshFrame s g = groupFrame s g (permWord s g) (!s.saf.coreDown) := by
  rw [refreshFrame, hchg]
  simp [hfenced]

theorem buzzers_of_not_car {s : State} (h : isCar s = false) : buzzers s = 0 := by rw [buzzers, h, if_neg (by decide)]

/-- The EDGE codes in a frame. -/
theorem edgeField (e : Nat → Nat) (he : ∀ b, e b < 4) {b : Nat} (hb : b < 4) :
    (List.range 4).foldl (fun m f => m + e f * 4 ^ f) 0 / 4 ^ b % 4 = e b := by
  have h0 := he 0
  have h1 := he 1
  have h2 := he 2
  have h3 := he 3
  change (0 + e 0 * 1 + e 1 * 4 + e 2 * 16 + e 3 * 64) / 4 ^ b % 4 = e b
  obtain rfl | rfl | rfl | rfl : b = 0 ∨ b = 1 ∨ b = 2 ∨ b = 3 := by omega
  all_goals omega

theorem groupFrame_spec {s w : State} (hwork : GridWork s w) (hcar : isCar s = false) (g : Nat) (ok : Bool) :
    (∀ b, b < 8 → (groupFrame w g (permWord w g) ok).req.testBit b = s.bit F.FIO_OUT_REQ.REQ (8 * g + b) ∧
      (groupFrame w g (permWord w g) ok).perm.testBit b = permits s (8 * g + b)) ∧
    (groupFrame w g (permWord w g) ok).tmo = s.get (F.FIO_GRP_CFG.TIMEOUT g) ∧ (groupFrame w g (permWord w g) ok).now = s.nowNs ∧
    (∀ b, b < 4 → (groupFrame w g (permWord w g) ok).edge / 4 ^ b % 4 = s.get (F.FIO_FIN_CFG.EDGE (4 * g + b))) := by
  have hframe := hwork.1
  have hpermits := hwork.permits
  have hget : ∀ f, w.get f = s.get f := State.get_of_bus_eq (by rw [hframe])
  have hcar' : isCar w = false := by rw [isCar, hframe]; exact hcar
  refine ⟨fun b hb => ⟨?_, ?_⟩, hget _, State.nowNs_of_tb_eq (by rw [hframe]), fun b hb => ?_⟩
  · change (outRequests w / 2 ^ (8 * g) % 256).testBit b = _
    rw [outRequests, buzzers_of_not_car hcar', hget, show (256 : Nat) = 2 ^ 8 from rfl, Nat.testBit_mod_two_pow, Nat.testBit_div_two_pow,
      decide_eq_true hb, Bool.true_and, State.bit, Nat.add_comm b]
    exact congrArg (fun n => Nat.testBit n _) (Nat.or_zero _)
  · change (permWord w g).testBit b = _
    rw [permWord, testBit_mapBits _ _ hb, hpermits]
  · change (List.range 4).foldl (fun m f => m + w.get (F.FIO_FIN_CFG.EDGE (4 * g + f)) * 4 ^ f) 0 / 4 ^ b % 4 = _
    rw [edgeField _ (fun b => w.get_lt _) hb, hget]

theorem Framed.gridWork {s t : State} (h : Framed s t) : GridWork s t := by
  rw [Framed] at h
  rw [h]
  exact .of_fio _

theorem Framed.die {s t : State} (h : Framed s t) (g : Nat) : t.die g = s.die g := by
  have hdies : t.fio.dies = s.fio.dies := by rw [h]
  rw [State.die, State.die, hdies]

theorem smGet_seq_gridWork (s : State) (g : Nat) : smGet 0 (gridWork s).fio.seq g = smGet 0 s.fio.seq g := by
  have hbefore : BeforeFrames s (gridWork s) := (gridWork_spec s).2.1
  rw [hbefore]

/-- The frame of a group at a grid instant, made on a state that differs from the one before the instant by its work alone. -/
theorem frame_fieldRefresh {s : State} (hawake : s.awake = true) (hchg : s.nv.lc.chgOut = none) (hfenced : s.nv.lc.fenced = false) {g : Nat}
    (hg : g < 4) : ∃ w, GridWork s w ∧ smGet 0 w.fio.seq g = smGet 0 s.fio.seq g ∧
      smFind (fieldRefresh s).fio.sent g = some (groupFrame w g (permWord w g) (!w.saf.coreDown)) := by
  obtain ⟨hwork, -, -⟩ := gridWork_spec s
  obtain ⟨w, hframed, hseq, hsent⟩ := groupsSent_spec hg (gridWork s)
  have hw : GridWork s w := hwork.trans hframed.gridWork
  have hlc : w.nv = s.nv := by rw [hw.1]
  refine ⟨w, hw, hseq.trans (smGet_seq_gridWork s g), ?_⟩
  rw [fieldRefresh_eq hawake, ← refreshFrame_of_plain (by rw [hlc, hchg]) (by rw [hlc, hfenced]), ← hsent]
  exact (linesSent_spec _).2 g hg

theorem framed_groupsSent (s : State) : Framed s (groupsSent s) :=
  State.forN_rel (R := Framed) (f := fun g w => sendFrame g (refreshFrame w g) w) (fun _ => rfl) (fun _ _ _ => .trans)
    (fun _ _ _ => framed_sendFrame _ _ _) s

theorem framed_fieldRefresh {s : State} : Framed (gridWork s) (linesSent (groupsSent (gridWork s))) :=
  (framed_groupsSent _).trans (linesSent_spec _).1

theorem die_fieldRefresh {s : State} (hawake : s.awake = true) {g : Nat} (hg : g < 4) : (fieldRefresh s).die g = latched (s.die g) := by
  rw [fieldRefresh_eq hawake, ← (gridWork_spec s).2.2 g hg, ← framed_fieldRefresh.die g, State.die, State.die]

theorem bus_fieldRefresh {s : State} (hawake : s.awake = true) : (fieldRefresh s).bus = s.bus := by
  have hwork := ((gridWork_spec s).1.trans framed_fieldRefresh.gridWork).1
  rw [fieldRefresh_eq hawake]
  have hbus := congrArg State.bus hwork
  exact hbus

/-! ### Frames at the dies -/

theorem groupFrameIn_of_follows {s : State} {g : Nat} {f : FieldFrame} (hsent : smFind s.fio.sent g = some f) (hperm : f.permOk = true)
    (hfollows : countFollows (s.die g).ref f.seq = true) : groupFrameIn g true s = dieAccept g f s := by
  rw [groupFrameIn, hsent]
  simp [hperm, hfollows]

theorem groupFrameIn_of_not_follows {s : State} {g : Nat} {f : FieldFrame} (hsent : smFind s.fio.sent g = some f) (hperm : f.permOk = true)
    (hfollows : countFollows (s.die g).ref f.seq = false) : groupFrameIn g true s = s.modDie g (fun d => { d with ref := some f.seq }) := by
  rw [groupFrameIn, hsent]
  simp [hperm, hfollows]

theorem groupFrameIn_bad (s : State) (g : Nat) : groupFrameIn g false s = s := by
  rw [groupFrameIn]
  cases smFind s.fio.sent g with
  | none => rfl
  | some f => rfl

/-- What the end of causes leaves: only the outputs' state of die g. -/
def OnlyOuts (g : Nat) (s t : State) : Prop :=
  t = { s with fio := { s.fio with dies := t.fio.dies } } ∧ (∃ l, t.die g = { s.die g with outs := l }) ∧ ∀ h, h ≠ g → t.die h = s.die h

theorem OnlyOuts.trans {g : Nat} {s t u : State} (hst : OnlyOuts g s t) (htu : OnlyOuts g t u) : OnlyOuts g s u := by
  obtain ⟨hframe, ⟨l, hdie⟩, hothers⟩ := hst
  obtain ⟨hframe', ⟨l', hdie'⟩, hothers'⟩ := htu
  exact ⟨by rw [hframe', hframe], ⟨l', by rw [hdie', hdie]⟩, fun h hh => (hothers' h hh).trans (hothers h hh)⟩

theorem onlyOuts_refl (g : Nat) (s : State) : OnlyOuts g s s := ⟨rfl, ⟨_, rfl⟩, fun _ _ => rfl⟩

theorem onlyOuts_modOut {g b : Nat} (hb : b < 8) (f : OutSt → OutSt) (s : State) : OnlyOuts g s (modOut (8 * g + b) f s) := by
  have hg : (8 * g + b) / 8 = g := by omega
  exact ⟨rfl, die_modOut _ _ _ _, fun h hh => die_modOut_ne (by rw [hg]; exact hh) _ _⟩

theorem onlyOuts_dieClear (g clr : Nat) (s : State) : OnlyOuts g s (dieClear g clr s) := by
  refine State.forN_rel (onlyOuts_refl g) (fun _ _ _ => .trans) (fun b hb t => ?_) s
  split
  · exact onlyOuts_modOut hb _ _
  · exact onlyOuts_refl g t

/-- A die with a frame accepted, before the clears of it. -/
def frameTaken (f : FieldFrame) (tick : Nat) (d : Die) : Die :=
  { d with
    ref := some f.seq
    vseq := some f.seq
    heard := tick
    silAct := d.silent
    silent := false
    tmo := f.tmo
    pat := f.pat
    restart := f.restart
    edge := f.edge
    filt := f.filt
    req := f.req
    perm := f.perm
    pulses := f.pulses.foldl (fun l p => smPut l p.1 (tick + p.2)) d.pulses }

theorem dieAccept_eq (g : Nat) (f : FieldFrame) (s : State) : dieAccept g f s =
    dieClear g (Nat.lor f.clr (restartBits g (s.modDie g (frameTaken f s.tb.tick)))) (s.modDie g (frameTaken f s.tb.tick)) := rfl

theorem dieAccept_spec (g : Nat) (f : FieldFrame) (s : State) :
    dieAccept g f s = { s with fio := { s.fio with dies := (dieAccept g f s).fio.dies } } ∧
    (∃ l, (dieAccept g f s).die g = { frameTaken f s.tb.tick (s.die g) with outs := l }) ∧
    ∀ h, h ≠ g → (dieAccept g f s).die h = s.die h := by
  rw [dieAccept_eq]
  obtain ⟨hframe, ⟨l, hdie⟩, hothers⟩ := onlyOuts_dieClear g
    (Nat.lor f.clr (restartBits g (s.modDie g (frameTaken f s.tb.tick)))) (s.modDie g (frameTaken f s.tb.tick))
  rw [State.die_modDie_same] at hdie
  exact ⟨hframe, ⟨l, hdie⟩, fun h hh => (hothers h hh).trans (State.die_modDie_ne _ _ _ _ hh)⟩

theorem lineFrameIn_of_none {s : State} {l : Nat} {f : FieldFrame} (hsent : smFind s.fio.sent l = some f) (href : (s.stoLink l).ref = none) :
    lineFrameIn l true s = s.modStoLink l (fun _ => ⟨some f.seq, s.tb.tick, if (s.die 4).uv then 0 else f.lines⟩) := by
  rw [lineFrameIn, hsent]
  simp [href, countFollows]

/-! ### The statement -/

theorem fieldRefresh_clause {s : State} (hawake : s.awake = true) (hcar : isCar s = false) (hchg : s.nv.lc.chgOut = none)
    (hfenced : s.nv.lc.fenced = false) : Completes .fieldRefresh s (fun t =>
    (∀ g, g < 4 → (t.die g).lat = (s.die g).inputs ∧ (t.die g).edges = [] ∧ (t.die g).latEdges = (s.die g).latEdges ++ (s.die g).edges ∧
      ∃ f, smFind t.fio.sent g = some f ∧ f.seq = (smGet 0 s.fio.seq g + 1) % 256 ∧
        (∀ b, b < 8 → f.req.testBit b = s.bit F.FIO_OUT_REQ.REQ (8 * g + b) ∧ f.perm.testBit b = permits s (8 * g + b)) ∧
        f.tmo = s.get (F.FIO_GRP_CFG.TIMEOUT g) ∧ f.now = s.nowNs ∧
        (∀ b, b < 4 → f.edge / 4 ^ b % 4 = s.get (F.FIO_FIN_CFG.EDGE (4 * g + b)))) ∧
    t.fio.clr = 0 ∧ t.fio.pulses = [] ∧ t.bus = s.bus) := by
  refine ⟨_, rfl, fun g hg => ?_, ?_, ?_, bus_fieldRefresh hawake⟩
  · obtain ⟨w, hwork, hseq, hsent⟩ := frame_fieldRefresh hawake hchg hfenced hg
    rw [die_fieldRefresh hawake hg]
    exact ⟨rfl, rfl, rfl, _, hsent, by rw [groupFrame, hseq], groupFrame_spec hwork hcar g _⟩
  · rw [fieldRefresh_eq hawake]
  · rw [fieldRefresh_eq hawake]

theorem dieFrame_clause {s : State} {g : Fin 6} {f : FieldFrame} (hg : g.val < 4) (hsent : smFind s.fio.sent g.val = some f)
    (hperm : f.permOk = true) :
    (((s.die g.val).ref = none ∨ ∃ r, (s.die g.val).ref = some r ∧ f.seq = (r + 1) % 256) →
      Completes (.dieFrameReceived g true) s (fun t => (t.die g.val).ref = some f.seq ∧ (t.die g.val).heard = s.tb.tick ∧
        (t.die g.val).silent = false ∧ (t.die g.val).req = f.req ∧ (t.die g.val).perm = f.perm ∧ (t.die g.val).tmo = f.tmo ∧
        (t.die g.val).pat = f.pat ∧ (t.die g.val).edge = f.edge ∧ (t.die g.val).filt = f.filt ∧ (∀ h, h ≠ g.val → t.die h = s.die h) ∧ t = { s with fio := { s.fio with dies := t.fio.dies } })) ∧
    ((∃ r, (s.die g.val).ref = some r ∧ f.seq ≠ (r + 1) % 256) → Completes (.dieFrameReceived g true) s (fun t =>
      t.die g.val = { s.die g.val with ref := some f.seq } ∧ t = { s with fio := { s.fio with dies := t.fio.dies } })) ∧
    Completes (.dieFrameReceived g false) s (fun t => t = s) := by
  have hexec : ∀ ok, exec (.dieFrameReceived g ok) s = .next (groupFrameIn g.val ok s) := fun ok => by
    change execDieFrameReceived g ok s = _
    rw [execDieFrameReceived, if_pos hg]
  refine ⟨fun hfollows => ?_, fun ⟨r, href, hne⟩ => ?_, ⟨_, hexec false, groupFrameIn_bad s g.val⟩⟩
  · have hcount : countFollows (s.die g.val).ref f.seq = true := by
      obtain href | ⟨r, href, hseq⟩ := hfollows
      · rw [href, countFollows]
      · rw [href, countFollows, hseq, beq_self_eq_true]
    refine ⟨_, hexec true, ?_⟩
    rw [groupFrameIn_of_follows hsent hperm hcount]
    obtain ⟨hframe, ⟨l, hdie⟩, hothers⟩ := dieAccept_spec g.val f s
    rw [hdie]
    exact ⟨rfl, rfl, rfl, rfl, rfl, rfl, rfl, rfl, rfl, hothers, hframe⟩
  · have hcount : countFollows (s.die g.val).ref f.seq = false := by
      rw [href, countFollows, beq_eq_false_iff_ne]
      exact hne
    refine ⟨_, hexec true, ?_⟩
    rw [groupFrameIn_of_not_follows hsent hperm hcount]
    exact ⟨State.die_modDie_same _ _ _, rfl⟩

theorem lineFrame_clause {s : State} {l : Fin 6} {f : FieldFrame} (hl : 4 ≤ l.val) (hsent : smFind s.fio.sent l.val = some f)
    (href : (s.stoLink l.val).ref = none) : Completes (.dieFrameReceived l true) s (fun t =>
      t.stoLink l.val = ⟨some f.seq, s.tb.tick, if (s.die 4).uv then 0 else f.lines⟩ ∧
      t = { s with fio := { s.fio with links := t.fio.links } }) := by
  refine ⟨lineFrameIn l.val true s, ?_, ?_⟩
  · change execDieFrameReceived l true s = _
    rw [execDieFrameReceived, if_neg (by omega)]
  · rw [lineFrameIn_of_none hsent href]
    exact ⟨stoLink_modStoLink_same _ _ _, rfl⟩

/-- A silent die drives none of its safety outputs (R440). -/
theorem outOn_of_silent {s : State} {n : Nat} (hsilent : (s.die (n / 8)).silent = true) (hsafe : safeOut s n = true) : outOn s n = false := by
  simp [outOn, outDriven, hsilent, hsafe]

theorem dieSilence_clause {s : State} {g : Fin 4} (hdue : (s.die g.val).heard + 125000 * (s.die g.val).tmo ≤ s.tb.tick) :
    Completes (.dieSilenceTimeout g) s (fun t =>
      t.die g.val = { s.die g.val with silent := true } ∧ (∀ b, b < 8 → safeOut s (8 * g.val + b) = true → outOn t (8 * g.val + b) = false) ∧
      (∀ h, h ≠ g.val → t.die h = s.die h) ∧ t = { s with fio := { s.fio with dies := t.fio.dies } }) := by
  refine ⟨_, rfl, ?_⟩
  rw [dieSilence, if_pos (by omega)]
  refine ⟨State.die_modDie_same _ _ _, fun b hb hsafe => outOn_of_silent ?_ hsafe, fun h hh => State.die_modDie_ne _ _ _ _ hh, rfl⟩
  rw [show (8 * g.val + b) / 8 = g.val by omega, State.die_modDie_same]

theorem stoTimeout_clause {s : State} {l : Fin 2} (hdue : (s.stoLink (4 + l.val)).heard +
      125000 * (if l.val = 0 then s.conf.sps.linkATo else s.conf.sps.linkBTo) ≤ s.tb.tick) :
    Completes (.stoLinkTimeout l) s (fun t => t.stoLink (4 + l.val) = { s.stoLink (4 + l.val) with lines := 0 } ∧
      t = { s with fio := { s.fio with links := t.fio.links } }) := by
  refine ⟨_, rfl, ?_⟩
  rw [stoTimeout, if_pos (by rw [Nat.mul_comm]; exact hdue)]
  exact ⟨stoLink_modStoLink_same _ _ _, rfl⟩

theorem awake_of_servoOn {s : State} (h : s.servoOn = true) : s.awake = true := by
  rw [State.servoOn, Bool.and_eq_true] at h
  obtain ⟨hrun, hservo⟩ := h
  rw [State.awake, hrun, Bool.true_and, bne_iff_ne]
  intro hdormant
  rw [hdormant] at hservo
  exact absurd hservo (by decide)

theorem stobEnergise_of_due {s : State} {p t0 : Nat} (hon : smFind s.saf.aOn p = some t0) (hservo : s.servoOn = true)
    (hdue : t0 + 125000 ≤ s.tb.tick) (hoff : s.saf.bOn.testBit p = false) (hwant : wantLine s 1 p = true) : stobEnergise p s =
    if (tapOf s 0 4).rb.testBit (2 * p + 1) || (tapOf s 1 4).rb.testBit (2 * p + 1) || lineBSeen s p then safFault 3 10 (2 * p + 1) s
    else { s with saf := { s.saf with bOn := setBitN s.saf.bOn p true } } := by
  rw [stobEnergise, hon]
  simp [hservo, hdue, hoff, hwant]

theorem stobEnergise_clause {s : State} {p : Fin 8} {t0 : Nat} (hon : smFind s.saf.aOn p.val = some t0) (hservo : s.servoOn = true)
    (hdue : t0 + 125000 ≤ s.tb.tick) (hoff : s.saf.bOn.testBit p.val = false) (hwant : wantLine s 1 p.val = true) :
    ((tapOf s 0 4).rb.testBit (2 * p.val + 1) = false → (tapOf s 1 4).rb.testBit (2 * p.val + 1) = false → lineBSeen s p.val = false → Completes (.stobEnergise p) s (fun t =>
      t.saf.bOn.testBit p.val = true ∧ (∀ q, q ≠ p.val → t.saf.bOn.testBit q = s.saf.bOn.testBit q) ∧
      t = { s with saf := { s.saf with bOn := t.saf.bOn } })) ∧
    ((tapOf s 0 4).rb.testBit (2 * p.val + 1) = true ∨ (tapOf s 1 4).rb.testBit (2 * p.val + 1) = true → s.mode ≠ .lockout → Completes (.stobEnergise p) s LockedOut) := by
  refine ⟨fun ha hb hseen => ⟨_, rfl, ?_⟩, fun hhigh hmode => ⟨_, rfl, ?_⟩⟩
  · rw [stobEnergise_of_due hon hservo hdue hoff hwant, ha, hb, hseen, Bool.or_false, Bool.or_false, if_neg (by decide)]
    exact ⟨by rw [testBit_setBitN, if_pos rfl], fun q hq => by rw [testBit_setBitN, if_neg hq], rfl⟩
  · have hread : ((tapOf s 0 4).rb.testBit (2 * p.val + 1) || (tapOf s 1 4).rb.testBit (2 * p.val + 1) || lineBSeen s p.val) = true := by
      obtain h | h := hhigh
      · rw [h, Bool.true_or, Bool.true_or]
      · rw [h, Bool.or_true, Bool.true_or]
    rw [stobEnergise_of_due hon hservo hdue hoff hwant, if_pos hread]
    exact lockedOut_safFault _ _ _ (awake_of_servoOn hservo) hmode

/-- Settles O44: the work of a grid instant before the frames leaves what the permissions read, a frame that is accepted changes its die
and nothing else, and STOpB follows STOpA unless a tap reads it high. -/
theorem fieldFramesAndSilence : Obligations.FieldFramesAndSilence :=
  ⟨fun _ => fieldRefresh_clause, fun _ _ _ => dieFrame_clause, fun _ _ _ => lineFrame_clause, fun _ _ => dieSilence_clause,
    fun _ _ => stoTimeout_clause, fun _ _ _ => stobEnergise_clause⟩

end Sys2Proof.Machine
end

section
/-!
PROOF. What a field reply shows at the logic side and on the safety taps (14 R438, R439; 16 R492).
-/

namespace Sys2Proof.Machine

open Sys2Proof

/-! ### What the safety paths leave of the field side -/

/-- From `s` to `t` a path's work on a reply was done: of the FIO registers only the event register, and of the dies neither the
latched inputs nor the latched edges, are touched. -/
structure ReplyWork (s t : State) : Prop where
  regs : ∀ a, ¬ FaultReg a → a ≠ Reg.FIO_EVENT → t.reg a = s.reg a
  bad : t.fio.bad = s.fio.bad
  sent : t.fio.sent = s.fio.sent
  lat : ∀ g, (t.die g).lat = (s.die g).lat

/-- The same with every tap as it was, and the core halted or not as it was. -/
def TapWork (s t : State) : Prop := ReplyWork s t ∧ t.saf.taps = s.saf.taps ∧ t.saf.coreDown = s.saf.coreDown

namespace ReplyWork

theorem refl (s : State) : ReplyWork s s := ⟨fun _ _ _ => rfl, rfl, rfl, fun _ => rfl⟩

theorem trans {s t u : State} (hst : ReplyWork s t) (htu : ReplyWork t u) : ReplyWork s u where
  regs a ha hne := (htu.regs a ha hne).trans (hst.regs a ha hne)
  bad := htu.bad.trans hst.bad
  sent := htu.sent.trans hst.sent
  lat g := (htu.lat g).trans (hst.lat g)

theorem of_saf (s : State) (x : Saf) : ReplyWork s { s with saf := x } := ⟨fun _ _ _ => rfl, rfl, rfl, fun _ => rfl⟩

end ReplyWork

namespace TapWork

theorem refl (s : State) : TapWork s s := ⟨.refl s, rfl, rfl⟩

theorem trans {s t u : State} (hst : TapWork s t) (htu : TapWork t u) : TapWork s u :=
  ⟨hst.1.trans htu.1, htu.2.1.trans hst.2.1, htu.2.2.trans hst.2.2⟩

theorem of_saf (s : State) {x : Saf} (h : x.taps = s.saf.taps) (hdown : x.coreDown = s.saf.coreDown) :
    TapWork s { s with saf := x } := ⟨.of_saf s x, h, hdown⟩

theorem of_faultKept {s t : State} (h : FaultKept s t) : TapWork s t := by
  have htaps : t.saf.taps = s.saf.taps ∧ t.saf.coreDown = s.saf.coreDown := by
    have hsaf := h.saf
    rw [FaultSaf] at hsaf
    rw [hsaf]
    exact ⟨rfl, rfl⟩
  exact ⟨⟨fun a ha _ => h.regs a ha, by rw [h.fio], by rw [h.fio], fun g => by rw [die_of_fio_eq h.fio]⟩, htaps⟩

/-- A change of a die that leaves what it latched of its inputs. -/
theorem modDie {f : Die → Die} (hf : ∀ d, (f d).lat = d.lat) (n : Nat) (s : State) : TapWork s (s.modDie n f) := by
  refine ⟨⟨fun _ _ _ => rfl, rfl, rfl, fun g => ?_⟩, rfl, rfl⟩
  by_cases h : g = n
  · rw [h, State.die_modDie_same, hf]
  · rw [State.die_modDie_ne _ _ _ _ h]

theorem event {f : FRef} (hf : f.addr = Reg.FIO_EVENT) (s : State) : TapWork s (s.ev f) := by
  have hfio : (s.ev f).fio = s.fio := State.ev_fio s f
  have hsaf : (s.ev f).saf = s.saf := State.ev_saf s f
  refine ⟨⟨fun a _ hne => ?_, congrArg Fio.bad hfio, congrArg Fio.sent hfio, fun g => congrArg Die.lat (die_of_fio_eq hfio g)⟩,
    congrArg Saf.taps hsaf, congrArg Saf.coreDown hsaf⟩
  exact (changesOnly_ev (P := (· = Reg.FIO_EVENT)) hf s).1 a hne

theorem modOut (n : Nat) (f : OutSt → OutSt) (s : State) : TapWork s (modOut n f s) :=
  modDie (f := fun d => { d with outs := smMod OutSt.init d.outs (n % 8) f }) (fun _ => rfl) (n / 8) s

theorem outFault (n code partner : Nat) (s : State) : TapWork s (outFault n code partner s) := by
  rw [Machine.outFault]
  refine ((modOut n _ s).trans (event ?_ _)).trans (of_faultKept (faultKept_safFault _ _ _ _))
  split
  · rfl
  · rfl

theorem outCheck (n rb : Nat) (s : State) : TapWork s (outCheck n rb s) := by
  unfold Machine.outCheck
  dsimp only
  split_ifs
  · exact outFault _ _ _ s
  · exact outFault _ _ _ s
  · exact of_faultKept (faultKept_safFault _ _ _ s)
  · exact refl s
  · exact refl s

theorem uvLock (g : Nat) (was : Bool) (s : State) : TapWork s (uvLock g was s) := by
  rw [Machine.uvLock]
  split
  · exact of_faultKept (faultKept_safFault _ _ _ s)
  · exact refl s

theorem brakeTrack (path b : Nat) (s : State) : TapWork s (brakeTrack path b s) := by
  unfold Machine.brakeTrack
  split
  · exact refl s
  · dsimp only
    split_ifs
    · exact of_saf s rfl rfl
    · exact refl s
    · exact of_saf s rfl rfl

theorem brakesTrack (s : State) : TapWork s (brakesTrack s) :=
  State.forN_rel refl (fun _ _ _ => trans) (fun path _ t => State.forN_rel refl (fun _ _ _ => trans) (fun b _ u => brakeTrack path b u) t) s

theorem pairsFollow (s : State) : TapWork s (pairsFollow s) :=
  State.forL_rel refl (fun _ _ _ => trans)
    (fun q _ t => State.forN_rel refl (fun _ _ _ => trans)
      (f := fun path u => modPairSt path q.2 (pairNeed (pathIn u path q.1.a) (pathIn u path q.1.b)) u) (fun _ _ u => of_saf u rfl rfl) t) s

theorem rstFell (t : Nat) (s : State) : TapWork s (rstFell t s) := by
  rw [Machine.rstFell]
  split
  · exact of_saf s rfl rfl
  · exact refl s

theorem rstEdges (a b : Nat) (l : List (Nat × Bool × Nat)) (va vb : Bool) (s : State) : TapWork s (rstEdges a b l va vb s) := by
  induction l generalizing va vb s with
  | nil => exact refl s
  | cons e l ih =>
    have hturn : ∀ c d : Bool, TapWork s (if c then rstRose e.2.2 s else if d then Machine.rstFell e.2.2 s else s) := fun c d => by
      split_ifs
      · exact of_saf s rfl rfl
      · exact rstFell _ s
      · exact refl s
    exact trans (hturn _ _) (ih _ _ _)

theorem rstReply (edges : List (Nat × Bool × Nat)) (s : State) : TapWork s (rstReply edges s) := by
  unfold Machine.rstReply
  split
  · exact rstEdges _ _ _ _ _ s
  · exact refl s

theorem rstLevel (s : State) : TapWork s (rstLevel s) := by
  unfold Machine.rstLevel
  split
  · split
    · exact of_saf s rfl rfl
    · exact of_saf s rfl rfl
  · exact refl s

theorem keyCfLevel (s : State) : TapWork s (keyCfLevel s) := by
  unfold Machine.keyCfLevel
  split
  · split
    · exact of_saf s rfl rfl
    · exact refl s
  · exact refl s

end TapWork

/-! ### The taps -/

theorem tapOf_modTap_same (path g : Nat) (f : Tap → Tap) (s : State) : tapOf (modTap path g f s) path g = f (tapOf s path g) :=
  smGet_smMod_same Tap.init s.saf.taps (pk path g) f

theorem tapOf_modTap_ne {path path' g g' : Nat} (h : pk path' g' ≠ pk path g) (f : Tap → Tap) (s : State) :
    tapOf (modTap path g f s) path' g' = tapOf s path' g' := smGet_smMod_ne Tap.init s.saf.taps (pk path g) (pk path' g') f h

theorem tapOf_of_taps {s t : State} (h : t.saf.taps = s.saf.taps) : tapOf t = tapOf s := by
  funext path g
  rw [tapOf, h, tapOf]

/-- A tap's reply changes its tap alone. -/
theorem tapReply_frame (path g : Nat) (r : Option Nat) (rb : Nat) (s : State) :
    ∃ f, (tapReply path g r rb s).1 = modTap path g f s := by
  cases r with
  | none => exact ⟨_, rfl⟩
  | some c =>
    rw [tapReply]
    split
    · exact ⟨_, rfl⟩
    · exact ⟨_, rfl⟩

theorem replyWork_tapReply (path g : Nat) (r : Option Nat) (rb : Nat) (s : State) : ReplyWork s (tapReply path g r rb s).1 := by
  obtain ⟨f, hf⟩ := tapReply_frame path g r rb s
  rw [hf]
  exact .of_saf s _

/-- A tap that had a fresh reply with count c. -/
def TapHeard (t : State) (path g c lat : Nat) : Prop :=
  (tapOf t path g).inputs = lat ∧ (tapOf t path g).last = some c ∧ (tapOf t path g).stale = 0

theorem TapHeard.of_taps {s t : State} {path g c lat : Nat} (h : t.saf.taps = s.saf.taps) (hs : TapHeard s path g c lat) :
    TapHeard t path g c lat := by
  rw [TapHeard, tapOf_of_taps h]
  exact hs

theorem tapHeard_tapReply {path g c : Nat} {s : State} (hfresh : tapIsFresh (tapOf s path g) c = true) (rb : Nat) :
    TapHeard (tapReply path g (some c) rb s).1 path g c (s.die g).lat := by
  have hreply : (tapReply path g (some c) rb s).1 = tapFresh path g c rb s := by
    rw [tapReply, if_pos hfresh]
  rw [hreply, tapFresh, TapHeard]
  rw [tapOf_modTap_same]
  exact ⟨rfl, rfl, rfl⟩

/-- The core's tap, where the core has not halted. -/
def coreTap (g : Nat) (core : Option Nat) (rb : Nat) (s : State) : State := if s.saf.coreDown then s else (tapReply 0 g core rb s).1

theorem safTaps_eq (g : Nat) (core ecl : Option Nat) (rb : Nat) (s : State) : ∃ a b,
    safTaps g core ecl rb s = pathFault a b 17 g (tapReply 1 g ecl rb (coreTap g core rb s)).1 := by
  rw [safTaps, coreTap]
  split
  · exact ⟨_, _, rfl⟩
  · exact ⟨_, _, rfl⟩

theorem coreTap_spec (g : Nat) (core : Option Nat) (rb : Nat) (s : State) :
    ReplyWork s (coreTap g core rb s) ∧ (g < 64 → tapOf (coreTap g core rb s) 1 g = tapOf s 1 g) := by
  rw [coreTap]
  split
  · exact ⟨.refl s, fun _ => rfl⟩
  · refine ⟨replyWork_tapReply _ _ _ _ _, fun hg => ?_⟩
    obtain ⟨f, hf⟩ := tapReply_frame 0 g core rb s
    rw [hf]
    exact tapOf_modTap_ne (by rw [pk, pk]; omega) f s

theorem safTaps_spec {g : Nat} (hg : g < 64) (core ecl : Option Nat) (rb : Nat) (s : State) :
    ReplyWork s (safTaps g core ecl rb s) ∧
    (∀ c, ecl = some c → tapIsFresh (tapOf s 1 g) c = true → TapHeard (safTaps g core ecl rb s) 1 g c (s.die g).lat) ∧
    (∀ c, core = some c → tapIsFresh (tapOf s 0 g) c = true → s.saf.coreDown = false →
      TapHeard (safTaps g core ecl rb s) 0 g c (s.die g).lat) := by
  obtain ⟨a, b, heq⟩ := safTaps_eq g core ecl rb s
  obtain ⟨hwork, htap⟩ := coreTap_spec g core rb s
  have hfault := TapWork.of_faultKept (faultKept_pathFault a b 17 g (tapReply 1 g ecl rb (coreTap g core rb s)).1)
  rw [heq]
  refine ⟨(hwork.trans (replyWork_tapReply _ _ _ _ _)).trans hfault.1, fun c hc hfresh => .of_taps hfault.2.1 ?_,
    fun c hc hfresh hup => .of_taps hfault.2.1 ?_⟩
  · rw [hc, ← hwork.lat g]
    exact tapHeard_tapReply (by rw [htap hg]; exact hfresh) rb
  · obtain ⟨f, hf⟩ := tapReply_frame 1 g ecl rb (coreTap g core rb s)
    rw [hf, TapHeard, tapOf_modTap_ne (by rw [pk, pk]; omega), coreTap, hup, if_neg (by decide), hc]
    exact tapHeard_tapReply hfresh rb

theorem safGroup_spec {g : Nat} (hg : g < 64) (r : ReplyIn) (edges : List (Nat × Bool × Nat)) (s : State) :
    ReplyWork s (safGroup g r edges s) ∧
    (∀ c, r.ecl = some c → tapIsFresh (tapOf s 1 g) c = true → TapHeard (safGroup g r edges s) 1 g c (s.die g).lat) ∧
    (∀ c, r.core = some c → tapIsFresh (tapOf s 0 g) c = true → s.saf.coreDown = false →
      TapHeard (safGroup g r edges s) 0 g c (s.die g).lat) := by
  have hfirst : TapWork s (if coreHears s g r.core then rstReply edges s else s) := by
    split
    · exact .rstReply edges s
    · exact .refl s
  rw [safGroup]
  generalize (if coreHears s g r.core then rstReply edges s else s) = s1 at *
  obtain ⟨htaps, hecl, hcore⟩ := safTaps_spec hg r.core r.ecl r.rb s1
  have hchecks : ∀ t was, TapWork t
      (keyCfLevel (rstLevel (brakesTrack (pairsFollow (outSampled g r.rb (uvLock g was (t.forN 8 (fun b t => outCheck (8 * g + b) r.rb t)))))))) :=
    fun t was => by
      have houts := State.forN_rel (R := TapWork) .refl (fun _ _ _ => .trans) (n := 8) (fun b _ u => TapWork.outCheck (8 * g + b) r.rb u) t
      have hsampled : ∀ u, TapWork u (outSampled g r.rb u) := fun u =>
        .modDie (f := fun d => { d with rb := r.rb, low := mapBits 8 (fun b => readsLow u (8 * g + b) r.rb) }) (fun _ => rfl) g u
      exact (((((houts.trans (.uvLock g was _)).trans (hsampled _)).trans (.pairsFollow _)).trans (.brakesTrack _)).trans
        (.rstLevel _)).trans (.keyCfLevel _)
  refine ⟨(hfirst.1.trans htaps).trans (hchecks _ _).1, fun c hc hfresh => .of_taps (hchecks _ _).2.1 ?_,
    fun c hc hfresh hup => .of_taps (hchecks _ _).2.1 ?_⟩
  · rw [← hfirst.1.lat g]
    exact hecl c hc (by rw [tapOf_of_taps hfirst.2.1]; exact hfresh)
  · rw [← hfirst.1.lat g]
    exact hcore c hc (by rw [tapOf_of_taps hfirst.2.1]; exact hfresh) (hfirst.2.2.trans hup)

/-! ### What the logic side shows -/

/-- Input i in FIO_IN. -/
def inputShown (i : Nat) (t : State) : Bool := t.bit (F.FIO_IN.IN (i / 32)) (i % 32)

theorem inputShown_of_reg_eq {i : Nat} {s t : State} (h : t.reg (Reg.FIO_IN (i / 32)) = s.reg (Reg.FIO_IN (i / 32))) :
    inputShown i t = inputShown i s :=
  congrArg (fun n => Nat.testBit n (i % 32)) (State.get_of_reg_eq (f := F.FIO_IN.IN (i / 32)) h)

/-- One input put into FIO_IN. -/
def inputPut (i : Nat) (b : Bool) (t : State) : State :=
  if b then t.evBit (F.FIO_IN.IN (i / 32)) (i % 32) else t.clrBit (F.FIO_IN.IN (i / 32)) (i % 32)

theorem onlyRegs_inputPut (i : Nat) (b : Bool) (t : State) : OnlyRegs [Reg.FIO_IN (i / 32)] t (inputPut i b t) := by
  rw [inputPut]
  split
  · exact changesOnly_put (f := F.FIO_IN.IN (i / 32)) (by simp) t _
  · exact changesOnly_put (f := F.FIO_IN.IN (i / 32)) (by simp) t _

theorem inputShown_inputPut (i j : Nat) (b : Bool) (t : State) : inputShown j (inputPut i b t) = if j = i then b else inputShown j t := by
  have hlt : i % 32 < 32 := Nat.mod_lt _ (by decide)
  by_cases hword : j / 32 = i / 32
  · have hbit : j % 32 = i % 32 ↔ j = i := ⟨fun h => by omega, fun h => by rw [h]⟩
    rw [inputPut, inputShown, inputShown, hword]
    cases b with
    | true =>
      rw [if_pos rfl, State.bit_evBit _ _ _ _ (Nat.zero_le 31) (Nat.lt_succ_self 31) (by exact hlt)]
      simp only [hbit]
    | false =>
      rw [if_neg (by decide), State.bit_clrBit _ _ _ _ (Nat.zero_le 31) (Nat.lt_succ_self 31) (by exact hlt)]
      simp only [hbit]
  · have hne : Reg.FIO_IN (j / 32) ≠ Reg.FIO_IN (i / 32) := by
      have h1 : Reg.FIO_IN (j / 32) = 0x40070080 + 4 * (j / 32) := rfl
      have h2 : Reg.FIO_IN (i / 32) = 0x40070080 + 4 * (i / 32) := rfl
      omega
    have hreg := (onlyRegs_inputPut i b t).1 (Reg.FIO_IN (j / 32)) (by simpa using hne)
    rw [if_neg fun h => hword (by rw [h]), inputShown, State.bit, State.get_of_reg_eq hreg]
    rfl

theorem showInputs_eq (g v : Nat) (s : State) : showInputs g v s = s.forN 24 (fun b t => inputPut (24 * g + b) (v.testBit b) t) := rfl

theorem inputShown_showInputs {g b : Nat} (hb : b < 24) (v : Nat) (s : State) : inputShown (24 * g + b) (showInputs g v s) = v.testBit b := by
  rw [showInputs_eq]
  refine State.read_forN_of_writes (read := inputShown (24 * g + b)) hb (fun t => ?_) (fun j _ hj t => ?_) s
  · rw [inputShown_inputPut, if_pos rfl]
  · rw [inputShown_inputPut, if_neg (by omega)]

theorem inputShown_showInputs_ne {g i : Nat} (h : i / 24 ≠ g) (v : Nat) (s : State) : inputShown i (showInputs g v s) = inputShown i s := by
  rw [showInputs_eq]
  refine State.read_forN (read := inputShown i) (fun j hj t => ?_) s
  rw [inputShown_inputPut, if_neg (by omega)]

/-- The registers of FIO_IN. -/
def InReg (a : Nat) : Prop := 0x40070080 ≤ a ∧ a < 0x4007008c

theorem changesOnly_showInputs {g : Nat} (hg : g < 4) (v : Nat) (s : State) : ChangesOnly InReg s (showInputs g v s) := by
  rw [showInputs_eq]
  refine changesOnly_forN (fun b hb t => ChangesOnly.mono (onlyRegs_inputPut (24 * g + b) (v.testBit b) t) fun a ha => ?_) s
  rw [List.mem_singleton] at ha
  have haddr : Reg.FIO_IN ((24 * g + b) / 32) = 0x40070080 + 4 * ((24 * g + b) / 32) := rfl
  rw [InReg, ha, haddr]
  omega

/-- What the rest of a reply leaves: the paths, the counts of lost replies, FIO_IN and the LINK field of the group. -/
structure Shown (g : Nat) (s t : State) : Prop where
  saf : t.saf = s.saf
  bad : t.fio.bad = s.fio.bad
  inputs : ∀ a, InReg a → t.reg a = s.reg a
  link : t.get (F.FIO_GRP_STAT.LINK g) = s.get (F.FIO_GRP_STAT.LINK g)

namespace Shown

variable {g : Nat}

theorem refl (s : State) : Shown g s s := ⟨rfl, rfl, fun _ _ => rfl, rfl⟩

theorem trans {s t u : State} (hst : Shown g s t) (htu : Shown g t u) : Shown g s u :=
  ⟨htu.saf.trans hst.saf, htu.bad.trans hst.bad, fun a ha => (htu.inputs a ha).trans (hst.inputs a ha), htu.link.trans hst.link⟩

theorem input {s t : State} (h : Shown g s t) {i : Nat} (hi : i < 96) : inputShown i t = inputShown i s := by
  have hreg : t.reg (Reg.FIO_IN (i / 32)) = s.reg (Reg.FIO_IN (i / 32)) := h.inputs _ (by
    have haddr : Reg.FIO_IN (i / 32) = 0x40070080 + 4 * (i / 32) := rfl
    rw [InReg, haddr]
    omega)
  exact inputShown_of_reg_eq hreg

/-- A change of registers above FIO_IN. -/
theorem of_changesOnly {P : Nat → Prop} {s t : State} (hg : g < 5) (h : ChangesOnly P s t) (hP : ∀ a, P a → 0x4007008c ≤ a) :
    Shown g s t := by
  obtain ⟨hregs, -, hframe⟩ := h
  have hlink : t.reg (Reg.FIO_GRP_STAT g) = s.reg (Reg.FIO_GRP_STAT g) := hregs _ fun hPa => by
    have := hP _ hPa
    have haddr : Reg.FIO_GRP_STAT g = 0x40070004 + 0x10 * g := rfl
    omega
  refine ⟨by rw [hframe], by rw [hframe], fun a ha => hregs a fun hPa => ?_, State.get_of_reg_eq hlink⟩
  have := hP a hPa
  rw [InReg] at ha
  omega

/-- A put into the status of a group beside LINK. -/
theorem put_stat {hi lo : Nat} (hb : lo ≤ hi) (h30 : hi < 30) (hg : g < 5) (s : State) (v : Nat) :
    Shown g s (s.put ⟨Reg.FIO_GRP_STAT g, ⟨hi, lo⟩⟩ v) := by
  refine ⟨State.put_saf _ _ _, congrArg Fio.bad (State.put_fio _ _ _), fun a ha => State.reg_put_ne _ _ _ _ ?_,
    State.get_put_disjoint hb (by omega) (.inr h30) s _ v⟩
  have haddr : Reg.FIO_GRP_STAT g = 0x40070004 + 0x10 * g := rfl
  rw [InReg] at ha
  dsimp only
  omega

theorem setReg (hg : g < 5) {a : Nat} (ha : 0x4007008c ≤ a) (s : State) (w : Word) : Shown g s (s.setReg a w) :=
  of_changesOnly hg (changesOnly_setReg (P := (0x4007008c ≤ ·)) ha s w) fun _ h => h

theorem ev {s : State} (hg : g < 5) {f : FRef} (hf : f.addr = Reg.FIO_EVENT) : Shown g s (s.ev f) :=
  of_changesOnly hg (changesOnly_ev (P := (· = Reg.FIO_EVENT)) hf s) fun _ h => h ▸ by decide

/-- Work beside the registers and the paths. -/
theorem of_bus {s t : State} (hbus : t.bus = s.bus) (hsaf : t.saf = s.saf) (hbad : t.fio.bad = s.fio.bad) : Shown g s t :=
  ⟨hsaf, hbad, fun a _ => State.reg_of_bus_eq hbus a, State.get_of_bus_eq hbus _⟩

theorem latchEdge (i : Nat) (rising : Bool) (at' : Nat) (s : State) : Shown g s (latchEdge i rising at' s) := by
  refine State.forN_rel refl (fun _ _ _ => trans) (fun m _ u => ?_) s
  dsimp only
  split
  · exact of_bus rfl rfl rfl
  · exact refl u

theorem limitEdge (i at' : Nat) (s : State) : Shown g s (limitEdge i at' s) := by
  refine State.forN_rel refl (fun _ _ _ => trans) (fun n _ u => ?_) s
  split
  · exact of_bus rfl rfl rfl
  · exact refl u

theorem modFreq (n : Nat) (f : FreqIn → FreqIn) (s : State) : Shown g s (s.modFreq n f) := of_bus rfl rfl rfl

theorem edgeOp (e : Nat × Bool × Nat) (s : State) : Shown g s (edgeOp e s) := by
  have hlimit : Shown g s (if e.2.1 then Machine.latchEdge e.1 e.2.1 e.2.2 s else
      Machine.limitEdge e.1 e.2.2 (Machine.latchEdge e.1 e.2.1 e.2.2 s)) := by
    split
    · exact latchEdge _ _ _ s
    · exact (latchEdge _ _ _ s).trans (limitEdge _ _ _)
  rw [Machine.edgeOp]
  generalize (if e.2.1 then _ else _ : State) = u at hlimit ⊢
  split
  · exact hlimit.trans (modFreq _ _ _)
  · exact hlimit

theorem countResult (hg : g < 5) {f : Nat} (s : State) : Shown g s (countResult f s) := by
  have haddr : Reg.FIO_FIN_CNT_LO f = 0x40070104 + 0x20 * f := rfl
  rw [Machine.countResult]
  split
  · exact refl s
  · refine (of_changesOnly hg (changesOnly_resultPair (P := (0x4007008c ≤ ·)) ?_ ?_ s _) fun _ h => h).trans (ev hg rfl)
    · omega
    · omega

theorem supplyShown (hg : g < 5) (s : State) : Shown g s (supplyShown g s) := by
  have hev : ∀ (c : Bool) (t : State) (f : FRef), f.addr = Reg.FIO_EVENT → Shown g t (if c then t.ev f else t) := fun c t f hf => by
    cases c with
    | true => exact ev hg hf
    | false => exact refl t
  exact (((((hev _ s F.FIO_EVENT.UV rfl).trans (hev _ _ F.FIO_EVENT.WARN rfl)).trans (put_stat (by decide) (by decide) hg _ _)).trans
    (put_stat (by decide) (by decide) hg _ _)).trans (put_stat (by decide) (by decide) hg _ _)).trans
    (put_stat (by decide) (by decide) hg _ _)

theorem outsShown (hg : g < 5) (h : Nat) (s : State) : Shown g s (outsShown h s) := by
  refine State.forN_rel refl (fun _ _ _ => trans) (fun b _ t => ?_) s
  have hstat : 0x4007008c ≤ Reg.FIO_OUT_STAT (8 * h + b) := by
    have haddr : Reg.FIO_OUT_STAT (8 * h + b) = 0x40070380 + 4 * (8 * h + b) := rfl
    omega
  dsimp only
  refine (setReg hg hstat t (outStatWord s (8 * h + b))).trans ?_
  generalize t.setReg (Reg.FIO_OUT_STAT (8 * h + b)) (outStatWord s (8 * h + b)) = u
  split
  · exact setReg hg (by decide) u _
  · exact setReg hg (by decide) u _

end Shown

/-! ### FIO_OUT_RB -/

theorem outRb_supplyShown {g : Nat} (s : State) : (supplyShown g s).reg Reg.FIO_OUT_RB = s.reg Reg.FIO_OUT_RB := by
  have hev : ∀ (c : Bool) (t : State) (f : FRef), f.addr = Reg.FIO_EVENT →
      (if c then t.ev f else t).reg Reg.FIO_OUT_RB = t.reg Reg.FIO_OUT_RB := fun c t f hf => by
    cases c with
    | true => exact State.reg_put_ne _ _ _ _ (by rw [hf]; decide)
    | false => rfl
  have hstat : ∀ b, Reg.FIO_OUT_RB ≠ (⟨Reg.FIO_GRP_STAT g, b⟩ : FRef).addr := fun b => by
    have haddr : Reg.FIO_GRP_STAT g = 0x40070004 + 0x10 * g := rfl
    have hrb : Reg.FIO_OUT_RB = 0x4007030c := rfl
    dsimp only
    omega
  rw [supplyShown, State.putB, State.putB, State.putB, State.reg_put_ne _ _ _ _ (hstat _), State.reg_put_ne _ _ _ _ (hstat _),
    State.reg_put_ne _ _ _ _ (hstat _), State.reg_put_ne _ _ _ _ (hstat _)]
  exact (hev _ _ _ rfl).trans (hev _ s _ rfl)

theorem outRb_outsShown {g : Nat} (s : State) : (outsShown g s).reg Reg.FIO_OUT_RB = s.reg Reg.FIO_OUT_RB := by
  refine State.read_forN (read := fun t => t.reg Reg.FIO_OUT_RB) (fun b hb t => ?_) s
  have hstat : Reg.FIO_OUT_RB ≠ Reg.FIO_OUT_STAT (8 * g + b) := by
    have haddr : Reg.FIO_OUT_STAT (8 * g + b) = 0x40070380 + 4 * (8 * g + b) := rfl
    have hrb : Reg.FIO_OUT_RB = 0x4007030c := rfl
    omega
  dsimp only
  split
  · rw [State.reg_evBit_ne _ _ _ _ (by decide), State.reg_setReg_ne _ _ _ _ hstat]
  · rw [State.reg_clrBit_ne _ _ _ _ (by decide), State.reg_setReg_ne _ _ _ _ hstat]

/-- One byte of a word replaced. -/
theorem byte_replaced {n r g : Nat} (hn : n < 2 ^ 32) (hg : g < 4) :
    (wd (n - n / 2 ^ (8 * g) % 256 * 2 ^ (8 * g) + r % 256 * 2 ^ (8 * g))).toNat / 2 ^ (8 * g) % 256 = r % 256 := by
  rw [wd, BitVec.toNat_ofNat]
  obtain rfl | rfl | rfl | rfl : g = 0 ∨ g = 1 ∨ g = 2 ∨ g = 3 := by omega
  all_goals
    simp only [Nat.reduceMul, Nat.reducePow]
    omega

/-! ### A valid reply -/

/-- LINK up and no reply lost. -/
def groupUp (g : Nat) (s : State) : State := { s with fio := { s.fio with bad := smSet 0 s.fio.bad g 0 } }.put (F.FIO_GRP_STAT.LINK g) 1

/-- The inputs, edges and counts of a reply. -/
def edgesShown (g : Nat) (s : State) : State :=
  ((showInputs g (s.die g).lat (groupUp g s)).forL (s.die g).latEdges edgeOp).forN 4 (fun i t => countResult (4 * g + i) t)

/-- The reply up to the readbacks. -/
def replyShown (g : Nat) (s : State) : State :=
  if (s.die g).newTherm = 0 then edgesShown g s else (edgesShown g s).ev F.FIO_EVENT.THERM

/-- A byte of FIO_OUT_RB replaced by the readbacks of group g. -/
def rbShown (g rb : Nat) (s : State) : State := s.setReg Reg.FIO_OUT_RB
  (wd ((s.reg Reg.FIO_OUT_RB).toNat - (s.reg Reg.FIO_OUT_RB).toNat / 2 ^ (8 * g) % 256 * 2 ^ (8 * g) + rb % 256 * 2 ^ (8 * g)))

theorem groupReply_eq (g rb : Nat) (s : State) : groupReply g rb s =
    (outsShown g (supplyShown g (rbShown g rb (replyShown g s)))).modDie g (fun x => { x with latEdges := [], newTherm := 0, silAct := false }) :=
  rfl

/-- What a group's reply shows of the group. -/
def ReplyShown (g lat : Nat) (s t : State) : Prop :=
  t.get (F.FIO_GRP_STAT.LINK g) = 1 ∧ smGet 0 t.fio.bad g = 0 ∧ (∀ b, b < 24 → inputShown (24 * g + b) t = lat.testBit b) ∧
    (∀ i, i < 96 → i / 24 ≠ g → inputShown i t = inputShown i s) ∧ t.saf = s.saf

theorem ReplyShown.of_shown {g lat : Nat} {s t u : State} (hg : g < 4) (hst : ReplyShown g lat s t) (htu : Shown g t u) : ReplyShown g lat s u := by
  obtain ⟨hlink, hbad, hin, hothers, hsaf⟩ := hst
  exact ⟨htu.link.trans hlink, by rw [htu.bad, hbad], fun b hb => (htu.input (by omega)).trans (hin b hb),
    fun i hi hne => (htu.input hi).trans (hothers i hi hne), htu.saf.trans hsaf⟩

theorem groupUp_spec {g : Nat} (hg : g < 4) (s : State) : (groupUp g s).get (F.FIO_GRP_STAT.LINK g) = 1 ∧ smGet 0 (groupUp g s).fio.bad g = 0 ∧
    (groupUp g s).saf = s.saf ∧ ∀ i, inputShown i (groupUp g s) = inputShown i s := by
  have hbad : (groupUp g s).fio.bad = smSet 0 s.fio.bad g 0 := congrArg Fio.bad (State.put_fio _ _ _)
  refine ⟨State.get_put_self (by decide) (by decide) _ _ 1, ?_, State.put_saf _ _ _, fun i => ?_⟩
  · rw [hbad]
    exact smGet_smSet_same 0 s.fio.bad g 0
  · have hne : Reg.FIO_IN (i / 32) ≠ Reg.FIO_GRP_STAT g := by
      have h1 : Reg.FIO_IN (i / 32) = 0x40070080 + 4 * (i / 32) := rfl
      have h2 : Reg.FIO_GRP_STAT g = 0x40070004 + 0x10 * g := rfl
      omega
    have hreg : (groupUp g s).reg (Reg.FIO_IN (i / 32)) = s.reg (Reg.FIO_IN (i / 32)) := State.reg_put_ne _ (F.FIO_GRP_STAT.LINK g) 1 _ hne
    exact inputShown_of_reg_eq hreg

theorem replyShown_spec {g : Nat} (hg : g < 4) (s : State) : ReplyShown g (s.die g).lat s (replyShown g s) := by
  obtain ⟨hlink, hbad, hsaf, hin⟩ := groupUp_spec hg s
  have hshow := changesOnly_showInputs hg (s.die g).lat (groupUp g s)
  have hstart : ReplyShown g (s.die g).lat s (showInputs g (s.die g).lat (groupUp g s)) := by
    have hstat : ¬ InReg (Reg.FIO_GRP_STAT g) := fun h => by
      have haddr : Reg.FIO_GRP_STAT g = 0x40070004 + 0x10 * g := rfl
      rw [InReg] at h
      omega
    refine ⟨(State.get_of_reg_eq (f := F.FIO_GRP_STAT.LINK g) (hshow.1 _ hstat)).trans hlink, by rw [hshow.2.2]; exact hbad,
      fun b hb => inputShown_showInputs hb _ _, fun i _ hne => (inputShown_showInputs_ne hne _ _).trans (hin i), by rw [hshow.2.2]; exact hsaf⟩
  have hedges : ∀ l t, Shown g t (t.forL l edgeOp) := fun l t => State.forL_rel .refl (fun _ _ _ => .trans) (fun e _ u => Shown.edgeOp e u) t
  have hcounts : ∀ t, Shown g t (t.forN 4 (fun i u => countResult (4 * g + i) u)) :=
    fun t => State.forN_rel .refl (fun _ _ _ => .trans) (fun i _ u => Shown.countResult (by omega) u) t
  have hshown : ReplyShown g (s.die g).lat s (edgesShown g s) := hstart.of_shown hg ((hedges _ _).trans (hcounts _))
  rw [replyShown]
  split
  · exact hshown
  · exact hshown.of_shown hg (.ev (by omega) rfl)

theorem groupReply_spec {g : Nat} (hg : g < 4) (rb : Nat) (s : State) : ReplyShown g (s.die g).lat s (groupReply g rb s) ∧
    ((groupReply g rb s).reg Reg.FIO_OUT_RB).toNat / 2 ^ (8 * g) % 256 = rb % 256 ∧ ((groupReply g rb s).die g).latEdges = [] := by
  have hrb : ∀ t : State, Shown g t (rbShown g rb t) := fun t =>
    .of_changesOnly (by omega) (changesOnly_setReg (P := (0x4007008c ≤ ·)) (by decide) t _) fun _ h => h
  have hrest : ∀ t : State, Shown g t (outsShown g (supplyShown g (rbShown g rb t))) := fun t =>
    ((hrb t).trans (.supplyShown (by omega) _)).trans (.outsShown (by omega) g _)
  have hdie : ∀ t : State, Shown g t (t.modDie g (fun x => { x with latEdges := [], newTherm := 0, silAct := false })) :=
    fun _ => .of_bus rfl rfl rfl
  rw [groupReply_eq]
  refine ⟨((replyShown_spec hg s).of_shown hg (hrest _)).of_shown hg (hdie _), ?_, ?_⟩
  · generalize replyShown g s = t
    have hread : (outsShown g (supplyShown g (rbShown g rb t))).reg Reg.FIO_OUT_RB = (rbShown g rb t).reg Reg.FIO_OUT_RB :=
      (outRb_outsShown _).trans (outRb_supplyShown _)
    have hlast : ∀ u : State, (u.modDie g (fun x => { x with latEdges := [], newTherm := 0, silAct := false })).reg Reg.FIO_OUT_RB =
        u.reg Reg.FIO_OUT_RB := fun _ => rfl
    rw [hlast, hread, rbShown, State.reg_setReg_same]
    exact byte_replaced (t.reg Reg.FIO_OUT_RB).isLt hg
  · rw [State.die_modDie_same]

theorem fioReply_of_answer {s : State} {g : Nat} {f : FieldFrame} (h : smFind s.fio.sent g = some f) (rb : Nat) :
    fioReply g (some f.seq) rb s = groupReply g rb s := by
  unfold fioReply
  rw [h]
  exact if_pos rfl

/-! ### A missing reply -/

/-- A lost reply counted. -/
def lossCounted (g : Nat) (s : State) : State :=
  { s with fio := { s.fio with bad := smSet 0 s.fio.bad g (smGet 0 s.fio.bad g + 1) } }.incSat (F.FIO_GRP_STAT.LOST g)

theorem lossCounted_spec (g : Nat) (s : State) : smGet 0 (lossCounted g s).fio.bad g = smGet 0 s.fio.bad g + 1 ∧
    (lossCounted g s).get (F.FIO_GRP_STAT.LOST g) = min 255 (s.get (F.FIO_GRP_STAT.LOST g) + 1) ∧
    (lossCounted g s).get (F.FIO_GRP_STAT.LINK g) = s.get (F.FIO_GRP_STAT.LINK g) := by
  have hbad : (lossCounted g s).fio.bad = smSet 0 s.fio.bad g (smGet 0 s.fio.bad g + 1) := congrArg Fio.bad (State.incSat_fio _ _)
  refine ⟨?_, State.get_incSat_self (by decide) (by decide) _ _, State.get_put_disjoint (by decide) (by decide) (.inr (by decide)) _ _ _⟩
  rw [hbad]
  exact smGet_smSet_same 0 s.fio.bad g _

/-- The fourth lost reply in a row: the group is lost. -/
def groupLost (g : Nat) (s : State) : State :=
  if g < 4 then groupInputsOff g ((s.put (F.FIO_GRP_STAT.LINK g) 2).ev F.FIO_EVENT.GROUP)
  else (s.put (F.FIO_GRP_STAT.LINK g) 2).ev F.FIO_EVENT.GROUP

theorem replyLost_eq (g : Nat) (s : State) : replyLost g s =
    if 4 ≤ smGet 0 s.fio.bad g + 1 ∧ s.get (F.FIO_GRP_STAT.LINK g) ≠ 2 then groupLost g (lossCounted g s) else lossCounted g s := rfl

/-- The limits that fall with a lost group. -/
def limitsOff (g : Nat) (s : State) : State :=
  s.forN 24 (fun j t => if inState s (24 * g + j) then limitEdge (24 * g + j) s.nowNs t else t)

theorem groupInputsOff_eq (g : Nat) (s : State) : groupInputsOff g s = showInputs g 0 (limitsOff g s) := rfl

theorem bus_limitEdge (i at' : Nat) (s : State) : (limitEdge i at' s).bus = s.bus ∧ (limitEdge i at' s).fio = s.fio := by
  refine State.forN_rel (R := fun s t => t.bus = s.bus ∧ t.fio = s.fio) (fun _ => ⟨rfl, rfl⟩)
    (fun _ _ _ h1 h2 => ⟨h2.1.trans h1.1, h2.2.trans h1.2⟩) (fun n _ u => ?_) s
  split
  · exact ⟨rfl, rfl⟩
  · exact ⟨rfl, rfl⟩

theorem bus_limitsOff (g : Nat) (s : State) : (limitsOff g s).bus = s.bus ∧ (limitsOff g s).fio = s.fio := by
  refine State.forN_rel (R := fun s t => t.bus = s.bus ∧ t.fio = s.fio) (fun _ => ⟨rfl, rfl⟩)
    (fun _ _ _ h1 h2 => ⟨h2.1.trans h1.1, h2.2.trans h1.2⟩) (fun j _ u => ?_) s
  split
  · exact bus_limitEdge _ _ u
  · exact ⟨rfl, rfl⟩

/-- What a lost group shows, with the counts of its losses as they were. -/
def LostShown (g : Nat) (s t : State) : Prop :=
  t.get (F.FIO_GRP_STAT.LINK g) = 2 ∧ t.flag F.FIO_EVENT.GROUP = true ∧ t.fio = s.fio ∧
    t.get (F.FIO_GRP_STAT.LOST g) = s.get (F.FIO_GRP_STAT.LOST g)

theorem lostShown_link (g : Nat) (s : State) : LostShown g s ((s.put (F.FIO_GRP_STAT.LINK g) 2).ev F.FIO_EVENT.GROUP) := by
  have hne : Reg.FIO_GRP_STAT g ≠ Reg.FIO_EVENT := by
    have haddr : Reg.FIO_GRP_STAT g = 0x40070004 + 0x10 * g := rfl
    have hev : Reg.FIO_EVENT = 0x40070420 := rfl
    omega
  refine ⟨?_, State.flag_ev_self (by decide) (by decide) _, (State.ev_fio _ _).trans (State.put_fio _ _ _), ?_⟩
  · rw [State.get_ev_other hne]
    exact State.get_put_self (by decide) (by decide) _ _ 2
  · rw [State.get_ev_other hne]
    exact State.get_put_disjoint (by decide) (by decide) (.inl (by decide)) _ _ _

theorem LostShown.inputsOff {g : Nat} (hg : g < 4) {s t : State} (h : LostShown g s t) : LostShown g s (groupInputsOff g t) := by
  obtain ⟨hlink, hev, hfio, hlost⟩ := h
  obtain ⟨hbus, hfio'⟩ := bus_limitsOff g t
  obtain ⟨hregs, -, hframe⟩ := changesOnly_showInputs hg 0 (limitsOff g t)
  rw [groupInputsOff_eq]
  generalize limitsOff g t = u at *
  have hreg : ∀ a, ¬ InReg a → (showInputs g 0 u).reg a = t.reg a := fun a ha => (hregs a ha).trans (State.reg_of_bus_eq hbus a)
  have hstat : ¬ InReg (Reg.FIO_GRP_STAT g) := fun h => by
    have haddr : Reg.FIO_GRP_STAT g = 0x40070004 + 0x10 * g := rfl
    rw [InReg] at h
    omega
  have hfio'' : (showInputs g 0 u).fio = u.fio := by rw [hframe]
  refine ⟨(State.get_of_reg_eq (hreg _ hstat)).trans hlink, ?_, hfio''.trans (hfio'.trans hfio),
    (State.get_of_reg_eq (hreg _ hstat)).trans hlost⟩
  rw [flag_of_reg_eq (hreg Reg.FIO_EVENT (by rw [InReg]; decide))]
  exact hev

theorem groupLost_spec (g : Nat) (s : State) : LostShown g s (groupLost g s) ∧
    (g < 4 → ∀ b, b < 24 → inputShown (24 * g + b) (groupLost g s) = false) := by
  have hlink := lostShown_link g s
  rw [groupLost]
  split
  next h =>
    refine ⟨hlink.inputsOff h, fun _ b hb => ?_⟩
    rw [groupInputsOff_eq, inputShown_showInputs hb, Nat.zero_testBit]
  next h => exact ⟨hlink, fun h4 => absurd h4 h⟩

theorem replyLost_spec (g : Nat) (s : State) : smGet 0 (replyLost g s).fio.bad g = smGet 0 s.fio.bad g + 1 ∧
    (replyLost g s).get (F.FIO_GRP_STAT.LOST g) = min 255 (s.get (F.FIO_GRP_STAT.LOST g) + 1) ∧
    (3 ≤ smGet 0 s.fio.bad g → s.get (F.FIO_GRP_STAT.LINK g) ≠ 2 → (replyLost g s).get (F.FIO_GRP_STAT.LINK g) = 2 ∧
      (replyLost g s).flag F.FIO_EVENT.GROUP = true ∧ (g < 4 → ∀ b, b < 24 → inputShown (24 * g + b) (replyLost g s) = false)) ∧
    (smGet 0 s.fio.bad g < 3 → (replyLost g s).get (F.FIO_GRP_STAT.LINK g) = s.get (F.FIO_GRP_STAT.LINK g)) := by
  obtain ⟨hbad, hlost, hlink⟩ := lossCounted_spec g s
  obtain ⟨⟨hlink', hev, hfio, hlost'⟩, hin⟩ := groupLost_spec g (lossCounted g s)
  rw [replyLost_eq]
  split
  next h =>
    exact ⟨by rw [hfio]; exact hbad, hlost'.trans hlost, fun _ _ => ⟨hlink', hev, hin⟩, fun hlt => absurd h.1 (by omega)⟩
  next h =>
    exact ⟨hbad, hlost, fun h3 hne => absurd ⟨by omega, hne⟩ h, fun _ => hlink⟩

/-! ### The statement -/

/-- The evaluation after a reply leaves what the reply shows. -/
theorem shown_safRefresh {g : Nat} (hg : g < 5) (s : State) : Shown g s (safRefresh s) :=
  .of_changesOnly hg (onlyRegs_safRefresh s) fun a ha => by
    simp only [List.mem_cons, List.not_mem_nil, or_false] at ha
    obtain rfl | rfl := ha
    · decide
    · decide

theorem reg_safRefresh {a : Nat} (ha : a ∉ [Reg.SAF_FUNC_STAT, Reg.SAF_EVENT]) (s : State) : (safRefresh s).reg a = s.reg a :=
  (onlyRegs_safRefresh s).1 a ha

theorem ReplyWork.grpStat {s t : State} (h : ReplyWork s t) {g : Nat} (hg : g < 5) : t.reg (Reg.FIO_GRP_STAT g) = s.reg (Reg.FIO_GRP_STAT g) := by
  have haddr : Reg.FIO_GRP_STAT g = 0x40070004 + 0x10 * g := rfl
  have hev : Reg.FIO_EVENT = 0x40070420 := rfl
  exact h.regs _ (by rw [FaultReg]; omega) (by omega)

theorem ReplyWork.input {s t : State} (h : ReplyWork s t) {i : Nat} (hi : i < 96) : inputShown i t = inputShown i s := by
  have haddr : Reg.FIO_IN (i / 32) = 0x40070080 + 4 * (i / 32) := rfl
  have hev : Reg.FIO_EVENT = 0x40070420 := rfl
  have hreg := h.regs (Reg.FIO_IN (i / 32)) (by rw [FaultReg]; omega) (by omega)
  exact inputShown_of_reg_eq hreg

theorem fieldReply_clause {s : State} {g : Fin 5} {r : ReplyIn} {f : FieldFrame} (hawake : s.awake = true) (hg : g.val < 4)
    (hsent : smFind s.fio.sent g.val = some f) (hr : r.fio = some f.seq) :
    Completes (.fieldReply g r) s (fun t => t.get (F.FIO_GRP_STAT.LINK g.val) = 1 ∧ smGet 0 t.fio.bad g.val = 0 ∧
      (∀ b i, b < 24 → i = 24 * g.val + b → (t.bit (F.FIO_IN.IN (i / 32)) (i % 32) = (s.die g.val).lat.testBit b)) ∧
      (∀ i, i < 96 → i / 24 ≠ g.val → t.bit (F.FIO_IN.IN (i / 32)) (i % 32) = s.bit (F.FIO_IN.IN (i / 32)) (i % 32)) ∧
      (t.reg Reg.FIO_OUT_RB).toNat / 2 ^ (8 * g.val) % 256 = r.rb % 256 ∧ (t.die g.val).latEdges = [] ∧
      (∀ c, r.ecl = some c → tapIsFresh (tapOf s 1 g.val) c = true →
        (tapOf t 1 g.val).inputs = (s.die g.val).lat ∧ (tapOf t 1 g.val).last = some c ∧ (tapOf t 1 g.val).stale = 0) ∧
      (∀ c, r.core = some c → tapIsFresh (tapOf s 0 g.val) c = true → s.saf.coreDown = false →
        (tapOf t 0 g.val).inputs = (s.die g.val).lat ∧ (tapOf t 0 g.val).last = some c ∧ (tapOf t 0 g.val).stale = 0)) := by
  obtain ⟨hwork, hecl, hcore⟩ := safGroup_spec (g := g.val) (by omega) r (s.die g.val).latEdges s
  refine ⟨safRefresh (groupReply g.val r.rb (safGroup g.val r (s.die g.val).latEdges s)), ?_, ?_⟩
  · refine congrArg Host.Outcome.next ?_
    rw [fieldReply, if_pos hawake, if_pos hg, hr, fioReply_of_answer (by rw [hwork.sent, hsent])]
  · generalize safGroup g.val r (s.die g.val).latEdges s = u at *
    obtain ⟨hshown, hrb, hedges⟩ := groupReply_spec hg r.rb u
    have hrb' : (safRefresh (groupReply g.val r.rb u)).reg Reg.FIO_OUT_RB = (groupReply g.val r.rb u).reg Reg.FIO_OUT_RB :=
      reg_safRefresh (by decide) _
    have hdie := die_safRefresh (groupReply g.val r.rb u) g.val
    obtain ⟨hlink, hbad, hin, hothers, hsaf⟩ := hshown.of_shown hg (shown_safRefresh (by omega) _)
    rw [hwork.lat] at hin
    refine ⟨hlink, hbad, fun b i hb hi => hi ▸ hin b hb, fun i hi hne => (hothers i hi hne).trans (hwork.input hi), hrb' ▸ hrb,
      by rw [hdie]; exact hedges, fun c hc hfresh => ?_, fun c hc hfresh hup => ?_⟩
    · exact TapHeard.of_taps (congrArg Saf.taps hsaf) (hecl c hc hfresh)
    · exact TapHeard.of_taps (congrArg Saf.taps hsaf) (hcore c hc hfresh hup)

theorem replyMissing_clause {s : State} {g : Fin 5} {core ecl : Option Nat} (hawake : s.awake = true) :
    Completes (.fieldReplyMissing g core ecl) s (fun t =>
    smGet 0 t.fio.bad g.val = smGet 0 s.fio.bad g.val + 1 ∧
    t.get (F.FIO_GRP_STAT.LOST g.val) =
      min (2 ^ bitsLen (F.FIO_GRP_STAT.LOST g.val).bits - 1) (s.get (F.FIO_GRP_STAT.LOST g.val) + 1) ∧
    (3 ≤ smGet 0 s.fio.bad g.val → s.get (F.FIO_GRP_STAT.LINK g.val) ≠ 2 → t.get (F.FIO_GRP_STAT.LINK g.val) = 2 ∧
      t.flag F.FIO_EVENT.GROUP = true ∧ (∀ b i, g.val < 4 → b < 24 → i = 24 * g.val + b →
        t.bit (F.FIO_IN.IN (i / 32)) (i % 32) = false)) ∧
    (smGet 0 s.fio.bad g.val < 3 → t.get (F.FIO_GRP_STAT.LINK g.val) = s.get (F.FIO_GRP_STAT.LINK g.val))) := by
  have hg := g.isLt
  obtain ⟨hwork, -, -⟩ := safTaps_spec (g := g.val) (by omega) core ecl (tapOf s 0 g.val).rb s
  refine ⟨safRefresh (replyLost g.val (safTaps g.val core ecl (tapOf s 0 g.val).rb s)), congrArg Host.Outcome.next (if_pos hawake), ?_⟩
  generalize safTaps g.val core ecl (tapOf s 0 g.val).rb s = u at *
  obtain ⟨hbad, hlost, hfourth, hfirst⟩ := replyLost_spec g.val u
  have hshown := shown_safRefresh hg (replyLost g.val u)
  have hstat := reg_safRefresh (a := Reg.FIO_GRP_STAT g.val) (by
    have haddr : Reg.FIO_GRP_STAT g.val = 0x40070004 + 0x10 * g.val := rfl
    have h1 : Reg.SAF_FUNC_STAT = 0x40080060 := rfl
    have h2 : Reg.SAF_EVENT = 0x40080004 := rfl
    simp only [List.mem_cons, List.not_mem_nil, or_false]
    omega) (replyLost g.val u)
  have hev := reg_safRefresh (a := Reg.FIO_EVENT) (by decide) (replyLost g.val u)
  have hlost0 : u.get (F.FIO_GRP_STAT.LOST g.val) = s.get (F.FIO_GRP_STAT.LOST g.val) := State.get_of_reg_eq (hwork.grpStat hg)
  have hlink0 : u.get (F.FIO_GRP_STAT.LINK g.val) = s.get (F.FIO_GRP_STAT.LINK g.val) := State.get_of_reg_eq (hwork.grpStat hg)
  rw [hwork.bad] at hbad hfourth hfirst
  rw [hlink0] at hfourth hfirst
  refine ⟨by rw [hshown.bad]; exact hbad, ?_, fun h3 hne => ?_, fun hlt => hshown.link.trans (hfirst hlt)⟩
  · rw [State.get_of_reg_eq (f := F.FIO_GRP_STAT.LOST g.val) hstat, hlost, hlost0]
    rfl
  · obtain ⟨hlink, hgroup, hoff⟩ := hfourth h3 hne
    refine ⟨hshown.link.trans hlink, (flag_of_reg_eq (f := F.FIO_EVENT.GROUP) hev).trans hgroup, fun b i h4 hb hi => ?_⟩
    rw [hi]
    exact (hshown.input (by omega)).trans (hoff h4 b hb)

/-- Settles O45: the paths' work on a reply leaves the FIO logic's registers, whose own work then shows the reply, and a lost one counts. -/
theorem fieldRepliesShowTheInputs : Obligations.FieldRepliesShowTheInputs :=
  ⟨fun _ _ _ _ => fieldReply_clause, fun _ _ _ _ => replyMissing_clause⟩

end Sys2Proof.Machine
end

section
/-!
PROOF. Faults that enter Lock-out, discrepancies of input pairs and the tape (15 R469, R474, R475, R484; 16 R489, R501).
-/

namespace Sys2Proof.Machine

open Sys2Proof

/-! ### The evaluation of the demands -/

/-- The evaluation of the demands clears no event. -/
theorem flag_safRefresh_event {i : Nat} (hi : i < 32) {s : State} (h : s.flag ⟨Reg.SAF_EVENT, ⟨i, i⟩⟩ = true) :
    (safRefresh s).flag ⟨Reg.SAF_EVENT, ⟨i, i⟩⟩ = true := by
  have hput : ∀ v, (s.put F.SAF_FUNC_STAT.DEMAND v).flag ⟨Reg.SAF_EVENT, ⟨i, i⟩⟩ = true := fun v => by
    rw [State.flag_put_other (by decide)]
    exact h
  rw [safRefresh]
  split
  · dsimp only
    split
    · exact State.flag_ev_mono hi (by decide) (hput _)
    · exact hput _
  · exact h

theorem saf_safRefresh (s : State) : (safRefresh s).saf = s.saf := by rw [(onlyRegs_safRefresh s).2.2]

/-! ### A fault outside Lock-out -/

/-- What a fault outside Lock-out leaves to be seen. -/
def FaultShown (s : State) (path cls det : Nat) (t : State) : Prop :=
  LockedOut t ∧ t.saf.aOn = [] ∧ t.saf.bOn = 0 ∧ t.flag F.SAF_EVENT.LOCKOUT = true ∧
    (s.saf.latched = false → t.get F.SAF_FAULT.PATH = path ∧ t.get F.SAF_FAULT.CLASS = cls ∧ t.get F.SAF_FAULT.DETAIL = det ∧
      t.saf.latched = true) ∧
    (s.saf.latched = true → t.reg Reg.SAF_FAULT = s.reg Reg.SAF_FAULT)

theorem reg_faultNoted_of_latched {s : State} (path cls det : Nat) (h : s.saf.latched = true) (a : Nat) :
    (faultNoted path cls det s).reg a = s.reg a := by
  rw [faultNoted, h, if_pos rfl, noteTrip]
  split
  · rfl
  · rfl

theorem EntrySaf.lines {x y : Saf} (h : EntrySaf x y) : y.aOn = x.aOn ∧ y.bOn = x.bOn ∧ y.latched = x.latched := by
  rw [EntrySaf] at h
  rw [h]
  exact ⟨rfl, rfl, rfl⟩

theorem linesOff_spec (s : State) : (linesOff s).saf.aOn = [] ∧ (linesOff s).saf.bOn = 0 ∧ (linesOff s).saf.latched = s.saf.latched ∧
    (linesOff s).bus = s.bus := ⟨rfl, rfl, rfl, rfl⟩

/-- The lines as Lock-out leaves them, the event and the first fault stand through its entry. -/
theorem faultShown_of_entry {s u t : State} {path cls det : Nat} (hlocked : LockedOut t)
    (hentry : EntryKept (linesOff (u.ev F.SAF_EVENT.LOCKOUT)) t)
    (hfirst : s.saf.latched = false → u.saf.latched = true ∧ u.get F.SAF_FAULT.PATH = path ∧ u.get F.SAF_FAULT.CLASS = cls ∧
      u.get F.SAF_FAULT.DETAIL = det)
    (hlater : s.saf.latched = true → u.reg Reg.SAF_FAULT = s.reg Reg.SAF_FAULT) : FaultShown s path cls det t := by
  obtain ⟨hregs, hsaf, -⟩ := hentry
  obtain ⟨hoffA, hoffB, hkept, hbus⟩ := linesOff_spec (u.ev F.SAF_EVENT.LOCKOUT)
  obtain ⟨hA, hB, hL⟩ := hsaf.lines
  have hev : (u.ev F.SAF_EVENT.LOCKOUT).flag F.SAF_EVENT.LOCKOUT = true := State.flag_ev_self (by decide) (by decide) u
  have hfar : (u.ev F.SAF_EVENT.LOCKOUT).reg Reg.SAF_FAULT = u.reg Reg.SAF_FAULT := State.reg_ev_ne _ _ _ (by decide)
  have hsame : (u.ev F.SAF_EVENT.LOCKOUT).saf = u.saf := State.ev_saf _ _
  generalize u.ev F.SAF_EVENT.LOCKOUT = v at *
  generalize linesOff v = w at *
  have hfault : t.reg Reg.SAF_FAULT = u.reg Reg.SAF_FAULT :=
    ((hregs Reg.SAF_FAULT (by rw [EntryReg]; decide)).trans (State.reg_of_bus_eq hbus _)).trans hfar
  have hevent : t.flag F.SAF_EVENT.LOCKOUT = true :=
    ((flag_of_reg_eq (hregs Reg.SAF_EVENT (by rw [EntryReg]; decide))).trans (flag_of_reg_eq (State.reg_of_bus_eq hbus _))).trans hev
  have hlatched : t.saf.latched = u.saf.latched := (hL.trans hkept).trans (congrArg Saf.latched hsame)
  refine ⟨hlocked, hA.trans hoffA, hB.trans hoffB, hevent, fun h => ?_, fun h => hfault.trans (hlater h)⟩
  obtain ⟨hset, hp, hc, hd⟩ := hfirst h
  exact ⟨(State.get_of_reg_eq (f := F.SAF_FAULT.PATH) hfault).trans hp, (State.get_of_reg_eq (f := F.SAF_FAULT.CLASS) hfault).trans hc,
    (State.get_of_reg_eq (f := F.SAF_FAULT.DETAIL) hfault).trans hd, hlatched.trans hset⟩

theorem faultShown_safFault {s : State} {path cls : Nat} (det : Nat) (hawake : s.awake = true) (hmode : s.mode ≠ .lockout) (hpath : path < 4)
    (hcls : cls < 256) : FaultShown s path cls (det % 65536) (safFault path cls det s) :=
  faultShown_of_entry (lockedOut_safFault path cls det hawake hmode) (entryKept_safFault path cls det hawake hmode)
    (fun h => faultNoted_first det h hpath hcls) fun h => reg_faultNoted_of_latched path cls det h _

theorem FaultShown.refresh {s t : State} {path cls det : Nat} (h : FaultShown s path cls det t) : FaultShown s path cls det (safRefresh t) := by
  obtain ⟨hlocked, ha, hb, hev, hfirst, hlater⟩ := h
  have hsaf := saf_safRefresh t
  have hfault : (safRefresh t).reg Reg.SAF_FAULT = t.reg Reg.SAF_FAULT := reg_safRefresh (by decide) t
  refine ⟨hlocked.of_onlyRegs (onlyRegs_safRefresh t), by rw [hsaf, ha], by rw [hsaf, hb], flag_safRefresh_event (by decide) hev,
    fun h => ?_, fun h => hfault.trans (hlater h)⟩
  obtain ⟨hp, hc, hd, hset⟩ := hfirst h
  exact ⟨(State.get_of_reg_eq (f := F.SAF_FAULT.PATH) hfault).trans hp, (State.get_of_reg_eq (f := F.SAF_FAULT.CLASS) hfault).trans hc,
    (State.get_of_reg_eq (f := F.SAF_FAULT.DETAIL) hfault).trans hd, by rw [hsaf, hset]⟩

/-- A state that differs from `s` in nothing a fault looks at. -/
structure SameForFault (s u : State) : Prop where
  pw : u.pw = s.pw
  latched : u.saf.latched = s.saf.latched
  fault : u.reg Reg.SAF_FAULT = s.reg Reg.SAF_FAULT

/-- A fault and the evaluation after it, found on a state that a fault sees as `s`. -/
theorem faultShown_of_same {s u : State} (h : SameForFault s u) {path cls det : Nat} (hawake : s.awake = true) (hmode : s.mode ≠ .lockout)
    (hpath : path < 4) (hcls : cls < 256) : FaultShown s path cls (det % 65536) (safRefresh (safFault path cls det u)) := by
  have hawake' : u.awake = true := by rw [State.awake, State.mode, h.pw]; exact hawake
  have hmode' : u.mode ≠ .lockout := by rw [State.mode, h.pw]; exact hmode
  have hshown := (faultShown_safFault det hawake' hmode' hpath hcls).refresh
  rw [FaultShown, h.latched, h.fault] at hshown
  exact hshown

theorem exec_brakeFeedbackTimeout {s : State} {b : Fin 2} {t0 t1 o j : Nat} (hawake : s.awake = true) (h0 : smFind s.saf.brkBad b.val = some t0)
    (h1 : smFind s.saf.brkBad (2 + b.val) = some t1) (hup : s.saf.coreDown = false) (hof : brakeOf s b.val = some (o, j))
    (hdue0 : t0 + 125000 * s.conf.sps.tBrk ≤ s.tb.tick) (hdue1 : t1 + 125000 * s.conf.sps.tBrk ≤ s.tb.tick) :
    exec (.brakeFeedbackTimeout b) s =
      .next (safRefresh (safFault 3 41 o { s with saf := { s.saf with brkBad := smErase (smErase s.saf.brkBad b.val) (2 + b.val) } })) := by
  have hlate0 : brakeLate s 0 b.val = true := by
    rw [brakeLate, Nat.zero_mul, Nat.zero_add, h0]
    exact decide_eq_true (by rw [sps, Nat.mul_comm]; exact hdue0)
  have hlate1 : brakeLate s 1 b.val = true := by
    rw [brakeLate, Nat.one_mul, h1]
    exact decide_eq_true (by rw [sps, Nat.mul_comm]; exact hdue1)
  refine congrArg Host.Outcome.next ?_
  rw [brakeTimeout, hof]
  simp [hawake, hlate0, hlate1, hup, pathFault]

theorem exec_eccDouble {s : State} {core : Sender} {a : Nat} (hacc : canAccess s core = true) (hlo : sramBase ≤ a) (hhi : a < sramBase + sramSize) :
    exec (.eccDoubleOnAccess core a) s = .next (sramDouble (setRdata core (wd s.draw.1) s.draw.2)) := by
  have hm : inArea a mramBase 0x2000000 = false := by
    have h1 : sramBase = 0x20000000 := rfl
    have h2 : mramBase = 0x08000000 := rfl
    rw [inArea, Bool.and_eq_false_iff]
    exact .inr (decide_eq_false (by omega))
  have hs : inArea a sramBase sramSize = true := by
    rw [inArea, decide_eq_true hlo, decide_eq_true hhi]
    rfl
  refine congrArg Host.Outcome.next ?_
  rw [eccAccess, if_pos hacc, hm, hs]
  rfl

/-! ### Discrepancies -/

theorem split_zipIdx {α : Type} {l : List α} {j : Nat} {q : α} (h : l[j]? = some q) (k : Nat) :
    ∃ l1 l2, l.zipIdx k = l1 ++ (q, k + j) :: l2 ∧ (∀ x, x ∈ l1 → x.2 ≠ k + j) ∧ ∀ x, x ∈ l2 → x.2 ≠ k + j := by
  induction l generalizing j k with
  | nil => simp at h
  | cons a l ih =>
    rw [List.zipIdx_cons]
    cases j with
    | zero =>
      have ha : a = q := by simpa using h
      refine ⟨[], _, by rw [ha]; rfl, fun x hx => absurd hx List.not_mem_nil, fun x hx => ?_⟩
      have := List.le_snd_of_mem_zipIdx hx
      omega
    | succ j =>
      obtain ⟨l1, l2, hl, hl1, hl2⟩ := ih (by simpa using h) (k + 1)
      have hj : k + 1 + j = k + (j + 1) := by omega
      rw [hj] at hl hl1 hl2
      refine ⟨(a, k) :: l1, l2, by rw [hl]; rfl, fun x hx => ?_, hl2⟩
      obtain rfl | hx := List.mem_cons.mp hx
      · simp
      · exact hl1 x hx

/-- One turn of a fold over a list, with a relation that every turn keeps and a reading that no other turn changes. -/
theorem State.forL_turn_rel {α β : Type} {R : State → State → Prop} (hrefl : ∀ s, R s s) (htrans : ∀ s t u, R s t → R t u → R s u)
    {read : State → β} {l1 l2 : List α} {x : α} {f : α → State → State} (hf : ∀ y t, R t (f y t))
    (h1 : ∀ y, y ∈ l1 → ∀ t, read (f y t) = read t) (h2 : ∀ y, y ∈ l2 → ∀ t, read (f y t) = read t) (s : State) :
    ∃ u, R s u ∧ read u = read s ∧ read (s.forL (l1 ++ x :: l2) f) = read (f x u) ∧ R (f x u) (s.forL (l1 ++ x :: l2) f) := by
  have happend : s.forL (l1 ++ x :: l2) f = (f x (s.forL l1 f)).forL l2 f := by simp [State.forL, List.foldl_append]
  refine ⟨s.forL l1 f, State.forL_rel hrefl htrans (fun y _ => hf y) s, State.read_forL h1 s, ?_, ?_⟩
  · rw [happend]
    exact State.read_forL h2 _
  · rw [happend]
    exact State.forL_rel hrefl htrans (fun y _ => hf y) _

/-- From `s` to `t` a quarter tick worked on pairs and nodes: the taps, the clock and the events stand, and so does a device in Lock-out. -/
structure TickKept (s t : State) : Prop where
  taps : t.saf.taps = s.saf.taps
  down : t.saf.coreDown = s.saf.coreDown
  awake : s.awake = true → t.awake = true
  locked : s.mode = .lockout → t.mode = .lockout
  events : ∀ i, i < 32 → s.flag ⟨Reg.SAF_EVENT, ⟨i, i⟩⟩ = true → t.flag ⟨Reg.SAF_EVENT, ⟨i, i⟩⟩ = true

namespace TickKept

theorem refl (s : State) : TickKept s s := ⟨rfl, rfl, id, id, fun _ _ h => h⟩

theorem trans {s t u : State} (hst : TickKept s t) (htu : TickKept t u) : TickKept s u :=
  ⟨htu.taps.trans hst.taps, htu.down.trans hst.down, fun h => htu.awake (hst.awake h), fun h => htu.locked (hst.locked h),
    fun i hi h => htu.events i hi (hst.events i hi h)⟩

theorem of_faultKept {s t : State} (h : FaultKept s t) : TickKept s t := by
  have hwork := TapWork.of_faultKept h
  exact ⟨hwork.2.1, hwork.2.2, h.awake, h.lockout, h.events⟩

theorem modPairSt (path j : Nat) (f : PairSt → PairSt) (s : State) : TickKept s (modPairSt path j f s) := ⟨rfl, rfl, id, id, fun _ _ h => h⟩

theorem modNode (path port node : Nat) (f : IlkNode → IlkNode) (s : State) : TickKept s (modNode path port node f s) :=
  ⟨rfl, rfl, id, id, fun _ _ h => h⟩

theorem event {i : Nat} (hi : i < 32) (s : State) : TickKept s (s.ev ⟨Reg.SAF_EVENT, ⟨i, i⟩⟩) := of_faultKept (.event hi s)

end TickKept

theorem pathIn_of_taps {s t : State} (h : t.saf.taps = s.saf.taps) : pathIn t = pathIn s := by
  funext path i
  rw [pathIn, pathIn, tapOf_of_taps h]


theorem tickKept_pathFault (core ecl : Bool) (cls det : Nat) (s : State) :
    TickKept s (pathFault core ecl cls det s) ∧ (pathFault core ecl cls det s).saf.pairs = s.saf.pairs := by
  have hkept := faultKept_pathFault core ecl cls det s
  have hsaf := hkept.saf
  rw [FaultSaf] at hsaf
  exact ⟨.of_faultKept hkept, by rw [hsaf]⟩

theorem pairSt_of_pairs {s t : State} (h : t.saf.pairs = s.saf.pairs) : pairSt t = pairSt s := by
  funext path j
  rw [pairSt, h, pairSt]

theorem pairSt_modPairSt_same (path j : Nat) (f : PairSt → PairSt) (s : State) : pairSt (modPairSt path j f s) path j = f (pairSt s path j) :=
  smGet_smMod_same PairSt.init s.saf.pairs (pk path j) f

theorem pairSt_modPairSt_ne {path path' j j' : Nat} (h : pk path' j' ≠ pk path j) (f : PairSt → PairSt) (s : State) :
    pairSt (modPairSt path j f s) path' j' = pairSt s path' j' := smGet_smMod_ne PairSt.init s.saf.pairs (pk path j) (pk path' j') f h

/-- A path's quarter tick of a pair. -/
def tickOf (q : SafetyPair) (j : Nat) (s : State) (path : Nat) : PairSt × Bool :=
  pairTick (pathIn s path q.a) (pathIn s path q.b) q.td (pairSt s path j)

/-- The counts of a pair after a quarter tick, on the paths that work. -/
def ticked (q : SafetyPair) (j : Nat) (s : State) : State :=
  modPairSt 1 j (fun _ => (tickOf q j s 1).1) (if !s.saf.coreDown then modPairSt 0 j (fun _ => (tickOf q j s 0).1) s else s)

/-- A working path raised the fault. -/
def tickHit (q : SafetyPair) (j : Nat) (s : State) : Bool := (!s.saf.coreDown && (tickOf q j s 0).2) || (tickOf q j s 1).2

theorem discrepancyPair_eq (q : SafetyPair) (j : Nat) (s : State) : discrepancyPair (q, j) s =
    pathFault (!s.saf.coreDown && (tickOf q j s 0).2) (tickOf q j s 1).2 (32 + q.func) q.a
      (if tickHit q j s then (ticked q j s).ev F.SAF_EVENT.DISC_FAULT else ticked q j s) := rfl

theorem tickKept_ticked (q : SafetyPair) (j : Nat) (s : State) : TickKept s (ticked q j s) := by
  rw [ticked]
  split
  · exact (TickKept.modPairSt 0 j _ s).trans (.modPairSt 1 j _ _)
  · exact .modPairSt 1 j _ s

theorem ticked_spec (q : SafetyPair) {j : Nat} (hj : j < 64) (s : State) :
    (∀ path, path < 2 → (path = 0 → s.saf.coreDown = false) → pairSt (ticked q j s) path j = (tickOf q j s path).1) ∧
    ∀ path k, path < 2 → k < 64 → k ≠ j → pairSt (ticked q j s) path k = pairSt s path k := by
  rw [ticked]
  refine ⟨fun path hpath hup => ?_, fun path k hpath hk hne => ?_⟩
  · obtain rfl | rfl : path = 1 ∨ path = 0 := by omega
    · rw [pairSt_modPairSt_same]
    · rw [pairSt_modPairSt_ne (by rw [pk, pk]; omega), hup rfl, Bool.not_false, if_pos rfl, pairSt_modPairSt_same]
  · rw [pairSt_modPairSt_ne (by rw [pk, pk]; omega)]
    split
    · rw [pairSt_modPairSt_ne (by rw [pk, pk]; omega)]
    · rfl

theorem mode_safFault {s : State} (path cls det : Nat) (hawake : s.awake = true) : (safFault path cls det s).mode = .lockout := by
  by_cases hmode : s.mode = .lockout
  · exact (faultKept_safFault path cls det s).lockout hmode
  · exact (lockedOut_safFault path cls det hawake hmode).1

theorem mode_pathFault {s : State} {core ecl : Bool} (cls det : Nat) (hawake : s.awake = true) (h : core = true ∨ ecl = true) :
    (pathFault core ecl cls det s).mode = .lockout := by
  rw [pathFault]
  split_ifs with hboth hcore hecl
  · exact mode_safFault _ _ _ hawake
  · exact mode_safFault _ _ _ hawake
  · exact mode_safFault _ _ _ hawake
  · obtain rfl | rfl := h
    · exact absurd rfl hcore
    · exact absurd rfl hecl

/-- The event of a fault that a quarter tick raised. -/
theorem tickEvent_spec (hit : Bool) (s : State) :
    TickKept s (if hit then s.ev F.SAF_EVENT.DISC_FAULT else s) ∧ (if hit then s.ev F.SAF_EVENT.DISC_FAULT else s).saf = s.saf ∧
      (hit = true → (if hit then s.ev F.SAF_EVENT.DISC_FAULT else s).flag F.SAF_EVENT.DISC_FAULT = true) := by
  cases hit with
  | true => exact ⟨.event (by decide) s, State.ev_saf s _, fun _ => State.flag_ev_self (by decide) (by decide) s⟩
  | false => exact ⟨.refl s, rfl, fun h => absurd h (by decide)⟩

theorem tickKept_discrepancyPair (q : SafetyPair × Nat) (s : State) : TickKept s (discrepancyPair q s) := by
  obtain ⟨q, j⟩ := q
  rw [discrepancyPair_eq]
  exact ((tickKept_ticked q j s).trans (tickEvent_spec _ _).1).trans (tickKept_pathFault _ _ _ _ _).1

theorem discrepancyPair_spec (q : SafetyPair) {j : Nat} (hj : j < 64) (s : State) :
    (∀ path, path < 2 → (path = 0 → s.saf.coreDown = false) → pairSt (discrepancyPair (q, j) s) path j = (tickOf q j s path).1 ∧
      (s.awake = true → (tickOf q j s path).2 = true →
        (discrepancyPair (q, j) s).mode = .lockout ∧ (discrepancyPair (q, j) s).flag F.SAF_EVENT.DISC_FAULT = true)) ∧
    ∀ path k, path < 2 → k < 64 → k ≠ j → pairSt (discrepancyPair (q, j) s) path k = pairSt s path k := by
  obtain ⟨hsame, hothers⟩ := ticked_spec q hj s
  obtain ⟨hevent, hsaf, hflag⟩ := tickEvent_spec (tickHit q j s) (ticked q j s)
  rw [discrepancyPair_eq]
  generalize (if tickHit q j s then (ticked q j s).ev F.SAF_EVENT.DISC_FAULT else ticked q j s) = u at hevent hsaf hflag ⊢
  obtain ⟨hfault, hpairs⟩ := tickKept_pathFault (!s.saf.coreDown && (tickOf q j s 0).2) (tickOf q j s 1).2 (32 + q.func) q.a u
  have hread := pairSt_of_pairs (hpairs.trans (congrArg Saf.pairs hsaf))
  refine ⟨fun path hpath hup => ⟨?_, fun hawake hhit => ?_⟩, fun path k hpath hk hne => ?_⟩
  · rw [hread, hsame path hpath hup]
  · have hany : (!s.saf.coreDown && (tickOf q j s 0).2) = true ∨ (tickOf q j s 1).2 = true := by
      obtain rfl | rfl : path = 1 ∨ path = 0 := by omega
      · exact .inr hhit
      · exact .inl (by rw [hup rfl, hhit]; rfl)
    have htick : tickHit q j s = true := by
      rw [tickHit, Bool.or_eq_true]
      exact hany
    exact ⟨mode_pathFault _ _ (((tickKept_ticked q j s).trans hevent).awake hawake) hany, hfault.events 2 (by decide) (hflag htick)⟩
  · rw [hread, hothers path k hpath hk hne]

/-- The counts of a node after a quarter tick. -/
def nodeTicked (q : Nat × Nat) (s : State) : State :=
  modNode 1 q.1 q.2 (fun x => { x with pair :=
      (pairTick (nodeContacts s 1 q).1 (nodeContacts s 1 q).2 (sps s).tdLb (nodeOf s 1 q.1 q.2).pair).1 })
    (if !s.saf.coreDown then modNode 0 q.1 q.2 (fun x => { x with pair :=
      (pairTick (nodeContacts s 0 q).1 (nodeContacts s 0 q).2 (sps s).tdLb (nodeOf s 0 q.1 q.2).pair).1 }) s else s)

theorem nodeTicked_spec (q : Nat × Nat) (s : State) : TickKept s (nodeTicked q s) ∧ (nodeTicked q s).saf.pairs = s.saf.pairs := by
  rw [nodeTicked]
  split
  · exact ⟨(TickKept.modNode 0 _ _ _ s).trans (.modNode 1 _ _ _ _), rfl⟩
  · exact ⟨.modNode 1 _ _ _ s, rfl⟩

theorem discrepancyNode_eq (q : Nat × Nat) (s : State) : ∃ (core ecl hit : Bool) (det : Nat), discrepancyNode q s =
    pathFault core ecl 33 det (if hit then (nodeTicked q s).ev F.SAF_EVENT.DISC_FAULT else nodeTicked q s) := ⟨_, _, _, _, rfl⟩

theorem discrepancyNode_spec (q : Nat × Nat) (s : State) : TickKept s (discrepancyNode q s) ∧ (discrepancyNode q s).saf.pairs = s.saf.pairs := by
  obtain ⟨core, ecl, hit, det, heq⟩ := discrepancyNode_eq q s
  obtain ⟨hticked, hpairs⟩ := nodeTicked_spec q s
  obtain ⟨hevent, hsaf, -⟩ := tickEvent_spec hit (nodeTicked q s)
  rw [heq]
  generalize (if hit = true then (nodeTicked q s).ev F.SAF_EVENT.DISC_FAULT else nodeTicked q s) = u at hevent hsaf ⊢
  obtain ⟨hfault, hpairs'⟩ := tickKept_pathFault core ecl 33 det u
  exact ⟨(hticked.trans hevent).trans hfault, hpairs'.trans ((congrArg Saf.pairs hsaf).trans hpairs)⟩

/-- A quarter tick of the pairs and nodes. -/
theorem tick_spec {s : State} {q : SafetyPair} {j : Nat} (hlen : s.conf.sps.pairs.length ≤ 64) (hq : s.conf.sps.pairs[j]? = some q)
    {path : Nat} (hpath : path < 2) (hup : path = 0 → s.saf.coreDown = false) (hawake : s.awake = true) :
    pairSt ((s.forL (pairsIx s) discrepancyPair).forL (safeNodes s) discrepancyNode) path j = (tickOf q j s path).1 ∧
      ((tickOf q j s path).2 = true → ((s.forL (pairsIx s) discrepancyPair).forL (safeNodes s) discrepancyNode).mode = .lockout ∧
        ((s.forL (pairsIx s) discrepancyPair).forL (safeNodes s) discrepancyNode).flag F.SAF_EVENT.DISC_FAULT = true) := by
  obtain ⟨l1, l2, hl, hl1, hl2⟩ := split_zipIdx hq 0
  rw [Nat.zero_add] at hl hl1 hl2
  have hlt : ∀ x, x ∈ pairsIx s → x.2 < 64 := fun x hx => by
    have := List.snd_lt_of_mem_zipIdx hx
    rw [sps] at this
    omega
  have hsplit : pairsIx s = l1 ++ (q, j) :: l2 := hl
  have hj : j < 64 := hlt (q, j) (by rw [hsplit]; simp)
  have hkeep : ∀ x, x.2 < 64 → x.2 ≠ j → ∀ t, pairSt (discrepancyPair x t) path j = pairSt t path j := fun x hx hne t =>
    (discrepancyPair_spec x.1 hx t).2 path j hpath hj (Ne.symm hne)
  obtain ⟨u, hsu, hread, hturn, hrest⟩ := State.forL_turn_rel (R := TickKept) .refl (fun _ _ _ => .trans) (read := fun t => pairSt t path j)
    (l1 := l1) (l2 := l2) (x := (q, j)) (f := discrepancyPair) tickKept_discrepancyPair
    (fun y hy => hkeep y (hlt y (by rw [hsplit]; simp [hy])) (hl1 y hy)) (fun y hy => hkeep y (hlt y (by rw [hsplit]; simp [hy])) (hl2 y hy)) s
  have htick : tickOf q j u path = tickOf q j s path := by
    rw [tickOf, tickOf, pathIn_of_taps hsu.taps, hread]
  obtain ⟨hpair, hhit⟩ := (discrepancyPair_spec q hj u).1 path hpath fun h => hsu.down.trans (hup h)
  rw [htick] at hpair hhit
  rw [hsplit]
  generalize s.forL (l1 ++ (q, j) :: l2) discrepancyPair = v at hturn hrest ⊢
  have hnodes : TickKept v (v.forL (safeNodes s) discrepancyNode) :=
    State.forL_rel .refl (fun _ _ _ => .trans) (fun y _ t => (discrepancyNode_spec y t).1) v
  have hpairs : (v.forL (safeNodes s) discrepancyNode).saf.pairs = v.saf.pairs :=
    State.read_forL (read := fun t => t.saf.pairs) (fun y _ t => (discrepancyNode_spec y t).2) v
  refine ⟨?_, fun h => ?_⟩
  · rw [pairSt_of_pairs hpairs]
    exact hturn.trans hpair
  · obtain ⟨hmode, hflag⟩ := hhit (hsu.awake hawake) h
    exact ⟨hnodes.locked (hrest.locked hmode), hnodes.events 2 (by decide) (hrest.events 2 (by decide) hflag)⟩

/-! ### The tape -/

theorem tape_pathFault (core ecl : Bool) (cls det : Nat) (s : State) : (pathFault core ecl cls det s).saf.tape = s.saf.tape := by
  have hsaf := (faultKept_pathFault core ecl cls det s).saf
  rw [FaultSaf] at hsaf
  rw [hsaf]

theorem tapeTake_spec (word t : Nat) (s : State) : (tapeTake word t s).saf.tape.ok = true ∧ (tapeTake word t s).saf.tape.t = t ∧
    (tapeTake word t s).saf.tape.pos = (word % 2 ^ 40 : Nat) * (s.conf.sps.tapeLsb : Int) / 1000 + s.conf.sps.tapeOfs := by
  rw [tapeTake]
  dsimp only
  rw [saf_safRefresh, tape_pathFault, tape_pathFault]
  exact ⟨rfl, rfl, rfl⟩

/-- A sample of a serial channel changes neither the mode nor the set in force. -/
theorem serSample_kept (p word t : Nat) (s : State) : (serSample p word t s).pw = s.pw ∧ (serSample p word t s).conf = s.conf := by
  have hlatch : ∀ n d u, (latchSample n t d u).pw = u.pw ∧ (latchSample n t d u).conf = u.conf := fun n d u => by
    rw [latchSample_frame n t d u]
    exact ⟨rfl, rfl⟩
  have hedge : ∀ (b : Bool) c n dn u, (if b then perEdge n t c dn u else u).pw = u.pw ∧ (if b then perEdge n t c dn u else u).conf = u.conf :=
    fun b c n dn u => by
      cases b with
      | false => exact ⟨rfl, rfl⟩
      | true =>
        obtain ⟨-, -, hframe⟩ := (perEdge_spec n t c dn u).1
        rw [if_pos rfl, hframe]
        exact ⟨rfl, rfl⟩
  have hfb : ∀ n f, (s.modFb n f).pw = s.pw ∧ (s.modFb n f).conf = s.conf := fun _ _ => ⟨rfl, rfl⟩
  rw [serSample]
  dsimp only
  split
  · exact ⟨rfl, rfl⟩
  · exact ⟨((hlatch _ _ _).1.trans (hedge _ _ _ _ _).1).trans (hfb _ _).1, ((hlatch _ _ _).2.trans (hedge _ _ _ _ _).2).trans (hfb _ _).2⟩

theorem tapeSeen_of_car {s : State} (hcar : isCar s = true) (hservo : s.servoOn = true) (word t : Nat) :
    tapeSeen 0 true word t s = tapeTake word t s := by
  rw [tapeSeen, hcar, hservo]
  rfl

/-! ### The statement -/

theorem fault_clause {s : State} {i : Instr} {path cls det : Nat} (hawake : s.awake = true) (hmode : s.mode ≠ .lockout)
    (hi : i = .safetyCoreLockstepError ∧ path = 2 ∧ cls = 3 ∧ det = 0 ∨
        i = .eclipseSelftest false ∧ s.saf.coreDown = false ∧ path = 1 ∧ cls = 4 ∧ det = 0 ∨
        i = .sramScrub true ∧ s.flag F.SAF_STAT.DIAG_SUSP = false ∧ path = 1 ∧ cls = 2 ∧ det = 0 ∨
        (∃ off : Fin 0x2000000, i = .mramScrub (some off) ∧ mramVital s off.val = true ∧ s.flag F.SAF_STAT.DIAG_SUSP = false ∧
          path = 1 ∧ cls = 2 ∧ det = 0) ∨
        (∃ (core : Sender) (a : Nat), i = .eccDoubleOnAccess core a ∧ canAccess s core = true ∧ sramBase ≤ a ∧ a < sramBase + sramSize ∧
          path = 1 ∧ cls = 2 ∧ det = 0) ∨
        (∃ (b : Fin 2) (t0 t1 o j : Nat), i = .brakeFeedbackTimeout b ∧ smFind s.saf.brkBad b.val = some t0 ∧
          smFind s.saf.brkBad (2 + b.val) = some t1 ∧ s.saf.coreDown = false ∧ brakeOf s b.val = some (o, j) ∧
          t0 + 125000 * s.conf.sps.tBrk ≤ s.tb.tick ∧ t1 + 125000 * s.conf.sps.tBrk ≤ s.tb.tick ∧ path = 3 ∧ cls = 41 ∧
          det = o % 65536)) : Completes i s (FaultShown s path cls det) := by
  have hsame : SameForFault s s := ⟨rfl, rfl, rfl⟩
  have hsaf : ∀ x : Saf, x.latched = s.saf.latched → SameForFault s { s with saf := x } := fun _ h => ⟨rfl, h, rfl⟩
  have hshown : ∀ {u : State} {path cls det : Nat}, SameForFault s u → path < 4 → cls < 256 →
      FaultShown s path cls (det % 65536) (safRefresh (safFault path cls det u)) := fun h => faultShown_of_same h hawake hmode
  obtain ⟨rfl, rfl, rfl, rfl⟩ | ⟨rfl, hup, rfl, rfl, rfl⟩ | ⟨rfl, hdiag, rfl, rfl, rfl⟩ | ⟨off, rfl, hvital, hdiag, rfl, rfl, rfl⟩ |
    ⟨core, a, rfl, hacc, hlo, hhi, rfl, rfl, rfl⟩ | ⟨b, t0, t1, o, j, rfl, h0, h1, hup, hof, hdue0, hdue1, rfl, rfl, rfl⟩ := hi
  case inl =>
    refine ⟨_, congrArg Host.Outcome.next (if_pos hawake), hshown (det := 0) (hsaf _ rfl) (by decide) (by decide)⟩
  case inr.inl =>
    refine ⟨_, congrArg Host.Outcome.next ((if_pos hawake).trans (if_neg ?_)), hshown (det := 0) (hsaf _ rfl) (by decide) (by decide)⟩
    simp [hup]
  case inr.inr.inl =>
    refine ⟨_, congrArg Host.Outcome.next (if_pos ?_), hshown (det := 0) hsame (by decide) (by decide)⟩
    simp [scrubOn, hawake, hdiag]
  case inr.inr.inr.inl =>
    refine ⟨_, congrArg Host.Outcome.next ((if_pos ?_).trans (if_pos hvital)), hshown (det := 0) hsame (by decide) (by decide)⟩
    simp [scrubOn, hawake, hdiag]
  case inr.inr.inr.inr.inl =>
    exact ⟨_, exec_eccDouble hacc hlo hhi, hshown (det := 0) ⟨rfl, rfl, rfl⟩ (by decide) (by decide)⟩
  case inr.inr.inr.inr.inr =>
    exact ⟨_, exec_brakeFeedbackTimeout hawake h0 h1 hup hof hdue0 hdue1, hshown (hsaf _ rfl) (by decide) (by decide)⟩

theorem scrub_clause {s : State} (hawake : s.awake = true) :
    Completes (.eclipseSelftest true) s (fun t => t = { s with saf := { s.saf with eclFail := false } }) ∧
      Completes (.sramScrub false) s (fun t => t = s) ∧ Completes (.mramScrub none) s (fun t => t = s) ∧
      (∀ off : Fin 0x2000000, mramVital s off.val = false → s.flag F.SAF_STAT.DIAG_SUSP = false →
        Completes (.mramScrub (some off)) s (fun t => t.mode = s.mode ∧ t.nv.lc = s.nv.lc ∧ t = { s with bus := t.bus, rcd := t.rcd, nv := t.nv })) := by
  refine ⟨⟨_, congrArg Host.Outcome.next ((if_pos hawake).trans (if_pos rfl)), rfl⟩,
    ⟨_, congrArg Host.Outcome.next (if_neg (by rw [Bool.and_false]; decide)), rfl⟩, ⟨_, rfl, rfl⟩, fun off hvital hdiag => ?_⟩
  have hon : scrubOn s = true := by simp [scrubOn, hawake, hdiag]
  have hexec : exec (.mramScrub (some off)) s = .next (enqueue false ⟨0, 0, 0x13, s.tb.sec, s.tb.ns, items [mramBase + off.val]⟩ s) :=
    congrArg Host.Outcome.next ((if_pos hon).trans (if_neg (by rw [hvital]; decide)))
  refine ⟨_, hexec, ?_⟩
  obtain ⟨-, hframe⟩ := recorderOnly_enqueue false ⟨0, 0, 0x13, s.tb.sec, s.tb.ns, items [mramBase + off.val]⟩ s
  generalize enqueue false ⟨0, 0, 0x13, s.tb.sec, s.tb.ns, items [mramBase + off.val]⟩ s = t at hframe
  exact ⟨by rw [State.mode, hframe, State.mode], by rw [hframe], by rw [hframe]⟩

theorem tick_clause {s : State} {j : Nat} {q : SafetyPair} {path n : Nat} (hawake : s.awake = true) (hlen : s.conf.sps.pairs.length ≤ 64)
    (hq : s.conf.sps.pairs[j]? = some q) (hpath : path < 2) (hup : path = 0 → s.saf.coreDown = false) (hn : n = (pairSt s path j).cnt) :
    Completes .discrepancyTick s (fun t =>
        (pathIn s path q.a = pathIn s path q.b → (pairSt t path j).cnt = 0 ∧ (pairSt t path j).need = (pairSt s path j).need) ∧
        (pathIn s path q.a ≠ pathIn s path q.b → (pairSt t path j).cnt = min 4000 (n + 1) ∧
          (n < 4000 → 1 ≤ q.td → n + 2 = 4 * q.td → (pairSt t path j).need = 3 ∧ t.flag F.SAF_EVENT.DISC_FAULT = true ∧
            t.mode = .lockout))) := by
  obtain ⟨hpair, hhit⟩ := tick_spec hlen hq hpath hup hawake
  refine ⟨_, congrArg Host.Outcome.next (if_pos hawake), ?_⟩
  generalize (s.forL (pairsIx s) discrepancyPair).forL (safeNodes s) discrepancyNode = v at hpair hhit ⊢
  rw [pairSt_of_pairs (congrArg Saf.pairs (saf_safRefresh v)), hpair, mode_safRefresh, tickOf, pairTick]
  rw [tickOf, pairTick] at hhit
  dsimp only at hhit ⊢
  rw [← hn] at hhit ⊢
  refine ⟨fun hagree => ?_, fun hdiffer => ?_⟩
  · rw [hagree]
    simp
  · have hne : (pathIn s path q.a != pathIn s path q.b) = true := by rw [bne_iff_ne]; exact hdiffer
    rw [hne] at hhit ⊢
    refine ⟨if_pos rfl, fun hlt htd hdue => ?_⟩
    have hmin : min 4000 (n + 1) = n + 1 := by omega
    have hraised : (true && (if true = true then min 4000 (n + 1) else 0) != n && (if true = true then min 4000 (n + 1) else 0) == 4 * q.td - 1) = true := by
      rw [if_pos rfl, hmin]
      simp
      omega
    obtain ⟨hmode, hflag⟩ := hhit hraised
    exact ⟨if_pos hraised, flag_safRefresh_event (by decide) hflag, hmode⟩

theorem tape_clause {s : State} {p : Fin 8} {r : KspResp} (hcar : isCar s = true) (hp : p.val = 0) (hservo : s.servoOn = true)
    (hvalid : kspValid r = true) (hnego : (s.ser p.val).nego = none) (hbusy : (s.ser p.val).busy = true)
    (hstate : s.get (F.FBK_PORT_STAT.STATE p.val) = 2) : Completes (.kspTransactionDone p r) s (fun t => t.saf.tape.ok = true ∧
        t.saf.tape.t = r.t ∧ t.saf.tape.pos = (r.data % 2 ^ 40 : Nat) * (s.conf.sps.tapeLsb : Int) / 1000 + s.conf.sps.tapeOfs) := by
  have hdone : kspDone p.val r s = serSample p.val r.data r.t ((kspTaken p.val r s).modSer p.val (fun x => { x with busy := false })) := by
    rw [kspDone_of_pos r hnego hstate hbusy, posDone]
    exact if_pos hvalid
  have hended := transferEnded_pos p.isLt r s
  have hpw : ((kspTaken p.val r s).modSer p.val (fun x => { x with busy := false })).pw = s.pw := by
    rw [State.modSer_pw, (serTurn_kspTaken p.val r s).2.2.2]
  obtain ⟨hpw', hconf'⟩ := serSample_kept p.val r.data r.t ((kspTaken p.val r s).modSer p.val (fun x => { x with busy := false }))
  have hpos : (posBusy s p.val && serState s p.val == 2) = true := by
    rw [posBusy, serState, hnego, hbusy, hstate]
    rfl
  have hexec : exec (.kspTransactionDone p r) s = .next (tapeSeen p.val true r.data r.t (kspDone p.val r s)) := by
    refine congrArg Host.Outcome.next ((if_pos hpos).trans ?_)
    rw [hvalid]
  rw [← hdone] at hpw' hconf'
  have hconf : (kspDone p.val r s).conf = s.conf := hconf'.trans hended.2.2.2.2
  rw [hp, tapeSeen_of_car (by rw [isCar, ← hp, hconf]; exact hcar) (by rw [State.servoOn, State.mode, ← hp, hpw', hpw]; exact hservo)] at hexec
  refine ⟨_, hexec, ?_⟩
  rw [← hconf, hp]
  exact tapeTake_spec _ _ _

/-- Settles O48: a fault enters Lock-out with the lines off and is shown once, a quarter tick works on each pair by itself, and the tape's
position stands through the faults it may raise. -/
theorem faultsAndDiscrepanciesEnterLockOut : Obligations.FaultsAndDiscrepanciesEnterLockOut :=
  ⟨⟨fun _ _ _ _ _ => fault_clause, fun _ => scrub_clause⟩, fun _ _ _ _ _ => tick_clause, fun _ _ _ => tape_clause⟩

end Sys2Proof.Machine
end

section
/-!
PROOF. The deliberate reset, suspended diagnostics and the proof test (15 R476 to R483).
-/

namespace Sys2Proof.Machine

open Sys2Proof

/-! ### What a reset request reads -/

/-- From `s` to `t` registers, and the hold of the reset pair, changed. -/
def HoldTaken (s t : State) : Prop := t = { s with bus := t.bus, saf := { s.saf with rstHold := t.saf.rstHold } }

theorem HoldTaken.trans {s t u : State} (hst : HoldTaken s t) (htu : HoldTaken t u) : HoldTaken s u := by
  rw [HoldTaken] at *
  rw [htu, hst]

section
variable {s t : State} (h : HoldTaken s t)

include h

theorem HoldTaken.kept : t.saf.taps = s.saf.taps ∧ t.conf = s.conf ∧ t.pw = s.pw ∧ t.nv = s.nv := by
  rw [HoldTaken] at h
  rw [h]
  exact ⟨rfl, rfl, rfl, rfl⟩

theorem faultPersists_of_holdTaken (path : Nat) : faultPersists t path = faultPersists s path := by
  rw [HoldTaken] at h
  generalize t.bus = b at h
  generalize t.saf.rstHold = x at h
  subst h
  rfl

theorem pathCode_of_holdTaken (hlink : ∀ g, g < 5 → t.get (F.FIO_GRP_STAT.LINK g) = s.get (F.FIO_GRP_STAT.LINK g)) (path : Nat) (key : Bool) :
    pathCode t path key = pathCode s path key := by
  have hup : groupsUp t = groupsUp s := by
    rw [groupsUp, groupsUp, Bool.eq_iff_iff, List.all_eq_true, List.all_eq_true]
    exact forall_congr' fun g => forall_congr' fun hg => by rw [hlink g (List.mem_range.mp hg)]
  obtain ⟨htaps, hconf, -, -⟩ := h.kept
  have hquiet : linesQuiet t path = linesQuiet s path := by rw [linesQuiet, linesQuiet, tapOf_of_taps htaps]
  have hkey : pathNamed t path (some (sps t).key) = pathNamed s path (some (sps s).key) := by
    rw [pathNamed, pathNamed, pathIn_of_taps htaps, sps, sps, hconf]
  rw [pathCode, pathCode, faultPersists_of_holdTaken h, hup, hquiet, hkey]

theorem resetCode_of_holdTaken (hlink : ∀ g, g < 5 → t.get (F.FIO_GRP_STAT.LINK g) = s.get (F.FIO_GRP_STAT.LINK g)) (key : Bool) :
    resetCode t key = resetCode s key := by
  obtain ⟨-, -, hpw, hnv⟩ := h.kept
  have hmode : t.mode = s.mode := by rw [State.mode, hpw, State.mode]
  rw [resetCode, resetCode, hmode, hnv, pathCode_of_holdTaken h hlink, pathCode_of_holdTaken h hlink]

end

/-! ### Refused and accepted requests -/

theorem refusalCode_lt {s : State} {key : Bool} {c : Nat} (h : resetCode s key = some c) : c < 16 := by
  have hpath : ∀ path, pathCode s path key < 16 := fun path => by
    rw [pathCode]
    split_ifs <;> decide
  rw [resetCode] at h
  split_ifs at h
  · cases h; decide
  · cases h; decide
  · split at h
    · cases h
    · cases h; decide
    · cases h; decide
    · cases h; exact hpath 0

/-- A record keeps the mode, the life-cycle record, the paths, the field side and the sets in force. -/
theorem enqueue_kept (safety : Bool) (e : RecEv) (s : State) : (enqueue safety e s).pw = s.pw ∧ (enqueue safety e s).nv.lc = s.nv.lc ∧
    (enqueue safety e s).saf = s.saf ∧ (enqueue safety e s).fio = s.fio ∧ (enqueue safety e s).conf = s.conf := by
  obtain ⟨-, hframe⟩ := recorderOnly_enqueue safety e s
  generalize enqueue safety e s = t at *
  rw [hframe]
  exact ⟨rfl, rfl, rfl, rfl, rfl⟩

/-- A refused request, from the state on which it was judged. -/
theorem resetRefused_spec {c : Nat} (hc : c < 16) (t : State) : (resetRefused c t).get F.SAF_RESET_STAT.REJ = c ∧
    (resetRefused c t).get F.SAF_RESET_STAT.SRC = t.get F.SAF_RESET_STAT.SRC ∧ (resetRefused c t).flag F.SAF_EVENT.RESET_REJ = true ∧
    (resetRefused c t).pw = t.pw ∧ (resetRefused c t).nv.lc = t.nv.lc ∧ (resetRefused c t).saf = t.saf ∧
    (resetRefused c t).reg Reg.SAF_FAULT = t.reg Reg.SAF_FAULT := by
  obtain ⟨hregs, -⟩ := recorderOnly_enqueue true
    ⟨8, 0, 0x12, ((t.put F.SAF_RESET_STAT.REJ c).ev F.SAF_EVENT.RESET_REJ).tb.sec, ((t.put F.SAF_RESET_STAT.REJ c).ev F.SAF_EVENT.RESET_REJ).tb.ns,
      items [(((t.put F.SAF_RESET_STAT.REJ c).ev F.SAF_EVENT.RESET_REJ).reg Reg.SAF_RESET_STAT).toNat]⟩
    ((t.put F.SAF_RESET_STAT.REJ c).ev F.SAF_EVENT.RESET_REJ)
  have hput : (t.put F.SAF_RESET_STAT.REJ c).get F.SAF_RESET_STAT.REJ = c := by
    rw [State.get_put_self (by decide) (by decide)]
    exact Nat.mod_eq_of_lt (by omega)
  have hsrc : (t.put F.SAF_RESET_STAT.REJ c).get F.SAF_RESET_STAT.SRC = t.get F.SAF_RESET_STAT.SRC :=
    State.get_put_disjoint (by decide) (by decide) (.inl (by decide)) _ _ _
  have hfault : (t.put F.SAF_RESET_STAT.REJ c).reg Reg.SAF_FAULT = t.reg Reg.SAF_FAULT := State.reg_put_ne _ _ _ _ (by decide)
  have hkept : (t.put F.SAF_RESET_STAT.REJ c).pw = t.pw ∧ (t.put F.SAF_RESET_STAT.REJ c).nv = t.nv ∧ (t.put F.SAF_RESET_STAT.REJ c).saf = t.saf :=
    ⟨State.put_pw _ _ _, State.put_nv _ _ _, State.put_saf _ _ _⟩
  obtain ⟨hpw, hnv, hsaf⟩ := hkept
  obtain ⟨hpw', hlc', hsaf', -, -⟩ := enqueue_kept true
    ⟨8, 0, 0x12, ((t.put F.SAF_RESET_STAT.REJ c).ev F.SAF_EVENT.RESET_REJ).tb.sec, ((t.put F.SAF_RESET_STAT.REJ c).ev F.SAF_EVENT.RESET_REJ).tb.ns,
      items [(((t.put F.SAF_RESET_STAT.REJ c).ev F.SAF_EVENT.RESET_REJ).reg Reg.SAF_RESET_STAT).toNat]⟩
    ((t.put F.SAF_RESET_STAT.REJ c).ev F.SAF_EVENT.RESET_REJ)
  rw [resetRefused, recordSafety]
  generalize t.put F.SAF_RESET_STAT.REJ c = u at *
  generalize enqueue true _ _ = v at *
  have hreg : ∀ a, a ∉ [Reg.REC_EVENT, Reg.REC_LOST] → a ≠ Reg.SAF_EVENT → v.reg a = u.reg a := fun a ha hne =>
    (hregs a ha).trans (State.reg_ev_ne _ _ _ hne)
  have hstat := hreg Reg.SAF_RESET_STAT (by decide) (by decide)
  refine ⟨(State.get_of_reg_eq (f := F.SAF_RESET_STAT.REJ) hstat).trans hput, (State.get_of_reg_eq (f := F.SAF_RESET_STAT.SRC) hstat).trans hsrc,
    (flag_of_reg_eq (f := F.SAF_EVENT.RESET_REJ) (hregs _ (by decide))).trans (State.flag_ev_self (by decide) (by decide) u),
    (hpw'.trans (State.ev_pw u _)).trans hpw, ?_, (hsaf'.trans (State.ev_saf u _)).trans hsaf, (hreg _ (by decide) (by decide)).trans hfault⟩
  rw [hlc', State.ev_nv, hnv]

/-! ### An accepted request -/

/-- What stands while a request that waits is dropped. -/
theorem reqDrop_kept (s : State) : (reqDrop s).mode = s.mode ∧ (reqDrop s).saf = s.saf ∧ (reqDrop s).conf = s.conf ∧ (reqDrop s).fio = s.fio ∧
    ∀ a, a ≠ Reg.PCM_EVENT → (reqDrop s).reg a = s.reg a := by
  rw [reqDrop]
  split
  · refine ⟨rfl, State.ev_saf _ _, State.ev_conf _ _, State.ev_fio _ _, fun a ha => State.reg_ev_ne _ _ _ ha⟩
  · exact ⟨rfl, rfl, rfl, rfl, fun _ _ => rfl⟩

/-- The flag, SAF_FAULT and the latches of the paths cleared; Watch follows. -/
def resetCleared (s0 : State) : State :=
  let s := reqDrop s0
  let a := { s with nv := { s.nv with lc := { s.nv.lc with lockout := false } } }
  let b := a.setReg Reg.SAF_FAULT (a.reg Reg.SAF_FAULT &&& wd (3 * 2 ^ 30))
  { b with
    saf := { b.saf with
      trip := 0
      stops := []
      latched := false
      pairs := b.saf.pairs.map (fun (e : Nat × PairSt) => (e.1, pairReset e.2))
      nodes := b.saf.nodes.map (fun (e : Nat × IlkNode) => (e.1, { e.2 with pair := pairReset e.2.pair })) }
    pw := { b.pw with delReset := true, trans := some .watch, trigger := 10 } }

theorem resetAccepted_eq (s : State) : resetAccepted s =
    let d := ((resetCleared s).forN 32 clearSafeOut).ev F.SAF_EVENT.RESET_DONE
    pairsFollow (recordSafety 0 0x12 (items [(d.reg Reg.SAF_RESET_STAT).toNat]) d) := rfl

/-- A field of a word of which only bits 31 and 30 are left. -/
theorem getF_tagOnly (w : Word) {hi' lo : Nat} (hhi : hi' < 30) : getF ⟨hi', lo⟩ (w &&& wd (3 * 2 ^ 30)) = 0 := by
  have hlow : (w &&& wd (3 * 2 ^ 30)).toNat % 2 ^ 30 = 0 := by
    rw [BitVec.toNat_and, Nat.and_mod_two_pow]
    exact Nat.and_zero _
  refine Nat.eq_of_testBit_eq fun i => ?_
  rw [getF, Nat.zero_testBit, Nat.testBit_mod_two_pow, Nat.testBit_div_two_pow]
  by_cases hi : i < bitsLen ⟨hi', lo⟩
  · have hbit := congrArg (fun n => Nat.testBit n (i + lo)) hlow
    simp only [Nat.testBit_mod_two_pow, Nat.zero_testBit] at hbit
    have hlt : i + lo < 30 := by
      have hlen : i < hi' + 1 - lo := hi
      omega
    simpa [hlt, hi] using hbit
  · simp [hi]

/-- What an accepted reset has done before the safety outputs are cleared, from the state in which it was judged. -/
structure Cleared (s t : State) : Prop where
  lockout : t.nv.lc.lockout = false
  trans : t.pw.trans = some .watch
  done : t.pw.delReset = true
  mode : t.mode = s.mode
  trip : t.saf.trip = 0
  latched : t.saf.latched = false
  conf : t.conf = s.conf
  path : t.get F.SAF_FAULT.PATH = 0
  cls : t.get F.SAF_FAULT.CLASS = 0
  detail : t.get F.SAF_FAULT.DETAIL = 0
  stat : t.reg Reg.SAF_RESET_STAT = s.reg Reg.SAF_RESET_STAT

theorem cleared_resetCleared (s : State) : Cleared s (resetCleared s) := by
  obtain ⟨hmode, hsaf, hconf, -, hregs⟩ := reqDrop_kept s
  rw [resetCleared]
  generalize reqDrop s = u at *
  have hfield : ∀ {hi lo : Nat}, hi < 30 → getF ⟨hi, lo⟩ ((u.setReg Reg.SAF_FAULT (u.reg Reg.SAF_FAULT &&& wd (3 * 2 ^ 30))).reg Reg.SAF_FAULT) = 0 :=
    fun hhi => by rw [State.reg_setReg_same]; exact getF_tagOnly _ hhi
  exact ⟨rfl, rfl, rfl, hmode, rfl, rfl, hconf, hfield (by decide), hfield (by decide), hfield (by decide),
    (State.reg_setReg_ne u _ _ _ (by decide)).trans (hregs _ (by decide))⟩

/-- Steps that leave what an accepted reset has done. -/
theorem Cleared.of_kept {s t u : State} (h : Cleared s t) (hpw : u.pw = t.pw) (hlc : u.nv.lc = t.nv.lc) (hsaf : u.saf.trip = t.saf.trip ∧ u.saf.latched = t.saf.latched)
    (hconf : u.conf = t.conf) (hfault : u.reg Reg.SAF_FAULT = t.reg Reg.SAF_FAULT) (hstat : u.reg Reg.SAF_RESET_STAT = t.reg Reg.SAF_RESET_STAT) :
    Cleared s u := by
  have hget : ∀ b, u.get ⟨Reg.SAF_FAULT, b⟩ = t.get ⟨Reg.SAF_FAULT, b⟩ := fun b => State.get_of_reg_eq (f := ⟨Reg.SAF_FAULT, b⟩) hfault
  exact ⟨by rw [hlc]; exact h.lockout, by rw [hpw]; exact h.trans, by rw [hpw]; exact h.done, by rw [State.mode, hpw]; exact h.mode,
    hsaf.1.trans h.trip, hsaf.2.trans h.latched, hconf.trans h.conf, (hget _).trans h.path, (hget _).trans h.cls, (hget _).trans h.detail,
    hstat.trans h.stat⟩

/-- Work on the dies alone. -/
def OnlyDies (s t : State) : Prop := t = { s with fio := { s.fio with dies := t.fio.dies } }

theorem OnlyDies.trans {s t u : State} (hst : OnlyDies s t) (htu : OnlyDies t u) : OnlyDies s u := by
  rw [OnlyDies] at *
  rw [htu, hst]

theorem clearSafeOut_spec (n : Nat) (s : State) : OnlyDies s (clearSafeOut n s) ∧ (safeOut s n = true → (outSt (clearSafeOut n s) n).stuck = 0) ∧
    ∀ m, m ≠ n → outSt (clearSafeOut n s) m = outSt s m := by
  rw [clearSafeOut]
  split
  · exact ⟨rfl, fun _ => by rw [outSt_modOut_same], fun m hm => outSt_modOut_ne hm _ s⟩
  next h => exact ⟨rfl, fun hsafe => absurd hsafe h, fun _ _ => rfl⟩

theorem safeOuts_cleared (s : State) : OnlyDies s (s.forN 32 clearSafeOut) ∧
    ∀ n, n < 32 → safeOut s n = true → (outSt (s.forN 32 clearSafeOut) n).stuck = 0 := by
  refine ⟨State.forN_rel (R := OnlyDies) (fun _ => rfl) (fun _ _ _ => .trans) (fun n _ t => (clearSafeOut_spec n t).1) s, fun n hn hsafe => ?_⟩
  obtain ⟨u, hsu, -, hturn, -⟩ := State.forN_turn_rel (R := OnlyDies) (fun _ => rfl) (fun _ _ _ => .trans) (read := fun t => outSt t n) (n := 32)
    (f := clearSafeOut) hn (fun m _ t => (clearSafeOut_spec m t).1) (fun m _ hm t => (clearSafeOut_spec m t).2.2 n (Ne.symm hm)) s
  have hsafe' : safeOut u n = true := by rw [safeOut, hsu]; exact hsafe
  exact (congrArg OutSt.stuck hturn).trans ((clearSafeOut_spec n u).2.1 hsafe')

/-- Pairs that follow the inputs. -/
def OnlyPairs (s t : State) : Prop := t = { s with saf := { s.saf with pairs := t.saf.pairs } }

theorem OnlyPairs.trans {s t u : State} (hst : OnlyPairs s t) (htu : OnlyPairs t u) : OnlyPairs s u := by
  rw [OnlyPairs] at *
  rw [htu, hst]

theorem onlyPairs_pairsFollow (s : State) : OnlyPairs s (pairsFollow s) :=
  State.forL_rel (R := OnlyPairs) (fun _ => rfl) (fun _ _ _ => .trans)
    (fun q _ t => State.forN_rel (R := OnlyPairs) (fun _ => rfl) (fun _ _ _ => .trans)
      (f := fun path u => modPairSt path q.2 (pairNeed (pathIn u path q.1.a) (pathIn u path q.1.b)) u) (fun _ _ _ => rfl) t) s

/-- A reset accepted, to its evaluation. -/
theorem resetAccepted_spec (s : State) : Cleared s (resetAccepted s) ∧ (resetAccepted s).flag F.SAF_EVENT.RESET_DONE = true ∧
    ∀ n, n < 32 → safeOut s n = true → (outSt (resetAccepted s) n).stuck = 0 := by
  have hclear := cleared_resetCleared s
  rw [resetAccepted_eq]
  generalize resetCleared s = c at *
  obtain ⟨hdies, houts⟩ := safeOuts_cleared c
  dsimp only
  generalize c.forN 32 clearSafeOut = d at *
  have hd : Cleared s d := hclear.of_kept (by rw [hdies]) (by rw [hdies]) (by rw [hdies]; exact ⟨rfl, rfl⟩) (by rw [hdies])
    (State.reg_of_bus_eq (by rw [hdies]) _) (State.reg_of_bus_eq (by rw [hdies]) _)
  have he : Cleared s (d.ev F.SAF_EVENT.RESET_DONE) := hd.of_kept (State.ev_pw _ _) (congrArg NonVol.lc (State.ev_nv _ _))
    ⟨congrArg Saf.trip (State.ev_saf _ _), congrArg Saf.latched (State.ev_saf _ _)⟩ (State.ev_conf _ _) (State.reg_ev_ne _ _ _ (by decide))
    (State.reg_ev_ne _ _ _ (by decide))
  have hflag : (d.ev F.SAF_EVENT.RESET_DONE).flag F.SAF_EVENT.RESET_DONE = true := State.flag_ev_self (by decide) (by decide) d
  have hfio : (d.ev F.SAF_EVENT.RESET_DONE).fio = d.fio := State.ev_fio _ _
  generalize d.ev F.SAF_EVENT.RESET_DONE = e at *
  obtain ⟨hregs, -⟩ := recorderOnly_enqueue true ⟨8, 0, 0x12, e.tb.sec, e.tb.ns, items [(e.reg Reg.SAF_RESET_STAT).toNat]⟩ e
  obtain ⟨hpw, hlc, hsaf, hfio', hconf⟩ := enqueue_kept true ⟨8, 0, 0x12, e.tb.sec, e.tb.ns, items [(e.reg Reg.SAF_RESET_STAT).toNat]⟩ e
  rw [recordSafety]
  generalize enqueue true _ e = g at *
  have hg : Cleared s g := he.of_kept hpw hlc (by rw [hsaf]; exact ⟨rfl, rfl⟩) hconf (hregs _ (by decide)) (hregs _ (by decide))
  have hpairs := onlyPairs_pairsFollow g
  generalize pairsFollow g = v at *
  have hbus : v.bus = g.bus := by rw [hpairs]
  have hfio'' : v.fio = g.fio := by rw [hpairs]
  refine ⟨hg.of_kept (by rw [hpairs]) (by rw [hpairs]) (by rw [hpairs]; exact ⟨rfl, rfl⟩) (by rw [hpairs]) (State.reg_of_bus_eq hbus _)
    (State.reg_of_bus_eq hbus _), ?_, fun n hn hsafe => ?_⟩
  · rw [flag_of_reg_eq (State.reg_of_bus_eq hbus _), flag_of_reg_eq (hregs _ (by decide))]
    exact hflag
  · rw [outSt_of_die_eq (die_of_fio_eq ((hfio''.trans hfio').trans hfio) _)]
    exact houts n hn (by rw [safeOut, hclear.conf]; exact hsafe)

/-! ### Requests -/

/-- What an accepted request leaves to be seen. -/
def ResetDone (src : Nat) (s t : State) : Prop :=
  t.nv.lc.lockout = false ∧ t.pw.trans = some .watch ∧
        t.pw.delReset = true ∧ t.get F.SAF_FAULT.CLASS = 0 ∧ t.get F.SAF_FAULT.PATH = 0 ∧ t.get F.SAF_FAULT.DETAIL = 0 ∧
        t.saf.trip = 0 ∧ t.saf.latched = false ∧ t.get F.SAF_RESET_STAT.SRC = src ∧ t.flag F.SAF_EVENT.RESET_DONE = true ∧
        (∀ n, n < 32 → safeOut s n = true → (outSt t n).stuck = 0) ∧ t.mode = .lockout

/-- What a refused request leaves to be seen. -/
def ResetRefused (src c : Nat) (s t : State) : Prop :=
  t.get F.SAF_RESET_STAT.REJ = c ∧
        t.get F.SAF_RESET_STAT.SRC = src ∧ t.flag F.SAF_EVENT.RESET_REJ = true ∧ t.pw = s.pw ∧ t.nv.lc = s.nv.lc ∧ t.mode = s.mode ∧
        t.saf.latched = s.saf.latched ∧ t.reg Reg.SAF_FAULT = s.reg Reg.SAF_FAULT

theorem Cleared.refresh {s t : State} (h : Cleared s t) : Cleared s (safRefresh t) := by
  have hframe := (onlyRegs_safRefresh t).2.2
  exact h.of_kept (by rw [hframe]) (by rw [hframe]) (by rw [saf_safRefresh]; exact ⟨rfl, rfl⟩) (by rw [hframe]) (reg_safRefresh (by decide) t)
    (reg_safRefresh (by decide) t)

theorem mode_of_resetCode {s : State} {key : Bool} (h : resetCode s key = none) : s.mode = .lockout := by
  by_contra hmode
  rw [resetCode, if_pos hmode] at h
  cases h

/-- A request judged on `u`, which differs from `s` in registers and the hold of the reset pair. -/
theorem resetRequest_spec {s u : State} {src : Nat} (hsrc : src < 16) (hhold : HoldTaken s u)
    (hregs : ∀ a, a ≠ Reg.SAF_RESET_CMD → u.reg a = s.reg a) (key : Bool) (early : Option Nat) (hearly : ∀ c, early = some c → c < 16) :
    (early = none → resetCode s key = none → ResetDone src s (resetRequest src key early u)) ∧
    ∀ c, (early = some c ∨ early = none ∧ resetCode s key = some c) → ResetRefused src c s (resetRequest src key early u) := by
  have hput : HoldTaken u (u.put F.SAF_RESET_STAT.SRC src) := rfl
  have htaken := hhold.trans hput
  have hfar : ∀ a, a ≠ Reg.SAF_RESET_CMD → a ≠ Reg.SAF_RESET_STAT → (u.put F.SAF_RESET_STAT.SRC src).reg a = s.reg a := fun a h1 h2 =>
    (State.reg_put_ne _ _ _ _ h2).trans (hregs a h1)
  have hget : (u.put F.SAF_RESET_STAT.SRC src).get F.SAF_RESET_STAT.SRC = src := by
    rw [State.get_put_self (by decide) (by decide)]
    exact Nat.mod_eq_of_lt (by omega)
  have hsome : ∀ c, resetRequest src key (some c) u = resetRefused c (u.put F.SAF_RESET_STAT.SRC src) := fun _ => rfl
  have hjudged : ∀ c, resetCode (u.put F.SAF_RESET_STAT.SRC src) key = some c →
      resetRequest src key none u = resetRefused c (u.put F.SAF_RESET_STAT.SRC src) := fun c hc => by
    rw [resetRequest, hc]
  have haccepted : resetCode (u.put F.SAF_RESET_STAT.SRC src) key = none →
      resetRequest src key none u = safRefresh (resetAccepted (u.put F.SAF_RESET_STAT.SRC src)) := fun hc => by
    rw [resetRequest, hc]
  generalize u.put F.SAF_RESET_STAT.SRC src = t at *
  obtain ⟨-, hconf, hpw, hnv⟩ := htaken.kept
  have hcode : resetCode t key = resetCode s key := resetCode_of_holdTaken htaken (fun g hg => State.get_of_reg_eq (by
    have haddr : Reg.FIO_GRP_STAT g = 0x40070004 + 0x10 * g := rfl
    have h1 : Reg.SAF_RESET_CMD = 0x40080040 := rfl
    have h2 : Reg.SAF_RESET_STAT = 0x40080050 := rfl
    exact hfar _ (by dsimp only; omega) (by dsimp only; omega))) key
  have hsafLatched : t.saf.latched = s.saf.latched := by
    rw [HoldTaken] at htaken
    rw [htaken]
  have hrefused : ∀ c, c < 16 → ResetRefused src c s (resetRefused c t) := fun c hc => by
    obtain ⟨hrej, hsrc', hev, hpw', hlc', hsaf', hfault⟩ := resetRefused_spec hc t
    exact ⟨hrej, hsrc'.trans hget, hev, hpw'.trans hpw, by rw [hlc', hnv], by rw [State.mode, hpw', hpw, State.mode],
      by rw [hsaf', hsafLatched], hfault.trans (hfar _ (by decide) (by decide))⟩
  rw [hcode] at hjudged haccepted
  refine ⟨fun hnone hok => ?_, fun c hc => ?_⟩
  · rw [hnone, haccepted hok]
    obtain ⟨hclear, hdone, houts⟩ := resetAccepted_spec t
    have hfinal := hclear.refresh
    refine ⟨hfinal.lockout, hfinal.trans, hfinal.done, hfinal.cls, hfinal.path, hfinal.detail, hfinal.trip, hfinal.latched,
      (State.get_of_reg_eq (f := F.SAF_RESET_STAT.SRC) hfinal.stat).trans hget, flag_safRefresh_event (by decide) hdone, fun n hn hsafe => ?_, ?_⟩
    · rw [outSt_of_die_eq (die_safRefresh _ _)]
      exact houts n hn (by rw [safeOut, hconf]; exact hsafe)
    · rw [hfinal.mode, State.mode, hpw]
      exact mode_of_resetCode hok
  · obtain rfl | ⟨rfl, hcoded⟩ := hc
    · rw [hsome]
      exact hrefused c (hearly c rfl)
    · rw [hjudged c hcoded]
      exact hrefused c (refusalCode_lt hcoded)

theorem resetPair_of_hold {s : State} {ns : Nat} (h : s.saf.rstHold = some ns) (hawake : s.awake = true) :
    resetPair s = resetRequest 1 false (if 500000000 ≤ ns ∧ ns ≤ 5000000000 then none else some 3) { s with saf := { s.saf with rstHold := none } } := by
  rw [resetPair, h]
  exact if_pos hawake

theorem exec_safResetCmd {s : State} {core : Sender} {v : Word} (h : Guarded s core Reg.SAF_RESET_CMD v) :
    exec (.safResetCmd core (~~~ v)) s = .next (resetCmdOp core v (dropGuard 8 s)) :=
  congrArg Host.Outcome.next (cplWrite_of_armed (resetCmdOp core) h.1 (by decide) h.2)

theorem resetCode_word (v : Word) : getF F.SAF_RESET_CMD.CODE.bits v = v.toNat % 65536 := by simp [getF, bitsLen]

theorem reset_clause {s : State} {i : Instr} {src : Nat} {early : Option Nat}
    (hi : (∃ ns, i = .resetPair ∧ s.saf.rstHold = some ns ∧ s.awake = true ∧ src = 1 ∧
          early = if 500000000 ≤ ns ∧ ns ≤ 5000000000 then none else some 3) ∨
        (∃ (core : Sender) (v : Word), i = .safResetCmd core (~~~ v) ∧ Guarded s core Reg.SAF_RESET_CMD v ∧ src = 2 ∧
          early = if core.val = 4 ∧ v.toNat % 65536 = 0x5E7A then none else some 5)) :
    (early = none → resetCode s (src == 2) = none → Completes i s (ResetDone src s)) ∧
      ∀ c, (early = some c ∨ early = none ∧ resetCode s (src == 2) = some c) → Completes i s (ResetRefused src c s) := by
  have hone : ∀ {p : Prop} [Decidable p] {k : Nat}, k < 16 → ∀ c, (if p then none else some k) = some c → c < 16 := by
    intro p _ k hk c h
    split_ifs at h
    cases h
    exact hk
  obtain ⟨ns, rfl, hhold, hawake, rfl, rfl⟩ | ⟨core, v, rfl, hguard, rfl, rfl⟩ := hi
  · have hexec : exec .resetPair s = .next (resetRequest 1 false (if 500000000 ≤ ns ∧ ns ≤ 5000000000 then none else some 3)
        { s with saf := { s.saf with rstHold := none } }) := congrArg Host.Outcome.next (resetPair_of_hold hhold hawake)
    obtain ⟨hdone, hrefused⟩ := resetRequest_spec (s := s) (u := { s with saf := { s.saf with rstHold := none } }) (src := 1) (by decide) rfl
      (fun _ _ => rfl) false (if 500000000 ≤ ns ∧ ns ≤ 5000000000 then none else some 3) (hone (by decide))
    exact ⟨fun h1 h2 => ⟨_, hexec, hdone h1 h2⟩, fun c hc => ⟨_, hexec, hrefused c hc⟩⟩
  · have hexec := exec_safResetCmd hguard
    rw [resetCmdOp, resetCode_word] at hexec
    obtain ⟨hdone, hrefused⟩ := resetRequest_spec (s := s) (u := keepVal Reg.SAF_RESET_CMD v (dropGuard 8 s)) (src := 2) (by decide) rfl
      (fun a ha => State.reg_setReg_ne _ _ _ _ ha) true (if core.val = 4 ∧ v.toNat % 65536 = 0x5E7A then none else some 5) (hone (by decide))
    exact ⟨fun h1 h2 => ⟨_, hexec, hdone h1 h2⟩, fun c hc => ⟨_, hexec, hrefused c hc⟩⟩

/-! ### Diagnostics and the proof test -/

theorem diagRow_of_guarded {s : State} {core : Sender} {v : Word} {n : Nat} (h : Guarded s core Reg.SAF_DIAG_CMD v)
    (hop : getF F.SAF_DIAG_CMD.OP.bits v = n) : diagRow core n (~~~ v) s = diagOp core v (dropGuard 8 s) := by
  have hcpl : cplIs F.SAF_DIAG_CMD.OP n (~~~ v) = true := by rw [cplIs, BitVec.not_not, hop, beq_self_eq_true]
  rw [diagRow, if_pos hcpl]
  exact cplWrite_of_armed (diagOp core) h.1 (by decide) h.2

theorem diagOp_suspend {v : Word} (hop : getF F.SAF_DIAG_CMD.OP.bits v = 1) (core : Sender) (s : State) : diagOp core v s =
    if core.val = 4 ∧ s.mode = .commissioning ∧ keyOn s = true then (keepVal Reg.SAF_DIAG_CMD v s).ev F.SAF_STAT.DIAG_SUSP
    else keepVal Reg.SAF_DIAG_CMD v s := by
  rw [diagOp, hop]
  rfl

theorem diagOp_resume {v : Word} (hop : getF F.SAF_DIAG_CMD.OP.bits v = 2) (core : Sender) (s : State) : diagOp core v s =
    (keepVal Reg.SAF_DIAG_CMD v s).put F.SAF_STAT.DIAG_SUSP 0 := by
  rw [diagOp, hop]
  rfl

/-- The proof test confirmed. -/
def proofConfirmed (v : Word) (s : State) : State :=
  (proofSet s.tb.sec { keepVal Reg.SAF_DIAG_CMD v s with
    nv := { s.nv with lc := { s.nv.lc with proof := s.tb.sec } } }).put F.SAF_STAT.PROOF_DUE 0

theorem diagOp_confirm {v : Word} (hop : getF F.SAF_DIAG_CMD.OP.bits v = 3) (core : Sender) (s : State) :
    diagOp core v s = proofConfirmed v s := by
  rw [diagOp, hop]
  rfl

theorem proofConfirmed_spec (v : Word) (s : State) : (proofConfirmed v (dropGuard 8 s)).reg Reg.SAF_PROOF_LO = lo32 s.tb.sec ∧
    (proofConfirmed v (dropGuard 8 s)).flag F.SAF_STAT.PROOF_DUE = false ∧
    RegsBut [Reg.SAF_DIAG_CMD, Reg.SAF_STAT, Reg.SAF_PROOF_LO, Reg.SAF_PROOF_HI] s (proofConfirmed v (dropGuard 8 s)) ∧
    proofConfirmed v (dropGuard 8 s) = { s with bus := (proofConfirmed v (dropGuard 8 s)).bus, nv := { s.nv with lc := { s.nv.lc with proof := s.tb.sec } } } := by
  have hkept : ∀ a, a ≠ Reg.SAF_DIAG_CMD →
      ({ keepVal Reg.SAF_DIAG_CMD v (dropGuard 8 s) with nv := { s.nv with lc := { s.nv.lc with proof := s.tb.sec } } } : State).reg a = s.reg a :=
    fun a ha => State.reg_setReg_ne (dropGuard 8 s) _ _ _ ha
  refine ⟨?_, ?_, fun a ha => ?_, rfl⟩
  · rw [proofConfirmed, State.reg_put_ne _ _ _ _ (by decide), proofSet, State.reg_setReg_ne _ _ _ _ (by decide), State.reg_setReg_same]
    rfl
  · rw [proofConfirmed, State.flag, State.get_put_zero (by decide) (by decide)]
    rfl
  · simp only [List.mem_cons, List.not_mem_nil, or_false, not_or] at ha
    obtain ⟨hcmd, hstat, hlo, hhi⟩ := ha
    rw [proofConfirmed, State.reg_put_ne _ _ _ _ hstat, proofSet, State.reg_setReg_ne _ _ _ _ hhi, State.reg_setReg_ne _ _ _ _ hlo]
    exact hkept a hcmd

theorem diag_clause {s : State} {core : Sender} {v : Word} (hguard : Guarded s core Reg.SAF_DIAG_CMD v) :
    (getF F.SAF_DIAG_CMD.OP.bits v = 1 →
        (core.val = 4 → s.mode = .commissioning → keyOn s = true → Completes (.diagSuspend core (~~~ v)) s (fun t =>
          t.flag F.SAF_STAT.DIAG_SUSP = true ∧ OnlyRegs [Reg.SAF_DIAG_CMD, Reg.SAF_STAT] s t)) ∧
        ((core.val ≠ 4 ∨ s.mode ≠ .commissioning ∨ keyOn s = false) → Completes (.diagSuspend core (~~~ v)) s (fun t =>
          OnlyRegs [Reg.SAF_DIAG_CMD] s t))) ∧
      (getF F.SAF_DIAG_CMD.OP.bits v = 2 → Completes (.diagResume core (~~~ v)) s (fun t => t.flag F.SAF_STAT.DIAG_SUSP = false ∧
        OnlyRegs [Reg.SAF_DIAG_CMD, Reg.SAF_STAT] s t)) ∧
      (getF F.SAF_DIAG_CMD.OP.bits v = 3 → Completes (.proofTestConfirm core (~~~ v)) s (fun t => t.nv.lc.proof = s.tb.sec ∧
        t.reg Reg.SAF_PROOF_LO = lo32 s.tb.sec ∧ t.flag F.SAF_STAT.PROOF_DUE = false ∧
        RegsBut [Reg.SAF_DIAG_CMD, Reg.SAF_STAT, Reg.SAF_PROOF_LO, Reg.SAF_PROOF_HI] s t ∧
        t = { s with bus := t.bus, nv := { s.nv with lc := { s.nv.lc with proof := s.tb.sec } } })) := by
  have hkeep : ∀ {l : List Nat}, Reg.SAF_DIAG_CMD ∈ l → ChangesOnly (· ∈ l) s (keepVal Reg.SAF_DIAG_CMD v (dropGuard 8 s)) :=
    fun h => changesOnly_keepVal_dropGuard h 8 v s
  refine ⟨fun hop => ⟨fun hcore hmode hkey => ?_, fun hno => ?_⟩, fun hop => ?_, fun hop => ?_⟩
  · refine ⟨_, congrArg Host.Outcome.next ((diagRow_of_guarded hguard hop).trans ((diagOp_suspend hop core _).trans
      (if_pos ⟨hcore, hmode, hkey⟩))), State.flag_ev_self (by decide) (by decide) _, ?_⟩
    exact (hkeep (by simp)).trans (changesOnly_ev (f := F.SAF_STAT.DIAG_SUSP) (by simp) _)
  · refine ⟨_, congrArg Host.Outcome.next ((diagRow_of_guarded hguard hop).trans ((diagOp_suspend hop core _).trans
      (if_neg fun hall => ?_))), hkeep (by simp)⟩
    obtain ⟨hcore, hmode, hkey⟩ := hall
    obtain h | h | h := hno
    · exact h hcore
    · exact h hmode
    · exact absurd (h.symm.trans hkey) (by decide)
  · refine ⟨_, congrArg Host.Outcome.next ((diagRow_of_guarded hguard hop).trans (diagOp_resume hop core _)), ?_, ?_⟩
    · rw [State.flag, State.get_put_zero (by decide) (by decide)]
      rfl
    · exact (hkeep (by simp)).trans (changesOnly_put (f := F.SAF_STAT.DIAG_SUSP) (by simp) _ 0)
  · exact ⟨_, congrArg Host.Outcome.next ((diagRow_of_guarded hguard hop).trans (diagOp_confirm hop core _)), rfl, proofConfirmed_spec v s⟩

theorem proofDue_clause {s : State} (hawake : s.awake = true) (hset : s.nv.lc.proof ≠ 0) (hdue : s.nv.lc.proof + 631152000 < s.tb.sec) :
    Completes .proofDue s (fun t => t.flag F.SAF_STAT.PROOF_DUE = true ∧ OnlyRegs [Reg.SAF_STAT] s t) := by
  refine ⟨_, congrArg Host.Outcome.next (if_pos ?_), State.flag_ev_self (by decide) (by decide) s, changesOnly_ev (by simp) s⟩
  simp [hawake, proofOverdue, hset, hdue]

/-- Settles O49: a request is judged on what registers do not hold, an acceptance clears the latches before its record, and a refusal changes
its status and event alone. -/
theorem deliberateResetsAndDiagnostics : Obligations.DeliberateResetsAndDiagnostics :=
  ⟨fun _ _ _ _ => reset_clause, fun _ _ _ => diag_clause, fun _ => proofDue_clause⟩

end Sys2Proof.Machine
end

section
/-!
PROOF. Safety telegrams, their watchdogs and the landing-bus contacts (16 R513 to R517).
-/

namespace Sys2Proof.Machine

open Sys2Proof

/-! ### The counts of telegrams through a fault -/

theorem tgStat_noteTrip (cls : Nat) (s : State) : (noteTrip cls s).reg Reg.SAF_TG_STAT = s.reg Reg.SAF_TG_STAT := by
  rw [noteTrip]
  split
  · rfl
  · rfl

theorem tgStat_firstFault (path cls det : Nat) (s : State) : (firstFault path cls det s).reg Reg.SAF_TG_STAT = s.reg Reg.SAF_TG_STAT := by
  have hresult : ∀ v, (s.result Reg.SAF_FAULT v).reg Reg.SAF_TG_STAT = s.reg Reg.SAF_TG_STAT := fun v => State.reg_setReg_ne _ _ _ _ (by decide)
  rw [firstFault]
  exact (State.reg_of_bus_eq (latch_spec _).2 _).trans ((State.reg_ev_ne _ _ _ (by decide)).trans (hresult _))

theorem tgStat_faultNoted (path cls det : Nat) (s : State) : (faultNoted path cls det s).reg Reg.SAF_TG_STAT = s.reg Reg.SAF_TG_STAT := by
  rw [faultNoted]
  split
  · exact tgStat_noteTrip cls s
  · exact (tgStat_firstFault _ _ _ _).trans (tgStat_noteTrip cls s)

theorem tgStat_record (unit code : Nat) (data : List Byte) (s : State) :
    (recordSafety unit code data s).reg Reg.SAF_TG_STAT = s.reg Reg.SAF_TG_STAT := (recorderOnly_enqueue true _ s).1 _ (by decide)

theorem tgStat_resetRefused (c : Nat) (s : State) : (resetRefused c s).reg Reg.SAF_TG_STAT = s.reg Reg.SAF_TG_STAT := by
  rw [resetRefused]
  exact (tgStat_record _ _ _ _).trans ((State.reg_ev_ne _ _ _ (by decide)).trans (State.reg_put_ne _ _ _ _ (by decide)))

theorem tgStat_linesOff (s : State) : (linesOff s).reg Reg.SAF_TG_STAT = s.reg Reg.SAF_TG_STAT := rfl

/-- A fault leaves the counts of telegrams alone. -/
theorem tgStat_safFault (path cls det : Nat) (s : State) : (safFault path cls det s).reg Reg.SAF_TG_STAT = s.reg Reg.SAF_TG_STAT := by
  by_cases hawake : s.awake = true
  · by_cases hmode : s.mode = .lockout
    · have hagain : (faultAgain path cls det s).reg Reg.SAF_TG_STAT = s.reg Reg.SAF_TG_STAT :=
        (tgStat_record _ _ _ _).trans (tgStat_faultNoted path cls det s)
      rw [safFault_of_lockout path cls det hawake hmode]
      split
      · exact (tgStat_resetRefused _ _).trans hagain
      · exact hagain
    · have hentry := (entryKept_safFault path cls det hawake hmode).1 Reg.SAF_TG_STAT (by rw [EntryReg]; decide)
      exact hentry.trans ((tgStat_linesOff _).trans ((State.reg_ev_ne _ _ _ (by decide)).trans (tgStat_faultNoted path cls det s)))
  · rw [safFault, if_neg hawake]

/-- What the checks of car positions leave: the telegrams and their counts. -/
def TelKept (s t : State) : Prop := t.saf.secTels = s.saf.secTels ∧ t.reg Reg.SAF_TG_STAT = s.reg Reg.SAF_TG_STAT

theorem TelKept.refl (s : State) : TelKept s s := ⟨rfl, rfl⟩

theorem TelKept.trans {s t u : State} (hst : TelKept s t) (htu : TelKept t u) : TelKept s u := ⟨htu.1.trans hst.1, htu.2.trans hst.2⟩

theorem telKept_carFault (path cls det : Nat) (ids : List Nat) (s : State) : TelKept s (carFault path cls det ids s) := by
  have hsaf := (faultKept_safFault path cls det s).saf
  have htg := tgStat_safFault path cls det s
  rw [carFault]
  generalize safFault path cls det s = t at *
  rw [FaultSaf] at hsaf
  exact ⟨by rw [hsaf], htg⟩

theorem telKept_rocheCheck (s : State) : TelKept s (rocheCheck s) := by
  unfold rocheCheck
  split
  · exact telKept_carFault _ _ _ _ s
  · exact .refl s

theorem telKept_silentCheck (s : State) : TelKept s (silentCheck s) := by
  refine State.forL_rel TelKept.refl (fun _ _ _ => .trans) (fun nb _ t => ?_) s
  split
  · exact telKept_carFault _ _ _ _ t
  · exact .refl t

theorem telKept_newCar (c : Nat) (r : CarRec) (s : State) : TelKept s (newCar c r s) := by
  have hseed : ∀ p v t, TelKept t (coreSeed c p v t) := fun _ _ _ => ⟨rfl, rfl⟩
  have hidle : ∀ t, TelKept t (idleRestart t) := fun _ => ⟨rfl, rfl⟩
  have hbss : ∀ f t, TelKept t (modBss c f t) := fun _ _ => ⟨rfl, rfl⟩
  have haxis : ∀ f t, TelKept t (t.modAxis c f) := fun _ _ => ⟨rfl, rfl⟩
  have hcar : ∀ f t, TelKept t (t.modCar c f) := fun _ _ => ⟨rfl, rfl⟩
  exact ((((haxis _ s).trans (hcar _ _)).trans (hbss _ _)).trans (hidle _)).trans (hseed _ _ _)

theorem telKept_coreHeard (e : SecEntry) (s : State) : TelKept s (coreHeard e s) := by
  unfold coreHeard
  split
  · split
    · exact .refl s
    · exact ⟨rfl, rfl⟩
  · exact .refl s

theorem telKept_seenCar (id : Nat) (pos vel : Int) (owner : Nat) (s : State) : TelKept s (seenCar id pos vel owner s) := by
  unfold seenCar
  split
  · dsimp only
    split
    · exact .refl s
    · exact ⟨rfl, rfl⟩
  · dsimp only
    split
    · split
      · exact TelKept.trans ⟨rfl, rfl⟩ (telKept_newCar _ _ s.draw.2)
      · exact .refl s
    · exact .refl s

theorem telKept_takeSeen (b : List Byte) (s : State) : TelKept s (takeSeen b s) := by
  rw [takeSeen]
  split
  · refine State.forL_rel TelKept.refl (fun _ _ _ => .trans) (fun e _ t => ?_) s
    exact (telKept_seenCar _ _ _ _ t).trans (telKept_coreHeard e _)
  · exact .refl s

/-! ### A telegram accepted or discarded -/

theorem exec_telegram {s : State} {h : Hdr} {b : List Byte} {kind : Nat} {i : Instr} (hd : Delivers s h)
    (hi : kind = 1 ∧ i = .carState h b ∨ kind = 2 ∧ i = .secState h b ∨ kind = 3 ∧ i = .permit h b) :
    exec i s = .next (telOp kind b (noteSeen h.src s)) := by
  have hact : ∀ act, receive 10 h (.safety b) act s = act (noteSeen h.src s) := fun act => receive_of_delivers hd (by decide) (by decide)
  obtain ⟨rfl, rfl⟩ | ⟨rfl, rfl⟩ | ⟨rfl, rfl⟩ := hi
  · exact congrArg Host.Outcome.next (hact _)
  · exact congrArg Host.Outcome.next (hact _)
  · exact congrArg Host.Outcome.next (hact _)

theorem telOk_of_peers {s : State} {f : Fab} (hepochs : f.epochs = s.fab.epochs) (kind : Nat) (b : List Byte) :
    telOk { s with fab := f } kind b = telOk s kind b := by
  have hepoch : epochFor { s with fab := f } = epochFor s := by
    funext id
    rw [epochFor, epochFor]
    dsimp only
    rw [hepochs]
    rfl
  have hseq : telSeq { s with fab := f } kind (slotAt b 2 2) = telSeq s kind (slotAt b 2 2) := rfl
  rw [telOk, telOk, hepoch, hseq]
  rfl

/-- The state once a frame was heard. -/
theorem telHeard (h : Hdr) (s : State) : ∃ f : Fab, noteSeen h.src s = { s with fab := f } ∧ f.epochs = s.fab.epochs ∧
    HeardBut s { s with fab := f } := by
  obtain ⟨hfab, hframe⟩ := noteSeen_frame h.src s
  obtain ⟨hbut, -⟩ := heard_frame h.src s
  generalize noteSeen h.src s = t at *
  refine ⟨t.fab, hframe, by rw [hfab], ?_⟩
  exact hbut

/-- What a kind of telegram does once it is accepted. -/
def telTaken (kind : Nat) (b : List Byte) (s : State) : State :=
  match kind with
  | 1 => takeCarState b s
  | 2 => rocheCheck (takeSeen b (takeSecState b s))
  | _ => takePermit b s

theorem telTaken_car (b : List Byte) (s : State) : telTaken 1 b s = takeCarState b s := rfl

theorem telTaken_sec (b : List Byte) (s : State) : telTaken 2 b s = rocheCheck (takeSeen b (takeSecState b s)) := rfl

theorem telTaken_permit (b : List Byte) (s : State) : telTaken 3 b s = takePermit b s := rfl

theorem telOp_eq (kind : Nat) (b : List Byte) (s : State) : telOp kind b s =
    if s.saf.coreDown then s else if telOk s kind b then safRefresh (telTaken kind b s) else telDiscard s := rfl

theorem telOp_of_ok {s : State} {kind : Nat} {b : List Byte} (hup : s.saf.coreDown = false) (hok : telOk s kind b = true) :
    telOp kind b s = safRefresh (telTaken kind b s) := by
  have hdown : ¬ s.saf.coreDown = true := by rw [hup]; decide
  rw [telOp_eq, if_neg hdown, if_pos hok]

theorem telOp_of_bad {s : State} {kind : Nat} {b : List Byte} (hup : s.saf.coreDown = false) (hbad : telOk s kind b = false) :
    telOp kind b s = telDiscard s := by
  have hdown : ¬ s.saf.coreDown = true := by rw [hup]; decide
  have hno : ¬ telOk s kind b = true := by rw [hbad]; decide
  rw [telOp_eq, if_neg hdown, if_neg hno]

/-! ### The telegrams of one sender -/

theorem carTel_takeCarState (b : List Byte) (s : State) : carTel (takeCarState b s) (slotAt b 2 2) =
      ⟨some (slotAt b 8 4), s.tb.tick, true, slotAt (telBody b) 0 4, slotAtS (telBody b) 4 8, slotAtS (telBody b) 12 4,
        slotAt (telBody b) 16 4⟩ ∧ ∀ x, x ≠ slotAt b 2 2 → carTel (takeCarState b s) x = carTel s x := by
  refine ⟨?_, fun x hx => ?_⟩
  · rw [carTel, takeCarState, smGet, smFind_smPut_same]
  · rw [carTel, takeCarState, smGet, smFind_smPut_ne _ _ _ _ hx]
    rfl

theorem secTel_takeSecState (b : List Byte) (s : State) :
    (secTel (takeSecState b s) (slotAt b 2 2)).seq = some (slotAt b 8 4) ∧ (secTel (takeSecState b s) (slotAt b 2 2)).alive = true ∧
    (secTel (takeSecState b s) (slotAt b 2 2)).tick = s.tb.tick ∧
    (secTel (takeSecState b s) (slotAt b 2 2)).flags = slotAt (telBody b) 0 4 ∧
    (secTel (takeSecState b s) (slotAt b 2 2)).cars.length = min 8 (slotAt (telBody b) 0 4 / 256 % 16) ∧
    ∀ x, x ≠ slotAt b 2 2 → secTel (takeSecState b s) x = secTel s x := by
  have hown : secTel (takeSecState b s) (slotAt b 2 2) = ⟨some (slotAt b 8 4), s.tb.tick, true, slotAt (telBody b) 0 4,
      (List.range (min 8 (slotAt (telBody b) 0 4 / 256 % 16))).map (secEntryAt (telBody b))⟩ := by
    rw [secTel, takeSecState, smGet, smFind_smPut_same]
  rw [hown]
  refine ⟨rfl, rfl, rfl, rfl, by rw [List.length_map, List.length_range], fun x hx => ?_⟩
  rw [secTel, takeSecState, smGet, smFind_smPut_ne _ _ _ _ hx]
  rfl

/-- The content of a PERMIT; the tape's position of a start. -/
def permitIn (b : List Byte) (s : State) : PermitTel :=
  ⟨some (slotAt b 8 4), s.tb.tick, true, slotAt (telBody b) 0 2, slotAt (telBody b) 2 2, slotAt (telBody b) 4 4, slotAtS (telBody b) 8 8,
    slotAt (telBody b) 16 4, slotAt (telBody b) 20 4,
    if (slotAt (telBody b) 4 4).testBit 0 && !permitLive (permitTel s (slotAt b 2 2)) then s.saf.tape.pos
    else (permitTel s (slotAt b 2 2)).posAt⟩

theorem takePermit_kept (b : List Byte) (s : State) : (takePermit b s).saf.permits = smPut s.saf.permits (slotAt b 2 2) (permitIn b s) ∧ (takePermit b s).pw = s.pw := by
  rw [takePermit]
  dsimp only
  split
  · exact ⟨rfl, rfl⟩
  · exact ⟨rfl, rfl⟩

theorem permitTel_takePermit (b : List Byte) (s : State) : (permitTel (takePermit b s) (slotAt b 2 2)).seq = some (slotAt b 8 4) ∧
    (permitTel (takePermit b s) (slotAt b 2 2)).alive = true ∧ (permitTel (takePermit b s) (slotAt b 2 2)).car = slotAt (telBody b) 0 2 ∧
    (permitTel (takePermit b s) (slotAt b 2 2)).landing = slotAt (telBody b) 2 2 ∧
    (permitTel (takePermit b s) (slotAt b 2 2)).flags = slotAt (telBody b) 4 4 ∧
    (permitTel (takePermit b s) (slotAt b 2 2)).target = slotAtS (telBody b) 8 8 ∧
    ∀ x, x ≠ slotAt b 2 2 → permitTel (takePermit b s) x = permitTel s x := by
  have hown : permitTel (takePermit b s) (slotAt b 2 2) = permitIn b s := by
    rw [permitTel, (takePermit_kept b s).1, smGet, smFind_smPut_same]
  rw [hown]
  refine ⟨rfl, rfl, rfl, rfl, rfl, rfl, fun x hx => ?_⟩
  rw [permitTel, (takePermit_kept b s).1, smGet, smFind_smPut_ne _ _ _ _ hx]
  rfl

theorem telegram_clause {s : State} {h : Hdr} {b : List Byte} {kind src : Nat} {i : Instr} (hd : Delivers s h) (hup : s.saf.coreDown = false)
    (hsrc : src = slotAt b 2 2) (hi : kind = 1 ∧ i = .carState h b ∨ kind = 2 ∧ i = .secState h b ∨ kind = 3 ∧ i = .permit h b) :
    (telOk s kind b = true → Completes i s (fun t =>
      (kind = 1 → carTel t src = ⟨some (slotAt b 8 4), s.tb.tick, true, slotAt (telBody b) 0 4, slotAtS (telBody b) 4 8,
        slotAtS (telBody b) 12 4, slotAt (telBody b) 16 4⟩ ∧ (∀ x, x ≠ src → carTel t x = carTel s x) ∧ t.mode = s.mode) ∧
      (kind = 2 → (secTel t src).seq = some (slotAt b 8 4) ∧ (secTel t src).alive = true ∧ (secTel t src).tick = s.tb.tick ∧
        (secTel t src).flags = slotAt (telBody b) 0 4 ∧ (secTel t src).cars.length = min 8 (slotAt (telBody b) 0 4 / 256 % 16) ∧
        (∀ x, x ≠ src → secTel t x = secTel s x)) ∧
      (kind = 3 → (permitTel t src).seq = some (slotAt b 8 4) ∧ (permitTel t src).alive = true ∧
        (permitTel t src).car = slotAt (telBody b) 0 2 ∧ (permitTel t src).landing = slotAt (telBody b) 2 2 ∧
        (permitTel t src).flags = slotAt (telBody b) 4 4 ∧ (permitTel t src).target = slotAtS (telBody b) 8 8 ∧
        (∀ x, x ≠ src → permitTel t x = permitTel s x) ∧ t.mode = s.mode))) ∧
    (telOk s kind b = false → Completes i s (fun t =>
      t.get F.SAF_TG_STAT.DISCARDED = min 65535 (s.get F.SAF_TG_STAT.DISCARDED + 1) ∧ RegsBut [Reg.SAF_TG_STAT] s t ∧ HeardBut s t ∧
      t = { s with bus := t.bus, fab := t.fab })) := by
  obtain ⟨f, hheard, hepochs, hbut⟩ := telHeard h s
  have hexec := exec_telegram hd hi
  rw [hheard] at hexec
  subst hsrc
  refine ⟨fun hok => ⟨_, hexec, ?_⟩, fun hbad => ⟨_, hexec, ?_⟩⟩
  · rw [telOp_of_ok (s := { s with fab := f }) hup ((telOk_of_peers hepochs kind b).trans hok)]
    refine ⟨fun hk => ?_, fun hk => ?_, fun hk => ?_⟩
    · subst hk
      rw [telTaken_car]
      have hread : ∀ u : State, carTel (safRefresh u) = carTel u := fun u => by
        funext x
        rw [carTel, saf_safRefresh, carTel]
      obtain ⟨hown, hothers⟩ := carTel_takeCarState b { s with fab := f }
      rw [hread]
      exact ⟨hown, hothers, mode_safRefresh _⟩
    · subst hk
      rw [telTaken_sec]
      have hkept := (telKept_takeSeen b (takeSecState b { s with fab := f })).trans (telKept_rocheCheck _)
      have hread : secTel (safRefresh (rocheCheck (takeSeen b (takeSecState b { s with fab := f })))) =
          secTel (takeSecState b { s with fab := f }) := by
        funext x
        rw [secTel, saf_safRefresh, hkept.1, secTel]
      rw [hread]
      exact secTel_takeSecState b { s with fab := f }
    · subst hk
      rw [telTaken_permit]
      have hread : permitTel (safRefresh (takePermit b { s with fab := f })) = permitTel (takePermit b { s with fab := f }) := by
        funext x
        rw [permitTel, saf_safRefresh, permitTel]
      obtain ⟨hseq, halive, hcar', hlanding, hflags, htarget, hothers⟩ := permitTel_takePermit b { s with fab := f }
      rw [hread]
      refine ⟨hseq, halive, hcar', hlanding, hflags, htarget, hothers, ?_⟩
      rw [mode_safRefresh, State.mode, (takePermit_kept b { s with fab := f }).2, State.mode]
  · rw [telOp_of_bad (s := { s with fab := f }) hup ((telOk_of_peers hepochs kind b).trans hbad), telDiscard]
    refine ⟨State.get_incSat_self (by decide) (by decide) _ _, fun a ha => ?_, ?_, rfl⟩
    · exact State.reg_put_ne _ _ _ _ (by simpa using ha)
    · rw [HeardBut, State.incSat_fab]
      exact hbut

/-! ### Watchdogs -/

theorem tgCount_refresh (s : State) : (safRefresh (wdCount s)).get F.SAF_TG_STAT.WD_EXP = min 65535 (s.get F.SAF_TG_STAT.WD_EXP + 1) := by
  rw [State.get_of_reg_eq (f := F.SAF_TG_STAT.WD_EXP) (reg_safRefresh (by decide) _), wdCount, State.get_incSat_self (by decide) (by decide)]
  rfl

theorem saf_wdCount (s : State) : (wdCount s).saf = s.saf := State.incSat_saf _ _

theorem mode_wdCount (s : State) : (wdCount s).mode = s.mode := congrArg Power.mode (State.incSat_pw _ _)

theorem wdLate {s : State} {t : Nat} {alive : Bool} (hawake : s.awake = true) (halive : alive = true) (hdue : t + 500000 ≤ s.tb.tick) :
    (s.awake && alive && decide (t + wdTicks ≤ s.tb.tick)) = true := by
  rw [hawake, halive, decide_eq_true (by rw [wdTicks]; exact hdue)]
  rfl

theorem wdExpire_car {s : State} {src : Nat} (hawake : s.awake = true) (halive : (carTel s src).alive = true)
    (hdue : (carTel s src).tick + 500000 ≤ s.tb.tick) : wdExpire 0 src s = safRefresh (wdCount { s with saf := { s.saf with
        carTels := smMod CarTel.init s.saf.carTels src (fun x => { x with alive := false }) } }) := if_pos (wdLate hawake halive hdue)

theorem wdExpire_sec {s : State} {src : Nat} (hawake : s.awake = true) (halive : (secTel s src).alive = true)
    (hdue : (secTel s src).tick + 500000 ≤ s.tb.tick) : wdExpire 1 src s = safRefresh (silentCheck (wdCount { s with saf := { s.saf with
        secTels := smMod SecTel.init s.saf.secTels src (fun x => { x with alive := false }) } })) := if_pos (wdLate hawake halive hdue)

theorem wdExpire_permit {s : State} {src : Nat} (hawake : s.awake = true) (halive : (permitTel s src).alive = true)
    (hdue : (permitTel s src).tick + 500000 ≤ s.tb.tick) : wdExpire 2 src s = safRefresh (wdCount { s with saf := { s.saf with
        permits := smMod PermitTel.init s.saf.permits src (fun x => { x with alive := false }) } }) := if_pos (wdLate hawake halive hdue)

/-- A path's watchdog of a landing-bus node has run out. -/
def nodeLate (s : State) (src path : Nat) : Bool :=
  s.awake && (nodeOf s path (src / 32) (src % 32)).alive && decide ((nodeOf s path (src / 32) (src % 32)).tick + wdTicks ≤ s.tb.tick)

/-- A path withdraws a node that is late. -/
def nodeGone (s : State) (src path : Nat) (t : State) : State :=
  if nodeLate s src path then
    modNode path (src / 32) (src % 32) (fun q => { q with alive := false, pair := pairNeed false false q.pair }) t
  else t

theorem wdExpire_node {s : State} {src : Nat} (hlate : nodeLate s src 1 = true) :
    wdExpire 3 src s = safRefresh (wdCount (s.forN 2 (nodeGone s src))) := by
  refine if_pos ?_
  rw [Bool.or_eq_true]
  exact .inr hlate

theorem nodeOf_modNode_same (path port node : Nat) (f : IlkNode → IlkNode) (s : State) :
    nodeOf (modNode path port node f s) path port node = f (nodeOf s path port node) :=
  smGet_smMod_same IlkNode.init s.saf.nodes (pk path (port * 32 + node)) f

theorem nodeOf_modNode_ne {path path' port port' node node' : Nat} (h : pk path' (port' * 32 + node') ≠ pk path (port * 32 + node))
    (f : IlkNode → IlkNode) (s : State) : nodeOf (modNode path port node f s) path' port' node' = nodeOf s path' port' node' :=
  smGet_smMod_ne IlkNode.init s.saf.nodes (pk path (port * 32 + node)) (pk path' (port' * 32 + node')) f h

theorem nodeGone_others {s : State} {src path path' : Nat} (h : path' ≠ path) (t : State) :
    nodeOf (nodeGone s src path t) path' (src / 32) (src % 32) = nodeOf t path' (src / 32) (src % 32) := by
  rw [nodeGone]
  split
  · exact nodeOf_modNode_ne (by rw [pk, pk]; omega) _ t
  · rfl

theorem alive_nodesGone {s : State} {src path : Nat} (hawake : s.awake = true) (hpath : path < 2) :
    (nodeOf (s.forN 2 (nodeGone s src)) path (src / 32) (src % 32)).alive =
      ((nodeOf s path (src / 32) (src % 32)).alive && decide (s.tb.tick < (nodeOf s path (src / 32) (src % 32)).tick + 500000)) := by
  obtain ⟨u, hread, hturn⟩ := State.forN_turn (read := fun t => nodeOf t path (src / 32) (src % 32)) (n := 2) (f := nodeGone s src) hpath
    (fun j _ hj t => nodeGone_others (Ne.symm hj) t) s
  rw [congrArg IlkNode.alive hturn, nodeGone]
  generalize hx : nodeOf s path (src / 32) (src % 32) = x at *
  have hlate : nodeLate s src path = (x.alive && decide (x.tick + 500000 ≤ s.tb.tick)) := by
    rw [nodeLate, hawake, hx, Bool.true_and, wdTicks]
  rw [hlate]
  split
  next h =>
    rw [Bool.and_eq_true, decide_eq_true_eq] at h
    rw [nodeOf_modNode_same, decide_eq_false (by omega), Bool.and_false]
  next h =>
    rw [congrArg IlkNode.alive hread]
    cases halive : x.alive with
    | false => rfl
    | true =>
      rw [halive, Bool.true_and, decide_eq_true_eq] at h
      rw [decide_eq_true (by omega), Bool.true_and]

theorem onlyNodes_nodesGone (s : State) (src : Nat) (t : State) :
    t.forN 2 (nodeGone s src) = { t with saf := { t.saf with nodes := (t.forN 2 (nodeGone s src)).saf.nodes } } := by
  refine State.forN_rel (R := fun t u => u = { t with saf := { t.saf with nodes := u.saf.nodes } }) (fun _ => rfl)
    (fun t u v htu huv => by rw [huv, htu]) (fun path _ t => ?_) t
  rw [nodeGone]
  split
  · rfl
  · rfl

theorem watchdog_clause {s : State} {k : Fin 4} {src : Nat} (hawake : s.awake = true)
    (hk : k.val = 0 ∧ (carTel s src).alive = true ∧ (carTel s src).tick + 500000 ≤ s.tb.tick ∨
      k.val = 1 ∧ (secTel s src).alive = true ∧ (secTel s src).tick + 500000 ≤ s.tb.tick ∨
      k.val = 2 ∧ (permitTel s src).alive = true ∧ (permitTel s src).tick + 500000 ≤ s.tb.tick ∨
      k.val = 3 ∧ src < 64 ∧ (nodeOf s 1 (src / 32) (src % 32)).alive = true ∧
        (nodeOf s 1 (src / 32) (src % 32)).tick + 500000 ≤ s.tb.tick) :
    Completes (.telegramWatchdogExpiry k src) s (fun t => t.get F.SAF_TG_STAT.WD_EXP = min 65535 (s.get F.SAF_TG_STAT.WD_EXP + 1) ∧
      (k.val = 0 → carTel t src = { carTel s src with alive := false }) ∧ (k.val = 1 → secTel t src = { secTel s src with alive := false }) ∧
      (k.val = 2 → permitTel t src = { permitTel s src with alive := false }) ∧
      (k.val = 3 → ∀ path, path < 2 → (nodeOf t path (src / 32) (src % 32)).alive =
        ((nodeOf s path (src / 32) (src % 32)).alive && decide (s.tb.tick < (nodeOf s path (src / 32) (src % 32)).tick + 500000))) ∧ (k.val ≠ 1 → t.mode = s.mode)) := by
  have hexec : ∀ {n : Nat}, k.val = n → exec (.telegramWatchdogExpiry k src) s = .next (wdExpire n src s) := fun h => by
    rw [← h]
    rfl
  have hmode : ∀ u : State, (safRefresh (wdCount u)).mode = u.mode := fun u => (mode_safRefresh _).trans (mode_wdCount u)
  have hsaf : ∀ u : State, (safRefresh (wdCount u)).saf = u.saf := fun u => (saf_safRefresh _).trans (saf_wdCount u)
  obtain ⟨h0, halive, hdue⟩ | ⟨h1, halive, hdue⟩ | ⟨h2, halive, hdue⟩ | ⟨h3, -, halive, hdue⟩ := hk
  case inl =>
    refine ⟨_, (hexec h0).trans (congrArg Host.Outcome.next (wdExpire_car hawake halive hdue)), tgCount_refresh _, fun _ => ?_,
      fun h => absurd h (by omega), fun h => absurd h (by omega), fun h => absurd h (by omega), fun _ => hmode _⟩
    rw [carTel, hsaf]
    exact smGet_smMod_same CarTel.init s.saf.carTels src (fun x => { x with alive := false })
  case inr.inl =>
    refine ⟨_, (hexec h1).trans (congrArg Host.Outcome.next (wdExpire_sec hawake halive hdue)), ?_, fun h => absurd h (by omega), fun _ => ?_,
      fun h => absurd h (by omega), fun h => absurd h (by omega), fun h => absurd h1 h⟩
    · rw [State.get_of_reg_eq (f := F.SAF_TG_STAT.WD_EXP) ((reg_safRefresh (by decide) _).trans (telKept_silentCheck _).2), wdCount,
        State.get_incSat_self (by decide) (by decide)]
      rfl
    · rw [secTel, saf_safRefresh, (telKept_silentCheck _).1, saf_wdCount]
      exact smGet_smMod_same SecTel.init s.saf.secTels src (fun x => { x with alive := false })
  case inr.inr.inl =>
    refine ⟨_, (hexec h2).trans (congrArg Host.Outcome.next (wdExpire_permit hawake halive hdue)), tgCount_refresh _,
      fun h => absurd h (by omega), fun h => absurd h (by omega), fun _ => ?_, fun h => absurd h (by omega), fun _ => hmode _⟩
    rw [permitTel, hsaf]
    exact smGet_smMod_same PermitTel.init s.saf.permits src (fun x => { x with alive := false })
  case inr.inr.inr =>
    have hlate : nodeLate s src 1 = true := by
      rw [nodeLate]
      exact wdLate hawake halive hdue
    have hnodes := onlyNodes_nodesGone s src s
    have hbus : (s.forN 2 (nodeGone s src)).bus = s.bus := by rw [hnodes]
    have hpw : (s.forN 2 (nodeGone s src)).pw = s.pw := by rw [hnodes]
    refine ⟨_, (hexec h3).trans (congrArg Host.Outcome.next (wdExpire_node hlate)), ?_,
      fun h => absurd h (by omega), fun h => absurd h (by omega), fun h => absurd h (by omega), fun _ path hpath => ?_, fun _ => ?_⟩
    · rw [tgCount_refresh, State.get_of_bus_eq hbus]
    · rw [← alive_nodesGone hawake hpath, nodeOf, hsaf, nodeOf]
    · rw [hmode, State.mode, hpw, State.mode]

/-! ### Landing-bus contacts -/

/-- What a path takes of an interlock telegram. -/
def contactsTaken (path port : Nat) (b : List Byte) (s : State) : State :=
  modNode path port (slotAt b 2 1) (fun x =>
    { x with seq := some (slotAt b 4 2), state := slotAt b 6 1, tick := s.tb.tick, alive := true,
             pair := pairNeed ((slotAt b 6 1).testBit 0) ((slotAt b 6 1).testBit 1) x.pair }) s

theorem ilkTake_of_ok {path port : Nat} {b : List Byte} {s : State} (h : ilkOk s path port b = true) :
    ilkTake path port b s = contactsTaken path port b s := if_pos h

theorem ilkOk_contactsTaken (port : Nat) (b : List Byte) (s : State) :
    ilkOk (contactsTaken 0 port b s) 1 port b = ilkOk s 1 port b := by
  have hother : nodeOf (contactsTaken 0 port b s) 1 port (slotAt b 2 1) = nodeOf s 1 port (slotAt b 2 1) :=
    nodeOf_modNode_ne (by rw [pk, pk]; omega) _ s
  rw [ilkOk, hother, ilkOk]
  rfl

theorem ilkOp_of_ok {port : Nat} {b : List Byte} {s : State} (hawake : s.awake = true) (hup : s.saf.coreDown = false)
    (hok : ∀ path, path < 2 → ilkOk s path port b = true) :
    ilkOp port b s = safRefresh (contactsTaken 1 port b (contactsTaken 0 port b s)) := by
  have hdown : ¬ s.saf.coreDown = true := by rw [hup]; decide
  rw [ilkOp, if_pos hawake, if_neg hdown, ilkTake_of_ok (hok 0 (by decide)),
    ilkTake_of_ok ((ilkOk_contactsTaken port b s).trans (hok 1 (by decide)))]

theorem interlock_clause {s : State} {p : Fin 2} {b : List Byte} {node : Nat} (hawake : s.awake = true) (hup : s.saf.coreDown = false)
    (hnode : node = slotAt b 2 1) (hok : ∀ path, path < 2 → ilkOk s path p.val b = true) :
    Completes (.interlockTelegram p b) s (fun t =>
      (∀ path, path < 2 → (nodeOf t path p.val node).seq = some (slotAt b 4 2) ∧ (nodeOf t path p.val node).state = slotAt b 6 1 ∧
        (nodeOf t path p.val node).alive = true ∧ (nodeOf t path p.val node).tick = s.tb.tick) ∧
      RegsBut [Reg.SAF_FUNC_STAT, Reg.SAF_EVENT] s t ∧ t = { s with bus := t.bus, saf := { s.saf with nodes := t.saf.nodes } }) := by
  subst hnode
  refine ⟨_, congrArg Host.Outcome.next (ilkOp_of_ok hawake hup hok), fun path hpath => ?_, ?_, ?_⟩
  · rw [nodeOf, saf_safRefresh]
    obtain rfl | rfl : path = 1 ∨ path = 0 := by omega
    · have hown := nodeOf_modNode_same 1 p.val (slotAt b 2 1) (fun x =>
        { x with seq := some (slotAt b 4 2), state := slotAt b 6 1, tick := (contactsTaken 0 p.val b s).tb.tick, alive := true,
                 pair := pairNeed ((slotAt b 6 1).testBit 0) ((slotAt b 6 1).testBit 1) x.pair }) (contactsTaken 0 p.val b s)
      rw [nodeOf] at hown
      rw [contactsTaken, hown]
      exact ⟨rfl, rfl, rfl, rfl⟩
    · have hother : nodeOf (contactsTaken 1 p.val b (contactsTaken 0 p.val b s)) 0 p.val (slotAt b 2 1) =
          nodeOf (contactsTaken 0 p.val b s) 0 p.val (slotAt b 2 1) := nodeOf_modNode_ne (by rw [pk, pk]; omega) _ _
      rw [nodeOf] at hother
      rw [hother, contactsTaken, nodeOf_modNode_same]
      exact ⟨rfl, rfl, rfl, rfl⟩
  · exact fun a ha => reg_safRefresh ha _
  · rw [(onlyRegs_safRefresh (contactsTaken 1 p.val b (contactsTaken 0 p.val b s))).2.2]
    rfl

/-- Settles O50: a telegram accepted is kept through the checks it starts, one discarded is only counted, and a watchdog or an interlock
telegram works on its own entry. -/
theorem safetyTelegrams : Obligations.SafetyTelegrams :=
  ⟨fun _ _ _ _ _ _ => telegram_clause, fun _ _ _ => watchdog_clause,
    fun _ _ _ _ hawake hup hnode _ hok => interlock_clause hawake hup hnode hok⟩

end Sys2Proof.Machine
end

section
/-!
PROOF. Spine ports, their cable tests and wake pulses, and the key store (17 R524 to R536).
-/

namespace Sys2Proof.Machine

open Sys2Proof

/-! ### Frames of this device on one port -/

/-- What a frame of this device on one port says of itself. -/
theorem onWire_ownFrame (s : State) (p dst : Nat) (bcast : Bool) (b : FrameBody) :
    (onWire s (ownFrame s p dst 1 bcast b)).port = p ∧ (onWire s (ownFrame s p dst 1 bcast b)).src = s.myId ∧
      (onWire s (ownFrame s p dst 1 bcast b)).hops = 1 ∧ (onWire s (ownFrame s p dst 1 bcast b)).bcast = bcast ∧
      (onWire s (ownFrame s p dst 1 bcast b)).body = b := ⟨rfl, rfl, rfl, rfl, rfl⟩

theorem emit_of_plain {s : State} {f : TxFrame} (hup : spineUp s f.port = true) (hplain : s.flag (F.FAB_SP_MSEC.EN f.port) = false) :
    emit f s = { s with tx := s.tx ++ [onWire s f] } := by
  rw [emit, if_pos hup]
  dsimp only
  rw [if_neg fun h => Bool.false_ne_true (hplain.symm.trans h)]

/-- A frame sent on an unprotected port that is up. -/
theorem sendPort_of_up {s : State} {p : Nat} {b : FrameBody} (dst : Nat) (bcast : Bool) (hmay : maySend s b = true) (hup : spineUp s p = true)
    (hplain : s.flag (F.FAB_SP_MSEC.EN p) = false) :
    ∃ f, s.sendPort p dst bcast b = { s with tx := s.tx ++ [f], fab := (nextSeq s).fab } ∧ f.port = p ∧ f.src = s.myId ∧ f.hops = 1 ∧
      f.bcast = bcast ∧ f.body = b := by
  refine ⟨onWire (nextSeq s) (ownFrame (nextSeq s) p dst 1 bcast b), ?_, onWire_ownFrame (nextSeq s) p dst bcast b⟩
  rw [State.sendPort, if_pos hmay]
  exact emit_of_plain (f := ownFrame (nextSeq s) p dst 1 bcast b) hup hplain

theorem State.awake_of_pw_eq {s t : State} (h : t.pw = s.pw) : t.awake = s.awake := by rw [State.awake, State.mode, h, State.awake, State.mode]

theorem maySend_of_free {s : State} (b : FrameBody) (hawake : s.awake = true) (hfree : s.nv.lc.fenced = false) : maySend s b = true := by
  unfold maySend
  rw [hawake, hfree, Bool.not_false, Bool.true_or, Bool.and_true]

/-! ### A link comes up -/

/-- The port as its link comes up, before it announces the device. -/
def portUp (p m sqi : Nat) (s : State) : State :=
  (((s.put (F.FAB_SP_STAT.STATE p) 3).put (F.FAB_SP_STAT.MODE p) (m + 1)).put (F.FAB_SP_STAT.SQI p) sqi).evBit F.FAB_LINK_EVENT.UP p

theorem linkUp_of_free {s : State} {p m : Nat} (sqi : Nat) (hawake : s.awake = true) (hen : s.flag (F.FAB_SP_CFG.EN p) = true)
    (hdown : spineUp s p = false) (htest : (spinePort s p).test = false) (hadv : (advertised s p).testBit m = true) :
    linkUp p m sqi s = announceOn p (portUp p m sqi s) := by
  have hcond : (s.awake && s.flag (F.FAB_SP_CFG.EN p) && !spineUp s p && !(spinePort s p).test && (advertised s p).testBit m) = true := by
    rw [hawake, hen, hdown, htest, hadv]
    rfl
  rw [linkUp, if_pos hcond]
  rfl

/-- The registers of a spine port and the events of the links are apart. -/
theorem spineRegs_apart {p : Nat} (hp : p < 4) : Reg.FAB_SP_STAT p ≠ Reg.FAB_LINK_EVENT ∧ Reg.FAB_SP_CFG p ≠ Reg.FAB_LINK_EVENT ∧
    Reg.FAB_SP_CFG p ≠ Reg.FAB_SP_STAT p ∧ Reg.FAB_SP_MSEC p ∉ [Reg.FAB_SP_STAT p, Reg.FAB_LINK_EVENT] ∧
      Reg.FAB_SP_TEST p ≠ Reg.FAB_LINK_EVENT := by
  have hcfg : Reg.FAB_SP_CFG p = 0x40090000 + 0x20 * p := rfl
  have hstat : Reg.FAB_SP_STAT p = 0x40090004 + 0x20 * p := rfl
  have htest : Reg.FAB_SP_TEST p = 0x4009000c + 0x20 * p := rfl
  have hmsec : Reg.FAB_SP_MSEC p = 0x40090010 + 0x20 * p := rfl
  have hev : Reg.FAB_LINK_EVENT = 0x400900c0 := rfl
  simp only [List.mem_cons, List.not_mem_nil, or_false, not_or]
  omega

theorem changesOnly_portUp (p m sqi : Nat) (s : State) : ChangesOnly (· ∈ [Reg.FAB_SP_STAT p, Reg.FAB_LINK_EVENT]) s (portUp p m sqi s) :=
  (((changesOnly_put (f := F.FAB_SP_STAT.STATE p) (by simp) s _).trans (changesOnly_put (f := F.FAB_SP_STAT.MODE p) (by simp) _ _)).trans
    (changesOnly_put (f := F.FAB_SP_STAT.SQI p) (by simp) _ _)).trans (changesOnly_put (f := F.FAB_LINK_EVENT.UP) (by simp) _ _)

theorem portUp_spec {p m sqi : Nat} (hp : p < 4) (hm : m < 3) (hsqi : sqi < 8) (s : State) :
    (portUp p m sqi s).get (F.FAB_SP_STAT.STATE p) = 3 ∧ (portUp p m sqi s).get (F.FAB_SP_STAT.MODE p) = m + 1 ∧
      (portUp p m sqi s).get (F.FAB_SP_STAT.SQI p) = sqi ∧ (portUp p m sqi s).bit F.FAB_LINK_EVENT.UP p = true := by
  obtain ⟨hne, -⟩ := spineRegs_apart hp
  refine ⟨?_, ?_, ?_, State.bit_evBit_self (by decide) (by decide) (by omega) _ _⟩
  · rw [portUp, State.evBit, State.get_put_other hne, State.get_put_disjoint (by decide) (by decide) (by decide),
      State.get_put_disjoint (by decide) (by decide) (by decide), State.get_put_self (by decide) (by decide)]
    rfl
  · rw [portUp, State.evBit, State.get_put_other hne, State.get_put_disjoint (by decide) (by decide) (by decide),
      State.get_put_self (by decide) (by decide)]
    exact Nat.mod_eq_of_lt (by omega)
  · rw [portUp, State.evBit, State.get_put_other hne, State.get_put_self (by decide) (by decide)]
    exact Nat.mod_eq_of_lt (by omega)

/-- The announcement on a port that has come up. -/
theorem announceOn_spec {s : State} {p : Nat} (hawake : s.awake = true) (hfree : s.nv.lc.fenced = false) (hup : spineUp s p = true)
    (hplain : s.flag (F.FAB_SP_MSEC.EN p) = false) :
    ∃ f seq, announceOn p s = { s with tx := s.tx ++ [f], fab := seq } ∧ f.port = p ∧ f.src = s.myId ∧ f.body = .announce (announcement s) := by
  obtain ⟨f, hsend, hport, hsrc, -, -, hbody⟩ :=
    sendPort_of_up (s.myId / 256 * 256) true (maySend_of_free (.announce (announcement s)) hawake hfree) hup hplain
  refine ⟨f, (nextSeq s).fab, ?_, hport, hsrc, hbody⟩
  rw [announceOn, if_pos hup]
  exact hsend

/-- What a link that comes up leaves. -/
def LinkIsUp (p m sqi : Nat) (s t : State) : Prop :=
  t.get (F.FAB_SP_STAT.STATE p) = 3 ∧ t.get (F.FAB_SP_STAT.MODE p) = m + 1 ∧ t.get (F.FAB_SP_STAT.SQI p) = sqi ∧
    t.bit F.FAB_LINK_EVENT.UP p = true ∧ RegsBut [Reg.FAB_SP_STAT p, Reg.FAB_LINK_EVENT] s t

theorem LinkIsUp.of_bus {p m sqi : Nat} {s t u : State} (h : LinkIsUp p m sqi s t) (hbus : u.bus = t.bus) : LinkIsUp p m sqi s u := by
  obtain ⟨hstate, hmode, hsqi, hbit, hregs⟩ := h
  have hreg := State.reg_of_bus_eq hbus
  refine ⟨(State.get_of_reg_eq (hreg _)).trans hstate, (State.get_of_reg_eq (hreg _)).trans hmode, (State.get_of_reg_eq (hreg _)).trans hsqi,
    ?_, fun a ha => (hreg a).trans (hregs a ha)⟩
  rw [State.bit, State.get_of_reg_eq (hreg _)]
  exact hbit

theorem linkIsUp_portUp {p m sqi : Nat} (hp : p < 4) (hm : m < 3) (hsqi : sqi < 8) (s : State) : LinkIsUp p m sqi s (portUp p m sqi s) := by
  obtain ⟨hstate, hmode, hq, hbit⟩ := portUp_spec hp hm hsqi s
  exact ⟨hstate, hmode, hq, hbit, (changesOnly_portUp p m sqi s).1⟩

theorem pw_nv_of_frame {s t : State} (ht : t = { s with bus := t.bus }) : t.pw = s.pw ∧ t.nv = s.nv := by
  rw [ht]
  exact ⟨rfl, rfl⟩

/-- The frame of a state whose announcement followed a change of registers alone. -/
theorem frame_of_announced {s t u : State} {f : TxFrame} {b : Fab} (ht : t = { s with bus := t.bus })
    (hu : u = { t with tx := t.tx ++ [f], fab := b }) : u.bus = t.bus ∧ u.tx = s.tx ++ [f] ∧ u = { s with bus := u.bus, tx := u.tx, fab := u.fab } := by
  have htx : t.tx = s.tx := by rw [ht]
  subst hu
  exact ⟨rfl, congrArg (· ++ [f]) htx, by rw [ht]⟩

theorem linkUp_clause {s : State} (p : Fin 4) (m : Fin 3) (q : Fin 8) (hawake : s.awake = true) (hen : s.flag (F.FAB_SP_CFG.EN p.val) = true)
    (hdown : spineUp s p.val = false) (htest : (spinePort s p.val).test = false) (hadv : (advertised s p.val).testBit m.val = true)
    (hfree : s.nv.lc.fenced = false) (hplain : s.flag (F.FAB_SP_MSEC.EN p.val) = false) :
    Completes (.spineLinkUp p m q) s (fun t => t.get (F.FAB_SP_STAT.STATE p.val) = 3 ∧
      t.get (F.FAB_SP_STAT.MODE p.val) = m.val + 1 ∧ t.get (F.FAB_SP_STAT.SQI p.val) = q.val ∧
      t.bit F.FAB_LINK_EVENT.UP p.val = true ∧ (∃ f a, t.tx = s.tx ++ [f] ∧ f.port = p.val ∧ f.src = s.myId ∧ f.body = .announce a) ∧
      RegsBut [Reg.FAB_SP_STAT p.val, Reg.FAB_LINK_EVENT] s t ∧ t = { s with bus := t.bus, tx := t.tx, fab := t.fab }) := by
  have hport : LinkIsUp p.val m.val q.val s (portUp p.val m.val q.val s) := linkIsUp_portUp p.isLt m.isLt q.isLt s
  obtain ⟨hstate, -, -, -, hregs⟩ := id hport
  obtain ⟨-, -, hframe⟩ := changesOnly_portUp p.val m.val q.val s
  obtain ⟨-, -, -, hmsec, -⟩ := spineRegs_apart p.isLt
  have hplain' : (portUp p.val m.val q.val s).flag (F.FAB_SP_MSEC.EN p.val) = false :=
    (congrArg (· == 1) (State.get_of_reg_eq (f := F.FAB_SP_MSEC.EN p.val) (hregs _ hmsec))).trans hplain
  obtain ⟨hpw, hnv⟩ := pw_nv_of_frame hframe
  have hid : (portUp p.val m.val q.val s).myId = s.myId := congrArg (fun x => x.lc.actId) hnv
  have hup : spineUp (portUp p.val m.val q.val s) p.val = true := by rw [spineUp, hstate]; rfl
  obtain ⟨f, b, hann, hf, hsrc, hbody⟩ :=
    announceOn_spec ((State.awake_of_pw_eq hpw).trans hawake) (by rw [hnv]; exact hfree) hup hplain'
  obtain ⟨hbus, htx, hrest⟩ := frame_of_announced hframe hann
  obtain ⟨hstate', hmode', hsqi', hbit', hregs'⟩ := hport.of_bus hbus
  exact ⟨_, congrArg Host.Outcome.next (linkUp_of_free q.val hawake hen hdown htest hadv), hstate', hmode', hsqi', hbit',
    ⟨f, _, htx, hf, hsrc.trans hid, hbody⟩, hregs', hrest⟩

/-! ### A link goes down -/

/-- The port as its link goes down, before a downshift: the queued frames gone, no mode, the drop counted. -/
def portDown (p : Nat) (s : State) : State :=
  ((((forgetAnn p { s with tx := s.tx.filter (fun f => f.port != p) }).put (F.FAB_SP_STAT.MODE p) 0).put (F.FAB_SP_STAT.SQI p) 0).incSat
    (F.FAB_SP_STAT.DROPS p)).evBit F.FAB_LINK_EVENT.DOWN p

theorem linkDown_of_up {s : State} {p : Nat} (hup : spineUp s p = true) :
    linkDown p s = (downshift p (s.get (F.FAB_SP_STAT.MODE p) - 1) (portDown p s)).put (F.FAB_SP_STAT.STATE p)
      (seekState (downshift p (s.get (F.FAB_SP_STAT.MODE p) - 1) (portDown p s)) p) := by
  rw [linkDown, if_pos hup]
  rfl

theorem portDown_spec {p : Nat} (hp : p < 4) (s : State) :
    (portDown p s).get (F.FAB_SP_STAT.MODE p) = 0 ∧ (portDown p s).get (F.FAB_SP_STAT.SQI p) = 0 ∧
      (portDown p s).tx = s.tx.filter (fun f => f.port != p) ∧ (portDown p s).bit F.FAB_LINK_EVENT.DOWN p = true ∧
      (portDown p s).get (F.FAB_SP_STAT.DROPS p) = min (2 ^ bitsLen (F.FAB_SP_STAT.DROPS p).bits - 1) (s.get (F.FAB_SP_STAT.DROPS p) + 1) ∧
      (portDown p s).get (F.FAB_SP_STAT.DS_MASK p) = s.get (F.FAB_SP_STAT.DS_MASK p) ∧ spinePort (portDown p s) p = spinePort s p ∧
      (portDown p s).tb.tick = s.tb.tick ∧ (portDown p s).reg (Reg.FAB_SP_CFG p) = s.reg (Reg.FAB_SP_CFG p) := by
  obtain ⟨hne, hce, hcs, -, -⟩ := spineRegs_apart hp
  refine ⟨?_, ?_, rfl, State.bit_evBit_self (by decide) (by decide) (by omega) _ _, ?_, ?_, rfl, rfl, ?_⟩
  · rw [portDown, State.evBit, State.get_put_other hne, State.incSat, State.get_put_disjoint (by decide) (by decide) (by decide),
      State.get_put_disjoint (by decide) (by decide) (by decide), State.get_put_zero (by decide) (by decide)]
  · rw [portDown, State.evBit, State.get_put_other hne, State.incSat, State.get_put_disjoint (by decide) (by decide) (by decide),
      State.get_put_zero (by decide) (by decide)]
  · rw [portDown, State.evBit, State.get_put_other hne, State.get_incSat_self (by decide) (by decide),
      State.get_put_disjoint (by decide) (by decide) (by decide), State.get_put_disjoint (by decide) (by decide) (by decide)]
    rfl
  · rw [portDown, State.evBit, State.get_put_other hne, State.incSat, State.get_put_disjoint (by decide) (by decide) (by decide),
      State.get_put_disjoint (by decide) (by decide) (by decide), State.get_put_disjoint (by decide) (by decide) (by decide)]
    rfl
  · rw [portDown, State.evBit, State.reg_put_ne _ _ _ _ hce, State.incSat, State.reg_put_ne _ _ _ _ hcs,
      State.reg_put_ne _ _ _ _ hcs, State.reg_put_ne _ _ _ _ hcs]
    rfl

/-- The drops of the last 10 s, the present one of mode `m` among them. -/
def recentDrops (p m : Nat) (s : State) : List (Nat × Nat) :=
  (s.tb.tick, m) :: (spinePort s p).drops.filter (fun d => decide (s.tb.tick ≤ d.1 + ticksOf 10))

/-- Whether the present drop of mode `m` removes it. -/
def Downshifts (p m : Nat) (s : State) : Prop :=
  ((recentDrops p m s).filter (fun d => d.2 != m)).length + 3 ≤ (recentDrops p m s).length ∧ s.flag (F.FAB_SP_CFG.DS_EN p) = true ∧
    advertised s p ≠ 2 ^ m

/-- The port as a downshift leaves it, before its record. -/
def shiftedDown (p m : Nat) (s : State) : State :=
  ((modSpine p (fun x => { x with drops := (recentDrops p m s).filter (fun d => d.2 != m) })
    (modSpine p (fun x => { x with drops := recentDrops p m s }) s)).evBit (F.FAB_SP_STAT.DS_MASK p) m).ev F.FAB_LINK_EVENT.DOWNSHIFT

theorem downshift_of_third {p m : Nat} {s : State} (h : Downshifts p m s) :
    downshift p m s = record 9 p 0x20 (items [p, m]) (shiftedDown p m s) := if_pos h

theorem downshift_of_few {p m : Nat} {s : State} (h : ¬ Downshifts p m s) :
    downshift p m s = modSpine p (fun x => { x with drops := recentDrops p m s }) s := if_neg h

/-- With two drops of the mode before it in 10 s, the present one is the third. -/
theorem downshifts_of_two {p m : Nat} {s : State}
    (htwo : 2 ≤ ((spinePort s p).drops.filter (fun d => d.2 == m && decide (s.tb.tick ≤ d.1 + 1250000000))).length)
    (hen : s.flag (F.FAB_SP_CFG.DS_EN p) = true) (hlast : advertised s p ≠ 2 ^ m) : Downshifts p m s := by
  refine ⟨?_, hen, hlast⟩
  have hhead : (recentDrops p m s).filter (fun d => d.2 != m) =
      ((spinePort s p).drops.filter (fun d => decide (s.tb.tick ≤ d.1 + ticksOf 10))).filter (fun d => d.2 != m) :=
    List.filter_cons_of_neg (by simp)
  have hsame : ((spinePort s p).drops.filter (fun d => decide (s.tb.tick ≤ d.1 + ticksOf 10))).filter (fun d => d.2 == m) =
      (spinePort s p).drops.filter (fun d => d.2 == m && decide (s.tb.tick ≤ d.1 + 1250000000)) := List.filter_filter
  have hsplit := List.length_eq_length_filter_add (l := (spinePort s p).drops.filter (fun d => decide (s.tb.tick ≤ d.1 + ticksOf 10)))
    (fun d => d.2 == m)
  rw [hsame] at hsplit
  rw [hhead, recentDrops, List.length_cons]
  have hneg : (fun d : Nat × Nat => d.2 != m) = fun d => !(d.2 == m) := rfl
  rw [hneg]
  omega

/-- What a downshift may change of what a port's loss shows. -/
def ShiftKept (p : Nat) (s t : State) : Prop :=
  t.tx = s.tx ∧ t.bit F.FAB_LINK_EVENT.DOWN p = s.bit F.FAB_LINK_EVENT.DOWN p ∧ t.reg (Reg.FAB_SP_CFG p) = s.reg (Reg.FAB_SP_CFG p) ∧
    ∀ f ∈ [F.FAB_SP_STAT.MODE p, F.FAB_SP_STAT.SQI p, F.FAB_SP_STAT.DROPS p], t.get f = s.get f

theorem record_fabReg {a : Nat} (ha : a ∉ [Reg.REC_EVENT, Reg.REC_LOST]) (unit code : Nat) (data : List Byte) (s : State) :
    (record 9 unit code data s).reg a = s.reg a := (recorderOnly_enqueue false _ s).1 a ha

theorem record_tx (src unit code : Nat) (data : List Byte) (s : State) : (record src unit code data s).tx = s.tx := by
  rw [record, (recorderOnly_enqueue false _ s).2]

theorem shiftKept_downshift {p : Nat} (hp : p < 4) (m : Nat) (s : State) : ShiftKept p s (downshift p m s) := by
  obtain ⟨hne, hce, hcs, -, -⟩ := spineRegs_apart hp
  have hlost : Reg.REC_LOST = 0x400b0004 := rfl
  have hrecEv : Reg.REC_EVENT = 0x400b0008 := rfl
  have hcfgAddr : Reg.FAB_SP_CFG p = 0x40090000 + 0x20 * p := rfl
  have hstatAddr : Reg.FAB_SP_STAT p = 0x40090004 + 0x20 * p := rfl
  have hrec : ∀ a, a < 0x400b0000 → a ∉ [Reg.REC_EVENT, Reg.REC_LOST] := fun a ha => by
    simp only [List.mem_cons, List.not_mem_nil, or_false, not_or]
    omega
  by_cases h : Downshifts p m s
  · rw [downshift_of_third h]
    refine ⟨?_, ?_, ?_, fun f hf => ?_⟩
    · rw [record_tx, shiftedDown, State.ev_tx, State.evBit_tx]
      rfl
    · rw [State.bit, State.get_of_reg_eq (record_fabReg (hrec Reg.FAB_LINK_EVENT (by decide)) _ _ _ _), shiftedDown, State.ev,
        State.get_put_disjoint (by decide) (by decide) (by decide), State.evBit, State.get_put_other hne.symm]
      rfl
    · rw [record_fabReg (hrec _ (by omega)), shiftedDown, State.reg_ev_ne _ _ _ hce, State.evBit, State.reg_put_ne _ _ _ _ hcs]
      rfl
    · have hreg : f.addr = Reg.FAB_SP_STAT p := by
        simp only [List.mem_cons, List.not_mem_nil, or_false] at hf
        obtain rfl | rfl | rfl := hf
        · rfl
        · rfl
        · rfl
      rw [State.get_of_reg_eq (record_fabReg (hrec _ (by omega)) _ _ _ _), shiftedDown,
        State.get_of_reg_eq (State.reg_ev_ne _ _ _ (by rw [hreg]; exact hne)), State.evBit]
      simp only [List.mem_cons, List.not_mem_nil, or_false] at hf
      obtain rfl | rfl | rfl := hf
      · rw [State.get_put_disjoint (by decide) (by decide) (by decide)]; rfl
      · rw [State.get_put_disjoint (by decide) (by decide) (by decide)]; rfl
      · rw [State.get_put_disjoint (by decide) (by decide) (by decide)]; rfl
  · rw [downshift_of_few h]
    exact ⟨rfl, rfl, rfl, fun _ _ => rfl⟩

/-- What a downshift does to the modes removed. -/
theorem downshift_mask {p : Nat} (hp : p < 4) (m : Nat) (s : State) :
    (m < 3 → Downshifts p m s → ((downshift p m s).get (F.FAB_SP_STAT.DS_MASK p)).testBit m = true ∧
      (downshift p m s).flag F.FAB_LINK_EVENT.DOWNSHIFT = true) ∧
      (¬ Downshifts p m s → (downshift p m s).get (F.FAB_SP_STAT.DS_MASK p) = s.get (F.FAB_SP_STAT.DS_MASK p)) := by
  obtain ⟨hne, -⟩ := spineRegs_apart hp
  have hstatAddr : Reg.FAB_SP_STAT p = 0x40090004 + 0x20 * p := rfl
  have hlost : Reg.REC_LOST = 0x400b0004 := rfl
  have hrecEv : Reg.REC_EVENT = 0x400b0008 := rfl
  have hstat : Reg.FAB_SP_STAT p ∉ [Reg.REC_EVENT, Reg.REC_LOST] := by
    simp only [List.mem_cons, List.not_mem_nil, or_false, not_or]
    omega
  refine ⟨fun hm h => ?_, fun h => ?_⟩
  · rw [downshift_of_third h]
    refine ⟨?_, ?_⟩
    · rw [State.get_of_reg_eq (record_fabReg hstat _ _ _ _), shiftedDown, State.get_of_reg_eq (State.reg_ev_ne _ _ _ hne)]
      exact State.bit_evBit_self (by decide) (by decide) (by omega) _ _
    · rw [State.flag, State.get_of_reg_eq (record_fabReg (a := Reg.FAB_LINK_EVENT) (by decide) _ _ _ _)]
      exact State.flag_ev_self (by decide) (by decide) _
  · rw [downshift_of_few h]
    rfl

theorem linkDown_clause {s : State} (p : Fin 4) (hup : spineUp s p.val = true) : Completes (.spineLinkDown p) s (fun t =>
    t.get (F.FAB_SP_STAT.STATE p.val) = (if s.flag (F.FAB_SP_CFG.FORCE p.val) then 2 else 1) ∧ t.get (F.FAB_SP_STAT.MODE p.val) = 0 ∧
    t.get (F.FAB_SP_STAT.SQI p.val) = 0 ∧ t.tx = s.tx.filter (fun f => f.port != p.val) ∧ t.bit F.FAB_LINK_EVENT.DOWN p.val = true ∧
    t.get (F.FAB_SP_STAT.DROPS p.val) =
      min (2 ^ bitsLen (F.FAB_SP_STAT.DROPS p.val).bits - 1) (s.get (F.FAB_SP_STAT.DROPS p.val) + 1) ∧
    (∀ m, m = s.get (F.FAB_SP_STAT.MODE p.val) - 1 → m < 3 →
      2 ≤ ((spinePort s p.val).drops.filter (fun d => d.2 == m && decide (s.tb.tick ≤ d.1 + 1250000000))).length →
      s.flag (F.FAB_SP_CFG.DS_EN p.val) = true → advertised s p.val ≠ 2 ^ m →
      (t.get (F.FAB_SP_STAT.DS_MASK p.val)).testBit m = true ∧ t.flag F.FAB_LINK_EVENT.DOWNSHIFT = true) ∧
    (s.flag (F.FAB_SP_CFG.DS_EN p.val) = false → t.get (F.FAB_SP_STAT.DS_MASK p.val) = s.get (F.FAB_SP_STAT.DS_MASK p.val))) := by
  refine ⟨_, congrArg Host.Outcome.next (linkDown_of_up hup), ?_⟩
  obtain ⟨hmode, hsqi, htx, hbit, hdrops, hmask, hport, htick, hcfg⟩ := portDown_spec p.isLt s
  have hflag : ∀ i, (portDown p.val s).flag ⟨Reg.FAB_SP_CFG p.val, i⟩ = s.flag ⟨Reg.FAB_SP_CFG p.val, i⟩ := fun i =>
    congrArg (· == 1) (State.get_of_reg_eq (f := ⟨Reg.FAB_SP_CFG p.val, i⟩) hcfg)
  have hadv : advertised (portDown p.val s) p.val = advertised s p.val := by
    rw [advertised, hflag, hmask, State.get_of_reg_eq (f := F.FAB_SP_CFG.ALLOW p.val) hcfg, advertised]
  generalize s.get (F.FAB_SP_STAT.MODE p.val) - 1 = m
  generalize portDown p.val s = d at *
  obtain ⟨htx', hbit', hcfg', hfields⟩ := shiftKept_downshift p.isLt m d
  obtain ⟨hthird, hfew⟩ := downshift_mask p.isLt m d
  generalize downshift p.val m d = u at *
  have hforce : u.flag (F.FAB_SP_CFG.FORCE p.val) = s.flag (F.FAB_SP_CFG.FORCE p.val) :=
    (congrArg (· == 1) (State.get_of_reg_eq (f := F.FAB_SP_CFG.FORCE p.val) hcfg')).trans (hflag _)
  have hne := (spineRegs_apart p.isLt).1
  have hother : ∀ v, (u.put (F.FAB_SP_STAT.STATE p.val) v).reg Reg.FAB_LINK_EVENT = u.reg Reg.FAB_LINK_EVENT := fun v =>
    State.reg_put_ne _ _ _ _ hne.symm
  refine ⟨?_, ?_, ?_, ?_, ?_, ?_, ?_, ?_⟩
  · rw [State.get_put_self (by decide) (by decide), seekState, hforce]
    split
    · rfl
    · rfl
  · rw [State.get_put_disjoint (by decide) (by decide) (by decide), hfields _ (by simp), hmode]
  · rw [State.get_put_disjoint (by decide) (by decide) (by decide), hfields _ (by simp), hsqi]
  · rw [State.put_tx, htx', htx]
  · rw [State.bit, State.get_of_reg_eq (hother _)]
    exact hbit'.trans hbit
  · rw [State.get_put_disjoint (by decide) (by decide) (by decide), hfields _ (by simp), hdrops]
  · rintro n rfl hm htwo hen hlast
    have hdown : Downshifts p.val n d :=
      downshifts_of_two (by rw [hport, htick]; exact htwo) ((hflag _).trans hen) (by rw [hadv]; exact hlast)
    obtain ⟨hset, hev⟩ := hthird hm hdown
    rw [State.get_put_disjoint (by decide) (by decide) (by decide)]
    exact ⟨hset, (congrArg (· == 1) (State.get_of_reg_eq (f := F.FAB_LINK_EVENT.DOWNSHIFT) (hother _))).trans hev⟩
  · intro hoff
    have hno : ¬ Downshifts p.val m d := fun h => Bool.false_ne_true (hoff.symm.trans ((hflag _).symm.trans h.2.1))
    rw [State.get_put_disjoint (by decide) (by decide) (by decide), hfew hno, hmask]

/-! ### Commands to a port: wake pulses, cable tests, the modes restored -/

theorem spRow_of_op {s : State} {core : Sender} {p op : Nat} {v : Word} (hacc : canAccess s core = true) (hfree : Unguarded s (Reg.FAB_SP_CMD p))
    (hop : getF (F.FAB_SP_CMD.OP p).bits v = op) : spRow core p op v s = spCmdOp p v s := by
  rw [spRow, writeCmd_of_unguarded _ hacc hfree, if_pos hop]

theorem spCmdOp_pulse {p : Nat} {v : Word} (hop : getF (F.FAB_SP_CMD.OP p).bits v = 1) (s : State) : spCmdOp p v s =
    if spineUp s p then s.ev F.FAB_LINK_EVENT.CMD_REJ
    else if (spinePort s p).test then modSpine p (fun x => { x with pulses := x.pulses + 1 }) s
    else pulseOut p s := by
  rw [spCmdOp, hop]
  rfl

theorem spCmdOp_test {p : Nat} {v : Word} (hop : getF (F.FAB_SP_CMD.OP p).bits v = 2) (s : State) : spCmdOp p v s =
    if spineUp s p then s.ev F.FAB_LINK_EVENT.CMD_REJ else modSpine p (fun x => { x with test := true }) s := by
  rw [spCmdOp, hop]
  rfl

theorem spCmdOp_restore {p : Nat} {v : Word} (hop : getF (F.FAB_SP_CMD.OP p).bits v = 3) (s : State) : spCmdOp p v s =
    modSpine p (fun x => { x with drops := [] }) (s.put (F.FAB_SP_STAT.DS_MASK p) 0) := by
  rw [spCmdOp, hop]
  rfl

theorem spinePort_modSpine_same (p : Nat) (f : SpinePort → SpinePort) (s : State) : spinePort (modSpine p f s) p = f (spinePort s p) :=
  smGet_smMod_same SpinePort.init s.fab.spine p f

theorem spinePort_modSpine_ne {p q : Nat} (h : q ≠ p) (f : SpinePort → SpinePort) (s : State) :
    spinePort (modSpine p f s) q = spinePort s q := smGet_smMod_ne SpinePort.init s.fab.spine p q f h

theorem reg_modSpine (p : Nat) (f : SpinePort → SpinePort) (s : State) (a : Nat) : (modSpine p f s).reg a = s.reg a := rfl

theorem exec_spineCommand {s : State} {core : Sender} {p : Fin 4} {v : Word} {i : Instr} {op : Nat} (hacc : canAccess s core = true)
    (hfree : Unguarded s (Reg.FAB_SP_CMD p.val)) (hi : op = 1 ∧ i = .wakePulse core p v ∨ op = 2 ∧ i = .cableTest core p v)
    (hop : getF (F.FAB_SP_CMD.OP p.val).bits v = op) : exec i s = .next (spCmdOp p.val v s) := by
  obtain ⟨rfl, rfl⟩ | ⟨rfl, rfl⟩ := hi
  · exact congrArg Host.Outcome.next (spRow_of_op hacc hfree hop)
  · exact congrArg Host.Outcome.next (spRow_of_op hacc hfree hop)

theorem spineCommand_clause {s : State} {core : Sender} {p : Fin 4} {v : Word} {i : Instr} {op : Nat} (hacc : canAccess s core = true)
    (hfree : Unguarded s (Reg.FAB_SP_CMD p.val)) (hi : op = 1 ∧ i = .wakePulse core p v ∨ op = 2 ∧ i = .cableTest core p v)
    (hop : getF (F.FAB_SP_CMD.OP p.val).bits v = op) :
    (spineUp s p.val = true → Completes i s (fun t => t.flag F.FAB_LINK_EVENT.CMD_REJ = true ∧ OnlyRegs [Reg.FAB_LINK_EVENT] s t)) ∧
      (spineUp s p.val = false → op = 2 → Completes i s (fun t => spinePort t p.val = { spinePort s p.val with test := true } ∧
        (∀ q, q ≠ p.val → spinePort t q = spinePort s q) ∧ RegsBut [] s t ∧ t = { s with bus := t.bus, fab := t.fab })) ∧
      (spineUp s p.val = false → op = 1 → (spinePort s p.val).test = false → Completes i s (fun t =>
        (∃ f, t.tx = s.tx ++ [f] ∧ f.port = p.val ∧ f.body = .wakePulse) ∧ RegsBut [] s t ∧ t = { s with bus := t.bus, tx := t.tx })) ∧
      (spineUp s p.val = false → op = 1 → (spinePort s p.val).test = true → Completes i s (fun t =>
        (spinePort t p.val).pulses = (spinePort s p.val).pulses + 1 ∧ t.tx = s.tx)) := by
  have hexec := exec_spineCommand hacc hfree hi hop
  have hrej : spineUp s p.val = true → spCmdOp p.val v s = s.ev F.FAB_LINK_EVENT.CMD_REJ := fun hup => by
    obtain ⟨rfl, -⟩ | ⟨rfl, -⟩ := hi
    · rw [spCmdOp_pulse hop, if_pos hup]
    · rw [spCmdOp_test hop, if_pos hup]
  refine ⟨fun hup => ?_, fun hdown htwo => ?_, fun hdown hone hidle => ?_, fun hdown hone htest => ?_⟩
  · exact ⟨_, hexec.trans (congrArg Host.Outcome.next (hrej hup)), State.flag_ev_self (by decide) (by decide) s, changesOnly_ev (by simp) s⟩
  · rw [htwo] at hop
    refine ⟨_, hexec.trans (congrArg Host.Outcome.next ((spCmdOp_test hop s).trans (if_neg fun h => Bool.false_ne_true (hdown.symm.trans h)))),
      spinePort_modSpine_same _ _ s, fun q hq => spinePort_modSpine_ne hq _ s, fun _ _ => rfl, rfl⟩
  · rw [hone] at hop
    refine ⟨_, hexec.trans (congrArg Host.Outcome.next ((spCmdOp_pulse hop s).trans ((if_neg fun h => Bool.false_ne_true (hdown.symm.trans h)).trans
      (if_neg fun h => Bool.false_ne_true (hidle.symm.trans h))))), ⟨_, rfl, rfl, rfl⟩, fun _ _ => rfl, rfl⟩
  · rw [hone] at hop
    refine ⟨_, hexec.trans (congrArg Host.Outcome.next ((spCmdOp_pulse hop s).trans ((if_neg fun h => Bool.false_ne_true (hdown.symm.trans h)).trans
      (if_pos htest)))), ?_, rfl⟩
    rw [spinePort_modSpine_same]

theorem spineRestore_clause {s : State} {core : Sender} {p : Fin 4} {v : Word} (hacc : canAccess s core = true)
    (hfree : Unguarded s (Reg.FAB_SP_CMD p.val)) (hop : getF (F.FAB_SP_CMD.OP p.val).bits v = 3) :
    Completes (.restoreDownshiftedModes core p v) s (fun t =>
      t.get (F.FAB_SP_STAT.DS_MASK p.val) = 0 ∧ (spinePort t p.val).drops = [] ∧ RegsBut [Reg.FAB_SP_STAT p.val] s t) := by
  refine ⟨_, congrArg Host.Outcome.next ((spRow_of_op hacc hfree hop).trans (spCmdOp_restore hop s)), ?_, ?_, ?_⟩
  · exact (State.get_of_reg_eq (reg_modSpine _ _ _ _)).trans (State.get_put_zero (by decide) (by decide) s _)
  · rw [spinePort_modSpine_same]
  · exact fun a ha => (reg_modSpine _ _ _ a).trans
      ((changesOnly_put (f := F.FAB_SP_STAT.DS_MASK p.val) (P := (· ∈ [Reg.FAB_SP_STAT p.val])) (by simp) s 0).1 a ha)

/-! ### A cable test ends -/

theorem forN_pulseOut (p n : Nat) (s : State) : ∃ l, s.forN n (fun _ u => pulseOut p u) = { s with tx := s.tx ++ l } ∧ l.length = n ∧
    ∀ f, f ∈ l → f.port = p ∧ f.body = .wakePulse := by
  induction n with
  | zero => exact ⟨[], by rw [List.append_nil]; rfl, rfl, fun f hf => absurd hf List.not_mem_nil⟩
  | succ n ih =>
    obtain ⟨l, hl, hlen, hall⟩ := ih
    rw [State.forN_succ, hl]
    refine ⟨l ++ [{ port := p, src := 0, dst := 0, epoch := 0, hops := 0, bcast := false, seq := 0, body := .wakePulse }], ?_, ?_, ?_⟩
    · rw [pulseOut, List.append_assoc]
    · rw [List.length_append, hlen]
      rfl
    · intro f hf
      obtain hf | hf := List.mem_append.mp hf
      · exact hall f hf
      · rw [List.mem_singleton.mp hf]
        exact ⟨rfl, rfl⟩

/-- The result of a cable test, before the pulses that waited for its end. -/
def testShown (p result dist : Nat) (s : State) : State :=
  (s.result (Reg.FAB_SP_TEST p) (result % 4 * 2 ^ 28 + (if result % 4 = 0 then 0 else dist % 2 ^ 12))).ev F.FAB_LINK_EVENT.NEW

theorem testDone_of_test {s : State} {p : Nat} (result dist : Nat) (hawake : s.awake = true) (htest : (spinePort s p).test = true) :
    testDone p result dist s = (modSpine p (fun y => { y with test := false, pulses := 0 }) (testShown p result dist s)).forN (spinePort s p).pulses
      (fun _ u => pulseOut p u) := by
  have hcond : ((spinePort s p).test && s.awake) = true := by rw [htest, hawake]; rfl
  rw [testDone]
  exact if_pos hcond

theorem changesOnly_testShown (p result dist : Nat) (s : State) :
    ChangesOnly (· ∈ [Reg.FAB_SP_TEST p, Reg.FAB_LINK_EVENT]) s (testShown p result dist s) :=
  (changesOnly_result (by simp) s _).trans (changesOnly_ev (f := F.FAB_LINK_EVENT.NEW) (by simp) _)

/-- What the end of a cable test shows. -/
def TestShown (p result dist : Nat) (s t : State) : Prop :=
  t.get (F.FAB_SP_TEST.RESULT p) = result ∧ t.get (F.FAB_SP_TEST.DIST p) = (if result = 0 then 0 else dist) ∧
    t.get (F.FAB_SP_TEST.TAG p) = (s.get (F.FAB_SP_TEST.TAG p) + 1) % 4 ∧ t.flag F.FAB_LINK_EVENT.NEW = true ∧
    RegsBut [Reg.FAB_SP_TEST p, Reg.FAB_LINK_EVENT] s t

theorem TestShown.of_bus {p result dist : Nat} {s t u : State} (h : TestShown p result dist s t) (hbus : u.bus = t.bus) :
    TestShown p result dist s u := by
  obtain ⟨hres, hdist, htag, hnew, hregs⟩ := h
  have hreg := State.reg_of_bus_eq hbus
  exact ⟨(State.get_of_reg_eq (f := F.FAB_SP_TEST.RESULT p) (hreg _)).trans hres, (State.get_of_reg_eq (f := F.FAB_SP_TEST.DIST p) (hreg _)).trans hdist,
    (State.get_of_reg_eq (f := F.FAB_SP_TEST.TAG p) (hreg _)).trans htag,
    (congrArg (· == 1) (State.get_of_reg_eq (f := F.FAB_LINK_EVENT.NEW) (hreg _))).trans hnew, fun a ha => (hreg a).trans (hregs a ha)⟩

theorem testShown_spec {p result dist : Nat} (hp : p < 4) (hr : result < 4) (hd : dist < 2 ^ 12) (s : State) :
    TestShown p result dist s (testShown p result dist s) := by
  have hne : Reg.FAB_SP_TEST p ≠ Reg.FAB_LINK_EVENT := (spineRegs_apart hp).2.2.2.2
  have hget : ∀ (w : State) (i : Bits), (w.ev F.FAB_LINK_EVENT.NEW).get ⟨Reg.FAB_SP_TEST p, i⟩ = w.get ⟨Reg.FAB_SP_TEST p, i⟩ := fun w i =>
    State.get_of_reg_eq (f := ⟨Reg.FAB_SP_TEST p, i⟩) (State.reg_ev_ne _ _ _ hne)
  have hr4 : result % 4 = result := Nat.mod_eq_of_lt hr
  have hd12 : dist % 2 ^ 12 = dist := Nat.mod_eq_of_lt hd
  refine ⟨?_, ?_, ?_, State.flag_ev_self (by decide) (by decide) _, (changesOnly_testShown p result dist s).1⟩
  · rw [testShown, hget, State.get_result (by decide) (by decide), hr4, hd12]
    split
    · omega
    · omega
  · rw [testShown, hget, State.get_result (by decide) (by decide), hr4, hd12]
    split
    · omega
    · omega
  · have htag : ∀ w : Word, getF (F.FAB_SP_TEST.TAG p).bits w = w.toNat / 2 ^ 30 % 4 := fun w => by simp [getF, bitsLen]
    rw [testShown, hget, State.get, htag, State.toNat_result, State.get, htag]
    have hlow : (result % 4 * 2 ^ 28 + if result % 4 = 0 then 0 else dist % 2 ^ 12) % 2 ^ 30 < 2 ^ 30 := Nat.mod_lt _ (by decide)
    generalize (result % 4 * 2 ^ 28 + if result % 4 = 0 then 0 else dist % 2 ^ 12) % 2 ^ 30 = low at *
    change _ = ((s.reg (Reg.FAB_SP_TEST p)).toNat / 2 ^ 30 % 4 + 1) % 4
    omega

/-- The port once its test has ended, and the pulses that waited. -/
theorem pulses_of_idle (p n : Nat) (s : State) : ∃ t l, (modSpine p (fun y => { y with test := false, pulses := 0 }) s).forN n (fun _ u => pulseOut p u) = t ∧
    t.bus = s.bus ∧ (spinePort t p).test = false ∧ (spinePort t p).pulses = 0 ∧ t.tx = s.tx ++ l ∧ l.length = n ∧
    ∀ f, f ∈ l → f.port = p ∧ f.body = .wakePulse := by
  have hport := spinePort_modSpine_same p (fun y => { y with test := false, pulses := 0 }) s
  obtain ⟨l, hl, hlen, hall⟩ := forN_pulseOut p n (modSpine p (fun y => { y with test := false, pulses := 0 }) s)
  refine ⟨_, l, hl, rfl, ?_, ?_, rfl, hlen, hall⟩
  · exact congrArg SpinePort.test hport
  · exact congrArg SpinePort.pulses hport

theorem cableTestDone_clause {s : State} (p r : Fin 4) {d : Nat} (hawake : s.awake = true) (htest : (spinePort s p.val).test = true)
    (hd : d < 2 ^ 12) : Completes (.cableTestDone p r d) s (fun t => t.get (F.FAB_SP_TEST.RESULT p.val) = r.val ∧
      t.get (F.FAB_SP_TEST.DIST p.val) = (if r.val = 0 then 0 else d) ∧
      t.get (F.FAB_SP_TEST.TAG p.val) = (s.get (F.FAB_SP_TEST.TAG p.val) + 1) % 4 ∧ t.flag F.FAB_LINK_EVENT.NEW = true ∧
      (spinePort t p.val).test = false ∧ (spinePort t p.val).pulses = 0 ∧
      (∃ l, t.tx = s.tx ++ l ∧ l.length = (spinePort s p.val).pulses ∧ ∀ f, f ∈ l → f.port = p.val ∧ f.body = .wakePulse) ∧
      RegsBut [Reg.FAB_SP_TEST p.val, Reg.FAB_LINK_EVENT] s t) := by
  have hshown := testShown_spec p.isLt r.isLt hd s
  obtain ⟨t, l, ht, hbus, hidle, hnone, htx, hlen, hall⟩ := pulses_of_idle p.val (spinePort s p.val).pulses (testShown p.val r.val d s)
  obtain ⟨hres, hdist, htag, hnew, hregs⟩ := hshown.of_bus hbus
  have htx' : (testShown p.val r.val d s).tx = s.tx := by rw [testShown, State.ev_tx, State.result_tx]
  exact ⟨t, congrArg Host.Outcome.next ((testDone_of_test r.val d hawake htest).trans ht), hres, hdist, htag, hnew, hidle, hnone,
    ⟨l, htx.trans (congrArg (· ++ l) htx'), hlen, hall⟩, hregs⟩

/-! ### Discarded frames and the key store -/

theorem frameDiscarded_clause {s : State} (p : Fin 4) (hawake : s.awake = true) :
    Completes (.frameDiscarded p false) s (fun t => t.get F.FAB_NET_CNT.DISCARD =
      min (2 ^ bitsLen F.FAB_NET_CNT.DISCARD.bits - 1) (s.get F.FAB_NET_CNT.DISCARD + 1) ∧ OnlyRegs [Reg.FAB_NET_CNT] s t) ∧
    Completes (.frameDiscarded p true) s (fun t => t.get (F.FAB_SP_MSDROP.MSDROP p.val) =
      min (2 ^ bitsLen (F.FAB_SP_MSDROP.MSDROP p.val).bits - 1) (s.get (F.FAB_SP_MSDROP.MSDROP p.val) + 1) ∧
      t.flag F.FAB_LINK_EVENT.MSEC_DROP = true ∧ OnlyRegs [Reg.FAB_SP_MSDROP p.val, Reg.FAB_LINK_EVENT] s t) := by
  have hdrop : Reg.FAB_SP_MSDROP p.val = 0x40090090 + 0x4 * p.val := rfl
  have hev : Reg.FAB_LINK_EVENT = 0x400900c0 := rfl
  have hne : Reg.FAB_SP_MSDROP p.val ≠ Reg.FAB_LINK_EVENT := by omega
  refine ⟨⟨_, congrArg Host.Outcome.next (if_pos hawake), State.get_incSat_self (by decide) (by decide) s _,
    changesOnly_put (f := F.FAB_NET_CNT.DISCARD) (by simp) s _⟩, ⟨_, congrArg Host.Outcome.next (if_pos hawake), ?_, ?_, ?_⟩⟩
  · rw [if_pos rfl, State.get_of_reg_eq (State.reg_ev_ne _ _ _ hne)]
    exact State.get_incSat_self (by decide) (by decide) s _
  · rw [if_pos rfl]
    exact State.flag_ev_self (by decide) (by decide) _
  · rw [if_pos rfl]
    exact (changesOnly_put (f := F.FAB_SP_MSDROP.MSDROP p.val) (by simp) s _).trans (changesOnly_ev (f := F.FAB_LINK_EVENT.MSEC_DROP) (by simp) _)

theorem exec_fabKeyLoad {s : State} {core : Sender} {v : Word} (h : Guarded s core Reg.FAB_KEY_LOAD v) :
    exec (.fabKeyLoad core (~~~ v)) s = .next (keyLoadOp v (dropGuard 9 s)) :=
  congrArg Host.Outcome.next (cplWrite_of_armed keyLoadOp h.1 (by decide) h.2)

theorem keyLoadOp_eq (v : Word) (s : State) : keyLoadOp v s =
    if getF F.FAB_KEY_LOAD.SLOT.bits v < 3072 ∧ (s.mode = .watch ∨ s.mode = .standby ∨ s.mode = .commissioning) then
      mramPut (0x4000 + 16 * getF F.FAB_KEY_LOAD.SLOT.bits v) (bytesAt s.sram (getF F.FAB_KEY_LOAD.SRC.bits v * 16) 16)
        (keepVal Reg.FAB_KEY_LOAD v s)
    else keepVal Reg.FAB_KEY_LOAD v s := rfl

theorem length_bytesAt (m : List (Nat × Byte)) (a n : Nat) : (bytesAt m a n).length = n := by
  induction n generalizing a with
  | zero => rfl
  | succ n ih => rw [bytesAt, List.length_cons, ih]

theorem getD_bytesAt (m : List (Nat × Byte)) (a n i : Nat) (hi : i < n) : (bytesAt m a n).getD i 0 = smGet 0 m (a + i) := by
  induction n generalizing a i with
  | zero => omega
  | succ n ih =>
    cases i with
    | zero => rfl
    | succ i =>
      rw [bytesAt, List.getD_cons_succ, ih _ _ (by omega), Nat.add_right_comm, Nat.add_assoc]

theorem keyLoad_clause {s : State} {core : Sender} {v : Word} (hguard : Guarded s core Reg.FAB_KEY_LOAD v) :
    (getF F.FAB_KEY_LOAD.SLOT.bits v < 3072 → (s.mode = .watch ∨ s.mode = .standby ∨ s.mode = .commissioning) →
      Completes (.fabKeyLoad core (~~~ v)) s (fun t =>
        (∀ i, i < 16 → smGet 0 t.nv.mram (0x4000 + 16 * getF F.FAB_KEY_LOAD.SLOT.bits v + i) =
          smGet 0 s.sram (16 * getF F.FAB_KEY_LOAD.SRC.bits v + i)) ∧
        (∀ j, j < 0x4000 + 16 * getF F.FAB_KEY_LOAD.SLOT.bits v ∨ 0x4000 + 16 * getF F.FAB_KEY_LOAD.SLOT.bits v + 16 ≤ j →
          smGet 0 t.nv.mram j = smGet 0 s.nv.mram j) ∧
        RegsBut [Reg.FAB_KEY_LOAD] s t ∧ t = { s with bus := t.bus, nv := { s.nv with mram := t.nv.mram } })) ∧
    ((3072 ≤ getF F.FAB_KEY_LOAD.SLOT.bits v ∨ s.mode ≠ .watch ∧ s.mode ≠ .standby ∧ s.mode ≠ .commissioning) →
      Completes (.fabKeyLoad core (~~~ v)) s (fun t => OnlyRegs [Reg.FAB_KEY_LOAD] s t)) := by
  have hexec := (exec_fabKeyLoad hguard).trans (congrArg Host.Outcome.next (keyLoadOp_eq v (dropGuard 9 s)))
  have hkept : ChangesOnly (· ∈ [Reg.FAB_KEY_LOAD]) s (keepVal Reg.FAB_KEY_LOAD v (dropGuard 9 s)) :=
    changesOnly_keepVal_dropGuard (by simp) 9 v s
  have hlen := length_bytesAt s.sram (getF F.FAB_KEY_LOAD.SRC.bits v * 16) 16
  generalize getF F.FAB_KEY_LOAD.SLOT.bits v = slot at *
  refine ⟨fun hslot hmode => ?_, fun hno => ?_⟩
  · refine ⟨_, hexec.trans (congrArg Host.Outcome.next (if_pos ⟨hslot, hmode⟩)), ?_⟩
    obtain ⟨hregs, -, hframe⟩ := hkept
    generalize keepVal Reg.FAB_KEY_LOAD v (dropGuard 9 s) = u at *
    have hsram : (dropGuard 9 s).sram = s.sram := rfl
    rw [hsram]
    have hholds := mramHolds_mramPut (0x4000 + 16 * slot) (bytesAt s.sram (getF F.FAB_KEY_LOAD.SRC.bits v * 16) 16) u
    have hnv : u.nv = s.nv := by rw [hframe]
    refine ⟨fun i hi => ?_, fun j hj => ?_, hregs, ?_⟩
    · rw [hholds i (by rw [hlen]; exact hi), getD_bytesAt _ _ _ _ hi, Nat.mul_comm]
    · rw [smGet_mramPut_ne u (by rw [hlen]; exact hj), hnv]
    · rw [mramPut, hnv, hframe]
  · refine ⟨_, hexec.trans (congrArg Host.Outcome.next (if_neg fun h => ?_)), hkept⟩
    obtain ⟨hslot, hmode⟩ := h
    obtain hno | ⟨hw, hs, hc⟩ := hno
    · omega
    · obtain h | h | h := hmode
      · exact hw h
      · exact hs h
      · exact hc h

/-- Settles O51: a link's changes show in its own status and in the events of the links, a downshift's record changes the recorder alone, and
pulses requested while a cable test runs leave at its end. -/
theorem spinePortsAndKeys : Obligations.SpinePortsAndKeys := by
  refine ⟨fun s p m q hawake hen hdown htest hadv hfree hplain => linkUp_clause p m q hawake hen hdown htest hadv hfree hplain,
    fun s p hup => linkDown_clause p hup, fun s core p v hacc hfree => ⟨fun i op hi hop => spineCommand_clause hacc hfree hi hop,
      fun hop => spineRestore_clause hacc hfree hop⟩, fun s p r d hawake htest hd => cableTestDone_clause p r hawake htest hd,
    fun s p hawake => frameDiscarded_clause p hawake, fun s core v slot src hguard hslot hsrc => ?_⟩
  subst hslot hsrc
  exact keyLoad_clause hguard

end Sys2Proof.Machine
end

section
/-!
PROOF. The landing bus: admitted nodes and strangers, and the loss of PLCA (17 R537 to R544).
-/

namespace Sys2Proof.Machine

open Sys2Proof

/-! ### Records leave the fabric's state and its registers -/

theorem record_reg_of_lt {a : Nat} (ha : a < 0x400b0000) (src unit code : Nat) (data : List Byte) (s : State) :
    (record src unit code data s).reg a = s.reg a := by
  have hlost : Reg.REC_LOST = 0x400b0004 := rfl
  have hev : Reg.REC_EVENT = 0x400b0008 := rfl
  refine (recorderOnly_enqueue false _ s).1 a ?_
  simp only [List.mem_cons, List.not_mem_nil, or_false, not_or]
  omega

theorem record_fab_saf (src unit code : Nat) (data : List Byte) (s : State) :
    (record src unit code data s).fab = s.fab ∧ (record src unit code data s).saf = s.saf := by
  rw [record, (recorderOnly_enqueue false _ s).2]
  exact ⟨rfl, rfl⟩

/-- The registers of a landing-bus port lie apart and below the recorder's. -/
theorem lbRegs_apart {q : Nat} (hq : q < 2) : Reg.FAB_LB_STAT q ≠ Reg.FAB_LINK_EVENT ∧ Reg.FAB_LB_CNT q ≠ Reg.FAB_LINK_EVENT ∧
    Reg.FAB_LB_STAT q ≠ Reg.FAB_LB_CNT q ∧ Reg.FAB_LB_STAT q < 0x400b0000 ∧ Reg.FAB_LB_CNT q < 0x400b0000 := by
  have hstat : Reg.FAB_LB_STAT q = 0x40090404 + 0x100 * q := rfl
  have hcnt : Reg.FAB_LB_CNT q = 0x40090408 + 0x100 * q := rfl
  have hev : Reg.FAB_LINK_EVENT = 0x400900c0 := rfl
  omega

/-- The registers of a stranger's address lie apart from its count and event. -/
theorem strangerRegs_apart {q : Nat} (hq : q < 2) : Reg.FAB_LB_STR_LO q < 0x400b0000 ∧
    (∀ a, a = Reg.FAB_LB_CNT q ∨ a = Reg.FAB_LINK_EVENT → a ≠ Reg.FAB_LB_STR_LO q ∧ a ≠ Reg.FAB_LB_STR_LO q + 4) := by
  have hlo : Reg.FAB_LB_STR_LO q = 0x4009040c + 0x100 * q := rfl
  have hcnt : Reg.FAB_LB_CNT q = 0x40090408 + 0x100 * q := rfl
  have hev : Reg.FAB_LINK_EVENT = 0x400900c0 := rfl
  refine ⟨by omega, fun a ha => ?_⟩
  omega

theorem lbPort_modLb_same (q : Nat) (f : LbPort → LbPort) (s : State) : lbPort (modLb q f s) q = f (lbPort s q) :=
  smGet_smMod_same LbPort.init s.fab.lbs q f

theorem reg_modLb (q : Nat) (f : LbPort → LbPort) (s : State) (a : Nat) : (modLb q f s).reg a = s.reg a := rfl

theorem app_modLb (q : Nat) (f : LbPort → LbPort) (s : State) : (modLb q f s).fab.app = s.fab.app := rfl

theorem saf_modLb (q : Nat) (f : LbPort → LbPort) (s : State) : (modLb q f s).saf = s.saf := rfl

theorem frame_modLb {s t : State} (q : Nat) (f : LbPort → LbPort) (h : t = { s with bus := t.bus }) :
    modLb q f t = { s with bus := (modLb q f t).bus, fab := { s.fab with lbs := (modLb q f t).fab.lbs } } := by
  rw [modLb, h]

theorem onlyRegs_modLb {l : List Nat} {s t : State} (q : Nat) (f : LbPort → LbPort) (h : ChangesOnly (· ∈ l) s t) :
    OnlyRegs l s { modLb q f t with fab := s.fab } := by
  obtain ⟨hregs, hpend, hframe⟩ := h
  refine ⟨hregs, hpend, ?_⟩
  rw [modLb, hframe]

/-- Reading a port's state needs its register, reading what the model keeps of it the fabric's state. -/
theorem lbState_of_reg {s t : State} {q : Nat} (h : t.reg (Reg.FAB_LB_STAT q) = s.reg (Reg.FAB_LB_STAT q)) : lbState t q = lbState s q := by
  rw [lbState, State.get_of_reg_eq (f := F.FAB_LB_STAT.STATE q) h, lbState]

theorem lbPort_of_fab {s t : State} {q : Nat} (h : t.fab = s.fab) : lbPort t q = lbPort s q := by rw [lbPort, h, lbPort]

/-! ### Frames -/

/-- The owner of a frame on a PLCA coordinator's port is its sender, where admitted under its address. -/
theorem lbOwner_of_plca {s : State} {q : Nat} {f : LbFrame} (hplca : lbState s q = 1) :
    lbOwner s q f = if admitted s q f.id && admMac s q f.id == f.mac then some f.id else none := by
  rw [lbOwner, if_neg (by rw [hplca]; decide)]

theorem lbFrame_of_stranger {s : State} {q : Nat} {f : LbFrame} (hawake : s.awake = true) (hplca : lbState s q = 1)
    (howner : lbOwner s q f = none) : lbFrame q f s = strangerSeen q f.id f.mac s := by
  rw [lbFrame, if_pos (by rw [hawake, hplca]; rfl), if_neg (by rw [hplca]; decide)]
  simp only [howner]

theorem lbFrame_of_node {s : State} {q n : Nat} {f : LbFrame} (hawake : s.awake = true) (hplca : lbState s q = 1)
    (howner : lbOwner s q f = some n) (htel : ¬ (f.ver == 1 && f.type == 0x20) = true) : lbFrame q f s = toApp q f.payload s := by
  rw [lbFrame, if_pos (by rw [hawake, hplca]; rfl)]
  simp only [howner]
  exact if_neg htel

/-- What a stranger's frame shows, before its record. -/
def strangerShown (q id mac : Nat) (s : State) : State :=
  ((s.incSat (F.FAB_LB_CNT.STRANGER q)).evBit F.FAB_LINK_EVENT.STRANGER q).resultPair (Reg.FAB_LB_STR_LO q) (mac % 2 ^ 48 + id % 32 * 2 ^ 48)

/-- What the statement says of a stranger's frame. -/
def Stranger (q mac : Nat) (s t : State) : Prop :=
  t.get (F.FAB_LB_CNT.STRANGER q) = min (2 ^ bitsLen (F.FAB_LB_CNT.STRANGER q).bits - 1) (s.get (F.FAB_LB_CNT.STRANGER q) + 1) ∧
    t.bit F.FAB_LINK_EVENT.STRANGER q = true ∧ t.fab.app = s.fab.app ∧ t.saf = s.saf ∧ t.reg (Reg.FAB_LB_STR_LO q) = wd (mac % 2 ^ 32)

theorem stranger_lowWord (mac id : Nat) : lo32 (uns 62 (mac % 2 ^ 48 + id % 32 * 2 ^ 48)) = wd (mac % 2 ^ 32) := by
  have hval : uns 62 (mac % 2 ^ 48 + id % 32 * 2 ^ 48) = mac % 2 ^ 48 + id % 32 * 2 ^ 48 := by
    rw [uns]
    omega
  rw [lo32, hval, wd, wd]
  refine BitVec.eq_of_toNat_eq ?_
  rw [BitVec.toNat_ofNat, BitVec.toNat_ofNat]
  omega

theorem strangerShown_spec {q : Nat} (hq : q < 2) (id mac : Nat) (s : State) : Stranger q mac s (strangerShown q id mac s) := by
  obtain ⟨-, hcntEv, -, -, -⟩ := lbRegs_apart hq
  obtain ⟨-, hapart⟩ := strangerRegs_apart hq
  have hpair : ∀ (w : State) (v : Int) (a : Nat), a = Reg.FAB_LB_CNT q ∨ a = Reg.FAB_LINK_EVENT →
      (w.resultPair (Reg.FAB_LB_STR_LO q) v).reg a = w.reg a := fun w v a ha => by
    obtain ⟨hlo, hhi⟩ := hapart a ha
    exact (State.reg_setReg_ne _ _ _ _ hhi).trans (State.reg_setReg_ne _ _ _ _ hlo)
  refine ⟨?_, ?_, ?_, ?_, ?_⟩
  · rw [strangerShown, State.get_of_reg_eq (f := F.FAB_LB_CNT.STRANGER q) (hpair _ _ _ (.inl rfl)), State.evBit, State.get_put_other hcntEv,
      State.get_incSat_self (by decide) (by decide)]
    rfl
  · rw [strangerShown, State.bit, State.get_of_reg_eq (f := F.FAB_LINK_EVENT.STRANGER) (hpair _ _ _ (.inr rfl))]
    exact State.bit_evBit_self (by decide) (by decide) (by omega) _ _
  · rw [strangerShown, State.resultPair_fab, State.evBit_fab, State.incSat_fab]
  · rw [strangerShown, State.resultPair_saf, State.evBit_saf, State.incSat_saf]
  · rw [strangerShown, State.resultPair, State.reg_setReg_ne _ _ _ _ (by omega), State.reg_setReg_same]
    exact stranger_lowWord mac id

theorem Stranger.of_kept {q mac : Nat} {s t u : State} (hq : q < 2) (h : Stranger q mac s t) (hregs : ∀ a, a < 0x400b0000 → u.reg a = t.reg a)
    (happ : u.fab.app = t.fab.app) (hsaf : u.saf = t.saf) : Stranger q mac s u := by
  obtain ⟨hcount, hbit, happ', hsaf', hlow⟩ := h
  obtain ⟨-, -, -, -, hcnt⟩ := lbRegs_apart hq
  obtain ⟨hstr, -⟩ := strangerRegs_apart hq
  refine ⟨(State.get_of_reg_eq (f := F.FAB_LB_CNT.STRANGER q) (hregs _ hcnt)).trans hcount, ?_, happ.trans happ', hsaf.trans hsaf',
    (hregs _ hstr).trans hlow⟩
  rw [State.bit, State.get_of_reg_eq (f := F.FAB_LINK_EVENT.STRANGER) (hregs _ (by decide))]
  exact hbit

/-- Whether a stranger's frame is recorded: none of this minute was. -/
def strangerDue (q : Nat) (s : State) : Bool :=
  match (lbPort s q).strange with
  | some t0 => decide (t0 + ticksOf 60 ≤ s.tb.tick)
  | none => true

theorem strangerSeen_eq (q id mac : Nat) (s : State) : strangerSeen q id mac s =
    if strangerDue q s then record 9 q 0x21 (items [q, id, mac % 2 ^ 32, mac / 2 ^ 32 % 2 ^ 16])
      (modLb q (fun x => { x with strange := some s.tb.tick }) (strangerShown q id mac s))
    else strangerShown q id mac s := rfl

theorem stranger_strangerSeen {q : Nat} (hq : q < 2) (id mac : Nat) (s : State) : Stranger q mac s (strangerSeen q id mac s) := by
  have hshown := strangerShown_spec hq id mac s
  rw [strangerSeen_eq]
  generalize strangerShown q id mac s = u at *
  generalize strangerDue q s = due
  cases due with
  | false => exact hshown
  | true =>
    rw [if_pos rfl]
    have happ := app_modLb q (fun x => { x with strange := some s.tb.tick }) u
    have hsaf := saf_modLb q (fun x => { x with strange := some s.tb.tick }) u
    have hreg := reg_modLb q (fun x => { x with strange := some s.tb.tick }) u
    generalize modLb q _ u = v at *
    obtain ⟨hfab', hsaf'⟩ := record_fab_saf 9 q 0x21 (items [q, id, mac % 2 ^ 32, mac / 2 ^ 32 % 2 ^ 16]) v
    exact hshown.of_kept hq (fun a ha => (record_reg_of_lt ha _ _ _ _ _).trans (hreg a)) (by rw [hfab', happ]) (hsaf'.trans hsaf)

theorem lbFrame_clause {s : State} (q : Fin 2) (f : LbFrame) (hawake : s.awake = true) (hplca : lbState s q.val = 1) :
    (admitted s q.val f.id = true → admMac s q.val f.id = f.mac → f.type ≠ 0x20 → Completes (.lbFrameReceived q f) s (fun t =>
      t = { s with fab := { s.fab with app := s.fab.app ++ [(q.val, f.payload)] } })) ∧
    ((admitted s q.val f.id = false ∨ admMac s q.val f.id ≠ f.mac) → Completes (.lbFrameReceived q f) s (fun t => Stranger q.val f.mac s t)) := by
  refine ⟨fun hadm hmac htype => ?_, fun hno => ?_⟩
  · have howner : lbOwner s q.val f = some f.id := by
      rw [lbOwner_of_plca hplca, hadm, hmac, if_pos (by rw [beq_self_eq_true]; rfl)]
    have htel : ¬ (f.ver == 1 && f.type == 0x20) = true := by simp [htype]
    exact ⟨_, congrArg Host.Outcome.next (lbFrame_of_node hawake hplca howner htel), rfl⟩
  · have howner : lbOwner s q.val f = none := by
      rw [lbOwner_of_plca hplca, if_neg]
      obtain h | h := hno
      · simp [h]
      · simp [h]
    exact ⟨_, congrArg Host.Outcome.next (lbFrame_of_stranger hawake hplca howner), stranger_strangerSeen q.isLt f.id f.mac s⟩

/-! ### The loss of PLCA and its return -/

/-- The wait in CSMA/CD that a loss of PLCA starts. -/
def lostWait (q : Nat) (s : State) : Nat :=
  if (match (lbPort s q).back with
    | some t => decide (s.tb.tick ≤ t + ticksOf 10)
    | none => false) = true then 10 else 1

theorem plcaLost_spec {q : Nat} (hq : q < 2) (cause : Nat) (s : State) : lbState (plcaLost q cause s) q = 2 ∧
    (plcaLost q cause s).bit F.FAB_LINK_EVENT.PLCA_LOST q = true ∧ (lbPort (plcaLost q cause s) q).csma = some s.tb.tick ∧
    (lbPort (plcaLost q cause s) q).wait = lostWait q s := by
  obtain ⟨hne, -, -, hstat, -⟩ := lbRegs_apart hq
  have hset : plcaLost q cause s = record 9 q 0x22 (items [q, cause]) (modLb q (fun x => { x with
      colls := 0, csma := some s.tb.tick, wait := lostWait q s }) ((s.put (F.FAB_LB_STAT.STATE q) 2).evBit F.FAB_LINK_EVENT.PLCA_LOST q)) := rfl
  have hstate : lbState ((s.put (F.FAB_LB_STAT.STATE q) 2).evBit F.FAB_LINK_EVENT.PLCA_LOST q) q = 2 := by
    rw [lbState, State.evBit, State.get_put_other hne, State.get_put_self (by decide) (by decide)]
    rfl
  have hbit : ((s.put (F.FAB_LB_STAT.STATE q) 2).evBit F.FAB_LINK_EVENT.PLCA_LOST q).bit F.FAB_LINK_EVENT.PLCA_LOST q = true :=
    State.bit_evBit_self (by decide) (by decide) (by omega) _ _
  rw [hset]
  generalize (s.put (F.FAB_LB_STAT.STATE q) 2).evBit F.FAB_LINK_EVENT.PLCA_LOST q = u at *
  have hport := lbPort_modLb_same q (fun x => { x with colls := 0, csma := some s.tb.tick, wait := lostWait q s }) u
  have hreg := reg_modLb q (fun x => { x with colls := 0, csma := some s.tb.tick, wait := lostWait q s }) u
  generalize modLb q _ u = v at *
  obtain ⟨hfab, -⟩ := record_fab_saf 9 q 0x22 (items [q, cause]) v
  have hrec : ∀ a, a < 0x400b0000 → (record 9 q 0x22 (items [q, cause]) v).reg a = u.reg a := fun a ha =>
    (record_reg_of_lt ha _ _ _ _ v).trans (hreg a)
  generalize record 9 q 0x22 (items [q, cause]) v = w at *
  refine ⟨(lbState_of_reg (hrec _ hstat)).trans hstate, ?_, ?_, ?_⟩
  · rw [State.bit, State.get_of_reg_eq (f := F.FAB_LINK_EVENT.PLCA_LOST) (hrec _ (by decide))]
    exact hbit
  · rw [lbPort_of_fab hfab, hport]
  · rw [lbPort_of_fab hfab, hport]

theorem collision_of_plca {s : State} {q cycle : Nat} (hawake : s.awake = true) (hplca : lbState s q = 1) (hpos : 0 < (lbPort s q).colls)
    (hnext : cycle = (lbPort s q).cycle + 1) : collision q cycle s =
    if 16 ≤ (lbPort s q).colls + 1 then
      plcaLost q 2 (modLb q (fun y => { y with colls := (lbPort s q).colls + 1, cycle := cycle }) (s.incSat (F.FAB_LB_CNT.COLL q)))
    else modLb q (fun y => { y with colls := (lbPort s q).colls + 1, cycle := cycle }) (s.incSat (F.FAB_LB_CNT.COLL q)) := by
  have hcount : (if (lbPort s q).colls = 0 then 1 else if cycle = (lbPort s q).cycle then (lbPort s q).colls
      else if cycle = (lbPort s q).cycle + 1 then (lbPort s q).colls + 1 else 1) = (lbPort s q).colls + 1 := by
    rw [if_neg (by omega), if_neg (by omega), if_pos hnext]
  rw [collision, if_pos (by rw [hawake, hplca]; rfl)]
  dsimp only
  rw [if_pos hplca, hcount]

theorem collision_clause {s : State} (q : Fin 2) {cycle : Nat} (hawake : s.awake = true) (hplca : lbState s q.val = 1) :
    (cycle = (lbPort s q.val).cycle + 1 → (lbPort s q.val).colls < 15 → 0 < (lbPort s q.val).colls → Completes (.lbCollision q cycle) s
      (fun t => (lbPort t q.val).colls = (lbPort s q.val).colls + 1 ∧ (lbPort t q.val).cycle = cycle ∧ lbState t q.val = 1 ∧
        OnlyRegs [Reg.FAB_LB_CNT q.val] s { t with fab := s.fab })) ∧
    (cycle = (lbPort s q.val).cycle + 1 → 15 ≤ (lbPort s q.val).colls → Completes (.lbCollision q cycle) s (fun t =>
      lbState t q.val = 2 ∧ t.bit F.FAB_LINK_EVENT.PLCA_LOST q.val = true ∧ (lbPort t q.val).csma = some s.tb.tick)) := by
  obtain ⟨-, -, hne, -, -⟩ := lbRegs_apart q.isLt
  refine ⟨fun hnext hfew hpos => ?_, fun hnext hmany => ?_⟩
  · refine ⟨_, congrArg Host.Outcome.next ((collision_of_plca hawake hplca hpos hnext).trans (if_neg (by omega))), ?_⟩
    have hchange : ChangesOnly (· ∈ [Reg.FAB_LB_CNT q.val]) s (s.incSat (F.FAB_LB_CNT.COLL q.val)) :=
      changesOnly_put (f := F.FAB_LB_CNT.COLL q.val) (by simp) s _
    have hlb : lbPort (s.incSat (F.FAB_LB_CNT.COLL q.val)) q.val = lbPort s q.val := lbPort_of_fab (State.incSat_fab _ _)
    generalize s.incSat (F.FAB_LB_CNT.COLL q.val) = u at *
    have hport := lbPort_modLb_same q.val (fun y => { y with colls := (lbPort s q.val).colls + 1, cycle := cycle }) u
    have hreg := reg_modLb q.val (fun y => { y with colls := (lbPort s q.val).colls + 1, cycle := cycle }) u
    have honly := onlyRegs_modLb q.val (fun y => { y with colls := (lbPort s q.val).colls + 1, cycle := cycle }) hchange
    generalize modLb q.val _ u = v at *
    refine ⟨?_, ?_, ?_, honly⟩
    · rw [hport]
    · rw [hport]
    · rw [lbState_of_reg (hreg _), lbState_of_reg (hchange.1 _ (by simp))]
      exact hplca
  · obtain ⟨hstate, hbit, hcsma, -⟩ := plcaLost_spec q.isLt 2
      (modLb q.val (fun y => { y with colls := (lbPort s q.val).colls + 1, cycle := cycle }) (s.incSat (F.FAB_LB_CNT.COLL q.val)))
    exact ⟨_, congrArg Host.Outcome.next ((collision_of_plca hawake hplca (by omega) hnext).trans (if_pos (by omega))), hstate, hbit, hcsma⟩

theorem foreignBeacon_clause {s : State} (q : Fin 2) (hawake : s.awake = true) (hplca : lbState s q.val = 1) :
    Completes (.foreignBeacon q) s (fun t => lbState t q.val = 2 ∧ t.bit F.FAB_LINK_EVENT.PLCA_LOST q.val = true ∧
      (lbPort t q.val).csma = some s.tb.tick ∧
      ((lbPort s q.val).back = none → (lbPort t q.val).wait = 1) ∧
      (∀ b, (lbPort s q.val).back = some b → s.tb.tick ≤ b + 1250000000 → (lbPort t q.val).wait = 10)) := by
  obtain ⟨hstate, hbit, hcsma, hwait⟩ := plcaLost_spec q.isLt 1 s
  have hbeacon : foreignBeacon q.val s = plcaLost q.val 1 s := by
    rw [foreignBeacon, if_pos (by rw [hawake, hplca]; rfl)]
  refine ⟨_, congrArg Host.Outcome.next hbeacon, hstate, hbit, hcsma, fun hback => ?_, fun b hback hsoon => ?_⟩
  · rw [hwait, lostWait, hback]
    rfl
  · rw [hwait, lostWait, hback]
    exact if_pos (decide_eq_true hsoon)

theorem plcaResume_clause {s : State} (q : Fin 2) {t0 : Nat} (hawake : s.awake = true) (hcsma : lbState s q.val = 2)
    (hsince : (lbPort s q.val).csma = some t0) (hwait : t0 + 125000000 * (lbPort s q.val).wait ≤ s.tb.tick) :
    Completes (.plcaResume q) s (fun t => lbState t q.val = 1 ∧
      t.bit F.FAB_LINK_EVENT.PLCA_BACK q.val = true ∧ (lbPort t q.val).csma = none ∧ (lbPort t q.val).back = some s.tb.tick ∧
      RegsBut [Reg.FAB_LB_STAT q.val, Reg.FAB_LINK_EVENT] s t ∧ t = { s with bus := t.bus, fab := { s.fab with lbs := t.fab.lbs } }) := by
  obtain ⟨hne, -⟩ := lbRegs_apart q.isLt
  have hdue : t0 + ticksOf (lbPort s q.val).wait ≤ s.tb.tick := by
    rw [ticksOf, Nat.mul_comm]
    exact hwait
  have hresume : plcaResume q.val s = modLb q.val (fun x => { x with colls := 0, csma := none, back := some s.tb.tick })
      ((s.put (F.FAB_LB_STAT.STATE q.val) 1).evBit F.FAB_LINK_EVENT.PLCA_BACK q.val) := by
    rw [plcaResume, hsince]
    exact if_pos ⟨hawake, hcsma, hdue⟩
  refine ⟨_, congrArg Host.Outcome.next hresume, ?_⟩
  have hchange : ChangesOnly (· ∈ [Reg.FAB_LB_STAT q.val, Reg.FAB_LINK_EVENT]) s
      ((s.put (F.FAB_LB_STAT.STATE q.val) 1).evBit F.FAB_LINK_EVENT.PLCA_BACK q.val) :=
    (changesOnly_put (f := F.FAB_LB_STAT.STATE q.val) (by simp) s _).trans (changesOnly_put (f := F.FAB_LINK_EVENT.PLCA_BACK) (by simp) _ _)
  have hstate : lbState ((s.put (F.FAB_LB_STAT.STATE q.val) 1).evBit F.FAB_LINK_EVENT.PLCA_BACK q.val) q.val = 1 := by
    rw [lbState, State.evBit, State.get_put_other hne, State.get_put_self (by decide) (by decide)]
    rfl
  have hbit : ((s.put (F.FAB_LB_STAT.STATE q.val) 1).evBit F.FAB_LINK_EVENT.PLCA_BACK q.val).bit F.FAB_LINK_EVENT.PLCA_BACK q.val = true :=
    State.bit_evBit_self (by decide) (by decide) (by omega) _ _
  generalize (s.put (F.FAB_LB_STAT.STATE q.val) 1).evBit F.FAB_LINK_EVENT.PLCA_BACK q.val = u at *
  obtain ⟨hregs, -, hframe⟩ := hchange
  have hreg := reg_modLb q.val (fun x => { x with colls := 0, csma := none, back := some s.tb.tick }) u
  have hrest := frame_modLb q.val (fun x => { x with colls := 0, csma := none, back := some s.tb.tick }) hframe
  have hport := lbPort_modLb_same q.val (fun x => { x with colls := 0, csma := none, back := some s.tb.tick }) u
  generalize modLb q.val _ u = v at *
  refine ⟨(lbState_of_reg (hreg _)).trans hstate, ?_, ?_, ?_, fun a ha => (hreg a).trans (hregs a ha), hrest⟩
  · rw [State.bit, State.get_of_reg_eq (f := F.FAB_LINK_EVENT.PLCA_BACK) (hreg _)]
    exact hbit
  · rw [hport]
  · rw [hport]

/-- Settles O52: which node a frame is from is read from the admission table, and what a loss of PLCA leaves passes its record unchanged. -/
theorem landingBusAdmitsItsNodes : Obligations.LandingBusAdmitsItsNodes := by
  refine ⟨fun s q f hawake hplca => lbFrame_clause q f hawake hplca, fun s q cycle hawake hplca => ?_,
    fun s q t0 hawake hcsma hsince hwait => plcaResume_clause q hawake hcsma hsince hwait⟩
  obtain ⟨hfew, hmany⟩ := collision_clause (cycle := cycle) q hawake hplca
  exact ⟨hfew, hmany, foreignBeacon_clause q hawake hplca⟩

end Sys2Proof.Machine
end

section
/-!
PROOF. A frame heard at a newer epoch leaves no learned port of its source (18 R555): the statement's frame of FENCED fails.
-/

namespace Sys2Proof.Machine

open Sys2Proof

/-- A device in Watch with port 0 up, that has heard source 1 at epoch 0 and learned port 0 for it. -/
def newEpochWitness : State :=
  { State.reset with
    bus := { Bus.init with regs := [(Reg.FAB_SP_STAT 0, 0xc0000000)] }
    pw := { Power.init with phase := .running, mode := .watch }
    fab := { Fab.init with epochs := [(1, ⟨0, 0⟩)], learned := [(1, ⟨⟨0, 0, 0, 0, 0, 0, 0⟩, [(0, 0)], none⟩)] } }

/-- A group broadcast of source 1 at epoch 1. -/
def newEpochHdr : Hdr := ⟨0, 1, 0, 1, 1, true, 0, 0⟩

theorem heardInGroup_newEpochWitness : HeardInGroup newEpochWitness newEpochHdr := by
  refine ⟨by decide, by decide, by decide, by decide, by decide, fun x hx => ?_⟩
  have hheld : smFind newEpochWitness.fab.epochs newEpochHdr.src = some ⟨0, 0⟩ := by decide
  rw [← Option.some.inj (hheld.symm.trans hx)]
  decide

/-- The port learned of source 1 goes with the epoch it was learned at. -/
theorem learned_newEpochWitness :
    (receive 12 newEpochHdr (.fenced ⟨0, 0⟩) (fun t => t.ev F.FAB_NET_EVENT.PEER_FENCED) newEpochWitness).fab.learned =
      [(1, ⟨⟨0, 0, 0, 0, 0, 0, 0⟩, [], none⟩)] := by decide +kernel

/-- Refutes O53: a FENCED frame whose epoch is newer than the one in force for its source also takes away the ports learned of that source
(R555), which its clause excludes, since it lets the epochs and the peers seen alone change. -/
theorem not_framesAreHeardAndForwarded : ¬ Obligations.FramesAreHeardAndForwarded := by
  rintro ⟨-, hheard, -⟩
  obtain ⟨hfenced, -⟩ := hheard newEpochWitness newEpochHdr heardInGroup_newEpochWitness
  obtain ⟨t, hexec, -, hbut, -⟩ := hfenced ⟨0, 0⟩
  have ht : Host.Outcome.next (receive 12 newEpochHdr (.fenced ⟨0, 0⟩) (fun t => t.ev F.FAB_NET_EVENT.PEER_FENCED) newEpochWitness) =
      Host.Outcome.next t := hexec
  have hkept : t.fab.learned = newEpochWitness.fab.learned := by rw [hbut]
  rw [← Host.Outcome.next.inj ht, learned_newEpochWitness] at hkept
  exact absurd hkept (by decide)

end Sys2Proof.Machine
end

section
/-!
PROOF. Mode requests, wake sources and the notices of other devices (03 R63, R67 to R71, R79, R84, R93).
-/

namespace Sys2Proof.Machine

open Sys2Proof

/-! ### Mode requests -/

theorem modeOfCode_code (m : Mode) : modeOfCode m.code = m := by cases m <;> rfl

theorem modeTarget_eq (v : Word) : getF F.PCM_MODE_REQ.TARGET.bits v = v.toNat % 8 := by simp [getF, bitsLen]

theorem modeRow_of_guarded {s : State} {core : Sender} {v : Word} {m : Mode} (hguard : Guarded s core Reg.PCM_MODE_REQ v)
    (hm : v.toNat % 8 = m.code) : modeRow core m (~~~ v) s = modeReqOp m (keepVal Reg.PCM_MODE_REQ v (dropGuard 1 s)) := by
  have hcpl : cplIs F.PCM_MODE_REQ.TARGET m.code (~~~ v) = true := by
    rw [cplIs, BitVec.not_not, modeTarget_eq, hm, beq_self_eq_true]
  have hwrite : modeReqWrite v (dropGuard 1 s) = modeReqOp m (keepVal Reg.PCM_MODE_REQ v (dropGuard 1 s)) := by
    rw [modeReqWrite, modeTarget_eq, hm, modeOfCode_code]
  rw [modeRow, if_pos hcpl, ← hwrite]
  exact cplWrite_of_armed modeReqWrite hguard.1 (by decide) hguard.2

theorem exec_modeRequest {s : State} {core : Sender} {v : Word} {m : Mode} {i : Instr} (hguard : Guarded s core Reg.PCM_MODE_REQ v)
    (hm : v.toNat % 8 = m.code)
    (hi : m = .dormant ∧ i = .modeReqDormant core (~~~ v) ∨ m = .watch ∧ i = .modeReqWatch core (~~~ v) ∨
      m = .standby ∧ i = .modeReqStandby core (~~~ v) ∨ m = .service ∧ i = .modeReqService core (~~~ v) ∨
      m = .inspection ∧ i = .modeReqInspection core (~~~ v) ∨ m = .rescue ∧ i = .modeReqRescue core (~~~ v) ∨
      m = .commissioning ∧ i = .modeReqCommissioning core (~~~ v) ∨ m = .lockout ∧ i = .modeReqLockout core (~~~ v)) :
    exec i s = .next (modeReqOp m (keepVal Reg.PCM_MODE_REQ v (dropGuard 1 s))) := by
  have hrow : (Host.Outcome.next (modeRow core m (~~~ v) s) : Host.Outcome State Fault Refusal) =
      .next (modeReqOp m (keepVal Reg.PCM_MODE_REQ v (dropGuard 1 s))) := congrArg Host.Outcome.next (modeRow_of_guarded hguard hm)
  obtain ⟨rfl, rfl⟩ | ⟨rfl, rfl⟩ | ⟨rfl, rfl⟩ | ⟨rfl, rfl⟩ | ⟨rfl, rfl⟩ | ⟨rfl, rfl⟩ | ⟨rfl, rfl⟩ | ⟨rfl, rfl⟩ := hi <;> exact hrow

/-- A request is judged on the life cycle, the loader and a transition in progress, none of which its own write changes. -/
theorem reqEarly_of_frame {s t : State} (h : t = { s with bus := t.bus }) (m : Mode) : reqEarly t m = reqEarly s m := by
  rw [h]
  rfl

theorem reqEarly_eq_none {s : State} {m : Mode} (hret : ¬(s.nv.lc.state = .retired ∧ m ≠ .dormant)) (hinsp : m ≠ .inspection)
    (hload : loaderRefuses s m = false) (htrans : s.pw.trans = none) : reqEarly s m = none := by
  rw [reqEarly, if_neg hret, if_neg (by simp [hinsp, hload]), if_neg (by simp [htrans])]

theorem reqEarly_eq_some {s : State} {m : Mode} {code : Nat} (h : s.nv.lc.state = .retired ∧ m ≠ .dormant ∧ code = 1 ∨
      ¬(s.nv.lc.state = .retired ∧ m ≠ .dormant) ∧ (m = .inspection ∨ loaderRefuses s m = true) ∧ code = 8 ∨
      ¬(s.nv.lc.state = .retired ∧ m ≠ .dormant) ∧ m ≠ .inspection ∧ loaderRefuses s m = false ∧ s.pw.trans ≠ none ∧ code = 9) :
    reqEarly s m = some code := by
  rw [reqEarly]
  obtain ⟨hret, hm, rfl⟩ | ⟨hret, hload, rfl⟩ | ⟨hret, hinsp, hload, htrans, rfl⟩ := h
  · rw [if_pos ⟨hret, hm⟩]
  · rw [if_neg hret, if_pos hload]
  · rw [if_neg hret, if_neg (by simp [hinsp, hload]), if_pos (Option.isSome_iff_ne_none.mpr htrans)]

/-- What a refusal leaves. -/
theorem refuseNote_spec {l : List Nat} {s u : State} (code : Nat) (h : ChangesOnly (· ∈ l) s u) (hev : Reg.PCM_EVENT ∈ l) :
    (refuseNote code u).pw.refuse = code ∧ (refuseNote code u).flag F.PCM_EVENT.REQ_REFUSED = true ∧ (refuseNote code u).mode = s.mode ∧
      (refuseNote code u).pw.trans = s.pw.trans ∧ RegsBut l s (refuseNote code u) ∧
      refuseNote code u = { s with bus := (refuseNote code u).bus, pw := { s.pw with refuse := code } } := by
  obtain ⟨hregs, -, hframe⟩ := h
  have hset : refuseNote code u = { u with bus := (refuseNote code u).bus, pw := { u.pw with refuse := code } } := rfl
  have hreg : ∀ a, a ∉ l → (refuseNote code u).reg a = s.reg a := fun a ha =>
    (State.reg_ev_ne _ F.PCM_EVENT.REQ_REFUSED _ fun h : a = Reg.PCM_EVENT => ha (h ▸ hev)).trans (hregs a ha)
  have hflag : (refuseNote code u).flag F.PCM_EVENT.REQ_REFUSED = true := State.flag_ev_self (by decide) (by decide) _
  generalize refuseNote code u = t at *
  rw [hframe] at hset
  have hpw : t.pw = { s.pw with refuse := code } := by rw [hset]
  refine ⟨by rw [hpw], hflag, ?_, by rw [hpw], hreg, hset⟩
  rw [State.mode, hpw, State.mode]

theorem changesOnly_modeVal (v : Word) {l : List Nat} (h : Reg.PCM_MODE_REQ ∈ l) (s : State) :
    ChangesOnly (· ∈ l) s (keepVal Reg.PCM_MODE_REQ v (dropGuard 1 s)) := changesOnly_keepVal_dropGuard h 1 v s

/-- A request left to the next evaluation. -/
theorem modeReqOp_left {l : List Nat} {s u : State} {m : Mode} (h : ChangesOnly (· ∈ l) s u) (hearly : reqEarly s m = none) :
    (m ≠ s.mode → (modeReqOp m u).pw = { s.pw with fwReq := some m }) ∧ (m = s.mode → (modeReqOp m u).pw = s.pw) ∧
      RegsBut l s (modeReqOp m u) ∧ modeReqOp m u = { s with bus := (modeReqOp m u).bus, pw := (modeReqOp m u).pw } := by
  obtain ⟨hregs, -, hframe⟩ := h
  have hop : modeReqOp m u = if u.mode = m then u else { u with pw := { u.pw with fwReq := some m } } := by
    rw [modeReqOp, reqEarly_of_frame hframe, hearly]
  have hpw : u.pw = s.pw := by rw [hframe]
  have hmode : u.mode = s.mode := by rw [State.mode, hpw, State.mode]
  rw [hop, hmode]
  by_cases hm : s.mode = m
  · rw [if_pos hm]
    exact ⟨fun h => absurd hm.symm h, fun _ => hpw, hregs, by rw [hframe]⟩
  · rw [if_neg hm]
    exact ⟨fun _ => by rw [hpw], fun h => absurd h.symm hm, hregs, by rw [hframe]⟩

/-- Settles O20: a request is judged on what its own write leaves. -/
theorem modeRequestsWaitForTheEvaluation : Obligations.ModeRequestsWaitForTheEvaluation := by
  intro s core v m i hguard hm hi
  have hexec := exec_modeRequest hguard hm hi
  refine ⟨fun code hcode => ?_, fun hret hinsp hload htrans => ⟨_, hexec, ?_⟩⟩
  · have hkeep : ChangesOnly (· ∈ [Reg.PCM_MODE_REQ, Reg.PCM_EVENT]) s (keepVal Reg.PCM_MODE_REQ v (dropGuard 1 s)) :=
      changesOnly_modeVal v (by simp) s
    have hop : modeReqOp m (keepVal Reg.PCM_MODE_REQ v (dropGuard 1 s)) = refuseNote code (keepVal Reg.PCM_MODE_REQ v (dropGuard 1 s)) := by
      rw [modeReqOp, reqEarly_of_frame hkeep.2.2, reqEarly_eq_some hcode]
    exact ⟨_, hexec.trans (congrArg Host.Outcome.next hop), refuseNote_spec code hkeep (by simp)⟩
  · exact modeReqOp_left (changesOnly_modeVal v (by simp) s) (reqEarly_eq_none hret hinsp hload htrans)

/-! ### Wake sources and notices -/

theorem exec_wakeSource {s : State} {i : Instr} {cause : Nat} {en : Bool} (hmode : s.mode = .dormant)
    (hi : (∃ p : Fin 4, i = .spineWakeDetect p ∧ cause = 1 + p.val ∧ en = s.bit F.PCM_WAKE_CFG.SP_EN p.val) ∨
      (∃ p : Fin 2, i = .lbEnergyDetect p ∧ cause = 5 + p.val ∧ en = s.bit F.PCM_WAKE_CFG.LB_EN p.val) ∨
      (∃ g : Fin 4, i = .fieldWakeEdge g ∧ cause = 7 + g.val ∧ en = s.bit F.PCM_WAKE_CFG.IN_EN g.val) ∨
      (i = .timeAlarm ∧ cause = 11 ∧ en = s.pw.alarm.any (fun t => decide (t ≤ s.tb.tick))) ∨
      (i = .clockStopDetect ∧ cause = 12 ∧ en = true)) : exec i s = .next (wakeBy cause en s) := by
  have hasleep : ¬ s.awake = true := by
    rw [State.awake, hmode]
    simp
  obtain ⟨p, rfl, rfl, rfl⟩ | ⟨p, rfl, rfl, rfl⟩ | ⟨g, rfl, rfl, rfl⟩ | ⟨rfl, rfl, rfl⟩ | ⟨rfl, rfl, rfl⟩ := hi
  · exact congrArg Host.Outcome.next (if_neg hasleep)
  · rfl
  · rfl
  · rfl
  · rfl

/-- What is heard before a notice acts. -/
theorem exec_notice {type : Nat} {h : Hdr} {b : FrameBody} {act : State → State} {s : State} (hd : Delivers s h) (h0 : type ≠ 0)
    (h16 : type ≤ 16) : ∃ f : Fab, receive type h b act s = act { s with fab := f } ∧ HeardBut s { s with fab := f } := by
  obtain ⟨f, hheard, -, hbut⟩ := telHeard h s
  exact ⟨f, (receive_of_delivers hd h0 h16).trans (congrArg act hheard), hbut⟩

theorem wakeNotice_clause {s : State} {h : Hdr} (p : WakePl) (hd : Delivers s h) (hsection : isSection s = true) :
    Completes (.wakeNotice h p) s (fun t =>
      (t.pw.wakePend = true ↔ s.pw.wakePend = true ∨ s.mode = .watch ∨ s.mode = .standby) ∧ t.pw.idleFrom = s.tb.tick ∧
      t.pw.stbyExp = false ∧ t.pw.svcExp = false ∧ HeardBut s t ∧ t = { s with fab := t.fab, pw := t.pw }) := by
  obtain ⟨f, hexec, hbut⟩ := exec_notice (type := 9) (b := .wake p) (act := wakeNotice) hd (by decide) (by decide)
  have hact : wakeNotice { s with fab := f } = idleRestart { s with fab := f, pw := { s.pw with
      wakePend := s.pw.wakePend || decide (s.mode = Mode.watch ∨ s.mode = Mode.standby) } } := if_pos hsection
  refine ⟨_, congrArg Host.Outcome.next (hexec.trans hact), ?_, rfl, rfl, rfl, hbut, rfl⟩
  rw [idleRestart, Bool.or_eq_true, decide_eq_true_iff]

theorem rescueNotice_clause {s : State} {h : Hdr} (reason : Nat) {n : Neighbour} (hd : Delivers s h)
    (hn : s.conf.geom.below = some n ∨ s.conf.geom.above = some n) (hid : n.id = h.src) (hmode : s.mode = .standby ∨ s.mode = .service) :
    Completes (.rescue h reason) s (fun t =>
      t.pw = { s.pw with rescuePend := some reason } ∧ HeardBut s t ∧ t = { s with fab := t.fab, pw := t.pw }) := by
  obtain ⟨f, hexec, hbut⟩ := exec_notice (type := 14) (b := .rescue ⟨reason⟩) (act := rescueNotice h.src reason) hd (by decide) (by decide)
  have hmem : n ∈ s.conf.geom.below.toList ++ s.conf.geom.above.toList := by
    rw [List.mem_append, Option.mem_toList, Option.mem_toList]
    exact hn
  have hany : (s.conf.geom.below.toList ++ s.conf.geom.above.toList).any (fun x => x.id == h.src) = true :=
    List.any_eq_true.mpr ⟨n, hmem, beq_iff_eq.mpr hid⟩
  have hrun : (s.mode == .standby || s.mode == .service) = true := by
    rw [Bool.or_eq_true, beq_iff_eq, beq_iff_eq]
    exact hmode
  have hact : rescueNotice h.src reason { s with fab := f } = { s with fab := f, pw := { s.pw with rescuePend := some reason } } :=
    if_pos (Bool.and_eq_true_iff.mpr ⟨hany, hrun⟩)
  exact ⟨_, congrArg Host.Outcome.next (hexec.trans hact), rfl, hbut, rfl⟩

/-- Settles O22: a wake source acts by its enable bit in Dormant alone, and a notice acts once its frame was heard. -/
theorem wakeSourcesAndNotices : Obligations.WakeSourcesAndNotices := by
  refine ⟨fun s i cause en hphase hmode htrans hi => ?_, fun s p hawake => ?_, fun s h p hd hsection => wakeNotice_clause p hd hsection,
    fun s h reason n hd hn hid hmode => rescueNotice_clause reason hd hn hid hmode⟩
  · have hexec := exec_wakeSource hmode hi
    refine ⟨fun hen => ?_, fun hen => ?_⟩
    · exact ⟨_, hexec.trans (congrArg Host.Outcome.next (if_pos ⟨hphase, hmode, htrans, hen⟩)), rfl, rfl, hmode, rfl⟩
    · refine ⟨s, hexec.trans (congrArg Host.Outcome.next (if_neg fun h => ?_)), rfl⟩
      obtain ⟨-, -, -, h⟩ := h
      exact Bool.false_ne_true (hen.symm.trans h)
  · exact ⟨_, congrArg Host.Outcome.next (if_pos hawake), State.flag_ev_self (by decide) (by decide) s, changesOnly_ev (by simp) s⟩

end Sys2Proof.Machine
end

section
/-!
PROOF. Entering a mode (03 R58, R63, R74, R82): what the parts of an entry leave alone, and that the report puts the mode in force.
-/

namespace Sys2Proof.Machine

open Sys2Proof

/-! ### What the parts of an entry leave -/

/-- The life-cycle record and the MRAM outside the recorder's header stand as before. -/
def NvKept (x y : NonVol) : Prop := y.lc = x.lc ∧ ∀ j, j < recHeader ∨ recHeader + 8 ≤ j → smGet 0 y.mram j = smGet 0 x.mram j

namespace NvKept

theorem refl (x : NonVol) : NvKept x x := ⟨rfl, fun _ _ => rfl⟩

theorem trans {x y z : NonVol} (hxy : NvKept x y) (hyz : NvKept y z) : NvKept x z :=
  ⟨hyz.1.trans hxy.1, fun j hj => (hyz.2 j hj).trans (hxy.2 j hj)⟩

theorem of_eq {x y : NonVol} (h : y = x) : NvKept x y := h ▸ refl y

theorem setLost (v : Nat) (s : State) : NvKept s.nv (setLost v s).nv := by
  refine ⟨rfl, fun j hj => ?_⟩
  rw [Machine.setLost]
  refine (smGet_mramPut_ne _ ?_).trans (smGet_mramPut_ne s ?_)
  all_goals
    rw [leBytes_length]
    omega

theorem dropEvent (s : State) : NvKept s.nv (dropEvent s).nv := by
  rw [Machine.dropEvent]
  split
  · exact refl _
  · exact setLost _ _

theorem enqueue (safety : Bool) (e : RecEv) (s : State) : NvKept s.nv (enqueue safety e s).nv := by
  have hdrop := dropEvent s
  rw [Machine.enqueue]
  split_ifs
  exacts [hdrop, refl _, hdrop, refl _, hdrop]

end NvKept

/-- The power state, the tick count, the start-up wait, the configuration in force and what NvKept says of the non-volatile memory stand as before. -/
def RunKept (s t : State) : Prop :=
  t.pw = s.pw ∧ t.tb.tick = s.tb.tick ∧ t.fab.settle = s.fab.settle ∧ t.conf = s.conf ∧ NvKept s.nv t.nv

namespace RunKept

variable {s t u : State}

theorem refl (s : State) : RunKept s s := ⟨rfl, rfl, rfl, rfl, .refl _⟩

theorem trans (hst : RunKept s t) (htu : RunKept t u) : RunKept s u := by
  obtain ⟨hpw, htick, hsettle, hconf, hnv⟩ := hst
  obtain ⟨hpw', htick', hsettle', hconf', hnv'⟩ := htu
  exact ⟨hpw'.trans hpw, htick'.trans htick, hsettle'.trans hsettle, hconf'.trans hconf, hnv.trans hnv'⟩

theorem ite {c : Prop} [Decidable c] (ht : RunKept s t) (hu : RunKept s u) : RunKept s (if c then t else u) := by
  split
  · exact ht
  · exact hu

theorem forL {α : Type} {l : List α} {f : α → State → State} (hf : ∀ x, x ∈ l → ∀ t, RunKept t (f x t)) (s : State) : RunKept s (s.forL l f) :=
  State.forL_rel refl (fun _ _ _ => trans) hf s

theorem forN {n : Nat} {f : Nat → State → State} (hf : ∀ i, i < n → ∀ t, RunKept t (f i t)) (s : State) : RunKept s (s.forN n f) :=
  State.forN_rel refl (fun _ _ _ => trans) hf s

theorem setReg (a : Nat) (w : Word) (s : State) : RunKept s (s.setReg a w) := ⟨rfl, rfl, rfl, rfl, .refl _⟩

theorem put (f : FRef) (v : Nat) (s : State) : RunKept s (s.put f v) := setReg _ _ s

theorem ev (f : FRef) (s : State) : RunKept s (s.ev f) := put _ _ s

theorem modAxis (n : Nat) (f : Axis → Axis) (s : State) : RunKept s (s.modAxis n f) := ⟨rfl, rfl, rfl, rfl, .refl _⟩

theorem modDoor (d : Nat) (f : Door → Door) (s : State) : RunKept s (s.modDoor d f) := ⟨rfl, rfl, rfl, rfl, .refl _⟩

theorem modChan (n : Nat) (f : ChanView → ChanView) (s : State) : RunKept s (s.modChan n f) := ⟨rfl, rfl, rfl, rfl, .refl _⟩

theorem modCmm (n : Nat) (f : CmmCh → CmmCh) (s : State) : RunKept s (s.modCmm n f) := ⟨rfl, rfl, rfl, rfl, .refl _⟩

theorem modPort (p : Nat) (f : SlkPort → SlkPort) (s : State) : RunKept s (s.modPort p f) := ⟨rfl, rfl, rfl, rfl, .refl _⟩

theorem modFb (n : Nat) (f : FbCh → FbCh) (s : State) : RunKept s (s.modFb n f) := ⟨rfl, rfl, rfl, rfl, .refl _⟩

theorem modSer (p : Nat) (f : SerPort → SerPort) (s : State) : RunKept s (s.modSer p f) := ⟨rfl, rfl, rfl, rfl, .refl _⟩

theorem modEmu (e : Nat) (f : Emu → Emu) (s : State) : RunKept s (s.modEmu e f) := ⟨rfl, rfl, rfl, rfl, .refl _⟩

theorem modSlot (g : Nat) (f : SlotSt → SlotSt) (s : State) : RunKept s (s.modSlot g f) := ⟨rfl, rfl, rfl, rfl, .refl _⟩

theorem modCar (c : Nat) (f : CarRec → CarRec) (s : State) : RunKept s (s.modCar c f) := ⟨rfl, rfl, rfl, rfl, .refl _⟩

theorem modBss (c : Nat) (f : BssCar → BssCar) (s : State) : RunKept s (modBss c f s) := ⟨rfl, rfl, rfl, rfl, .refl _⟩

theorem modLb (q : Nat) (f : LbPort → LbPort) (s : State) : RunKept s (modLb q f s) := ⟨rfl, rfl, rfl, rfl, .refl _⟩

theorem modPeer (i : Nat) (f : PeerSt → PeerSt) (s : State) : RunKept s (modPeer i f s) := ⟨rfl, rfl, rfl, rfl, .refl _⟩

theorem setBus (b : Bus) (s : State) : RunKept s { s with bus := b } := ⟨rfl, rfl, rfl, rfl, .refl _⟩

theorem setSaf (x : Saf) (s : State) : RunKept s { s with saf := x } := ⟨rfl, rfl, rfl, rfl, .refl _⟩

theorem setBss (b : Bss) (s : State) : RunKept s { s with bss := b } := ⟨rfl, rfl, rfl, rfl, .refl _⟩

theorem setClock (x y z : Nat) (s : State) : RunKept s { s with tb := { s.tb with sec := x, ns := y, frac := z } } := ⟨rfl, rfl, rfl, rfl, .refl _⟩

theorem setNext (n : Nat) (s : State) : RunKept s { s with tb := { s.tb with next := n } } := ⟨rfl, rfl, rfl, rfl, .refl _⟩

theorem setBlocks (cmm : List (Nat × CmmCh)) (tide : Tide) (slk : Slk) (fbk : Fbk) (s : State) :
    RunKept s { s with cmm := cmm, tide := tide, slk := slk, fbk := fbk } := ⟨rfl, rfl, rfl, rfl, .refl _⟩

theorem enqueue (safety : Bool) (e : RecEv) (s : State) : RunKept s (enqueue safety e s) := by
  have hnv := NvKept.enqueue safety e s
  obtain ⟨-, hframe⟩ := recorderOnly_enqueue safety e s
  generalize Machine.enqueue safety e s = t at *
  exact ⟨by rw [hframe], by rw [hframe], by rw [hframe], by rw [hframe], hnv⟩

theorem of_sendOnly (h : SendOnly s t) : RunKept s t := by
  obtain ⟨-, -, hfab, hframe⟩ := h
  refine ⟨by rw [hframe], by rw [hframe], by rw [hfab], by rw [hframe], .of_eq (by rw [hframe])⟩

theorem announceOn {p : Nat} (hp : p < 4) (s : State) : RunKept s (announceOn p s) := by
  rw [Machine.announceOn]
  exact .ite (of_sendOnly (sendOnly_sendPort hp s _ _ _)) (.refl s)

theorem announceAll (s : State) : RunKept s (announceAll s) := forN (fun _ hp t => announceOn hp t) s

/-! #### The domains -/

theorem setPortState (p v : Nat) (s : State) : RunKept s (setPortState p v s) := by
  rw [Machine.setPortState]
  exact .ite (.refl s) ((put _ _ s).trans (ev _ _))

theorem portStart (p : Nat) (s : State) : RunKept s (portStart p s) := (modPort p _ s).trans (setPortState p 1 _)

theorem portHeld (p : Nat) (s : State) : RunKept s (portHeld p s) := forL (fun n _ t => put (F.SLK_CH_STAT.HELD n) 1 t) s

theorem portStop (p : Nat) (s : State) : RunKept s (portStop p s) := ((modPort p _ s).trans (setPortState p 0 _)).trans (portHeld p _)

theorem serOff (p : Nat) (s : State) : RunKept s (serOff p s) := by
  have hstate : ∀ t : State, RunKept t (setSerState p 0 t) := fun t => by
    rw [setSerState]
    exact .ite (.refl t) ((put _ _ t).trans (ev _ _))
  exact ((put (F.FBK_PORT_STAT.RATE p) 0 s).trans (modSer p _ _)).trans (hstate _)

theorem pathsBlind (s : State) : RunKept s (pathsBlind s) := ⟨rfl, rfl, rfl, rfl, .refl _⟩

theorem servoStop (s : State) : RunKept s (servoStop s) := by
  have hfb : ∀ n, n < 144 → ∀ u : State, RunKept u (fbOff n u) := fun n _ u => modFb n _ u
  have hgot : ∀ n, n < 128 → ∀ u : State, RunKept u (u.modChan n (fun x => { x with got := false })) := fun n _ u => modChan n _ u
  have hlinks := (forN (fun p (_ : p < 8) t => portStop p t) s).trans (forN (fun p (_ : p < 8) t => serOff p t) _)
  have hblind := ((hlinks.trans (forN hfb _)).trans (forN hgot _)).trans (pathsBlind _)
  exact hblind.trans (setBlocks _ _ _ _ _)

theorem servoStart (s : State) : RunKept s (servoStart s) := by
  have hlink : RunKept s { s with tide := { s.tide with stage := .link } } := ⟨rfl, rfl, rfl, rfl, .refl _⟩
  exact (hlink.trans (forL (fun n _ t => modSlot n _ t) _)).trans (forN (fun n _ u => modAxis n _ u) _)

theorem domainEnter (on : Bool) (prev m : Mode) (s : State) : RunKept s (domainEnter on prev m s) := by
  rw [Machine.domainEnter]
  exact .ite (.ite (.refl s) (servoStart s)) (.ite (servoStop s) (.refl s))

theorem cachesFollow (m : Mode) (s : State) : RunKept s (cachesFollow m s) := by
  rw [Machine.cachesFollow]
  exact .ite (.refl s) ⟨rfl, rfl, rfl, rfl, .refl _⟩

theorem portsFollow (mask : Nat) (s : State) : RunKept s (portsFollow mask s) := by
  have hport : ∀ p, p < 8 → ∀ t : State, RunKept t (if mask.testBit p then (if portRuns t p then t else Machine.portStart p t)
      else (if portRuns t p then Machine.portStop p t else t)) := fun p _ t =>
    .ite (.ite (.refl t) (portStart p t)) (.ite (portStop p t) (.refl t))
  exact .ite ((forN hport s).trans (forN (fun n _ t => modCmm n _ t) _)) (forN hport s)

theorem portsOn (s : State) : RunKept s (portsOn s) := forN (fun p _ t => .ite (portStart p t) (.refl t)) s

/-! #### The motion blocks and the stop scheduler -/

theorem cmdOutcome (n code : Nat) (s : State) : RunKept s (cmdOutcome n code s) := by
  have hstat := (put F.TRJ_CMD_STAT.CODE code s).trans (put F.TRJ_CMD_STAT.AXIS n _)
  rw [Machine.cmdOutcome]
  exact .ite (hstat.trans (ev _ _)) (hstat.trans (ev _ _))

theorem modeDiscard (s : State) : RunKept s (modeDiscard s) := by
  rw [Machine.modeDiscard]
  refine trans ?_ (forN (fun n _ u => modAxis n _ u) _)
  split
  · exact refl s
  next c => exact trans ⟨rfl, rfl, rfl, rfl, .refl _⟩ ((put F.TRJ_CMD_STAT.BUSY 0 { s with trj := { s.trj with chk := none } }).trans (cmdOutcome _ _ _))

theorem motionEnter (m : Mode) (s : State) : RunKept s (motionEnter m s) := by
  have hhalt : RunKept s (doorsHalt (Machine.modeDiscard s)) := (modeDiscard s).trans (forL (fun d _ t => modDoor d _ t) _)
  have hstop : RunKept s (s.forN 8 (fun n t => if inMove (t.axis n) then stopAxis n 5 t else t)) :=
    forN (fun n _ t => .ite (modAxis n _ t) (.refl t)) s
  unfold Machine.motionEnter
  split
  · exact hhalt
  · exact hhalt
  · exact hhalt
  · exact forL (fun d _ t => modDoor d _ t) s
  · exact hstop
  · exact hstop
  · exact refl s

theorem leaveCommissioning (s : State) : RunKept s (leaveCommissioning s) := by
  have hdiag := put F.SAF_STAT.DIAG_SUSP 0 s
  have hsaf : ∀ u : State, RunKept u { u with saf := { u.saf with xfer := none } } := fun _ => ⟨rfl, rfl, rfl, rfl, .refl _⟩
  rw [Machine.leaveCommissioning]
  exact .ite hdiag (((hdiag.trans (hsaf _)).trans (put _ _ _)).trans (setReg _ _ _))

theorem candDrop (s : State) : RunKept s (candDrop s) := by
  rw [Machine.candDrop]
  split
  · exact refl s
  next x _ =>
    have hres : ∀ p, RunKept s (keepRes p { s with bss := { s.bss with cand := none, todo := none } }) := fun _ => ⟨rfl, rfl, rfl, rfl, .refl _⟩
    exact ((hres _).trans (forL (fun _ _ u => of_sendOnly (sendOnly_send u _ _)) _)).trans (modBss _ _ _)

theorem schedDrop (s : State) : RunKept s (schedDrop s) :=
  forN (fun c _ t => .ite ((modAxis c _ t).trans (modBss c _ _)) (.refl t)) s

theorem schedEnter (m : Mode) (s : State) : RunKept s (schedEnter m s) := by
  rw [Machine.schedEnter]
  exact .ite (candDrop s) ((candDrop s).trans (schedDrop _))

theorem clearQueues (s : State) : RunKept s (clearQueues s) := forL (fun c _ t => modBss c _ t) s

theorem rescueLeft (s : State) : RunKept s (rescueLeft s) := forN (fun c _ t => modBss c _ t) s

theorem rescueEnd (s : State) : RunKept s (rescueEnd s) := by
  rw [Machine.rescueEnd]
  exact .ite (portsFollow _ s) (.refl s)

theorem rescueTell (reason : Nat) (s : State) : RunKept s (rescueTell reason s) := by
  rw [Machine.rescueTell]
  exact .ite (forL (fun d _ t => of_sendOnly (sendOnly_send t d _)) s) (.refl s)

/-! #### The set in force is loaded -/

theorem spineEnable (p : Nat) (s : State) : RunKept s (spineEnable p s) := by
  rw [Machine.spineEnable]
  exact .ite (.ite (put _ _ s) (.refl s)) ((put _ _ s).trans (put _ _ _))

theorem lbEnable (q : Nat) (s : State) : RunKept s (lbEnable q s) := by
  have hstate : RunKept s (if lbState s q = 0 then Machine.modLb q (fun _ => LbPort.init) (s.put (F.FAB_LB_STAT.STATE q) 1) else s) :=
    .ite ((put _ _ s).trans (modLb _ _ _)) (.refl s)
  rw [Machine.lbEnable]
  exact .ite ((hstate.trans (put _ _ _)).trans (modLb _ _ _)) (((put _ _ s).trans (put _ _ _)).trans (modLb _ _ _))

theorem thermalStart (s : State) : RunKept s (thermalStart s) := forL (fun _ _ t => setBss _ t) s

theorem applyUg0 (s t : State) : RunKept t (applyUg0 s t) := by
  have hslot : ∀ g, g < numSlots → ∀ u : State, RunKept u (if slotEn t g then u.modSlot g slotChecked else u.modSlot g (fun _ => SlotSt.init)) :=
    fun g _ u => .ite (modSlot g _ u) (modSlot g _ u)
  refine trans (forN hslot t) ?_
  exact forL (fun g _ v => modSlot g _ v) _

theorem applyUg1 (s t : State) : RunKept t (applyUg1 s t) := by
  have haxis : ∀ n, n < 8 → ∀ u : State, RunKept u (applyAxis s t n u) := fun n _ u => .ite (modAxis n _ u) (.ite (modAxis n _ u) (.refl u))
  have hdoor : ∀ d, d < 2 → ∀ u : State, RunKept u (applyDoor s t d u) := fun d _ u => .ite (.refl u) (modDoor d _ u)
  exact (forN haxis t).trans (forN hdoor _)

theorem applyUg3 (s t : State) : RunKept t (applyUg3 s t) := by
  have hchan : ∀ n, n < 128 → ∀ u : State, RunKept u (applyChan s t n u) := fun n _ u =>
    .ite (.refl u) (.ite (modCmm n _ u) ⟨rfl, rfl, rfl, rfl, .refl _⟩)
  have hport : ∀ p, p < 8 → ∀ u : State, RunKept u (applyPort s t p u) := fun p _ u =>
    .ite (.refl u) (.ite (.ite (portStart p u) (.refl u)) (portStop p u))
  exact (forN hchan t).trans (forN hport _)

theorem applyUg4 (s t : State) : RunKept t (applyUg4 s t) := forN (fun e _ u => .ite (.refl u) (modEmu e _ u)) t

theorem applyUg6 (s t : State) : RunKept t (applyUg6 s t) := by
  have hpeer : ∀ i, i < 32 → ∀ u : State, RunKept u (applyPeer s t i u) := fun i _ u => .ite (.refl u) (modPeer i _ u)
  have hsa : ∀ p, p < 4 → ∀ u : State, RunKept u (applySa s t p u) := fun p _ u => .ite (.refl u) (setReg _ _ u)
  exact (((forN hpeer t).trans (forN hsa _)).trans (forN (fun p _ u => spineEnable p u) _)).trans (forN (fun q _ u => lbEnable q u) _)

theorem applyUg7 (s t : State) : RunKept t (applyUg7 s t) := by
  rw [Machine.applyUg7]
  exact .ite (.ite (.refl t) (thermalStart t)) (.ite ((candDrop t).trans (schedDrop _)) (.refl t))

theorem applyGroup (s : State) (g : Nat) (t : State) : RunKept t (applyGroup s g t) := by
  unfold Machine.applyGroup
  split
  · exact applyUg0 s t
  · exact applyUg1 s t
  · exact applyUg3 s t
  · exact applyUg4 s t
  · exact applyUg6 s t
  · exact applyUg7 s t
  · exact refl t

theorem loadTide (s : State) : RunKept s (loadTide s) := ⟨rfl, rfl, rfl, rfl, .refl _⟩

theorem headersRead (t s : State) : RunKept s (headersRead t s) := forL (fun g _ u => modSlot g _ u) s

theorem slotsChecked (s : State) : RunKept s (slotsChecked s) := forL (fun g _ u => modSlot g _ u) s

theorem loadCar (k : OpsCar) (s : State) : RunKept s (loadCar k s) := (modCar k.idx _ s).trans (setSaf _ _)

theorem foldl {α : Type} {f : State → α → State} (hf : ∀ x t, RunKept t (f t x)) (l : List α) (s : State) : RunKept s (l.foldl f s) := by
  induction l generalizing s with
  | nil => exact refl s
  | cons x l ih => exact (hf x s).trans (ih (f s x))

theorem loadSet (cars : Bool) (s : State) : RunKept s (loadSet cars s) := by
  rw [Machine.loadSet]
  have hcars : ∀ t : State, RunKept t (if (cars && isSection s) = true then t.forL s.conf.ops.cars Machine.loadCar else t) := fun t =>
    .ite (forL (fun k _ u => loadCar k u) t) (.refl t)
  exact (((((setBus _ s).trans (loadTide _)).trans (hcars _)).trans (headersRead _ _)).trans (foldl (fun g u => applyGroup s g u) _ _)).trans
    (slotsChecked _)

end RunKept

/-! ### The mode in force -/

/-- The power state, an alarm and the ports that Rescue powers apart, the tick count and the non-volatile memory stand as before. -/
def ModeKept (s t : State) : Prop :=
  t.pw = { s.pw with alarm := t.pw.alarm, rescuePorts := t.pw.rescuePorts } ∧ t.tb.tick = s.tb.tick ∧
    NvKept s.nv t.nv

namespace ModeKept

variable {s t u : State}

theorem refl (s : State) : ModeKept s s := ⟨rfl, rfl, .refl _⟩

theorem trans (hst : ModeKept s t) (htu : ModeKept t u) : ModeKept s u := by
  obtain ⟨hpw, htick, hnv⟩ := hst
  obtain ⟨hpw', htick', hnv'⟩ := htu
  exact ⟨by rw [hpw', hpw], htick'.trans htick, hnv.trans hnv'⟩

theorem of_run (h : RunKept s t) : ModeKept s t := by
  obtain ⟨hpw, htick, -, -, hnv⟩ := h
  exact ⟨by rw [hpw], htick, hnv⟩

theorem powerUp (s : State) : ModeKept s (powerUp s) := by
  have hclock : RunKept s (if s.pw.wakeCause = 12 then clockFromZero s else clockFromHoldover s) :=
    .ite (RunKept.setClock 0 0 0 s) (RunKept.setClock _ _ _ s)
  rw [Machine.powerUp]
  generalize (if s.pw.wakeCause = 12 then clockFromZero s else clockFromHoldover s) = u at *
  have hset : ModeKept u { u with pw := { u.pw with alarm := none }, fab := { u.fab with settle := some u.tb.tick } } := ⟨rfl, rfl, .refl _⟩
  exact ((of_run hclock).trans hset).trans (of_run (RunKept.setNext _ _))

theorem powerDown (s : State) : ModeKept s (powerDown s) := ⟨rfl, rfl, .refl _⟩

theorem rescuePower (s : State) : ModeKept s (rescuePower s) := by
  rw [Machine.rescuePower]
  split
  · have hneed : ModeKept s { s with pw := { s.pw with rescuePorts := rescueNeed s } } := ⟨rfl, rfl, .refl _⟩
    exact hneed.trans (of_run (RunKept.portsFollow _ _))
  · exact refl s

theorem mode (h : ModeKept s t) : t.mode = s.mode := by rw [State.mode, h.1, State.mode]

end ModeKept

/-- The mode just entered from `prev`, with the idle timers restarted and the non-volatile memory as it was. -/
def InMode (m prev : Mode) (s t : State) : Prop :=
  t.mode = m ∧ t.pw.prev = prev ∧ t.pw.trans = none ∧ t.pw.ready = false ∧ t.pw.fwReq = none ∧ t.pw.idleFrom = s.tb.tick ∧
    t.pw.phase = s.pw.phase ∧ NvKept s.nv t.nv

theorem InMode.of_kept {m prev : Mode} {s t u : State} (h : InMode m prev s t) (htu : ModeKept t u) : InMode m prev s u := by
  obtain ⟨hmode, hprev, htrans, hready, hreq, hidle, hphase, hnv⟩ := h
  have hpw := htu.1
  exact ⟨htu.mode.trans hmode, by rw [hpw]; exact hprev, by rw [hpw]; exact htrans, by rw [hpw]; exact hready, by rw [hpw]; exact hreq,
    by rw [hpw]; exact hidle, by rw [hpw]; exact hphase, hnv.trans htu.2.2⟩

theorem InMode.of_before {m prev : Mode} {r s t : State} (h : InMode m prev s t) (hrs : ModeKept r s) : InMode m prev r t := by
  obtain ⟨hmode, hprev, htrans, hready, hreq, hidle, hphase, hnv⟩ := h
  obtain ⟨hpw, htick, hnv'⟩ := hrs
  exact ⟨hmode, hprev, htrans, hready, hreq, hidle.trans htick, by rw [hphase, hpw], hnv'.trans hnv⟩

/-- The power state of a mode just entered. -/
def enteredPower (prev m : Mode) (trig : Nat) (s : State) : Power :=
  { s.pw with
    mode := m, prev := prev, trans := none, ready := false, trigger := trig
    fwReq := none
    wakePend := s.pw.wakePend && decide (m = Mode.watch ∨ m = Mode.standby)
    rescuePend := if m = Mode.standby ∨ m = Mode.service then s.pw.rescuePend else none
    resPend := false
    stbyExp := false, svcExp := false
    delReset := false
    rescuePorts := 0
    idleFrom := s.tb.tick, entryFrom := s.tb.tick, instants := 0 }

theorem modeReport_eq (prev m : Mode) (trig : Nat) (s : State) : modeReport prev m trig s =
    record 1 0 3 (items [prev.code, m.code, trig])
      (if prev = .dormant then ({ s with pw := enteredPower prev m trig s }.ev F.PCM_EVENT.MODE_CHG).ev F.PCM_EVENT.WAKE
      else { s with pw := enteredPower prev m trig s }.ev F.PCM_EVENT.MODE_CHG) := rfl

/-- The report puts a mode in force. -/
theorem inMode_modeReport (prev m : Mode) (trig : Nat) (s : State) : InMode m prev s (modeReport prev m trig s) := by
  have hset : InMode m prev s { s with pw := enteredPower prev m trig s } := ⟨rfl, rfl, rfl, rfl, rfl, rfl, rfl, .refl _⟩
  rw [modeReport_eq]
  generalize ({ s with pw := enteredPower prev m trig s } : State) = t at *
  exact (hset.of_kept (.of_run (.ite ((RunKept.ev _ t).trans (.ev _ _)) (.ev _ t)))).of_kept (.of_run (RunKept.enqueue false _ _))

theorem inMode_enterMode (m : Mode) (trig : Nat) (s : State) : InMode m s.mode s (enterMode m trig s) := by
  have hup : ModeKept s (if s.mode = .dormant then powerUp s else s) := by
    split
    · exact .powerUp s
    · exact .refl s
  rw [enterMode]
  generalize (if s.mode = .dormant then powerUp s else s) = a at *
  have hleft : ModeKept s (motionEnter m (if s.mode = .commissioning then leaveCommissioning a else a)) :=
    (hup.trans (.of_run (.ite (.leaveCommissioning a) (.refl a)))).trans (.of_run (.motionEnter m _))
  have hin := (inMode_modeReport s.mode m trig _).of_before hleft
  have hdomain := (hin.of_kept (.of_run (.cachesFollow m _))).of_kept (.of_run (.domainEnter (modeServo s.mode || s.pw.ready) s.mode m _))
  split
  · exact hdomain.of_kept (.powerDown _)
  · exact hdomain.of_kept (.of_run (.announceAll _))

/-- A transition that takes effect puts its mode in force. -/
theorem inMode_enterNow (m : Mode) (s : State) : InMode m s.mode s (enterNow m s) := by
  have hwake : RunKept s (if s.mode = .dormant then (loadWake s).forN 8 portHeld else s) :=
    .ite ((RunKept.loadSet false s).trans (.forN (fun p _ t => .portHeld p t) _)) (.refl s)
  have hmode : (if s.mode = .dormant then (loadWake s).forN 8 portHeld else s).mode = s.mode := (ModeKept.of_run hwake).mode
  rw [enterNow]
  generalize (if s.mode = .dormant then (loadWake s).forN 8 portHeld else s) = a at *
  have hin : InMode m s.mode s (schedEnter m (enterMode m s.pw.trigger a)) :=
    ((hmode ▸ inMode_enterMode m s.pw.trigger a).of_before (.of_run hwake)).of_kept (.of_run (.schedEnter m _))
  generalize schedEnter m (enterMode m s.pw.trigger a) = e at *
  have hports : InMode m s.mode s (if s.mode = .dormant then (e.forN 4 spineEnable).forN 2 lbEnable else e) :=
    hin.of_kept (.of_run (.ite ((RunKept.forN (fun p _ t => .spineEnable p t) e).trans (.forN (fun q _ t => .lbEnable q t) _)) (.refl e)))
  generalize (if s.mode = .dormant then (e.forN 4 spineEnable).forN 2 lbEnable else e) = t at *
  split
  · exact ((hports.of_kept (.of_run (.clearQueues t))).of_kept (.rescuePower _)).of_kept (.of_run (.rescueTell _ _))
  · exact hports.of_kept (.of_run (.ite ((RunKept.rescueLeft t).trans (.rescueEnd _)) (.refl t)))

end Sys2Proof.Machine
end

section
/-!
PROOF. The triggers of a transition and its completion (03 R67 to R70, R80, R82).
-/

namespace Sys2Proof.Machine

open Sys2Proof

/-! ### An evaluation in Watch -/

/-- The state with one more millisecond instant counted. -/
def instantCounted (s : State) : State := { s with pw := { s.pw with instants := s.pw.instants + 1 } }

theorem reqCode_setInstants (n : Nat) (s : State) (m : Mode) : reqCode { s with pw := { s.pw with instants := n } } m = reqCode s m := rfl

/-- The count of millisecond instants is no guard. -/
theorem reqCode_instantCounted (s : State) (m : Mode) : reqCode (instantCounted s) m = reqCode s m := reqCode_setInstants _ s m

/-- What an evaluation leaves beside the transition it takes: no reservation request, and no rescue notice in inspection. -/
def noticesTaken (t : State) : State :=
  { t with pw := { t.pw with resPend := false, rescuePend := if inspActive t then none else t.pw.rescuePend } }

theorem dueInput_of_watch {s : State} (hmode : s.mode = .watch) (hreq : s.pw.fwReq ≠ some .lockout) : dueInput s = none := by
  unfold dueInput
  rw [if_neg fun h => hreq h.1]
  simp only [hmode]

theorem evaluateModes_of_watch {s : State} (hmode : s.mode = .watch) (htrans : s.pw.trans = none) (hreq : s.pw.fwReq ≠ some .lockout) :
    evaluateModes s = noticesTaken (evalRest s) := by
  rw [evaluateModes, if_neg (by simp [htrans])]
  simp only [dueInput_of_watch hmode hreq]
  rfl

theorem dueNotice_of_watch {s : State} (hmode : s.mode = .watch) : dueNotice s =
    if (s.pw.wakePend || s.pw.resPend) && reqCode s .standby == 0 then some (.standby, if s.pw.wakePend then 3 else 12) else none := by
  unfold dueNotice
  simp only [hmode]

theorem evalRest_of_request {s : State} {m : Mode} (hreq : s.pw.fwReq = some m) (hcode : reqCode s m = 0) : evalRest s = takeTrans m 1 s := by
  unfold evalRest
  simp only [hreq, hcode]

theorem evalRest_of_refused {s : State} {m : Mode} (hreq : s.pw.fwReq = some m) (hcode : reqCode s m ≠ 0)
    (hquiet : dueNotice (refuseReq (reqCode s m) s) = none) : evalRest s = refuseReq (reqCode s m) s := by
  unfold evalRest
  cases hc : reqCode s m with
  | zero => exact absurd hc hcode
  | succ n =>
    rw [hc] at hquiet
    simp only [hreq, hc, hquiet]

theorem evalRest_of_notice {s : State} {x : Mode × Nat} (hreq : s.pw.fwReq = none) (hdue : dueNotice s = some x) :
    evalRest s = takeTrans x.1 x.2 s := by
  unfold evalRest
  simp only [hreq, hdue]

theorem takeTrans_of_ne {m : Mode} (hm : m ≠ .lockout) (trig : Nat) (s : State) :
    takeTrans m trig s = { s with pw := { s.pw with trans := some m, trigger := trig, fwReq := none } } := if_neg hm

theorem msInstant_of_due {s : State} (hphase : s.pw.phase = .running) (hmode : s.mode = .watch) (hdue : instantDue s = true) :
    msInstant s = evaluateModes (instantCounted s) :=
  if_pos ⟨hphase, .inl hmode, hdue⟩

theorem request_clause {s : State} {m : Mode} (hphase : s.pw.phase = .running) (hmode : s.mode = .watch) (htrans : s.pw.trans = none)
    (hreq : s.pw.fwReq = some m) (hm : m ≠ .lockout) (hdue : instantDue s = true) :
    (reqCode s m = 0 → Completes .millisecondInstant s (fun t => t.pw.trans = some m ∧ t.pw.trigger = 1 ∧ t.pw.fwReq = none ∧
      t.mode = .watch ∧ t.pw.instants = s.pw.instants + 1 ∧ t = { s with pw := t.pw })) ∧
    (reqCode s m ≠ 0 → s.pw.wakePend = false → s.pw.resPend = false → Completes .millisecondInstant s (fun t =>
      t.pw.refuse = reqCode s m ∧ t.pw.trans = none ∧ t.pw.fwReq = none ∧ t.flag F.PCM_EVENT.REQ_REFUSED = true ∧
      RegsBut [Reg.PCM_EVENT] s t ∧ t = { s with bus := t.bus, pw := t.pw })) := by
  have hne : s.pw.fwReq ≠ some .lockout := fun h => hm (Option.some.inj (hreq.symm.trans h))
  have heval : msInstant s = noticesTaken (evalRest (instantCounted s)) :=
    (msInstant_of_due hphase hmode hdue).trans (evaluateModes_of_watch hmode htrans hne)
  have hreq' : (instantCounted s).pw.fwReq = some m := hreq
  have hcode' := reqCode_instantCounted s m
  refine ⟨fun hcode => ?_, fun hcode hwake hres => ?_⟩
  · have hrest := evalRest_of_request hreq' (hcode'.trans hcode)
    rw [takeTrans_of_ne hm] at hrest
    exact ⟨_, congrArg Host.Outcome.next (heval.trans (congrArg noticesTaken hrest)), rfl, rfl, rfl, hmode, rfl, rfl⟩
  · generalize hu : instantCounted s = u at *
    have hquiet : dueNotice (refuseReq (reqCode u m) u) = none := by
      have hmode' : (refuseReq (reqCode u m) u).mode = .watch := by rw [← hu]; exact hmode
      have hwake' : (refuseReq (reqCode u m) u).pw.wakePend = false := by rw [← hu]; exact hwake
      have hres' : (refuseReq (reqCode u m) u).pw.resPend = false := by rw [← hu]; exact hres
      rw [dueNotice_of_watch hmode', hwake', hres']
      rfl
    have hrest := evalRest_of_refused hreq' (fun h => hcode (hcode'.symm.trans h)) hquiet
    have hflag : (refuseReq (reqCode u m) u).flag F.PCM_EVENT.REQ_REFUSED = true := State.flag_ev_self (by decide) (by decide) _
    have hregs : ∀ a, a ∉ [Reg.PCM_EVENT] → (refuseReq (reqCode u m) u).reg a = u.reg a := fun a ha =>
      State.reg_ev_ne _ F.PCM_EVENT.REQ_REFUSED _ (by simpa using ha)
    have hset : refuseReq (reqCode u m) u =
        { u with bus := (refuseReq (reqCode u m) u).bus, pw := { u.pw with refuse := reqCode u m, fwReq := none } } := rfl
    refine ⟨_, congrArg Host.Outcome.next (heval.trans (congrArg noticesTaken hrest)), ?_⟩
    generalize refuseReq (reqCode u m) u = t at *
    have hpw : t.pw = { u.pw with refuse := reqCode u m, fwReq := none } := by rw [hset]
    have htaken : noticesTaken t = { t with pw := (noticesTaken t).pw } ∧ (noticesTaken t).pw =
        { t.pw with resPend := false, rescuePend := if inspActive t then none else t.pw.rescuePend } := ⟨rfl, rfl⟩
    have hflag' : (noticesTaken t).flag F.PCM_EVENT.REQ_REFUSED = true := hflag
    have hreg' : ∀ a, (noticesTaken t).reg a = t.reg a := fun _ => rfl
    generalize noticesTaken t = v at *
    obtain ⟨hv, hvpw⟩ := htaken
    subst hu
    refine ⟨?_, ?_, ?_, hflag', fun a ha => (hreg' a).trans (hregs a ha), ?_⟩
    · rw [hvpw, hpw]
      exact hcode'
    · rw [hvpw, hpw]
      exact htrans
    · rw [hvpw, hpw]
    · rw [hv, hset, instantCounted]

theorem wakePending_clause {s : State} (hphase : s.pw.phase = .running) (hmode : s.mode = .watch) (htrans : s.pw.trans = none)
    (hreq : s.pw.fwReq = none) (hwake : s.pw.wakePend = true) (hdue : instantDue s = true) (hcode : reqCode s .standby = 0) :
    Completes .millisecondInstant s (fun t => t.pw.trans = some .standby ∧ t.pw.trigger = 3 ∧ t = { s with pw := t.pw }) := by
  have hne : s.pw.fwReq ≠ some .lockout := by rw [hreq]; simp
  have heval : msInstant s = noticesTaken (evalRest (instantCounted s)) :=
    (msInstant_of_due hphase hmode hdue).trans (evaluateModes_of_watch hmode htrans hne)
  have hnotice : dueNotice (instantCounted s) = some (.standby, 3) := by
    have hmode' : (instantCounted s).mode = .watch := hmode
    have hwake' : (instantCounted s).pw.wakePend = true := hwake
    rw [dueNotice_of_watch hmode', reqCode_instantCounted, hcode, hwake']
    rfl
  have hreq' : (instantCounted s).pw.fwReq = none := hreq
  have hrest := evalRest_of_notice hreq' hnotice
  rw [takeTrans_of_ne (by decide)] at hrest
  exact ⟨_, congrArg Host.Outcome.next (heval.trans (congrArg noticesTaken hrest)), rfl, rfl, rfl⟩

/-! ### A transition completes -/

theorem transDone_of_ready {s : State} {m : Mode} (hphase : s.pw.phase = .running) (htrans : s.pw.trans = some m) (hready : s.pw.ready = false) :
    transDone s = if modeServo m then
      { (if modeServo s.mode then s else portsOn s) with pw := { (if modeServo s.mode then s else portsOn s).pw with ready := true } }
    else enterNow m s := by
  unfold transDone
  simp only [htrans]
  exact if_pos ⟨hphase, hready⟩

theorem transDone_clause {s : State} {m : Mode} (hphase : s.pw.phase = .running) (htrans : s.pw.trans = some m) (hready : s.pw.ready = false) :
    (modeServo m = false → Completes .modeTransitionDone s (fun t => t.mode = m ∧ t.pw.prev = s.mode ∧ t.pw.trans = none ∧
      t.pw.fwReq = none ∧ t.pw.idleFrom = s.tb.tick ∧ t.pw.phase = Phase.running)) ∧
    (modeServo m = true → Completes .modeTransitionDone s (fun t => t.mode = s.mode ∧ t.pw = { s.pw with ready := true } ∧
      (modeServo s.mode = true → t = { s with pw := t.pw }))) := by
  have hdone := transDone_of_ready hphase htrans hready
  refine ⟨fun hservo => ?_, fun hservo => ?_⟩
  · rw [if_neg (by rw [hservo]; decide)] at hdone
    obtain ⟨hmode, hprev, hnone, -, hreq, hidle, hrun, -⟩ := inMode_enterNow m s
    exact ⟨_, congrArg Host.Outcome.next hdone, hmode, hprev, hnone, hreq, hidle, hrun.trans hphase⟩
  · rw [if_pos hservo] at hdone
    have hpw : (if modeServo s.mode then s else portsOn s).pw = s.pw := (RunKept.ite (.refl s) (.portsOn s)).1
    have hsame : modeServo s.mode = true → (if modeServo s.mode then s else portsOn s) = s := fun h => if_pos h
    refine ⟨_, congrArg Host.Outcome.next hdone, ?_⟩
    generalize (if modeServo s.mode then s else portsOn s) = t at *
    refine ⟨?_, by rw [hpw], fun h => by rw [hsame h]⟩
    rw [State.mode, State.mode, hpw]

/-! ### Idle timers -/

theorem idleRun_of_due {s : State} {sec : Nat} (hset : sec ≠ 0) (hdue : s.pw.idleFrom + 125000000 * sec ≤ s.tb.tick) : idleRun s sec = true := by
  rw [idleRun, ticksOf, Nat.mul_comm sec]
  simp [hset, hdue]

theorem idle_clause {s : State} (hphase : s.pw.phase = .running) (hheld : heldCars s = []) :
    (s.mode = .standby → s.get F.PCM_IDLE.STBY_IDLE ≠ 0 → s.pw.idleFrom + 125000000 * s.get F.PCM_IDLE.STBY_IDLE ≤ s.tb.tick →
      Completes .standbyIdleExpiry s (fun t => t = { s with pw := { s.pw with stbyExp := true } })) ∧
    (s.mode = .service → s.bss.res = [] → s.get F.PCM_IDLE.SVC_IDLE ≠ 0 →
      s.pw.idleFrom + 125000000 * s.get F.PCM_IDLE.SVC_IDLE ≤ s.tb.tick →
      Completes .serviceIdleExpiry s (fun t => t = { s with pw := { s.pw with svcExp := true } })) := by
  refine ⟨fun hmode hset hdue => ⟨_, congrArg Host.Outcome.next (if_pos ?_), rfl⟩, fun hmode hres hset hdue =>
    ⟨_, congrArg Host.Outcome.next (if_pos ?_), rfl⟩⟩
  · rw [hphase, hmode, hheld, idleRun_of_due hset hdue]
    rfl
  · rw [hphase, hmode, hheld, hres, idleRun_of_due hset hdue]
    rfl

/-- Settles O21: an evaluation in Watch comes down to the firmware request and the notices, and a transition that completes puts its mode in
force whatever else the entry does. -/
theorem transitionsFollowTheTriggers : Obligations.TransitionsFollowTheTriggers := by
  refine ⟨fun s hearly => ?_, fun s m hphase hmode htrans hreq hm hdue => request_clause hphase hmode htrans hreq hm hdue,
    fun s hphase hmode htrans hreq hwake hdue hcode => wakePending_clause hphase hmode htrans hreq hwake hdue hcode,
    fun s m hphase htrans hready => transDone_clause hphase htrans hready, fun s hphase hheld => idle_clause hphase hheld⟩
  refine congrArg Host.Outcome.next (if_neg fun h => ?_)
  obtain ⟨-, -, h⟩ := h
  exact Bool.false_ne_true (hearly.symm.trans h)

end Sys2Proof.Machine
end

section
/-!
PROOF. The boundary outside the servo modes, the compute window, and the period method's zero (02 R41, R43, R47; 05 R151; 10 R319; 19 R579).
-/

namespace Sys2Proof.Machine

open Sys2Proof

/-! ### The registers an update leaves (05 R151) -/

/-- Of a list of entries written into a map, each key's first stands. -/
theorem smGet_foldr_smSet {α : Type} [DecidableEq α] (d : Nat → α) (l m : List (Nat × α)) (k : Nat) :
    smGet (d k) (l.foldr (fun e m => smSet (d e.1) m e.1 e.2) m) k = match smFind l k with
      | some v => v
      | none => smGet (d k) m k := by
  induction l with
  | nil => rfl
  | cons e l ih =>
    rw [List.foldr_cons, smFind]
    by_cases hkey : e.1 = k
    · rw [if_pos hkey, hkey, smGet_smSet_same]
    · rw [if_neg hkey, smGet_smSet_ne _ _ _ _ _ _ (Ne.symm hkey), ih]

theorem reg_withGroups (mask : Nat) (s : State) (a : Nat) :
    (withGroups mask s).reg a = if inMask mask a then s.pendReg a else s.reg a := by
  have hset := smGet_foldr_smSet (fun a => wd (regReset a)) (smFilter (inMask mask) s.bus.pend)
    (smFilter (fun a => !inMask mask a) s.bus.regs) a
  rw [smFind_smFilter] at hset
  refine Eq.trans hset ?_
  rw [State.pendReg, State.reg, smGet, smGet, smGet, smFind_smFilter]
  cases inMask mask a
  · rfl
  · cases smFind s.bus.pend a <;> rfl

theorem inMask_five (a : Nat) : inMask 32 a = true ↔ regGroup a = some 5 := by
  unfold inMask
  cases regGroup a with
  | none => simp
  | some g => simpa using Nat.testBit_two_pow (n := 5) (m := g) ▸ by simp [eq_comm]

/-- Only what is pending, and the groups' marks, may differ. -/
def PendingOnly (s t : State) : Prop := t.bus.regs = s.bus.regs ∧ t = { s with bus := t.bus }

namespace PendingOnly

theorem refl (s : State) : PendingOnly s s := ⟨rfl, rfl⟩

theorem trans {s t u : State} (hst : PendingOnly s t) (htu : PendingOnly t u) : PendingOnly s u := by
  obtain ⟨hregs, hframe⟩ := hst
  obtain ⟨hregs', hframe'⟩ := htu
  exact ⟨hregs'.trans hregs, by rw [hframe', hframe]⟩

theorem reg {s t : State} (h : PendingOnly s t) (a : Nat) : t.reg a = s.reg a := congrArg (smGet (wd (regReset a)) · a) h.1

theorem storePend (g a : Nat) (w : Word) (s : State) : PendingOnly s (storePend g a w s) := by
  unfold Machine.storePend
  split
  · exact ⟨rfl, rfl⟩
  · exact ⟨rfl, rfl⟩

theorem releaseLate (s : State) : PendingOnly s (releaseLate s) := by
  refine trans (t := { s with bus := { s.bus with frozen := 0, late := [] } }) ⟨rfl, rfl⟩ (State.forL_rel refl (fun _ _ _ => trans) (fun e _ t => ?_) _)
  cases regGroup e.1 with
  | none => exact refl t
  | some g => exact storePend g e.1 e.2 t

end PendingOnly

/-- UG5 applied, before the writes held back since the cutoff are released. -/
def fiveApplied (s : State) : State :=
  ({ withGroups 32 s with bus := { (withGroups 32 s).bus with dirty := (withGroups 32 s).bus.dirty - Nat.land (withGroups 32 s).bus.dirty 32 } } : State).ev
    F.SYS_EVENT.UPD_DONE

theorem updateApply_of_zero {s : State} (h : s.bus.frozen = 0) : updateApply s = s := if_pos h

theorem updateApply_of_five {s : State} (h : s.bus.frozen = 32) (hawake : s.awake = true) : updateApply s = releaseLate (fiveApplied s) := by
  have hgroups : groupsOf 32 = [5] := by decide
  have hallowed : ([5] : List Nat).find? (fun g => !groupAllowed s g) = none := by
    have hfive : groupAllowed s 5 = true := hawake
    simp [hfive]
  unfold updateApply
  simp only [h, hgroups, hallowed]
  rfl

theorem fiveApplied_frame (s : State) : fiveApplied s = { s with bus := (fiveApplied s).bus } := rfl

theorem reg_fiveApplied {a : Nat} (ha : a ≠ Reg.SYS_EVENT) (s : State) :
    (fiveApplied s).reg a = if regGroup a = some 5 then s.pendReg a else s.reg a := by
  refine (State.reg_ev_ne _ F.SYS_EVENT.UPD_DONE a ha).trans ?_
  refine (reg_withGroups 32 s a).trans ?_
  simp only [inMask_five]

/-! ### A boundary where no servo stage runs -/

/-- The state at its boundary with the committed safety set in force and PERIOD noted. -/
def periodNoted (s : State) : State := (spsGovern (boundaryFires s)).ev F.TIM_EVENT.PERIOD

theorem spsGovern_of_none {s : State} (h : s.conf.spsNext = none) : spsGovern s = s := by
  unfold spsGovern
  simp only [h]

theorem spsGovern_of_some {s : State} {c : SpsContent} (h : s.conf.spsNext = some c) :
    spsGovern s = { s with conf := { s.conf with sps := c, spsNext := none } }.put F.CFG_DEFAULT.SPS 0 := by
  unfold spsGovern
  simp only [h]

/-- What the safety set taking force changes. -/
def SpsTaken (s t : State) : Prop :=
  (∀ c, s.conf.spsNext = some c → t.conf.sps = c ∧ t.conf.spsNext = none) ∧ (s.conf.spsNext = none → t = s) ∧
    t.conf.tsNs = s.conf.tsNs ∧ RegsBut [Reg.CFG_DEFAULT] s t ∧ t.bus.pend = s.bus.pend ∧ t.bus.frozen = s.bus.frozen ∧
    t = { s with conf := t.conf, bus := t.bus }

theorem spsTaken_spsGovern (s : State) : SpsTaken s (spsGovern s) := by
  cases h : s.conf.spsNext with
  | none =>
    rw [spsGovern_of_none h]
    exact ⟨fun c hc => absurd (h.symm.trans hc) (by simp), fun _ => rfl, rfl, fun _ _ => rfl, rfl, rfl, rfl⟩
  | some c =>
    rw [spsGovern_of_some h]
    refine ⟨fun d hd => ⟨Option.some.inj (h.symm.trans hd), rfl⟩, fun hn => absurd (h.symm.trans hn) (by simp), rfl, fun a ha => ?_, rfl, rfl, rfl⟩
    exact State.reg_put_ne _ F.CFG_DEFAULT.SPS 0 a (by simpa using ha)

theorem boundaryFires_of_not_servo {s : State} (h : s.servoOn = false) :
    boundaryFires s = { s with tb := { s.tb with k := s.nowNs / s.tsNs, next := s.nowNs / s.tsNs + 1 } } := by
  rw [boundaryFires, nextK, if_neg (by rw [h]; decide)]

theorem transBoundary_of_not_ready {s : State} (h : s.pw.ready = false) : transBoundary s = s := by
  unfold transBoundary
  cases s.pw.trans with
  | none => rfl
  | some m => exact if_neg (by rw [h]; decide)

theorem haltBoundary_of_not_standby {s : State} (h : s.mode ≠ .standby) :
    haltBoundary s = { s with tide := { s.tide with haltWant := 0 } }.put F.TAC_ENG_HALT.HALT 0 := by
  rw [haltBoundary, if_neg h]

theorem not_standby_of_not_servo {s : State} (hphase : s.pw.phase = .running) (h : s.servoOn = false) : s.mode ≠ .standby := by
  intro hmode
  rw [State.servoOn, hphase, hmode] at h
  exact absurd h (by decide)

theorem phase_of_awake {s : State} (h : s.awake = true) : s.pw.phase = .running := by
  rw [State.awake, Bool.and_eq_true, beq_iff_eq] at h
  exact h.1

theorem sendTelegrams_of_not_due {s : State} (h : s.tb.k % tgPeriods s ≠ 0) : sendTelegrams s = s :=
  if_neg (by simp [h])

theorem servoTriggers_of_not_servo {s : State} (h : s.servoOn = false) : servoTriggers s = s := if_neg (by rw [h]; decide)

/-- A boundary outside the servo modes with no telegram due and no transition ready is the period's note, the update and the halts. -/
theorem boundary_of_not_servo {s u : State} (hawake : s.awake = true) (hservo : s.servoOn = false) (hdue : boundaryDue s = true)
    (hready : s.pw.ready = false) (hu : haltBoundary (updateApply (periodNoted s)) = u) (hpw : u.pw = s.pw)
    (htel : u.tb.k % tgPeriods u ≠ 0) : boundary s = u := by
  have hnoted : (periodNoted s).pw = s.pw := by
    have h := (spsTaken_spsGovern (boundaryFires s)).2.2.2.2.2.2
    have hpw' : (spsGovern (boundaryFires s)).pw = (boundaryFires s).pw := by rw [h]
    exact hpw'
  have htrans : transBoundary (periodNoted s) = periodNoted s := transBoundary_of_not_ready (by rw [hnoted]; exact hready)
  have hstill : u.servoOn = false := by
    rw [State.servoOn, State.mode, hpw]
    exact hservo
  rw [boundary, if_pos (by rw [hawake, hdue]; rfl)]
  show servoTriggers (if s.servoOn then servoBoundary (transBoundary (periodNoted s)) else
    sendTelegrams (haltBoundary (updateApply (transBoundary (periodNoted s))))) = u
  rw [htrans, hu, if_neg (by rw [hservo]; decide), sendTelegrams_of_not_due htel, servoTriggers_of_not_servo hstill]

/-- Every halt released. -/
def haltsReleased (s : State) : State := { s with tide := { s.tide with haltWant := 0 } }.put F.TAC_ENG_HALT.HALT 0

theorem halted_haltsReleased (s : State) (e : Nat) : halted (haltsReleased s) e = false := by
  have hget : (haltsReleased s).get F.TAC_ENG_HALT.HALT = 0 := State.get_put_same _ F.TAC_ENG_HALT.HALT 0 (by decide) (by decide)
  rw [halted, State.bit, hget, Nat.zero_testBit]

theorem reg_haltsReleased {a : Nat} (ha : a ≠ Reg.TAC_ENG_HALT) (s : State) : (haltsReleased s).reg a = s.reg a :=
  State.reg_put_ne _ F.TAC_ENG_HALT.HALT 0 a ha

theorem haltsReleased_frame (s : State) :
    haltsReleased s = { s with bus := (haltsReleased s).bus, tide := { s.tide with haltWant := 0 } } := rfl

/-- The state as its boundary notes the period, apart from the safety set. -/
theorem periodNoted_spec {s : State} (hservo : s.servoOn = false) (t : State) (ht : t = periodNoted s) :
    t.tb = { s.tb with k := s.nowNs / s.tsNs, next := s.nowNs / s.tsNs + 1 } ∧ t.flag F.TIM_EVENT.PERIOD = true ∧
      (∀ c, s.conf.spsNext = some c → t.conf.sps = c ∧ t.conf.spsNext = none) ∧ (s.conf.spsNext = none → t.conf = s.conf) ∧
      t.conf.tsNs = s.conf.tsNs ∧ RegsBut [Reg.TIM_EVENT, Reg.CFG_DEFAULT] s t ∧
      (s.conf.spsNext = none → RegsBut [Reg.TIM_EVENT] s t) ∧ t.bus.pend = s.bus.pend ∧ t.bus.frozen = s.bus.frozen ∧
      t = { s with tb := t.tb, conf := t.conf, bus := t.bus } := by
  have hfires := boundaryFires_of_not_servo hservo
  have hflag : (periodNoted s).flag F.TIM_EVENT.PERIOD = true := State.flag_ev_self (by decide) (by decide) _
  have hregs : RegsBut [Reg.TIM_EVENT] (spsGovern (boundaryFires s)) (periodNoted s) := fun a ha =>
    State.reg_ev_ne _ F.TIM_EVENT.PERIOD a (by simpa using ha)
  have hframe : periodNoted s = { spsGovern (boundaryFires s) with bus := (periodNoted s).bus } := rfl
  have hpend : (periodNoted s).bus.pend = (spsGovern (boundaryFires s)).bus.pend := rfl
  have hfrozen : (periodNoted s).bus.frozen = (spsGovern (boundaryFires s)).bus.frozen := rfl
  have htaken := spsTaken_spsGovern (boundaryFires s)
  rw [← ht] at hflag hregs hframe hpend hfrozen
  generalize spsGovern (boundaryFires s) = u at *
  have hsame : ∀ a, (boundaryFires s).reg a = s.reg a := fun _ => rfl
  rw [hfires] at htaken hsame
  obtain ⟨hsome, hnone, hts, hkeep, hpend', hfrozen', huframe⟩ := htaken
  have hconf : t.conf = u.conf := by rw [hframe]
  have htb : t.tb = u.tb := by rw [hframe]
  have hutb : u.tb = { s.tb with k := s.nowNs / s.tsNs, next := s.nowNs / s.tsNs + 1 } := by rw [huframe]
  refine ⟨htb.trans hutb, hflag, fun c hc => by rw [hconf]; exact hsome c hc, fun h => by rw [hconf, hnone h], by rw [hconf, hts], fun a ha => ?_,
    fun h a ha => ?_, hpend.trans hpend', hfrozen.trans hfrozen', ?_⟩
  · rw [List.mem_cons, not_or] at ha
    exact (hregs a (by simpa using ha.1)).trans ((hkeep a ha.2).trans (hsame a))
  · rw [hregs a ha, hnone h]
    exact hsame a
  · rw [htb, hconf, hutb, hframe, huframe]

theorem boundary_plain {s : State} (hawake : s.awake = true) (hservo : s.servoOn = false) (hdue : boundaryDue s = true)
    (hready : s.pw.ready = false) (htel : (s.nowNs / s.tsNs) % tgPeriods s ≠ 0) (hfrozen : s.bus.frozen = 0) :
    Completes .servoPeriodBoundary s (fun t => t.tb = { s.tb with k := s.nowNs / s.tsNs, next := s.nowNs / s.tsNs + 1 } ∧
      t.flag F.TIM_EVENT.PERIOD = true ∧ (∀ c, s.conf.spsNext = some c → t.conf.sps = c ∧ t.conf.spsNext = none) ∧
      (s.conf.spsNext = none → t.conf = s.conf) ∧ t.tide.haltWant = 0 ∧ (∀ e, e < 8 → halted t e = false) ∧
      RegsBut [Reg.TIM_EVENT, Reg.CFG_DEFAULT, Reg.TAC_ENG_HALT] s t ∧
      t = { s with tb := t.tb, conf := t.conf, bus := t.bus, tide := { s.tide with haltWant := t.tide.haltWant } }) := by
  have hspec := periodNoted_spec hservo _ rfl
  have hrun := boundary_of_not_servo hawake hservo hdue hready rfl
  generalize periodNoted s = t at *
  obtain ⟨htb, hflag, hsome, hnone, hts, hregs, -, -, hfr, hframe⟩ := hspec
  have hpw : t.pw = s.pw := by rw [hframe]
  have hstand : t.mode ≠ .standby := by
    rw [State.mode, hpw]
    exact not_standby_of_not_servo (phase_of_awake hawake) hservo
  have hend : haltBoundary (updateApply t) = haltsReleased t := by
    rw [updateApply_of_zero (hfr.trans hfrozen), haltBoundary_of_not_standby hstand]
    rfl
  rw [hend] at hrun
  refine ⟨_, congrArg Host.Outcome.next (hrun hpw ?_), htb, ?_, hsome, hnone, rfl, fun e _ => halted_haltsReleased t e, fun a ha => ?_, ?_⟩
  · have htg : tgPeriods (haltsReleased t) = tgPeriods s := by
      show (250000 + t.conf.tsNs - 1) / t.conf.tsNs = (250000 + s.conf.tsNs - 1) / s.conf.tsNs
      rw [hts]
    have hk : (haltsReleased t).tb.k = s.nowNs / s.tsNs := congrArg TimeBase.k htb
    rw [htg, hk]
    exact htel
  · exact (flag_of_reg_eq (reg_haltsReleased (by decide) t)).trans hflag
  · simp only [List.mem_cons, List.not_mem_nil, or_false, not_or] at ha
    obtain ⟨hper, hdef, hhalt⟩ := ha
    exact (reg_haltsReleased hhalt t).trans (hregs a (by simp [hper, hdef]))
  · have hframe' := haltsReleased_frame t
    have htb' : (haltsReleased t).tb = t.tb := rfl
    have hconf' : (haltsReleased t).conf = t.conf := rfl
    have hwant : (haltsReleased t).tide.haltWant = 0 := rfl
    generalize haltsReleased t = u at *
    rw [htb', hconf', hwant, hframe', hframe]

theorem regGroup_events : regGroup Reg.TIM_EVENT ≠ some 5 ∧ regGroup Reg.SYS_EVENT ≠ some 5 ∧ regGroup Reg.TAC_ENG_HALT ≠ some 5 := by
  decide +kernel

theorem boundary_update {s : State} (hawake : s.awake = true) (hservo : s.servoOn = false) (hdue : boundaryDue s = true)
    (hready : s.pw.ready = false) (htel : (s.nowNs / s.tsNs) % tgPeriods s ≠ 0) (hfrozen : s.bus.frozen = 32)
    (hsps : s.conf.spsNext = none) :
    Completes .servoPeriodBoundary s (fun t => t.tb.k = s.nowNs / s.tsNs ∧
      t.flag F.SYS_EVENT.UPD_DONE = true ∧ (∀ a, regGroup a = some 5 → t.reg a = s.pendReg a) ∧
      (∀ a, regGroup a ≠ some 5 → a ≠ Reg.TIM_EVENT → a ≠ Reg.SYS_EVENT → a ≠ Reg.TAC_ENG_HALT → t.reg a = s.reg a) ∧
      t = { s with tb := t.tb, bus := t.bus, tide := { s.tide with haltWant := 0 } }) := by
  have hspec := periodNoted_spec hservo _ rfl
  have hrun := boundary_of_not_servo hawake hservo hdue hready rfl
  generalize periodNoted s = t at *
  obtain ⟨htb, -, -, hnone, hts, -, hregs, hpend, hfr, hframe⟩ := hspec
  have hpw : t.pw = s.pw := by rw [hframe]
  have hawake' : t.awake = true := by
    rw [State.awake, State.mode, hpw]
    exact hawake
  rw [updateApply_of_five (hfr.trans hfrozen) hawake'] at hrun
  have hfive : ∀ a, a ≠ Reg.SYS_EVENT → (fiveApplied t).reg a = if regGroup a = some 5 then t.pendReg a else t.reg a := fun a ha =>
    reg_fiveApplied ha t
  have hdone : (fiveApplied t).flag F.SYS_EVENT.UPD_DONE = true := State.flag_ev_self (by decide) (by decide) _
  have hfiveFrame := fiveApplied_frame t
  have hlate := PendingOnly.releaseLate (fiveApplied t)
  have hlateReg := hlate.reg
  generalize releaseLate (fiveApplied t) = u at *
  generalize fiveApplied t = v at *
  have huFrame : u = { t with bus := u.bus } := by rw [hlate.2, hfiveFrame]
  have hupw : u.pw = s.pw := by rw [huFrame]; exact hpw
  have hstand : u.mode ≠ .standby := by
    rw [State.mode, hupw]
    exact not_standby_of_not_servo (phase_of_awake hawake) hservo
  have hreg : ∀ a, a ≠ Reg.SYS_EVENT → a ≠ Reg.TAC_ENG_HALT →
      (haltsReleased u).reg a = if regGroup a = some 5 then t.pendReg a else t.reg a := fun a hs hh =>
    (reg_haltsReleased hh u).trans ((hlateReg a).trans (hfive a hs))
  have hend : haltBoundary u = haltsReleased u := by
    rw [haltBoundary_of_not_standby hstand]
    rfl
  rw [hend] at hrun
  have hutb : u.tb = t.tb := by rw [huFrame]
  obtain ⟨htim, hsys, hhalt⟩ := regGroup_events
  refine ⟨_, congrArg Host.Outcome.next (hrun hupw ?_), ?_, ?_, fun a ha => ?_, fun a ha hper hev hh => ?_, ?_⟩
  · have htg : tgPeriods (haltsReleased u) = tgPeriods s := by
      have hconf : u.conf = s.conf := by rw [huFrame]; exact hnone hsps
      show (250000 + u.conf.tsNs - 1) / u.conf.tsNs = (250000 + s.conf.tsNs - 1) / s.conf.tsNs
      rw [hconf]
    have hk : (haltsReleased u).tb.k = s.nowNs / s.tsNs := (congrArg TimeBase.k hutb).trans (congrArg TimeBase.k htb)
    rw [htg, hk]
    exact htel
  · exact (congrArg TimeBase.k hutb).trans (congrArg TimeBase.k htb)
  · exact (flag_of_reg_eq ((reg_haltsReleased (by decide) u).trans (hlateReg _))).trans hdone
  · rw [hreg a (by rintro rfl; exact hsys ha) (by rintro rfl; exact hhalt ha), if_pos ha, State.pendReg, hpend]
    rfl
  · rw [hreg a hev hh, if_neg ha, hregs hsps a (by simpa using hper)]
  · have hframe' := haltsReleased_frame u
    have htb' : (haltsReleased u).tb = u.tb := rfl
    generalize haltsReleased u = w at *
    rw [htb', hframe', huFrame, hframe, hnone hsps]

/-! ### The compute window -/

theorem tide_send (s : State) (dst : Nat) (b : FrameBody) : (s.send dst b).tide = s.tide := by
  rw [(sendOnly_send s dst b).frame]

theorem tide_sendTel (kind dst : Nat) (body : List Byte) (s : State) : (sendTel kind dst body s).tide = s.tide := tide_send _ _ _

theorem tide_sendPermit (e : Nat × Grant) (s : State) : (sendPermit e s).tide = s.tide := by
  have hsent := fun l => State.read_forL (read := State.tide) (l := l) (f := fun d u => sendTel kindPermit d (permitBody s e.1 e.2) u)
    (fun _ _ t => tide_sendTel _ _ _ t) s
  unfold sendPermit
  split
  · exact hsent _
  · exact hsent _

theorem tide_sendTelegrams (s : State) : (sendTelegrams s).tide = s.tide := by
  have hsent := fun (l : List Nat) kind body => State.read_forL (read := State.tide) (l := l) (f := fun d u => sendTel kind d body u)
    (fun _ _ t => tide_sendTel _ _ _ t) s
  unfold sendTelegrams
  split
  · split
    · exact hsent _ _ _
    · split
      · exact (State.read_forL (read := State.tide) (fun e _ t => tide_sendPermit e t) _).trans (hsent _ _ _)
      · rfl
  · rfl

theorem stage_windowOpen {s : State} (h : windowReady s = true) : (windowOpen s).tide.stage = .phaseA := by
  rw [windowOpen, if_pos h]
  exact congrArg Tide.stage (tide_sendTelegrams _)

/-! ### The period method's zero -/

/-- Channel n as the expiry of T_ZERO leaves it. -/
def zeroReported (n : Nat) (s : State) : State := s.modFb n (fun x => { x with edge := false, pv := none, pok := true, sok := true })

theorem speedZero_of_expired {s : State} {n : Nat} (hn : n < 144) (hservo : s.servoOn = true) (hen : fbEn s n = true)
    (hlive : (s.fb n).live = true) (hdue : (s.fb n).eT + tZero s n ≤ s.nowNs) (hmethod : s.flag (F.FBK_CH_CFG.METHOD n) = false)
    (hobs : (s.fb n).useObs = false) (hblend : (s.fb n).blend = 0) (hsig : s.flag (F.FBK_CH_STAT.SIGF n) = false) :
    speedZero n s = ((zeroReported n s).setReg (Reg.FBK_CH_VEL n) 0).put (F.FBK_CH_STAT.SPD_VALID n) 1 := by
  unfold speedZero
  rw [if_pos ⟨hn, hservo, hen, hlive, hdue⟩]
  exact if_pos ⟨hmethod, hobs, hblend, hsig⟩

theorem speedZero_clause {s : State} {n : Nat} (h : speedZero n s =
    ((zeroReported n s).setReg (Reg.FBK_CH_VEL n) 0).put (F.FBK_CH_STAT.SPD_VALID n) 1) :
    Completes (.speedTZeroExpiry n) s (fun t => t.reg (Reg.FBK_CH_VEL n) = 0 ∧ t.flag (F.FBK_CH_STAT.SPD_VALID n) = true ∧
      (t.fb n).edge = false ∧ (∀ m, m ≠ n → t.fb m = s.fb m) ∧ RegsBut [Reg.FBK_CH_VEL n, Reg.FBK_CH_STAT n] s t ∧
      t = { s with bus := t.bus, fbk := t.fbk }) := by
  have hother : Reg.FBK_CH_VEL n ≠ Reg.FBK_CH_STAT n := by
    have hvel : Reg.FBK_CH_VEL n = Reg.FBK_CH_VEL 0 + 64 * n := rfl
    have hstat : Reg.FBK_CH_STAT n = Reg.FBK_CH_STAT 0 + 64 * n := rfl
    rw [hvel, hstat]
    exact fun h => absurd (Nat.add_right_cancel h) (by decide)
  refine ⟨_, congrArg Host.Outcome.next h, ?_, State.flag_ev_self (by decide) (by decide) _, ?_, fun m hm => ?_, fun a ha => ?_, rfl⟩
  · exact (State.reg_put_ne _ (F.FBK_CH_STAT.SPD_VALID n) _ _ hother).trans (State.reg_setReg_same _ _ _)
  · exact congrArg FbCh.edge (State.fb_modFb_same s n _)
  · exact State.fb_modFb_ne s n m _ hm
  · simp only [List.mem_cons, List.not_mem_nil, or_false, not_or] at ha
    obtain ⟨hvel, hstat⟩ := ha
    exact (State.reg_put_ne _ (F.FBK_CH_STAT.SPD_VALID n) _ _ hstat).trans (State.reg_setReg_ne _ _ _ _ hvel)

/-- Settles O32: outside the servo modes a boundary comes down to its note, the update in force and the halts; the entry of a mode keeps
what it set of the power state; and the frames of a window leave the stage it reached. -/
theorem periodAdvances : Obligations.PeriodAdvances := by
  refine ⟨fun s hearly => ?_, ?_, ?_, fun s h => ⟨_, rfl, stage_windowOpen h⟩,
    fun s n hn hservo hen hlive hdue hmethod hobs hblend hsig =>
      speedZero_clause (speedZero_of_expired hn hservo hen hlive hdue hmethod hobs hblend hsig)⟩
  · refine congrArg Host.Outcome.next (if_neg ?_)
    rw [hearly, Bool.and_false]
    exact Bool.false_ne_true
  · rintro s k rfl hawake hservo hdue hready htel
    exact ⟨fun hfrozen => boundary_plain hawake hservo hdue hready htel hfrozen,
      fun hfrozen hsps => boundary_update hawake hservo hdue hready htel hfrozen hsps⟩
  · rintro s m htrans hready hservo t rfl
    have henter : transBoundary s = enterNow m s := by
      unfold transBoundary
      simp only [htrans]
      exact if_pos hready
    obtain ⟨hmode, hprev, hnone, hready', -⟩ := inMode_enterNow m s
    rw [henter]
    exact ⟨hmode, hprev, hnone, hready'⟩

end Sys2Proof.Machine
end

section
/-!
PROOF. The start-up sequence (04 R101 to R104, R126; 03 R72; 18 R548).
-/

namespace Sys2Proof.Machine

open Sys2Proof

/-- What the steps before the first mode leave: the tick count, the life-cycle record and the reset causes. -/
def StartKept (s t : State) : Prop := t.tb.tick = s.tb.tick ∧ t.nv.lc = s.nv.lc ∧ t.conf.causes = s.conf.causes

namespace StartKept

variable {s t u : State}

theorem refl (s : State) : StartKept s s := ⟨rfl, rfl, rfl⟩

theorem trans (hst : StartKept s t) (htu : StartKept t u) : StartKept s u := by
  obtain ⟨htick, hlc, hcauses⟩ := hst
  obtain ⟨htick', hlc', hcauses'⟩ := htu
  exact ⟨htick'.trans htick, hlc'.trans hlc, hcauses'.trans hcauses⟩

theorem ite {c : Prop} [Decidable c] (ht : StartKept s t) (hu : StartKept s u) : StartKept s (if c then t else u) := by
  split
  · exact ht
  · exact hu

theorem of_run (h : RunKept s t) : StartKept s t := by
  obtain ⟨-, htick, -, hconf, hnv⟩ := h
  exact ⟨htick, hnv.1, by rw [hconf]⟩

theorem put (f : FRef) (v : Nat) (s : State) : StartKept s (s.put f v) := of_run (.put f v s)

theorem ev (f : FRef) (s : State) : StartKept s (s.ev f) := put f 1 s

theorem setReg (a : Nat) (w : Word) (s : State) : StartKept s (s.setReg a w) := of_run (.setReg a w s)

theorem setBar (b : Bool) (s : State) : StartKept s { s with pw := { s.pw with bar := b } } := ⟨rfl, rfl, rfl⟩

theorem setSaf (x : Saf) (s : State) : StartKept s { s with saf := x } := ⟨rfl, rfl, rfl⟩

theorem setSps (c : SpsContent) (s : State) : StartKept s { s with conf := { s.conf with sps := c } } := ⟨rfl, rfl, rfl⟩

theorem clockStart (s : State) : StartKept s (clockStart s) := .ite (of_run (.setClock _ _ _ s)) (of_run (.setClock _ _ _ s))

theorem mramZero (off n : Nat) (s : State) : StartKept s (mramZero off n s) := ⟨rfl, rfl, rfl⟩

theorem bootScan (s : State) : StartKept s (bootScan s) := by
  unfold Machine.bootScan
  extract_lets full next t lost u
  have ht : StartKept s t := .ite (mramZero _ _ s) (refl s)
  have hu : StartKept s u := ((ht.trans (setReg _ _ t)).trans (put _ _ _)).trans (setReg _ _ _)
  exact .ite ((hu.trans (ev _ u)).trans (ev _ _)) hu

theorem selfTestFailed (path : Nat) (test : Option (Fin 256)) (s : State) : StartKept s (selfTestFailed path test s) := by
  cases test with
  | none => exact refl s
  | some n =>
    have hrec : StartKept s (recordSafety 0 5 (items [path, n.val]) s) := of_run (.enqueue _ _ s)
    have hfault : ∀ t, StartKept t (firstFault path 7 0 t) := fun t =>
      ((setReg Reg.SAF_FAULT _ t).trans (ev F.SAF_EVENT.NEW _)).trans (setSaf _ _)
    exact .ite hrec (hrec.trans (hfault _))

theorem chooseSps (s : State) : StartKept s (chooseSps s) := by
  unfold Machine.chooseSps
  split
  next b x fb _ =>
    have hregs : StartKept s (((((s.put F.SAF_SPS_GEN.GEN x.gen).putB F.SAF_SPS_GEN.BANK b).setReg Reg.SAF_SPS_WORD x.check).putB
        F.CFG_STAT.SPS_BANK b).putB F.CFG_STAT.SPS_FALLBACK fb) :=
      ((((put _ _ s).trans (put _ _ _)).trans (setReg _ _ _)).trans (put _ _ _)).trans (put _ _ _)
    have hset := hregs.trans (setSps x.content _)
    exact .ite (hset.trans (ev _ _)) hset
  next => exact ((setSps _ s).trans (ev _ _)).trans (ev _ _)

theorem chooseOps (s : State) : StartKept s (chooseOps s) := by
  unfold Machine.chooseOps
  split
  next b x fb _ =>
    have hregs : StartKept s ((s.putB F.CFG_STAT.OPS_BANK b).putB F.CFG_STAT.OPS_FALLBACK fb) := (put _ _ s).trans (put _ _ _)
    have hset := hregs.trans (⟨rfl, rfl, rfl⟩ : StartKept _ ({ (s.putB F.CFG_STAT.OPS_BANK b).putB F.CFG_STAT.OPS_FALLBACK fb with
      conf := { ((s.putB F.CFG_STAT.OPS_BANK b).putB F.CFG_STAT.OPS_FALLBACK fb).conf with
        ops := x.content, geom := x.content.geom, tsNs := x.content.tsNs } } : State))
    exact .ite (hset.trans (ev _ _)) hset
  next => exact (ev _ s).trans (ev _ _)

theorem chooseSets (s : State) : StartKept s (chooseSets s) :=
  .ite ((((setSps _ s).trans (ev _ _)).trans (ev _ _)).trans (ev _ _)) ((chooseSps s).trans (chooseOps _))

theorem imageStep (s : State) : StartKept s (imageStep s) :=
  (put F.CFG_STAT.IMG _ s).trans (.ite ⟨rfl, rfl, rfl⟩ ⟨rfl, rfl, rfl⟩)

end StartKept

/-! ### The steps before the first mode -/

/-- The state with the 32.768 kHz clock's result noted. -/
def clockNoted (xtal : Bool) (s : State) : State :=
  if xtal then { s with pw := { s.pw with bar := false } }
  else { s with pw := { s.pw with bar := true } }.ev F.SYS_RESET_CAUSE.XTAL_FAIL

/-- The state as the steps before the first mode leave it, but for the Lock-out a failure brings. -/
def beforeFirst (core ecl : Option (Fin 256)) (xtal : Bool) (s : State) : State :=
  let d := imageStep (chooseSets (selfTestFailed 2 ecl (selfTestFailed 1 core (clockNoted xtal (bootScan (clockStart s))))))
  { d with saf := { d.saf with eclFail := ecl.isSome, coreDown := core.isSome } }

theorem startKept_clockNoted (xtal : Bool) (s : State) : StartKept s (clockNoted xtal s) :=
  .ite (.setBar false s) ((StartKept.setBar true s).trans (.ev _ _))

theorem startKept_beforeFirst (core ecl : Option (Fin 256)) (xtal : Bool) (s : State) : StartKept s (beforeFirst core ecl xtal s) := by
  have hscan : StartKept s (bootScan (clockStart s)) := (StartKept.clockStart s).trans (.bootScan _)
  have htests := ((hscan.trans (startKept_clockNoted xtal _)).trans (.selfTestFailed 1 core _)).trans (.selfTestFailed 2 ecl _)
  exact ((htests.trans (.chooseSets _)).trans (.imageStep _)).trans (.setSaf _ _)

/-- Start-up found a failure. -/
def startFailed (core ecl : Option (Fin 256)) (xtal : Bool) : Bool := core.isSome || ecl.isSome || !xtal

/-- The state of which the first mode is entered. -/
def firstFrom (core ecl : Option (Fin 256)) (xtal : Bool) (s : State) : State :=
  if startFailed core ecl xtal then startLockout (beforeFirst core ecl xtal s) else beforeFirst core ecl xtal s

theorem startSteps_eq (core ecl : Option (Fin 256)) (xtal : Bool) (s : State) : startSteps core ecl xtal s =
    firstMode (if (firstFrom core ecl xtal s).nv.lc.lockout || (firstFrom core ecl xtal s).nv.lc.fenced then .lockout else .watch)
      (firstFrom core ecl xtal s) := rfl

theorem startLockout_spec (s : State) : (startLockout s).tb.tick = s.tb.tick ∧ (startLockout s).conf.causes = s.conf.causes ∧
    (startLockout s).nv.lc.lockout = true := by
  unfold startLockout
  split
  next h => exact ⟨rfl, rfl, h⟩
  next =>
    obtain ⟨htick, hlc, hcauses⟩ := StartKept.of_run (RunKept.enqueue true
      ⟨8, 0, 0x10, s.tb.sec, s.tb.ns, items [(s.reg Reg.SAF_FAULT).toNat]⟩
      ({ s with nv := { s.nv with lc := { s.nv.lc with lockout := true } } }.ev F.SAF_EVENT.LOCKOUT))
    exact ⟨htick, hcauses, congrArg LcRecord.lockout hlc⟩

/-- What is known of the state of which the first mode is entered. -/
theorem firstFrom_spec (core ecl : Option (Fin 256)) (xtal : Bool) (s : State) (t : State) (ht : t = firstFrom core ecl xtal s) :
    t.tb.tick = s.tb.tick ∧ t.conf.causes = s.conf.causes ∧ (startFailed core ecl xtal = true → t.nv.lc.lockout = true) ∧
      (startFailed core ecl xtal = false → t.nv.lc = s.nv.lc) := by
  obtain ⟨htick, hlc, hcauses⟩ := startKept_beforeFirst core ecl xtal s
  subst ht
  unfold firstFrom
  cases startFailed core ecl xtal with
  | true =>
    obtain ⟨htick', hcauses', hlock⟩ := startLockout_spec (beforeFirst core ecl xtal s)
    exact ⟨htick'.trans htick, hcauses'.trans hcauses, fun _ => hlock, fun h => absurd h (by decide)⟩
  | false => exact ⟨htick, hcauses, fun h => absurd h (by decide), fun _ => hlc⟩

/-! ### The first mode -/

/-- The state with mode m in force and the device running. -/
def running (m : Mode) (s : State) : State :=
  { s with
    pw := { s.pw with phase := .running, mode := m, idleFrom := s.tb.tick, entryFrom := s.tb.tick, alarm := none }
    pins := { s.pins with usb := true }
    fab := { s.fab with settle := some s.tb.tick } }

theorem runKept_armNext (s : State) : RunKept s (armNext s) := .setNext _ s

theorem runKept_firstMode (m : Mode) (s : State) : RunKept (running m s) (firstMode m s) := by
  have hports : RunKept (running m s) ((loadOps (running m s)).forN 8 portHeld) :=
    (RunKept.loadSet true _).trans (.forN (fun p _ t => .portHeld p t) _)
  have hsent := (hports.trans (runKept_armNext _)).trans (.announceAll _)
  exact hsent.trans ⟨rfl, rfl, rfl, rfl, .refl _⟩

theorem firstMode_spec (m : Mode) (s t : State) (ht : t = firstMode m s) :
    t.mode = m ∧ t.pw.phase = .running ∧ t.fab.settle = some s.tb.tick ∧ t.conf = s.conf ∧ t.nv.lc = s.nv.lc := by
  obtain ⟨hpw, -, hsettle, hconf, hlc, -⟩ := runKept_firstMode m s
  rw [← ht] at hpw hsettle hconf hlc
  exact ⟨congrArg Power.mode hpw, congrArg Power.phase hpw, hsettle, hconf, hlc⟩

/-! ### The release -/

/-- The pins as the release of reset leaves them. -/
def pinsReleased (boot : Fin 4) (p : Pins) : Pins :=
  { p with boot := boot.val, nrst := true, tapIr := if p.nrst then p.tapIr else tapIdcode, tapDr := if p.nrst then p.tapDr else idcodeWord }

/-- The state with its pins and registers as the release leaves them. -/
def released (boot : Fin 4) (s : State) : State := releaseRegs { s with pins := pinsReleased boot s.pins }

theorem release_of_reset {s : State} (boot : Fin 4) (core ecl : Option (Fin 256)) (xtal : Bool) (hphase : s.pw.phase = .inReset)
    (hcauses : s.conf.causes ≠ 0) : release boot core ecl xtal s =
      if (released boot s).nv.lc.wipe.isSome then
        { released boot s with conf := { (released boot s).conf with wiping := true, resumed := true, wipeFrom := (released boot s).tb.tick } }
      else if (released boot s).nv.lc.take.isSome then released boot s
      else startSteps core ecl xtal (released boot s) :=
  if_pos ⟨hphase, hcauses⟩

theorem released_spec (boot : Fin 4) (s t : State) (ht : t = released boot s) :
    t.pw = s.pw ∧ t.tb = s.tb ∧ t.nv = s.nv ∧ t.conf.causes = 0 := by
  subst ht
  unfold released releaseRegs proofSet
  simp only [State.setReg_pw, State.setReg_tb, State.setReg_nv, State.setReg_conf, State.put_pw, State.put_tb, State.put_nv, State.put_conf, State.putB_pw, State.putB_tb, State.putB_nv,
    State.putB_conf, and_self]

theorem release_start {s : State} (boot : Fin 4) (core ecl : Option (Fin 256)) (xtal : Bool) (hphase : s.pw.phase = .inReset)
    (hcauses : s.conf.causes ≠ 0) (hwipe : s.nv.lc.wipe = none) (htake : s.nv.lc.take = none) :
    Completes (.resetRelease boot core ecl xtal) s (fun t =>
      t.pw.phase = Phase.running ∧ t.fab.settle = some s.tb.tick ∧ t.conf.causes = 0 ∧
      (core = none → ecl = none → xtal = true → s.nv.lc.lockout = false → s.nv.lc.fenced = false → t.mode = .watch) ∧
      (core ≠ none ∨ ecl ≠ none ∨ xtal = false → LockedOut t) ∧
      (s.nv.lc.lockout = true ∨ s.nv.lc.fenced = true → t.mode = .lockout)) := by
  have hrelease := release_of_reset boot core ecl xtal hphase hcauses
  obtain ⟨-, htb, hnv, hzero⟩ := released_spec boot s _ rfl
  rw [hnv, hwipe, htake] at hrelease
  replace hrelease := hrelease.trans ((if_neg (by decide)).trans ((if_neg (by decide)).trans (startSteps_eq core ecl xtal _)))
  obtain ⟨htick, hcauses', hfailed, hfine⟩ := firstFrom_spec core ecl xtal (released boot s) _ rfl
  generalize firstFrom core ecl xtal (released boot s) = u at *
  rw [htb] at htick
  rw [hzero] at hcauses'
  rw [hnv] at hfine
  obtain ⟨hmode, hrun, hsettle, hconf, hlc⟩ := firstMode_spec (if u.nv.lc.lockout || u.nv.lc.fenced then .lockout else .watch) u _ rfl
  refine ⟨_, congrArg Host.Outcome.next hrelease, hrun, hsettle.trans (congrArg some htick), (congrArg Conf.causes hconf).trans hcauses', ?_⟩
  refine ⟨fun hcore hecl hxtal hlock hfenced => hmode.trans (if_neg ?_), fun hfail => ?_, fun hkept => hmode.trans (if_pos ?_)⟩
  · rw [hfine (by rw [hcore, hecl, hxtal]; rfl), hlock, hfenced]
    exact Bool.false_ne_true
  · have hlock := hfailed (by
      obtain hcore | hecl | hxtal := hfail
      · simp [startFailed, Option.isSome_iff_ne_none.mpr hcore]
      · simp [startFailed, Option.isSome_iff_ne_none.mpr hecl]
      · simp [startFailed, hxtal])
    exact ⟨hmode.trans (if_pos (by rw [hlock]; rfl)), (congrArg LcRecord.lockout hlc).trans hlock⟩
  · cases hf : startFailed core ecl xtal with
    | true => rw [hfailed hf]; rfl
    | false =>
      rw [hfine hf]
      obtain h | h := hkept <;> simp [h]

/-- Settles O24: no step before the first mode writes the life-cycle record but the one that keeps a failure as Lock-out, and nothing of the
first mode's entry writes it or the power state again. -/
theorem startUpEntersItsFirstMode : Obligations.StartUpEntersItsFirstMode := by
  intro s boot core ecl xtal hphase hcauses
  refine ⟨fun hwipe htake => release_start boot core ecl xtal hphase hcauses hwipe htake, fun hwipe => ?_⟩
  have hrelease := release_of_reset boot core ecl xtal hphase hcauses
  obtain ⟨hpw, htb, hnv, -⟩ := released_spec boot s _ rfl
  rw [if_pos (by rw [hnv]; exact Option.isSome_iff_ne_none.mpr hwipe)] at hrelease
  generalize released boot s = u at *
  exact ⟨_, congrArg Host.Outcome.next hrelease, (congrArg Power.phase hpw).trans hphase, rfl, rfl, congrArg TimeBase.tick htb, hnv⟩

end Sys2Proof.Machine
end

section
/-!
PROOF. Synchronisation with FW = 0 and the queues of transmit stamps (19 R580, R581, R585, R586).
-/

namespace Sys2Proof.Machine

open Sys2Proof

/-! ### The ports of the protocol -/

@[simp] theorem ptpPort_modPort_same (p : Nat) (f : PtpPort → PtpPort) (s : State) : ptpPort (modPort p f s) p = f (ptpPort s p) :=
  smGet_smMod_same _ _ _ _

theorem ptpPort_modPort_ne {p q : Nat} (f : PtpPort → PtpPort) (s : State) (h : q ≠ p) : ptpPort (modPort p f s) q = ptpPort s q :=
  smGet_smMod_ne _ _ _ _ _ h

theorem modPort_frame (p : Nat) (f : PtpPort → PtpPort) (s : State) :
    modPort p f s = { s with tb := { s.tb with ports := (modPort p f s).tb.ports } } := rfl

theorem ptpOn_of {s : State} {p : Nat} (hawake : s.awake = true) (hfw : s.flag F.TIM_CFG.FW = false)
    (hen : s.bit F.TIM_CFG.PORT_EN p = true) : ptpOn s p = true := by
  rw [ptpOn, fwPtp, hawake, hfw, hen]
  rfl

/-! ### An offset seen -/

/-- The state with an offset shown and n good offsets in a row counted. -/
def offsetNoted (off : Int) (n : Nat) (s : State) : State :=
  { s.setReg Reg.TIM_OFFSET (wdi off) with tb := { s.tb with goodOffs := n } }

theorem offsetSeen_of_far {s : State} {off : Int} (h : 2 * syncLimit s < off.natAbs) : offsetSeen off s = clearSyncOp (offsetNoted off 0 s) :=
  if_pos h

theorem offsetSeen_of_good {s : State} {off : Int} (h : off.natAbs ≤ syncLimit s) : offsetSeen off s =
    if min 8 (s.tb.goodOffs + 1) = 8 then setSyncOp (offsetNoted off (min 8 (s.tb.goodOffs + 1)) s)
    else offsetNoted off (min 8 (s.tb.goodOffs + 1)) s :=
  (if_neg (by omega)).trans (if_pos h)

theorem offsetSeen_of_between {s : State} {off : Int} (hfar : off.natAbs ≤ 2 * syncLimit s) (hgood : syncLimit s < off.natAbs) :
    offsetSeen off s = offsetNoted off 0 s :=
  (if_neg (by omega)).trans (if_neg (by omega))

/-- What noting an offset may change: the shown offset, SYNC with its event, and the count of good offsets. -/
def OffsetShown (off : Int) (s t : State) : Prop :=
  t.reg Reg.TIM_OFFSET = wdi off ∧ RegsBut [Reg.TIM_OFFSET, Reg.TIM_STAT, Reg.TIM_EVENT] s t ∧ (∀ b, t.pendReg b = s.pendReg b) ∧
    t = { s with bus := t.bus, tb := { s.tb with goodOffs := t.tb.goodOffs } }

theorem offsetShown_noted (off : Int) (n : Nat) (s : State) : OffsetShown off s (offsetNoted off n s) :=
  ⟨State.reg_setReg_same _ _ _, fun a ha => State.reg_setReg_ne _ _ _ _ fun h => ha (by simp [h]), fun _ => rfl, rfl⟩

theorem OffsetShown.onlyRegs {off : Int} {s t u : State} (h : OffsetShown off s t) (htu : OnlyRegs [Reg.TIM_STAT, Reg.TIM_EVENT] t u) :
    OffsetShown off s u := by
  obtain ⟨hshown, hregs, hpend, hframe⟩ := h
  obtain ⟨hregs', hpend', hframe'⟩ := htu
  refine ⟨(hregs' _ (by decide)).trans hshown, fun a ha => ?_, fun b => (hpend' b).trans (hpend b), ?_⟩
  · simp only [List.mem_cons, List.not_mem_nil, or_false, not_or] at ha
    obtain ⟨hoff, hstat, hevent⟩ := ha
    exact (hregs' a (by simp [hstat, hevent])).trans (hregs a (by simp [hoff, hstat, hevent]))
  · have htb : u.tb = t.tb := by rw [hframe']
    rw [htb, hframe', hframe]

theorem goodOffs_of_onlyRegs {l : List Nat} {s t : State} (h : OnlyRegs l s t) : t.tb.goodOffs = s.tb.goodOffs := by
  rw [h.2.2]

/-- SYNC after an offset: set by the eighth good one in a row, cleared by one beyond twice the limit, else as it was. -/
def SyncJudged (off : Int) (lim : Nat) (s t : State) : Prop :=
  (off.natAbs ≤ lim → 7 ≤ s.tb.goodOffs → t.flag F.TIM_STAT.SYNC = true) ∧
    (2 * lim < off.natAbs → t.flag F.TIM_STAT.SYNC = false ∧ t.tb.goodOffs = 0) ∧
    (off.natAbs ≤ 2 * lim → (lim < off.natAbs ∨ s.tb.goodOffs < 7) → t.flag F.TIM_STAT.SYNC = s.flag F.TIM_STAT.SYNC)

theorem sync_offsetNoted (off : Int) (n : Nat) (s : State) : (offsetNoted off n s).flag F.TIM_STAT.SYNC = s.flag F.TIM_STAT.SYNC :=
  flag_of_reg_eq (State.reg_setReg_ne s Reg.TIM_OFFSET Reg.TIM_STAT (wdi off) (by decide))

theorem offsetSeen_spec (off : Int) (s : State) : OffsetShown off s (offsetSeen off s) ∧ SyncJudged off (syncLimit s) s (offsetSeen off s) := by
  have hnoted := offsetShown_noted off
  by_cases hfar : 2 * syncLimit s < off.natAbs
  · obtain ⟨hsync, -, -, honly⟩ := clearSyncOp_spec (offsetNoted off 0 s)
    rw [offsetSeen_of_far hfar]
    exact ⟨(hnoted 0 s).onlyRegs honly, fun h => absurd hfar (by omega), fun _ => ⟨hsync, goodOffs_of_onlyRegs honly⟩, fun h => absurd hfar (by omega)⟩
  · by_cases hgood : off.natAbs ≤ syncLimit s
    · rw [offsetSeen_of_good hgood]
      by_cases hn : min 8 (s.tb.goodOffs + 1) = 8
      · obtain ⟨hsync, -, -, honly⟩ := setSyncOp_spec (offsetNoted off (min 8 (s.tb.goodOffs + 1)) s)
        rw [if_pos hn]
        exact ⟨(hnoted _ s).onlyRegs honly, fun _ _ => hsync, fun h => absurd h hfar, fun _ h => absurd hn (by omega)⟩
      · rw [if_neg hn]
        exact ⟨hnoted _ s, fun _ h => absurd h (by omega), fun h => absurd h hfar, fun _ _ => sync_offsetNoted off _ s⟩
    · rw [offsetSeen_of_between (by omega) (by omega)]
      exact ⟨hnoted 0 s, fun h => absurd h hgood, fun h => absurd h hfar, fun _ _ => sync_offsetNoted off 0 s⟩

/-! ### Following an offset -/

/-- The clock followed the offset by a step within R578, or ADDEND took a value within R577. -/
def Followed (off : Int) (s t : State) : Prop :=
  (t.reg Reg.TIM_ADDEND = s.reg Reg.TIM_ADDEND ∧ (modeServo s.mode = true → off.natAbs ≤ 1000) ∨
      t.nowNs = s.nowNs ∧ addendOk (t.reg Reg.TIM_ADDEND) = true) ∧
    RegsBut [Reg.TIM_ADDEND] s t ∧ (∀ b, t.pendReg b = s.pendReg b) ∧ t.tb.goodOffs = s.tb.goodOffs ∧
    t = { s with bus := t.bus, tb := t.tb, free := t.free }

/-- The state with the next free value used up. -/
def drawn (s : State) : State := { s with free := s.free + 1 }

/-- ADDEND as a free value chooses it. -/
def addendDrawn (v : Nat) : Word := wd (0x80000000 - addendSpan + v / 2 % (2 * addendSpan + 1))

theorem addendOk_drawn (v : Nat) : addendOk (addendDrawn v) = true := by
  have hlt : v / 2 % (2 * addendSpan + 1) < 2 * addendSpan + 1 := Nat.mod_lt _ (by decide)
  rw [addendOk_iff, addendDrawn, wd, BitVec.toNat_ofNat]
  generalize v / 2 % (2 * addendSpan + 1) = r at *
  rw [addendSpan] at *
  omega

theorem follow_eq (off : Int) (s : State) : follow off s =
    if Config.freeNat s.free % 2 = 1 ∧ stepAllowed s off = true then clockAdd (-off) (drawn s)
    else (drawn s).setReg Reg.TIM_ADDEND (addendDrawn (Config.freeNat s.free)) := rfl

theorem stepAllowed_iff_servo {s : State} {off : Int} (h : stepAllowed s off = true) (hservo : modeServo s.mode = true) : off.natAbs ≤ 1000 := by
  rw [stepAllowed, hservo] at h
  simpa using h

theorem followed_step {off : Int} {s : State} (h : stepAllowed s off = true) : Followed off s (clockAdd (-off) (drawn s)) := by
  obtain ⟨-, -, hbus, hframe⟩ := clockAdd_clock (-off) (drawn s)
  generalize clockAdd (-off) (drawn s) = t at *
  have hreg : ∀ a, t.reg a = s.reg a := fun a => State.reg_of_bus_eq hbus a
  refine ⟨.inl ⟨hreg _, stepAllowed_iff_servo h⟩, fun a _ => hreg a, fun b => ?_, by rw [hframe]; rfl, ?_⟩
  · rw [State.pendReg, hbus]
    rfl
  · have hfree : t.free = s.free + 1 := by rw [hframe]; rfl
    have htb : t.tb = { s.tb with sec := t.tb.sec, ns := t.tb.ns, next := t.tb.next } := by rw [hframe]; rfl
    rw [hfree, htb, hbus, hframe]
    rfl

theorem followed_addend (off : Int) (v : Nat) (s : State) : Followed off s ((drawn s).setReg Reg.TIM_ADDEND (addendDrawn v)) := by
  have hsame : ((drawn s).setReg Reg.TIM_ADDEND (addendDrawn v)).reg Reg.TIM_ADDEND = addendDrawn v := State.reg_setReg_same _ _ _
  refine ⟨.inr ⟨rfl, ?_⟩, fun a ha => State.reg_setReg_ne _ _ _ _ (by simpa using ha), fun _ => rfl, rfl, rfl⟩
  rw [hsame]
  exact addendOk_drawn v

theorem followed_follow (off : Int) (s : State) : Followed off s (follow off s) := by
  rw [follow_eq]
  by_cases h : Config.freeNat s.free % 2 = 1 ∧ stepAllowed s off = true
  · rw [if_pos h]
    exact followed_step h.2
  · rw [if_neg h]
    exact followed_addend off _ s

/-- What a Sync from the upstream neighbour comes to. -/
def OffsetTaken (off : Int) (lim : Nat) (s t : State) : Prop :=
  t.reg Reg.TIM_OFFSET = BitVec.ofInt 32 off ∧
    (off.natAbs ≤ lim → 7 ≤ s.tb.goodOffs → t.flag F.TIM_STAT.SYNC = true) ∧
    (2 * lim < off.natAbs → t.flag F.TIM_STAT.SYNC = false ∧ t.tb.goodOffs = 0) ∧
    (off.natAbs ≤ 2 * lim → (lim < off.natAbs ∨ s.tb.goodOffs < 7) → t.flag F.TIM_STAT.SYNC = s.flag F.TIM_STAT.SYNC) ∧
    (t.reg Reg.TIM_ADDEND = s.reg Reg.TIM_ADDEND ∧ (modeServo s.mode = true → off.natAbs ≤ 1000) ∨
      t.nowNs = s.nowNs ∧ addendOk (t.reg Reg.TIM_ADDEND) = true) ∧
    RegsBut [Reg.TIM_OFFSET, Reg.TIM_STAT, Reg.TIM_EVENT, Reg.TIM_ADDEND] s t ∧ (∀ b, t.pendReg b = s.pendReg b) ∧
    t = { s with bus := t.bus, tb := t.tb, free := t.free }

theorem offsetTaken_follow (off : Int) (s : State) : OffsetTaken off (syncLimit s) s (follow off (offsetSeen off s)) := by
  obtain ⟨⟨hshown, hregs, hpend, hframe⟩, hgood, hfar, helse⟩ := offsetSeen_spec off s
  obtain ⟨hways, hregs', hpend', hcount, hframe'⟩ := followed_follow off (offsetSeen off s)
  generalize offsetSeen off s = u at *
  generalize follow off u = t at *
  have hsync : t.flag F.TIM_STAT.SYNC = u.flag F.TIM_STAT.SYNC := flag_of_reg_eq (hregs' _ (by decide))
  have hmode : u.mode = s.mode := by rw [hframe]; rfl
  have hnow : u.nowNs = s.nowNs := by rw [hframe]; rfl
  rw [hmode, hnow, hregs _ (by decide)] at hways
  refine ⟨(hregs' _ (by decide)).trans hshown, fun h1 h2 => hsync.trans (hgood h1 h2), fun h => ?_, fun h1 h2 => hsync.trans (helse h1 h2), hways,
    fun a ha => ?_, fun b => (hpend' b).trans (hpend b), ?_⟩
  · obtain ⟨hoff, hzero⟩ := hfar h
    exact ⟨hsync.trans hoff, hcount.trans hzero⟩
  · simp only [List.mem_cons, List.not_mem_nil, or_false, not_or] at ha
    obtain ⟨hoff, hstat, hevent, hadd⟩ := ha
    exact (hregs' a (by simp [hadd])).trans (hregs a (by simp [hoff, hstat, hevent]))
  · rw [hframe', hframe]

/-- The protocol's port data is no part of what an offset is judged by. -/
theorem OffsetTaken.of_ports {off : Int} {lim : Nat} {s u t : State} (hu : u = { s with tb := { s.tb with ports := u.tb.ports } })
    (h : OffsetTaken off lim u t) : OffsetTaken off lim s t := by
  have hbus : u.bus = s.bus := by rw [hu]
  have hcount : u.tb.goodOffs = s.tb.goodOffs := by rw [hu]
  have hmode : u.mode = s.mode := by rw [hu]; rfl
  have hnow : u.nowNs = s.nowNs := by rw [hu]; rfl
  have hreg : ∀ a, u.reg a = s.reg a := fun a => State.reg_of_bus_eq hbus a
  obtain ⟨hshown, hgood, hfar, helse, hways, hregs, hpend, hframe⟩ := h
  rw [hcount] at hgood
  rw [hcount, flag_of_reg_eq (s := s) (f := F.TIM_STAT.SYNC) (hreg _)] at helse
  rw [hreg, hmode, hnow] at hways
  refine ⟨hshown, hgood, hfar, helse, hways, fun a ha => (hregs a ha).trans (hreg a), fun b => (hpend b).trans ?_, ?_⟩
  · rw [State.pendReg, hbus, State.pendReg]
  · rw [hframe, hu]

theorem syncOffset_of_upstream {s : State} {p rx : Nat} {origin : PtpTime} {corr off : Int} (hup : s.get F.TIM_STAT.UPSTREAM = p)
    (hgm : s.flag F.TIM_STAT.GM = false) (hoff : off = (rx : Int) - ((ptpNs origin : Int) + corr + ((ptpPort s p).delay : Int))) :
    syncOffset p rx origin corr s = follow off (offsetSeen off s) := by
  rw [syncOffset, if_pos ⟨hup, hgm⟩, ← hoff]

theorem syncLimit_of_upstream {s : State} {p : Nat} (hup : s.get F.TIM_STAT.UPSTREAM = p) :
    syncLimit s = if s.get (F.FAB_SP_STAT.MODE p) = 1 then 500 else 50 := by
  rw [syncLimit, hup]

theorem sync_event_clause {s : State} {p : Fin 4} (stamp : PtpTime) {origin : PtpTime} {corr off : Int} (seq : Nat) (hon : ptpOn s p.val = true)
    (hup : s.get F.TIM_STAT.UPSTREAM = p.val) (hgm : s.flag F.TIM_STAT.GM = false)
    (hoff : off = (ptpNs stamp : Int) - ((ptpNs origin : Int) + corr + ((ptpPort s p.val).delay : Int))) :
    Completes (.ptpEventMessage p stamp (.sync seq (some (origin, corr)))) s (OffsetTaken off (syncLimit s) s) := by
  have hrun : ptpEventOp p.val stamp (.sync seq (some (origin, corr))) s = follow off (offsetSeen off s) := by
    rw [ptpEventOp, if_pos hon]
    exact syncOffset_of_upstream hup hgm hoff
  exact ⟨_, congrArg Host.Outcome.next hrun, offsetTaken_follow off s⟩

theorem sync_followUp_clause {s : State} {p : Fin 4} {rx seq : Nat} {origin : PtpTime} {corr off : Int} (hon : ptpOn s p.val = true)
    (hup : s.get F.TIM_STAT.UPSTREAM = p.val) (hgm : s.flag F.TIM_STAT.GM = false) (hrx : (ptpPort s p.val).syncRx = some rx)
    (hseq : (ptpPort s p.val).syncSeq = seq) (hoff : off = (rx : Int) - ((ptpNs origin : Int) + corr + ((ptpPort s p.val).delay : Int))) :
    Completes (.ptpGeneralMessage p (.followUp seq origin corr)) s (OffsetTaken off (syncLimit s) s) := by
  have hdelay : (ptpPort (modPort p.val (fun x => { x with syncRx := none }) s) p.val).delay = (ptpPort s p.val).delay := by
    rw [ptpPort_modPort_same]
  have hframe := modPort_frame p.val (fun x => { x with syncRx := none }) s
  have hreg : ∀ a, (modPort p.val (fun x => { x with syncRx := none }) s).reg a = s.reg a := fun _ => rfl
  have hrun : ptpGeneralOp p.val (.followUp seq origin corr) s =
      syncOffset p.val rx origin corr (modPort p.val (fun x => { x with syncRx := none }) s) := by
    rw [ptpGeneralOp, if_pos hon]
    simp only [hrx]
    exact if_pos hseq
  generalize modPort p.val (fun x => { x with syncRx := none }) s = u at *
  have hlim : syncLimit u = syncLimit s := by
    have hport : u.get F.TIM_STAT.UPSTREAM = s.get F.TIM_STAT.UPSTREAM := State.get_of_reg_eq (hreg _)
    rw [syncLimit, syncLimit, hport, State.get_of_reg_eq (s := s) (hreg _)]
  have hfollow : syncOffset p.val rx origin corr u = follow off (offsetSeen off u) :=
    syncOffset_of_upstream ((State.get_of_reg_eq (hreg _)).trans hup) ((flag_of_reg_eq (hreg _)).trans hgm) (by rw [hdelay]; exact hoff)
  rw [← hlim]
  exact ⟨_, congrArg Host.Outcome.next (hrun.trans hfollow), (offsetTaken_follow off u).of_ports hframe⟩

/-! ### Messages of a port -/

theorem port_clause {i : Instr} {s : State} {p : Nat} {f : PtpPort → PtpPort} (hrun : exec i s = .next (modPort p f s)) :
    Completes i s (fun t => ptpPort t p = f (ptpPort s p) ∧ (∀ q, q ≠ p → ptpPort t q = ptpPort s q) ∧
      t = { s with tb := { s.tb with ports := t.tb.ports } }) :=
  ⟨_, hrun, ptpPort_modPort_same p f s, fun _ hq => ptpPort_modPort_ne f s hq, rfl⟩

theorem pdelayFollowUp_clause {s : State} {p : Fin 4} (stamp : PtpTime) (seq : Nat) {t1 t2 t4 : Nat} (hon : ptpOn s p.val = true)
    (h1 : (ptpPort s p.val).t1 = some t1) (h2 : (ptpPort s p.val).t2 = some t2) (h4 : (ptpPort s p.val).t4 = some t4) :
    Completes (.ptpGeneralMessage p (.pdelayFollowUp seq stamp)) s (fun t =>
      ((ptpPort t p.val).delay : Int) = max 0 ((((t4 : Int) - t1) - ((ptpNs stamp : Int) - t2)) / 2) ∧
      (ptpPort t p.val).t1 = none ∧ t = { s with tb := { s.tb with ports := t.tb.ports } }) := by
  have hrun : ptpGeneralOp p.val (.pdelayFollowUp seq stamp) s = modPort p.val (fun x =>
      { x with delay := ((((t4 : Int) - t1) - ((ptpNs stamp : Int) - t2)) / 2).toNat, t1 := none, t2 := none, t4 := none }) s := by
    rw [ptpGeneralOp, if_pos hon]
    simp only [h1, h2, h4]
  obtain ⟨t, ht, hport, -, hframe⟩ := port_clause (i := .ptpGeneralMessage p (.pdelayFollowUp seq stamp)) (congrArg Host.Outcome.next hrun)
  refine ⟨t, ht, ?_, congrArg PtpPort.t1 hport, hframe⟩
  have hdelay : (ptpPort t p.val).delay = ((((t4 : Int) - t1) - ((ptpNs stamp : Int) - t2)) / 2).toNat := congrArg PtpPort.delay hport
  rw [hdelay, Int.ofNat_toNat, max_comm]

/-! ### Grandmaster selection -/

theorem bestPort_of_one {s : State} {p : Nat} {v : PtpVector} (hp : p < 4) (hann : (ptpPort s p).ann = some v)
    (hothers : ∀ q, q ≠ p → (ptpPort s q).ann = none) : bestPort s = some (p, v) := by
  have hlist : List.range 4 = [0, 1, 2, 3] := by decide
  unfold bestPort
  rw [hlist]
  have hcases : p = 0 ∨ p = 1 ∨ p = 2 ∨ p = 3 := by omega
  obtain rfl | rfl | rfl | rfl := hcases
  · simp [hann, hothers 1 (by decide), hothers 2 (by decide), hothers 3 (by decide)]
  · simp [hann, hothers 0 (by decide), hothers 2 (by decide), hothers 3 (by decide)]
  · simp [hann, hothers 0 (by decide), hothers 1 (by decide), hothers 3 (by decide)]
  · simp [hann, hothers 0 (by decide), hothers 1 (by decide), hothers 2 (by decide)]

theorem bmca_of_better {s : State} {p : Nat} {v : PtpVector} (hbest : bestPort s = some (p, v))
    (hown : ∀ o, ownVector s = some o → vecBetter v o = true) : bmca s = (s.put F.TIM_STAT.GM 0).put F.TIM_STAT.UPSTREAM p := by
  unfold bmca
  cases ho : ownVector s with
  | none => simp only [hbest]
  | some o =>
    simp only [hbest]
    exact if_pos (hown o ho)

theorem bmca_of_worse {s : State} {p : Nat} {v o : PtpVector} (hbest : bestPort s = some (p, v)) (ho : ownVector s = some o)
    (hworse : vecBetter v o = false) : bmca s = setSyncOp (s.put F.TIM_STAT.GM 1) := by
  unfold bmca
  simp only [hbest, ho]
  exact if_neg (by rw [hworse]; decide)

theorem upstream_clause {p : Nat} (hp : p < 4) (s : State) (t : State) (ht : t = (s.put F.TIM_STAT.GM 0).put F.TIM_STAT.UPSTREAM p) :
    t.flag F.TIM_STAT.GM = false ∧ t.get F.TIM_STAT.UPSTREAM = p ∧ RegsBut [Reg.TIM_STAT] s t := by
  subst ht
  refine ⟨?_, ?_, fun a ha => ?_⟩
  · exact (State.flag_put_bits _ F.TIM_STAT.UPSTREAM F.TIM_STAT.GM p rfl (by decide) (by decide) (by decide)).trans
      (State.flag_put_zero s F.TIM_STAT.GM (by decide) (by decide))
  · exact (State.get_put_same _ F.TIM_STAT.UPSTREAM p (by decide) (by decide)).trans (Nat.mod_eq_of_lt hp)
  · rw [List.mem_singleton] at ha
    exact (State.reg_put_ne _ F.TIM_STAT.UPSTREAM p a ha).trans (State.reg_put_ne s F.TIM_STAT.GM 0 a ha)

theorem gm_setSyncOp (s : State) : (setSyncOp s).flag F.TIM_STAT.GM = s.flag F.TIM_STAT.GM := by
  cases hsync : s.flag F.TIM_STAT.SYNC
  · rw [setSyncOp_of_no_sync hsync, State.flag_ev_reg _ _ _ (by decide)]
    exact (State.flag_put_bits _ F.TIM_STAT.HOLD F.TIM_STAT.GM 0 rfl (by decide) (by decide) (by decide)).trans
      (State.flag_put_bits s F.TIM_STAT.SYNC F.TIM_STAT.GM 1 rfl (by decide) (by decide) (by decide))
  · rw [setSyncOp_of_sync hsync]
    exact State.flag_put_bits s F.TIM_STAT.HOLD F.TIM_STAT.GM 0 rfl (by decide) (by decide) (by decide)

theorem grandmaster_clause (s t : State) (ht : t = setSyncOp (s.put F.TIM_STAT.GM 1)) :
    t.flag F.TIM_STAT.GM = true ∧ t.flag F.TIM_STAT.SYNC = true ∧ RegsBut [Reg.TIM_STAT, Reg.TIM_EVENT] s t := by
  obtain ⟨hsync, -, -, hregs, -, -⟩ := setSyncOp_spec (s.put F.TIM_STAT.GM 1)
  have hgm := gm_setSyncOp (s.put F.TIM_STAT.GM 1)
  rw [← ht] at hsync hregs hgm
  refine ⟨hgm.trans (State.flag_ev s F.TIM_STAT.GM (by decide) (by decide)), hsync, fun a ha => (hregs a ha).trans ?_⟩
  exact State.reg_put_ne s F.TIM_STAT.GM 1 a fun h => ha (List.mem_cons.mpr (.inl h))

theorem announce_clause {s : State} {p : Fin 4} (v : PtpVector) (hon : ptpOn s p.val = true)
    (hothers : ∀ q, q ≠ p.val → (ptpPort s q).ann = none) :
    ((∀ o, ownVector s = some o → vecBetter v o = true) → Completes (.ptpGeneralMessage p (.announce v)) s (fun t =>
      t.flag F.TIM_STAT.GM = false ∧ t.get F.TIM_STAT.UPSTREAM = p.val ∧ RegsBut [Reg.TIM_STAT] s t)) ∧
    (∀ o, ownVector s = some o → vecBetter v o = false → Completes (.ptpGeneralMessage p (.announce v)) s (fun t =>
      t.flag F.TIM_STAT.GM = true ∧ t.flag F.TIM_STAT.SYNC = true ∧ RegsBut [Reg.TIM_STAT, Reg.TIM_EVENT] s t)) := by
  have hrun : ptpGeneralOp p.val (.announce v) s = bmca (modPort p.val (fun x => { x with ann := some v }) s) := by
    rw [ptpGeneralOp, if_pos hon]
  have hbest : bestPort (modPort p.val (fun x => { x with ann := some v }) s) = some (p.val, v) :=
    bestPort_of_one p.isLt (congrArg PtpPort.ann (ptpPort_modPort_same p.val _ s)) fun q hq => by
      rw [ptpPort_modPort_ne _ _ hq]
      exact hothers q hq
  have hown : ownVector (modPort p.val (fun x => { x with ann := some v }) s) = ownVector s := rfl
  have hreg : ∀ a, (modPort p.val (fun x => { x with ann := some v }) s).reg a = s.reg a := fun _ => rfl
  generalize modPort p.val (fun x => { x with ann := some v }) s = u at *
  refine ⟨fun hbetter => ?_, fun o ho hworse => ?_⟩
  · obtain ⟨hgm, hup, hregs⟩ := upstream_clause p.isLt u _ rfl
    exact ⟨_, congrArg Host.Outcome.next (hrun.trans (bmca_of_better hbest (by rw [hown]; exact hbetter))), hgm, hup,
      fun a ha => (hregs a ha).trans (hreg a)⟩
  · obtain ⟨hgm, hsync, hregs⟩ := grandmaster_clause u _ rfl
    exact ⟨_, congrArg Host.Outcome.next (hrun.trans (bmca_of_worse hbest (hown.trans ho) hworse)), hgm, hsync,
      fun a ha => (hregs a ha).trans (hreg a)⟩

/-! ### Sync messages that end -/

/-- The state with no good offset counted and the announcement of the upstream port forgotten. -/
def syncForgotten (s : State) : State := forgetAnn (s.get F.TIM_STAT.UPSTREAM) { s with tb := { s.tb with goodOffs := 0 } }

theorem syncTimeout_clause {s : State} (hawake : s.awake = true) (hfw : s.flag F.TIM_CFG.FW = false) (hgm : s.flag F.TIM_STAT.GM = false) :
    Completes .syncReceiptTimeout s (fun t =>
      t.flag F.TIM_STAT.SYNC = false ∧ t.tb.goodOffs = 0 ∧
      (s.flag F.TIM_STAT.SYNC = true → t.flag F.TIM_STAT.HOLD = true ∧ t.flag F.TIM_EVENT.SYNC_LOST = true) ∧
      (ptpPort t (s.get F.TIM_STAT.UPSTREAM)).ann = none ∧
      (∀ q, q ≠ s.get F.TIM_STAT.UPSTREAM → ptpPort t q = ptpPort s q) ∧
      RegsBut [Reg.TIM_STAT, Reg.TIM_EVENT] s t ∧ (∀ b, t.pendReg b = s.pendReg b) ∧
      t = { s with bus := t.bus, tb := { s.tb with goodOffs := 0, ports := t.tb.ports } }) := by
  have hrun : syncTimeout s = clearSyncOp (syncForgotten s) := if_pos (by rw [fwPtp, hawake, hfw, hgm]; rfl)
  have hann : (ptpPort (syncForgotten s) (s.get F.TIM_STAT.UPSTREAM)).ann = none := congrArg PtpPort.ann (ptpPort_modPort_same _ _ _)
  have hothers : ∀ q, q ≠ s.get F.TIM_STAT.UPSTREAM → ptpPort (syncForgotten s) q = ptpPort s q := fun q hq => ptpPort_modPort_ne _ _ hq
  have hflag : (syncForgotten s).flag F.TIM_STAT.SYNC = s.flag F.TIM_STAT.SYNC := rfl
  have hreg : ∀ a, (syncForgotten s).reg a = s.reg a := fun _ => rfl
  have hpend : ∀ b, (syncForgotten s).pendReg b = s.pendReg b := fun _ => rfl
  have hframe : syncForgotten s = { s with tb := { s.tb with goodOffs := 0, ports := (syncForgotten s).tb.ports } } := rfl
  obtain ⟨hsync, hlost, -, hregs, hpend', hframe'⟩ := clearSyncOp_spec (syncForgotten s)
  generalize syncForgotten s = u at *
  generalize clearSyncOp u = t at *
  have htb : t.tb = u.tb := by rw [hframe']
  have hutb : u.tb = { s.tb with goodOffs := 0, ports := u.tb.ports } := by rw [hframe]
  refine ⟨t, congrArg Host.Outcome.next hrun, hsync, ?_, fun h => hlost (hflag.trans h), ?_, fun q hq => ?_, fun a ha => (hregs a ha).trans (hreg a),
    fun b => (hpend' b).trans (hpend b), ?_⟩
  · rw [htb, hutb]
  · rw [ptpPort, htb]
    exact hann
  · rw [ptpPort, htb]
    exact hothers q hq
  · rw [htb, ← hutb, hframe', hframe]

/-! ### The queue of transmit stamps -/

theorem txqOf_setTxq_same (p : Nat) (l : List TxStamp) (s : State) : txqOf (setTxq p l s) p = l := smGet_smSet_same _ _ _ _

theorem txqOf_setTxq_ne {p q : Nat} (l : List TxStamp) (s : State) (h : q ≠ p) : txqOf (setTxq p l s) q = txqOf s q :=
  smGet_smSet_ne _ _ _ _ _ _ h

theorem setTxq_clause {i : Instr} {s : State} {p : Nat} {l : List TxStamp} (hrun : exec i s = .next (setTxq p l s)) :
    Completes i s (fun t => txqOf t p = l ∧ (∀ q, q ≠ p → txqOf t q = txqOf s q) ∧ t = { s with tb := { s.tb with txq := t.tb.txq } }) :=
  ⟨_, hrun, txqOf_setTxq_same p l s, fun _ hq => txqOf_setTxq_ne l s hq, rfl⟩

theorem txStamp_clause {s : State} {p : Fin 4} {mt sq : Nat} {stamp : PtpTime} (hawake : s.awake = true) (hfw : s.flag F.TIM_CFG.FW = true)
    (hmt : mt < 16) (hsq : sq < 65536) :
    ((txqOf s p.val).length < 8 → Completes (.txTimestampEnqueue p mt sq stamp) s (fun t =>
      txqOf t p.val = txqOf s p.val ++ [⟨mt, sq, stamp.sec, stamp.ns⟩] ∧ (∀ q, q ≠ p.val → txqOf t q = txqOf s q) ∧
      t = { s with tb := { s.tb with txq := t.tb.txq } })) ∧
    (8 ≤ (txqOf s p.val).length → Completes (.txTimestampEnqueue p mt sq stamp) s (fun t =>
      t.get (F.TIM_TXQ_LOSS.LOSS p.val) = min 65535 (s.get (F.TIM_TXQ_LOSS.LOSS p.val) + 1) ∧ t.flag F.TIM_EVENT.TS_OVF = true ∧
      OnlyRegs [Reg.TIM_TXQ_LOSS p.val, Reg.TIM_EVENT] s t)) := by
  have hrun : txStampOp p.val mt sq stamp s = if (txqOf s p.val).length < 8 then
      setTxq p.val (txqOf s p.val ++ [⟨mt % 16, sq % 65536, stamp.sec, stamp.ns⟩]) s
      else (s.incSat (F.TIM_TXQ_LOSS.LOSS p.val)).ev F.TIM_EVENT.TS_OVF := (if_pos hawake).trans (if_pos hfw)
  rw [Nat.mod_eq_of_lt hmt, Nat.mod_eq_of_lt hsq] at hrun
  refine ⟨fun hroom => setTxq_clause (congrArg Host.Outcome.next (hrun.trans (if_pos hroom))), fun hfull => ?_⟩
  have hother : Reg.TIM_TXQ_LOSS p.val ≠ Reg.TIM_EVENT := (by decide : ∀ p : Fin 4, Reg.TIM_TXQ_LOSS p.val ≠ Reg.TIM_EVENT) p
  refine ⟨_, congrArg Host.Outcome.next (hrun.trans (if_neg (by omega))), ?_, State.flag_ev _ F.TIM_EVENT.TS_OVF (by decide) (by decide), ?_⟩
  · exact (State.get_of_reg_eq (State.reg_ev_ne _ F.TIM_EVENT.TS_OVF _ hother)).trans
      (State.get_incSat_self (by decide) (by decide) s (Reg.TIM_TXQ_LOSS p.val))
  · exact onlyRegs_of_changesOnly ((changesOnly_put (by simp) s _).trans (changesOnly_ev (by simp) _))

/-! ### The head of a queue is read -/

theorem viewOf_txqId (s : State) (core : Sender) (p : Fin 4) : viewOf s core (Reg.TIM_TXQ_ID p.val) = some (txqIdWord s p.val) := by
  fin_cases p <;>
    rw [viewOf_of_tim s core (by decide), viewsD, findView_cons_of_not_inArray _ _ (by decide), findView_cons_of_not_inArray _ _ (by decide),
      findView_cons_of_not_inArray _ _ (by decide), findView_cons_of_not_inArray _ _ (by decide), findView_cons_of_inArray _ _ (by decide)] <;>
    rfl

theorem viewOf_txqSeconds (s : State) (core : Sender) (p : Fin 4) :
    viewOf s core (Reg.TIM_TXQ_S_LO p.val) = some (shadowOf s (Reg.TIM_TXQ_S_LO p.val) core) ∧
      viewOf s core (Reg.TIM_TXQ_S_HI p.val) = some (shadowOf s (Reg.TIM_TXQ_S_HI p.val) core) := by
  constructor
  · fin_cases p <;>
      rw [viewOf_of_tim s core (by decide), viewsD, findView_cons_of_not_inArray _ _ (by decide), findView_cons_of_not_inArray _ _ (by decide),
        findView_cons_of_not_inArray _ _ (by decide), findView_cons_of_not_inArray _ _ (by decide), findView_cons_of_not_inArray _ _ (by decide),
        findView_cons_of_not_inArray _ _ (by decide), findView_cons_of_inArray _ _ (by decide)] <;>
      rfl
  · fin_cases p <;>
      rw [viewOf_of_tim s core (by decide), viewsD, findView_cons_of_not_inArray _ _ (by decide), findView_cons_of_not_inArray _ _ (by decide),
        findView_cons_of_not_inArray _ _ (by decide), findView_cons_of_not_inArray _ _ (by decide), findView_cons_of_not_inArray _ _ (by decide),
        findView_cons_of_not_inArray _ _ (by decide), findView_cons_of_not_inArray _ _ (by decide), findView_cons_of_inArray _ _ (by decide)] <;>
      rfl

/-- A register of a transmit queue is a single one of every role with a view. -/
theorem txq_single : ∀ p : Fin 4, ∀ a, a ∈ [Reg.TIM_TXQ_ID p.val, Reg.TIM_TXQ_S_LO p.val, Reg.TIM_TXQ_S_HI p.val] →
    readable a = true ∧ pairRole a = .single ∧ sectOnly a = false ∧ cmmChanAt a = none ∧ 0x40030c88 ≤ a := by
  decide

theorem readReg_txq {s : State} {core : Sender} {p : Fin 4} {a : Nat} {w : Word}
    (ha : a ∈ [Reg.TIM_TXQ_ID p.val, Reg.TIM_TXQ_S_LO p.val, Reg.TIM_TXQ_S_HI p.val]) (hview : viewOf s core a = some w) :
    readReg s core a = w := by
  obtain ⟨hread, hsingle, hrole, hcmm, hdoor⟩ := txq_single p a ha
  exact readReg_of_viewOf hread hsingle (.inr hdoor) hrole hcmm hview

/-- The state as a read of the head's nanoseconds leaves it. -/
def headRead (core : Sender) (p : Nat) (h : TxStamp) (s : State) : State :=
  setRdata core (wd h.ns) (latchSec (Reg.TIM_TXQ_S_LO p) core h.sec s)

theorem shadowOf_headRead (core : Sender) (p : Fin 4) (h : TxStamp) (s : State) :
    shadowOf (headRead core p.val h s) (Reg.TIM_TXQ_S_LO p.val) core = wd h.sec ∧
      shadowOf (headRead core p.val h s) (Reg.TIM_TXQ_S_HI p.val) core = wd (h.sec / 2 ^ 32 % 2 ^ 16) := by
  have hhi : Reg.TIM_TXQ_S_HI p.val = Reg.TIM_TXQ_S_LO p.val + 4 := (by decide : ∀ p : Fin 4, Reg.TIM_TXQ_S_HI p.val = Reg.TIM_TXQ_S_LO p.val + 4) p
  rw [hhi]
  simp only [headRead, latchSec, shadowOf_setRdata]
  constructor
  · rw [shadowOf_setShadow_ne _ _ (.inl (by omega)), shadowOf_setShadow_same, lo32]
  · exact shadowOf_setShadow_same ..

theorem txqNs_clause {s : State} {core : Sender} {p : Fin 4} {h : TxStamp} {r : List TxStamp} (hacc : canAccess s core = true)
    (hq : txqOf s p.val = h :: r) :
    Completes (.txqNsRead core p) s (fun t => smGet 0 t.bus.rdata core.val = wd h.ns ∧
      readReg t core (Reg.TIM_TXQ_S_LO p.val) = wd h.sec ∧ readReg t core (Reg.TIM_TXQ_S_HI p.val) = wd (h.sec / 2 ^ 32 % 2 ^ 16) ∧
      readReg t core (Reg.TIM_TXQ_ID p.val) = readReg s core (Reg.TIM_TXQ_ID p.val) ∧ OnlyRegs [] s t) := by
  have hrun : txqNsOp core p.val s = headRead core p.val h s := by
    unfold txqNsOp
    simp only [hq]
    rfl
  have hid : txqIdWord (headRead core p.val h s) p.val = txqIdWord s p.val := rfl
  obtain ⟨hlo, hhi⟩ := shadowOf_headRead core p h s
  refine ⟨_, congrArg Host.Outcome.next ((if_pos hacc).trans hrun), smGet_smSet_same _ _ _ _, ?_, ?_, ?_, fun _ _ => rfl, fun _ => rfl, rfl⟩
  · exact (readReg_txq (p := p) (by simp) (viewOf_txqSeconds _ core p).1).trans hlo
  · exact (readReg_txq (p := p) (by simp) (viewOf_txqSeconds _ core p).2).trans hhi
  · rw [readReg_txq (p := p) (by simp) (viewOf_txqId _ core p), readReg_txq (p := p) (by simp) (viewOf_txqId s core p), hid]

theorem txqPop_clause {s : State} {core : Sender} {p : Fin 4} {h : TxStamp} {r : List TxStamp} (hacc : canAccess s core = true)
    (hq : txqOf s p.val = h :: r) (hfree : Unguarded s (Reg.TIM_TXQ_POP p.val)) :
    Completes (.txqPop core p 1) s (fun t =>
      txqOf t p.val = r ∧ (∀ q, q ≠ p.val → txqOf t q = txqOf s q) ∧ t = { s with tb := { s.tb with txq := t.tb.txq } }) := by
  refine setTxq_clause (congrArg Host.Outcome.next ((writeCmd_of_unguarded (txqPopOp p.val 1) hacc hfree).trans ?_))
  rw [txqPopOp, if_pos (by decide), hq, List.tail_cons]

/-- Settles O56: an offset is noted and judged, then followed within the bounds of a step or of ADDEND; the rest is one message's change of one
port, or one queue's. -/
theorem syncFollowsTheOffsets : Obligations.SyncFollowsTheOffsets := by
  refine ⟨?_, fun s p stamp hawake hfw hen => ?_, fun s hawake hfw hgm => syncTimeout_clause hawake hfw hgm,
    fun s p mt sq stamp hawake hfw hmt hsq => txStamp_clause hawake hfw hmt hsq,
    fun s core p h r hacc hq => ⟨txqNs_clause hacc hq, fun hfree => txqPop_clause hacc hq hfree⟩⟩
  · rintro s p stamp origin corr off lim seq hawake hfw hen hup hgm hlim i rx hmsg hoff
    have hon := ptpOn_of hawake hfw hen
    rw [← syncLimit_of_upstream hup] at hlim
    rw [hlim]
    obtain ⟨rfl, rfl⟩ | ⟨rfl, hrx, hseq⟩ := hmsg
    · exact sync_event_clause stamp seq hon hup hgm hoff
    · exact sync_followUp_clause hon hup hgm hrx hseq hoff
  · have hon := ptpOn_of hawake hfw hen
    refine ⟨fun seq => port_clause (f := fun q => { q with syncSeq := seq, syncRx := some (ptpNs stamp) }) ?_,
      fun seq rx => port_clause (f := fun q => { q with t2 := some (ptpNs rx), t4 := some (ptpNs stamp) }) ?_, fun seq => ?_,
      fun seq t1 t2 t4 h1 h2 h4 => pdelayFollowUp_clause stamp seq hon h1 h2 h4, fun v hothers => announce_clause v hon hothers⟩
    · exact congrArg Host.Outcome.next (if_pos hon)
    · exact congrArg Host.Outcome.next (if_pos hon)
    · have hrun : txStampOp p.val 2 seq stamp s = modPort p.val (fun x => { x with t1 := some (ptpNs stamp) }) s := by
        rw [txStampOp, if_pos hawake, if_neg (by rw [fwPtp, hfw]; decide), if_pos rfl]
      obtain ⟨t, ht, hport, -, hframe⟩ := port_clause (i := .txTimestampEnqueue p 2 seq stamp) (congrArg Host.Outcome.next hrun)
      exact ⟨t, ht, congrArg PtpPort.t1 hport, hframe⟩

end Sys2Proof.Machine
end

section
/-!
PROOF. Parameter-set banks in the MRAM, and the Lock-out that leaves them (04 R112 to R119; 15 R475).
-/

namespace Sys2Proof.Machine

open Sys2Proof

/-! ### Parts of the state set whole -/

/-- The state with the safety core's part set. -/
def safSet (x : Saf) (s : State) : State := { s with saf := x }

theorem reg_safSet (x : Saf) (s : State) (a : Nat) : (safSet x s).reg a = s.reg a := rfl

theorem safSet_saf (x : Saf) (s : State) : (safSet x s).saf = x := rfl

theorem safSet_conf (x : Saf) (s : State) : (safSet x s).conf = s.conf := rfl

theorem safSet_nv (x : Saf) (s : State) : (safSet x s).nv = s.nv := rfl

/-- The state with the configuration set. -/
def confSet (c : Conf) (s : State) : State := { s with conf := c }

theorem reg_confSet (c : Conf) (s : State) (a : Nat) : (confSet c s).reg a = s.reg a := rfl

theorem confSet_conf (c : Conf) (s : State) : (confSet c s).conf = c := rfl

theorem confSet_saf (c : Conf) (s : State) : (confSet c s).saf = s.saf := rfl

theorem confSet_nv (c : Conf) (s : State) : (confSet c s).nv = s.nv := rfl

theorem reg_mramPut (off : Nat) (bs : List Byte) (s : State) (a : Nat) : (mramPut off bs s).reg a = s.reg a := rfl

theorem mramPut_frame (off : Nat) (bs : List Byte) (s : State) : mramPut off bs s = { s with nv := (mramPut off bs s).nv } := rfl

theorem mramPut_lc (off : Nat) (bs : List Byte) (s : State) : (mramPut off bs s).nv.lc = s.nv.lc := rfl

namespace OnlyRegs

variable {l : List Nat} {s t : State}

theorem saf_eq (h : OnlyRegs l s t) : t.saf = s.saf := by rw [h.2.2]

theorem conf_eq (h : OnlyRegs l s t) : t.conf = s.conf := by rw [h.2.2]

theorem nv_eq (h : OnlyRegs l s t) : t.nv = s.nv := by rw [h.2.2]

theorem tb_eq (h : OnlyRegs l s t) : t.tb = s.tb := by rw [h.2.2]

end OnlyRegs

/-- A record queued leaves all but the recorder's registers, its queues and its header. -/
theorem record_spec (src unit code : Nat) (data : List Byte) (s t : State) (ht : t = record src unit code data s) :
    RegsBut [Reg.REC_EVENT, Reg.REC_LOST] s t ∧ t.conf = s.conf ∧ NvKept s.nv t.nv := by
  subst ht
  obtain ⟨-, -, -, hconf, hnv⟩ := RunKept.enqueue false ⟨src, unit, code, s.tb.sec, s.tb.ns, data⟩ s
  exact ⟨(recorderOnly_enqueue false _ s).1, hconf, hnv⟩

/-! ### A commit starts and ends -/

theorem commitStart_spec {c : Commit} {s t : State} (ht : t = commitStart c s) :
    t.conf = { s.conf with commit := some c } ∧ t.saf = s.saf ∧ t.nv = s.nv ∧ t.flag F.CFG_STAT.COMMIT_BUSY = true ∧
      RegsBut [Reg.CFG_STAT] s t := by
  have hstart : t = (confSet { s.conf with commit := some c } s).ev F.CFG_STAT.COMMIT_BUSY := ht
  have hbusy := State.flag_ev_self (a := Reg.CFG_STAT) (hi := 14) (lo := 14) (by decide) (by decide) (confSet { s.conf with commit := some c } s)
  have honly : OnlyRegs [Reg.CFG_STAT] (confSet { s.conf with commit := some c } s) t :=
    onlyRegs_of_changesOnly (hstart ▸ changesOnly_ev (by simp) _)
  rw [← hstart] at hbusy
  exact ⟨honly.conf_eq.trans (confSet_conf _ _), honly.saf_eq.trans (confSet_saf _ _), honly.nv_eq.trans (confSet_nv _ _), hbusy, honly.1⟩

theorem commitEnd_spec {s t : State} (ht : t = commitEnd s) :
    t.conf = { s.conf with commit := none } ∧ t.nv = s.nv ∧ t.flag F.CFG_STAT.COMMIT_BUSY = false ∧ RegsBut [Reg.CFG_STAT] s t ∧ t.pw = s.pw := by
  have hend : t = (confSet { s.conf with commit := none } s).put F.CFG_STAT.COMMIT_BUSY 0 := ht
  have hbusy := State.flag_put_zero (confSet { s.conf with commit := none } s) F.CFG_STAT.COMMIT_BUSY (by decide) (by decide)
  have honly : OnlyRegs [Reg.CFG_STAT] (confSet { s.conf with commit := none } s) t :=
    onlyRegs_of_changesOnly (hend ▸ changesOnly_put (by simp) _ 0)
  rw [← hend] at hbusy
  refine ⟨honly.conf_eq.trans (confSet_conf _ _), honly.nv_eq.trans (confSet_nv _ _), hbusy, honly.1, ?_⟩
  rw [honly.2.2]
  rfl

/-! ### An image with its check word -/

theorem sealBank_parts {hdr pay : List Byte} (h : hdr.length = 12) :
    (sealBank hdr pay).take 12 = hdr ∧ ((sealBank hdr pay).drop 12).take 4 = wordBytes (crc32c (hdr ++ pay)) ∧ (sealBank hdr pay).drop 16 = pay := by
  have hsplit : sealBank hdr pay = hdr ++ (wordBytes (crc32c (hdr ++ pay)) ++ pay) := List.append_assoc _ _ _
  refine ⟨by rw [hsplit, List.take_left' h], by rw [hsplit, List.drop_left' h, List.take_left' (wordBytes_length _)], ?_⟩
  exact List.drop_left' (by rw [List.length_append, h, wordBytes_length])

theorem bankCheck_sealBank {hdr pay : List Byte} (h : hdr.length = 12) : bankCheck (sealBank hdr pay) = crc32c (hdr ++ pay) := by
  obtain ⟨-, hword, -⟩ := sealBank_parts (pay := pay) h
  rw [bankCheck, hword, leVal_wordBytes]
  exact (BitVec.ofNat_toNat 32 _).trans (BitVec.setWidth_eq _)

theorem checkOk_sealBank {hdr pay : List Byte} (h : hdr.length = 12) : checkOk (sealBank hdr pay) = true := by
  obtain ⟨hhdr, -, hpay⟩ := sealBank_parts (pay := pay) h
  rw [checkOk, bankCheck_sealBank h, hhdr, hpay, beq_self_eq_true]

/-- The header of a bank image before its check word. -/
def bankHeader (kind gen len : Nat) : List Byte := leBytes 4 kind ++ leBytes 4 (16 + len) ++ leBytes 2 gen ++ leBytes 2 3

theorem bankHeader_length (kind gen len : Nat) : (bankHeader kind gen len).length = 12 := by simp [bankHeader]

theorem bankImage_eq (kind gen : Nat) (pay : List Byte) : bankImage kind gen pay = sealBank (bankHeader kind gen pay.length) pay := rfl

/-- The fields of an image, one after the other. -/
theorem bankImage_fields (kind gen : Nat) (pay : List Byte) : bankImage kind gen pay = leBytes 4 kind ++ (leBytes 4 (16 + pay.length) ++
    (leBytes 2 gen ++ (leBytes 2 3 ++ (wordBytes (crc32c (bankHeader kind gen pay.length ++ pay)) ++ pay)))) := by
  simp only [bankImage_eq, sealBank, bankHeader, List.append_assoc]

theorem bankImage_length (kind gen : Nat) (pay : List Byte) : (bankImage kind gen pay).length = 16 + pay.length := by
  simp [bankImage_fields]
  omega

theorem bankKind_bankImage {kind : Nat} (h : kind < 256 ^ 4) (gen : Nat) (pay : List Byte) : bankKind (bankImage kind gen pay) = kind := by
  rw [bankKind, bankImage_fields, List.take_left' (leBytes_length _ _), leVal_leBytes, Nat.mod_eq_of_lt h]

theorem bankLen_bankImage {pay : List Byte} (h : 16 + pay.length < 256 ^ 4) (kind gen : Nat) :
    bankLen (bankImage kind gen pay) = 16 + pay.length := by
  rw [bankLen, bankImage_fields, List.drop_left' (leBytes_length _ _), List.take_left' (leBytes_length _ _), leVal_leBytes, Nat.mod_eq_of_lt h]

theorem bankGen_bankImage {gen : Nat} (h : gen < 256 ^ 2) (kind : Nat) (pay : List Byte) : bankGen (bankImage kind gen pay) = gen := by
  rw [bankGen, bankImage_fields, ← List.append_assoc, List.drop_left' (by simp), List.take_left' (leBytes_length _ _), leVal_leBytes,
    Nat.mod_eq_of_lt h]

theorem bankFormat_bankImage (kind gen : Nat) (pay : List Byte) : bankFormat (bankImage kind gen pay) = 3 := by
  rw [bankFormat, bankImage_fields, ← List.append_assoc, ← List.append_assoc, List.drop_left' (by simp), List.take_left' (leBytes_length _ _),
    leVal_leBytes]
  rfl

theorem bankGen_lt (bs : List Byte) : bankGen bs < 2 ^ 16 := by
  have hval : ∀ l : List Byte, leVal l < 256 ^ l.length := fun l => by
    induction l with
    | nil => simp [leVal]
    | cons b l ih =>
      have hb : b.toNat < 256 := b.isLt
      rw [leVal, List.length_cons, pow_succ]
      omega
  have hlen : ((bs.drop 8).take 2).length ≤ 2 := List.length_take_le 2 _
  exact lt_of_lt_of_le (hval _) (Nat.pow_le_pow_right (by decide) hlen)

/-! ### Banks in the MRAM -/

/-- A bank is read of its own room alone. -/
theorem bankAt_congr {m m' : List (Nat × Byte)} {a room : Nat} (hroom : 8 ≤ room)
    (h : ∀ j, a ≤ j → j < a + room → smGet 0 m' j = smGet 0 m j) : bankAt m' a room = bankAt m a room := by
  have hlen : leAt m' (a + 4) 4 = leAt m (a + 4) 4 := by
    rw [leAt, bytesAt_congr fun j hlo hhi => h j (by omega) (by omega), leAt]
  unfold bankAt
  simp only [hlen]
  split
  next hin =>
    rw [inR, Bool.and_eq_true, decide_eq_true_iff, decide_eq_true_iff] at hin
    rw [bytesAt_congr fun j hlo hhi => h j hlo (by omega)]
  next => rfl

theorem spsBankOf_congr {s t : State} {b : Bool}
    (h : ∀ j, spsBase b ≤ j → j < spsBase b + spsBankSize → smGet 0 t.nv.mram j = smGet 0 s.nv.mram j) : spsBankOf t b = spsBankOf s b := by
  rw [spsBankOf, bankAt_congr (by decide) h, spsBankOf]

theorem opsBankOf_congr {s t : State} {b : Bool}
    (h : ∀ j, opsBase b ≤ j → j < opsBase b + opsBankSize → smGet 0 t.nv.mram j = smGet 0 s.nv.mram j) : opsBankOf t b = opsBankOf s b := by
  rw [opsBankOf, bankAt_congr (by decide) h, opsBankOf]

theorem spsBankOf_of_nv_eq {s t : State} (h : t.nv = s.nv) (b : Bool) : spsBankOf t b = spsBankOf s b := by rw [spsBankOf, h, spsBankOf]

theorem opsBankOf_of_nv_eq {s t : State} (h : t.nv = s.nv) (b : Bool) : opsBankOf t b = opsBankOf s b := by rw [opsBankOf, h, opsBankOf]

/-- Safety-set banks lie past the recorder's header. -/
theorem spsBankOf_of_kept {s t : State} (h : NvKept s.nv t.nv) (b : Bool) : spsBankOf t b = spsBankOf s b :=
  spsBankOf_congr fun j hlo _ => h.2 j (.inr <| by
    have hbase : 0x10000 ≤ spsBase b := by cases b <;> decide
    rw [recHeader]
    omega)

/-- A bank write of one safety-set bank leaves the other. -/
theorem spsBankOf_mramPut_other {bs : List Byte} (h : bs.length ≤ spsBankSize) (b : Bool) (s : State) :
    spsBankOf (mramPut (spsBase b) bs s) (!b) = spsBankOf s (!b) :=
  spsBankOf_congr fun j hlo hhi => smGet_mramPut_ne s (by
    rw [spsBankSize] at h hhi
    cases b <;> simp [spsBase] at hlo hhi ⊢ <;> omega)

theorem opsBankOf_mramPut_other {bs : List Byte} (h : bs.length ≤ opsBankSize) (b : Bool) (s : State) :
    opsBankOf (mramPut (opsBase b) bs s) (!b) = opsBankOf s (!b) :=
  opsBankOf_congr fun j hlo hhi => smGet_mramPut_ne s (by
    rw [opsBankSize] at h hhi
    cases b <;> simp [opsBase] at hlo hhi ⊢ <;> omega)

/-- A write of a few bytes below the banks leaves every bank. -/
theorem spsBankOf_mramPut_below {off : Nat} {bs : List Byte} (h : off + bs.length ≤ 0x10000) (b : Bool) (s : State) :
    spsBankOf (mramPut off bs s) b = spsBankOf s b :=
  spsBankOf_congr fun j hlo _ => smGet_mramPut_ne s (by
    have hbase : 0x10000 ≤ spsBase b := by cases b <;> decide
    omega)

theorem opsBankOf_mramPut_below {off : Nat} {bs : List Byte} (h : off + bs.length ≤ 0x30000) (b : Bool) (s : State) :
    opsBankOf (mramPut off bs s) b = opsBankOf s b :=
  opsBankOf_congr fun j hlo _ => smGet_mramPut_ne s (by
    have hbase : 0x30000 ≤ opsBase b := by cases b <;> decide
    omega)

/-- A broken seal leaves no image. -/
theorem bankAt_breakSeal (off room : Nat) (s : State) : bankAt (breakSeal off s).nv.mram off room = none := by
  have hzeros : MramHolds (breakSeal off s) off (List.replicate 4 0 ++ (leBytes 4 0 ++ List.replicate 8 0)) := mramHolds_mramPut off _ s
  obtain ⟨-, hrest⟩ := mramHolds_append.mp hzeros
  obtain ⟨hlen, -⟩ := mramHolds_append.mp hrest
  have hzero : leAt (breakSeal off s).nv.mram (off + 4) 4 = 0 := leAt_of_holds hlen (by decide)
  unfold bankAt
  simp only [hzero]
  rfl

theorem spsBankOf_breakSeal (b : Bool) (s : State) : spsBankOf (breakSeal (spsBase b) s) b = none := by
  rw [spsBankOf, bankAt_breakSeal]
  rfl

theorem opsBankOf_breakSeal (b : Bool) (s : State) : opsBankOf (breakSeal (opsBase b) s) b = none := by
  rw [opsBankOf, bankAt_breakSeal]
  rfl

/-- The word of a selector just written. -/
theorem mramWord_mramPut (off v : Nat) (s : State) : mramWord (mramPut off (leBytes 4 v) s) off = wd v := by
  have hbytes : bytesAt (mramPut off (leBytes 4 v) s).nv.mram off 4 = leBytes 4 v := by
    have h := bytesAt_of_holds (mramHolds_mramPut off (leBytes 4 v) s)
    rwa [leBytes_length] at h
  rw [mramWord, leAt, hbytes, leVal_leBytes]
  exact BitVec.eq_of_toNat_eq (by simp [wd])

/-! ### Lock-out -/

/-- The state with the flag of Lock-out kept and the record of it queued. -/
def lockoutNoted (s : State) : State :=
  recordSafety 0 0x10 (items [((withLockout (reqDrop s)).reg Reg.SAF_FAULT).toNat]) ((withLockout (reqDrop s)).ev F.SAF_EVENT.LOCKOUT)

theorem nv_reqDrop (s : State) : (reqDrop s).nv = s.nv := by
  unfold reqDrop
  split <;> rfl

/-- Entering Lock-out keeps its flag, leaves the configuration in force, and of the non-volatile memory what lies outside the recorder's
header. -/
theorem lockoutEnter_spec {s t : State} {trig : Nat} (hawake : s.awake = true) (ht : t = lockoutEnter trig s) :
    LockedOut t ∧ t.conf = s.conf ∧ ∀ j, j < recHeader ∨ recHeader + 8 ≤ j → smGet 0 t.nv.mram j = smGet 0 s.nv.mram j := by
  have hmode : s.mode ≠ .dormant := by
    rw [State.awake, Bool.and_eq_true, bne_iff_ne] at hawake
    exact hawake.2
  obtain ⟨-, -, -, hconf, -⟩ := EntryKept.lockoutEnter (s := s) trig hmode
  have hflagged : NvKept { s.nv with lc := { s.nv.lc with lockout := true } } (lockoutNoted s).nv := by
    rw [← nv_reqDrop s]
    exact NvKept.enqueue true _ ((withLockout (reqDrop s)).ev F.SAF_EVENT.LOCKOUT)
  obtain ⟨hin, -, -, -, -, -, -, hnv⟩ := inMode_enterMode .lockout trig (lockoutNoted s)
  obtain ⟨hlc, hmram⟩ := hflagged.trans hnv
  subst ht
  exact ⟨⟨hin, congrArg LcRecord.lockout hlc⟩, hconf, hmram⟩

end Sys2Proof.Machine
end

section
/-!
PROOF. The way of a safety set (16 R520 to R523; 04 R117 to R119).
-/

namespace Sys2Proof.Machine

open Sys2Proof

/-! ### The fields of SAF_SPS_STAT -/

theorem state_put {v : Nat} (h : v < 8) (s : State) : (s.put F.SAF_SPS_STAT.STATE v).get F.SAF_SPS_STAT.STATE = v :=
  (State.get_put_self (by decide) (by decide) s _ v).trans (Nat.mod_eq_of_lt h)

theorem rej_put {v : Nat} (h : v < 16) (s : State) : (s.put F.SAF_SPS_STAT.REJ v).get F.SAF_SPS_STAT.REJ = v :=
  (State.get_put_self (by decide) (by decide) s _ v).trans (Nat.mod_eq_of_lt h)

theorem tries_put {v : Nat} (h : v < 4) (s : State) : (s.put F.SAF_SPS_STAT.TRIES v).get F.SAF_SPS_STAT.TRIES = v :=
  (State.get_put_self (by decide) (by decide) s _ v).trans (Nat.mod_eq_of_lt h)

theorem state_put_rej (v : Nat) (s : State) : (s.put F.SAF_SPS_STAT.REJ v).get F.SAF_SPS_STAT.STATE = s.get F.SAF_SPS_STAT.STATE :=
  State.get_put_disjoint (by decide) (by decide) (by decide) s _ v

theorem state_put_tries (v : Nat) (s : State) : (s.put F.SAF_SPS_STAT.TRIES v).get F.SAF_SPS_STAT.STATE = s.get F.SAF_SPS_STAT.STATE :=
  State.get_put_disjoint (by decide) (by decide) (by decide) s _ v

theorem rej_put_tries (v : Nat) (s : State) : (s.put F.SAF_SPS_STAT.TRIES v).get F.SAF_SPS_STAT.REJ = s.get F.SAF_SPS_STAT.REJ :=
  State.get_put_disjoint (by decide) (by decide) (by decide) s _ v

theorem tries_put_rej (v : Nat) (s : State) : (s.put F.SAF_SPS_STAT.REJ v).get F.SAF_SPS_STAT.TRIES = s.get F.SAF_SPS_STAT.TRIES :=
  State.get_put_disjoint (by decide) (by decide) (by decide) s _ v

/-- The registers that show the set at hand. -/
abbrev SpsReg (a : Nat) : Prop := a ∈ [Reg.SAF_SPS_STAT, Reg.SAF_SPS_CHECK]

/-! ### The image discarded or presented -/

/-- The registers of an image discarded for reason `rej`. -/
def spsCleared (rej : Nat) (s : State) : State :=
  (((s.put F.SAF_SPS_STAT.STATE 0).put F.SAF_SPS_STAT.REJ rej).put F.SAF_SPS_STAT.TRIES 0).setReg Reg.SAF_SPS_CHECK 0

theorem onlyRegs_spsCleared (rej : Nat) (s : State) : OnlyRegs [Reg.SAF_SPS_STAT, Reg.SAF_SPS_CHECK] s (spsCleared rej s) :=
  onlyRegs_of_changesOnly ((((changesOnly_put (by simp) s 0).trans (changesOnly_put (by simp) _ rej)).trans (changesOnly_put (by simp) _ 0)).trans
    (changesOnly_setReg (by simp) _ 0))

theorem spsDiscard_eq (rej : Nat) (s : State) : spsDiscard rej s = safSet { s.saf with xfer := none } (spsCleared rej s) := by
  rw [← (onlyRegs_spsCleared rej s).saf_eq]
  rfl

/-- Registers changed, then the safety core's part set. -/
theorem safSet_of_onlyRegs {l : List Nat} {s u t : State} {x : Saf} (hu : OnlyRegs l s u) (ht : t = safSet x u) :
    t.saf = x ∧ t.conf = s.conf ∧ t.nv = s.nv ∧ t.tb = s.tb ∧ (∀ a, t.reg a = u.reg a) ∧ RegsBut l s t := by
  subst ht
  exact ⟨rfl, hu.conf_eq, hu.nv_eq, hu.tb_eq, fun _ => rfl, hu.1⟩

/-- An image is gone for a reason, with nothing in force or kept changed. -/
theorem spsDiscard_spec {rej : Nat} (h : rej < 16) {s t : State} (ht : t = spsDiscard rej s) :
    t.get F.SAF_SPS_STAT.STATE = 0 ∧ t.get F.SAF_SPS_STAT.REJ = rej ∧ t.saf.xfer = none ∧ t.conf = s.conf ∧ t.nv = s.nv ∧
      RegsBut [Reg.SAF_SPS_STAT, Reg.SAF_SPS_CHECK] s t := by
  have honly := onlyRegs_spsCleared rej s
  have hstate : (spsCleared rej s).get F.SAF_SPS_STAT.STATE = 0 := by
    rw [spsCleared, State.get_setReg_other (by decide), state_put_tries, state_put_rej, state_put (by decide)]
  have hrej : (spsCleared rej s).get F.SAF_SPS_STAT.REJ = rej := by
    rw [spsCleared, State.get_setReg_other (by decide), rej_put_tries, rej_put h]
  obtain ⟨hsaf, hconf, hnv, -, hreg, hregs⟩ := safSet_of_onlyRegs honly (ht.trans (spsDiscard_eq rej s))
  exact ⟨(State.get_of_reg_eq (hreg _)).trans hstate, (State.get_of_reg_eq (hreg _)).trans hrej, congrArg Saf.xfer hsaf, hconf, hnv, hregs⟩

/-- The image presented. -/
def presented (s : State) (pay : List Byte) : List Byte := bankImage 0x53 (spsTarget s).2 pay

/-- The registers of an image presented. -/
def spsShown (w : Word) (s : State) : State := ((s.put F.SAF_SPS_STAT.STATE 2).put F.SAF_SPS_STAT.REJ 0).setReg Reg.SAF_SPS_CHECK w

theorem onlyRegs_spsShown (w : Word) (s : State) : OnlyRegs [Reg.SAF_SPS_STAT, Reg.SAF_SPS_CHECK] s (spsShown w s) :=
  onlyRegs_of_changesOnly (((changesOnly_put (by simp) s 2).trans (changesOnly_put (by simp) _ 0)).trans (changesOnly_setReg (by simp) _ w))

/-- The state with an image presented. -/
def withImage (img : List Byte) (x : SpsXfer) (s : State) : State := safSet { s.saf with xfer := some x } (spsShown (bankCheck img) s)

theorem spsPresent_eq (gen : Nat) (pay : List Byte) (s : State) :
    spsPresent none gen pay s = withImage (presented s pay) ⟨presented s pay, (spsTarget s).1, none, none, none⟩ s := by
  rw [withImage, ← (onlyRegs_spsShown (bankCheck (presented s pay)) s).saf_eq]
  rfl

theorem withImage_spec (img : List Byte) (x : SpsXfer) (s t : State) (ht : t = withImage img x s) :
    t.get F.SAF_SPS_STAT.STATE = 2 ∧ t.get F.SAF_SPS_STAT.REJ = 0 ∧ t.saf.xfer = some x ∧ t.reg Reg.SAF_SPS_CHECK = bankCheck img ∧
      RegsBut [Reg.SAF_SPS_STAT, Reg.SAF_SPS_CHECK] s t ∧ t.conf = s.conf ∧ t.nv = s.nv := by
  have honly := onlyRegs_spsShown (bankCheck img) s
  have hstate : (spsShown (bankCheck img) s).get F.SAF_SPS_STAT.STATE = 2 := by
    rw [spsShown, State.get_setReg_other (by decide), state_put_rej, state_put (by decide)]
  have hrej : (spsShown (bankCheck img) s).get F.SAF_SPS_STAT.REJ = 0 := by
    rw [spsShown, State.get_setReg_other (by decide), rej_put (by decide)]
  have hcheck : (spsShown (bankCheck img) s).reg Reg.SAF_SPS_CHECK = bankCheck img := State.reg_setReg_same _ _ _
  obtain ⟨hsaf, hconf, hnv, -, hreg, hregs⟩ := safSet_of_onlyRegs honly ht
  exact ⟨(State.get_of_reg_eq (hreg _)).trans hstate, (State.get_of_reg_eq (hreg _)).trans hrej, congrArg Saf.xfer hsaf, (hreg _).trans hcheck,
    hregs, hconf, hnv⟩

theorem spsTarget_lt (s : State) : (spsTarget s).2 < 2 ^ 16 := by
  unfold spsTarget commitTarget
  split
  · exact Nat.one_lt_two_pow (by decide)
  · exact Nat.mod_lt _ (by decide)

theorem spsTarget_of_regs {s t : State} (hstat : t.reg Reg.CFG_STAT = s.reg Reg.CFG_STAT) (hdef : t.reg Reg.CFG_DEFAULT = s.reg Reg.CFG_DEFAULT)
    (hgen : t.reg Reg.SAF_SPS_GEN = s.reg Reg.SAF_SPS_GEN) : spsTarget t = spsTarget s := by
  rw [spsTarget, flag_of_reg_eq (s := s) (f := F.CFG_DEFAULT.SPS) hdef, flag_of_reg_eq (s := s) (f := F.CFG_STAT.SPS_BANK) hstat,
    State.get_of_reg_eq (s := s) (f := F.SAF_SPS_GEN.GEN) hgen, spsTarget]

/-! ### The image arrives (R520) -/

theorem spsPayFault_of_sound {s : State} {len : Nat} {pay : List Byte} {c : SpsContent} (hlen : len = 16 + pay.length) (hroom : len ≤ 0x10000)
    (hcontent : Config.spsContentOf pay = some c) : spsPayFault s false len pay = spsFault s false c := by
  rw [spsPayFault, if_neg (by rw [spsBankSize]; omega)]
  simp only [hcontent]

theorem spsPayFault_of_unsound {s : State} {len : Nat} {pay : List Byte}
    (h : len ≠ 16 + pay.length ∨ 0x10000 < len ∨ Config.spsContentOf pay = none) : spsPayFault s false len pay = some 2 := by
  unfold spsPayFault
  split
  next => rfl
  next hsound =>
    rw [spsBankSize, not_or, not_not, Nat.not_lt] at hsound
    obtain hlen | hlen | hnone := h
    · exact absurd hsound.1 hlen
    · exact absurd hlen (by omega)
    · simp only [hnone]

theorem spsFault_lt {s : State} {shadow : Bool} {c : SpsContent} {r : Nat} (h : spsFault s shadow c = some r) : r < 16 := by
  unfold spsFault at h
  split_ifs at h <;> cases h <;> decide

theorem spsTransfer_of_open {s : State} (hawake : s.awake = true) (hstate : s.get F.SAF_SPS_STAT.STATE ≠ 4) (len gen : Nat) (pay : List Byte) :
    spsTransfer none len gen pay s = if s.mode ≠ .commissioning ∨ keyOn s = false then spsDiscard 1 (spsDiscard 0 s) else
      match spsPayFault s false len pay with
      | some r => spsDiscard r (spsDiscard 0 s)
      | none => spsPresent none gen pay (spsDiscard 0 s) := by
  unfold spsTransfer
  rw [if_neg (by simp [hawake, hstate])]
  rfl

theorem presented_spec {s u t : State} {pay : List Byte} (gen : Nat) (hroom : 16 + pay.length ≤ 0x10000) (hconf : u.conf = s.conf)
    (hnv : u.nv = s.nv) (hreg : RegsBut [Reg.SAF_SPS_STAT, Reg.SAF_SPS_CHECK] s u) (ht : t = spsPresent none gen pay u) :
    t.get F.SAF_SPS_STAT.STATE = 2 ∧ t.get F.SAF_SPS_STAT.REJ = 0 ∧
      (∃ x, t.saf.xfer = some x ∧ x.toB = (spsTarget s).1 ∧ x.shadow = none ∧ x.confirmAt = none ∧ x.img.drop 16 = pay ∧
        x.img.length = 16 + pay.length ∧ bankKind x.img = 0x53 ∧ bankLen x.img = 16 + pay.length ∧
        bankGen x.img = (spsTarget s).2 ∧ bankFormat x.img = 3 ∧ checkOk x.img = true ∧
        t.reg Reg.SAF_SPS_CHECK = bankCheck x.img) ∧
      RegsBut [Reg.SAF_SPS_STAT, Reg.SAF_SPS_CHECK] s t ∧ t.conf = s.conf ∧ t.nv = s.nv := by
  have htarget : spsTarget u = spsTarget s := spsTarget_of_regs (hreg _ (by decide)) (hreg _ (by decide)) (hreg _ (by decide))
  obtain ⟨h2, hrej, hxfer, hcheck, hregs, hconf', hnv'⟩ := withImage_spec (presented u pay) ⟨presented u pay, (spsTarget u).1, none, none, none⟩ u t
    (ht.trans (spsPresent_eq gen pay u))
  refine ⟨h2, hrej, ⟨_, hxfer, congrArg Prod.fst htarget, rfl, rfl, ?_, bankImage_length _ _ _,
    bankKind_bankImage (by decide) _ _, bankLen_bankImage (by omega) _ _, ?_, bankFormat_bankImage _ _ _,
    checkOk_sealBank (bankHeader_length _ _ _), hcheck⟩, fun a ha => (hregs a ha).trans (hreg a ha), hconf'.trans hconf, hnv'.trans hnv⟩
  · exact (sealBank_parts (bankHeader_length _ _ _)).2.2
  · rw [← htarget]
    exact bankGen_bankImage (spsTarget_lt u) _ _

theorem transfer_present {s : State} {len gen : Nat} {pay : List Byte} {c : SpsContent} (hawake : s.awake = true)
    (hstate : s.get F.SAF_SPS_STAT.STATE ≠ 4) (hmode : s.mode = .commissioning) (hkey : keyOn s = true) (hlen : len = 16 + pay.length)
    (hroom : len ≤ 0x10000) (hcontent : Config.spsContentOf pay = some c) (hsound : spsFault s false c = none) :
    Completes (.spsImageTransfer none len gen pay) s (fun t => t.get F.SAF_SPS_STAT.STATE = 2 ∧ t.get F.SAF_SPS_STAT.REJ = 0 ∧
      (∃ x, t.saf.xfer = some x ∧ x.toB = (spsTarget s).1 ∧ x.shadow = none ∧ x.confirmAt = none ∧ x.img.drop 16 = pay ∧
        x.img.length = 16 + pay.length ∧ bankKind x.img = 0x53 ∧ bankLen x.img = 16 + pay.length ∧
        bankGen x.img = (spsTarget s).2 ∧ bankFormat x.img = 3 ∧ checkOk x.img = true ∧
        t.reg Reg.SAF_SPS_CHECK = bankCheck x.img) ∧
      RegsBut [Reg.SAF_SPS_STAT, Reg.SAF_SPS_CHECK] s t ∧ t.conf = s.conf ∧ t.nv = s.nv) := by
  have hrun : spsTransfer none len gen pay s = spsPresent none gen pay (spsDiscard 0 s) := by
    rw [spsTransfer_of_open hawake hstate, if_neg (by simp [hmode, hkey]), spsPayFault_of_sound hlen hroom hcontent, hsound]
  obtain ⟨-, -, -, hconf, hnv, hreg⟩ := spsDiscard_spec (rej := 0) (by decide) (s := s) rfl
  exact ⟨_, congrArg Host.Outcome.next hrun, presented_spec gen (hlen ▸ hroom) hconf hnv hreg rfl⟩

theorem transfer_refused {s : State} {len gen r : Nat} {pay : List Byte} (hawake : s.awake = true) (hstate : s.get F.SAF_SPS_STAT.STATE ≠ 4)
    (hr : (s.mode ≠ .commissioning ∨ keyOn s = false) ∧ r = 1 ∨
        s.mode = .commissioning ∧ keyOn s = true ∧
          (len ≠ 16 + pay.length ∧ r = 2 ∨ 0x10000 < len ∧ r = 2 ∨ Config.spsContentOf pay = none ∧ r = 2 ∨
            len = 16 + pay.length ∧ len ≤ 0x10000 ∧ ∃ c, Config.spsContentOf pay = some c ∧ spsFault s false c = some r)) :
    Completes (.spsImageTransfer none len gen pay) s (fun t => t.get F.SAF_SPS_STAT.STATE = 0 ∧
        t.get F.SAF_SPS_STAT.REJ = r ∧ t.saf.xfer = none ∧ t.conf = s.conf ∧ t.nv = s.nv) := by
  have hopen := spsTransfer_of_open hawake hstate len gen pay
  have hrun : spsTransfer none len gen pay s = spsDiscard r (spsDiscard 0 s) ∧ r < 16 := by
    obtain ⟨hclosed, rfl⟩ | ⟨hmode, hkey, hwhy⟩ := hr
    · exact ⟨hopen.trans (if_pos hclosed), by decide⟩
    · rw [if_neg (by simp [hmode, hkey])] at hopen
      have hfault : spsPayFault s false len pay = some r ∧ r < 16 := by
        obtain ⟨h, rfl⟩ | ⟨h, rfl⟩ | ⟨h, rfl⟩ | ⟨hlen, hroom, c, hc, hf⟩ := hwhy
        · exact ⟨spsPayFault_of_unsound (.inl h), by decide⟩
        · exact ⟨spsPayFault_of_unsound (.inr (.inl h)), by decide⟩
        · exact ⟨spsPayFault_of_unsound (.inr (.inr h)), by decide⟩
        · exact ⟨(spsPayFault_of_sound hlen hroom hc).trans hf, spsFault_lt hf⟩
      rw [hfault.1] at hopen
      exact ⟨hopen, hfault.2⟩
  obtain ⟨hrun, hlt⟩ := hrun
  obtain ⟨-, -, -, hconf, hnv, -⟩ := spsDiscard_spec (rej := 0) (by decide) (s := s) rfl
  generalize spsDiscard 0 s = u at *
  obtain ⟨h0, hrej, hnone, hconf', hnv', -⟩ := spsDiscard_spec hlt (s := u) rfl
  exact ⟨_, congrArg Host.Outcome.next hrun, h0, hrej, hnone, hconf'.trans hconf, hnv'.trans hnv⟩

/-! ### The confirmation (R521) -/

/-- The state with the value typed back kept. -/
def typedBack (v : Word) (s : State) : State := keepVal Reg.SAF_SPS_CONFIRM v (dropGuard 8 s)

theorem onlyRegs_typedBack (v : Word) (s : State) : OnlyRegs [Reg.SAF_SPS_CONFIRM] s (typedBack v s) :=
  onlyRegs_of_changesOnly (changesOnly_keepVal_dropGuard (by simp) 8 v s)

theorem exec_spsConfirm {s : State} {core : Sender} {v : Word} (h : Guarded s core Reg.SAF_SPS_CONFIRM v) :
    exec (.spsConfirm core (~~~ v)) s = .next (spsConfirmOp core v (dropGuard 8 s)) :=
  congrArg Host.Outcome.next (cplWrite_of_armed (spsConfirmOp core) h.1 (by decide) h.2)

/-- The state with the image confirmed. -/
def confirmed (v : Word) (x : SpsXfer) (s : State) : State :=
  ((safSet { s.saf with xfer := some { x with confirmAt := some s.tb.tick, cfFrom := none } } (typedBack v s)).put F.SAF_SPS_STAT.STATE 3).put
    F.SAF_SPS_STAT.REJ 0

/-- A confirmation from Benrex Studio in Commissioning with the key, of whatever state. -/
theorem spsConfirmOp_of_open {s : State} {core : Sender} (v : Word) (hcore : core.val = 4) (hmode : s.mode = .commissioning)
    (hkey : keyOn s = true) : spsConfirmOp core v s = match (keepVal Reg.SAF_SPS_CONFIRM v s).saf.xfer with
      | none => keepVal Reg.SAF_SPS_CONFIRM v s
      | some x => if (keepVal Reg.SAF_SPS_CONFIRM v s).get F.SAF_SPS_STAT.STATE ≠ 2 then keepVal Reg.SAF_SPS_CONFIRM v s
        else if v = bankCheck x.img then
          ((safSet { (keepVal Reg.SAF_SPS_CONFIRM v s).saf with
            xfer := some { x with confirmAt := some (keepVal Reg.SAF_SPS_CONFIRM v s).tb.tick, cfFrom := none } }
            (keepVal Reg.SAF_SPS_CONFIRM v s)).put F.SAF_SPS_STAT.STATE 3).put F.SAF_SPS_STAT.REJ 0
        else spsDiffers (keepVal Reg.SAF_SPS_CONFIRM v s) := by
  unfold spsConfirmOp
  rw [if_neg (not_not.mpr hcore), if_neg (by simp [hmode, hkey])]
  rfl

/-- What a value typed back from Benrex Studio for the image presented comes to. -/
theorem spsConfirmOp_of_presented {s : State} {core : Sender} {v : Word} {x : SpsXfer} (hcore : core.val = 4) (hx : s.saf.xfer = some x)
    (hmode : s.mode = .commissioning) (hkey : keyOn s = true) (hstate : s.get F.SAF_SPS_STAT.STATE = 2) :
    spsConfirmOp core v (dropGuard 8 s) = if v = bankCheck x.img then confirmed v x s else spsDiffers (typedBack v s) := by
  have honly := onlyRegs_typedBack v s
  have hstate' : (typedBack v s).get F.SAF_SPS_STAT.STATE = 2 := (State.get_of_reg_eq (honly.1 _ (by decide))).trans hstate
  have hopen := spsConfirmOp_of_open (s := dropGuard 8 s) v hcore hmode hkey
  rw [← typedBack] at hopen
  simp only [hx, hstate', ne_eq, not_true_eq_false, if_false, honly.saf_eq, honly.tb_eq] at hopen
  exact hopen

theorem confirm_other {s : State} {core : Sender} {v : Word} (hguard : Guarded s core Reg.SAF_SPS_CONFIRM v) (hcore : core.val ≠ 4) :
    Completes (.spsConfirm core (~~~ v)) s (fun t => t.get F.SAF_SPS_STAT.REJ = 7 ∧ t.saf = s.saf ∧
      OnlyRegs [Reg.SAF_SPS_STAT, Reg.SAF_SPS_CONFIRM] s t) := by
  have hrun : spsConfirmOp core v (dropGuard 8 s) = (typedBack v s).put F.SAF_SPS_STAT.REJ 7 := if_pos hcore
  refine ⟨_, (exec_spsConfirm hguard).trans (congrArg Host.Outcome.next hrun), rej_put (by decide) _, ?_, ?_⟩
  · exact (State.put_saf _ _ _).trans (onlyRegs_typedBack v s).saf_eq
  · exact onlyRegs_of_changesOnly ((changesOnly_keepVal_dropGuard (by simp) 8 v s).trans (changesOnly_put (by simp) _ 7))

theorem confirm_same {s : State} {core : Sender} {v : Word} {x : SpsXfer} (hguard : Guarded s core Reg.SAF_SPS_CONFIRM v)
    (hrun : spsConfirmOp core v (dropGuard 8 s) = confirmed v x s) :
    Completes (.spsConfirm core (~~~ v)) s (fun t => t.get F.SAF_SPS_STAT.STATE = 3 ∧
      t.get F.SAF_SPS_STAT.REJ = 0 ∧ t.saf.xfer = some { x with confirmAt := some s.tb.tick, cfFrom := none } ∧ t.conf = s.conf ∧
      RegsBut [Reg.SAF_SPS_STAT, Reg.SAF_SPS_CONFIRM] s t) := by
  obtain ⟨hsaf, hconf, -, -, -, hregs⟩ := safSet_of_onlyRegs (onlyRegs_typedBack v s)
    (x := { s.saf with xfer := some { x with confirmAt := some s.tb.tick, cfFrom := none } }) rfl
  have honly : OnlyRegs [Reg.SAF_SPS_STAT]
      (safSet { s.saf with xfer := some { x with confirmAt := some s.tb.tick, cfFrom := none } } (typedBack v s)) (confirmed v x s) :=
    onlyRegs_of_changesOnly ((changesOnly_put (by simp) _ 3).trans (changesOnly_put (by simp) _ 0))
  have hstate : (confirmed v x s).get F.SAF_SPS_STAT.STATE = 3 := (state_put_rej 0 _).trans (state_put (by decide) _)
  have hrej : (confirmed v x s).get F.SAF_SPS_STAT.REJ = 0 := rej_put (by decide) _
  refine ⟨_, (exec_spsConfirm hguard).trans (congrArg Host.Outcome.next hrun), hstate, hrej, congrArg Saf.xfer (honly.saf_eq.trans hsaf),
    honly.conf_eq.trans hconf, fun a ha => ?_⟩
  simp only [List.mem_cons, List.not_mem_nil, or_false, not_or] at ha
  obtain ⟨hstat, hcmd⟩ := ha
  exact (honly.1 a (by simpa using hstat)).trans (hregs a (by simpa using hcmd))

/-- A value that differs: the third discards the image, an earlier one counts. -/
theorem spsDiffers_spec {u : State} (hstate : u.get F.SAF_SPS_STAT.STATE = 2) (t : State) (ht : t = spsDiffers u) :
    (u.get F.SAF_SPS_STAT.TRIES = 2 → t.get F.SAF_SPS_STAT.STATE = 0 ∧ t.get F.SAF_SPS_STAT.REJ = 5 ∧ t.saf.xfer = none) ∧
    (u.get F.SAF_SPS_STAT.TRIES < 2 → t.get F.SAF_SPS_STAT.STATE = 2 ∧
      t.get F.SAF_SPS_STAT.REJ = 4 ∧ t.get F.SAF_SPS_STAT.TRIES = u.get F.SAF_SPS_STAT.TRIES + 1 ∧ t.saf = u.saf) := by
  refine ⟨fun h2 => ?_, fun hlt => ?_⟩
  · have hlast : t = spsDiscard 5 u := ht.trans (if_pos h2)
    obtain ⟨h0, h5, hnone, -⟩ := spsDiscard_spec (by decide) hlast
    exact ⟨h0, h5, hnone⟩
  · have hfirst : t = (u.put F.SAF_SPS_STAT.TRIES (u.get F.SAF_SPS_STAT.TRIES + 1)).put F.SAF_SPS_STAT.REJ 4 :=
      ht.trans (if_neg (by omega))
    rw [hfirst, state_put_rej, state_put_tries, tries_put_rej, tries_put (by omega), rej_put (by decide), State.put_saf, State.put_saf]
    exact ⟨hstate, rfl, rfl, rfl⟩

theorem confirm_different {s : State} {core : Sender} {v : Word} (hguard : Guarded s core Reg.SAF_SPS_CONFIRM v)
    (hstate : s.get F.SAF_SPS_STAT.STATE = 2) (hrun : spsConfirmOp core v (dropGuard 8 s) = spsDiffers (typedBack v s)) :
    (s.get F.SAF_SPS_STAT.TRIES = 2 → Completes (.spsConfirm core (~~~ v)) s (fun t => t.get F.SAF_SPS_STAT.STATE = 0 ∧
      t.get F.SAF_SPS_STAT.REJ = 5 ∧ t.saf.xfer = none)) ∧
    (s.get F.SAF_SPS_STAT.TRIES < 2 → Completes (.spsConfirm core (~~~ v)) s (fun t => t.get F.SAF_SPS_STAT.STATE = 2 ∧
      t.get F.SAF_SPS_STAT.REJ = 4 ∧ t.get F.SAF_SPS_STAT.TRIES = s.get F.SAF_SPS_STAT.TRIES + 1 ∧ t.saf = s.saf)) := by
  have hexec := (exec_spsConfirm hguard).trans (congrArg Host.Outcome.next hrun)
  have honly := onlyRegs_typedBack v s
  have hreg : (typedBack v s).reg Reg.SAF_SPS_STAT = s.reg Reg.SAF_SPS_STAT := honly.1 _ (by decide)
  have htries : (typedBack v s).get F.SAF_SPS_STAT.TRIES = s.get F.SAF_SPS_STAT.TRIES := State.get_of_reg_eq hreg
  obtain ⟨hlast, hfirst⟩ := spsDiffers_spec ((State.get_of_reg_eq hreg).trans hstate) _ rfl
  rw [htries, honly.saf_eq] at hfirst
  exact ⟨fun h => ⟨_, hexec, hlast (htries.trans h)⟩, fun h => ⟨_, hexec, hfirst h⟩⟩

/-! ### The key hold (R522) -/

theorem holdValid_iff (f c now : Nat) :
    holdValid f c now = true ↔ f + 62500000 ≤ now ∧ now ≤ f + 625000000 ∧ f ≤ c + 7500000000 := by
  have hfive : ticksOf 5 = 625000000 := rfl
  have hsixty : ticksOf 60 = 7500000000 := rfl
  rw [holdValid, hfive, hsixty, Bool.and_eq_true, Bool.and_eq_true, decide_eq_true_iff, decide_eq_true_iff, decide_eq_true_iff, and_assoc]

theorem keyCfRelease_of_hold {s : State} {x : SpsXfer} {c f : Nat} (hawake : s.awake = true) (hmode : s.mode = .commissioning)
    (hx : s.saf.xfer = some x) (hc : x.confirmAt = some c) (hf : x.cfFrom = some f) :
    keyCfRelease s = if holdValid f c s.tb.tick then spsAccept x s else { s with saf := { s.saf with xfer := some { x with cfFrom := none } } } := by
  unfold keyCfRelease
  rw [if_pos (by rw [hawake, hmode]; rfl)]
  simp only [hx, hc, hf]

/-- The state with the image taken over for its commit. -/
def takenOver (s : State) : State := (safSet { s.saf with xfer := none } s).put F.SAF_SPS_STAT.STATE 4

/-- The state with the image taken over and the seal of the bank to write broken. -/
def bankBroken (toB : Bool) (s : State) : State := breakSeal (spsBase toB) (takenOver s)

theorem spsAccept_of_free {s : State} {x : SpsXfer} (hfree : cfgBusy s = false) (hshadow : x.shadow = none) :
    spsAccept x s = commitStart (.sps x.img x.toB) (bankBroken x.toB s) := by
  unfold spsAccept
  rw [if_neg (by rw [hfree]; decide)]
  simp only [hshadow]
  rfl

theorem takenOver_spec {s t : State} (ht : t = takenOver s) : t.get F.SAF_SPS_STAT.STATE = 4 ∧ t.saf.xfer = none ∧ t.conf = s.conf ∧
    t.nv = s.nv ∧ RegsBut [Reg.SAF_SPS_STAT] s t := by
  have hstate := state_put (v := 4) (by decide) (safSet { s.saf with xfer := none } s)
  have honly : OnlyRegs [Reg.SAF_SPS_STAT] (safSet { s.saf with xfer := none } s) (takenOver s) :=
    onlyRegs_of_changesOnly (changesOnly_put (by simp) _ 4)
  rw [ht]
  exact ⟨hstate, congrArg Saf.xfer (honly.saf_eq.trans (safSet_saf _ s)), honly.conf_eq.trans (safSet_conf _ s), honly.nv_eq.trans (safSet_nv _ s),
    honly.1⟩

theorem bankBroken_spec {toB : Bool} {s u t : State} (ht : t = breakSeal (spsBase toB) u) (hnv : u.nv = s.nv) :
    t.conf = u.conf ∧ t.saf = u.saf ∧ (∀ a, t.reg a = u.reg a) ∧ spsBankOf t toB = none ∧ spsBankOf t (!toB) = spsBankOf s (!toB) := by
  have hframe := mramPut_frame (spsBase toB) (List.replicate 16 0) u
  rw [← breakSeal, ← ht] at hframe
  have hother : spsBankOf t (!toB) = spsBankOf u (!toB) := ht ▸ spsBankOf_mramPut_other (by decide) toB u
  refine ⟨by rw [hframe], by rw [hframe], fun a => State.reg_of_bus_eq (by rw [hframe]) a, ht ▸ spsBankOf_breakSeal toB u,
    hother.trans (spsBankOf_of_nv_eq hnv _)⟩

theorem accepted_clause {s : State} {img : List Byte} {toB : Bool} {t : State} (ht : t = commitStart (.sps img toB) (bankBroken toB s)) :
    t.conf.commit = some (.sps img toB) ∧ t.get F.SAF_SPS_STAT.STATE = 4 ∧ t.flag F.CFG_STAT.COMMIT_BUSY = true ∧
      t.saf.xfer = none ∧ t.conf.sps = s.conf.sps ∧ spsBankOf t toB = none ∧ spsBankOf t (!toB) = spsBankOf s (!toB) ∧
      RegsBut [Reg.SAF_SPS_STAT, Reg.CFG_STAT] s t := by
  obtain ⟨hstate, hxfer, hconf, hnv, hregs⟩ := takenOver_spec (s := s) rfl
  obtain ⟨hconf', hsaf', hreg', hbroken, hother⟩ := bankBroken_spec (toB := toB) (t := bankBroken toB s) rfl hnv
  obtain ⟨hcommit, hsaf, hnv', hbusy, hregs'⟩ := commitStart_spec ht
  refine ⟨congrArg Conf.commit hcommit, ?_, hbusy, ?_, ?_, (spsBankOf_of_nv_eq hnv' toB).trans hbroken,
    (spsBankOf_of_nv_eq hnv' _).trans hother, fun a ha => ?_⟩
  · exact (State.get_of_reg_eq ((hregs' _ (by decide)).trans (hreg' _))).trans hstate
  · rw [hsaf, hsaf', hxfer]
  · rw [hcommit, hconf', hconf]
  · simp only [List.mem_cons, List.not_mem_nil, or_false, not_or] at ha
    obtain ⟨hsps, hcfg⟩ := ha
    exact (hregs' a (by simpa using hcfg)).trans ((hreg' a).trans (hregs a (by simpa using hsps)))

theorem hold_clause {s : State} {x : SpsXfer} {c f : Nat} (hawake : s.awake = true) (hmode : s.mode = .commissioning)
    (hx : s.saf.xfer = some x) (hshadow : x.shadow = none) (hc : x.confirmAt = some c) (hf : x.cfFrom = some f) (hfree : cfgBusy s = false) :
    (f + 62500000 ≤ s.tb.tick → s.tb.tick ≤ f + 625000000 → f ≤ c + 7500000000 → Completes .keyCfRelease s (fun t =>
      t.conf.commit = some (.sps x.img x.toB) ∧ t.get F.SAF_SPS_STAT.STATE = 4 ∧ t.flag F.CFG_STAT.COMMIT_BUSY = true ∧
      t.saf.xfer = none ∧ t.conf.sps = s.conf.sps ∧ spsBankOf t x.toB = none ∧ spsBankOf t (!x.toB) = spsBankOf s (!x.toB) ∧
      RegsBut [Reg.SAF_SPS_STAT, Reg.CFG_STAT] s t)) ∧
    (s.tb.tick < f + 62500000 ∨ f + 625000000 < s.tb.tick ∨ c + 7500000000 < f → Completes .keyCfRelease s (fun t =>
      t.saf.xfer = some { x with cfFrom := none } ∧ t.conf = s.conf ∧ t.nv = s.nv ∧ RegsBut [] s t)) := by
  have hrun := keyCfRelease_of_hold hawake hmode hx hc hf
  refine ⟨fun h1 h2 h3 => ?_, fun hshort => ?_⟩
  · rw [if_pos ((holdValid_iff f c _).mpr ⟨h1, h2, h3⟩), spsAccept_of_free hfree hshadow] at hrun
    exact ⟨_, congrArg Host.Outcome.next hrun, accepted_clause rfl⟩
  · rw [if_neg (by rw [holdValid_iff]; omega)] at hrun
    exact ⟨_, congrArg Host.Outcome.next hrun, rfl, rfl, rfl, fun _ _ => rfl⟩

theorem timeout_clause {s : State} {x : SpsXfer} {c : Nat} (hawake : s.awake = true) (hx : s.saf.xfer = some x) (hc : x.confirmAt = some c)
    (hf : x.cfFrom = none) (hdue : c + 7500000000 ≤ s.tb.tick) :
    Completes .spsConfirmTimeout s (fun t => t.get F.SAF_SPS_STAT.STATE = 0 ∧
      t.get F.SAF_SPS_STAT.REJ = 6 ∧ t.saf.xfer = none ∧ t.conf = s.conf) := by
  have hrun : spsTimeout s = spsDiscard 6 s := by
    unfold spsTimeout
    simp only [hx, hc, hf]
    exact if_pos (by simp [hawake, ticksOf, hdue])
  obtain ⟨h0, h6, hnone, hconf, -⟩ := spsDiscard_spec (rej := 6) (by decide) (s := s) rfl
  exact ⟨_, congrArg Host.Outcome.next hrun, h0, h6, hnone, hconf⟩

/-! ### The commit (R119) -/

/-- The state with the bank written and its selector naming it. -/
def bankWritten (img : List Byte) (toB : Bool) (s : State) : State :=
  mramPut spsSelector (leBytes 4 (selectorWord (bankGen img) toB)) (mramPut (spsBase toB) img s)

theorem bankWritten_spec {img : List Byte} (hroom : img.length ≤ 0x10000) (toB : Bool) (s t : State) (ht : t = bankWritten img toB s) :
    MramHolds t (spsBase toB) img ∧ spsBankOf t (!toB) = spsBankOf s (!toB) ∧
      mramWord t 0x2000 = wd (selectorWord (bankGen img) toB) ∧ t.conf = s.conf := by
  have hbase : 0x10000 ≤ spsBase toB := by cases toB <;> decide
  subst ht
  unfold bankWritten
  refine ⟨(mramHolds_mramPut (spsBase toB) img s).mramPut (.inr ?_), ?_, mramWord_mramPut 0x2000 _ _, ?_⟩
  · rw [leBytes_length, spsSelector]
    omega
  · exact (spsBankOf_mramPut_below (by rw [leBytes_length]; decide) _ _).trans (spsBankOf_mramPut_other hroom toB s)
  · rw [mramPut_frame, mramPut_frame (spsBase toB)]

/-- The registers of a committed set. -/
def setRegs (img : List Byte) (toB : Bool) (s : State) : State :=
  ((((s.put F.SAF_SPS_GEN.GEN (bankGen img)).putB F.SAF_SPS_GEN.BANK toB).setReg Reg.SAF_SPS_WORD (bankCheck img)).putB
    F.CFG_STAT.SPS_BANK toB).put F.CFG_STAT.SPS_FALLBACK 0

theorem gen_put {v : Nat} (h : v < 2 ^ 16) (s : State) : (s.put F.SAF_SPS_GEN.GEN v).get F.SAF_SPS_GEN.GEN = v :=
  (State.get_put_self (by decide) (by decide) s _ v).trans (Nat.mod_eq_of_lt h)

theorem gen_put_bank (v : Nat) (s : State) : (s.put F.SAF_SPS_GEN.BANK v).get F.SAF_SPS_GEN.GEN = s.get F.SAF_SPS_GEN.GEN :=
  State.get_put_disjoint (by decide) (by decide) (by decide) s _ v

theorem setRegs_spec (img : List Byte) (toB : Bool) (s t : State) (ht : t = setRegs img toB s) :
    t.get F.SAF_SPS_GEN.GEN = bankGen img ∧ t.reg Reg.SAF_SPS_WORD = bankCheck img ∧
      OnlyRegs [Reg.SAF_SPS_GEN, Reg.SAF_SPS_WORD, Reg.CFG_STAT] s t := by
  have honly : OnlyRegs [Reg.SAF_SPS_GEN, Reg.SAF_SPS_WORD, Reg.CFG_STAT] s (setRegs img toB s) :=
    onlyRegs_of_changesOnly (((((changesOnly_put (by simp) s (bankGen img)).trans (changesOnly_put (by simp) _ (b2n toB))).trans
      (changesOnly_setReg (by simp) _ (bankCheck img))).trans (changesOnly_put (by simp) _ (b2n toB))).trans (changesOnly_put (by simp) _ 0))
  rw [ht]
  refine ⟨?_, ?_, honly⟩
  · rw [setRegs, State.get_put_other (by decide), State.putB, State.get_put_other (by decide), State.get_setReg_other (by decide), State.putB,
      gen_put_bank, gen_put (bankGen_lt img)]
  · rw [setRegs, State.reg_put_ne _ _ _ _ (by decide), State.putB, State.reg_put_ne _ _ _ _ (by decide), State.reg_setReg_same]

theorem spsLoad_eq (img : List Byte) (toB : Bool) (s : State) : spsLoad img toB s =
    confSet { (setRegs img toB s).conf with spsNext := Config.spsContentOf (img.drop 16) } (setRegs img toB s) := rfl

theorem onlyRegs_spsIdle (s : State) : OnlyRegs [Reg.SAF_SPS_STAT, Reg.SAF_SPS_CHECK] s (spsIdle s) :=
  onlyRegs_of_changesOnly (((changesOnly_put (by simp) s 0).trans (changesOnly_put (by simp) _ 0)).trans (changesOnly_setReg (by simp) _ 0))

/-- The state with a committed set shown and waiting for the next boundary. -/
def setShown (img : List Byte) (toB : Bool) (s : State) : State := spsIdle (spsLoad img toB (commitEnd s))

theorem setShown_spec (img : List Byte) (toB : Bool) (s t : State) (ht : t = setShown img toB s) :
    t.get F.SAF_SPS_GEN.GEN = bankGen img ∧ t.reg Reg.SAF_SPS_WORD = bankCheck img ∧
      t.conf.spsNext = Config.spsContentOf (img.drop 16) ∧ t.conf.sps = s.conf.sps ∧ t.conf.commit = none ∧ t.nv = s.nv := by
  obtain ⟨hconf, hnv, -, -, -⟩ := commitEnd_spec (s := s) rfl
  obtain ⟨hgen, hword, honly⟩ := setRegs_spec img toB (commitEnd s) _ rfl
  have hidle := onlyRegs_spsIdle (spsLoad img toB (commitEnd s))
  rw [← setShown, ← ht, spsLoad_eq] at hidle
  have hreg := fun a => reg_confSet { (setRegs img toB (commitEnd s)).conf with spsNext := Config.spsContentOf (img.drop 16) }
    (setRegs img toB (commitEnd s)) a
  have hend : t.conf = { s.conf with commit := none, spsNext := Config.spsContentOf (img.drop 16) } := by
    rw [hidle.conf_eq, confSet_conf, honly.conf_eq, hconf]
  refine ⟨(State.get_of_reg_eq ((hidle.1 _ (by decide)).trans (hreg _))).trans hgen, ((hidle.1 _ (by decide)).trans (hreg _)).trans hword,
    by rw [hend], by rw [hend], by rw [hend], ?_⟩
  rw [hidle.nv_eq, confSet_nv, honly.nv_eq, hnv]

theorem spsCommitDone_of_agree {s : State} {img : List Byte} {toB : Bool} (hawake : s.awake = true) (hcommit : s.conf.commit = some (.sps img toB)) :
    spsCommitDone true s = record 0x0E 0 6 (items [b2n toB, bankGen img, (bankCheck img).toNat])
      ((setShown img toB (bankWritten img toB s)).ev F.CFG_EVENT.COMMIT_DONE) := by
  unfold spsCommitDone
  simp only [hcommit]
  exact (if_pos hawake).trans (if_pos trivial)

theorem commit_agreed {s : State} {img : List Byte} {toB : Bool} (hawake : s.awake = true) (hcommit : s.conf.commit = some (.sps img toB))
    (hroom : img.length ≤ 0x10000) :
    Completes (.spsCommit true) s (fun t => t.conf.spsNext = Config.spsContentOf (img.drop 16) ∧ t.conf.sps = s.conf.sps ∧
      t.conf.commit = none ∧ MramHolds t (spsBase toB) img ∧ spsBankOf t (!toB) = spsBankOf s (!toB) ∧
      mramWord t 0x2000 = wd (selectorWord (bankGen img) toB) ∧ t.get F.SAF_SPS_GEN.GEN = bankGen img ∧
      t.reg Reg.SAF_SPS_WORD = bankCheck img ∧ t.flag F.CFG_EVENT.COMMIT_DONE = true) := by
  obtain ⟨hholds, hother, hsel, hconf⟩ := bankWritten_spec hroom toB s _ rfl
  obtain ⟨hgen, hword, hnext, hsame, hnone, hnv⟩ := setShown_spec img toB (bankWritten img toB s) _ rfl
  have hev : OnlyRegs [Reg.CFG_EVENT] (setShown img toB (bankWritten img toB s))
      ((setShown img toB (bankWritten img toB s)).ev F.CFG_EVENT.COMMIT_DONE) := onlyRegs_of_changesOnly (changesOnly_ev (by simp) _)
  have hdone := State.flag_ev_self (a := Reg.CFG_EVENT) (hi := 2) (lo := 2) (by decide) (by decide) (setShown img toB (bankWritten img toB s))
  obtain ⟨hregs, hrconf, hrlc, hrmram⟩ := record_spec 0x0E 0 6 (items [b2n toB, bankGen img, (bankCheck img).toNat])
    ((setShown img toB (bankWritten img toB s)).ev F.CFG_EVENT.COMMIT_DONE) _ (spsCommitDone_of_agree hawake hcommit)
  have hconf' : (spsCommitDone true s).conf = (setShown img toB (bankWritten img toB s)).conf := hrconf.trans hev.conf_eq
  have hreg : ∀ a, a ∉ [Reg.REC_EVENT, Reg.REC_LOST] → a ∉ [Reg.CFG_EVENT] →
      (spsCommitDone true s).reg a = (setShown img toB (bankWritten img toB s)).reg a := fun a h1 h2 => (hregs a h1).trans (hev.1 a h2)
  rw [hev.nv_eq, hnv] at hrmram
  have hbase : 0x10000 ≤ spsBase toB := by cases toB <;> decide
  refine ⟨_, rfl, by rw [hconf', hnext], by rw [hconf', hsame, hconf], by rw [hconf', hnone], fun i hi => ?_, ?_, ?_,
    (State.get_of_reg_eq (hreg _ (by decide) (by decide))).trans hgen, (hreg _ (by decide) (by decide)).trans hword,
    (flag_of_reg_eq (hregs _ (by decide))).trans hdone⟩
  · exact (hrmram _ (.inr (by rw [recHeader]; omega))).trans (hholds i hi)
  · exact (spsBankOf_congr fun j hlo _ => hrmram j (.inr (by
      have hother : 0x10000 ≤ spsBase (!toB) := by cases toB <;> decide
      rw [recHeader]
      omega))).trans hother
  · exact (mramWord_congr fun j _ hhi => hrmram j (.inl (by rw [recHeader]; omega))).trans hsel

theorem spsCommitDone_of_disagree {s : State} {img : List Byte} {toB : Bool} (hawake : s.awake = true)
    (hcommit : s.conf.commit = some (.sps img toB)) :
    spsCommitDone false s = lockoutEnter 9 (((commitEnd s).put F.SAF_SPS_STAT.STATE 0).put F.SAF_SPS_STAT.REJ 8) := by
  unfold spsCommitDone
  simp only [hcommit]
  exact (if_pos hawake).trans (if_neg (by simp))

theorem commit_abandoned {s : State} {img : List Byte} {toB : Bool} (hawake : s.awake = true) (hcommit : s.conf.commit = some (.sps img toB)) :
    Completes (.spsCommit false) s (fun t => LockedOut t ∧ t.conf.commit = none ∧ t.conf.spsNext = s.conf.spsNext ∧
      t.conf.sps = s.conf.sps ∧ ∀ b, spsBankOf t b = spsBankOf s b) := by
  obtain ⟨hconf, hnv, -, -, hpw⟩ := commitEnd_spec (s := s) rfl
  have hcode : OnlyRegs [Reg.SAF_SPS_STAT] (commitEnd s) (((commitEnd s).put F.SAF_SPS_STAT.STATE 0).put F.SAF_SPS_STAT.REJ 8) :=
    onlyRegs_of_changesOnly ((changesOnly_put (by simp) _ 0).trans (changesOnly_put (by simp) _ 8))
  have hpw' : (((commitEnd s).put F.SAF_SPS_STAT.STATE 0).put F.SAF_SPS_STAT.REJ 8).pw = s.pw := by rw [State.put_pw, State.put_pw, hpw]
  obtain ⟨hlocked, hconf', hmram⟩ := lockoutEnter_spec (by rw [State.awake, State.mode, hpw']; exact hawake)
    (spsCommitDone_of_disagree hawake hcommit)
  rw [hcode.nv_eq, hnv] at hmram
  rw [hcode.conf_eq, hconf] at hconf'
  refine ⟨_, rfl, hlocked, by rw [hconf'], by rw [hconf'], by rw [hconf'], fun b => spsBankOf_congr fun j hlo _ => hmram j (.inr ?_)⟩
  have hbase : 0x10000 ≤ spsBase b := by cases b <;> decide
  rw [recHeader]
  omega

/-- Settles O25: each step of the way sets its registers and its part of the safety core, the image is a bank's with its check word, and the
banks, their selectors and the recorder's header lie apart in the MRAM. -/
theorem safetySetIsConfirmedBeforeItGoverns : Obligations.SafetySetIsConfirmedBeforeItGoverns := by
  refine ⟨fun s len gen pay hawake hstate => ⟨fun c hmode hkey hlen hroom hcontent hsound =>
      transfer_present hawake hstate hmode hkey hlen hroom hcontent hsound, fun r hr => transfer_refused hawake hstate hr⟩,
    fun s core v x hguard hx hmode hkey hstate => ⟨fun hcore => confirm_other hguard hcore, fun hcore hv => ?_, fun hcore hv => ?_⟩,
    fun s x c f hawake hmode hx hshadow hc hf hfree => hold_clause hawake hmode hx hshadow hc hf hfree,
    fun s x c hawake hx hc hf hdue => timeout_clause hawake hx hc hf hdue,
    fun s img toB hawake hcommit hroom => ⟨commit_agreed hawake hcommit hroom, commit_abandoned hawake hcommit⟩⟩
  · exact confirm_same hguard ((spsConfirmOp_of_presented hcore hx hmode hkey hstate).trans (if_pos hv))
  · exact confirm_different hguard hstate ((spsConfirmOp_of_presented hcore hx hmode hkey hstate).trans (if_neg hv))

end Sys2Proof.Machine
end

section
/-!
PROOF. The operational set, the life cycle and the loader (04 R110, R122 to R127).
-/

namespace Sys2Proof.Machine

open Sys2Proof

/-! ### The commit of an operational set (R122) -/

theorem exec_cfgOpsCommit {s : State} {core : Sender} {v : Word} (h : Guarded s core Reg.CFG_OPS_COMMIT v) :
    exec (.cfgOpsCommit core (~~~ v)) s = .next (opsCommitOp v (dropGuard 14 s)) :=
  congrArg Host.Outcome.next (cplWrite_of_armed opsCommitOp h.1 (by decide) h.2)

/-- A guarded value kept in a register of its block. -/
theorem onlyRegs_keepVal_dropGuard (a b : Nat) (v : Word) (s : State) : OnlyRegs [a] s (keepVal a v (dropGuard b s)) :=
  onlyRegs_of_changesOnly (changesOnly_keepVal_dropGuard (by simp) b v s)

theorem cfgRefused_clause {s u t : State} {a : Nat} (hu : OnlyRegs [a] s u) (ht : t = cfgRefuse u) :
    t.flag F.CFG_EVENT.REFUSED = true ∧ OnlyRegs [a, Reg.CFG_EVENT] s t := by
  rw [ht]
  refine ⟨State.flag_ev_self (by decide) (by decide) u, ?_⟩
  have hbefore : ChangesOnly (· ∈ [a, Reg.CFG_EVENT]) s u := ⟨fun b hb => hu.1 b fun h => hb (List.mem_cons.mpr (.inl (List.mem_singleton.mp h))), hu.2⟩
  exact onlyRegs_of_changesOnly (hbefore.trans (changesOnly_ev (by simp) u))

theorem opsCommitOp_of_image {s : State} {v : Word} {img : List Byte} (hmode : s.mode = .watch ∨ s.mode = .standby ∨ s.mode = .commissioning)
    (hfree : cfgBusy s = false) (himg : opsImage s v.toNat (opsTarget s).2 = some img) :
    opsCommitOp v s = if opsImageOk s img then commitStart (.ops img (opsTarget s).1) (breakSeal (opsBase (opsTarget s).1) (keepVal Reg.CFG_OPS_COMMIT v s))
      else cfgRefuse (keepVal Reg.CFG_OPS_COMMIT v s) := by
  unfold opsCommitOp
  rw [if_neg (by simp [hmode, hfree])]
  simp only [himg]

theorem opsCommitOp_of_refused {s : State} {v : Word} (h : ¬(s.mode = .watch ∨ s.mode = .standby ∨ s.mode = .commissioning) ∨ cfgBusy s = true ∨
    opsImage s v.toNat (opsTarget s).2 = none) : opsCommitOp v s = cfgRefuse (keepVal Reg.CFG_OPS_COMMIT v s) := by
  unfold opsCommitOp
  by_cases hclosed : ¬(s.mode = .watch ∨ s.mode = .standby ∨ s.mode = .commissioning) ∨ cfgBusy s = true
  · exact if_pos hclosed
  · have hnone : opsImage s v.toNat (opsTarget s).2 = none := by
      obtain h | h | h := h
      · exact absurd (.inl h) hclosed
      · exact absurd (.inr h) hclosed
      · exact h
    rw [if_neg hclosed]
    simp only [hnone]

theorem opsBroken_spec {toB : Bool} {s u t : State} (ht : t = breakSeal (opsBase toB) u) (hnv : u.nv = s.nv) :
    t.conf = u.conf ∧ (∀ a, t.reg a = u.reg a) ∧ opsBankOf t toB = none ∧ opsBankOf t (!toB) = opsBankOf s (!toB) := by
  have hframe := mramPut_frame (opsBase toB) (List.replicate 16 0) u
  rw [← breakSeal, ← ht] at hframe
  have hother : opsBankOf t (!toB) = opsBankOf u (!toB) := ht ▸ opsBankOf_mramPut_other (by decide) toB u
  exact ⟨by rw [hframe], fun a => State.reg_of_bus_eq (by rw [hframe]) a, ht ▸ opsBankOf_breakSeal toB u, hother.trans (opsBankOf_of_nv_eq hnv _)⟩

/-- A commit of an operational set starts. -/
theorem opsStarted_clause {s t : State} {img : List Byte} {toB : Bool} {v : Word}
    (ht : t = commitStart (.ops img toB) (breakSeal (opsBase toB) (keepVal Reg.CFG_OPS_COMMIT v (dropGuard 14 s)))) :
    t.conf.commit = some (.ops img toB) ∧ t.flag F.CFG_STAT.COMMIT_BUSY = true ∧ opsBankOf t toB = none ∧
      opsBankOf t (!toB) = opsBankOf s (!toB) ∧ t.conf.ops = s.conf.ops ∧ RegsBut [Reg.CFG_OPS_COMMIT, Reg.CFG_STAT] s t := by
  have honly := onlyRegs_keepVal_dropGuard Reg.CFG_OPS_COMMIT 14 v s
  obtain ⟨hconf, hreg, hbroken, hother⟩ := opsBroken_spec (toB := toB) rfl honly.nv_eq
  obtain ⟨hcommit, -, hnv, hbusy, hregs⟩ := commitStart_spec ht
  refine ⟨congrArg Conf.commit hcommit, hbusy, (opsBankOf_of_nv_eq hnv _).trans hbroken, (opsBankOf_of_nv_eq hnv _).trans hother, ?_, fun a ha => ?_⟩
  · rw [hcommit, hconf, honly.conf_eq]
  · simp only [List.mem_cons, List.not_mem_nil, or_false, not_or] at ha
    obtain ⟨hcmd, hstat⟩ := ha
    exact (hregs a (by simpa using hstat)).trans ((hreg a).trans (honly.1 a (by simpa using hcmd)))

/-- What a commit of an operational set is judged by is not its guard. -/
theorem opsTarget_dropGuard (b : Nat) (s : State) : opsTarget (dropGuard b s) = opsTarget s := rfl

theorem opsImage_dropGuard (b : Nat) (s : State) (src gen : Nat) : opsImage (dropGuard b s) src gen = opsImage s src gen := rfl

theorem opsImageOk_dropGuard (b : Nat) (s : State) (img : List Byte) : opsImageOk (dropGuard b s) img = opsImageOk s img := rfl

theorem opsCommit_clause {s : State} {core : Sender} {v : Word} (hguard : Guarded s core Reg.CFG_OPS_COMMIT v) :
    ((s.mode = .watch ∨ s.mode = .standby ∨ s.mode = .commissioning) → cfgBusy s = false →
      ∀ img, opsImage s v.toNat (opsTarget s).2 = some img →
        (opsImageOk s img = true → Completes (.cfgOpsCommit core (~~~ v)) s (fun t =>
          t.conf.commit = some (.ops img (opsTarget s).1) ∧
          t.flag F.CFG_STAT.COMMIT_BUSY = true ∧ opsBankOf t (opsTarget s).1 = none ∧
          opsBankOf t (!(opsTarget s).1) = opsBankOf s (!(opsTarget s).1) ∧ t.conf.ops = s.conf.ops ∧
          RegsBut [Reg.CFG_OPS_COMMIT, Reg.CFG_STAT] s t)) ∧
        (opsImageOk s img = false → Completes (.cfgOpsCommit core (~~~ v)) s (fun t =>
          t.flag F.CFG_EVENT.REFUSED = true ∧ OnlyRegs [Reg.CFG_OPS_COMMIT, Reg.CFG_EVENT] s t))) ∧
    (¬(s.mode = .watch ∨ s.mode = .standby ∨ s.mode = .commissioning) ∨ cfgBusy s = true ∨
        opsImage s v.toNat (opsTarget s).2 = none →
      Completes (.cfgOpsCommit core (~~~ v)) s (fun t => t.flag F.CFG_EVENT.REFUSED = true ∧
        OnlyRegs [Reg.CFG_OPS_COMMIT, Reg.CFG_EVENT] s t)) := by
  have hexec := exec_cfgOpsCommit hguard
  have honly := onlyRegs_keepVal_dropGuard Reg.CFG_OPS_COMMIT 14 v s
  refine ⟨fun hmode hfree img himg => ?_, fun hclosed => ?_⟩
  · have hrun := opsCommitOp_of_image (s := dropGuard 14 s) hmode hfree himg
    rw [opsTarget_dropGuard, opsImageOk_dropGuard] at hrun
    refine ⟨fun hok => ⟨_, hexec, opsStarted_clause (hrun.trans (if_pos hok))⟩, fun hbad => ⟨_, hexec, cfgRefused_clause honly (hrun.trans (if_neg ?_))⟩⟩
    rw [hbad]
    exact Bool.false_ne_true
  · exact ⟨_, hexec, cfgRefused_clause honly (opsCommitOp_of_refused (s := dropGuard 14 s) hclosed)⟩

/-- The state with the bank of an operational set written and its selector naming it. -/
def opsWritten (img : List Byte) (toB : Bool) (s : State) : State :=
  mramPut opsSelector (leBytes 4 (selectorWord (bankGen img) toB)) (mramPut (opsBase toB) img s)

theorem opsWritten_spec {img : List Byte} (hroom : img.length ≤ 0x200000) (toB : Bool) (s t : State) (ht : t = opsWritten img toB s) :
    MramHolds t (opsBase toB) img ∧ opsBankOf t (!toB) = opsBankOf s (!toB) ∧
      mramWord t 0x2004 = wd (selectorWord (bankGen img) toB) ∧ t.conf = s.conf ∧ ∀ a, t.reg a = s.reg a := by
  have hbase : 0x30000 ≤ opsBase toB := by cases toB <;> decide
  subst ht
  unfold opsWritten
  refine ⟨(mramHolds_mramPut (opsBase toB) img s).mramPut (.inr ?_), ?_, mramWord_mramPut 0x2004 _ _, ?_,
    fun a => (reg_mramPut _ _ _ a).trans (reg_mramPut _ _ s a)⟩
  · rw [leBytes_length, opsSelector]
    omega
  · exact (opsBankOf_mramPut_below (by rw [leBytes_length]; decide) _ _).trans (opsBankOf_mramPut_other hroom toB s)
  · rw [mramPut_frame, mramPut_frame (opsBase toB)]

theorem opsDone_agreed {s : State} {img : List Byte} {toB : Bool} (hawake : s.awake = true) (hcommit : s.conf.commit = some (.ops img toB))
    (hroom : img.length ≤ 0x200000) :
    Completes (.opsCommitDone true) s (fun t => MramHolds t (opsBase toB) img ∧ opsBankOf t (!toB) = opsBankOf s (!toB) ∧
      t.conf = { s.conf with commit := none } ∧ t.flag F.CFG_EVENT.COMMIT_DONE = true ∧ t.flag F.CFG_STAT.COMMIT_BUSY = false ∧
      mramWord t 0x2004 = wd (selectorWord (bankGen img) toB) ∧ RegsBut [Reg.CFG_EVENT, Reg.CFG_STAT] s t) := by
  have hrun : opsCommitDone true s = (commitEnd (opsWritten img toB s)).ev F.CFG_EVENT.COMMIT_DONE := by
    unfold opsCommitDone
    simp only [hcommit]
    exact (if_pos hawake).trans (if_pos trivial)
  obtain ⟨hholds, hother, hsel, hconf, hreg⟩ := opsWritten_spec hroom toB s _ rfl
  obtain ⟨hconf', hnv, hidle, hregs, -⟩ := commitEnd_spec (s := opsWritten img toB s) rfl
  have hev : OnlyRegs [Reg.CFG_EVENT] (commitEnd (opsWritten img toB s)) ((commitEnd (opsWritten img toB s)).ev F.CFG_EVENT.COMMIT_DONE) :=
    onlyRegs_of_changesOnly (changesOnly_ev (by simp) _)
  have hdone := State.flag_ev_self (a := Reg.CFG_EVENT) (hi := 2) (lo := 2) (by decide) (by decide) (commitEnd (opsWritten img toB s))
  have hnv' := hev.nv_eq.trans hnv
  refine ⟨_, congrArg Host.Outcome.next hrun, hholds.congr (congrArg NonVol.mram hnv'), (opsBankOf_of_nv_eq hnv' _).trans hother,
    by rw [hev.conf_eq, hconf', hconf], hdone, (flag_of_reg_eq (hev.1 _ (by decide))).trans hidle, ?_, fun a ha => ?_⟩
  · rw [mramWord, hnv', ← mramWord, hsel]
  · simp only [List.mem_cons, List.not_mem_nil, or_false, not_or] at ha
    obtain ⟨hevent, hstat⟩ := ha
    exact (hev.1 a (by simpa using hevent)).trans ((hregs a (by simpa using hstat)).trans (hreg a))

theorem opsDone_disagreed {s : State} {img : List Byte} {toB : Bool} (hawake : s.awake = true) (hcommit : s.conf.commit = some (.ops img toB)) :
    Completes (.opsCommitDone false) s (fun t => t.nv = s.nv ∧ t.conf = { s.conf with commit := none } ∧ t.flag F.CFG_EVENT.REFUSED = true) := by
  have hrun : opsCommitDone false s = cfgRefuse (commitEnd s) := by
    unfold opsCommitDone
    simp only [hcommit]
    exact (if_pos hawake).trans (if_neg (by simp))
  obtain ⟨hconf, hnv, -, -, -⟩ := commitEnd_spec (s := s) rfl
  have hev : OnlyRegs [Reg.CFG_EVENT] (commitEnd s) (cfgRefuse (commitEnd s)) := onlyRegs_of_changesOnly (changesOnly_ev (by simp) _)
  have hrefused := State.flag_ev_self (a := Reg.CFG_EVENT) (hi := 3) (lo := 3) (by decide) (by decide) (commitEnd s)
  exact ⟨_, congrArg Host.Outcome.next hrun, hev.nv_eq.trans hnv, hev.conf_eq.trans hconf, hrefused⟩

/-! ### Changes of the life-cycle state (R124 to R127) -/

theorem exec_cfgLcCmd {s : State} {core : Sender} {v : Word} (h : Guarded s core Reg.CFG_LC_CMD v) :
    exec (.cfgLcCmd core (~~~ v)) s = .next (lcCmdOp v (dropGuard 14 s)) :=
  congrArg Host.Outcome.next (cplWrite_of_armed lcCmdOp h.1 (by decide) h.2)

theorem lcOfCode_code (dst : LifeCycle) : lcOfCode dst.code = dst := by cases dst <;> rfl

theorem lcCmdOp_eq {s : State} {v : Word} {dst : LifeCycle} (hdst : getF F.CFG_LC_CMD.TARGET.bits v = dst.code) : lcCmdOp v s =
    if s.mode = .commissioning ∧ lcAllowed s.nv.lc.state dst = true ∧ cfgBusy s = false then
      lcStart dst (bitOf v 2 || dst == .retired) (keepVal Reg.CFG_LC_CMD v s)
    else cfgRefuse (keepVal Reg.CFG_LC_CMD v s) := by
  rw [lcCmdOp, hdst, lcOfCode_code]

/-- A change begun, of any state. -/
theorem lcStart_spec (dst : LifeCycle) (img : Bool) (s t : State) (ht : t = lcStart dst img s) :
    t.nv.lc = { s.nv.lc with wipe := some ⟨dst, img, 0x2000⟩ } ∧ t.conf.wiping = true ∧ t.conf.wipeFrom = s.tb.tick ∧ ∀ a, t.reg a = s.reg a := by
  subst ht
  exact ⟨rfl, rfl, rfl, fun _ => rfl⟩

theorem lcCmd_clause {s : State} {core : Sender} {v : Word} {dst : LifeCycle} (hguard : Guarded s core Reg.CFG_LC_CMD v)
    (hdst : getF F.CFG_LC_CMD.TARGET.bits v = dst.code) :
    (s.mode = .commissioning → lcAllowed s.nv.lc.state dst = true → cfgBusy s = false →
      Completes (.cfgLcCmd core (~~~ v)) s (fun t => t.nv.lc.wipe = some ⟨dst, v.getLsbD 2 || decide (dst = .retired), 0x2000⟩ ∧
        t.conf.wiping = true ∧ t.conf.wipeFrom = s.tb.tick ∧ t.nv.lc.state = s.nv.lc.state ∧ RegsBut [Reg.CFG_LC_CMD] s t)) ∧
    (s.mode ≠ .commissioning ∨ lcAllowed s.nv.lc.state dst = false ∨ cfgBusy s = true →
      Completes (.cfgLcCmd core (~~~ v)) s (fun t => t.flag F.CFG_EVENT.REFUSED = true ∧
        OnlyRegs [Reg.CFG_LC_CMD, Reg.CFG_EVENT] s t)) := by
  have hexec := exec_cfgLcCmd hguard
  have honly := onlyRegs_keepVal_dropGuard Reg.CFG_LC_CMD 14 v s
  have hrun := lcCmdOp_eq (s := dropGuard 14 s) hdst
  refine ⟨fun hmode hallowed hfree => ?_, fun hclosed => ?_⟩
  · obtain ⟨hlc, hwiping, hfrom, hreg⟩ := lcStart_spec dst (bitOf v 2 || dst == .retired) (keepVal Reg.CFG_LC_CMD v (dropGuard 14 s)) _
      (hrun.trans (if_pos ⟨hmode, hallowed, hfree⟩))
    refine ⟨_, hexec, (congrArg LcRecord.wipe hlc).trans ?_, hwiping, hfrom.trans (congrArg TimeBase.tick honly.tb_eq), ?_,
      fun a ha => (hreg a).trans (honly.1 a ha)⟩
    · rfl
    · rw [hlc, honly.nv_eq]
  · refine ⟨_, hexec, cfgRefused_clause honly (hrun.trans (if_neg ?_))⟩
    rintro ⟨hmode, hallowed, hfree⟩
    obtain h | h | h := hclosed
    · exact h hmode
    · exact Bool.false_ne_true (h.symm.trans hallowed)
    · exact Bool.false_ne_true (hfree.symm.trans h)

/-- The state with the rest of a wipe done and the life-cycle record of its target. -/
def wiped (w : WipeMarker) (s : State) : State :=
  { mramZero w.progress (wipeEnd w.img - w.progress) s with
    nv := { (mramZero w.progress (wipeEnd w.img - w.progress) s).nv with lc := lcDone w.target s.nv.lc } }

theorem wipeDone_of_wiping {s : State} {w : WipeMarker} (hwipe : s.nv.lc.wipe = some w) (hwiping : s.conf.wiping = true) :
    wipeDone s = resetNow causeLc (wiped w s) := by
  unfold wipeDone
  simp only [hwipe]
  exact if_pos hwiping

theorem lcDone_spec (target : LifeCycle) (r : LcRecord) : (lcDone target r).state = target ∧ (lcDone target r).wipe = none := by
  unfold lcDone
  split <;> exact ⟨rfl, rfl⟩

/-- A reset in force is one of whatever state has the parts it keeps. -/
theorem ResetInForce.of_parts {cause : Nat} {s u t : State} (h : ResetInForce cause u t) (hpw : u.pw = s.pw) (hconf : u.conf = s.conf)
    (hfio : u.fio = s.fio) (hpending : u.pending = s.pending) (htb : u.tb = s.tb) : ResetInForce cause s t := by
  rw [ResetInForce, hpw, hconf, hfio, hpending, htb] at h
  exact h

theorem wipeDone_clause {s : State} {w : WipeMarker} (hwipe : s.nv.lc.wipe = some w) (hwiping : s.conf.wiping = true) :
    Completes .lifeCycleWipeDone s (fun t =>
    ResetInForce 16 s t ∧ t.nv.lc.state = w.target ∧ t.nv.lc.wipe = none ∧
    (∀ a, w.progress ≤ a → a < (if w.img then 0x2000000 else 0x1000000) → smGet 0 t.nv.mram a = 0) ∧
    (∀ a, a < w.progress ∨ (if w.img then 0x2000000 else 0x1000000) ≤ a → w.progress ≤ (if w.img then 0x2000000 else 0x1000000) →
      smGet 0 t.nv.mram a = smGet 0 s.nv.mram a)) := by
  have hmram := fun a => smGet_mramZero w.progress (wipeEnd w.img - w.progress) a s
  obtain ⟨hstate, hnone⟩ := lcDone_spec w.target s.nv.lc
  rw [wipeEnd] at hmram
  refine ⟨_, congrArg Host.Outcome.next (wipeDone_of_wiping hwipe hwiping),
    (resetInForce_resetNow causeLc (wiped w s)).of_parts rfl rfl rfl rfl rfl, hstate, hnone, fun a hlo hhi => ?_, fun a hout hle => ?_⟩
  · exact (hmram a).trans (if_pos (by omega))
  · exact (hmram a).trans (if_neg (by omega))

/-! ### The loader (R110, R124) -/

theorem loaderImage_clause {s : State} {usb : Bool} (img : List Byte) (hopen : loaderOpen s = true) (hway : usb = true ∨ s.nv.lc.fenced = false) :
    Completes (.loaderImageReceive usb img) s (fun t => ResetInForce 8 s t ∧
      (∀ i, i < img.length → i < 0x1000000 → smGet 0 t.nv.mram (0x1000000 + i) = img.getD i 0) ∧
      (∀ a, a < 0x1000000 → smGet 0 t.nv.mram a = smGet 0 s.nv.mram a) ∧ t.nv.lc = s.nv.lc) := by
  have hrun : loaderImage usb img s = resetNow causeSw (mramPut imgBase (img.take imgSize) s) := by
    refine if_pos ?_
    rw [hopen, Bool.true_and, Bool.or_eq_true, Bool.not_eq_true']
    exact hway
  have hholds := mramHolds_mramPut imgBase (img.take imgSize) s
  refine ⟨_, congrArg Host.Outcome.next hrun,
    (resetInForce_resetNow causeSw (mramPut imgBase (img.take imgSize) s)).of_parts rfl rfl rfl rfl rfl, fun i hi hroom => ?_, fun a ha => ?_, rfl⟩
  · refine (hholds i ?_).trans ?_
    · rw [List.length_take, imgSize]
      omega
    · simp [List.getD_eq_getElem?_getD, imgSize, hroom]
  · exact smGet_mramPut_ne s (.inl (by rw [imgBase]; exact ha))

theorem loaderChange_clause {s : State} (retire : Bool) (id : Fin 16384) (key : List Byte) (hopen : loaderOpen s = true)
    (hblank : s.nv.lc.state = .blank) (hfree : cfgBusy s = false) :
    Completes (.loaderLifeCycleChange retire id key) s (fun t => t.conf.wiping = true ∧
      t.nv.lc.wipe = some ⟨if retire then .retired else .provisioned, true, 0x2000⟩ ∧
      (retire = false → t.nv.lc.fabricId = id.val ∧ t.nv.lc.actId = id.val ∧ t.nv.lc.pubKey = key ∧ t.nv.lc.epoch = 0) ∧
      RegsBut [] s t) := by
  have hrun : loaderChange retire id.val key s = if retire then lcStart .retired true s
      else lcStart .provisioned true { s with nv := { s.nv with lc := { s.nv.lc with
        fabricId := id.val, actId := id.val, pubKey := key, epoch := 0 } } } := if_pos (by rw [hopen, hblank, hfree]; rfl)
  cases retire with
  | true => exact ⟨_, congrArg Host.Outcome.next hrun, rfl, rfl, fun h => Bool.noConfusion h, fun _ _ => rfl⟩
  | false => exact ⟨_, congrArg Host.Outcome.next hrun, rfl, rfl, fun _ => ⟨rfl, rfl, rfl, rfl⟩, fun _ _ => rfl⟩

/-- Settles O26: a commit writes one bank and one selector, which lie apart from the other bank; a change of state writes its marker, and its
wipe a range and the record of its target; a reset leaves the non-volatile memory. -/
theorem operationalSetsAndLifeCycle : Obligations.OperationalSetsAndLifeCycle :=
  ⟨fun _ _ _ hguard => opsCommit_clause hguard,
    fun _ _ _ hawake hcommit hroom => ⟨opsDone_agreed hawake hcommit hroom, opsDone_disagreed hawake hcommit⟩,
    fun _ _ _ _ hguard hdst => lcCmd_clause hguard hdst, fun _ _ hwipe hwiping => wipeDone_clause hwipe hwiping,
    fun _ _ img hopen hway => loaderImage_clause img hopen hway,
    fun _ retire id key hopen hblank hfree => loaderChange_clause retire id key hopen hblank hfree⟩

end Sys2Proof.Machine
end

section
/-!
PROOF. The frames a device sends of itself each second and to its group (18 R556, R558), the end of settling (R548), and the holdover counter
with the choice of grandmaster at the PTP second (19 R581, R587).
-/

namespace Sys2Proof.Machine

open Sys2Proof

/-! ### Frames on every port that is up -/

/-- The state with the frames `l` sent and q the last SEQ used. -/
def sentFrames (l : List TxFrame) (q : Nat) (s : State) : State := { s with tx := s.tx ++ l, fab := { s.fab with seq := q } }

theorem sentFrames_nil (s : State) : sentFrames [] s.fab.seq s = s := by rw [sentFrames, List.append_nil]

theorem nextSeq_eq_sentFrames (s : State) : nextSeq s = sentFrames [] ((s.fab.seq + 1) % 2 ^ 32) s := by
  rw [sentFrames, List.append_nil, nextSeq]

/-- The step of a fold over ports sends one frame on a port that is up, and none on another. -/
def SendsEach (P : TxFrame → Prop) (g : State → Nat → State) (s : State) (p : Nat) : Prop :=
  ∀ l q, (spineUp s p = true → ∃ f q', g (sentFrames l q s) p = sentFrames (l ++ [f]) q' s ∧ f.port = p ∧ P f) ∧
    (spineUp s p = false → g (sentFrames l q s) p = sentFrames l q s)

theorem foldl_sentFrames {P : TxFrame → Prop} {g : State → Nat → State} {s : State} (ps : List Nat) (hg : ∀ p, p ∈ ps → SendsEach P g s p)
    (l : List TxFrame) (q : Nat) :
    ∃ m q', ps.foldl g (sentFrames l q s) = sentFrames (l ++ m) q' s ∧ (∀ f, f ∈ m → P f) ∧ m.map (fun f => f.port) = ps.filter (spineUp s) := by
  induction ps generalizing l q with
  | nil => exact ⟨[], q, by rw [List.append_nil]; rfl, by simp, rfl⟩
  | cons p ps ih =>
    have hrest := ih fun r hr => hg r (List.mem_cons_of_mem _ hr)
    obtain ⟨hup, hdown⟩ := hg p List.mem_cons_self l q
    rw [List.foldl_cons]
    cases hp : spineUp s p with
    | true =>
      obtain ⟨f, q1, hstep, hport, hf⟩ := hup hp
      obtain ⟨m, q2, hfold, hall, hmap⟩ := hrest (l ++ [f]) q1
      refine ⟨f :: m, q2, ?_, ?_, ?_⟩
      · rw [hstep, hfold, List.append_assoc, List.singleton_append]
      · simpa using ⟨hf, hall⟩
      · rw [List.map_cons, hport, hmap, List.filter_cons_of_pos hp]
    | false =>
      obtain ⟨m, q2, hfold, hall, hmap⟩ := hrest l q
      refine ⟨m, q2, ?_, hall, ?_⟩
      · rw [hdown hp, hfold]
      · rw [hmap, List.filter_cons_of_neg (by simp [hp])]

/-- What a device's own frame to its group says. -/
def GroupFrame (s : State) (hops : Nat) (b : FrameBody) (f : TxFrame) : Prop :=
  f.hops = hops ∧ f.bcast = true ∧ f.src = s.myId ∧ f.body = b

theorem sendsEach_emit {s : State} {p : Nat} (dst hops : Nat) (b : FrameBody) (hplain : s.flag (F.FAB_SP_MSEC.EN p) = false) :
    SendsEach (GroupFrame s hops b) (fun t p => emit (ownFrame t p dst hops true b) t) s p := by
  refine fun l q => ⟨fun hup => ?_, fun hdown => ?_⟩
  · refine ⟨onWire (sentFrames l q s) (ownFrame (sentFrames l q s) p dst hops true b), q, ?_, rfl, rfl, rfl, rfl, rfl⟩
    refine (emit_of_plain (s := sentFrames l q s) (f := ownFrame (sentFrames l q s) p dst hops true b) hup hplain).trans ?_
    rw [sentFrames, sentFrames, List.append_assoc]
  · exact if_neg (Bool.not_eq_true _ ▸ hdown)

theorem sendsEach_announceOn {s : State} {p : Nat} (hawake : s.awake = true) (hfree : s.nv.lc.fenced = false)
    (hplain : s.flag (F.FAB_SP_MSEC.EN p) = false) :
    SendsEach (GroupFrame s 1 (.announce (announcement s))) (fun t p => announceOn p t) s p := by
  refine fun l q => ⟨fun hup => ?_, fun hdown => ?_⟩
  · have hann : announcement (sentFrames l q s) = announcement s := rfl
    obtain ⟨f, hsend, hport, hsrc, hhops, hbcast, hbody⟩ := sendPort_of_up (s := sentFrames l q s) (p := p) (s.myId / 256 * 256) true
      (maySend_of_free (.announce (announcement (sentFrames l q s))) hawake hfree) hup hplain
    refine ⟨f, (nextSeq (sentFrames l q s)).fab.seq, ?_, hport, hhops, hbcast, hsrc, hbody.trans (by rw [hann])⟩
    refine ((if_pos hup).trans hsend).trans ?_
    rw [sentFrames, sentFrames, List.append_assoc]
    rfl
  · exact if_neg (Bool.not_eq_true _ ▸ hdown)

/-- Every port that is up sent one frame of a kind, and nothing else changed. -/
def SentOnEach (P : TxFrame → Prop) (s t : State) : Prop :=
  ∃ l q, t = sentFrames l q s ∧ (∀ f, f ∈ l → P f) ∧ l.map (fun f => f.port) = (List.range 4).filter (spineUp s)

theorem sentOnEach_announceAll {s : State} (hawake : s.awake = true) (hfree : s.nv.lc.fenced = false)
    (hplain : ∀ p, p < 4 → s.flag (F.FAB_SP_MSEC.EN p) = false) :
    SentOnEach (GroupFrame s 1 (.announce (announcement s))) s (announceAll s) := by
  obtain ⟨m, q, hfold, hall, hmap⟩ := foldl_sentFrames (List.range 4)
    (fun p hp => sendsEach_announceOn hawake hfree (hplain p (List.mem_range.mp hp))) [] s.fab.seq
  rw [sentFrames_nil, List.nil_append] at hfold
  exact ⟨m, q, hfold, hall, hmap⟩

theorem sentOnEach_sendGroup {s : State} (hops : Nat) {b : FrameBody} (hmay : maySend s b = true)
    (hplain : ∀ p, p < 4 → s.flag (F.FAB_SP_MSEC.EN p) = false) : SentOnEach (GroupFrame s hops b) s (s.sendGroup hops b) := by
  obtain ⟨m, q, hfold, hall, hmap⟩ := foldl_sentFrames (List.range 4)
    (fun p hp => sendsEach_emit (s.myId / 256 * 256) hops b (hplain p (List.mem_range.mp hp))) [] ((s.fab.seq + 1) % 2 ^ 32)
  rw [← nextSeq_eq_sentFrames, List.nil_append] at hfold
  exact ⟨m, q, (if_pos hmay).trans hfold, hall, hmap⟩

theorem heartbeat_clause {s : State} (hawake : s.awake = true) (hfree : s.nv.lc.fenced = false)
    (hplain : ∀ p, p < 4 → s.flag (F.FAB_SP_MSEC.EN p) = false) :
    Completes .heartbeatSend s (fun t => (∃ l, t.tx = s.tx ++ l ∧ (∀ f, f ∈ l → f.hops = 8 ∧ f.bcast = true ∧ f.src = s.myId ∧
        f.body = .heartbeat ⟨s.mode.code, annFlags s⟩) ∧ l.map (fun f => f.port) = (List.range 4).filter (spineUp s)) ∧
      t = { s with tx := t.tx, fab := t.fab }) := by
  obtain ⟨l, q, ht, hall, hmap⟩ := sentOnEach_sendGroup 8 (maySend_of_free (.heartbeat ⟨s.mode.code, annFlags s⟩) hawake hfree) hplain
  refine ⟨heartbeatSend s, rfl, ?_⟩
  rw [heartbeatSend, ht]
  exact ⟨⟨l, rfl, hall, hmap⟩, rfl⟩

theorem OnlyRegs.trans {l : List Nat} {s t u : State} (hst : OnlyRegs l s t) (htu : OnlyRegs l t u) : OnlyRegs l s u := by
  obtain ⟨hregs, hpend, hframe⟩ := hst
  obtain ⟨hregs', hpend', hframe'⟩ := htu
  exact ⟨fun a ha => (hregs' a ha).trans (hregs a ha), fun b => (hpend' b).trans (hpend b), by rw [hframe', hframe]⟩

/-! ### The grandmaster of a device that hears none -/

/-- The better of the best port so far and port p. -/
def betterPort (s : State) (best : Option (Nat × PtpVector)) (p : Nat) : Option (Nat × PtpVector) :=
  match (ptpPort s p).ann with
  | none => best
  | some v =>
    match best with
    | none => some (p, v)
    | some (q, w) => if vecBetter v w then some (p, v) else some (q, w)

theorem bestPort_eq_foldl (s : State) : bestPort s = (List.range 4).foldl (betterPort s) none := rfl

theorem betterPort_eq_none_iff (s : State) (best : Option (Nat × PtpVector)) (p : Nat) :
    betterPort s best p = none ↔ best = none ∧ (ptpPort s p).ann = none := by
  unfold betterPort
  cases hann : (ptpPort s p).ann with
  | none => simp
  | some v =>
    cases best with
    | none => simp
    | some b => by_cases hv : vecBetter v b.2 = true <;> simp [hv]

theorem foldl_betterPort_eq_none_iff (s : State) (ps : List Nat) (best : Option (Nat × PtpVector)) :
    ps.foldl (betterPort s) best = none ↔ best = none ∧ ∀ p, p ∈ ps → (ptpPort s p).ann = none := by
  induction ps generalizing best with
  | nil => simp
  | cons p ps ih => rw [List.foldl_cons, ih, betterPort_eq_none_iff, List.forall_mem_cons, and_assoc]

theorem bestPort_eq_none_iff (s : State) : bestPort s = none ↔ ∀ p, p < 4 → (ptpPort s p).ann = none := by
  rw [bestPort_eq_foldl, foldl_betterPort_eq_none_iff]
  simp

theorem ownVector_isSome (s : State) : (ownVector s).isSome = s.flag F.TIM_CFG.GM_CAP := by
  rw [ownVector]
  cases s.flag F.TIM_CFG.GM_CAP <;> rfl

theorem bmca_of_alone {s : State} (hbest : bestPort s = none) :
    bmca s = if s.flag F.TIM_CFG.GM_CAP = true then setSyncOp (s.put F.TIM_STAT.GM 1) else s.put F.TIM_STAT.GM 0 := by
  rw [← ownVector_isSome]
  unfold bmca
  cases ownVector s with
  | none =>
    simp only [hbest]
    exact (if_neg (by simp)).symm
  | some o =>
    simp only [hbest]
    exact (if_pos rfl).symm

/-- What the selection of a device that hears no grandmaster leaves. -/
def AloneSelected (s t : State) : Prop :=
  t.flag F.TIM_STAT.GM = s.flag F.TIM_CFG.GM_CAP ∧
    (s.flag F.TIM_CFG.GM_CAP = true → t.flag F.TIM_STAT.SYNC = true ∧ t.flag F.TIM_STAT.HOLD = false) ∧
    OnlyRegs [Reg.TIM_STAT, Reg.TIM_EVENT] s t

theorem aloneSelected_bmca {s : State} (hbest : bestPort s = none) : AloneSelected s (bmca s) := by
  rw [bmca_of_alone hbest, AloneSelected]
  have hput : ∀ v, ChangesOnly (· ∈ [Reg.TIM_STAT, Reg.TIM_EVENT]) s (s.put F.TIM_STAT.GM v) := fun v => changesOnly_put (by simp) s v
  cases hcap : s.flag F.TIM_CFG.GM_CAP with
  | true =>
    obtain ⟨hsync, hhold, -, honly⟩ := setSyncOp_spec (s.put F.TIM_STAT.GM 1)
    rw [if_pos rfl]
    exact ⟨(gm_setSyncOp _).trans (State.flag_ev s F.TIM_STAT.GM (by decide) (by decide)), fun _ => ⟨hsync, hhold⟩,
      (onlyRegs_of_changesOnly (hput 1)).trans honly⟩
  | false =>
    rw [if_neg Bool.false_ne_true]
    exact ⟨State.flag_put_zero s F.TIM_STAT.GM (by decide) (by decide), fun h => absurd h Bool.false_ne_true, onlyRegs_of_changesOnly (hput 0)⟩

theorem selectAlone_of_alone {s : State} (hawake : s.awake = true) (hfw : s.flag F.TIM_CFG.FW = false) (hbest : bestPort s = none) :
    selectAlone s = bmca s := by
  rw [selectAlone, hawake, fwPtp, hfw, hbest]
  rfl

theorem selectAlone_of_fw {s : State} (hfw : s.flag F.TIM_CFG.FW = true) : selectAlone s = s := by
  rw [selectAlone, fwPtp, hfw]
  exact if_neg (by simp)

theorem selectAlone_of_heard {s : State} (hbest : bestPort s ≠ none) : selectAlone s = s := by
  have hsome : (bestPort s).isNone = false := Option.isNone_eq_false_iff.mpr (Option.isSome_iff_ne_none.mpr hbest)
  rw [selectAlone, hsome]
  exact if_neg (by simp)

/-- What the choice at the PTP second leaves: it is the device's own only where it hears no grandmaster and PTP is the hardware's. -/
def SecondSelected (s t : State) : Prop :=
  (s.flag F.TIM_CFG.FW = false → (∀ p, p < 4 → (ptpPort s p).ann = none) → t.flag F.TIM_STAT.GM = s.flag F.TIM_CFG.GM_CAP ∧
    (s.flag F.TIM_CFG.GM_CAP = true → t.flag F.TIM_STAT.SYNC = true ∧ t.flag F.TIM_STAT.HOLD = false)) ∧
  ((s.flag F.TIM_CFG.FW = true ∨ ∃ p, p < 4 ∧ (ptpPort s p).ann ≠ none) → t.bus = s.bus) ∧
  OnlyRegs [Reg.TIM_STAT, Reg.TIM_EVENT] s t

theorem secondSelected_selectAlone {s : State} (hawake : s.awake = true) : SecondSelected s (selectAlone s) := by
  have hself : OnlyRegs [Reg.TIM_STAT, Reg.TIM_EVENT] s s := ⟨fun _ _ => rfl, fun _ => rfl, rfl⟩
  cases hfw : s.flag F.TIM_CFG.FW with
  | true =>
    rw [selectAlone_of_fw hfw]
    exact ⟨fun h => absurd (hfw.symm.trans h) (by decide), fun _ => rfl, hself⟩
  | false =>
    by_cases hbest : bestPort s = none
    · obtain ⟨hgm, hsync, honly⟩ := aloneSelected_bmca hbest
      have halone := (bestPort_eq_none_iff s).mp hbest
      rw [selectAlone_of_alone hawake hfw hbest]
      refine ⟨fun _ _ => ⟨hgm, hsync⟩, fun h => ?_, honly⟩
      obtain hyes | ⟨p, hp, hann⟩ := h
      · exact absurd (hfw.symm.trans hyes) (by decide)
      · exact absurd (halone p hp) hann
    · rw [selectAlone_of_heard hbest]
      exact ⟨fun _ halone => absurd ((bestPort_eq_none_iff s).mpr halone) hbest, fun _ => rfl, hself⟩

/-! ### The PTP second -/

/-- The state as the announcements and the holdover counter leave it at a PTP second. -/
def secondNoted (l : List TxFrame) (q : Nat) (s : State) : State := holdoverWrite (sentFrames l q s)

theorem secondNoted_selected {l : List TxFrame} {q : Nat} {s t : State} (h : SecondSelected (secondNoted l q s) t) :
    SecondSelected (secondNoted l q s) t ∧ t.tx = s.tx ++ l ∧ t.tb = { s.tb with holdSec := s.tb.sec, holdCyc := 0 } ∧
      t = { s with bus := t.bus, tb := t.tb, tx := t.tx, fab := t.fab } := by
  obtain ⟨-, -, -, -, hframe⟩ := id h
  refine ⟨h, ?_, ?_, ?_⟩
  · rw [hframe]
    rfl
  · rw [hframe]
    rfl
  · rw [hframe]
    rfl

theorem ptpSecond_clause {s : State} (hawake : s.awake = true) (hfree : s.nv.lc.fenced = false)
    (hplain : ∀ p, p < 4 → s.flag (F.FAB_SP_MSEC.EN p) = false) :
    Completes .ptpSecond s (fun t => t.tb.holdSec = s.tb.sec ∧ t.tb.holdCyc = 0 ∧
      (∃ l, t.tx = s.tx ++ l ∧ (∀ f, f ∈ l → f.hops = 1 ∧ f.bcast = true ∧ f.src = s.myId ∧ f.body = .announce (announcement s)) ∧
        l.map (fun f => f.port) = (List.range 4).filter (spineUp s)) ∧
      (s.flag F.TIM_CFG.FW = false → (∀ p, p < 4 → (ptpPort s p).ann = none) → t.flag F.TIM_STAT.GM = s.flag F.TIM_CFG.GM_CAP ∧
        (s.flag F.TIM_CFG.GM_CAP = true → t.flag F.TIM_STAT.SYNC = true ∧ t.flag F.TIM_STAT.HOLD = false)) ∧
      ((s.flag F.TIM_CFG.FW = true ∨ ∃ p, p < 4 ∧ (ptpPort s p).ann ≠ none) → t.bus = s.bus) ∧
      RegsBut [Reg.TIM_STAT, Reg.TIM_EVENT] s t ∧ t = { s with bus := t.bus, tb := t.tb, tx := t.tx, fab := t.fab }) := by
  obtain ⟨l, q, hsent, hall, hmap⟩ := sentOnEach_announceAll hawake hfree hplain
  have hrun : ptpSecond s = selectAlone (secondNoted l q s) := by
    rw [ptpSecond, if_pos hawake, hfree, if_neg Bool.false_ne_true, hsent]
    rfl
  obtain ⟨⟨halone, hother, hregs, -⟩, htx, htb, hframe⟩ :=
    secondNoted_selected (secondSelected_selectAlone (s := secondNoted l q s) hawake)
  refine ⟨_, congrArg Host.Outcome.next hrun, ?_, ?_, ⟨l, htx, hall, hmap⟩, halone, hother, hregs, hframe⟩
  · rw [htb]
  · rw [htb]

theorem settlingEnd_clause {s : State} {t0 : Nat} (hsettle : s.fab.settle = some t0) (hdue : t0 + 137500000 ≤ s.tb.tick) :
    Completes .settlingEnd s (fun t => t = { s with fab := { s.fab with settle := none } }) := by
  have hrun : settlingEnd s = { s with fab := { s.fab with settle := none } } := by
    unfold settlingEnd
    simp only [hsettle]
    exact if_pos hdue
  exact ⟨_, congrArg Host.Outcome.next hrun, rfl⟩

end Sys2Proof.Machine
end

section
/-!
SUPPORT. What an evaluation of the stop scheduler and the sending of frames leave of a closure (18 R572 to R574): the fabric engine's state but for
its SEQ, and the event CLOSED.
-/

namespace Sys2Proof.Machine

open Sys2Proof

/-- The fabric engine stands as in `x` but for its SEQ, and the event CLOSED is set. -/
def ClosedShown (x : Fab) (s : State) : Prop := s.fab = { x with seq := s.fab.seq } ∧ s.flag F.FAB_NET_EVENT.CLOSED = true

namespace ClosedShown

variable {x : Fab} {s t : State}

theorem of_parts (h : ClosedShown x s) (hfab : t.fab = { s.fab with seq := t.fab.seq })
    (hreg : t.reg Reg.FAB_NET_EVENT = s.reg Reg.FAB_NET_EVENT) : ClosedShown x t := by
  obtain ⟨hold, hset⟩ := h
  exact ⟨by rw [hfab, hold], (flag_of_reg_eq hreg).trans hset⟩

theorem setReg {a : Nat} {w : Word} (ha : a ≠ Reg.FAB_NET_EVENT) (h : ClosedShown x s) : ClosedShown x (s.setReg a w) :=
  h.of_parts rfl (State.reg_setReg_ne _ _ _ _ ha.symm)

theorem ev {f : FRef} (hf : f.addr ≠ Reg.FAB_NET_EVENT) (h : ClosedShown x s) : ClosedShown x (s.ev f) := h.setReg hf

theorem ite {c : Prop} [Decidable c] (hs : ClosedShown x s) (ht : ClosedShown x t) : ClosedShown x (if c then s else t) := by
  split
  · exact hs
  · exact ht

theorem foldl {α : Type} {f : State → α → State} {l : List α} (hf : ∀ t a, ClosedShown x t → ClosedShown x (f t a)) (h : ClosedShown x s) :
    ClosedShown x (l.foldl f s) := by
  induction l generalizing s with
  | nil => exact h
  | cons a l ih => exact ih (hf s a h)

theorem forL {α : Type} {l : List α} {f : α → State → State} (h : ClosedShown x s) (hf : ∀ a t, ClosedShown x t → ClosedShown x (f a t)) :
    ClosedShown x (s.forL l f) := foldl (fun t a => hf a t) h



end ClosedShown

/-! ### Sending -/

theorem netEvent_nextPn {p : Nat} (hp : p < 4) (s : State) : (nextPn p s).reg Reg.FAB_NET_EVENT = s.reg Reg.FAB_NET_EVENT := by
  have hpn : ∀ w, (s.setReg (Reg.FAB_SP_TXPN p) w).reg Reg.FAB_NET_EVENT = s.reg Reg.FAB_NET_EVENT := fun w =>
    State.reg_setReg_ne _ _ _ _ (by have : Reg.FAB_SP_TXPN p = 0x40090080 + 0x4 * p := rfl
                                    have : Reg.FAB_NET_EVENT = 0x40090810 := rfl
                                    omega)
  have hev : ∀ (f : FRef) (t : State), f.addr = Reg.FAB_LINK_EVENT → (t.ev f).reg Reg.FAB_NET_EVENT = t.reg Reg.FAB_NET_EVENT := fun f t hf =>
    State.reg_ev_ne t f _ (by rw [hf]; decide)
  rw [nextPn]
  split_ifs
  · rw [hev _ _ rfl, hev _ _ rfl, hpn]
  · rw [hev _ _ rfl, hpn]
  · rw [hev _ _ rfl, hpn]
  · exact hpn _

theorem netEvent_emit {f : TxFrame} (hf : f.port < 4) (s : State) : (emit f s).reg Reg.FAB_NET_EVENT = s.reg Reg.FAB_NET_EVENT := by
  rw [emit]
  split_ifs
  · rfl
  · exact netEvent_nextPn hf _
  · rfl
  · rfl

theorem netEvent_sendPort {p : Nat} (hp : p < 4) (s : State) (dst : Nat) (bcast : Bool) (b : FrameBody) :
    (s.sendPort p dst bcast b).reg Reg.FAB_NET_EVENT = s.reg Reg.FAB_NET_EVENT := by
  rw [State.sendPort]
  split
  · exact netEvent_emit (f := ownFrame (nextSeq s) p dst 1 bcast b) hp (nextSeq s)
  · rfl

theorem netEvent_announceAll (s : State) : (announceAll s).reg Reg.FAB_NET_EVENT = s.reg Reg.FAB_NET_EVENT := by
  refine State.forN_rel (R := fun s t => t.reg Reg.FAB_NET_EVENT = s.reg Reg.FAB_NET_EVENT) (fun _ => rfl) (fun _ _ _ hst htu => htu.trans hst)
    (fun p hp t => ?_) s
  rw [announceOn]
  split
  · exact netEvent_sendPort hp ..
  · rfl

theorem sendOnly_announceAll (s : State) : SendOnly s (announceAll s) := by
  refine State.forN_rel SendOnly.refl (fun _ _ _ => SendOnly.trans) (fun p hp t => ?_) s
  rw [announceOn]
  split
  · exact sendOnly_sendPort hp ..
  · exact .refl t

theorem closed_noRoute (s : State) : (noRoute s).flag F.FAB_NET_EVENT.CLOSED = s.flag F.FAB_NET_EVENT.CLOSED := by
  rw [noRoute]
  exact (State.flag_ev_disjoint (by decide) (by decide) (by decide) _).trans (State.flag_put_other (by decide) s _ _ _)

theorem closed_send (s : State) (dst : Nat) (b : FrameBody) :
    (s.send dst b).flag F.FAB_NET_EVENT.CLOSED = s.flag F.FAB_NET_EVENT.CLOSED := by
  rw [State.send]
  split
  · dsimp only
    split
    · exact closed_noRoute _
    next p hp => exact flag_of_reg_eq (netEvent_emit (f := ownFrame (nextSeq s) p dst 8 false b) (routeOf_lt hp) (nextSeq s))
  · rfl

namespace ClosedShown

variable {x : Fab} {s : State}

theorem send {dst : Nat} {b : FrameBody} (h : ClosedShown x s) : ClosedShown x (s.send dst b) := by
  obtain ⟨hold, hset⟩ := h
  obtain ⟨-, -, hfab, -⟩ := sendOnly_send s dst b
  exact ⟨by rw [hfab, hold], (closed_send s dst b).trans hset⟩

theorem announceAll (h : ClosedShown x s) : ClosedShown x (announceAll s) :=
  h.of_parts (sendOnly_announceAll s).2.2.1 (netEvent_announceAll s)

/-! ### Evaluations -/

theorem modBss {c : Nat} {f : BssCar → BssCar} (h : ClosedShown x s) : ClosedShown x (modBss c f s) := h

theorem stopAxis {n cause : Nat} (h : ClosedShown x s) : ClosedShown x (stopAxis n cause s) := h

theorem keepRes {p : ResEntry → Bool} (h : ClosedShown x s) : ClosedShown x (keepRes p s) := h

theorem addRes {e : ResEntry} (h : ClosedShown x s) : ClosedShown x (addRes e s) := h

theorem withBss {b : Bss} (h : ClosedShown x s) : ClosedShown x { s with bss := b } := h

theorem setTst {i : Nat} {w : Word} (h : ClosedShown x s) : ClosedShown x (setTst i w s) := h

theorem putRow {r : Nat} {y : TstRow} (h : ClosedShown x s) : ClosedShown x (putRow r y s) := setTst (setTst (setTst (setTst h)))

theorem putRows {r : Nat} {l : List TstRow} (h : ClosedShown x s) : ClosedShown x (putRows r l s) := by
  induction l generalizing r s with
  | nil => exact h
  | cons y t ih => exact ih (putRow h)

theorem arrive {c : Nat} {e0 : StopEntry} (h : ClosedShown x s) : ClosedShown x (arrive c e0 s) := by
  have hne : Reg.BSS_CAR_ARRIVE c ≠ Reg.FAB_NET_EVENT := by
    have : Reg.BSS_CAR_ARRIVE c = 0x400c0108 + 0x10 * c := rfl
    have : Reg.FAB_NET_EVENT = 0x40090810 := rfl
    omega
  exact (setReg hne h.modBss).ev (by decide) |>.ev (by decide)

theorem lastResult {c out reason : Nat} {e : StopEntry} (h : ClosedShown x s) : ClosedShown x (lastResult c out reason e s) := by
  have hne : Reg.BSS_CAR_LAST c ≠ Reg.FAB_NET_EVENT := by
    have : Reg.BSS_CAR_LAST c = 0x400c0104 + 0x10 * c := rfl
    have : Reg.FAB_NET_EVENT = 0x40090810 := rfl
    omega
  exact (setReg hne h).ev (by decide)

theorem deferCar {c reason : Nat} (h : ClosedShown x s) : ClosedShown x (deferCar c reason s) := ev (by decide) h.modBss

theorem refuseCar {c reason : Nat} {e : StopEntry} (h : ClosedShown x s) : ClosedShown x (refuseCar c reason e s) :=
  ev (by decide) (lastResult h.modBss)

theorem admitCar {t : Nat} {y : Cand} (h : ClosedShown x s) : ClosedShown x (admitCar t y s) :=
  ev (by decide) (lastResult (modBss (addRes h.keepRes)))

theorem askDev {t : Nat} {y : Cand} {start : Int} {rows : List TstRow} {id : Nat} (h : ClosedShown x s) :
    ClosedShown x (askDev t y start rows s id) := send (ite h (modBss h.send))

theorem tryCand {t c : Nat} {w : Want} {others : List StopEntry} (h : ClosedShown x s) : ClosedShown x (tryCand t c w others s) := by
  refine ite h.arrive ?_
  dsimp only
  split
  · exact refuseCar h.putRows
  · exact deferCar h.putRows
  · exact ite (admitCar (withBss h.putRows)) (foldl (fun _ _ h1 => askDev h1) (addRes (withBss (withBss h.putRows))))

theorem tryWants {t c : Nat} {l : List Want} (h : ClosedShown x s) : ClosedShown x (tryWants t c l s) := by
  induction l generalizing s with
  | nil => exact h
  | cons w rest ih => exact ite (ih h.tryCand) h.tryCand

theorem evalCar {t c : Nat} (h : ClosedShown x s) : ClosedShown x (evalCar t c s) :=
  ite h (ite (stopAxis h.modBss) (tryWants h.modBss))

theorem evalCars {t : Nat} {l : List Nat} (h : ClosedShown x s) : ClosedShown x (evalCars t l s) := by
  induction l generalizing s with
  | nil => exact h
  | cons c rest ih => exact ite (withBss h.evalCar) (ih h.evalCar)

theorem concludeCand (h : ClosedShown x s) : ClosedShown x (concludeCand s) := by
  have hkept : ∀ p b, ClosedShown x (Machine.keepRes p { s with bss := b }) := fun p b => keepRes h.withBss
  have hreleased : ∀ p b (l : List Nat) (f : Nat → FrameBody),
      ClosedShown x ((Machine.keepRes p { s with bss := b }).forL l (fun d u => u.send d (f d))) :=
    fun p b l f => forL (hkept p b) fun _ _ h1 => send h1
  unfold Machine.concludeCand
  split
  · refine ite (ite (withBss (tryWants ?ended)) (evalCars (tryWants ?ended))) (evalCars ?ended)
    exact ite (admitCar (hkept _ _)) (ite (refuseCar (hreleased _ _ _ _)) (deferCar (hreleased _ _ _ _)))
  · exact h

theorem endCand {reason : Nat} (h : ClosedShown x s) : ClosedShown x (endCand reason s) := by
  unfold Machine.endCand
  split
  · exact h
  · exact concludeCand (withBss h)

theorem candDrop (h : ClosedShown x s) : ClosedShown x (candDrop s) := by
  unfold Machine.candDrop
  split
  · exact h
  · exact modBss (forL (keepRes (withBss h)) fun _ _ h1 => send h1)

/-! ### Closures -/

theorem sectionClosed {id : Nat} (h : ClosedShown x s) : ClosedShown x (sectionClosed id s) := by
  unfold Machine.sectionClosed
  dsimp only
  have hstopped : ∀ (l : List Nat) (c : Nat → State → Bool),
      ClosedShown x (s.forL l (fun n u => if c n u then Machine.stopAxis n 8 u else u)) := fun l c =>
    forL h fun n t h1 => ite (stopAxis h1) h1
  split
  · exact ite (endCand (hstopped _ _)) (hstopped _ _)
  · exact hstopped _ _

theorem clearQueues (h : ClosedShown x s) : ClosedShown x (clearQueues s) := forL h fun _ _ h1 => modBss h1

theorem modAxis {n : Nat} {f : Axis → Axis} (h : ClosedShown x s) : ClosedShown x (s.modAxis n f) := h

theorem schedDrop (h : ClosedShown x s) : ClosedShown x (schedDrop s) :=
  forL (l := List.range 8) h fun _ _ h1 => ite (modBss (modAxis h1)) h1

theorem closeOwn (s : State) : ClosedShown s.fab (closeOwn s) := by
  have hfab : (Machine.announceAll s).fab = { s.fab with seq := (Machine.announceAll s).fab.seq } := (sendOnly_announceAll s).2.2.1
  have hset : ClosedShown s.fab ((Machine.announceAll s).ev F.FAB_NET_EVENT.CLOSED) :=
    ⟨hfab, State.flag_ev_self (by decide) (by decide) _⟩
  exact schedDrop (clearQueues (candDrop (forL hset fun _ _ h1 => ite (stopAxis h1) h1)))

end ClosedShown

end Sys2Proof.Machine
end

section
/-!
PROOF. Closing and reopening the own section, and holding a dead peer's section closed (18 R572 to R575, Table 18.5).
-/

namespace Sys2Proof.Machine

open Sys2Proof

/-! ### Outcomes of the network commands -/

theorem changesOnly_netOutcome {P : Nat → Prop} (hstat : P Reg.FAB_NET_CMD_STAT) (hevent : P Reg.FAB_NET_EVENT) (cmd code : Nat) (s : State) :
    ChangesOnly P s (netOutcome cmd code s) := by
  have hput : ChangesOnly P s ((s.put F.FAB_NET_CMD_STAT.CMD cmd).put F.FAB_NET_CMD_STAT.CODE code) :=
    (changesOnly_put hstat s cmd).trans (changesOnly_put (f := F.FAB_NET_CMD_STAT.CODE) hstat _ code)
  rw [netOutcome]
  split
  · exact hput
  · exact hput.trans (changesOnly_ev (f := F.FAB_NET_EVENT.CMD_REJ) hevent _)

/-- What a network command reports. -/
def NetReported (cmd code : Nat) (t : State) : Prop := t.get F.FAB_NET_CMD_STAT.CMD = cmd ∧ t.get F.FAB_NET_CMD_STAT.CODE = code

theorem netReported_put {cmd code : Nat} (hcmd : cmd < 16) (hcode : code < 16) (s : State) :
    NetReported cmd code ((s.put F.FAB_NET_CMD_STAT.CMD cmd).put F.FAB_NET_CMD_STAT.CODE code) := by
  constructor
  · rw [State.get_put_disjoint (by decide) (by decide) (by decide)]
    exact (State.get_put_self (by decide) (by decide) s _ cmd).trans (Nat.mod_eq_of_lt hcmd)
  · exact (State.get_put_self (by decide) (by decide) _ _ code).trans (Nat.mod_eq_of_lt hcode)

theorem netReported_netOutcome {cmd code : Nat} (hcmd : cmd < 16) (hcode : code < 16) (s : State) :
    NetReported cmd code (netOutcome cmd code s) := by
  have hput := netReported_put hcmd hcode s
  rw [netOutcome]
  split
  · exact hput
  · obtain ⟨h1, h2⟩ := hput
    have hreg := State.reg_ev_ne ((s.put F.FAB_NET_CMD_STAT.CMD cmd).put F.FAB_NET_CMD_STAT.CODE code) F.FAB_NET_EVENT.CMD_REJ
      Reg.FAB_NET_CMD_STAT (by decide)
    exact ⟨(State.get_of_reg_eq hreg).trans h1, (State.get_of_reg_eq hreg).trans h2⟩

theorem rejected_netOutcome {code : Nat} (hcode : code ≠ 0) (cmd : Nat) (s : State) :
    (netOutcome cmd code s).flag F.FAB_NET_EVENT.CMD_REJ = true := by
  rw [netOutcome]
  exact (congrArg (State.flag · F.FAB_NET_EVENT.CMD_REJ) (if_neg hcode)).trans (State.flag_ev_self (by decide) (by decide) _)

theorem netOutcome_of_ok (cmd : Nat) (s : State) :
    netOutcome cmd 0 s = (s.put F.FAB_NET_CMD_STAT.CMD cmd).put F.FAB_NET_CMD_STAT.CODE 0 := by
  rw [netOutcome]
  exact if_pos rfl

theorem changesOnly_netOutcome_ok (cmd : Nat) (s : State) : ChangesOnly (· = Reg.FAB_NET_CMD_STAT) s (netOutcome cmd 0 s) := by
  rw [netOutcome_of_ok]
  exact (changesOnly_put (P := (· = Reg.FAB_NET_CMD_STAT)) (f := F.FAB_NET_CMD_STAT.CMD) rfl s cmd).trans
    (changesOnly_put (P := (· = Reg.FAB_NET_CMD_STAT)) (f := F.FAB_NET_CMD_STAT.CODE) rfl _ 0)

/-- What a refused network command leaves. -/
def NetRefused (va cmd code : Nat) (s t : State) : Prop :=
  NetReported cmd code t ∧ t.flag F.FAB_NET_EVENT.CMD_REJ = true ∧ OnlyRegs [va, Reg.FAB_NET_CMD_STAT, Reg.FAB_NET_EVENT] s t

theorem netRefused_netOutcome {cmd code : Nat} (hcmd : cmd < 16) (hcode : code < 16) (hpos : code ≠ 0) (va b : Nat) (v : Word) (s : State) :
    NetRefused va cmd code s (netOutcome cmd code (keepVal va v (dropGuard b s))) :=
  ⟨netReported_netOutcome hcmd hcode _, rejected_netOutcome hpos _ _,
    onlyRegs_of_changesOnly ((changesOnly_keepVal_dropGuard (by simp) b v s).trans (changesOnly_netOutcome (by simp) (by simp) cmd code _))⟩

/-! ### The section held closed for a dead peer -/

theorem takeMax_of_due {s : State} {i id : Nat} (hawake : s.awake = true) (hst : (peerOf s i).st = 2) (hid : id = s.get (F.FAB_PEER_CFG.ID i))
    (hdue : (peerOf s i).dead + 12500000 * s.get F.FAB_NET_CFG.TAKE_MAX ≤ s.tb.tick) (hnone : learnedOf s id = none)
    (hopen : s.fab.closedFor.contains id = false) :
    takeMax i s = sectionClosed id ({ s with fab := { s.fab with closedFor := s.fab.closedFor ++ [id] } }.ev F.FAB_NET_EVENT.CLOSED) := by
  subst hid
  rw [Nat.mul_comm] at hdue
  unfold takeMax
  simp only [hnone]
  exact if_pos ⟨hawake, hst, hdue, trivial, hopen⟩

theorem closedDev_of_contains {s : State} {id : Nat} (h : s.fab.closedFor.contains id = true) : closedDev s id = true := by
  rw [closedDev, h, Bool.true_or]

theorem takeMax_clause {s : State} {i : Fin 32} {id : Nat} (hawake : s.awake = true) (hst : (peerOf s i.val).st = 2)
    (hid : id = s.get (F.FAB_PEER_CFG.ID i.val)) (hdue : (peerOf s i.val).dead + 12500000 * s.get F.FAB_NET_CFG.TAKE_MAX ≤ s.tb.tick)
    (hnone : learnedOf s id = none) (hopen : s.fab.closedFor.contains id = false) :
    Completes (.takeMaxExpiry i) s (fun t => t.fab.closedFor = s.fab.closedFor ++ [id] ∧ closedDev t id = true ∧
      t.flag F.FAB_NET_EVENT.CLOSED = true) := by
  have hset : ClosedShown { s.fab with closedFor := s.fab.closedFor ++ [id] }
      ({ s with fab := { s.fab with closedFor := s.fab.closedFor ++ [id] } }.ev F.FAB_NET_EVENT.CLOSED) :=
    ⟨rfl, State.flag_ev_self (by decide) (by decide) _⟩
  obtain ⟨hfab, hflag⟩ := hset.sectionClosed (id := id)
  refine ⟨_, congrArg Host.Outcome.next (takeMax_of_due hawake hst hid hdue hnone hopen), ?_, closedDev_of_contains ?_, hflag⟩
  · rw [hfab]
  · rw [hfab]
    simp

/-! ### Moves of own cars stop -/

/-- The move of car c's axis stops with cause 8. -/
def stopMove (c : Nat) (s : State) : State := if inMove (s.axis c) then stopAxis c 8 s else s

theorem stopMove_ne {c d : Nat} (h : d ≠ c) (s : State) : (stopMove c s).axis d = s.axis d := by
  rw [stopMove]
  split
  · exact State.axis_modAxis_ne s c d _ h
  · rfl

theorem stopMove_same {c : Nat} {s : State} (h : inMove (s.axis c) = true) : ((stopMove c s).axis c).evs = (s.axis c).evs ++ [.stop 8] := by
  rw [stopMove, if_pos h, stopAxis, State.axis_modAxis_same]

theorem axis_forL_stopMove {l : List Nat} {c : Nat} (hc : c ∉ l) (s : State) : (s.forL l stopMove).axis c = s.axis c :=
  State.read_forL (read := fun t => t.axis c) (fun d hd t => stopMove_ne (fun h : c = d => hc (h ▸ hd)) t) s

theorem evs_forL_stopMove {l : List Nat} (hnodup : l.Nodup) {c : Nat} (hc : c ∈ l) {s : State} (hmove : inMove (s.axis c) = true) :
    ((s.forL l stopMove).axis c).evs = (s.axis c).evs ++ [.stop 8] := by
  induction l generalizing s with
  | nil => exact absurd hc (by simp)
  | cons d l ih =>
    obtain ⟨hd, hnodup⟩ := List.nodup_cons.mp hnodup
    have hcons : s.forL (d :: l) stopMove = (stopMove d s).forL l stopMove := rfl
    rw [hcons]
    obtain rfl | hc := List.mem_cons.mp hc
    · rw [axis_forL_stopMove hd, stopMove_same hmove]
    · have hsame := stopMove_ne (fun h : c = d => hd (h ▸ hc)) s
      rw [ih hnodup hc (by rw [hsame]; exact hmove), hsame]

theorem ownedCars_nodup (s : State) : (ownedCars s).Nodup := (List.nodup_range.filter _).filter _

theorem SendOnly.cars {s t : State} (h : SendOnly s t) : t.cars = s.cars := by rw [h.frame]

theorem SendOnly.trj {s t : State} (h : SendOnly s t) : t.trj = s.trj := by rw [h.frame]

theorem trj_candDrop (s : State) : (candDrop s).trj = s.trj := by
  rw [candDrop]
  split
  · rfl
  next x hx =>
    exact State.read_forL (read := State.trj) (fun d _ t => (sendOnly_send t d (.resRel ⟨x.id⟩)).trj) _

theorem trj_clearQueues (s : State) : (clearQueues s).trj = s.trj := by
  have htrj : ∀ (c : Nat) (f : BssCar → BssCar) (t : State), (modBss c f t).trj = t.trj := fun _ _ _ => rfl
  exact State.read_forL (read := State.trj) (fun c _ t => htrj c _ t) s

theorem evs_schedDrop (s : State) (c : Nat) : ((schedDrop s).axis c).evs = (s.axis c).evs := by
  refine State.forN_rel (R := fun s t => (t.axis c).evs = (s.axis c).evs) (fun _ => rfl) (fun _ _ _ hst htu => htu.trans hst)
    (fun d _ t => ?_) s
  split
  · have haxis : ∀ (f : BssCar → BssCar) (u : State), ((modBss d f u).axis c) = u.axis c := fun _ _ => rfl
    rw [haxis]
    by_cases h : c = d
    · rw [h, State.axis_modAxis_same]
    · rw [State.axis_modAxis_ne _ _ _ _ h]
  · rfl

/-- The state as the announcement of a closure leaves it. -/
def closureAnnounced (s : State) : State := (announceAll s).ev F.FAB_NET_EVENT.CLOSED

theorem closureAnnounced_frame (s : State) : (closureAnnounced s).cars = s.cars ∧ (closureAnnounced s).trj = s.trj :=
  ⟨(sendOnly_announceAll s).cars, (sendOnly_announceAll s).trj⟩

theorem ownedCars_of_cars_eq {s t : State} (h : t.cars = s.cars) : ownedCars t = ownedCars s := by
  have hcar : ∀ c, t.car c = s.car c := State.car_of_cars_eq h
  simp only [ownedCars, heldCars, hcar]

theorem evs_closeOwn {s : State} {c : Nat} (hc : c ∈ ownedCars s) (hmove : inMove (s.axis c) = true) :
    ((closeOwn s).axis c).evs = (s.axis c).evs ++ [.stop 8] := by
  obtain ⟨hcars, htrj⟩ := closureAnnounced_frame s
  have haxis : (closureAnnounced s).axis c = s.axis c := State.axis_of_trj_eq htrj c
  have hclose : closeOwn s = schedDrop (clearQueues (candDrop ((closureAnnounced s).forL (ownedCars (closureAnnounced s)) stopMove))) := rfl
  rw [hclose, evs_schedDrop, State.axis_of_trj_eq (trj_clearQueues _), State.axis_of_trj_eq (trj_candDrop _), ownedCars_of_cars_eq hcars,
    evs_forL_stopMove (ownedCars_nodup s) hc (by rw [haxis]; exact hmove), haxis]

/-! ### FAB_SEC_CMD -/

theorem secRow_of_guarded {s : State} {core : Sender} {v : Word} {n : Nat} (h : Guarded s core Reg.FAB_SEC_CMD v)
    (hop : getF F.FAB_SEC_CMD.OP.bits v = n) :
    (if cplIs F.FAB_SEC_CMD.OP n (~~~ v) then cplWrite core Reg.FAB_SEC_CMD (~~~ v) secCmdOp s else s) = secCmdOp v (dropGuard 9 s) := by
  have hcpl : cplIs F.FAB_SEC_CMD.OP n (~~~ v) = true := by rw [cplIs, BitVec.not_not, hop, beq_self_eq_true]
  rw [if_pos hcpl]
  exact cplWrite_of_armed secCmdOp h.1 (by decide) h.2

/-- The state with the close command in force. -/
def closeOrdered (v : Word) (s : State) : State := { keepVal Reg.FAB_SEC_CMD v s with fab := { s.fab with closeCmd := true } }

theorem secCmdOp_close {v : Word} {s : State} (hop : getF F.FAB_SEC_CMD.OP.bits v = 1) (hsect : isSection s = true) : secCmdOp v s =
    netOutcome 1 0 (if ownClosed s = true then closeOrdered v s else closeOwn (closeOrdered v s)) := by
  rw [secCmdOp, hop]
  exact if_pos hsect

theorem secCmdOp_close_refused {v : Word} {s : State} (hop : getF F.FAB_SEC_CMD.OP.bits v = 1) (hsect : isSection s = false) :
    secCmdOp v s = netOutcome 1 3 (keepVal Reg.FAB_SEC_CMD v s) := by
  rw [secCmdOp, hop]
  exact if_neg (by rw [hsect]; decide)

/-- The state with the close command and the spare capacity's closure gone. -/
def closeUndone (v : Word) (s : State) : State :=
  { keepVal Reg.FAB_SEC_CMD v s with fab := { s.fab with closeCmd := false, spares := false } }

/-- The modes in which the section may be reopened. -/
def ReopenMode (m : Mode) : Prop := m = .watch ∨ m = .standby ∨ m = .commissioning

theorem secCmdOp_reopen {v : Word} {s : State} (hop : getF F.FAB_SEC_CMD.OP.bits v = 2) (hsect : isSection s = true)
    (hspare : spareGone s = false) : (ReopenMode s.mode → secCmdOp v s =
      netOutcome 1 0 (if ownClosed s = true then announceAll ((closeUndone v s).ev F.FAB_NET_EVENT.CLOSED) else closeUndone v s)) ∧
    (¬ ReopenMode s.mode → secCmdOp v s = netOutcome 1 4 (keepVal Reg.FAB_SEC_CMD v s)) := by
  have hallowed : ¬ (!isSection s || spareGone s) = true := by
    rw [hsect, hspare]
    decide
  rw [secCmdOp, hop]
  exact ⟨fun hmode => (if_neg hallowed).trans (if_pos hmode), fun hmode => (if_neg hallowed).trans (if_neg hmode)⟩

theorem annFlags_closed {t : State} (h : t.fab.closeCmd = true) : (annFlags t).testBit 0 = true := by
  have hclosed : b2n (ownClosed t) = 1 := by
    rw [ownClosed, h]
    rfl
  rw [annFlags, hclosed, Nat.testBit_zero]
  exact decide_eq_true (by omega)

theorem closeOrdered_spec (v : Word) (s : State) : (closeOrdered v (dropGuard 9 s)).fab.closeCmd = true ∧
    (closeOrdered v (dropGuard 9 s)).cars = s.cars ∧ (closeOrdered v (dropGuard 9 s)).trj = s.trj := ⟨rfl, rfl, rfl⟩

/-- What a section closed by command leaves. -/
def SectionClosed (s t : State) : Prop :=
  t.fab.closeCmd = true ∧ t.get F.FAB_NET_CMD_STAT.CODE = 0 ∧ t.get F.FAB_NET_CMD_STAT.CMD = 1 ∧ (annFlags t).testBit 0 = true ∧
    (ownClosed s = false → t.flag F.FAB_NET_EVENT.CLOSED = true ∧
      ∀ c, c ∈ ownedCars s → inMove (s.axis c) = true → (t.axis c).evs = (s.axis c).evs ++ [.stop 8])

theorem closing_spec {s w t : State} (hset : w.fab.closeCmd = true) (hcars : w.cars = s.cars) (htrj : w.trj = s.trj)
    (ht : t = netOutcome 1 0 (if ownClosed s = true then w else closeOwn w)) : SectionClosed s t := by
  obtain ⟨hcmd, hcode⟩ := netReported_netOutcome (cmd := 1) (code := 0) (by decide) (by decide) (if ownClosed s = true then w else closeOwn w)
  obtain ⟨hregs, -, hframe⟩ := changesOnly_netOutcome_ok 1 (if ownClosed s = true then w else closeOwn w)
  obtain ⟨hfab, hflag⟩ := ClosedShown.closeOwn w
  rw [← ht] at hcmd hcode hregs hframe
  have hclosed : t.fab.closeCmd = true := by
    rw [hframe]
    by_cases h : ownClosed s = true
    · rw [if_pos h]
      exact hset
    · rw [if_neg h]
      rw [hfab]
      exact hset
  refine ⟨hclosed, hcode, hcmd, annFlags_closed hclosed, fun hopen => ?_⟩
  rw [hopen, if_neg Bool.false_ne_true] at hregs hframe
  have htaxis : t.axis = (closeOwn w).axis := funext (State.axis_of_trj_eq (by rw [hframe]))
  have haxis : w.axis = s.axis := funext (State.axis_of_trj_eq htrj)
  refine ⟨(flag_of_reg_eq (hregs _ (by decide))).trans hflag, fun c hc hmove => ?_⟩
  rw [← ownedCars_of_cars_eq hcars] at hc
  rw [htaxis, ← haxis]
  exact evs_closeOwn hc (by rw [haxis]; exact hmove)

theorem closed_clause {s : State} {core : Sender} {v : Word} (hguard : Guarded s core Reg.FAB_SEC_CMD v)
    (hop : getF F.FAB_SEC_CMD.OP.bits v = 1) (hsect : isSection s = true) :
    Completes (.sectionClose core (~~~ v)) s (SectionClosed s) := by
  have hrun : exec (.sectionClose core (~~~ v)) s = .next (netOutcome 1 0 (if ownClosed s = true then closeOrdered v (dropGuard 9 s)
      else closeOwn (closeOrdered v (dropGuard 9 s)))) :=
    congrArg Host.Outcome.next ((secRow_of_guarded hguard hop).trans (secCmdOp_close hop hsect))
  obtain ⟨hset, hcars, htrj⟩ := closeOrdered_spec v s
  exact ⟨_, hrun, closing_spec hset hcars htrj rfl⟩

theorem announced_of_ev (w : State) : (announceAll (w.ev F.FAB_NET_EVENT.CLOSED)).fab =
      { w.fab with seq := (announceAll (w.ev F.FAB_NET_EVENT.CLOSED)).fab.seq } ∧
    (announceAll (w.ev F.FAB_NET_EVENT.CLOSED)).flag F.FAB_NET_EVENT.CLOSED = true :=
  ⟨(sendOnly_announceAll (w.ev F.FAB_NET_EVENT.CLOSED)).2.2.1,
    (flag_of_reg_eq (netEvent_announceAll _)).trans (State.flag_ev_self (by decide) (by decide) w)⟩

theorem reopening_spec {s w t : State} (hset : ownClosed w = false)
    (ht : t = netOutcome 1 0 (if ownClosed s = true then announceAll (w.ev F.FAB_NET_EVENT.CLOSED) else w)) :
    ownClosed t = false ∧ t.get F.FAB_NET_CMD_STAT.CODE = 0 ∧ (ownClosed s = true → t.flag F.FAB_NET_EVENT.CLOSED = true) := by
  obtain ⟨-, hcode⟩ := netReported_netOutcome (cmd := 1) (code := 0) (by decide) (by decide)
    (if ownClosed s = true then announceAll (w.ev F.FAB_NET_EVENT.CLOSED) else w)
  obtain ⟨hregs, -, hframe⟩ := changesOnly_netOutcome_ok 1 (if ownClosed s = true then announceAll (w.ev F.FAB_NET_EVENT.CLOSED) else w)
  rw [← ht] at hcode hregs hframe
  by_cases h : ownClosed s = true
  · rw [if_pos h] at hregs hframe
    obtain ⟨hfab, hflag⟩ := announced_of_ev w
    refine ⟨?_, hcode, fun _ => (flag_of_reg_eq (hregs _ (by decide))).trans hflag⟩
    have htfab : t.fab = (announceAll (w.ev F.FAB_NET_EVENT.CLOSED)).fab := by rw [hframe]
    rw [ownClosed, htfab, hfab]
    exact hset
  · rw [if_neg h] at hframe
    have htfab : t.fab = w.fab := by rw [hframe]
    refine ⟨?_, hcode, fun hc => absurd hc h⟩
    rw [ownClosed, htfab]
    exact hset

theorem reopened_clause {s : State} {core : Sender} {v : Word} (hguard : Guarded s core Reg.FAB_SEC_CMD v)
    (hop : getF F.FAB_SEC_CMD.OP.bits v = 2) (hsect : isSection s = true) (hspare : spareGone s = false)
    (hmode : ReopenMode s.mode) :
    Completes (.sectionReopen core (~~~ v)) s (fun t => ownClosed t = false ∧ t.get F.FAB_NET_CMD_STAT.CODE = 0 ∧
      (ownClosed s = true → t.flag F.FAB_NET_EVENT.CLOSED = true)) := by
  have hrun : exec (.sectionReopen core (~~~ v)) s = .next (netOutcome 1 0 (if ownClosed s = true then
      announceAll ((closeUndone v (dropGuard 9 s)).ev F.FAB_NET_EVENT.CLOSED) else closeUndone v (dropGuard 9 s))) :=
    congrArg Host.Outcome.next ((secRow_of_guarded hguard hop).trans ((secCmdOp_reopen (s := dropGuard 9 s) hop hsect hspare).1 hmode))
  exact ⟨_, hrun, reopening_spec rfl rfl⟩

theorem secCmd_clauses {s : State} {core : Sender} {v : Word} (hguard : Guarded s core Reg.FAB_SEC_CMD v) :
    (getF F.FAB_SEC_CMD.OP.bits v = 1 →
      (isSection s = true → Completes (.sectionClose core (~~~ v)) s (fun t => t.fab.closeCmd = true ∧
        t.get F.FAB_NET_CMD_STAT.CODE = 0 ∧ t.get F.FAB_NET_CMD_STAT.CMD = 1 ∧ (annFlags t).testBit 0 = true ∧
        (ownClosed s = false → t.flag F.FAB_NET_EVENT.CLOSED = true ∧
          ∀ c, c ∈ ownedCars s → inMove (s.axis c) = true → (t.axis c).evs = (s.axis c).evs ++ [.stop 8]))) ∧
      (isSection s = false → Completes (.sectionClose core (~~~ v)) s (fun t => t.get F.FAB_NET_CMD_STAT.CODE = 3 ∧
        t.flag F.FAB_NET_EVENT.CMD_REJ = true ∧ OnlyRegs [Reg.FAB_SEC_CMD, Reg.FAB_NET_CMD_STAT, Reg.FAB_NET_EVENT] s t))) ∧
    (getF F.FAB_SEC_CMD.OP.bits v = 2 → isSection s = true → spareGone s = false →
      ((s.mode = .watch ∨ s.mode = .standby ∨ s.mode = .commissioning) → Completes (.sectionReopen core (~~~ v)) s (fun t =>
        ownClosed t = false ∧ t.get F.FAB_NET_CMD_STAT.CODE = 0 ∧
        (ownClosed s = true → t.flag F.FAB_NET_EVENT.CLOSED = true))) ∧
      (s.mode ≠ .watch → s.mode ≠ .standby → s.mode ≠ .commissioning → Completes (.sectionReopen core (~~~ v)) s (fun t =>
        t.get F.FAB_NET_CMD_STAT.CODE = 4 ∧ t.flag F.FAB_NET_EVENT.CMD_REJ = true ∧
        OnlyRegs [Reg.FAB_SEC_CMD, Reg.FAB_NET_CMD_STAT, Reg.FAB_NET_EVENT] s t))) := by
  refine ⟨fun hop => ⟨closed_clause hguard hop, fun hsect => ?_⟩,
    fun hop hsect hspare => ⟨reopened_clause hguard hop hsect hspare, fun hwatch hstandby hcomm => ?_⟩⟩
  · obtain ⟨⟨-, hcode⟩, hrej, honly⟩ := netRefused_netOutcome (cmd := 1) (code := 3) (by decide) (by decide) (by decide) Reg.FAB_SEC_CMD 9 v s
    exact ⟨_, congrArg Host.Outcome.next ((secRow_of_guarded hguard hop).trans (secCmdOp_close_refused hop hsect)), hcode, hrej, honly⟩
  · obtain ⟨⟨-, hcode⟩, hrej, honly⟩ := netRefused_netOutcome (cmd := 1) (code := 4) (by decide) (by decide) (by decide) Reg.FAB_SEC_CMD 9 v s
    have hmode : ¬ ReopenMode s.mode := by
      rintro (h | h | h)
      · exact hwatch h
      · exact hstandby h
      · exact hcomm h
    exact ⟨_, congrArg Host.Outcome.next ((secRow_of_guarded hguard hop).trans ((secCmdOp_reopen (s := dropGuard 9 s) hop hsect hspare).2 hmode)),
      hcode, hrej, honly⟩

end Sys2Proof.Machine
end

section
/-!
PROOF. A standby's take-over from its start to the copied images, and the giving up of an adopted ID (18 R565 to R570).
-/

namespace Sys2Proof.Machine

open Sys2Proof

/-! ### The start of a take-over -/

/-- The state as a take-over's frame and marker leave it, its event recorded and announced. -/
def takeTold (data : List Byte) (s : State) : State := announceAll (record 9 0 0x25 data (s.ev F.FAB_NET_EVENT.TAKEOVER))

theorem takeTold_spec {data : List Byte} {s t : State} (ht : t = takeTold data s) :
    t.nv.lc = s.nv.lc ∧ t.flag F.FAB_NET_EVENT.TAKEOVER = true ∧ t.fab.taking = s.fab.taking ∧ t.pw = s.pw := by
  have hflag := State.flag_ev_self (a := Reg.FAB_NET_EVENT) (hi := 4) (lo := 4) (by decide) (by decide) s
  have hevent : (s.ev F.FAB_NET_EVENT.TAKEOVER).nv = s.nv ∧ (s.ev F.FAB_NET_EVENT.TAKEOVER).fab = s.fab ∧
    (s.ev F.FAB_NET_EVENT.TAKEOVER).pw = s.pw := ⟨rfl, rfl, rfl⟩
  rw [takeTold] at ht
  generalize s.ev F.FAB_NET_EVENT.TAKEOVER = u at *
  obtain ⟨hnv, hfab, hpw⟩ := hevent
  obtain ⟨hregs, -, hkept⟩ := record_spec 9 0 0x25 data u _ rfl
  have hrfab := (record_fab_saf 9 0 0x25 data u).1
  have hrpw := (RunKept.enqueue false ⟨9, 0, 0x25, u.tb.sec, u.tb.ns, data⟩ u).1
  have hsent := sendOnly_announceAll (record 9 0 0x25 data u)
  have hreg := netEvent_announceAll (record 9 0 0x25 data u)
  rw [← ht] at hsent hreg
  obtain ⟨-, -, hsfab, hframe⟩ := hsent
  refine ⟨?_, ?_, ?_, ?_⟩
  · rw [hframe, hkept.1, hnv]
  · rw [flag_of_reg_eq hreg, flag_of_reg_eq (hregs _ (by decide))]
    exact hflag
  · rw [hsfab, hrfab, hfab]
  · rw [hframe]
    exact hrpw.trans hpw

/-- The state with the marker of a take-over written and its acting ID and epoch in force. -/
def takeMarked (j id e : Nat) (s : State) : State :=
  { s with
    nv := { s.nv with lc := { s.nv.lc with
      take := some ⟨id, e, j, s.nv.lc.epoch⟩, actId := id, epoch := e, chgOut := some (s.get (F.FAB_COVER.CHG_OUT j)) } }
    fab := { s.fab with taking := some j } }

theorem takeMarked_spec (j id e : Nat) (s : State) : (takeMarked j id e s).nv.lc = { s.nv.lc with
      take := some ⟨id, e, j, s.nv.lc.epoch⟩, actId := id, epoch := e, chgOut := some (s.get (F.FAB_COVER.CHG_OUT j)) } ∧
    (takeMarked j id e s).fab.taking = some j ∧ (takeMarked j id e s).pw = s.pw := ⟨rfl, rfl, rfl⟩

/-- What a cover slot's take-over waits for (R566). -/
def MayTake (j id : Nat) (s : State) : Prop :=
  s.mode = .watch ∧ s.awake = true ∧ isSection s = true ∧ commissioned s = true ∧ s.nv.lc.fenced = false ∧ s.nv.lc.take = none ∧
    s.flag (F.FAB_COVER.EN j) = true ∧ takeDue s id (s.get (F.FAB_COVER.RANK j)) = true

theorem takeStart_of_due {s : State} {j id e : Nat} (hid : id = s.get (F.FAB_COVER.ID j)) (hmay : MayTake j id s)
    (he : e = ((epochFor s id).getD 0 + 1) % 2 ^ 16) :
    takeStart j s = takeTold (items [id, e]) ((takeMarked j id e s).sendGroup 8 (.takeover ⟨id, e, s.nv.lc.fabricId, s.nv.serial⟩)) := by
  subst hid he
  rw [takeStart]
  exact if_pos hmay

theorem takeStart_clause {s : State} {j : Fin 3} {id e : Nat} (hid : id = s.get (F.FAB_COVER.ID j.val)) (hmay : MayTake j.val id s)
    (he : e = ((epochFor s id).getD 0 + 1) % 2 ^ 16) :
    Completes (.takeoverStart j) s (fun t => t.nv.lc = { s.nv.lc with
        take := some ⟨id, e, j.val, s.nv.lc.epoch⟩, actId := id, epoch := e, chgOut := some (s.get (F.FAB_COVER.CHG_OUT j.val)) } ∧
      t.flag F.FAB_NET_EVENT.TAKEOVER = true ∧ t.fab.taking = some j.val ∧ t.mode = .watch) := by
  have hrun : exec (.takeoverStart j) s = _ := congrArg Host.Outcome.next (takeStart_of_due hid hmay he)
  obtain ⟨hlc, htaking, hpw⟩ := takeMarked_spec j.val id e s
  obtain ⟨-, -, hfab, hframe⟩ :=
    sendOnly_sendGroup (takeMarked j.val id e s) 8 (.takeover ⟨id, e, s.nv.lc.fabricId, s.nv.serial⟩)
  generalize (takeMarked j.val id e s).sendGroup 8 (.takeover ⟨id, e, s.nv.lc.fabricId, s.nv.serial⟩) = u at *
  have hulc : u.nv.lc = (takeMarked j.val id e s).nv.lc := by rw [hframe]
  have hupw : u.pw = (takeMarked j.val id e s).pw := by rw [hframe]
  have hutaking : u.fab.taking = (takeMarked j.val id e s).fab.taking := by rw [hfab]
  obtain ⟨htlc, hflag, httaking, htpw⟩ := takeTold_spec (data := items [id, e]) (s := u) rfl
  refine ⟨_, hrun, htlc.trans (hulc.trans hlc), hflag, httaking.trans (hutaking.trans htaking), ?_⟩
  rw [State.mode, htpw, hupw, hpw]
  exact hmay.1

/-! ### A bank image copied -/

theorem selectorWord_lt (gen : Nat) (toB : Bool) : selectorWord gen toB < 256 ^ 4 := by
  have hcrc : ∀ code, selectorCrc gen code < 256 := fun _ => BitVec.isLt _
  have hgen : gen % 2 ^ 16 < 2 ^ 16 := Nat.mod_lt _ (by decide)
  rw [selectorWord]
  have hA := hcrc 0x5A
  have hB := hcrc 0xA5
  cases toB
  · simp only [Bool.false_eq_true, if_false]
    omega
  · simp only [if_true]
    omega

theorem bankAt_length {m : List (Nat × Byte)} {a room : Nat} {bs : List Byte} (h : bankAt m a room = some bs) : bs.length ≤ room := by
  unfold bankAt at h
  dsimp only at h
  split at h
  next hin =>
    rw [inR, Bool.and_eq_true, decide_eq_true_iff, decide_eq_true_iff] at hin
    rw [← Option.some.inj h, length_bytesAt]
    exact hin.2
  next => exact absurd h (by simp)

theorem copyBank_of_some {src room dst : Nat} {bs : List Byte} {s : State} (h : bankAt s.nv.mram src room = some bs) :
    copyBank src room dst s = mramPut dst bs s := by
  unfold copyBank
  simp only [h]

theorem copyBank_of_none {src room dst : Nat} {s : State} (h : bankAt s.nv.mram src room = none) : copyBank src room dst s = breakSeal dst s := by
  unfold copyBank
  simp only [h]

/-- The MRAM outside a range, and everything else, stands. -/
def MramOutside (lo hi : Nat) (s t : State) : Prop :=
  t = { s with nv := { s.nv with mram := t.nv.mram } } ∧ ∀ j, j < lo ∨ hi ≤ j → smGet 0 t.nv.mram j = smGet 0 s.nv.mram j

theorem mramOutside_mramPut {off lo hi : Nat} {bs : List Byte} (hlo : lo ≤ off) (hhi : off + bs.length ≤ hi) (s : State) :
    MramOutside lo hi s (mramPut off bs s) := ⟨rfl, fun _ hj => smGet_mramPut_ne s (by omega)⟩

theorem mramOutside_copyBank {src room dst : Nat} (hroom : 16 ≤ room) (s : State) :
    MramOutside dst (dst + room) s (copyBank src room dst s) := by
  cases h : bankAt s.nv.mram src room with
  | some bs =>
    rw [copyBank_of_some h]
    exact mramOutside_mramPut (le_refl _) (Nat.add_le_add_left (bankAt_length h) dst) s
  | none =>
    rw [copyBank_of_none h, breakSeal]
    exact mramOutside_mramPut (le_refl _) (by simpa using hroom) s

/-- A bank image copied, and the selector's word written. -/
def bankCopied (src room dst sel v : Nat) (s : State) : State := mramPut sel (leBytes 4 v) (copyBank src room dst s)

/-- What copying a bank image leaves: the image, or none, the selector, and the MRAM but for the bank's room and the selector. -/
def BankCopied (src room dst sel v : Nat) (s t : State) : Prop :=
  (∀ bs, bankAt s.nv.mram src room = some bs → MramHolds t dst bs) ∧
    (bankAt s.nv.mram src room = none → bankAt t.nv.mram dst room = none) ∧ leAt t.nv.mram sel 4 = v ∧
    t = { s with nv := { s.nv with mram := t.nv.mram } } ∧
    ∀ j, j < dst ∨ dst + room ≤ j → j < sel ∨ sel + 4 ≤ j → smGet 0 t.nv.mram j = smGet 0 s.nv.mram j

theorem bankCopied_spec {src room dst sel v : Nat} (hroom : 16 ≤ room) (hsel : sel + 4 ≤ dst) (hv : v < 256 ^ 4) (s t : State)
    (ht : t = bankCopied src room dst sel v s) : BankCopied src room dst sel v s t := by
  obtain ⟨hframe, hout⟩ := mramOutside_copyBank (src := src) (dst := dst) hroom s
  obtain ⟨hsframe, hsout⟩ := mramOutside_mramPut (off := sel) (bs := leBytes 4 v) (lo := sel) (hi := sel + 4) (le_refl _) (by simp)
    (copyBank src room dst s)
  have hword := mramHolds_mramPut sel (leBytes 4 v) (copyBank src room dst s)
  have hshort : ∀ j, dst ≤ j → j < dst + room →
      smGet 0 (mramPut sel (leBytes 4 v) (copyBank src room dst s)).nv.mram j = smGet 0 (copyBank src room dst s).nv.mram j :=
    fun j hlo _ => hsout j (.inr (by omega))
  rw [bankCopied] at ht
  subst ht
  refine ⟨fun bs hbs => ?_, fun hnone => ?_, leAt_of_holds hword hv, ?_, fun j hdst hsel => (hsout j hsel).trans (hout j hdst)⟩
  · rw [copyBank_of_some hbs]
    exact (mramHolds_mramPut dst bs s).mramPut (.inr (by simpa using hsel))
  · rw [bankAt_congr (by omega) hshort, copyBank_of_none hnone]
    exact bankAt_breakSeal dst room s
  · rw [hsframe, hframe]

theorem MramHolds.of_same {s t : State} {off : Nat} {bs : List Byte} (h : MramHolds s off bs)
    (hm : ∀ j, off ≤ j → j < off + bs.length → smGet 0 t.nv.mram j = smGet 0 s.nv.mram j) : MramHolds t off bs :=
  fun i hi => (hm _ (by omega) (by omega)).trans (h i hi)

theorem leAt_congr {m m' : List (Nat × Byte)} {a n : Nat} (h : ∀ j, a ≤ j → j < a + n → smGet 0 m' j = smGet 0 m j) :
    leAt m' a n = leAt m a n := by
  rw [leAt, bytesAt_congr h, leAt]

/-! ### Both images copied -/

theorem opsBase_bounds (b : Bool) : 0x30000 ≤ opsBase b ∧ opsBase b + opsBankSize ≤ 0x430000 := by cases b <;> decide

theorem spsBase_bounds (b : Bool) : 0x10000 ≤ spsBase b ∧ spsBase b + spsBankSize ≤ 0x30000 := by cases b <;> decide

theorem opsBase_apart (b : Bool) : opsBase (!b) + opsBankSize ≤ opsBase b ∨ opsBase b + opsBankSize ≤ opsBase (!b) := by cases b <;> decide

theorem spsBase_apart (b : Bool) : spsBase (!b) + spsBankSize ≤ spsBase b ∨ spsBase b + spsBankSize ≤ spsBase (!b) := by cases b <;> decide

theorem copyOps_eq (j : Nat) (s : State) : copyOps j s =
    bankCopied (shadowBase j) opsBankSize (opsBase (opsTarget s).1) opsSelector (selectorWord (imageGen s (shadowBase j)) (opsTarget s).1) s := rfl

theorem copySps_eq (j : Nat) (s : State) : copySps j s = bankCopied (shadowSps s j) spsBankSize (spsBase (spsTarget s).1) spsSelector
    (selectorWord (imageGen s (shadowSps s j)) (spsTarget s).1) s := rfl

/-- What both copies leave. -/
def ImagesCopied (j : Nat) (s t : State) : Prop :=
  (∀ bs, bankAt s.nv.mram (shadowBase j) opsBankSize = some bs → MramHolds t (opsBase (opsTarget s).1) bs) ∧
    (∀ bs, bankAt s.nv.mram (shadowSps s j) spsBankSize = some bs → MramHolds t (spsBase (spsTarget s).1) bs) ∧
    (bankAt s.nv.mram (shadowBase j) opsBankSize = none → opsBankOf t (opsTarget s).1 = none) ∧
    (bankAt s.nv.mram (shadowSps s j) spsBankSize = none → spsBankOf t (spsTarget s).1 = none) ∧
    opsBankOf t (!(opsTarget s).1) = opsBankOf s (!(opsTarget s).1) ∧ spsBankOf t (!(spsTarget s).1) = spsBankOf s (!(spsTarget s).1) ∧
    leAt t.nv.mram opsSelector 4 = selectorWord (imageGen s (shadowBase j)) (opsTarget s).1 ∧
    leAt t.nv.mram spsSelector 4 = selectorWord (imageGen s (shadowSps s j)) (spsTarget s).1

/-- The second copy reads what stood before the first. -/
theorem copySps_reads {s u : State} {lo hi : Nat} (j : Nat) (hframe : u = { s with nv := { s.nv with mram := u.nv.mram } })
    (hsame : ∀ a, 0x830000 ≤ a → smGet 0 u.nv.mram a = smGet 0 s.nv.mram a) (hlo : lo = shadowBase j) (hhi : hi = shadowSps s j) :
    shadowSps u j = hi ∧ spsTarget u = spsTarget s ∧ imageGen u hi = imageGen s hi ∧
      bankAt u.nv.mram hi spsBankSize = bankAt s.nv.mram hi spsBankSize := by
  have hbase : 0x830000 ≤ lo := by rw [hlo, shadowBase]; omega
  have hsps : lo ≤ hi := by rw [hhi, hlo, shadowSps]; omega
  have htarget : spsTarget u = spsTarget s := by rw [hframe]; rfl
  refine ⟨?_, htarget, ?_, bankAt_congr (by decide) fun a ha _ => hsame a (by omega)⟩
  · rw [hhi, shadowSps, shadowSps, leAt_congr fun a ha _ => hsame a (by rw [← hlo] at ha; omega)]
  · rw [imageGen, imageGen, leAt_congr fun a ha _ => hsame a (by omega)]

theorem imagesCopied_spec (j : Nat) (s t : State) (ht : t = copySps j (copyOps j s)) :
    ImagesCopied j s t ∧ t = { s with nv := { s.nv with mram := t.nv.mram } } := by
  obtain ⟨hopsLo, hopsHi⟩ := opsBase_bounds (opsTarget s).1
  obtain ⟨hspsLo, hspsHi⟩ := spsBase_bounds (spsTarget s).1
  obtain ⟨hopsLo', hopsHi'⟩ := opsBase_bounds (!(opsTarget s).1)
  obtain ⟨hspsLo', hspsHi'⟩ := spsBase_bounds (!(spsTarget s).1)
  have hopsApart := opsBase_apart (opsTarget s).1
  have hspsApart := spsBase_apart (spsTarget s).1
  have hospsel : opsSelector = 0x2004 ∧ spsSelector = 0x2000 := ⟨rfl, rfl⟩
  obtain ⟨hopsel, hspsel⟩ := hospsel
  obtain ⟨himage, hnone, hword, hframe, hsame⟩ := bankCopied_spec (by decide) (by omega) (selectorWord_lt _ _) s _ (copyOps_eq j s)
  generalize copyOps j s = u at *
  obtain ⟨hsrc, htarget, hgen, hbank⟩ := copySps_reads j hframe (fun a ha => hsame a (by omega) (by omega)) rfl rfl
  have hcopy := copySps_eq j u
  rw [hsrc, htarget, hgen, ← ht] at hcopy
  obtain ⟨himage', hnone', hword', hframe', hsame'⟩ := bankCopied_spec (by decide) (by omega) (selectorWord_lt _ _) u _ hcopy
  rw [hbank] at himage' hnone'
  refine ⟨⟨fun bs hbs => (himage bs hbs).of_same fun a ha hb => hsame' a ?_ ?_, himage', fun h => ?_, fun h => ?_, ?_, ?_, ?_, hword'⟩, ?_⟩
  · exact .inr (by omega)
  · exact .inr (by omega)
  · rw [opsBankOf, bankAt_congr (by decide) fun a ha _ => hsame' a (.inr (by omega)) (.inr (by omega)), hnone h]
    rfl
  · rw [spsBankOf, hnone' h]
    rfl
  · exact opsBankOf_congr fun a ha hb => (hsame' a (.inr (by omega)) (.inr (by omega))).trans (hsame a (by omega) (.inr (by omega)))
  · exact spsBankOf_congr fun a ha hb => (hsame' a (by omega) (.inr (by omega))).trans (hsame a (.inl (by omega)) (.inr (by omega)))
  · rw [leAt_congr fun a ha hb => hsame' a (.inl (by omega)) (.inr (by omega)), hword]
  · rw [hframe', hframe]

/-- The state with the marker of the take-over cleared. -/
def takeCleared (s : State) : State := { s with nv := { s.nv with lc := { s.nv.lc with take := none } } }

theorem takeCopied_of_marker {s : State} {m : TakeMarker} (hmark : s.nv.lc.take = some m) (hwipe : s.nv.lc.wipe = none)
    (hcauses : s.conf.causes = 0) : takeCopied s = resetNow causeSw (takeCleared (copySps m.slot (copyOps m.slot s))) := by
  unfold takeCopied
  simp only [hmark]
  rw [hwipe, hcauses]
  exact if_neg (by decide)

theorem takeCopied_clause {s : State} {m : TakeMarker} (hmark : s.nv.lc.take = some m) (hwipe : s.nv.lc.wipe = none)
    (hcauses : s.conf.causes = 0) :
    Completes .takeoverCopyDone s (fun t => ResetInForce 8 s t ∧ t.nv.lc = { s.nv.lc with take := none } ∧ ImagesCopied m.slot s t) := by
  have hrun : exec .takeoverCopyDone s = _ := congrArg Host.Outcome.next (takeCopied_of_marker hmark hwipe hcauses)
  obtain ⟨hcopied, hframe⟩ := imagesCopied_spec m.slot s _ rfl
  generalize copySps m.slot (copyOps m.slot s) = u at *
  have hpw : u.pw = s.pw := by rw [hframe]
  have hconf : u.conf = s.conf := by rw [hframe]
  have hfio : u.fio = s.fio := by rw [hframe]
  have hpending : u.pending = s.pending := by rw [hframe]
  have htb : u.tb = s.tb := by rw [hframe]
  have hlc : u.nv.lc = s.nv.lc := by rw [hframe]
  refine ⟨_, hrun, (resetInForce_resetNow causeSw (takeCleared u)).of_parts hpw hconf hfio hpending htb, ?_, hcopied⟩
  exact congrArg (fun r : LcRecord => { r with take := none }) hlc

end Sys2Proof.Machine
end

section
/-!
PROOF. Giving an adopted ID up and releasing the Fenced state (18 R564, R570), and with them the network's duties, take-overs and closures.
-/

namespace Sys2Proof.Machine

open Sys2Proof

/-! ### An adopted ID given up -/

theorem smGet_breakSeal_ne {off j : Nat} (s : State) (h : j < off ∨ off + 16 ≤ j) :
    smGet 0 (breakSeal off s).nv.mram j = smGet 0 s.nv.mram j := smGet_mramPut_ne s (by simpa using h)

theorem spsBankOf_breakSeal_other {off : Nat} {b : Bool} (h : off + 16 ≤ spsBase b ∨ spsBase b + spsBankSize ≤ off) (s : State) :
    spsBankOf (breakSeal off s) b = spsBankOf s b := spsBankOf_congr fun _ hlo hhi => smGet_breakSeal_ne s (by omega)

theorem opsBankOf_breakSeal_other {off : Nat} {b : Bool} (h : off + 16 ≤ opsBase b ∨ opsBase b + opsBankSize ≤ off) (s : State) :
    opsBankOf (breakSeal off s) b = opsBankOf s b := opsBankOf_congr fun _ hlo hhi => smGet_breakSeal_ne s (by omega)

/-- Every bank's seal broken. -/
def sealsBroken (s : State) : State :=
  breakSeal (opsBase true) (breakSeal (opsBase false) (breakSeal (spsBase true) (breakSeal (spsBase false) s)))

theorem spsBankOf_sealsBroken (s : State) (b : Bool) : spsBankOf (sealsBroken s) b = none := by
  rw [sealsBroken]
  cases b
  · rw [spsBankOf_breakSeal_other (.inr (by decide)), spsBankOf_breakSeal_other (.inr (by decide)), spsBankOf_breakSeal_other (.inr (by decide)),
      spsBankOf_breakSeal]
  · rw [spsBankOf_breakSeal_other (.inr (by decide)), spsBankOf_breakSeal_other (.inr (by decide)), spsBankOf_breakSeal]

theorem opsBankOf_sealsBroken (s : State) (b : Bool) : opsBankOf (sealsBroken s) b = none := by
  rw [sealsBroken]
  cases b
  · rw [opsBankOf_breakSeal_other (.inr (by decide)), opsBankOf_breakSeal]
  · rw [opsBankOf_breakSeal]

theorem smGet_sealsBroken_below {j : Nat} (h : j < 0x10000) (s : State) : smGet 0 (sealsBroken s).nv.mram j = smGet 0 s.nv.mram j := by
  have hbelow : ∀ b, j < spsBase b ∧ j < opsBase b := fun b => by
    have hsps := (spsBase_bounds b).1
    have hops := (opsBase_bounds b).1
    omega
  rw [sealsBroken, smGet_breakSeal_ne _ (.inl (hbelow true).2), smGet_breakSeal_ne _ (.inl (hbelow false).2),
    smGet_breakSeal_ne _ (.inl (hbelow true).1), smGet_breakSeal_ne _ (.inl (hbelow false).1)]

/-- Both selectors erased. -/
def selectorsErased (s : State) : State := mramPut opsSelector (leBytes 4 0) (mramPut spsSelector (leBytes 4 0) s)

theorem selectors_selectorsErased (s : State) : leAt (selectorsErased s).nv.mram 0x2000 8 = 0 := by
  have hsps : MramHolds (selectorsErased s) spsSelector (leBytes 4 0) :=
    (mramHolds_mramPut spsSelector (leBytes 4 0) s).mramPut (.inl (by decide))
  have hops : MramHolds (selectorsErased s) opsSelector (leBytes 4 0) := mramHolds_mramPut opsSelector (leBytes 4 0) _
  exact leAt_of_holds (mramHolds_append.mpr ⟨hsps, hops⟩) (by decide)

/-- Nothing but the MRAM changed. -/
def MramOnly (s t : State) : Prop := t = { s with nv := { s.nv with mram := t.nv.mram } }

theorem MramOnly.trans {s t u : State} (hst : MramOnly s t) (htu : MramOnly t u) : MramOnly s u := by
  rw [MramOnly] at hst htu ⊢
  rw [htu, hst]

theorem mramOnly_mramPut (off : Nat) (bs : List Byte) (s : State) : MramOnly s (mramPut off bs s) := rfl

theorem mramOnly_breakSeal (off : Nat) (s : State) : MramOnly s (breakSeal off s) := mramOnly_mramPut off _ s

theorem mramOnly_sealsBroken (s : State) : MramOnly s (sealsBroken s) :=
  (((mramOnly_breakSeal _ s).trans (mramOnly_breakSeal _ _)).trans (mramOnly_breakSeal _ _)).trans (mramOnly_breakSeal _ _)

theorem mramOnly_selectorsErased (s : State) : MramOnly s (selectorsErased s) :=
  (mramOnly_mramPut _ _ s).trans (mramOnly_mramPut _ _ _)

theorem dropSets_eq (s : State) : dropSets s = sealsBroken (selectorsErased s) := rfl

/-- What dropping the sets leaves of the MRAM. -/
theorem dropSets_spec (s : State) : (∀ b, spsBankOf (dropSets s) b = none ∧ opsBankOf (dropSets s) b = none) ∧
    leAt (dropSets s).nv.mram 0x2000 8 = 0 ∧ MramOnly s (dropSets s) := by
  refine ⟨fun b => ?_, ?_, ?_⟩
  · rw [dropSets_eq]
    exact ⟨spsBankOf_sealsBroken _ b, opsBankOf_sealsBroken _ b⟩
  · rw [dropSets_eq, leAt_congr fun j _ hj => smGet_sealsBroken_below (by omega) _]
    exact selectors_selectorsErased s
  · rw [dropSets_eq]
    exact (mramOnly_selectorsErased s).trans (mramOnly_sealsBroken _)

/-- The state with the fabric ID the acting one again. -/
def idGivenUp (v : Word) (s : State) : State :=
  { keepVal Reg.FAB_STBY_CMD v s with
    nv := { s.nv with lc := { s.nv.lc with chgOut := none, actId := s.nv.lc.fabricId, take := none } } }

theorem idGivenUp_spec (v : Word) (s : State) :
    (idGivenUp v (dropGuard 9 s)).nv.lc = { s.nv.lc with chgOut := none, actId := s.nv.lc.fabricId, take := none } ∧
      (idGivenUp v (dropGuard 9 s)).pw = s.pw ∧ (idGivenUp v (dropGuard 9 s)).conf = s.conf ∧ (idGivenUp v (dropGuard 9 s)).fio = s.fio ∧
      (idGivenUp v (dropGuard 9 s)).pending = s.pending ∧ (idGivenUp v (dropGuard 9 s)).tb = s.tb := ⟨rfl, rfl, rfl, rfl, rfl, rfl⟩

theorem exec_standbyGiveUpId {s : State} {core : Sender} {v : Word} (h : Guarded s core Reg.FAB_STBY_CMD v) :
    exec (.standbyGiveUpId core (~~~ v)) s = .next (stbyCmdOp core v (dropGuard 9 s)) :=
  congrArg Host.Outcome.next (cplWrite_of_armed (stbyCmdOp core) h.1 (by decide) h.2)

theorem stbyCmdOp_of_studio {s : State} {core : Sender} {v : Word} (hcore : core.val = 4) (hkey : keyOn s = true)
    (hmode : s.mode = .watch ∨ s.mode = .lockout) (hacting : s.nv.lc.actId ≠ s.nv.lc.fabricId) (hop : getF F.FAB_STBY_CMD.OP.bits v = 1) :
    stbyCmdOp core v s = resetNow causeSw (dropSets (idGivenUp v s)) := by
  rw [stbyCmdOp]
  refine (if_neg (not_not_intro hcore)).trans ((if_neg fun hno => ?_).trans ((if_neg (not_not_intro hmode)).trans ((if_neg hacting).trans
    (if_neg (not_not_intro hop)))))
  exact Bool.false_ne_true (hno.symm.trans hkey)

theorem stbyCmdOp_of_core {s : State} {core : Sender} (v : Word) (hcore : core.val ≠ 4) :
    stbyCmdOp core v s = netOutcome 2 1 (keepVal Reg.FAB_STBY_CMD v s) := by
  rw [stbyCmdOp]
  exact if_pos hcore

theorem giveUp_clauses {s : State} {core : Sender} {v : Word} (hguard : Guarded s core Reg.FAB_STBY_CMD v) :
    (core.val = 4 → keyOn s = true → (s.mode = .watch ∨ s.mode = .lockout) → s.nv.lc.actId ≠ s.nv.lc.fabricId →
      getF F.FAB_STBY_CMD.OP.bits v = 1 → Completes (.standbyGiveUpId core (~~~ v)) s (fun t => ResetInForce 8 s t ∧
        t.nv.lc = { s.nv.lc with chgOut := none, actId := s.nv.lc.fabricId, take := none } ∧
        (∀ b, spsBankOf t b = none ∧ opsBankOf t b = none) ∧ leAt t.nv.mram 0x2000 8 = 0)) ∧
    (core.val ≠ 4 → Completes (.standbyGiveUpId core (~~~ v)) s (fun t => t.get F.FAB_NET_CMD_STAT.CODE = 1 ∧
      t.get F.FAB_NET_CMD_STAT.CMD = 2 ∧ t.flag F.FAB_NET_EVENT.CMD_REJ = true ∧
      OnlyRegs [Reg.FAB_STBY_CMD, Reg.FAB_NET_CMD_STAT, Reg.FAB_NET_EVENT] s t)) := by
  refine ⟨fun hcore hkey hmode hacting hop => ?_, fun hcore => ?_⟩
  · have hrun := (exec_standbyGiveUpId hguard).trans
      (congrArg Host.Outcome.next (stbyCmdOp_of_studio (s := dropGuard 9 s) hcore hkey hmode hacting hop))
    obtain ⟨hlc, hpw, hconf, hfio, hpending, htb⟩ := idGivenUp_spec v s
    generalize idGivenUp v (dropGuard 9 s) = u at *
    obtain ⟨hbanks, hsel, hframe⟩ := dropSets_spec u
    rw [MramOnly] at hframe
    generalize dropSets u = w at *
    have hwpw : w.pw = u.pw := by rw [hframe]
    have hwconf : w.conf = u.conf := by rw [hframe]
    have hwfio : w.fio = u.fio := by rw [hframe]
    have hwpending : w.pending = u.pending := by rw [hframe]
    have hwtb : w.tb = u.tb := by rw [hframe]
    have hwlc : w.nv.lc = u.nv.lc := by rw [hframe]
    exact ⟨_, hrun, (resetInForce_resetNow causeSw w).of_parts (hwpw.trans hpw) (hwconf.trans hconf) (hwfio.trans hfio)
      (hwpending.trans hpending) (hwtb.trans htb), hwlc.trans hlc, hbanks, hsel⟩
  · obtain ⟨⟨hcmd, hcode⟩, hrej, honly⟩ := netRefused_netOutcome (cmd := 2) (code := 1) (by decide) (by decide) (by decide) Reg.FAB_STBY_CMD 9 v s
    exact ⟨_, (exec_standbyGiveUpId hguard).trans (congrArg Host.Outcome.next (stbyCmdOp_of_core v hcore)), hcode, hcmd, hrej, honly⟩

/-! ### The Fenced state released -/

theorem exec_fenceRelease {s : State} {core : Sender} {v : Word} (h : Guarded s core Reg.FAB_FENCE_CMD v) :
    exec (.fenceRelease core (~~~ v)) s = .next (fenceCmdOp core v (dropGuard 9 s)) :=
  congrArg Host.Outcome.next (cplWrite_of_armed (fenceCmdOp core) h.1 (by decide) h.2)

/-- The state with the Fenced state left under a newer epoch. -/
def fenceLeft (v : Word) (s : State) : State :=
  { keepVal Reg.FAB_FENCE_CMD v s with
    nv := { s.nv with lc := { s.nv.lc with
      epoch := (newestOwn s + 1) % 2 ^ 16, actId := s.nv.lc.fabricId, fenced := false } } }

theorem fenceCmdOp_of_studio {s : State} {core : Sender} {v : Word} (hcore : core.val = 4) (hkey : keyOn s = true)
    (hfenced : s.nv.lc.fenced = true) : (ownHeardLately s = true → fenceCmdOp core v s = netOutcome 3 5 (keepVal Reg.FAB_FENCE_CMD v s)) ∧
    (ownHeardLately s = false → getF F.FAB_FENCE_CMD.OP.bits v = 1 → fenceCmdOp core v s = netOutcome 3 0 (announceAll (fenceLeft v s))) := by
  have hkeyed : ¬ keyOn s = false := fun hno => Bool.false_ne_true (hno.symm.trans hkey)
  have hin : ¬ s.nv.lc.fenced = false := fun hno => Bool.false_ne_true (hno.symm.trans hfenced)
  rw [fenceCmdOp]
  refine ⟨fun hheard => ?_, fun hquiet hop => ?_⟩
  · exact (if_neg (not_not_intro hcore)).trans ((if_neg hkeyed).trans ((if_neg hin).trans (if_pos hheard)))
  · exact (if_neg (not_not_intro hcore)).trans ((if_neg hkeyed).trans ((if_neg hin).trans
      ((if_neg fun hyes => Bool.false_ne_true (hquiet.symm.trans hyes)).trans (if_neg (not_not_intro hop)))))

theorem nv_netOutcome_announced (s : State) : (netOutcome 3 0 (announceAll s)).nv = s.nv := by
  obtain ⟨-, -, hframe⟩ := changesOnly_netOutcome_ok 3 (announceAll s)
  have hsent := (sendOnly_announceAll s).frame
  have hnv : (announceAll s).nv = s.nv := by rw [hsent]
  rw [hframe]
  exact hnv

theorem fence_clauses {s : State} {core : Sender} {v : Word} (hguard : Guarded s core Reg.FAB_FENCE_CMD v) (hcore : core.val = 4)
    (hkey : keyOn s = true) (hfenced : s.nv.lc.fenced = true) :
    (ownHeardLately s = true → Completes (.fenceRelease core (~~~ v)) s (fun t => t.get F.FAB_NET_CMD_STAT.CODE = 5 ∧
      t.flag F.FAB_NET_EVENT.CMD_REJ = true ∧ t.nv = s.nv)) ∧
    (ownHeardLately s = false → getF F.FAB_FENCE_CMD.OP.bits v = 1 → Completes (.fenceRelease core (~~~ v)) s (fun t =>
      t.nv.lc = { s.nv.lc with fenced := false, actId := s.nv.lc.fabricId, epoch := (newestOwn s + 1) % 2 ^ 16 } ∧
      t.get F.FAB_NET_CMD_STAT.CODE = 0)) := by
  obtain ⟨hheard, hquiet⟩ := fenceCmdOp_of_studio (s := dropGuard 9 s) (v := v) hcore hkey hfenced
  refine ⟨fun h => ?_, fun h hop => ?_⟩
  · obtain ⟨⟨-, hcode⟩, hrej, honly⟩ := netRefused_netOutcome (cmd := 3) (code := 5) (by decide) (by decide) (by decide) Reg.FAB_FENCE_CMD 9 v s
    exact ⟨_, (exec_fenceRelease hguard).trans (congrArg Host.Outcome.next (hheard h)), hcode, hrej, honly.nv_eq⟩
  · obtain ⟨-, hcode⟩ := netReported_netOutcome (cmd := 3) (code := 0) (by decide) (by decide) (announceAll (fenceLeft v (dropGuard 9 s)))
    exact ⟨_, (exec_fenceRelease hguard).trans (congrArg Host.Outcome.next (hquiet h hop)),
      congrArg NonVol.lc (nv_netOutcome_announced (fenceLeft v (dropGuard 9 s))), hcode⟩

/-- Settles O54: frames go out on the ports that are up, a closure survives what its stops and refusals send, and a take-over's copies are
read from shadows that lie past every bank. -/
theorem networkDutiesAndTakeOvers : Obligations.NetworkDutiesAndTakeOvers :=
  ⟨fun _ hawake hfree hplain => ⟨ptpSecond_clause hawake hfree hplain, heartbeat_clause hawake hfree hplain⟩,
    fun _ _ hsettle hdue => settlingEnd_clause hsettle hdue,
    fun _ _ _ _ hmode hawake hsect hcomm hfree hnone hen hid hdue he => takeStart_clause hid ⟨hmode, hawake, hsect, hcomm, hfree, hnone, hen, hdue⟩ he,
    fun _ _ hmark hwipe hcauses => takeCopied_clause hmark hwipe hcauses,
    fun _ _ _ hawake hst hid hdue hnone hopen => takeMax_clause hawake hst hid hdue hnone hopen,
    fun _ _ _ hguard => secCmd_clauses hguard,
    fun _ _ _ hguard => giveUp_clauses hguard,
    fun _ _ _ hguard hcore hkey hfenced => fence_clauses hguard hcore hkey hfenced⟩

end Sys2Proof.Machine
end
